-- ==== Sys2Proof/Word.lean ====
section
/-! DEFINITION. The word types of the register space and of the CXL.mem lines. -/

namespace Sys2Proof

/-- A byte. -/
abbrev Byte := BitVec 8
/-- A register: every register is 32 bits wide (R13). -/
abbrev Word := BitVec 32
/-- A 64-bit quantity in two consecutive registers (R13). -/
abbrev DWord := BitVec 64
/-- A 64-byte CXL.mem line, byte 0 in the least significant bits (R10, R19). -/
abbrev Line := BitVec 512

end Sys2Proof
end

