-- ==== Sys2Proof/Syntax.lean ====
section
/-! DEFINITION. The commands: one constructor of Instr for each row of the table of operations and
events. The table gives no operands; each command carries what its rule says comes from outside the
chipset: addresses and data of the host, readings of the analog front ends, and what a NAND, DDR5
or store device answered (log entry 1). -/

namespace Sys2Proof

/-- The masters of the register space (R501, R503). -/
inductive Master where
  | host | smbus | steward
  deriving DecidableEq, Repr

/-- What the ECC of a DDR5 read found (R99, R100). -/
inductive Ecc where
  | ok | corrected | uncorrectable
  deriving DecidableEq, Repr

/-- What a read of a 64-byte burst from DDR5 meets (R99): no error, an error confined to one 4-bit half of a device, to one
device, or to two devices, or a wider one. `found` is what the decoder makes of an error that R99 neither says it corrects
nor says it detects: one of two x8 devices, and a wider one. -/
inductive Burst where
  | good
  | half
  | device
  | twoDevices (found : Ecc)
  | wider (found : Ecc)
  deriving DecidableEq, Repr

/-- What the map unit met when it read a map block: a good block, a map-cache parity error (R98), an
entry whose STATE code is invalid (R96), or a corrected or an uncorrectable DDR5 error in the dirty map or the location
map (R99, R103). -/
inductive MapAcc where
  | good | parity | badCode | dirtyCe | locationCe | dirtyUe | locationUe
  deriving DecidableEq, Repr

/-- What a read of one flash copy answered: it decoded as it was programmed, it was uncorrectable after every retry (R194), its
channel or target did not respond (R259), or it decoded and was decrypted to the 4,096 bytes given, which DATA_CRC judges
(R196). -/
inductive CopyRead where
  | decodes | uncorrectable | noResponse
  | payload (bytes : List Byte)
  deriving DecidableEq, Repr

/-- A page that does not read as it was programmed: the first 246 bytes as read, header and check bytes (R192, R197), and what its
slots answer, by their number. -/
structure PageRead where
  page : Nat
  header : List Byte
  slots : List (Nat × CopyRead)
  deriving DecidableEq, Repr

/-- What the DDR5 reads of the copies that a command schedules meet (R99, R100, R103): the lines, by their engine-internal
address / 64, whose burst has an error, those of the map region that a checkpoint reads among them, and what the knotted copies answer where a CLEAN granule is repaired from them (R565). -/
structure CopyReads where
  bursts : List (Nat × Burst)
  a : CopyRead
  b : CopyRead
  deriving DecidableEq, Repr

/-- The units of R420. -/
inductive UnitId where
  | cxlPort | admission | mapUnit | ddr (c : Nat) | vaultSequencer | shuttle (n : Nat)
  | path (n : Nat) | railGovernor | domains | charger | gauge
  deriving DecidableEq, Repr

/-- The handshake channels with a stall watchdog (R275). -/
inductive StallChannel where
  | cxl | adm | map | ddr (c : Nat) | vseq | path (n : Nat)
  | shuttle (n : Nat) (target : Option Nat) (busy : Bool)
  deriving DecidableEq, Repr

/-- How a rail-link frame arrives: its bits, whether one is (1,1), and the longest spacer between them in ns (R279). -/
structure RailShape where
  bits : Nat
  both : Bool
  spacerNs : Nat
  deriving DecidableEq, Repr

/-- The control pairs between the packages (R63). -/
inductive PairId where
  | pf | vreq | belayp | belaye | hold | hbp | hbe
  deriving DecidableEq, Repr

/-- The two packages: the two ends of the heddle link. -/
inductive End where
  | engine | pctrl
  deriving DecidableEq, Repr

/-- A frame's header as the receiver sees it (R533): its SEQ, the ACK it carries, whether it
acknowledges negatively, and whether header pair and CRC were valid. -/
structure FrameHdr where
  seq : Nat
  ack : Nat
  nak : Bool
  valid : Bool
  deriving DecidableEq, Repr

/-- A program or erase result of a NAND target. -/
inductive NandResult where
  | pass | fail
  deriving DecidableEq, Repr

/-- Who asks for a chipset warm reset: the codes of log entry 0x0008 (R437). -/
inductive Requester where
  | pin | steward | watchdog | vinGood | belayRecovery | thermalExit
  deriving DecidableEq, Repr

/-- One reading of a cell channel in units of 100 uV, or an out-of-range reading (R362). -/
inductive CellRead where
  | volts (v : Nat) | outOfRange
  deriving DecidableEq, Repr

/-- The steps of the hourly check and test of the hold-up switch (R331): the charger is stopped for 10 ms with the switch OPEN;
at the end of the 10 ms the steward sees whether the store and VBUS differ by 1 V or more and the store current in mA, and sets
FORCED; at the end of the 50 us it sees the store current reached in mA and whether both gate drives lie in range. -/
inductive HuStep where
  | stop
  | check (differ : Bool) (ma : Nat)
  | force (ma : Nat) (gatesOk : Bool)
  deriving DecidableEq, Repr

/-- A resistance step's two means: change of the stack voltage in mV and of the store current in mA
(R373), and whether both windows lie in one interval with no other step. -/
structure StepSample where
  dMilliVolt : Int
  dMilliAmp : Int
  clean : Bool
  deriving DecidableEq, Repr

/-- A sensor's sample: a reading in 1/16 degree C, the resistance of an external input's thermistor in ohms, which the draft's table
turns into one, or none (R391, R399). -/
inductive SensorRead where
  | temp (t : Int) | ohms (r : Nat) | missing
  deriving DecidableEq, Repr

/-- The states of an end of the HDM decoder registers written by the host (R296). -/
structure HdmReq where
  base : Nat
  size : Nat
  ways : Nat
  granularity : Nat
  position : Nat
  skip : Nat
  lock : Bool
  deriving DecidableEq, Repr

/-- What NAND discovery met on one target (R188, R189): whether it answered, took its interface and was trained (steps 1, 4
and 5), its identification, whether a copy of its parameter page has a valid CRC and what that says of its pSLC pages and its
structure, the factory's bad blocks, the blocks whose root record does not read, and the blocks whose page 0 is neither valid nor
erased, since an erase was cut short (R223). -/
structure Discovered where
  target : Nat
  trained : Bool
  mfr : Nat
  device : Nat
  paramCrc : Bool
  dataBytes : Nat
  spareBytes : Nat
  luns : Nat
  planes : Nat
  blocks : Nat
  pages : Nat
  factoryBad : List Nat
  rootBad : List Nat
  cut : List Nat
  /-- Codewords of root records that were found uncorrectable (R194). -/
  rootUe : Nat := 0
  deriving DecidableEq, Repr

/-- A tunnelled register request with its TAG (R505, R534). -/
structure RegReq where
  tag : Nat
  write : Bool
  wide : Bool
  master : Master
  addr : Nat
  data : Nat
  deriving DecidableEq, Repr

/-- What a Log frame carries (R165, R534): an entry of the engine in the layout of R436, the engine's request for
the snapshot, or entries of the ring for it. -/
inductive LogBody where
  | entry (ts code source flags data0 data1 state : Nat)
  | request
  | snapshot
  deriving DecidableEq, Repr

/-- The thermal zones' samples that an Energy frame, Monitor frame or the like may carry are Nats in the
unit of the measurand (R518). -/
structure MonSample where
  code : Nat
  index : Nat
  value : Nat
  deriving DecidableEq, Repr

/-- The commands. -/
inductive Instr where
  -- CXL.mem traffic and Global Persistent Flush
  /-- R19: a write line; `tag` names the request, `burst` what the read of the line that a partial write is merged into
  meets (R99, R100), `map` what the map read met, `occ` the admission queue's occupancy in per cent (R305). -/
  | cxlMemWrite (tag hpa : Nat) (data : Line) (be : BitVec 64) (poison : Bool) (burst : Burst) (map : MapAcc) (occ : Nat)
  /-- R135. -/
  | heldWriteRelease
  /-- R89. -/
  | capQueueRelease (bolt : Nat)
  /-- R302: a read line; `burst` is the DDR5 read, `a` and `b` the flash copies a repair reads (R565). -/
  | cxlMemRead (tag hpa : Nat) (burst : Burst) (a b : CopyRead) (map : MapAcc) (occ : Nat)
  /-- R255. -/
  | demandFetchComplete (granule : Nat) (a b : CopyRead)
  /-- R306. -/
  | gpfPhase1Request
  /-- R307. -/
  | gpfPhase2Request
  /-- R307. -/
  | gpfPhase2Response
  /-- R23. -/
  | windowExpiry
  -- CXL link and host resets
  /-- R291: negotiated lanes, SPEED code, 256-byte flit mode. -/
  | cxlLinkTrained (width speed : Nat) (flit256 : Bool)
  /-- R297. -/
  | hdmDecoderCommit (decoder : Nat) (req : HdmReq)
  /-- R321: PERST_N asserted. -/
  | perstN
  /-- R321. -/
  | hotReset
  /-- R321. -/
  | linkDown
  /-- R321. -/
  | cxlReset
  /-- R321. -/
  | functionLevelReset
  /-- R524. -/
  | msixUnmask (vector : Nat)
  -- mailbox
  /-- R311. -/
  | identify
  /-- R311. -/
  | backgroundOperationStatus
  /-- R314: `log` is 0 Informational, 1 Warning, 2 Failure, 3 Fatal. -/
  | getEventRecords (log : Nat)
  /-- R314: `handles` are the records to clear; all when `all`. -/
  | clearEventRecords (log : Nat) (all : Bool) (handles : List Nat)
  /-- R311. -/
  | getEventInterruptPolicy
  /-- R311: one setting per log; none keeps, true raises on the log's MSI-X vector. -/
  | setEventInterruptPolicy (info warn failure fatal : Option Bool)
  /-- R311. -/
  | getFwInfo
  /-- R311. -/
  | getTimestamp
  /-- R517. -/
  | setTimestamp (value : DWord)
  /-- R311. -/
  | getSupportedLogs
  /-- R311: `cel` tells whether the log named is the Command Effects Log. -/
  | getLog (cel : Bool) (offset length : Nat)
  /-- R311. -/
  | identifyMemoryDevice
  /-- R311. -/
  | getPartitionInfo
  /-- R313. -/
  | getLsa (offset length : Nat)
  /-- R313. -/
  | setLsa (offset : Nat) (data : List Byte)
  /-- R312. -/
  | getHealthInfo
  /-- R311. -/
  | getAlertConfiguration
  /-- R311: thresholds; none keeps the present one. -/
  | setAlertConfiguration (lifeUsed temperature correctedErrors : Option Nat)
  /-- R313. -/
  | getShutdownState
  /-- R313. -/
  | setShutdownState (value : Nat)
  /-- R304: first DPA and length in lines. -/
  | getPoisonList (dpa lines : Nat)
  /-- R318. -/
  | sanitize
  /-- R318: `noise` tells whether the noise source passed its health tests (R496). -/
  | secureErase (noise : Bool)
  /-- R311: any other opcode. -/
  | unsupportedCommand (opcode : Nat)
  /-- R315. -/
  | getVaultStatus (input : List Byte)
  /-- R316. -/
  | requestVault (input : List Byte)
  /-- R317. -/
  | sealImage (input : List Byte)
  /-- R317. -/
  | sealResidualZero
  /-- R317. -/
  | sealTimeout
  /-- R318. -/
  | dropImage (input : List Byte)
  /-- R315. -/
  | getLossReport (input : List Byte)
  /-- R315. -/
  | setBoltCap (input : List Byte)
  /-- R315. -/
  | vendorGetLog (input : List Byte)
  /-- R310. -/
  | backgroundCommandDone
  -- budget, reefing, governor
  /-- R32. -/
  | budgetEvalTick
  /-- R34: the held write `tag` has waited reef_hold_max. -/
  | reefHoldMaxExpiry (tag : Nat)
  /-- R35. -/
  | budgetRecoverExpiry
  /-- R124. -/
  | epbRecomputeTick
  /-- R136. -/
  | govTokenTick
  /-- R123. -/
  | energyFrame (hdr : FrameHdr) (eGuar soc drawn : Nat)
  /-- R123. -/
  | energyStaleExpiry
  -- staging, epochs, knots, NAND
  /-- R112: what the DDR5 reads of the copies meet (R100). -/
  | stagingSelect (reads : CopyReads)
  /-- R115. -/
  | epochAgeExpiry
  /-- R121: the page at `ptr`, with the block of copy B and its result when the page is one of a duplex pair; `voided` names the
  voided epoch that the page belongs to where its program had begun before the void (R145, R151). -/
  | pageProgramDone (ptr blockB : Nat) (result resultB : NandResult) (voided : Option Nat)
  /-- R117, R204: programmed at the page pointers `ptr` (copy A) and `ptrB`, with the results. -/
  | knotRecordProgram (ptr ptrB : Nat) (result resultB : NandResult)
  /-- R118: read-back of both copies of the epoch's knot record or void knot. -/
  | knotReadback (epoch : Nat) (a b : CopyRead)
  /-- R119. -/
  | knotTimeout (epoch : Nat)
  /-- R225: `block` names the closed block of the target that the engine takes, R227's erase check included. -/
  | gcStart (target block : Nat)
  /-- R226: the copy at `slot` of the block under collection; `bursts` is what the DDR5 reads of a granule taken from DDR5
  meet, by line (R99, R100). -/
  | garbageCollectionRead (slot : Nat) (a b : CopyRead) (bursts : List (Nat × Burst))
  /-- R221. -/
  | blockEraseDone (target block : Nat) (result : NandResult)
  /-- R104: the line at the scrub position is read; `a`, `b` are the copies a repair reads. -/
  | patrolScrub (burst : Burst) (a b : CopyRead)
  /-- R229. -/
  | spareCapacityCheck
  /-- R189. -/
  | nandDiscoveryDone (channel : Nat) (found : List Discovered)
  -- vault on power loss
  /-- R143, R324: the sampler's last readings in units of 25 mV, 1 us apart, oldest first; whether the pfail comparator reads
  below, and whether the warn comparator has read below for 2 us. -/
  | earlyWarning (samples : List Nat) (below level : Bool)
  /-- R143, R324: the readings and the pfail comparator as at EARLY_WARNING. -/
  | specAbandonExpiry (samples : List Nat) (below : Bool)
  /-- R144. -/
  | warningFrame (hdr : FrameHdr)
  /-- R145. -/
  | abandonFrame (hdr : FrameHdr)
  /-- R146. -/
  | specMaxExpiry
  /-- R325: which of the two paths saw VIN below vin_pfail, and the mean. -/
  | pfFilterExpiry (vin : Nat) (comparator sampler : Bool)
  /-- R326: VIN above the overvoltage threshold (`above`), or below it again. -/
  | inputOvervoltage (above : Bool)
  /-- R148. -/
  | pfActive
  /-- R147. -/
  | vreqActive
  /-- R147. -/
  | stewardVaultRequest
  /-- R157. -/
  | manifestBuild
  /-- R161: operand as at STAGING_SELECT. -/
  | drainSelect (reads : CopyReads)
  /-- R165. -/
  | logSnapshotDone (ok : Bool)
  /-- R167: operands as at KNOT_RECORD_PROGRAM. -/
  | finalKnotProgram (ptr ptrB : Nat) (result resultB : NandResult)
  /-- R170. -/
  | holdMaxExpiry
  /-- R359. -/
  | storeFloorReached
  /-- R352: the mean of VIN in units of 25 mV. -/
  | vinGood (vin : Nat)
  /-- R275. -/
  | stallWatchdogExpiry (channel : StallChannel)
  /-- R64: the pair HBP (`pctrl` drives it) or HBE (`engine` drives it) alternates. -/
  | heartbeatToggle (from' : End)
  /-- R64: the receiver at `at'` saw no alternation for hb_timeout. -/
  | heartbeatTimeout (at' : End)
  /-- R175. -/
  | holdIslandReady
  /-- R175. -/
  | rebootTimeoutExpiry
  /-- R176. -/
  | vaultResume (reads : List PageRead)
  /-- R180. -/
  | coolWaitExpiry
  -- resets and boot
  /-- R70: WARM_RST_N low for `lowUs` microseconds. -/
  | warmRstN (lowUs unfit : Nat)
  /-- R70. -/
  | stewardWarmReset
  /-- R68. -/
  | stewardWatchdogExpiry
  /-- R332: the SMB_ADDR strap is sampled at cold reset (R508), `unfit` is what the DDR5 devices fitted show, and the packages
  that were replaced while the card had no power (R564); `noise`: the noise source passes its tests (R496). -/
  | keeperStart (smbAddr unfit : Nat) (newPctrl newEngine noise : Bool)
  /-- R332. -/
  | keeperStop
  -- restore
  /-- R239: what the wrapped key unwrapped to is decided by State; `intact` is the integrity check. -/
  | restoreDiscover (intact : Bool)
  /-- R240: the pages that do not read as they were programmed (R194, R196, R197, R210). -/
  | newestKnotFound (reads : List PageRead)
  /-- R246: the pages that do not read as they were programmed (R194, R196, R197, R245). -/
  | mapLoadDone (reads : List PageRead)
  /-- R251. -/
  | restoreReady
  /-- R254. -/
  | backgroundLoad
  /-- R253. -/
  | granuleLoadDone (granule : Nat) (a b : CopyRead)
  -- rail link
  /-- R269: starves counted, slack in per cent, and the pace measured in 0.01 GB/s. -/
  | loopWindowExpiry (starves slackPct pace : Nat)
  /-- R283: the frame's two halves as received by the power controller, and the output current then, in units of 0.5 A (R281). -/
  | set (word complement : Word) (shape : RailShape) (iout : Nat)
  /-- R283. -/
  | query (word complement : Word) (shape : RailShape) (iout : Nat)
  /-- R273. -/
  | engage (word complement : Word) (shape : RailShape) (iout : Nat)
  /-- R283: the output current in units of 0.5 A. -/
  | slewSettled (iout : Nat)
  /-- R285: the frame's two halves as received by the engine. -/
  | railAck (word complement : Word) (shape : RailShape)
  /-- R285: SEQ of the command whose time ended. -/
  | railAckTimeout (seq : Nat)
  /-- R286. -/
  | railIdleQuery
  /-- R286. -/
  | railFallback
  /-- R272: the activity model's predicted change, in units of 0.25 A. -/
  | engageStep (quarterAmps : Int)
  -- power tree
  /-- R325. -/
  | vinSenseDisagree
  /-- R331. -/
  | holdupTest (step : HuStep)
  /-- R339: phase `p` of IBUS, or of VCORE_E when `vcore`; open or sense fault. -/
  | phaseFault (vcore : Bool) (p : Nat) (sense : Bool)
  /-- R340: total IBUS current in units of 0.1 A. -/
  | ibusOverload (iout : Nat)
  /-- R340. -/
  | ibusOverloadRecheck (iout : Nat)
  /-- R341: IBUS voltage in mV. -/
  | ibusCollapse (mv : Nat)
  /-- R342. -/
  | ibusLost (mv : Nat)
  /-- R348: domain, its output in mV and its current in 0.1 A. -/
  | domainGood (d mv iout : Nat)
  /-- R348. -/
  | groupDelayExpiry
  /-- R349. -/
  | pgTimeout (d : Nat)
  /-- R349. -/
  | domainOutOfWindow (d mv : Nat)
  /-- R350. -/
  | trackingFault (d : Nat)
  /-- R351. -/
  | dischargeDone (d : Nat)
  /-- R155. -/
  | fenceNotice (hdr : FrameHdr)
  /-- R353. -/
  | shedSpacingExpiry
  -- energy store, charger, gauge
  /-- R362: one reading per declared cell channel in order, the stack in mV, and the taps whose
  current test failed. -/
  | cellScan (cells : List CellRead) (stackMv : Nat) (badTaps : List Nat)
  /-- R366. -/
  | chargeTermination
  /-- R365. -/
  | chargeTimeout
  /-- R373. -/
  | chargerStep
  /-- R373: the step's means. -/
  | impedanceStep (sample : StepSample)
  /-- R373. -/
  | impedanceProbe
  /-- R369. -/
  | autoZero
  /-- R375: charge counted since the last update in mC (into the store positive), and the present
  store current in mA. -/
  | gaugeUpdate (deltaMc : Int) (currentMa : Int)
  /-- R368. -/
  | quietEntry
  /-- R377: the greatest change of an in-range cell over the last 10 min, in 0.1 mV. -/
  | restPoint (drift : Nat)
  /-- R379. -/
  | exerciseStart
  /-- R383. -/
  | exerciseGrant (grant : Bool)
  /-- R379. -/
  | exerGrantWaitExpiry
  /-- R381. -/
  | emptyAnchor
  /-- R384. -/
  | fadeDaily
  -- thermal
  /-- R391. -/
  | sensorSample (sensor : Nat) (read : SensorRead)
  /-- R394: zone and threshold, 0 WARN, 1 THROTTLE, 2 VAULT, 3 RATE (R397). -/
  | thmHoldExpiry (zone flag : Nat)
  /-- R397. -/
  | thmRateCheck
  /-- R398. -/
  | storeRateCheck
  /-- R403. -/
  | sensorReturn (sensor : Nat)
  /-- R404. -/
  | compensationTick
  /-- R407: the diode comparator trips, or releases. -/
  | engineAnalogLimit (tripped : Bool)
  /-- R408. -/
  | thermalStageOne
  /-- R408: the comparator trips, or releases. -/
  | thermalStageTwo (tripped : Bool)
  /-- R409. -/
  | thermalShutdownExit
  -- fault collection and belay
  /-- R416: source `n` enters fault; `detail` is its first-error address detail (R424). -/
  | sourceEntersFault (n : Nat) (detail : Nat)
  /-- R411: the two wires of source `n`. -/
  | sourceBroken (n : Nat) (t c : Bool)
  /-- R420. -/
  | unitResetDone (unit : UnitId)
  /-- R412: source number and its two wires. -/
  | faultFrame (hdr : FrameHdr) (entries : List (Nat × Bool × Bool))
  /-- R431. -/
  | belayeActive
  /-- R431. -/
  | belaypActive
  /-- R434: R/B_N of the target, true for ready. -/
  | nandRbNChange (target : Nat) (ready : Bool)
  /-- R431. -/
  | belayWpTimeout
  /-- R422. -/
  | shadowExpiry (source : Nat)
  /-- R426. -/
  | latchedClear (m : Master) (n : Nat)
  /-- R418: a completed complement-paired write of FLT_SRC_CFG[n]: SEV and ALERT. -/
  | severityRaise (m : Master) (n sev : Nat) (alert : Bool)
  /-- R424. -/
  | firstErrorClear (m : Master)
  /-- R429: the numbers of the sources whose pair did not match, with the severity each complement
  half reads when inverted. -/
  | collectorSelfCheck (mismatches : List (Nat × Nat))
  /-- R430: the response came; it passed the blocked output. -/
  | selvedgeCheck (response passed : Bool)
  /-- R430. -/
  | selvedgeCheckTimeout
  /-- R433. -/
  | belaySettleExpiry
  /-- R433. -/
  | recover (m : Master)
  /-- R434: input number of the table. -/
  | inputStuck (input : Nat)
  /-- R434. -/
  | inputChatter (input source : Nat)
  /-- R434. -/
  | inputRelease (input source : Nat)
  /-- R63. -/
  | pairBroken (pair : PairId) (t c : Bool)
  /-- R63. -/
  | pairRelease (pair : PairId) (t c : Bool)
  -- trouble log
  /-- R437. -/
  | logMark (value : Word)
  /-- R438. -/
  | logSecondEnd
  /-- R435. -/
  | logFrame (hdr : FrameHdr) (body : LogBody)
  /-- R66. -/
  | knotPointerFrame (hdr : FrameHdr) (epoch slot epochC slotC : Nat)
  -- draft
  /-- R458. -/
  | submit (m : Master)
  /-- R458. -/
  | eraseCand (m : Master)
  /-- R467. -/
  | withdraw (m : Master)
  /-- R460. -/
  | activate (m : Master)
  /-- R467: a write of the high word of DRF_CAND_DATA: both words. -/
  | drfCandDataWrite (m : Master) (data : DWord)
  /-- R465. -/
  | draftFrame (hdr : FrameHdr) (offset : Nat) (bytes : List Byte)
  /-- R465. -/
  | draftCrcReply (hdr : FrameHdr) (sect : Nat) (crc : Word)
  /-- R465. -/
  | draftStreamRetry
  -- embedded flash and life cycle
  /-- R471. -/
  | eflProgram (m : Master)
  /-- R486. -/
  | eflErase (m : Master)
  /-- R473. -/
  | eflSuspend (m : Master)
  /-- R473. -/
  | eflResume (m : Master)
  /-- R484. -/
  | fwErase (m : Master)
  /-- R484. -/
  | fwSubmit (m : Master)
  /-- R477. -/
  | wpLock (m : Master)
  /-- R474: the running operation ends; for an erase, whether every word of the block reads erased. -/
  | eflOperationDone (clean : Bool)
  /-- R406. -/
  | flashWriteRetry
  /-- R491: TARGET of LCS_CTL; `noise` is the health test of the noise source (R496). -/
  | lifeCycleRequest (m : Master) (target : Nat) (noise : Bool)
  -- SMBus and PMBus
  /-- R509: the four bytes written, none for a block read, and whether the PEC byte was right. -/
  | regAddr (value : Option Word) (pecOk : Bool)
  /-- R509: 4 or 8 bytes, byte 0 first. -/
  | regDataWrite (bytes : List Byte) (pecOk : Bool)
  /-- R509: 4 or 8. -/
  | regDataRead (count : Nat)
  /-- R509. -/
  | regStatus
  /-- R511: none reads the page; `pecOk` as at CLEAR_FAULTS. -/
  | page (value : Option Nat) (pecOk : Bool)
  /-- R511: none reads; a write is refused; `pecOk` as at CLEAR_FAULTS. -/
  | operation (value : Option Nat) (pecOk : Bool)
  /-- R511: with a PEC byte that is right or that the host does not send (R508). -/
  | clearFaults (pecOk : Bool)
  /-- R511. -/
  | capability
  /-- R511. -/
  | voutMode
  /-- R512. -/
  | statusByte
  /-- R512. -/
  | statusWord
  /-- R512. -/
  | statusVout
  /-- R512. -/
  | statusIout
  /-- R512. -/
  | statusInput
  /-- R512. -/
  | statusTemperature
  /-- R512. -/
  | statusCml
  /-- R511. -/
  | readVin
  /-- R511. -/
  | readVout
  /-- R511. -/
  | readIout
  /-- R511. -/
  | readTemperature1
  /-- R511. -/
  | readTemperature2
  /-- R511. -/
  | pmbusRevision
  /-- R511. -/
  | mfrId
  /-- R511. -/
  | mfrModel
  /-- R511. -/
  | mfrRevision
  /-- R511. -/
  | invalidCommand (code : Nat)
  /-- R513. -/
  | alertResponse
  -- register frames, timebase, monitors
  /-- R505: at the far package of `at'`. -/
  | registerFrame (hdr : FrameHdr) (at' : End) (req : RegReq)
  /-- R505. -/
  | registerResponse (hdr : FrameHdr) (req : RegReq) (data : Nat)
  /-- R506. -/
  | unreachableTimeout (req : RegReq)
  /-- R516, R534: from the power controller (the master's timebase) or from the engine (a rate correction in 0.01 ppm). -/
  | timeFrame (hdr : FrameHdr) (from' : End) (correction : Int)
  /-- R515: the clock is lost, or `present` and more than 1,000 ppm off its rate. -/
  | refclkLoss (present : Bool)
  /-- R518. -/
  | monitorFrame (hdr : FrameHdr) (samples : List MonSample)
  /-- R521. -/
  | monCfgWrite (m : Master) (monitor : Nat) (value : Word)
  /-- R521. -/
  | monClearAll (m : Master)
  /-- R522. -/
  | monFreeze (m : Master) (freeze : Bool)
  -- heddle link
  /-- R535: a control frame received at `at'`. -/
  | heddleControlFrame (at' : End) (hdr : FrameHdr)
  /-- R535: the transmitter at `at'`. -/
  | heddleResendExpiry (at' : End)
  /-- R535: the receiver at `at'`. -/
  | heddleAckTick (at' : End)
  /-- R536: the end `at'` declares the link down. -/
  | heddleLinkDown (at' : End)
  /-- R536. -/
  | heddleLinkUp
  -- register space
  /-- R16. -/
  | rwpPairTimeout (m : Master) (addr : Nat)
  /-- R15, R502: 32 bits, or 64 when `wide`; `be` is the byte enables, the low four of them for 32 bits. -/
  | registerWrite (m : Master) (addr : Nat) (wide : Bool) (value : DWord) (be : BitVec 8)
  /-- R13, R502: operands as at REGISTER_WRITE. -/
  | registerRead (m : Master) (addr : Nat) (wide : Bool) (be : BitVec 8)
  /-- R68. -/
  | stewardUnitReset (unit : UnitId)
  /-- R514. It stands last: Lean's runtime has no tag for a 245th constructor with operands. -/
  | refclkReturn
  deriving DecidableEq, Repr

end Sys2Proof
end

