-- ==== Sys2Proof/Decode.lean ====
section
/-! DEFINITION. Commands by a word's bits: the table of operations and events gives no row any bits, so no word
spells a command. -/

namespace Sys2Proof

/-- The command that a word of `nbits` bits spells by the table's bits: none, for the table gives none. -/
def decodeTableWord (_nbits _w : Nat) : Option Instr := none

end Sys2Proof
end

