-- ==== Sys2Proof/Config.lean ====
section
/-! DEFINITION. What the spec leaves open: free values. None has a body, so nothing can be proved of the
value of any of them; each is applied to a plain number, the counter `free` of the state or an operand it
depends on (log entry 2). -/

namespace Sys2Proof

/-- A free 32-bit value, the `n`-th taken. -/
opaque Config.freeWord : Nat → Word
/-- A free 64-bit value, the `n`-th taken. -/
opaque Config.freeDWord : Nat → DWord
/-- A free byte, by the number of the value and the position in it. -/
opaque Config.freeByte : Nat → Nat → Byte
/-- A free line of DDR5, the `n`-th taken. -/
opaque Config.freeLine : Nat → Line
/-- A free truth value, the `n`-th taken. -/
opaque Config.freeBool : Nat → Bool
/-- A free natural number below the bound given. -/
opaque Config.freeNat : Nat → Nat
/-- A byte of the factory image of slot 0 (R6) at an embedded-flash address. -/
opaque Config.factoryByte : Nat → Byte
/-- The neighbours of an on-die sensor in its zone (R399): the spec gives no list. -/
opaque Config.onDieNeighbours : Nat → List Nat

/-- By what the CRC of the calibration row of this package differs from that of its bytes: 0 where it matches (R482). -/
opaque Config.rowError : BitVec 32
/-- Whether a word of the calibration row reads uncorrectable, by the moment and the word (R482). -/
opaque Config.rowWordBad : Nat → Nat → Bool
/-- The version of the factory image of slot 0 (R6, R483). -/
opaque Config.factoryVersion : Word
/-- The version of the image that passes R483's check in a boot slot, if one does, by the words that are not erased, with their places in
the slot: the header's layout and the signing key are not given. -/
opaque Config.imageVersion : List (Nat × Nat) → Option Word

/-- The eight check bits of a data word that is not 0 (R470): the spec names the code and not its matrix. -/
opaque Config.eflCheck : Nat → BitVec 8
/-- Word `i` of the wrapped form of a vault key (R497), by the engine's secret, KEY_SEQ and the key's identity: the values of the secret
and of the power controller's unique ID are not given. -/
opaque Config.wrappedWord : Nat → Nat → Nat → Nat → DWord

/-- Column, bank-group and bank address bits of a subchannel address by device width and density (R83): the spec gives the
order of the fields and not their widths. -/
opaque Config.columnBits : Nat → Nat → Nat
opaque Config.groupBits : Nat → Nat → Nat
opaque Config.bankBits : Nat → Nat → Nat

/-- A byte of a slot of a page that holds no unit, by the page and the byte's place (R192). -/
opaque Config.recordByte : Nat → Nat → Byte
/-- Byte `i` of a record whose fields, formed as bytes, stand at places that the spec does not give (R82, R102, R214, R216), by
its index. -/
opaque Config.placedByte : Nat → List Nat → Nat → Byte
/-- Byte `i` of the first, 0, or second, 1, 256-bit key that a vault key provides, by the key's identity (R195). -/
opaque Config.vaultKeyByte : Nat → Nat → Nat → Byte
/-- Whether a manifest lists a granule whose slot of it cannot be read, by the manifest's epoch (R211, R247): the spec does not
say. -/
opaque Config.unreadListed : Nat → Nat → Bool
/-- Byte `i` of the parity of a stored payload: the code's matrix is a file of the Acilo compiler (R194). -/
opaque Config.ldpcParity : List Nat → Nat → Byte

end Sys2Proof
end

