-- ==== Sys2Proof/Machine/State.lean ====
section
/-! DEFINITION. The state of the chipset as plain data: every register, memory, mode, queue and pin the
spec names, in one structure per unit. -/

namespace Sys2Proof.Machine

/-- A table by natural number in one canonical form: keys strictly rising, the default value left out. -/
abbrev Table (α : Type) := List (Nat × α)

/-! ### Granules, lines and held requests (03, 04) -/

/-- STATE of a dirty-map entry (R90); an invalid code exists only as what a map read meets (R96). -/
inductive GState where
  | zero | clean | dirty | staging | restorePending
  deriving DecidableEq, Repr

/-- A dirty-map entry (R90). -/
structure Entry where
  st : GState := .zero
  pending : Bool := false
  deriving DecidableEq, Repr

/-- A location-map entry with a knotted copy (R217): copy A's slot address and, for a duplex granule,
copy B's channel and block. -/
structure Loc where
  a : Nat
  b : Option (Nat × Nat) := none
  deriving DecidableEq, Repr

/-- A CXL.mem write that is not yet committed: `order` numbers the requests as received. -/
structure HeldWrite where
  tag : Nat
  dpa : Nat
  data : Line
  be : BitVec 64
  poison : Bool
  order : Nat
  /-- What the read of the line that a partial write is merged into meets (R99). -/
  burst : Burst := .good
  /-- What the map read at its service meets (R96, R98, R103). -/
  map : MapAcc := .good
  deriving DecidableEq, Repr

/-- A CXL.mem read that is not yet answered: what its DDR5 read meets, and what the knotted copies answer where a repair
reads them (R99, R302, R565). -/
structure ReadReq where
  tag : Nat
  dpa : Nat
  burst : Burst
  a : CopyRead
  b : CopyRead
  /-- What the map read at its service meets (R96, R98, R103). -/
  map : MapAcc := .good
  deriving DecidableEq, Repr

/-- A CXL.mem request that waits for restore-ready, for a background command or for a unit reset
(R251, R318, R107). -/
inductive HostReq where
  | write (w : HeldWrite)
  | read (r : ReadReq)
  deriving DecidableEq, Repr

/-- What waits for a granule's load: reads, and writes to merge (R255 to R257). -/
structure Fetch where
  granule : Nat
  reads : List ReadReq := []
  writes : List HeldWrite := []
  deriving DecidableEq, Repr

/-- A DDR5 channel (03, registers). -/
structure DdrCh where
  trained : Bool := false
  selfRefresh : Bool := false
  held : Bool := false
  vaultSet : Bool := false
  ce : Nat := 0
  ue : Nat := 0
  deriving DecidableEq, Repr

/-- The listed lines of a granule by the source their entries report (R303, R248). -/
structure PoisonSrc where
  internal : BitVec 64 := 0
  external : BitVec 64 := 0
  unknown : BitVec 64 := 0
  deriving DecidableEq, Repr

/-- A bolt entry (R452). -/
structure BoltRec where
  present : Bool
  priority : Nat
  duplex : Bool
  base : Nat
  size : Nat
  cap : Nat
  /-- NAME: its 16 bytes as a number, the first byte lowest. -/
  name : Nat := 0
  deriving DecidableEq, Repr

/-- The header of the system region (R82): the capacity in GiB, the layout as offsets and sizes from the region's base in
the order of R82's table, and the generation (R465). A header not yet written is all zero. -/
structure RegionHeader where
  cGib : Nat := 0
  layout : List (Nat × Nat) := []
  generation : Nat := 0
  deriving DecidableEq, Repr

/-- The cache: dirty map, location map, poison, caps and the DDR5 channels. -/
structure CacheSt where
  map : Table Entry := []
  loc : Table Loc := []
  /-- Poisoned lines of each granule as a 64-bit mask (R101). -/
  poison : Table (BitVec 64) := []
  /-- Poisoned lines that have an entry of the poison list, by source (R102, R303). -/
  listed : Table PoisonSrc := []
  overflow : Bool := false
  overflowTs : Nat := 0
  caps : Table Nat := []
  capq : Table (List HeldWrite) := []
  lossCut : Table Nat := []
  lossCount : Table Nat := []
  ch : List DdrCh := [{}, {}, {}, {}]
  mismatch : Bool := false
  installed : Nat := 0
  /-- Channels with a declared rank that fails training or is smaller than the draft declares, as a mask: what the devices
  fitted show at this start or reset (R78). -/
  unfit : Nat := 0
  /-- STAMP of the age-table entries (R110); COUNT and ELIGIBLE follow from the dirty map. -/
  stamps : Table Nat := []
  scrubPos : Nat := 0
  scrubbing : Bool := false
  /-- The region header and the bolt table of the system region (R82, R106, R465). -/
  header : RegionHeader := {}
  boltTable : List BoltRec := []
  /-- Requests that wait (R107, R251, R318). -/
  waiting : List HostReq := []
  fetches : List Fetch := []
  /-- Requests received so far: the order in which a GPF flush covers them (R307). -/
  received : Nat := 0
  deriving DecidableEq, Repr

/-! ### The trouble log (13) -/

/-- One entry of the trouble log (R436); CHECK follows from the other bytes. -/
structure LogEntry where
  ts : Nat
  code : Nat
  source : Nat
  flags : Nat
  seq : Nat
  data0 : Nat
  data1 : Nat
  state : Nat
  deriving DecidableEq, Repr

/-- Keeper SRAM: the trouble log, newest entry first (R435), the previous-life log (R439), and the knot pointer's
epoch and slot address (R66). -/
structure LogSt where
  ring : List LogEntry := []
  head : Nat := 0
  lost : Nat := 0
  seq : Nat := 0
  prev : List LogEntry := []
  knotPtr : Option (Nat × Nat) := none
  /-- 0x0001 entries each source wrote in this second, and those suppressed (R438). -/
  written : Table Nat := []
  suppressed : Table Nat := []
  deriving DecidableEq, Repr

/-- A target descriptor (R451); times in its units. -/
structure Desc where
  mfr : Nat
  device : Nat
  luns : Nat
  planes : Nat
  blocks : Nat
  pages : Nat
  spare : Nat
  tProg : Nat
  tR : Nat
  tBers : Nat
  /-- The pSLC entry sequence: the method, its command prefix, or its feature address and parameters (R193). -/
  pslcMethod : Nat := 0
  pslcCmd : Nat := 0
  pslcFa : Nat := 0
  pslcP : Nat := 0
  /-- Output drive strength and on-die termination codes, and the read-retry table: feature address and parameters
  (R187, R194). -/
  drive : Nat := 0
  odt : Nat := 0
  retry : List (Nat × Nat) := []
  deriving DecidableEq, Repr

/-! ### The vault store (06) -/

/-- KIND of a slot descriptor (R199). -/
inductive UnitKind where
  | staging | drain | gc | metadata
  deriving DecidableEq, Repr

/-- An entry of the poison list (R102): its first line by DPA / 64, its length in lines, and its source: 0 Internal, 1
External, 2 Unknown (R303). -/
structure PoisonEntry where
  line : Nat
  lines : Nat
  source : Nat
  deriving DecidableEq, Repr

/-- KIND of a knot record (R206). -/
inductive KnotKind where
  | staging | gc | manifest | drain | system | ckptEnd | final
  deriving DecidableEq, Repr

/-- KIND_DATA of a knot record (R208). -/
inductive KindData where
  | blank
  | manifest (confirmTs fenceTs cause source fenceBy listed cGib : Nat)
  | ckptEnd (base first cGib slots : Nat)
  | final (manifest ckpt header mirror poison flags entries : Nat)
  deriving DecidableEq, Repr

/-- What a knot record says (R206): `pages` are the page pointers that its extents list, in order (R207). -/
structure KnotBody where
  kind : KnotKind
  epoch : Nat
  prev : Option Nat
  ts : Nat
  pages : List Nat
  units : Nat
  vault : Nat
  last : Option (Nat × Nat)
  kindData : KindData
  deriving DecidableEq, Repr

/-- A directory record (R214). -/
structure DirRec where
  seq : Nat
  finalSlot : Option Nat
  finalEpoch : Nat
  ckptSlot : Option Nat
  ckptEpoch : Nat
  highest : Nat
  ts : Nat
  deriving DecidableEq, Repr

/-- A root record (R216): SEQUENCE, the target's descriptor, its bad-block table, and its P/E table: the counter of each
block listed, and that of the others. -/
structure RootRec where
  seq : Nat
  desc : Option Desc
  bbt : List (Nat × Nat)
  pe : Table Nat
  fresh : Nat
  deriving DecidableEq, Repr

/-- What a slot's 4 KiB hold, decrypted: a granule's bytes, or an image record's slice (R200). -/
inductive Payload where
  | granule (bytes : List Host.Cell)
  | manifest (listed : List Nat)
  | checkpoint (entries : Table Loc)
  | header (h : RegionHeader)
  | boltTable (entries : List BoltRec)
  /-- Entries by their slot of the ring; none where the ring has none. -/
  | log (entries : List (Option LogEntry))
  | poisonList (entries : List PoisonEntry)
  /-- A knot record, and a slot of its extent table: first page and count (R206, R207). -/
  | knot (k : KnotBody)
  | extents (l : List (Nat × Nat))
  | void (epoch reason ts : Nat)
  | directory (d : DirRec)
  /-- One slot of a root record: which one. -/
  | root (r : RootRec) (part : Nat)
  deriving DecidableEq, Repr

/-- A unit: one slot of a page, scheduled or programmed (R199). `index` is INDEX[26:0] of R200. -/
structure NandUnit where
  index : Nat
  bolt : Nat
  kind : UnitKind
  dup : Bool
  poison : BitVec 64 := 0
  source : Option Nat := none
  /-- Garbage collection copied it from DDR5 (R226). -/
  fromDdr : Bool := false
  data : Payload
  deriving DecidableEq, Repr

/-- A programmed page (R192, R197): its units by slot, and what its header says. `key` names the vault
key it was encrypted under (R195). -/
structure Page where
  type : Nat
  epoch : Nat
  units : List NandUnit
  dup : Bool
  copyB : Bool
  reprogram : Bool
  partner : Option Nat
  blockSeq : Nat
  pe : Nat
  ts : Nat
  key : Nat
  deriving DecidableEq, Repr

/-- A knot record on NAND (R204, R206): the slot addresses of its two copies, whether each copy was programmed and can be
read, and the vault key it was encrypted under. -/
structure KnotRec extends KnotBody where
  slot : Nat
  slotB : Nat
  key : Nat
  readA : Bool := true
  readB : Bool := true
  deriving DecidableEq, Repr

/-- A void knot on NAND (R204, R209): as a knot record. -/
structure VoidRec where
  epoch : Nat
  reason : Nat
  ts : Nat
  slot : Nat
  slotB : Nat
  key : Nat
  readA : Bool := true
  readB : Bool := true
  deriving DecidableEq, Repr

/-- A block that is not simply good and erased with count 0: `next` is its next free page, `failed` tells
that it takes no more programs (R205). -/
structure Block where
  pe : Nat := 0
  erased : Bool := true
  next : Nat := 0
  seq : Nat := 0
  failed : Bool := false
  worn : Bool := false
  /-- Erased since the store held no image (R215). -/
  owned : Bool := false
  deriving DecidableEq, Repr

/-- A target t (R188 to R190, R221, R222): CAUSE of its retirement and its bad-block table. -/
structure Target where
  ready : Bool := false
  retired : Bool := false
  cause : Nat := 0
  /-- Retired for good (R222). -/
  permanent : Bool := false
  mfr : Nat := 0
  device : Nat := 0
  bbt : List (Nat × Nat) := []
  blockSeq : Nat := 0
  /-- R/B_N shows ready. -/
  idle : Bool := true
  /-- Changes of R/B_N without a command (R434). -/
  changes : Nat := 0
  /-- Erases since the last root record (R216). -/
  erases : Nat := 0
  /-- The counter of its blocks that are not listed (R219). -/
  fresh : Nat := 0
  deriving DecidableEq, Repr

/-- A channel's registers and shuttle (06, 08). -/
structure NandCh where
  trained : Bool := false
  retired : Bool := false
  ue : Nat := 0
  pfails : Nat := 0
  stalls : Nat := 0
  /-- Times of the shuttle's stalls in the last 24 h, with the target (R277). -/
  strikes : List (Nat × Option Nat) := []
  wpAsserted : Bool := true
  deriving DecidableEq, Repr

/-- The vault store. -/
structure NandSt where
  pages : Table Page := []
  blocks : Table Block := []
  targets : Table Target := []
  ch : Table NandCh := []
  knots : List KnotRec := []
  voids : List VoidRec := []
  /-- SEQUENCE of the newest directory record (R214). -/
  dirSeq : Nat := 0
  /-- The write frontiers: the block in use on each plane, by page-pointer bits [39:28], and the block pair in use for the duplex
  copies of a pairing, by the channel of copy A (R201). -/
  front : Table Nat := []
  pairFront : Table (Nat × Nat) := []
  /-- A structural activation is to be judged against R229 once discovery is over (R232). -/
  reassess : Bool := false
  degraded : Bool := false
  /-- The epochs of which a program waits for the drain reserve, with the pages that it asks for (R228). -/
  reserveWait : List (Nat × List Nat) := []
  shed : List Nat := []
  /-- Bolts announced as shed that still hold residual (R230 steps 1 to 3). -/
  shedding : List Nat := []
  discards : Nat := 0
  peTarget : Nat := 0
  peBlock : Nat := 0
  /-- The block under garbage collection (R225). -/
  gcBlock : Option Nat := none
  /-- Whether the store's non-root blocks are to be erased before use (R215). -/
  unowned : Bool := false
  /-- What the reads of the last restore met: the pages whose header is not valid, and the slots whose payload is uncorrectable or
  whose record is not valid (R196, R197, R210). -/
  badHeaders : List Nat := []
  badSlots : List Nat := []
  deriving DecidableEq, Repr

/-! ### Staging (04) -/

/-- Where an epoch stands between its opening and its resolution. -/
inductive EpochPhase where
  | filling
  | knotProgrammed (ptr : Nat)
  deriving DecidableEq, Repr

/-- An open or unresolved epoch (R115 to R121). -/
structure Epoch where
  num : Nat
  kind : KnotKind
  opened : Nat
  closed : Option Nat := none
  /-- Units scheduled and not yet programmed, in order. -/
  todo : List NandUnit := []
  /-- Pages programmed, both copies, in order (R207). -/
  pages : List Nat := []
  /-- Extents that its pages take: runs of consecutive pages of a block (R207). -/
  extents : Nat := 0
  /-- Copies scheduled and programmed, each copy of a duplex unit counted (R115). -/
  copies : Nat := 0
  phase : EpochPhase := .filling
  /-- Position of the last granule in drain order (R162). -/
  last : Option (Nat × Nat) := none
  /-- Whether a page of it is being programmed again, and the channel of the program that failed (R205). -/
  reprogram : Bool := false
  reChannel : Nat := 0
  /-- Left by a seal or a checkpoint that a confirmation or a reset ended: handled as a staging epoch from then on (R151, R319). -/
  stray : Bool := false
  /-- An epoch of a background checkpoint (R212), whose programs spare the drain reserve (R228). -/
  background : Bool := false
  /-- Of a voided epoch: the erased bytes above the drain reserve that its programs in progress may still take (R228). -/
  room : Option Nat := none
  deriving DecidableEq, Repr

/-- A background or vault map checkpoint in progress (R212): BASE, its first epoch, the next ordinal. -/
structure CkptRun where
  base : Nat
  first : Option Nat := none
  next : Nat := 0
  /-- Units knotted since BASE (R212). -/
  since : Nat := 0
  deriving DecidableEq, Repr

/-- A void knot whose read-back is awaited (R120): the attempts made, and the blocks that they took. -/
structure VoidWait where
  epoch : Nat
  reason : Nat
  ts : Nat
  tries : Nat := 1
  blocks : List Nat := []
  deriving DecidableEq, Repr

/-- Staging, budget, reefing, governor. -/
structure StgSt where
  /-- Open and unresolved epochs, ascending. -/
  epochs : List Epoch := []
  nextEpoch : Nat := 1
  lastKnot : Option Nat := none
  lastKnotEpoch : Nat := 0
  safeTs : Nat := 0
  stagedBytes : Nat := 0
  voidCount : Nat := 0
  /-- Void knots whose read-back is awaited (R120). -/
  voidReads : List VoidWait := []
  /-- The voided epochs, oldest first, with the units still to be programmed, of which the pages whose program had begun complete
  (R145, R151); `pages` are the pages programmed since on the targets. -/
  begun : List Epoch := []
  ckpt : Option CkptRun := none
  /-- Units knotted since the BASE of the newest complete checkpoint (R212). -/
  sinceBase : Nat := 0
  exhausted : Bool := false
  epb : Nat := 0xFFFF
  tEval : Int := 0
  /-- T_now of the last computation, and over the computations of this vault their sum and number, 1/16 degree C (R124,
  R125). -/
  tLast : Int := 0
  tSum : Int := 0
  tCount : Nat := 0
  epbScale : Nat := 1024
  eFixed : Nat := 0xFFFFFFFF
  eWindow : Nat := 0xFFFFFFFF
  computed : Bool := false
  fill : Nat := 4095
  eGuar : Nat := 0
  eReceived : Nat := 0
  energySeen : Bool := false
  /-- GAU_SOC and the store energy drawn in mJ as the last Energy frame gave them (R534). -/
  soc : Nat := 0
  drawn : Nat := 0
  boost : Bool := false
  l1 : Bool := false
  l2 : Bool := false
  l3 : Bool := false
  sealBoost : Bool := false
  evtRise : Bool := false
  evtClear : Bool := false
  ieClear : Bool := false
  deficit : Bool := false
  /-- The budget_recover timer runs (R35). -/
  recovering : Bool := false
  heldq : List HeldWrite := []
  govLevel : Int := 0
  govOverdraft : Nat := 0
  govMarks : Nat := 0
  deriving DecidableEq, Repr

/-! ### Vault and restore (05, 07) -/

/-- VLT_STATE.STATE (R141). -/
inductive VState where
  | notArmed | armed | speculative | confirmed | window | fenced | drain | knot | hold | off
  deriving DecidableEq, Repr

/-- Stages of the system bolt in KNOT and before (R165 to R167). -/
inductive SysStage where
  | none | asked | system | checkpoint | final
  deriving DecidableEq, Repr

/-- The vault state machine and its registers (R185). -/
structure VltSt where
  state : VState := .notArmed
  retired : List Nat := []
  throttled : Bool := false
  logStale : Bool := false
  specBlocked : Bool := false
  manifestRebuilt : Bool := false
  fenceBy : Nat := 0
  cause : Nat := 0
  source : Nat := 0
  confirmTs : Nat := 0
  fenceTs : Nat := 0
  endTs : Nat := 0
  specStarts : Nat := 0
  specAbandons : Nat := 0
  count : Nat := 0
  /-- VLT_COUNT as the last confirmation left it, which knot records carry (R206). -/
  number : Nat := 0
  reboots : Nat := 0
  thermalHolds : Nat := 0
  drainVoids : Nat := 0
  progFails : Nat := 0
  drainBytes : Nat := 0
  /-- Of these, the bytes programmed while the store carried the chipset (R125). -/
  storeBytes : Nat := 0
  specBytes : Nat := 0
  /-- Bytes programmed again in this vault (R172). -/
  reprogBytes : Nat := 0
  /-- The confirmation that the power controller has made and PF carries (R148). -/
  confirming : Bool := false
  /-- Confirmed by IBUS_COLLAPSE (R23, R341). -/
  collapse : Bool := false
  /-- The engine wrote VLT_CAUSE itself before the power controller confirms (R413). -/
  engineCause : Bool := false
  deriving DecidableEq, Repr

/-- The drain's working data (R157 to R167). -/
structure DrainSt where
  /-- The fence manifest's bitmap in the vault work area: the granules listed, ascending. -/
  manifest : Option (List Nat) := none
  manifestKnot : Option Nat := none
  /-- Listed granules still to be selected, in drain order. -/
  left : List Nat := []
  /-- Slices of the system bolt still to be selected, in the order of R166. -/
  sysLeft : List NandUnit := []
  stage : SysStage := .none
  snapshotDone : Bool := false
  /-- The trouble-log mirror by slot of the ring (R82, R213). -/
  mirror : List (Option LogEntry) := []
  ckptKnot : Option Nat := none
  headerSlot : Option Nat := none
  mirrorSlot : Option Nat := none
  poisonSlot : Option Nat := none
  finalTries : Nat := 0
  /-- Blocks that the attempts at the final knot took (R167). -/
  finalBlocks : List Nat := []
  /-- What the first attempt at the final knot says; every further one carries the same (R167). -/
  finalBody : Option KnotBody := none
  /-- The manifest is being written again, on the next duplex pair (R568). -/
  rewrite : Bool := false
  exhausted : Bool := false
  deriving DecidableEq, Repr

/-- VLT_RESTORE.RSTATE (R237). -/
inductive RState where
  | idle | discover | verify | mapload | lazy | complete
  deriving DecidableEq, Repr

/-- A granule whose load is in progress: background or demand (R253, R255). -/
structure Load where
  granule : Nat
  demand : Bool
  deriving DecidableEq, Repr

/-- The restore state machine and its registers (R264). -/
structure RstoreSt where
  st : RState := .idle
  held : Bool := false
  /-- A held restore that follows a vault, and whether that vault ended in FINAL_KNOT_FAIL (R235). -/
  afterVault : Bool := false
  finalFail : Bool := false
  hint : Nat := 0
  foreign : Bool := false
  listPartial : Bool := false
  /-- The poison list is being rebuilt from the copies as they are loaded, through a held restore too (R248). -/
  rebuilding : Bool := false
  logOld : Bool := false
  evtReady : Bool := false
  evtComplete : Bool := false
  ieComplete : Bool := false
  epoch : Nat := 0
  pgTs : Nat := 0
  readyTs : Nat := 0
  completeTs : Nat := 0
  bytes : Nat := 0
  covered : Nat := 0
  demandFetches : Nat := 0
  ue : Nat := 0
  /-- Class found at VERIFY (R243), the policy applied, and the newest manifest's list. -/
  cls : Nat := 0
  policy : Nat := 0
  poisonPresent : Bool := false
  firstLost : Nat := 0xFF
  imageState : Nat := 0
  newest : Option Nat := none
  keyOk : Bool := false
  /-- MAPLOAD has completed (R251). -/
  mapDone : Bool := false
  /-- The location map shows which blocks hold live copies (R190, R229). -/
  mapKnown : Bool := false
  /-- Restore-ready has been reached since restore began last (R74, R234, R236). -/
  ready : Bool := false
  /-- The targets that were retired at MAPLOAD already (R254). -/
  goneAtMap : List Nat := []
  loading : List Nat := []
  deriving DecidableEq, Repr

/-! ### Rail governor and VCORE_E controller (08) -/

/-- The engine end of the rail link and the rail governor. -/
structure RailSt where
  linkDown : Bool := false
  fbSeen : Bool := false
  seq : Nat := 0
  iout : Nat := 0
  target : Nat := 0
  vout : Nat := 0
  demand : Nat := 0
  pace : Nat := 0
  cmds : Nat := 0
  superseded : Nat := 0
  errs : Nat := 0
  setpoint : Nat := 0
  /-- Commands sent and not resolved, newest first: the word and how often it was sent (R285). -/
  outstanding : List (Nat × Nat) := []
  first : Bool := true
  loopOn : Bool := false
  /-- Windows with slack of at least slack_down and no starve, up to four (R269). -/
  calm : Nat := 0
  /-- Engage current still to be applied, in 0.25 A (R272). -/
  engaged : Int := 0
  deriving DecidableEq, Repr

/-- The VCORE_E controller's end (R279 to R288). -/
structure VcoreSt where
  on : Bool := false
  target : Nat := 0
  /-- Output voltage as a code, and the slewing SET not yet acknowledged. -/
  vout : Nat := 0
  iout : Nat := 0
  slewing : Option Nat := none
  slew : Nat := 0
  lastWord : Option Nat := none
  /-- STATUS of the acknowledge of that word, once it has one (R285). -/
  lastAck : Option Nat := none
  fallback : Bool := false
  wasFallback : Bool := false
  errs : Nat := 0
  dropped : List Nat := []
  causes : List (Nat × Nat) := []
  deriving DecidableEq, Repr

/-! ### Host interface (09) -/

/-- An HDM decoder (R296). -/
structure Decoder where
  committed : Bool := false
  base : Nat := 0
  size : Nat := 0
  ways : Nat := 1
  gran : Nat := 256
  position : Nat := 0
  skip : Nat := 0
  lock : Bool := false
  error : Bool := false
  deriving DecidableEq, Repr

/-- The CXL port. -/
structure HostSt where
  width : Nat := 0
  speed : Nat := 0
  flit256 : Bool := false
  memEnabled : Bool := false
  /-- Link training is enabled (R70 step 9). -/
  training : Bool := false
  memActive : Bool := false
  linkdowns : Nat := 0
  drops : Nat := 0
  gpfCount : Nat := 0
  gpfFailed : Bool := false
  gpfUs : Nat := 0
  /-- Phase 2 requests waiting: times, and the number of requests received that they cover (R307). -/
  gpfWaiting : List Nat := []
  gpfCovers : Nat := 0
  load : Nat := 0
  dec0 : Decoder := {}
  dec1 : Decoder := {}
  /-- The DVSEC's range control, which no command writes: the enable and the base of Range 1 (R321; log entry 71). -/
  rangeEnable : Bool := false
  rangeBase : Nat := 0
  msixMasked : List Bool := [true, true, true, true, true, true, true, true]
  msixPending : List Bool := [false, false, false, false, false, false, false, false]
  deriving DecidableEq, Repr

/-- A record of an event log (R314): code of the vendor table or kind of the standard record. -/
structure EventRec where
  handle : Nat
  kind : Nat
  bolt : Nat
  values : List Nat
  ts : Nat
  deriving DecidableEq, Repr

/-- One of the four event logs, oldest first. -/
structure EventLog where
  recs : List EventRec := []
  overflow : Nat := 0
  next : Nat := 1
  deriving DecidableEq, Repr

/-- The return codes of the mailbox that the spec names (R310 to R319). -/
inductive RetCode where
  | success | backgroundStarted | invalidInput | unsupported | retryRequired | busy | aborted
  deriving DecidableEq, Repr

/-- The background command that runs (R310, R317 to R319). -/
inductive BgCmd where
  | sanitize | secureErase | sealImage | dropImage
  deriving DecidableEq, Repr

/-- Where a background command stands. -/
inductive BgPhase where
  | draining | sealing | erasing | finished (code : RetCode)
  deriving DecidableEq, Repr

/-- The mailbox. -/
structure MbxSt where
  bg : Option BgCmd := none
  phase : BgPhase := .draining
  /-- Opcode, completion code and percent of the last background command. -/
  bgOpcode : Nat := 0
  bgCode : RetCode := .success
  bgPercent : Nat := 0
  bgResult : Nat × Nat := (0, 0)
  doorbell : Bool := false
  logs : List EventLog := [{}, {}, {}, {}]
  policy : List Bool := [false, false, false, false]
  lifeAlert : Nat := 0
  tempAlert : Nat := 0
  ceAlert : Nat := 0
  /-- A write was committed since the newest final knot (R317). -/
  writtenSince : Bool := true
  /-- The newest knot on NAND is a verified final knot (R317). -/
  sealedKnot : Bool := false
  /-- A seal in progress: a write was committed after the residual reached 0. -/
  sealBroken : Bool := false
  /-- Dirty shutdown count, shutdown state and label storage area, in embedded flash (R312, R313). -/
  dirtyShutdowns : Nat := 0
  shutdown : Nat := 0
  /-- An interrupted Sanitize to finish at the next boot (R319). -/
  sanitizeOwed : Bool := false
  deriving DecidableEq, Repr

/-! ### Power tree (10) -/

/-- The VIN front end (R323 to R327, R567). -/
structure VinSt where
  good : Bool := false
  /-- When VIN was last taken as good (R379). -/
  goodAt : Nat := 0
  /-- An early warning is raised: warn_slope or warn_level holds (R324). -/
  warn : Bool := false
  /-- A Warning frame went out, and no abandon frame since (R143). -/
  warned : Bool := false
  below : Bool := false
  /-- The pfail comparator reads VIN below vin_pfail (R325, R328). -/
  comp : Bool := false
  ovp : Bool := false
  vin : Nat := 0
  slope : Int := 0
  /-- VIN has been good since the keeper started, and a draft is active (R567). -/
  armed : Bool := false
  deriving DecidableEq, Repr

/-- IBS_HU.MODE (R328). -/
inductive HuMode where
  | opened | closed | forced
  deriving DecidableEq, Repr

/-- A domain (R347 to R354). -/
structure Dom where
  on : Bool := false
  good : Bool := false
  shed : Bool := false
  railFault : Bool := false
  trackFault : Bool := false
  iout : Nat := 0
  vout : Nat := 0
  /-- Active discharge after its switch-off is not finished (R351). -/
  discharging : Bool := false
  /-- It ramps down since its switch-off (R350, R351). -/
  falling : Bool := false
  deriving DecidableEq, Repr

/-- What a switch-on sequence is for (R352, R169, R351, R570). -/
inductive SeqGoal where
  | none | boot | host | fromHold
  deriving DecidableEq, Repr

/-- Intermediate bus, hold-up switch and domains. -/
structure PwrSt where
  keeper : Bool := false
  collapse : Bool := false
  lost : Bool := false
  atHold : Bool := false
  /-- Phases dropped with their CAUSE (R339). -/
  dropped : List (Nat × Nat) := []
  huMode : HuMode := .opened
  /-- The charger is stopped for the open-switch check (R331). -/
  huChecking : Bool := false
  huTestFail : Bool := false
  huShort : Bool := false
  doms : List Dom := [{}, {}, {}, {}, {}, {}, {}, {}, {}, {}, {}, {}]
  /-- PFAIL_N is asserted; it is released while the keeper is stopped (R528). -/
  pfailAsserted : Bool := false
  /-- An overload runs, with the domains acted on in it (R340). -/
  overload : Option (List Nat) := none
  seq : SeqGoal := .none
  /-- The group that is being switched on, and whether it is good and waits group_delay (R348). -/
  group : Nat := 0
  delaying : Bool := false
  /-- Host domains still to be shed, in shed order (R353). -/
  shedding : List Nat := []
  /-- The host domains wait for VIN good (R570). -/
  hostOwed : Bool := false
  /-- VIN came back in OFF while domains were still being switched off: the boot follows (R171, R351). -/
  bootOwed : Bool := false
  /-- The domains must be switched off group by group down to this goal (R351). -/
  offGroups : List Nat := []
  /-- The domains that a tracking fault switched off, which a reset of their controllers switches on again (R350, R420). -/
  tracked : List Nat := []
  /-- The domains whose rail or tracking fault came last, with their partners: the failing pair of R420. -/
  failing : List Nat := []
  deriving DecidableEq, Repr

/-! ### Energy store, charger, gauge (11) -/

/-- Cell channels and balancing (R360 to R362). -/
structure CellSt where
  v : List Nat := []
  out : List Nat := []
  tapOpen : Bool := false
  ov : Bool := false
  /-- The cells found undervolted, each until it is above cell_floor_v (R362). -/
  low : List Nat := []
  short : Bool := false
  floor : Bool := false
  stackMv : Nat := 0
  bleed : List Nat := []
  /-- Taps that are open (R362). -/
  badTaps : List Nat := []
  deriving DecidableEq, Repr

/-- A usable rest point kept for the next (R377): mean-cell state of charge in 1/1,000,000 and the charge
counted since, in mC. -/
structure RestPt where
  soc : Int
  counted : Int := 0
  deriving DecidableEq, Repr

/-- The gauge (R366 to R387). -/
structure GauSt where
  /-- CLASS: 0 QUIET, 1 NORMAL, 2 FAST (R368). -/
  cls : Nat := 1
  current : Int := 0
  cap : Nat := 0
  qrem : Nat := 0
  /-- GAU_QUNC in units of 1 uC (R371). -/
  qunc : Nat := 0
  /-- imb in 1/1,000,000 (R366). -/
  imb : Nat := 0
  eGuar : Nat := 0
  soc : Nat := 0
  heldZero : Bool := false
  drift : Bool := false
  snap : Bool := false
  capProvisional : Bool := false
  overdue : Bool := false
  impStale : Bool := false
  fullValid : Bool := false
  /-- Accepted resistances divided by rfac, newest first, in 1/10,000 of 100 uOhm (R374). -/
  resist : List Nat := []
  /-- When the last step was accepted (R373, R374). -/
  impAt : Nat := 0
  days : Nat := 0
  learns : Nat := 0
  rejects : Nat := 0
  lastKind : Nat := 0
  throughput : Nat := 0
  /-- Timebase of the last gauge update (R371). -/
  updated : Nat := 0
  /-- Charge counted since the last full anchor (R381). -/
  sinceAnchor : Int := 0
  rest : Option RestPt := none
  /-- Energy drawn from the store since the last confirmation in mJ (R534), and as it stood at the fence (R125). -/
  vaultMj : Nat := 0
  fenceMj : Nat := 0
  /-- GAU_QREM holds a value of this store: the first reading is taken (R563). -/
  loaded : Bool := false
  /-- The gauge has reported since its reset: its register fields show no Reset value any more (R68, R389). -/
  reported : Bool := false
  /-- When the last full anchor was taken (R366, R379). -/
  fullAt : Option Nat := none
  /-- GAU_THROUGHPUT at the last daily fade (R384). -/
  fadeBase : Nat := 0
  deriving DecidableEq, Repr

/-- CHG_STATUS.STATE (R389). -/
inductive ChgState where
  | off | cc | cv | terminated | inhibited | reverse | fault
  deriving DecidableEq, Repr

/-- GAU_EXER.PHASE (R379). -/
inductive ExPhase where
  | idle | discharge | sealWait | seal | tail | recharge
  deriving DecidableEq, Repr

/-- Charger and capacity exercise. -/
structure ChgSt where
  st : ChgState := .off
  /-- Steps of the current rise made, of four (R373). -/
  step : Nat := 0
  iout : Nat := 0
  balTimeout : Bool := false
  /-- Stopped by THM_STORE_RATE until it falls below the limit (R398). -/
  rateStop : Bool := false
  /-- When the rise of T_store_max was last at or above the limit (R398). -/
  rateAt : Nat := 0
  /-- The cells differ by more than 2 x bal_delta at termination: CV held (R365). -/
  balancing : Bool := false
  probe : Bool := false
  /-- STATE and current that the open-switch check interrupts (R331). -/
  paused : Option (ChgState × Nat) := none
  phase : ExPhase := .idle
  exerWanted : Bool := false
  grant : Bool := false
  aborts : Nat := 0
  lastAbort : Nat := 0
  deriving DecidableEq, Repr

/-! ### Thermal (12) -/

/-- A sensor (R391 to R403): reading in 1/16 degree C. -/
structure Sensor where
  temp : Int := 0
  seen : Bool := false
  broken : Bool := false
  suspect : Bool := false
  cause : Nat := 0
  /-- Times of its returns to service (R403). -/
  returns : List Nat := []
  locked : Bool := false
  /-- Consecutive samples out of range, and consecutive samples off its neighbours (R399). -/
  outRange : Nat := 0
  offNbr : Nat := 0
  /-- When its last reading arrived (R399). -/
  last : Nat := 0
  /-- Its readings at the last ten checks of R397, newest first. -/
  hist : List Int := []
  deriving DecidableEq, Repr

/-- A zone's flags (R394, R397) and the value it keeps when it has no reading (R392). -/
structure Zone where
  warn : Bool := false
  throttle : Bool := false
  vault : Bool := false
  rate : Bool := false
  /-- The source of the VAULT flag has been raised for this setting of it (R395). -/
  told : Bool := false
  kept : Int := 0
  /-- When a sensor of the zone was last declared broken: its release timers start again (R402). -/
  restart : Option Nat := none
  deriving DecidableEq, Repr

/-- Temperature sensing and thermal shutdown. -/
structure ThmSt where
  sensors : Table Sensor := []
  zones : List Zone := [{}, {}, {}, {}, {}]
  stage1 : Bool := false
  stage2 : Bool := false
  stage2Tripped : Bool := false
  count1 : Nat := 0
  count2 : Nat := 0
  /-- The zone 3 median of the last correction (R404), 1/16 degree C. -/
  comp : Int := 0
  /-- T_store_max as the samples of the store inputs gave it, with the time, newest first, over the last 10 min and one before
  (R398). -/
  storeHist : List (Nat × Int) := []
  /-- The values of T_store_max since the last daily fade: their sum and their number (R384). -/
  daySum : Int := 0
  dayCount : Nat := 0
  /-- The engine zone's last THM_VAULT resume time (R180). -/
  lastResume : Option Nat := none
  deriving DecidableEq, Repr

/-! ### Fault collector, belay, selvedge (13, 02) -/

/-- A fault source at the collector: its code pair and its record. -/
structure Source where
  t : Bool := false
  c : Bool := true
  latched : Bool := false
  shadowHit : Bool := false
  escalated : Bool := false
  count : Nat := 0
  shadowCount : Nat := 0
  /-- Severity and ALERT written since boot (R418); none keeps the draft's. -/
  sevUp : Option Nat := none
  alertUp : Option Bool := none
  /-- Times of its S2 reactions (R419). -/
  reacted : List Nat := []
  /-- Removed from every shadow set (R423). -/
  unshadowed : Bool := false
  /-- Its reaction waits for ARMED (R427). -/
  owed : Bool := false
  /-- The detail of its last entry into fault (R424). -/
  detail : Nat := 0
  /-- Its pair chatters and is frozen to fault; the code that the wires show meanwhile (R434). -/
  frozen : Bool := false
  wireT : Bool := false
  wireC : Bool := true
  deriving DecidableEq, Repr

/-- The first-error record (R424). -/
structure FirstErr where
  valid : Bool := false
  shadowed : Bool := false
  sev : Nat := 0
  master : Nat := 0
  access : Nat := 0
  source : Nat := 0
  more : Nat := 0
  addr : Nat := 0
  ts : Nat := 0
  deriving DecidableEq, Repr

/-- How an input was frozen (R434). -/
inductive Frozen where
  | stuck | chatter
  deriving DecidableEq, Repr

/-- The collector. -/
structure FltSt where
  /-- FLT_CTL in effect (R15, R442). -/
  ctl : Nat := 0
  sources : Table Source := []
  configured : Bool := false
  si : Bool := false
  self : Bool := false
  shadowed : Nat := 0
  first : FirstErr := {}
  /-- Sources whose shadow is active (R421). -/
  shadows : List Nat := []
  /-- Units in a unit reset (R420): the UNIT codes. -/
  resets : List Nat := []
  /-- Live conditions of the engine's sources as the engine sees them (R412). -/
  engineLive : List Nat := []
  /-- Engine sources whose code is broken, with the level of both wires (R411, R412). -/
  engineBroken : Table Bool := []
  /-- The first-error detail each engine source reports (R424). -/
  details : Table Nat := []
  frozen : Table Frozen := []
  belay : Bool := false
  belayCause : Nat := 0xFF
  entries : Nat := 0
  recoveries : Nat := 0
  lastPath : Nat := 0
  /-- An analog limit of the engine has tripped, and has not released (R407). -/
  analogTrip : Bool := false
  /-- The engine stopped under BELAYP (R431 step 2). -/
  engineStopped : Bool := false
  /-- R431: waiting for self-refresh (step 4), NAND rails to be switched off (step 7). -/
  awaitHold : Bool := false
  nandOff : Bool := false
  /-- VAULT_REBOOT_EXHAUSTED raised in this vault (R433). -/
  rebootExhausted : Bool := false
  stewardHalted : Bool := false
  deriving DecidableEq, Repr

/-- A control pair as its receiver sees it (R63). -/
structure Pair where
  t : Bool := false
  c : Bool := true
  frozen : Bool := false
  deriving DecidableEq, Repr

/-- What the selvedge is doing (R175, R180). -/
inductive SelvPhase where
  | idle | holding | rebooting | cooling
  deriving DecidableEq, Repr

/-- Selvedge, pairs and heartbeats. -/
structure SelSt where
  pairs : List Pair := [{}, {}, {}, {}, {}, {}, {}]
  phase : SelvPhase := .idle
  attempts : Nat := 0
  engineStalled : Bool := false
  pcStalled : Bool := false
  /-- HBE and HBP levels. -/
  hbe : Bool := false
  hbp : Bool := false
  /-- The thermal hold waits (R180). -/
  thermal : Bool := false
  deriving DecidableEq, Repr

/-! ### Resets (02) -/

/-- The kind of warm reset in progress (R68). -/
inductive RstKind where
  | none | chipset | engine
  deriving DecidableEq, Repr

/-- A warm reset in progress (R70), and requests deferred, pending or stored. -/
structure RstSt where
  kind : RstKind := .none
  step : Nat := 0
  started : Nat := 0
  /-- The step that a chipset warm reset had reached when a selvedge re-boot overtook it: from 5 on the steward's part of it is
  done, from 6 on the draft's check (R70, R569, R570). -/
  reached : Nat := 0
  /-- The vault state was ARMED or SPECULATIVE when it began (R73). -/
  wasArmed : Bool := false
  beforeReady : Bool := false
  fromOff : Bool := false
  fromHold : Bool := false
  afterBelay : Bool := false
  /-- A vault was confirmed during it (R73): cause and source. -/
  confirmed : Option (Nat × Nat) := none
  stopTs : Nat := 0
  deferred : Option Requester := none
  later : Option Requester := none
  /-- A structural change discards the cache: the empty image is still to be written (R463). -/
  structural : Bool := false
  /-- A candidate was activated in this reset (R460). -/
  activated : Bool := false
  /-- Cold boot runs: step 6 and 7 belong to it. -/
  coldBoot : Bool := false
  /-- The engine core is powered, out of reset and configured (R70 step 7, R530). -/
  engineUp : Bool := false
  deriving DecidableEq, Repr

/-! ### The draft (14) -/

/-- A domain record (R456). -/
structure DomRec where
  present : Bool
  discharge : Bool
  track : Nat
  partner : Nat
  target : Nat
  pgPct : Nat
  pgTimeout : Nat
  ramp : Nat
  deriving DecidableEq, Repr

/-- A monitor record (R455). -/
structure MonRec where
  code : Nat
  index : Nat
  lower : Nat
  exp : Nat
  deriving DecidableEq, Repr

/-- The STORE section. -/
structure StoreSec where
  chem : Nat
  cells : Nat
  thermMask : Nat
  cvMv : Nat
  emptyMv : Nat
  floorMv : Nat
  shunt : Nat
  chgLo : Int
  chgHi : Int
  coldT : Int
  coldMa : Nat
  rInit : Nat
  ocv : List Nat
  tfac : List Nat
  rfac : List Nat
  ratedMc : Nat
  deriving DecidableEq, Repr

/-- An external input's record in the THERM section. -/
structure ThermIn where
  zone : Nat
  nbrs : List (Nat × Nat)
  bias : Nat
  table : List Nat
  deriving DecidableEq, Repr

/-- A source's record in the FAULT section. -/
structure FaultRec where
  sev : Nat
  unit : Nat
  alert : Bool
  set : Nat
  deriving DecidableEq, Repr

/-- The DRAM, NAND and CXL sections' fields. -/
structure DramSec where
  cGib : Nat
  vaultRate : Nat
  channels : Nat
  rdimm : Bool
  ranks : Nat
  width : Nat
  density : Nat
  rate : Nat
  deriving DecidableEq, Repr

/-- The NAND section (R451): descriptor of each declared target. -/
structure NandSec where
  chMask : Nat
  mode : Nat
  rate : Nat
  targets : List Nat
  descs : List Desc
  deriving DecidableEq, Repr

/-- The CXL section (R454). -/
structure CxlSec where
  vendor : Nat
  device : Nat
  subVendor : Nat
  subsys : Nat
  serial : Nat
  width : Nat
  speed : Nat
  deriving DecidableEq, Repr

/-- A decoded draft (R445 to R456). -/
structure Draft where
  generation : Nat
  structCrc : Nat
  length : Nat
  /-- ENGINE sections: TYPE, OFFSET, LENGTH, CRC (R446). -/
  engine : List (Nat × Nat × Nat × Nat)
  params : List (Nat × Nat)
  dram : DramSec
  nand : NandSec
  bolts : List BoltRec
  epb : List Nat
  cxl : CxlSec
  mon : List MonRec
  shedOrder : List Nat
  doms : List DomRec
  store : StoreSec
  zoneThr : List (Int × Int × Int)
  therm : List ThermIn
  faults : List FaultRec
  shadowSets : List (List Nat)
  deriving DecidableEq, Repr

/-- Where the draft stream stands (R465). -/
inductive StreamSt where
  | idle | streaming | confirmed | failed
  deriving DecidableEq, Repr

/-- The draft's registers and working state. -/
structure DrfSt where
  active : Option Draft := none
  activeSlot : Nat := 0
  fallback : Bool := false
  sealFlag : Bool := false
  reason : Nat := 0
  checkStep : Nat := 0
  checkSection : Nat := 0
  checkRecord : Nat := 0
  /-- DRF_CTL in effect (R15, R467). -/
  ctl : Nat := 0
  busy : Bool := false
  result : Nat := 0
  candOfs : Nat := 0
  activations : Nat := 0
  stream : StreamSt := .idle
  /-- Sections whose CRC the steward has found right, and the failures of each (R465). -/
  okSections : List Nat := []
  fails : Table Nat := []
  /-- The engine's working copy of the stream, and its retained copy on VPHY_E. -/
  received : List Host.Cell := []
  engineReady : Bool := false
  retained : Option (Table Byte) := none
  deriving DecidableEq, Repr

/-! ### Embedded flash and life cycle (15) -/

/-- A 64-bit word of embedded flash with its check bits and the programs since its erase (R468, R471). -/
structure EflWord where
  data : Nat := 0xFFFFFFFFFFFFFFFF
  /-- In what the stored check bits differ from those of the data (R470). -/
  bad : Nat := 0
  programs : Nat := 0
  /-- A cut program left the word undetermined (R489). -/
  torn : Bool := false
  deriving DecidableEq, Repr

/-- An embedded-flash operation in progress: a word program, or a block erase with the attempts made (R471, R486). -/
inductive EflOp where
  | program (addr : Nat) (data : Nat)
  | erase (block : Nat) (tries : Nat)
  deriving DecidableEq, Repr

/-- What the steward does when its list of erases is finished (R458, R484, R492). -/
inductive EflThen where
  | nothing | candidate | boot
  deriving DecidableEq, Repr

/-- What sector 36 holds (R469, R563): the store it speaks of, GAU_CAP and the learning state. -/
structure GaugeRec where
  chem : Nat
  cells : Nat
  rated : Nat
  cap : Nat
  provisional : Bool
  drift : Bool
  snap : Bool
  days : Nat
  learns : Nat
  rejects : Nat
  lastKind : Nat
  deriving DecidableEq, Repr

/-- The steward's writes that the temperature window may refuse, with the value to be written (R406). -/
inductive StewardWrite where
  | gauge (record : Option GaugeRec) | scale (value : Nat) | dirtyCount (value : Nat)
  deriving DecidableEq, Repr

/-- Embedded flash and its controller (R468 to R489, R500): words by word number, an unlisted word erased. -/
structure EflSt where
  words : Table EflWord := []
  op : Option EflOp := none
  /-- The running erase is suspended, and whether the temperature window suspended it (R405, R473). -/
  suspended : Bool := false
  byWindow : Bool := false
  /-- Blocks of boot slot 0 that still hold the factory image (R6). -/
  factoryBlocks : List Nat := List.range 32
  /-- Blocks whose content a failed or cut erase left undetermined (R486, R488, R489). -/
  undetermined : List Nat := []
  /-- Blocks that the steward has still to erase, and what follows the last. -/
  jobs : List Nat := []
  after : EflThen := .nothing
  result : Nat := 0
  /-- Block of the last operation. -/
  block : Nat := 0
  wpLock : Bool := false
  wp : Nat := 0xFFFFFFFFFFFFFFFF
  /-- EFL_ADDR, EFL_DATA as written, EFL_ECNT_SEL. -/
  addr : Nat := 0
  data : Nat := 0
  select : Nat := 0
  ceCount : Nat := 0
  slot : Nat := 0
  trial : Bool := false
  reverted : Bool := false
  romRecovery : Bool := false
  trialFails : Nat := 0
  bootSeq : Nat := 0
  /-- Blocks marked worn after three failed erases (R486). -/
  worn : List Nat := []
  /-- Erase-incomplete blocks (R488). -/
  incomplete : List Nat := []
  /-- VERSION of the steward firmware that runs. -/
  version : Nat := 0
  /-- Half and place of the boot entry under which the firmware runs, and whether its CONFIRM waits (R484). -/
  runEntry : Option (Nat × Nat) := none
  confirmDue : Bool := false
  /-- OP of EFL_CTL in effect (R15, R500). -/
  ctlOp : Nat := 0
  /-- Nominal trims serve in place of the calibration row's fields (R482). -/
  nominal : Bool := false
  /-- System data of sector 36, and STG_EPB_SCALE and the dirty shutdown count of the user sectors as written. -/
  gauge : Option GaugeRec := none
  scale : Nat := 1024
  dirty : Nat := 0
  /-- Steward writes that wait for the temperature window, and whether a cold reset lost one (R406). -/
  waits : List StewardWrite := []
  lost : Bool := false
  deriving DecidableEq, Repr

/-- The life-cycle states (R490). -/
inductive LcState where
  | mfg | field | retired
  deriving DecidableEq, Repr

/-- Life cycle and vault key. -/
structure LcsSt where
  st : LcState := .mfg
  /-- Which vault key: the identity of the key that images are written under. -/
  keyId : Nat := 0
  /-- The present boot completes a life-cycle wipe (R215, R492). -/
  wiped : Bool := false
  /-- WIPE_DONE of the newest entry is erased (R492); the step the transition has reached, and a transition that
  waits for a cold reset (R495). -/
  pending : Bool := false
  step : Nat := 0
  awaitCold : Bool := false
  /-- In MFG, a key in keeper SRAM (R490, R498); KEY_SEQ of the newest key entry (R497). -/
  keyPresent : Bool := false
  /-- Which engine is fitted: the identity of the secret programmed into it (R7, R497, R564). -/
  engineId : Nat := 0
  /-- LCS_CTL in effect: TARGET and REQUEST (R15, R500). -/
  ctl : Nat := 0
  keySeq : Nat := 0
  /-- TARGET of the transition that runs (R491). -/
  target : LcState := .mfg
  /-- Transitions since manufacture, and SEQ of the newest life-cycle entry (R481, R500). -/
  transitions : Nat := 0
  seq : Nat := 0
  result : Nat := 0
  /-- The noise source passes its health tests, as the request that runs says (R496). -/
  noise : Bool := true
  deriving DecidableEq, Repr

/-! ### Timebase and monitors (16) -/

/-- The timebase (R514 to R517): the master; the engine's copy as its deviation from it; the wall-time offset, in 64-bit
two's complement; the rate source. -/
structure TbsSt where
  now : Nat := 0
  deviation : Int := 0
  offset : Nat := 0
  refclk : Bool := false
  /-- The reference clock is present, and off its rate (R515). -/
  offRate : Bool := false
  aligned : Bool := false
  losses : Nat := 0
  /-- DEVIATION of the engine copy: as measured at the last alignment. -/
  measured : Int := 0
  /-- The rate correction that the engine sent last, in 0.01 ppm (R534). -/
  correction : Int := 0
  /-- The engine has loaded its copy since its last reset (R516). -/
  loaded : Bool := false
  deriving DecidableEq, Repr

/-- A performance monitor (R518 to R523): MON_CFG, the registers, and the bins that are not 0. -/
structure Monitor where
  cfg : Nat := 0
  min : Nat := 0xFFFF
  max : Nat := 0
  count : Nat := 0
  sat : Bool := false
  gap : Bool := false
  bins : Table Nat := []
  deriving DecidableEq, Repr

/-- The monitor bank. -/
structure MonSt where
  freeze : Bool := false
  drops : Nat := 0
  mons : Table Monitor := []
  deriving DecidableEq, Repr

/-! ### The heddle link (17) -/

/-- A frame's payload (R534). -/
inductive Frame where
  /-- CLASS 0; its ACK is the sender's. -/
  | control (nak : Bool)
  | fault (entries : List (Nat × Bool × Bool))
  | warning (kind : Nat)
  | knotPointer (epoch slot : Nat)
  | energy (eGuar soc drawn status : Nat)
  | time (master : Nat) (correction : Int) (status : Nat)
  | log (entries : List LogEntry)
  | logRequest
  | monitor (samples : List MonSample)
  | request (req : RegReq)
  | response (req : RegReq) (data : Nat)
  | draft (offset : Nat) (bytes : List Byte)
  | draftReply (type crc : Nat)
  deriving DecidableEq, Repr

/-- A frame sent and not acknowledged: SEQ, payload, times sent (R535). -/
structure Unacked where
  seq : Nat
  frame : Frame
  sends : Nat
  deriving DecidableEq, Repr

/-- One end of the heddle link (R533 to R536). -/
structure HdlEnd where
  up : Bool := false
  txSeq : Nat := 0
  rxSeq : Nat := 0
  unacked : List Unacked := []
  /-- Frames that wait, in the order of R65. -/
  waiting : List Frame := []
  downs : Nat := 0
  /-- Accesses that met an unreachable half (R506). -/
  unreached : Nat := 0
  crcErrors : Nat := 0
  resends : Nat := 0
  deriving DecidableEq, Repr

/-! ### The register space and the management port (00, 16) -/

/-- A tunnelled read that waits for its response: where it was issued, and the bytes it asks for (R502, R505). -/
structure PendingRead where
  issuer : End
  req : RegReq
  be : BitVec 8
  deriving DecidableEq, Repr

/-- What the register-access logic holds between two accesses: the first write of a complement pair, the low word of a
64-bit write, the latched high word of a 64-bit read, each by master and address (R13, R16, R503); the tunnelled reads
that wait for their response, by the end they wait at, and the next TAG of each end (R505, R534). -/
structure PortSt where
  rwpHalf : List (Master × Nat × Nat) := []
  lowHold : List (Master × Nat × Nat) := []
  highLatch : List (Master × Nat × Nat) := []
  reads : List PendingRead := []
  tagE : Nat := 0
  tagP : Nat := 0
  deriving DecidableEq, Repr

/-- The SMBus port: the address strap, REG_ADDR, REG_STATUS, PAGE and STATUS_CML (R508 to R512). -/
structure SmbSt where
  strap : Nat := 0
  addr : Nat := 0
  noInc : Bool := false
  unreachable : Bool := false
  denied : Bool := false
  pecError : Bool := false
  range : Bool := false
  page : Nat := 0
  badCommand : Bool := false
  badData : Bool := false
  deriving DecidableEq, Repr

/-! ### What the chipset sends -/

/-- What Set Features sets on a target (R187): one of the four named, or the address that the draft gives for pSLC entry or a
retry entry (R451). -/
inductive Feature where
  | timingMode | dataInterface | driveStrength | termination
  | address (a : Nat)
  deriving DecidableEq, Repr

/-- The operations of the shuttles on a target, and no others (R187); a command byte that precedes an erase or a program is
the pSLC prefix of method 1 (R193, R451). -/
inductive Onfi where
  | reset | readId | readParameterPage
  | setFeatures (f : Feature) (p : Nat)
  | getFeatures (f : Feature)
  | zqCalibrationLong | dutyCycleCorrection | readDqTraining | writeDqTraining
  | readStatusEnhanced
  | pslcPrefix (command : Nat)
  | pageProgram (page : Nat)
  | pageRead (page : Nat)
  | blockErase (block : Nat)
  deriving DecidableEq, Repr

/-- What the chipset has sent to the outside. -/
inductive Sent where
  /-- A CXL.mem write's completion, with its DevLoad (R19, R305). -/
  | written (tag devLoad : Nat)
  /-- A CXL.mem read's completion, with its DevLoad (R302, R305). -/
  | read (tag devLoad : Nat) (data : Line) (poison : Bool)
  /-- The GPF Phase 1 and Phase 2 responses; `error` is the error indication (R306 to R308). -/
  | gpf1
  | gpf2 (error : Bool)
  /-- An MSI-X message (R320). -/
  | msix (vector : Nat)
  /-- A mailbox command's completion: return code and output payload (R310). -/
  | mailbox (code : RetCode) (payload : List Byte)
  /-- The same for a standard command, whose byte layout the spec leaves to the CXL standard: the values of the
  rule in its order. -/
  | answer (code : RetCode) (values : List Nat)
  /-- A heddle frame: its sender, SEQ and ACK (R533). -/
  | frame (sender : End) (seq ack : Nat) (f : Frame)
  /-- A command word on the rail link, and a VACK word (R280, R281). -/
  | command (word : Nat)
  | acknowledge (word : Nat)
  /-- An operation of a shuttle on a target (R187). -/
  | onfi (target : Nat) (op : Onfi)
  /-- A register read's data (R13). -/
  | register (m : Master) (value : Nat)
  /-- Data bytes answered on SMBus with the PEC byte that follows them when the host clocks it, and a NACK (R509, R510). -/
  | smbus (bytes : List Byte) (pec : Byte)
  | nack
  /-- An access completes with a bus error to its master (R470, R472). -/
  | busError (m : Master)
  deriving DecidableEq, Repr

/-! ### The test access ports (R545) -/

/-- An instruction of a package's test access port. -/
inductive TapInstr where
  | bypass | idcode | sample | preload | extest | extestPulse | extestTrain | clamp | highz
  deriving DecidableEq, Repr

/-- The instruction registers of the two packages (R545). DESIGN CHOICE (log entry 63): BYPASS at reset. -/
structure TapSt where
  engine : TapInstr := .bypass
  pctrl : TapInstr := .bypass
  deriving DecidableEq, Repr

/-! ### The chipset -/

/-- The state of the chipset, and the queue of commands that wait. -/
structure State where
  cache : CacheSt := {}
  /-- DDR5 as system physical addresses and bytes in one canonical form; an unlisted byte reads 0. -/
  dram : List Host.Cell := []
  log : LogSt := {}
  nand : NandSt := {}
  stg : StgSt := {}
  vlt : VltSt := {}
  drain : DrainSt := {}
  restore : RstoreSt := {}
  rail : RailSt := {}
  vcore : VcoreSt := {}
  host : HostSt := {}
  mbx : MbxSt := {}
  vin : VinSt := {}
  pwr : PwrSt := {}
  cell : CellSt := {}
  gau : GauSt := {}
  chg : ChgSt := {}
  thm : ThmSt := {}
  flt : FltSt := {}
  sel : SelSt := {}
  warm : RstSt := {}
  drf : DrfSt := {}
  efl : EflSt := {}
  lcs : LcsSt := {}
  tbs : TbsSt := {}
  mon : MonSt := {}
  hdlE : HdlEnd := {}
  hdlP : HdlEnd := {}
  port : PortSt := {}
  smb : SmbSt := {}
  /-- What the chipset has sent, newest first: the model's own (log entry 3). -/
  sent : List Sent := []
  /-- How many free values have been taken: the model's own (log entry 2). -/
  free : Nat := 0
  /-- The commands that wait, first in, first out. -/
  pending : List Instr := []
  tap : TapSt := {}
  deriving DecidableEq, Repr

/-- The chipset right after a cold reset with VBUS away: no draft, keeper stopped, every register at the value
that the spec gives or that a log entry names. -/
def State.reset : State := {}

/-- Why a command stops the block. Raised by the register accesses alone. -/
inductive Fault where
  /-- REGISTER_READ and REGISTER_WRITE at an address that is not a multiple of 4: R502 says that every access is
  aligned and gives no effect for another. Safe: the block stops where the hardware has no stated behaviour. -/
  | unaligned (addr : Nat)
  deriving DecidableEq, Repr

/-- Why a command is refused. -/
inductive Refusal where
  /-- A command without a meaning yet, by its mnemonic. Raised by the dispatch only. Safe. -/
  | notModelled (mnemonic : String)
  deriving DecidableEq, Repr

end Sys2Proof.Machine
end

