-- ==== Sys2Proof/Machine/Ops.lean ====
section
/-! DEFINITION. The named operations over tables, memory, the settings and the outbox that every meaning
uses. -/

namespace Sys2Proof.Machine

/-! ### Tables -/

/-- Reads a table; `d` is what an unlisted key reads as. -/
def tget {α : Type} (d : α) : Table α → Nat → α
  | [], _ => d
  | (k, v) :: t, n => if n = k then v else if n < k then d else tget d t n

/-- Writes a table and keeps its canonical form: keys strictly rising, the default left out. -/
def tput {α : Type} [DecidableEq α] (d : α) (n : Nat) (v : α) : Table α → Table α
  | [] => if v = d then [] else [(n, v)]
  | (k, w) :: t =>
    if n < k then if v = d then (k, w) :: t else (n, v) :: (k, w) :: t
    else if n = k then if v = d then t else (n, v) :: t
    else (k, w) :: tput d n v t

/-- Changes one entry of a table. -/
def tmod {α : Type} [DecidableEq α] (d : α) (n : Nat) (f : α → α) (t : Table α) : Table α :=
  tput d n (f (tget d t n)) t

/-- Whether every key lies above `b`, strictly rising, and no entry is the default. -/
def tableOk {α : Type} [DecidableEq α] (d : α) : Option Nat → Table α → Bool
  | _, [] => true
  | b, (k, v) :: t => (match b with | none => true | some x => decide (x < k)) && decide (v ≠ d) && tableOk d (some k) t

/-- An entry of a table whose unlisted keys have none. -/
def tfind {α : Type} : Table α → Nat → Option α
  | [], _ => none
  | (k, v) :: t, n => if n = k then some v else if n < k then none else tfind t n

/-- Enters a value under a key. -/
def tins {α : Type} (n : Nat) (v : α) : Table α → Table α
  | [] => [(n, v)]
  | (k, w) :: t => if n < k then (n, v) :: (k, w) :: t else if n = k then (n, v) :: t else (k, w) :: tins n v t

/-- Takes a key out. -/
def tdel {α : Type} (n : Nat) (t : Table α) : Table α := t.filter (fun e => e.1 ≠ n)

/-! ### DDR5 -/

/-- What an unlisted byte of DDR5 reads as (log entry 5). -/
def unlistedByte : Byte := 0

/-- A byte of DDR5 at an engine-internal address (R83). -/
def readByte (s : State) (a : Nat) : Byte := tget unlistedByte s.dram a

/-- Stores a byte in DDR5. -/
def writeByte (a : Nat) (b : Byte) (s : State) : State := { s with dram := tput unlistedByte a b s.dram }

/-- The canonical form of the memory: addresses strictly rising, no entry equal to the unlisted byte. -/
def memoryOk (m : List Host.Cell) : Bool := tableOk unlistedByte none m

/-- Stores the bytes of a line that its byte enables name, from byte `i` on (R19). -/
def writeLineFrom (a : Nat) (data : Line) (be : BitVec 64) : Nat → State → State
  | 0, s => s
  | n + 1, s =>
    let i := 63 - n
    writeLineFrom a data be n (if be.getLsbD i then writeByte (a + i) (data.extractLsb' (8 * i) 8) s else s)

/-- Stores a line at an engine-internal address (R19). -/
def writeLine (a : Nat) (data : Line) (be : BitVec 64) (s : State) : State := writeLineFrom a data be 64 s

/-- Reads `n` bytes from `a` upward as one number, lowest byte first (R10). -/
def readBytes (s : State) (a : Nat) : Nat → Nat
  | 0 => 0
  | n + 1 => (readByte s a).toNat + 256 * readBytes s (a + 1) n

/-- A line of DDR5. -/
def readLine (s : State) (a : Nat) : Line := BitVec.ofNat 512 (readBytes s a 64)

/-- The listed bytes of a granule, with offsets in the granule. -/
def granuleBytes (s : State) (g : Nat) : List Host.Cell :=
  (s.dram.filter (fun c => c.1 / 4096 = g)).map (fun c => (c.1 % 4096, c.2))

/-- Zeroes a range of DDR5. -/
def zeroRange (lo hi : Nat) (s : State) : State :=
  { s with dram := s.dram.filter (fun c => c.1 < lo || hi ≤ c.1) }

/-- Writes a granule's content, the unlisted bytes zero. -/
def writeGranule (g : Nat) (bytes : List Host.Cell) (s : State) : State :=
  bytes.foldl (fun s c => writeByte (4096 * g + c.1 % 4096) c.2 s) (zeroRange (4096 * g) (4096 * g + 4096) s)

/-- The byte pattern of poisoned lines is written as a whole line. -/
def allBytes : BitVec 64 := BitVec.allOnes 64

/-! ### The outbox, free values, time -/

/-- Sends to the outside. -/
def emit (m : Sent) (s : State) : State := { s with sent := m :: s.sent }

/-- Takes a free value: the counter moves on. -/
def nextFree (s : State) : State := { s with free := s.free + 1 }

/-- The master timebase (R514). -/
def now (s : State) : Nat := s.tbs.now

/-- The engine's copy of the timebase (R516). -/
def engineNow (s : State) : Nat := (s.tbs.now + s.tbs.deviation).toNat

/-! ### Bits and saturation -/

/-- Bit `i` of a number. -/
def bitOf (n i : Nat) : Bool := n / 2 ^ i % 2 = 1

/-- Bits [hi:lo] of a number. -/
def bitsOf (n hi lo : Nat) : Nat := n / 2 ^ lo % 2 ^ (hi + 1 - lo)

/-- A truth value as a bit. -/
def b01 (b : Bool) : Nat := if b then 1 else 0

/-- A counter's step up, saturating at `m` (R559). -/
def satAdd (m n k : Nat) : Nat := if n + k ≤ m then n + k else m

/-- The largest 32-bit count (R559). -/
def max32 : Nat := 0xFFFFFFFF

/-- Rounds a quotient up. -/
def divUp (a b : Nat) : Nat := (a + b - 1) / b

/-- Two's complement of `w` bits. -/
def toSigned (w n : Nat) : Int := if n < 2 ^ (w - 1) then n else (n : Int) - 2 ^ w

/-- An integer as `w` bits of two's complement. -/
def ofSigned (w : Nat) (i : Int) : Nat := (i % (2 ^ w : Int)).toNat

/-- The elements of `l` without repeats, in rising order. -/
def insertSorted (n : Nat) : List Nat → List Nat
  | [] => [n]
  | k :: t => if n < k then n :: k :: t else if n = k then k :: t else k :: insertSorted n t

/-- Adds to a list used as a set. -/
def addTo (n : Nat) (l : List Nat) : List Nat := if n ∈ l then l else l ++ [n]

/-- Takes out of a list used as a set. -/
def dropFrom (n : Nat) (l : List Nat) : List Nat := l.filter (· ≠ n)

/-- The largest element, if any. -/
def maxOf : List Int → Option Int
  | [] => none
  | x :: t => match maxOf t with | none => some x | some y => some (if x < y then y else x)

/-- The smallest element, if any. -/
def minOf : List Int → Option Int
  | [] => none
  | x :: t => match minOf t with | none => some x | some y => some (if y < x then y else x)

/-- Replaces element `i` of a list. -/
def setAt {α : Type} (i : Nat) (x : α) (l : List α) : List α := l.set i x

/-- Changes element `i` of a list. -/
def modAt {α : Type} (i : Nat) (f : α → α) (l : List α) : List α := l.modify i f

/-- The bytes of a number, lowest first (R10). -/
def leBytes : Nat → Nat → List Byte
  | 0, _ => []
  | n + 1, v => BitVec.ofNat 8 v :: leBytes n (v / 256)

/-- The number that bytes spell, lowest first (R10). -/
def ofLeBytes : List Byte → Nat
  | [] => 0
  | b :: t => b.toNat + 256 * ofLeBytes t

end Sys2Proof.Machine
end

