-- ==== Sys2Proof/Machine/Crc.lean ====
section
/-! DEFINITION. The checks: CRC-32C (R196), the CRC-16 of a trouble-log entry (R436) and the PEC of SMBus (R508, R510). -/

namespace Sys2Proof.Machine

/-- `n` steps of the reflected CRC-32C register. -/
def crc32cBits : Nat → Nat → Nat
  | 0, c => c
  | n + 1, c => crc32cBits n (if c % 2 = 1 then Nat.xor (c / 2) 0x82F63B78 else c / 2)

/-- One byte into CRC-32C. -/
def crc32cByte (c b : Nat) : Nat := crc32cBits 8 (Nat.xor c b)

/-- CRC-32C of a byte string (R196). -/
def crc32c (l : List Nat) : Nat := Nat.xor (l.foldl crc32cByte 0xFFFFFFFF) 0xFFFFFFFF

/-- `n` steps of the CRC-16 register. -/
def crc16Bits : Nat → Nat → Nat
  | 0, c => c
  | n + 1, c => crc16Bits n (if 0x8000 ≤ c then Nat.xor (c * 2 % 65536) 0x1021 else c * 2 % 65536)

/-- CRC-16, polynomial 0x1021, initial value 0xFFFF, not reflected (R436). -/
def crc16 (l : List Nat) : Nat := l.foldl (fun c b => crc16Bits 8 (Nat.xor c (b * 256))) 0xFFFF

/-- `n` steps of the CRC-8 register. -/
def crc8Bits : Nat → Nat → Nat
  | 0, c => c
  | n + 1, c => crc8Bits n (if 0x80 ≤ c then Nat.xor (c * 2 % 256) 0x07 else c * 2 % 256)

/-- The packet error code of SMBus: CRC-8 with x^8 + x^2 + x + 1 from 0. R508 and R510 name PEC and give no polynomial (PRESUMED, log
entry 108). -/
def crc8 (l : List Nat) : Nat := l.foldl (fun c b => crc8Bits 8 (Nat.xor c b)) 0

end Sys2Proof.Machine
end

