-- ==== Sys2Proof/Machine/EflWords.lean ====
section
/-! DEFINITION. What embedded flash holds: its words with their code, the erase journal, the records with a commit word, and what
stands in the user sectors (R468 to R471, R475, R479 to R482, R485, R487, R488). -/

namespace Sys2Proof.Machine

/-! ### Words (R468, R470, R471) -/

/-- The erased word's data. -/
def erasedData : Nat := 0xFFFFFFFFFFFFFFFF

/-- The check bits that the controller computes: zero data has zero check bits (R470). -/
def checkBits (d : Nat) : Nat := if d = 0 then 0 else (Config.eflCheck d).toNat

/-- The block of a word number. -/
def blockOfWord (w : Nat) : Nat := w / 1024

/-- The sector of a word number. -/
def sectorOfWord (w : Nat) : Nat := w / 8192

/-- The factory image's word. -/
def factoryWord (w : Nat) : Nat := ofLeBytes ((List.range 8).map (fun i => Config.factoryByte (8 * w + i)))

/-- A word as stored; an unlisted one is erased, or the factory image's. -/
def eflWord (w : Nat) (s : State) : EflWord :=
  match tfind s.efl.words w with
  | some x => x
  | none => if s.efl.factoryBlocks.contains (blockOfWord w) then { data := factoryWord w, programs := 1 } else {}

/-- The check bits that stand beside a word: eight ones in an erased one (R470). -/
def storedCheck (x : EflWord) : Nat := if x.programs = 0 then 255 else Nat.xor (checkBits x.data) x.bad

/-- What a read makes of a stored word (R470). -/
inductive EccVerdict where
  | clean | corrected | uncorrectable
  deriving DecidableEq, Repr

/-- The data that a read of a stored word gives, and the verdict of the code of R470: a word of 72 ones is erased, an error in
one check bit or one data bit is corrected, and any other word is given as stored. -/
def eccRead (x : EflWord) : Nat × EccVerdict :=
  if x.bad = 0 then (x.data, .clean)
  else if x.data = erasedData && storedCheck x = 255 then (x.data, .clean)
  else if (List.range 8).any (fun i => x.bad = 2 ^ i) then (x.data, .corrected)
  else match (List.range 64).find? (fun i => checkBits (Nat.xor x.data (2 ^ i)) = storedCheck x) with
    | some i => (Nat.xor x.data (2 ^ i), .corrected)
    | none => (x.data, .uncorrectable)

/-- The data of a word as the steward reads it (R470). -/
def eflData (w : Nat) (s : State) : Nat := (eccRead (eflWord w s)).1

/-- A byte of the array as the steward reads it. -/
def eflByte (a : Nat) (s : State) : Nat := eflData (a / 8) s / 256 ^ (a % 8) % 256

/-- Whether a program of `d` takes effect on a word (R471). -/
def programFits (d : Nat) (x : EflWord) : Bool :=
  x.programs = 0 ||
  (decide (x.programs < 2) && (List.range 64).all (fun i => !bitOf d i || bitOf x.data i) &&
   (List.range 8).all (fun i => !bitOf (checkBits d) i || bitOf (storedCheck x) i))

/-- Whether a program of a word takes effect (R471). -/
def programTakes (w d : Nat) (s : State) : Bool := programFits d (eflWord w s)

/-- Whether a program or an erase occupies the controller (R472, R473). -/
def eflBusy (s : State) : Bool := s.efl.op.isSome

/-! ### Complement pairs (R11, R481) -/

/-- A value with its complement in the high half. -/
def pairWord (v : Nat) : Nat := v % 2 ^ 32 + (2 ^ 32 - 1 - v % 2 ^ 32) * 2 ^ 32

/-- The value of a paired word, if its pair is valid. -/
def unpair (d : Nat) : Option Nat := if d % 2 ^ 32 + d / 2 ^ 32 = 2 ^ 32 - 1 then some (d % 2 ^ 32) else none

/-- A word as a record reads it. No record counts a word that a cut left undetermined: it reads as 1, which is no pair, nor erased, nor
zero (R489). -/
def recordWord (x : EflWord) : Nat := if x.torn then 1 else (eccRead x).1

/-! ### The erase journal (R475, R485, R487, R488) -/

/-- The first word of a journal half: sectors 34 and 35. -/
def journalBase (half : Nat) : Nat := (34 + half) * 8192

/-- The words of a journal half that are not erased. -/
def journalWords (half : Nat) (s : State) : Table EflWord := s.efl.words.filter (fun e => sectorOfWord e.1 = 34 + half)

/-- The place of the next record of a half: after the last word that is not erased (R485). -/
def journalEnd (half : Nat) (s : State) : Nat :=
  ((journalWords half s).map (fun e => (e.1 - journalBase half) / 2 + 1)).foldl Nat.max 0

/-- Whether a half has room for fewer than 2 records (R487). -/
def journalFull (half : Nat) (s : State) : Bool := decide (4096 < journalEnd half s + 2)

/-- The half in use: the one that holds records, and of two that do the one that is not full, which R487 has begun. -/
def journalHalf (s : State) : Nat :=
  if journalEnd 1 s = 0 then 0 else if journalEnd 0 s = 0 || journalFull 0 s then 1 else 0

/-- The valid records of a half in their order: TYPE, BLOCK, COUNT (R485). -/
def journalRecords (half : Nat) (s : State) : List (Nat × Nat × Nat) :=
  ((journalWords half s).filter (fun e => e.1 % 2 = 0)).filterMap (fun e =>
    match unpair (recordWord e.2), unpair (recordWord (eflWord (e.1 + 1) s)) with
    | some v, some c => some (v / 2 ^ 24, v % 2 ^ 16, c % 2 ^ 24)
    | _, _ => none)

/-- The records of a block, the half in use last. -/
def blockRecords (b : Nat) (s : State) : List (Nat × Nat × Nat) :=
  (journalRecords (1 - journalHalf s) s ++ journalRecords (journalHalf s) s).filter (fun r => r.2.1 = b)

/-- A block's erase counter: COUNT of its newest valid completion or snapshot record (R485). -/
def eraseCount (b : Nat) (s : State) : Nat :=
  ((((blockRecords b s).filter (fun r => r.1 = 0x43 || r.1 = 0x53)).getLast?).map (·.2.2)).getD 0

/-- The greatest erase count (R475). -/
def maxErases : Nat := 16777215

/-- Whether a block is worn (R475, R486). -/
def blockWorn (b : Nat) (s : State) : Bool := decide (100000 ≤ eraseCount b s) || s.efl.worn.contains b

/-- The blocks whose newest record is an intent, with its COUNT (R488). -/
def openIntents (s : State) : List (Nat × Nat) :=
  let all := (journalRecords 0 s ++ journalRecords 1 s).map (fun r => r.2.1)
  (all.foldl (fun l b => insertSorted b l) []).filterMap (fun b =>
    match (blockRecords b s).getLast? with
    | some r => if r.1 = 0x49 then some (b, r.2.2) else none
    | none => none)

/-! ### Records with a commit word (R479 to R481) -/

/-- Words of an entry: 4, and 16 for a key. -/
def entryWords (kind : Nat) : Nat := if kind = 4 then 16 else 4

/-- The block of half `h` of a record: 64 and 65 boot, 66 and 67 draft, 68 and 69 life cycle, 70 and 71 key. -/
def recordBlock (kind h : Nat) : Nat := 62 + 2 * kind + h

/-- Whether a block reads: it is neither erase-incomplete nor left undetermined (R486, R488). -/
def blockReads (b : Nat) (s : State) : Bool := !s.efl.incomplete.contains b && !s.efl.undetermined.contains b

/-- The first word of an entry. -/
def entryBase (kind h i : Nat) : Nat := recordBlock kind h * 1024 + i * entryWords kind

/-- The words of an entry. -/
def entryAt (kind h i : Nat) (s : State) : List Nat :=
  (List.range (entryWords kind)).map (fun j => recordWord (eflWord (entryBase kind h i + j) s))

/-- The number of entries of a half. -/
def entriesPer (kind : Nat) : Nat := 1024 / entryWords kind

/-- The payload words that R481 marks as paired. -/
def pairedWords (kind : Nat) : List Nat := if kind = 1 then [0, 1] else if kind = 2 then [0, 1, 2] else if kind = 3 then [0, 1] else [9]

/-- SEQ of a valid entry (R480). -/
def entrySeq (kind : Nat) (l : List Nat) : Option Nat :=
  match unpair ((l[entryWords kind - 1]?).getD erasedData) with
  | some c =>
    if c / 2 ^ 24 = 0xC0 + kind && (pairedWords kind).all (fun j => (unpair ((l[j]?).getD 0)).isSome) then some (c % 2 ^ 24) else none
  | none => none

/-- The halves of a record that read. -/
def readHalves (kind : Nat) (s : State) : List Nat := [0, 1].filter (fun h => blockReads (recordBlock kind h) s)

/-- The valid entries of a record: SEQ, half, place. -/
def validEntries (kind : Nat) (s : State) : List (Nat × Nat × Nat) :=
  (readHalves kind s).flatMap (fun h => (List.range (entriesPer kind)).filterMap (fun i =>
    (entrySeq kind (entryAt kind h i s)).map (fun q => (q, h, i))))

/-- The newest valid entry (R480). -/
def newestEntry (kind : Nat) (s : State) : Option (Nat × Nat × Nat) :=
  (validEntries kind s).foldl (fun m e => match m with
    | none => some e
    | some x => if x.1 < e.1 then some e else some x) none

/-- SEQ of the newest valid entry. -/
def newestSeq (kind : Nat) (s : State) : Option Nat := (newestEntry kind s).map (·.1)

/-- Whether an entry is free: every word of its 72 bits erased (R480). -/
def entryFree (kind h i : Nat) (s : State) : Bool :=
  blockReads (recordBlock kind h) s &&
  (List.range (entryWords kind)).all (fun j =>
    let x := eflWord (entryBase kind h i + j) s
    recordWord x = erasedData && storedCheck x = 255)

/-- Whether a record's SEQ leaves room for a new entry (R480). -/
def seqLeft (kind : Nat) (s : State) : Bool :=
  match newestSeq kind s with | some q => decide (q < 0xFFFFFF) | none => true

/-- A word of the newest entry. -/
def newestWord (kind j : Nat) (s : State) : Option Nat :=
  match newestEntry kind s with | some e => ((entryAt kind e.2.1 e.2.2 s)[j]?) | none => none

/-! ### The vault key (R490, R497, R498) -/

/-- The words of a key entry: the key as the engine fitted wraps it, and KEY_SEQ (R481, R497). -/
def keyWords (engine keyId seq : Nat) : List Nat :=
  (List.range 9).map (fun i => (Config.wrappedWord engine seq keyId i).toNat) ++ [pairWord seq]

/-- KEY_PRESENT: a valid key entry exists, or in MFG a key in keeper SRAM (R500). -/
def keyHeld (s : State) : Bool := if s.lcs.st = .mfg then s.lcs.keyPresent else (newestEntry 4 s).isSome

/-- Whether the engine fitted unwraps the stored key: in MFG the one in keeper SRAM, else the newest valid key entry, whose words are
what this engine's secret gives for the key (R7, R497, R498). -/
def keyUnwraps (s : State) : Bool :=
  if s.lcs.st = .mfg then s.lcs.keyPresent
  else match newestEntry 4 s with
    | some e =>
      let l := entryAt 4 e.2.1 e.2.2 s
      l.take 10 = keyWords s.lcs.engineId s.lcs.keyId (((l[9]?).bind unpair).getD 0)
    | none => false

/-! ### The user sectors (R313, R469) -/

/-- The block in which the steward keeps a datum of sectors 36 to 63. R469 gives the label storage area its sector and the gauge's state
its own, and no place to the others (DESIGN CHOICE, log entry 110): the gauge's record, the shutdown state, the dirty shutdown count,
STG_EPB_SCALE, the event logs. -/
def datumBlocks : List Nat := [288, 304, 312, 320, 328]

/-- Whether a block holds a datum that the model keeps beside the array's words (log entry 110). -/
def holdsDatum (b : Nat) (s : State) : Bool :=
  (b = 288 && s.efl.gauge.isSome) || (b = 304 && s.mbx.shutdown ≠ 0) || (b = 312 && s.efl.dirty ≠ 0) ||
  (b = 320 && s.efl.scale ≠ 1024) || (b = 328 && s.mbx.logs.any (fun l => !l.recs.isEmpty || decide (0 < l.overflow)))

/-- What a block held is gone with its erase. -/
def loseDatum (b : Nat) (s : State) : State :=
  match b with
  | 288 => { s with efl := { s.efl with gauge := none } }
  | 304 => { s with mbx := { s.mbx with shutdown := 0 } }
  | 312 => { s with efl := { s.efl with dirty := 0 } }
  | 320 => { s with efl := { s.efl with scale := 1024 } }
  | 328 => { s with mbx := { s.mbx with logs := [{}, {}, {}, {}] } }
  | _ => s

/-- The first byte of the label storage area: sector 37 (R469). -/
def lsaBase : Nat := 37 * 65536

/-- A byte of the label storage area; of a block that does not read a free value. -/
def lsaByte (a : Nat) (s : State) : Byte :=
  if blockReads (blockOfWord ((lsaBase + a) / 8)) s then BitVec.ofNat 8 (eflByte (lsaBase + a) s) else Config.freeByte s.free a

/-! ### The calibration row (R482) -/

/-- A byte of the calibration row before its CRC: the ID's complement and STEPPING are the rule's, the rest is not given. -/
def rowBody (i : Nat) : Nat :=
  if 8 ≤ i ∧ i < 16 then 255 - (Config.factoryByte (0x400000 + i - 8)).toNat
  else if i = 0x40 then 0xB0
  else (Config.factoryByte (0x400000 + i)).toNat

/-- CRC-32C as the row holds it: that of its bytes, with an error of this package's, if any. -/
def rowCrc : Nat := Nat.xor (crc32c ((List.range 0x7FC).map rowBody)) Config.rowError.toNat

/-- A byte of the calibration row. -/
def rowByte (i : Nat) : Nat := if 0x7FC ≤ i then rowCrc / 256 ^ (i - 0x7FC) % 256 else rowBody i

/-- A word of the calibration row. -/
def rowWord (w : Nat) : Nat := ofLeBytes ((List.range 8).map (fun i => BitVec.ofNat 8 (rowByte (8 * w + i))))

/-- Whether the row fails the steward's check at a boot: a word reads uncorrectable at this moment, or the CRC does not match. -/
def rowFails (s : State) : Bool := (List.range 256).any (fun w => Config.rowWordBad s.free w) || Config.rowError ≠ 0

end Sys2Proof.Machine
end

