-- ==== Sys2Proof/Machine/Aes.lean ====
section
/-! DEFINITION. AES-256 in XTS mode (R195), over bytes as numbers. The key schedule, the rounds and the mode are those that the
name AES-256-XTS stands for: FIPS 197 and IEEE 1619 (PRESUMED, log entry 85). -/

namespace Sys2Proof.Machine

/-- A product in GF(2^8) under x^8 + x^4 + x^3 + x + 1: `a` times the low `n` bits of `b`. -/
def gf8Step (a b : Nat) : Nat → Nat
  | 0 => 0
  | n + 1 =>
    let r := gf8Step a (b / 2) n * 2
    let r := if 256 ≤ r then Nat.xor r 0x11B else r
    if b % 2 = 1 then Nat.xor r a else r

/-- The product in GF(2^8). -/
def gf8Mul (a b : Nat) : Nat := gf8Step a b 8

/-- The inverse in GF(2^8), 0 for 0: the power 254, by squaring. -/
def gf8Inv (a : Nat) : Nat :=
  ((List.range 7).foldl (fun (x : Nat × Nat) _ => let q := gf8Mul x.1 x.1; (q, gf8Mul x.2 q)) (a, 1)).2

/-- A byte turned left by `n` bits. -/
def rotByte (b n : Nat) : Nat := b * 2 ^ n % 256 + b * 2 ^ n / 256

/-- SubBytes of one byte: the inverse and the affine map. -/
def subByte (a : Nat) : Nat :=
  let b := gf8Inv a
  (List.range 4).foldl (fun r i => Nat.xor r (rotByte b (i + 1))) (Nat.xor b 0x63)

/-- The bitwise sum of two byte strings. -/
def xorBytes (a b : List Nat) : List Nat := List.zipWith Nat.xor a b

/-- The word that the schedule of a 256-bit key adds for word `i`, from the word before it. -/
def scheduleWord (i : Nat) (w : List Nat) : List Nat :=
  if i % 8 = 0 then xorBytes ((w.drop 1 ++ w.take 1).map subByte) [2 ^ (i / 8 - 1), 0, 0, 0]
  else if i % 8 = 4 then w.map subByte
  else w

/-- The key schedule: 60 words of four bytes. -/
def keySchedule (key : List Nat) : List (List Nat) :=
  let first := (List.range 8).map (fun i => (key.drop (4 * i)).take 4)
  (List.range 52).foldl (fun l i => l ++ [xorBytes (l.getD i []) (scheduleWord (i + 8) (l.getD (i + 7) []))]) first

/-- The 16 bytes of a round key. -/
def roundKey (ks : List (List Nat)) (r : Nat) : List Nat := ((ks.drop (4 * r)).take 4).flatten

/-- ShiftRows of a state whose columns stand one after the other. -/
def shiftRows (b : List Nat) : List Nat := (List.range 16).map (fun i => b.getD ((i + 4 * (i % 4)) % 16) 0)

/-- MixColumns. -/
def mixColumns (b : List Nat) : List Nat :=
  (List.range 16).map (fun i =>
    let c := i / 4 * 4
    let x (k : Nat) : Nat := b.getD (c + (i + k) % 4) 0
    Nat.xor (Nat.xor (gf8Mul 2 (x 0)) (gf8Mul 3 (x 1))) (Nat.xor (x 2) (x 3)))

/-- AES-256 of one block. -/
def aesBlock (ks : List (List Nat)) (b : List Nat) : List Nat :=
  let b := (List.range 13).foldl (fun b r => xorBytes (mixColumns (shiftRows (b.map subByte))) (roundKey ks (r + 1)))
    (xorBytes b (roundKey ks 0))
  xorBytes (shiftRows (b.map subByte)) (roundKey ks 14)

/-- A tweak for the next block: times α in GF(2^128), the lowest byte first. -/
def nextTweak (t : List Nat) : List Nat :=
  let d := (List.range 16).map (fun i => t.getD i 0 * 2 % 256 + (if i = 0 then 0 else t.getD (i - 1) 0 / 128))
  if 128 ≤ t.getD 15 0 then (match d with | x :: l => Nat.xor x 0x87 :: l | [] => []) else d

/-- XTS of the blocks of a data unit, from the tweak of the first. -/
def xtsBlocks (ks : List (List Nat)) : Nat → List Nat → List Nat → List Nat
  | 0, _, _ => []
  | n + 1, t, l => xorBytes (aesBlock ks (xorBytes (l.take 16) t)) t ++ xtsBlocks ks n (nextTweak t) (l.drop 16)

/-- A data unit of 4,096 bytes under two 256-bit keys and a tweak of 16 bytes (R195). -/
def xtsEncrypt (dataKey tweakKey tweak unit : List Nat) : List Nat :=
  xtsBlocks (keySchedule dataKey) 256 (aesBlock (keySchedule tweakKey) tweak) unit

end Sys2Proof.Machine
end

