-- ==== Sys2Proof/Machine/Settings.lean ====
section
/-! DEFINITION. The settings of a draft: their IDs, ranges, defaults and units (R449). -/

namespace Sys2Proof.Machine

/-- A setting of PARAM: its ID, least value, default, greatest value and grid, in the unit of R449. -/
structure Param where
  id : Nat
  min : Nat
  dflt : Nat
  max : Nat
  grid : Nat := 1
  deriving DecidableEq, Repr

/-- The ID of vinWarn (R449). -/
abbrev P.vinWarn : Nat := 0x100
/-- The ID of vinPfail (R449). -/
abbrev P.vinPfail : Nat := 0x101
/-- The ID of vinHyst (R449). -/
abbrev P.vinHyst : Nat := 0x102
/-- The ID of specHorizon (R449). -/
abbrev P.specHorizon : Nat := 0x103
/-- The ID of specAbandon (R449). -/
abbrev P.specAbandon : Nat := 0x104
/-- The ID of specMax (R449). -/
abbrev P.specMax : Nat := 0x105
/-- The ID of pfFilter (R449). -/
abbrev P.pfFilter : Nat := 0x106
/-- The ID of window (R449). -/
abbrev P.window : Nat := 0x107
/-- The ID of windowPower (R449). -/
abbrev P.windowPower : Nat := 0x108
/-- The ID of rebootMax (R449). -/
abbrev P.rebootMax : Nat := 0x109
/-- The ID of rebootTimeout (R449). -/
abbrev P.rebootTimeout : Nat := 0x10A
/-- The ID of coolWait (R449). -/
abbrev P.coolWait : Nat := 0x10B
/-- The ID of thermalHoldMax (R449). -/
abbrev P.thermalHoldMax : Nat := 0x10C
/-- The ID of vaultThrottleTargets (R449). -/
abbrev P.vaultThrottleTargets : Nat := 0x10D
/-- The ID of postVault (R449). -/
abbrev P.postVault : Nat := 0x10E
/-- The ID of holdMax (R449). -/
abbrev P.holdMax : Nat := 0x10F
/-- The ID of restartFilter (R449). -/
abbrev P.restartFilter : Nat := 0x110
/-- The ID of hbTimeout (R449). -/
abbrev P.hbTimeout : Nat := 0x111
/-- The ID of unsealedPolicy (R449). -/
abbrev P.unsealedPolicy : Nat := 0x112
/-- The ID of vaultStartEnergy (R449). -/
abbrev P.vaultStartEnergy : Nat := 0x113
/-- The ID of pfailReserve (R449). -/
abbrev P.pfailReserve : Nat := 0x114

/-- The vault settings (R183, R64, R126, R127). -/
def params1 : List Param :=
  [{ id := 0x100, min := 300, dflt := 350, max := 450 },
   { id := 0x101, min := 280, dflt := 320, max := 400 },
   { id := 0x102, min := 5, dflt := 20, max := 50 },
   { id := 0x103, min := 1, dflt := 20, max := 100 },
   { id := 0x104, min := 1, dflt := 10, max := 100 },
   { id := 0x105, min := 1, dflt := 50, max := 600 },
   { id := 0x106, min := 1, dflt := 10, max := 100 },
   { id := 0x107, min := 0, dflt := 5, max := 20 },
   { id := 0x108, min := 1, dflt := 400, max := 2000 },
   { id := 0x109, min := 0, dflt := 3, max := 7 },
   { id := 0x10A, min := 20, dflt := 200, max := 500 },
   { id := 0x10B, min := 1, dflt := 20, max := 120 },
   { id := 0x10C, min := 0, dflt := 3, max := 7 },
   { id := 0x10D, min := 1, dflt := 4, max := 8 },
   { id := 0x10E, min := 0, dflt := 0, max := 1 },
   { id := 0x10F, min := 0, dflt := 0, max := 72 },
   { id := 0x110, min := 10, dflt := 100, max := 1000 },
   { id := 0x111, min := 2, dflt := 5, max := 20 },
   { id := 0x112, min := 1, dflt := 1, max := 2 },
   { id := 0x113, min := 0, dflt := 500, max := 5000 },
   { id := 0x114, min := 16, dflt := 64, max := 1024 }]

/-- The ID of margin (R449). -/
abbrev P.margin : Nat := 0x200
/-- The ID of stageMinAge (R449). -/
abbrev P.stageMinAge : Nat := 0x201
/-- The ID of stageRateMax (R449). -/
abbrev P.stageRateMax : Nat := 0x202
/-- The ID of knotTimeout (R449). -/
abbrev P.knotTimeout : Nat := 0x203
/-- The ID of epbGuard (R449). -/
abbrev P.epbGuard : Nat := 0x204
/-- The ID of reefHoldMax (R449). -/
abbrev P.reefHoldMax : Nat := 0x205
/-- The ID of budgetRecover (R449). -/
abbrev P.budgetRecover : Nat := 0x206
/-- The ID of boostOn (R449). -/
abbrev P.boostOn : Nat := 0x207
/-- The ID of boostOff (R449). -/
abbrev P.boostOff : Nat := 0x208
/-- The ID of l1On (R449). -/
abbrev P.l1On : Nat := 0x209
/-- The ID of l1Off (R449). -/
abbrev P.l1Off : Nat := 0x20A
/-- The ID of l2On (R449). -/
abbrev P.l2On : Nat := 0x20B
/-- The ID of l2Off (R449). -/
abbrev P.l2Off : Nat := 0x20C
/-- The ID of l3Off (R449). -/
abbrev P.l3Off : Nat := 0x20D
/-- The ID of govRate (R449). -/
abbrev P.govRate : Nat := 0x20E
/-- The ID of govDepth (R449). -/
abbrev P.govDepth : Nat := 0x20F
/-- The ID of scrubPeriod (R449). -/
abbrev P.scrubPeriod : Nat := 0x210
/-- The ID of pslcCycles (R449). -/
abbrev P.pslcCycles : Nat := 0x211

/-- The staging and budget settings (R34, R35, R104, R119, R124, R128, R132, R136, R220, R112). -/
def params2 : List Param :=
  [{ id := 0x200, min := 32, dflt := 128, max := 512 },
   { id := 0x201, min := 0, dflt := 100, max := 10000 },
   { id := 0x202, min := 1, dflt := 100, max := 400 },
   { id := 0x203, min := 2, dflt := 10, max := 50 },
   { id := 0x204, min := 0, dflt := 15, max := 40 },
   { id := 0x205, min := 1, dflt := 10, max := 50 },
   { id := 0x206, min := 50, dflt := 500, max := 5000 },
   { id := 0x207, min := 1, dflt := 500, max := 999 },
   { id := 0x208, min := 1, dflt := 400, max := 999 },
   { id := 0x209, min := 1, dflt := 750, max := 999 },
   { id := 0x20A, min := 1, dflt := 700, max := 999 },
   { id := 0x20B, min := 1, dflt := 900, max := 999 },
   { id := 0x20C, min := 1, dflt := 850, max := 999 },
   { id := 0x20D, min := 1, dflt := 950, max := 999 },
   { id := 0x20E, min := 0, dflt := 0, max := 40000 },
   { id := 0x20F, min := 1, dflt := 65536, max := 1048576 },
   { id := 0x210, min := 1, dflt := 24, max := 168 },
   { id := 0x211, min := 1000, dflt := 20000, max := 100000 }]

/-- The ID of vcoreNormal (R449). -/
abbrev P.vcoreNormal : Nat := 0x300
/-- The ID of vminVault (R449). -/
abbrev P.vminVault : Nat := 0x301
/-- The ID of vfall (R449). -/
abbrev P.vfall : Nat := 0x302
/-- The ID of railSlew (R449). -/
abbrev P.railSlew : Nat := 0x303
/-- The ID of loopWindow (R449). -/
abbrev P.loopWindow : Nat := 0x304
/-- The ID of upStep (R449). -/
abbrev P.upStep : Nat := 0x305
/-- The ID of slackDown (R449). -/
abbrev P.slackDown : Nat := 0x306
/-- The ID of engageStep (R449). -/
abbrev P.engageStep : Nat := 0x307
/-- The ID of engageDwell (R449). -/
abbrev P.engageDwell : Nat := 0x308
/-- The ID of shuttleStrikes (R449). -/
abbrev P.shuttleStrikes : Nat := 0x309

/-- The rail governor settings (R271). -/
def params3 : List Param :=
  [{ id := 0x300, min := 100, dflt := 140, max := 180 },
   { id := 0x301, min := 0, dflt := 0, max := 140 },
   { id := 0x302, min := 40, dflt := 60, max := 180 },
   { id := 0x303, min := 0, dflt := 1, max := 2 },
   { id := 0x304, min := 20, dflt := 50, max := 200 },
   { id := 0x305, min := 1, dflt := 4, max := 16 },
   { id := 0x306, min := 2, dflt := 8, max := 30 },
   { id := 0x307, min := 4, dflt := 32, max := 40 },
   { id := 0x308, min := 10, dflt := 10, max := 100 },
   { id := 0x309, min := 1, dflt := 3, max := 7 }]

/-- The ID of ibusPhases (R449). -/
abbrev P.ibusPhases : Nat := 0x500
/-- The ID of ibusFreq (R449). -/
abbrev P.ibusFreq : Nat := 0x501
/-- The ID of ibusNominal (R449). -/
abbrev P.ibusNominal : Nat := 0x502
/-- The ID of ibusHold (R449). -/
abbrev P.ibusHold : Nat := 0x503
/-- The ID of phaseImax (R449). -/
abbrev P.phaseImax : Nat := 0x504
/-- The ID of phaseL (R449). -/
abbrev P.phaseL : Nat := 0x505
/-- The ID of trimMax (R449). -/
abbrev P.trimMax : Nat := 0x506
/-- The ID of huIlim (R449). -/
abbrev P.huIlim : Nat := 0x507
/-- The ID of vcorePhases (R449). -/
abbrev P.vcorePhases : Nat := 0x508
/-- The ID of vcoreFreq (R449). -/
abbrev P.vcoreFreq : Nat := 0x509
/-- The ID of vcorePhaseImax (R449). -/
abbrev P.vcorePhaseImax : Nat := 0x50A
/-- The ID of vcoreL (R449). -/
abbrev P.vcoreL : Nat := 0x50B
/-- The ID of groupDelay (R449). -/
abbrev P.groupDelay : Nat := 0x50C

/-- The power tree settings (R330, R333 to R336, R343, R348). -/
def params5 : List Param :=
  [{ id := 0x500, min := 1, dflt := 1, max := 8 },
   { id := 0x501, min := 200, dflt := 400, max := 800, grid := 10 },
   { id := 0x502, min := 5000, dflt := 12000, max := 13200, grid := 25 },
   { id := 0x503, min := 5000, dflt := 12000, max := 13200, grid := 25 },
   { id := 0x504, min := 5, dflt := 5, max := 60 },
   { id := 0x505, min := 10, dflt := 10, max := 255 },
   { id := 0x506, min := 1, dflt := 4, max := 10 },
   { id := 0x507, min := 10, dflt := 60, max := 100 },
   { id := 0x508, min := 1, dflt := 1, max := 4 },
   { id := 0x509, min := 500, dflt := 800, max := 1200, grid := 10 },
   { id := 0x50A, min := 5, dflt := 5, max := 100 },
   { id := 0x50B, min := 10, dflt := 10, max := 255 },
   { id := 0x50C, min := 1, dflt := 10, max := 100 }]

/-- The ID of chgCurrent (R449). -/
abbrev P.chgCurrent : Nat := 0x600
/-- The ID of iTerm (R449). -/
abbrev P.iTerm : Nat := 0x601
/-- The ID of rechargeSoc (R449). -/
abbrev P.rechargeSoc : Nat := 0x602
/-- The ID of chgPinMax (R449). -/
abbrev P.chgPinMax : Nat := 0x603
/-- The ID of chgTimeout (R449). -/
abbrev P.chgTimeout : Nat := 0x604
/-- The ID of balDelta (R449). -/
abbrev P.balDelta : Nat := 0x605
/-- The ID of iQuiet (R449). -/
abbrev P.iQuiet : Nat := 0x606
/-- The ID of vaultPower (R449). -/
abbrev P.vaultPower : Nat := 0x607
/-- The ID of srPower (R449). -/
abbrev P.srPower : Nat := 0x608
/-- The ID of srReserveTime (R449). -/
abbrev P.srReserveTime : Nat := 0x609
/-- The ID of impMaxAge (R449). -/
abbrev P.impMaxAge : Nat := 0x60A
/-- The ID of restTime (R449). -/
abbrev P.restTime : Nat := 0x60B
/-- The ID of ocvSlopeMin (R449). -/
abbrev P.ocvSlopeMin : Nat := 0x60C
/-- The ID of exercisePeriod (R449). -/
abbrev P.exercisePeriod : Nat := 0x60D
/-- The ID of exerCurrent (R449). -/
abbrev P.exerCurrent : Nat := 0x60E
/-- The ID of exerGrantWait (R449). -/
abbrev P.exerGrantWait : Nat := 0x60F
/-- The ID of learnOverdue (R449). -/
abbrev P.learnOverdue : Nat := 0x610
/-- The ID of fadeCal (R449). -/
abbrev P.fadeCal : Nat := 0x611
/-- The ID of fadeCyc (R449). -/
abbrev P.fadeCyc : Nat := 0x612
/-- The ID of profile (R449). -/
abbrev P.profile : Nat := 0x613

/-- The store and gauge settings (R388, R376). -/
def params6 : List Param :=
  [{ id := 0x600, min := 5, dflt := 50, max := 100 },
   { id := 0x601, min := 5, dflt := 20, max := 100 },
   { id := 0x602, min := 80, dflt := 97, max := 99 },
   { id := 0x603, min := 20, dflt := 200, max := 500 },
   { id := 0x604, min := 1, dflt := 10, max := 48 },
   { id := 0x605, min := 5, dflt := 10, max := 50 },
   { id := 0x606, min := 1, dflt := 20, max := 500 },
   { id := 0x607, min := 5, dflt := 45, max := 200 },
   { id := 0x608, min := 1, dflt := 1, max := 200 },
   { id := 0x609, min := 0, dflt := 60, max := 3600 },
   { id := 0x60A, min := 1, dflt := 24, max := 168 },
   { id := 0x60B, min := 10, dflt := 60, max := 720 },
   { id := 0x60C, min := 5, dflt := 20, max := 200 },
   { id := 0x60D, min := 0, dflt := 90, max := 365 },
   { id := 0x60E, min := 5, dflt := 20, max := 100 },
   { id := 0x60F, min := 1, dflt := 24, max := 168 },
   { id := 0x610, min := 10, dflt := 120, max := 1000 },
   { id := 0x611, min := 0, dflt := 60, max := 2000 },
   { id := 0x612, min := 0, dflt := 200, max := 5000 },
   { id := 0x613, min := 0, dflt := 1, max := 1 }]

/-- The ID of thmHyst (R449). -/
abbrev P.thmHyst : Nat := 0x700
/-- The ID of thmHold (R449). -/
abbrev P.thmHold : Nat := 0x701
/-- The ID of substMargin (R449). -/
abbrev P.substMargin : Nat := 0x702
/-- The ID of dieRateMax (R449). -/
abbrev P.dieRateMax : Nat := 0x703
/-- The ID of storeRateMax (R449). -/
abbrev P.storeRateMax : Nat := 0x704

/-- The thermal settings (R394, R397, R398, R401). -/
def params7 : List Param :=
  [{ id := 0x700, min := 2, dflt := 3, max := 10 },
   { id := 0x701, min := 1, dflt := 10, max := 120 },
   { id := 0x702, min := 5, dflt := 10, max := 30 },
   { id := 0x703, min := 2, dflt := 10, max := 50 },
   { id := 0x704, min := 5, dflt := 20, max := 100 }]

/-- The ID of shadowSettle (R449). -/
abbrev P.shadowSettle : Nat := 0x800
/-- The ID of stormLimit (R449). -/
abbrev P.stormLimit : Nat := 0x801
/-- The ID of belaySettle (R449). -/
abbrev P.belaySettle : Nat := 0x802
/-- The ID of belayRecoverMax (R449). -/
abbrev P.belayRecoverMax : Nat := 0x803

/-- The collector settings (R441). -/
def params8 : List Param :=
  [{ id := 0x800, min := 1, dflt := 100, max := 1000 },
   { id := 0x801, min := 2, dflt := 8, max := 64 },
   { id := 0x802, min := 1, dflt := 100, max := 1000 },
   { id := 0x803, min := 0, dflt := 2, max := 7 }]

/-- Every setting of R449, in ascending ID. -/
def params : List Param := params1 ++ params2 ++ params3 ++ params5 ++ params6 ++ params7 ++ params8

/-- The settings that have no default: a draft carries a record for each (R449). -/
def paramsRequired : List Nat :=
  [P.srPower, P.ibusPhases, P.phaseImax, P.phaseL, P.vcorePhases, P.vcorePhaseImax, P.vcoreL]

/-- The row of a setting. -/
def paramRow (id : Nat) : Option Param := params.find? (·.id = id)

/-- A setting's default. -/
def paramDefault (id : Nat) : Nat := match paramRow id with | some p => p.dflt | none => 0

/-- A setting in a draft: its record, and otherwise its default; ibus_hold's default is ibus_nominal
(R334, R449). -/
def Draft.setting (d : Draft) (id : Nat) : Nat :=
  match d.params.find? (·.1 = id) with
  | some r => r.2
  | none =>
    if id = P.ibusHold then
      (match d.params.find? (·.1 = P.ibusNominal) with | some r => r.2 | none => paramDefault P.ibusNominal)
    else paramDefault id

/-- A setting of the active draft; without a draft, its default. -/
def setting (s : State) (id : Nat) : Nat :=
  match s.drf.active with
  | some d => d.setting id
  | none => paramDefault id

/-- Protected capacity C in granules (R80); 0 without a draft. -/
def capGranules (s : State) : Nat := match s.drf.active with | some d => d.dram.cGib * 262144 | none => 0

/-- C in GiB. -/
def cGib (s : State) : Nat := match s.drf.active with | some d => d.dram.cGib | none => 0

/-- S(C) in bytes for C in GiB (R81). -/
def systemBytes (cGib : Nat) : Nat :=
  let c := cGib * 2 ^ 30
  divUp (2 ^ 25 + c / 8192 + c / 512) (2 ^ 26) * 2 ^ 26

/-- A bolt of the active draft (R452). -/
def bolt (s : State) (n : Nat) : Option BoltRec :=
  match s.drf.active with
  | some d => match d.bolts[n]? with | some b => if b.present then some b else none | none => none
  | none => none

/-- The bolt that holds a granule (R86). -/
def boltOf (s : State) (g : Nat) : Nat :=
  match s.drf.active with
  | some d =>
    match (List.range 63).find? (fun n => match d.bolts[n]? with
      | some b => b.present && decide (b.base * 65536 ≤ g) && decide (g < (b.base + b.size) * 65536)
      | none => false) with
    | some n => n
    | none => 63
  | none => 63

/-- Whether a bolt is duplex (R87, R452). -/
def isDuplex (s : State) (n : Nat) : Bool :=
  n = 63 || (match bolt s n with | some b => b.duplex | none => false)

/-- A bolt's priority; the system bolt's is 15 (R452). -/
def priorityOf (s : State) (n : Nat) : Nat := match bolt s n with | some b => b.priority | none => 15

end Sys2Proof.Machine
end

