-- ==== Sys2Proof/Machine/Ddr.lean ====
section
/-! DEFINITION. Where the engine puts an engine-internal address in DDR5 (R82, R83), and what the code of a 64-byte burst
makes of an error (R99). -/

namespace Sys2Proof.Machine

/-! ### Places (R83) -/

/-- Whether four channels are populated; without a draft four (R76). -/
def fourChannels (s : State) : Bool := match s.drf.active with | some d => d.dram.channels = 0x0F | none => true

/-- The channel of an engine-internal address (R83). -/
def ddrChannel (s : State) (a : Nat) : Nat := if fourChannels s then bitsOf a 10 9 else 2 * bitsOf a 9 9

/-- The subchannel of an engine-internal address: 0 is A, 1 is B (R83). -/
def ddrSubchannel (a : Nat) : Nat := bitsOf a 8 8

/-- The per-subchannel address of an engine-internal address (R83). -/
def ddrAddress (s : State) (a : Nat) : Nat := a / (if fourChannels s then 2 ^ 11 else 2 ^ 10) * 256 + a % 256

/-- Where a byte lies in DDR5. -/
structure DdrPlace where
  channel : Nat
  subchannel : Nat
  rank : Nat
  row : Nat
  bank : Nat
  group : Nat
  column : Nat
  deriving DecidableEq, Repr

/-- Bytes of one rank of a subchannel: its 32 data bits come from 32 / width devices (R76, R77). -/
def rankBytes (d : DramSec) : Nat := d.density * 2 ^ 27 * (32 / d.width)

/-- The place of an engine-internal address (R83): the per-subchannel address is split from below into column, bank group,
bank and row, and the rank lies above. The spec gives the fields no widths: they are free values by device width and
density. With 24-Gbit devices a rank is no power of two, and the rank of two is the quotient by a rank's size, where R83 names one
bit (DESIGN CHOICE, log entry 44). -/
def ddrPlace (d : DramSec) (s : State) (a : Nat) : DdrPlace :=
  let x := ddrAddress s a
  let c := Config.columnBits d.width d.density
  let g := Config.groupBits d.width d.density
  let b := Config.bankBits d.width d.density
  let inRank := if d.ranks = 2 then x % rankBytes d else x
  { channel := ddrChannel s a, subchannel := ddrSubchannel a, rank := if d.ranks = 2 then x / rankBytes d else 0,
    row := inRank / 2 ^ (c + g + b), bank := inRank / 2 ^ (c + g) % 2 ^ b, group := inRank / 2 ^ c % 2 ^ g,
    column := inRank % 2 ^ c }

/-- The channel that holds a line. -/
def lineChannel (line : Nat) (s : State) : Nat := ddrChannel s (64 * line)

/-! ### The system region (R82) -/

/-- The layout of the system region for a capacity of `c` bytes: offset and size of each part in the order of R82's
table. -/
def regionLayout (c : Nat) : List (Nat × Nat) :=
  [(0, 0x1000), (0x1000, 0x1000), (0x2000, 0x20000), (0x22000, 0xDE000), (0x100000, 0x100000), (0x200000, 0x800000),
   (0xA00000, 0x1600000), (0x2000000, c / 8192), (0x2000000 + c / 8192, c / 512),
   (0x2000000 + c / 8192 + c / 512, systemBytes (c / 2 ^ 30) - (0x2000000 + c / 8192 + c / 512))]

/-- The region header that a draft asks for (R82, R465). -/
def regionHeader (d : Draft) : RegionHeader :=
  { cGib := d.dram.cGib, layout := regionLayout (d.dram.cGib * 2 ^ 30), generation := d.generation }

/-! ### The code of a burst (R99) -/

/-- Whether the draft declares x8 devices. -/
def byEight (s : State) : Bool := match s.drf.active with | some d => d.dram.width = 8 | none => false

/-- What the code makes of a burst (R99): x4 devices have every error of one device corrected and every error of two
detected, x8 devices every error of one half corrected and every error of one device detected. -/
def eccOf (x8 : Bool) : Burst → Ecc
  | .good => .ok
  | .half => .corrected
  | .device => if x8 then .uncorrectable else .corrected
  | .twoDevices found => if x8 then found else .uncorrectable
  | .wider found => found

end Sys2Proof.Machine
end

