-- ==== Sys2Proof/Machine/MonBase.lean ====
section
/-! DEFINITION. Taking monitor samples (R518 to R523). -/

namespace Sys2Proof.Machine

/-- The greatest index of each measurand of R518. -/
def measurandIndexes : List Nat := [255, 0, 11, 11, 0, 0, 0, 0, 0, 0, 0, 11, 1, 4]

/-- CODE of MON_CFG. -/
def monCode (cfg : Nat) : Nat := bitsOf cfg 27 22

/-- INDEX of MON_CFG. -/
def monIndex (cfg : Nat) : Nat := bitsOf cfg 21 16

/-- Whether CODE and INDEX select a measurand (ACTIVE). -/
def monActive (cfg : Nat) : Bool :=
  match measurandIndexes[monCode cfg]? with
  | some i => decide (monCode cfg ≠ 0) && decide (monIndex cfg ≤ i)
  | none => false

/-- The bin of a value (R519). -/
def binOf (cfg v : Nat) : Nat :=
  let l := bitsOf cfg 15 0
  if v < l then 0 else Nat.min 15 ((v - l) / 2 ^ bitsOf cfg 31 28 + 1)

/-- One sample into a monitor, in one step (R519, R520). -/
def takeValue (v : Nat) (m : Monitor) : Monitor :=
  let k := binOf m.cfg v
  { m with
    min := Nat.min m.min v, max := Nat.max m.max v, count := satAdd max32 m.count 1,
    sat := m.sat || decide (max32 ≤ m.count + 1) || decide (max32 ≤ tget 0 m.bins k + 1),
    bins := tput 0 k (satAdd max32 (tget 0 m.bins k) 1) m.bins }

/-- Whether a monitor watches a measurand at an index. -/
def watches (code index : Nat) (m : Monitor) : Bool :=
  monActive m.cfg && decide (monCode m.cfg = code) && decide (monIndex m.cfg = index)

/-- How many monitors watch it; none without the engine (R523). -/
def watchers (code index : Nat) (s : State) : Nat :=
  if s.warm.engineUp then (s.mon.mons.filter (fun e => watches code index e.2)).length else 0

/-- A sample of a measurand, at most 65,535 (R518); during a freeze it is only counted (R522). -/
def sample (code index value : Nat) (s : State) : State :=
  let v := Nat.min value 65535
  let n := watchers code index s
  if n = 0 then s
  else if s.mon.freeze then { s with mon := { s.mon with drops := satAdd max32 s.mon.drops n } }
  else { s with mon := { s.mon with mons := s.mon.mons.map (fun e => if watches code index e.2 then (e.1, takeValue v e.2) else e) } }

/-- A sample of a duration that no command carries: a free value. -/
def sampleFree (code index : Nat) (s : State) : State :=
  if watchers code index s = 0 then s else nextFree (sample code index (Config.freeNat s.free) s)

/-- A sample of the time since an instant of the engine's copy, in µs. -/
def sampleSince (code index since : Nat) (s : State) : State := sample code index ((engineNow s - since) / 1000) s

/-- Whether samples that a monitor takes are lost with the link: codes 11 and 12, and code 13 of zones 3 and 4 (R523). -/
def losesSamples (m : Monitor) : Bool :=
  let c := monCode m.cfg
  c = 11 || c = 12 || (c = 13 && (monIndex m.cfg = 3 || monIndex m.cfg = 4))

/-- Samples lost while the link is down: GAP of the monitors of the power controller's measurands (R523). -/
def gapMonitors (s : State) : State :=
  { s with mon := { s.mon with mons := s.mon.mons.map (fun e =>
      if losesSamples e.2 then (e.1, { e.2 with gap := true }) else e) } }

end Sys2Proof.Machine
end

