-- ==== Sys2Proof/Machine/DraftFormat.lean ====
section
/-! DEFINITION. The draft's format: reading it from the bytes of a slot and the check of R457. -/

namespace Sys2Proof.Machine

/-- A draft's bytes as read from its slot. -/
abbrev Reader := Nat → Nat

/-- A little-endian number of `n` bytes at `o` (R10). -/
def rdLe (rd : Reader) : Nat → Nat → Nat
  | 0, _ => 0
  | n + 1, o => rd o + 256 * rdLe rd n (o + 1)

/-- The bytes from `o` on. -/
def rdBytes (rd : Reader) (o n : Nat) : List Nat := (List.range n).map (fun i => rd (o + i))

/-- Whether `n` bytes from `o` are all 0 (reserved bytes, R457 step 5). -/
def rdZero (rd : Reader) (o n : Nat) : Bool := (List.range n).all (fun i => rd (o + i) = 0)

/-- A complement pair of `n` bytes each (R11). -/
def rdPair (rd : Reader) (n o : Nat) : Bool := rdLe rd n o + rdLe rd n (o + n) = 256 ^ n - 1

/-- A byte as two's complement. -/
def rdS8 (rd : Reader) (o : Nat) : Int := toSigned 8 (rd o)

/-- The bytes at `o` as numbers of two bytes. -/
def rdU16s (rd : Reader) (o n : Nat) : List Nat := (List.range n).map (fun i => rdLe rd 2 (o + 2 * i))

/-- One condition of the check: whether it holds, the step, the section TYPE and the record. -/
abbrev Check := Bool × Nat × Nat × Nat

/-- The first condition that fails. -/
def firstBad (l : List Check) : Option (Nat × Nat × Nat) := (l.find? (fun c => !c.1)).map (·.2)

/-- An entry of the section table (R446). -/
structure Section where
  type : Nat
  flags : Nat
  offset : Nat
  length : Nat
  crc : Nat
  deriving DecidableEq, Repr

/-- The section table. -/
def sectionsOf (rd : Reader) : List Section :=
  (List.range (rdLe rd 2 24)).map (fun i =>
    let o := 64 + 16 * i
    { type := rdLe rd 2 o, flags := rdLe rd 2 (o + 2), offset := rdLe rd 4 (o + 4), length := rdLe rd 4 (o + 8),
      crc := rdLe rd 4 (o + 12) })

/-- FLAGS of a section TYPE (R447): [0] ENGINE, [1] STRUCTURAL. -/
def sectionFlags (t : Nat) : Nat :=
  if t = 1 then 1 else if t = 2 then 3 else if t = 3 then 3 else if t = 4 then 3 else if t = 5 then 1
  else if t = 6 then 1 else if t = 7 then 1 else if t = 11 then 1 else 0

/-- Whether a section's length is one that R447 allows; `desc` is DESC_COUNT of NAND. -/
def sectionLength (t len desc : Nat) : Bool :=
  if t = 1 then len % 8 = 0 else if t = 2 then len = 48 else if t = 3 then len = 112 + 128 * desc
  else if t = 4 then len = 4096 else if t = 5 then len = 48 else if t = 6 then len = 32 else if t = 7 then len = 512
  else if t = 8 then len = 208 else if t = 9 then len = 144 else if t = 10 then len = 1240 else len = 1280

/-- The section of a TYPE. -/
def sectionOf (l : List Section) (t : Nat) : Option Section := l.find? (·.type = t)

/-- The offset of a section, 0 when absent. -/
def sectionAt (l : List Section) (t : Nat) : Nat := match sectionOf l t with | some x => x.offset | none => 0

/-- Step 1 of R457. -/
def checkHeader (rd : Reader) : List Check :=
  [(rdLe rd 4 0 = 0x54465244, 1, 0, 0), (rdLe rd 2 4 = 1, 1, 0, 0), (rd 28 = 0xB0, 1, 0, 0),
   (rdPair rd 2 4, 1, 0, 0), (rdPair rd 4 8, 1, 0, 0), (rdPair rd 4 16, 1, 0, 0), (rdPair rd 2 24, 1, 0, 0),
   (rdPair rd 1 28, 1, 0, 0), (rdPair rd 4 32, 1, 0, 0),
   (crc32c (rdBytes rd 0 60) = rdLe rd 4 60, 1, 0, 0),
   (rdLe rd 4 16 % 8 = 0 && rdLe rd 4 16 ≤ 65528, 1, 0, 0), (rdLe rd 4 8 ≠ 0, 1, 0, 0)]

/-- Whether two ranges share a byte. -/
def overlap (a an b bn : Nat) : Bool := decide (a < b + bn) && decide (b < a + an)

/-- Whether keys rise strictly. -/
def rising : List Nat → Bool
  | a :: b :: t => decide (a < b) && rising (b :: t)
  | _ => true

/-- Step 2 of R457. -/
def checkTable (rd : Reader) (len : Nat) (l : List Section) : List Check :=
  let desc := rd (sectionAt l 3 + 4)
  [(rdLe rd 2 24 = 10 || rdLe rd 2 24 = 11, 2, 0, 0), (rising (l.map (·.type)), 2, 0, 0),
   ([1, 2, 3, 4, 5, 6, 8, 9, 10, 11].all (fun t => (sectionOf l t).isSome), 2, 0, 0)] ++
  (List.range l.length).map (fun i => match l[i]? with
    | some x =>
      ((decide (1 ≤ x.type) && decide (x.type ≤ 11)) && x.flags = sectionFlags x.type && x.offset % 8 = 0 &&
        decide (64 + 16 * l.length ≤ x.offset) && decide (x.offset + x.length ≤ len) &&
        sectionLength x.type x.length desc &&
        (List.range i).all (fun j => match l[j]? with
          | some y => !overlap x.offset x.length y.offset y.length | none => true), 2, 0, i)
    | none => (true, 2, 0, i))

/-- Step 3 of R457. -/
def checkCrcs (rd : Reader) (l : List Section) : List Check :=
  l.map (fun x => (crc32c (rdBytes rd x.offset x.length) = x.crc, 3, x.type, 0))

/-- The bytes of the BOLT section with CAP_GRANULES read as 0 (R448). -/
def boltDigestBytes (rd : Reader) (o : Nat) : List Nat :=
  (List.range 4096).map (fun i => if 8 ≤ i % 64 && i % 64 < 12 then 0 else rd (o + i))

/-- The structural digest (R448). -/
def structDigest (rd : Reader) (l : List Section) : Nat :=
  match sectionOf l 2, sectionOf l 3 with
  | some a, some b =>
    crc32c (rdBytes rd a.offset a.length ++ rdBytes rd b.offset b.length ++ boltDigestBytes rd (sectionAt l 4))
  | _, _ => 0

/-- The records of PARAM (R449). -/
def paramsOf (rd : Reader) (l : List Section) : List (Nat × Nat) :=
  match sectionOf l 1 with
  | some x => (List.range (x.length / 8)).map (fun i => (rdLe rd 2 (x.offset + 8 * i), rdLe rd 4 (x.offset + 8 * i + 4)))
  | none => []

/-- The DRAM section (R450). -/
def dramOf (rd : Reader) (o : Nat) : DramSec :=
  { cGib := rdLe rd 2 o, vaultRate := rd (o + 2), channels := rd (o + 3), rdimm := rd (o + 4) = 1,
    ranks := rd (o + 5), width := rd (o + 6), density := rd (o + 7), rate := rd (o + 8) }

/-- Installed capacity M in GiB of a DRAM section (R77). -/
def installedGib (d : DramSec) : Nat :=
  d.density * (if d.width = 4 then 2 else 1) * d.ranks * (if d.channels = 0x0F then 4 else 2)

/-- The largest data rate of R77 in units of 100 MT/s. -/
def rateMax (d : DramSec) : Nat := if d.ranks = 1 then 64 else if d.rdimm then 56 else 60

/-- A target descriptor (R451). -/
def descOf (rd : Reader) (o : Nat) : Desc :=
  { mfr := rd o, device := rdLe rd 3 (o + 1), luns := rd (o + 4), planes := rd (o + 5), blocks := rdLe rd 2 (o + 6),
    pages := rdLe rd 2 (o + 8), spare := rdLe rd 2 (o + 10), tProg := rdLe rd 2 (o + 12), tR := rdLe rd 2 (o + 14),
    tBers := rdLe rd 2 (o + 16), pslcMethod := rd (o + 18), pslcCmd := rd (o + 19), pslcFa := rd (o + 20),
    pslcP := rdLe rd 4 (o + 21), drive := rd (o + 26), odt := rd (o + 27),
    retry := (List.range (rd (o + 25))).map (fun r => (rd (o + 64 + 8 * r), rdLe rd 4 (o + 65 + 8 * r))) }

/-- The NAND section (R451). -/
def nandOf (rd : Reader) (o : Nat) : NandSec :=
  { chMask := rdLe rd 2 o, mode := rd (o + 2), rate := rd (o + 3), targets := rdBytes rd (o + 16) 96,
    descs := (List.range (rd (o + 4))).map (fun k => descOf rd (o + 112 + 128 * k)) }

/-- The BOLT section (R452). -/
def boltsOf (rd : Reader) (o : Nat) : List BoltRec :=
  (List.range 64).map (fun n =>
    let p := o + 64 * n
    { present := rd p = 1, priority := rd (p + 1), duplex := rd (p + 2) = 1, base := rdLe rd 2 (p + 4),
      size := rdLe rd 2 (p + 6), cap := rdLe rd 4 (p + 8), name := rdLe rd 16 (p + 12) })

/-- The CXL section (R454). -/
def cxlOf (rd : Reader) (o : Nat) : CxlSec :=
  { vendor := rdLe rd 2 o, device := rdLe rd 2 (o + 2), subVendor := rdLe rd 2 (o + 4), subsys := rdLe rd 2 (o + 6),
    serial := rdLe rd 8 (o + 8), width := rd (o + 16), speed := rd (o + 17) }

/-- The MON section (R455); without one every monitor is off. -/
def monOf (rd : Reader) (l : List Section) : List MonRec :=
  match sectionOf l 7 with
  | some x => (List.range 64).map (fun m =>
      let p := x.offset + 8 * m
      { code := rdLe rd 2 p, index := rd (p + 2), lower := rdLe rd 2 (p + 4), exp := rd (p + 6) })
  | none => []

/-- A domain record of POWER (R456). -/
def domOf (rd : Reader) (p : Nat) : DomRec :=
  { present := rd p = 1, discharge := rd (p + 1) = 1, track := rd (p + 2), partner := rd (p + 3),
    target := rdLe rd 2 (p + 4), pgPct := rd (p + 6), pgTimeout := rd (p + 7), ramp := rdLe rd 2 (p + 8) }

/-- The STORE section. -/
def storeOf (rd : Reader) (o : Nat) : StoreSec :=
  { chem := rd o, cells := rd (o + 1), thermMask := rd (o + 3), cvMv := rdLe rd 2 (o + 4), emptyMv := rdLe rd 2 (o + 6),
    floorMv := rdLe rd 2 (o + 8), shunt := rdLe rd 2 (o + 10), chgLo := rdS8 rd (o + 12), chgHi := rdS8 rd (o + 13),
    coldT := rdS8 rd (o + 14), coldMa := rdLe rd 2 (o + 16), rInit := rdLe rd 2 (o + 18), ocv := rdU16s rd (o + 20) 33,
    tfac := rdU16s rd (o + 88) 12, rfac := rdU16s rd (o + 112) 12, ratedMc := rdLe rd 4 (o + 136) }

/-- An input record of THERM. -/
def thermOf (rd : Reader) (p : Nat) : ThermIn :=
  { zone := rd p,
    nbrs := (List.range (rd (p + 1))).map (fun i => (rd (p + 4 + i), rd (p + 8 + i))),
    bias := rdLe rd 4 (p + 12), table := (List.range 33).map (fun k => rdLe rd 4 (p + 16 + 4 * k)) }

/-- A source record of FAULT. -/
def faultOf (rd : Reader) (p : Nat) : FaultRec :=
  { sev := rd p, unit := rd (p + 1), alert := bitOf (rd (p + 2)) 0, set := rd (p + 3) }

/-- The ENGINE sections (R447, R465): TYPE, OFFSET, LENGTH, CRC. -/
def engineSections (l : List Section) : List (Nat × Nat × Nat × Nat) :=
  (l.filter (fun x => bitOf x.flags 0)).map (fun x => (x.type, x.offset, x.length, x.crc))

/-- Reads a draft whose header and table are good. -/
def draftOf (rd : Reader) : Draft :=
  let l := sectionsOf rd
  let at' := sectionAt l
  { generation := rdLe rd 4 8, structCrc := rdLe rd 4 32, length := rdLe rd 4 16, engine := engineSections l,
    params := paramsOf rd l, dram := dramOf rd (at' 2), nand := nandOf rd (at' 3), bolts := boltsOf rd (at' 4),
    epb := (List.range 12).map (fun k => rdLe rd 4 (at' 5 + 4 * k)), cxl := cxlOf rd (at' 6), mon := monOf rd l,
    shedOrder := rdBytes rd (at' 8) 3, doms := (List.range 12).map (fun d => domOf rd (at' 8 + 16 + 16 * d)),
    store := storeOf rd (at' 9),
    zoneThr := (List.range 5).map (fun z => (rdS8 rd (at' 10 + 4 * z), rdS8 rd (at' 10 + 4 * z + 1), rdS8 rd (at' 10 + 4 * z + 2))),
    therm := (List.range 8).map (fun k => thermOf rd (at' 10 + 24 + 152 * k)),
    faults := (List.range 256).map (fun n => faultOf rd (at' 11 + 4 * n)),
    shadowSets := (List.range 32).map (fun j => (rdBytes rd (at' 11 + 1024 + 8 * j) 8).filter (· ≠ 0xFF)) }

/-- Whether a value lies in a range. -/
def within (lo n hi : Nat) : Bool := decide (lo ≤ n) && decide (n ≤ hi)

/-- Whether an integer lies in a range. -/
def withinI (lo n hi : Int) : Bool := decide (lo ≤ n) && decide (n ≤ hi)

/-- Whether a PARAM value is in its range and on its grid (R457 step 5). -/
def paramOk (r : Nat × Nat) : Bool :=
  match paramRow r.1 with
  | some p => within p.min r.2 p.max && r.2 % p.grid = 0 && (if r.1 = P.groupDelay then r.2 = 1 || r.2 % 10 = 0 else true)
  | none => false

/-- Step 5 for PARAM (R449). -/
def checkParams (rd : Reader) (l : List Section) (d : Draft) : List Check :=
  d.params.map (fun r => (paramOk r, 5, 1, r.1)) ++
  (d.params.zip (d.params.drop 1)).map (fun e => (decide (e.1.1 < e.2.1), 5, 1, e.2.1)) ++
  d.params.zipIdx.map (fun e => (decide (rdLe rd 2 (sectionAt l 1 + 8 * e.2 + 2) = 0), 5, 1, e.1.1)) ++
  paramsRequired.map (fun id => (d.params.any (·.1 = id), 5, 1, id)) ++
  [(decide (d.setting P.ibusHold ≤ d.setting P.ibusNominal), 5, 1, P.ibusHold)]  -- R334

/-- Step 5 for DRAM (R450, R76, R77). -/
def checkDram (rd : Reader) (o : Nat) (d : DramSec) : List Check :=
  [(within 16 d.cGib 256, 5, 2, 0), ([32, 40, 48].contains d.vaultRate, 5, 2, 0),
   (d.channels = 0x0F || d.channels = 0x05, 5, 2, 0), (rd (o + 4) ≤ 1, 5, 2, 0), (within 1 d.ranks 2, 5, 2, 0),
   (d.width = 4 || d.width = 8, 5, 2, 0), ([16, 24, 32].contains d.density, 5, 2, 0), (d.rate ≤ rateMax d, 5, 2, 0),
   (rdZero rd (o + 9) 7, 5, 2, 0)] ++
  (List.range 8).map (fun i => (decide (rd (o + 16 + 4 * i + 3) = 0) &&
    (d.channels = 0x0F || i / 2 % 2 = 0 || rdZero rd (o + 16 + 4 * i) 4), 5, 2, i))

/-- Step 5 for NAND (R451). -/
def checkNand (rd : Reader) (o : Nat) (d : NandSec) : List Check :=
  [(decide (d.chMask < 4096), 5, 3, 0), (d.mode = 1 || d.mode = 2, 5, 3, 0),
   (d.rate ≤ (if d.mode = 1 then 16 else 36), 5, 3, 0), (within 1 (rd (o + 4)) 4, 5, 3, 0), (rdZero rd (o + 5) 11, 5, 3, 0)] ++
  (List.range 96).map (fun t => (match d.targets[t]? with
    | some k => k = 0xFF || (decide (k < d.descs.length) && bitOf d.chMask (t / 8))
    | none => false, 5, 3, t)) ++
  (List.range 12).map (fun c => (bitOf d.chMask c ==
    (List.range 8).any (fun e => match d.targets[8 * c + e]? with | some k => k ≠ 0xFF | none => false), 5, 3, c)) ++
  (List.range d.descs.length).map (fun k =>
    let p := o + 112 + 128 * k
    ((match d.descs[k]? with
      | some x => within 1 x.luns 4 && within 1 x.planes 8 && within 8 x.blocks 65535 && within 1 x.pages 4096 && decide (1088 ≤ x.spare)
      | none => false) &&
      (rd (p + 18) = 1 && rd (p + 20) = 0 && rdZero rd (p + 21) 4 || rd (p + 18) = 2 && rd (p + 19) = 0) &&
      decide (rd (p + 25) ≤ 8) && rdZero rd (p + 28) 36 &&
      (List.range 8).all (fun r => rdZero rd (p + 64 + 8 * r + 5) 3), 5, 3, k))

/-- Step 5 for BOLT (R86, R452). -/
def checkBolts (rd : Reader) (o : Nat) (l : List BoltRec) : List Check :=
  (List.range 64).map (fun n =>
    let p := o + 64 * n
    ((match l[n]? with
      | some b => within 0 b.priority 15 && (n = 63 || b.present == decide (b.size ≠ 0)) && decide (b.cap < 2 ^ 27) &&
          (n ≠ 63 || (b.present && b.priority = 15 && b.duplex && b.base = 0 && b.size = 0 && b.cap = 0))
      | none => false) &&
      decide (rd p ≤ 1) && decide (rd (p + 2) ≤ 1) && rd (p + 3) = 0 && rdZero rd (p + 28) 36, 5, 4, n))

/-- Step 5 for EPB, CXL and MON (R453 to R455, R518, R519). -/
def checkEpbCxlMon (rd : Reader) (l : List Section) (d : Draft) : List Check :=
  (List.range 12).map (fun k => (match d.epb[k]? with | some v => within 1 v 65534 | none => false, 5, 5, k)) ++
  [(([4, 8, 16] : List Nat).contains d.cxl.width, 5, 6, 0), (([5, 6] : List Nat).contains d.cxl.speed, 5, 6, 0),
   (rdZero rd (sectionAt l 6 + 18) 14, 5, 6, 0)] ++
  (List.range d.mon.length).map (fun m => (match d.mon[m]? with
    | some r => (match measurandIndexes[r.code]? with | some i => decide (r.index ≤ i) | none => false) &&
        decide (r.exp ≤ 15) && rd (sectionAt l 7 + 8 * m + 3) = 0 && rd (sectionAt l 7 + 8 * m + 7) = 0
    | none => false, 5, 7, m))

/-- The targets in mV that R347 allows a domain. -/
def domTargetOk (d mv : Nat) : Bool :=
  if d = 0 ∨ d = 1 ∨ d = 11 then mv = 0 else if d = 2 then within 750 mv 950 else if d = 3 ∨ d = 4 then mv = 1100
  else if d = 5 then mv = 1800 else if d = 6 then within 2500 mv 3300 else if d = 7 then mv = 1200
  else if d = 10 then mv = 3300 else within 0 mv 16383

/-- Whether a domain's tracking record is one that R347 and R456 allow. -/
def domTrackOk (d : Nat) (r : DomRec) : Bool :=
  if d = 3 then r.track = 1 && r.partner = 4 else if d = 4 then r.track = 1 && r.partner = 3
  else if d = 7 then r.track = 2 && r.partner = 6
  else if 8 ≤ d ∧ d ≤ 10 then (r.track = 0 && r.partner = 0x0F) ||
    (within 1 r.track 2 && within 8 r.partner 10 && r.partner ≠ d)
  else r.track = 0 && r.partner = 0x0F

/-- Step 5 for POWER (R456). -/
def checkPower (rd : Reader) (o : Nat) (d : Draft) : List Check :=
  [([8, 9, 10].all (fun x => d.shedOrder.contains x), 5, 8, 0), (rdZero rd (o + 3) 13, 5, 8, 0)] ++
  (List.range 12).map (fun n => (match d.doms[n]? with
    | some r => (within 8 n 10 || r.present) && decide (rd (o + 16 + 16 * n) ≤ 1) && decide (rd (o + 17 + 16 * n) ≤ 1) &&
        decide (r.track ≤ 2) && domTrackOk n r && domTargetOk n r.target && within 3 r.pgPct 10 &&
        within 1 r.pgTimeout 100 && (if n = 0 then r.ramp = 0 else within 100 r.ramp 20000) && rdZero rd (o + 26 + 16 * n) 6
    | none => false, 5, 8, n))

/-- The limits of R357 by chemistry: cv_cell, cell_empty_v and cell_floor_v in mV, and the widest charge
window in degrees C. -/
def chemLimits (chem : Nat) : (Nat × Nat) × (Nat × Nat) × (Nat × Nat) × (Int × Int) :=
  if chem = 0 then ((3400, 3650), (2800, 3100), (2000, 2900), (0, 55)) else ((3400, 3800), (2200, 2500), (2000, 2500), (-30, 70))

/-- Whether a list never falls. -/
def nonDecreasing : List Nat → Bool
  | a :: b :: t => decide (a ≤ b) && nonDecreasing (b :: t)
  | _ => true

/-- Step 5 for STORE. -/
def checkStore (rd : Reader) (o : Nat) (x : StoreSec) : List Check :=
  let lim := chemLimits x.chem
  [(x.chem ≤ 1, 5, 9, 0), (within 4 x.cells 24, 5, 9, 0), (rd (o + 2) = 0 && rd (o + 15) = 0, 5, 9, 0),
   (within lim.1.1 x.cvMv lim.1.2, 5, 9, 0), (within lim.2.1.1 x.emptyMv lim.2.1.2, 5, 9, 0),
   (within lim.2.2.1.1 x.floorMv lim.2.2.1.2, 5, 9, 0), (within 500 x.shunt 5000, 5, 9, 0),
   (within 100 x.coldMa 10000, 5, 9, 0), (nonDecreasing x.ocv, 5, 9, 0), (x.ocv.head? = some x.emptyMv, 5, 9, 0),
   (x.tfac.all (· ≤ 1024), 5, 9, 0), (x.rfac[5]? = some 1024, 5, 9, 0), (within 1000 x.ratedMc 4000000000, 5, 9, 0),
   (rdZero rd (o + 86) 2 && rdZero rd (o + 140) 4, 5, 9, 0)]

/-- Whether a table is strictly monotonic. -/
def strictlyFalling : List Nat → Bool
  | a :: b :: t => decide (b < a) && strictlyFalling (b :: t)
  | _ => true

/-- The threshold ranges of R393. -/
def zoneRanges : List ((Int × Int) × (Int × Int) × (Int × Int)) :=
  [((70, 115), (80, 120), (90, 125)), ((50, 90), (55, 95), (60, 100)), ((60, 90), (65, 95), (70, 100)),
   ((80, 125), (90, 130), (100, 135))]

/-- Step 5 for THERM. -/
def checkTherm (rd : Reader) (o : Nat) (d : Draft) : List Check :=
  (List.range 4).map (fun z => (match d.zoneThr[z]?, zoneRanges[z]? with
    | some t, some r => withinI r.1.1 t.1 r.1.2 && withinI r.2.1.1 t.2.1 r.2.1.2 && withinI r.2.2.1 t.2.2 r.2.2.2
    | _, _ => false, 5, 10, z)) ++
  [(match d.zoneThr[4]? with | some t => withinI 30 t.1 70 && t.2.1 = 127 && t.2.2 = 127 | none => false, 5, 10, 4),
   ((List.range 5).all (fun z => rd (o + 4 * z + 3) = 0) && rdZero rd (o + 20) 4, 5, 10, 0)] ++
  (List.range 8).map (fun k => (match d.therm[k]? with
    | some t =>
      let p := o + 24 + 152 * k
      (decide (t.zone ≤ 4) || t.zone = 0x0F) && decide (t.nbrs.length ≤ 4) &&
      t.nbrs.all (fun n => decide (n.1 ≤ 25) && within 5 n.2 40) &&
      (List.range 4).all (fun i => decide (i < t.nbrs.length) || rd (p + 4 + i) = 0xFF) &&
      (t.zone = 0x0F || strictlyFalling t.table || strictlyFalling t.table.reverse) &&
      rdZero rd (p + 2) 2 && rdZero rd (p + 148) 4
    | none => false, 5, 10, k))

/-- The fixed sources (R415). -/
def fixedSources : List Nat :=
  [10, 13, 14, 15, 16, 58, 64, 160, 161, 162, 163, 165, 175, 176, 177, 183, 217, 218, 219, 220, 227, 228, 233, 235]

/-- The default severity of a source; none for a reserved number (R415, R347). -/
def defaultSev (n : Nat) : Option Nat :=
  if n ≤ 1 then some 1 else if n ≤ 3 then some 2 else if n ≤ 5 then some 3 else if n ≤ 9 then some 1
  else if n = 10 then some 4 else if n ≤ 12 then some 2 else if n ≤ 14 then some 1 else if n ≤ 16 then some 4
  else if n ≤ 21 then some 1 else if n ≤ 23 then some 2 else if n = 24 then some 0 else if n = 25 then some 2
  else if n ≤ 27 then some 1 else if n = 28 then some 0 else if n ≤ 56 then some 2 else if n = 57 then some 1
  else if n = 58 then some 3 else if n ≤ 63 then some 1 else if n = 64 then some 4 else if n = 65 then some 1
  else if n ≤ 159 then none else if n = 160 then some 3 else if n = 161 then some 1 else if n ≤ 163 then some 4
  else if n = 164 then some 1 else if n = 165 then some 3 else if n ≤ 174 then some 1 else if n ≤ 176 then some 3
  else if n = 177 then some 4 else if n ≤ 181 then some 1 else if n = 182 then some 3 else if n = 183 then some 4
  else if n = 184 then none else if n ≤ 186 then some 3 else if n ≤ 189 then some 4 else if n ≤ 191 then some 3
  else if n ≤ 194 then some 1 else if n = 195 then none else if n = 196 then some 2 else if n ≤ 206 then some 1
  else if n ≤ 208 then some 0 else if n ≤ 216 then some 1 else if n ≤ 220 then some 3 else if n ≤ 222 then some 1
  else if n = 223 then some 0 else if n ≤ 226 then some 1 else if n ≤ 228 then some 4 else if n ≤ 234 then some 1
  else if n = 235 then some 4 else if n = 236 then some 0 else if n ≤ 238 then some 1 else none

/-- Whether a UNIT code names a unit (R420). -/
def unitCodeOk (u : Nat) : Bool := within 1 u 33 || within 40 u 42

/-- Step 5 for FAULT: record ranges. -/
def checkFaults (d : Draft) : List Check :=
  (List.range 256).map (fun n => (match d.faults[n]? with
    | some f => (decide (f.sev ≤ 4) || f.sev = 0xFF) && (decide (f.set ≤ 31) || f.set = 0xFF) &&
        (f.unit = 0 || unitCodeOk f.unit)
    | none => false, 5, 11, n))

/-- Whether the user bolts tile C (R86). -/
def boltsTile (d : Draft) : Bool :=
  let l := (d.bolts.take 63).filter (fun b => b.present && b.size ≠ 0)
  l.all (fun b => decide (b.base + b.size ≤ 4 * d.dram.cGib)) &&
  decide ((l.map (·.size)).sum = 4 * d.dram.cGib) &&
  (List.range l.length).all (fun i => (List.range i).all (fun j => match l[i]?, l[j]? with
    | some x, some y => !overlap x.base x.size y.base y.size | _, _ => true))

/-- Step 6 of R457: the conditions across settings. -/
def checkAcross (d : Draft) : List Check :=
  let p := d.setting
  let st := d.store
  let floor := st.cells * st.floorMv
  [(decide (d.dram.cGib * 2 ^ 30 + systemBytes d.dram.cGib ≤ installedGib d.dram * 2 ^ 30), 6, 2, 0),  -- R80
   (boltsTile d, 6, 4, 0),  -- R86
   (p P.boostOff < p P.boostOn && p P.boostOn < p P.l1On && p P.l1Off < p P.l1On && p P.l1On < p P.l2On &&
     p P.l2Off < p P.l2On && p P.l2On ≤ p P.l3Off, 6, 1, P.boostOn),  -- R132
   (p P.vinPfail + 10 ≤ p P.vinWarn, 6, 1, P.vinPfail),  -- R183
   (150 + 110 * Nat.max (p P.rebootMax) 1 ≤ p P.vaultStartEnergy, 6, 1, P.vaultStartEnergy),  -- R178
   (p P.vminVault ≤ p P.vcoreNormal, 6, 1, P.vminVault),  -- R271
   ((p P.ibusHold + 500) * 10 ≤ floor * 9, 6, 9, 0),  -- R335
   (p P.window = 0 || (p P.ibusNominal + 500) * 10 ≤ floor * 9, 6, 9, 0),  -- R335
   (p P.vaultPower * 10000 ≤ p P.phaseImax * 9 * p P.ibusHold, 6, 1, P.phaseImax),  -- R337
   (p P.vcorePhases < 2 || 320 ≤ (p P.vcorePhases - 1) * p P.vcorePhaseImax * 9, 6, 1, P.vcorePhaseImax),  -- R345
   (st.cells * st.cvMv ≤ 90000, 6, 9, 0), (st.floorMv ≤ st.emptyMv, 6, 9, 0),
   (st.shunt * p P.huIlim ≤ 300000, 6, 9, 0),
   (withinI (chemLimits st.chem).2.2.2.1 st.chgLo (chemLimits st.chem).2.2.2.2 &&
     withinI (chemLimits st.chem).2.2.2.1 st.chgHi (chemLimits st.chem).2.2.2.2, 6, 9, 0),  -- R358
   (p P.profile = 1 || (d.dram.cGib ≤ 64 &&
     ((List.range 12).filter (fun c => bitOf d.nand.chMask c)).length ≤ 4 && 7 ≤ p P.exercisePeriod), 6, 1, P.profile)] ++  -- R376
  (List.range 8).map (fun k => (match d.therm[k]? with
    | some t => decide (t.zone = 4) == bitOf st.thermMask k | none => false, 6, 10, k)) ++  -- R390
  (List.range 4).map (fun z => (match d.zoneThr[z]? with
    | some t => decide (t.1 < t.2.1) && decide (t.2.1 < t.2.2) | none => false, 6, 10, z)) ++  -- R393
  (List.range 256).map (fun n => (match d.faults[n]?, defaultSev n with
    | some f, some v => decide (f.sev ≤ 4) && (!fixedSources.contains n || f.sev = v) && (f.sev ≠ 2 || unitCodeOk f.unit)
    | some f, none => f.sev = 0xFF
    | none, _ => false, 6, 11, n)) ++  -- R418
  (List.range 32).map (fun j => (match d.shadowSets[j]? with
    | some l => l.all (fun n => match d.faults[n]? with | some f => decide (f.sev ≤ 2) | none => false)
    | none => false, 6, 11, j)) ++  -- R421
  [(decide (((d.nand.targets.filter (· ≠ 0xFF)).map (fun k => match d.nand.descs[k]? with
      | some x => x.luns * x.planes | none => 0)).sum ≤ 704), 6, 3, 0),
   (d.nand.descs.all (fun x => decide (64 ≤ x.pages)), 6, 3, 0)]  -- R560

/-- Step 5 for the header: its reserved bytes (R445). -/
def checkReserved (rd : Reader) : List Check := [(rdZero rd 30 2 && rdZero rd 52 8, 5, 0, 0)]

/-- Step 5 of R457. -/
def checkFields (rd : Reader) (l : List Section) (d : Draft) : List Check :=
  checkReserved rd ++ checkParams rd l d ++ checkDram rd (sectionAt l 2) d.dram ++ checkNand rd (sectionAt l 3) d.nand ++
  checkBolts rd (sectionAt l 4) d.bolts ++ checkEpbCxlMon rd l d ++ checkPower rd (sectionAt l 8) d ++
  checkStore rd (sectionAt l 9) d.store ++ checkTherm rd (sectionAt l 10) d ++ checkFaults d

/-- The check of R457: the draft, or the failing step, section TYPE and record. -/
def checkDraft (rd : Reader) : Except (Nat × Nat × Nat) Draft :=
  match firstBad (checkHeader rd) with
  | some e => .error e
  | none =>
    let l := sectionsOf rd
    match firstBad (checkTable rd (rdLe rd 4 16) l) with
    | some e => .error e
    | none =>
      match firstBad (checkCrcs rd l) with
      | some e => .error e
      | none =>
        if structDigest rd l ≠ rdLe rd 4 32 then .error (4, 0, 0)
        else
          let d := draftOf rd
          match firstBad (checkFields rd l d ++ checkAcross d) with
          | some e => .error e
          | none => .ok d

end Sys2Proof.Machine
end

