-- ==== Sys2Proof/Machine/Link.lean ====
section
/-! DEFINITION. The transmitting side of the heddle link (R65, R533 to R536). -/

namespace Sys2Proof.Machine

/-- CLASS of a frame (R534). -/
def frameClass : Frame → Nat
  | .control _ => 0 | .fault _ => 1 | .warning _ => 2 | .knotPointer .. => 3 | .energy .. => 4 | .time .. => 5
  | .log _ => 6 | .logRequest => 6 | .monitor _ => 7 | .request .. => 8 | .response .. => 8 | .draft .. => 9
  | .draftReply .. => 9

/-- An end of the link. -/
def hdl (e : End) (s : State) : HdlEnd := match e with | .engine => s.hdlE | .pctrl => s.hdlP

/-- Changes an end of the link. -/
def setHdl (e : End) (f : HdlEnd → HdlEnd) (s : State) : State :=
  match e with | .engine => { s with hdlE := f s.hdlE } | .pctrl => { s with hdlP := f s.hdlP }

/-- The other end. -/
def otherEnd : End → End | .engine => .pctrl | .pctrl => .engine

/-- SEQ of the last frame accepted, which every frame sent carries as ACK (R533). -/
def ackOf (e : End) (s : State) : Nat := ((hdl e s).rxSeq + 255) % 256

/-- Places a frame behind those of its own and of higher classes (R65). -/
def enqueue (f : Frame) : List Frame → List Frame
  | [] => [f]
  | g :: t => if frameClass f < frameClass g then f :: g :: t else g :: enqueue f t

/-- Starts frames that wait, while the link is up and fewer than 16 are unacknowledged (R535). -/
def pump (e : End) : Nat → State → State
  | 0, s => s
  | n + 1, s =>
    let h := hdl e s
    if h.up && decide (h.unacked.length < 16) then
      match h.waiting with
      | f :: t =>
        pump e n (emit (.frame e h.txSeq (ackOf e s) f)
          (setHdl e (fun h => { h with waiting := t, txSeq := (h.txSeq + 1) % 256,
                                       unacked := h.unacked ++ [{ seq := h.txSeq, frame := f, sends := 1 }] }) s))
      | [] => s
    else s

/-- Whether a frame is kept while the link is down: Log frames wait for its return, and the others are
made anew or dropped (R536). -/
def keptWhileDown (f : Frame) : Bool := frameClass f = 6

/-- Hands a frame to the transmitter (R65, R535). -/
def sendFrame (e : End) (f : Frame) (s : State) : State :=
  if (hdl e s).up then pump e 16 (setHdl e (fun h => { h with waiting := enqueue f h.waiting }) s)
  else if keptWhileDown f then setHdl e (fun h => { h with waiting := enqueue f h.waiting }) s
  else s

/-- Sends a control frame (R535). -/
def sendControl (e : End) (nak : Bool) (s : State) : State :=
  if (hdl e s).up then emit (.frame e 0 (ackOf e s) (.control nak)) s else s

/-- Whether the link carries frames in both directions. -/
def linkUp (s : State) : Bool := s.hdlE.up && s.hdlP.up

/-- How far `a` lies behind `b` in SEQ numbers. -/
def seqBack (a b : Nat) : Nat := (b + 256 - a) % 256

/-- Drops the frames that an ACK covers: those up to SEQ `ack`, when `ack` names one of them (R535). -/
def ackFrames (ack : Nat) (l : List Unacked) : List Unacked :=
  match l.findIdx? (fun u => u.seq = ack) with
  | some i => l.drop (i + 1)
  | none => l

/-- Sends again every unacknowledged frame, in SEQ order, and counts each (R535). -/
def resendAll (e : End) (s : State) : State :=
  let l := (hdl e s).unacked
  let s := l.foldl (fun s u => emit (.frame e u.seq (ackOf e s) u.frame) s) s
  setHdl e (fun h => { h with resends := satAdd max32 h.resends l.length,
                              unacked := h.unacked.map (fun u => { u with sends := u.sends + 1 }) }) s

/-- Whether an unacknowledged frame has been sent nine times, so that the link goes down (R536). -/
def sentNine (e : End) (s : State) : Bool := (hdl e s).unacked.any (fun u => decide (9 ≤ u.sends))

/-- Takes in a frame's ACK and NAK at the receiver `e`, which is the transmitter they speak of (R535). A frame sent nine times
is not sent a tenth time: the end declares the link down for it (R536; HEDDLE_RESEND_EXPIRY). -/
def takeAck (e : End) (hdr : FrameHdr) (s : State) : State :=
  let s := setHdl e (fun h => { h with unacked := ackFrames hdr.ack h.unacked }) s
  pump e 16 (if hdr.nak && !sentNine e s then resendAll e s else s)

/-- Whether the receiver `e` accepts a data frame: the link is up, header and CRC are valid, and its SEQ is
the next in order (R535). -/
def accepts (e : End) (hdr : FrameHdr) (s : State) : Bool :=
  (hdl e s).up && hdr.valid && hdr.seq = (hdl e s).rxSeq

/-- What the receiver does with a data frame beside its payload: an accepted frame moves the next SEQ; any
other is discarded and answered with NAK, and a header or CRC failure is counted (R535). -/
def receive (e : End) (hdr : FrameHdr) (s : State) : State :=
  if !(hdl e s).up then s
  else if !hdr.valid then
    sendControl e true (setHdl e (fun h => { h with crcErrors := satAdd max32 h.crcErrors 1 }) s)
  else
    let s := takeAck e hdr s
    if hdr.seq = (hdl e s).rxSeq then setHdl e (fun h => { h with rxSeq := (h.rxSeq + 1) % 256 }) s
    else sendControl e true s

/-- The power controller's samples go to the engine in a Monitor frame; while the link is down they are lost (R518, R523). -/
def sendSamples (l : List MonSample) (s : State) : State :=
  if l.isEmpty then s
  else if s.hdlP.up then sendFrame .pctrl (.monitor l) s
  else gapMonitors s

end Sys2Proof.Machine
end

