-- ==== Sys2Proof/Machine/Log.lean ====
section
/-! DEFINITION. Writing the trouble log (R435 to R438) and the engine's entries for it (R65). -/

namespace Sys2Proof.Machine

/-- VLT_STATE.STATE (R141). -/
def vaultCode : VState → Nat
  | .armed => 0 | .speculative => 1 | .confirmed => 2 | .window => 3 | .fenced => 4 | .drain => 5 | .knot => 6
  | .hold => 7 | .off => 8 | .notArmed => 15

/-- VLT_RESTORE.RSTATE (R237). -/
def restoreCode : RState → Nat
  | .idle => 0 | .discover => 1 | .verify => 2 | .mapload => 3 | .lazy => 4 | .complete => 5

/-- VLT_REEF_LEVEL.LEVEL: the highest level whose flag is set (R131). -/
def reefLevel (s : State) : Nat := if s.stg.l3 then 3 else if s.stg.l2 then 2 else if s.stg.l1 then 1 else 0

/-- The DevLoad of the reefing level (R133). -/
def levelLoad (level : Nat) : Nat := if level = 0 then 0 else if level = 1 then 2 else 3

/-- The DevLoad reported (R133, R305). -/
def devLoad (s : State) : Nat := Nat.max s.host.load (levelLoad (reefLevel s))

/-- STATE of a trouble-log entry (R436). -/
def logState (s : State) : Nat :=
  vaultCode s.vlt.state + 16 * restoreCode s.restore.st + 128 * b01 s.flt.belay + 256 * reefLevel s

/-- Enters an entry in the ring: the next SEQ; a full ring loses its oldest (R435). -/
def pushEntry (e : LogEntry) (s : State) : State :=
  let l := s.log
  let ring := ({ e with seq := l.seq } :: l.ring)
  { s with log := { l with
      ring := ring.take 4096, head := (l.head + 1) % 4096, seq := (l.seq + 1) % 2 ^ 32,
      lost := if ring.length ≤ 4096 then l.lost else satAdd max32 l.lost 1 } }

/-- The entry in slot `i` of the ring: the newest lies below HEAD (R435, R440). -/
def ringSlot (i : Nat) (s : State) : Option LogEntry := s.log.ring[(s.log.head + 4095 - i) % 4096]?

/-- The ring by slot, as the mirror holds it (R82, R213). -/
def ringSlots (s : State) : List (Option LogEntry) := (List.range 4096).map (fun i => ringSlot i s)

/-- The position of the entry with the highest SEQ. -/
def newestSlot : Nat → List (Option LogEntry) → Option (Nat × Nat)
  | _, [] => none
  | i, e :: t => match e, newestSlot (i + 1) t with
    | some x, some m => if m.2 < x.seq then some (i, x.seq) else some m
    | some x, none => some (i, x.seq)
    | none, m => m

/-- The entries of a mirror, the newest first: back from the slot of the highest SEQ, and round the ring (R249, R435). -/
def mirrorEntries (l : List (Option LogEntry)) : List LogEntry :=
  match newestSlot 0 l with
  | none => []
  | some (i, _) => ((l.take (i + 1)).reverse ++ (l.drop (i + 1)).reverse).filterMap id

/-- An entry of the power controller (R436, R437); `flags` without the origin bit. -/
def logEntry (code source flags d0 d1 : Nat) (s : State) : State :=
  pushEntry { ts := now s, code := code, source := source, flags := flags, seq := 0, data0 := d0 % 2 ^ 64,
              data1 := d1 % 2 ^ 32, state := logState s } s

/-- An entry of the power controller that names no source. -/
def logEvent (code d0 d1 : Nat) (s : State) : State := logEntry code 0xFF 0 d0 d1 s

/-- An entry of the engine: it travels in a Log frame (R65, R536); FLAGS[3] says so. -/
def engineLog (code d0 d1 : Nat) (s : State) : State :=
  sendFrame .engine (.log [{ ts := engineNow s, code := code, source := 0xFF, flags := 8, seq := 0, data0 := d0 % 2 ^ 64,
                             data1 := d1 % 2 ^ 32, state := logState s }]) s

/-- VLT_CAUSE as a register: CAUSE and SOURCE (R185). -/
def causeWord (s : State) : Nat := s.vlt.source * 2 ^ 16 + s.vlt.cause

/-- VLT_IMAGE_STATE (R43). -/
def imageWord (s : State) : Nat :=
  let r := s.restore
  b01 r.poisonPresent * 2 ^ 31 + r.firstLost * 2 ^ 16 + r.policy * 2 ^ 8 + r.imageState

/-- Moves the vault state machine and enters code 0x0006 (R141, R437). -/
def setVault (v : VState) (s : State) : State :=
  if s.vlt.state = v then s
  else
    let s := { s with vlt := { s.vlt with state := v } }
    engineLog 6 (causeWord s) (vaultCode v) s

/-- A warm reset request not performed at once: code 0x0008 (R437). -/
def requesterCode : Requester → Nat
  | .pin => 1 | .steward => 2 | .watchdog => 3 | .vinGood => 4 | .belayRecovery => 5 | .thermalExit => 6

/-- A trouble-log entry as its 32 bytes (R436). -/
def logBytes (e : LogEntry) : List Byte :=
  let body := leBytes 8 e.ts ++ leBytes 2 e.code ++ leBytes 1 e.source ++ leBytes 1 e.flags ++ leBytes 4 e.seq ++
    leBytes 8 e.data0 ++ leBytes 4 e.data1 ++ leBytes 2 e.state
  body ++ leBytes 2 (crc16 (body.map (·.toNat)))

end Sys2Proof.Machine
end

