-- ==== Sys2Proof/Machine/Engine.lean ====
section
/-! DEFINITION. The engine's shared operations: raising its fault sources, the control pairs, the dirty map,
poison, commits, the budget and admission (R31 to R35, R59, R90 to R103, R129 to R135, R411 to R413). -/

namespace Sys2Proof.Machine

/-! ### Control pairs -/

/-- The place of a pair in the list of pairs. -/
def pairIndex : PairId → Nat
  | .pf => 0 | .vreq => 1 | .belayp => 2 | .belaye => 3 | .hold => 4 | .hbp => 5 | .hbe => 6

/-- A pair. -/
def pairAt (p : PairId) (s : State) : Pair := match s.sel.pairs[pairIndex p]? with | some x => x | none => {}

/-- Changes a pair. -/
def setPair (p : PairId) (f : Pair → Pair) (s : State) : State :=
  { s with sel := { s.sel with pairs := modAt (pairIndex p) f s.sel.pairs } }

/-- Drives a pair active (1,0) or inactive (0,1) (R63). -/
def drivePair (p : PairId) (active : Bool) (s : State) : State :=
  setPair p (fun x => { x with t := active, c := !active }) s

/-- What the receiver reads: a frozen pair reads active, its safe interpretation (R63). -/
def pairActive (p : PairId) (s : State) : Bool := (pairAt p s).frozen || ((pairAt p s).t && !(pairAt p s).c)

/-! ### Fault sources of the engine -/

/-- The severity in force of a source (R415, R418). -/
def sevOf (n : Nat) (s : State) : Nat :=
  match (tget {} s.flt.sources n).sevUp with
  | some v => v
  | none =>
    match s.drf.active with
    | some d => (match d.faults[n]? with | some f => f.sev | none => 0)
    | none => (match defaultSev n with | some v => v | none => 0)

/-- The event sources (R572). -/
def eventSources : List Nat :=
  [1, 7, 8, 9, 11, 13, 14, 17, 18, 20, 21, 23, 24, 25, 27, 28, 65, 234, 162, 163, 174, 175, 207, 208, 211, 206, 226, 233, 236]

/-- Whether a source is an event source (R572). -/
def isEvent (n : Nat) : Bool := eventSources.contains n

/-- Whether no vault runs and the chipset is neither in HOLD nor OFF. -/
def noVault (s : State) : Bool := s.vlt.state = .notArmed || s.vlt.state = .armed || s.vlt.state = .speculative

/-- Whether a vault state is one of CONFIRMED to KNOT (R71). -/
def inVault (s : State) : Bool :=
  match s.vlt.state with
  | .confirmed | .window | .fenced | .drain | .knot => true
  | _ => false

/-- Whether a confirmation finds the vault state armed (R149). -/
def isArmed (s : State) : Bool := s.vlt.state = .armed || s.vlt.state = .speculative

/-- What the engine does beside the Fault frame: at S4 it drives BELAYE active; at S3 with the link down it
drives VREQ active and, unless a vault runs already, writes VLT_CAUSE itself (R142, R413). -/
def engineReact (n : Nat) (s : State) : State :=
  if sevOf n s = 4 then drivePair .belaye true s
  else if sevOf n s = 3 && !linkUp s && !noVault s then drivePair .vreq true s
  else if sevOf n s = 3 && !linkUp s then
    drivePair .vreq true { s with vlt := { s.vlt with cause := 4, source := n, engineCause := true } }
  else s

/-- An engine source enters fault: its code goes out in a Fault frame; an event source returns to no fault
at once (R65, R411, R413, R572). -/
def engineFault (n detail : Nat) (s : State) : State :=
  let s := { s with flt := { s.flt with details := tput 0 n detail s.flt.details } }
  if isEvent n then engineReact n (sendFrame .engine (.fault [(n, true, false), (n, false, true)]) s)
  else if s.flt.engineLive.contains n then s
  else
    let s := { s with flt := { s.flt with engineLive := insertSorted n s.flt.engineLive } }
    engineReact n (sendFrame .engine (.fault [(n, true, false)]) s)

/-- An engine source's condition ends (R412); a broken code stays what it is (R411). -/
def engineClear (n : Nat) (s : State) : State :=
  if s.flt.engineLive.contains n && (tfind s.flt.engineBroken n).isNone then
    sendFrame .engine (.fault [(n, false, true)])
      { s with flt := { s.flt with engineLive := dropFrom n s.flt.engineLive } }
  else s

/-- The code of an engine source as the engine has it: a broken one counts as a source in fault (R411, R412, R413). -/
def engineCode (n : Nat) (t c : Bool) (s : State) : State :=
  let was := s.flt.engineLive.contains n
  let s := { s with flt := { s.flt with
    engineBroken := if t = c then tins n t s.flt.engineBroken else tdel n s.flt.engineBroken,
    engineLive := if t || !c then insertSorted n s.flt.engineLive else dropFrom n s.flt.engineLive } }
  if !was && (t || !c) then engineReact n s else s

/-- A lasting condition of an engine source holds, or not. -/
def engineCond (n : Nat) (b : Bool) (s : State) : State := if b then engineFault n 0 s else engineClear n s

/-! ### Interrupts -/

/-- Whether an MSI-X message can be sent: the link is up, and the shedding of the host domains has not begun (R353, R524). -/
def msixOpen (s : State) : Bool := s.host.width ≠ 0 && !s.pwr.atHold && s.pwr.shedding.isEmpty

/-- Raises an MSI-X vector: a masked one sets its pending bit; one that cannot be sent leaves nothing (R320, R524). -/
def msix (v : Nat) (s : State) : State :=
  if (s.host.msixMasked[v]?).getD true then
    { s with host := { s.host with msixPending := setAt v true s.host.msixPending } }
  else if !msixOpen s then s
  else emit (.msix v) s

/-- The event logs: 0 Informational, 1 Warning, 2 Failure, 3 Fatal (R314). -/
def eventLog (i : Nat) (s : State) : EventLog := match s.mbx.logs[i]? with | some l => l | none => {}

/-- Posts an event record: a full log keeps its oldest records and counts the rest; a record raises its log's
vector where the policy says so (R314, R320). `kind` is the vendor code, 0x0100 a Memory Module Event record,
0x0101 a General Media Event record. -/
def postEvent (i kind bolt : Nat) (values : List Nat) (s : State) : State :=
  let l := eventLog i s
  if 256 ≤ l.recs.length then
    { s with mbx := { s.mbx with logs := setAt i { l with overflow := satAdd 0xFFFF l.overflow 1 } s.mbx.logs } }
  else
    let r : EventRec := { handle := l.next, kind := kind, bolt := bolt, values := values, ts := engineNow s }
    let s := { s with mbx := { s.mbx with
      logs := setAt i { l with recs := l.recs ++ [r], next := if l.next = 65535 then 1 else l.next + 1 } s.mbx.logs } }
    if (s.mbx.policy[i]?).getD false then msix (if i ≤ 1 then 1 else 2) s else s

/-! ### The dirty map -/

/-- A granule's entry (R90). -/
def entryOf (g : Nat) (s : State) : Entry := tget {} s.cache.map g

/-- Whether a STATE lies in the residual (R90). -/
def inRes (e : Entry) : Bool := e.st = .dirty || e.st = .staging

/-- Residual granules of an age block (R110). -/
def ageCount (b : Nat) (s : State) : Nat := (s.cache.map.filter (fun e => e.1 / 128 = b && inRes e.2)).length

/-- Sets a granule's entry, and its block's STAMP when COUNT goes from 0 to 1 (R111). -/
def setEntry (g : Nat) (e : Entry) (s : State) : State :=
  let before := ageCount (g / 128) s
  let s := { s with cache := { s.cache with map := tput {} g e s.cache.map } }
  if before = 0 && ageCount (g / 128) s = 1 then
    { s with cache := { s.cache with stamps := tput 0 (g / 128) (engineNow s / 65536) s.cache.stamps } }
  else s

/-- Sets a granule's STATE and keeps PENDING. -/
def setState (g : Nat) (x : GState) (s : State) : State := setEntry g { entryOf g s with st := x } s

/-- Residual granules of a bolt: BLT_RESIDUAL[n] in granules (R97). -/
def residualOf (n : Nat) (s : State) : Nat := (s.cache.map.filter (fun e => inRes e.2 && boltOf s e.1 = n)).length

/-- VLT_RESIDUAL in granules (R97). -/
def residual (s : State) : Nat := (s.cache.map.filter (fun e => inRes e.2)).length

/-- The residual with each duplex granule counted twice, in bytes (R31, R129). -/
def countedBytes (s : State) : Nat :=
  ((s.cache.map.filter (fun e => inRes e.2)).map (fun e => if isDuplex s (boltOf s e.1) then 8192 else 4096)).sum

/-! ### Poison (R101, R102) -/

/-- A mask with bit `l` set. -/
def lineBit (l : Nat) : BitVec 64 := BitVec.ofNat 64 (2 ^ l)

/-- Runs of consecutive lines in a mask: its entries in the poison list (R102). -/
def runs (m : BitVec 64) : Nat :=
  ((List.range 64).filter (fun i => m.getLsbD i && !(decide (0 < i) && m.getLsbD (i - 1)))).length

/-- Entries of a granule. -/
def entriesOf (p : PoisonSrc) : Nat := runs p.internal + runs p.external + runs p.unknown

/-- Entries of the poison list: DMP_POISON.ENTRIES (R102). -/
def poisonEntries (s : State) : Nat := (s.cache.listed.map (fun e => entriesOf e.2)).sum

/-- Whether a granule's line is poisoned. -/
def poisoned (g l : Nat) (s : State) : Bool := (tget 0#64 s.cache.poison g).getLsbD l

/-- The source that an entry of the poison list reports (R303, R248). -/
inductive PSource where
  | internal | external | unknown
  deriving DecidableEq, Repr

/-- The lines of a granule in the list, whatever their source. -/
def allListed (p : PoisonSrc) : BitVec 64 := p.internal ||| p.external ||| p.unknown

/-- The listed lines with `m` added under a source. -/
def addSource (m : BitVec 64) (x : PSource) (p : PoisonSrc) : PoisonSrc :=
  let q : PoisonSrc := { internal := p.internal &&& ~~~m, external := p.external &&& ~~~m, unknown := p.unknown &&& ~~~m }
  match x with
  | .internal => { q with internal := q.internal ||| m }
  | .external => { q with external := q.external ||| m }
  | .unknown => { q with unknown := q.unknown ||| m }

/-- The lines of a mask that follow the line `l` without a gap. -/
def runAbove (l : Nat) (x : BitVec 64) : BitVec 64 :=
  (List.range 64).foldl (fun m i =>
    if l < i && (List.range' (l + 1) (i - l)).all (fun j => x.getLsbD j) then m ||| lineBit i else m) 0

/-- The runs of consecutive lines of a mask, lowest first. -/
def runMasks (m : BitVec 64) : List (BitVec 64) :=
  ((List.range 64).filter (fun i => m.getLsbD i && !(decide (0 < i) && m.getLsbD (i - 1)))).map (fun i => lineBit i ||| runAbove i m)

/-- Enters a run of poisoned lines in the list while it has room; a line without an entry sets OVERFLOW (R102). R102 is silent on
listed lines that are poisoned again under another source, which splits their entry, with the list full: they keep their entry and
its source, and OVERFLOW does not rise (DESIGN CHOICE, log entry 94). -/
def listRun (g : Nat) (x : PSource) (s : State) (r : BitVec 64) : State :=
  let c := s.cache
  let p := tget {} c.listed g
  let q := addSource r x p
  if poisonEntries s - entriesOf p + entriesOf q ≤ 65536 then { s with cache := { c with listed := tput {} g q c.listed } }
  else if r &&& ~~~allListed p = 0 then s
  else { s with cache := { c with overflow := true, overflowTs := if c.overflow then c.overflowTs else engineNow s } }

/-- Poisons the lines `m` of a granule, and enters them in the list, run by run (R101, R102). -/
def poisonLines (g : Nat) (m : BitVec 64) (x : PSource) (s : State) : State :=
  (runMasks m).foldl (listRun g x) { s with cache := { s.cache with poison := tmod 0#64 g (fun b => b ||| m) s.cache.poison } }

/-- The listed lines without `m`. -/
def dropLines (m : BitVec 64) (p : PoisonSrc) : PoisonSrc :=
  { internal := p.internal &&& ~~~m, external := p.external &&& ~~~m, unknown := p.unknown &&& ~~~m }

/-- Takes the poison and the entry of the line `l` away (R101). Where that splits a run, the list has one entry more; a full list
has no room for it, the lines above `l` lose their entry and OVERFLOW is set. R102 does not say which half keeps it (DESIGN
CHOICE, log entry 81). -/
def unpoison (g l : Nat) (s : State) : State :=
  let p := tget {} s.cache.listed g
  let c := { s.cache with poison := tmod 0#64 g (fun b => b &&& ~~~lineBit l) s.cache.poison }
  let q := dropLines (lineBit l) p
  if poisonEntries s - entriesOf p + entriesOf q ≤ 65536 then { s with cache := { c with listed := tput {} g q c.listed } }
  else
    let q := dropLines (runAbove l (allListed q)) q
    { s with cache := { c with
        listed := tput {} g q c.listed, overflow := true, overflowTs := if c.overflow then c.overflowTs else engineNow s } }

/-- A listed granule that an error makes DIRTY again after the drain has selected it is taken again, and the system bolt after it:
what the image holds of it carries the poison, or lies where the location map says (R25, R39, R93, R166; DEDUCED, log entry
49). -/
def takeAgain (g : Nat) (s : State) : State :=
  if (s.vlt.state = .drain || s.vlt.state = .knot) && s.drain.stage ≠ .final && (s.drain.manifest.getD []).contains g &&
      !s.drain.left.contains g then
    { s with drain := { s.drain with left := g :: s.drain.left, stage := .none, sysLeft := [], ckptKnot := none } }
  else s

/-- Poisons a whole granule and sets it DIRTY with PENDING 0 (R96, R247). -/
def poisonGranule (g : Nat) (s : State) : State :=
  takeAgain g (setEntry g { st := .dirty, pending := false } (poisonLines g allBytes .internal s))

/-! ### DDR5 errors (R99, R100, R107) -/

/-- Counts a corrected error on the channel of a line (R99). -/
def countCe (line : Nat) (s : State) : State :=
  { s with cache := { s.cache with ch := modAt (lineChannel line s) (fun c => { c with ce := satAdd max32 c.ce 1 }) s.cache.ch } }

/-- Counts an uncorrectable error on the channel of a line. -/
def countUe (line : Nat) (s : State) : State :=
  { s with cache := { s.cache with ch := modAt (lineChannel line s) (fun c => { c with ue := satAdd max32 c.ue 1 }) s.cache.ch } }

/-- An uncorrectable error in a line of a DIRTY or STAGING granule: the line is poisoned, STAGING goes DIRTY
(R100). -/
def ueDirty (line : Nat) (s : State) : State :=
  let g := line / 64
  let s := poisonLines g (lineBit (line % 64)) .internal s
  let s := if (entryOf g s).st = .staging then takeAgain g (setState g .dirty s) else s
  engineFault 27 (64 * line) s

/-- Whether a DDR5 controller is in a unit reset, during which every host access is held (R107, R420). -/
def ddrInReset (s : State) : Bool := s.flt.resets.any (fun u => decide (4 ≤ u) && decide (u ≤ 7))

/-! ### Commits (R19, R59, R95, R101, R303) -/

/-- What the read of the line that a partial write is merged into leads to: the granule is DIRTY by then (R59), so that an
uncorrectable line is poisoned (R99, R100; log entry 45). -/
def mergeRead (w : HeldWrite) (s : State) : State :=
  match eccOf (byEight s) w.burst with
  | .ok => s
  | .corrected => countCe (w.dpa / 64) s
  | .uncorrectable => ueDirty (w.dpa / 64) (countUe (w.dpa / 64) s)

/-- Commits a write without its completion: a ZERO granule is zero-filled, its entry goes DIRTY, then the line, read and
merged where the write is partial, is written. -/
def commitLine (w : HeldWrite) (s : State) : State :=
  let g := w.dpa / 4096
  let l := w.dpa % 4096 / 64
  let zero : Bool := (entryOf g s).st = .zero
  let s := if zero then zeroRange (4096 * g) (4096 * g + 4096) s else s
  let s := setState g .dirty s
  let s := if zero || w.be = allBytes then s else mergeRead w s
  let s := writeLine (w.dpa / 64 * 64) w.data w.be s
  let s := if w.poison then poisonLines g (lineBit l) .external s
    else if w.be = allBytes then unpoison g l s else s
  { s with mbx := { s.mbx with writtenSince := true, sealBroken := true } }

/-- Commits a write and returns its completion (R19); a monitor may sample its latency (R518). -/
def commit (w : HeldWrite) (s : State) : State := sampleFree 5 0 (emit (.written w.tag (devLoad s)) (commitLine w s))

/-! ### The budget (R31, R129 to R131) -/

/-- The right-hand side's Σ term in pJ, rounded up, for so many counted bytes (R129). -/
def energyFor (bytes : Nat) (s : State) : Nat := divUp (bytes * s.stg.epb * (1024 + setting s P.margin)) 1024

/-- Whether the capacity exercise is in TAIL, where every write is held and the fixed terms count as 0 (R380). -/
def inTail (s : State) : Bool := s.chg.phase = .tail

/-- E_fixed and E_win as the invariant takes them: 0 in TAIL, as long as no write has been committed since the seal (R31, R380). -/
def fixedTerms (s : State) : Nat := if inTail s && !s.mbx.writtenSince then 0 else s.stg.eFixed + s.stg.eWindow

/-- Whether the invariant holds with `extra` counted bytes more; in TAIL every write is held (R31, R129, R380). -/
def fits (extra : Nat) (s : State) : Bool :=
  s.stg.computed && !(inTail s && decide (extra ≠ 0)) &&
  decide (fixedTerms s * 10 ^ 9 + energyFor (countedBytes s + extra) s ≤ s.stg.eGuar * 10 ^ 9)

/-- The fill F (R130). -/
def fillOf (s : State) : Nat :=
  if !s.stg.computed then 4095
  else if s.stg.eGuar ≤ s.stg.eFixed + s.stg.eWindow then 4095
  else
    let a := s.stg.eGuar - s.stg.eFixed - s.stg.eWindow
    Nat.min 4095 (divUp (1000 * (countedBytes s * s.stg.epb * (1024 + setting s P.margin))) (1024 * (a * 10 ^ 9)))

/-- What a granule adds to the counted residual. -/
def costOf (g : Nat) (s : State) : Nat := if isDuplex s (boltOf s g) then 8192 else 4096

/-- Whether a bolt stands at its dirty cap (R89). -/
def atCap (n : Nat) (s : State) : Bool :=
  let cap := tget 0 s.cache.caps n
  decide (cap ≠ 0) && decide (cap ≤ residualOf n s)

/-- Held writes that would take a granule of a bolt into the residual: the room that they are to find (R89). -/
def heldFor (n : Nat) (s : State) : Nat :=
  (s.stg.heldq.filter (fun w => boltOf s (w.dpa / 4096) = n && !inRes (entryOf (w.dpa / 4096) s))).length

/-- Whether a bolt has room for one granule more than the writes that are held for it take: each write released from its cap queue
has one granule of room (R89). -/
def capRoom (n : Nat) (s : State) : Bool :=
  let cap := tget 0 s.cache.caps n
  cap = 0 || decide (residualOf n s + heldFor n s < cap)

/-- A write's place in a queue by its order of arrival. -/
def byArrival (w : HeldWrite) : List HeldWrite → List HeldWrite
  | [] => [w]
  | x :: t => if w.order < x.order then w :: x :: t else x :: byArrival w t

/-- Enters a write in its bolt's cap queue, which stands in order of arrival (R89). -/
def joinCapQueue (n : Nat) (w : HeldWrite) (s : State) : State :=
  { s with cache := { s.cache with capq := tmod [] n (byArrival w) s.cache.capq } }

/-- Whether writes to a bolt are discarded: it is shed, and its residual has gone (R230). -/
def boltDiscards (n : Nat) (s : State) : Bool := s.nand.shed.contains n && !s.nand.shedding.contains n

/-- A write to a shed bolt is completed, discarded and counted (R230). -/
def discardShed (w : HeldWrite) (s : State) : State :=
  emit (.written w.tag (devLoad s)) { s with nand := { s.nand with discards := satAdd max32 s.nand.discards 1 } }

/-- Held writes whose granule has entered the residual meanwhile are held no longer; they complete ahead of the others (R135). -/
def passHeld (s : State) : State :=
  s.stg.heldq.foldl (fun s w =>
    let g := w.dpa / 4096
    if inRes (entryOf g s) && !inTail s && !boltDiscards (boltOf s g) s then sampleFree 8 0 (commit w s)
    else { s with stg := { s.stg with heldq := s.stg.heldq ++ [w] } }) { s with stg := { s.stg with heldq := [] } }

/-- Commits held writes from the head of the queue as far as the invariant and the caps allow (R135, R89), and then those further back
that are held no longer; a write to a bolt that
is shed by now is discarded, as one that arrives now (R230). A write whose bolt
has reached its cap while it was held goes into that bolt's cap queue, in its place by arrival; R135 states the other way alone
(DESIGN CHOICE, log entry 46). -/
def releaseHeld : Nat → State → State
  | 0, s => s
  | n + 1, s =>
    match s.stg.heldq with
    | [] => s
    | w :: t =>
      let g := w.dpa / 4096
      let pop := { s with stg := { s.stg with heldq := t } }
      if boltDiscards (boltOf s g) s then releaseHeld n (sampleFree 8 0 (discardShed w pop))
      else if inRes (entryOf g s) && !inTail s then releaseHeld n (sampleFree 8 0 (commit w pop))
      else if atCap (boltOf s g) s then releaseHeld n (joinCapQueue (boltOf s g) w pop)
      else if fits (costOf g s) s then releaseHeld n (sampleFree 8 0 (commit w pop))
      else passHeld s

/-- The level that three flags stand for (R131). -/
def levelOf (l1 l2 l3 : Bool) : Nat := if l3 then 3 else if l2 then 2 else if l1 then 1 else 0

/-- A flag with two thresholds (R131). -/
def hysteresis (on off f : Nat) (b : Bool) : Bool := if on ≤ f then true else if f < off then false else b

/-- Sets the flags, the fill, DEFICIT and the reef events from the present residual (R35, R131, R134). -/
def reefFlags (s : State) : State :=
  let g := s.stg
  let f := fillOf s
  let ok := fits 0 s
  let l1 := hysteresis (setting s P.l1On) (setting s P.l1Off) f g.l1
  let l2 := hysteresis (setting s P.l2On) (setting s P.l2Off) f g.l2
  let l3 := if !g.heldq.isEmpty || !ok || inTail s then true else if f < setting s P.l3Off then false else g.l3
  let old := reefLevel s
  let new := levelOf l1 l2 l3
  let rise := decide (old < new) && decide (2 ≤ new)
  let fall := decide (0 < old) && new = 0
  let s := { s with stg := { g with
    fill := f, deficit := !ok, l1 := l1, l2 := l2, l3 := l3,
    boost := hysteresis (setting s P.boostOn) (setting s P.boostOff) f g.boost,
    evtRise := g.evtRise || rise, evtClear := g.evtClear || fall,
    recovering := !ok && decide (0 < residual s) } }
  let s := if ok then engineClear 5 s else s
  let s := if g.heldq.isEmpty && s.cache.capq.isEmpty then engineClear 4 s else s
  let s := if decide (old < 3) && new = 3 then postEvent 1 5 0xFF [f, g.eGuar] s else s
  if rise || (fall && g.ieClear) then msix 3 s else s

/-- Whether a command of R318, which empties the cache, runs. -/
def emptying (s : State) : Bool :=
  s.mbx.bg = some .sanitize || s.mbx.bg = some .secureErase || s.mbx.bg = some .dropImage

/-- An evaluation of the budget (R32, R130, R131, R135); no held write commits while a DDR5 controller is in a unit reset
(R107), nor while a command of R318 runs (R318; DEDUCED, log entry 33). -/
def evaluate (s : State) : State := reefFlags (if ddrInReset s || emptying s then s else releaseHeld s.stg.heldq.length s)

/-! ### Admission (R31, R153) -/

/-- Whether the vault state admits writes (R31, R153). -/
def admitting (s : State) : Bool :=
  s.vlt.state = .armed || s.vlt.state = .speculative || s.vlt.state = .confirmed || s.vlt.state = .window

/-- Whether a write already received waits uncommitted, numbered below `n` (R307). -/
def uncommittedBelow (n : Nat) (s : State) : Bool :=
  s.stg.heldq.any (fun w => decide (w.order < n)) ||
  s.cache.capq.any (fun q => q.2.any (fun w => decide (w.order < n))) ||
  s.cache.fetches.any (fun f => f.writes.any (fun w => decide (w.order < n))) ||
  s.cache.waiting.any (fun r => match r with | .write w => decide (w.order < n) | .read .. => false)

/-- Drops a waiting request that is a write. -/
def isReadReq : HostReq → Bool | .write _ => false | .read .. => true

/-- Discards every uncommitted write without completion (R20, R21, R45, R154). -/
def discardWrites (s : State) : State :=
  let held := s.stg.heldq ++ s.cache.capq.flatMap (·.2)
  let s := held.foldl (fun s _ => sampleFree 8 0 s) s
  { s with
    stg := { s.stg with heldq := [] },
    cache := { s.cache with
      capq := [], waiting := s.cache.waiting.filter isReadReq,
      fetches := s.cache.fetches.map (fun f => { f with writes := [] }) } }

/-! ### Image discard (R91, R102, R109) -/

/-- Empties the poison list and takes all poison away; OVERFLOW clears (R102). -/
def emptyPoison (s : State) : State :=
  { s with cache := { s.cache with poison := [], listed := [], overflow := false, overflowTs := 0 } }

/-- Sets every granule ZERO with PENDING 0 and no knotted copy (R91, R109). -/
def zeroMap (s : State) : State := { s with cache := { s.cache with map := [], loc := [], stamps := [] } }

/-! ### The hold-up switch (R328) -/

/-- Whether VBUS lies more than `mv` below the store (R328). VBUS follows VIN through the input switch, which R326 holds off at
an overvoltage, so that the store carries it then; before the first scan of the cells the store counts as the higher (DEDUCED,
log entry 76). -/
def vbusLow (mv : Nat) (s : State) : Bool :=
  s.vin.ovp || s.cell.stackMv = 0 || decide (25 * s.vin.vin + mv < s.cell.stackMv)

/-- Whether the hold-up switch conducts: FORCED with VBUS below the store, or CLOSED while the pfail comparator or R326 reads
VIN below vin_pfail and VBUS lies more than 25 mV below the store (R328). -/
def conducts (s : State) : Bool :=
  (s.pwr.huMode = .forced && vbusLow 0 s) || (s.pwr.huMode = .closed && (s.vin.comp || s.vin.ovp) && vbusLow 25 s)

end Sys2Proof.Machine
end

