-- ==== Sys2Proof/Machine/Nand.lean ====
section
/-! DEFINITION. The vault store's shared operations: page pointers, working channels and their pairs, blocks,
pages, the erased pool (R191, R201 to R205, R219 to R222, R227 to R229). -/

namespace Sys2Proof.Machine

/-- The channel of a page pointer (R191). -/
def ptrChannel (p : Nat) : Nat := p / 2 ^ 36 % 16
/-- The target of a page pointer (R191). -/
def ptrTarget (p : Nat) : Nat := p / 2 ^ 33 % 128
/-- The block of a page pointer, with its target, LUN and plane (R191). -/
def ptrBlock (p : Nat) : Nat := p / 4096
/-- The page within the block. -/
def ptrPage (p : Nat) : Nat := p % 4096
/-- The slot address of a slot of a page (R191). -/
def slotAddr (p s : Nat) : Nat := 4 * p + s
/-- The target of a block. -/
def blockTarget (b : Nat) : Nat := b / 2 ^ 21
/-- A block of a target by its LUN, plane and block bits (R221). -/
def blockKey (t b : Nat) : Nat := t * 2 ^ 21 + b % 2 ^ 21

/-- The page pointer of copy B: another channel and block, all else that of copy A (R203). -/
def partnerPtr (p channel block : Nat) : Nat :=
  channel * 2 ^ 36 + p / 2 ^ 28 % 256 * 2 ^ 28 + block % 65536 * 4096 + p % 4096

/-- The location-map entry as 64 bits (R217). -/
def locWord (l : Option Loc) : Nat :=
  match l with
  | none => 2 ^ 64 - 1
  | some x => match x.b with
    | none => x.a
    | some b => 2 ^ 62 + b.1 * 2 ^ 58 + b.2 * 2 ^ 42 + x.a

/-- An index of a class (R200). -/
def classIndex (c ordinal : Nat) : Nat := 2 ^ 26 + c * 2 ^ 22 + ordinal

/-- A target's record. -/
def targetAt (t : Nat) (s : State) : Target := tget {} s.nand.targets t
/-- A channel's record. -/
def channelAt (c : Nat) (s : State) : NandCh := tget {} s.nand.ch c
/-- Whether the counter of a target's unlisted blocks has reached pslc_cycles (R220). -/
def wornFresh (t : Nat) (s : State) : Bool := decide (setting s P.pslcCycles ≤ (targetAt t s).fresh)

/-- A block's record; one that is not listed is erased and has its target's counter for such blocks (R219, R220). -/
def blockAt (b : Nat) (s : State) : Block :=
  match tfind s.nand.blocks b with
  | some x => x
  | none => { pe := (targetAt (blockTarget b) s).fresh, worn := wornFresh (blockTarget b) s }

/-- Changes a target's record. -/
def modTarget (t : Nat) (f : Target → Target) (s : State) : State :=
  { s with nand := { s.nand with targets := tmod {} t f s.nand.targets } }
/-- Changes a channel's record. -/
def modChannel (c : Nat) (f : NandCh → NandCh) (s : State) : State :=
  { s with nand := { s.nand with ch := tmod {} c f s.nand.ch } }
/-- Changes a block's record. -/
def modBlock (b : Nat) (f : Block → Block) (s : State) : State :=
  { s with nand := { s.nand with blocks := tins b (f (blockAt b s)) s.nand.blocks } }

/-- Whether the draft declares a target (R451). -/
def declared (t : Nat) (s : State) : Bool :=
  match s.drf.active with
  | some d => (match d.nand.targets[t]? with | some k => k ≠ 0xFF | none => false)
  | none => false

/-- A declared target's descriptor (R451). -/
def descAt (t : Nat) (s : State) : Option Desc :=
  match s.drf.active with
  | some d => (match d.nand.targets[t]? with | some k => d.nand.descs[k]? | none => none)
  | none => none

/-- Whether a channel is retired, for the boot or for the vault (R173, R190, R277). -/
def channelRetired (c : Nat) (s : State) : Bool :=
  (channelAt c s).retired ||
  ((s.vlt.state = .fenced || s.vlt.state = .drain || s.vlt.state = .knot) && s.vlt.retired.contains c)

/-- Whether a target works: declared, ready, neither it nor its channel retired. -/
def targetWorks (t : Nat) (s : State) : Bool :=
  declared t s && (targetAt t s).ready && !(targetAt t s).retired && !channelRetired (t / 8) s

/-- Whether a target is read: one that works, and one retired for a full bad-block table, whose channel still answers (R222, R259). -/
def targetReads (t : Nat) (s : State) : Bool :=
  declared t s && (targetAt t s).ready && (!(targetAt t s).retired || (targetAt t s).permanent) && !channelRetired (t / 8) s

/-- The working channels, ascending (R202). -/
def workingChannels (s : State) : List Nat :=
  (List.range 12).filter (fun c => (List.range 8).any (fun e => targetWorks (8 * c + e) s))

/-- The partner of the channel that leads a duplex pair, ci of c(i + w/2); with one working channel, itself (R202, R203). -/
def partnerOf (c : Nat) (s : State) : Option Nat :=
  let w := workingChannels s
  let h := w.length / 2
  if w.length = 1 then (if w.head? = some c then some c else none)
  else match w.findIdx? (· = c) with
    | some i => if i < h then w[i + h]? else none
    | none => none

/-- The other channel of a duplex pair, whichever is asked for; none with one working channel (R202, R233). -/
def pairedWith (c : Nat) (s : State) : Option Nat :=
  let w := workingChannels s
  let h := w.length / 2
  match w.findIdx? (· = c) with
  | some i => if i < h then w[i + h]? else if i < 2 * h then w[i - h]? else none
  | none => none

/-- Whether a page pointer names a page that its target's descriptor has (R191, R451). -/
def pageExists (p : Nat) (s : State) : Bool :=
  match descAt (ptrTarget p) s with
  | some d => decide (p / 2 ^ 31 % 4 < d.luns) && decide (p / 2 ^ 28 % 8 < d.planes) && decide (p / 4096 % 65536 < d.blocks) &&
      decide (ptrPage p < d.pages)
  | none => false

/-- The root blocks of a target: the first two good blocks among blocks 0 to 7 of LUN 0, plane 0 (R216). -/
def rootBlocks (t : Nat) (s : State) : List Nat :=
  (((List.range 8).filter (fun b => !((targetAt t s).bbt.any (fun e => e.2 = b)))).take 2).map (blockKey t)

/-- Whether a page is the next free one of a block that takes programs: its target works and has it, and a block of a store
that held no image has been erased first (R201, R205, R215, R220). -/
def pageFree (p : Nat) (s : State) : Bool :=
  let b := blockAt (ptrBlock p) s
  targetWorks (ptrTarget p) s && pageExists p s && !b.failed && !b.worn && b.next = ptrPage p && (!s.nand.unowned || b.owned) &&
  !(rootBlocks (ptrTarget p) s).contains (ptrBlock p) && !((targetAt (ptrTarget p) s).bbt.any (fun e => e.2 = ptrBlock p % 2 ^ 21))

/-! ### Frontiers (R201) -/

/-- Whether a block still takes programs: it is neither full nor stopped. -/
def blockOpen (b : Nat) (s : State) : Bool :=
  let x := blockAt b s
  !x.failed && !x.erased && (match descAt (blockTarget b) s with | some d => decide (x.next < d.pages) | none => false)

/-- Whether a simplex page lies on its plane's frontier, or opens a block where the frontier has reached its end (R201). -/
def onFrontier (p : Nat) (s : State) : Bool :=
  match tfind s.nand.front (p / 2 ^ 28) with
  | some b => if blockOpen b s && targetWorks (blockTarget b) s then b = ptrBlock p else ptrPage p = 0
  | none => ptrPage p = 0

/-- The same of a record that goes in no block of `avoid`: a frontier in one of them counts as closed (R167, R201). -/
def onFrontierBut (p : Nat) (avoid : List Nat) (s : State) : Bool :=
  match tfind s.nand.front (p / 2 ^ 28) with
  | some b => if avoid.contains b then ptrPage p = 0 else onFrontier p s
  | none => ptrPage p = 0

/-- Whether a frontier pair still takes programs: both targets work (R201, R202). -/
def pairStands (a b : Nat) (s : State) : Bool := targetWorks (blockTarget a) s && targetWorks (blockTarget b) s

/-- Whether the pages of a duplex pair lie on its frontier pair, which is one for each pairing of channels, or open a block pair where there is none that still takes
programs; a pair with a block in `avoid` counts as closed (R201, R203). -/
def onPairFrontier (p q : Nat) (avoid : List Nat) (s : State) : Bool :=
  match tfind s.nand.pairFront (ptrChannel p) with
  | some (a, b) =>
    if blockOpen a s && blockOpen b s && pairStands a b s && b / 2 ^ 24 = ptrChannel q && !avoid.contains a && !avoid.contains b then
      a = ptrBlock p && b = ptrBlock q
    else ptrPage p = 0
  | none => ptrPage p = 0

/-- Whether a simplex page may be programmed at `p` (R201). -/
def programmable (p : Nat) (s : State) : Bool := pageFree p s && onFrontier p s

/-- The page of copy B of a duplex page at `p` (R202, R203). -/
def copyBPtr (p block : Nat) (s : State) : Nat := partnerPtr p ((partnerOf (ptrChannel p) s).getD (ptrChannel p)) block

/-- Whether the pages `p` and `q` may take the copies of a duplex unit: the channel of `p` leads a pair and `q` is the page on
its other channel, and the two blocks are opened as a pair (R201 to R203). That copy A lies on the channel that R202 lists
first is the model's choice: the spec gives the copies no side (DESIGN CHOICE, log entry 50). -/
def pairPages (p q : Nat) (avoid : List Nat) (s : State) : Bool :=
  (partnerOf (ptrChannel p) s).isSome && q = copyBPtr p (ptrBlock q) s && q ≠ p && pageFree p s && pageFree q s &&
  onPairFrontier p q avoid s

/-- Whether a duplex page may be programmed at `p` and in `block` of the partner (R203). -/
def pairProgrammable (p block : Nat) (s : State) : Bool := pairPages p (copyBPtr p block s) [] s

/-- Whether an epoch's record, a knot or a void knot, may be programmed at `p` and `q`, in no block of `avoid`: on the pair
whose index is the epoch modulo the number of pairs; with one working channel in two LUNs or planes of it (R204). -/
def recordPages (epoch p q : Nat) (avoid : List Nat) (s : State) : Bool :=
  let w := workingChannels s
  !avoid.contains (ptrBlock p) && !avoid.contains (ptrBlock q) &&
  (if w.length = 1 then
    pageFree p s && pageFree q s && ptrChannel p = ptrChannel q && p / 2 ^ 28 % 32 ≠ q / 2 ^ 28 % 32 &&
      onFrontierBut p avoid s && onFrontierBut q avoid s
  else w[epoch % (w.length / 2)]? = some (ptrChannel p) && pairPages p q avoid s)

/-! ### Operations on targets (R187, R193) -/

/-- A shuttle performs an operation. -/
def onfi (t : Nat) (op : Onfi) (s : State) : State := emit (.onfi t op) s

/-- An erase or a program, with the prefix that enters pSLC by method 1, and Read Status Enhanced after it (R187, R193). -/
def onfiPslc (t : Nat) (op : Onfi) (s : State) : State :=
  let s := match descAt t s with
    | some d => if d.pslcMethod = 1 then onfi t (.pslcPrefix d.pslcCmd) s else s
    | none => s
  onfi t .readStatusEnhanced (onfi t op s)

/-! ### Programs -/

/-- Opens a block at its first program: the target's block sequence moves on and is stamped (R201). -/
def openBlock (p : Nat) (s : State) : State :=
  let b := ptrBlock p
  let s :=
    if (blockAt b s).next = 0 then
      let t := modTarget (ptrTarget p) (fun x => { x with blockSeq := x.blockSeq + 1 }) s
      modBlock b (fun x => { x with seq := (targetAt (ptrTarget p) t).blockSeq }) t
    else s
  modBlock b (fun x => { x with erased := false, next := ptrPage p + 1 }) s

/-- The frontier follows a program: the plane's block, or the block pair of a duplex page (R201). -/
def moveFrontier (p : Nat) (pair : Option Nat) (s : State) : State :=
  match pair with
  | none => { s with nand := { s.nand with front := tins (p / 2 ^ 28) (ptrBlock p) s.nand.front } }
  | some q => { s with nand := { s.nand with pairFront := tins (ptrChannel p) (ptrBlock p, ptrBlock q) s.nand.pairFront } }

/-- Programs a page: its block opens, and the page is stored (R192, R193, R197). -/
def programPage (p : Nat) (type epoch : Nat) (units : List NandUnit) (dup copyB reprogram : Bool)
    (partner : Option Nat) (s : State) : State :=
  let s := onfiPslc (ptrTarget p) (.pageProgram p) (openBlock p s)
  let b := blockAt (ptrBlock p) s
  let page : Page :=
    { type := type, epoch := epoch, units := units, dup := dup, copyB := copyB, reprogram := reprogram,
      partner := partner, blockSeq := b.seq, pe := b.pe, ts := engineNow s, key := s.lcs.keyId }
  sampleFree 2 (ptrChannel p) { s with nand := { s.nand with
    pages := tins p page s.nand.pages, badHeaders := s.nand.badHeaders.filter (· ≠ p),
    badSlots := s.nand.badSlots.filter (fun a => a / 4 ≠ p) } }

/-- A page program that failed: the block takes no further programs (R205). -/
def failPage (p : Nat) (s : State) : State :=
  let s := onfiPslc (ptrTarget p) (.pageProgram p) (openBlock p s)
  sampleFree 2 (ptrChannel p) <| modChannel (ptrChannel p) (fun c => { c with pfails := satAdd max32 c.pfails 1 })
    (modBlock (ptrBlock p) (fun x => { x with failed := true }) s)

/-- The block of a page whose partner's program failed takes no further programs: its remaining pages are abandoned (R203). -/
def abandonBlock (p : Nat) (s : State) : State := modBlock (ptrBlock p) (fun x => { x with erased := false, next := 4096 }) s

/-- The page that holds a slot address. -/
def pageOfSlot (a : Nat) (s : State) : Option Page := tfind s.nand.pages (a / 4)

/-- The unit at a slot address. -/
def unitAt (a : Nat) (s : State) : Option NandUnit :=
  match pageOfSlot a s with | some p => p.units[a % 4]? | none => none

/-- Whether a location-map entry names a slot of the block `b` (R227). -/
def blockLive (b : Nat) (s : State) : Bool :=
  s.cache.loc.any (fun e => e.2.a / 4 / 4096 = b ||
    (match e.2.b with
     | some (c, k) => partnerPtr (e.2.a / 4) c k / 4096 = b
     | none => false))

/-- Whether a copy can be read: it was programmed and reads, its page is not erased, its target is read, and the last restore
found its page's header valid and its payload good (R196, R197, R210). -/
def copyReads (slot : Nat) (reads : Bool) (s : State) : Bool :=
  reads && (pageOfSlot slot s).isSome && targetReads (ptrTarget (slot / 4)) s && !s.nand.badHeaders.contains (slot / 4) &&
  !s.nand.badSlots.contains slot

/-- Whether a knot record has a copy that reads and decrypts under the present key (R210). -/
def knotReads (k : KnotRec) (s : State) : Bool :=
  k.key = s.lcs.keyId && (copyReads k.slot k.readA s || copyReads k.slotB k.readB s)

/-- Whether a void knot has a copy that reads and decrypts under the present key (R210). -/
def voidReadable (v : VoidRec) (s : State) : Bool :=
  v.key = s.lcs.keyId && (copyReads v.slot v.readA s || copyReads v.slotB v.readB s)

/-- Whether a valid void knot names an epoch (R210). -/
def isVoided (e : Nat) (s : State) : Bool := s.nand.voids.any (fun v => v.epoch = e && voidReadable v s)

/-- The slot addresses of the PREV chain from a knot record, newest first (R210, R243). -/
def prevChain : Nat → Option Nat → List KnotRec → List KnotRec
  | 0, _, _ => []
  | _, none, _ => []
  | n + 1, some a, l =>
    match l.find? (fun k => k.slot = a) with
    | some k => k :: prevChain n k.prev l
    | none => []

/-- The knot records of the PREV chain from the newest, those whose epoch is not voided (R210). -/
def knottedChain (s : State) (newest : Option Nat) : List KnotRec :=
  (prevChain s.nand.knots.length newest (s.nand.knots.filter (fun k => knotReads k s))).filter (fun k => !isVoided k.epoch s)

/-- The newest complete checkpoint on the chain (R212). -/
def newestCkpt (s : State) (newest : Option Nat) : Option KnotRec :=
  (knottedChain s newest).find? (fun k => k.kind = .ckptEnd)

/-- BASE of a checkpoint's knot record. -/
def ckptBase (k : KnotRec) : Nat := match k.kindData with | .ckptEnd b _ _ _ => b | _ => 0
/-- FIRST of a checkpoint's knot record. -/
def ckptFirst (k : KnotRec) : Nat := match k.kindData with | .ckptEnd _ f _ _ => f | _ => 0

/-- Whether a page belongs to the newest complete checkpoint (R212). -/
def ckptPage (ck : Option KnotRec) (p : Page) : Bool :=
  match ck with
  | some k => p.type = 5 && decide (ckptFirst k ≤ p.epoch) && decide (p.epoch ≤ k.epoch)
  | none => false

/-- The epoch of the newest fence manifest that is knotted; 0 without one (R227). -/
def newestManifest (s : State) : Nat :=
  ((s.nand.knots.filter (fun k => k.kind = .manifest && knotReads k s && !isVoided k.epoch s)).map (·.epoch)).foldl Nat.max 0

/-- Whether a block holds nothing that R227 keeps; a block that R215 has erased before its first use holds no image. -/
def holdsNoImage (b : Nat) (s : State) : Bool :=
  let chain := knottedChain s s.stg.lastKnot
  let ck := chain.find? (fun k => k.kind = .ckptEnd)
  let base := match ck with | some k => ckptBase k | none => 0
  let man := newestManifest s
  !blockLive b s &&
  ((s.nand.unowned && !(blockAt b s).owned) ||
   !(s.nand.pages.any (fun e => e.1 / 4096 = b &&
      (ckptPage ck e.2 || (decide (0 < man) && e.2.epoch = man) || decide (base < e.2.epoch)))))

/-- Whether R227 allows a block to be erased. -/
def mayErase (b : Nat) (s : State) : Bool := holdsNoImage b s && !(rootBlocks (blockTarget b) s).contains b

/-! ### Root records (R216, R219) -/

/-- The newest root record of a target that reads, with its page: the highest SEQUENCE in blocks 0 to 7 of LUN 0, plane 0,
those in `bad` apart (R216). -/
def newestRoot (t : Nat) (bad : List Nat) (s : State) : Option (Nat × RootRec) :=
  (s.nand.pages.filter (fun e => ptrTarget e.1 = t && decide (ptrBlock e.1 % 2 ^ 21 < 8) && !bad.contains (ptrBlock e.1 % 2 ^ 21))).foldl
    (fun m e => match (e.2.units.head?).map NandUnit.data with
      | some (.root r _) => (match m with
        | some x => if x.2.seq < r.seq then some (e.1, r) else some x
        | none => some (e.1, r))
      | _ => m) none

/-- The blocks of a target. -/
def targetBlocks (t : Nat) (s : State) : Nat :=
  match descAt t s with | some d => d.luns * d.planes * d.blocks | none => 0

/-- The slots of a target's root record: the descriptor, 512 table entries, 3 bytes for each block and SEQUENCE, in slots of
4,092 bytes and a CRC (R216, R221). -/
def rootSlots (t : Nat) (s : State) : Nat := divUp (128 + 2048 + 3 * targetBlocks t s + 16) 4092

/-- A block that has been erased: its counter rises, and at pslc_cycles it is worn (R219, R220). -/
def erasedBlock (x : Block) (s : State) : Block :=
  let pe := satAdd 16777215 x.pe 1
  { pe := pe, worn := decide (setting s P.pslcCycles ≤ pe), owned := true }

/-- Erases a root block: its pages go, and its counter rises (R219). -/
def eraseRoot (b : Nat) (s : State) : State :=
  let s := onfiPslc (blockTarget b) (.blockErase b) s
  let s := { s with nand := { s.nand with pages := s.nand.pages.filter (fun e => e.1 / 4096 ≠ b) } }
  modTarget (blockTarget b) (fun t => { t with erases := t.erases + 1 }) (modBlock b (fun x => erasedBlock x s) s)

/-- Whether a root block has `n` pages left. -/
def rootFits (b n : Nat) (s : State) : Bool :=
  match descAt (blockTarget b) s with | some d => decide ((blockAt b s).next + n ≤ d.pages) | none => false

/-- Whether a block holds pages of an image: it became a root block when one before it went bad (R216). -/
def imagePages (b : Nat) (s : State) : Bool := s.nand.pages.any (fun e => e.1 / 4096 = b && e.2.type ≠ 6 && e.2.type ≠ 7)

/-- Whether a root block takes `n` pages: they fit, or it may be erased first. No vault erases a block, a worn one is erased no
more, and pages of an image are erased as R227 allows (R216, R220, R227, R228). A record that finds no room is left out (DESIGN
CHOICE, log entry 51). -/
def rootWritable (b n : Nat) (s : State) : Bool :=
  (rootFits b n s && !imagePages b s) ||
  (!inVault s && !(blockAt b s).worn && (!imagePages b s || holdsNoImage b s))

/-- Makes room for `n` pages in a root block: one without that much, or with pages of an image, is erased first. -/
def rootRoom (b n : Nat) (s : State) : State := if rootFits b n s && !imagePages b s then s else eraseRoot b s

/-- Programs a root or directory record in a block, four units a page (R192, R216). -/
def programRoot (b type : Nat) (units : List NandUnit) (s : State) : State :=
  let first := 4096 * b + (blockAt b s).next
  (List.range (divUp units.length 4)).foldl (fun s i =>
    programPage (first + i) type 0 ((units.drop (4 * i)).take 4) false false false none s) s

/-- Writes a target's root record in the root block that does not hold the newest one (R216). -/
def writeRoot (t : Nat) (s : State) : State :=
  let roots := rootBlocks t s
  let old := newestRoot t [] s
  let b := match old with
    | some x => (roots.filter (fun b => b ≠ ptrBlock x.1)).head?
    | none => roots.head?
  let n := rootSlots t s
  match b.filter (fun b => rootWritable b (divUp n 4) s) with
  | none => s
  | some b =>
    let s := modTarget t (fun x => { x with erases := x.erases % 64 }) (rootRoom b (divUp n 4) s)
    let r : RootRec :=
      { seq := (match old with | some x => x.2.seq | none => 0) + 1, desc := descAt t s, bbt := (targetAt t s).bbt,
        pe := (s.nand.blocks.filter (fun e => blockTarget e.1 = t)).map (fun e => (e.1, e.2.pe)), fresh := (targetAt t s).fresh }
    programRoot b 6 ((List.range n).map (fun i =>
      { index := classIndex 8 (i / 4), bolt := 63, kind := .metadata, dup := false, data := .root r i })) s

/-- A root record follows every 64 erases on a target (R216). -/
def rootIfDue (t : Nat) (s : State) : State := if 64 ≤ (targetAt t s).erases then writeRoot t s else s

/-- Whether the drain of a vault runs: from FENCED to KNOT (R172). -/
def vaultRuns (s : State) : Bool := s.vlt.state = .fenced || s.vlt.state = .drain || s.vlt.state = .knot

/-- Whether every channel with a declared target has been through discovery in this boot: it is in use, or retired. -/
def discoveryDone (s : State) : Bool :=
  (List.range 12).all (fun c => !((List.range 8).any (fun e => declared (8 * c + e) s)) || (channelAt c s).trained || channelRetired c s)

/-- With no working channel left the drain stops: VAULT_NO_CHANNEL (R174); before discovery is over no channel works yet. -/
def noChannel (s : State) : State :=
  if vaultRuns s && discoveryDone s && (workingChannels s).isEmpty then engineFault 15 0 s else s

/-- Enters a block in its target's bad-block table; a 513th entry retires the target for good and raises
TARGET_RETIRED, and outside a vault the CLEAN granules with a copy on it become DIRTY (R221, R222, R224). -/
def enterBad (b cause : Nat) (s : State) : State :=
  let t := blockTarget b
  if (targetAt t s).permanent || (targetAt t s).bbt.any (fun e => e.2 = b % 2 ^ 21) then s
  else if (targetAt t s).bbt.length < 512 then
    writeRoot t (modTarget t (fun x => { x with bbt := x.bbt ++ [(cause, b % 2 ^ 21)] }) s)
  else
    let s := modTarget t (fun x => { x with retired := true, permanent := true, cause := 2 }) s
    let onTarget (l : Loc) : Bool := l.a / 4 / 2 ^ 33 = t ||
      (match l.b with | some (c, k) => partnerPtr (l.a / 4) c k / 2 ^ 33 = t | none => false)
    let s := if inVault s then s else s.cache.loc.foldl (fun s e =>
      if onTarget e.2 && (entryOf e.1 s).st = .clean then setState e.1 .dirty s else s) s
    noChannel (evaluate (engineFault 21 (t % 256) s))

/-- Bytes of a block of a target. -/
def blockBytes (t : Nat) (s : State) : Nat := match descAt t s with | some d => d.pages * 16384 | none => 0

/-- The blocks of a target that are not good or are worn, and its root blocks. -/
def badKeys (t : Nat) (s : State) : List Nat :=
  (targetAt t s).bbt.map (fun e => blockKey t e.2) ++ rootBlocks t s ++
    (s.nand.blocks.filter (fun e => blockTarget e.1 = t && (e.2.worn || e.2.failed))).map (·.1)

/-- Good blocks of a target that are not worn, the root blocks apart. -/
def goodBlocks (t : Nat) (s : State) : Nat :=
  let listed := (s.nand.blocks.filter (fun e => blockTarget e.1 = t)).map (·.1)
  if wornFresh t s then (listed.filter (fun b => !(badKeys t s).contains b)).length
  else targetBlocks t s - (badKeys t s).eraseDups.length

/-- The listed good blocks of a target for which `p` holds. -/
def goodWhere (t : Nat) (p : Nat → Block → Bool) (s : State) : Nat :=
  (s.nand.blocks.filter (fun e => blockTarget e.1 = t && p e.1 e.2 && !(badKeys t s).contains e.1)).length

/-- Bytes in the erased pool (R228); in a store that held no image, only blocks erased since (R215). -/
def erasedPool (s : State) : Nat :=
  (((List.range 96).filter (fun t => targetWorks t s)).map (fun t =>
    (if s.nand.unowned then goodWhere t (fun _ x => x.erased && x.owned) s
     else goodBlocks t s - goodWhere t (fun _ x => !x.erased) s) * blockBytes t s)).sum

/-- B_fixed of R127 in bytes. -/
def bFixed (s : State) : Nat :=
  let c := capGranules s * 4096
  2 * (c / 512 + 2 ^ 20 + 2 ^ 17 + 2 ^ 13) + 2 * (c / 32768) + 2 ^ 28 + setting s P.pfailReserve * 2 ^ 20

/-- The largest block of the working targets, in bytes. -/
def largestBlock (s : State) : Nat :=
  (((List.range 96).filter (fun t => targetWorks t s)).map (fun t => blockBytes t s)).foldl Nat.max 0

/-- The drain reserve D, rounded up to whole blocks; where the working targets' blocks differ, to the largest
(R228; DESIGN CHOICE, log entry 39). -/
def drainReserve (s : State) : Nat :=
  let d := ((List.range 63).map (fun n => match bolt s n with
    | some b =>
      let cap := tget 0 s.cache.caps n
      (if cap = 0 then b.size * 2 ^ 28 else cap * 4096) * (if b.duplex then 2 else 1)
    | none => 0)).sum + bFixed s
  if largestBlock s = 0 then d else divUp d (largestBlock s) * largestBlock s

/-- Bytes of the erased blocks that programs at some pages would open. -/
def openedBytes (ptrs : List Nat) (s : State) : Nat :=
  ((ptrs.filter (fun p => (blockAt (ptrBlock p) s).erased)).map (fun p => blockBytes (ptrTarget p) s)).sum

/-- Whether programs outside a vault may take the erased blocks that they open (R228). -/
def reserveAllows (ptrs : List Nat) (s : State) : Bool :=
  openedBytes ptrs s = 0 || decide (drainReserve s + openedBytes ptrs s ≤ erasedPool s)

/-- Sum of the sizes of the user bolts that are not shed, in bytes: P of R229. -/
def unshedBytes (s : State) : Nat :=
  ((List.range 63).map (fun n => match bolt s n with
    | some b => if s.nand.shed.contains n then 0 else b.size * 2 ^ 28 | none => 0)).sum

/-- The spare capacity: good blocks without live copies and without a page of the newest complete checkpoint (R229). -/
def spareBytes (s : State) : Nat :=
  let ck := newestCkpt s s.stg.lastKnot
  let kept := (s.nand.pages.filter (fun e => ckptPage ck e.2)).map (fun e => e.1 / 4096)
  (((List.range 96).filter (fun t => targetWorks t s)).map (fun t =>
    (goodBlocks t s - goodWhere t (fun b x => !x.erased && (kept.contains b || blockLive b s)) s) * blockBytes t s)).sum

/-- The valid directory record with the highest SEQUENCE among the chip enable 0 targets of the working channels (R214, R239). -/
def newestDir (s : State) : Option DirRec :=
  (s.nand.pages.filter (fun e => e.2.type = 7 && ptrTarget e.1 % 8 = 0 && copyReads (slotAddr e.1 0) true s)).foldl
    (fun m e => match (e.2.units.head?).map NandUnit.data with
      | some (.directory d) => (match m with
        | some x => if x.seq < d.seq then some d else some x
        | none => some d)
      | _ => m) none

/-- Writes a directory record in a root block that takes it (R214). -/
def writeDirIn (d : DirRec) (b : Nat) (s : State) : State :=
  if rootWritable b 1 s then
    rootIfDue (blockTarget b) <| programRoot b 7
      [{ index := classIndex 7 0, bolt := 63, kind := .metadata, dup := true, data := .directory d }] (rootRoom b 1 s)
  else s

/-- The root block of a target that takes a directory record: that of the newest root record where it has a page left, and
otherwise the other one (R214; DESIGN CHOICE, log entry 51). -/
def dirBlock (t : Nat) (s : State) : Option Nat :=
  let roots := rootBlocks t s
  match (newestRoot t [] s).map (fun x => ptrBlock x.1) with
  | some b => if rootFits b 1 s then some b else (roots.filter (fun r => r ≠ b)).head?
  | none => roots.head?

/-- Writes the next directory record on the chip enable 0 target of every working channel, so that both channels of every duplex
pair hold it, and with one working channel twice on it, in both root blocks (R204, R214; DESIGN CHOICE, log entry 51). Where the
block of the newest root record is full there, the root record first moves to the other, so that none is lost (R216). -/
def writeDirectory (s : State) : State :=
  let chain := knottedChain s s.stg.lastKnot
  let fin := chain.find? (fun k => k.kind = .final)
  let ck := chain.find? (fun k => k.kind = .ckptEnd)
  let d : DirRec :=
    { seq := s.nand.dirSeq + 1, finalSlot := fin.map (·.slot), finalEpoch := (fin.map (·.epoch)).getD 0,
      ckptSlot := ck.map (·.slot), ckptEpoch := (ck.map (·.epoch)).getD 0, highest := s.stg.lastKnotEpoch, ts := engineNow s }
  let s := { s with nand := { s.nand with dirSeq := s.nand.dirSeq + 1 } }
  let w := workingChannels s
  let full (t : Nat) (s : State) : Bool := (newestRoot t [] s).any (fun x => !rootFits (ptrBlock x.1) 1 s)
  (w.filter (fun c => targetWorks (8 * c) s)).foldl (fun s c =>
    let s := if w.length = 1 && full (8 * c) s then writeRoot (8 * c) s else s
    (if w.length = 1 then rootBlocks (8 * c) s else (dirBlock (8 * c) s).toList).foldl (fun s b => writeDirIn d b s) s) s

/-- Writes the root record of every working target (R216). -/
def writeRoots (s : State) : State :=
  (List.range 96).foldl (fun s t => if targetWorks t s then writeRoot t (modTarget t (fun x => { x with erases := 0 }) s) else s) s

/-- The user bolts that are not shed, in drain order (R37). -/
def drainBolts (s : State) : List Nat :=
  (List.range 16).flatMap (fun p => (List.range 63).filter (fun n => (bolt s n).isSome && priorityOf s n = p))

/-- Sheds bolts from the end of the drain order until R229 holds (R230). -/
def shedBolts : Nat → State → State
  | 0, s => s
  | k + 1, s =>
    if decide (5 * unshedBytes s + 2 ^ 32 ≤ 2 * spareBytes s) then s
    else match ((drainBolts s).filter (fun n => !s.nand.shed.contains n)).getLast? with
      | none => s
      | some n =>
        let s := msix 6 (postEvent 1 4 n [n] s)
        shedBolts k { s with nand := { s.nand with shed := insertSorted n s.nand.shed,
                                                   shedding := insertSorted n s.nand.shedding } }

/-- After a structural activation, once discovery has shown the new NAND set, STORE_DEGRADED and every shed bolt end when the
new structure satisfies R229 (R232). -/
def reassessStore (s : State) : State :=
  if !s.nand.reassess then s
  else
    let s := { s with nand := { s.nand with reassess := false } }
    let t := { s with nand := { s.nand with shed := [], shedding := [] } }
    if decide (5 * unshedBytes t + 2 ^ 32 ≤ 2 * spareBytes t) then engineClear 19 { t with nand := { t.nand with degraded := false } }
    else s

/-- The spare-capacity check (R229, R230); before discovery is over, and before MAPLOAD has shown which blocks hold live copies,
there is no capacity to judge (DEDUCED, log entry 39). -/
def spareCheck (s : State) : State :=
  if !discoveryDone s || !s.restore.mapKnown then s
  else
  let s := reassessStore s
  if s.drf.active.isNone || decide (5 * unshedBytes s + 2 ^ 32 ≤ 2 * spareBytes s) then s
  else
    let s := if s.nand.degraded then s
      else engineFault 19 0 (msix 6 (postEvent 1 3 0xFF [spareBytes s / 2 ^ 20] { s with nand := { s.nand with degraded := true } }))
    shedBolts 63 s

/-- Whether an epoch that is still unresolved has a page in a block. -/
def provisionalIn (b : Nat) (s : State) : Bool := s.stg.epochs.any (fun e => e.pages.any (fun p => ptrBlock p = b))

/-- The blocks of a target of the descriptor, by LUN, plane and block bits, ascending. -/
def descBlocks (d : Desc) : List Nat :=
  (List.range d.luns).flatMap (fun l => (List.range d.planes).flatMap (fun p =>
    (List.range d.blocks).map (fun b => l * 2 ^ 19 + p * 2 ^ 16 + b)))

/-- The unlisted blocks of the targets whose counter for them has reached pslc_cycles: they are worn and hold no copy
(R220). More than a bad-block table holds are not needed. -/
def wornBlocks (s : State) : List Nat :=
  ((List.range 96).filter (fun t => targetWorks t s && wornFresh t s)).flatMap (fun t => match descAt t s with
    | some d =>
      (((descBlocks d).filter (fun k => (tfind s.nand.blocks (blockKey t k)).isNone &&
        !((targetAt t s).bbt.any (fun x => x.2 = k)))).take 513).map (blockKey t)
    | none => [])

/-- Whether the engine writes NAND: from restore-ready on, and for the empty image that a structural change writes before it
(R237, R463). In a reset outside a vault nothing is written between its step 3 and the restore-ready after step 8 (R70). -/
def nandOpen (s : State) : Bool :=
  (s.restore.ready && (decide (s.warm.step < 4) || s.warm.step = 9 || inVault s)) || s.warm.structural

/-- Enters failed and worn blocks of the working targets in the bad-block table once no copy in them is live (R190, R205, R220). -/
def enterRetired (s : State) : State :=
  let due : Table Block := s.nand.blocks.filter (fun e => (e.2.failed || e.2.worn) && targetWorks (blockTarget e.1) s &&
    !blockLive e.1 s && !provisionalIn e.1 s &&
    !((targetAt (blockTarget e.1) s).bbt.any (fun x => x.2 = e.1 % 2 ^ 21)))
  (wornBlocks s).foldl (fun s b => enterBad b 3 s) (due.foldl (fun s e => enterBad e.1 (if e.2.failed then 1 else 3) s) s)

/-- Retires the blocks whose counter has reached pslc_cycles as worn, and, where NAND may be written, enters failed and worn
blocks of the working targets in the bad-block table once no copy in them is live (R190, R205, R220, R229, R237). -/
def retireBlocks (s : State) : State :=
  let limit := setting s P.pslcCycles
  let s : State := { s with nand := { s.nand with blocks := s.nand.blocks.map (fun e =>
      (e.1, if limit ≤ e.2.pe then { e.2 with worn := true } else e.2)) } }
  let t := enterRetired s
  if !nandOpen s || t.nand.targets = s.nand.targets then s else spareCheck t

end Sys2Proof.Machine
end

