-- ==== Sys2Proof/Machine/ImageFormat.lean ====
section
/-! DEFINITION. The bytes of a page of the vault store: header, descriptors, check bytes, payloads and records, and what a
reader checks of them (R11, R192, R194 to R199, R206 to R210, R211 to R214, R216, R221). The state holds pages by their fields;
these are their bytes (log entry 71). -/

namespace Sys2Proof.Machine

/-- A number as `n` bytes, the lowest first (R10). -/
def leList : Nat → Nat → List Nat
  | 0, _ => []
  | n + 1, v => v % 256 :: leList n (v / 256)

/-- The number that bytes spell, the lowest first. -/
def leNat : List Nat → Nat
  | [] => 0
  | b :: t => b + 256 * leNat t

/-- `n` bytes of a value followed by its complement (R11). -/
def paired (n v : Nat) : List Nat := leList n v ++ leList n (2 ^ (8 * n) - 1 - v)

/-- Whether the field of `n` bytes at `o` is followed by its complement (R11). -/
def pairAtOk (n o : Nat) (l : List Nat) : Bool :=
  decide (leNat ((l.drop o).take n) + leNat ((l.drop (o + n)).take n) = 2 ^ (8 * n) - 1)

/-- A slot address or page pointer as a field of eight bytes; all ones for none. -/
def addrBytes (a : Option Nat) : List Nat := leList 8 (a.getD (2 ^ 64 - 1))

/-- `l` followed by zeros up to `n` bytes. -/
def padded (n : Nat) (l : List Nat) : List Nat := (l ++ List.replicate (n - l.length) 0).take n

/-- A record of 4,096 bytes: its body and RECORD_CRC at 4,092 (R206, R209, R214). -/
def withCrc (body : List Nat) : List Nat := let b := padded 4092 body; b ++ leList 4 (crc32c b)

/-- Whether a record's CRC at 4,092 matches. -/
def crcOk (l : List Nat) : Bool := l.length = 4096 && leNat (l.drop 4092) = crc32c (l.take 4092)

/-! ### The header's code (R198) -/

/-- One step of a product in GF(2^11) under x^11 + x^2 + 1: `a` times the bits of `b` from bit `n - 1` down. -/
def gfStep (a b : Nat) : Nat → Nat
  | 0 => 0
  | n + 1 =>
    let r := gfStep a (b / 2) n * 2
    let r := if 2048 ≤ r then Nat.xor r 0x805 else r
    if b % 2 = 1 then Nat.xor r a else r

/-- The product in GF(2^11). -/
def gfMul (a b : Nat) : Nat := gfStep a b 11

/-- A power in GF(2^11). -/
def gfPow (a : Nat) : Nat → Nat
  | 0 => 1
  | n + 1 => gfMul a (gfPow a n)

/-- Multiplies a polynomial over GF(2^11), lowest coefficient first, by x + b. -/
def timesRoot (b : Nat) (p : List Nat) : List Nat :=
  (List.range (p.length + 1)).map (fun i =>
    Nat.xor (if i = 0 then 0 else (p[i - 1]?).getD 0) (gfMul b ((p[i]?).getD 0)))

/-- The minimal polynomial of an element: the product over its eleven conjugates, as a number with the coefficient of x^i in
bit i. -/
def minPoly (b : Nat) : Nat :=
  let conj := (List.range 10).foldl (fun l _ => gfMul (l.headD b) (l.headD b) :: l) [b]
  (conj.foldl (fun p c => timesRoot c p) [1]).foldr (fun c r => c + 2 * r) 0

/-- A product of polynomials over GF(2): `a` times the bits of `b`, of which there are `n`. -/
def polyMul (a b : Nat) : Nat → Nat
  | 0 => 0
  | n + 1 => Nat.xor (if b % 2 = 1 then a else 0) (2 * polyMul a (b / 2) n)

/-- The generator polynomial: the least common multiple of the minimal polynomials of α^1 to α^31. An even power has that of an
odd one, and those of the sixteen odd powers differ. -/
def bchGenerator : Nat := (List.range 16).foldl (fun g i => polyMul g (minPoly (gfPow 2 (2 * i + 1))) 12) 1

/-- The bits of a byte, the most significant first. -/
def byteBits (b : Nat) : List Nat := [7, 6, 5, 4, 3, 2, 1, 0].map (fun i => b / 2 ^ i % 2)

/-- The remainder by a polynomial of degree 176 of the polynomial whose coefficients, highest first, are given. -/
def bchRemainder (g : Nat) (bits : List Nat) : Nat :=
  bits.foldl (fun r b => let x := 2 * r + b; if 2 ^ 176 ≤ x then Nat.xor x g else x) 0

/-- A number as `n` bytes, the highest first. -/
def beList (n v : Nat) : List Nat := (leList n v).reverse

/-- The 22 check bytes of a header of 224 bytes (R198). -/
def bchCheck (header : List Nat) : List Nat :=
  beList 22 (bchRemainder bchGenerator (header.flatMap byteBits ++ List.replicate 176 0))

/-- A syndrome: the received polynomial at α^j, by Horner's rule from its highest coefficient. -/
def syndrome (bits : List Nat) (j : Nat) : Nat :=
  let a := gfPow 2 j
  bits.foldl (fun r b => Nat.xor (gfMul r a) b) 0

/-- What Berlekamp and Massey's iteration holds: the locator polynomial and the one before its last change, lowest coefficient
first, its length, the steps since that change, and the discrepancy then. -/
structure BchStep where
  lambda : List Nat := [1]
  old : List Nat := [1]
  len : Nat := 0
  gap : Nat := 1
  last : Nat := 1
  deriving DecidableEq, Repr

/-- The inverse in GF(2^11): the power 2,046, by squaring. -/
def gfInv (a : Nat) : Nat :=
  ((List.range 10).foldl (fun (x : Nat × Nat) _ => let q := gfMul x.1 x.1; (q, gfMul x.2 q)) (a, 1)).2

/-- The discrepancy of step `n`. -/
def discrepancy (s : List Nat) (n : Nat) (x : BchStep) : Nat :=
  (List.range (x.len + 1)).foldl (fun d i => Nat.xor d (gfMul ((x.lambda[i]?).getD 0) (if i ≤ n then (s[n - i]?).getD 0 else 0))) 0

/-- One step of the iteration, with syndrome S(n + 1). -/
def bchIterate (s : List Nat) (x : BchStep) (n : Nat) : BchStep :=
  let d := discrepancy s n x
  if d = 0 then { x with gap := x.gap + 1 }
  else
    let f := gfMul d (gfInv x.last)
    let shifted := List.replicate x.gap 0 ++ x.old.map (gfMul f)
    let new := (List.range (Nat.max x.lambda.length shifted.length)).map (fun i => Nat.xor ((x.lambda[i]?).getD 0) ((shifted[i]?).getD 0))
    if 2 * x.len ≤ n then { lambda := new, old := x.lambda, len := n + 1 - x.len, gap := 1, last := d }
    else { x with lambda := new, gap := x.gap + 1 }

/-- A polynomial over GF(2^11) at a point. -/
def evalPoly (p : List Nat) (a : Nat) : Nat := p.foldr (fun c r => Nat.xor (gfMul r a) c) 0

/-- The bits of a word of the code as corrected, highest coefficient first: a position is in error where the locator vanishes at
its inverse. The powers of the inverse of α start at the lowest coefficient. -/
def flipRoots (lambda : List Nat) : List Nat → Nat → List Nat
  | [], _ => []
  | b :: t, a => (if evalPoly lambda a = 0 then 1 - b else b) :: flipRoots lambda t (gfMul a (gfInv 2))

/-- Decodes a header as read, 246 bytes: at most 16 bit errors are corrected, and the header is given when what results is a
codeword (R198). -/
def bchDecode (word : List Nat) : Option (List Nat) :=
  let bits := (word.take 246).flatMap byteBits
  let s := (List.range 32).map (fun j => syndrome bits (j + 1))
  let x := (List.range 32).foldl (bchIterate s) {}
  if 16 < x.len then none
  else
    let fixed := (flipRoots x.lambda bits.reverse 1).reverse
    let bytes := (List.range 224).map (fun i => ((fixed.drop (8 * i)).take 8).foldl (fun r b => 2 * r + b) 0)
    if bchRemainder bchGenerator fixed = 0 then some bytes else none

/-! ### Slot descriptors (R196, R199, R200) -/

/-- KIND of a slot descriptor (R199). -/
def unitKindCode : UnitKind → Nat | .staging => 0 | .drain => 1 | .gc => 2 | .metadata => 3

/-- KIND of a knot record (R206). -/
def knotKindCode : KnotKind → Nat
  | .staging => 1 | .gc => 2 | .manifest => 3 | .drain => 4 | .system => 5 | .ckptEnd => 6 | .final => 7

/-- A slot descriptor of a used slot with its payload (R196, R199). -/
def slotDescriptor (u : NandUnit) (partner : Option Nat) (payload : List Nat) : List Nat :=
  paired 4 (2 ^ 31 + u.index) ++ [u.bolt, unitKindCode u.kind, 0, 0] ++ leList 4 (crc32c payload) ++ leList 8 u.poison.toNat ++
  addrBytes partner ++ addrBytes u.source

/-! ### Records (R206 to R209, R211 to R217, R221, R436, R452) -/

/-- KIND_DATA: 128 bytes (R208). -/
def kindDataBytes (k : KindData) : List Nat :=
  padded 128 <| match k with
    | .blank => []
    | .manifest c f cause source by' n gib =>
      leList 8 c ++ leList 8 f ++ leList 4 (cause % 16 + 2 ^ 8 * (source % 256) + 2 ^ 16 * (by' % 16)) ++ leList 4 n ++ leList 4 gib
    | .ckptEnd base first gib slots => leList 8 base ++ leList 8 first ++ leList 4 gib ++ leList 4 slots
    | .final m c h l p flags n =>
      leList 8 m ++ leList 8 c ++ leList 8 h ++ leList 8 l ++ leList 8 p ++ leList 4 flags ++ leList 4 n

/-- The extents of a list of pages, each the first page and the count of a run of consecutive pages of a block, in the order in
which their first pages were programmed: a page goes on the run that it continues, so that the duplex pages of a pair, programmed
in turn, make two (R207; DEDUCED, log entry 71). -/
def extentsOf (pages : List Nat) : List (Nat × Nat) :=
  pages.foldl (fun l p =>
    if ptrPage p ≠ 0 && l.any (fun e => e.1 + e.2 = p) then l.map (fun e => if e.1 + e.2 = p then (e.1, e.2 + 1) else e)
    else l ++ [(p, 1)]) []

/-- A knot record (R206). PREV without an earlier knot has all 64 bits of its field set, where bits [41:0] alone could be meant
(DESIGN CHOICE, log entry 71). A FINAL epoch has no pages: PAGES and EXTENTS are 0, below the range that the table gives EXTENTS (DESIGN
CHOICE, log entry 98). -/
def knotBytes (k : KnotBody) : List Nat :=
  let last := match k.last with
    | some (b, g) => [b, 0, 0, 0] ++ leList 4 g
    | none => [0xFF, 0, 0, 0] ++ leList 4 (2 ^ 32 - 1)
  withCrc (leList 4 0x4E4B5659 ++ [knotKindCode k.kind, 0, 0, 0] ++ paired 8 k.epoch ++ paired 8 (k.prev.getD (2 ^ 64 - 1)) ++
    leList 8 k.ts ++ leList 4 k.pages.length ++ leList 4 k.units ++ leList 2 (extentsOf k.pages).length ++ [0, 0] ++ leList 4 k.vault ++
    paired 8 (leNat last) ++ List.replicate 48 0 ++ kindDataBytes k.kindData)

/-- Whether a knot record as read is valid: its CRC, its MAGIC and its complement pairs (R206, R210). -/
def knotValid (l : List Nat) : Bool :=
  crcOk l && leNat (l.take 4) = 0x4E4B5659 && pairAtOk 8 8 l && pairAtOk 8 24 l && pairAtOk 8 64 l

/-- An extent (R207). -/
def extentWord (e : Nat × Nat) : Nat := e.1 % 2 ^ 40 + e.2 * 2 ^ 40

/-- A slot of the extent table: 512 extents, the unused ones all ones (R207). -/
def extentBytes (l : List (Nat × Nat)) : List Nat :=
  (List.range 512).flatMap (fun i => leList 8 (match l[i]? with | some e => extentWord e | none => 2 ^ 64 - 1))

/-- A void knot (R209). -/
def voidBytes (epoch reason ts : Nat) : List Nat :=
  withCrc (leList 4 0x44565659 ++ leList 4 0 ++ paired 8 epoch ++ leList 8 ts ++ [reason])

/-- A slot of the fence manifest: bit b for granule 32,768 j + b, bit 0 lowest in byte 0 (R211). -/
def manifestBytes (listed : List Nat) : List Nat :=
  (List.range 4096).map (fun i => ((List.range 8).map (fun b => if listed.any (fun g => g % 32768 = 8 * i + b) then 2 ^ b else 0)).sum)

/-- A slot of the map checkpoint: 512 location-map entries (R212, R217). -/
def checkpointBytes (ordinal : Nat) (l : Table Loc) : List Nat :=
  (List.range 512).flatMap (fun i => leList 8 (locWord (tfind l (512 * ordinal + i))))

/-- An entry of the bolt table (R452). -/
def boltBytes (b : BoltRec) : List Nat :=
  padded 64 ([b01 b.present, b.priority, b01 b.duplex, 0] ++ leList 2 b.base ++ leList 2 b.size ++ leList 4 b.cap ++ leList 16 b.name)

/-- An entry of the bad-block table (R221). -/
def bbtWord (e : Nat × Nat) : Nat := e.1 % 4 * 2 ^ 30 + e.2 % 2 ^ 21

/-- The fields of the region header, complement-paired (R82). -/
def headerFields (h : RegionHeader) : List Nat :=
  paired 8 h.cGib ++ h.layout.flatMap (fun e => paired 8 e.1 ++ paired 8 e.2) ++ paired 8 h.generation

/-- The fields of an entry of the poison list (R102, R303). -/
def poisonFields (e : PoisonEntry) : List Nat := leList 8 e.line ++ leList 4 e.lines ++ leList 4 e.source

/-- The fields of a directory record: SEQUENCE, the newest final and CKPT_END knots by slot address and epoch, each with its
complement, the highest knotted epoch and TS (R214). -/
def directoryFields (d : DirRec) : List Nat :=
  paired 8 d.seq ++ paired 8 (d.finalSlot.getD (2 ^ 42 - 1)) ++ paired 8 d.finalEpoch ++
  paired 8 (d.ckptSlot.getD (2 ^ 42 - 1)) ++ paired 8 d.ckptEpoch ++ leList 8 d.highest ++ leList 8 d.ts

/-- A target descriptor (R451). -/
def descBytes (d : Desc) : List Nat :=
  padded 64 ([d.mfr] ++ leList 3 d.device ++ [d.luns, d.planes] ++ leList 2 d.blocks ++ leList 2 d.pages ++ leList 2 d.spare ++
    leList 2 d.tProg ++ leList 2 d.tR ++ leList 2 d.tBers ++ [d.pslcMethod, d.pslcCmd, d.pslcFa] ++ leList 4 d.pslcP ++
    [d.retry.length, d.drive, d.odt]) ++
  padded 64 (d.retry.flatMap (fun e => [e.1] ++ leList 4 e.2 ++ [0, 0, 0]))

/-- The fields of a root record: the target descriptor, the bad-block table, 3 bytes for each block's counter, and SEQUENCE with
its complement (R216, R219, R221). -/
def rootFields (r : RootRec) : List Nat :=
  (match r.desc with | some d => descBytes d | none => []) ++ r.bbt.flatMap (fun e => leList 4 (bbtWord e)) ++
  (match r.desc with
    | some d => (descBlocks d).flatMap (fun b => leList 3 (match r.pe.find? (fun e => e.1 % 2 ^ 21 = b) with | some e => e.2 | none => r.fresh))
    | none => []) ++ paired 8 r.seq

/-- `n` bytes of a record of which the spec names the fields and gives no places for them: the region header, the poison list, the
directory record and the root record (R82, R102, R214, R216). -/
def placed (index n : Nat) (fields : List Nat) : List Nat := (List.range n).map (fun i => (Config.placedByte index fields i).toNat)

/-- The 4,096 bytes of a unit before encryption (R200). -/
def payloadBytes (u : NandUnit) : List Nat :=
  match u.data with
  | .granule cells => (List.range 4096).map (fun i => match cells.find? (fun c => c.1 = i) with | some c => c.2.toNat | none => 0)
  | .manifest l => manifestBytes l
  | .checkpoint l => checkpointBytes (u.index % 2 ^ 22) l
  | .header h => placed u.index 4096 (headerFields h)
  | .poisonList l => placed u.index 4096 (l.flatMap poisonFields)
  | .boltTable l => padded 4096 (l.flatMap boltBytes)
  | .log l => padded 4096 (l.flatMap (fun e => match e with | some e => (logBytes e).map (·.toNat) | none => List.replicate 32 0))
  | .knot k => knotBytes k
  | .extents l => extentBytes l
  | .void e r ts => voidBytes e r ts
  | .directory d => withCrc (placed u.index 4092 (directoryFields d))
  | .root r part => withCrc (placed u.index 4092 (part :: rootFields r))

/-! ### Payload encryption and pages (R192, R194, R195, R197) -/

/-- The tweak of a slot: INDEX and the epoch (R195). -/
def tweakBytes (index epoch : Nat) : List Nat := leList 4 index ++ leList 6 epoch ++ List.replicate 6 0

/-- One of the two 256-bit keys that a vault key provides: 0 encrypts the data, 1 the tweak (R195). -/
def vaultKey (key which : Nat) : List Nat := (List.range 32).map (fun i => (Config.vaultKeyByte key which i).toNat)

/-- A payload as it stands in the page: encrypted under the vault key, but for class 8 (R195). -/
def storedPayload (key epoch : Nat) (u : NandUnit) : List Nat :=
  let plain := payloadBytes u
  if u.index / 2 ^ 22 = 2 ^ 4 + 8 then plain
  else xtsEncrypt (vaultKey key 0) (vaultKey key 1) (tweakBytes u.index epoch) plain

/-- FLAGS of a page header (R197). -/
def pageFlags (p : Page) : Nat := b01 p.dup + 2 * b01 p.copyB + 4 * b01 p.reprogram

/-- The 224 bytes of a page header (R197). -/
def headerBytes (ptr : Nat) (p : Page) : List Nat :=
  let slots := (List.range 4).flatMap (fun i => match p.units[i]? with
    | some u => slotDescriptor u (p.partner.map (fun q => slotAddr q i)) (payloadBytes u)
    | none => List.replicate 40 0xFF)
  let body := leList 4 0x48505659 ++ [1, p.type, 2 ^ Nat.min 4 p.units.length - 1, pageFlags p] ++ paired 8 p.epoch ++ paired 8 ptr ++
    leList 4 p.blockSeq ++ leList 4 p.pe ++ leList 8 p.ts ++ slots ++ leList 4 0
  body ++ leList 4 (crc32c body)

/-- The 17,472 bytes that the shuttle transfers for a page (R192): a slot without a unit, and the parity of a code whose matrix
the spec does not give, are free bytes. -/
def pageBytes (ptr : Nat) (p : Page) : List Nat :=
  let header := headerBytes ptr p
  header ++ bchCheck header ++ List.replicate 10 0xFF ++ (List.range 4).flatMap (fun i =>
    let payload := match p.units[i]? with
      | some u => storedPayload p.key p.epoch u
      | none => (List.range 4096).map (fun j => (Config.recordByte (2 ^ 27 + ptr) (4096 * i + j)).toNat)
    payload ++ (List.range 208).map (fun j => (Config.ldpcParity payload j).toNat))

/-- Whether the first 246 bytes of a page as read are a valid header: the code, MAGIC and VERSION, HEADER_CRC and the two
complement pairs (R197). -/
def headerValid (word : List Nat) : Bool :=
  match bchDecode word with
  | none => false
  | some h => leNat (h.take 4) = 0x48505659 && (h[4]?) = some 1 && leNat (h.drop 220) = crc32c (h.take 220) && pairAtOk 8 8 h && pairAtOk 8 24 h

/-- Whether a void knot as read is valid: its CRC, its MAGIC and its complement pair (R209, R210). -/
def voidValid (l : List Nat) : Bool := crcOk l && leNat (l.take 4) = 0x44565659 && pairAtOk 8 8 l

/-- Whether the payload of a slot is valid as the record that it is (R210). -/
def recordValid (u : NandUnit) (l : List Nat) : Bool :=
  match u.data with
  | .knot _ => knotValid l
  | .void _ _ _ => voidValid l
  | .directory _ | .root _ _ => crcOk l
  | _ => true

/-- What a read of a slot comes to: a payload whose decrypted CRC does not match DATA_CRC is uncorrectable (R196). One that
matches is taken as what was programmed (DESIGN CHOICE, log entry 42). -/
def copyOutcome (slot : Nat) (r : CopyRead) (s : State) : CopyRead :=
  match r, unitAt slot s with
  | .payload l, some u => if crc32c (l.map (·.toNat)) = crc32c (payloadBytes u) then .decodes else .uncorrectable
  | .payload _, none => .uncorrectable
  | _, _ => r

/-- Whether a slot that was read gives a record that a reader accepts (R196, R210). -/
def slotAccepted (slot : Nat) (r : CopyRead) (s : State) : Bool :=
  copyOutcome slot r s = .decodes &&
  (match r, unitAt slot s with | .payload l, some u => recordValid u (l.map (·.toNat)) | _, _ => true)

end Sys2Proof.Machine
end

