-- ==== Sys2Proof/Machine/Copies.lean ====
section
/-! DEFINITION. Reading the knotted copies of a granule, and what the DDR5 reads of the engine meet: counts, repair, poison
(R99, R100, R194, R195, R210, R217, R248, R259, R565). -/

namespace Sys2Proof.Machine

/-! ### Copies on flash -/

/-- The reads that follow a hard decision which failed: one for each entry of the draft's read-retry table, at most eight,
and three for the soft decision (R187, R194). -/
def retryReads (page : Nat) (s : State) : State :=
  let t := ptrTarget page
  let entries := match descAt t s with | some d => d.retry.take 8 | none => []
  let s := entries.foldl (fun s e => onfi t (.pageRead page) (onfi t (.setFeatures (.address e.1) e.2) s)) s
  onfi t (.pageRead page) (onfi t (.pageRead page) (onfi t (.pageRead page) s))

/-- A read of a copy: an uncorrectable decoding, after every retry, counts on its channel; a copy that does not answer counts
nowhere there (R194); a page read is a monitor's sample (R518). DESIGN CHOICE (log entry 42): a copy that decodes does so at
the hard decision. -/
def countCopyRead (slot : Nat) (r : CopyRead) (s : State) : State :=
  let channel := ptrChannel (slot / 4)
  let r := copyOutcome slot r s
  let s := onfi (ptrTarget (slot / 4)) (.pageRead (slot / 4)) s
  let s := if r = .noResponse then s else sampleFree 3 channel s
  if r = .uncorrectable then modChannel channel (fun c => { c with ue := satAdd (2 ^ 24 - 1) c.ue 1 }) (retryReads (slot / 4) s) else s

/-- What a slot holds under the present vault key (R195, R210): a granule's bytes and its POISON mask. -/
def copyContent (a : Nat) (s : State) : Option (List Host.Cell × BitVec 64) :=
  match pageOfSlot a s, unitAt a s with
  | some p, some u =>
    if p.key = s.lcs.keyId then (match u.data with | .granule bytes => some (bytes, u.poison) | _ => none) else none
  | _, _ => none

/-- The slot address of copy B of a location-map entry (R217). -/
def slotB (l : Loc) : Option Nat := l.b.map (fun cb => slotAddr (partnerPtr (l.a / 4) cb.1 cb.2) (l.a % 4))

/-- What a read of a copy yields: nothing when the read did not decode. A copy whose target does not respond counts as one that does
not decode, in the repair of a CLEAN granule too, of which R565 does not speak (DESIGN CHOICE, log entry 47). -/
def readCopy (a : Nat) (r : CopyRead) (s : State) : Option (List Host.Cell × BitVec 64) :=
  if copyOutcome a r s = .decodes then copyContent a s else none

/-- Whether a copy's target or channel is retired (R259). -/
def copyRetired (a : Nat) (s : State) : Bool :=
  channelRetired (ptrChannel (a / 4)) s || (targetAt (ptrTarget (a / 4)) s).retired

/-- Writes a copy's content into DDR5, its POISON lines as poison; a line that the list does not name yet enters it as
Unknown (R248). -/
def placeCopy (g : Nat) (c : List Host.Cell × BitVec 64) (s : State) : State :=
  let s := writeGranule g c.1 s
  let fresh := c.2 &&& ~~~allListed (tget {} s.cache.listed g)
  let s := { s with cache := { s.cache with poison := tmod 0#64 g (fun b => b ||| c.2) s.cache.poison } }
  if fresh = 0 then s else poisonLines g fresh .unknown s

/-- The copies of a location-map entry as they were read, and the errors counted on their channels (R194). Copy B is
read only when copy A does not decode. -/
def readCopies (l : Loc) (a b : CopyRead) (s : State) :
    Option (List Host.Cell × BitVec 64) × Option (List Host.Cell × BitVec 64) × State :=
  let s := countCopyRead l.a a s
  match readCopy l.a a s with
  | some c => (some c, none, s)
  | none =>
    match slotB l with
    | some x => (none, readCopy x b s, countCopyRead x b s)
    | none => (none, none, s)

/-! ### DDR5 reads (R99, R100, R565) -/

/-- The repair of a CLEAN granule with an uncorrectable line (R565). -/
def repairClean (line : Nat) (a b : CopyRead) (s : State) : State :=
  let g := line / 64
  match tfind s.cache.loc g with
  | none => engineFault 27 (64 * line) (takeAgain g <| setEntry g { st := .dirty } (poisonLines g (lineBit (line % 64)) .internal s))
  | some l =>
    let r := readCopies l a b s
    let s := r.2.2
    match r.1, r.2.1 with
    | some c, _ => engineFault 28 (64 * line) (placeCopy g c s)
    | none, some c => engineFault 18 (4096 * g) (engineFault 28 (64 * line) (takeAgain g (setState g .dirty (placeCopy g c s))))
    | none, none =>
      let s := takeAgain g (setEntry g { st := .dirty } (poisonLines g (lineBit (line % 64)) .internal s))
      engineFault 18 (4096 * g) (engineFault 27 (64 * line) s)

/-- What the ECC of a line's read leads to (R99, R100). -/
def lineEcc (line : Nat) (e : Ecc) (a b : CopyRead) (s : State) : State :=
  match e with
  | .ok => s
  | .corrected => countCe line s
  | .uncorrectable =>
    let s := countUe line s
    match (entryOf (line / 64) s).st with
    | .clean => repairClean line a b s
    | .dirty | .staging => ueDirty line s
    | .restorePending | .zero => engineFault 27 (64 * line) s

/-- What a line's burst leads to (R99, R100). -/
def lineRead (line : Nat) (x : Burst) (a b : CopyRead) (s : State) : State := lineEcc line (eccOf (byEight s) x) a b s

/-- The lines of one granule, read for a copy of it (R100). -/
def granuleRead (reads : CopyReads) (g : Nat) (s : State) : State :=
  (reads.bursts.filter (fun e => e.1 / 64 = g)).foldl (fun s e => lineRead e.1 e.2 reads.a reads.b s) s

/-! ### The map region (R82, R96, R98, R99, R103) -/

/-- The granules of the protected capacity from `a`, `n` of them. -/
def granulesFrom (a n : Nat) (s : State) : List Nat := (List.range n).filterMap (fun i => if a + i < capGranules s then some (a + i) else none)

/-- An uncorrectable error in a dirty-map block (R103). -/
def dirtyBlockUe (g : Nat) (s : State) : State :=
  engineFault 25 (4096 * g) ((granulesFrom (g / 128 * 128) 128 s).foldl (fun s h => poisonGranule h s) s)

/-- An uncorrectable error in a location-map block (R103). -/
def locationBlockUe (g : Nat) (s : State) : State :=
  (granulesFrom (g / 8 * 8) 8 s).foldl (fun s h =>
    let s := match (entryOf h s).st with
      | .clean => takeAgain h (setState h .dirty s)
      | .restorePending => poisonGranule h s
      | _ => s
    { s with cache := { s.cache with loc := tdel h s.cache.loc } }) s

/-- The granule that an engine-internal line of the map region covers, with what an error there means (R82, R103). In a line of the
system region outside the two maps an uncorrectable error is counted and has no further effect, of which R103 says nothing (DESIGN
CHOICE, log entry 93). -/
def mapRegionUe (line : Nat) (s : State) : State :=
  let c := capGranules s * 4096
  let o := line * 64 - c
  let d := 0x2000000
  if o < d then s
  else if o < d + c / 8192 then dirtyBlockUe ((o - d) / 64 * 128) s
  else if o < d + c / 8192 + c / 512 then locationBlockUe ((o - d - c / 8192) / 64 * 8) s
  else s

/-- The line of the map region that holds the dirty-map entry, or the location-map entry, of a granule (R82). -/
def mapLine (location : Bool) (g : Nat) (s : State) : Nat :=
  let c := capGranules s * 4096
  (c + 0x2000000) / 64 + (if location then c / 8192 / 64 + g / 8 else g / 128)

/-- What a read of a line above the protected capacity meets: a corrected error is counted, an uncorrectable one in the map region
has its effect there (R99, R103). -/
def regionRead (line : Nat) (x : Burst) (s : State) : State :=
  match eccOf (byEight s) x with
  | .ok => s
  | .corrected => countCe line s
  | .uncorrectable => mapRegionUe line (countUe line s)

/-- The reads of the system region that a copy of it makes (R99, R103). -/
def regionReads (reads : CopyReads) (s : State) : State :=
  (reads.bursts.filter (fun e => decide (capGranules s ≤ e.1 / 64))).foldl (fun s e => regionRead e.1 e.2 s) s

end Sys2Proof.Machine
end

