-- ==== Sys2Proof/Machine/Staging.lean ====
section
/-! DEFINITION. Epochs, copies, knots and voids, and the meanings of the staging, garbage-collection and wear
commands (R29, R110 to R122, R212, R218 to R230, R560, R561). -/

namespace Sys2Proof.Machine

/-! ### Epochs -/

/-- The open epoch (R115). -/
def openEpoch (s : State) : Option Epoch := s.stg.epochs.find? (·.closed.isNone)

/-- The unresolved epochs: closed, neither knotted nor voided (R117). -/
def unresolved (s : State) : Nat := (s.stg.epochs.filter (·.closed.isSome)).length

/-- Changes an epoch. -/
def modEpoch (n : Nat) (f : Epoch → Epoch) (s : State) : State :=
  { s with stg := { s.stg with epochs := s.stg.epochs.map (fun e => if e.num = n then f e else e) } }

/-- Takes an epoch off the list: it is resolved. -/
def dropEpoch (n : Nat) (s : State) : State :=
  { s with stg := { s.stg with epochs := s.stg.epochs.filter (fun e => e.num ≠ n) } }

/-- Opens an epoch when fewer than four are unresolved and a number is left; at the last number it raises
EPOCH_EXHAUSTED (R117, R122). -/
def openNew (kind : KnotKind) (s : State) : State :=
  if (openEpoch s).isSome || decide (4 ≤ unresolved s) then s
  else if 2 ^ 48 - 2 ≤ s.stg.nextEpoch then engineFault 10 0 { s with stg := { s.stg with exhausted := true } }
  else { s with stg := { s.stg with
      epochs := s.stg.epochs ++ [{ num := s.stg.nextEpoch, kind := kind, opened := engineNow s }],
      nextEpoch := s.stg.nextEpoch + 1 } }

/-- Closes an epoch to selection (R115). -/
def closeEpoch (n : Nat) (s : State) : State :=
  modEpoch n (fun e => { e with closed := some (e.closed.getD (engineNow s)) }) s

/-- Closes the open epoch. -/
def closeOpen (s : State) : State := match openEpoch s with | some e => closeEpoch e.num s | none => s

/-- The copies of a unit. -/
def copiesOf (u : NandUnit) : Nat := if u.dup then 2 else 1

/-- Schedules a unit in an epoch (R115). -/
def schedule (n : Nat) (u : NandUnit) (s : State) : State :=
  modEpoch n (fun e => { e with todo := e.todo ++ [u], copies := e.copies + copiesOf u }) s

/-- Whether an index names a granule (R200). -/
def isGranule (i : Nat) : Bool := decide (i < 2 ^ 26)

/-- The units on an epoch's pages, copies A only. -/
def programmedUnits (e : Epoch) (s : State) : List NandUnit :=
  e.pages.flatMap (fun p => match tfind s.nand.pages p with | some x => if x.copyB then [] else x.units | none => [])

/-- The granules that have a copy of the dirty map's keeping in an epoch: staging and drain copies. -/
def epochGranules (e : Epoch) (s : State) : List Nat :=
  ((programmedUnits e s ++ e.todo).filter (fun u => isGranule u.index && (u.kind = .staging || u.kind = .drain))).map (·.index)

/-- Whether a later epoch holds a newer copy of a granule: one that an error or an emptied map let be selected again while the copy of
epoch `n` was unresolved. The older copy is never the granule's present content (R24, R27). -/
def copiedLater (n g : Nat) (s : State) : Bool := s.stg.epochs.any (fun x => decide (n < x.num) && (epochGranules x s).contains g)

/-- STG_PROVISIONAL_BYTES: 4,096 B for each granule copy programmed in an unresolved epoch (R121). The epoch still open to selection
counts: its copies are provisional from their program (R26), where R117 calls unresolved what is closed (DESIGN CHOICE, log entry 95). -/
def provisionalBytes (s : State) : Nat :=
  4096 * (s.stg.epochs.map (fun e => (e.pages.map (fun p => match tfind s.nand.pages p with
    | some x => (x.units.filter (fun u => isGranule u.index)).length | none => 0)).sum)).sum

/-- The effect of a void knot on a granule's entry (R91). -/
def unpend (g : Nat) (s : State) : State :=
  let e := entryOf g s
  setEntry g { st := if e.st = .staging then .dirty else e.st, pending := false } s

/-! ### The place of a void knot (R204, R209) -/

/-- The next page of a plane's block in use: simplex or, of a pair, copy A's and copy B's. -/
def nextPage (b : Nat) (s : State) : Nat := 4096 * b + (blockAt b s).next

/-- The lowest block of a plane, given by page-pointer bits [39:28], that a record may open, `except` apart. -/
def blockToOpen (plane : Nat) (except : List Nat) (s : State) : Option Nat :=
  let listed := (s.nand.blocks.filter (fun e => e.1 / 2 ^ 16 = plane)).length
  ((List.range (listed + except.length + 12)).map (fun k => plane * 2 ^ 16 + k)).find? (fun b =>
    pageFree (4096 * b) s && (blockAt b s).erased && !except.contains b)

/-- The page of a plane that a simplex record may take: its frontier's, or the first of a block to open. -/
def recordPage (plane : Nat) (avoid : List Nat) (s : State) : Option Nat :=
  match tfind s.nand.front plane with
  | some b => if blockOpen b s && !avoid.contains b then some (nextPage b s) else (blockToOpen plane avoid s).map (4096 * ·)
  | none => (blockToOpen plane avoid s).map (4096 * ·)

/-- The pages of a pair that a record may take: those of its pairing's frontier pair, or the first of two blocks to open. -/
def pairPage (plane other : Nat) (avoid : List Nat) (s : State) : Option (Nat × Nat) :=
  let opened : Option (Nat × Nat) := match blockToOpen plane avoid s with
    | some a => (blockToOpen other (a :: avoid) s).map (fun b => (4096 * a, 4096 * b))
    | none => none
  match tfind s.nand.pairFront (plane / 256) with
  | some (a, b) =>
    if blockOpen a s && blockOpen b s && pairStands a b s && b / 2 ^ 24 = other / 256 && !avoid.contains a && !avoid.contains b then
      some (nextPage a s, nextPage b s)
    else opened
  | none => opened

/-- The planes of a channel's working targets, as page-pointer bits [39:28], ascending. -/
def planesOf (c : Nat) (s : State) : List Nat :=
  ((List.range 8).filter (fun e => targetWorks (8 * c + e) s)).flatMap (fun e => match descAt (8 * c + e) s with
    | some d => (List.range d.luns).flatMap (fun l => (List.range d.planes).map (fun p => (8 * c + e) * 32 + 8 * l + p))
    | none => [])

/-- Where the void knot of an epoch goes: the first place that R204 allows, in no block of `avoid`. Which target and plane of
the pair takes it is the model's choice (DESIGN CHOICE, log entry 52). -/
def voidPlace (epoch : Nat) (avoid : List Nat) (s : State) : Option (Nat × Nat) :=
  let w := workingChannels s
  let l : List (Nat × Nat) :=
    if w.length = 1 then
      let ps := (planesOf (w.headD 0) s).filterMap (fun p => recordPage p avoid s)
      ps.flatMap (fun p => ps.map (fun q => (p, q)))
    else match w[epoch % (w.length / 2)]? with
      | some c =>
        let d := (partnerOf c s).getD c
        (planesOf c s).filterMap (fun p => pairPage p (d * 256 + p % 256) avoid s)
      | none => []
  l.find? (fun x => recordPages epoch x.1 x.2 avoid s)

/-- Programs the two copies of a void knot where there is a place, and awaits its read-back (R120, R204, R209). -/
def writeVoid (v : VoidWait) (s : State) : State :=
  let wait (v : VoidWait) (s : State) : State :=
    { s with stg := { s.stg with voidReads := s.stg.voidReads.filter (fun x => x.epoch ≠ v.epoch) ++ [v] } }
  match voidPlace v.epoch v.blocks s with
  | none => wait v s
  | some (p, q) =>
    let unit : NandUnit :=
      { index := classIndex 6 0, bolt := 63, kind := .metadata, dup := true, data := .void v.epoch v.reason v.ts }
    let pair : Option Nat := if ptrChannel p = ptrChannel q then none else some q
    let s := programPage p 3 v.epoch [unit] pair.isSome false false (some q) s
    let s := programPage q 3 v.epoch [unit] pair.isSome true false (some p) s
    let s := match pair with | some q => moveFrontier p (some q) s | none => moveFrontier q none (moveFrontier p none s)
    let r : VoidRec :=
      { epoch := v.epoch, reason := v.reason, ts := v.ts, slot := slotAddr p 0, slotB := slotAddr q 0, key := s.lcs.keyId }
    wait { v with blocks := ptrBlock p :: ptrBlock q :: v.blocks } { s with nand := { s.nand with voids := r :: s.nand.voids } }

/-- TYPE of a page that holds a unit (R197). -/
def pageType (u : NandUnit) : Nat :=
  if isGranule u.index then 1 else if u.index < classIndex 1 0 then 4 else 5

/-- The leading units of a list that go into one page: up to four, all duplex or all simplex, of one TYPE. -/
def pageUnits (l : List NandUnit) : List NandUnit :=
  match l with
  | [] => []
  | u :: _ => (l.takeWhile (fun x => x.dup = u.dup && pageType x = pageType u)).take 4

/-- Whether an epoch draws on no erased block of the drain reserve: those of staging, garbage collection and a background checkpoint
(R228). -/
def sparesReserve (e : Epoch) : Bool := e.kind = .staging || e.kind = .gc || e.background

/-- The erased bytes above the drain reserve that the programs of an epoch may have taken by now; none bounds the others (R228). -/
def reserveRoom (e : Epoch) (s : State) : Option Nat := if sparesReserve e then some (erasedPool s - drainReserve s) else none

/-- Voids an epoch: its void knot is written and counted, and its granules stay in the residual (R29, R91, R119, R209). The
pages whose programs have begun may still complete; a program that waits for the drain reserve has not (R145, R151, R228). With an epoch of a background checkpoint the run ends, and
a CKPT_END epoch that waits is a SYSTEM epoch, since its checkpoint is not complete (R212). -/
def voidEpoch (reason : Nat) (s : State) (e : Epoch) : State :=
  let s := ((epochGranules e s).filter (fun g => !copiedLater e.num g s)).foldl (fun s g => unpend g s) s
  let s := dropEpoch e.num s
  let s := match e.closed with | some t => sampleSince 7 0 t s | none => s
  let run := e.kind = .system || e.kind = .ckptEnd
  let s := { s with
    stg := { s.stg with
      voidCount := satAdd max32 s.stg.voidCount 1, ckpt := if run then none else s.stg.ckpt,
      begun := if e.todo.isEmpty then s.stg.begun else s.stg.begun ++ [{ e with pages := [], room := reserveRoom e s }],
      epochs := if run then s.stg.epochs.map (fun x => if x.kind = .ckptEnd then { x with kind := .system } else x) else s.stg.epochs } }
  writeVoid { epoch := e.num, reason := reason, ts := engineNow s } s

/-- Voids the epochs that `p` names, in ascending epoch order (R70, R151). -/
def voidWhere (p : Epoch → Bool) (reason : Nat) (s : State) : State :=
  (s.stg.epochs.filter p).foldl (voidEpoch reason) s

/-- Whether a knot record of the epoch is in program or awaits its read-back. -/
def knotInProgram (e : Epoch) : Bool := match e.phase with | .knotProgrammed _ => true | .filling => false

/-- An epoch of the drain or of the system bolt (R164). -/
def isDrainKind (k : KnotKind) : Bool := k = .drain || k = .system || k = .ckptEnd

/-- Voids a drain or system-bolt epoch and every later one, and goes back to the first unit of the earliest
(R164): listed granules come back in front of those left, slices in front of the slices left. A checkpoint whose first epoch is
voided has its FIRST in the epoch that takes its first slices again (R208). -/
def voidDrainFrom (n reason : Nat) (s : State) : State :=
  let l := s.stg.epochs.filter (fun e => decide (n ≤ e.num))
  let us := l.flatMap (fun e => programmedUnits e s ++ e.todo)
  let run := s.stg.ckpt
  let s := l.foldl (fun s e => voidEpoch (if e.num = n then reason else 6) s e) s
  { s with
    vlt := { s.vlt with drainVoids := satAdd 255 s.vlt.drainVoids (l.filter (fun e => e.kind = .drain)).length },
    stg := { s.stg with ckpt := run.map (fun c => if c.first.any (fun f => decide (n ≤ f)) then { c with first := none } else c) },
    drain := { s.drain with
      left := ((us.filter (fun u => isGranule u.index)).map (·.index) ++ s.drain.left).eraseDups,
      sysLeft := us.filter (fun u => !isGranule u.index) ++ s.drain.sysLeft } }

/-- Schedules the fence manifest as the next epoch, duplex, and closes it (R157, R211, R568). -/
def scheduleManifest (s : State) : State :=
  let s := openNew .manifest s
  match openEpoch s, s.drain.manifest with
  | some e, some l =>
    let units := (List.range (divUp (capGranules s) 32768)).map (fun j =>
      ({ index := classIndex 0 j, bolt := 63, kind := .metadata, dup := true,
         data := .manifest (l.filter (fun g => g / 32768 = j)) } : NandUnit))
    closeEpoch e.num (modEpoch e.num (fun e => { e with todo := units, copies := 2 * units.length }) s)
  | _, _ => s

/-- Counts bytes programmed again in a vault; past pfail_reserve it raises PFAIL_RESERVE (R172, R568). -/
def addReprogram (bytes : Nat) (s : State) : State :=
  let limit := setting s P.pfailReserve * 2 ^ 20
  let n := s.vlt.reprogBytes + bytes
  let s' := { s with vlt := { s.vlt with reprogBytes := n } }
  if s.vlt.reprogBytes ≤ limit && limit < n then engineFault 14 0 s' else s'

/-- The epochs that are left when a seal or a background checkpoint ends with a confirmation or a reset: their knot records are in
program, and they resolve as staging epochs do (R151, R319). -/
def strayEpochs (s : State) : State :=
  { s with stg := { s.stg with epochs := s.stg.epochs.map (fun e => { e with stray := true }) } }

/-- An epoch whose knot record failed, or that must go for another reason: a failed manifest is written again, a drain epoch takes
the later ones with it, and any other is voided; after a final knot, whose failed read-back alone voids nothing, the next epoch is
the final one (R29, R119, R164, R167, R173, R568). -/
def failKnot (e : Epoch) (reason : Nat) (s : State) : State :=
  if e.stray then voidEpoch reason s e
  else if e.kind = .final then
    let s := voidEpoch reason s e
    { s with drain := { s.drain with stage := .checkpoint, finalTries := 0 } }
  else if e.kind = .manifest then
    let s := addReprogram (4096 * e.copies) (voidEpoch reason s e)
    scheduleManifest { s with drain := { s.drain with rewrite := true } }
  else if isDrainKind e.kind && (!(admitting s) || s.mbx.phase = .sealing) then voidDrainFrom e.num reason s
  else voidEpoch reason s e

/-! ### Knots (R118, R206, R208, R218) -/

/-- The slot of the last copy A of a granule that staging or the drain put in an epoch: where one epoch holds two, the newer. -/
def newestCopy (e : Epoch) (g : Nat) (s : State) : Option Nat :=
  ((e.pages.flatMap (fun q => match tfind s.nand.pages q with
    | some x => if x.copyB then [] else (x.units.zipIdx.filter (fun iu => iu.1.index = g && iu.1.kind ≠ .gc)).map (fun iu => slotAddr q iu.2)
    | none => []))).getLast?

/-- Applies one unit of a knotted page to the location map and the dirty map (R91, R94, R218, R226). -/
def adoptUnit (ptr : Nat) (p : Page) (s : State) (iu : NandUnit × Nat) : State :=
  let u := iu.1
  let a := slotAddr ptr iu.2
  if !isGranule u.index then s
  else
    let g := u.index
    let cur := tfind s.cache.loc g
    if p.copyB then
      match cur with
      | some l =>
        if some l.a = p.partner.map (fun q => slotAddr q iu.2) then
          { s with cache := { s.cache with loc := tins g { l with b := some (ptrChannel ptr, ptr / 4096 % 65536) } s.cache.loc } }
        else s
      | none => s
    else if u.kind = .gc then
      let s := if (cur.map (·.a)) = u.source && (!u.fromDdr || (entryOf g s).st = .clean) then
          { s with cache := { s.cache with loc := tins g { a := a } s.cache.loc } } else s
      if u.fromDdr then engineFault 18 (4096 * g) s else s
    else
      let x := entryOf g s
      let s := if x.st = .staging then
          { s with cache := { s.cache with loc := tins g { a := a } s.cache.loc } } else s
      setEntry g { st := if x.st = .staging then .clean else x.st, pending := false } s

/-- Applies one unit of an epoch's pages; a copy of which the image has a newer one changes nothing (R24, R27). -/
def applyUnit (e : Epoch) (ptr : Nat) (p : Page) (s : State) (iu : NandUnit × Nat) : State :=
  let g := iu.1.index
  let older : Bool := isGranule g && !p.copyB && iu.1.kind ≠ .gc && (newestCopy e g s ≠ some (slotAddr ptr iu.2) || copiedLater e.num g s)
  if older then s else adoptUnit ptr p s iu

/-- Applies the pages of a knotted epoch, copies A and then copies B. -/
def applyPages (e : Epoch) (s : State) : State :=
  let pg := e.pages.filterMap (fun q => (tfind s.nand.pages q).map (fun x => (q, x)))
  let go (s : State) (qp : Nat × Page) : State := qp.2.units.zipIdx.foldl (applyUnit e qp.1 qp.2) s
  (pg.filter (fun qp => qp.2.copyB)).foldl go ((pg.filter (fun qp => !qp.2.copyB)).foldl go s)

/-- The smallest STAMP × 65,536 ns among blocks with residual, or the present timebase (R118 step 5). -/
def safeCandidate (s : State) : Nat :=
  match ((s.cache.map.filter (fun e => inRes e.2)).map (fun e => tget 0 s.cache.stamps (e.1 / 128) * 65536)) with
  | [] => engineNow s
  | x :: t => t.foldl Nat.min x

/-- STG_SAFE_TS advances and never falls (R30, R118). -/
def advanceSafe (s : State) : State :=
  { s with stg := { s.stg with safeTs := Nat.max s.stg.safeTs (safeCandidate s) } }

/-- Bolts announced as shed take no further write once their residual is gone at a knot (R230 step 4). -/
def finishShed (s : State) : State :=
  { s with nand := { s.nand with shedding := s.nand.shedding.filter (fun n => decide (0 < residualOf n s)) } }

/-- Starts a background map checkpoint in ARMED, not while a seal writes its own, when the units knotted since BASE reach 32 GiB (R212). -/
def startCkpt (s : State) : State :=
  if s.vlt.state = .armed && s.stg.ckpt.isNone && s.mbx.phase ≠ .sealing && decide (8388608 ≤ s.stg.sinceBase) then
    { s with stg := { s.stg with ckpt := some { base := 0 } } }
  else s

/-- Resolves a knotted epoch in the order of R118; a knot that is not final ends the seal of the image (R317). -/
def resolve (e : Epoch) (slot : Nat) (s : State) : State :=
  let s := dropEpoch e.num (applyPages e s)
  let s := match e.closed with | some t => sampleSince 7 0 t s | none => s
  let s := sendFrame .engine (.knotPointer e.num slot) s
  let counted := if e.kind = .staging || e.kind = .gc then e.copies else 0
  let s := { s with mbx := { s.mbx with sealedKnot := e.kind = .final }, stg := { s.stg with
      lastKnotEpoch := e.num, lastKnot := some slot, sinceBase := s.stg.sinceBase + counted,
      ckpt := s.stg.ckpt.map (fun c => { c with since := c.since + counted }) } }
  evaluate (retireBlocks (finishShed (advanceSafe s)))

/-- KIND_DATA of an epoch's knot record (R208). -/
def kindDataOf (e : Epoch) (s : State) : KindData :=
  match e.kind with
  | .manifest => .manifest s.vlt.confirmTs s.vlt.fenceTs s.vlt.cause s.vlt.source s.vlt.fenceBy
      ((s.drain.manifest.map List.length).getD 0) (capGranules s / 262144)
  | .ckptEnd =>
    let c := s.stg.ckpt.getD { base := 0 }
    .ckptEnd c.base (c.first.getD e.num) (capGranules s / 262144) (capGranules s / 512)
  | .final => .final (s.drain.manifestKnot.getD (2 ^ 42 - 1)) (s.drain.ckptKnot.getD (2 ^ 42 - 1))
      (s.drain.headerSlot.getD (2 ^ 42 - 1)) (s.drain.mirrorSlot.getD (2 ^ 42 - 1)) (s.drain.poisonSlot.getD (2 ^ 42 - 1))
      (b01 s.vlt.logStale + 2 * b01 s.vlt.manifestRebuilt + 4 * b01 s.cache.overflow +
        (s.vlt.retired.map (fun c => 2 ^ (16 + c))).sum) (poisonEntries s)
  | _ => .blank

/-- The units of a knot page: the record in slot 0, the extent table in slots 1 to 3, 512 extents each (R206, R207). -/
def knotUnits (k : KnotBody) : List NandUnit :=
  let unit (i : Nat) (d : Payload) : NandUnit := { index := classIndex 5 i, bolt := 63, kind := .metadata, dup := true, data := d }
  unit 0 (.knot k) :: (List.range 3).map (fun i => unit (i + 1) (.extents (((extentsOf k.pages).drop (512 * i)).take 512)))

/-- What the knot record of an epoch says (R206). -/
def knotBody (e : Epoch) (s : State) : KnotBody :=
  { kind := e.kind, epoch := e.num, prev := s.stg.lastKnot, ts := e.closed.getD (engineNow s), pages := e.pages, units := e.copies,
    vault := if e.kind = .staging || e.kind = .gc then 0 else s.vlt.number, last := e.last, kindData := kindDataOf e s }

/-- Programs one page of a record, or finds that its program failed (R205). -/
def recordProgram (p : Nat) (result : NandResult) (type epoch : Nat) (units : List NandUnit) (dup copyB again : Bool) (other : Nat)
    (s : State) : State :=
  match result with
  | .pass => programPage p type epoch units dup copyB again (some other) s
  | .fail => failPage p s

/-- Programs the two pages of an epoch's knot record at `p` and `q`; where one of a pair fails, the pair's remaining pages are
abandoned (R117, R203, R204, R206). REPROGRAM says that a program of this record failed before (R205). -/
def programKnot (e : Epoch) (body : KnotBody) (p q : Nat) (ra rb : NandResult) (s : State) : State :=
  let dup : Bool := ptrChannel p ≠ ptrChannel q
  let s := recordProgram p ra 2 e.num (knotUnits body) dup false e.reprogram q s
  let s := recordProgram q rb 2 e.num (knotUnits body) dup true e.reprogram p s
  let s := if dup && (ra = .fail || rb = .fail) then abandonBlock p (abandonBlock q s) else s
  let s := if dup then moveFrontier p (some q) s else moveFrontier q none (moveFrontier p none s)
  let k : KnotRec :=
    { toKnotBody := body, slot := slotAddr p 0, slotB := slotAddr q 0, key := s.lcs.keyId, readA := ra = .pass, readB := rb = .pass }
  modEpoch e.num (fun e => { e with phase := .knotProgrammed (slotAddr p 0) })
    { s with nand := { s.nand with knots := k :: s.nand.knots } }

/-! ### Choosing what to stage (R112, R113) -/

/-- Whether a write to a bolt is held for its cap: BLT_STATUS[n].CAP_HOLD (R89). -/
def capHold (n : Nat) (s : State) : Bool := !(tget [] s.cache.capq n).isEmpty

/-- The bolts with CAP_HOLD. -/
def cappedBolts (s : State) : List Nat := (List.range 63).filter (fun n => capHold n s)

/-- Whether the governor lets GOVERNED stage: it has tokens, or no rate is set (R113, R136). -/
def govAllows (s : State) : Bool := decide (0 < s.stg.govLevel) || setting s P.govRate = 0

/-- STG_MODE.MODE (R113); in belay the engine has stopped (R431). -/
def stagingMode (s : State) : Nat :=
  if !(s.vlt.state = .armed || s.vlt.state = .speculative) || s.flt.belay || s.flt.engineStopped then 6
  else if s.vlt.state = .speculative then 5
  else if s.stg.l3 then 4
  else if s.stg.boost || s.stg.sealBoost then 2
  else if !(cappedBolts s).isEmpty then 3
  else if govAllows s then 1
  else 0

/-- The blocks that hold a DIRTY granule with PENDING 0, with their bolt: ELIGIBLE (R110). -/
def eligibleBlocks (s : State) : List Nat :=
  ((s.cache.map.filter (fun e => e.2.st = .dirty && !e.2.pending)).map (fun e => e.1 / 128)).eraseDups

/-- STAMP of a block. -/
def stampOf (b : Nat) (s : State) : Nat := tget 0 s.cache.stamps b

/-- The block of a list with the smallest STAMP, the lower number on a tie (R112). -/
def oldestBlock (s : State) : List Nat → Option Nat
  | [] => none
  | b :: t => match oldestBlock s t with
    | none => some b
    | some c => if stampOf b s < stampOf c s || (stampOf b s = stampOf c s && b < c) then some b else some c

/-- Whether a block is at least stage_min_age old (R112). -/
def oldEnough (s : State) (b : Nat) : Bool :=
  decide (stampOf b s * 65536 + setting s P.stageMinAge * 1000000 ≤ engineNow s)

/-- The block that the sequencer selects next (R112, R113); a bolt being shed stages like a capped one, in mode 0 too
(R230). -/
def chooseBlock (s : State) : Option Nat :=
  let m := stagingMode s
  let el := eligibleBlocks s
  let bolts := (if m = 0 then [] else cappedBolts s) ++ s.nand.shedding
  if m = 6 then none
  else match oldestBlock s (el.filter (fun b => bolts.contains (boltOf s (128 * b)))) with
    | some b => some b
    | none =>
      if m = 5 ∨ m = 4 ∨ m = 2 then oldestBlock s el
      else if (m = 3 ∧ govAllows s) ∨ m = 1 then oldestBlock s (el.filter (oldEnough s))
      else none

/-- A unit of a granule as its copy is read. -/
def granuleUnit (g : Nat) (kind : UnitKind) (s : State) : NandUnit :=
  { index := g, bolt := boltOf s g, kind := kind, dup := isDuplex s (boltOf s g),
    poison := tget 0#64 s.cache.poison g, data := .granule (granuleBytes s g) }

/-- Takes a granule into an epoch as a copy: a DIRTY one goes STAGING with PENDING 1, and its lines are read for the copy,
which carries their poison (R91, R100); a CLEAN one, which a drain may still list, is read first, so that an error that its
copies cannot repair makes it DIRTY before it is taken (R565). -/
def takeGranule (n : Nat) (kind : UnitKind) (reads : CopyReads) (g : Nat) (s : State) : State :=
  let clean : Bool := (entryOf g s).st = .clean
  let s := if clean then granuleRead reads g s else s
  let s := if (entryOf g s).st = .dirty then setEntry g { st := .staging, pending := true } s else s
  let s := if clean then s else granuleRead reads g s
  schedule n (granuleUnit g kind s) s

/-- Takes granules into the open epoch, in order, up to 64 MiB; what does not fit waits for the next epoch
(R115, R116). -/
def takeGranules (kind : UnitKind) (reads : CopyReads) : List Nat → State → State
  | [], s => s
  | g :: t, s =>
    match openEpoch s with
    | none => s
    | some e =>
      let c := if isDuplex s (boltOf s g) then 2 else 1
      if 16384 < e.copies + c then closeEpoch e.num s
      else
        let s := takeGranule e.num kind reads g s
        if e.copies + c = 16384 then closeEpoch e.num s else takeGranules kind reads t s

/-- The location-map entries of a checkpoint slot (R212). -/
def ckptUnit (j : Nat) (s : State) : NandUnit :=
  { index := classIndex 1 j, bolt := 63, kind := .metadata, dup := true,
    data := .checkpoint (s.cache.loc.filter (fun e => e.1 / 512 = j)) }

/-- Schedules the next epoch of a background checkpoint (R212); BASE is taken as its first page is read (R208). -/
def stageCkpt (c : CkptRun) (s : State) : State :=
  let total := capGranules s / 512
  let n := Nat.min 8192 (total - c.next)
  let s := openNew (if c.next + n = total then .ckptEnd else .system) s
  match openEpoch s with
  | some e =>
    let units := (List.range n).map (fun i => ckptUnit (c.next + i) s)
    closeEpoch e.num (modEpoch e.num (fun e => { e with todo := units, copies := 2 * n, background := true })
      { s with stg := { s.stg with ckpt := some { c with
          base := if c.first.isNone then s.stg.lastKnotEpoch else c.base, since := if c.first.isNone then 0 else c.since, first := some (c.first.getD e.num), next := c.next + n } } })
  | none => s

/-- Whether the engine works: it is up, and has not stopped in belay (R181, R431). -/
def engineRuns (s : State) : Bool := s.warm.engineUp && !s.flt.belay && !s.flt.engineStopped

/-- Whether the shuttles program: the engine works with its key loaded (R69). -/
def shuttlesRun (s : State) : Bool := engineRuns s && s.restore.keyOk

/-- STAGING_SELECT (R112, R115): the sequencer takes the DIRTY granules with PENDING 0 of one age block; a
background checkpoint's slices go first when no epoch is open. -/
def execStagingSelect (reads : CopyReads) (s : State) : Host.Outcome State Fault Refusal :=
  if !engineRuns s then .next s
  else
  let s := startCkpt s
  let due : Bool := match s.stg.ckpt with
    | some c => s.vlt.state = .armed && s.mbx.phase ≠ .sealing && (openEpoch s).isNone && decide (c.next < capGranules s / 512)
    | none => false
  if due then .next (stageCkpt (s.stg.ckpt.getD { base := 0 }) (regionReads reads s))
  else match chooseBlock s with
    | none => .next s
    | some b =>
      let s := openNew .staging s
      if (openEpoch s).isNone then .next s
      else
        let gs := (s.cache.map.filter (fun e => e.1 / 128 = b && e.2.st = .dirty && !e.2.pending)).map (·.1)
        .next (takeGranules .staging reads gs s)

/-- EPOCH_AGE_EXPIRY (R115): the open epoch, 20 ms old, closes to selection. -/
def execEpochAgeExpiry (s : State) : Host.Outcome State Fault Refusal := .next (closeOpen s)

/-- Whether programs of an epoch wait for the drain reserve: staging, garbage collection and a background checkpoint may
take no erased block of it outside a vault (R228). The checkpoint of a seal, which ends its image as a vault's does, draws on
the reserve as the system bolt does (DESIGN CHOICE, log entry 53). -/
def mustWait (e : Epoch) (ptrs : List Nat) (s : State) : Bool :=
  (s.vlt.state = .armed || s.vlt.state = .speculative) &&
  (e.kind = .staging || e.kind = .gc || (e.background && s.mbx.phase ≠ .sealing)) && !reserveAllows ptrs s

/-- Takes down that a program of an epoch waits for the drain reserve, or that none of it does any more (R228, R233). -/
def noteWait (e : Epoch) (wait : Bool) (ptrs : List Nat) (s : State) : State :=
  let others := s.nand.reserveWait.filter (fun w => w.1 ≠ e.num)
  { s with nand := { s.nand with reserveWait := if wait then others ++ [(e.num, ptrs)] else others } }

/-- Whether a program waits for the drain reserve: NCH_STORE.RESERVE_WAIT (R228, R233). -/
def reserveWaits (s : State) : Bool :=
  s.nand.reserveWait.any (fun w => s.stg.epochs.any (fun e => e.num = w.1 && mustWait e w.2 s))

/-- KNOT_RECORD_PROGRAM (R29, R117, R204): the knot record of the lowest epoch, closed and fully programmed; where a page of it
fails to program the epoch is abandoned. -/
def execKnotRecordProgram (ptr ptrB : Nat) (result resultB : NandResult) (s : State) : Host.Outcome State Fault Refusal :=
  match s.stg.epochs with
  | e :: _ =>
    if shuttlesRun s && e.closed.isSome && e.todo.isEmpty && !knotInProgram e && e.kind ≠ .final && recordPages e.num ptr ptrB [] s then
      let wait := mustWait e [ptr, ptrB] s
      let s := noteWait e wait [ptr, ptrB] s
      if wait then .next s
      else
        let s := programKnot e (knotBody e s) ptr ptrB result resultB s
        .next (if result = .pass && resultB = .pass then s else failKnot e 2 s)
    else .next s
  | [] => .next s

/-! ### Page programs (R121, R136, R139, R172, R203, R205) -/

/-- Charges staging copies to the governor (R136, R137, R139). -/
def chargeGovernor (copies : Nat) (s : State) : State :=
  if setting s P.govRate = 0 then s
  else
    let one (s : State) : State :=
      let lvl := s.stg.govLevel
      { s with stg := { s.stg with
          govLevel := lvl - 4096,
          govOverdraft := if lvl ≤ 0 then satAdd (2 ^ 64 - 1) s.stg.govOverdraft 4096 else s.stg.govOverdraft } }
    let s := (List.range copies).foldl (fun s _ => one s) s
    let depth : Int := setting s P.govDepth * 2 ^ 20
    if s.stg.govLevel < -(depth * (s.stg.govMarks + 1)) then
      engineFault 8 0 { s with stg := { s.stg with govMarks := s.stg.govMarks + 1 } }
    else s

/-- Whether a page goes on a run of the epoch's pages in its block (R207). -/
def continuesExtent (p : Nat) (pages : List Nat) : Bool := ptrPage p ≠ 0 && pages.contains (p - 1)

/-- Enters a programmed page in an epoch; it opens an extent unless it goes on one (R207). -/
def addPage (e : Epoch) (p : Nat) : Epoch :=
  { e with pages := e.pages ++ [p], extents := e.extents + (if continuesExtent p e.pages then 0 else 1) }

/-- Counts a page's copies: staging copies by R121 and R144; in DRAIN and KNOT the drain's copies, which the fence manifest's are
not (R37, R160, R185); those programmed while the hold-up switch conducts are drained on store energy (R125). -/
def countCopies (us : List NandUnit) (s : State) : State :=
  let st := ((us.filter (fun u => u.kind = .staging)).map copiesOf).sum
  let all := (us.map copiesOf).sum
  let s := { s with
    stg := { s.stg with stagedBytes := satAdd (2 ^ 64 - 1) s.stg.stagedBytes (4096 * st) },
    vlt := { s.vlt with
      specBytes := if s.vlt.state = .speculative then satAdd (2 ^ 64 - 1) s.vlt.specBytes (4096 * st) else s.vlt.specBytes,
      drainBytes := if s.vlt.state = .drain || s.vlt.state = .knot then
        satAdd (2 ^ 64 - 1) s.vlt.drainBytes (4096 * all) else s.vlt.drainBytes,
      storeBytes := if (s.vlt.state = .drain || s.vlt.state = .knot) && conducts s then s.vlt.storeBytes + 4096 * all else s.vlt.storeBytes } }
  chargeGovernor st s

/-- Remembers the slots of the system bolt's first slices for the FINAL record (R208). -/
def noteSlots (ptr : Nat) (us : List NandUnit) (s : State) : State :=
  us.zipIdx.foldl (fun s iu =>
    let a := some (slotAddr ptr iu.2)
    if iu.1.index = classIndex 2 0 then { s with drain := { s.drain with headerSlot := a } }
    else if iu.1.index = classIndex 3 0 then { s with drain := { s.drain with mirrorSlot := a } }
    else if iu.1.index = classIndex 4 0 then { s with drain := { s.drain with poisonSlot := a } }
    else s) s

/-- A page of an epoch is programmed: both copies of a duplex page, its units provisional (R121, R203). -/
def pagePassed (e : Epoch) (ptr blockB : Nat) (s : State) : State :=
  let us := pageUnits e.todo
  let dup := match us with | u :: _ => u.dup | [] => false
  let type := match us with | u :: _ => pageType u | [] => 1
  let other := copyBPtr ptr blockB s
  let s := programPage ptr type e.num us dup false e.reprogram (if dup then some other else none) s
  let s := if dup then programPage other type e.num us true true e.reprogram (some ptr) s else s
  let s := moveFrontier ptr (if dup then some other else none) s
  let s := modEpoch e.num (fun e =>
    let e := if dup then addPage (addPage e ptr) other else addPage e ptr
    { e with todo := e.todo.drop us.length, reprogram := false }) s
  let s := noteSlots ptr us (countCopies us s)
  match s.stg.epochs.find? (fun x => x.num = e.num) with
  | some e => if 1536 < e.extents then failKnot e 2 s else s
  | none => s

/-- Whether the next page of an epoch is one of a duplex pair (R203). -/
def pageIsDup (e : Epoch) : Bool := match e.todo with | u :: _ => u.dup | [] => false

/-- Whether a page may be programmed again at `ptr`: on the channel where it failed while that works, and both copies of
a duplex page in a newly opened block pair of the same channels while those are paired (R203, R205). -/
def againAt (e : Epoch) (ptr : Nat) (s : State) : Bool :=
  !e.reprogram || ((ptrChannel ptr = e.reChannel || !(workingChannels s).contains e.reChannel ||
      (pageIsDup e && (partnerOf e.reChannel s).isNone)) &&
    (!pageIsDup e || ptrPage ptr = 0))

/-- Whether a page of a manifest that is written again lies on the next duplex pair: that of its own knot record (R204,
R568). -/
def onRewritePair (e : Epoch) (ptr : Nat) (s : State) : Bool :=
  let w := workingChannels s
  e.kind ≠ .manifest || !s.drain.rewrite || decide (w.length ≤ 1) || w[e.num % (w.length / 2)]? = some (ptrChannel ptr)

/-- Whether the next page of an epoch may be programmed at `ptr`, and its copy B in `blockB`. -/
def mayProgram (e : Epoch) (ptr blockB : Nat) (s : State) : Bool :=
  againAt e ptr s && onRewritePair e ptr s && if pageIsDup e then pairProgrammable ptr blockB s else programmable ptr s

/-- One page of a pair of which a page failed: it is programmed or its block takes no further programs; either way the block's
remaining pages are abandoned (R203, R205). -/
def pageOfFailed (e : Epoch) (p q : Nat) (r : NandResult) (copyB : Bool) (s : State) : State :=
  let us := pageUnits e.todo
  let type := match us with | u :: _ => pageType u | [] => 1
  match r with
  | .fail => failPage p s
  | .pass => abandonBlock p (programPage p type e.num us (pageIsDup e) copyB e.reprogram (some q) s)

/-- The pages of a program that failed, with the units of the epoch's next page: the block of a page that failed takes no further
programs, and the other page of a duplex pair is programmed and the remaining pages of its block are abandoned (R203, R205). -/
def failPages (e : Epoch) (ptr other : Nat) (result resultB : NandResult) (s : State) : State :=
  let s := pageOfFailed e ptr other result false s
  if pageIsDup e then abandonBlock ptr (abandonBlock other (pageOfFailed e other ptr resultB true s)) else s

/-- Page programs that failed: the page, or both pages of a duplex pair, wait to be programmed again with REPROGRAM set
(R172, R203, R205). -/
def pageFailed (e : Epoch) (ptr blockB : Nat) (result resultB : NandResult) (s : State) : State :=
  let us := pageUnits e.todo
  let dup := pageIsDup e
  let other := copyBPtr ptr blockB s
  let s := failPages e ptr other result resultB s
  let s := modEpoch e.num (fun e => { e with reprogram := true, reChannel := ptrChannel ptr }) s
  retireBlocks <| if vaultRuns s then
    let fails := b01 (result = .fail) + b01 (dup && resultB = .fail)
    addReprogram (4096 * (us.map copiesOf).sum)
      { s with vlt := { s.vlt with progFails := satAdd 0xFFFF s.vlt.progFails fails } }
  else s

/-- Notes in the voided epochs that a page was programmed: what had begun on its plane before is over. -/
def noteTarget (ptr : Nat) (s : State) : State :=
  { s with stg := { s.stg with begun := s.stg.begun.map (fun e => { e with pages := ptr :: e.pages }) } }

/-- Whether a page of a voided epoch may have begun at `ptr`: one page on each plane of each LUN, since multi-plane programs run
interleaved across the LUNs, with none programmed there since (R145, R151, R187; DEDUCED, log entry 64). -/
def begunAt (e : Epoch) (ptr : Nat) : Bool := !e.todo.isEmpty && !e.pages.any (fun p => p / 2 ^ 28 = ptr / 2 ^ 28)

/-- Whether programs of a voided epoch that had begun were allowed the erased blocks that they open (R228). -/
def roomFor (e : Epoch) (ptrs : List Nat) (s : State) : Bool := match e.room with | some r => decide (openedBytes ptrs s ≤ r) | none => true

/-- The page of a voided epoch whose program had begun completes (R145, R151); it holds nothing of a knotted epoch. -/
def begunDone (e : Epoch) (ptr blockB : Nat) (result resultB : NandResult) (s : State) : State :=
  let us := pageUnits e.todo
  let dup := pageIsDup e
  let type := match us with | u :: _ => pageType u | [] => 1
  let other := copyBPtr ptr blockB s
  let taken := openedBytes (if dup then [ptr, other] else [ptr]) s
  let s := { s with stg := { s.stg with
    begun := s.stg.begun.map (fun x => if x.num = e.num then { x with todo := x.todo.drop us.length, room := x.room.map (· - taken) } else x) } }
  let s := noteTarget ptr (if dup then noteTarget other s else s)
  if result = .pass && (!dup || resultB = .pass) then
    let s := programPage ptr type e.num us dup false e.reprogram (if dup then some other else none) s
    let s := if dup then programPage other type e.num us true true e.reprogram (some ptr) s else s
    countCopies us (moveFrontier ptr (if dup then some other else none) s)
  else retireBlocks (failPages e ptr other result resultB s)

/-- A page of the first epoch that has pages left is programmed, or its program failed (R121, R228). -/
def pageDone (e : Epoch) (ptr blockB : Nat) (result resultB : NandResult) (s : State) : State :=
  let other := copyBPtr ptr blockB s
  let s := noteTarget ptr (if pageIsDup e then noteTarget other s else s)
  if result = .pass && (!pageIsDup e || resultB = .pass) then pagePassed e ptr blockB s
  else pageFailed e ptr blockB result resultB s

/-- PAGE_PROGRAM_DONE (R121, R145, R151, R228). -/
def execPageProgramDone (ptr blockB : Nat) (result resultB : NandResult) (voided : Option Nat) (s : State) :
    Host.Outcome State Fault Refusal :=
  if !shuttlesRun s then .next s
  else match voided with
  | some n =>
    (match s.stg.begun.find? (fun e => e.num = n) with
    | some e =>
      let ptrs := if pageIsDup e then [ptr, copyBPtr ptr blockB s] else [ptr]
      .next (if begunAt e ptr && mayProgram e ptr blockB s && roomFor e ptrs s then begunDone e ptr blockB result resultB s else s)
    | none => .next s)
  | none =>
    match s.stg.epochs.find? (fun e => !e.todo.isEmpty) with
    | none => .next s
    | some e =>
      if !mayProgram e ptr blockB s then .next s
      else
        let ptrs := if pageIsDup e then [ptr, copyBPtr ptr blockB s] else [ptr]
        let wait := mustWait e ptrs s
        let s := noteWait e wait ptrs s
        .next (if wait then s else pageDone e ptr blockB result resultB s)

/-! ### Garbage collection, erases and spare capacity (R219 to R230) -/

/-- Whether a location-map entry has a copy in a block. -/
def slotIn (b : Nat) (l : Loc) : Bool :=
  l.a / 4 / 4096 = b || (match l.b with | some (c, k) => partnerPtr (l.a / 4) c k / 4096 = b | none => false)

/-- The live slots of a block (R225). -/
def liveSlots (b : Nat) (s : State) : Nat := (s.cache.loc.filter (fun e => slotIn b e.2)).length

/-- Whether a block that may be collected is closed: it takes no further programs, and it is not out of use in the bad-block table
(R201, R205, R221, R225). -/
def blockClosed (b : Nat) (x : Block) (s : State) : Bool :=
  !x.erased && targetWorks (blockTarget b) s && !(rootBlocks (blockTarget b) s).contains b &&
  !((targetAt (blockTarget b) s).bbt.any (fun e => e.2 = b % 2 ^ 21)) &&
  (x.failed || match descAt (blockTarget b) s with | some d => decide (d.pages ≤ x.next) | none => false)

/-- GC_START (R225): in ARMED after COMPLETE, when the erased pool is short, the engine takes the closed block with the
fewest live slots; the operands say which, where several have as few. -/
def execGcStart (target block : Nat) (s : State) : Host.Outcome State Fault Refusal :=
  let b := blockKey target block
  if s.vlt.state = .armed && s.restore.st = .complete && decide (erasedPool s < drainReserve s + 2 ^ 36) &&
      blockClosed b (blockAt b s) s &&
      s.nand.blocks.all (fun e => !blockClosed e.1 e.2 s || decide (liveSlots b s ≤ liveSlots e.1 s)) then
    .next { s with nand := { s.nand with gcBlock := some b } }
  else .next s

/-- The live copy at `slot` goes into the open epoch: the copy read, or the granule taken from DDR5, whose lines are then
read, when no copy decodes (R226). A copy that does not respond is taken as one that does not decode (DESIGN CHOICE, log
entry 47). -/
def collectCopy (e : Epoch) (g slot : Nat) (found : Option NandUnit) (reads : CopyReads) (s : State) : State :=
  match found with
  | some u => schedule e.num { u with kind := .gc, source := some slot, fromDdr := false } s
  | none =>
    let s := granuleRead reads g s
    schedule e.num { granuleUnit g .gc s with source := some slot, fromDdr := true } s

/-- GARBAGE_COLLECTION_READ (R226): one live copy of the block is read and scheduled under the open epoch, which closes at
64 MiB of copies; a copy that does not fit goes into the next one (R115, R116). -/
def execGarbageCollectionRead (slot : Nat) (a b : CopyRead) (bursts : List (Nat × Burst)) (s : State) : Host.Outcome State Fault Refusal :=
  match s.nand.gcBlock, s.cache.loc.find? (fun e => e.2.a = slot) with
  | some blk, some (g, l) =>
    if engineRuns s && s.vlt.state = .armed && slotIn blk l then
      let s := countCopyRead slot a s
      let okA := copyOutcome slot a s = .decodes
      let s := match slotB l with | some x => if okA then s else countCopyRead x b s | none => s
      let okB := (slotB l).any (fun x => copyOutcome x b s = .decodes)
      let reads : CopyReads := { bursts := bursts, a := a, b := b }
      let found := if okA || okB then unitAt slot s else none
      let c := match found with | some u => copiesOf u | none => if isDuplex s (boltOf s g) then 2 else 1
      let s := openNew .gc s
      let s := match openEpoch s with
        | some e => if 16384 < e.copies + c then openNew .gc (closeEpoch e.num s) else s
        | none => s
      match openEpoch s with
      | some e =>
        let s := collectCopy e g slot found reads s
        .next (if e.copies + c = 16384 then closeEpoch e.num s else s)
      | none => .next s
    else .next s
  | _, _ => .next s

/-- A knot record or void knot whose two pages are erased is gone. -/
def dropErased (s : State) : State :=
  { s with nand := { s.nand with
      knots := s.nand.knots.filter (fun k => (pageOfSlot k.slot s).isSome || (pageOfSlot k.slotB s).isSome),
      voids := s.nand.voids.filter (fun v => (pageOfSlot v.slot s).isSome || (pageOfSlot v.slotB s).isSome) } }

/-- Whether the engine erases blocks now: outside a vault, and not before restore-ready (R227, R228, R237). -/
def eraseTime (s : State) : Bool :=
  (isArmed s || s.vlt.state = .notArmed) && nandOpen s

/-- BLOCK_ERASE_DONE (R219 to R221, R227): the counter rises; a failed erase enters its block in the table; a
root record follows every 64 erases (R216). -/
def execBlockEraseDone (target block : Nat) (result : NandResult) (s : State) : Host.Outcome State Fault Refusal :=
  let b := blockKey target block
  let x := blockAt b s
  if !targetWorks target s || x.worn || !eraseTime s || !mayErase b s then .next s
  else
    let pe := satAdd 16777215 x.pe 1
    let s := onfiPslc target (.blockErase b) s
    let s := dropErased { s with nand := { s.nand with pages := s.nand.pages.filter (fun e => e.1 / 4096 ≠ b) } }
    let s := { s with nand := { s.nand with gcBlock := if s.nand.gcBlock = some b then none else s.nand.gcBlock } }
    let s := modBlock b (fun x => match result with
      | .fail => { x with pe := pe, erased := false, failed := true, owned := true }
      | .pass => if x.failed then { x with pe := pe } else erasedBlock x s) s
    let s := rootIfDue target (modTarget target (fun t => { t with erases := t.erases + 1 }) s)
    match result with
    | .fail => .next (spareCheck (enterBad b 2 s))
    | .pass => .next (retireBlocks s)

/-- SPARE_CAPACITY_CHECK (R229). -/
def execSpareCapacityCheck (s : State) : Host.Outcome State Fault Refusal := .next (spareCheck (retireBlocks s))

end Sys2Proof.Machine
end

