-- ==== Sys2Proof/Machine/Zones.lean ====
section
/-! DEFINITION. Sensors and thermal zones (R390 to R401, R566), the temperature and the energy per byte that
the budget takes from them (R124, R126, R127). Readings are in 1/16 degree C. -/

namespace Sys2Proof.Machine

/-- A sensor's record. -/
def sensorAt (n : Nat) (s : State) : Sensor := tget {} s.thm.sensors n

/-- An external input's record in the active draft. -/
def thermIn (k : Nat) (s : State) : Option ThermIn := match s.drf.active with | some d => d.therm[k]? | none => none

/-- A sensor's zone; none for an unused external input (R390, R391). -/
def sensorZone (n : Nat) (s : State) : Option Nat :=
  if n < 12 then some 0 else if n < 18 then some 3
  else match thermIn (n - 18) s with | some t => if t.zone ≤ 4 then some t.zone else none | none => none

/-- The sensors of a zone, ascending. -/
def zoneSensors (z : Nat) (s : State) : List Nat := (List.range 26).filter (fun n => sensorZone n s = some z)

/-- The neighbours of an on-die sensor, a free value: two to four others of its die (R399). -/
def dieNeighbours (n : Nat) : List Nat :=
  let die := if n < 12 then List.range 12 else (List.range 6).map (· + 12)
  let others := die.filter (· ≠ n)
  let l := others.filter (fun m => (Config.onDieNeighbours n).contains m)
  if l.length < 2 then others.take 2 else l.take 4

/-- A sensor's neighbours with their gradient limits in degrees C (R399). -/
def neighbours (n : Nat) (s : State) : List (Nat × Nat) :=
  if n < 18 then (dieNeighbours n).map (fun m => (m, 15))
  else match thermIn (n - 18) s with | some t => t.nbrs | none => []

/-- Whether a sensor has a reading and is not broken. -/
def sensorValid (n : Nat) (s : State) : Bool := (sensorAt n s).seen && !(sensorAt n s).broken

/-- Whether zone 0 receives engine readings (R392). -/
def engineReadings (s : State) : Bool := linkUp s && ((s.pwr.doms[1]?).map (·.on)).getD false

/-- Whether a sensor's reading counts at this moment. -/
def sensorCounts (n : Nat) (s : State) : Bool := if n < 12 then engineReadings s else true

/-- The valid readings of a zone. -/
def zoneReadings (z : Nat) (s : State) : List Int :=
  ((zoneSensors z s).filter (fun n => sensorValid n s && sensorCounts n s)).map (fun n => (sensorAt n s).temp)

/-- subst_margin in 1/16 degree C. -/
def substMargin (s : State) : Int := 16 * (setting s P.substMargin : Int)

/-- The substitute of a broken sensor from its neighbours or its zone; none when the zone has no valid reading
(R401). -/
def nearSubstitute (n : Nat) (s : State) : Option Int :=
  let near := ((neighbours n s).filter (fun m => sensorValid m.1 s && sensorCounts m.1 s)).map (fun m => (sensorAt m.1 s).temp)
  match maxOf near with
  | some t => some (t + substMargin s)
  | none => match sensorZone n s with
    | some z => (maxOf (zoneReadings z s)).map (fun t => t + substMargin s)
    | none => none

/-- The readings and near substitutes of a zone; zone 0 without engine readings counts its valid external inputs alone, with
no substitute (R392). -/
def zoneValues (z : Nat) (s : State) : List Int :=
  zoneReadings z s ++
  if z = 0 && !engineReadings s then []
  else ((zoneSensors z s).filter (fun n => (sensorAt n s).broken && sensorCounts n s)).filterMap (fun n => nearSubstitute n s)

/-- A zone's flags. -/
def zoneAt (z : Nat) (s : State) : Zone := match s.thm.zones[z]? with | some x => x | none => {}

/-- Whether zone 0 is held at its last value: it receives no engine readings and has no valid external input: STALE (R392). Before
any sensor of it has been sampled there is no such value. -/
def zoneStale (s : State) : Bool :=
  !engineReadings s && (maxOf (zoneValues 0 s)).isNone && (zoneSensors 0 s).any (fun n => (sensorAt n s).seen || (sensorAt n s).broken)

/-- A zone's maximum as the substitutes of other zones see it: the value that zone 0 keeps without engine readings counts (R392,
R401). -/
def nearMax (z : Nat) (s : State) : Option Int :=
  match maxOf (zoneValues z s) with
  | some t => some t
  | none => if z = 0 && !engineReadings s then some (zoneAt 0 s).kept else none

/-- The substitute of a broken sensor (R401). -/
def substitute (n : Nat) (s : State) : Option Int :=
  match nearSubstitute n s with
  | some t => some t
  | none => (maxOf ((List.range 4).filterMap (fun z => nearMax z s))).map (fun t => t + substMargin s)

/-- Whether a zone has an input (R566). -/
def zoneAssigned (z : Nat) (s : State) : Bool := !(zoneSensors z s).isEmpty

/-- The substitutes of a zone's broken sensors that neither their neighbours nor their zone give; zone 0 without engine readings has none
(R392, R401). -/
def farValues (z : Nat) (s : State) : List Int :=
  if z = 0 && !engineReadings s then []
  else ((zoneSensors z s).filter (fun n => (sensorAt n s).broken && sensorCounts n s && (nearSubstitute n s).isNone)).filterMap
    (fun n => substitute n s)

/-- A zone's maximum; none while it has no value (R392, R401, R566). -/
def zoneMax (z : Nat) (s : State) : Option Int :=
  if !zoneAssigned z s then none
  else match maxOf (zoneValues z s ++ farValues z s) with
    | some t => some t
    | none => if z = 0 then some (zoneAt 0 s).kept else none

/-- A zone's minimum over its valid readings. -/
def zoneMin (z : Nat) (s : State) : Option Int := minOf (zoneReadings z s)

/-- T_now of R124: the higher of the engine zone and, when assigned, the NAND zone. -/
def tNow (s : State) : Int :=
  let e := (zoneMax 0 s).getD 0
  match zoneMax 1 s with | some n => if e < n then n else e | none => e

/-- The temperatures of R124 in 1/16 degree C. -/
def epbTemps : List Int := [-640, -400, -160, 0, 160, 400, 640, 880, 1120, 1360, 1600, 2000]

/-- An integer quotient rounded up. -/
def iDivUp (a b : Int) : Int := -((-a) / b)

/-- A table interpolated linearly at `t` and scaled by `scale` / 1,024, rounded up; the ends hold beyond the
table (R124). -/
def interpUp (scale : Nat) (t : Int) : List (Int × Nat) → Nat
  | [] => 0
  | [(_, v)] => divUp (v * scale) 1024
  | (t0, v0) :: (t1, v1) :: rest =>
    if t ≤ t0 then divUp (v0 * scale) 1024
    else if t ≤ t1 then
      (iDivUp (((v0 : Int) * (t1 - t0) + ((v1 : Int) - v0) * (t - t0)) * scale) ((t1 - t0) * 1024)).toNat
    else interpUp scale t ((t1, v1) :: rest)

/-- The energy table of the active draft (R453). -/
def epbTable (s : State) : List (Int × Nat) := match s.drf.active with | some d => epbTemps.zip d.epb | none => []

/-- STG_EPB_NOW for the present temperature (R124). -/
def epbNow (s : State) : Nat :=
  let t := tNow s
  let te := t + 16 * (setting s P.epbGuard : Int)
  let tab := epbTable s
  let between := (tab.filter (fun p => decide (t ≤ p.1) && decide (p.1 ≤ te))).map (fun p => divUp (p.2 * s.stg.epbScale) 1024)
  (interpUp s.stg.epbScale t tab :: interpUp s.stg.epbScale te tab :: between).foldl Nat.max 0

/-- VLT_E_WINDOW (R126). -/
def windowEnergy (s : State) : Nat := (setting s P.window + 1) * setting s P.windowPower

/-- VLT_E_FIXED (R127). -/
def fixedEnergy (s : State) : Nat := divUp (setting s P.vaultStartEnergy * 10 ^ 9 + s.stg.epb * bFixed s) (10 ^ 9)

/-- T_now taken down: of the last computation, and in a vault for the mean of R125. -/
def noteTemp (s : State) : State :=
  let t := tNow s
  let run : Bool := !noVault s && s.vlt.state ≠ .hold && s.vlt.state ≠ .off
  { s with stg := { s.stg with
      tLast := t, tSum := if run then s.stg.tSum + t else s.stg.tSum, tCount := if run then s.stg.tCount + 1 else s.stg.tCount } }

/-- The mean of T_now over the vault; the present value when none was taken in it (R125). -/
def tMean (s : State) : Int := if s.stg.tCount = 0 then tNow s else s.stg.tSum / (s.stg.tCount : Int)

/-- The terms of the budget are computed (R124, R126, R127) and the budget is evaluated (R32). STG_EPB.T_EVAL takes T_now +
epb_guard in whole degrees C, rounded down: R140 states no rounding (DESIGN CHOICE, log entry 60). -/
def recompute (s : State) : State :=
  let s := noteTemp s
  let s := { s with stg := { s.stg with epb := epbNow s, tEval := (tNow s + 16 * (setting s P.epbGuard : Int)) / 16 } }
  evaluate { s with stg := { s.stg with eFixed := fixedEnergy s, eWindow := windowEnergy s, computed := true } }

/-- The terms are computed at once when T_now, as the link brings it to the engine, has changed by 1 degree C or more
(R124). -/
def tempFollows (s : State) : State :=
  if s.warm.engineUp && linkUp s && s.stg.computed && decide (16 ≤ (tNow s - s.stg.tLast).natAbs) then recompute s else s

end Sys2Proof.Machine
end

