-- ==== Sys2Proof/Machine/EflBase.lean ====
section
/-! DEFINITION. The steward's writes of system data into embedded flash and their temperature window (R405, R406, R408,
R469). -/

namespace Sys2Proof.Machine

/-- Whether the zone 3 temperatures lie in the window of R405; without a reading nothing lies outside it. -/
def tempWindow (s : State) : Bool :=
  (match zoneMin 3 s with | some t => decide (-640 ≤ t) | none => true) &&
  (match zoneMax 3 s with | some t => decide (t ≤ 2000) | none => true)

/-- Whether both values have returned 3 degrees C inside the window (R405). -/
def tempReturned (s : State) : Bool :=
  (match zoneMin 3 s with | some t => decide (-592 ≤ t) | none => true) &&
  (match zoneMax 3 s with | some t => decide (t ≤ 1952) | none => true)

/-- Whether a new embedded-flash operation may start (R405, R408). -/
def eflOpen (s : State) : Bool := tempWindow s && !s.thm.stage1 && !s.thm.stage2

/-- Whether a write of the steward may be made: a new operation may start, and none runs or is suspended (R405, R472, R473). -/
def eflReady (s : State) : Bool := eflOpen s && !eflBusy s

/-- The gauge's record as sector 36 takes it (R469, R563). -/
def gaugeRecord (s : State) : Option GaugeRec :=
  match s.drf.active with
  | some d => some { chem := d.store.chem, cells := d.store.cells, rated := d.store.ratedMc, cap := s.gau.cap,
                     provisional := s.gau.capProvisional, drift := s.gau.drift, snap := s.gau.snap, days := s.gau.days,
                     learns := s.gau.learns, rejects := s.gau.rejects, lastKind := s.gau.lastKind }
  | none => s.efl.gauge

/-- The block that a steward write goes to (log entry 110). -/
def datumBlock : StewardWrite → Nat | .gauge _ => 288 | .dirtyCount _ => 312 | .scale _ => 320

/-- Makes a steward write; a worn block takes none (R475). -/
def makeWrite (w : StewardWrite) (s : State) : State :=
  if blockWorn (datumBlock w) s then s
  else match w with
  | .gauge r => { s with efl := { s.efl with gauge := r } }
  | .scale v => { s with efl := { s.efl with scale := v } }
  | .dirtyCount v => { s with efl := { s.efl with dirty := v } }

/-- Whether two writes are of one datum: the newer takes the place of the older. -/
def sameWrite : StewardWrite → StewardWrite → Bool
  | .gauge _, .gauge _ | .scale _, .scale _ | .dirtyCount _, .dirtyCount _ => true
  | _, _ => false

/-- A waiting write of the same datum is out of date: it is dropped. -/
def dropWaiting (w : StewardWrite) (s : State) : State :=
  { s with efl := { s.efl with waits := s.efl.waits.filter (fun x => !sameWrite w x) } }

/-- A steward write: one that the window refuses waits in keeper SRAM with its value, and so does one that finds the controller busy
(R406, R472; DESIGN CHOICE for the latter, log entry 111). -/
def stewardWrite (w : StewardWrite) (s : State) : State :=
  let s := dropWaiting w s
  if eflReady s then makeWrite w s
  else { s with efl := { s.efl with waits := s.efl.waits ++ [w] } }

/-- STG_EPB_SCALE as the steward holds it: a value that waits, or the stored one (R406, R469; DEDUCED, log entry 88). -/
def heldScale (s : State) : Nat :=
  (s.efl.waits.findSome? (fun w => match w with | .scale v => some v | _ => none)).getD s.efl.scale

/-- The dirty shutdown count as the steward holds it (R312, R406). -/
def heldDirty (s : State) : Nat :=
  (s.efl.waits.findSome? (fun w => match w with | .dirtyCount v => some v | _ => none)).getD s.efl.dirty

/-- The steward writes the gauge's record of this moment (R406, R469). -/
def writeGauge (s : State) : State := stewardWrite (.gauge (gaugeRecord s)) s

/-- The writes that wait are made when the window allows and the controller is free (R406, R472). -/
def makeWaiting (s : State) : State :=
  if eflReady s then
    let l := s.efl.waits
    let s := l.foldl (fun s w => makeWrite w s) s
    { s with efl := { s.efl with waits := [] } }
  else s

end Sys2Proof.Machine
end

