-- ==== Sys2Proof/Machine/RailBase.lean ====
section
/-! DEFINITION. The rail governor's shared operations: pace, NAND demand, the start setpoint and the commands
it sends (R265, R267 to R274, R280, R285). -/

namespace Sys2Proof.Machine

/-- The pace table of R265 by setpoint code: GB/s at -40, 25, 85 and 125 degrees C. -/
def paceTable : List (Nat × List Nat) :=
  [(0, [14, 22, 29, 33]), (20, [22, 31, 37, 40]), (40, [31, 39, 44, 46]), (60, [39, 46, 49, 50]),
   (100, [52, 57, 57, 56]), (140, [62, 66, 64, 61]), (180, [70, 73, 70, 66])]

/-- The lower of the two neighbouring columns at a temperature in 1/16 degree C (R265). -/
def paceColumn (t : Int) (l : List Nat) : Nat :=
  let c (i : Nat) := (l[i]?).getD 0
  if t ≤ -640 then c 0 else if t < 400 then Nat.min (c 0) (c 1) else if t = 400 then c 1
  else if t < 1360 then Nat.min (c 1) (c 2) else if t = 1360 then c 2
  else if t < 2000 then Nat.min (c 2) (c 3) else c 3

/-- Whether the pace at a code is at least 1.10 times `demand`, in 0.01 GB/s, interpolating in voltage (R268). -/
def paceMeets (t : Int) (demand code : Nat) : List (Nat × List Nat) → Bool
  | (c0, l0) :: (c1, l1) :: rest =>
    if code ≤ c1 then
      decide (11 * demand * (c1 - c0) ≤
        1000 * (paceColumn t l0 * (c1 - c0) + (paceColumn t l1 - paceColumn t l0) * (code - c0)))
    else paceMeets t demand code ((c1, l1) :: rest)
  | _ => true

/-- Program throughput of a target in 0.01 GB/s times 1,000 (R188). -/
def targetRate (t : Nat) (s : State) : Nat :=
  match descAt t s with | some d => if d.tProg = 0 then 0 else 16384 * d.planes * d.luns * 100 / d.tProg | none => 0

/-- Whether the limit of R179 is in force. -/
def throttled (s : State) : Bool := (zoneAt 0 s).throttle || (zoneAt 1 s).throttle || s.vlt.throttled

/-- NAND demand in 0.01 GB/s, rounded up: the full rate of the working channels, reduced while R179 applies (R113, R188,
R268). -/
def nandDemand (s : State) : Nat :=
  let ts := (List.range 96).filter (fun t => targetWorks t s)
  let full := Nat.min (divUp (4000 * (workingChannels s).length) 12) (divUp (ts.map (fun t => targetRate t s)).sum 1000)
  if throttled s && decide (0 < ts.length) then
    let lim := ((workingChannels s).map (fun c =>
      Nat.min (setting s P.vaultThrottleTargets) ((ts.filter (fun t => t / 8 = c)).length))).sum
    divUp (full * lim) ts.length
  else full

/-- The start setpoint (R268). -/
def startSetpoint (s : State) : Nat :=
  let d := nandDemand s
  let c := ((List.range 181).find? (fun c => paceMeets (tNow s) d c paceTable)).getD 180
  Nat.max c (setting s P.vminVault)

/-- A SET word (R280). -/
def setWord (seq slew code : Nat) : Nat := 2 ^ 28 + seq % 16 * 2 ^ 24 + slew * 2 ^ 16 + code

/-- A QUERY word (R280). -/
def queryWord (seq : Nat) : Nat := 2 * 2 ^ 28 + seq % 16 * 2 ^ 24

/-- An ENGAGE word (R280). -/
def engageWord (quarterAmps : Int) : Nat := 3 * 2 ^ 28 + ofSigned 16 quarterAmps

/-- The next SEQ; the first frame after the engine's reset has SEQ 0 (R280, R288). -/
def nextSeq (s : State) : Nat := if s.rail.first then 0 else (s.rail.seq + 1) % 16

/-- Sends a command word and keeps it outstanding (R285). -/
def sendCommand (w : Nat) (s : State) : State :=
  let q := w / 2 ^ 24 % 16
  emit (.command w) { s with rail := { s.rail with seq := q, first := false, outstanding := (w, 1) :: s.rail.outstanding } }

/-- Sends a SET (R280). -/
def sendSet (code : Nat) (s : State) : State :=
  let s := { s with rail := { s.rail with setpoint := code, cmds := satAdd max32 s.rail.cmds 1 } }
  sendCommand (setWord (nextSeq s) (setting s P.railSlew) code) s

/-- Sends a QUERY (R286, R288). -/
def sendQuery (s : State) : State := sendCommand (queryWord (nextSeq s)) s

/-- Whether the vault state is one in which the setpoint follows the loop (R267). -/
def loopStates (s : State) : Bool := s.vlt.state = .fenced || s.vlt.state = .drain || s.vlt.state = .knot

/-- The governor sends the start setpoint and the loop runs (R268); a link that is down runs no loop (R287), and an engine held in
reset sends nothing. -/
def startLoop (s : State) : State :=
  if !s.warm.engineUp then s
  else
  let s := { s with rail := { s.rail with demand := nandDemand s, loopOn := !s.rail.linkDown, calm := 0 } }
  if s.rail.linkDown then s else sendSet (startSetpoint s) s

/-- A change of NAND demand in the loop's states computes the start setpoint again, and a loop that a re-boot stopped starts (R268). -/
def demandChanged (s : State) : State :=
  if loopStates s && (s.rail.demand ≠ nandDemand s || !s.rail.loopOn) then startLoop s else s

/-- The governor goes back to vcore_normal (R267, R270). -/
def normalSetpoint (s : State) : State :=
  let s := { s with rail := { s.rail with loopOn := false } }
  if s.rail.linkDown then s else sendSet (setting s P.vcoreNormal) s

end Sys2Proof.Machine
end

