-- ==== Sys2Proof/Machine/PowerBase.lean ====
section
/-! DEFINITION. The shared operations of the power tree: domains, switch-on and switch-off by groups, the
hold-up switch, shedding (R327 to R329, R334, R347 to R354). -/

namespace Sys2Proof.Machine

/-! ### VIN as read under the input rules (R325, R326, R434) -/

/-- Whether an input is frozen. -/
def isFrozen (input : Nat) (s : State) : Bool := (tfind s.flt.frozen input).isSome

/-- The mean of VIN taken in: a frozen sampler keeps its reading (R325). -/
def vinTaken (vin : Nat) (s : State) : Nat := if isFrozen 2 s then s.vin.vin else vin

/-- Whether a frozen path reads below vin_pfail, with the mean `v` (R325). -/
def frozenLow (v : Nat) (s : State) : Bool :=
  isFrozen 1 s || (isFrozen 2 s && decide (25 * v < 100 * setting s P.vinPfail))

/-- Whether either path reads VIN below vin_pfail, with the mean `v` (R325, R326). -/
def pfRead (v : Nat) (s : State) : Bool := decide (25 * v < 100 * setting s P.vinPfail) || s.vin.ovp || frozenLow v s

/-! ### Domains -/

/-- A domain. -/
def domAt (d : Nat) (s : State) : Dom := match s.pwr.doms[d]? with | some x => x | none => {}

/-- Changes a domain. -/
def modDom (d : Nat) (f : Dom → Dom) (s : State) : State :=
  { s with pwr := { s.pwr with doms := modAt d f s.pwr.doms } }

/-- A domain's record in the active draft (R456). -/
def domRec (d : Nat) (s : State) : Option DomRec := match s.drf.active with | some x => x.doms[d]? | none => none

/-- The domains shed in a vault: HOST_A, HOST_B and AUX (R155). -/
def hostDomains : List Nat := [8, 9, 10]

/-- The shed order of the active draft (R456). -/
def shedOrder (s : State) : List Nat := match s.drf.active with | some x => x.shedOrder | none => hostDomains

/-- Whether the board uses a domain (R356). -/
def domPresent (d : Nat) (s : State) : Bool :=
  d < 8 || d = 11 || (match domRec d s with | some r => r.present | none => false)

/-- VOUT of DOM_VOUT[d]: the voltage sensed last; of a domain that is on and has none yet a free value. -/
def sensedVolt (d : Nat) (s : State) : Nat :=
  if (domAt d s).on && (domAt d s).vout = 0 then Config.freeNat s.free % 2 ^ 16 else (domAt d s).vout

/-- The target of a domain in mV (R347, R334). -/
def domTarget (d : Nat) (s : State) : Nat :=
  if d = 1 then (4500 + 25 * s.vcore.target) / 10
  else if d = 11 then setting s (if s.pwr.atHold then P.ibusHold else P.ibusNominal)
  else match domRec d s with | some r => r.target | none => 0

/-- The power-good window of a domain in per cent (R348). -/
def pgPct (d : Nat) (s : State) : Nat := match domRec d s with | some r => r.pgPct | none => 5

/-- Whether an output voltage lies in a domain's power-good window (R348). -/
def inWindow (d mv : Nat) (s : State) : Bool :=
  let t := domTarget d s
  decide (100 * mv ≤ t * (100 + pgPct d s)) && decide (t * (100 - pgPct d s) ≤ 100 * mv)

/-- Whether every domain of a list is good. -/
def allGood (l : List Nat) (s : State) : Bool := l.all (fun d => (domAt d s).good)

/-! ### The hold-up switch and PFAIL_N -/

/-- Sets the mode of the hold-up switch (R328); an open-switch check that runs is over (R331). -/
def setHoldup (m : HuMode) (s : State) : State := { s with pwr := { s.pwr with huMode := m, huChecking := false } }

/-- Drives PFAIL_N. -/
def setPfail (asserted : Bool) (s : State) : State := { s with pwr := { s.pwr with pfailAsserted := asserted } }

/-! ### Switching domains -/

/-- The engine core loses its supply or is held in reset: its working memories are gone, and its end of the
heddle link is silent (R68, R175). -/
def engineLost (s : State) : State :=
  { s with
    warm := { s.warm with engineUp := false },
    hdlE := { s.hdlE with up := false, txSeq := 0, rxSeq := 0, unacked := [], waiting := [] },
    cache := { s.cache with waiting := [], fetches := [], capq := [], scrubbing := false },
    stg := { s.stg with heldq := [] } }

/-- Loses what DDR5 held: content, dirty map, location map, poison, age table (R68, R171). -/
def ddrLost (s : State) : State := emptyPoison (zeroMap { s with dram := [] })

/-- RAIL_LINK_P ends: its source's code shows no fault (R286, R411). -/
def railLinkBack (s : State) : State :=
  { s with flt := { s.flt with sources := tmod {} 197 (fun x => { x with t := false, c := true, owed := false }) s.flt.sources } }

/-- The IBUS phases in use that are healthy (R336, R339): a phase dropped stays dropped until the next cold reset. -/
def healthyPhases (s : State) : List Nat :=
  (List.range (setting s P.ibusPhases)).filter (fun p => !s.pwr.dropped.any (fun e => e.1 = p))

/-- The VCORE_E phases in use that are healthy (R343, R345). -/
def coreHealthy (s : State) : List Nat := (List.range (setting s P.vcorePhases)).filter (fun p => !s.vcore.dropped.contains p)

/-- Whether a domain has a converter that can supply it: the intermediate bus and VCORE_E need a healthy phase (R342, R345). -/
def hasSupply (d : Nat) (s : State) : Bool :=
  if d = 11 then !(healthyPhases s).isEmpty else if d = 1 then !(coreHealthy s).isEmpty else true

/-- Switches a domain on (R347). DOM1 ramps to vcore_normal with no command outstanding, and leaves fallback (R288); without a
healthy phase it stays at 0 V (R345). -/
def switchOn (d : Nat) (s : State) : State :=
  let s := modDom d (fun x => { x with on := true, good := false, shed := false, discharging := false, falling := false }) s
  if d = 1 then
    let n := if hasSupply 1 s then setting s P.vcoreNormal else 0
    let s := if s.vcore.fallback then railLinkBack s else s
    { s with
      vcore := { s.vcore with on := true, target := n, vout := n, slewing := none, lastWord := none, lastAck := none,
                              fallback := false, wasFallback := s.vcore.wasFallback || s.vcore.fallback },
      rail := { s.rail with outstanding := [], first := true, loopOn := false, setpoint := n } }
  else s

/-- Switches a domain off (R351). Without DOM1 the engine core stops (R288); without DOM2 the diode comparator of R407 and the
retained copy of the draft have no supply (R465); without DOM3, DOM4 or DOM5 the DDR5
content is lost (R61). -/
def switchOff (d : Nat) (s : State) : State :=
  if !(domAt d s).on then s
  else
    let dis := match domRec d s with | some r => r.discharge | none => false
    let s := modDom d (fun x => { x with on := false, good := false, iout := 0, vout := 0, discharging := dis, falling := true }) s
    if d = 1 then engineLost { s with vcore := { s.vcore with on := false, slewing := none, vout := 0, iout := 0 } }
    else if d = 2 then { s with flt := { s.flt with analogTrip := false }, drf := { s.drf with retained := none } }
    else if d = 3 ∨ d = 4 ∨ d = 5 then ddrLost s
    else s

/-- Switches a host domain off by R340, R341 or R353: SHED reads 1. -/
def shedDomain (d : Nat) (s : State) : State :=
  if (domAt d s).on then modDom d (fun x => { x with shed := true }) (switchOff d s) else s

/-- The domains of a group in the order of switch-on (R347). -/
def groupDomains (g : Nat) (s : State) : List Nat :=
  match g with
  | 0 => [11] | 1 => [5] | 2 => [3, 4] | 3 => [1, 2] | 4 => [6, 7]
  | _ => (shedOrder s).reverse.filter (fun d => domPresent d s)

/-- Whether a host domain may be switched on: R349 keeps it off until its source is cleared. -/
def mayStart (d : Nat) (s : State) : Bool := !(domAt d s).on && !(tget {} s.flt.sources (184 + d)).latched

/-- Whether a domain tracks another (R350). -/
def tracks (d e : Nat) (s : State) : Bool := match domRec d s with | some r => r.track ≠ 0 && r.partner = e | none => false

/-- The sequence of switching on is over, with every host domain good: the hold-up switch opens unless a vault is confirmed
(R329). -/
def finishSeq (s : State) : State :=
  let s := { s with pwr := { s.pwr with seq := .none, delaying := false } }
  if s.pwr.huMode = .closed && !s.vlt.confirming && !s.flt.belay then setHoldup .opened s else s

/-- The next host domain of the sequence goes on, with those that track it; once all are good the sequence ends. A domain
that R349 keeps off holds the sequence open until its source is cleared (R329, R347, R350, R352, R570). -/
def nextHost (s : State) : State :=
  match (groupDomains 5 s).find? (fun d => mayStart d s) with
  | none => if allGood (groupDomains 5 s) s then finishSeq s else s
  | some d =>
    ((groupDomains 5 s).filter (fun e => mayStart e s && (tracks e d s || tracks d e s))).foldl (fun s e => switchOn e s)
      (switchOn d s)

/-- Starts a group (R348). Group 5 begins with IBUS back at its nominal target and PFAIL_N deasserted (R169,
R334). -/
def startGroup (g : Nat) (s : State) : State :=
  let s := { s with pwr := { s.pwr with group := g, delaying := false } }
  if g < 5 then
    let s := (groupDomains g s).foldl (fun s d => if (domAt d s).on then s else switchOn d s) s
    if allGood (groupDomains g s) s then { s with pwr := { s.pwr with delaying := true } } else s
  else nextHost (setPfail false { s with pwr := { s.pwr with atHold := false, hostOwed := false, shedding := [] } })

/-- Begins a switch-on sequence: from IBUS at boot, from VCORE_E out of HOLD, or the host domains alone (R351,
R352, R169). -/
def beginSeq (goal : SeqGoal) (s : State) : State :=
  let s := { s with pwr := { s.pwr with seq := goal, offGroups := [] } }
  match goal with
  | .none => s
  | .boot => startGroup 0 s
  | .host => startGroup 5 s
  | .fromHold => startGroup 3 s

/-- The domains of a group as a switch-off takes them: every host domain, whether or not a draft names it (R351, R443). -/
def offDomains (g : Nat) (s : State) : List Nat := if g < 5 then groupDomains g s else (shedOrder s).reverse

/-- Switches groups off in the order given; the next one waits for active discharge (R351). -/
def offGroupList : List Nat → State → State
  | [], s => { s with pwr := { s.pwr with offGroups := [] } }
  | g :: t, s =>
    let s := (offDomains g s).foldl (fun s d => switchOff d s) s
    if (offDomains g s).any (fun d => (domAt d s).discharging) then { s with pwr := { s.pwr with offGroups := g :: t } }
    else offGroupList t s

/-- Begins a switch-off of groups (R351). -/
def beginOff (l : List Nat) (s : State) : State := offGroupList l { s with pwr := { s.pwr with seq := .none, delaying := false } }

/-! ### Shedding in a vault (R353 to R355, R334) -/

/-- The host domains still on, in shed order. -/
def onInShedOrder (s : State) : List Nat := (shedOrder s).filter (fun d => domPresent d s && (domAt d s).on)

/-- With the host domains shed in a vault, IBUS moves to ibus_hold (R334). -/
def shedDone (s : State) : State :=
  { s with pwr := { s.pwr with atHold := true, shedding := [] } }

/-- A sequence that switches host domains on stops. -/
def stopHostSeq (s : State) : State :=
  if s.pwr.seq = .host || (s.pwr.seq = .boot && s.pwr.group = 5) then { s with pwr := { s.pwr with seq := .none, delaying := false } } else s

/-- Starts the shedding of R353: the first domain goes off at once; domains already off are skipped. -/
def startShed (s : State) : State :=
  let s := stopHostSeq s
  match onInShedOrder s with
  | [] => shedDone s
  | d :: t =>
    let s := shedDomain d s
    if t.isEmpty then shedDone s else { s with pwr := { s.pwr with shedding := t } }

/-- Switches every host domain off together: with SHED in R341, and without it at belay (R356, R431). -/
def shedTogether (shed : Bool) (s : State) : State :=
  let s := (onInShedOrder s).foldl (fun s d => if shed then shedDomain d s else switchOff d s) (stopHostSeq s)
  { s with pwr := { s.pwr with shedding := [] } }

/-- I_cap in units of 0.1 A: healthy phases times phase_imax times 0.9 (R336). -/
def busCapability (s : State) : Nat := (healthyPhases s).length * setting s P.phaseImax * 9

/-- Whether the outage or loss of the bus leaves the rails without supply (R342). -/
def busLost (s : State) : Bool := s.pwr.lost

end Sys2Proof.Machine
end

