-- ==== Sys2Proof/Machine/VaultBase.lean ====
section
/-! DEFINITION. The shared operations of the vault: confirmation at either package, abandon, window, fence,
HOLD and OFF (R145, R147 to R156, R170, R171, R185, R307 to R309, R319). -/

namespace Sys2Proof.Machine

/-! ### Charger and exercise (R365, R382) -/

/-- Whether a source or a rise of temperature stops the charger (R362, R398). -/
def chargeStopped (s : State) : Bool := s.cell.ov || s.chg.rateStop

/-- Whether the charger charges. -/
def charging (s : State) : Bool := s.chg.st = .cc || s.chg.st = .cv

/-- The charger charges no more and waits for its conditions: inhibited, or in fault under a source that stops it (R364, R389). -/
def inhibitCharger (s : State) : State :=
  let x : ChgState := if chargeStopped s then .fault else .inhibited
  { s with chg := { s.chg with st := x, step := 0, iout := 0, balancing := false, probe := false } }

/-- The charger stops. -/
def stopCharger (s : State) : State := { s with chg := { s.chg with st := .off, step := 0, iout := 0, balancing := false, probe := false } }

/-- Whether a capacity exercise is in DISCHARGE to TAIL (R379). -/
def exercising (s : State) : Bool :=
  s.chg.phase = .discharge || s.chg.phase = .sealWait || s.chg.phase = .seal || s.chg.phase = .tail

/-- An exercise goes to RECHARGE without learning; the cause is recorded (R382). -/
def endExercise (cause : Nat) (s : State) : State :=
  if exercising s then
    { s with chg := { s.chg with phase := .recharge, st := .off, iout := 0, lastAbort := cause,
                                 aborts := satAdd 255 s.chg.aborts 1 } }
  else s

/-! ### Background mailbox commands (R310, R319) -/

/-- What Seal Image returns: the final knot's epoch and the timebase value at that knot (R315, R317). -/
def sealOutput (s : State) : List Byte := leBytes 8 s.mbx.bgResult.1 ++ leBytes 8 s.mbx.bgResult.2

/-- A background command ends: its completion code stands in Background Operation Status and vector 0 is raised; a seal that
succeeded returns its output with that (R310, R317, R320; DESIGN CHOICE, log entry 90). -/
def endBackground (code : RetCode) (s : State) : State :=
  if s.mbx.bg.isSome then
    let s := if s.mbx.bg = some .sealImage && code = .success then emit (.mailbox .success (sealOutput s)) s else s
    msix 0 { s with
      mbx := { s.mbx with bg := none, phase := .draining, bgCode := code, bgPercent := if code = .success then 100 else s.mbx.bgPercent },
      stg := { s.stg with sealBoost := false } }
  else s

/-- The work of a background command is done: its completion waits for BACKGROUND_COMMAND_DONE; a seal without a command
is simply over. -/
def finishBackground (code : RetCode) (s : State) : State :=
  let ph : BgPhase := if s.mbx.bg.isSome then .finished code else .draining
  { s with mbx := { s.mbx with phase := ph }, stg := { s.stg with sealBoost := false } }

/-- A confirmation ends the command that runs with Aborted; a Sanitize that was erasing is owed at the next boot (R319). -/
def abortBackground (s : State) : State :=
  let owed := s.mbx.bg = some .sanitize && s.mbx.phase = .erasing
  let s := if s.mbx.bg.isNone then { s with mbx := { s.mbx with phase := .draining } } else s
  endBackground .aborted { s with mbx := { s.mbx with sanitizeOwed := s.mbx.sanitizeOwed || owed } }

/-! ### Global Persistent Flush (R307 to R309) -/

/-- Answers every Phase 2 request that waits, and records the time of the last (R307, R308, R322). -/
def answerFlush (error : Bool) (s : State) : State :=
  match s.host.gpfWaiting with
  | [] => s
  | t :: rest =>
    let last := rest.foldl Nat.max t
    let s := (t :: rest).foldl (fun s _ => emit (.gpf2 error) s) s
    { s with host := { s.host with gpfWaiting := [], gpfFailed := error,
                                   gpfUs := Nat.min ((engineNow s - last) / 1000) (2 ^ 20 - 1) } }

/-! ### Speculative vault (R145, R146) -/

/-- The engine abandons a speculative vault: the open epoch is voided, closed epochs resolve, ARMED (R145). -/
def abandon (s : State) : State :=
  let s := match openEpoch s with | some e => voidEpoch 1 s e | none => s
  setVault .armed { s with vlt := { s.vlt with specAbandons := satAdd max32 s.vlt.specAbandons 1 } }

/-! ### The fence (R23, R154, R156, R157) -/

/-- The granules that the fence manifest lists: those of bolts 0 to 62 in the residual, ascending (R157). -/
def manifestOf (s : State) : List Nat :=
  (s.cache.map.filter (fun e => inRes e.2 && decide (boltOf s e.1 < 63))).map (·.1)

/-- The engine fences by a cause of VLT_STATE.FENCE_BY (R154): admission stops, uncommitted writes are discarded,
the fence is recorded, the fence notice goes out, the list of the manifest is taken, DDR5 changes to the vault
rate and the rail governor starts its loop (R156, R157, R268). R79 lets the vault rate begin at CONFIRMED, R156 and step 6 of R184 after
the fence: the change is made at the fence (DESIGN CHOICE, log entry 92). Without a working channel the vault says so (R174). -/
def fence (bySource : Nat) (s : State) : State :=
  let s := discardWrites s
  let s := { s with vlt := { s.vlt with fenceTs := engineNow s, fenceBy := bySource }, gau := { s.gau with fenceMj := s.gau.vaultMj } }
  let s := setVault .fenced s
  let s := sendFrame .engine (.warning 3) s
  let s := { s with
    drain := { manifest := some (manifestOf s), mirror := s.drain.mirror },
    cache := { s.cache with ch := s.cache.ch.map (fun c => { c with vaultSet := true }) } }
  noChannel (startLoop s)

/-- A fence at which a flush that waits has failed: its responses carry the error indication and a record is
posted (R308, R314). -/
def fenceFailing (bySource : Nat) (s : State) : State :=
  let waits := !s.host.gpfWaiting.isEmpty
  let s := answerFlush true (fence bySource s)
  if waits then postEvent 1 7 0xFF [s.vlt.fenceTs] s else s

/-- A fence by a host-interface reset or a link-down, in CONFIRMED or WINDOW (R23); in belay VLT_STATE keeps its state (R432). -/
def fenceByHost (s : State) : State :=
  if !s.flt.belay && (s.vlt.state = .confirmed || s.vlt.state = .window) then
    let s := fence 3 s
    { s with host := { s.host with gpfWaiting := [] } }
  else s

/-! ### Confirmation -/

/-- The engine enters CONFIRMED: staging stops, the open epoch closes, epochs whose knot record is not in program
are voided, background loads stop, a background command is aborted, vector 7 is raised while the link is up
(R148, R151, R254, R319, R320). -/
def enterConfirmed (s : State) : State :=
  let s := setVault .confirmed (closeOpen s)
  let s := strayEpochs (voidWhere (fun e => !knotInProgram e) 4 s)
  let s := abortBackground { s with
    stg := { s.stg with ckpt := none, tSum := 0, tCount := 0 }, nand := { s.nand with gcBlock := none }, cache := { s.cache with scrubbing := false },
    vlt := { s.vlt with specBlocked := false }, restore := { s.restore with loading := [] } }
  let s := if s.vlt.cause = 2 then postEvent 0 6 0xFF [causeWord s] s else s
  if s.host.width = 0 then s else msix 7 s

/-- The power controller starts shedding once: at the fence notice or the end of the window (R155). -/
def shedOnce (s : State) : State :=
  if s.pwr.atHold || !s.pwr.shedding.isEmpty then s else startShed s

/-- From CONFIRMED the engine enters WINDOW, or fences at once with a window of 0 ms or under IBUS_COLLAPSE (R23,
R148, R341). -/
def openWindow (s : State) : State :=
  if s.vlt.collapse || setting s P.window = 0 then
    let s := fenceFailing 4 s
    if s.vlt.confirming then shedOnce s else s
  else setVault .window s

/-- The chipset is OFF: every domain but DOM0 goes off, by groups (R171). A HOLD pair that is active, as it is out of HOLD, stays
so, with nothing left to hold; R61 and R171 do not say what it shows in OFF (DESIGN CHOICE, log entry 78). -/
def enterOff (s : State) : State :=
  beginOff [5, 4, 3, 2, 1, 0] (setVault .off { s with
    pwr := { s.pwr with bootOwed := false },
    restore := { s.restore with st := .idle, loading := [] },
    warm := { s.warm with kind := .none, step := 0, coldBoot := false } })

/-- The chipset goes to HOLD: the HOLD pair is active, and the hold island takes DDR5 into self-refresh (R170). -/
def enterHold (s : State) : State := drivePair .hold true (setVault .hold s)

/-- What a confirmation clears in the vault registers, and what it records (R147, R185). -/
def recordConfirm (cause source : Nat) (s : State) : State :=
  { s with
    flt := { s.flt with rebootExhausted := false },
    sel := { s.sel with attempts := 0 },
    gau := { s.gau with vaultMj := 0, fenceMj := 0 },
    vlt := { s.vlt with
      cause := cause, source := if cause = 4 then source else 0, confirmTs := now s, endTs := 0,
      count := satAdd max32 s.vlt.count 1, number := satAdd max32 s.vlt.count 1, retired := [], logStale := false, manifestRebuilt := false, fenceBy := 0,
      specBlocked := false, reboots := 0, thermalHolds := 0, drainVoids := 0, progFails := 0, drainBytes := 0, storeBytes := 0,
      reprogBytes := 0, engineCause := false } }

/-- Whether the chipset is in a warm reset begun in ARMED or SPECULATIVE (R73). -/
def inArmedReset (s : State) : Bool := s.warm.kind ≠ .none && s.warm.wasArmed

/-- What the power controller does within 2 us of a confirmation: the hold-up switch CLOSED, PFAIL_N asserted, PF
active, the charger stopped (R148, R365, R382). -/
def confirmOutputs (s : State) : State :=
  let s := drivePair .pf true (setPfail true (setHoldup .closed s))
  endExercise 1 (stopCharger { s with vlt := { s.vlt with confirming := true } })

/-- Whether the engine runs a vault that it confirmed on its own, or went to OFF by one while not armed, where VREQ is still
active (R63, R148, R149). -/
def engineAlone (s : State) : Bool :=
  match s.vlt.state with
  | .confirmed | .window | .fenced | .drain | .knot => !s.vlt.confirming
  | .off => !s.vlt.confirming && pairActive .vreq s && (s.vlt.cause = 5 || s.vlt.cause = 6)
  | _ => s.warm.confirmed.isSome && !s.vlt.confirming

/-- A confirmation during a warm reset begun in ARMED or SPECULATIVE counts as one re-boot attempt (R73). -/
def confirmInReset (cause source : Nat) (s : State) : State :=
  { s with
    warm := { s.warm with confirmed := some (cause, source) }, sel := { s.sel with attempts := 1 }, vlt := { s.vlt with reboots := 1 } }

/-- The power controller confirms a vault (R147, R148). During a warm reset begun in ARMED or SPECULATIVE, and while the state is not armed,
it sheds the host domains at once (R73, R149). Where the engine has confirmed alone it makes up its outputs (R148). In belay and while a vault is confirmed it changes nothing (R142,
R432): in belay the log alone records a confirmation, one by a source with that source's own entry (DESIGN CHOICE, log entry 106). -/
def confirm (cause source : Nat) (s : State) : State :=
  if s.flt.belay then (if cause = 4 then s else logEvent 6 cause (vaultCode s.vlt.state) s)
  else if s.vlt.confirming then s
  else if engineAlone s then
    let s := confirmOutputs s
    if s.vlt.state = .confirmed || s.vlt.state = .window then s
    else if s.vlt.state = .off then beginOff [5, 4, 3, 2, 1, 0] (startShed s)
    else startShed s
  else if s.vlt.state = .off || s.vlt.state = .hold then s
  else
    let c := if inArmedReset s && cause = 1 then 7 else cause
    let s := confirmOutputs (recordConfirm c source s)
    if inArmedReset s then startShed (confirmInReset c source s)
    else if isArmed s then s
    else startShed s

/-- What the engine does alone in a confirmation while not armed: it stops restore and enters OFF; the domains follow when the
power controller confirms (R149). -/
def engineOff (s : State) : State :=
  setVault .off { s with
    restore := { s.restore with st := .idle, loading := [] },
    warm := { s.warm with kind := .none, step := 0, coldBoot := false } }

/-- What the engine does when it sees PF active (R148, R149, R151): a vault in ARMED or SPECULATIVE, OFF when the
state is not armed, on its own where PF is frozen and the power controller has confirmed nothing. During a warm reset R73
governs. -/
def seePf (s : State) : State :=
  if s.warm.kind ≠ .none && s.warm.wasArmed then s
  else if isArmed s then openWindow (enterConfirmed s)
  else if s.vlt.state = .notArmed then (if s.vlt.confirming then enterOff s else engineOff s)
  else s

/-- The vault is over: PF and VREQ inactive, the confirmation spent, the limit of R180 with it. -/
def vaultOver (s : State) : State :=
  drivePair .vreq false (drivePair .pf false { s with
    vlt := { s.vlt with confirming := false, collapse := false, throttled := false }, warm := { s.warm with confirmed := none } })

end Sys2Proof.Machine
end

