-- ==== Sys2Proof/Machine/ResetBase.lean ====
section
/-! DEFINITION. Warm resets: what a request does, steps 1 to 5 of R70, and the registers that a reset clears
(R68 to R74, R138, R432, R569). -/

namespace Sys2Proof.Machine

/-- A channel's registers after a reset of the engine: in a vault the channels retired in it stay retired until the next boot
(R173, R202). -/
def clearChannel (s : State) (c : Nat) (x : NandCh) : NandCh :=
  { x with trained := false, retired := inVault s && s.vlt.retired.contains c, wpAsserted := true }

/-- The engine's register fields without RS take their Reset values, and its working memories are zeroed (R68). E_guar is 0 until the
first Energy frame, a value that R123 does not give (DESIGN CHOICE, log entry 96). In a
vault the limit of R180 stays in force; the engine drives BELAYE inactive unless the analog limit drives it (R407), and outside
a vault VREQ. A HOLD pair that is broken is so outside the engine core. -/
def clearEngine (s : State) : State :=
  let s := drivePair .belaye s.flt.analogTrip (if inVault s then s else drivePair .vreq false s)
  { s with
    stg := { s.stg with
      epb := 0xFFFF, tEval := 0, eFixed := 0xFFFFFFFF, eWindow := 0xFFFFFFFF, computed := false, fill := 4095,
      eGuar := 0, eReceived := 0, energySeen := false, boost := false, l1 := false, l2 := false, l3 := false,
      sealBoost := false, evtRise := false, evtClear := false, ieClear := false, deficit := false, recovering := false,
      heldq := [], epochs := [], voidReads := [], begun := [], ckpt := none },
    vlt := { s.vlt with throttled := inVault s && s.vlt.throttled, specBlocked := false, engineCause := false },
    drain := if inVault s then s.drain else { mirror := s.drain.mirror },
    restore := { s.restore with
      st := .idle, listPartial := false, covered := 0, evtReady := false, evtComplete := false, ieComplete := false, bytes := 0,
      loading := [], keyOk := false },
    nand := { s.nand with
      reserveWait := [], peTarget := 0, peBlock := 0, gcBlock := none,
      ch := s.nand.ch.map (fun e => (e.1, clearChannel s e.1 e.2)),
      targets := s.nand.targets.map (fun e => (e.1, { e.2 with ready := false, idle := true, changes := 0, mfr := 0, device := 0 })) },
    rail := { s.rail with linkDown := false, fbSeen := false, seq := 0, iout := 0, target := 0, vout := 0, demand := 0, pace := 0,
                          outstanding := [], first := true, loopOn := false, calm := 0, engaged := 0 },
    cache := { s.cache with capq := [], waiting := [], fetches := [], scrubbing := false },
    hdlE := { s.hdlE with up := false, txSeq := 0, rxSeq := 0, unacked := [], waiting := [] },
    flt := { s.flt with engineLive := s.flt.engineLive.filter (· = 62), engineBroken := [], details := [], engineStopped := false },
    tbs := { s.tbs with aligned := false, measured := 0, loaded := false },
    drf := { s.drf with stream := .idle, received := [], engineReady := false } }

/-- The engine loads and unwraps the stored vault key; without it KEY_UNWRAP (R69, R499). In RETIRED, which holds no key, nothing is
attempted and nothing raised (R238, R490). -/
def unwrapKey (s : State) : State :=
  if s.lcs.st = .retired then { s with restore := { s.restore with keyOk := false } }
  else if keyUnwraps s then { s with restore := { s.restore with keyOk := true } }
  else engineFault 16 0 { s with restore := { s.restore with keyOk := false } }

/-- The CXL port's state is cleared and the link held down (R70 step 2). -/
def clearPort (s : State) : State :=
  let h := s.host
  { s with
    host := { h with width := 0, speed := 0, flit256 := false, memEnabled := false, training := false, memActive := false,
                     gpfWaiting := [], gpfCovers := 0, load := 0, dec0 := {}, dec1 := {}, rangeEnable := false, rangeBase := 0,
                     msixMasked := List.replicate 8 true, msixPending := List.replicate 8 false },
    mbx := { s.mbx with
      doorbell := false, bg := none, phase := .draining,
      sanitizeOwed := s.mbx.sanitizeOwed || (s.mbx.bg = some .sanitize && s.mbx.phase = .erasing) } }

/-- A fresh warm reset. A chipset warm reset performs what was asked for before; an engine warm reset leaves requests that
wait (R71, R569). One that begins during a reset, or for a vault confirmed in a reset, goes on with that reset: what it began
in, when admission stopped and the vault confirmed stand (R73), and a chipset warm reset stays one, with the steps of the
steward that it has not reached still to be taken (R70, R569, R570). A confirmation that the engine has not seen yet is one in the
reset. -/
def newWarm (kind : RstKind) (s : State) : RstSt :=
  let within : Bool := s.warm.kind ≠ .none || s.warm.confirmed.isSome
  let past : Bool := s.warm.kind = .chipset && kind = .engine
  { kind := if past then .chipset else kind, step := 3, started := now s,
    reached := if past then Nat.max s.warm.reached s.warm.step else 0,
    wasArmed := isArmed s || (within && s.warm.wasArmed),
    beforeReady := if within then s.warm.beforeReady else !s.restore.ready,
    fromHold := s.vlt.state = .hold, fromOff := s.vlt.state = .off, afterBelay := s.flt.belay,
    confirmed := s.warm.confirmed <|> (if s.vlt.confirming && isArmed s then some (s.vlt.cause, s.vlt.source) else none), stopTs := if within then s.warm.stopTs else engineNow s,
    deferred := if kind = .engine then s.warm.deferred else none, later := if kind = .engine then s.warm.later else none,
    engineUp := s.warm.engineUp, structural := s.warm.structural, activated := past && s.warm.activated }

/-- Whether the steward's part of the reset in progress is over: an engine warm reset has none (R70). -/
def stewardDone (s : State) : Bool := s.warm.kind = .engine || decide (5 ≤ s.warm.reached)

/-- Kind of the reset for code 0x0007 (R437). -/
def resetCode : RstKind → Nat | .none => 0 | .chipset => 1 | .engine => 2

/-- Step 2 of R70 writes the seal flag, 0 when the engine is not running (R461). -/
def noteSeal (s : State) : State :=
  { s with drf := { s.drf with
      sealFlag := s.warm.engineUp && (s.cache.map.isEmpty || (s.mbx.sealedKnot && !s.mbx.writtenSince)) } }

/-- Steps 1 and 2 of R70 and the voiding of step 3. The open epoch of a SPECULATIVE vault is abandoned first (R72), which
VLT_SPEC_ABANDONS does not count: R72 and R185 leave open whether it does (DESIGN CHOICE, log entry 79);
every epoch whose knot record is not in program is voided. In a vault VLT_STATE keeps its state (R141). -/
def beginWarm (kind : RstKind) (s : State) : State :=
  let w := newWarm kind s
  let s := logEvent 7 (resetCode kind) (b01 w.fromOff) s
  let s := if s.warm.confirmed.isNone && w.confirmed.isSome then
      { s with sel := { s.sel with attempts := 1 }, vlt := { s.vlt with reboots := 1 } } else s
  let s := match s.vlt.state, openEpoch s with | .speculative, some e => voidEpoch 1 s e | _, _ => s
  let s := clearPort (discardWrites { noteSeal s with warm := w })
  let s := voidWhere (fun e => !knotInProgram e) 8 (closeOpen s)
  if inVault s && kind = .engine then s else setVault .notArmed (strayEpochs s)

/-- Requests a chipset warm reset (R70, R71, R432, R569). Before step 6 of a chipset reset it is absorbed; during the
rest of a reset it waits for step 9; in a vault it is deferred; in belay it is discarded. `overBelay` marks the
recovery of R433 and the exit of R409, which none of these stop. -/
def requestWarm (r : Requester) (overBelay : Bool) (s : State) : State :=
  let note (how : Nat) (s : State) : State := logEvent 8 (requesterCode r) how s
  if overBelay then beginWarm .chipset s
  else if s.flt.belay then note 1 s
  else if inVault s then note 0 { s with warm := { s.warm with deferred := some r } }
  else if s.warm.kind = .chipset && decide (s.warm.step < 6) && decide (s.warm.reached < 6) then note 2 s
  else if s.warm.kind ≠ .none then note 3 { s with warm := { s.warm with later := some r } }
  else beginWarm .chipset s

/-- The warm-reset scan of the dirty map (R70 step 8, R91, R111): STAGING goes DIRTY and PENDING 0. -/
def scanMap (s : State) : State :=
  { s with cache := { s.cache with map := s.cache.map.filterMap (fun e =>
      let st := if e.2.st = .staging then GState.dirty else e.2.st
      if st = .zero then none else some (e.1, { st := st, pending := false })) } }

/-- Every rank goes into or leaves self-refresh under the hold island (R61, R70). -/
def setRefresh (b : Bool) (s : State) : State :=
  { s with cache := { s.cache with ch := s.cache.ch.map (fun c => { c with selfRefresh := b, held := b }) } }

/-- The ranks leave self-refresh, unless a broken HOLD pair, frozen active, keeps them there; a channel whose controller is in a
unit reset leaves it with that reset's end (R61, R63, R107). -/
def leaveRefresh (s : State) : State :=
  if pairActive .hold s then s
  else { s with cache := { s.cache with ch := s.cache.ch.zipIdx.map (fun e =>
      if s.flt.resets.contains (4 + e.2) then e.1 else { e.1 with selfRefresh := false, held := false }) } }

/-- Step 4 of R70: HOLD active, every rank in self-refresh. -/
def holdDdr (s : State) : State := setRefresh true (drivePair .hold true s)

/-- The end of step 7: HOLD is released and DDR5 leaves self-refresh at its normal rate. -/
def releaseDdr (s : State) : State :=
  let s := leaveRefresh (drivePair .hold false s)
  { s with cache := { s.cache with ch := s.cache.ch.map (fun c => { c with vaultSet := inVault s }) } }

/-- The caps of the active draft are loaded (R89). -/
def loadCaps (s : State) : State :=
  match s.drf.active with
  | some d => { s with cache := { s.cache with
      caps := (d.bolts.take 63).zipIdx.filterMap (fun e => if e.1.present && e.1.cap ≠ 0 then some (e.2, e.1.cap) else none) } }
  | none => s

/-! ### What a reset clears of the store's units (R18, R68, R389, R563) -/

/-- The gauge's and the cells' register fields without RS take their Reset values; GAU_CAP, GAU_QREM, GAU_QUNC, imb and the
counters stay (R68, R389, R563). -/
def clearGauge (s : State) : State :=
  { s with
    cell := {},
    gau := { s.gau with cls := 1, current := 0, soc := 0, heldZero := false, overdue := false, impStale := false,
                           fullValid := false, eGuar := 0, reported := false } }

/-- The charger's register fields take their Reset values: it is off (R389). -/
def clearCharger (s : State) : State :=
  stopCharger { s with chg := { s.chg with balTimeout := false, paused := none }, pwr := { s.pwr with huChecking := false } }

end Sys2Proof.Machine
end

