-- ==== Sys2Proof/Machine/Collector.lean ====
section
/-! DEFINITION. The fault collector's shared operations: entry into fault, first-error record, shadows, unit
resets, belay, the selvedge's hold (R107, R108, R175, R276, R411 to R431, R571). -/

namespace Sys2Proof.Machine

/-! ### The selvedge's hold (R175) -/

/-- An engine warm reset under the selvedge begins: what the engine holds in working memory is lost. Outside a vault
its unresolved epochs are voided but for one whose knot record is in program, which step 3 resolves; in a vault the resume of
R176 decides about them (R68, R70, R175). -/
def beginReboot (s : State) : State :=
  if inVault s then
    let w : RstSt := { newWarm .engine s with step := 5 }
    let s := clearPort (discardWrites { noteSeal s with warm := w })
    logEvent 7 2 0 { s with stg := { s.stg with epochs := [], voidReads := [], begun := [] } }
  else beginWarm .engine s

/-- The selvedge asserts HOLD (R175); while it already holds or cools it does nothing more. -/
def selvedgeHold (thermal : Bool) (s : State) : State :=
  if s.flt.belay || s.sel.phase = .holding || s.sel.phase = .cooling then s
  else
    let s := drivePair .hold true s
    beginReboot { s with sel := { s.sel with phase := .holding, thermal := thermal } }

/-! ### Belay (R431) -/

/-- Channels whose targets are all ready have write protection asserted (R431 step 3). -/
def protectReady (s : State) : State :=
  (List.range 12).foldl (fun s c =>
    if (List.range 8).all (fun e => !declared (8 * c + e) s || (targetAt (8 * c + e) s).idle) then
      modChannel c (fun x => { x with wpAsserted := true }) s else s) s

/-- With write protection asserted on every channel, NAND_VCC and NAND_VCCQ go off (R431 step 7). -/
def nandOffWhenProtected (s : State) : State :=
  if s.flt.nandOff && (List.range 12).all (fun c => (channelAt c s).wpAsserted) then
    switchOff 7 (switchOff 6 { s with flt := { s.flt with nandOff := false } })
  else s

/-- The chipset enters belay by the source `cause`, 0xFF for BELAYE without one (R431 step 1). -/
def enterBelay (cause : Nat) (s : State) : State :=
  if s.flt.belay then s
  else
    let s := { s with flt := { s.flt with
      belay := true, belayCause := cause, entries := satAdd 255 s.flt.entries 1, awaitHold := true, nandOff := true } }
    let s := { s with sel := { s.sel with phase := .idle, thermal := false }, warm := { s.warm with kind := .none, step := 0 } }
    let s := drivePair .belayp true (drivePair .hold true s)
    let s := setHoldup .closed (stopCharger (setPfail true s))
    logEvent 4 cause 0 (shedTogether false s)

/-- The engine under BELAYP: admission stops, uncommitted writes are discarded, shuttles issue no command (R431
steps 2 and 3). -/
def engineBelay (s : State) : State :=
  nandOffWhenProtected (protectReady (discardWrites { s with flt := { s.flt with engineStopped := true } }))

/-! ### Sources -/

/-- A source's record. -/
def srcAt (n : Nat) (s : State) : Source := tget {} s.flt.sources n

/-- Changes a source's record. -/
def modSrc (n : Nat) (f : Source → Source) (s : State) : State :=
  { s with flt := { s.flt with sources := tmod {} n f s.flt.sources } }

/-- Whether a code reads as fault: every code but (0,1) (R411). -/
def inFault (x : Source) : Bool := x.t || !x.c

/-- Whether a code is broken (R411). -/
def brokenCode (x : Source) : Bool := x.t = x.c

/-- Whether a source exists (R415). -/
def present (n : Nat) : Bool := (defaultSev n).isSome

/-- UNIT of a source's S2 reaction in the active draft (R418). -/
def unitOf (n : Nat) (s : State) : Nat :=
  match s.drf.active with | some d => (match d.faults[n]? with | some f => f.unit | none => 0) | none => 0

/-- Whether ALERT is set for a source (R428). -/
def alertOf (n : Nat) (s : State) : Bool :=
  match (srcAt n s).alertUp with
  | some b => b
  | none => match s.drf.active with | some d => (match d.faults[n]? with | some f => f.alert | none => false) | none => false

/-- The shadow set of a source: its members; empty without one (R421). -/
def shadowSet (n : Nat) (s : State) : List Nat :=
  match s.drf.active with
  | some d => (match d.faults[n]? with
    | some f => if f.set < 32 then ((d.shadowSets[f.set]?).getD []).filter (fun m => !(srcAt m s).unshadowed) else []
    | none => [])
  | none => []

/-- Whether a source lies in an active shadow (R421, R422). -/
def shadowed (n : Nat) (s : State) : Bool := s.flt.shadows.any (fun m => (shadowSet m s).contains n)

/-- The master that a first-error record names: an engine unit, the selvedge, the collector, or none (R424). -/
def masterOf (n : Nat) : Nat := if n < 160 then 5 else if n < 164 then 6 else if n = 235 then 7 else 0

/-- The stall sources: their access type is a handshake (R424, R275). -/
def isStall (n : Nat) : Bool := [2, 3, 12, 22].contains n || (decide (29 ≤ n) && decide (n ≤ 56))

/-- The access type of a first-error record (R424): a handshake for the stall sources, a write for the pair
mismatches, a read for the embedded flash's. -/
def accessOf (n : Nat) : Nat := if isStall n then 4 else if n = 65 ∨ n = 234 then 2 else if n = 231 ∨ n = 232 then 1 else 0

/-- The address field of a record: the detail, with UNIT in [63:56] for an engine unit (R424, R442). -/
def addrField (n detail : Nat) (s : State) : Nat :=
  detail % 2 ^ 56 + (if masterOf n = 5 then unitOf n s % 256 * 2 ^ 56 else 0)

/-- Captures the first-error record, or counts in MORE (R424). -/
def captureFirst (n sev master detail : Nat) (shadow : Bool) (s : State) : State :=
  let f := s.flt.first
  if f.valid then { s with flt := { s.flt with first := { f with more := satAdd 255 f.more 1 } } }
  else
    let r : FirstErr :=
      { valid := true, shadowed := shadow, sev := sev, master := master, access := accessOf n, source := n, more := 0,
        addr := addrField n detail s, ts := now s }
    { s with flt := { s.flt with first := r } }

/-- Writes code 0x0001, at most 16 for a source in a second; further ones are counted (R436 to R438). FLAGS[3] marks a
source of the engine. -/
def logFault (n sev detail : Nat) (shadow first : Bool) (s : State) : State :=
  let w := tget 0 s.log.written n
  if 16 ≤ w then { s with log := { s.log with suppressed := tmod 0 n (· + 1) s.log.suppressed } }
  else
    let flags := sev + 8 * b01 (decide (n < 160)) + 16 * b01 shadow + 32 * b01 (brokenCode (srcAt n s)) + 64 * b01 first
    logEntry 1 n flags (addrField n detail s) (unitOf n s + 256 * accessOf n)
      { s with log := { s.log with written := tmod 0 n (· + 1) s.log.written } }

/-! ### Unit resets (R107, R108, R277, R420, R571) -/

/-- Whether an epoch has a copy on a channel: a page programmed or to be programmed again there, or a copy of its knot record
(R173). -/
def usesChannel (c : Nat) (s : State) (e : Epoch) : Bool :=
  e.pages.any (fun p => ptrChannel p = c) || (e.reprogram && e.reChannel = c) ||
  (match e.phase with
   | .knotProgrammed a => s.nand.knots.any (fun k => k.slot = a && (ptrChannel (k.slot / 4) = c || ptrChannel (k.slotB / 4) = c))
   | .filling => false)

/-- Whether an epoch has a copy scheduled on a channel that is retired (R173): one that uses it, or one with units still to be
programmed, which are scheduled over every working channel; the model settles a unit's place with its program (DEDUCED, log entry
103). -/
def scheduledOn (c : Nat) (s : State) (e : Epoch) : Bool := usesChannel c s e || !e.todo.isEmpty

/-- Voids the unresolved epochs that `p` names, each as its kind requires: in a drain and in a seal a drain epoch takes the
later ones with it, and what they held is selected again (R29, R39, R164, R173, R568). -/
def voidUnits (p : Epoch → Bool) (reason : Nat) (s : State) : State :=
  (s.stg.epochs.filter p).foldl (fun s e => if s.stg.epochs.any (fun x => x.num = e.num) then failKnot e reason s else s) s

/-- A unit on the path to NAND loses the vault key, which the engine loads again once the reset is over (R69). -/
def dropKey (s : State) : State := { s with restore := { s.restore with keyOk := false } }

/-- A unit reset of the CXL port is no host-interface reset: it keeps the link, the configuration, the decoders, the mailbox
and the event logs, and clears the transaction-layer queues. An uncommitted write and a read get no completion; a committed
write stays accepted (R22, R45, R571). -/
def clearCxlPort (s : State) : State :=
  let s := discardWrites s
  { s with
    cache := { s.cache with waiting := [], fetches := s.cache.fetches.map (fun f => { f with reads := [] }) } }

/-- Requests that wait for a load join those that wait for the command (R257, R318). -/
def requeueFetches (s : State) : State :=
  let reqs := s.cache.fetches.flatMap (fun f =>
    f.reads.map HostReq.read ++ f.writes.map (fun w => HostReq.write w))
  { s with
    cache := { s.cache with fetches := [], waiting := s.cache.waiting ++ reqs },
    restore := { s.restore with loading := [] } }

/-- A reset of the vault sequencer: its unresolved epochs are voided, what it does in the background and the loads it runs stop, and
VLT_RESTORE's event bits and VLT_RESTORE_BYTES are cleared (R29, R68, R264, R420). The requests that waited for a load wait for the
unit. RSTATE, the state of the restore itself, stays (DEDUCED, log entry 105). -/
def clearSequencer (s : State) : State :=
  let s := requeueFetches (dropKey (voidUnits (fun _ => true) 3 s))
  { s with
    restore := { s.restore with evtReady := false, evtComplete := false, ieComplete := false, bytes := 0 },
    vlt := { s.vlt with specBlocked := false }, stg := { s.stg with ckpt := if inVault s then s.stg.ckpt else none },
    nand := { s.nand with gcBlock := none } }

/-- RAIL_FAULT and TRACK_FAULT of domains are cleared (R68, R356, R420). -/
def clearDomains (l : List Nat) (s : State) : State :=
  l.foldl (fun s d => modDom d (fun x => { x with railFault := false, trackFault := false }) s) s

/-- What a unit reset clears in its unit (R68, R420). -/
def clearUnit (u : Nat) (s : State) : State :=
  if u = 1 then clearCxlPort s
  else if u = 2 then
    let s := { s with stg := { s.stg with
      heldq := [], l1 := false, l2 := false, l3 := false, evtRise := false, evtClear := false, ieClear := false, deficit := false, fill := 4095 } }
    { s with cache := { s.cache with capq := [] } }
  else if 4 ≤ u ∧ u ≤ 7 then
    { s with cache := { s.cache with ch := modAt (u - 4) (fun c => { c with selfRefresh := true, held := true }) s.cache.ch } }
  else if u = 8 then clearSequencer s
  else if 9 ≤ u ∧ u ≤ 20 then dropKey (voidUnits (usesChannel (u - 9) s) 3 s)
  else if 21 ≤ u ∧ u ≤ 32 then dropKey s
  else if u = 33 then
    { s with rail := { s.rail with
      linkDown := false, fbSeen := false, seq := 0, iout := 0, target := 0, vout := 0, demand := 0, pace := 0,
      outstanding := [], first := true, loopOn := false, calm := 0, engaged := 0 } }
  else if u = 40 then clearDomains s.pwr.failing s
  else if u = 41 then clearCharger s
  else if u = 42 then clearGauge s
  else s

/-- A unit reset begins (R420, R437). -/
def beginUnitReset (u : Nat) (s : State) : State :=
  logEvent 7 3 u (clearUnit u { s with flt := { s.flt with resets := addTo u s.flt.resets } })

/-! ### Entry into fault (R416 to R423) -/

/-- Whether the vault state lies between FENCED and KNOT (R173, R276). -/
def inDrainStates (s : State) : Bool := s.vlt.state = .fenced || s.vlt.state = .drain || s.vlt.state = .knot

/-- The sources routed to the selvedge between FENCED and KNOT (R275, R276). -/
def beyondRecovery (n : Nat) : Bool := [2, 3, 12, 22].contains n || (decide (29 ≤ n) && decide (n ≤ 32))

/-- The sources whose channel is retired between FENCED and KNOT (R173). -/
def retiresChannel (n : Nat) : Bool := decide (33 ≤ n) && decide (n ≤ 56)

/-- Times of a source's S2 reactions within the last second (R419). -/
def recentReactions (n : Nat) (s : State) : Nat :=
  ((srcAt n s).reacted.filter (fun t => decide (now s < t + 1000000000))).length

/-- Whether an S2 entry escalates to S3 (R419). -/
def escalates (n : Nat) (s : State) : Bool := decide (setting s P.stormLimit < recentReactions n s)

/-- The S2 reaction: a unit reset, and the shadow of the source's set; a further one while the shadow lasts starts no
second reset (R420, R421). -/
def unitReaction (n : Nat) (s : State) : State :=
  let s := modSrc n (fun x => { x with reacted := now s :: x.reacted.filter (fun t => decide (now s < t + 1000000000)) }) s
  if s.flt.shadows.contains n then s
  else beginUnitReset (unitOf n s) { s with flt := { s.flt with shadows := addTo n s.flt.shadows } }

/-- The severity that an entry takes: S2 may escalate (R419). -/
def takenSev (n sev : Nat) (s : State) : Nat := if sev = 2 && escalates n s then 3 else sev

/-- The reaction of a severity taken; a vault's own action stands in for a unit reset and for a vault (R416, R417). In
belay S3 and S4 only log, and no unit is reset (R432). -/
def takeReaction (n sev : Nat) (s : State) : State :=
  if sev = 4 then enterBelay n s
  else if inDrainStates s && beyondRecovery n then selvedgeHold false s
  else if inDrainStates s && retiresChannel n then s
  else if sev = 3 then confirm 4 n s
  else if sev = 2 && !s.flt.belay then unitReaction n s
  else s

/-- The reaction of a severity, which ESCALATED marks where a storm of S2 reactions raises it (R416, R419). -/
def react (n sev : Nat) (s : State) : State :=
  let taken := takenSev n sev s
  takeReaction n taken (if taken = sev then s else modSrc n (fun x => { x with escalated := true }) s)

/-- A source enters fault at a severity: it latches, is counted, captured and logged, and takes the shadow path or its
reaction (R416, R422). -/
def enterSev (n sev master detail : Nat) (s : State) : State :=
  let first := !s.flt.first.valid
  let s := modSrc n (fun x => { x with latched := true, count := satAdd 255 x.count 1, detail := detail }) s
  if shadowed n s then
    let s := captureFirst n sev master detail true s
    let s := modSrc n (fun x => { x with shadowHit := true, shadowCount := satAdd 255 x.shadowCount 1 }) s
    logFault n sev detail true first { s with flt := { s.flt with shadowed := satAdd max32 s.flt.shadowed 1 } }
  else
    let taken := takenSev n sev s
    react n sev (logFault n taken detail false first (captureFirst n taken master detail false s))

/-- A source enters fault at the severity in force. -/
def enterFault (n detail : Nat) (s : State) : State := enterSev n (sevOf n s) (masterOf n) detail s

/-- EXER_ABORT follows when an action has ended a capacity exercise (R382). -/
def withAbort (f : State → State) (s : State) : State :=
  let t := f s
  if exercising s && !exercising t && t.chg.phase = .recharge then enterFault 208 0 t else t

/-- A source's code changes: a change from no fault to fault is an entry; a broken code sets the signal-integrity
flag (R411, R417). Of a frozen pair the wires' code alone changes (R434). -/
def codeChange (n : Nat) (t c : Bool) (detail : Nat) (s : State) : State :=
  if !present n then s
  else if (srcAt n s).frozen then modSrc n (fun x => { x with wireT := t, wireC := c }) s
  else
    let was := inFault (srcAt n s)
    let s := modSrc n (fun x => { x with t := t, c := c, owed := x.owed && (t || !c) }) s
    let s := if t = c then { s with flt := { s.flt with si := true } } else s
    if !was && inFault (srcAt n s) then withAbort (enterFault n detail) s else s

/-- A power-controller source enters fault: an event at once, a lasting condition by its code (R411, R572). A source whose pair is
frozen is in fault already (R434). -/
def pcFault (n detail : Nat) (s : State) : State :=
  if isEvent n && !(srcAt n s).frozen then withAbort (enterFault n detail) s else codeChange n true false detail s

/-- A power-controller source's condition ends. -/
def pcClear (n : Nat) (s : State) : State := codeChange n false true 0 s

/-- A lasting condition of a power-controller source holds, or not. -/
def pcCond (n : Nat) (b : Bool) (s : State) : State := if b then pcFault n 0 s else pcClear n s

/-- A vault confirmed by a cause other than a fault source (R147). -/
def confirmVault (cause : Nat) (s : State) : State := withAbort (confirm cause 0) s

/-! ### FAULT_N and SMBALERT_N (R425, R428) -/

/-- The sources with a record, with their numbers. -/
def faultSources (s : State) : List (Nat × Source) := s.flt.sources

/-- Whether a source asserts FAULT_N. -/
def asserts (s : State) (e : Nat × Source) : Bool := decide (1 ≤ sevOf e.1 s) && (e.2.latched || inFault e.2)

/-- FAULT_N as asserted (R425); it is released while the keeper is stopped (R528). -/
def faultN (s : State) : Bool := s.pwr.keeper && (s.flt.belay || !s.flt.configured || (faultSources s).any (asserts s))

/-- SMBALERT_N as asserted (R428). -/
def smbAlert (s : State) : Bool := (faultSources s).any (fun e => asserts s e && alertOf e.1 s)

end Sys2Proof.Machine
end

