-- ==== Sys2Proof/Machine/Flags.lean ====
section
/-! DEFINITION. The status flags that several registers and reports share: the highest latched severity, Memory_Active,
the load-based DevLoad (R293, R305, R312). -/

namespace Sys2Proof.Machine

/-- The highest severity among latched sources: FLT_STATUS.HIGHEST (R442). -/
def highestLatched (s : State) : Nat :=
  ((s.flt.sources.filter (fun e => e.2.latched)).map (fun e => sevOf e.1 s)).foldl Nat.max 0

/-- The load-based DevLoad of a queue occupancy in per cent (R305). -/
def loadOf (occ : Nat) : Nat := if occ < 25 then 0 else if occ < 75 then 1 else if occ < 95 then 2 else 3

/-- Whether the state of the vault is one in which the media is ready (R293, R312). -/
def mediaReady (s : State) : Bool := isArmed s

/-- Whether restore-ready has passed (R251). -/
def restoreReady (s : State) : Bool := s.restore.st = .lazy || s.restore.st = .complete

end Sys2Proof.Machine
end

