-- ==== Sys2Proof/Machine/Operands.lean ====
section
/-! DEFINITION. Operand forms: host physical addresses through the HDM decoders (R296 to R298). -/

namespace Sys2Proof.Machine

/-- The interleave ways that may be committed (R296). -/
def waysOk (w : Nat) : Bool := w = 1 || w = 2 || w = 4 || w = 8

/-- The granularities that may be committed (R296). -/
def granularityOk (g : Nat) : Bool := [256, 512, 1024, 2048, 4096, 8192, 16384].contains g

/-- The number of DPA bytes that a decoder covers, past its skip (R298). -/
def decoderBytes (d : Decoder) : Nat := d.size / d.ways

/-- The DPA of a host physical address that a decoder serves, its own skip and `before` included (R298). -/
def decodeBy (d : Decoder) (before hpa : Nat) : Option Nat :=
  if d.committed && decide (d.base ≤ hpa) && decide (hpa < d.base + d.size) then
    let o := hpa - d.base
    if o / d.gran % d.ways = d.position then some (before + d.skip + o / (d.gran * d.ways) * d.gran + o % d.gran) else none
  else none

/-- The DPA of a host physical address by the committed decoders: decoder 1 lies after decoder 0's footprint
(R298). -/
def decodeHpa (h : HostSt) (hpa : Nat) : Option Nat :=
  match decodeBy h.dec0 0 hpa with
  | some a => some a
  | none => decodeBy h.dec1 (h.dec0.skip + decoderBytes h.dec0) hpa

/-- The DPA range of a decoder: first byte and the end (R297). -/
def decoderRange (d : Decoder) (before : Nat) : Nat × Nat := (before + d.skip, before + d.skip + decoderBytes d)

end Sys2Proof.Machine
end

