-- ==== Sys2Proof/Machine/Cache.lean ====
section
/-! DEFINITION. CXL.mem reads and writes, held writes, demand fetches and patrol scrub (R19 to R22, R33, R89, R96, R98
to R104, R252 to R260, R298, R299, R302, R303, R565). -/

namespace Sys2Proof.Machine

/-! ### Loads (R253, R258 to R260) -/

/-- A granule poisoned at restore, with its event record (R247, R314). -/
def poisonAtRestore (g : Nat) (s : State) : State :=
  let s := poisonGranule g s
  postEvent 2 0x0101 0xFF [4096 * g] { s with restore := { s.restore with poisonPresent := true } }

/-- When no granule is RESTORE_PENDING, restore is COMPLETE (R260). -/
def checkComplete (s : State) : State :=
  if s.restore.st = .lazy && !(s.cache.map.any (fun e => e.2.st = .restorePending)) then
    let s := { s with restore := { s.restore with
      st := .complete, completeTs := engineNow s, listPartial := false, rebuilding := false, evtComplete := true, loading := [] } }
    if s.restore.ieComplete then msix 5 s else s
  else s

/-- Loads a RESTORE_PENDING granule from its copies (R253, R258, R259). One that is poisoned because no copy decodes counts in
VLT_RESTORE_BYTES as loaded, which R264 leaves open (DESIGN CHOICE, log entry 83). VLT_RESTORE_UE rises by one for a granule both of whose
copies fail: R258 says that it increments, R264 that it counts copies (DESIGN CHOICE, log entry 62). -/
def loadGranule (g : Nat) (a b : CopyRead) (s : State) : State :=
  let s := { s with restore := { s.restore with loading := dropFrom g s.restore.loading } }
  if (entryOf g s).st = .restorePending then
    match tfind s.cache.loc g with
    | none => s
    | some l =>
      let old := copyRetired l.a s || (match slotB l with | some x => copyRetired x s | none => false)
      let r := readCopies l a b s
      let s := r.2.2
      let s := { s with restore := { s.restore with bytes := s.restore.bytes + 4096 } }
      match r.1, r.2.1 with
      | some c, _ => setEntry g { st := if old then .dirty else .clean } (placeCopy g c s)
      | none, some c =>
        let s := { s with restore := { s.restore with ue := satAdd max32 s.restore.ue 1 } }
        engineFault 18 (4096 * g) (setEntry g { st := .dirty } (placeCopy g c s))
      | none, none =>
        let s := { s with restore := { s.restore with ue := satAdd max32 s.restore.ue 1 } }
        engineFault 18 (4096 * g) (poisonAtRestore g s)
  else s

/-! ### Serving requests -/

/-- A line as the host reads it: poison wins, a ZERO granule reads zeros, and otherwise DDR5 (R91, R101, R303). A poisoned
line's data is a free value. -/
def answerRead (tag dpa : Nat) (s : State) : State :=
  let g := dpa / 4096
  let s := sampleFree 4 0 s
  if poisoned g (dpa % 4096 / 64) s then emit (.read tag (devLoad s) (Config.freeLine s.free) true) (nextFree s)
  else if (entryOf g s).st = .zero then emit (.read tag (devLoad s) 0 false) s
  else emit (.read tag (devLoad s) (readLine s (dpa / 64 * 64)) false) s

/-- Whether the CXL port serves CXL.mem: it operates, the engine runs and has not stopped under belay. -/
def portServes (s : State) : Bool := s.host.memEnabled && s.warm.engineUp && !s.flt.engineStopped

/-- Whether CXL.mem requests wait: before restore-ready, while a command of R318 runs, or while a DDR5 controller is in
a unit reset (R107, R251, R318). -/
def requestsWait (s : State) : Bool :=
  !restoreReady s || emptying s || ddrInReset s

/-- The fetch of a granule, if one is in progress. -/
def fetchOf (g : Nat) (s : State) : Option Fetch := s.cache.fetches.find? (fun f => f.granule = g)

/-- Adds a request to the demand fetch of a granule; a new fetch is counted, and a background load that an access promotes to demand
priority is not: R257 and R264 leave open whether it is one (DESIGN CHOICE, log entry 82) (R255 to R257). -/
def joinFetch (g : Nat) (f : Fetch → Fetch) (s : State) : State :=
  match fetchOf g s with
  | some _ => { s with cache := { s.cache with fetches := s.cache.fetches.map (fun x => if x.granule = g then f x else x) } }
  | none =>
    { s with
      cache := { s.cache with fetches := s.cache.fetches ++ [f { granule := g }] },
      restore := { s.restore with demandFetches :=
        if s.restore.loading.contains g then s.restore.demandFetches else satAdd max32 s.restore.demandFetches 1 } }

/-- The first write held in TAIL ends the capacity exercise (R380, R382). -/
def tailEnds (s : State) : State := if inTail s then withAbort (endExercise 5) s else s

/-- A write held by now ends TAIL, and the full invariant applies again (R380, R382). -/
def tailHeld (s : State) : State := if inTail s && !s.stg.heldq.isEmpty then evaluate (tailEnds s) else s

/-- Holds a write in the budget's queue; in TAIL it ends the exercise (R33, R380). -/
def holdWrite (w : HeldWrite) (s : State) : State :=
  evaluate (tailEnds { s with stg := { s.stg with heldq := s.stg.heldq ++ [w] } })

/-- Admits a write under the budget; in TAIL every one is held (R33, R135, R380). -/
def admitBudget (w : HeldWrite) (s : State) : State :=
  let g := w.dpa / 4096
  if inRes (entryOf g s) && !inTail s then commit w s
  else if s.stg.heldq.isEmpty && fits (costOf g s) s then evaluate (commit w s)
  else holdWrite w s

/-- Admits a write: a granule already in the residual commits; a capped bolt's write joins its queue, which holds it; the
others are admitted under the budget (R33, R89, R135, R380). -/
def admitWrite (w : HeldWrite) (s : State) : State :=
  let g := w.dpa / 4096
  let n := boltOf s g
  if inRes (entryOf g s) && !inTail s then commit w s
  else if !(tget [] s.cache.capq n).isEmpty || atCap n s then
    let s := joinCapQueue n w s
    if inTail s then evaluate (tailEnds s) else s
  else admitBudget w s

/-- A write to a mapped line after its map read (R19, R20, R230, R256). -/
def serveWrite (w : HeldWrite) (s : State) : State :=
  let g := w.dpa / 4096
  if !admitting s then s
  else if boltDiscards (boltOf s g) s then discardShed w s
  else if (entryOf g s).st = .restorePending then joinFetch g (fun f => { f with writes := f.writes ++ [w] }) s
  else admitWrite w s

/-- A read of a mapped line (R91, R255, R302): a ZERO granule's reads no DRAM, a RESTORE_PENDING granule's waits for its fetch, and
any other meets what its burst does (R99, R100) and is answered. -/
def serveRead (r : ReadReq) (s : State) : State :=
  let g := r.dpa / 4096
  if (entryOf g s).st = .restorePending then joinFetch g (fun f => { f with reads := f.reads ++ [r] }) s
  else if (entryOf g s).st = .zero then answerRead r.tag r.dpa s
  else answerRead r.tag r.dpa (lineRead (r.dpa / 64) r.burst r.a r.b s)

/-- What follows from the map read of an access (R96, R98, R99, R103); an error that leaves no granule RESTORE_PENDING completes
restore (R260). -/
def mapRead (g : Nat) (m : MapAcc) (s : State) : State :=
  match m with
  | .good => s
  | .parity => engineFault 24 (4096 * g) s
  | .badCode => checkComplete (engineFault 23 (4096 * g) (poisonGranule g s))
  | .dirtyCe => countCe (mapLine false g s) s
  | .locationCe => countCe (mapLine true g s) s
  | .dirtyUe => checkComplete (dirtyBlockUe g (countUe (mapLine false g s) s))
  | .locationUe => checkComplete (locationBlockUe g (countUe (mapLine true g s) s))

/-- Serves a request of the host: the map is read, and then the line is written or read. -/
def serveReq (s : State) (r : HostReq) : State :=
  match r with
  | .write w => serveWrite w (mapRead (w.dpa / 4096) w.map s)
  | .read r => serveRead r (mapRead (r.dpa / 4096) r.map s)

/-- Serves the requests that waited, in their order, when nothing keeps them waiting any more; the writes that the budget holds come
first (R135). -/
def releaseWaiting (s : State) : State :=
  if requestsWait s then s
  else
    let s := if s.stg.heldq.isEmpty then s else evaluate s
    tailHeld (s.cache.waiting.foldl serveReq { s with cache := { s.cache with waiting := [] } })

/-- Serves what waited for a granule's load: the reads, and then the writes in arrival order (R255 to R257). R257 orders the
writes among themselves; that the reads come first is the model's (DESIGN CHOICE, log entry 48). -/
def serveFetch (g : Nat) (s : State) : State :=
  match fetchOf g s with
  | none => s
  | some f =>
    let s := sampleFree 6 0 { s with cache := { s.cache with fetches := s.cache.fetches.filter (fun x => x.granule ≠ g) } }
    let s := f.reads.foldl (fun s r => answerRead r.tag r.dpa s) s
    f.writes.foldl (fun s w => serveWrite w s) s

/-- A granule's load ends (R253, R255). -/
def finishLoad (g : Nat) (a b : CopyRead) (s : State) : State := checkComplete (serveFetch g (loadGranule g a b s))


/-! ### The commands -/

/-- An access that no committed decoder maps is counted (R299). -/
def unmapped (s : State) : State :=
  engineFault 1 0 { s with host := { s.host with drops := satAdd max32 s.host.drops 1 } }

/-- Whether the fence has not fallen: unmapped and discarded writes are still completed (R20). -/
def beforeFence (s : State) : Bool := admitting s || s.vlt.state = .notArmed

/-- CXL_MEM_WRITE (R19, R33, R89, R230, R299). -/
def execCxlMemWrite (tag hpa : Nat) (data : Line) (be : BitVec 64) (poison : Bool) (burst : Burst) (map : MapAcc) (occ : Nat)
    (s : State) :
    Host.Outcome State Fault Refusal :=
  if !portServes s then .next s
  else
    let s := { s with host := { s.host with load := loadOf occ } }
    match decodeHpa s.host hpa with
    | none => .next (if beforeFence s then emit (.written tag (devLoad s)) (unmapped s) else s)
    | some dpa =>
      let w : HeldWrite :=
        { tag := tag, dpa := dpa, data := data, be := be, poison := poison, order := s.cache.received, burst := burst, map := map }
      let s := { s with cache := { s.cache with received := s.cache.received + 1 } }
      if requestsWait s then
        .next (if beforeFence s then { s with cache := { s.cache with waiting := s.cache.waiting ++ [.write w] } } else s)
      else .next (tailHeld (serveReq s (.write w)))

/-- CXL_MEM_READ (R299, R302, R100, R255). -/
def execCxlMemRead (tag hpa : Nat) (burst : Burst) (a b : CopyRead) (map : MapAcc) (occ : Nat) (s : State) :
    Host.Outcome State Fault Refusal :=
  if !portServes s then .next s
  else
    let s := { s with host := { s.host with load := loadOf occ } }
    match decodeHpa s.host hpa with
    | none => .next (emit (.read tag (devLoad s) (Config.freeLine s.free) true) (nextFree (unmapped s)))
    | some dpa =>
      let r : ReadReq := { tag := tag, dpa := dpa, burst := burst, a := a, b := b, map := map }
      if requestsWait s then .next { s with cache := { s.cache with waiting := s.cache.waiting ++ [.read r] } }
      else .next (serveReq s (.read r))

/-- HELD_WRITE_RELEASE (R135): held writes commit from the head of the queue as far as the invariant allows. -/
def execHeldWriteRelease (s : State) : Host.Outcome State Fault Refusal :=
  .next (if admitting s && !ddrInReset s then evaluate s else s)

/-- CAP_QUEUE_RELEASE (R89, R230, R318): the head of a bolt's cap queue enters admission when there is room for one granule; into a bolt
that is shed by now it is discarded. -/
def execCapQueueRelease (bolt : Nat) (s : State) : Host.Outcome State Fault Refusal :=
  match tget [] s.cache.capq bolt with
  | [] => .next s
  | w :: t =>
    if emptying s then .next s
    else if admitting s && boltDiscards bolt s then
      .next (discardShed w (sampleFree 8 0 { s with cache := { s.cache with capq := tput [] bolt t s.cache.capq } }))
    else if admitting s && !ddrInReset s && (capRoom bolt s || inRes (entryOf (w.dpa / 4096) s)) then
      .next (tailHeld (admitBudget w <| sampleFree 8 0 { s with cache := { s.cache with capq := tput [] bolt t s.cache.capq } }))
    else .next s

/-- DEMAND_FETCH_COMPLETE (R255 to R259); no load ends while a DDR5 controller is in a unit reset (R107). -/
def execDemandFetchComplete (granule : Nat) (a b : CopyRead) (s : State) : Host.Outcome State Fault Refusal :=
  if (fetchOf granule s).isSome && !ddrInReset s then .next (tailHeld (finishLoad granule a b s)) else .next s

/-- The lines that patrol scrub reads: those of the protected capacity and of the system region (R81, R104). -/
def scrubLines (s : State) : Nat := (capGranules s * 4096 + systemBytes (cGib s)) / 64

/-- Whether patrol scrub skips a granule (R104). -/
def scrubSkips (g : Nat) (s : State) : Bool :=
  decide (g < capGranules s) && ((entryOf g s).st = .zero || (entryOf g s).st = .restorePending)

/-- Moves the scrub position; after the last line a new pass begins (R104). -/
def scrubTo (line : Nat) (s : State) : State :=
  { s with cache := { s.cache with scrubPos := if line < scrubLines s then line else 0, scrubbing := true } }

/-- PATROL_SCRUB (R104, R105): the line at the scrub position is read and the position moves on; in a ZERO or RESTORE_PENDING
granule it moves past the granule with nothing read. A corrected line is written back, which changes no content. -/
def execPatrolScrub (burst : Burst) (a b : CopyRead) (s : State) : Host.Outcome State Fault Refusal :=
  let line := s.cache.scrubPos
  if !isArmed s then .next s
  else if scrubSkips (line / 64) s then .next (scrubTo (64 * (line / 64) + 64) s)
  else
    let s := scrubTo (line + 1) s
    if line / 64 < capGranules s then .next (lineRead line burst a b s)
    else
      match eccOf (byEight s) burst with
      | .ok => .next s
      | .corrected => .next (countCe line s)
      | .uncorrectable => .next (checkComplete (mapRegionUe line (countUe line s)))

end Sys2Proof.Machine
end

