-- ==== Sys2Proof/Machine/Budget.lean ====
section
/-! DEFINITION. The budget, reefing and the endurance governor (R32 to R35, R123 to R139). -/

namespace Sys2Proof.Machine

/-- BUDGET_EVAL_TICK (R32, R130, R131). -/
def execBudgetEvalTick (s : State) : Host.Outcome State Fault Refusal :=
  .next (if s.warm.engineUp then tailHeld (evaluate s) else s)

/-- Whether a write with this tag is held, under the budget or for a cap. -/
def isHeld (tag : Nat) (s : State) : Bool :=
  s.stg.heldq.any (fun w => w.tag = tag) || s.cache.capq.any (fun q => q.2.any (fun w => w.tag = tag))

/-- REEF_HOLD_MAX_EXPIRY (R34, R89): ADMISSION_HOLD for a write held for reef_hold_max. -/
def execReefHoldMaxExpiry (tag : Nat) (s : State) : Host.Outcome State Fault Refusal :=
  .next (if isHeld tag s then engineFault 4 0 s else s)

/-- BUDGET_RECOVER_EXPIRY (R35): BUDGET_DEFICIT when the timer that runs ends. -/
def execBudgetRecoverExpiry (s : State) : Host.Outcome State Fault Refusal :=
  .next (if s.stg.recovering then engineFault 5 0 s else s)

/-- EPB_RECOMPUTE_TICK (R124, R126, R127). -/
def execEpbRecomputeTick (s : State) : Host.Outcome State Fault Refusal :=
  .next (if s.warm.engineUp && s.drf.active.isSome then recompute s else s)

/-- How many thresholds of the overdraft a level lies below (R139). -/
def overdraftMarks (level : Int) (depth : Nat) : Nat := if level < 0 then ((-level).toNat - 1) / depth else 0

/-- GOV_TOKEN_TICK (R136): 1 ms of tokens, up to the depth. -/
def execGovTokenTick (s : State) : Host.Outcome State Fault Refusal :=
  if setting s P.govRate = 0 || !s.warm.engineUp then .next s
  else
    let depth : Nat := setting s P.govDepth * 2 ^ 20
    let add : Nat := setting s P.govRate * 1000
    let up : Int := s.stg.govLevel + add
    let level := if (depth : Int) < up then (depth : Int) else up
    .next { s with stg := { s.stg with govLevel := level, govMarks := Nat.min s.stg.govMarks (overdraftMarks level depth) } }

/-- ENERGY_FRAME (R123): E_guar is the value received; the budget is evaluated. -/
def execEnergyFrame (hdr : FrameHdr) (eGuar soc drawn : Nat) (s : State) : Host.Outcome State Fault Refusal :=
  let ok := accepts .engine hdr s
  let s := receive .engine hdr s
  if ok then
    let s := { s with stg := { s.stg with eReceived := eGuar, eGuar := eGuar, energySeen := true, soc := soc, drawn := drawn } }
    .next (evaluate (engineClear 6 s))
  else .next s

/-- ENERGY_STALE_EXPIRY (R123): the first expiry raises ENERGY_STALE; each further one takes 1/16 of the last value
received away. -/
def execEnergyStaleExpiry (s : State) : Host.Outcome State Fault Refusal :=
  if !s.warm.engineUp then .next s
  else if s.flt.engineLive.contains 6 then
    .next (evaluate { s with stg := { s.stg with eGuar := s.stg.eGuar - divUp s.stg.eReceived 16 } })
  else .next (engineFault 6 0 s)

end Sys2Proof.Machine
end

