-- ==== Sys2Proof/Machine/EflRecords.lean ====
section
/-! DEFINITION. The steward's programs and erases of embedded flash: words, blocks, the journal, the records and the label storage area
(R471, R472, R475, R479, R480, R485 to R488). -/

namespace Sys2Proof.Machine

/-! ### Words and blocks -/

/-- Stores a word. -/
def storeWord (w : Nat) (x : EflWord) (s : State) : State := { s with efl := { s.efl with words := tins w x s.efl.words } }

/-- Records the status of an operation. -/
def eflResult (r b : Nat) (s : State) : State := { s with efl := { s.efl with result := r, block := b } }

/-- The controller's refusal of a program, 0 for none: WORN, INCOMPLETE, NEEDS_ERASE (R471, R475, R488). -/
def programStatus (w d : Nat) (s : State) : Nat :=
  if blockWorn (blockOfWord w) s then 4
  else if s.efl.incomplete.contains (blockOfWord w) then 6
  else if !programTakes w d s then 1
  else 0

/-- Programs a word. A program that is refused leaves the word, and EFL_STATUS shows the refusal; one of the steward's records that is
done does not show there (DESIGN CHOICE, log entry 111). -/
def programWord (w d : Nat) (s : State) : State :=
  let r := programStatus w d s
  if r = 0 then storeWord w { data := d, programs := (eflWord w s).programs + 1 } s else eflResult r (blockOfWord w) s

/-- Removes a block's words: it reads erased, and what the model keeps beside them is gone (R468, R469). -/
def wipeBlock (b : Nat) (s : State) : State :=
  let s := loseDatum b s
  { s with efl := { s.efl with
      words := s.efl.words.filter (fun e => blockOfWord e.1 ≠ b), factoryBlocks := dropFrom b s.efl.factoryBlocks,
      undetermined := dropFrom b s.efl.undetermined, incomplete := dropFrom b s.efl.incomplete } }

/-! ### The erase journal (R485 to R488) -/

/-- Writes a journal record at the next place of a half (R485). -/
def putRecord (half type block count : Nat) (s : State) : State :=
  let w := journalBase half + 2 * journalEnd half s
  programWord (w + 1) (pairWord count) (programWord w (pairWord (type * 2 ^ 24 + block)) s)

/-- The three attempts at an erase have left a word not erased: the block is worn, and EFL_ECC raised (R486). -/
def wearOut (b : Nat) (s : State) : State := pcFault 232 0 { s with efl := { s.efl with worn := addTo b s.efl.worn } }

/-- An erase within one step, with its records in a half: whether every word reads erased is a free value, and up to `n` attempts are
made (R486). The controller refuses a worn block (R475). -/
def eraseTries (half b : Nat) : Nat → State → State
  | 0, s => wearOut b s
  | n + 1, s =>
    let c := eraseCount b s
    let s := wipeBlock b (putRecord half 0x49 b c s)
    let bad := Config.freeBool s.free
    let s := nextFree (putRecord half 0x43 b (Nat.min (c + 1) maxErases) s)
    if bad then eraseTries half b n { s with efl := { s.efl with undetermined := addTo b s.efl.undetermined } } else s

/-- An erase with its records in a half, refused of a worn block (R475, R486). -/
def eraseIn (half : Nat) (s : State) (b : Nat) : State :=
  if blockWorn b s then eflResult 4 b s else eraseTries half b 3 s

/-- Starts the other half when fewer than 2 records fit: a snapshot of every counter above 0, then the erase of the full half
(R487). -/
def journalRoom (s : State) : State :=
  let old := journalHalf s
  if !journalFull old s then s
  else
    let new := 1 - old
    let counts := ((List.range 512).map (fun b => (b, eraseCount b s))).filter (fun e => decide (0 < e.2))
    let s := counts.foldl (fun s e => putRecord new 0x53 e.1 e.2 s) s
    ((List.range 8).map (fun i => (34 + old) * 8 + i)).foldl (eraseIn new) s

/-- Writes a record with room made for it (R485, R487). -/
def journal (type block count : Nat) (s : State) : State :=
  let s := journalRoom s
  putRecord (journalHalf s) type block count s

/-- Erases a block within one step, with its journal records (R486). -/
def eraseNow (s : State) (b : Nat) : State :=
  let s := journalRoom s
  eraseIn (journalHalf s) s b

/-! ### Records with a commit word (R479 to R481) -/

/-- Programs an entry's words in ascending order, erased ones left (R479). -/
def writeEntry (kind h i : Nat) (l : List Nat) (s : State) : State :=
  l.zipIdx.foldl (fun s e => if e.1 = erasedData then s else programWord (entryBase kind h i + e.2) e.1 s) s

/-- Commits a new entry with its payload words: in the first free place after the newest, or at the start of the other
half once that is erased. At SEQ 0xFF_FFFF nothing is written (R480). -/
def commitEntry (kind : Nat) (payload : List Nat) (s : State) : State :=
  let newest := newestEntry kind s
  let seq : Nat := match newest with | some e => e.1 + 1 | none => 0
  if 0xFFFFFF < seq then s
  else
    let words := payload ++ List.replicate (entryWords kind - 1 - payload.length) erasedData ++
      [pairWord (0xC * 2 ^ 28 + kind * 2 ^ 24 + seq)]
    let (h, from') := match newest with | some e => (e.2.1, e.2.2 + 1) | none => (0, 0)
    match ((List.range (entriesPer kind)).filter (fun i => decide (from' ≤ i))).find? (fun i => entryFree kind h i s) with
    | some i => writeEntry kind h i words s
    | none => writeEntry kind (1 - h) 0 words (eraseNow s (recordBlock kind (1 - h)))

/-- Whether a commit has written its entry: a worn or failing half takes none (R475, R480, R486). -/
def committed (kind : Nat) (s t : State) : Bool := newestSeq kind t ≠ newestSeq kind s

/-- Programs every word of an entry to all zero. -/
def zeroEntry (kind h i : Nat) (s : State) : State :=
  (List.range (entryWords kind)).foldl (fun s j => programWord (entryBase kind h i + j) 0 s) s

/-- Voids the torn entries of a record (R480). -/
def voidTorn (kind : Nat) (s : State) : State :=
  (readHalves kind s).foldl (fun s h => (List.range (entriesPer kind)).foldl (fun s i =>
    if (entrySeq kind (entryAt kind h i s)).isSome || entryFree kind h i s || (entryAt kind h i s).all (fun d => d = 0) then s
    else zeroEntry kind h i s) s) s

/-- Programs a word of the newest entry: WIPE_DONE (R481). -/
def markNewest (kind j v : Nat) (s : State) : State :=
  match newestEntry kind s with
  | some e => programWord (entryBase kind e.2.1 e.2.2 + j) v s
  | none => s

/-! ### The label storage area (R313, R469) -/

/-- The word of the array at word `w`, with the bytes of `data` from byte `a` of the array on in their places. -/
def mergedWord (a : Nat) (data : List Byte) (w : Nat) (s : State) : Nat :=
  ofLeBytes ((List.range 8).map (fun i =>
    if a ≤ 8 * w + i then (data[8 * w + i - a]?).getD (BitVec.ofNat 8 (eflByte (8 * w + i) s)) else BitVec.ofNat 8 (eflByte (8 * w + i) s)))

/-- Gives words of one block new data: programs them where they are erased, else erases the block and programs all it is to hold. -/
def rewriteBlock (b : Nat) (ws : List (Nat × Nat)) (s : State) : State :=
  let new := ws.filter (fun e => eflData e.1 s ≠ e.2)
  if new.all (fun e => (eflWord e.1 s).programs = 0) && blockReads b s then new.foldl (fun s e => programWord e.1 e.2 s) s
  else
    let kept := (s.efl.words.filter (fun e => blockOfWord e.1 = b && !(ws.any (fun x => x.1 = e.1)))).map (fun e => (e.1, (eccRead e.2).1))
    (kept ++ ws).foldl (fun s e => if e.2 = erasedData then s else programWord e.1 e.2 s) (eraseNow s b)

/-- Stores bytes in the label storage area, block by block. R313 gives no way of doing so (DESIGN CHOICE, log entry 110). -/
def writeLsa (offset : Nat) (data : List Byte) (s : State) : State :=
  let a := lsaBase + offset
  let words := (List.range ((a + data.length + 7) / 8 - a / 8)).map (fun i => a / 8 + i)
  (List.range 8).foldl (fun s k =>
    let b := 296 + k
    let ws := words.filter (fun w => blockOfWord w = b)
    if ws.isEmpty then s else rewriteBlock b (ws.map (fun w => (w, mergedWord a data w s))) s) s

end Sys2Proof.Machine
end

