-- ==== Sys2Proof/Machine/Vault.lean ====
section
/-! DEFINITION. The vault: early warning, confirmation, window, manifest, drain, system bolt, final knot and what follows
it (R23, R118 to R120, R125, R143 to R171, R324 to R326, R567, R568). -/

namespace Sys2Proof.Machine

/-! ### The VIN front end (R143, R324 to R326) -/

/-- VIN is no longer good (R168, R352): the charger charges and probes no more (R364), and an exercise that runs ends (R382). -/
def vinBad (s : State) : State :=
  let s := if charging s then inhibitCharger s else if s.chg.probe then { s with chg := { s.chg with probe := false, iout := 0 } } else s
  withAbort (endExercise 2) { s with vin := { s.vin with good := false } }

/-- Whether VIN lies above vin_warn + vin_hyst (R143, R168). -/
def vinHigh (v : Nat) (s : State) : Bool := decide (100 * (setting s P.vinWarn + setting s P.vinHyst) < 25 * v)

/-- The sum of the 16 readings that end `i` before the newest; `l` is newest first (R324). -/
def sum16 (l : List Nat) (i : Nat) : Nat := ((l.drop i).take 16).sum

/-- a - b of R324 at the update `i` before the newest, as the difference of two sums of 16 readings: SLOPE is 250 / 1,024 of it in
0.1 V/ms. -/
def slopeSum (l : List Nat) (i : Nat) : Int := (sum16 l i : Int) - (sum16 l (i + 64) : Int)

/-- pred of R324 at the update `i` before the newest: SLOPE at most -0.5 V/ms, and vin_pfail reached within spec_horizon; false
before the sampler has 80 readings. -/
def predAt (l : List Nat) (s : State) (i : Nat) : Bool :=
  decide (80 + i ≤ l.length) && decide (250 * slopeSum l i ≤ -5 * 1024) &&
  decide (1600 * (sum16 l i : Int) - 102400 * (setting s P.vinPfail : Int) < -2500 * slopeSum l i * (setting s P.specHorizon : Int))

/-- warn_slope: pred at 8 consecutive updates (R324); a frozen sampler shows no slope (R325). -/
def slopeWarns (samples : List Nat) (s : State) : Bool := !isFrozen 2 s && (List.range 8).all (predAt samples.reverse s)

/-- Takes in the sampler's readings and the pfail comparator (R323 to R325): the mean a in units of 25 mV and SLOPE in 0.1 V/ms,
both rounded down (DESIGN CHOICE, log entry 77); with fewer than 16, or 80, readings they keep their values. At or below vin_warn
+ vin_hyst VIN is no longer good (R168). -/
def readVin (samples : List Nat) (below : Bool) (s : State) : State :=
  let l := samples.reverse
  let v := if isFrozen 2 s || l.length < 16 then s.vin.vin else sum16 l 0 / 16
  let slope : Int := if isFrozen 2 s then 0 else if l.length < 80 then s.vin.slope else 250 * slopeSum l 0 / 1024
  let comp := below || isFrozen 1 s
  let s := { s with vin := { s.vin with vin := v, slope := slope, comp := comp, below := comp || pfRead v s } }
  if vinHigh v s || !s.vin.good then s else vinBad s

/-- Whether an early warning holds (R143, R324); a frozen warn comparator reads below vin_warn (R434). -/
def warns (samples : List Nat) (level : Bool) (s : State) : Bool := level || isFrozen 0 s || slopeWarns samples s

/-- Whether the early warning and cause 1 are armed: VIN has been good since the keeper started, and a draft is active
(R567). -/
def vinArmed (s : State) : Bool := s.vin.armed && s.drf.active.isSome

/-- EARLY_WARNING (R143, R324, R567): once armed, a condition raises the warning and a Warning frame goes out; WARN holds as long
as a condition does. -/
def execEarlyWarning (samples : List Nat) (below level : Bool) (s : State) : Host.Outcome State Fault Refusal :=
  if !s.pwr.keeper then .next s
  else
    let s := readVin samples below s
    let w := vinArmed s && warns samples level s
    if w && !s.vin.warn then
      .next (sendFrame .pctrl (.warning 1) { s with vin := { s.vin with warn := true, warned := true } })
    else .next { s with vin := { s.vin with warn := w } }

/-- SPEC_ABANDON_EXPIRY (R143): VIN above vin_warn + vin_hyst with no slope condition for spec_abandon: an abandon frame. -/
def execSpecAbandonExpiry (samples : List Nat) (below : Bool) (s : State) : Host.Outcome State Fault Refusal :=
  if !s.pwr.keeper then .next s
  else
    let s := readVin samples below s
    if vinArmed s && s.vin.warned && vinHigh s.vin.vin s && !warns samples false s then
      .next (sendFrame .pctrl (.warning 2) { s with vin := { s.vin with warn := false, warned := false } })
    else .next s

/-- WARNING_FRAME (R144): in ARMED with SPEC_BLOCKED 0 the engine enters SPECULATIVE, where
garbage collection stops (R225). -/
def execWarningFrame (hdr : FrameHdr) (s : State) : Host.Outcome State Fault Refusal :=
  let ok := accepts .engine hdr s
  let s := receive .engine hdr s
  if ok && engineRuns s && s.vlt.state = .armed && !s.vlt.specBlocked then
    .next (setVault .speculative { s with
      vlt := { s.vlt with specStarts := satAdd max32 s.vlt.specStarts 1 }, nand := { s.nand with gcBlock := none } })
  else .next s

/-- ABANDON_FRAME (R145, R146): a speculative vault is abandoned; SPEC_BLOCKED clears. -/
def execAbandonFrame (hdr : FrameHdr) (s : State) : Host.Outcome State Fault Refusal :=
  let ok := accepts .engine hdr s
  let s := receive .engine hdr s
  if ok then
    let s := { s with vlt := { s.vlt with specBlocked := false } }
    .next (if s.vlt.state = .speculative && engineRuns s then abandon s else s)
  else .next s

/-- SPEC_MAX_EXPIRY (R146): the speculative vault is abandoned and speculation blocked; SPEC_LONG. -/
def execSpecMaxExpiry (s : State) : Host.Outcome State Fault Refusal :=
  if s.vlt.state = .speculative && engineRuns s then
    let s := abandon s
    .next (engineFault 9 0 { s with vlt := { s.vlt with specBlocked := true } })
  else .next s

/-- PF_FILTER_EXPIRY (R325, R567): a path saw VIN below vin_pfail for pf_filter; once armed that confirms cause 1.
Where both saw it, they agree again and VIN_SENSE ends. -/
def execPfFilterExpiry (vin : Nat) (comparator sampler : Bool) (s : State) : Host.Outcome State Fault Refusal :=
  let v := vinTaken vin s
  if s.pwr.keeper && (comparator || sampler || s.vin.ovp || frozenLow v s) then
    let s := { s with vin := { s.vin with vin := v, below := true, comp := comparator || isFrozen 1 s } }
    let s := if comparator && sampler then pcClear 164 s else s
    .next (if vinArmed s then confirmVault 1 { s with vin := { s.vin with good := false } } else vinBad s)
  else .next s

/-- INPUT_OVERVOLTAGE (R326): the input switch is held off and both paths read VIN below vin_pfail, which confirms cause 1
once armed; or VIN is below the threshold again. -/
def execInputOvervoltage (above : Bool) (s : State) : Host.Outcome State Fault Refusal :=
  if !s.pwr.keeper then .next s
  else if above then
    let s := { s with vin := { s.vin with ovp := true, below := true } }
    .next (if vinArmed s then confirmVault 1 { s with vin := { s.vin with good := false } } else vinBad s)
  else
    let s := { s with vin := { s.vin with ovp := false } }
    .next { s with vin := { s.vin with below := s.vin.comp || pfRead s.vin.vin s } }

/-! ### Confirmation (R147 to R151) -/

/-- STEWARD_VAULT_REQUEST (R147): cause 3. -/
def execStewardVaultRequest (s : State) : Host.Outcome State Fault Refusal :=
  .next (if s.pwr.keeper && s.drf.active.isSome then confirmVault 3 s else s)

/-- Whether the power controller judges VREQ, BELAYE and HBE: DOM1, DOM2 and DOM7 good, the engine core out of reset
(R530). -/
def engineJudged (s : State) : Bool := allGood [1, 2, 7] s && s.warm.engineUp

/-- The power controller sees VREQ active (R147, R413): cause 2, or 6 where the pair is frozen active; cause 4 with the source
that the engine wrote itself while the heddle link is down. -/
def vreqSeen (s : State) : State :=
  if s.vlt.engineCause then withAbort (confirm 4 s.vlt.source) s
  else confirmVault (if (pairAt .vreq s).frozen then 6 else 2) s

/-- VREQ_ACTIVE (R147, R413, R530). -/
def execVreqActive (s : State) : Host.Outcome State Fault Refusal :=
  .next (if pairActive .vreq s && engineJudged s then vreqSeen s else s)

/-- The engine sees PF active (R148, R149). A frozen PF counts as active: the engine then records cause 6 and drives VREQ
(R63, R147). -/
def pfSeen (s : State) : State :=
  if s.vlt.confirming || inVault s then releaseWaiting (seePf s)
  else
    if s.warm.confirmed.isSome then drivePair .vreq true s
    else
      let s := drivePair .vreq true (recordConfirm 6 0 s)
      if inArmedReset s then confirmInReset 6 0 s else releaseWaiting (seePf s)

/-- PF_ACTIVE (R148, R149). -/
def execPfActive (s : State) : Host.Outcome State Fault Refusal :=
  .next (if pairActive .pf s && s.warm.engineUp && !s.flt.belay then pfSeen s else s)

/-- The end of the window at the power controller: shedding begins where no fence notice has begun it (R155). -/
def windowShed (s : State) : State :=
  if s.vlt.confirming && !s.flt.belay && (vaultRuns s || s.vlt.state = .window) then shedOnce s else s

/-- WINDOW_EXPIRY (R23, R153, R155, R308): at the end of the window the fence falls, if it has not, and the shedding begins, if
it has not. -/
def execWindowExpiry (s : State) : Host.Outcome State Fault Refusal :=
  if s.vlt.state = .window && engineRuns s then .next (windowShed (fenceFailing 2 s)) else .next (windowShed s)

/-! ### Manifest and drain (R157 to R165, R568) -/

/-- MANIFEST_BUILD (R157): once every staging epoch is resolved, the fence manifest is the next epoch. -/
def execManifestBuild (s : State) : Host.Outcome State Fault Refusal :=
  if engineRuns s && s.vlt.state = .fenced && s.stg.epochs.isEmpty && s.drain.manifest.isSome then .next (scheduleManifest s) else .next s

/-- Listed granules in drain order: by priority, then bolt number, then index (R37). -/
def drainOrder (l : List Nat) (s : State) : List Nat :=
  (drainBolts s).flatMap (fun n => l.filter (fun g => boltOf s g = n))

/-- The granules of one drain epoch from the front of a list, 64 MiB of copies at most (R38, R115), up to one that is PENDING
(R93). -/
def drainSegment (s : State) : Nat → List Nat → List Nat
  | _, [] => []
  | copies, g :: t =>
    let c := if isDuplex s (boltOf s g) then 2 else 1
    if 16384 < copies + c || (entryOf g s).pending then [] else g :: drainSegment s (copies + c) t

/-- The engine asks for the snapshot of the trouble log (R165). -/
def askSnapshot (s : State) : State :=
  sendFrame .engine .logRequest { s with drain := { s.drain with stage := .asked, snapshotDone := false } }

/-- One drain epoch is selected and closed (R38, R161, R162). A granule that an uncorrectable line has made DIRTY again during
its copy keeps its older knotted copy (R94), so that the drain takes it again, before the granules still left, once its epoch
is resolved (R25, R93; DEDUCED, log entry 49). -/
def selectDrain (reads : CopyReads) (s : State) : State :=
  let seg := drainSegment s 0 s.drain.left
  if seg.isEmpty then s
  else
    let s := openNew .drain s
    match openEpoch s with
    | none => s
    | some e =>
      let s := seg.foldl (fun s g => takeGranule e.num .drain reads g s) s
      let last := seg.getLast?.map (fun g => (boltOf s g, g))
      let s := closeEpoch e.num (modEpoch e.num (fun e => { e with last := last }) s)
      let again := seg.filter (fun g => (entryOf g s).st = .dirty)
      let s := { s with drain := { s.drain with left := again ++ s.drain.left.drop seg.length } }
      if s.drain.left.isEmpty && s.drain.stage = .none then askSnapshot s else s

/-- The entries of the poison list, by line (R102, R303). -/
def poisonRuns (src base : Nat) (m : BitVec 64) : Nat → Nat → List PoisonEntry
  | 0, _ => []
  | n + 1, run =>
    let i := 63 - n
    if m.getLsbD i then
      if n = 0 || !m.getLsbD (i + 1) then { line := base + i - run, lines := run + 1, source := src } :: poisonRuns src base m n 0
      else poisonRuns src base m n (run + 1)
    else poisonRuns src base m n 0

/-- The poison list's entries (R102). -/
def poisonList (s : State) : List PoisonEntry :=
  s.cache.listed.flatMap (fun e =>
    poisonRuns 0 (64 * e.1) e.2.internal 64 0 ++ poisonRuns 1 (64 * e.1) e.2.external 64 0 ++
    poisonRuns 2 (64 * e.1) e.2.unknown 64 0)

/-- A slice of the system bolt (R200). -/
def sysUnit (c ordinal : Nat) (d : Payload) : NandUnit :=
  { index := classIndex c ordinal, bolt := 63, kind := .metadata, dup := true, data := d }

/-- Slices of the region header, bolt table, trouble-log mirror and poison list, in the order of R166 (R82, R213). -/
def systemSlices (s : State) : List NandUnit :=
  [sysUnit 2 0 (.header s.cache.header), sysUnit 2 1 (.boltTable s.cache.boltTable)] ++
  (List.range 32).map (fun i => sysUnit 3 i (.log ((s.drain.mirror.drop (128 * i)).take 128))) ++
  (List.range 256).map (fun i => sysUnit 4 i (.poisonList (((poisonList s).drop (256 * i)).take 256)))

/-- Slices of the map checkpoint (R212). -/
def checkpointSlices (s : State) : List NandUnit := (List.range (capGranules s / 512)).map (fun j => ckptUnit j s)

/-- Whether a seal writes its system bolt (R317). -/
def sealing (s : State) : Bool := s.mbx.phase = .sealing

/-- The seal of R317 begins: the residual is 0, the epochs of its image follow as staging epochs. -/
def beginSeal (s : State) : State :=
  scheduleManifest { s with
    mbx := { s.mbx with phase := .sealing, sealBroken := false }, stg := { s.stg with ckpt := none },
    drain := { manifest := some [], mirror := s.drain.mirror } }

/-- A slice of the checkpoint as the location map reads now (R103, R212). -/
def reread (s : State) (u : NandUnit) : NandUnit :=
  match u.data with | .checkpoint _ => ckptUnit (u.index - classIndex 1 0) s | _ => u

/-- An epoch of the system bolt is selected: up to 64 MiB of the slices left, read from DDR5; the last of the checkpoint's is a
CKPT_END epoch, and BASE is taken as its first slices are read (R103, R166, R208, R212). -/
def selectSystem (reads : CopyReads) (s : State) : State :=
  let s := regionReads reads s
  let us := (s.drain.sysLeft.take 8192).map (reread s)
  let rest := s.drain.sysLeft.drop 8192
  let s := openNew (if rest.isEmpty && s.drain.stage = .checkpoint then .ckptEnd else .system) s
  match openEpoch s with
  | none => s
  | some e =>
    let start (c : CkptRun) : CkptRun := if c.first.isNone then { c with first := some e.num, base := s.stg.lastKnotEpoch, since := 0 } else c
    let s := { s with
      drain := { s.drain with sysLeft := rest },
      stg := { s.stg with ckpt := if s.drain.stage = .checkpoint then s.stg.ckpt.map start else s.stg.ckpt } }
    closeEpoch e.num (modEpoch e.num (fun e => { e with todo := us, copies := 2 * us.length }) s)

/-- Whether the map checkpoint may begin: the slices before it are selected and resolved, and the user drain is over
(R166). -/
def checkpointDue (s : State) : Bool :=
  s.drain.stage = .system && s.drain.sysLeft.isEmpty && s.stg.epochs.isEmpty && (s.vlt.state = .knot || sealing s)

/-- DRAIN_SELECT (R161, R165, R166): the next epoch in drain order, then the system bolt. -/
def execDrainSelect (reads : CopyReads) (s : State) : Host.Outcome State Fault Refusal :=
  if !engineRuns s || !(s.vlt.state = .drain || s.vlt.state = .knot || sealing s) || decide (4 ≤ s.stg.epochs.length) then .next s
  else if !s.drain.left.isEmpty then .next (selectDrain reads s)
  else if !s.drain.sysLeft.isEmpty then .next (selectSystem reads s)
  else if checkpointDue s then
    .next (selectSystem reads { s with
      stg := { s.stg with ckpt := some { base := s.stg.lastKnotEpoch } },
      drain := { s.drain with stage := .checkpoint, sysLeft := checkpointSlices s } })
  else .next s

/-- LOG_SNAPSHOT_DONE (R165): the ring stands in the mirror, or the snapshot failed and the mirror is stale; the system
bolt follows. -/
def execLogSnapshotDone (ok : Bool) (s : State) : Host.Outcome State Fault Refusal :=
  if s.drain.stage = .asked then
    let s :=
      if ok then
        let d := { s.drain with mirror := ringSlots s }
        logEvent 0xB ((s.log.seq + 2 ^ 32 - 1) % 2 ^ 32) 0 { s with drain := d }
      else { s with vlt := { s.vlt with logStale := true } }
    .next { s with drain := { s.drain with stage := .system, snapshotDone := true, sysLeft := systemSlices s } }
  else .next s

/-! ### The final knot and after (R125, R167 to R170) -/

/-- A held restore begins at DISCOVER (R169, R234, R235). -/
def beginHeld (afterVault finalFail : Bool) (s : State) : State :=
  { s with restore := { s.restore with
      st := .discover, held := true, ready := false, afterVault := afterVault, finalFail := finalFail, completeTs := 0, bytes := 0, covered := 0 } }

/-- DDR5 is back at its normal rate. -/
def normalRate (s : State) : State :=
  { s with cache := { s.cache with ch := s.cache.ch.map (fun c => { c with vaultSet := false }) } }

/-- Return to service: the host domains are sequenced on and a held restore runs (R169). -/
def returnToService (failed : Bool) (s : State) : State :=
  let s := beginHeld true failed (beginSeq .host (normalRate (setVault .notArmed s)))
  { s with host := { s.host with training := true } }

/-- What follows the final knot (R71, R168). -/
def afterFinal (failed : Bool) (s : State) : State :=
  let own := s.vlt.cause = 1 || s.vlt.cause = 6 || s.vlt.cause = 7
  let s := vaultOver { s with restore := { s.restore with afterVault := true, finalFail := failed } }
  let due := s.warm.deferred.isSome
  let s := { s with warm := { s.warm with deferred := none } }
  if s.vin.good && own then (if due then beginWarm .chipset s else returnToService failed s)
  else if s.vin.good || setting s P.postVault = 1 then
    let s := enterHold s
    if due then beginWarm .chipset s else s
  else enterOff s

/-- The energy per byte observed in a vault against the table (R125): above it by more than 1/32, EPB_EXCEEDED is raised
and the steward raises the scale, which saturates at its 16 bits (R140). The bytes are those of VLT_DRAIN_BYTES: R125's copies
programmed in the vault leave open whether the fence manifest's pages are among them (DESIGN CHOICE, log entry 84). The table's value at the mean of T_now is rounded up to
1 pJ/B before it is compared and divided by, for which R125 gives no rounding (DESIGN CHOICE, log entry 60). -/
def observeEpb (s : State) : State :=
  let bytes := s.vlt.drainBytes
  let mj := s.gau.vaultMj - s.gau.fenceMj
  if decide (s.vlt.storeBytes < 2 ^ 30) || mj = 0 then s
  else
    let table := interpUp 1024 (tMean s) (epbTable s)
    if 32 * (mj * 10 ^ 9) * 1024 > 33 * (table * s.stg.epbScale) * bytes && decide (0 < table) then
      let scale := divUp (1024 * (mj * 10 ^ 9)) (table * bytes)
      let scale := Nat.min 65535 (Nat.max s.stg.epbScale scale)
      stewardWrite (.scale scale) (engineFault 7 0 { s with stg := { s.stg with epbScale := scale } })
    else s

/-- The timebase value that a seal returns is that of the knot's verification; R317's "at that knot" leaves open whether the record's own
TS is meant (DESIGN CHOICE, log entry 102). A seal ends with its final knot: Success, or Retry Required when a write came between (R317). In a capacity exercise
TAIL follows, the charger in reverse at exer_current, or RECHARGE (R379, R382). After a structural change the empty image
stands (R463). -/
def sealDone (e : Epoch) (s : State) : State :=
  let result := (e.num, engineNow s)
  let code : RetCode := if s.mbx.sealBroken then .retryRequired else .success
  let s := { s with
    mbx := { s.mbx with sealedKnot := true, writtenSince := s.mbx.sealBroken, bgResult := result } }
  let s :=
    if s.chg.phase ≠ .seal then s
    else if s.mbx.sealBroken then withAbort (endExercise 7) s
    else tailHeld (evaluate { s with chg := { s.chg with phase := .tail, st := .reverse, iout := 100 * setting s P.exerCurrent } })
  let s :=
    if s.warm.structural then { s with warm := { s.warm with structural := false }, restore := { s.restore with mapDone := true } }
    else s
  finishBackground code { s with drain := { mirror := s.drain.mirror } }

/-- The final knot verified (R167, R168). -/
def finalVerified (e : Epoch) (slot : Nat) (s : State) : State :=
  let s := resolve e slot s
  let s := writeRoots (writeDirectory s)
  if sealing s then sealDone e s
  else
    let s := { s with
      vlt := { s.vlt with endTs := engineNow s },
      mbx := { s.mbx with sealedKnot := true, writtenSince := false },
      drain := { mirror := s.drain.mirror } }
    afterFinal false (normalSetpoint (observeEpb s))

/-- A seal without its final knot: Retry Required; an exercise that sealed goes to RECHARGE (R317, R382). -/
def sealFailed (s : State) : State :=
  finishBackground .retryRequired (if s.chg.phase = .seal then withAbort (endExercise 7) s else s)

/-- A final knot's read-back failed: it is programmed again up to three times; then FINAL_KNOT_FAIL, and KNOT is left all
the same (R167). -/
def finalFailed (e : Epoch) (s : State) : State :=
  let n := s.drain.finalTries + 1
  let s := { s with drain := { s.drain with finalTries := n } }
  if n < 3 then modEpoch e.num (fun e => { e with phase := .filling }) s
  else
    let s := engineFault 13 0 (dropEpoch e.num s)
    if sealing s then sealFailed { s with drain := { mirror := s.drain.mirror } }
    else afterFinal true (normalSetpoint { s with drain := { mirror := s.drain.mirror } })

/-- An attempt at the final knot is programmed, every one with the record of the first; where a page of it fails the attempt has
failed, and the next is one after a failed program (R167, R205, R206). -/
def programFinal (e : Epoch) (ptr ptrB : Nat) (result resultB : NandResult) (s : State) : State :=
  let body := s.drain.finalBody.getD (knotBody e s)
  let s := { s with drain := { s.drain with finalBlocks := ptrBlock ptr :: ptrBlock ptrB :: s.drain.finalBlocks, finalBody := some body } }
  let s := programKnot e body ptr ptrB result resultB s
  if result = .pass && resultB = .pass then s
  else modEpoch e.num (fun e => { e with reprogram := true }) (finalFailed e s)

/-- FINAL_KNOT_PROGRAM (R167, R206): once every earlier epoch is resolved; a failed one is programmed again, for the same
epoch, in other erase blocks. -/
def execFinalKnotProgram (ptr ptrB : Nat) (result resultB : NandResult) (s : State) : Host.Outcome State Fault Refusal :=
  if !shuttlesRun s || !(s.vlt.state = .knot || sealing s) then .next s
  else match s.stg.epochs with
    | [] =>
      if s.drain.stage = .checkpoint && s.drain.sysLeft.isEmpty && s.drain.ckptKnot.isSome &&
          recordPages s.stg.nextEpoch ptr ptrB [] s then
        let s := openNew .final s
        match openEpoch s with
        | some e =>
          let s := closeEpoch e.num { s with drain := { s.drain with finalBlocks := [], finalBody := none, stage := .final } }
          (match s.stg.epochs.find? (fun x => x.num = e.num) with
           | some e => .next (programFinal e ptr ptrB result resultB s)
           | none => .next s)
        | none => .next s
      else .next s
    | e :: _ =>
      if e.kind = .final && !knotInProgram e && recordPages e.num ptr ptrB s.drain.finalBlocks s then
        .next (programFinal e ptr ptrB result resultB s)
      else .next s

/-! ### Read-backs (R118 to R120, R160, R212, R568) -/

/-- What follows an epoch's verified knot, by its kind. -/
def afterKnot (e : Epoch) (slot : Nat) (s : State) : State :=
  match e.kind with
  | .staging | .gc | .system => startCkpt s
  | .ckptEnd =>
    let since := match s.stg.ckpt with | some c => c.since | none => 0
    let s := { s with stg := { s.stg with ckpt := none, sinceBase := since } }
    if s.drain.stage = .checkpoint then { s with drain := { s.drain with ckptKnot := some slot } } else writeDirectory s
  | .manifest =>
    let left := drainOrder (s.drain.manifest.getD []) s
    let s := { s with drain := { s.drain with manifestKnot := some slot, left := left } }
    if sealing s then askSnapshot s
    else
      let s := sampleSince 1 0 s.vlt.confirmTs (setVault .drain s)
      if left.isEmpty then setVault .knot (askSnapshot s) else s
  | .drain =>
    if s.drain.left.isEmpty && !(s.stg.epochs.any (fun x => x.kind = .drain)) && s.vlt.state = .drain then setVault .knot s else s
  | .final => s

/-- What follows the verified knot of an epoch that a seal or a checkpoint left: a final knot stays valid and has its
directory and root records, and a checkpoint that is complete its directory record (R214, R216, R317, R319). -/
def afterStray (e : Epoch) (s : State) : State :=
  match e.kind with
  | .final => writeRoots (writeDirectory { s with mbx := { s.mbx with writtenSince := s.mbx.sealBroken } })
  | .ckptEnd => writeDirectory s
  | _ => s

/-- An epoch's knot has verified (R118, R167, R317, R319). -/
def knotVerified (e : Epoch) (slot : Nat) (s : State) : State :=
  if e.stray then afterStray e (resolve e slot s)
  else if e.kind = .final then finalVerified e slot s
  else afterKnot e slot (resolve e slot s)

/-- An epoch's knot has not verified (R119, R167, R319). -/
def knotFailed (e : Epoch) (s : State) : State :=
  if e.kind = .final && !e.stray then finalFailed e s else failKnot e 2 s

/-- What a read-back found of the copies of a record stands: a copy that did not decode is not read later either (R194,
R210; DEDUCED, log entry 54). -/
def spoilKnot (slot : Nat) (a b : CopyRead) (s : State) : State :=
  { s with nand := { s.nand with knots := s.nand.knots.map (fun k =>
      if k.slot = slot then { k with readA := k.readA && slotAccepted slot a s, readB := k.readB && slotAccepted k.slotB b s } else k) } }

/-- The same of a void knot's newest attempt. -/
def spoilVoid (epoch slot : Nat) (a b : CopyRead) (s : State) : State :=
  { s with nand := { s.nand with voids := s.nand.voids.map (fun v =>
      if v.epoch = epoch && v.slot = slot then
        { v with readA := v.readA && slotAccepted slot a s, readB := v.readB && slotAccepted v.slotB b s } else v) } }

/-- Both copies of a record are read back; errors count on their channels (R194, R204). -/
def readBack (slot other : Nat) (a b : CopyRead) (s : State) : State := countCopyRead other b (countCopyRead slot a s)

/-- Whether a read-back of the record at two slots verifies: both copies read back with valid payloads (R204). A header that is not
valid makes its copy one that does not decode. -/
def verifies (slot other : Nat) (a b : CopyRead) (s : State) : Bool := slotAccepted slot a s && slotAccepted other b s

/-- A void knot's read-back: written again in other erase blocks, up to three attempts, then VOID_FAIL (R120, R204). A void
knot for which there was no place has failed. -/
def voidReadback (epoch : Nat) (a b : CopyRead) (s : State) : State :=
  match s.stg.voidReads.find? (fun r => r.epoch = epoch) with
  | none => s
  | some r =>
    let drop (s : State) : State := { s with stg := { s.stg with voidReads := s.stg.voidReads.filter (fun x => x.epoch ≠ epoch) } }
    let placed := s.nand.voids.find? (fun v => v.epoch = epoch && r.blocks.contains (ptrBlock (v.slot / 4)))
    let s := match placed with
      | some v => spoilVoid epoch v.slot a b (readBack v.slot v.slotB a b s)
      | none => s
    if placed.any (fun v => verifies v.slot v.slotB a b s) then drop s
    else if r.tries < 3 then writeVoid { r with tries := r.tries + 1 } s
    else engineFault 11 0 (drop s)

/-- KNOT_READBACK (R118 to R120, R167, R204, R568). -/
def execKnotReadback (epoch : Nat) (a b : CopyRead) (s : State) : Host.Outcome State Fault Refusal :=
  if !engineRuns s then .next s
  else match s.stg.epochs with
  | e :: _ =>
    match e.phase with
    | .knotProgrammed slot =>
      if e.num = epoch then
        let other := match s.nand.knots.find? (fun k => k.slot = slot) with | some k => k.slotB | none => slot
        let s := spoilKnot slot a b (readBack slot other a b s)
        .next (if verifies slot other a b s then knotVerified e slot s else knotFailed e s)
      else .next (voidReadback epoch a b s)
    | .filling => .next (voidReadback epoch a b s)
  | [] => .next (voidReadback epoch a b s)

/-- KNOT_TIMEOUT (R119): an epoch closed and fully programmed whose knot record is not verified in knot_timeout is voided; a
final knot in program counts as a failed attempt (R167). -/
def execKnotTimeout (epoch : Nat) (s : State) : Host.Outcome State Fault Refusal :=
  if !engineRuns s then .next s
  else match s.stg.epochs with
  | e :: _ =>
    if e.num = epoch && e.closed.isSome && e.todo.isEmpty then
      if e.kind = .final && !knotInProgram e then .next s else .next (knotFailed e s)
    else .next s
  | [] => .next s

/-! ### HOLD and OFF (R170, R171, R359) -/

/-- HOLD_MAX_EXPIRY (R170): HOLD ends in OFF; hold_max 0 sets no limit. -/
def execHoldMaxExpiry (s : State) : Host.Outcome State Fault Refusal :=
  .next (if s.vlt.state = .hold && setting s P.holdMax ≠ 0 && s.warm.kind = .none then enterOff s else s)

/-- STORE_FLOOR_REACHED (R170, R171, R329, R359): HOLD goes to OFF; in OFF the hold-up switch opens. -/
def execStoreFloorReached (s : State) : Host.Outcome State Fault Refusal :=
  if !s.pwr.keeper then .next s
  else
    let s := { s with cell := { s.cell with floor := true } }
    if s.vlt.state = .hold && s.warm.kind = .none then .next (enterOff s)
    else if s.vlt.state = .off then .next (setHoldup .opened s)
    else .next s

end Sys2Proof.Machine
end

