-- ==== Sys2Proof/Machine/Restore.lean ====
section
/-! DEFINITION. Restore: the newest knot, classification, replay, loss poisoning, restore-ready, background loads; and
NAND discovery (R39 to R43, R188 to R190, R210, R215, R218, R222, R234 to R260). -/

namespace Sys2Proof.Machine

/-! ### NAND discovery (R188 to R190, R221, R222) -/

/-- A listed block's record as discovery rebuilds it from the root record's value: by the header of page 0, or as found
erased; a block whose erase was cut short takes no program before it is erased again, and both erases count (R223). -/
def rebuildBlock (s : State) (root b : Nat) (x : Block) : Block :=
  match tfind s.nand.pages (b * 4096) with
  | some p => { x with pe := Nat.max root p.pe }
  | none =>
    if x.next = 0 then { x with pe := satAdd 16777215 root 1 }
    else { x with pe := satAdd 16777215 root 1, erased := false, next := 4096 }

/-- The blocks whose page 0 is found neither valid nor erased hold no page (R223). -/
def cutBlocks (t : Nat) (cut : List Nat) (s : State) : State :=
  let bs := cut.map (fun b => blockKey t b)
  let s := { s with nand := { s.nand with pages := s.nand.pages.filter (fun e => !bs.contains (e.1 / 4096)) } }
  bs.foldl (fun s b => modBlock b (fun x => { x with erased := false, next := 4096 }) s) s

/-- Rebuilds the counters of a target's blocks from its root record, and those of the blocks that no record lists, all of them
erased (R219, R223). -/
def rebuildCounters (t : Nat) (r : RootRec) (s : State) : State :=
  let s := { s with nand := { s.nand with blocks := s.nand.blocks.map (fun e =>
    (e.1, if blockTarget e.1 = t then rebuildBlock s (tget r.fresh r.pe e.1) e.1 e.2 else e.2)) } }
  modTarget t (fun x => { x with fresh := satAdd 16777215 r.fresh 1 }) s

/-- Steps 1 and 2 of R189 on a target; method 2 enters pSLC after Reset (R187, R193, R451). -/
def identifyOps (d : Discovered) (s : State) : State :=
  let t := d.target
  let s := onfi t .reset s
  let s := match descAt t s with
    | some x => if x.pslcMethod = 2 then onfi t (.setFeatures (.address x.pslcFa) x.pslcP) s else s
    | none => s
  onfi t .readParameterPage (onfi t .readId s)

/-- Steps 4 and 5 of R189 on a target that has passed step 3; the values of the timing mode and of the data interface are the
draft's RATE and MODE (R187, R189, R451). -/
def interfaceOps (d : Discovered) (s : State) : State :=
  let t := d.target
  match s.drf.active, descAt t s with
  | some a, some x =>
    let s := onfi t (.setFeatures .dataInterface a.nand.mode) (onfi t (.setFeatures .timingMode a.nand.rate) s)
    let s := onfi t (.setFeatures .termination x.odt) (onfi t (.setFeatures .driveStrength x.drive) s)
    let s := onfi t .zqCalibrationLong s
    if a.nand.mode = 2 then onfi t .writeDqTraining (onfi t .readDqTraining (onfi t .dutyCycleCorrection s)) else s
  | _, _ => s

/-- The conditions of R188 on what a target's parameter page offers. -/
def usable (d : Discovered) : Bool :=
  d.paramCrc && d.dataBytes = 16384 && decide (1088 ≤ d.spareBytes) && decide (1 ≤ d.luns) && decide (d.luns ≤ 4) &&
  decide (1 ≤ d.planes) && decide (d.planes ≤ 8) && decide (d.blocks ≤ 65535) && decide (d.pages ≤ 4096)

/-- Whether a discovered target passes step 3 of R189: it is usable, and its identification is the draft's (R188, R189). -/
def identified (d : Discovered) (s : State) : Bool :=
  usable d && (match descAt d.target s with | some x => x.mfr = d.mfr && x.device = d.device | none => false)

/-- Whether a target has been written a root record: then this is not its first discovery (R216, R221). -/
def everRooted (t : Nat) (s : State) : Bool := (newestRoot t [] s).isSome

/-- Whether step 6 of R189 passes: a root record reads, or none was ever written, and there are two good blocks for one
(R216, R562); before the first the factory's bad blocks decide. -/
def hasRoot (d : Discovered) (s : State) : Bool :=
  let root := newestRoot d.target d.rootBad s
  let bad : List Nat := match root with | some x => x.2.bbt.map (·.2) | none => d.factoryBad
  (root.isSome || !everRooted d.target s) && decide (2 ≤ ((List.range 8).filter (fun b => !bad.contains b)).length)

/-- Step 6 of R189: the bad-block table and the counters come from the root record; at a first discovery the factory's bad
blocks are entered, and more than 512 of them retire the target for good (R216, R221 to R223). Its first root record is written at
restore-ready, since nothing is written to NAND before (R237). -/
def loadTarget (d : Discovered) (s : State) : State :=
  let t := d.target
  match newestRoot t d.rootBad s with
  | some x => rebuildCounters t x.2 (cutBlocks t d.cut (modTarget t (fun y => { y with bbt := x.2.bbt }) s))
  | none =>
    let s := modTarget t (fun y => { y with bbt := (d.factoryBad.take 512).map (fun b => (0, b)) }) s
    if 512 < d.factoryBad.length then engineFault 21 t (modTarget t (fun y => { y with retired := true, permanent := true, cause := 2 }) s) else s

/-- The codewords of root records that are found uncorrectable count on their channel (R194, R216). -/
def countBadRoots (d : Discovered) (s : State) : State :=
  let s := ((s.nand.pages.filter (fun e => e.2.type = 6 && ptrTarget e.1 = d.target && d.rootBad.contains (ptrBlock e.1 % 2 ^ 21))).map (·.1)).foldl
    (fun s p => retryReads p (onfi d.target (.pageRead p) s)) s
  modChannel (d.target / 8) (fun c => { c with ue := satAdd (2 ^ 24 - 1) c.ue d.rootUe }) s

/-- A target fails discovery: it is retired for the boot, or stays retired for good, and NAND_DISCOVERY is raised (R190,
R222). -/
def failTarget (t : Nat) (s : State) : State :=
  engineFault 20 t (modTarget t (fun x => { x with ready := false, retired := true, cause := if x.permanent then 2 else 1 }) s)

/-- Takes in one target's discovery, step by step: a step that fails ends it (R188 to R190, R222, R562). Its Read ID is kept; a
target that is ready stays so. -/
def discoverTarget (s : State) (d : Discovered) : State :=
  if !declared d.target s || (targetAt d.target s).ready then s
  else
    let s := modTarget d.target (fun x => { x with mfr := d.mfr, device := d.device, idle := true }) (identifyOps d s)
    if !identified d s then failTarget d.target s
    else
    let s := interfaceOps d s
    if !d.trained then failTarget d.target s
    else
    let s := countBadRoots d s
    if hasRoot d s then
      modTarget d.target (fun x => { x with ready := true, retired := x.permanent, cause := if x.permanent then 2 else 0 })
        (loadTarget d s)
    else failTarget d.target s

/-- NAND_DISCOVERY_DONE (R188 to R190): a channel's declared targets have been initialised, those apart that did not answer; a
channel all of whose targets fail is retired for the boot. -/
def execNandDiscoveryDone (channel : Nat) (found : List Discovered) (s : State) : Host.Outcome State Fault Refusal :=
  if !s.warm.engineUp || !s.drf.engineReady then .next s
  else
    let ts := ((List.range 8).map (fun e => 8 * channel + e)).filter (fun t => declared t s)
    let s := (found.filter (fun d => d.target / 8 = channel)).foldl discoverTarget s
    let s := (ts.filter (fun t => !found.any (fun d => d.target = t))).foldl (fun s t => failTarget t s) s
    let some' := ts.any (fun t => (targetAt t s).ready && !(targetAt t s).retired)
    let s := modChannel channel (fun c =>
      { c with trained := some', retired := !ts.isEmpty && !some', wpAsserted := c.wpAsserted && s.flt.belay }) s
    .next (noChannel (spareCheck (retireBlocks s)))

/-! ### The newest knot (R210, R239 to R242) -/

/-- Whether a knot record is accepted: a copy of it on a working target reads and decrypts under the present key, and no void
knot names its epoch (R210). -/
def accepted (k : KnotRec) (s : State) : Bool := knotReads k s && !isVoided k.epoch s

/-- The knot record of a list with the highest epoch. -/
def newestOf (l : List KnotRec) : Option KnotRec :=
  l.foldl (fun m k => match m with
    | none => some k
    | some x => if x.epoch < k.epoch then some k else some x) none

/-- Whether the search reads a block: it is good and no root block (R240). -/
def searched (b : Nat) (s : State) : Bool :=
  targetWorks (blockTarget b) s && !(rootBlocks (blockTarget b) s).contains b &&
  !((targetAt (blockTarget b) s).bbt.any (fun e => e.2 = b % 2 ^ 21))

/-- Whether a copy of an accepted knot record lies where the search reads (R240). -/
def found (k : KnotRec) (s : State) : Bool :=
  (searched (ptrBlock (k.slot / 4)) s && copyReads k.slot k.readA s) || (searched (ptrBlock (k.slotB / 4)) s && copyReads k.slotB k.readB s)

/-- The accepted knot record with the highest epoch (R240). -/
def newestKnot (s : State) : Option KnotRec := newestOf (s.nand.knots.filter (fun k => accepted k s && found k s))

/-- The search of R240 from an accepted record: that record, or one beyond it that the search finds. -/
def newestFrom (k : KnotRec) (s : State) : Option KnotRec :=
  newestOf (s.nand.knots.filter (fun x => accepted x s && (x.slot = k.slot || found x s) && decide (k.epoch ≤ x.epoch)))

/-- The final knot that the newest directory record names, where it is accepted (R239). -/
def directoryKnot (s : State) : Option KnotRec :=
  match newestDir s with
  | some d => s.nand.knots.find? (fun k => some k.slot = d.finalSlot && k.epoch = d.finalEpoch && accepted k s)
  | none => none

/-- The newest knot by the first source that yields an accepted record: the knot pointer, the final knot of the directory record, or
the scan of the whole store, with the forward search of R240 from it (R66, R239). The search from the highest epoch that the
directory names finds what the search from its final knot does. -/
def searchFrom (ptr : Option (Nat × Nat)) (s : State) : Option KnotRec :=
  match ptr.bind (fun p => s.nand.knots.find? (fun k => k.slot = p.2 && k.epoch = p.1 && accepted k s)) with
  | some k => newestFrom k s
  | none => match directoryKnot s with
    | some k => newestFrom k s
    | none => newestKnot s

/-- The highest EPOCH of any valid header that the search reads, void knots among them (R240). -/
def highestEpoch (s : State) : Nat :=
  ((s.nand.pages.filter (fun p => searched (ptrBlock p.1) s && !s.nand.badHeaders.contains p.1)).map (fun p => p.2.epoch)).foldl Nat.max 0

/-- Whether restore may move: the engine runs, the vault state is not armed, and no reset has still to reach step 9, in
which a held restore runs (R234, R236). -/
def restoreRuns (s : State) : Bool :=
  engineRuns s && s.vlt.state = .notArmed && (s.warm.step = 0 || s.warm.step = 9)

/-- The restore state DISCOVER with the vault key not loaded, as at a boot; no restore runs in a life-cycle transition before its step 8
(R237, R239, R492). -/
def mayDiscover (s : State) : Bool :=
  (s.restore.st = .idle || s.restore.st = .discover) && s.drf.active.isSome && s.drf.engineReady &&
  s.lcs.st ≠ .retired && !s.cache.mismatch && restoreRuns s && !s.flt.belay && (s.lcs.step = 0 || s.lcs.step = 8)

/-- The blocks of a target that an erase of the whole store spares: root blocks, those in the bad-block table, which no search reads,
and worn ones, which are erased no more (R216, R220, R240; DEDUCED, log entry 86). -/
def sparedBlock (b : Nat) (s : State) : Bool :=
  (rootBlocks (blockTarget b) s).contains b || (targetAt (blockTarget b) s).bbt.any (fun e => e.2 = b % 2 ^ 21) || (blockAt b s).worn

/-- Erases every other block of a working target, one Block Erase each, and counts the erases: listed blocks by their own counter,
the others by their common one, from which the spared ones are first told apart; a root record follows every 64 erases (R193, R216,
R219, R220). -/
def eraseTarget (t : Nat) (s : State) : State :=
  match descAt t s with
  | none => s
  | some d =>
    let all := (descBlocks d).map (fun b => blockKey t b)
    let erased := all.filter (fun b => !sparedBlock b s)
    let apart := (rootBlocks t s ++ (targetAt t s).bbt.map (fun e => blockKey t e.2)).filter (fun b => (tfind s.nand.blocks b).isNone)
    let s := apart.foldl (fun s b => modBlock b id s) s
    let s := erased.foldl (fun s b => onfiPslc t (.blockErase b) s) s
    let fresh := if wornFresh t s then (targetAt t s).fresh else satAdd 16777215 (targetAt t s).fresh 1
    let wear (e : Nat × Block) : Nat × Block :=
      (e.1, if blockTarget e.1 ≠ t || sparedBlock e.1 s then e.2
        else if e.2.failed || e.2.worn then { e.2 with pe := satAdd 16777215 e.2.pe 1 } else erasedBlock e.2 s)
    let s := { s with nand := { s.nand with
      pages := s.nand.pages.filter (fun e => ptrTarget e.1 ≠ t || sparedBlock (e.1 / 4096) s), blocks := s.nand.blocks.map wear } }
    let n := (targetAt t s).erases + erased.length
    let s := modTarget t (fun x => { x with fresh := fresh, erases := n % 64 }) s
    (List.range (n / 64)).foldl (fun s _ => writeRoot t s) s

/-- Every working target's blocks are erased, its root blocks apart (R215, R219). -/
def eraseTargets (s : State) : State :=
  (List.range 96).foldl (fun s t => if targetWorks t s then eraseTarget t s else s) s

/-- Epochs whose pages no reader will accept, since their key is gone or they are erased, are never knotted (R210, R318). No void knot is
written for them: R29 names no such cause (DESIGN CHOICE, log entry 104). -/
def forgetEpochs (s : State) : State :=
  { s with stg := { s.stg with epochs := [], voidReads := [], begun := [], ckpt := none } }

/-- Every non-root block of the working targets is erased, and the store holds no image; a target retired for the boot keeps what it
holds (R190, R215, R318). Worn and failed blocks hold no live copy by then: they enter the bad-block table first (R205, R220). -/
def eraseStore (s : State) : State :=
  let s := eraseTargets (enterRetired (forgetEpochs s))
  retireBlocks (dropErased { s with
    nand := { s.nand with unowned := false },
    mbx := { s.mbx with sealedKnot := false } })

/-- Sanitize is reported as complete (R319). -/
def reportSanitize (s : State) : State :=
  { s with mbx := { s.mbx with sanitizeOwed := false, bgOpcode := 0x4400, bgCode := .success, bgPercent := 100 } }

/-- An interrupted Sanitize is finished before restore-ready and reported as complete (R319). -/
def finishSanitize (s : State) : State :=
  if s.mbx.sanitizeOwed then reportSanitize (eraseStore s) else s

/-- RESTORE_DISCOVER (R69, R238, R239, R264): the vault key is unwrapped where one is stored, the engine fitted can unwrap it and
it reads intact; without it restore stays in DISCOVER. -/
def execRestoreDiscover (intact : Bool) (s : State) : Host.Outcome State Fault Refusal :=
  if !mayDiscover s then .next s
  else
    let s := { s with restore := { s.restore with st := .discover, completeTs := 0, bytes := 0, covered := 0 } }
    if s.restore.keyOk then .next s
    else if intact && keyUnwraps s then .next { s with restore := { s.restore with keyOk := true } }
    else .next (engineFault 16 0 s)

/-! ### Classification (R40, R243, R244) -/

/-- The last knot of kind MANIFEST, FINAL, STAGING or GC on a chain, newest first. -/
def firstMarked : List KnotRec → Option KnotRec
  | [] => none
  | k :: t => if k.kind = .manifest || k.kind = .final || k.kind = .staging || k.kind = .gc then some k else firstMarked t

/-- The slot that a FINAL record names for its manifest, and for its checkpoint (R208). -/
def finalSlots (k : KnotRec) : Nat × Nat := match k.kindData with | .final m c _ _ _ _ _ => (m, c) | _ => (0, 0)

/-- Granules that a manifest's knot record says are listed. -/
def listedOf (k : KnotRec) : Nat := match k.kindData with | .manifest _ _ _ _ _ n _ => n | _ => 0

/-- The knot on the chain at a slot, or the newest of a kind (R244). -/
def namedOr (chain : List KnotRec) (slot : Nat) (kind : KnotKind) : Option KnotRec :=
  match chain.find? (fun k => k.slot = slot && k.kind = kind) with
  | some k => some k
  | none => chain.find? (fun k => k.kind = kind)

/-- The pages of an epoch with a valid header, as its knot record lists them, copies A before copies B (R197). -/
def knotPages (k : KnotRec) (s : State) : List (Nat × Page) :=
  let l := (k.pages.filter (fun q => !s.nand.badHeaders.contains q)).filterMap (fun q => (tfind s.nand.pages q).map (fun p => (q, p)))
  l.filter (fun p => !p.2.copyB) ++ l.filter (fun p => p.2.copyB)

/-- The units on the pages of an epoch, each once: a unit that reads from copy A or from copy B, and one that does not, as none
(R196, R245). -/
def readUnits (k : KnotRec) (s : State) : List (NandUnit × Bool) :=
  (k.pages.filterMap (fun q => (tfind s.nand.pages q).map (fun p => (q, p)))).flatMap (fun qp =>
    if qp.2.copyB then []
    else qp.2.units.zipIdx.map (fun u =>
      (u.1, copyReads (slotAddr qp.1 u.2) true s || qp.2.partner.any (fun b => copyReads (slotAddr b u.2) true s))))

/-- The units of an epoch that read. -/
def goodUnits (k : KnotRec) (s : State) : List NandUnit := ((readUnits k s).filter (·.2)).map (·.1)

/-- The checkpoint that restore loads (R244). -/
def restoreCkpt (chain : List KnotRec) : Option KnotRec :=
  match chain with
  | k :: _ => if k.kind = .final then namedOr chain (finalSlots k).2 .ckptEnd else chain.find? (fun x => x.kind = .ckptEnd)
  | [] => none

/-- The class 1 slots of a checkpoint that read, by ordinal (R212, R245). -/
def ckptSlots (chain : List KnotRec) (s : State) : List (Nat × Table Loc) :=
  match restoreCkpt chain with
  | none => []
  | some c =>
    (chain.filter (fun k => decide (ckptFirst c ≤ k.epoch) && decide (k.epoch ≤ c.epoch))).reverse.flatMap (fun k =>
      (goodUnits k s).filterMap (fun u => match u.data with
        | .checkpoint l => some (u.index % 2 ^ 22, l) | _ => none))

/-- The ordinals of the checkpoint's class 1 slots neither copy of which reads (R245). -/
def lostSlots (chain : List KnotRec) (s : State) : List Nat :=
  match restoreCkpt chain with
  | none => []
  | some c =>
    (chain.filter (fun k => decide (ckptFirst c ≤ k.epoch) && decide (k.epoch ≤ c.epoch))).reverse.flatMap (fun k =>
      ((readUnits k s).filter (fun u => !u.2)).filterMap (fun u => match u.1.data with
        | .checkpoint _ => some (u.1.index % 2 ^ 22) | _ => none))

/-- Whether the newest final knot's vault drained nothing and its checkpoint names no copy: rule 2 of R243. A slot that reads from
neither copy shows no such thing. -/
def emptied (chain : List KnotRec) (s : State) : Bool :=
  match chain with
  | k :: _ => k.kind = .final &&
      (match namedOr chain (finalSlots k).1 .manifest with | some m => listedOf m = 0 | none => false) &&
      (ckptSlots chain s).all (fun e => e.2.isEmpty) && (lostSlots chain s).isEmpty
  | [] => false

/-- The class of the image with its newest knot first (R243): 0 EMPTY, 1 SEALED, 2 PARTIAL, 3 UNSEALED. -/
def classOf (chain : List KnotRec) (s : State) : Nat :=
  match chain with
  | [] => 0
  | k :: _ =>
    if emptied chain s then 0
    else if k.kind = .final then 1
    else match firstMarked chain with
      | some m => if m.kind = .manifest then 2 else 3
      | none => 3

/-- HINT: the first source of R239 that yields an accepted knot record: the knot pointer, the directory record's final knot,
or else the scan. -/
def hintOf (s : State) : Nat :=
  let byPtr := match s.log.knotPtr with
    | some p => s.nand.knots.any (fun k => k.slot = p.2 && k.epoch = p.1 && accepted k s)
    | none => false
  if byPtr then 0 else if (directoryKnot s).isSome then 1 else 2

/-- Whether the store holds knot pages of which none decrypts under the present key (R242). -/
def foreignStore (s : State) : Bool :=
  s.nand.pages.any (fun p => p.2.type = 2 && targetWorks (ptrTarget p.1) s && !s.nand.badHeaders.contains p.1) && !(s.nand.knots.any (fun k => knotReads k s))

/-- Units of the staging and garbage-collection epochs knotted since the BASE of the newest complete checkpoint of the chain
from a knot (R212). -/
def knottedSince (newest : Option Nat) (s : State) : Nat :=
  let base := match newestCkpt s newest with | some k => ckptBase k | none => 0
  (((knottedChain s newest).filter (fun k => (k.kind = .staging || k.kind = .gc) && decide (base < k.epoch))).map (·.units)).sum

/-- Every block is to be erased before it is first used (R215). -/
def disown (t : Table Block) : Table Block := t.map (fun e => (e.1, { e.2 with owned := false }))

/-- The store is not this chipset's: no block of it is owned (R215). -/
def disownStore (s : State) : State := { s with nand := { s.nand with unowned := true, blocks := disown s.nand.blocks } }

/-- A NAND restore's search, and VERIFY with the classification (R237, R239 to R243); in MFG and at the boot that completes a wipe the store is
EMPTY without a search, for which R239 names no source: HINT shows 2 (R490, R492, R494; DESIGN CHOICE, log entry 86). -/
def searchStore (s : State) : State :=
  let none' := s.lcs.st = .mfg || s.lcs.wiped
  let newest : Option KnotRec := if none' then none else searchFrom s.log.knotPtr s
  let top := (match newest with | some k => k.epoch | none => 0)
  let foreign := !none' && newest.isNone && foreignStore s
  let hint := if none' then 2 else hintOf s
  let next := Nat.max (highestEpoch s) top + 1
  let slot := newest.map KnotRec.slot
  let fin : Bool := match newest with | some k => k.kind = .final | none => false
  let s := if newest.isNone then disownStore s else s
  let s := { s with
    stg := { s.stg with nextEpoch := next, lastKnot := slot, lastKnotEpoch := top, sinceBase := knottedSince slot s },
    mbx := { s.mbx with
      sealedKnot := fin, writtenSince := false },
    restore := { s.restore with
      held := false, afterVault := false, finalFail := false, hint := hint, foreign := foreign, epoch := top, newest := slot } }
  let cls := classOf (knottedChain s s.restore.newest) s
  let s := { s with restore := { s.restore with cls := cls, epoch := if cls = 0 then 0 else top, st := .verify, mapDone := false, mapKnown := false } }
  if foreign then engineFault 17 0 (postEvent 2 2 0xFF [] s) else s

/-- A held restore's search: the newest knot is the one that the knot pointer holds (R66, R235). -/
def searchHeld (s : State) : State :=
  let ptr := s.log.knotPtr
  { s with restore := { s.restore with
      hint := 3, epoch := (ptr.map (·.1)).getD 0, newest := ptr.map (·.2), st := .verify, mapDone := false, mapKnown := false,
      cls := if s.restore.afterVault then (if s.restore.finalFail then 2 else 1) else s.restore.imageState } }

/-- The slots of the pages read that hold a unit. -/
def readSlots (r : PageRead) (s : State) : List (Nat × CopyRead) :=
  (r.slots.map (fun e => (slotAddr r.page e.1, e.2))).filter (fun e => (unitAt e.1 s).isSome && targetReads (ptrTarget r.page) s)

/-- Takes down what the reads of a restore met: a page whose header is not valid is ignored (R197), a slot whose payload or record is
not valid counts as not read (R196, R210), and decodings that end uncorrectable count on their channels (R194). -/
def noteReads (reads : List PageRead) (s : State) : State :=
  let valid (r : PageRead) : Bool := headerValid (r.header.map (·.toNat))
  let headers := (reads.filter (fun r => !valid r)).map (·.page)
  let slots := ((reads.filter valid).flatMap (fun r => readSlots r s))
  let bad := (slots.filter (fun e => !slotAccepted e.1 e.2 s)).map (·.1)
  let s := { s with nand := { s.nand with badHeaders := s.nand.badHeaders ++ headers, badSlots := s.nand.badSlots ++ bad } }
  slots.foldl (fun s e => countCopyRead e.1 e.2 s) s

/-- NEWEST_KNOT_FOUND (R194, R196, R197, R210, R237, R239 to R243): the search is complete and VERIFY begins; the operand lists the
pages that did not read as they were programmed. A Sanitize that is owed is finished first, once discovery has shown the targets that
it erases (R319). -/
def execNewestKnotFound (reads : List PageRead) (s : State) : Host.Outcome State Fault Refusal :=
  if s.restore.st = .discover && s.restore.keyOk && restoreRuns s && (discoveryDone s || !s.mbx.sanitizeOwed) then
    let s := finishSanitize s
    if s.restore.held then .next (searchHeld s)
    else if discoveryDone s then
      .next (searchStore (noteReads reads { s with nand := { s.nand with badHeaders := [], badSlots := [] } }))
    else .next s
  else .next s

/-- The class is known: MAPLOAD (R237). -/
def leaveVerify (s : State) : State :=
  if s.restore.st = .verify then { s with restore := { s.restore with st := .mapload } } else s

/-! ### MAPLOAD (R41 to R43, R218, R245 to R250) -/

/-- Applies one slot of a knotted page in a reader (R218). -/
def replayUnit (ptr : Nat) (p : Page) (loc : Table Loc) (iu : NandUnit × Nat) : Table Loc :=
  let u := iu.1
  let a := slotAddr ptr iu.2
  if !isGranule u.index then loc
  else if u.kind = .gc && (tfind loc u.index).map (·.a) ≠ u.source && !p.copyB then loc
  else if p.copyB then
    match tfind loc u.index with
    | some l =>
      if some l.a = p.partner.map (fun q => slotAddr q iu.2) then
        tins u.index { l with b := some (ptrChannel ptr, ptr / 4096 % 65536) } loc
      else loc
    | none => loc
  else tins u.index { a := a } loc

/-- Replays one knotted epoch. -/
def replayKnot (s : State) (loc : Table Loc) (k : KnotRec) : Table Loc :=
  (knotPages k s).foldl (fun loc p => p.2.units.zipIdx.foldl (replayUnit p.1 p.2) loc) loc

/-- Granules of which replay applies a copy of a knotted epoch: a copy A of kinds 0 and 1 (R218). -/
def knotGranules (s : State) (k : KnotRec) : List Nat :=
  (knotPages k s).flatMap (fun p =>
    if p.2.copyB then [] else (p.2.units.filter (fun u => isGranule u.index && u.kind ≠ .gc)).map (·.index))

/-- The location map as replay leaves it, and the granules of unreadable checkpoint slots that replay did not set
(R218, R245). -/
def rebuildMap (chain : List KnotRec) (s : State) : Table Loc × List Nat :=
  let slots := ckptSlots chain s
  let base := match restoreCkpt chain with | some c => ckptBase c | none => 0
  let loaded := slots.foldl (fun t e =>
    e.2.foldl (fun t x => tins x.1 x.2 t) t) ([] : Table Loc)
  let loc := ((chain.filter (fun k => decide (base < k.epoch))).reverse).foldl (replayKnot s) loaded
  let bad := (lostSlots chain s).flatMap (fun j =>
    (granulesFrom (512 * j) 512 s).filter (fun g => (tfind loc g).isNone))
  (loc, bad)

/-- The granules that a manifest lists (R211). Which granules a slot lists that does not read from either copy the spec leaves open:
it is a free value (log entry 86). -/
def manifestList (m : KnotRec) (s : State) : List Nat :=
  (readUnits m s).flatMap (fun u => match u.1.data with
    | .manifest l => if u.2 then l
      else (granulesFrom (32768 * (u.1.index % 2 ^ 22)) 32768 s).filter (Config.unreadListed m.epoch)
    | _ => [])

/-- Granules lost: those of the newest manifest without a copy from its epoch on, or every granule of a user bolt with a
knotted copy under POISON_ALL (R41, R158, R247). -/
def lostGranules (cls policy : Nat) (chain : List KnotRec) (loc : Table Loc) (s : State) : List Nat :=
  if cls = 2 then
    match firstMarked chain with
    | some m =>
      let saved := (chain.filter (fun k => decide (m.epoch ≤ k.epoch))).flatMap (knotGranules s)
      (manifestList m s).filter (fun g => !saved.contains g)
    | none => []
  else if cls = 3 && policy = 1 then
    (List.range 63).flatMap (fun n => match bolt s n with
      | some b =>
        if loc.any (fun e => boltOf s e.1 = n) then (List.range (b.size * 65536)).map (fun i => b.base * 65536 + i) else []
      | none => [])
  else []

/-- The slices of one kind written with the newest knot record that holds any, back to the manifest before it, in order, those that
read from neither copy left out (DESIGN CHOICE, log entry 86); with the epoch of that record. -/
def slicesOf {α : Type} (get : Payload → Option (List α)) (chain : List KnotRec) (s : State) : Option (Nat × List α) :=
  let has (k : KnotRec) : Bool := (readUnits k s).any (fun u => (get u.1.data).isSome)
  match chain.find? has with
  | none => none
  | some k =>
    let base := match chain.find? (fun m => m.kind = .manifest && decide (m.epoch ≤ k.epoch)) with | some m => m.epoch | none => 0
    let l := (chain.filter (fun x => decide (base < x.epoch) && decide (x.epoch ≤ k.epoch))).reverse
    some (k.epoch, l.flatMap (fun x => (goodUnits x s).flatMap (fun u => (get u.data).getD [])))

/-- A class 3 slice. -/
def logSlice : Payload → Option (List (Option LogEntry)) | .log l => some l | _ => none

/-- A class 4 slice. -/
def poisonSlice : Payload → Option (List PoisonEntry) | .poisonList l => some l | _ => none

/-- Whether the newest FINAL record of a chain carries a flag (R208). -/
def finalFlag (bit : Nat) (chain : List KnotRec) : Bool :=
  match chain.find? (fun k => k.kind = .final) with
  | some k => (match k.kindData with | .final _ _ _ _ _ f _ => bitOf f bit | _ => false)
  | none => false

/-- The previous-life log and LOG_OLD: the slices come from an earlier vault than the newest, or the FINAL record after them
carries LOG_STALE (R249). A chain without class 3 slices leaves the log and LOG_OLD as they are (DESIGN CHOICE, log entry 86). -/
def loadLog (chain : List KnotRec) (s : State) : State :=
  match slicesOf logSlice chain s with
  | none => s
  | some (e, l) =>
    let man := match chain.find? (fun k => k.kind = .manifest) with | some m => m.epoch | none => 0
    { s with
      log := { s.log with prev := mirrorEntries l },
      restore := { s.restore with logOld := decide (e < man) || finalFlag 0 (chain.filter (fun k => decide (e ≤ k.epoch))) } }

/-- A mask of `n` lines from line `l` of a granule. -/
def lineMask (l n : Nat) : BitVec 64 := BitVec.ofNat 64 ((2 ^ n - 1) * 2 ^ l)

/-- The poison list of a SEALED image (R102, R248). -/
def loadPoisonList (chain : List KnotRec) (s : State) : State :=
  let entries : List PoisonEntry := match slicesOf poisonSlice chain s with | some x => x.2 | none => []
  let listed := entries.foldl (fun t (e : PoisonEntry) =>
    tmod {} (e.line / 64) (addSource (lineMask (e.line % 64) e.lines)
      (if e.source = 0 then .internal else if e.source = 1 then .external else .unknown)) t) ([] : Table PoisonSrc)
  { s with cache := { s.cache with listed := listed, overflow := finalFlag 2 chain } }

/-- The loss registers and the notices of a restore (R42, R43, R250, R314). -/
def reportLoss (cls policy : Nat) (lost : List Nat) (s : State) : State :=
  let ordered := drainOrder lost s
  let cut (n : Nat) : Option Nat := (ordered.filter (fun g => boltOf s g = n)).head?
  let cuts := (List.range 63).foldl (fun t n => match cut n with | some g => tput 0 n (2 ^ 31 + g) t | none => t) ([] : Table Nat)
  let counts := (List.range 63).foldl (fun t n => tput 0 n (ordered.filter (fun g => boltOf s g = n)).length t) ([] : Table Nat)
  let first := match ordered.head? with | some g => boltOf s g | none => 0xFF
  let s := { s with
    cache := { s.cache with lossCut := cuts, lossCount := counts },
    restore := { s.restore with imageState := cls, policy := policy, poisonPresent := false, firstLost := first } }
  if cls = 2 ∨ cls = 3 then
    let s := stewardWrite (.dirtyCount (satAdd max32 s.mbx.dirtyShutdowns 1))
      { s with mbx := { s.mbx with dirtyShutdowns := satAdd max32 s.mbx.dirtyShutdowns 1 } }
    let word := b01 (!ordered.isEmpty) * 2 ^ 31 + first * 2 ^ 16 + policy * 2 ^ 8 + cls
    msix 4 (postEvent 2 0x0100 0xFF [s.mbx.dirtyShutdowns] (postEvent 2 1 0xFF [word, s.restore.epoch] s))
  else s

/-- The targets that are retired now, by themselves or with their channel (R254). -/
def goneTargets (s : State) : List Nat :=
  (List.range 96).filter (fun t => declared t s && ((targetAt t s).retired || channelRetired (t / 8) s))

/-- MAPLOAD of a NAND restore (R245 to R250); the live copies are known from here on, and the spare capacity is judged (R190,
R229). -/
def loadMap (s : State) : State :=
  let chain := knottedChain s s.restore.newest
  let cls := s.restore.cls
  let policy := if cls = 3 then setting s P.unsealedPolicy else 0
  let r := if cls = 0 then (([] : Table Loc), ([] : List Nat)) else rebuildMap chain s
  let lost := lostGranules cls policy chain r.1 s
  let s := emptyPoison { s with cache := { s.cache with
    loc := r.1, map := r.1.map (fun e => (e.1, { st := .restorePending })), stamps := [] } }
  let s := if cls = 1 then loadPoisonList chain s else s
  let s := loadLog chain s
  let s := { s with restore := { s.restore with
    goneAtMap := goneTargets s, listPartial := decide (cls ≠ 1), rebuilding := decide (cls ≠ 1), covered := r.1.length, bytes := 0, completeTs := 0, mapDone := true, mapKnown := true } }
  let s := reportLoss cls policy lost s
  spareCheck ((drainOrder (lost ++ r.2.filter (fun g => !lost.contains g)) s).foldl (fun s g => poisonAtRestore g s) s)

/-- MAPLOAD of a held restore: a poison list that was being rebuilt still is (R248); after a vault the class is reported as R235 says, and otherwise nothing changes. -/
def loadHeld (s : State) : State :=
  let n := (s.cache.map.filter (fun e => e.2.st = .restorePending)).length
  let s := { s with restore := { s.restore with
    goneAtMap := goneTargets s, mapDone := true, mapKnown := true, completeTs := 0, bytes := 0, covered := n,
    listPartial := s.restore.rebuilding && decide (0 < n) } }
  let s := spareCheck s
  if s.restore.afterVault then reportLoss s.restore.cls 0 [] { s with restore := { s.restore with afterVault := false, finalFail := false } }
  else s

/-- After a structural change the cache is empty, and MAPLOAD ends when the empty image is written (R463). -/
def loadEmpty (s : State) : State :=
  let s := loadMap { s with restore := { s.restore with cls := 0 } }
  beginSeal { s with restore := { s.restore with mapDone := false } }

/-- MAPLOAD_DONE (R194, R196, R197, R218, R235, R237, R245 to R250, R463); VERIFY is over by then, and the operand lists the pages that
did not read as they were programmed. -/
def execMapLoadDone (reads : List PageRead) (s : State) : Host.Outcome State Fault Refusal :=
  let s := leaveVerify s
  if s.restore.st = .mapload && !s.restore.mapDone && restoreRuns s then
    if s.warm.structural then .next (if sealing s then s else loadEmpty s)
    else if s.restore.held then .next (loadHeld s)
    else .next (loadMap (noteReads reads s))
  else .next s

/-! ### Restore-ready and loads (R214, R251 to R254) -/

/-- Whether a slot's target has been retired for good, or for discovery, since MAPLOAD (R254). -/
def goneSince (a : Nat) (s : State) : Bool :=
  let t := ptrTarget (a / 4)
  ((targetAt t s).cause = 1 || (targetAt t s).permanent) && !s.restore.goneAtMap.contains t

/-- Whether a granule has a copy on a target retired for good, or for discovery, since MAPLOAD (R254). -/
def onRetired (g : Nat) (s : State) : Bool :=
  match tfind s.cache.loc g with
  | some l => goneSince l.a s || (match slotB l with | some x => goneSince x s | none => false)
  | none => false

/-- Writes the first root record of every working target that has none (R216, R221, R237). -/
def firstRoots (s : State) : State :=
  (List.range 96).foldl (fun s t => if targetWorks t s && !everRooted t s then writeRoot t s else s) s

/-- RESTORE_READY (R214, R216, R237, R251, R252, R437). -/
def execRestoreReady (s : State) : Host.Outcome State Fault Refusal :=
  if s.restore.st = .mapload && s.restore.mapDone && s.stg.computed && restoreRuns s then
    let s := if s.lcs.wiped then writeDirectory { s with lcs := { s.lcs with wiped := false } } else s
    let s := { s with
      restore := { s.restore with st := .lazy, ready := true, readyTs := engineNow s, evtReady := true },
      host := { s.host with memActive := true } }
    let s := retireBlocks (firstRoots s)
    .next (checkComplete (tailHeld (releaseWaiting (evaluate (msix 5 (engineLog 0xC (imageWord s) 0 (setVault .armed s)))))))
  else .next s

/-- The granule that background restore takes next, in the order of R254 and R37. -/
def nextLoad (s : State) : Option Nat :=
  let l := ((s.cache.map.filter (fun e => e.2.st = .restorePending)).map (·.1)).filter
    (fun g => !s.restore.loading.contains g && (fetchOf g s).isNone)
  match (drainOrder (l.filter (fun g => onRetired g s)) s).head? with
  | some g => some g
  | none => (drainOrder l s).head?

/-- Whether background restore runs: from the end of MAPLOAD on, after a vault too, of which R254 says that background restore starts
again at restore-ready (DESIGN CHOICE, log entry 99). -/
def loadsRun (s : State) : Bool :=
  (s.restore.st = .lazy || (s.restore.st = .mapload && s.restore.mapDone)) && s.restore.keyOk && engineRuns s &&
  (s.vlt.state = .notArmed || isArmed s)

/-- BACKGROUND_LOAD (R253, R254): the next load starts. -/
def execBackgroundLoad (s : State) : Host.Outcome State Fault Refusal :=
  if loadsRun s then
    match nextLoad s with
    | some g => .next { s with restore := { s.restore with loading := s.restore.loading ++ [g] } }
    | none => .next s
  else .next s

/-- GRANULE_LOAD_DONE (R253, R257 to R260). -/
def execGranuleLoadDone (granule : Nat) (a b : CopyRead) (s : State) : Host.Outcome State Fault Refusal :=
  if s.restore.loading.contains granule && !ddrInReset s then .next (tailHeld (finishLoad granule a b s)) else .next s

end Sys2Proof.Machine
end

