-- ==== Sys2Proof/Machine/Selvedge.lean ====
section
/-! DEFINITION. Stall watchdogs, heartbeats, the selvedge's hold and re-boot, and the resume of a vault (R60, R64, R148
cause 5, R173 to R181, R275 to R278). -/

namespace Sys2Proof.Machine

/-! ### Channel loss (R173, R174, R190, R224, R277) -/

/-- Retires a channel for the rest of the vault: its unresolved epochs are voided, and the spare capacity is computed again
(R173, R174, R229, R268). -/
def retireInVault (c : Nat) (s : State) : State :=
  let s := { s with vlt := { s.vlt with retired := insertSorted c s.vlt.retired } }
  let s := modChannel c (fun x => { x with retired := true }) s
  spareCheck (noChannel (demandChanged (voidUnits (scheduledOn c s) 5 s)))

/-- Whether a location-map entry names a copy on a channel. -/
def onChannel (c : Nat) (l : Loc) : Bool :=
  ptrChannel (l.a / 4) = c || (match l.b with | some (b, _) => b = c | none => false)

/-- The granules with a copy on a channel that read CLEAN become DIRTY (R224). -/
def dirtyOnChannel (c : Nat) (s : State) : State :=
  s.cache.loc.foldl (fun s e => if onChannel c e.2 && (entryOf e.1 s).st = .clean then setState e.1 .dirty s else s) s

/-- Retires a channel for the present boot: CAUSE 3 for each of its targets (R277). -/
def retireForBoot (c : Nat) (s : State) : State :=
  let s := modChannel c (fun x => { x with retired := true }) s
  let s := (List.range 8).foldl (fun s e =>
    if declared (8 * c + e) s then
      modTarget (8 * c + e) (fun x => { x with retired := true, cause := 3 }) s else s) s
  spareCheck (evaluate (dirtyOnChannel c s))

/-- When a shuttle's newest stall was counted. -/
def lastStall (c : Nat) (s : State) : Nat := match (channelAt c s).strikes with | k :: _ => k.1 | [] => 0

/-- A stall of a shuttle outside FENCED to KNOT and outside DISCOVER to MAPLOAD (R277): counted, and the channel retired at
shuttle_strikes stalls in 24 h. A stall that its unit reset has not cleared is no second one: it retires the channel 1 ms after
it began. -/
def shuttleStall (c : Nat) (target : Option Nat) (lasting : Bool) (s : State) : State :=
  let recent (t : Nat) : Bool := decide (engineNow s < t + 86400000000000)
  if lasting then (if lastStall c s + 1000000 ≤ engineNow s then retireForBoot c s else s)
  else
    let s := modChannel c (fun x => { x with
      stalls := satAdd max32 x.stalls 1,
      strikes := (engineNow s, target) :: x.strikes.filter (fun k => recent k.1) }) s
    if decide (setting s P.shuttleStrikes ≤ (channelAt c s).strikes.length) then retireForBoot c s else s

/-- A stall during DISCOVER to MAPLOAD: the target, or every target of the channel, fails discovery (R190, R278). -/
def discoveryStall (c : Nat) (target : Option Nat) (s : State) : State :=
  let ts := ((List.range 8).map (fun e => 8 * c + e)).filter (fun t => declared t s)
  let failing := ts.filter (fun t => match target with | some x => x = t | none => true)
  let s := failing.foldl (fun s t => failTarget t s) s
  let left := ts.any (fun t => !(targetAt t s).retired)
  spareCheck (if left then s else modChannel c (fun x => { x with retired := true }) s)

/-- The source of a stall watchdog (R275, R415). -/
def stallSource : StallChannel → Nat
  | .cxl => 2 | .adm => 3 | .map => 22 | .vseq => 12
  | .ddr c => 29 + c | .path n => 33 + n | .shuttle n _ _ => 45 + n

/-- Whether restore lies between DISCOVER and MAPLOAD. -/
def discovering (s : State) : Bool := s.restore.st = .discover || s.restore.st = .verify || s.restore.st = .mapload

/-- The detail of a stall: of a shuttle's the channel and the target of the command or busy wait, 0xFF for none (R424). -/
def stallDetail : StallChannel → Nat
  | .shuttle c target _ => 256 * c + target.getD 0xFF
  | _ => 0

/-- STALL_WATCHDOG_EXPIRY (R60, R173, R174, R181, R275 to R278): in belay the source alone is raised; in the drain a source at S4 takes
belay in place of R173 (R417). -/
def execStallWatchdogExpiry (channel : StallChannel) (s : State) : Host.Outcome State Fault Refusal :=
  if !s.warm.engineUp then .next s
  else
    let n := stallSource channel
    let lasting := s.flt.engineLive.contains n
    let s := engineFault n (stallDetail channel) s
    let drains := inDrainStates s
    if !engineRuns s || (drains && sevOf n s = 4) then .next s
    else match channel with
    | .path c => if drains then .next (retireInVault c s) else .next s
    | .shuttle c target _ =>
      if drains then .next (retireInVault c s)
      else if discovering s then .next (discoveryStall c target s)
      else .next (shuttleStall c target lasting s)
    | .cxl | .adm | .map | .vseq | .ddr _ => .next s

/-! ### Re-boot attempts (R175, R177, R180) -/

/-- The engine rails go on again for a re-boot: DOM1 alone, or DOM1, DOM2, DOM6 and DOM7 after belay (R175, R351). -/
def railsOn (s : State) : State := if allGood [2, 6, 7] s then switchOn 1 s else beginSeq .fromHold s

/-- A re-boot attempt starts; after reboot_max of them VAULT_REBOOT_EXHAUSTED is raised instead (R175, R177). Every attempt since
the confirmation counts, those that succeeded too: R177 speaks of attempts that have failed, and does not say whether a success
starts the count again (DESIGN CHOICE, log entry 56). -/
def startAttempt (s : State) : State :=
  if setting s P.rebootMax ≤ s.sel.attempts then
    pcFault 162 0 { s with
      sel := { s.sel with phase := .idle }, flt := { s.flt with rebootExhausted := true } }
  else
    let n := if inVault s then satAdd 255 s.vlt.reboots 1 else s.vlt.reboots
    railsOn { s with
      sel := { s.sel with phase := .rebooting, attempts := s.sel.attempts + 1 },
      vlt := { s.vlt with reboots := n } }

/-- The re-boot after a thermal hold: not counted against reboot_max, and the limit of R179 holds for the rest of the vault
(R180). Nor is it counted in VLT_RECOVERY.REBOOTS, which R180 leaves open beside step 4 of R175 (DESIGN CHOICE, log entry
57). -/
def startCooled (s : State) : State :=
  railsOn { s with sel := { s.sel with phase := .rebooting, thermal := false }, vlt := { s.vlt with throttled := true } }

/-- The hold island has every rank in self-refresh: the selvedge removes VCORE_E and re-boots, or cools first (R175,
R180). -/
def selvedgeReady (s : State) : State :=
  let s := switchOff 1 (setRefresh true s)
  if s.sel.thermal then { s with sel := { s.sel with phase := .cooling } } else startAttempt s

/-- In HOLD the engine core, VCORE_E, VPHY_E, DOM6 and DOM7 go off, by group in descending order (R170, R351). -/
def holdReady (s : State) : State := beginOff [4, 3] (setRefresh true s)

/-- In belay VCORE_E and VPHY_E go off after self-refresh (R431 steps 4 and 5). -/
def belayReady (s : State) : State :=
  switchOff 2 (switchOff 1 (setRefresh true { s with flt := { s.flt with awaitHold := false } }))

/-- HOLD_ISLAND_READY (R170, R175, R288, R431): the hold island reports every rank in self-refresh. -/
def execHoldIslandReady (s : State) : Host.Outcome State Fault Refusal :=
  if !pairActive .hold s then .next s
  else if s.flt.belay then .next (if s.flt.awaitHold then belayReady s else s)
  else if s.sel.phase = .holding then .next (selvedgeReady s)
  else if s.vlt.state = .hold && s.warm.kind = .none then .next (holdReady s)
  else .next s

/-- REBOOT_TIMEOUT_EXPIRY (R175, R177): no heartbeat came in reboot_timeout; the next attempt starts with VCORE_E removed
again. -/
def execRebootTimeoutExpiry (s : State) : Host.Outcome State Fault Refusal :=
  if s.sel.phase = .rebooting && !s.flt.belay then
    let s := drivePair .hold true s
    .next (startAttempt (switchOff 1 (setRefresh true { s with warm := { s.warm with step := 5 } })))
  else .next s

/-- COOL_WAIT_EXPIRY (R180). -/
def execCoolWaitExpiry (s : State) : Host.Outcome State Fault Refusal :=
  if s.sel.phase = .cooling && !s.flt.belay then .next (startCooled s) else .next s

/-! ### Heartbeats (R64, R148) -/

/-- The engine's own vault, cause 5: VREQ active, CONFIRMED, WINDOW at once (R64, R148); in a warm reset R73 governs, and while
not armed the engine stops restore and enters OFF (R149). A vault that is confirmed already keeps its cause. -/
def engineAloneVault (s : State) : State :=
  if isArmed s && s.vlt.confirming then releaseWaiting (seePf (drivePair .vreq true s))
  else if isArmed s then
    let s := drivePair .vreq true (recordConfirm 5 0 s)
    releaseWaiting (openWindow (enterConfirmed { s with vlt := { s.vlt with confirmTs := engineNow s } }))
  else if inArmedReset s then
    if s.warm.confirmed.isSome then drivePair .vreq true s else confirmInReset 5 0 (drivePair .vreq true (recordConfirm 5 0 s))
  else if s.vlt.state = .notArmed then engineOff (drivePair .vreq true (recordConfirm 5 0 s))
  else s

/-- The engine declares the power controller stalled: HB_LOST, and a vault of its own with the heddle link down, or once the
link is down too (R64). -/
def pctrlStalled (s : State) : State :=
  if s.sel.pcStalled then (if linkUp s then s else engineAloneVault s)
  else
    let s := { s with sel := { s.sel with pcStalled := true } }
    engineFault 58 0 (if linkUp s then s else engineAloneVault s)

/-- The power controller declares the engine stalled: ENGINE_STALL, and the selvedge acts (R64, R175). -/
def engineStalledNow (s : State) : State :=
  if s.sel.engineStalled then s
  else selvedgeHold false (pcFault 161 0 { s with sel := { s.sel with engineStalled := true } })

/-- HEARTBEAT_TIMEOUT (R64, R530). -/
def execHeartbeatTimeout (at' : End) (s : State) : Host.Outcome State Fault Refusal :=
  match at' with
  | .pctrl => if engineJudged s && !s.flt.belay && s.sel.phase = .idle then .next (engineStalledNow s) else .next s
  | .engine => if s.warm.engineUp && !s.flt.engineStopped then .next (pctrlStalled s) else .next s

/-- A heartbeat of the engine arrives: a re-boot attempt succeeds with it (R175). Outside a vault the attempts start
again from 0; one that is confirmed in a reset keeps what it counted (R73). -/
def engineBeats (s : State) : State :=
  let n := if inVault s || s.warm.confirmed.isSome then s.sel.attempts else 0
  let s := { s with sel := { s.sel with hbe := !s.sel.hbe } }
  let s := if s.sel.phase = .rebooting then { s with sel := { s.sel with phase := .idle, attempts := n } } else s
  pcClear 161 { s with sel := { s.sel with engineStalled := false } }

/-- HEARTBEAT_TOGGLE (R64, R175, R276): a pair alternates; the engine's stops while STALL_VSEQ lasts. -/
def execHeartbeatToggle (from' : End) (s : State) : Host.Outcome State Fault Refusal :=
  match from' with
  | .pctrl =>
    if s.pwr.keeper then .next (engineClear 58 { s with sel := { s.sel with hbp := !s.sel.hbp, pcStalled := false } }) else .next s
  | .engine =>
    if s.warm.engineUp && !s.flt.engineLive.contains 12 then .next (engineBeats s) else .next s

/-! ### Resume (R176) -/

/-- Whether NAND holds a copy of a granule of a later epoch than `n` (R24). -/
def copyAfter (n g : Nat) (s : State) : Bool :=
  s.nand.pages.any (fun p => decide (n < p.2.epoch) && p.2.key = s.lcs.keyId && p.2.units.any (fun u => u.index = g && u.kind ≠ .gc))

/-- The knotted epochs beyond the newest one that the engine has resolved: their copies enter the location map, and their
granules that are still STAGING become CLEAN, as at any verified knot; a granule of which a later epoch holds a copy waits for that
one (R24, R91, R94, R176, R218). -/
def adoptKnots (chain : List KnotRec) (s : State) : State :=
  let fresh := (chain.filter (fun k => decide (s.stg.lastKnotEpoch < k.epoch))).reverse
  fresh.foldl (fun s k => (knotPages k s).foldl (fun s p => (p.2.units.zipIdx.filter (fun u => !copyAfter k.epoch u.1.index s)).foldl (adoptUnit p.1 p.2) s) s) s

/-- The void knots of the epochs k + 1 to k + 5, and the next epoch number (R176). Drain epochs whose numbers they cover do not count
in VLT_RECOVERY.DRAIN_VOIDS, of which R185 says nothing (DESIGN CHOICE, log entry 97). -/
def voidFive (k : Nat) (s : State) : State :=
  let s := { s with stg := { s.stg with
    nextEpoch := k + 6, voidCount := satAdd max32 s.stg.voidCount 5, epochs := [], voidReads := [], begun := [] } }
  [1, 2, 3, 4, 5].foldl (fun s i => writeVoid { epoch := k + i, reason := 7, ts := engineNow s } s) s

/-- Whether the newest record on NAND is a void knot: one beyond the newest accepted knot (R176). -/
def endsVoided (k : Nat) (s : State) : Bool := s.nand.voids.any (fun v => voidReadable v s && decide (k < v.epoch))

/-- Whether a knot belongs to the present vault: its kind follows the fence and it carries the vault's number. -/
def ofThisVault (k : KnotRec) (s : State) : Bool :=
  k.kind ≠ .staging && k.kind ≠ .gc && k.vault = s.vlt.number

/-- FENCED again with the manifest built again from the dirty map (R176). -/
def resumeFenced (s : State) : State :=
  let fresh := s.vlt.state = .confirmed || s.vlt.state = .window
  let s := if fresh then { s with
      vlt := { s.vlt with fenceTs := s.warm.stopTs, fenceBy := 5 }, gau := { s.gau with fenceMj := s.gau.vaultMj } } else s
  let s := { s with
    vlt := { s.vlt with manifestRebuilt := true },
    drain := { manifest := some (manifestOf s), mirror := s.drain.mirror } }
  let s := setVault .fenced s
  if fresh then sendFrame .engine (.warning 3) (answerFlush true s) else s

/-- What lies behind a position of the drain order (R162). -/
def afterPosition (last : Option (Nat × Nat)) (l : List Nat) : List Nat :=
  match last with
  | some (_, g) => (match l.findIdx? (· = g) with | some i => l.drop (i + 1) | none => l)
  | none => l

/-- DRAIN from a position, or KNOT with a new log snapshot when nothing is left (R176). A listed granule before the position
that is DIRTY again is taken first, as in the drain (log entry 49). -/
def resumeDrain (m : KnotRec) (last : Option (Nat × Nat)) (s : State) : State :=
  let l := manifestList m s
  let after := afterPosition last (drainOrder l s)
  let left := (drainOrder l s).filter (fun g => !after.contains g && (entryOf g s).st = .dirty) ++ after
  let s := { s with drain := { manifest := some l, manifestKnot := some m.slot, left := left, mirror := s.drain.mirror } }
  if left.isEmpty then setVault .knot (askSnapshot s) else setVault .drain s

/-- KNOT from its beginning (R176). -/
def resumeKnot (m : KnotRec) (s : State) : State :=
  setVault .knot (askSnapshot { s with
    drain := { manifest := some (manifestList m s), manifestKnot := some m.slot, mirror := s.drain.mirror } })

/-- The directory and root records that follow a verified final knot, where the reset came before them (R214, R216). -/
def finalRecords (k : KnotRec) (s : State) : State :=
  if (newestDir s).any (fun d => d.finalSlot = some k.slot) then s else writeRoots (writeDirectory s)

/-- The resume by the newest record: the newest accepted knot, unless a void knot follows it (R176). -/
def resumeAt (k : Option KnotRec) (voided : Bool) (chain : List KnotRec) (s : State) : State :=
  match k, chain.find? (fun x => x.kind = .manifest) with
  | some k, some m =>
    if voided || !ofThisVault k s then resumeFenced s
    else match k.kind with
      | .manifest => resumeDrain m none s
      | .drain => resumeDrain m k.last s
      | .system | .ckptEnd => resumeKnot m s
      | .final => afterFinal false (finalRecords k { s with
          vlt := { s.vlt with endTs := engineNow s }, mbx := { s.mbx with sealedKnot := true, writtenSince := false } })
      | .staging | .gc => resumeFenced s
  | _, _ => resumeFenced s

/-- The resume with k found: the knots beyond the last one resolved are taken in, the void knots written, the dirty map scanned,
and the vault goes on where the newest record stands (R70, R176). Where no knot record is accepted at all, k is 0, so that the
void knots name epochs 1 to 5: R176 gives k no value then (DESIGN CHOICE, log entry 55). -/
def resumeVault (s : State) : State :=
  let k := if linkUp s then searchFrom s.log.knotPtr s else newestKnot s
  let slot := k.map KnotRec.slot
  let top : Nat := match k with | some k => k.epoch | none => 0
  let chain := knottedChain s slot
  let voided := endsVoided top s
  let s := adoptKnots chain s
  let s := scanMap (voidFive top { s with
    stg := { s.stg with lastKnot := slot, lastKnotEpoch := top },
    warm := { s.warm with kind := .none, step := 0 }, thm := { s.thm with lastResume := some (now s) } })
  demandChanged (noChannel (resumeAt k voided chain s))

/-- VAULT_RESUME (R69, R174, R176, R180, R268): after a re-boot in a vault; the key is unwrapped first. The operand
lists the pages that did not read as they were programmed (R194, R196, R197, R210). -/
def execVaultResume (reads : List PageRead) (s : State) : Host.Outcome State Fault Refusal :=
  if s.warm.kind = .engine && s.warm.step = 8 && inVault s && s.warm.engineUp && discoveryDone s && !s.flt.belay then
    let s := unwrapKey s
    .next (if s.restore.keyOk then resumeVault (noteReads reads { s with nand := { s.nand with badHeaders := [], badSlots := [] } }) else s)
  else .next s

end Sys2Proof.Machine
end

