-- ==== Sys2Proof/Machine/HostIf.lean ====
section
/-! DEFINITION. The CXL port: link training, HDM decoders, Global Persistent Flush, host-interface resets, MSI-X unmasking
(R23, R44, R45, R153, R290, R291, R296, R297, R306 to R309, R321, R524). -/

namespace Sys2Proof.Machine

/-! ### Link (R290, R291) -/

/-- The widths in which CXL.mem operates (R290, R291). -/
def widthOk (w : Nat) : Bool := w = 4 || w = 8 || w = 16

/-- The speeds of a flit mode: 32 and 64 GT/s with 256-byte flits, 8 to 32 GT/s with 68-byte flits (R290). -/
def linkMode (speed : Nat) (flit256 : Bool) : Bool :=
  if flit256 then speed = 5 || speed = 6 else speed = 3 || speed = 4 || speed = 5

/-- Whether CXL.mem operates in a trained mode. -/
def modeOk (w speed : Nat) (flit256 : Bool) : Bool := widthOk w && linkMode speed flit256

/-- CXL_LINK_TRAINED (R290, R291, R434): a frozen PERST_N reads asserted and holds the link down. -/
def execCxlLinkTrained (width speed : Nat) (flit256 : Bool) (s : State) : Host.Outcome State Fault Refusal :=
  if s.host.training && s.warm.engineUp && (tfind s.flt.frozen 4).isNone then
    let ok := modeOk width speed flit256
    .next (engineCond 0 (!ok) { s with
      host := { s.host with width := width, speed := speed, flit256 := flit256, memEnabled := ok } })
  else .next s

/-! ### HDM decoders (R296, R297) -/

/-- A decoder as a commit asks for it. -/
def decoderOf (r : HdmReq) : Decoder :=
  { committed := true, base := r.base, size := r.size, ways := r.ways, gran := r.granularity, position := r.position,
    skip := r.skip, lock := r.lock, error := false }

/-- Whether a commit's fields are ones that R296 allows. -/
def commitForm (r : HdmReq) : Bool :=
  waysOk r.ways && granularityOk r.granularity && r.base % 2 ^ 28 = 0 && r.size % 2 ^ 28 = 0 && r.skip % 2 ^ 28 = 0

/-- Whether two committed decoders stand as R297 asks: both DPA ranges end within C and share nothing, and decoder 1 does
not start below the end of decoder 0. -/
def decodersFit (d0 d1 : Decoder) (s : State) : Bool :=
  let cap := capGranules s * 4096
  let r0 := decoderRange d0 0
  let r1 := decoderRange d1 (d0.skip + decoderBytes d0)
  decide (r0.2 ≤ cap) &&
  (!d1.committed || (decide (r1.2 ≤ cap) && (decide (r0.2 ≤ r1.1) || decide (r1.2 ≤ r0.1)) && decide (d0.base + d0.size ≤ d1.base)))

/-- HDM_DECODER_COMMIT (R296, R297): refused commits report Error Not Committed; a locked decoder ignores the write. -/
def execHdmDecoderCommit (decoder : Nat) (req : HdmReq) (s : State) : Host.Outcome State Fault Refusal :=
  if !s.warm.engineUp then .next s
  else
    let h := s.host
    let d := decoderOf req
    if decoder = 0 then
      if h.dec0.committed && h.dec0.lock then .next s
      else if commitForm req && decodersFit d h.dec1 s then .next { s with host := { h with dec0 := d } }
      else .next { s with host := { h with dec0 := { h.dec0 with committed := false, error := true } } }
    else if decoder = 1 then
      if h.dec1.committed && h.dec1.lock then .next s
      else if commitForm req && h.dec0.committed && decodersFit h.dec0 d s then .next { s with host := { h with dec1 := d } }
      else .next { s with host := { h with dec1 := { h.dec1 with committed := false, error := true } } }
    else .next s

/-! ### Global Persistent Flush (R306 to R309) -/

/-- GPF_PHASE1_REQUEST (R306). -/
def execGpfPhase1Request (s : State) : Host.Outcome State Fault Refusal :=
  .next (if s.warm.engineUp then emit .gpf1 s else s)

/-- Whether the fence has fallen in this vault (R309). -/
def fenced (s : State) : Bool :=
  inDrainStates s || s.vlt.state = .hold || s.vlt.state = .off

/-- GPF_PHASE2_REQUEST (R307, R309). -/
def execGpfPhase2Request (s : State) : Host.Outcome State Fault Refusal :=
  if !s.warm.engineUp then .next s
  else
    let s := { s with host := { s.host with
      gpfCount := satAdd max32 s.host.gpfCount 1, gpfWaiting := engineNow s :: s.host.gpfWaiting,
      gpfCovers := s.cache.received } }
    if fenced s then .next (answerFlush (decide (s.vlt.fenceBy ≠ 1)) s) else .next s

/-- GPF_PHASE2_RESPONSE (R307): every covered write is committed; in WINDOW this is the flush completion, and the fence
falls (R153). -/
def execGpfPhase2Response (s : State) : Host.Outcome State Fault Refusal :=
  if !engineRuns s || s.host.gpfWaiting.isEmpty || uncommittedBelow s.host.gpfCovers s then .next s
  else
    let s := answerFlush false s
    .next (if s.vlt.state = .window then fence 1 s else s)

/-! ### Host-interface resets (R44, R45, R321) -/

/-- Requests on their way are gone with the link. -/
def dropRequests (s : State) : State :=
  let s := discardWrites s
  { s with
    cache := { s.cache with waiting := [], fetches := s.cache.fetches.map (fun f => { f with reads := [] }) },
    host := { s.host with gpfWaiting := [] } }

/-- The link is down: CXL_LINK reads 0 (R322). -/
def linkGone (s : State) : State :=
  engineClear 0 { s with host := { s.host with width := 0, speed := 0, flit256 := false, memEnabled := false } }

/-- A reset that clears decoders, range control and CXL_ registers, counters with RS apart (R321). -/
def hostReset (s : State) : State :=
  let s := evaluate (dropRequests (fenceByHost s))
  let s := linkGone s
  { s with
    host := { s.host with dec0 := {}, dec1 := {}, rangeEnable := false, rangeBase := 0, gpfFailed := false, gpfUs := 0, load := 0 },
    mbx := { s.mbx with doorbell := false } }

/-- PERST_N (R23, R44, R45, R321). -/
def execPerstN (s : State) : Host.Outcome State Fault Refusal := .next (if s.warm.engineUp then hostReset s else s)

/-- HOT_RESET and a secondary bus reset (R321). -/
def execHotReset (s : State) : Host.Outcome State Fault Refusal := .next (if s.warm.engineUp then hostReset s else s)

/-- A link-down without reset: the decoders and registers stay, and the event is counted (R321). -/
def linkLoss (s : State) : State :=
  let s := linkGone (evaluate (dropRequests (fenceByHost s)))
  { s with host := { s.host with linkdowns := satAdd max32 s.host.linkdowns 1 }, mbx := { s.mbx with doorbell := false } }

/-- LINK_DOWN (R321). -/
def execLinkDown (s : State) : Host.Outcome State Fault Refusal := .next (if s.warm.engineUp then linkLoss s else s)

/-- CXL_RESET (R45, R321): the decoders and the range control are uncommitted; the link stays. -/
def execCxlReset (s : State) : Host.Outcome State Fault Refusal :=
  if s.warm.engineUp then
    let s := evaluate (dropRequests (fenceByHost s))
    .next { s with
      host := { s.host with dec0 := { s.host.dec0 with committed := false }, dec1 := { s.host.dec1 with committed := false },
                            rangeEnable := false, gpfFailed := false, gpfUs := 0, load := 0 },
      mbx := { s.mbx with doorbell := false } }
  else .next s

/-- FUNCTION_LEVEL_RESET (R321): CXL.mem traffic continues and nothing is fenced; writes not committed are discarded and
the doorbell is cleared. -/
def execFunctionLevelReset (s : State) : Host.Outcome State Fault Refusal :=
  if s.warm.engineUp then
    let s := evaluate (discardWrites s)
    .next { s with mbx := { s.mbx with doorbell := false } }
  else .next s

/-! ### MSI-X (R524) -/

/-- MSIX_UNMASK (R524): a pending interrupt is sent at unmasking. -/
def execMsixUnmask (vector : Nat) (s : State) : Host.Outcome State Fault Refusal :=
  if vector < 8 && s.warm.engineUp then
    let due := (s.host.msixPending[vector]?).getD false
    let s := { s with host := { s.host with
      msixMasked := setAt vector false s.host.msixMasked, msixPending := setAt vector false s.host.msixPending } }
    .next (if due then msix vector s else s)
  else .next s

end Sys2Proof.Machine
end

