-- ==== Sys2Proof/Machine/Words.lean ====
section
/-! DEFINITION. Register words and records that several readers share: the vault block's words, trouble-log entries as
bytes (R185, R264, R436, R43, R134). -/

namespace Sys2Proof.Machine

/-- A list used as a set of bit numbers, as a word. -/
def maskOf (l : List Nat) : Nat := (l.map (fun n => 2 ^ n)).sum

/-- VLT_STATE (R185). -/
def vltStateWord (s : State) : Nat :=
  maskOf s.vlt.retired * 2 ^ 16 + b01 (throttled s && inDrainStates s) * 2 ^ 15 + b01 s.vlt.logStale * 2 ^ 14 +
  b01 s.vlt.specBlocked * 2 ^ 13 + b01 s.vlt.manifestRebuilt * 2 ^ 12 + s.vlt.fenceBy * 2 ^ 8 + vaultCode s.vlt.state

/-- VLT_REEF_LEVEL (R139). -/
def reefWord (s : State) : Nat :=
  b01 s.stg.evtRise * 2 ^ 31 + b01 s.stg.evtClear * 2 ^ 30 + b01 s.stg.ieClear * 2 ^ 29 + b01 s.stg.deficit * 2 ^ 11 +
  b01 (!s.stg.heldq.isEmpty) * 2 ^ 10 + reefLevel s

/-- STG_EPB_NOW (R140). -/
def epbWord (s : State) : Nat := ofSigned 9 s.stg.tEval % 2 ^ 9 * 2 ^ 16 + s.stg.epb % 2 ^ 16

/-- PERCENT of VLT_RESTORE (R264). -/
def restorePercent (s : State) : Nat :=
  let left := (s.cache.map.filter (fun e => e.2.st = .restorePending)).length
  if s.restore.covered = 0 then (if s.restore.st = .complete then 100 else 0)
  else Nat.min 100 (100 * (s.restore.covered - left) / s.restore.covered)

/-- VLT_RESTORE (R264). -/
def restoreWord (s : State) : Nat :=
  let r := s.restore
  b01 r.evtReady * 2 ^ 31 + b01 r.evtComplete * 2 ^ 30 + b01 r.ieComplete * 2 ^ 29 + b01 r.foreign * 2 ^ 28 +
  b01 r.listPartial * 2 ^ 27 + b01 r.logOld * 2 ^ 26 + b01 r.held * 2 ^ 25 + r.hint * 2 ^ 22 +
  restorePercent s * 2 ^ 8 + restoreCode r.st

/-- VLT_RESIDUAL in bytes (R97). -/
def residualBytes (s : State) : Nat := 4096 * residual s

/-- NCH_SHED_BOLTS (R230). -/
def shedWord (s : State) : Nat := maskOf s.nand.shed

/-- Whether the image is sealed: the newest knot is a verified final knot and no write was committed since (R317). -/
def sealedImage (s : State) : Bool := s.mbx.sealedKnot && !s.mbx.writtenSince

/-- Entry `i` of a log by age: the i-th oldest present (R440). -/
def logFrom (first count : Nat) (newestFirst : List LogEntry) : List LogEntry := (newestFirst.reverse.drop first).take count

/-- The highest P/E count of a target: NTG_PE_MAX[t] (R219). -/
def peMax (t : Nat) (s : State) : Nat :=
  ((s.nand.blocks.filter (fun e => blockTarget e.1 = t)).map (fun e => e.2.pe)).foldl Nat.max (targetAt t s).fresh

/-- Life Used (R312). -/
def lifeUsed (s : State) : Nat :=
  let m := (((List.range 96).filter (fun t => targetWorks t s)).map (fun t => peMax t s)).foldl Nat.max 0
  Nat.min 100 (m * 100 / setting s P.pslcCycles)

/-- A BLT_LOSS_CUT word. -/
def lossCutWord (n : Nat) (s : State) : Nat := tget 0 s.cache.lossCut n

/-- A BLT_LOSS_COUNT word. -/
def lossCountWord (n : Nat) (s : State) : Nat := tget 0 s.cache.lossCount n

end Sys2Proof.Machine
end

