-- ==== Sys2Proof/Machine/Mailbox.lean ====
section
/-! DEFINITION. The mailbox: standard and vendor commands (R102, R304, R310 to R319, R517). The spec leaves the byte layout
of the standard commands to the CXL standard: their answers carry the rule's values in its order (log entry 18). -/

namespace Sys2Proof.Machine

/-- Whether the mailbox is available (R310). -/
def mailboxOpen (s : State) : Bool := s.host.training && s.warm.engineUp

/-- Answers a standard command and raises the doorbell interrupt (R310, R320). -/
def answer (code : RetCode) (values : List Nat) (s : State) : Host.Outcome State Fault Refusal :=
  .next (msix 0 (emit (.answer code values) s))

/-- Answers a vendor command or a transfer of bytes. -/
def reply (code : RetCode) (bytes : List Byte) (s : State) : Host.Outcome State Fault Refusal :=
  .next (msix 0 (emit (.mailbox code bytes) s))

/-- A command's effect while the mailbox is available; before that it does not exist for the host. -/
def whenOpen (s : State) (f : State → Host.Outcome State Fault Refusal) : Host.Outcome State Fault Refusal :=
  if mailboxOpen s then f s else .next s

/-! ### Standard commands (R311) -/

/-- The function's identity of R292: Vendor ID, Device ID, Subsystem Vendor ID, Subsystem ID and serial number of the draft. -/
def functionIdentity (c : CxlSec) : List Nat := [c.vendor, c.device, c.subVendor, c.subsys, c.serial]

/-- The function's class code, a CXL memory device (R292). -/
def classCode : Nat := 0x050210

/-- IDENTIFY (R292, R310, R311): identity and the payload size as a power of two. -/
def execIdentify (s : State) : Host.Outcome State Fault Refusal :=
  whenOpen s (fun s => match s.drf.active with
    | some d => answer .success (functionIdentity d.cxl ++ [16]) s
    | none => answer .success [] s)

/-- A return code's number, for the reports that carry one. -/
def retNumber : RetCode → Nat
  | .success => 0 | .backgroundStarted => 1 | .invalidInput => 2 | .unsupported => 3 | .retryRequired => 4 | .busy => 5
  | .aborted => 6

/-- BACKGROUND_OPERATION_STATUS (R311, R319): the last or running command, whether it runs, its percent and its code. The
percent of an unfinished command is a free value. -/
def execBackgroundOperationStatus (s : State) : Host.Outcome State Fault Refusal :=
  whenOpen s (fun s =>
    if s.mbx.bg.isSome then
      answer .success [s.mbx.bgOpcode, 1, Config.freeNat s.free % 100, retNumber .backgroundStarted] (nextFree s)
    else if s.mbx.bgCode = .success then answer .success [s.mbx.bgOpcode, 0, s.mbx.bgPercent, 0] s
    else answer .success [s.mbx.bgOpcode, 0, Config.freeNat s.free % 100, retNumber s.mbx.bgCode] (nextFree s))

/-- The record UUID of the vendor event records, 7e3a91c4-58d2-4b6f-a0e1-93c2d5b4f817, in the order in which it is written (R314). -/
def vendorUuid : List Byte :=
  [0x7e, 0x3a, 0x91, 0xc4, 0x58, 0xd2, 0x4b, 0x6f, 0xa0, 0xe1, 0x93, 0xc2, 0xd5, 0xb4, 0xf8, 0x17]

/-- The bytes of each value of a vendor event record: those of its register, and one for a bolt (R314; DEDUCED, log entry 18). -/
def vendorWidths : Nat → List Nat
  | 1 => [4, 8] | 3 => [4] | 4 => [1] | 5 => [4, 4] | 6 => [4] | 7 => [8] | _ => []

/-- The vendor-specific data of a record: the event code, the bolt, a reserved byte, and the values (R314). -/
def vendorData (r : EventRec) : List Byte :=
  leBytes 2 r.kind ++ leBytes 1 r.bolt ++ leBytes 1 0 ++ ((vendorWidths r.kind).zip r.values).flatMap (fun e => leBytes e.1 e.2)

/-- Whether a record is one of the vendor's: of a code of its table (R314). -/
def isVendor (r : EventRec) : Bool := decide (1 ≤ r.kind) && decide (r.kind ≤ 7)

/-- Wall time of a raw timebase value: TBS_OFFSET is added as it is read (R517). -/
def wallTime (ts : Nat) (s : State) : Nat := (ts + s.tbs.offset) % 2 ^ 64

/-- An event record as values: a vendor record with its UUID and its data, a standard one with its kind and values (R314). -/
def recordValues (s : State) (r : EventRec) : List Nat :=
  if isVendor r then [r.handle, wallTime r.ts s] ++ (vendorUuid ++ vendorData r).map BitVec.toNat
  else [r.handle, r.kind, r.bolt, wallTime r.ts s, r.values.length] ++ r.values

/-- GET_EVENT_RECORDS (R314). -/
def execGetEventRecords (log : Nat) (s : State) : Host.Outcome State Fault Refusal :=
  whenOpen s (fun s =>
    if log < 4 then
      let l := eventLog log s
      answer .success ([b01 (decide (0 < l.overflow)), l.overflow, l.recs.length] ++ l.recs.flatMap (recordValues s)) s
    else answer .invalidInput [] s)

/-- CLEAR_EVENT_RECORDS (R314). -/
def execClearEventRecords (log : Nat) (all : Bool) (handles : List Nat) (s : State) : Host.Outcome State Fault Refusal :=
  whenOpen s (fun s =>
    if log < 4 then
      let l := eventLog log s
      let t : EventLog := if all then { l with recs := [], overflow := 0 }
        else { l with recs := l.recs.filter (fun r => !handles.contains r.handle) }
      answer .success [] { s with mbx := { s.mbx with logs := setAt log t s.mbx.logs } }
    else answer .invalidInput [] s)

/-- GET_EVENT_INTERRUPT_POLICY (R311, R320): for each log whether its MSI-X vector is raised, and the vector. -/
def execGetEventInterruptPolicy (s : State) : Host.Outcome State Fault Refusal :=
  whenOpen s (fun s => answer .success (s.mbx.policy.map b01 ++ [1, 1, 2, 2]) s)

/-- SET_EVENT_INTERRUPT_POLICY (R311). -/
def execSetEventInterruptPolicy (info warn failure fatal : Option Bool) (s : State) : Host.Outcome State Fault Refusal :=
  whenOpen s (fun s =>
    let p := List.zipWith (fun (o : Option Bool) (b : Bool) => o.getD b) [info, warn, failure, fatal] s.mbx.policy
    answer .success [] { s with mbx := { s.mbx with policy := p } })

/-- GET_FW_INFO (R311): steward and engine revisions; one slot. -/
def execGetFwInfo (s : State) : Host.Outcome State Fault Refusal :=
  whenOpen s (fun s => answer .success [s.efl.version, 0xB0, 1, 0] s)

/-- GET_TIMESTAMP (R311, R517): timebase plus offset. -/
def execGetTimestamp (s : State) : Host.Outcome State Fault Refusal :=
  whenOpen s (fun s => answer .success [wallTime (engineNow s) s] s)

/-- SET_TIMESTAMP (R311, R517): TBS_OFFSET becomes the host value less the timebase value. -/
def execSetTimestamp (value : DWord) (s : State) : Host.Outcome State Fault Refusal :=
  whenOpen s (fun s =>
    answer .success [] { s with tbs := { s.tbs with offset := (value.toNat + 2 ^ 64 - engineNow s % 2 ^ 64) % 2 ^ 64 } })

/-- The opcodes of R311 and R315, in the order of the Command Effects Log (R310). -/
def commandOpcodes : List Nat :=
  [0x0001, 0x0002, 0x0100, 0x0101, 0x0102, 0x0103, 0x0200, 0x0300, 0x0301, 0x0400, 0x0401, 0x4000, 0x4100, 0x4102, 0x4103,
   0x4200, 0x4201, 0x4202, 0x4203, 0x4204, 0x4300, 0x4400, 0x4401] ++
  [0xC000, 0xC001, 0xC002, 0xC003, 0xC004, 0xC005, 0xC006]

/-- GET_SUPPORTED_LOGS (R310, R311): the Command Effects Log, with its number of entries. -/
def execGetSupportedLogs (s : State) : Host.Outcome State Fault Refusal :=
  whenOpen s (fun s => answer .success [1, commandOpcodes.length] s)

/-- GET_LOG (R310, R311): entries of the Command Effects Log; `offset` and `length` count entries. -/
def execGetLog (cel : Bool) (offset length : Nat) (s : State) : Host.Outcome State Fault Refusal :=
  whenOpen s (fun s =>
    if cel && decide (offset + length ≤ commandOpcodes.length) then
      answer .success ((commandOpcodes.drop offset).take length) s
    else answer .invalidInput [] s)

/-- IDENTIFY_MEMORY_DEVICE (R102, R311). -/
def execIdentifyMemoryDevice (s : State) : Host.Outcome State Fault Refusal :=
  whenOpen s (fun s =>
    let c := capGranules s * 4096
    answer .success [c, 0, c, 0, 65536, 65536, 0] s)

/-- GET_PARTITION_INFO (R311): active volatile and active persistent capacity. -/
def execGetPartitionInfo (s : State) : Host.Outcome State Fault Refusal :=
  whenOpen s (fun s => answer .success [0, capGranules s * 4096] s)

/-- GET_LSA (R313). -/
def execGetLsa (offset length : Nat) (s : State) : Host.Outcome State Fault Refusal :=
  whenOpen s (fun s =>
    if offset + length ≤ 65536 then reply .success ((List.range length).map (fun i => lsaByte (offset + i) s)) s
    else answer .invalidInput [] s)

/-- SET_LSA (R313). The steward writes embedded flash: outside the window of R405, or while an operation runs, nothing is written, and the
command returns Retry Required (DESIGN CHOICE, log entry 107). -/
def execSetLsa (offset : Nat) (data : List Byte) (s : State) : Host.Outcome State Fault Refusal :=
  whenOpen s (fun s =>
    if offset + data.length ≤ 65536 && !eflReady s then answer .retryRequired [] s
    else if offset + data.length ≤ 65536 then answer .success [] (writeLsa offset data s)
    else answer .invalidInput [] s)

/-- Health Status bits: Maintenance Needed, Performance Degraded, Hardware Replacement Needed (R312, R395). -/
def healthBits (s : State) : Nat :=
  let slow := (List.range 12).any (fun c => channelRetired c s) || s.cache.mismatch || decide (2 ≤ reefLevel s) ||
    s.thm.zones.any (·.throttle)
  b01 (s.nand.degraded || s.gau.overdue) + 2 * b01 slow + 4 * b01 (s.stg.exhausted || s.flt.engineLive.contains 16)

/-- GET_HEALTH_INFO (R312): health bits, Media Status (0 Normal, 1 Not Ready), Life Used, temperature, dirty shutdowns,
corrected volatile and persistent errors. -/
def execGetHealthInfo (s : State) : Host.Outcome State Fault Refusal :=
  whenOpen s (fun s =>
    answer .success
      [healthBits s, b01 (!mediaReady s), lifeUsed s, ofSigned 16 ((zoneMax 0 s).getD 0 / 16), s.mbx.dirtyShutdowns, 0,
       satAdd max32 (s.cache.ch.map (·.ce)).sum 0] s)

/-- GET_ALERT_CONFIGURATION (R311). -/
def execGetAlertConfiguration (s : State) : Host.Outcome State Fault Refusal :=
  whenOpen s (fun s => answer .success [s.mbx.lifeAlert, s.mbx.tempAlert, s.mbx.ceAlert] s)

/-- SET_ALERT_CONFIGURATION (R311). -/
def execSetAlertConfiguration (lifeUsed temperature correctedErrors : Option Nat) (s : State) : Host.Outcome State Fault Refusal :=
  whenOpen s (fun s => answer .success [] { s with mbx := { s.mbx with
    lifeAlert := lifeUsed.getD s.mbx.lifeAlert, tempAlert := temperature.getD s.mbx.tempAlert,
    ceAlert := correctedErrors.getD s.mbx.ceAlert } })

/-- GET_SHUTDOWN_STATE (R313). -/
def execGetShutdownState (s : State) : Host.Outcome State Fault Refusal :=
  whenOpen s (fun s => answer .success [s.mbx.shutdown] s)

/-- SET_SHUTDOWN_STATE (R313): stored and returned unchanged; as SET_LSA outside the window of R405 (DESIGN CHOICE, log entry 107). -/
def execSetShutdownState (value : Nat) (s : State) : Host.Outcome State Fault Refusal :=
  whenOpen s (fun s => if !eflReady s || blockWorn 304 s then answer .retryRequired [] s else answer .success [] { s with mbx := { s.mbx with shutdown := value } })

/-- GET_POISON_LIST (R102, R304): the overflow flag and its timestamp, More Media Error Records, then for each entry that
meets the range its DPA, its lines and its source. -/
def execGetPoisonList (dpa lines : Nat) (s : State) : Host.Outcome State Fault Refusal :=
  whenOpen s (fun s =>
    let lo := dpa / 64
    let hit := (poisonList s).filter (fun e => decide (e.line < lo + lines) && decide (lo < e.line + e.lines))
    let more := s.restore.listPartial || s.cache.overflow
    answer .success ([b01 s.cache.overflow, s.cache.overflowTs, b01 more] ++ hit.flatMap (fun e => [64 * e.line, e.lines, e.source])) s)

/-- UNSUPPORTED_COMMAND (R311, R315). -/
def execUnsupportedCommand (_opcode : Nat) (s : State) : Host.Outcome State Fault Refusal :=
  whenOpen s (fun s => answer .unsupported [] s)

/-! ### Background commands (R310, R317 to R319) -/

/-- Opcode of a background command. -/
def bgOpcodeOf : BgCmd → Nat
  | .sanitize => 0x4400 | .secureErase => 0x4401 | .sealImage => 0xC002 | .dropImage => 0xC003

/-- Whether a background command may start: ARMED, and none runs (R310, R315, R318). -/
def mayStartBg (s : State) : Bool := s.vlt.state = .armed && s.mbx.bg.isNone && s.mbx.phase = .draining

/-- A background command starts; one that seals holds BOOST set (R317, R318). -/
def startBg (c : BgCmd) (phase : BgPhase) (s : State) : State :=
  { s with
    mbx := { s.mbx with bg := some c, phase := phase, bgOpcode := bgOpcodeOf c, bgPercent := 0, sealBroken := false },
    stg := { s.stg with sealBoost := s.stg.sealBoost || c ≠ .sanitize } }

/-- Step 1 of R318: every granule ZERO without a knotted copy, the poison list empty; the commands' background state was
set before. -/
def emptyCache (s : State) : State := evaluate (checkComplete (emptyPoison (zeroMap (requeueFetches s))))

/-- SANITIZE (R318): step 1 at once, with the protected capacity and the system maps written with zero; then the erasure. -/
def execSanitize (s : State) : Host.Outcome State Fault Refusal :=
  whenOpen s (fun s =>
    if mayStartBg s then
      let s := forgetEpochs (startBg .sanitize .erasing s)
      answer .backgroundStarted [] (emptyCache { s with dram := [] })
    else answer .busy [] s)

/-- SEAL_IMAGE (R317). -/
def execSealImage (input : List Byte) (s : State) : Host.Outcome State Fault Refusal :=
  whenOpen s (fun s =>
    if !input.isEmpty then reply .invalidInput [] s
    else if mayStartBg s then reply .backgroundStarted [] (startBg .sealImage .draining s)
    else reply .busy [] s)

/-- Whether a seal waits for the residual: a command that seals, or the capacity exercise (R317, R318, R379). -/
def sealWaits (s : State) : Bool :=
  s.mbx.phase = .draining && (s.chg.phase = .seal ||
    s.mbx.bg = some .sealImage || s.mbx.bg = some .dropImage || s.mbx.bg = some .secureErase)

/-- SEAL_RESIDUAL_ZERO (R317, R379). -/
def execSealResidualZero (s : State) : Host.Outcome State Fault Refusal :=
  if sealWaits s && residual s = 0 && isArmed s && s.warm.engineUp then
    let s := closeOpen s
    if unresolved s < 4 && s.stg.nextEpoch < 2 ^ 48 - 2 then .next (beginSeal s) else .next s
  else .next s

/-- SEAL_TIMEOUT (R317, R382): 10 s without the residual reaching 0. -/
def execSealTimeout (s : State) : Host.Outcome State Fault Refusal :=
  if !sealWaits s then .next s
  else if s.chg.phase = .seal && s.mbx.bg.isNone then .next (withAbort (endExercise 7) s)
  else if s.mbx.bg.isSome then .next (releaseWaiting (endBackground .retryRequired s))
  else .next s

/-- DROP_IMAGE (R315, R318): the key 0x4452_4F50 and its complement. -/
def execDropImage (input : List Byte) (s : State) : Host.Outcome State Fault Refusal :=
  whenOpen s (fun s =>
    if input ≠ leBytes 4 0x44524F50 ++ leBytes 4 0xBBADB0AF then reply .invalidInput [] s
    else if mayStartBg s then reply .backgroundStarted [] (emptyCache (startBg .dropImage .draining s))
    else reply .busy [] s)

/-- BACKGROUND_COMMAND_DONE (R310, R318, R320): the erasure of a Sanitize, or the work of another command, is done. -/
def execBackgroundCommandDone (s : State) : Host.Outcome State Fault Refusal :=
  match s.mbx.bg, s.mbx.phase with
  | some _, .finished code => .next (releaseWaiting (endBackground code s))
  | some .sanitize, .erasing => .next (releaseWaiting (endBackground .success (eraseStore s)))
  | _, _ => .next s

/-! ### Vendor commands (R315, R316) -/

/-- GET_VAULT_STATUS (R315, R317). -/
def execGetVaultStatus (input : List Byte) (s : State) : Host.Outcome State Fault Refusal :=
  whenOpen s (fun s =>
    if !input.isEmpty then reply .invalidInput [] s
    else reply .success
      (leBytes 4 (vltStateWord s) ++ leBytes 4 (reefWord s) ++ leBytes 4 (imageWord s) ++ leBytes 4 s.stg.fill ++
       leBytes 8 (residualBytes s) ++ leBytes 8 s.stg.safeTs ++ leBytes 8 (engineNow s) ++ leBytes 4 s.stg.eGuar ++
       leBytes 4 (epbWord s) ++ leBytes 4 (restoreWord s) ++ leBytes 4 (b01 (sealedImage s) + 2 * b01 s.nand.degraded) ++
       leBytes 8 (shedWord s)) s)

/-- REQUEST_VAULT (R315, R316): the key 0x5641_4C54 and its complement; the engine drives VREQ active. -/
def execRequestVault (input : List Byte) (s : State) : Host.Outcome State Fault Refusal :=
  whenOpen s (fun s =>
    if input ≠ leBytes 4 0x56414C54 ++ leBytes 4 0xA9BEB3AB then reply .invalidInput [] s
    else if isArmed s then reply .success [] (drivePair .vreq true s)
    else reply .busy [] s)

/-- GET_LOSS_REPORT (R315). -/
def execGetLossReport (input : List Byte) (s : State) : Host.Outcome State Fault Refusal :=
  whenOpen s (fun s =>
    if !input.isEmpty then reply .invalidInput [] s
    else reply .success
      (leBytes 4 (imageWord s) ++ leBytes 4 (restoreWord s) ++ leBytes 8 s.restore.epoch ++
       (List.range 64).flatMap (fun n => leBytes 4 (lossCutWord n s) ++ leBytes 4 (lossCountWord n s))) s)

/-- Bytes `o` to `o + n - 1` of an input as a number. -/
def inputAt (input : List Byte) (o n : Nat) : Nat := ofLeBytes ((input.drop o).take n)

/-- SET_BOLT_CAP (R89, R315): writes BLT_CAP[n] as a complement-paired write. -/
def execSetBoltCap (input : List Byte) (s : State) : Host.Outcome State Fault Refusal :=
  whenOpen s (fun s =>
    let v := inputAt input 4 4
    if input.length ≠ 12 ∨ 62 < inputAt input 0 1 ∨ inputAt input 1 3 ≠ 0 ∨ 2 ^ 27 ≤ v ∨ v + inputAt input 8 4 ≠ 2 ^ 32 - 1 then
      reply .invalidInput [] s
    else if s.drf.active.isNone then reply .busy [] s
    else reply .success [] { s with cache := { s.cache with caps := tput 0 (inputAt input 0 1) v s.cache.caps } })

/-- VENDOR_GET_LOG (R315, R440): entries of the present or the previous-life log, oldest first. -/
def execVendorGetLog (input : List Byte) (s : State) : Host.Outcome State Fault Refusal :=
  whenOpen s (fun s =>
    let sel := inputAt input 0 1
    let first := inputAt input 4 2
    let count := inputAt input 6 2
    if input.length ≠ 8 ∨ 1 < sel ∨ inputAt input 1 3 ≠ 0 ∨ 4095 < first ∨ count = 0 ∨ 2048 < count then
      reply .invalidInput [] s
    else
      let l := if sel = 0 then s.log.ring else s.log.prev
      reply .success ((logFrom first count l).flatMap logBytes) s)

end Sys2Proof.Machine
end

