-- ==== Sys2Proof/Machine/Rail.lean ====
section
/-! DEFINITION. The rail link: the VCORE_E controller's end and the rail governor's (R267 to R274, R279 to R288). -/

namespace Sys2Proof.Machine

/-! ### The power controller's end -/

/-- Whether the power controller decodes VCMD: VCORE_E is on and R530 holds. -/
def vcmdDecoded (s : State) : Bool := s.vcore.on && engineJudged s

/-- Whether a frame is taken in at all (R279). -/
def frameWhole (x : RailShape) : Bool := x.bits = 64 && !x.both && decide (x.spacerNs < 40)

/-- Whether a receiver takes a frame: it is whole, and its complement half matches (R279, R282). -/
def frameTaken (word complement : Word) (x : RailShape) : Bool := frameWhole x && complement = ~~~word

/-- An acknowledge word; FB is set while fallback lasts and after it (R281). -/
def ackWord (status seq vout : Nat) (s : State) : Nat :=
  status % 16 * 2 ^ 28 + seq % 16 * 2 ^ 24 + b01 (s.vcore.wasFallback || s.vcore.fallback) * 2 ^ 23 + s.vcore.iout % 128 * 2 ^ 16 +
  vout % 256 * 2 ^ 8 + s.vcore.target % 256

/-- SEQ of a command word. -/
def cmdSeq (w : Nat) : Nat := bitsOf w 27 24

/-- Sends an acknowledge; FB covers the time up to it (R281). The status of the last word's own is kept (R285). -/
def sendAck (status seq vout : Nat) (s : State) : State :=
  let own := s.vcore.lastWord.map cmdSeq = some seq
  emit (.acknowledge (ackWord status seq vout s))
    { s with vcore := { s.vcore with lastAck := if own then some status else s.vcore.lastAck, wasFallback := false } }

/-- The code that a displaced slew has reached: between where it started and its target, free in between (R284). -/
def reached (s : State) : Nat :=
  let lo := Nat.min s.vcore.vout s.vcore.target
  let hi := Nat.max s.vcore.vout s.vcore.target
  lo + Config.freeNat s.free % (hi - lo + 1)

/-- An acknowledge with the voltage measured, which is free while a slew is in progress (R281). -/
def sendMeasured (status seq : Nat) (s : State) : State :=
  if s.vcore.slewing.isSome then sendAck status seq (reached s) (nextFree s) else sendAck status seq s.vcore.vout s

/-- Whether a code lies within 7.5 mV of another: 3 codes (R283, R284). -/
def nearTarget (v code : Nat) : Bool := decide (v ≤ code + 3) && decide (code ≤ v + 3)

/-- A slew that a SET displaces is acknowledged first, with the voltage reached: SUPERSEDED, or DONE once the output has entered
its window (R284). -/
def displace (s : State) : State :=
  match s.vcore.slewing with
  | some old =>
    let v := reached s
    sendAck (if nearTarget v s.vcore.target then 0 else 1) old v (nextFree { s with vcore := { s.vcore with vout := v } })
  | none => s

/-- A SET to a code (R283, R284): the present voltage is DONE at once. -/
def takeSet (seq code slew : Nat) (s : State) : State :=
  let s := displace s
  let s := { s with vcore := { s.vcore with target := code, slew := slew } }
  if s.vcore.vout = code then sendAck 0 seq code { s with vcore := { s.vcore with slewing := none } }
  else { s with vcore := { s.vcore with slewing := some seq } }

/-- A word as the last one received (R285). -/
def noteWord (w : Nat) (s : State) : State := { s with vcore := { s.vcore with lastWord := some w, lastAck := none } }

/-- The answer to a word not received before (R280, R282 to R284). -/
def takeCommand (w : Nat) (s : State) : State :=
  let seq := cmdSeq w
  let type := w / 2 ^ 28 % 16
  let s := noteWord w s
  if type = 1 then
    if 180 < w % 256 ∨ bitsOf w 17 16 = 3 then sendMeasured 2 seq s else takeSet seq (w % 256) (bitsOf w 17 16) s
  else if type = 2 then sendMeasured 4 seq s
  else if type = 3 then s
  else sendMeasured 2 seq s

/-- The answer to a retransmission: REPORT again, DONE or REFUSED again where the command has ended, and nothing while its slew is
in progress (R285). -/
def repeatAck (w : Nat) (s : State) : State :=
  if w / 2 ^ 28 % 16 = 2 then sendMeasured 4 (cmdSeq w) s
  else match s.vcore.lastAck with
    | some status => sendMeasured status (cmdSeq w) s
    | none => s

/-- A frame on VCMD (R279, R282, R285, R286): one that is not whole or whose complement fails is discarded and counted (DESIGN
CHOICE for the first, log entry 59); a valid frame ends fallback. `iout` is the output current as the acknowledges to it measure it
(R281). -/
def vcmdFrame (word complement : Word) (shape : RailShape) (iout : Nat) (s : State) : State :=
  if !vcmdDecoded s then s
  else if !frameTaken word complement shape then { s with vcore := { s.vcore with errs := satAdd max32 s.vcore.errs 1 } }
  else
    let w := word.toNat
    let s := { s with vcore := { s.vcore with iout := iout } }
    let s := if s.vcore.fallback then
        pcClear 197 { s with vcore := { s.vcore with fallback := false, wasFallback := true } } else s
    if s.vcore.lastWord = some w && w / 2 ^ 28 % 16 ≠ 3 then repeatAck w s else takeCommand w s

/-- SET (R282 to R286). -/
def execSet (word complement : Word) (shape : RailShape) (iout : Nat) (s : State) : Host.Outcome State Fault Refusal :=
  .next (vcmdFrame word complement shape iout s)

/-- QUERY (R283, R285, R286). -/
def execQuery (word complement : Word) (shape : RailShape) (iout : Nat) (s : State) : Host.Outcome State Fault Refusal :=
  .next (vcmdFrame word complement shape iout s)

/-- ENGAGE (R273): not acknowledged; it displaces nothing (R284). -/
def execEngage (word complement : Word) (shape : RailShape) (iout : Nat) (s : State) : Host.Outcome State Fault Refusal :=
  .next (vcmdFrame word complement shape iout s)

/-- SLEW_SETTLED (R283, R356): DONE with the output at its target, which DOM1 shows as sensed. The current is in 0.5 A
here and in 0.1 A there. -/
def execSlewSettled (iout : Nat) (s : State) : Host.Outcome State Fault Refusal :=
  match s.vcore.slewing with
  | some seq =>
    if s.vcore.on then
      let s := { s with vcore := { s.vcore with slewing := none, vout := s.vcore.target, iout := iout } }
      let s := modDom 1 (fun x => { x with vout := domTarget 1 s, iout := 5 * iout }) s
      .next (sendAck 0 seq s.vcore.target s)
    else .next s
  | none => .next s

/-- RAIL_FALLBACK (R286): no valid frame for 5 ms; the higher of target and vfall is held; RAIL_LINK_P. -/
def execRailFallback (s : State) : Host.Outcome State Fault Refusal :=
  if s.vcore.on && !s.vcore.fallback then
    let t := Nat.max s.vcore.target (setting s P.vfall)
    let v := if s.vcore.slewing.isSome then s.vcore.vout else t
    .next (pcFault 197 0 { s with vcore := { s.vcore with fallback := true, target := t, vout := v } })
  else .next s

/-! ### The engine's end -/

/-- Whether a command word is a SET. -/
def isSet (w : Nat) : Bool := w / 2 ^ 28 % 16 = 1

/-- Takes in what an acknowledge reports (R281, R285, R289). -/
def noteAck (w : Nat) (s : State) : State :=
  let status := w / 2 ^ 28 % 16
  { s with rail := { s.rail with
      iout := bitsOf w 22 16, vout := bitsOf w 15 8, target := if status = 0 then w % 256 else s.rail.target,
      fbSeen := s.rail.fbSeen || bitOf w 23,
      superseded := if status = 1 then satAdd max32 s.rail.superseded 1 else s.rail.superseded,
      outstanding := if s.rail.outstanding.any (fun c => cmdSeq c.1 = cmdSeq w)
        then s.rail.outstanding.takeWhile (fun c => cmdSeq c.1 ≠ cmdSeq w) else s.rail.outstanding } }

/-- RAIL_ACK (R267, R279, R282, R285, R287): after a link-down the loop resumes, in FENCED to KNOT with the start setpoint; in every
other vault state the setpoint is vcore_normal again. -/
def execRailAck (word complement : Word) (shape : RailShape) (s : State) : Host.Outcome State Fault Refusal :=
  if !s.warm.engineUp then .next s
  else if !frameTaken word complement shape then .next { s with rail := { s.rail with errs := satAdd max32 s.rail.errs 1 } }
  else
    let s := noteAck word.toNat s
    if s.rail.linkDown then
      let s := engineClear 57 { s with rail := { s.rail with linkDown := false } }
      .next (if loopStates s then startLoop s else normalSetpoint s)
    else .next s

/-- The rail link is declared down (R287). The commands that no acknowledge came for are given up, so that SLEWING shows none; R287 does
not say what becomes of them (DESIGN CHOICE, log entry 100). -/
def railLinkDown (s : State) : State :=
  engineFault 57 0 { s with rail := { s.rail with linkDown := true, loopOn := false, outstanding := [] } }

/-- RAIL_ACK_TIMEOUT (R285, R287): the command whose time has ended goes out again as it was, up to three times; while the link is
down only the next QUERY follows. -/
def execRailAckTimeout (seq : Nat) (s : State) : Host.Outcome State Fault Refusal :=
  match s.rail.outstanding.find? (fun c => cmdSeq c.1 = seq) with
  | some (w, sends) =>
    if s.rail.linkDown then .next { s with rail := { s.rail with outstanding := [] } }
    else if sends < 4 then
      .next (emit (.command w) { s with rail := { s.rail with
        outstanding := s.rail.outstanding.map (fun c => if cmdSeq c.1 = seq then (c.1, sends + 1) else c) } })
    else .next (railLinkDown s)
  | none => .next s

/-- RAIL_IDLE_QUERY (R286, R287). -/
def execRailIdleQuery (s : State) : Host.Outcome State Fault Refusal :=
  if s.warm.engineUp then
    .next (sendQuery (if s.rail.linkDown then { s with rail := { s.rail with outstanding := [] } } else s))
  else .next s

/-- The setpoint that a loop window asks for (R269). -/
def loopSetpoint (starves : Nat) (s : State) : Nat :=
  if 0 < starves then Nat.min 180 (s.rail.setpoint + setting s P.upStep)
  else if 4 ≤ s.rail.calm then Nat.max (setting s P.vminVault) (s.rail.setpoint - 1)
  else s.rail.setpoint

/-- LOOP_WINDOW_EXPIRY (R269, R270). -/
def execLoopWindowExpiry (starves slackPct pace : Nat) (s : State) : Host.Outcome State Fault Refusal :=
  if s.rail.loopOn && s.warm.engineUp && loopStates s then
    let calm := if starves = 0 && decide (setting s P.slackDown ≤ slackPct) then Nat.min 4 (s.rail.calm + 1) else 0
    let s := sample 10 0 pace { s with rail := { s.rail with calm := calm, pace := pace } }
    let n := loopSetpoint starves s
    if n = s.rail.setpoint || s.rail.outstanding.any (fun c => isSet c.1) then .next s else .next (sendSet n s)
  else .next s

/-- A step of current limited to engage_step upward and 10 A downward, in units of 0.25 A (R272, R274). -/
def engageLimit (total : Int) (s : State) : Int :=
  let up : Int := setting s P.engageStep
  if up < total then up else if total < -40 then -40 else total

/-- ENGAGE_STEP (R272 to R274): one step is announced; what is left waits for the next. -/
def execEngageStep (quarterAmps : Int) (s : State) : Host.Outcome State Fault Refusal :=
  if !s.warm.engineUp then .next s
  else
    let total := s.rail.engaged + quarterAmps
    let step := engageLimit total s
    let s := { s with rail := { s.rail with engaged := total - step } }
    if step = 0 then .next s else .next (emit (.command (engageWord step)) s)

end Sys2Proof.Machine
end

