-- ==== Sys2Proof/Machine/StoreBase.lean ====
section
/-! DEFINITION. The shared operations of the energy store: its cells, its temperatures, the charger and what starts and
stops it (R357 to R365, R379, R395, R398). -/

namespace Sys2Proof.Machine

/-! ### The store of the active draft -/

/-- The STORE section of the active draft. -/
def storeSec (s : State) : Option StoreSec := s.drf.active.map (·.store)

/-- A field of the STORE section; 0 without a draft. -/
def storeNat (f : StoreSec → Nat) (s : State) : Nat := match storeSec s with | some x => f x | none => 0

/-- The declared cell count (R357). -/
def cellCount (s : State) : Nat := storeNat (·.cells) s

/-- The in-range cells (R362): those that a scan has read and found not faulty. -/
def inRange (s : State) : List Nat :=
  (List.range (cellCount s)).filter (fun i => decide (i < s.cell.v.length) && !s.cell.out.contains i)

/-- n of R359, R364 and R375. -/
def nCells (s : State) : Nat := (inRange s).length

/-- A cell's voltage in units of 100 uV (R360). -/
def cellVolt (i : Nat) (s : State) : Nat := (s.cell.v[i]?).getD 0

/-- The lowest in-range cell in units of 100 uV; none without a cell in range. -/
def lowestCell (s : State) : Option Nat :=
  (minOf ((inRange s).map (fun i => (cellVolt i s : Int)))).map Int.toNat

/-- Whether a cell is undervolted (R362). -/
def cellLow (s : State) : Bool := !s.cell.low.isEmpty

/-- Whether a source of R362 is active. -/
def storeFault (s : State) : Bool := s.cell.ov || cellLow s || s.cell.short || s.cell.tapOpen

/-! ### The open-circuit voltage and the first reading (R366, R370, R381, R563) -/

/-- The OCV state of charge of a cell voltage in 0.1 mV, in 1/1,000,000: the lowest that has the voltage; `k` counts the
points passed. -/
def socIn (v k : Nat) : List Nat → Nat
  | a :: b :: rest =>
    if v ≤ 10 * a then 31250 * k
    else if v ≤ 10 * b then 31250 * k + 31250 * (v - 10 * a) / (10 * (b - a))
    else socIn v (k + 1) (b :: rest)
  | _ => 1000000

/-- The OCV state of charge of a voltage. -/
def ocvSoc (v : Nat) (s : State) : Nat := match storeSec s with | some x => socIn v 0 x.ocv | none => 0

/-- The mean in-range cell in 0.1 mV. -/
def meanCell (s : State) : Nat :=
  if nCells s = 0 then 0 else ((inRange s).map (fun i => cellVolt i s)).sum / nCells s

/-- imb: the gap by the OCV table between the mean and the lowest cell (R366). -/
def imbNow (s : State) : Nat := ocvSoc (meanCell s) s - ocvSoc ((lowestCell s).getD 0) s

/-- GAU_SOC.COUNT (R370). -/
def countNow (s : State) : Nat := if s.gau.cap = 0 then 0 else s.gau.qrem * 1000 / s.gau.cap

/-- Whether the store discharges: below -i_quiet. -/
def discharging (s : State) : Bool := decide (s.gau.current < -(setting s P.iQuiet : Int))

/-- The first reading of the cells sets GAU_QREM, imb and GAU_QUNC (R563). -/
def firstReading (s : State) : State :=
  let q := ocvSoc ((lowestCell s).getD 0) s
  { s with gau := { s.gau with
      loaded := true, qrem := q * s.gau.cap / 1000000, imb := imbNow s, qunc := 50 * s.gau.cap,
      soc := if s.gau.cap = 0 then 0 else q * s.gau.cap / 1000000 * 1000 / s.gau.cap } }

/-- Whether the first reading may be taken: of scanned cells, with the store current below i_quiet (R563). -/
def firstDue (s : State) : Bool :=
  !s.gau.loaded && decide (s.gau.current.natAbs < setting s P.iQuiet) && (lowestCell s).isSome

/-! ### Store temperatures in 1/16 degree C (R363) -/

/-- The lower edge of the discharge window (R357). -/
def dischargeLow (s : State) : Int := if storeNat (·.chem) s = 0 then -320 else -480

/-- T_store_max over the valid store thermistors. -/
def tStoreMax (s : State) : Option Int := maxOf (zoneReadings 4 s)

/-- T_store_min; the lower edge of the discharge window without a valid thermistor (R363). -/
def tStoreMin (s : State) : Int := (minOf (zoneReadings 4 s)).getD (dischargeLow s)

/-- Whether no store thermistor is valid: NO_STORE_TEMP (R363). -/
def noStoreTemp (s : State) : Bool := (zoneReadings 4 s).isEmpty

/-- The mean store temperature, and T_store_min without a reading. -/
def tStoreMean (s : State) : Int :=
  let l := zoneReadings 4 s
  if l.isEmpty then tStoreMin s else l.foldl (· + ·) 0 / (l.length : Int)

/-- Whether T_store_min and T_store_max lie within 10 to 40 degrees C (R377, R379). -/
def restTemps (s : State) : Bool :=
  match tStoreMax s with | some m => decide (160 ≤ tStoreMin s) && decide (m ≤ 640) | none => false

/-- Whether the store's temperature has been judged since the reset: a sensor of the store has a reading or is broken, or the gauge has
reported (R363, R389). -/
def storeJudged (s : State) : Bool :=
  s.gau.reported || (zoneSensors 4 s).any (fun n => (sensorAt n s).seen || (sensorAt n s).broken)

/-- TEMP_INHIBIT: T_store_max outside the charge window, or no valid thermistor (R364, R389). -/
def tempInhibit (s : State) : Bool :=
  match tStoreMax s, storeSec s with
  | some t, some x => decide (t < 16 * x.chgLo) || decide (16 * x.chgHi < t)
  | _, _ => true

/-! ### Charger (R364, R365) -/

/-- Whether the charger may charge (R364), and the first reading, which comes before its first start, is taken (R563). -/
def chargeAllowed (s : State) : Bool :=
  s.gau.loaded && s.vin.good && (isArmed s || s.vlt.state = .notArmed) && !s.vlt.confirming && !s.flt.belay && !exercising s &&
  !tempInhibit s && !chargeStopped s && !s.pwr.huChecking

/-- The limit of the charge current in mA (R362, R364, R395). -/
def chargeLimit (s : State) : Nat :=
  let i := 100 * setting s P.chgCurrent
  let i := if (zoneAt 3 s).throttle then i / 2 else i
  let i := if cellLow s then Nat.min i 100 else i
  let i := match storeSec s with
    | some x => if decide (tStoreMin s < 16 * x.coldT) then Nat.min i x.coldMa else i
    | none => i
  if s.cell.stackMv = 0 then i else Nat.min i (setting s P.chgPinMax * 1000000 / s.cell.stackMv)

/-- The charge current at step `k` of the rise in four equal steps (R373). -/
def chargeStep (k : Nat) (s : State) : Nat := chargeLimit s * k / 4

/-! ### The class (R368) -/

/-- Whether the FAST class holds (R368). -/
def fastClass (s : State) : Bool :=
  inVault s || s.vlt.state = .hold || conducts s || discharging s || s.chg.phase = .discharge || s.chg.phase = .tail ||
  (s.gau.reported && decide (s.gau.soc < 100))

/-- Whether the NORMAL class holds, the 10 s after a current apart (R368). -/
def normalClass (s : State) : Bool := charging s || decide (setting s P.iQuiet ≤ s.gau.current.natAbs)

/-- The class that holds: a higher one from the instant its condition holds; QUIET only since QUIET_ENTRY (R368). -/
def classNow (s : State) : Nat :=
  if fastClass s then 2 else if normalClass s then 1 else if s.gau.cls = 0 then 0 else 1

/-- The class is taken down, so that QUIET is left (R368). -/
def updateClass (s : State) : State := { s with gau := { s.gau with cls := classNow s } }

/-- The charger starts; where it may not it stands inhibited, or in fault under a source that stops it (R364, R365,
R389). -/
def startCharger (s : State) : State :=
  if chargeAllowed s then
    updateClass { s with chg := { s.chg with st := .cc, step := 1, iout := chargeStep 1 s, balancing := false, probe := false } }
  else
    inhibitCharger s

/-- Whether power-good has passed in this life of the chipset (R352, R365). -/
def powerGood (s : State) : Bool := allGood [6, 7] s

/-- A store fault or a store temperature outside 10 to 40 degrees C ends an exercise (R382). -/
def exerciseCheck (s : State) : State :=
  if storeFault s then withAbort (endExercise 3) s
  else if !restTemps s then withAbort (endExercise 4) s
  else s

/-- The probe's current: 2 A, as far as the charger may draw it (R364, R373). -/
def probeCurrent (s : State) : Nat := Nat.min 2000 (chargeLimit s)

/-- The charger follows its conditions: one that charges, or probes, stops when it may not; one that is held back starts when it
may; one that is off starts while the reported state of charge lies below recharge_soc, and in RECHARGE (R364, R365, R379; DEDUCED,
log entry 38). -/
def chargerCheck (s : State) : State :=
  if charging s then (if chargeAllowed s then s else startCharger s)
  else if s.chg.probe && !chargeAllowed s then { s with chg := { s.chg with probe := false, iout := 0 } }
  else if s.chg.st = .inhibited || s.chg.st = .fault then (if chargeAllowed s || chargeStopped s ≠ (s.chg.st = .fault) then startCharger s else s)
  else if (s.chg.st = .off || s.chg.st = .terminated) && powerGood s && chargeAllowed s &&
      (s.chg.phase = .recharge || (s.gau.reported && decide (s.gau.soc < 10 * setting s P.rechargeSoc))) then startCharger s
  else s

/-- The charge current follows its limit; with the throttle of zone 3 balancing stops (R362, R364, R395). -/
def currentFollows (s : State) : State :=
  let s := if (zoneAt 3 s).throttle then { s with cell := { s.cell with bleed := [] } } else s
  if s.chg.st = .cc then { s with chg := { s.chg with iout := chargeStep s.chg.step s } }
  else if s.chg.st = .cv then { s with chg := { s.chg with iout := Nat.min s.chg.iout (chargeLimit s) } }
  else if s.chg.probe then { s with chg := { s.chg with iout := probeCurrent s } }
  else s

end Sys2Proof.Machine
end

