-- ==== Sys2Proof/Machine/Power.lean ====
section
/-! DEFINITION. The power tree: VIN senses, the hold-up test, bus phases, overload, collapse and loss, domains, shedding
(R155, R325, R331, R338 to R354). -/

namespace Sys2Proof.Machine

/-! ### VIN senses and the hold-up switch (R325, R331) -/

/-- VIN_SENSE_DISAGREE (R325): the paths have disagreed for 1 ms. -/
def execVinSenseDisagree (s : State) : Host.Outcome State Fault Refusal :=
  .next (if s.pwr.keeper then pcFault 164 0 s else s)

/-- The open-switch check of R331: a current of 0.1 A or more through an OPEN switch is a shorted pair. -/
def openCheck (differ : Bool) (ma : Nat) (s : State) : State :=
  if !differ then s
  else pcCond 238 (decide (100 ≤ ma)) { s with pwr := { s.pwr with huShort := decide (100 ≤ ma) } }

/-- The test of R331: the store current reaches 0.5 A and each gate drive lies in range. -/
def switchTest (ma : Nat) (gatesOk : Bool) (s : State) : State :=
  let fails := !(decide (500 ≤ ma) && gatesOk)
  pcCond 165 fails { s with pwr := { s.pwr with huTestFail := fails } }

/-- The charger is stopped for the open-switch check; what it did is kept (R331). -/
def pauseCharger (s : State) : State :=
  let was := if charging s || s.chg.st = .reverse then some (s.chg.st, s.chg.iout) else none
  let s := if was.isSome || s.chg.probe then stopCharger s else s
  { s with pwr := { s.pwr with huChecking := true }, chg := { s.chg with paused := was } }

/-- The charger goes on as it did: in reverse where an exercise still runs, or from its start (R331, R379). -/
def restartCharger (was : ChgState) (ma : Nat) (s : State) : State :=
  if was ≠ .reverse then startCharger s
  else if exercising s then { s with chg := { s.chg with st := .reverse, iout := ma } }
  else s

/-- The open-switch check is over: the charger goes on where the check stopped it (R331). -/
def resumeCharger (s : State) : State :=
  let t := { s with pwr := { s.pwr with huChecking := false }, chg := { s.chg with paused := none } }
  match s.chg.paused with
  | some (was, ma) => restartCharger was ma t
  | none => t

/-- The test follows its open-switch check, unless what the check raised has closed the switch (R329, R331). -/
def forceTest (s : State) : State :=
  if s.pwr.huMode = .opened then setHoldup .forced (resumeCharger s)
  else { s with pwr := { s.pwr with huChecking := false }, chg := { s.chg with paused := none } }

/-- HOLDUP_TEST (R331): the open-switch check, while VIN is good and the switch is OPEN; then FORCED for 50 us, and OPEN again
after the test. Where VIN has gone the check ends with no test, and where what the check raised has confirmed a vault or entered belay
the switch stays CLOSED (R148, R329, R431). -/
def execHoldupTest (step : HuStep) (s : State) : Host.Outcome State Fault Refusal :=
  match step with
  | .stop =>
    if s.pwr.keeper && s.vin.good && s.pwr.huMode = .opened && !s.pwr.huChecking && !s.flt.stewardHalted then
      .next (pauseCharger s)
    else .next s
  | .check differ ma =>
    if !s.pwr.huChecking then .next s
    else if s.vin.good then .next (forceTest (openCheck differ ma s))
    else .next (resumeCharger s)
  | .force ma gatesOk =>
    if s.pwr.huMode = .forced then .next (switchTest ma gatesOk (setHoldup .opened s)) else .next s

/-! ### Phases (R338, R339, R342, R345) -/

/-- The bus is lost: the keeper stays, DOM1 to DOM11 have no supply (R342). -/
def busLoss (s : State) : State :=
  let s := pcFault 177 0 { s with pwr := { s.pwr with lost := true, seq := .none, delaying := false } }
  [10, 9, 8, 7, 6, 2, 1, 4, 3, 5, 11].foldl (fun s d => switchOff d s) s

/-- CAUSE of a phase fault (R338). -/
def phaseCause (sense : Bool) : Nat := if sense then 2 else 1

/-- An IBUS phase is dropped (R339); with the last healthy one the bus is lost (R342). -/
def dropBusPhase (p : Nat) (sense : Bool) (s : State) : State :=
  if setting s P.ibusPhases ≤ p ∨ s.pwr.dropped.any (fun e => e.1 = p) then s
  else
    let s := pcFault (166 + p) 0 { s with pwr := { s.pwr with dropped := s.pwr.dropped ++ [(p, phaseCause sense)] } }
    if (healthyPhases s).isEmpty then busLoss s else s

/-- How many VCORE_E phases are still healthy (R345). -/
def vcoreHealthy (s : State) : Nat := (coreHealthy s).length

/-- A VCORE_E phase is dropped (R343): a capability below 32 A derates the rail, and with the last phase it is lost as well and
the engine stops (R345). -/
def dropCorePhase (p : Nat) (sense : Bool) (s : State) : State :=
  if setting s P.vcorePhases ≤ p ∨ s.vcore.dropped.contains p then s
  else
    let s := pcFault (178 + p) 0 { s with vcore := { s.vcore with
      dropped := s.vcore.dropped ++ [p], causes := s.vcore.causes ++ [(p, phaseCause sense)] } }
    let s := if vcoreHealthy s * setting s P.vcorePhaseImax * 9 < 320 then pcFault 182 0 s else s
    if vcoreHealthy s = 0 then pcFault 183 0 (switchOff 1 s) else s

/-- PHASE_FAULT (R338, R339, R342, R343, R345): a dropped phase stays dropped until the next cold reset. -/
def execPhaseFault (vcore : Bool) (p : Nat) (sense : Bool) (s : State) : Host.Outcome State Fault Refusal :=
  if s.drf.active.isNone then .next s
  else if vcore then .next (if (domAt 1 s).on then dropCorePhase p sense s else s)
  else .next (if (domAt 11 s).on then dropBusPhase p sense s else s)

/-! ### Overload, collapse, loss (R340 to R342) -/

/-- The total IBUS current as it is sensed (R340, R356). -/
def senseBus (iout : Nat) (s : State) : State := modDom 11 (fun x => { x with iout := iout }) s

/-- A step of the capability order (R340): DOM10 goes off with IBUS_SHED; a host domain raises IBUS_CAPACITY, once in
the overload, and counts as acted on. -/
def overloadStep (acted : List Nat) (s : State) : State :=
  match (onInShedOrder s).find? (fun d => !acted.contains d) with
  | none => { s with pwr := { s.pwr with overload := some acted } }
  | some d =>
    let s := { s with pwr := { s.pwr with overload := some (acted ++ [d]) } }
    if d = 10 then pcFault 174 0 (shedDomain 10 s)
    else if acted.all (fun e => e = 10) then pcFault 175 0 s
    else s

/-- IBUS_OVERLOAD (R340): the total has exceeded I_cap for 100 us. -/
def execIbusOverload (iout : Nat) (s : State) : Host.Outcome State Fault Refusal :=
  let s := senseBus iout s
  if (domAt 11 s).on && s.pwr.overload.isNone && decide (busCapability s < iout) then .next (overloadStep [] s)
  else .next s

/-- IBUS_OVERLOAD_RECHECK (R340): 200 us after a step; a total at or below I_cap ends the overload. -/
def execIbusOverloadRecheck (iout : Nat) (s : State) : Host.Outcome State Fault Refusal :=
  let s := senseBus iout s
  match s.pwr.overload with
  | none => .next s
  | some acted =>
    if busCapability s < iout then .next (overloadStep acted s)
    else .next { s with pwr := { s.pwr with overload := none } }

/-- IBUS_COLLAPSE (R23, R341): below 85 % for 50 us. The host domains go off together; without a vault one is confirmed
whose fence falls at confirmation; in CONFIRMED or WINDOW the engine fences as at a link-down. -/
def execIbusCollapse (mv : Nat) (s : State) : Host.Outcome State Fault Refusal :=
  if (domAt 11 s).on && decide (100 * mv < 85 * domTarget 11 s) then
    let confirmed := s.vlt.confirming
    let s := modDom 11 (fun x => { x with good := false, vout := mv }) s
    let s := shedTogether true { s with pwr := { s.pwr with collapse := true } }
    if confirmed then .next (pcFault 176 0 (fenceByHost s))
    else .next (pcFault 176 0 { s with vlt := { s.vlt with collapse := !s.flt.belay && noVault s } })
  else .next s

/-- IBUS_LOST (R342): below 50 % for 20 us. -/
def execIbusLost (mv : Nat) (s : State) : Host.Outcome State Fault Refusal :=
  if (domAt 11 s).on && decide (2 * mv < domTarget 11 s) then
    .next (busLoss s)
  else .next s

/-! ### Domains (R347 to R352) -/

/-- Power-good: group 4 is good in the boot sequence. VLT_PG_TS is recorded, the charger starts, after the gauge's first reading where
that is due, and the engine's boot follows (R352, R365, R563); a group that is good again after a rail fault (R349) is no second power-good. -/
def powerIsGood (s : State) : State :=
  if s.warm.step < 6 then
    let s := if firstDue s then firstReading s else s
    startCharger { s with restore := { s.restore with pgTs := now s }, warm := { s.warm with step := 6 } }
  else s

/-- Every domain of the sequence's group is good: group 4 is power-good at a boot and the end of a sequence out of HOLD;
otherwise group_delay runs (R348, R351, R352). -/
def groupIsGood (s : State) : State :=
  if s.pwr.group = 4 && s.pwr.seq = .fromHold then { s with pwr := { s.pwr with seq := .none, delaying := false } }
  else
    let s := { s with pwr := { s.pwr with delaying := true } }
    if s.pwr.group = 4 then powerIsGood s else s

/-- A domain has become good in a sequence of switching on. -/
def sequenceGood (s : State) : State :=
  if s.pwr.seq = .none || s.pwr.delaying then s
  else if s.pwr.group = 5 then nextHost s
  else if allGood (groupDomains s.pwr.group s) s then groupIsGood s
  else s

/-- Whether a domain is judged: VCORE_E is not while a SET is slewing (R348). -/
def domJudged (d : Nat) (s : State) : Bool := (domAt d s).on && !(d = 1 && s.vcore.slewing.isSome)

/-- A domain's rail fault ends: DOM_RAILd, and IBUS_COLLAPSE for IBUS. -/
def railRecovered (d : Nat) (s : State) : State :=
  if d = 11 then pcClear 176 s else pcClear (184 + d) s

/-- DOMAIN_GOOD (R348, R352): 100 us in the window; the intermediate bus and VCORE_E cannot be there without a healthy phase
(R342, R345). -/
def execDomainGood (d mv iout : Nat) (s : State) : Host.Outcome State Fault Refusal :=
  if domJudged d s && hasSupply d s && inWindow d mv s then
    .next (sequenceGood (railRecovered d (modDom d (fun x => { x with good := true, vout := mv, iout := iout }) s)))
  else .next s

/-- GROUP_DELAY_EXPIRY (R348, R349, R352): the next group starts, while every domain of the present one is good. -/
def execGroupDelayExpiry (s : State) : Host.Outcome State Fault Refusal :=
  if s.pwr.seq = .none || !s.pwr.delaying || !allGood (groupDomains s.pwr.group s) s then .next s
  else if s.pwr.group = 4 && s.pwr.seq = .fromHold then .next { s with pwr := { s.pwr with seq := .none, delaying := false } }
  else .next (startGroup (s.pwr.group + 1) s)

/-- The partner of a tracking domain: DOM3 and DOM4, DOM6 and DOM7 always; the host domains as the draft says (R347). -/
def trackPartner (d : Nat) (s : State) : Option Nat :=
  if d = 3 then some 4 else if d = 4 then some 3 else if d = 6 then some 7 else if d = 7 then some 6
  else match domRec d s with
    | some r => if r.track ≠ 0 && r.partner < 12 then some r.partner else hostDomains.find? (fun e => tracks e d s)
    | none => none

/-- A domain whose rail or tracking failed last and its tracking partner are the failing pair (R420; DEDUCED, log entry 114). -/
def failPair (d : Nat) (s : State) : State := { s with pwr := { s.pwr with failing := d :: (trackPartner d s).toList } }

/-- A rail fault of R349: its group does not start the next one; RAIL_FAULT and DOM_RAILd; a host domain is switched off, which
ends the condition and leaves the source latched. DOM0 and DOM11 have no such source. -/
def railFault (d : Nat) (s : State) : State :=
  let s := modDom d (fun x => { x with good := false }) s
  let s := if (groupDomains s.pwr.group s).contains d then { s with pwr := { s.pwr with delaying := false } } else s
  if d = 0 ∨ d = 11 then s
  else
    let s := pcFault (184 + d) 0 (failPair d (modDom d (fun x => { x with railFault := true }) s))
    if 8 ≤ d then
      let s := pcClear (184 + d) (switchOff d s)
      if s.pwr.seq ≠ .none && s.pwr.group = 5 then nextHost s else s
    else s

/-- PG_TIMEOUT (R349): not good within pg_timeout of its enable. -/
def execPgTimeout (d : Nat) (s : State) : Host.Outcome State Fault Refusal :=
  .next (if domJudged d s && !(domAt d s).good then railFault d s else s)

/-- DOMAIN_OUT_OF_WINDOW (R349): a good domain out of its window for 50 us. -/
def execDomainOutOfWindow (d mv : Nat) (s : State) : Host.Outcome State Fault Refusal :=
  if domJudged d s && (domAt d s).good && !inWindow d mv s then
    .next (railFault d (modDom d (fun x => { x with vout := mv }) s))
  else .next s

/-- Whether DDR5 holds cache data (R350). -/
def holdsCache (s : State) : Bool := !s.cache.map.isEmpty || !s.dram.isEmpty

/-- DOM_TRACK for a pair: S4 on DOM3 and DOM4 while they hold cache data, whatever the draft sets (R350). The condition
ends with the pair off. -/
def trackFaultOn (d : Nat) (severe : Bool) (s : State) : State :=
  let s := modDom d (fun x => { x with trackFault := true }) s
  pcClear 196 (if severe then withAbort (enterSev 196 4 (masterOf 196) 0) s else pcFault 196 0 s)

/-- Whether a pair ramps: up until both are good, and down after a switch-off (R350, R351). -/
def pairRamps (d e : Nat) (s : State) : Bool :=
  if (domAt d s).on then !((domAt d s).good && (domAt e s).good) else (domAt d s).falling

/-- TRACKING_FAULT (R350, R351): during a ramp, up or down, the pair is switched off and DOM_TRACK is raised. -/
def execTrackingFault (d : Nat) (s : State) : Host.Outcome State Fault Refusal :=
  match trackPartner d s with
  | some e =>
    if pairRamps d e s then
      let severe := (d = 3 || d = 4) && holdsCache s
      let t := s.pwr.tracked ++ [d, e].filter (fun x => (domAt x s).on)
      .next (trackFaultOn d severe (switchOff e (switchOff d (failPair d { s with pwr := { s.pwr with tracked := t } }))))
    else .next s
  | none => .next s

/-- DISCHARGE_DONE (R351): below 10 % of its target, or 20 ms; the ramp down is over, and the next group of a switch-off
follows. -/
def execDischargeDone (d : Nat) (s : State) : Host.Outcome State Fault Refusal :=
  if (domAt d s).discharging || (domAt d s).falling then
    let s := modDom d (fun x => { x with discharging := false, falling := false }) s
    .next (offGroupList s.pwr.offGroups s)
  else .next s

/-! ### Shedding (R155, R353, R354) -/

/-- FENCE_NOTICE (R155, R535): the shedding begins, unless it has. -/
def execFenceNotice (hdr : FrameHdr) (s : State) : Host.Outcome State Fault Refusal :=
  let ok := accepts .pctrl hdr s
  let s := receive .pctrl hdr s
  .next (if ok && !s.flt.belay && (inVault s || s.vlt.confirming) then shedOnce s else s)

/-- SHED_SPACING_EXPIRY (R353, R354): the next host domain still on goes off; after the last IBUS moves to ibus_hold
(R334). -/
def execShedSpacingExpiry (s : State) : Host.Outcome State Fault Refusal :=
  match s.pwr.shedding.filter (fun d => (domAt d s).on) with
  | [] => .next (if s.pwr.shedding.isEmpty then s else shedDone s)
  | d :: t =>
    let s := shedDomain d s
    .next (if t.isEmpty then shedDone s else { s with pwr := { s.pwr with shedding := t } })

end Sys2Proof.Machine
end

