-- ==== Sys2Proof/Machine/Gauge.lean ====
section
/-! DEFINITION. Cells and charger, the gauge, capacity learning and the exercise (R359 to R387, R563). -/

namespace Sys2Proof.Machine

/-! ### Ratios -/

/-- An exact ratio: numerator and a positive denominator, not reduced. -/
abbrev Ratio := Int × Nat

/-- A whole number. -/
def rOf (n : Int) : Ratio := (n, 1)
/-- A sum. -/
def rAdd (a b : Ratio) : Ratio := (a.1 * b.2 + b.1 * a.2, a.2 * b.2)
/-- A difference. -/
def rSub (a b : Ratio) : Ratio := (a.1 * b.2 - b.1 * a.2, a.2 * b.2)
/-- A product. -/
def rMul (a b : Ratio) : Ratio := (a.1 * b.1, a.2 * b.2)
/-- A quotient by a positive ratio. -/
def rDiv (a b : Ratio) : Ratio := (a.1 * b.2, a.2 * b.1.toNat)
/-- Whether `a` lies below `b`. -/
def rLt (a b : Ratio) : Bool := decide (a.1 * b.2 < b.1 * a.2)
/-- Whether a ratio is positive. -/
def rPos (a : Ratio) : Bool := decide (0 < a.1)
/-- The greatest whole number at or below a ratio. -/
def rFloor (a : Ratio) : Int := a.1 / a.2

/-! ### Tables of the STORE section (R124, R388) -/

/-- A factor table in 1/1,024 at a temperature in 1/16 degree C, the ends held. -/
def factorIn (t : Int) : List (Int × Nat) → Ratio
  | [] => rOf 0
  | [(_, v)] => (v, 1024)
  | (t0, v0) :: (t1, v1) :: rest =>
    if t ≤ t0 then (v0, 1024)
    else if t ≤ t1 then ((v0 : Int) * (t1 - t0) + ((v1 : Int) - v0) * (t - t0), (t1 - t0).toNat * 1024)
    else factorIn t ((t1, v1) :: rest)

/-- tfac at a temperature. -/
def tfac (t : Int) (s : State) : Ratio :=
  match storeSec s with | some x => factorIn t (epbTemps.zip x.tfac) | none => rOf 1

/-- rfac at a temperature. -/
def rfac (t : Int) (s : State) : Ratio :=
  match storeSec s with | some x => factorIn t (epbTemps.zip x.rfac) | none => rOf 1

/-- ocv at a state of charge between 0 and 1, in mV per cell (R375). -/
def ocvAt (q : Ratio) (s : State) : Ratio :=
  match storeSec s with
  | none => rOf 0
  | some x =>
    let k := Nat.min 31 ((q.1 * 32 / q.2).toNat)
    let a := (x.ocv[k]?).getD 0
    let b := (x.ocv[k + 1]?).getD a
    rAdd (rOf a) (rMul (rOf ((b : Int) - a)) (rSub (rMul q (rOf 32)) (rOf k)))

/-! ### Impedance (R373, R374) -/

/-- A list in rising order. -/
def insertNat (n : Nat) : List Nat → List Nat
  | [] => [n]
  | k :: t => if n ≤ k then n :: k :: t else k :: insertNat n t

/-- The median of the last 15 accepted resistances, the initial resistance in place of those missing, in 1/10,000 of
100 uOhm. -/
def r25Fine (s : State) : Nat :=
  let l := s.gau.resist ++ List.replicate (15 - s.gau.resist.length) (10000 * storeNat (·.rInit) s)
  ((l.foldr insertNat [])[7]?).getD 0

/-- GAU_R.R25. -/
def r25 (s : State) : Nat := divUp (r25Fine s) 10000

/-- Whether no step has been accepted for imp_max_age. -/
def impOld (s : State) : Bool := decide (s.gau.impAt + setting s P.impMaxAge * 3600000000000 ≤ now s)

/-- GAU_R.RUSE. -/
def ruse (s : State) : Nat :=
  let f := rfac (tStoreMin s) s
  let k : Nat := if s.gau.impStale then 3 else 2
  Nat.min 65535 (divUp (r25Fine s * f.1.toNat * k) (10000 * f.2 * 2))

/-- The lowest in-range cell corrected by + |I| x RUSE / n, in 0.1 mV (R381, R386, R387). -/
def corrected (s : State) : Nat :=
  (lowestCell s).getD 0 + (if nCells s = 0 then 0 else s.gau.current.natAbs * ruse s / (1000 * nCells s))

/-! ### E_guar (R375) -/

/-- vault_power over a voltage in mV, in mA; none where the load leaves no voltage. -/
def currentAt (v : Ratio) (s : State) : Option Ratio :=
  if rPos v then some (rDiv (rOf (1000000 * (setting s P.vaultPower : Int))) v) else none

/-- `n` steps of i := vault_power / (v_oc - i x r). -/
def settleCurrent (voc i : Ratio) (s : State) : Nat → Option Ratio
  | 0 => some i
  | n + 1 => match currentAt (rSub voc (rMul i (ruse s, 10000))) s with
    | some j => settleCurrent voc j s n
    | none => none

/-- The terminal voltage under vault_power at a state of charge; none where there is none. -/
def terminal (q : Ratio) (s : State) : Option Ratio :=
  let voc := rMul (rOf (nCells s)) (ocvAt q s)
  match currentAt voc s with
  | none => none
  | some i => match settleCurrent voc i s 3 with
    | some i => some (rSub voc (rMul i (ruse s, 10000)))
    | none => none

/-- The sum of R375 in mV x mC / 1,024, with the state of charge as `a / (1,024 x b)`, which falls by 1/1,024 a step: the
fuel suffices for any. -/
def energyLoop (a : Int) (b : Nat) (e : Ratio) (s : State) : Nat → Ratio
  | 0 => e
  | n + 1 =>
    if a ≤ 0 then e
    else match terminal (a, 1024 * b) s with
      | none => e
      | some vt =>
        if rLt vt (rOf (nCells s * storeNat (·.floorMv) s)) then e
        else energyLoop (a - b) b (rAdd e (rMul vt (rOf s.gau.cap))) s n

/-- The state of charge at which R375 starts. -/
def startSoc (s : State) : Ratio :=
  rSub (rDiv (rSub (rOf s.gau.qrem) ((s.gau.qunc : Int), 1000)) (rOf s.gau.cap)) ((s.gau.imb : Int), 1000000)

/-- GAU_E_GUAR in mJ (R375). -/
def eGuarNow (s : State) : Nat :=
  if s.gau.cap = 0 || s.gau.heldZero then 0
  else
    let q := startSoc s
    let e := rMul (energyLoop (1024 * q.1) q.2 (rOf 0) s 1025) (1, 1024000)
    let e := rSub (rMul e (tfac (tStoreMin s) s)) (rOf (100 * setting s P.srPower * setting s P.srReserveTime))
    Nat.min max32 (rFloor e).toNat

/-! ### Registers that frames carry (R389, R534) -/

/-- GAU_SOC. -/
def gauSocWord (s : State) : Nat := s.gau.soc * 2 ^ 16 + countNow s

/-- GAU_STATUS: CLASS is the class that holds now, and until the gauge reports after a reset its Reset value (R368, R389). -/
def gauStatusWord (s : State) : Nat :=
  (if s.gau.reported then classNow s else s.gau.cls) * 2 ^ 30 + b01 (discharging s) * 2 ^ 29 + b01 s.gau.heldZero * 2 ^ 28 + b01 s.gau.drift * 2 ^ 27 +
  b01 s.gau.snap * 2 ^ 26 + b01 s.gau.capProvisional * 2 ^ 25 + b01 s.gau.overdue * 2 ^ 24 + b01 s.gau.impStale * 2 ^ 23 +
  b01 (storeJudged s && noStoreTemp s) * 2 ^ 22 + b01 s.gau.fullValid * 2 ^ 21

/-- The reported state of charge; the hold at 0 ends when COUNT rises above 0 (R372, R386). -/
def reportSoc (s : State) : State :=
  let c := countNow s
  let held := s.gau.heldZero && c = 0
  let v := if held then 0 else if discharging s && s.gau.reported then Nat.min s.gau.soc c else c
  { s with gau := { s.gau with soc := v, heldZero := held, fullValid := s.gau.fullValid && !discharging s, reported := true } }

/-- Sends an Energy frame, the first of them once the first reading is taken (R123, R534, R563). -/
def sendEnergy (s : State) : State :=
  if !s.gau.loaded then s
  else sendFrame .pctrl (.energy s.gau.eGuar (gauSocWord s) (Nat.min max32 s.gau.vaultMj) (gauStatusWord s)) s

/-! ### Cells (R359 to R362) -/

/-- Whether the vault runs or has ended: CONFIRMED to OFF. -/
def fromConfirmed (s : State) : Bool := inVault s || s.vlt.state = .hold || s.vlt.state = .off

/-- The cells of open taps: a cell whose reading is out of range with the next one, adjacent cells that sum to more than
their stack share and 1.0 V, and the taps whose test failed (R362). Tap i lies between cells i and i + 1. -/
def openTaps (cells : List CellRead) (v : List Nat) (stackMv : Nat) (badTaps : List Nat) (s : State) : List Nat :=
  let n := cellCount s
  (List.range (n - 1)).filter (fun i =>
    cells[i]? = some .outOfRange || (i + 2 = n && cells[i + 1]? = some .outOfRange) || badTaps.contains i ||
    decide (10 * (2 * stackMv) + 10000 * n < ((v[i]?).getD 0 + (v[i + 1]?).getD 0) * n))

/-- A cell's reading; out of range it reads 0. -/
def readingOf : CellRead → Nat
  | .volts v => v
  | .outOfRange => 0

/-- Passive balancing (R361, R395, R408). -/
def bleeding (s : State) : List Nat :=
  if (s.chg.st = .cv || classNow s = 0) && !fromConfirmed s && s.chg.phase = .idle && !(zoneAt 3 s).throttle && !s.thm.stage1 then
    match lowestCell s with
    | some lo => (inRange s).filter (fun i => decide (lo + 10 * setting s P.balDelta < cellVolt i s))
    | none => []
  else []

/-- What a scan finds (R362): over voltage ends when every cell is back at cv_cell, and under voltage of a cell when that cell is above
its floor; a cell whose channel is out of range has no voltage to judge. -/
def scanCells (cells : List CellRead) (stackMv : Nat) (badTaps : List Nat) (s : State) : State :=
  let v := (cells.take (cellCount s)).map readingOf
  let taps := openTaps cells v stackMv badTaps s
  let shorts := (List.range (cellCount s)).filter (fun i => v[i]?.any (· < 5000) && cells[i]? ≠ some .outOfRange)
  let out := (List.range 24).filter (fun i => shorts.contains i || taps.contains i || (decide (0 < i) && taps.contains (i - 1)))
  let s := { s with cell := { s.cell with v := v, stackMv := stackMv, out := out, tapOpen := !taps.isEmpty, short := !shorts.isEmpty, badTaps := taps } }
  let cv := 10 * storeNat (·.cvMv) s
  let fl := 10 * storeNat (·.floorMv) s
  let read := (List.range (cellCount s)).filter (fun i => decide (i < v.length) && cells[i]? ≠ some .outOfRange)
  let above (m : Nat) := read.any (fun i => decide (m < cellVolt i s))
  let low := (List.range (cellCount s)).filter (fun i =>
    (!fromConfirmed s && read.contains i && decide (cellVolt i s < fl - 1000)) ||
    (s.cell.low.contains i && !(read.contains i && decide (fl < cellVolt i s))))
  let floor := s.cell.floor && ((inRange s).any (fun i => decide (cellVolt i s < fl + 1)) || decide (stackMv ≤ nCells s * storeNat (·.floorMv) s))
  { s with cell := { s.cell with
      ov := above (cv + 500) || (s.cell.ov && above (cv - 1)), low := low, floor := floor } }

/-- The stack at n x cv_cell ends constant current (R364). -/
def enterCv (s : State) : State :=
  if s.chg.st = .cc && decide (nCells s * storeNat (·.cvMv) s ≤ s.cell.stackMv) then { s with chg := { s.chg with st := .cv } } else s

/-- The store current at a cell-scan instant as a monitor sample, in 10 mA (R518). -/
def sendCurrent (s : State) : State :=
  let i := s.gau.current
  if i = 0 then s else sendSamples [{ code := 12, index := if i < 0 then 0 else 1, value := i.natAbs / 10 }] s

/-- The cells reach empty while COUNT is above 0 (R387). -/
def snapEmpty (s : State) : State :=
  let count := countNow s
  if 0 < count && (lowestCell s).isSome && decide (corrected s ≤ 10 * storeNat (·.emptyMv) s) then
    let held := s.gau.qrem
    let s := { s with gau := { s.gau with qrem := 0, soc := 0 } }
    if 30 < count then
      writeGauge (pcFault 211 0 { s with gau := { s.gau with cap := s.gau.cap - held, snap := true, capProvisional := true, lastKind := 3 } })
    else s
  else s

/-- CELL_SCAN (R360 to R362, R364, R365, R382, R387, R518). -/
def execCellScan (cells : List CellRead) (stackMv : Nat) (badTaps : List Nat) (s : State) : Host.Outcome State Fault Refusal :=
  if s.pwr.keeper && s.drf.active.isSome then
    let s := scanCells cells stackMv badTaps s
    let s := pcCond 205 s.cell.tapOpen (pcCond 204 s.cell.short (pcCond 203 (cellLow s) (pcCond 202 s.cell.ov s)))
    let s := sendCurrent (snapEmpty s)
    let s := currentFollows (enterCv (chargerCheck (if storeFault s then withAbort (endExercise 3) s else s)))
    .next { s with cell := { s.cell with bleed := bleeding s } }
  else .next s

/-! ### Charger (R365, R366, R373) -/

/-- The full anchor (R366). -/
def fullAnchor (s : State) : State :=
  reportSoc { s with
    gau := { s.gau with qrem := s.gau.cap, qunc := 0, imb := imbNow s, fullValid := true, sinceAnchor := 0, rest := none, loaded := true,
                         fullAt := some (now s) },
    chg := { s.chg with phase := if s.chg.phase = .recharge then .idle else s.chg.phase } }

/-- Whether the in-range cells differ by more than 2 x bal_delta (R365, R366). -/
def cellsApart (s : State) : Bool :=
  match maxOf ((inRange s).map (fun i => (cellVolt i s : Int))), lowestCell s with
  | some hi, some lo => decide ((lo : Int) + 20 * setting s P.balDelta < hi)
  | _, _ => false

/-- CHARGE_TERMINATION (R365, R366): cells apart hold CV; otherwise the charge is over, at the full anchor. -/
def execChargeTermination (s : State) : Host.Outcome State Fault Refusal :=
  if s.chg.st ≠ .cv then .next s
  else if cellsApart s then .next { s with chg := { s.chg with balancing := true } }
  else
    .next (fullAnchor { s with chg := { s.chg with st := .terminated, step := 0, iout := 0, balancing := false } })

/-- CHARGE_TIMEOUT (R365). -/
def execChargeTimeout (s : State) : Host.Outcome State Fault Refusal :=
  if charging s then
    let s := stopCharger s
    .next (pcFault 206 0 { s with chg := { s.chg with balTimeout := true } })
  else .next s

/-- CHARGER_STEP (R364, R373): the next of four equal steps while the charger may charge, or the end of a probe. -/
def execChargerStep (s : State) : Host.Outcome State Fault Refusal :=
  if s.chg.probe then .next { s with chg := { s.chg with probe := false, iout := 0 } }
  else if charging s && !chargeAllowed s then .next (chargerCheck s)
  else if charging s && decide (s.chg.step < 4) then
    .next { s with chg := { s.chg with step := s.chg.step + 1, iout := chargeStep (s.chg.step + 1) s } }
  else .next s

/-- IMPEDANCE_STEP (R373, R374): a clean step of at least 0.05 A is accepted, whichever of the charger or an ENGAGE frame made it; its
resistance is divided by rfac at the mean store temperature. -/
def execImpedanceStep (sample : StepSample) (s : State) : Host.Outcome State Fault Refusal :=
  let f := rfac (tStoreMean s) s
  let di := sample.dMilliAmp.natAbs
  if s.pwr.keeper && s.drf.active.isSome && sample.clean && decide (50 ≤ di) && decide (0 < f.1) then
    let r := sample.dMilliVolt.natAbs * 100000000 * f.2 / (di * f.1.toNat)
    .next { s with gau := { s.gau with resist := (r :: s.gau.resist).take 15, impAt := now s, impStale := false } }
  else .next s

/-- IMPEDANCE_PROBE (R364, R373, R374): a step from 0 A to 2 A within the charger's limits; CHARGER_STEP ends it. -/
def execImpedanceProbe (s : State) : Host.Outcome State Fault Refusal :=
  if s.pwr.keeper && s.drf.active.isSome && impOld s then
    let s := { s with gau := { s.gau with impStale := true } }
    .next (if !charging s && chargeAllowed s then { s with chg := { s.chg with probe := true, iout := probeCurrent s } } else s)
  else .next s

/-! ### The gauge (R366 to R372, R386, R387, R563) -/

/-- AUTO_ZERO (R369): the counter's offset is taken out. The charge that commands report has no offset, so no state
changes; R371 keeps its bound. -/
def execAutoZero (s : State) : Host.Outcome State Fault Refusal := .next s

/-- DAYS beyond learn_overdue: OVERDUE and LEARN_OVERDUE (R385). -/
def noteOverdue (s : State) : State :=
  if s.drf.active.isSome && decide (setting s P.learnOverdue < s.gau.days) then
    pcFault 209 0 { s with gau := { s.gau with overdue := true } }
  else s

/-- GAU_CAP and the learning state at a cold reset: sector 36 when it speaks of the store declared, and otherwise the
rated capacity (R563). -/
def loadCapacity (s : State) : State :=
  match storeSec s with
  | none => s
  | some x =>
    let fresh : GauSt := { s.gau with cap := (rFloor (rMul (rOf x.ratedMc) (tfac 400 s))).toNat, capProvisional := true }
    let g : GauSt := match s.efl.gauge with
      | some r =>
        if r.chem = x.chem && r.cells = x.cells && r.rated = x.ratedMc then
          { s.gau with cap := r.cap, capProvisional := r.provisional, drift := r.drift, snap := r.snap, days := r.days,
                       learns := r.learns, rejects := r.rejects, lastKind := r.lastKind }
        else fresh
      | none => fresh
    { s with gau := { g with impAt := now s, updated := now s, loaded := false } }

/-- The coefficients of R371 by the column of R551 that applies to the counter: the share of the charge in 1/1,000, and
multiples of i_off (R552). -/
def gainAndOffset (s : State) : Nat × Nat :=
  if s.efl.nominal then (40, 20) else if inFault (srcAt 225 s) then (15, 4) else (5, 1)

/-- The uncertainty's growth over an update in uC (R369, R371, R552), rounded up. -/
def uncertainty (delta : Int) (s : State) : Nat :=
  let sh := Nat.max 1 (storeNat (·.shunt) s)
  let k := gainAndOffset s
  k.1 * delta.natAbs + divUp (k.2 * 250 * (now s - s.gau.updated) * 1000) (sh * 1000000000)

/-- Counts charge (R370, R371, R377, R381, R389). -/
def countCharge (delta current : Int) (s : State) : State :=
  let g := s.gau
  let q : Int := g.qrem + delta
  let q : Nat := if q < 0 then 0 else Nat.min g.cap q.toNat
  let out : Nat := if delta < 0 then (-delta).toNat else 0
  { s with gau := { g with
      qrem := q, qunc := g.qunc + uncertainty delta s, current := current, updated := now s,
      throughput := satAdd (2 ^ 64 - 1) g.throughput out, sinceAnchor := g.sinceAnchor + delta,
      rest := g.rest.map (fun r => { r with counted := r.counted + delta }),
      vaultMj := if s.vlt.confirming && conducts s then g.vaultMj + out * s.cell.stackMv / 1000 else g.vaultMj } }

/-- COUNT reaches 0 while the cells stand above empty (R386). -/
def holdZero (was : Nat) (s : State) : State :=
  let empty := 10 * storeNat (·.emptyMv) s
  if 0 < was && countNow s = 0 && decide (empty + 500 < corrected s) then
    pcFault 210 0 { s with gau := { s.gau with heldZero := true, drift := true, soc := 0, eGuar := 0 } }
  else s

/-- DISCHARGE ends when E_guar no longer exceeds twice the fixed terms; a grant given already starts the seal (R379,
R383). -/
def dischargeEnd (s : State) : State :=
  if s.chg.phase = .discharge && decide (s.gau.eGuar ≤ 2 * (s.stg.eFixed + s.stg.eWindow)) then
    { s with
      chg := { s.chg with phase := if s.chg.grant then .seal else .sealWait, st := .off, iout := 0 },
      stg := { s.stg with sealBoost := s.stg.sealBoost || s.chg.grant } }
  else s

/-- The charger's current as the shunt shows it (R389). -/
def chargerCurrent (s : State) : State :=
  if (charging s && s.chg.step = 4) || s.chg.st = .reverse then { s with chg := { s.chg with iout := s.gau.current.natAbs } } else s

/-- GAUGE_UPDATE (R123, R368, R370 to R372, R374, R375, R379, R386, R387, R563). -/
def execGaugeUpdate (deltaMc currentMa : Int) (s : State) : Host.Outcome State Fault Refusal :=
  if !s.pwr.keeper || s.drf.active.isNone then .next s
  else
    let was := countNow s
    let s := countCharge deltaMc currentMa s
    let s := if firstDue s then firstReading s else s
    let s := { s with gau := { s.gau with impStale := s.gau.impStale || impOld s } }
    let s := updateClass (reportSoc (snapEmpty (holdZero was s)))
    let s := { s with gau := { s.gau with eGuar := eGuarNow s } }
    .next (sendEnergy (chargerCheck (dischargeEnd (chargerCurrent s))))

/-- QUIET_ENTRY (R368): 10 s below i_quiet. -/
def execQuietEntry (s : State) : Host.Outcome State Fault Refusal :=
  if s.pwr.keeper && s.drf.active.isSome && !fastClass s && !normalClass s then
    .next { s with gau := { s.gau with cls := 0 } }
  else .next s

/-! ### Learning (R376 to R378, R385) -/

/-- A learned value: accepted between 50 % and 110 % of GAU_CAP, and otherwise counted and reported (R378, R385). -/
def learn (kind value : Nat) (s : State) : State :=
  if s.gau.cap ≤ 2 * value ∧ 10 * value ≤ 11 * s.gau.cap then
    let s := { s with gau := { s.gau with
      cap := value, qrem := Nat.min value s.gau.qrem, capProvisional := false, drift := false, snap := false,
      overdue := false, days := 0, learns := satAdd 255 s.gau.learns 1, lastKind := kind } }
    writeGauge (pcClear 209 (pcClear 210 s))
  else writeGauge (pcFault 207 0 { s with gau := { s.gau with rejects := satAdd 15 s.gau.rejects 1 } })

/-- A charge in mC over a state of charge in 1/1,000,000, divided by tfac at the mean store temperature. -/
def learnedCap (mc socDiff : Nat) (s : State) : Nat :=
  let f := tfac (tStoreMean s) s
  if f.1 ≤ 0 || socDiff = 0 then 0 else mc * 1000000 * f.2 / (socDiff * f.1.toNat)

/-- The OCV table's slope at a voltage, in mV per segment of 3.125 %. -/
def slopeIn (v : Nat) : List Nat → Nat
  | a :: b :: rest => if v ≤ 10 * b ∨ rest = [] then b - a else slopeIn v (b :: rest)
  | _ => 0

/-- Whether a rest point is usable: enough slope at every in-range cell (R377). -/
def restUsable (s : State) : Bool :=
  match storeSec s with
  | some x => !(inRange s).isEmpty &&
      (inRange s).all (fun i => decide (setting s P.ocvSlopeMin * 3125 ≤ slopeIn (cellVolt i s) x.ocv * 10000))
  | none => false

/-- Two usable rest points give a learning (R377). -/
def restLearning (soc : Nat) (s : State) : State :=
  match s.gau.rest with
  | some r =>
    let diff := ((soc : Int) - r.soc).natAbs
    if 400000 ≤ diff ∧ s.gau.qunc ≤ 10 * s.gau.cap then learn 2 (learnedCap r.counted.natAbs diff s) s else s
  | none => s

/-- REST_POINT (R376, R377): in the full profile a usable point sets the count, and may learn. -/
def execRestPoint (drift : Nat) (s : State) : Host.Outcome State Fault Refusal :=
  if s.pwr.keeper && setting s P.profile = 1 && decide (s.gau.current.natAbs < setting s P.iQuiet) && !charging s &&
      s.chg.st ≠ .reverse && drift = 0 && restTemps s && restUsable s then
    let soc := ocvSoc (meanCell s) s
    let s := restLearning soc s
    .next (reportSoc { s with gau := { s.gau with qrem := soc * s.gau.cap / 1000000, qunc := 0, imb := imbNow s,
                                                  rest := some { soc := soc, counted := 0 }, loaded := true } })
  else .next s

/-! ### The capacity exercise (R379 to R383) -/

/-- Whether an exercise is due: requested, or exercise_period after the last accepted learning (R379). -/
def exerciseDue (s : State) : Bool :=
  s.chg.exerWanted || (setting s P.exercisePeriod ≠ 0 && decide (setting s P.exercisePeriod ≤ s.gau.days))

/-- 1 h in ns. -/
def hourNs : Nat := 3600 * 10 ^ 9

/-- Whether VIN has been good for 1 h and a full anchor was taken within the last 1 h (R379). -/
def hourPassed (s : State) : Bool :=
  s.vin.good && decide (s.vin.goodAt + hourNs ≤ now s) && s.gau.fullAt.any (fun t => decide (now s ≤ t + hourNs))

/-- EXERCISE_START (R379). -/
def execExerciseStart (s : State) : Host.Outcome State Fault Refusal :=
  if exerciseDue s && s.chg.phase = .idle && hourPassed s && restTemps s && !storeFault s &&
      s.vlt.state = .armed && s.restore.st = .complete then
    .next (updateClass { s with chg := { s.chg with
      phase := .discharge, st := .reverse, step := 0, iout := 100 * setting s P.exerCurrent,
      exerWanted := false, balancing := false, probe := false } })
  else .next s

/-- EXERCISE_GRANT (R379, R382, R383): GRANT 1 lets SEAL_WAIT go on; GRANT 0 ends the exercise. -/
def exerciseGrant (grant : Bool) (s : State) : State :=
  if !s.pwr.keeper then s
  else
    let s := { s with chg := { s.chg with grant := grant } }
    if !grant then (withAbort (endExercise 6) s)
    else if s.chg.phase = .sealWait then
      { s with chg := { s.chg with phase := .seal }, stg := { s.stg with sealBoost := true } }
    else s

/-- The command: EXERCISE_GRANT (R379, R382, R383): GRANT 1 lets SEAL_WAIT go on; GRANT 0 ends the exercise. -/
def execExerciseGrant (grant : Bool) (s : State) : Host.Outcome State Fault Refusal := .next (exerciseGrant grant s)

/-- EXER_GRANT_WAIT_EXPIRY (R379, R382). -/
def execExerGrantWaitExpiry (s : State) : Host.Outcome State Fault Refusal :=
  .next (if s.chg.phase = .sealWait then withAbort (endExercise 6) s else s)

/-- EMPTY_ANCHOR (R379, R381). -/
def execEmptyAnchor (s : State) : Host.Outcome State Fault Refusal :=
  if s.chg.phase = .tail && decide (corrected s ≤ 10 * storeNat (·.emptyMv) s) then
    let drawn : Nat := if s.gau.sinceAnchor < 0 then (-s.gau.sinceAnchor).toNat else 0
    let s := learn 1 (learnedCap drawn 1000000 s) s
    .next (chargerCheck (reportSoc { s with
      gau := { s.gau with qrem := 0, qunc := 0, rest := none },
      chg := { s.chg with phase := .recharge, st := .off, iout := 0 } }))
  else .next s

/-! ### Fade (R384, R385) -/

/-- 2^(k/10) in 1/10^12, rounded up. -/
def tenthRoots : List Nat :=
  [1000000000000, 1071773462537, 1148698354998, 1231144413345, 1319507910773, 1414213562374, 1515716566511,
   1624504792713, 1741101126593, 1866065983074]

/-- 2^(k/160) in 1/10^12, rounded up: the sixteenths of a degree between two of the former. -/
def sixteenthRoots : List Nat :=
  [1000000000000, 1004341567292, 1008701983791, 1013081331331, 1017479692103, 1021897148655, 1026333783891,
   1030789681078, 1035264923842, 1039759596174, 1044273782428, 1048807567326, 1053361035955, 1057934273776,
   1062527366616, 1067140400677]

/-- fade_cal x 2^((T - 25)/10) in ppm, as a ratio, for a temperature in 1/16 degree C. -/
def calendarFade (t : Int) (s : State) : Ratio :=
  let d := t - 400
  let k := (d % 160).toNat
  let m := ((tenthRoots[k / 16]?).getD 0) * ((sixteenthRoots[k % 16]?).getD 0)
  let e := d / 160
  let n : Nat := setting s P.fadeCal * m
  if 0 ≤ e then ((n * 2 ^ e.toNat : Nat), 10 ^ 24) else (n, 10 ^ 24 * 2 ^ (-e).toNat)

/-- The day's fade in mC, rounded up (R384). -/
def dayFade (t : Int) (out : Nat) (s : State) : Nat :=
  let cal := rMul (calendarFade t s) (rOf s.gau.cap)
  let sum := rAdd cal (rOf (setting s P.fadeCyc * out))
  divUp sum.1.toNat (sum.2 * 1000000)

/-- T_day: the mean of the day's values of T_store_max; of a day without any it is a free value (R384; log entry 89). -/
def dayMean (s : State) : Int :=
  if s.thm.dayCount = 0 then (Config.freeWord s.free).toInt else s.thm.daySum / (s.thm.dayCount : Int)

/-- The charge discharged since the last daily fade in mC (R384). -/
def dayDischarge (s : State) : Nat := s.gau.throughput - s.gau.fadeBase

/-- A new day begins (R384). -/
def newDay (s : State) : State :=
  let s := if s.thm.dayCount = 0 then nextFree s else s
  { s with thm := { s.thm with daySum := 0, dayCount := 0 }, gau := { s.gau with fadeBase := s.gau.throughput } }

/-- FADE_DAILY (R384, R385). -/
def execFadeDaily (s : State) : Host.Outcome State Fault Refusal :=
  if s.pwr.keeper && s.drf.active.isSome then
    let cap := s.gau.cap - dayFade (dayMean s) (dayDischarge s) s
    let s := newDay s
    let s := { s with gau := { s.gau with cap := cap, qrem := Nat.min cap s.gau.qrem, days := satAdd 65535 s.gau.days 1 } }
    .next (writeGauge (noteOverdue (reportSoc s)))
  else .next s

end Sys2Proof.Machine
end

