-- ==== Sys2Proof/Machine/Faults.lean ====
section
/-! DEFINITION. Fault collection, unit resets, belay and its recovery, input discipline, control pairs, and the trouble
log's commands (R62, R63, R66, R107, R411 to R440). -/

namespace Sys2Proof.Machine

/-! ### Sources (R411, R412, R416) -/

/-- A channel that reports a failure, by its path's or its shuttle's source, between FENCED and KNOT is retired for the rest of
the vault (R173), unless its source takes belay (R417). -/
def channelReports (n : Nat) (s : State) : State :=
  if retiresChannel n && sevOf n s ≠ 4 && inDrainStates s && engineRuns s && inFault (srcAt n s) && !s.vlt.retired.contains ((n - 33) % 12) then
    retireInVault ((n - 33) % 12) s
  else s

/-- An engine source's code as the engine has it, with what the engine does beside the Fault frame (R413); an event source is back at
no fault at once (R572). With the engine core down its sources have no code. -/
def engineSide (n : Nat) (t c : Bool) (s : State) : State :=
  if 160 ≤ n || !s.warm.engineUp then s
  else if t && !c && isEvent n then engineReact n s
  else engineCode n t c s

/-- Whether the collector sees a source's code: an engine source's while the link is up (R412). -/
def codeSeen (n : Nat) (s : State) : Bool := decide (160 ≤ n) || (s.warm.engineUp && linkUp s)

/-- SOURCE_ENTERS_FAULT (R173, R412, R413, R416): a source's code changes to fault. With the link down the collector keeps an engine source's
last code, and the engine acts by itself. -/
def execSourceEntersFault (n detail : Nat) (s : State) : Host.Outcome State Fault Refusal :=
  if s.pwr.keeper && present n then
    if codeSeen n s then .next (channelReports n (pcFault n detail (engineSide n true false s)))
    else if s.warm.engineUp then .next (engineFault n detail s)
    else .next s
  else .next s

/-- SOURCE_BROKEN (R173, R411 to R413): a code of (0,0) or (1,1); a valid code ends a break. -/
def execSourceBroken (n : Nat) (t c : Bool) (s : State) : Host.Outcome State Fault Refusal :=
  let broken := brokenCode (srcAt n s) || (tfind s.flt.engineBroken n).isSome
  if s.pwr.keeper && present n && (t = c || broken) then
    let seen := codeSeen n s
    let s := engineSide n t c s
    .next (if seen then channelReports n (codeChange n t c 0 s) else s)
  else .next s

/-- FAULT_FRAME (R65, R412, R534): the codes of engine sources. -/
def execFaultFrame (hdr : FrameHdr) (entries : List (Nat × Bool × Bool)) (s : State) : Host.Outcome State Fault Refusal :=
  let ok := accepts .pctrl hdr s
  let s := receive .pctrl hdr s
  if ok then
    .next ((entries.filter (fun e => decide (e.1 < 160))).foldl
      (fun s e => codeChange e.1 e.2.1 e.2.2 (tget 0 s.flt.details e.1) s) s)
  else .next s

/-! ### Unit resets (R68, R107, R108, R277, R420) -/

/-- The UNIT code of a unit (R420). -/
def unitCode : UnitId → Nat
  | .cxlPort => 1 | .admission => 2 | .mapUnit => 3 | .ddr c => 4 + c | .vaultSequencer => 8 | .shuttle n => 9 + n
  | .path n => 21 + n | .railGovernor => 33 | .domains => 40 | .charger => 41 | .gauge => 42

/-- The stall source that a unit's reset clears (R107, R275, R277). -/
def unitStall (u : Nat) : Option Nat :=
  if u = 1 then some 2 else if u = 2 then some 3 else if u = 3 then some 22 else if 4 ≤ u ∧ u ≤ 7 then some (25 + u)
  else if u = 8 then some 12 else if 9 ≤ u ∧ u ≤ 20 then some (36 + u) else if 21 ≤ u ∧ u ≤ 32 then some (12 + u) else none

/-- Whether the host domains stay off: a vault sheds them, or has, or its fence will (R155, R334, R353). -/
def hostsStayOff (s : State) : Bool := s.vlt.confirming || s.pwr.atHold || !s.pwr.shedding.isEmpty || s.flt.belay

/-- The domains that a tracking fault switched off go on again with the end of their controllers' reset (R350, R420), the host domains
among them outside a vault alone (R334, R353). -/
def restorePairs (s : State) : State :=
  let l := s.pwr.tracked.filter (fun d => !(domAt d s).on && !(domAt d s).shed && !(hostDomains.contains d && hostsStayOff s))
  l.foldl (fun s d => switchOn d s) { s with pwr := { s.pwr with tracked := [] } }

/-- A unit resumes (R69, R107, R420): a DDR5 controller serves again, a unit on the path to NAND has its key loaded, the rail
governor sends a QUERY and resumes its loop, the domain controllers switch their pair on, the charger starts under its
conditions. -/
def resumeUnit (u : Nat) (s : State) : State :=
  let s := match unitStall u with | some n => engineClear n s | none => s
  if 4 ≤ u ∧ u ≤ 7 then leaveRefresh s
  else if 8 ≤ u ∧ u ≤ 32 then unwrapKey s
  else if u = 33 then demandChanged (sendQuery s)
  else if u = 40 then restorePairs s
  else if u = 41 then (if powerGood s then startCharger s else s)
  else s

/-- UNIT_RESET_DONE (R107, R420): what waited for the unit is served. -/
def execUnitResetDone (unit : UnitId) (s : State) : Host.Outcome State Fault Refusal :=
  let u := unitCode unit
  if s.flt.resets.contains u then
    .next (releaseWaiting (resumeUnit u { s with flt := { s.flt with resets := dropFrom u s.flt.resets } }))
  else .next s

/-- STEWARD_UNIT_RESET (R68): a unit reset by steward command. -/
def execStewardUnitReset (unit : UnitId) (s : State) : Host.Outcome State Fault Refusal :=
  let u := unitCode unit
  if s.pwr.keeper && !s.flt.belay && !s.flt.resets.contains u && (s.warm.engineUp || decide (40 ≤ u)) then
    .next (beginUnitReset u s)
  else .next s

/-! ### Shadows, clearing, severities (R418, R421 to R426) -/

/-- A source in fault takes the reaction of a severity as a new entry into fault does, with its entry in the trouble log (R416, R422,
R423). -/
def lateReaction (n sev : Nat) (s : State) : State :=
  withAbort (fun s => react n sev (logFault n (takenSev n sev s) (srcAt n s).detail false false s)) s

/-- SHADOW_EXPIRY (R421, R422): members still in fault and in no other shadow take their reactions. -/
def execShadowExpiry (source : Nat) (s : State) : Host.Outcome State Fault Refusal :=
  if s.flt.shadows.contains source then
    let members := shadowSet source s
    let s := { s with flt := { s.flt with shadows := dropFrom source s.flt.shadows } }
    .next (members.foldl (fun s m =>
      if inFault (srcAt m s) && !shadowed m s then lateReaction m (sevOf m s) s else s) s)
  else .next s

/-- Master codes of R424. -/
def masterCode : Master → Nat | .host => 1 | .smbus => 3 | .steward => 4

/-- Clears LATCHED of a source whose live condition is no fault, and logs it (R426, R437); a host domain that waited for
it goes on (R349, R570). -/
def clearLatched (m : Master) (n : Nat) (s : State) : State :=
  if (srcAt n s).latched && !inFault (srcAt n s) then
    let s := logEntry 2 n 0 (masterCode m) 0 (modSrc n (fun x => { x with latched := false }) s)
    if 192 ≤ n && n ≤ 194 && s.pwr.seq ≠ .none && s.pwr.group = 5 then nextHost s else s
  else s

/-- LATCHED_CLEAR (R426). -/
def execLatchedClear (m : Master) (n : Nat) (s : State) : Host.Outcome State Fault Refusal :=
  .next (if s.pwr.keeper then clearLatched m n s else s)

/-- DRAFT_SEV: the severity that the draft sets, or the default without a draft (R418). -/
def draftSev (n : Nat) (s : State) : Nat :=
  match s.drf.active with
  | some d => (match d.faults[n]? with | some f => f.sev | none => 0)
  | none => (match defaultSev n with | some v => v | none => 0)

/-- An event at a source of the power controller that an access by `m` meets (R424, R472). -/
def accessFault (n : Nat) (m : Master) (addr : Nat) (s : State) : State :=
  withAbort (enterSev n (sevOf n s) (masterCode m) addr) s

/-- A write of SEV and ALERT (R418, R423): a lowering is refused with RWP_PAIR_P, a fixed or reserved severity does not
change. A raise applies at once to a source latched with its condition present, and frees a source of its shadows at S3
and S4. -/
def raiseSeverity (m : Master) (n sev : Nat) (alert : Bool) (s : State) : State :=
  if !present n then s
  else if sev < draftSev n s then accessFault 234 m (0x260400 + 8 * n) s
  else if 4 < sev || (fixedSources.contains n && sev ≠ draftSev n s) then s
  else
    let old := sevOf n s
    let wasShadowed := shadowed n s
    let s := modSrc n (fun x => { x with sevUp := some sev, alertUp := some alert, unshadowed := x.unshadowed || decide (3 ≤ sev) }) s
    let acts := (srcAt n s).latched && inFault (srcAt n s) && decide (old < sev) && (!wasShadowed || decide (3 ≤ sev))
    if acts then lateReaction n sev (modSrc n (fun x => { x with owed := false }) s) else s

/-- SEVERITY_RAISE (R418, R423). -/
def execSeverityRaise (m : Master) (n sev : Nat) (alert : Bool) (s : State) : Host.Outcome State Fault Refusal :=
  .next (if s.pwr.keeper then raiseSeverity m n sev alert s else s)

/-- FIRST_ERROR_CLEAR (R424): the record and MORE. -/
def clearFirst (_m : Master) (s : State) : State :=
  (if s.pwr.keeper then { s with flt := { s.flt with first := {} } } else s)

/-- The command: FIRST_ERROR_CLEAR (R424): the record and MORE. -/
def execFirstErrorClear (_m : Master) (s : State) : Host.Outcome State Fault Refusal := .next (clearFirst _m s)

/-- FLT_SELF enters fault and goes straight to belay, past the severity logic (R429, R431). -/
def selfFault (s : State) : State :=
  if inFault (srcAt 235 s) then s
  else
    let first := !s.flt.first.valid
    let s := modSrc 235 (fun x => { x with t := true, c := false, latched := true, count := satAdd 255 x.count 1 }) s
    withAbort (enterBelay 235) (logFault 235 4 0 false first (captureFirst 235 4 (masterOf 235) 0 false s))

/-- COLLECTOR_SELF_CHECK (R429): a mismatch keeps the higher reading of each severity and raises FLT_SELF, which is
belay. -/
def execCollectorSelfCheck (mismatches : List (Nat × Nat)) (s : State) : Host.Outcome State Fault Refusal :=
  if s.pwr.keeper && !mismatches.isEmpty then
    let s := mismatches.foldl (fun s e => modSrc e.1 (fun x => { x with sevUp := some (Nat.max (sevOf e.1 s) e.2) }) s) s
    .next (selfFault { s with flt := { s.flt with self := true } })
  else .next s

/-! ### The selvedge check (R62, R430) -/

/-- SELVEDGE_CHECK (R62, R430): a response that passes the blocked output is a real action too. -/
def execSelvedgeCheck (response passed : Bool) (s : State) : Host.Outcome State Fault Refusal :=
  if !s.pwr.keeper || s.flt.stewardHalted || s.drf.active.isNone then .next s
  else
    let s := pcCond 160 (!response || passed) s
    .next (if response && passed && s.warm.engineUp then selvedgeHold false s else s)

/-- SELVEDGE_CHECK_TIMEOUT (R430): the keeper counter, which no halted steward stops. -/
def execSelvedgeCheckTimeout (s : State) : Host.Outcome State Fault Refusal :=
  .next (if s.pwr.keeper && s.drf.active.isSome then pcFault 160 0 s else s)

/-! ### Belay (R431 to R433) -/

/-- Whether the power controller judges BELAYE: under R530, or from the analog limit while DOM2 and DOM7 are good. -/
def belayeJudged (s : State) : Bool := engineJudged s || (s.flt.analogTrip && allGood [2, 7] s)

/-- The power controller sees BELAYE active: belay, by the S4 source that the collector knows of (R431). -/
def belayeSeen (s : State) : State :=
  let known := (s.flt.sources.filter (fun e => inFault e.2 && sevOf e.1 s = 4)).map (·.1)
  withAbort (enterBelay (known.head?.getD 0xFF)) s

/-- BELAYE_ACTIVE (R431, R530). -/
def execBelayeActive (s : State) : Host.Outcome State Fault Refusal :=
  .next (if s.pwr.keeper && pairActive .belaye s && ((pairAt .belaye s).frozen || belayeJudged s) then belayeSeen s else s)

/-- The engine sees BELAYP active (R431); frozen, it drives BELAYE as well (R63). -/
def belaypSeen (s : State) : State :=
  engineBelay (if (pairAt .belayp s).frozen then drivePair .belaye true s else s)

/-- BELAYP_ACTIVE (R431). -/
def execBelaypActive (s : State) : Host.Outcome State Fault Refusal :=
  .next (if pairActive .belayp s && s.warm.engineUp then belaypSeen s else s)

/-- NAND_RB_N_CHANGE (R431, R434): in belay a channel is protected once its last target shows ready; a frozen input reads
busy. -/
def execNandRbNChange (target : Nat) (ready : Bool) (s : State) : Host.Outcome State Fault Refusal :=
  if !declared target s then .next s
  else
    let s := modTarget target (fun x => { x with idle := ready && (tfind s.flt.frozen (target + 6)).isNone }) s
    .next (if s.flt.belay && s.flt.engineStopped then nandOffWhenProtected (protectReady s) else s)

/-- BELAY_WP_TIMEOUT (R431): 5 ms into belay every channel is protected, whatever R/B_N shows. -/
def execBelayWpTimeout (s : State) : Host.Outcome State Fault Refusal :=
  if s.flt.belay && s.flt.nandOff then
    .next (nandOffWhenProtected ((List.range 12).foldl (fun s c => modChannel c (fun x => { x with wpAsserted := true }) s) s))
  else .next s

/-- Whether a recovery may be attempted, the count apart (R433); a life-cycle transition accepted in belay, which awaits a
cold reset, holds belay until then (R495). -/
def mayRecover (s : State) : Bool :=
  s.flt.belay && !s.flt.self && !s.lcs.awaitCold && !(decide (1 ≤ s.lcs.step) && decide (s.lcs.step ≤ 4)) && !(s.flt.sources.any (fun e => inFault e.2 && sevOf e.1 s = 4))

/-- The path of R433; 0 for none. -/
def recoveryPath (s : State) : Nat :=
  let vaults := inVault s || pairActive .pf s
  if vaults && !s.flt.rebootExhausted then 1
  else if !vaults && s.vin.good then 2
  else if s.flt.rebootExhausted && s.vin.good then 3
  else 0

/-- Belay is over: BELAYP inactive, and BELAYE unless the analog limit drives it (R407); the engine no longer held by it. -/
def leaveBelay (s : State) : State :=
  let s := drivePair .belayp false (drivePair .belaye s.flt.analogTrip s)
  { s with flt := { s.flt with
      belay := false, engineStopped := false, awaitHold := false, nandOff := false,
      engineLive := s.flt.engineLive.filter (· = 62), engineBroken := [] } }

/-- Attempts a recovery (R433, R437): an engine re-boot, or a chipset warm reset; after exhausted re-boots the image counts
as following no vault. -/
def attemptRecovery (s : State) : State :=
  let p := recoveryPath s
  if p = 0 then s
  else
    let s := { s with flt := { s.flt with recoveries := satAdd 7 s.flt.recoveries 1, lastPath := p } }
    let s := logEvent 5 p s.flt.recoveries s
    if p = 1 then startAttempt (beginReboot (leaveBelay s))
    else if p = 2 then leaveBelay (requestWarm .belayRecovery true s)
    else
      let s := leaveBelay (requestWarm .belayRecovery true { s with warm := { s.warm with confirmed := none } })
      vaultOver { s with restore := { s.restore with afterVault := false }, flt := { s.flt with rebootExhausted := false } }

/-- BELAY_SETTLE_EXPIRY (R433). -/
def execBelaySettleExpiry (s : State) : Host.Outcome State Fault Refusal :=
  if mayRecover s && !s.flt.stewardHalted && decide (s.flt.recoveries < setting s P.belayRecoverMax) then
    .next (attemptRecovery s)
  else .next s

/-- RECOVER (R433): whatever the count. -/
def recoverOp (_m : Master) (s : State) : State :=
  let s := { s with flt := { s.flt with ctl := 0x80000000 } }
  (if mayRecover s then attemptRecovery s else s)

/-- The command: RECOVER (R433): whatever the count. -/
def execRecover (_m : Master) (s : State) : Host.Outcome State Fault Refusal := .next (recoverOp _m s)

/-! ### Input discipline (R325, R434) -/

/-- A shuttle's R/B_N input is frozen to busy: the target stalls its channel (R275, R434); at S4 belay stands in for R173 (R417). -/
def rbStuck (input : Nat) (s : State) : State :=
  let t := input - 6
  let n := 45 + t / 8
  let s := engineFault n (t / 8 * 256 + t) (modTarget t (fun x => { x with idle := false }) s)
  if !engineRuns s then s
  else if inDrainStates s then (if sevOf n s = 4 then s else retireInVault (t / 8) s)
  else if discovering s then discoveryStall (t / 8) (some t) s
  else shuttleStall (t / 8) (some t) false s

/-- What an input's safe interpretation does at once: the pfail comparator reads below, the sampler its last reading minus
10 V, PERST_N asserted (R325, R434). -/
def safeInput (input : Nat) (s : State) : State :=
  if input = 1 then { s with vin := { s.vin with below := true, comp := true } }
  else if input = 2 then
    let v := s.vin.vin - 400
    { s with vin := { s.vin with vin := v, below := s.vin.below || decide (25 * v < 100 * setting s P.vinPfail) } }
  else if input = 4 then (if s.warm.engineUp then hostReset s else s)
  else s

/-- A fault source's pair chatters: it is frozen to fault, a broken code to what it is, and the source itself is raised (R411, R434). -/
def freezeSource (n : Nat) (s : State) : State :=
  if !present n || (srcAt n s).frozen then s
  else
    let x := srcAt n s
    let s := logEvent 9 102 2 s
    let s := if inFault x then s else codeChange n true false x.detail s
    modSrc n (fun y => { y with frozen := true, wireT := x.t, wireC := x.c }) s

/-- A frozen pair of a source follows its wires again (R434). -/
def releaseSource (n : Nat) (s : State) : State :=
  let x := srcAt n s
  if x.frozen then
    codeChange n x.wireT x.wireC x.detail (logEvent 9 102 3 (modSrc n (fun y => { y with frozen := false, wireT := false, wireC := true }) s))
  else s

/-- An input is frozen (R434, R437): the entry 0x0009, its safe interpretation and its source. The SMBus is released: the port sees an idle
bus, and the transaction that ran is discarded. -/
def freezeInput (input : Nat) (how : Frozen) (s : State) : State :=
  if (tfind s.flt.frozen input).isSome then s
  else
    let code : Nat := match how with | .stuck => 1 | .chatter => 2
    let s := logEvent 9 input code { s with flt := { s.flt with frozen := tins input how s.flt.frozen } }
    let s := safeInput input s
    if 6 ≤ input && input ≤ 101 then rbStuck input s
    else if input = 5 then pcFault 236 0 s
    else match how with
      | .stuck => pcFault 229 input s
      | .chatter => pcFault 230 input s

/-- INPUT_STUCK (R434): PERST_N and the sources' pairs have no longest active time. -/
def execInputStuck (input : Nat) (s : State) : Host.Outcome State Fault Refusal :=
  if !s.pwr.keeper then .next s
  else if input ≤ 101 && input ≠ 4 then .next (freezeInput input .stuck s)
  else .next s

/-- INPUT_CHATTER (R434): input 102 names the pair of `source`. -/
def execInputChatter (input source : Nat) (s : State) : Host.Outcome State Fault Refusal :=
  if !s.pwr.keeper || input = 5 || input = 2 then .next s
  else if input = 102 then .next (freezeSource source s)
  else if input ≤ 101 then .next (freezeInput input .chatter s)
  else .next s

/-- INPUT_RELEASE (R434): INPUT_STUCK and INPUT_CHATTER end with the last input of their kind; input 102 names the pair of `source`. -/
def execInputRelease (input source : Nat) (s : State) : Host.Outcome State Fault Refusal :=
  if input = 102 then .next (releaseSource source s)
  else if (tfind s.flt.frozen input).isSome then
    let s := logEvent 9 input 3 { s with flt := { s.flt with frozen := tdel input s.flt.frozen } }
    let s := if input = 1 then { s with vin := { s.vin with comp := pfRead s.vin.vin s } } else s
    let s := if input = 1 || input = 2 then { s with vin := { s.vin with below := s.vin.comp || pfRead s.vin.vin s } } else s
    let left (how : Frozen) : Bool := s.flt.frozen.any (fun e => e.2 = how && decide (e.1 < 5))
    let s := if left .stuck then s else pcClear 229 s
    .next (if left .chatter then s else pcClear 230 s)
  else .next s

/-! ### Control pairs (R63, R530) -/

/-- The source of a pair, and whether the power controller receives it (R63, R415). -/
def pairSource : PairId → Nat × Bool
  | .pf => (60, false) | .belayp => (61, false) | .hold => (62, false) | .hbp => (63, false)
  | .vreq => (199, true) | .belaye => (200, true) | .hbe => (201, true)

/-- What a frozen pair's safe interpretation does at its receiver (R63). HOLD active: the hold island has every rank in
self-refresh. -/
def safePair (p : PairId) (s : State) : State :=
  match p with
  | .pf => if s.flt.belay then s else drivePair .vreq true (pfSeen s)
  | .vreq => vreqSeen s
  | .belayp => belaypSeen s
  | .belaye => belayeSeen s
  | .hold => setRefresh true s
  | .hbp => if s.flt.engineStopped then s else pctrlStalled s
  | .hbe => if s.flt.belay || s.sel.phase ≠ .idle then s else engineStalledNow s

/-- Whether a pair is judged at its receiver: under R530 at the power controller, at the engine while it is up, and at the hold
island as long as the keeper runs (R61, R63, R530). -/
def pairJudged (p : PairId) (s : State) : Bool :=
  match p with
  | .hold => s.pwr.keeper
  | .vreq | .belaye | .hbe => s.pwr.keeper && engineJudged s
  | .pf | .belayp | .hbp => s.warm.engineUp

/-- The source of a pair is raised where it belongs (R63, R415). The hold island judges HOLD with the engine core down too: the
source is then in fault at the collector at once, with no Fault frame that could bring it (DESIGN CHOICE, log entry 80). -/
def raisePair (p : PairId) (s : State) : State :=
  let n := (pairSource p).1
  if (pairSource p).2 then pcFault n 0 s
  else if s.warm.engineUp then engineFault n 0 s
  else pcFault n 0 { s with flt := { s.flt with engineLive := insertSorted n s.flt.engineLive } }

/-- PAIR_BROKEN (R63, R530): the receiver freezes the pair, raises its source and the signal-integrity flag. -/
def execPairBroken (pair : PairId) (t c : Bool) (s : State) : Host.Outcome State Fault Refusal :=
  if t = c && pairJudged pair s && !(pairAt pair s).frozen then
    .next (safePair pair (raisePair pair
      (setPair pair (fun x => { x with frozen := true }) { s with flt := { s.flt with si := true } })))
  else .next s

/-- HOLD that is released inactive lets DDR5 leave self-refresh, where nothing else holds it (R61, R63). -/
def unholdDdr (p : PairId) (s : State) : State :=
  if p = .hold && !pairActive .hold s && s.warm.engineUp && !s.flt.belay && s.vlt.state ≠ .hold then leaveRefresh s else s

/-- PAIR_RELEASE (R63): the pair follows its wires again, and its condition ends. -/
def execPairRelease (pair : PairId) (t c : Bool) (s : State) : Host.Outcome State Fault Refusal :=
  let (n, atPctrl) := pairSource pair
  if t ≠ c && (pairAt pair s).frozen then
    let s := setPair pair (fun _ => { t := t, c := c, frozen := false }) s
    let s := if atPctrl || !s.warm.engineUp then pcClear n s else s
    .next (unholdDdr pair (if atPctrl then s else engineClear n s))
  else .next s

/-! ### The trouble log (R66, R435 to R438) -/

/-- LOG_MARK (R437, R442). -/
def logMarkOp (value : Word) (s : State) : State :=
  (if s.pwr.keeper then logEvent 0xD value.toNat 0 s else s)

/-- The command: LOG_MARK (R437, R442). -/
def execLogMark (value : Word) (s : State) : Host.Outcome State Fault Refusal := .next (logMarkOp value s)

/-- LOG_SECOND_END (R438): one entry for each source that had entries suppressed. -/
def execLogSecondEnd (s : State) : Host.Outcome State Fault Refusal :=
  if s.pwr.keeper then
    let l := s.log.suppressed
    let s := l.foldl (fun s e => logEntry 3 e.1 0 e.2 0 s) s
    .next { s with log := { s.log with written := [], suppressed := [] } }
  else .next s

/-- The ring in chunks of four entries, oldest first (R534). -/
def snapshotFrames (l : List LogEntry) : Nat → List Frame
  | 0 => []
  | n + 1 => if l.isEmpty then [] else .log (l.take 4) :: snapshotFrames (l.drop 4) n

/-- LOG_FRAME (R65, R165, R435, R534, R536): an engine entry joins the ring unless one with its TS, CODE and SOURCE is
there; a request is answered with the ring; the ring's entries arrive at the engine. -/
def execLogFrame (hdr : FrameHdr) (body : LogBody) (s : State) : Host.Outcome State Fault Refusal :=
  match body with
  | .entry ts code source flags data0 data1 state =>
    let ok := accepts .pctrl hdr s
    let s := receive .pctrl hdr s
    if ok && !(s.log.ring.any (fun e => e.ts = ts && e.code = code && e.source = source)) then
      let fl := if bitOf flags 3 then flags else flags + 8
      .next (pushEntry { ts := ts, code := code, source := source, flags := fl, seq := 0, data0 := data0, data1 := data1, state := state } s)
    else .next s
  | .request =>
    let ok := accepts .pctrl hdr s
    let s := receive .pctrl hdr s
    .next (if ok then (snapshotFrames s.log.ring.reverse 1024).foldl (fun s f => sendFrame .pctrl f s) s else s)
  | .snapshot => .next (receive .engine hdr s)

/-- KNOT_POINTER_FRAME (R66, R534): a pair that does not match its complements changes nothing. -/
def execKnotPointerFrame (hdr : FrameHdr) (epoch slot epochC slotC : Nat) (s : State) : Host.Outcome State Fault Refusal :=
  let ok := accepts .pctrl hdr s
  let s := receive .pctrl hdr s
  if ok && epoch + epochC = 2 ^ 64 - 1 && slot + slotC = 2 ^ 64 - 1 then
    .next { s with log := { s.log with knotPtr := some (epoch, slot) } }
  else .next s

end Sys2Proof.Machine
end

