-- ==== Sys2Proof/Machine/Eflash.lean ====
section
/-! DEFINITION. Embedded flash: reads, and the operations of EFL_CTL with what ends or cuts them (R405, R406, R470 to R478, R483, R484,
R486, R488, R489, R500). -/

namespace Sys2Proof.Machine

/-! ### Reads (R470, R472) -/

/-- An access ends with a bus error to its master (R470, R472). -/
def busError (m : Master) (s : State) : State := emit (.busError m) s

/-- What a read of a word of embedded flash does: a corrected error is counted, an uncorrectable one raises EFL_ECC with a bus
error to the master (R470). -/
def eccEffects (m : Master) (w : Nat) (s : State) : State :=
  match (eccRead (eflWord w s)).2 with
  | .clean => s
  | .corrected => { s with efl := { s.efl with ceCount := satAdd max32 s.efl.ceCount 1 } }
  | .uncorrectable => busError m (accessFault 232 m (8 * w) s)

/-- The steward reads the words of blocks: each is corrected and counted as R470 says, once in each pass, for how often the steward
reads a word is not given (DESIGN CHOICE, log entry 111). -/
def stewardReads (blocks : Nat → Bool) (s : State) : State :=
  (s.efl.words.filter (fun e => blocks (blockOfWord e.1) && blockReads (blockOfWord e.1) s)).foldl (fun s e => eccEffects .steward e.1 s) s

/-! ### Operations (R471 to R478, R484, R486) -/

/-- The boot slot that does not run; slot 1 in ROM recovery (R478, R483). -/
def inactiveSlot (s : State) : Nat := if s.efl.romRecovery then 1 else 1 - s.efl.slot

/-- Whether a master may program or erase an array word (R478). -/
def mayTouch (m : Master) (w : Nat) (s : State) : Bool :=
  match m with
  | .steward => true
  | .smbus => decide (4 * inactiveSlot s ≤ sectorOfWord w) && decide (sectorOfWord w < 4 * inactiveSlot s + 4)
  | .host => false

/-- Whether a sector is protected (R476). -/
def sectorProtected (x : Nat) (s : State) : Bool := bitOf s.efl.wp x

/-- The status of a refusal, by R471 to R478 and R488; 0 when the operation may start. The factory row is always
protected. -/
def refusal (m : Master) (row : Bool) (w : Nat) (erase : Bool) (d : Nat) (s : State) : Nat :=
  if row then 3
  else if !mayTouch m w s then 7
  else if eflBusy s then 5
  else if !eflOpen s then 2
  else if sectorProtected (sectorOfWord w) s then 3
  else if erase then (if blockWorn (blockOfWord w) s then 4 else 0)
  else programStatus w d s

/-- EFL_ADDR's word number and ROW bit (R500). -/
def eflTarget (s : State) : Nat × Bool := (s.efl.addr / 8 % 2 ^ 19, bitOf s.efl.addr 22)

/-- OP of EFL_CTL takes effect (R15, R500). -/
def withOp (n : Nat) (s : State) : State := { s with efl := { s.efl with ctlOp := n } }

/-- EFL_PROGRAM (R471, R478). -/
def eflProgramOp (m : Master) (s : State) : State :=
  if !s.pwr.keeper then s
  else
    let s := withOp 1 s
    let (w, row) := eflTarget s
    let r := refusal m row w false s.efl.data s
    if r = 0 then { eflResult 0 (blockOfWord w) s with efl := { s.efl with result := 0, block := blockOfWord w, op := some (.program w s.efl.data) } }
    else (eflResult r (blockOfWord w) s)

/-- The command: EFL_PROGRAM (R471, R478). -/
def execEflProgram (m : Master) (s : State) : Host.Outcome State Fault Refusal := .next (eflProgramOp m s)

/-- Starts the erase of a block: its intent is journalled (R486). -/
def startErase (b tries : Nat) (s : State) : State :=
  let s := journal 0x49 b (eraseCount b s) s
  { s with efl := { s.efl with op := some (.erase b tries), suspended := false, byWindow := false, result := 0, block := b } }

/-- EFL_ERASE (R478, R486). -/
def eflEraseOp (m : Master) (s : State) : State :=
  if !s.pwr.keeper then s
  else
    let s := withOp 2 s
    let (w, row) := eflTarget s
    let r := refusal m row w true 0 s
    (if r = 0 then startErase (blockOfWord w) 1 s else eflResult r (blockOfWord w) s)

/-- The command: EFL_ERASE (R478, R486). -/
def execEflErase (m : Master) (s : State) : Host.Outcome State Fault Refusal := .next (eflEraseOp m s)

/-- Suspends a running erase (R405, R408, R473). -/
def suspendErase (window : Bool) (s : State) : State :=
  match s.efl.op with
  | some (.erase _ _) => if s.efl.suspended then s else { s with efl := { s.efl with suspended := true, byWindow := window } }
  | _ => s

/-- Resumes a suspended erase; one that the window suspended waits until both values are 3 degrees C inside it (R405, R473). -/
def resumeErase (s : State) : State :=
  if s.efl.suspended && eflOpen s && (!s.efl.byWindow || tempReturned s) then { s with efl := { s.efl with suspended := false, byWindow := false } } else s

/-- The window of R405: left, it suspends an erase; returned to, it resumes the erase that it suspended. -/
def eflWindow (s : State) : State :=
  if !tempWindow s then suspendErase true s
  else if s.efl.byWindow && tempReturned s then resumeErase s
  else s

/-- A write that is refused for its master is ignored; the SMBus port notes it (R504). -/
def denied (m : Master) (s : State) : State := if m = .smbus then { s with smb := { s.smb with denied := true } } else s

/-- EFL_SUSPEND (R473): not one of the management port's operations (R504). -/
def eflSuspendOp (m : Master) (s : State) : State :=
  if !s.pwr.keeper then s else if m = .steward then suspendErase false (withOp 3 s) else denied m s

/-- The command: EFL_SUSPEND (R473). -/
def execEflSuspend (m : Master) (s : State) : Host.Outcome State Fault Refusal := .next (eflSuspendOp m s)

/-- EFL_RESUME (R473): not one of the management port's operations (R504). -/
def eflResumeOp (m : Master) (s : State) : State :=
  if !s.pwr.keeper then s else if m = .steward then resumeErase (withOp 4 s) else denied m s

/-- The command: EFL_RESUME (R473). -/
def execEflResume (m : Master) (s : State) : Host.Outcome State Fault Refusal := .next (eflResumeOp m s)

/-- What a list of erases ends with (R458, R484). -/
def jobsOver (s : State) : State :=
  match s.efl.after with
  | .candidate => { s with efl := { s.efl with after := .nothing }, drf := { s.drf with busy := false, result := 0 } }
  | .boot => { s with efl := { s.efl with after := .nothing } }
  | .nothing => s

/-- A block of the steward's list that is refused as worn, or that three erases have left worn, ends an erase of a slot (R475, R486). -/
def jobsFail (s : State) : State :=
  { s with efl := { s.efl with jobs := [], after := .nothing, result := 4 },
           drf := { s.drf with busy := false, result := if s.drf.busy then 3 else s.drf.result } }

/-- The next block of the steward's list is erased (R458, R484, R492). A life-cycle wipe goes past a worn block, of which R475 and R492
say nothing (DESIGN CHOICE, log entry 112). -/
def nextFrom : List Nat → State → State
  | b :: t, s =>
    if !blockWorn b s then startErase b 1 { s with efl := { s.efl with jobs := t } }
    else if s.efl.after = .nothing then nextFrom t s
    else jobsFail s
  | [], s => jobsOver { s with efl := { s.efl with jobs := [] } }

/-- The next block of the steward's list, if any. -/
def nextJob (s : State) : State := nextFrom s.efl.jobs s

/-- Starts a list of erases (R458, R484). -/
def startJobs (l : List Nat) (after : EflThen) (s : State) : State := nextJob { s with efl := { s.efl with jobs := l, after := after } }

/-- FW_ERASE (R484): the blocks of the inactive boot slot, none of which may be worn (R475). -/
def fwEraseOp (m : Master) (s : State) : State :=
  if !s.pwr.keeper then s
  else
    let s := withOp 5 s
    let blocks := (List.range 32).map (32 * inactiveSlot s + ·)
    match blocks.find? (fun b => refusal m false (b * 1024) true 0 s ≠ 0) with
    | some b => eflResult (refusal m false (b * 1024) true 0 s) b s
    | none => startJobs blocks .boot s

/-- The command: FW_ERASE (R484): the blocks of the inactive boot slot. -/
def execFwErase (m : Master) (s : State) : Host.Outcome State Fault Refusal := .next (fwEraseOp m s)

/-- MAGIC of an image's header (R483), taken to be the image's first four bytes (PRESUMED, log entry 113). -/
def imageMagic : Nat := 0x57535659

/-- The version of the image in a boot slot that passes the check of R483: every block reads, the magic stands, and the rest of the check
passes. The factory's image passes as long as it stands (R6). -/
def imageOf (slot : Nat) (s : State) : Option Nat :=
  let blocks := (List.range 32).map (32 * slot + ·)
  let words := (s.efl.words.filter (fun e => e.1 / 32768 = slot)).map (fun e => (e.1 % 32768, (eccRead e.2).1))
  if !blocks.all (fun b => blockReads b s) then none
  else if words.isEmpty && blocks.all (fun b => s.efl.factoryBlocks.contains b) then some Config.factoryVersion.toNat
  else if eflData (32768 * slot) s % 2 ^ 32 = imageMagic then (Config.imageVersion words).map BitVec.toNat
  else none

/-- FW_SUBMIT (R405, R408, R480, R483, R484): an image that passes gets a boot entry on trial. -/
def fwSubmitOp (m : Master) (s : State) : State :=
  if !s.pwr.keeper then s
  else
    let s := withOp 6 s
    if m = .host then eflResult 7 s.efl.block s
    else if eflBusy s then eflResult 5 s.efl.block s
    else if !eflOpen s || s.flt.stewardHalted then eflResult 2 s.efl.block s
    else
      let n := inactiveSlot s
      let s := stewardReads (fun b => b / 32 = n) s
      match imageOf n s with
      | none => s
      | some v =>
        let t := commitEntry 1 [pairWord n, pairWord v] s
        if committed 1 s t then { t with efl := { t.efl with trialFails := 0, bootSeq := (newestSeq 1 t).getD 0 } } else t

/-- The command: FW_SUBMIT (R483, R484). -/
def execFwSubmit (m : Master) (s : State) : Host.Outcome State Fault Refusal := .next (fwSubmitOp m s)

/-- WP_LOCK (R477, R500): the steward's (R504). -/
def lockWp (m : Master) (s : State) : State :=
  if !s.pwr.keeper then s else if m = .steward then { s with efl := { s.efl with wpLock := true } } else denied m s

/-- The command: WP_LOCK (R477, R500). -/
def execWpLock (m : Master) (s : State) : Host.Outcome State Fault Refusal := .next (lockWp m s)

/-- An erase that left a word not erased: tried again up to two further times, unless its count has made the block worn; then the block is
worn and EFL_ECC raised, and an erase of a slot ends (R475, R486). -/
def eraseFailed (b tries : Nat) (s : State) : State :=
  let s := { s with efl := { s.efl with op := none, undetermined := addTo b s.efl.undetermined } }
  if tries < 3 && !blockWorn b s then startErase b (tries + 1) s
  else
    let s := wearOut b { s with efl := { s.efl with result := 4 } }
    if s.efl.after = .nothing then nextJob s else jobsFail s

/-- The program in progress is complete: the word stands (R471, R474). -/
def completeProgram (w d : Nat) (s : State) : State :=
  programWord w d { s with efl := { s.efl with op := none, result := 0 } }

/-- EFL_OPERATION_DONE (R474, R486): the word stands, or the block is erased and its completion journalled; the steward's
next erase follows. -/
def execEflOperationDone (clean : Bool) (s : State) : Host.Outcome State Fault Refusal :=
  match s.efl.op with
  | some (.program w d) => .next (completeProgram w d s)
  | some (.erase b tries) =>
    if s.efl.suspended then .next s
    else
      let n := Nat.min (eraseCount b s + 1) maxErases
      if clean then
        .next (nextJob (journal 0x43 b n (wipeBlock b { s with efl := { s.efl with op := none, result := 0 } })))
      else .next (eraseFailed b tries (journal 0x43 b n { s with efl := { s.efl with op := none } }))
  | none => .next s

/-- CONFIRM of a boot entry: 0x434F_4E46 with its complement (R481). -/
def confirmWord : Nat := pairWord 0x434F4E46

/-- The firmware on trial programs CONFIRM in its own entry; where the window or a running operation keeps it from that, it does so at the
next retry (R405, R472, R484). -/
def confirmFirmware (s : State) : State :=
  match s.efl.runEntry with
  | none => s
  | some e =>
    if !s.efl.trial then s
    else if !eflReady s then { s with efl := { s.efl with confirmDue := true } }
    else
      let w := entryBase 1 e.1 e.2 + 2
      let s := programWord w confirmWord { s with efl := { s.efl with confirmDue := false } }
      { s with efl := { s.efl with trial := decide (recordWord (eflWord w s) ≠ confirmWord) } }

/-- FLASH_WRITE_RETRY (R406, R484). -/
def execFlashWriteRetry (s : State) : Host.Outcome State Fault Refusal :=
  .next (if s.pwr.keeper then (let s := makeWaiting s; if s.efl.confirmDue then confirmFirmware s else s) else s)

/-! ### Cuts (R488, R489) -/

/-- A cold reset or stage two cuts the operation: a program leaves its word undetermined, an erase its block (R408,
R489). -/
def cutOperation (s : State) : State :=
  match s.efl.op with
  | some (.program w _) =>
    let x : EflWord := { data := Config.freeNat s.free % 2 ^ 64, bad := Config.freeNat (s.free + 1) % 256,
                         programs := (eflWord w s).programs + 1, torn := true }
    nextFree (nextFree (storeWord w x { s with efl := { s.efl with op := none, jobs := [], after := .nothing } }))
  | some (.erase b _) =>
    { s with efl := { s.efl with op := none, suspended := false, byWindow := false, jobs := [], after := .nothing,
                                 incomplete := addTo b s.efl.incomplete, undetermined := addTo b s.efl.undetermined } }
  | none => s

/-- At a boot the journal shows each cut erase as a block whose newest record is an intent: it is erase-incomplete, and its counter goes up
by a snapshot record, which the temperature window must allow; the next boot finds one that it refuses (R405, R488). -/
def countIncomplete (s : State) : State :=
  let l := openIntents s
  let s := { s with efl := { s.efl with
    incomplete := l.foldl (fun x e => addTo e.1 x) s.efl.incomplete,
    undetermined := l.foldl (fun x e => addTo e.1 x) s.efl.undetermined } }
  if eflOpen s then l.foldl (fun s e => journal 0x53 e.1 (Nat.min (e.2 + 1) maxErases) s) s else s

end Sys2Proof.Machine
end

