-- ==== Sys2Proof/Machine/DraftOps.lean ====
section
/-! DEFINITION. Draft slots: candidates, activation, the fallback and the stream to the engine (R443, R457 to R467). -/

namespace Sys2Proof.Machine

/-! ### Slots (R458, R488) -/

/-- The first word of a draft slot: sectors 32 and 33. -/
def slotBase (slot : Nat) : Nat := (32 + slot) * 8192

/-- A slot's bytes. -/
def slotReader (slot : Nat) (s : State) : Reader := fun o => eflByte (8 * slotBase slot + o) s

/-- Whether a block of the slot does not read: erase-incomplete (R488), or left undetermined by a failed erase. -/
def slotBroken (slot : Nat) (s : State) : Bool :=
  !(List.range 8).all (fun i => blockReads (blockOfWord (slotBase slot) + i) s)

/-- The check of R457 on a slot; a slot with an erase-incomplete block fails at step 3 (R488). -/
def checkSlot (slot : Nat) (s : State) : Except (Nat × Nat × Nat) Draft :=
  if slotBroken slot s then .error (3, 0, 0) else checkDraft (slotReader slot s)

/-- The slot that is not active. -/
def candSlot (s : State) : Nat := 1 - s.drf.activeSlot

/-- The word number of the candidate's submit word. -/
def submitAt (s : State) : Nat := slotBase (candSlot s) + 8191

/-- SUBMITTED: 0x4D42_5553 and its complement. -/
def submittedWord : Nat := pairWord 0x4D425553

/-- PENDING: the candidate's submit word is SUBMITTED; a block that does not read holds none (R467, R488). -/
def draftPending (s : State) : Bool :=
  blockReads (blockOfWord (submitAt s)) s && recordWord (eflWord (submitAt s) s) = submittedWord

/-- The GENERATION and the STRUCT_CRC that the selector keeps (R481). -/
def storedGeneration (s : State) : Option Nat := (newestWord 2 1 s).bind unpair
/-- The STRUCT_CRC that the selector keeps. -/
def storedStruct (s : State) : Option Nat := (newestWord 2 2 s).bind unpair

/-- The generation that a candidate must exceed: the active draft's, or in INERT the one that the selector keeps
(R459). -/
def refGeneration (s : State) : Nat :=
  match s.drf.active with | some d => d.generation | none => (storedGeneration s).getD 0

/-- Whether a STRUCT_CRC differs from the active draft's (R448). -/
def isStructural (crc : Nat) (s : State) : Bool :=
  match s.drf.active with | some d => decide (crc ≠ d.structCrc) | none => decide (storedStruct s ≠ some crc)

/-- GENERATION and STRUCT_CRC of the submitted candidate; 0 when there is none (R467). -/
def candGeneration (s : State) : Nat := if draftPending s then rdLe (slotReader (candSlot s) s) 4 8 else 0
/-- STRUCT_CRC of the submitted candidate. -/
def candStruct (s : State) : Nat := if draftPending s then rdLe (slotReader (candSlot s) s) 4 32 else 0
/-- STRUCTURAL: the submitted candidate changes protection structure. -/
def candIsStructural (s : State) : Bool := draftPending s && isStructural (candStruct s) s

/-! ### Programs of the steward (R405, R467, R475) -/

/-- DRF_PROG.RESULT of a status of R471 to R488. -/
def drfResult (r : Nat) : Nat := if r = 0 then 0 else if r = 2 then 2 else if r = 3 ∨ r = 4 then 3 else 1

/-- Programs a word of the candidate slot and records the result (R458, R467). -/
def programCand (w d : Nat) (s : State) : State :=
  let r := refusal .steward false w false d s
  let s := { s with drf := { s.drf with result := drfResult r } }
  if r = 0 then programWord w d s else s

/-- Records a failing check (R457). -/
def noteCheck (e : Nat × Nat × Nat) (s : State) : State :=
  { s with drf := { s.drf with checkStep := e.1, checkSection := e.2.1, checkRecord := e.2.2 } }

/-- DRF_CHECK (R467). -/
def drfCheckWord (s : State) : Nat := s.drf.checkStep * 2 ^ 29 + s.drf.checkSection % 256 * 2 ^ 16 + s.drf.checkRecord % 2 ^ 16

/-- A refusal: the reason and an entry with DRF_CHECK (R458, R466). -/
def refuseDraft (reason : Nat) (s : State) : State :=
  let s := { s with drf := { s.drf with reason := reason } }
  logEvent 1 (drfCheckWord s) 0 s

/-- The verdict on a candidate: the draft, or the REASON with what DRF_CHECK records (R457, R459). Once the generation is exhausted every
candidate is refused for that, whatever its check shows. -/
def judge (s : State) : Except (Nat × Nat × Nat × Nat) Draft :=
  if refGeneration s = 0xFFFFFFFF then .error (3, 0, 0, 0)
  else match checkSlot (candSlot s) s with
  | .error e => .error (1, e)
  | .ok d =>
    if d.generation ≤ refGeneration s then .error (2, 0, 0, 0)
    else .ok d

/-- The steward may act on the candidate: it runs, and no operation of embedded flash does (R472). -/
def candidateFree (s : State) : Bool := s.pwr.keeper && !s.flt.stewardHalted && !s.drf.busy && !eflBusy s

/-- DRF_CTL takes effect (R15, R467). -/
def withDrfCtl (v : Nat) (s : State) : State := { s with drf := { s.drf with ctl := v } }

/-- SUBMIT (R458, R459, R466). -/
def submitCand (_m : Master) (s : State) : State :=
  if !candidateFree s then s
  else
    let s := stewardReads (fun b => b / 8 = 32 + candSlot s) (withDrfCtl 0x80000000 s)
    match judge s with
    | .ok _ =>
      let s := noteCheck (0, 0, 0) s
      (if draftPending s then s else programCand (submitAt s) submittedWord s)
    | .error e => (programCand (submitAt s) 0 (refuseDraft e.1 (noteCheck e.2 s)))

/-- The command: SUBMIT (R458, R459, R466). -/
def execSubmit (_m : Master) (s : State) : Host.Outcome State Fault Refusal := .next (submitCand _m s)

/-- ERASE_CAND (R458, R467): the eight blocks of the candidate slot. -/
def eraseCand (_m : Master) (s : State) : State :=
  if !candidateFree s then s
  else
    let s := withDrfCtl 0x40000000 s
    let b := blockOfWord (slotBase (candSlot s))
    let r := ((List.range 8).map (fun i => refusal .steward false ((b + i) * 1024) true 0 s)).find? (fun r => r ≠ 0)
    match r with
    | some r => { s with drf := { s.drf with result := drfResult r } }
    | none => (startJobs ((List.range 8).map (b + ·)) .candidate { s with drf := { s.drf with busy := true } })

/-- The command: ERASE_CAND (R458, R467): the eight blocks of the candidate slot. -/
def execEraseCand (_m : Master) (s : State) : Host.Outcome State Fault Refusal := .next (eraseCand _m s)

/-- WITHDRAW (R467). -/
def withdrawByHost (_m : Master) (s : State) : State :=
  (if candidateFree s then programCand (submitAt s) 0 (withDrfCtl 0x20000000 s) else s)

/-- The command: WITHDRAW (R467). -/
def execWithdraw (_m : Master) (s : State) : Host.Outcome State Fault Refusal := .next (withdrawByHost _m s)

/-- ACTIVATE (R460): a chipset warm reset by steward command. -/
def activateByHost (_m : Master) (s : State) : State :=
  (if s.pwr.keeper then requestWarm .steward false (withDrfCtl 0x10000000 s) else s)

/-- The command: ACTIVATE (R460): a chipset warm reset by steward command. -/
def execActivate (_m : Master) (s : State) : Host.Outcome State Fault Refusal := .next (activateByHost _m s)

/-- DRF_CAND_DATA_WRITE (R458, R467): 8 bytes at DRF_CAND_OFS, which then moves on. -/
def candData (_m : Master) (data : DWord) (s : State) : State :=
  if !candidateFree s then s
  else if s.drf.candOfs % 8 ≠ 0 ∨ 65520 < s.drf.candOfs then { s with drf := { s.drf with result := 4 } }
  else
    let s := programCand (slotBase (candSlot s) + s.drf.candOfs / 8) data.toNat s
    { s with drf := { s.drf with candOfs := if s.drf.result = 0 then s.drf.candOfs + 8 else s.drf.candOfs } }

/-- The command: DRF_CAND_DATA_WRITE (R458, R467): 8 bytes at DRF_CAND_OFS, which then moves on. -/
def execDrfCandDataWrite (_m : Master) (data : DWord) (s : State) : Host.Outcome State Fault Refusal := .next (candData _m data s)

/-! ### The stream (R465) -/

/-- The ENGINE sections with their places in the streamed image: TYPE, offset, length, CRC. -/
def streamSections (d : Draft) : List (Nat × Nat × Nat × Nat) :=
  let base := 64 + 16 * d.engine.length
  (d.engine.foldl (fun (acc : Nat × List (Nat × Nat × Nat × Nat)) x =>
    (acc.1 + x.2.2.1, acc.2 ++ [(x.1, acc.1, x.2.2.1, x.2.2.2)])) (base, [])).2

/-- A table entry of R446. -/
def tableEntry (x : Nat × Nat × Nat × Nat) : List Byte :=
  leBytes 2 x.1 ++ leBytes 2 (sectionFlags x.1) ++ leBytes 4 x.2.1 ++ leBytes 4 x.2.2.1 ++ leBytes 4 x.2.2.2

/-- Bytes of the active slot. -/
def slotBytes (o n : Nat) (s : State) : List Byte :=
  (List.range n).map (fun i => BitVec.ofNat 8 (slotReader s.drf.activeSlot s (o + i)))

/-- Draft frames for `n` bytes from an offset of the streamed image, at most 124 B each (R534). -/
def draftFrames (o : Nat) (l : List Byte) : List Frame :=
  (List.range (divUp l.length 124)).map (fun i => .draft (o + 124 * i) ((l.drop (124 * i)).take 124))

/-- The whole stream: the header, the table entries of the ENGINE sections and the sections (R465). -/
def streamImage (d : Draft) (s : State) : List Byte :=
  slotBytes 0 64 s ++ d.engine.flatMap tableEntry ++ d.engine.flatMap (fun x => slotBytes x.2.1 x.2.2.1 s)

/-- Starts the stream, or starts it again from its first byte (R465, R536). -/
def startStream (s : State) : State :=
  match s.drf.active with
  | none => s
  | some d =>
    let s := setHdl .pctrl (fun h => { h with waiting := h.waiting.filter (fun f => frameClass f ≠ 9) }) s
    let s := { s with drf := { s.drf with stream := .streaming, okSections := [], fails := [], received := [] } }
    (draftFrames 0 (streamImage d s)).foldl (fun s f => sendFrame .pctrl f s) s

/-- Sends one section again. -/
def resendSection (type : Nat) (d : Draft) (s : State) : State :=
  match (streamSections d).find? (fun x => x.1 = type), d.engine.find? (fun x => x.1 = type) with
  | some p, some x => (draftFrames p.2.1 (slotBytes x.2.1 x.2.2.1 s)).foldl (fun s f => sendFrame .pctrl f s) s
  | _, _ => s

/-- The CRC of a section's bytes in the streamed image. -/
def sectionCrc (x : Nat × Nat × Nat × Nat) (m : Table Byte) : Nat :=
  crc32c ((List.range x.2.2.1).map (fun i => (tget (0 : Byte) m (x.2.1 + i)).toNat))

/-- Whether every retained section has the CRC that the section table gives (R465). -/
def bufferOk (s : State) : Bool :=
  match s.drf.active, s.drf.retained with
  | some d, some m => (streamSections d).all (fun x => sectionCrc x m = x.2.2.2)
  | _, _ => false

/-- The engine's replies to a frame: the recomputed CRC of each section whose last byte it brings. -/
def sectionReplies (offset n : Nat) (s : State) : State :=
  match s.drf.active with
  | none => s
  | some d =>
    ((streamSections d).filter (fun x => decide (offset < x.2.1 + x.2.2.1) && decide (x.2.1 + x.2.2.1 ≤ offset + n))).foldl
      (fun s x =>
        sendFrame .engine (.draftReply x.1 (sectionCrc x s.drf.received)) s) s

/-- DRAFT_FRAME (R465, R534): the engine takes the bytes, and answers for each section that is now complete. -/
def execDraftFrame (hdr : FrameHdr) (offset : Nat) (bytes : List Byte) (s : State) : Host.Outcome State Fault Refusal :=
  let ok := accepts .engine hdr s
  let s := receive .engine hdr s
  if ok then
    let s := { s with drf := { s.drf with
      received := bytes.zipIdx.foldl (fun m e => tput (0 : Byte) (offset + e.2) e.1 m) s.drf.received } }
    .next (sectionReplies offset bytes.length s)
  else .next s

/-- The stream is complete and confirmed: the engine may configure itself, it keeps the retained copy, and the region header,
with GENERATION, and the bolt table stand in the system region (R82, R106, R465). -/
def streamConfirmed (d : Draft) (s : State) : State :=
  { s with
    drf := { s.drf with stream := .confirmed, engineReady := true, retained := some s.drf.received },
    cache := { s.cache with header := regionHeader d, boltTable := d.bolts } }

/-- The third failure of a section: REASON 8 and HDL_P; the engine core stays in reset, with HOLD active (R61, R465). -/
def streamFailed (s : State) : State :=
  pcFault 198 0 { drivePair .hold true s with drf := { s.drf with stream := .failed, reason := 8, engineReady := false } }

/-- DRAFT_CRC_REPLY (R465): the steward compares a section's CRC. -/
def execDraftCrcReply (hdr : FrameHdr) (sect : Nat) (crc : Word) (s : State) : Host.Outcome State Fault Refusal :=
  let ok := accepts .pctrl hdr s
  let s := receive .pctrl hdr s
  match s.drf.active with
  | none => .next s
  | some d =>
    match d.engine.find? (fun x => x.1 = sect) with
    | none => .next s
    | some x =>
      if !ok || s.drf.stream ≠ .streaming then .next s
      else if crc.toNat = x.2.2.2 then
        let s := { s with drf := { s.drf with okSections := addTo sect s.drf.okSections } }
        .next (if d.engine.all (fun x => s.drf.okSections.contains x.1) then pcCond 198 (!s.hdlP.up) (streamConfirmed d s) else s)
      else
        let n := tget 0 s.drf.fails sect + 1
        let s := { s with drf := { s.drf with fails := tput 0 sect n s.drf.fails } }
        .next (if n < 3 then resendSection sect d s else streamFailed s)

/-- DRAFT_STREAM_RETRY (R465): after a failure the whole stream is repeated every second. -/
def execDraftStreamRetry (s : State) : Host.Outcome State Fault Refusal :=
  .next (if s.pwr.keeper && s.drf.stream = .failed then startStream s else s)

/-! ### Activation and the boot's choice (R125, R138, R222, R232, R460 to R463) -/

/-- R222 and R232 at a structural activation: a target that the new NAND set leaves out is no longer retired; its records stay on
it. Whether the store is degraded still is judged once discovery has shown the new NAND set. -/
def restructure (s : State) : State :=
  { s with nand := { s.nand with
      reassess := true,
      targets := s.nand.targets.map (fun e => (e.1, if declared e.1 s then e.2
        else { e.2 with ready := false, retired := false, permanent := false, cause := 0 })) } }

/-- Activates the candidate: the selector advances, and the activation has its effects (R125, R138, R460, R463,
R466). Where the selector's blocks take no entry, the candidate stays submitted (R475, R480). -/
def activateCand (d : Draft) (s : State) : State :=
  let structural := isStructural d.structCrc s
  let slot := candSlot s
  let t := commitEntry 2 [pairWord slot, pairWord d.generation, pairWord d.structCrc] s
  if !committed 2 s t then t
  else
  let s := logEvent 0xA d.generation slot t
  let s := { s with
    drf := { s.drf with active := some d, activeSlot := slot, fallback := false,
                        activations := satAdd max32 s.drf.activations 1 },
    warm := { s.warm with activated := true },
    stg := { s.stg with epbScale := 1024, govLevel := 0, govMarks := 0 } }
  let s := stewardWrite (.scale 1024) s
  if structural then restructure (ddrLost { s with warm := { s.warm with structural := true } }) else s

/-- Withdraws a submitted candidate at a reset and records why (R460, R466); where the temperature window refuses the submit
word's program the candidate is judged again at the next reset (R405). -/
def withdrawCand (reason : Nat) (check : Nat × Nat × Nat) (s : State) : State :=
  let s := refuseDraft reason (noteCheck check s)
  if eflReady s then programWord (submitAt s) 0 s else s

/-- Whether a structural candidate may be activated: the seal flag at a warm reset; in INERT always (R460). -/
def mayRestructure (cold : Bool) (s : State) : Bool := s.drf.active.isNone || (!cold && s.drf.sealFlag)

/-- A submitted candidate at a chipset reset (R460); without room for a selector entry, or
where the temperature window refuses the entry, it is not activated and stays submitted (R405, R480). -/
def considerCand (cold : Bool) (s : State) : State :=
  if !draftPending s then s
  else match judge s with
    | .error e => withdrawCand e.1 e.2 s
    | .ok d =>
      if !seqLeft 2 s || !eflReady s then s
      else if !isStructural d.structCrc s || mayRestructure cold s then activateCand d s
      else if cold then { s with drf := { s.drf with reason := 5 } }
      else withdrawCand 4 (0, 0, 0) s

/-- The draft slot that the selector names (R481). -/
def selectedDraft (s : State) : Nat := ((newestWord 2 0 s).bind unpair).getD 0 % 2

/-- The steward's choice of the active draft at a boot: the active slot, or the other one when it alone passes and has the
stored STRUCT_CRC (R462). -/
def chooseDraft (s : State) : State :=
  let slot := selectedDraft s
  let s := { s with drf := { s.drf with activeSlot := slot, active := none, fallback := false } }
  let take (d : Draft) (n : Nat) (fb : Bool) (s : State) : State :=
    { s with drf := { s.drf with active := some d, activeSlot := n, fallback := fb, reason := if fb then 6 else s.drf.reason } }
  let none' (s : State) : State := { s with drf := { s.drf with reason := 7 } }
  if (newestEntry 2 s).isNone then none' s
  else match checkSlot slot s with
    | .ok d => take d slot false s
    | .error e =>
      let s := noteCheck e s
      match checkSlot (1 - slot) s with
      | .ok d => if storedStruct s = some d.structCrc then take d (1 - slot) true s else none' s
      | .error _ => none' s

/-- A candidate is considered after the choice of the active draft; where it is not activated, the REASON of a fallback or of no valid draft
stands (R460, R462). -/
def considerAfter (cold : Bool) (s : State) : State :=
  let t := considerCand cold s
  if (s.drf.fallback || s.drf.active.isNone) && t.drf.activations = s.drf.activations then { t with drf := { t.drf with reason := s.drf.reason } } else t

/-- Step 6 of R70 on the steward's side: the active draft is checked and a submitted candidate considered; a vault
confirmed before step 6 leaves the candidate submitted (R73, R460). -/
def draftAtReset (cold : Bool) (s : State) : State :=
  let s := chooseDraft s
  if s.warm.confirmed.isSome then s else considerAfter cold s

end Sys2Proof.Machine
end

