-- ==== Sys2Proof/Machine/Thermal.lean ====
section
/-! DEFINITION. Temperature: samples, broken sensors, flags, rates, compensation and the thermal limits (R179, R180, R391 to
R409). -/

namespace Sys2Proof.Machine

/-! ### Sensors (R391, R399 to R403) -/

/-- Changes a sensor's record. -/
def modSensor (n : Nat) (f : Sensor → Sensor) (s : State) : State :=
  { s with thm := { s.thm with sensors := tmod {} n f s.thm.sensors } }

/-- Whether a reading lies in the range of R391. -/
def inRangeTemp (t : Int) : Bool := decide (-880 ≤ t) && decide (t ≤ 2800)

/-- Whether two readings differ by more than a limit in degrees C. -/
def differBy (a b : Int) (limit : Nat) : Bool := decide (16 * (limit : Int) < a - b) || decide (16 * (limit : Int) < b - a)

/-- The gradient limit of a pair of sensors; none where no limit is given (R399). -/
def pairLimit (a b : Nat) (s : State) : Option Nat :=
  if a < 18 ∧ b < 18 then some 15
  else match (neighbours a s).find? (fun m => m.1 = b) with
    | some m => some m.2
    | none => ((neighbours b s).find? (fun m => m.1 = a)).map (·.2)

/-- A sensor's valid neighbours with their limits. -/
def validNeighbours (n : Nat) (s : State) : List (Nat × Nat) :=
  (neighbours n s).filter (fun m => sensorValid m.1 s && sensorCounts m.1 s)

/-- The valid neighbours from which a reading differs by more than their limits. -/
def offFrom (n : Nat) (t : Int) (s : State) : List Nat :=
  ((validNeighbours n s).filter (fun m => differBy t (sensorAt m.1 s).temp m.2)).map (·.1)

/-- Whether two of the sensors listed agree with each other within their own limit. -/
def agree (l : List Nat) (s : State) : Bool :=
  l.any (fun a => l.any (fun b => decide (a < b) && (match pairLimit a b s with
    | some lim => !differBy (sensorAt a s).temp (sensorAt b s).temp lim
    | none => false)))

/-- Changes a zone's flags. -/
def modZone (z : Nat) (f : Zone → Zone) (s : State) : State := { s with thm := { s.thm with zones := modAt z f s.thm.zones } }

/-- The release timers of a sensor's zone start again from zero (R402). -/
def restartRelease (n : Nat) (s : State) : State :=
  match sensorZone n s with
  | some z => modZone z (fun x => { x with restart := some (now s) }) s
  | none => s

/-- A sensor is declared broken; its source is raised while any sensor is, and the release timers of its zone start again
(R399, R401, R402). -/
def declareBroken (n cause : Nat) (s : State) : State :=
  if (sensorAt n s).broken then s
  else pcFault 224 n (restartRelease n (modSensor n (fun x => { x with broken := true, suspect := false, cause := cause }) s))

/-- THM_SUSPECT holds while a sensor is marked (R400). -/
def suspectCond (s : State) : State := pcCond 223 (s.thm.sensors.any (fun e => e.2.suspect)) s

/-- Whether the sample's reading arrives: an engine sensor's needs VCORE_E and the heddle link, and an unused external
input has no zone (R390, R392). -/
def sampleArrives (n : Nat) (s : State) : Bool := decide (n < 26) && (sensorZone n s).isSome && sensorCounts n s

/-- Whether zone 0 receives readings of other engine sensors: one of them arrived in the last 10 ms (R399). -/
def othersArrive (n : Nat) (s : State) : Bool :=
  (List.range 12).any (fun m => m ≠ n && (sensorAt m s).seen && decide (now s ≤ (sensorAt m s).last + 10 ^ 7))

/-- An engine sensor's reading has not arrived for 10 ms: while others arrive the sensor is broken; with no reading there is none off
its neighbours either (R399). -/
def missedSample (n : Nat) (s : State) : State :=
  let s := modSensor n (fun x => { x with offNbr := 0 }) s
  if n < 12 && othersArrive n s then declareBroken n 3 (modSensor n (fun x => { x with outRange := 3 }) s) else s

/-- Whether a reading has fewer than two valid neighbours to be judged by, and otherwise whether it is off two that agree (R399,
R400). -/
def judged (n : Nat) (t : Int) (s : State) : Bool :=
  decide (2 ≤ (validNeighbours n s).length) && agree (offFrom n t s) s

/-- A reading off its neighbours counts; the third in a row breaks the sensor (R399). -/
def judgeSample (n : Nat) (t : Int) (s : State) : State :=
  let off := judged n t s
  let s := modSensor n (fun x => { x with offNbr := if off then Nat.min 3 (x.offNbr + 1) else 0 }) s
  if (sensorAt n s).offNbr = 3 then suspectCond (declareBroken n 2 s) else s

/-- A reading out of range: the third in a row breaks the sensor (R399). -/
def badSample (n : Nat) (t : Int) (s : State) : State :=
  let s := judgeSample n t (modSensor n (fun x => { x with outRange := Nat.min 3 (x.outRange + 1), last := now s }) s)
  if (sensorAt n s).outRange = 3 then declareBroken n 1 s else s

/-- A reading in range (R399, R400). -/
def goodSample (n : Nat) (t : Int) (s : State) : State :=
  let few := decide ((validNeighbours n s).length < 2)
  let off := offFrom n t s
  let broken := (sensorAt n s).broken
  judgeSample n t <| suspectCond <| modSensor n (fun x => { x with
    temp := t, seen := true, outRange := 0, last := now s, suspect := few && !off.isEmpty && !broken }) s

/-- The temperature of a thermistor's resistance, in 1/16 degree C rounded down: linear between the points of the draft's table and,
beyond its ends, on from the last two points; point k stands for -40 + 5 k degrees C (R391; the rounding is a DESIGN CHOICE,
log entry 87). -/
def tableTemp (table : List Nat) (r : Nat) : Int :=
  let x (k : Nat) : Int := table.getD k 0
  let falls := decide (x 32 < x 0)
  let k := Nat.min 31 (((List.range 33).filter (fun k => if falls then decide ((r : Int) ≤ x k) else decide (x k ≤ (r : Int)))).length - 1)
  16 * (-40 + 5 * (k : Int)) + Int.fdiv (80 * ((r : Int) - x k)) (x (k + 1) - x k)

/-- An external input's reading, and whether its resistance lies between half of RES[32] and twice RES[0] (R391, R399). -/
def thermReading (n r : Nat) (s : State) : Option (Int × Bool) :=
  (thermIn (n - 18) s).map (fun t =>
    (tableTemp t.table r, decide (r ≤ 2 * t.table.getD 0 0) && decide (t.table.getD 32 0 ≤ 2 * r)))

/-- Takes a reading in, in range or not (R399). -/
def takeReading (n : Nat) (t : Int) (ok : Bool) (s : State) : State :=
  if ok && inRangeTemp t then goodSample n t s else badSample n t s

/-- Takes a sample in (R391, R399). -/
def takeSample (n : Nat) (r : SensorRead) (s : State) : State :=
  match r with
  | .missing => missedSample n s
  | .temp t => takeReading n t true s
  | .ohms r => match thermReading n r s with
    | some x => takeReading n x.1 x.2 s
    | none => s

/-! ### Zones and flags (R180, R392 to R395) -/

/-- A zone's thresholds in 1/16 degree C: WARN, THROTTLE and VAULT; zone 4 has WARN only (R393). -/
def zoneLimits (z : Nat) (s : State) : Option (Int × Option Int × Option Int) :=
  match s.drf.active with
  | none => none
  | some d => match d.zoneThr[z]? with
    | some t => some (16 * t.1, if z < 4 then some (16 * t.2.1) else none, if z < 4 then some (16 * t.2.2) else none)
    | none => none

/-- Whether a value has reached a limit. -/
def atLimit (m : Option Int) (limit : Option Int) : Bool :=
  match m, limit with | some t, some l => decide (l ≤ t) | _, _ => false

/-- The value that zone 0 keeps (R392). -/
def keepZone (s : State) : State :=
  match zoneMax 0 s with
  | some t => modZone 0 (fun x => { x with kept := t }) s
  | none => s

/-- The thermal hold of R180, or THERMAL_HOLD_EXHAUSTED in the place of a further one. A hold for another trigger becomes one, so that
its first attempt waits for the cooling (R175); during a re-boot the selvedge acts again. -/
def thermalHold (s : State) : State :=
  let soon : Bool := decide (0 < s.vlt.thermalHolds) && match s.thm.lastResume with | some t => decide (now s ≤ t + 10 ^ 9) | none => false
  if s.flt.belay || s.sel.phase = .cooling || (s.sel.phase = .holding && s.sel.thermal) then s
  else if soon || decide (setting s P.thermalHoldMax < s.vlt.thermalHolds + 1) then pcFault 163 0 s
  else
    let s := { s with vlt := { s.vlt with thermalHolds := s.vlt.thermalHolds + 1 } }
    if s.sel.phase = .holding then { s with sel := { s.sel with thermal := true } } else selvedgeHold true s

/-- The shuttles follow the limit of R179. -/
def shuttlesFollow (s : State) : State := if inDrainStates s then demandChanged s else s

/-- Sets the WARN flag of a zone that has reached it. -/
def setWarn (z : Nat) (s : State) : State :=
  if (zoneAt z s).warn then s else pcFault (212 + z) 0 (modZone z (fun x => { x with warn := true }) s)

/-- The shuttles' demand follows a THROTTLE flag of the engine zone or the NAND zone (R179, R268). -/
def demandFollows (z : Nat) (s : State) : State := if z ≤ 1 then shuttlesFollow s else s

/-- Sets the THROTTLE flag. -/
def setThrottle (z : Nat) (s : State) : State :=
  if (zoneAt z s).throttle then s else demandFollows z (currentFollows (modZone z (fun x => { x with throttle := true }) s))

/-- Whether the vault has been held or re-booted: a zone that is at VAULT still, or was meanwhile, has then reached it again
(R180; DEDUCED, log entry 58). -/
def heldBefore (s : State) : Bool := decide (0 < s.vlt.thermalHolds) || decide (0 < s.vlt.reboots)

/-- THM_VAULT_z once for a setting of the VAULT flag; that of the engine zone is raised outside a vault alone, for a flag set in a
vault when it stays set beyond it (R395). -/
def tellVault (z : Nat) (s : State) : State :=
  if !(zoneAt z s).vault || (zoneAt z s).told || (z = 0 && inVault s) then s
  else pcFault (217 + z) 0 (modZone z (fun x => { x with told := true }) s)

/-- Sets the VAULT flag; the engine zone's in a vault leads to a thermal hold (R180, R395). A value that the zone merely keeps reaches
nothing again (R392). -/
def setVaultFlag (z : Nat) (crossed : Bool) (s : State) : State :=
  let s := modZone z (fun x => { x with vault := true }) s
  if z = 0 && inVault s && (crossed || (heldBefore s && !zoneStale s)) then thermalHold s else s

/-- The flags of a zone after a sample; `before` is its maximum before it (R394, R395). -/
def zoneFlags (before : Option Int) (z : Nat) (s : State) : State :=
  match zoneLimits z s with
  | none => s
  | some (w, t, v) =>
    let m := zoneMax z s
    let s := if atLimit m (some w) then setWarn z s else s
    let s := if atLimit m t then setThrottle z s else s
    tellVault z (if atLimit m v then setVaultFlag z (!atLimit before v) s else s)

/-- What follows the zones' values: the embedded-flash window, the exercise, the charger (R364, R382, R405). -/
def thermFollow (s : State) : State := currentFollows (chargerCheck (exerciseCheck (eflWindow s)))

/-- A zone temperature as a monitor sample in 0.1 K (R518). -/
def zoneSample (z : Nat) (s : State) : List MonSample :=
  match zoneMax z s with
  | some t => [{ code := 13, index := z, value := ((10 * t + 43704) / 16).toNat }]
  | none => []

/-- T_store_max is taken down with the samples of the store inputs: over the last 10 min and one before, and in the day's sum (R384,
R398). -/
def noteStore (z : Nat) (s : State) : State :=
  match tStoreMax s with
  | none => s
  | some t =>
    if z ≠ 4 then s
    else
      let old := s.thm.storeHist
      let recent := old.filter (fun e => decide (now s < e.1 + 600 * 10 ^ 9))
      { s with thm := { s.thm with
          storeHist := (now s, t) :: recent ++ (old.drop recent.length).take 1, daySum := s.thm.daySum + t, dayCount := s.thm.dayCount + 1 } }

/-- SENSOR_SAMPLE (R180, R391 to R401, R405): the sample, then every zone's flags, a zone of another sensor too where the
substitutes of R401 change it. -/
def execSensorSample (sensor : Nat) (read : SensorRead) (s : State) : Host.Outcome State Fault Refusal :=
  if !s.pwr.keeper || !sampleArrives sensor s then .next s
  else
    let before := (List.range 5).map (fun z => zoneMax z s)
    let s := keepZone (takeSample sensor read s)
    let s := (List.range 5).foldl (fun s z => zoneFlags ((before[z]?).getD none) z s) s
    let z := (sensorZone sensor s).getD 0
    let s := sendSamples (zoneSample z s) s
    let cool : Bool := match zoneLimits 0 s with
      | some (_, some t, _) => decide (18 ≤ sensor) && z = 0 && sensorValid sensor s && decide ((sensorAt sensor s).temp < t)
      | _ => false
    let s := if s.sel.phase = .cooling && cool && !s.flt.belay then startCooled s else s
    .next (thermFollow (tempFollows (noteStore z s)))

/-- Whether a zone lies below a threshold minus thm_hyst (R394). -/
def belowHyst (z : Nat) (limit : Option Int) (s : State) : Bool :=
  match zoneMax z s, limit with
  | some t, some l => decide (t < l - 16 * (setting s P.thmHyst : Int))
  | _, _ => false

/-- THM_RATE holds while a zone's RATE flag is set (R397). -/
def rateCond (s : State) : State := pcCond 221 (s.thm.zones.any (·.rate)) s

/-- Whether thm_hold, in 0.5 s, has passed since the release timers of a zone were started again (R402). -/
def heldLong (z : Nat) (s : State) : Bool :=
  match (zoneAt z s).restart with
  | some t => decide (t + setting s P.thmHold * 500000000 ≤ now s)
  | none => true

/-- THM_HOLD_EXPIRY (R394, R397, R402): thm_hold below the threshold minus thm_hyst; a THROTTLE flag under RATE waits for
that, and no flag clears within thm_hold of a sensor of the zone being declared broken. -/
def execThmHoldExpiry (zone flag : Nat) (s : State) : Host.Outcome State Fault Refusal :=
  match zoneLimits zone s with
  | none => .next s
  | some (w, t, v) =>
    if !s.pwr.keeper || !heldLong zone s then .next s
    else if flag = 0 then
      .next (if (zoneAt zone s).warn && belowHyst zone (some w) s then
        pcClear (212 + zone) (modZone zone (fun x => { x with warn := false }) s) else s)
    else if flag = 1 then
      .next (if (zoneAt zone s).throttle && !(zoneAt zone s).rate && belowHyst zone t s then
        thermFollow (demandFollows zone (modZone zone (fun x => { x with throttle := false }) s)) else s)
    else if flag = 2 then
      .next (if (zoneAt zone s).vault && belowHyst zone v s then
        pcClear (217 + zone) (modZone zone (fun x => { x with vault := false, told := false }) s) else s)
    else .next (if (zoneAt zone s).rate then rateCond (modZone zone (fun x => { x with rate := false }) s) else s)

/-! ### Rates of rise (R397, R398) -/

/-- The sensors of zones 0 and 3 that R397 looks at: the valid ones. -/
def rateSensors (s : State) : List Nat :=
  (List.range 26).filter (fun n => (sensorZone n s = some 0 || sensorZone n s = some 3) && sensorValid n s && sensorCounts n s)

/-- A sensor's rise over the last 1 s, from its reading ten checks ago (R397). -/
def riseOf (n : Nat) (s : State) : Option Int := ((sensorAt n s).hist[9]?).map (fun t => (sensorAt n s).temp - t)

/-- The readings at this check are kept for the next ten; one of a sensor that is left out begins again (R397). -/
def noteRates (s : State) : State :=
  { s with thm := { s.thm with sensors := s.thm.sensors.map (fun e =>
      (e.1, { e.2 with hist := if (rateSensors s).contains e.1 then (e.2.temp :: e.2.hist).take 10 else [] })) } }

/-- THM_RATE_CHECK (R397): every 100 ms, the rise over the last 1 s of each valid sensor of zones 0 and 3. -/
def execThmRateCheck (s : State) : Host.Outcome State Fault Refusal :=
  if !s.pwr.keeper || s.drf.active.isNone then .next s
  else
    let fast := (rateSensors s).filter (fun n => (riseOf n s).any (fun r => decide (16 * (setting s P.dieRateMax : Int) < r)))
    let zs := [0, 3].filter (fun z => fast.any (fun n => sensorZone n s = some z))
    .next (rateCond (zs.foldl (fun s z => setThrottle z (modZone z (fun x => { x with rate := true }) s)) (noteRates s)))

/-- The rise of T_store_max over the last 10 min; none before there is a value that old (R398). -/
def storeRise (s : State) : Option Int :=
  match tStoreMax s, s.thm.storeHist.find? (fun e => decide (e.1 + 600 * 10 ^ 9 ≤ now s)) with
  | some t, some e => some (t - e.2)
  | _, _ => none

/-- STORE_RATE_CHECK (R398): store_rate_max is in 0.1 degree C a minute, and the rise is over 10 min. -/
def execStoreRateCheck (s : State) : Host.Outcome State Fault Refusal :=
  if !s.pwr.keeper || s.drf.active.isNone then .next s
  else
    let limit : Int := 16 * (setting s P.storeRateMax : Int)
    let rises (p : Int → Bool) : Bool := (storeRise s).any p
    let s := if rises (fun r => decide (limit ≤ r)) then { s with chg := { s.chg with rateAt := now s } } else s
    if rises (fun r => decide (limit < r)) && charging s then
      .next (chargerCheck (pcFault 222 0 { s with chg := { s.chg with rateStop := true } }))
    else if s.chg.rateStop && !rises (fun r => decide (limit ≤ r)) && decide (s.chg.rateAt + 600 * 10 ^ 9 ≤ now s) then
      .next (chargerCheck (pcClear 222 { s with chg := { s.chg with rateStop := false } }))
    else .next s

/-! ### Return to service and compensation (R403, R404) -/

/-- The last 24 h in ns. -/
def dayNs : Nat := 86400 * 10 ^ 9

/-- A sensor's returns in the last 24 h (R403). -/
def recentReturns (n : Nat) (s : State) : List Nat := (sensorAt n s).returns.filter (fun t => decide (now s ≤ t + dayNs))

/-- SENSOR_RETURN (R124, R403): in range and within the limits of every valid neighbour; after the third return in 24 h a sensor
that breaks again stays broken. -/
def execSensorReturn (sensor : Nat) (s : State) : Host.Outcome State Fault Refusal :=
  let x := sensorAt sensor s
  if !s.pwr.keeper || !x.broken || x.locked || !x.seen || x.outRange ≠ 0 || !(offFrom sensor x.temp s).isEmpty then .next s
  else
    let l := now s :: recentReturns sensor s
    let before := (List.range 5).map (fun z => zoneMax z s)
    let s := modSensor sensor (fun x => { x with broken := false, cause := 0, offNbr := 0, returns := l, locked := decide (3 ≤ l.length) }) s
    let s := pcCond 224 (s.thm.sensors.any (fun e => e.2.broken)) s
    let s := (List.range 5).foldl (fun s z => zoneFlags ((before[z]?).getD none) z s) (keepZone s)
    .next (thermFollow (tempFollows s))

/-- Sorts readings. -/
def insertTemp (t : Int) : List Int → List Int
  | [] => [t]
  | x :: r => if t ≤ x then t :: x :: r else x :: insertTemp t r

/-- The median; of an even number of readings the mean of the middle two. -/
def medianOf (l : List Int) : Int :=
  let m := l.foldl (fun acc t => insertTemp t acc) []
  let n := m.length
  if n % 2 = 1 then (m[n / 2]?).getD 0 else ((m[n / 2 - 1]?).getD 0 + (m[n / 2]?).getD 0) / 2

/-- COMPENSATION_TICK (R404). -/
def execCompensationTick (s : State) : Host.Outcome State Fault Refusal :=
  if !s.pwr.keeper then .next s
  else
    let l := zoneReadings 3 s
    .next (if l.length < 3 then pcFault 225 0 s else pcClear 225 { s with thm := { s.thm with comp := medianOf l } })

/-! ### Analog limits and thermal shutdown (R407 to R409) -/

/-- ENGINE_ANALOG_LIMIT (R407): powered from VPHY_E, whatever the engine core does; its release ends BELAYE unless another
S4 source drives it. -/
def execEngineAnalogLimit (tripped : Bool) (s : State) : Host.Outcome State Fault Refusal :=
  if !(domAt 2 s).good then .next s
  else if tripped then
    if s.flt.analogTrip then .next s
    else .next (engineFault 64 0 (drivePair .belaye true { s with flt := { s.flt with analogTrip := true } }))
  else if s.flt.analogTrip then
    let s := engineClear 64 { s with flt := { s.flt with analogTrip := false } }
    .next (drivePair .belaye (s.flt.engineLive.any (fun n => sevOf n s = 4)) s)
  else .next s

/-- The steward is halted, and charger and balancing stop (R408). -/
def haltPower (s : State) : State :=
  let s := stopCharger { s with flt := { s.flt with stewardHalted := true } }
  { s with cell := { s.cell with bleed := [] } }

/-- THERMAL_STAGE_ONE (R408). -/
def execThermalStageOne (s : State) : Host.Outcome State Fault Refusal :=
  let hot : Bool := match zoneMax 3 s with | some t => decide (2320 ≤ t) | none => false
  if !s.pwr.keeper || s.thm.stage1 || !hot then .next s
  else
    let s := suspendErase false { s with thm := { s.thm with stage1 := true, count1 := satAdd 255 s.thm.count1 1 } }
    let s := match s.efl.op with
      | some (.program w d) => completeProgram w d s
      | _ => s
    .next (pcFault 227 0 (haltPower s))

/-- THERMAL_STAGE_TWO (R408). -/
def execThermalStageTwo (tripped : Bool) (s : State) : Host.Outcome State Fault Refusal :=
  if !s.pwr.keeper then .next s
  else if !tripped then .next { s with thm := { s.thm with stage2Tripped := false } }
  else if s.thm.stage2Tripped then .next s
  else
    let s := { s with thm := { s.thm with stage2 := true, stage2Tripped := true, count2 := satAdd 255 s.thm.count2 1 } }
    .next (pcFault 228 0 (haltPower (cutOperation s)))

/-- THERMAL_SHUTDOWN_EXIT (R409, R433): the latches clear and a chipset warm reset ends belay. -/
def execThermalShutdownExit (s : State) : Host.Outcome State Fault Refusal :=
  let cool : Bool := match zoneMax 3 s with | some t => decide (t < 1920) | none => false
  if !s.pwr.keeper || !(s.thm.stage1 || s.thm.stage2) || s.thm.stage2Tripped || !cool then .next s
  else
    let s := pcClear 227 (pcClear 228 { s with
      thm := { s.thm with stage1 := false, stage2 := false }, flt := { s.flt with stewardHalted := false } })
    let s := leaveBelay (requestWarm .thermalExit true s)
    .next (vaultOver { s with restore := { s.restore with afterVault := false } })

end Sys2Proof.Machine
end

