-- ==== Sys2Proof/Machine/Monitors.lean ====
section
/-! DEFINITION. The timebase's commands and the monitors' (R514 to R523). -/

namespace Sys2Proof.Machine

/-! ### Timebase -/

/-- DEVIATION: 16 bits, saturating. -/
def shownDeviation (d : Int) : Int := if 32767 < d then 32767 else if d < -32768 then -32768 else d

/-- LOCKED: the rate follows the CXL reference clock while it is present at its rate and the engine runs (R514, R515). -/
def tbsLocked (s : State) : Bool := s.tbs.refclk && !s.tbs.offRate && s.warm.engineUp

/-- TBS_STATUS of the master, or of the engine copy. -/
def tbsStatus (copy : Bool) (s : State) : Nat :=
  b01 (tbsLocked s) * 2 ^ 31 + b01 s.tbs.refclk * 2 ^ 30 + b01 (!copy || s.tbs.aligned) * 2 ^ 29 + s.tbs.losses * 2 ^ 16 +
  (if copy then ofSigned 16 s.tbs.measured else 0)

/-- Whether the engine's copy is within 200 ns of the master. -/
def nearMaster (s : State) : Bool := decide (s.tbs.deviation.natAbs ≤ 200)

/-- The engine measures its copy against the master: DEVIATION and ALIGNED (R516). The copy itself does not step. -/
def measureCopy (s : State) : State :=
  { s with tbs := { s.tbs with measured := shownDeviation s.tbs.deviation, aligned := nearMaster s } }

/-- The engine loads its copy from the master, to within 200 ns: a free value (R516). -/
def loadTime (s : State) : State :=
  measureCopy (nextFree { s with tbs := { s.tbs with deviation := (Config.freeNat s.free % 401 : Nat) - (200 : Int), loaded := true } })

/-- The copy at a return of the link: loaded if it has not been since the engine's reset, measured otherwise (R516). -/
def meetMaster (s : State) : State := if s.tbs.loaded then measureCopy s else loadTime s

/-- A deviation one nanosecond nearer to 0. -/
def slewed (d : Int) : Int := if 0 < d then d - 1 else if d < 0 then d + 1 else 0

/-- The engine's copy as time passes (R516). With the link up it slews back, by R514's 100 ppm, while it is off; with the link down it
runs on a measurement of its own, which R514 holds within 1 percent of the master: a nanosecond either way in each 100, a free value
(DESIGN CHOICE, log entry 109). It never decreases. -/
def copyRuns (s : State) : State :=
  if !s.tbs.loaded then s
  else if s.hdlE.up && s.hdlP.up then
    (if s.tbs.now % 10000 = 0 && !nearMaster s then
      let s := { s with tbs := { s.tbs with deviation := slewed s.tbs.deviation } }
      { s with tbs := { s.tbs with aligned := nearMaster s } }
    else s)
  else if s.tbs.now % 100 = 0 then
    nextFree { s with tbs := { s.tbs with deviation := s.tbs.deviation + (Config.freeNat s.free % 3 : Nat) - (1 : Int) } }
  else s

/-- TIME_FRAME (R514, R516, R534): the engine measures its copy, or the power controller takes the rate correction. -/
def execTimeFrame (hdr : FrameHdr) (from' : End) (correction : Int) (s : State) : Host.Outcome State Fault Refusal :=
  let ok := accepts (otherEnd from') hdr s
  let s := receive (otherEnd from') hdr s
  if !ok then .next s
  else match from' with
    | .pctrl => .next (meetMaster s)
    | .engine => .next { s with tbs := { s.tbs with correction := correction } }

/-- REFCLK_LOSS (R515): the reference clock, which was present, is lost, or is present and off its rate; a loss of lock is
counted once. -/
def execRefclkLoss (present : Bool) (s : State) : Host.Outcome State Fault Refusal :=
  if s.pwr.keeper && s.tbs.refclk then
    let t := { s with tbs := { s.tbs with refclk := present, offRate := present } }
    .next (if s.tbs.offRate then t else pcFault 237 0 { t with tbs := { t.tbs with losses := satAdd 255 s.tbs.losses 1 } })
  else .next s

/-- REFCLK_RETURN (R514): the rate follows the reference clock again; the count does not step. -/
def execRefclkReturn (s : State) : Host.Outcome State Fault Refusal :=
  .next (if s.pwr.keeper then pcClear 237 { s with tbs := { s.tbs with refclk := true, offRate := false } } else s)

/-! ### Monitors -/

/-- MONITOR_FRAME (R518, R534): the power controller's measurands. -/
def execMonitorFrame (hdr : FrameHdr) (samples : List MonSample) (s : State) : Host.Outcome State Fault Refusal :=
  let ok := accepts .engine hdr s
  let s := receive .engine hdr s
  .next (if ok then (samples.filter (fun x => decide (11 ≤ x.code))).foldl (fun s x => sample x.code x.index x.value s) s else s)

/-- A monitor cleared, with its MON_CFG (R521). -/
def clearedMonitor (cfg : Nat) : Monitor := { cfg := cfg }

/-- A monitor. -/
def monitorAt (m : Nat) (s : State) : Monitor := tget {} s.mon.mons m

/-- Writes MON_CFG[m] (R521, R522). -/
def writeMonCfg (m value : Nat) (s : State) : State :=
  { s with mon := { s.mon with mons := tput {} m (clearedMonitor value) s.mon.mons } }

/-- MON_CFG_WRITE (R521). -/
def execMonCfgWrite (_m : Master) (monitor : Nat) (value : Word) (s : State) : Host.Outcome State Fault Refusal :=
  .next (if s.warm.engineUp && decide (monitor < 64) then writeMonCfg monitor value.toNat s else s)

/-- Clears every monitor (R521). -/
def clearMonitors (s : State) : State :=
  { s with mon := { s.mon with mons := s.mon.mons.filterMap (fun e =>
      if e.2.cfg = 0 then none else some (e.1, clearedMonitor e.2.cfg)) } }

/-- MON_CLEAR_ALL (R521). -/
def execMonClearAll (_m : Master) (s : State) : Host.Outcome State Fault Refusal :=
  .next (if s.warm.engineUp then clearMonitors s else s)

/-- MON_FREEZE (R522). -/
def execMonFreeze (_m : Master) (freeze : Bool) (s : State) : Host.Outcome State Fault Refusal :=
  .next (if s.warm.engineUp then { s with mon := { s.mon with freeze := freeze } } else s)

/-- The draft's monitor records as MON_CFG values (R455, R523). -/
def draftMonitors (s : State) : Table Monitor :=
  match s.drf.active with
  | none => []
  | some d => d.mon.zipIdx.filterMap (fun e =>
      let cfg := e.1.exp * 2 ^ 28 + e.1.code % 64 * 2 ^ 22 + e.1.index % 64 * 2 ^ 16 + e.1.lower
      if cfg = 0 then none else some (e.2, clearedMonitor cfg))

end Sys2Proof.Machine
end

