-- ==== Sys2Proof/Machine/Heddle.lean ====
section
/-! DEFINITION. The heddle link's control frames, resends, link-down and link-up (R412, R505, R506, R533 to R537). -/

namespace Sys2Proof.Machine

/-- HEDDLE_CONTROL_FRAME (R535): ACK, and with NAK a resend; a bad header is counted and answered with NAK. -/
def execHeddleControlFrame (at' : End) (hdr : FrameHdr) (s : State) : Host.Outcome State Fault Refusal :=
  if !(hdl at' s).up then .next s
  else if hdr.valid then .next (takeAck at' hdr s)
  else .next (sendControl at' true (setHdl at' (fun h => { h with crcErrors := satAdd max32 h.crcErrors 1 }) s))

/-- Whether a frame is a tunnelled write. -/
def isWrite (f : Frame) : Bool := match f with | .request r => r.write | _ => false

/-- Whether the far half is unreachable from the engine's end, or from the power controller's (R506). -/
def engineAway (s : State) : Bool :=
  !s.warm.engineUp || s.drf.active.isNone || s.vlt.state = .hold || s.vlt.state = .off || (s.flt.belay && !s.flt.awaitHold)

/-- Whether the far half is unreachable from an end (R506). -/
def unreachable (e : End) (s : State) : Bool :=
  !linkUp s || (match e with | .engine => false | .pctrl => engineAway s)

/-- Whether a frame is a tunnelled write of the SMBus port. -/
def isPortWrite (f : Frame) : Bool := match f with | .request r => r.write && r.master = .smbus | _ => false

/-- Accesses that met an unreachable half, counted at the issuing end, and for the SMBus port noted in REG_STATUS (R506). -/
def countUnreached (e : End) (n : Nat) (port : Bool) (s : State) : State :=
  let s := setHdl e (fun h => { h with unreached := satAdd max32 h.unreached n }) s
  if port then { s with smb := { s.smb with unreachable := true } } else s

/-- An end's frames on the link are lost with it: Log frames wait for its return, tunnelled writes are lost, and the other frames
are dropped; SEQ starts at 0 (R506, R523, R536). -/
def loseFrames (e : End) (s : State) : State :=
  let all := (hdl e s).unacked.map Unacked.frame ++ (hdl e s).waiting
  let s := setHdl e (fun h => { h with txSeq := 0, rxSeq := 0, unacked := [], waiting := all.filter keptWhileDown }) s
  gapMonitors (countUnreached e (all.filter isWrite).length (all.any isPortWrite) s)

/-- An end declares the link down (R506, R536). -/
def endDown (e : End) (s : State) : State :=
  if !(hdl e s).up then s
  else
    let s := setHdl e (fun h => { h with up := false, downs := satAdd 65535 h.downs 1 }) (loseFrames e s)
    match e with
    | .engine =>
      let s := if s.vlt.state = .speculative then abandon s else s
      if (domAt 1 s).on then engineFault 59 0 s else s
    | .pctrl => if engineAway s then s else pcFault 198 0 s

/-- HEDDLE_RESEND_EXPIRY (R535, R536): every unacknowledged frame is sent again; one sent nine times takes the link
down. -/
def execHeddleResendExpiry (at' : End) (s : State) : Host.Outcome State Fault Refusal :=
  if !(hdl at' s).up || (hdl at' s).unacked.isEmpty then .next s
  else if sentNine at' s then .next (endDown at' s)
  else .next (resendAll at' s)

/-- HEDDLE_ACK_TICK (R535). -/
def execHeddleAckTick (at' : End) (s : State) : Host.Outcome State Fault Refusal := .next (sendControl at' false s)

/-- HEDDLE_LINK_DOWN (R536, R537). -/
def execHeddleLinkDown (at' : End) (s : State) : Host.Outcome State Fault Refusal := .next (endDown at' s)

/-- The codes of every engine source, the broken ones among them, in Fault frames of at most 32 entries (R411, R412, R534). -/
def sendAllCodes (s : State) : State :=
  let code (n : Nat) : Nat × Bool × Bool :=
    match tfind s.flt.engineBroken n with
    | some b => (n, b, b)
    | none => (n, s.flt.engineLive.contains n, !s.flt.engineLive.contains n)
  [0, 32, 64].foldl (fun t b =>
    sendFrame .engine (.fault (((List.range 32).map (b + ·)).filter (fun n => decide (n < 66)) |>.map code)) t) s

/-- What each class sends once the link is back (R536). -/
def afterReturn (s : State) : State :=
  let s := sendAllCodes s
  let s := if inDrainStates s then sendFrame .engine (.warning 3) s else s
  let s := sendFrame .pctrl (.warning (if s.vin.warn then 1 else 2)) s
  let s := match s.stg.lastKnot with | some p => sendFrame .engine (.knotPointer s.stg.lastKnotEpoch p) s | none => s
  let s := sendFrame .pctrl (.time (now s) 0 (tbsStatus false s)) (sendEnergy s)
  if s.drf.stream = .streaming || s.drf.stream = .failed then startStream s else s

/-- HEDDLE_LINK_UP (R412, R506, R516, R536, R537): both ends are powered; SEQ starts at 0 in each direction, and what an end that was
still up had on the link is lost. -/
def execHeddleLinkUp (s : State) : Host.Outcome State Fault Refusal :=
  if linkUp s || !s.pwr.keeper || !allGood [1, 2] s then .next s
  else
    let s := loseFrames .pctrl (loseFrames .engine s)
    let s := meetMaster { s with hdlE := { s.hdlE with up := true }, hdlP := { s.hdlP with up := true } }
    let s := pump .pctrl 16 (pump .engine 16 s)
    let s := engineClear 59 (if s.drf.stream = .failed then s else pcClear 198 s)
    .next (afterReturn s)

end Sys2Proof.Machine
end

