-- ==== Sys2Proof/Machine/LifeCycle.lean ====
section
/-! DEFINITION. The steward's boot, the life cycle and the vault key (R69, R109, R476, R477, R480 to R484, R488 to R499). -/

namespace Sys2Proof.Machine

/-! ### The vault key (R496 to R499) -/

/-- Zeroes every valid key entry but the newest (R499). -/
def zeroOldKeys (s : State) : State :=
  let newest := newestEntry 4 s
  ((validEntries 4 s).filter (fun e => some e ≠ newest)).foldl
    (fun s e => zeroEntry 4 e.2.1 e.2.2 s) s

/-- A new vault key, which the engine fitted wraps under its own secret, and whether it is kept: in MFG wrapped in keeper SRAM only; in
service committed as a new key entry, and the older entry zeroed (R490, R497, R499). A key is an identity, so the draw of R496 that is
repeated for equal halves does not show. -/
def newKey (s : State) : State × Bool :=
  let id := s.lcs.keyId + 1
  if s.lcs.st = .mfg then ({ s with lcs := { s.lcs with keyId := id, keyPresent := true } }, true)
  else
    let seq := s.lcs.keySeq + 1
    let t := commitEntry 4 (keyWords s.lcs.engineId id seq) s
    if committed 4 s t then (zeroOldKeys { t with lcs := { t.lcs with keyId := id, keySeq := seq } }, true) else (t, false)

/-- Whether a new key can be kept: in MFG it takes no entry (R405, R472, R480, R490). -/
def keyRoom (s : State) : Bool := s.lcs.st = .mfg || (seqLeft 4 s && eflReady s)

/-- SECURE_ERASE (R318, R496, R499): step 1, a new vault key, under which no page of the old one is knotted, then the seal. With the noise
source failing the key is not replaced and KEY_UNWRAP is raised; nor is it without room for its entry (R480). The return code of such an end
is the model's: Aborted, with the cache emptied and the old key kept (DESIGN CHOICE, log entry 101). -/
def execSecureErase (noise : Bool) (s : State) : Host.Outcome State Fault Refusal :=
  whenOpen s (fun s =>
    if mayStartBg s then
      let s := emptyCache (startBg .secureErase .draining s)
      let kept := if noise && keyRoom s then newKey s else (s, false)
      if kept.2 then answer .backgroundStarted [] (forgetEpochs kept.1)
      else answer .backgroundStarted [] (finishBackground .aborted (if noise then kept.1 else engineFault 16 0 s))
    else answer .busy [] s)

/-! ### The steward's boot (R476, R477, R480, R483, R484, R488) -/

/-- The boot slot that the newest boot entry names; slot 0 without one (R483). -/
def selectedSlot (s : State) : Nat := ((newestWord 1 0 s).bind unpair).getD 0 % 2

/-- Whether the newest boot entry has CONFIRM erased: a trial (R484). -/
def onTrial (s : State) : Bool := newestWord 1 2 s = some erasedData

/-- The ROM writes a boot entry where the temperature window allows it and SEQ leaves room; refused, the ROM chooses
again at the next boot (R405, R480, R483, R484). -/
def bootEntry (slot : Nat) (confirmed : Bool) (s : State) : State :=
  if eflOpen s then
    let t := commitEntry 1 [pairWord slot, pairWord ((imageOf slot s).getD 0)] s
    if confirmed && committed 1 s t then markNewest 1 2 confirmWord t else t
  else s

/-- Torn entries are voided where the temperature window allows it (R405, R480). -/
def voidOpen (kind : Nat) (s : State) : State := if eflOpen s then voidTorn kind s else s

/-- A trial that has failed twice goes back to the previous slot, at the first boot at which its entry is written (R405, R480, R484). -/
def revertTrial (s : State) : State :=
  if onTrial s && decide (2 ≤ s.efl.trialFails) then
    let t := bootEntry (1 - selectedSlot s) true s
    if committed 1 s t then { t with efl := { t.efl with reverted := true, trialFails := 0 } } else t
  else s

/-- The ROM takes the slot that the selector names, or the other one when its image fails; with neither it is in
recovery (R483). -/
def chooseImage (s : State) : State :=
  let n := selectedSlot s
  match imageOf n s, imageOf (1 - n) s with
  | some v, _ => { s with efl := { s.efl with slot := n, version := v, romRecovery := false } }
  | none, some v =>
    let s := bootEntry (1 - n) false s
    { s with efl := { s.efl with slot := 1 - n, version := v, reverted := true, romRecovery := false } }
  | none, none => { s with efl := { s.efl with slot := n, romRecovery := true } }

/-- The sectors that stay protected: the active boot slot, the reserved sectors and the active draft slot (R469). -/
def protectedSectors (boot draft : Nat) : List Nat :=
  (List.range 4).map (fun i => 4 * boot + i) ++ (List.range 23).map (fun i => 9 + i) ++ [32 + draft]

/-- EFL_WP after the lock of R477, with the active draft's slot (R458): in ROM recovery, where slot 1 is the inactive slot, slot 0 is protected (R469, R478, R483). -/
def protectSectors (s : State) : State :=
  { s with efl := { s.efl with
      wp := ((protectedSectors (1 - inactiveSlot s) s.drf.activeSlot).map (fun x => 2 ^ x)).sum, wpLock := true } }

/-- The life-cycle state of a STATE code. -/
def lcStateOf (n : Nat) : LcState := if n = 1 then .field else if n = 2 then .retired else .mfg

/-- STATE of a life-cycle state (R490). -/
def lcNumber : LcState → Nat | .mfg => 0 | .field => 1 | .retired => 2

/-- The life-cycle registers follow the newest entries (R490, R493, R498, R499). A transition whose wipe is not complete
resumes from step 3, and an older key is zeroed where the temperature window allows it (R405); one that was cut short draws its key afresh, with a noise source that the state cannot foretell. -/
def bootLifeCycle (s : State) : State :=
  let s := if eflReady s then zeroOldKeys s else s
  let word := ((newestWord 3 0 s).bind unpair).getD 0
  let done := newestWord 3 2 s
  let pending : Bool := done = some erasedData
  let st : LcState := if (newestEntry 3 s).isSome then lcStateOf (word % 4) else .mfg
  let fresh := pending && s.lcs.step ≠ 5
  let noise := if fresh then Config.freeBool s.free else s.lcs.noise
  let s := if fresh then nextFree s else s
  { s with lcs := { s.lcs with
      st := st, pending := pending, seq := (newestSeq 3 s).getD 0,
      transitions := ((newestWord 3 1 s).bind unpair).getD 0, awaitCold := false, wiped := false,
      keyPresent := st = .mfg && s.lcs.keyPresent, ctl := 0,
      keySeq := if st = .mfg then s.lcs.keySeq else ((newestWord 4 9 s).bind unpair).getD s.lcs.keySeq,
      step := if pending then 13 else 0, noise := noise } }

/-- The blocks that a boot reads: the boot slots, the control sector, the draft slots, the journal and the steward's data (R469, R480,
R483, R488). -/
def bootBlocks (b : Nat) : Bool := decide (b < 72) || decide (256 ≤ b)

/-- The steward boots: ROM, journal, records, write protection, life cycle (R470, R477, R480, R483, R484, R488, R489). An erase
still in progress was cut. -/
def stewardBoot (s : State) : State :=
  let s := match s.efl.op with
    | some (.program w d) => completeProgram w d s
    | _ => cutOperation s
  let s := chooseImage (revertTrial (voidOpen 1 (countIncomplete (stewardReads bootBlocks s))))
  let s := voidOpen 4 (voidOpen 3 (voidOpen 2 s))
  let s := { s with
    drf := { s.drf with ctl := 0 },
    efl := { s.efl with
    trial := onTrial s, bootSeq := (newestSeq 1 s).getD 0, runEntry := (newestEntry 1 s).map Prod.snd, confirmDue := false,
    addr := 0, data := 0, select := 0, result := 0, block := 0, ctlOp := 0, jobs := [], after := .nothing } }
  bootLifeCycle (protectSectors { s with flt := { s.flt with stewardHalted := false } })

/-! ### Transitions (R491 to R495) -/

/-- The transitions of R491. -/
def mayChange (st : LcState) (target : Nat) : Bool :=
  match st with
  | .mfg => target = 1 || target = 2
  | .field => target = 1 || target = 2
  | .retired => false

/-- RESULT of a request: 1 when it is accepted (R491, R500). -/
def requestResult (m : Master) (target : Nat) (s : State) : Nat :=
  let erasing : Bool := match s.mbx.bg with | some .sealImage => false | some _ => true | none => false
  if m ≠ .smbus then 5
  else if !mayChange s.lcs.st target then 2
  else if inVault s || erasing || s.lcs.step ≠ 0 then 3
  else if target = 1 && s.drf.active.isNone then 4
  else 1

/-- Step 1 of R492, outside belay. -/
def stopForWipe (s : State) : State :=
  let s := discardWrites s
  setVault .notArmed { s with
    host := { s.host with memActive := false }, restore := { s.restore with st := .idle, loading := [] } }

/-- LCS_CTL (R491, R495, R500). -/
def requestLifeCycle (m : Master) (target : Nat) (noise : Bool) (s : State) : State :=
  if !s.pwr.keeper || s.flt.stewardHalted || s.efl.romRecovery then s
  else
    let r := requestResult m target s
    let s := { s with lcs := { s.lcs with
      result := r, ctl := if m = .smbus then target % 4 * 2 ^ 30 + 2 ^ 29 else s.lcs.ctl } }
    if r ≠ 1 then s
    else
      let s := { s with lcs := { s.lcs with step := 1, target := lcStateOf target, noise := noise } }
      let s := logEvent 7 4 0 s
      if s.flt.belay then s else stopForWipe s

/-- LIFE_CYCLE_REQUEST (R491 to R495). -/
def execLifeCycleRequest (m : Master) (target : Nat) (noise : Bool) (s : State) : Host.Outcome State Fault Refusal :=
  .next (requestLifeCycle m target noise s)

/-- Step 2 of R492: the entry with the target STATE and WIPE_DONE erased. Without room for it the transition ends (R480). -/
def commitLifeCycle (s : State) : State :=
  let t := s.lcs.target
  let u := commitEntry 3 [pairWord (lcNumber t + 256 * lcNumber s.lcs.st), pairWord (s.lcs.transitions + 1)] s
  if committed 3 s u then
    { u with lcs := { u.lcs with
        st := t, transitions := u.lcs.transitions + 1, seq := (newestSeq 3 u).getD u.lcs.seq, pending := true, step := 2 } }
  else { u with lcs := { u.lcs with step := 0 } }

/-- The blocks of steps 3 and 4 of R492. -/
def wipeBlocks : List Nat := [70, 71] ++ (List.range 216).map (fun i => 296 + i)

/-- Whether a block reads fully erased and is not erase-incomplete (R493). -/
def readsErased (s : State) (b : Nat) : Bool :=
  !(s.efl.words.any (fun e => blockOfWord e.1 = b)) && blockReads b s && !holdsDatum b s

/-- Steps 3 and 4 of R492: the engine's key registers are zeroed, and the erases begin. -/
def startWipe (blocks : List Nat) (next : Nat) (s : State) : State :=
  startJobs blocks .nothing { s with
    restore := { s.restore with keyOk := false }, lcs := { s.lcs with keyPresent := false, step := next } }

/-- Whether a write is of a datum of the user sectors, which a wipe erases (R469). -/
def isUserWrite : StewardWrite → Bool | .gauge _ => false | .scale _ | .dirtyCount _ => true

/-- What the user sectors held is gone, with the writes to them that waited, and step 5 of R492: the knot pointer is cleared. -/
def clearUserData (s : State) : State :=
  { s with
    mbx := { s.mbx with dirtyShutdowns := 0, shutdown := 0, logs := [{}, {}, {}, {}] },
    stg := { s.stg with epbScale := 1024 },
    efl := { s.efl with scale := 1024, dirty := 0, waits := s.efl.waits.filter (fun w => !isUserWrite w) },
    log := { s.log with knotPtr := none } }

/-- Whether the steward's erases are over. -/
def erasesDone (s : State) : Bool := s.efl.op.isNone && s.efl.jobs.isEmpty

/-- WIPE_DONE is programmed once the array is free and the temperature window allows it: the transition is complete (step 8
of R492; R405, R472). -/
def finishWipe (s : State) : State :=
  if eflBusy s || !eflOpen s then s
  else
    let s := markNewest 3 2 (pairWord 0x444F4E45) s
    { s with lcs := { s.lcs with pending := decide (newestWord 3 2 s = some erasedData), step := 0 } }

/-- One step of a transition outside the warm reset; `5` waits for the reset, `7` for step 8 of R70 and `8` for the
restore (R492, R495). -/
def advanceLifeCycle (s : State) : State :=
  match s.lcs.step with
  | 1 => if eflBusy s || !eflOpen s then s else commitLifeCycle s
  | 2 => if eflBusy s || !eflOpen s then s else startWipe wipeBlocks 3 s
  | 3 => if erasesDone s then { clearUserData s with lcs := { s.lcs with step := 4 } } else s
  | 4 =>
    if s.flt.belay then { s with lcs := { s.lcs with result := 7, awaitCold := true, step := 0 } }
    else beginWarm .chipset { s with lcs := { s.lcs with step := 5 } }
  | 13 =>
    if eflBusy s || !eflOpen s then s
    else startWipe (wipeBlocks.filter (fun b => !readsErased s b)) 14 s
  | 14 => if erasesDone s then { clearUserData s with lcs := { s.lcs with step := 7 } } else s
  | 7 => if s.drf.active.isNone && s.lcs.st = .retired then finishWipe s else s
  | 8 =>
    if s.lcs.st = .retired then finishWipe s
    else if (s.restore.st = .lazy || s.restore.st = .complete) && !s.lcs.wiped then finishWipe s
    else s
  | _ => s

/-- Steps 6 and 7 of R492, in place of step 8 of R70: the protected capacity and the system region are zero, and the new
key is drawn; with a failing noise source, without room for its entry, or where the temperature window refuses it, the step fails
(R109, R405, R480, R496; DEDUCED, log entry 88). -/
def wipeAndKey (s : State) : State :=
  let s := emptyPoison (zeroMap (zeroRange 0 (cGib s * 2 ^ 30 + systemBytes (cGib s)) s))
  let s := { s with drain := { s.drain with mirror := [] }, cache := { s.cache with header := {}, boltTable := [] } }
  if s.lcs.st = .retired then { s with lcs := { s.lcs with step := 8 } }
  else
    let kept := if s.lcs.noise && keyRoom s then newKey s else (s, false)
    let t := kept.1
    if kept.2 then { t with lcs := { t.lcs with wiped := true, step := 8 } }
    else
      let u := { t with lcs := { t.lcs with result := 6, step := 0 } }
      if s.lcs.noise then u else engineFault 16 0 u

end Sys2Proof.Machine
end

