-- ==== Sys2Proof/Machine/RegEngine.lean ====
section
/-! DEFINITION. The engine's half of the register space: the value that each register reads as (R13 to R18, R43, R139,
R140, R185, R233, R264, R289, R295, R322, R501, R516, R518 to R523). -/

namespace Sys2Proof.Machine

/-- A register as a read meets it: whether it is 64 bits wide, and its value; none at an offset that no register
occupies (R13, R502). -/
abbrev RegVal := Option (Bool × Nat)

/-- A 32-bit register's value. -/
def r32 (v : Nat) : RegVal := some (false, v % 2 ^ 32)

/-- A 64-bit register's value. -/
def r64 (v : Nat) : RegVal := some (true, v % 2 ^ 64)

/-- A value `v` in the field of `w` bits at bit `k`. -/
def fld (v w k : Nat) : Nat := v % 2 ^ w * 2 ^ k

/-- A setting as a field with Reset "Draft" reads it: 0 without a draft (log entry 8). -/
def dset (s : State) (id : Nat) : Nat := if s.drf.active.isSome then setting s id else 0

/-! ### VLT and STG (R43, R139, R140, R185, R264) -/

/-- VLT_CFG (R185). -/
def vltCfgWord (s : State) : Nat :=
  fld (dset s P.postVault) 1 31 + fld (dset s P.rebootMax) 3 28 + fld (dset s P.thermalHoldMax) 3 24 +
  fld (dset s P.window) 5 16 + fld (dset s P.vaultThrottleTargets) 4 12 + fld (dset s P.rebootTimeout) 9 0

/-- VLT_RECOVERY (R185). -/
def vltRecoveryWord (s : State) : Nat :=
  fld s.vlt.reboots 4 28 + fld s.vlt.thermalHolds 4 24 + fld s.vlt.drainVoids 8 16 + fld s.vlt.progFails 16 0

/-- The VLT block. -/
def vltReg (o : Nat) (s : State) : RegVal :=
  match o with
  | 0x00 => r32 (vltStateWord s) | 0x04 => r32 (causeWord s) | 0x08 => r32 (vltCfgWord s) | 0x0C => r32 (imageWord s)
  | 0x10 => r32 (reefWord s) | 0x18 => r64 (residualBytes s) | 0x20 => r32 s.stg.eFixed | 0x24 => r32 s.stg.eWindow
  | 0x28 => r64 s.vlt.confirmTs | 0x30 => r64 s.vlt.fenceTs | 0x38 => r64 s.vlt.endTs
  | 0x40 => r32 s.vlt.specStarts | 0x44 => r32 s.vlt.specAbandons | 0x48 => r32 s.vlt.count | 0x4C => r32 (vltRecoveryWord s)
  | 0x50 => r64 s.vlt.drainBytes | 0x58 => r64 s.vlt.specBytes
  | 0x60 => r32 (restoreWord s) | 0x64 => r32 s.restore.demandFetches | 0x68 => r32 s.restore.ue
  | 0x70 => r64 s.restore.epoch | 0x78 => r64 s.restore.pgTs | 0x80 => r64 s.restore.readyTs | 0x88 => r64 s.restore.completeTs
  | 0x90 => r64 s.restore.bytes
  | _ => none

/-- STG_MODE (R140). -/
def stgModeWord (s : State) : Nat :=
  fld (b01 (decide (0 < s.stg.govLevel))) 1 31 + fld (unresolved s) 3 8 + fld (stagingMode s) 3 0

/-- STG_EPOCH_OPEN (R140). -/
def openNumber (s : State) : Nat := match openEpoch s with | some e => e.num | none => 0

/-- The STG block. STG_EPB_NOW.EPB shows the low 16 bits of a scaled value that exceeds them, and the budget takes the whole value:
R140 does not say (DESIGN CHOICE, log entry 60). -/
def stgReg (o : Nat) (s : State) : RegVal :=
  match o with
  | 0x00 => r32 (stgModeWord s)
  | 0x04 => r32 (epbWord s)
  | 0x08 => r32 s.stg.epbScale | 0x0C => r32 (dset s P.margin)
  | 0x10 => r32 (fld (dset s P.boostOn) 10 16 + fld (dset s P.boostOff) 10 0)
  | 0x14 => r32 (fld (dset s P.l1On) 10 16 + fld (dset s P.l1Off) 10 0)
  | 0x18 => r32 (fld (dset s P.l2On) 10 16 + fld (dset s P.l2Off) 10 0)
  | 0x1C => r32 (dset s P.l3Off) | 0x20 => r32 s.stg.fill
  | 0x24 => r32 (fld (dset s P.stageMinAge) 16 16 + fld (dset s P.knotTimeout) 8 8 + fld (dset s P.epbGuard) 8 0)
  | 0x28 => r32 (dset s P.stageRateMax) | 0x2C => r32 s.stg.voidCount
  | 0x30 => r64 (openNumber s) | 0x38 => r64 s.stg.lastKnotEpoch | 0x40 => r64 s.stg.safeTs
  | 0x48 => r64 (provisionalBytes s) | 0x50 => r64 s.stg.stagedBytes
  | 0x58 => r32 (dset s P.govRate) | 0x5C => r32 (dset s P.govDepth)
  | 0x60 => r64 (ofSigned 64 s.stg.govLevel) | 0x68 => r64 s.stg.govOverdraft
  | _ => none

/-! ### BLT, DMP, DCH (03) -/

/-- The bolt section's entry of a bolt, present or not. -/
def boltEntry (n : Nat) (s : State) : Option BoltRec := match s.drf.active with | some d => d.bolts[n]? | none => none

/-- BLT_CFG[n]: the system bolt is always present and duplex, with priority 15. -/
def bltCfgWord (n : Nat) (s : State) : Nat :=
  if n = 63 then fld 1 1 31 + fld 1 1 8 + 15
  else match boltEntry n s with
    | some b => fld (b01 b.present) 1 31 + fld (b01 b.duplex) 1 8 + fld b.priority 4 0
    | none => 0

/-- BLT_RANGE[n]. -/
def bltRangeWord (n : Nat) (s : State) : Nat :=
  match boltEntry n s with | some b => fld b.size 11 16 + fld b.base 10 0 | none => 0

/-- POISON_GRANULES of a bolt. -/
def poisonGranules (n : Nat) (s : State) : Nat := (s.cache.poison.filter (fun e => boltOf s e.1 = n)).length

/-- The BLT block. -/
def bltReg (o : Nat) (s : State) : RegVal :=
  let n := o / 0x40
  if n < 64 then
    match o % 0x40 with
    | 0x00 => r32 (bltCfgWord n s) | 0x04 => r32 (bltRangeWord n s) | 0x08 => r32 (tget 0 s.cache.caps n)
    | 0x0C => r32 (fld (b01 (capHold n s)) 1 31 + fld (poisonGranules n s) 27 0)
    | 0x10 => r64 (if n = 63 then 0 else 4096 * residualOf n s)
    | 0x18 => r32 (lossCutWord n s) | 0x1C => r32 (lossCountWord n s)
    | _ => none
  else none

/-- STATE as the dirty map encodes it (R90). -/
def stateCode : GState → Nat | .zero => 0 | .clean => 1 | .dirty => 2 | .staging => 3 | .restorePending => 4

/-- DMP_COUNT[x]: granules of the protected capacity whose STATE is x. -/
def stateCount (x : Nat) (s : State) : Nat :=
  if x = 0 then capGranules s - (s.cache.map.filter (fun e => e.2.st ≠ .zero)).length
  else (s.cache.map.filter (fun e => stateCode e.2.st = x)).length

/-- The DMP block. -/
def dmpReg (o : Nat) (s : State) : RegVal :=
  match o with
  | 0x00 => r32 (stateCount 0 s) | 0x04 => r32 (stateCount 1 s) | 0x08 => r32 (stateCount 2 s) | 0x0C => r32 (stateCount 3 s)
  | 0x10 => r32 (stateCount 4 s)
  | 0x14 => r32 (s.cache.map.filter (fun e => e.2.pending)).length
  | 0x18 => r32 (fld (b01 s.cache.overflow) 1 31 + fld (poisonEntries s) 17 0)
  | _ => none

/-- S(C) in units of 64 MiB (R81); 0 without a draft. -/
def sys64 (s : State) : Nat := if s.drf.active.isSome then systemBytes (cGib s) / 2 ^ 26 else 0

/-- DCH_CFG[c]. -/
def dchCfgWord (c : Nat) (s : State) : Nat :=
  match s.drf.active with
  | some d =>
    if bitOf d.dram.channels c then
      fld 1 1 31 + fld (b01 d.dram.rdimm) 1 30 + fld (b01 (d.dram.ranks = 2)) 1 29 + fld (b01 (d.dram.width = 8)) 1 28 +
      fld d.dram.density 8 16 + fld d.dram.rate 8 8 + fld d.dram.vaultRate 8 0
    else 0
  | none => 0

/-- A DDR5 channel's record. -/
def ddrAt (c : Nat) (s : State) : DdrCh := (s.cache.ch[c]?).getD {}

/-- DCH_STATUS[c]. -/
def dchStatusWord (c : Nat) (s : State) : Nat :=
  let x := ddrAt c s
  fld (b01 x.trained) 1 31 + fld (b01 x.selfRefresh) 1 30 + fld (b01 x.held) 1 29 + fld (b01 x.vaultSet) 1 28

/-- The DCH block. -/
def dchReg (o : Nat) (s : State) : RegVal :=
  if o = 0 then r32 (fld (b01 s.cache.mismatch) 1 31 + fld (cGib s) 10 16 + fld s.cache.installed 10 0)
  else if o = 4 then
    r32 (fld (s.cache.installed * 16 - cGib s * 16 - sys64 s) 16 16 + fld (sys64 s) 16 0)
  else if 0x100 ≤ o ∧ o < 0x180 then
    let c := (o - 0x100) / 0x20
    match o % 0x20 with
    | 0x00 => r32 (dchCfgWord c s) | 0x04 => r32 (dchStatusWord c s)
    | 0x08 => r32 (ddrAt c s).ce | 0x0C => r32 (ddrAt c s).ue
    | _ => none
  else none

/-! ### NCH and NTG (R233, R289) -/

/-- Good capacity in bytes over the working targets. -/
def goodBytes (s : State) : Nat :=
  (((List.range 96).filter (fun t => targetWorks t s)).map (fun t => goodBlocks t s * blockBytes t s)).sum

/-- NCH_STORE. -/
def nchStoreWord (s : State) : Nat :=
  fld (b01 s.nand.degraded) 1 31 + fld (b01 (reserveWaits s)) 1 30 +
  fld ((List.range 96).filter (fun t => targetWorks t s)).length 8 16 + fld (maskOf (workingChannels s)) 12 0

/-- NCH_PE_DATA: the block that NCH_PE_SEL selects. -/
def peDataWord (s : State) : Nat :=
  let t := s.nand.peTarget
  let b := s.nand.peBlock
  let x := blockAt (blockKey t b) s
  if !(targetAt t s).ready then 0
  else
  fld (b01 ((targetAt t s).bbt.any (fun e => e.2 = b))) 1 31 + fld (b01 x.worn) 1 30 + fld x.pe 24 0

/-- NCH_CFG[n]. -/
def nchCfgWord (n : Nat) (s : State) : Nat :=
  match s.drf.active with
  | some d =>
    if bitOf d.nand.chMask n then
      fld 1 1 31 + fld d.nand.mode 2 24 + fld d.nand.rate 8 16 +
      fld (maskOf ((List.range 8).filter (fun c => declared (8 * n + c) s))) 8 0
    else 0
  | none => 0

/-- NCH_STATUS[n]. -/
def nchStatusWord (n : Nat) (s : State) : Nat :=
  let x := channelAt n s
  fld (b01 x.trained) 1 31 + fld (b01 (channelRetired n s)) 1 30 + fld ((pairedWith n s).getD 15) 4 24 + fld x.ue 24 0

/-- The NCH block. -/
def nchReg (o : Nat) (s : State) : RegVal :=
  if 0x100 ≤ o ∧ o < 0x280 then
    let n := (o - 0x100) / 0x20
    match o % 0x20 with
    | 0x00 => r32 (nchCfgWord n s) | 0x04 => r32 (nchStatusWord n s)
    | 0x08 => r32 (channelAt n s).pfails | 0x0C => r32 (channelAt n s).stalls
    | _ => none
  else
    match o with
    | 0x00 => r32 (nchStoreWord s) | 0x04 => r32 (goodBytes s / 2 ^ 20) | 0x08 => r32 (spareBytes s / 2 ^ 20)
    | 0x0C => r32 (if s.drf.active.isSome then drainReserve s / 2 ^ 20 else 0) | 0x10 => r32 (erasedPool s / 2 ^ 20)
    | 0x14 => r32 s.nand.discards | 0x18 => r64 (shedWord s)
    | 0x20 => r32 (fld s.nand.peTarget 7 21 + fld s.nand.peBlock 21 0) | 0x24 => r32 (peDataWord s)
    | _ => none

/-- NTG_GEOM[t]: known from step 7 of discovery on. -/
def ntgGeomWord (t : Nat) (s : State) : Nat :=
  match descAt t s with
  | some d => if (targetAt t s).ready then fld d.blocks 16 16 + fld (d.planes - 1) 3 12 + fld (d.pages - 1) 12 0 else 0
  | none => 0

/-- NTG_STATUS[t]. -/
def ntgStatusWord (t : Nat) (s : State) : Nat :=
  let x := targetAt t s
  let luns := match descAt t s with | some d => if x.ready then d.luns - 1 else 0 | none => 0
  fld (b01 (declared t s)) 1 31 + fld (b01 x.ready) 1 30 + fld (b01 x.retired) 1 29 + fld x.cause 3 26 + fld luns 2 24 +
  fld (if x.ready then x.bbt.length else 0) 10 0

/-- The NTG block. -/
def ntgReg (o : Nat) (s : State) : RegVal :=
  let t := o / 0x20
  if t < 96 then
    match o % 0x20 with
    | 0x00 => r32 (ntgGeomWord t s) | 0x04 => r32 (ntgStatusWord t s)
    | 0x08 => r32 (if (targetAt t s).ready then peMax t s else 0)
    | 0x0C => r32 (fld (targetAt t s).mfr 8 24 + fld (targetAt t s).device 24 0)
    | _ => none
  else none

/-! ### CXL, CRL, HDL, MON, TBS (R289, R322, R514 to R523) -/

/-- The CXL block. -/
def cxlReg (o : Nat) (s : State) : RegVal :=
  let h := s.host
  match o with
  | 0x00 => r32 (fld h.width 5 19 + fld h.speed 3 16 + fld (b01 h.flit256) 1 15 + fld (b01 h.memEnabled) 1 14)
  | 0x04 => r32 h.linkdowns
  | 0x08 => r32 (fld (b01 h.gpfFailed) 1 31 + fld (Nat.min h.gpfUs 0xFFFFF) 20 0)
  | 0x0C => r32 h.gpfCount | 0x10 => r32 h.drops
  | 0x14 => r32 (fld h.load 2 2 + fld (devLoad s) 2 0)
  | _ => none

/-- CRL_STATUS (R289). -/
def crlStatusWord (s : State) : Nat :=
  let r := s.rail
  fld (b01 r.linkDown) 1 31 + fld (b01 r.loopOn) 1 30 + fld (b01 (r.outstanding.any (fun c => isSet c.1))) 1 29 +
  fld (b01 r.fbSeen) 1 28 + fld r.seq 4 24 + fld r.iout 7 16 + fld r.target 8 8 + fld r.vout 8 0

/-- The CRL block. -/
def crlReg (o : Nat) (s : State) : RegVal :=
  match o with
  | 0x00 => r32 (fld (dset s P.vfall) 8 24 + fld (dset s P.vminVault) 8 16 + fld (dset s P.vcoreNormal) 8 8 + fld (dset s P.railSlew) 2 0)
  | 0x04 => r32 (fld (dset s P.loopWindow) 8 24 + fld (dset s P.slackDown) 8 8 + fld (dset s P.upStep) 5 0)
  | 0x08 => r32 (fld (dset s P.shuttleStrikes) 3 24 + fld (dset s P.engageDwell) 8 16 + fld (dset s P.engageStep) 8 0)
  | 0x0C => r32 (crlStatusWord s)
  | 0x10 => r32 (fld s.rail.demand 16 16 + fld s.rail.pace 16 0)
  | 0x14 => r32 s.rail.cmds | 0x18 => r32 s.rail.superseded | 0x1C => r32 s.rail.errs
  | _ => none

/-- The HDL block of an end. -/
def hdlReg (e : End) (o : Nat) (s : State) : RegVal :=
  let h := hdl e s
  match o with
  | 0x00 => r32 (fld (b01 (linkUp s)) 1 31 + fld h.downs 16 0)
  | 0x04 => r32 h.crcErrors | 0x08 => r32 h.resends | 0x0C => r32 h.unreached
  | _ => none

/-- MON_STATUS[m]. -/
def monStatusWord (x : Monitor) : Nat := fld (b01 x.sat) 1 31 + fld (b01 x.gap) 1 30 + fld (b01 (monActive x.cfg)) 1 29

/-- The MON block. -/
def monReg (o : Nat) (s : State) : RegVal :=
  if o = 0 then r32 (fld (b01 s.mon.freeze) 1 31)
  else if o = 4 then r32 s.mon.drops
  else if 0x1000 ≤ o ∧ o < 0x3000 then
    let x := monitorAt ((o - 0x1000) / 0x80) s
    let f := o % 0x80
    if f = 0x00 then r32 x.cfg else if f = 0x04 then r32 (monStatusWord x)
    else if f = 0x08 then r32 (fld x.min 16 16 + fld x.max 16 0) else if f = 0x0C then r32 x.count
    else if 0x40 ≤ f then r32 (tget 0 x.bins ((f - 0x40) / 4)) else none
  else none

/-- The TBS block: the engine copy, or the master. -/
def tbsReg (copy : Bool) (o : Nat) (s : State) : RegVal :=
  match o with
  | 0x00 => r64 (if copy then engineNow s else now s) | 0x08 => r64 s.tbs.offset | 0x10 => r32 (tbsStatus copy s)
  | _ => none

/-- A field of the vault DVSEC by its offset in the DVSEC: VERSION, WINDOW, CAPACITY, STATE, IMAGE and STEPPING, all read
only (R295). No command of the table reads configuration space, so no meaning uses it. -/
def dvsecField (o : Nat) (s : State) : Option Nat :=
  let userBolts := ((List.range 63).filter (fun n => match boltEntry n s with | some b => b.present | none => false)).length
  match o with
  | 0x0A => some 1
  | 0x0C => some 2
  | 0x10 => some (fld (cGib s) 10 0 + fld userBolts 6 16)
  | 0x14 => some (vltStateWord s)
  | 0x18 => some (imageWord s)
  | 0x1C => some 0xB0B0
  | _ => none

/-- The engine's half of the register space (R501). -/
def engineReg (addr : Nat) (s : State) : RegVal :=
  let o := addr % 0x10000
  match addr / 0x10000 with
  | 0x00 => vltReg o s | 0x01 => stgReg o s | 0x02 => bltReg o s | 0x03 => dmpReg o s | 0x04 => nchReg o s
  | 0x05 => ntgReg o s | 0x06 => dchReg o s | 0x07 => cxlReg o s | 0x08 => crlReg o s | 0x09 => hdlReg .engine o s
  | 0x0A => monReg o s | 0x0B => tbsReg true o s
  | _ => none

end Sys2Proof.Machine
end

