-- ==== Sys2Proof/Machine/RegPower.lean ====
section
/-! DEFINITION. The power controller's half of the register space: the value that each register reads as (R356, R389, R410,
R442, R467, R500, R501). -/

namespace Sys2Proof.Machine

/-! ### IBS and DOM (R356) -/

/-- The phases of IBUS that are active and healthy: those in use while the bus runs. -/
def busPhases (s : State) : List Nat :=
  if (domAt 11 s).on then healthyPhases s else []

/-- IBS_STATUS. -/
def ibsStatusWord (s : State) : Nat :=
  fld (b01 s.pwr.collapse) 1 31 + fld (b01 s.pwr.lost) 1 30 + fld (b01 s.pwr.atHold) 1 29 +
  fld (if (busPhases s).isEmpty then 0 else busCapability s / 10) 10 8 + fld (maskOf (busPhases s)) 8 0

/-- IBS_VIN_NOW; the slope is kept in 0.1 V/ms. -/
def vinNowWord (s : State) : Nat :=
  let v := s.vin
  fld (b01 v.good) 1 31 + fld (b01 v.warn) 1 30 + fld (b01 v.below) 1 29 + fld (b01 v.ovp) 1 28 + fld v.vin 12 16 +
  fld (ofSigned 16 v.slope) 16 0

/-- MODE of IBS_HU (R328). -/
def huCode : HuMode → Nat | .opened => 0 | .closed => 1 | .forced => 2

/-- Whether the hold-up switch carries store current: it conducts and the store gives current. -/
def carriesStore (s : State) : Bool := conducts s && decide (s.gau.current < 0)

/-- IBS_HU. -/
def ibsHuWord (s : State) : Nat :=
  fld (b01 (carriesStore s)) 1 31 + fld (b01 s.pwr.huTestFail) 1 30 + fld (b01 s.pwr.huShort) 1 29 +
  fld (if carriesStore s then s.gau.current.natAbs / 100 else 0) 10 8 + fld (huCode s.pwr.huMode) 2 0

/-- IBS_PH_STATUS[p]. TRIM and IOUT of an active phase are measured, and no command brings them: free values. -/
def ibsPhaseWord (p : Nat) (s : State) : Nat :=
  let measured := if (busPhases s).contains p then Config.freeNat s.free % 2 ^ 16 else 0
  fld (b01 (decide (p < dset s P.ibusPhases))) 1 31 + fld (b01 (s.pwr.dropped.any (fun e => e.1 = p))) 1 30 +
  fld (match s.pwr.dropped.find? (fun e => e.1 = p) with | some e => e.2 | none => 0) 2 28 + fld measured 16 0

/-- DOM_VOUT[d]; IBS_IOUT has the fields of DOM_VOUT[11] (R356). -/
def domVoutWord (d : Nat) (s : State) : Nat := fld (domAt d s).iout 16 16 + fld (sensedVolt d s) 16 0

/-- The IBS block. -/
def ibsReg (o : Nat) (s : State) : RegVal :=
  if 0x40 ≤ o ∧ o < 0x60 then r32 (ibsPhaseWord ((o - 0x40) / 4) s)
  else
    match o with
    | 0x00 => r32 (fld (dset s P.ibusPhases) 4 28 + fld ((dset s P.ibusNominal - 5000) / 25) 9 16 +
        fld ((dset s P.ibusHold - 5000) / 25) 9 6 + fld ((dset s P.ibusFreq - 200) / 10) 6 0)
    | 0x04 => r32 (fld (dset s P.phaseImax) 8 24 + fld (dset s P.phaseL) 8 16 + fld (dset s P.huIlim) 8 8 + fld (dset s P.trimMax) 4 0)
    | 0x08 => r32 (ibsStatusWord s)
    | 0x0C => r32 (domVoutWord 11 s)
    | 0x10 => r32 (fld (dset s P.vinHyst) 6 16 + fld (dset s P.vinWarn - 280) 8 8 + fld (dset s P.vinPfail - 280) 8 0)
    | 0x14 => r32 (fld (dset s P.specAbandon) 8 16 + fld (dset s P.specHorizon) 8 8 + fld (dset s P.pfFilter) 7 0)
    | 0x18 => r32 (fld (dset s P.restartFilter) 10 16 + fld (dset s P.specMax) 10 0)
    | 0x1C => r32 (vinNowWord s) | 0x20 => r32 (ibsHuWord s)
    | _ => none

/-- The phases of VCORE_E that are healthy while DOM1 is on. -/
def corePhases (s : State) : List Nat :=
  if (domAt 1 s).on then coreHealthy s else []

/-- TARGET_MV of DOM_CFG[d]: the draft's target, vcore_normal for DOM1 and ibus_nominal for DOM11 (R356). -/
def domCfgTarget (d : Nat) (s : State) : Nat :=
  if d = 1 then (4500 + 25 * dset s P.vcoreNormal) / 10 else if d = 11 then dset s P.ibusNominal else domTarget d s

/-- DOM_CFG[d]. -/
def domCfgWord (d : Nat) (s : State) : Nat :=
  match domRec d s with
  | some r =>
    fld (b01 (domPresent d s)) 1 31 + fld (b01 r.discharge) 1 30 + fld r.track 2 28 + fld r.partner 4 24 +
    fld (r.pgPct - 3) 3 21 + fld r.pgTimeout 7 14 + fld (domCfgTarget d s) 14 0
  | none => fld (b01 (domPresent d s)) 1 31

/-- DOM_STATUS[d]. -/
def domStatusWord (d : Nat) (s : State) : Nat :=
  let x := domAt d s
  fld (b01 x.on) 1 31 + fld (b01 x.good) 1 30 + fld (b01 x.shed) 1 29 + fld (b01 x.railFault) 1 28 + fld (b01 x.trackFault) 1 27

/-- The DOM block. -/
def domReg (o : Nat) (s : State) : RegVal :=
  if 0x100 ≤ o ∧ o < 0x1C0 then
    let d := (o - 0x100) / 0x10
    match o % 0x10 with
    | 0x0 => r32 (domCfgWord d s) | 0x4 => r32 (domStatusWord d s) | 0x8 => r32 (domVoutWord d s) | _ => none
  else
    match o with
    | 0x0 => r32 (fld (dset s P.holdMax) 7 16 + fld (dset s P.coolWait) 7 0)
    | 0x4 =>
      let l := match s.drf.active with | some d => d.shedOrder | none => []
      r32 (fld (dset s P.groupDelay / 10) 4 16 + fld ((l[2]?).getD 0) 4 8 + fld ((l[1]?).getD 0) 4 4 + fld ((l[0]?).getD 0) 4 0)
    | 0x8 => r32 (fld (dset s P.vcorePhases - 1) 2 30 + fld (maskOf (corePhases s)) 4 24 + fld ((dset s P.vcoreFreq - 500) / 10) 8 16 +
        fld (dset s P.vcorePhaseImax) 8 8 + fld (dset s P.vcoreL) 8 0)
    | _ => none

/-! ### CEL, GAU, CHG (R389) -/

/-- The CEL block. -/
def celReg (o : Nat) (s : State) : RegVal :=
  let c := s.cell
  if 0x100 ≤ o ∧ o < 0x160 then
    let i := (o - 0x100) / 4
    r32 (fld (b01 ((inRange s).contains i)) 1 31 + fld (cellVolt i s) 16 0)
  else
    match o with
    | 0x0 => r32 (fld (storeNat (·.chem) s) 1 31 + fld (cellCount s) 5 24 + fld (storeNat (·.thermMask) s) 8 16 +
        fld (storeNat (·.shunt) s) 13 0)
    | 0x4 => r32 (fld (b01 c.tapOpen) 1 31 + fld (b01 c.ov) 1 30 + fld (b01 (cellLow s)) 1 29 + fld (b01 c.short) 1 28 +
        fld (b01 c.floor) 1 27 + fld (maskOf c.out) 24 0)
    | 0x8 => r32 (fld (nCells s) 5 22 + fld c.stackMv 17 0)
    | 0xC => r32 (fld (dset s P.balDelta) 8 24 + fld (maskOf (c.bleed.filter (fun i => (bleeding s).contains i))) 24 0)
    | _ => none

/-- PHASE of GAU_EXER (R379). -/
def phaseCode : ExPhase → Nat
  | .idle => 0 | .discharge => 1 | .sealWait => 2 | .seal => 3 | .tail => 4 | .recharge => 5

/-- GAU_EXER. -/
def gauExerWord (s : State) : Nat :=
  let c := s.chg
  fld (b01 c.grant) 1 31 + fld (b01 (c.phase = .sealWait)) 1 29 + fld c.aborts 8 16 + fld c.lastAbort 3 4 + fld (phaseCode c.phase) 3 0

/-- The GAU block; GAU_QUNC shows whole mC, rounded up. -/
def gauReg (o : Nat) (s : State) : RegVal :=
  let g := s.gau
  match o with
  | 0x00 => r32 (fld (dset s P.profile) 1 31 + fld (dset s P.exercisePeriod) 9 22 + fld (dset s P.learnOverdue) 10 12 + fld (dset s P.iQuiet) 9 0)
  | 0x04 => r32 (gauStatusWord s) | 0x08 => r32 (gauSocWord s) | 0x0C => r32 (ofSigned 32 g.current)
  | 0x10 => r32 g.cap | 0x14 => r32 g.qrem | 0x18 => r32 (divUp g.qunc 1000) | 0x1C => r32 g.eGuar
  | 0x20 => r32 (if s.drf.active.isSome then fld (Nat.min 65535 (r25 s)) 16 16 + fld (ruse s) 16 0 else 0)
  | 0x24 => r32 (fld g.days 16 16 + fld g.learns 8 8 + fld g.rejects 4 4 + fld g.lastKind 4 0)
  | 0x28 => r32 (gauExerWord s) | 0x30 => r64 g.throughput
  | _ => none

/-- STATE of CHG_STATUS (R389). -/
def chgCode : ChgState → Nat
  | .off => 0 | .cc => 1 | .cv => 2 | .terminated => 3 | .inhibited => 4 | .reverse => 5 | .fault => 6

/-- The CHG block. -/
def chgReg (o : Nat) (s : State) : RegVal :=
  match o with
  | 0x0 => r32 (fld (dset s P.chgCurrent) 8 24 + fld (dset s P.iTerm) 8 16 + fld (storeNat (·.cvMv) s) 16 0)
  | 0x4 =>
    let lo := match storeSec s with | some x => ofSigned 8 x.chgLo | none => 0
    let hi := match storeSec s with | some x => ofSigned 8 x.chgHi | none => 0
    r32 (fld hi 8 24 + fld lo 8 16 + fld (dset s P.chgPinMax / 2) 8 8 + fld (dset s P.rechargeSoc) 8 0)
  | 0x8 => r32 (fld (chgCode s.chg.st) 3 29 + fld (b01 (storeJudged s && tempInhibit s)) 1 28 + fld (b01 s.chg.balTimeout) 1 27 + fld s.chg.iout 16 0)
  | _ => none

/-! ### THM (R410) -/

/-- Degrees C of a reading in 1/16 degree, rounded down, in 8 bits of two's complement. -/
def degrees (t : Int) : Nat := ofSigned 8 (t / 16)

/-- THM_ZONE_THR[z]. -/
def zoneThrWord (z : Nat) (s : State) : Nat :=
  match s.drf.active with
  | some d => match d.zoneThr[z]? with
    | some t => fld (ofSigned 8 t.2.2) 8 24 + fld (ofSigned 8 t.2.1) 8 16 + fld (ofSigned 8 t.1) 8 8
    | none => 0
  | none => 0

/-- HOT: the lowest sensor whose reading or substitute is the zone's maximum; 0 when there is none. -/
def hotSensor (z : Nat) (s : State) : Nat :=
  match zoneMax z s with
  | none => 0
  | some m => match (zoneSensors z s).find? (fun n =>
      (sensorValid n s && sensorCounts n s && (sensorAt n s).temp = m) || ((sensorAt n s).broken && substitute n s = some m)) with
    | some n => n
    | none => 0

/-- Whether a zone's maximum comes from a substitute: no valid reading reaches it. -/
def fromSubstitute (z : Nat) (s : State) : Bool :=
  match zoneMax z s with
  | none => false
  | some m => (zoneSensors z s).any (fun n => (sensorAt n s).broken) && !(zoneReadings z s).contains m && !(z = 0 && zoneStale s)

/-- THM_ZONE_STATUS[z]; MAX of a zone without an input reads 0x80 (R566). -/
def zoneStatusWord (z : Nat) (s : State) : Nat :=
  let x := zoneAt z s
  let un := !zoneAssigned z s && s.drf.active.isSome
  fld (b01 x.warn) 1 31 + fld (b01 x.throttle) 1 30 + fld (b01 x.vault) 1 29 + fld (b01 x.rate) 1 28 +
  fld (b01 (z = 0 && zoneStale s)) 1 27 + fld (b01 (fromSubstitute z s)) 1 26 + fld (b01 un) 1 25 +
  fld (if 3 ≤ z then (match zoneMin z s with | some t => degrees t | none => 0) else 0) 8 16 + fld (hotSensor z s) 5 11 +
  fld (if un then 0x80 else (match zoneMax z s with | some t => degrees t | none => 0)) 8 0

/-- THM_SENSOR[n]. -/
def sensorWord (n : Nat) (s : State) : Nat :=
  let x := sensorAt n s
  let sub := if x.broken then substitute n s else none
  fld (b01 x.broken) 1 31 + fld (b01 x.suspect) 1 30 + fld (b01 sub.isSome) 1 29 + fld x.cause 2 27 +
  fld (Nat.min 7 (recentReturns n s).length) 3 24 +
  fld (match sensorZone n s with | some z => if n < 18 && s.drf.active.isNone then 0 else z | none => if s.drf.active.isSome then 15 else 0) 4 20 +
  fld (ofSigned 16 (sub.getD x.temp)) 16 0

/-- The THM block. -/
def thmReg (o : Nat) (s : State) : RegVal :=
  if o < 0x50 then
    match o % 0x10 with | 0x0 => r32 (zoneThrWord (o / 0x10) s) | 0x4 => r32 (zoneStatusWord (o / 0x10) s) | _ => none
  else if 0x200 ≤ o ∧ o < 0x268 then r32 (sensorWord ((o - 0x200) / 4) s)
  else
    match o with
    | 0x100 => r32 (fld (dset s P.thmHyst) 4 28 + fld (dset s P.thmHold) 7 16 + fld (dset s P.substMargin) 8 8)
    | 0x104 => r32 (fld (dset s P.dieRateMax) 8 24 + fld (dset s P.storeRateMax) 8 16)
    | 0x108 => r32 (fld (b01 s.thm.stage1) 1 31 + fld (b01 s.thm.stage2) 1 30 + fld (b01 (s.efl.suspended && (s.efl.byWindow || s.thm.stage1))) 1 29 +
        fld s.thm.count1 8 8 + fld s.thm.count2 8 0)
    | _ => none

/-! ### FLT and LOG (R442) -/

/-- FLT_STATUS. -/
def fltStatusWord (s : State) : Nat :=
  fld (b01 s.flt.belay) 1 31 + fld (b01 s.flt.si) 1 30 + fld (b01 s.flt.self) 1 29 + fld (b01 (!s.flt.configured)) 1 28 +
  fld (b01 (faultN s)) 1 27 + fld (highestLatched s) 3 24 +
  fld (Nat.min 255 (s.flt.sources.filter (fun e => e.2.latched)).length) 8 16

/-- FLT_BELAY. -/
def fltBelayWord (s : State) : Nat :=
  fld s.flt.belayCause 8 24 + fld s.flt.entries 8 16 + fld s.flt.recoveries 3 8 + fld s.flt.lastPath 2 0

/-- FLT_FIRST_INFO (R424). -/
def firstInfoWord (s : State) : Nat :=
  let f := s.flt.first
  fld (b01 f.valid) 1 31 + fld (b01 f.shadowed) 1 30 + fld f.sev 3 27 + fld f.master 3 24 + fld f.access 3 21 +
  fld f.source 8 8 + fld f.more 8 0

/-- Bits of the sources 32k to 32k + 31 that satisfy `p`. -/
def sourceBits (k : Nat) (p : Source → Bool) (s : State) : Nat :=
  maskOf ((s.flt.sources.filter (fun e => e.1 / 32 = k && p e.2)).map (fun e => e.1 % 32))

/-- A source's record in the draft. -/
def faultRec (n : Nat) (s : State) : Option FaultRec := match s.drf.active with | some d => d.faults[n]? | none => none

/-- FLT_SRC_CFG[n]. -/
def srcCfgWord (n : Nat) (s : State) : Nat :=
  if !present n then 0
  else
    let set := match faultRec n s with | some f => f.set | none => 255
    fld 1 1 31 + fld (b01 (fixedSources.contains n)) 1 30 + fld (b01 (alertOf n s)) 1 29 + fld (b01 (decide (set < 32))) 1 28 +
    fld (if set < 32 then set else 0) 5 16 + fld (unitOf n s) 8 8 + fld (draftSev n s) 3 4 + fld (sevOf n s) 3 0

/-- FLT_SRC_STATUS[n]. -/
def srcStatusWord (n : Nat) (s : State) : Nat :=
  let x := srcAt n s
  fld (b01 x.latched) 1 31 + fld (b01 (inFault x)) 1 30 + fld (b01 (brokenCode x)) 1 29 + fld (b01 x.shadowHit) 1 28 +
  fld (b01 x.escalated) 1 27 + fld x.shadowCount 8 8 + fld x.count 8 0

/-- FLT_SHADOW[j]: eight members, 0xFF for an empty place, as that of a source taken out is (R423). -/
def shadowWord (j : Nat) (s : State) : Nat :=
  match s.drf.active with
  | some d => ofLeBytes ((List.range 8).map (fun m =>
      match ((d.shadowSets[j]?).getD [])[m]? with
      | some n => BitVec.ofNat 8 (if (srcAt n s).unshadowed then 0xFF else n)
      | none => 0xFF))
  | none => 0

/-- The FLT block. -/
def fltReg (o : Nat) (s : State) : RegVal :=
  if 0x40 ≤ o ∧ o < 0x60 then r32 (sourceBits ((o - 0x40) / 4) (fun x => x.latched) s)
  else if 0x60 ≤ o ∧ o < 0x80 then r32 (sourceBits ((o - 0x60) / 4) inFault s)
  else if 0x400 ≤ o ∧ o < 0xC00 then
    let n := (o - 0x400) / 8
    if o % 8 = 0 then r32 (srcCfgWord n s) else r32 (srcStatusWord n s)
  else if 0xC00 ≤ o ∧ o < 0xD00 then if o % 8 = 0 then r64 (shadowWord ((o - 0xC00) / 8) s) else none
  else
    match o with
    | 0x00 => r32 (fltStatusWord s) | 0x04 => r32 (fltBelayWord s) | 0x08 => r32 s.flt.ctl | 0x0C => r32 s.flt.shadowed
    | 0x10 => r32 (firstInfoWord s) | 0x18 => r64 s.flt.first.addr | 0x20 => r64 s.flt.first.ts
    | _ => none

/-- Eight words of a log entry, the `w`-th; an empty slot reads 0. -/
def entryWord (e : Option LogEntry) (w : Nat) : Nat :=
  match e with | some e => ofLeBytes (((logBytes e).drop (4 * w)).take 4) | none => 0

/-- The LOG block; LOG_PREV[i] holds the i-th oldest entry of the previous life. -/
def logReg (o : Nat) (s : State) : RegVal :=
  if 0x20000 ≤ o ∧ o < 0x40000 then r32 (entryWord (ringSlot ((o - 0x20000) / 0x20) s) (o % 0x20 / 4))
  else if 0x40000 ≤ o ∧ o < 0x60000 then
    let i := (o - 0x40000) / 0x20
    r32 (entryWord (if i < s.log.prev.length then s.log.prev[s.log.prev.length - 1 - i]? else none) (o % 0x20 / 4))
  else
    match o with
    | 0x0 => r32 (fld (b01 (!s.log.prev.isEmpty)) 1 31 + fld s.log.prev.length 13 16 + fld s.log.ring.length 13 0)
    | 0x4 => r32 s.log.head | 0x8 => r32 s.log.lost | 0xC => r32 0
    | _ => none

/-! ### EFL, DRF, LCS (R467, R500) -/

/-- BUSY of EFL_STATUS: an operation runs and is not suspended. -/
def eflRuns (s : State) : Bool := s.efl.op.isSome && !s.efl.suspended

/-- EFL_STATUS. -/
def eflStatusWord (s : State) : Nat :=
  let e := s.efl
  fld (b01 (eflRuns s)) 1 31 + fld (b01 e.suspended) 1 30 + fld (e.block / 256) 1 29 + fld (b01 e.wpLock) 1 28 + fld e.result 4 24 +
  fld (Nat.min 255 e.incomplete.length) 8 16 + fld e.block 9 0

/-- The block that the operation in progress works on. -/
def opBlock (s : State) : Option Nat :=
  match s.efl.op with | some (.program w _) => some (blockOfWord w) | some (.erase b _) => some b | none => none

/-- Whether a read of a word meets a bus error: its bank is busy, or its block is being erased or is erase-incomplete
(R472, R473, R488). -/
def eflReadFaults (w : Nat) (s : State) : Bool :=
  s.efl.incomplete.contains (blockOfWord w) ||
  (match opBlock s with
   | some b => if s.efl.suspended then b = blockOfWord w else b / 256 = blockOfWord w / 256
   | none => false)

/-- What EFL_DATA reads: the word at EFL_ADDR, corrected where the code can (R470). A word of a block that an erase left undetermined or
that holds a datum whose form is not given, and the data of a faulting read, are free values (R469, R486, R489). -/
def eflDataWord (s : State) : Nat :=
  let (w, row) := eflTarget s
  if row then rowWord (w % 256)
  else if eflReadFaults w s || s.efl.undetermined.contains (blockOfWord w) || holdsDatum (blockOfWord w) s then (Config.freeDWord s.free).toNat
  else eflData w s

/-- EFL_ECNT: the block that EFL_ECNT_SEL selects. -/
def eflCountWord (s : State) : Nat :=
  let b := s.efl.select
  fld (b01 (blockWorn b s)) 1 31 + fld (b01 (s.efl.incomplete.contains b)) 1 30 + fld (eraseCount b s) 24 0

/-- EFL_BOOT. -/
def eflBootWord (s : State) : Nat :=
  let e := s.efl
  fld e.slot 1 31 + fld (b01 e.trial) 1 30 + fld (b01 e.reverted) 1 29 + fld (b01 e.romRecovery) 1 28 + fld e.trialFails 4 24 + fld e.bootSeq 24 0

/-- The EFL block. -/
def eflReg (o : Nat) (s : State) : RegVal :=
  match o with
  | 0x00 => r32 (eflStatusWord s) | 0x04 => r32 (fld s.efl.ctlOp 4 28 + b01 s.efl.wpLock) | 0x08 => r32 s.efl.addr | 0x10 => r64 (eflDataWord s)
  | 0x18 => r32 s.efl.select | 0x1C => r32 (eflCountWord s) | 0x20 => r64 s.efl.wp | 0x28 => r32 s.efl.ceCount
  | 0x2C => r32 (eflBootWord s)
  | _ => none

/-- DRF_STATUS. -/
def drfStatusWord (s : State) : Nat :=
  fld (b01 s.drf.active.isNone) 1 31 + fld (b01 (draftPending s)) 1 30 + fld (b01 (candIsStructural s)) 1 29 +
  fld (b01 s.drf.fallback) 1 28 + fld (b01 s.drf.sealFlag) 1 27 + fld s.drf.reason 4 20 + fld s.drf.activeSlot 1 16

/-- The DRF block. -/
def drfReg (o : Nat) (s : State) : RegVal :=
  match o with
  | 0x00 => r32 (drfStatusWord s) | 0x04 => r32 (drfCheckWord s)
  | 0x08 => r32 (match s.drf.active with | some d => d.generation | none => 0) | 0x0C => r32 (candGeneration s)
  | 0x10 => r32 (match s.drf.active with | some d => d.structCrc | none => 0) | 0x14 => r32 (candStruct s)
  | 0x18 => r32 s.drf.ctl | 0x1C => r32 (fld (b01 s.drf.busy) 1 31 + fld s.drf.result 3 28) | 0x20 => r32 s.drf.candOfs
  | 0x28 => r64 0 | 0x30 => r32 s.drf.activations
  | _ => none

/-- STATE of LCS_STATE. -/
def lcCode : LcState → Nat | .mfg => 0 | .field => 1 | .retired => 2

/-- LCS_STATE. -/
def lcsStateWord (s : State) : Nat :=
  let l := s.lcs
  fld (lcCode l.st) 2 30 + fld (b01 l.pending) 1 29 + fld (b01 (keyHeld s)) 1 28 + fld l.result 4 24 + fld l.seq 24 0

/-- The LCS block. -/
def lcsReg (o : Nat) (s : State) : RegVal :=
  match o with | 0x0 => r32 (lcsStateWord s) | 0x4 => r32 s.lcs.ctl | _ => none

/-- The power controller's half of the register space (R501). -/
def pctrlReg (addr : Nat) (s : State) : RegVal :=
  let o := addr % 0x10000
  if 0x300000 ≤ addr ∧ addr < 0x380000 then logReg (addr - 0x300000) s
  else
    match addr / 0x10000 with
    | 0x20 => ibsReg o s | 0x21 => domReg o s | 0x22 => celReg o s | 0x23 => gauReg o s | 0x24 => chgReg o s
    | 0x25 => thmReg o s | 0x26 => fltReg o s | 0x27 => eflReg o s | 0x28 => drfReg o s | 0x29 => lcsReg o s
    | 0x2A => tbsReg false o s | 0x2B => hdlReg .pctrl o s
    | _ => none

end Sys2Proof.Machine
end

