-- ==== Sys2Proof/Machine/Reset.lean ====
section
/-! DEFINITION. Resets and boots: the cold start and stop, VIN becoming good, warm-reset requests, and the steps of R70
that follow by themselves (R68 to R75, R106, R171, R234 to R236, R332, R352, R427, R443, R570). -/

namespace Sys2Proof.Machine

/-! ### What a cold boot leaves of the engine (R68, R106, R171) -/

/-- What a target keeps through a cold reset: whether it is retired for good, and what its root record gives again (R189,
R222). -/
def coldTarget (x : Target) : Target :=
  { retired := x.permanent, permanent := x.permanent, cause := if x.permanent then 2 else 0, bbt := x.bbt, blockSeq := x.blockSeq,
    erases := x.erases, fresh := x.fresh }

/-- What NAND itself keeps: pages, records, blocks, and what the targets' records give again; the frontiers stand where the pages
end (R201, R240). -/
def coldNand (n : NandSt) : NandSt :=
  { pages := n.pages, blocks := n.blocks, knots := n.knots, voids := n.voids, dirSeq := n.dirSeq, front := n.front,
    pairFront := n.pairFront, unowned := n.unowned,
    targets := ((n.targets.map (fun e => (e.1, coldTarget e.2))).filter (fun e => e.2 ≠ {}) : Table Target) }

/-- What the mailbox keeps in the user sectors, with the dirty shutdown count (R312 to R314, R319, R469). -/
def coldMailbox (dirty : Nat) (s : State) : MbxSt :=
  { logs := s.mbx.logs, dirtyShutdowns := dirty, shutdown := s.mbx.shutdown,
    sanitizeOwed := s.mbx.sanitizeOwed }

/-- The engine as at cold boot: every register at its Reset value, RS fields included; DDR5 is lost (R106, R171). -/
def coldEngine (s : State) : State :=
  let p := drivePair .vreq false (drivePair .belaye false s)
  { p with
    cache := { unfit := s.cache.unfit }, dram := [], stg := { epbScale := heldScale s }, vlt := { state := s.vlt.state }, drain := {}, restore := {},
    rail := {}, host := {}, mbx := coldMailbox (heldDirty s) s, nand := coldNand s.nand, mon := {}, hdlE := {},
    flt := { s.flt with engineLive := [], engineBroken := [], details := [], engineStopped := false },
    tbs := { s.tbs with aligned := false, measured := 0, loaded := false },
    drf := { s.drf with stream := .idle, received := [], engineReady := false, retained := none } }

/-! ### The steward side of a reset (R68, R427, R460, R476) -/

/-- A source as a chipset warm reset leaves it: COUNT and SHADOW_COUNT are kept, and of a source in fault its detail; the severities are the
draft's again. A frozen pair stays frozen (R434). -/
def resetSource (x : Source) : Source :=
  { t := x.t, c := x.c, count := x.count, shadowCount := x.shadowCount, detail := if inFault x then x.detail else 0,
    frozen := x.frozen, wireT := x.wireT, wireC := x.wireC }

/-- A sensor as a chipset warm reset leaves it: it stays broken, or out of service until a cold reset, and TEMP, SUSPECT and RECOVERIES
take their Reset values (R18, R68, R403, R410). -/
def resetSensor (x : Sensor) : Sensor := { broken := x.broken, cause := x.cause, locked := x.locked }

/-- The power controller's register fields without RS take their Reset values (R18, R68); the steward's test of the hold-up switch
is over (R331). -/
def resetPower (s : State) : State :=
  let s := pcClear 223 (clearGauge (clearCharger (clearDomains (List.range 12) s)))
  { s with
    thm := { s.thm with sensors := (s.thm.sensors.map (fun e => (e.1, resetSensor e.2))).filter (fun e => e.2 ≠ {}) },
    flt := { s.flt with
      sources := (s.flt.sources.map (fun e => (e.1, resetSource e.2))).filter (fun e => e.2 ≠ {}),
      ctl := 0, configured := false, si := false, shadows := [], resets := [], stewardHalted := false },
    pwr := { s.pwr with huMode := if s.pwr.huMode = .forced then .opened else s.pwr.huMode, tracked := [], failing := [] },
    chg := { s.chg with phase := .idle, grant := false, exerWanted := false },
    drf := { s.drf with busy := false, result := 0, candOfs := 0 },
    smb := { strap := s.smb.strap }, port := {} }

/-- A source whose live condition is in fault enters fault again once the collector is configured; its reaction waits for
ARMED, at S4 it is taken at once (R427). -/
def reenter (s : State) (n : Nat) : State :=
  let sev := sevOf n s
  let first := !s.flt.first.valid
  let s := modSrc n (fun x => { x with latched := true, count := satAdd 255 x.count 1, owed := decide (sev ≠ 4) }) s
  let detail := (srcAt n s).detail
  let s := logFault n sev detail false first (captureFirst n sev (masterOf n) detail false s)
  if sev = 4 then withAbort (react n 4) s else s

/-- The steward's check of the calibration row at each boot (R482): where it fails, EFL_ECC's condition holds and nominal trims serve. -/
def checkRow (s : State) : State :=
  let bad := rowFails s
  let s := nextFree { s with efl := { s.efl with nominal := bad } }
  if bad then pcFault 232 0x400000 s else s

/-- A zone to which the draft assigns no input has no flag, and raises no source (R566). -/
def clearUnassigned (s : State) : State :=
  let zs := (List.range 5).filter (fun z => !zoneAssigned z s)
  let s := zs.foldl (fun s z => pcClear (212 + z) (pcClear (217 + z)
    { s with thm := { s.thm with zones := modAt z (fun x => { kept := x.kept }) s.thm.zones } })) s
  pcCond 221 (s.thm.zones.any (·.rate)) s

/-- The draft is checked and the collector configured from it; the sources in fault enter fault again, and a learning that is
overdue stands so (R385, R427, R460, R482, R483). In ROM recovery no draft becomes active. -/
def bootDraft (cold : Bool) (s : State) : State :=
  let had := s.drf.active.isSome
  let s := clearUnassigned (if s.efl.romRecovery then { s with drf := { s.drf with active := none, activeSlot := selectedDraft s } } else draftAtReset cold s)
  let s := protectSectors { s with flt := { s.flt with configured := s.drf.active.isSome } }
  let s := if had then s else loadCapacity s
  let live := (s.flt.sources.filter (fun e => inFault e.2)).map (·.1)
  checkRow (noteOverdue (if s.flt.configured then live.foldl reenter s else s))

/-! ### Cold start and stop (R332, R68, R75) -/

/-- A cold start's vault key in MFG (R490); with the noise source failing its tests there is none, and KEY_UNWRAP follows where the engine
is to unwrap it (R496, R498). -/
def mfgKey (noise : Bool) (s : State) : State := if s.lcs.st = .mfg && noise then (newKey s).1 else s

/-- A value that a cold reset took from the steward's queue of writes is reported (R406). -/
def reportLost (s : State) : State :=
  if s.efl.lost then pcFault 226 0 { s with efl := { s.efl with lost := false } } else s

/-- A replaced power controller arrives in MFG with everything that it keeps at its factory state (R6, R7, R564). -/
def newController (s : State) : State :=
  { s with efl := {}, lcs := { keyId := s.lcs.keyId, engineId := s.lcs.engineId }, mbx := {}, stg := {}, log := {}, gau := {} }

/-- The packages that were replaced while the card had no power (R7, R564): a new engine cannot unwrap the stored key. -/
def replacePackages (controller engine : Bool) (s : State) : State :=
  let s := if controller then newController s else s
  if engine then { s with lcs := { s.lcs with engineId := s.lcs.engineId + 1 } } else s

/-- KEEPER_START (R7, R75, R78, R332, R435, R483, R490, R508, R564): a cold reset's start, with the strap, what the DDR5 devices
fitted show, whether the power controller or the engine is another one than before, and whether the noise source passes its tests. Nothing
but DOM0 is on until VIN is good. -/
def execKeeperStart (smbAddr unfit : Nat) (newPctrl newEngine noise : Bool) (s : State) : Host.Outcome State Fault Refusal :=
  if s.pwr.keeper then .next s
  else
    let s := replacePackages newPctrl newEngine s
    let s := modDom 0 (fun d => { d with on := true, good := true }) { s with
      pwr := { s.pwr with keeper := true, pfailAsserted := true }, smb := { strap := smbAddr % 4 }, cache := { s.cache with unfit := unfit % 16 } }
    .next (reportLost (bootDraft true (mfgKey noise (stewardBoot (logEvent 7 0 0 s)))))

/-- What embedded flash itself keeps (R468). -/
def coldFlash (e : EflSt) : EflSt :=
  { words := e.words, factoryBlocks := e.factoryBlocks, undetermined := e.undetermined,
    worn := e.worn, incomplete := e.incomplete, gauge := e.gauge, scale := e.scale,
    dirty := e.dirty, lost := e.lost || !e.waits.isEmpty }

/-- The key's identity, the engine fitted, and the life-cycle state, which the records of embedded flash give again at the next boot. -/
def coldLifeCycle (l : LcsSt) : LcsSt :=
  { st := l.st, keyId := l.keyId, engineId := l.engineId, pending := l.pending, keySeq := l.keySeq, transitions := l.transitions, seq := l.seq }

/-- KEEPER_STOP (R68, R332, R489): the supplies stop, a cold reset: NAND and embedded flash keep what they hold. -/
def execKeeperStop (s : State) : Host.Outcome State Fault Refusal :=
  if s.pwr.keeper then
    let s := cutOperation s
    .next { nand := coldNand s.nand, efl := coldFlash s.efl, lcs := coldLifeCycle s.lcs, mbx := coldMailbox s.efl.dirty s,
            stg := { epbScale := s.efl.scale }, sent := s.sent, free := s.free, pending := s.pending }
  else .next s

/-! ### VIN good (R168, R171, R352, R570) -/

/-- The boot of R352 begins with the intermediate bus, at ibus_nominal. -/
def beginBoot (s : State) : State :=
  beginSeq .boot { s with warm := { s.warm with coldBoot := true }, pwr := { s.pwr with atHold := false } }

/-- The boot out of OFF (R171): a chipset warm reset of the power controller, with the engine as at cold boot; the intermediate
bus starts afresh. -/
def offBoot (s : State) : State :=
  let s := logEvent 7 1 1 s
  let s := setVault .notArmed { coldEngine (resetPower s) with warm := {} }
  let s := vaultOver { s with drf := { s.drf with sealFlag := false }, pwr := { s.pwr with atHold := false } }
  let s := drivePair .hold false (bootDraft false (stewardBoot s))
  if s.drf.active.isSome then beginBoot s else s

/-- Takes in a VIN that has been good for restart_filter (R352, R567). -/
def vinIsGood (vin : Nat) (s : State) : State :=
  let comp := isFrozen 1 s
  let since := if s.vin.good then s.vin.goodAt else now s
  let s := { s with vin := { s.vin with vin := vin, good := true, goodAt := since, comp := comp, below := comp || pfRead vin s, armed := true } }
  chargerCheck (pcClear 164 s)

/-- Whether the vault's cause makes VIN good a request for a warm reset in HOLD (R170). -/
def ownCause (s : State) : Bool := s.vlt.cause = 1 || s.vlt.cause = 6 || s.vlt.cause = 7

/-- What VIN good starts: a boot out of OFF, a warm reset out of HOLD, host domains that wait, or the first boot. -/
def startOnVin (s : State) : State :=
  if s.flt.belay then s
  else if s.vlt.state = .off then
    (if s.pwr.offGroups.isEmpty then offBoot s else { s with pwr := { s.pwr with bootOwed := true } })
  else if s.vlt.state = .hold then (if ownCause s && s.warm.kind = .none then requestWarm .vinGood false s else s)
  else if s.pwr.hostOwed then beginSeq .host s
  else if s.drf.active.isSome && !(domAt 11 s).on && s.pwr.seq = .none then beginBoot s
  else s

/-- The boot out of OFF that waited for the switch-off to end (R171, R351). -/
def owedBoot (s : State) : State :=
  if s.pwr.bootOwed && s.pwr.offGroups.isEmpty then
    let s := { s with pwr := { s.pwr with bootOwed := false } }
    if s.vlt.state = .off && s.vin.good && !s.flt.belay then offBoot s else s
  else s

/-- VIN_GOOD (R168, R170, R171, R352, R567, R570). -/
def execVinGood (vin : Nat) (s : State) : Host.Outcome State Fault Refusal :=
  let v := vinTaken vin s
  if s.pwr.keeper && !s.vin.ovp && decide (100 * (setting s P.vinWarn + setting s P.vinHyst) < 25 * v) then
    .next (startOnVin (vinIsGood v s))
  else .next s

/-! ### Requests (R68, R70, R434, R484) -/

/-- A request for a chipset warm reset; in OFF the chipset waits for VIN, and there is nothing to reset (R171). -/
def askWarm (r : Requester) (s : State) : State :=
  if !s.pwr.keeper || s.vlt.state = .off then s else requestWarm r false s

/-- WARM_RST_N (R70, R78, R434): low for 10 us at least; a frozen pin asks for nothing. `unfit` is what the devices fitted
show at the reset that is performed. -/
def execWarmRstN (lowUs unfit : Nat) (s : State) : Host.Outcome State Fault Refusal :=
  if decide (10 ≤ lowUs) && (tfind s.flt.frozen 3).isNone then
    let t := askWarm .pin s
    .next (if t.warm.kind = .chipset then { t with cache := { t.cache with unfit := unfit % 16 } } else t)
  else .next s

/-- STEWARD_WARM_RESET (R68, R70). -/
def execStewardWarmReset (s : State) : Host.Outcome State Fault Refusal :=
  .next (if s.flt.stewardHalted then s else askWarm .steward s)

/-- STEWARD_WATCHDOG_EXPIRY (R68, R484): STEWARD_WDT; a trial's failure is counted. -/
def execStewardWatchdogExpiry (s : State) : Host.Outcome State Fault Refusal :=
  if !s.pwr.keeper then .next s
  else
    let n := if s.efl.trial then satAdd 15 s.efl.trialFails 1 else s.efl.trialFails
    .next (askWarm .watchdog (pcFault 233 0 { s with efl := { s.efl with trialFails := n } }))

/-! ### Steps 3 to 9 of R70 -/

/-- Step 5 of a chipset reset, and the steward's part of step 6: engine core and steward are reset, the steward boots and
checks the draft. -/
def resetCores (s : State) : State :=
  let s := clearEngine (engineLost s)
  let s := resetPower { s with drf := { s.drf with retained := none } }
  bootDraft false (stewardBoot s)

/-- INERT: every domain but DOM0 goes off, and DDR5 is not held (R443, R462). -/
def goInert (s : State) : State :=
  let s := drivePair .hold false { s with
    warm := { s.warm with kind := .none, step := 0, structural := false }, pwr := { s.pwr with atHold := false } }
  let s := ddrLost (beginOff [5, 4, 3, 2, 1, 0] s)
  { s with cache := { s.cache with ch := [{}, {}, {}, {}], installed := 0 } }

/-- The rails that the engine's boot needs: DOM1, DOM2, DOM6 and DOM7. -/
def railsGood (s : State) : Bool := allGood [1, 2, 6, 7] s

/-- After step 5: INERT, or the rails go on that are off (R352, R443). -/
def powerForBoot (s : State) : State :=
  if s.flt.belay then s
  else if s.drf.active.isNone then goInert s
  else if !(domAt 11 s).on then (if s.vin.good then beginBoot s else { s with warm := { s.warm with coldBoot := true } })
  else if railsGood s || s.pwr.seq ≠ .none || s.sel.phase ≠ .idle then s
  else beginSeq .fromHold s

/-- Whether the life-cycle transition lets step 6 stream the draft (R492, R493). -/
def bootMayStream (s : State) : Bool := s.lcs.step = 0 || s.lcs.step = 7 || s.lcs.step = 8

/-- Step 6 on the engine's side: the stream starts once the link is up; under the selvedge with the link down the retained
copy configures the engine, and a boot whose copy fails its check waits for the stream (R70, R465). -/
def configureEngine (s : State) : State :=
  if linkUp s then (if s.drf.stream = .idle then startStream s else s)
  else if (s.warm.kind = .engine || decide (6 ≤ s.warm.reached)) && bufferOk s then
    { s with drf := { s.drf with engineReady := true } }
  else s

/-- Whether DDR5 does not hold the cache at this boot (R106, R171, R463), or a rank failed when it was trained last
(R78). -/
def freshMemory (s : State) : Bool := s.warm.coldBoot || s.warm.structural || s.cache.installed = 0 || s.cache.mismatch

/-- Every declared rank is trained (R106, R463). A channel with a rank that fails, or is smaller than declared, stays
untrained and counts nothing towards the capacity; MISMATCH is set and DRAM_MISMATCH raised (R78). -/
def trainMemory (s : State) : State :=
  match s.drf.active with
  | none => s
  | some d =>
    let good (c : Nat) : Bool := bitOf d.dram.channels c && !bitOf s.cache.unfit c
    let ch : List DdrCh := s.cache.ch.zipIdx.map (fun e => { e.1 with trained := good e.2 })
    let all := ((List.range 4).filter (fun c => bitOf d.dram.channels c)).length
    let n := ((List.range 4).filter good).length
    engineCond 26 (decide (n < all))
      { s with cache := { s.cache with installed := installedGib d.dram * n / all, ch := ch, mismatch := decide (n < all) } }

/-- The conditions of the engine's sources that a reset does not end: frozen pairs, an exhausted epoch number, a degraded store, a
DDR5 mismatch, the analog limit (R63, R122, R229, R407, R572). -/
def standing (s : State) : List Nat :=
  [(60, (pairAt .pf s).frozen), (61, (pairAt .belayp s).frozen), (62, (pairAt .hold s).frozen), (63, (pairAt .hbp s).frozen),
   (10, s.stg.exhausted), (19, s.nand.degraded), (26, s.cache.mismatch), (64, s.flt.analogTrip)].filterMap
    (fun e => if e.2 then some e.1 else none)

/-- The engine loads its copy of the timebase from the master, over the link (R516). -/
def loadCopy (s : State) : State := if linkUp s then loadTime s else s

/-- Outside a vault the setpoint is vcore_normal: where the rail stands elsewhere, since the draft is another one or a vault's last SET was
lost with the link, the governor sends it after its first QUERY (R267, R288, R351). -/
def restoreSetpoint (s : State) : State :=
  if inVault s || s.vcore.target = setting s P.vcoreNormal then s else normalSetpoint s

/-- Step 7: the engine is attached again with its copy of the timebase, HOLD is released and DDR5 leaves self-refresh; its
registers take the draft's values (R70, R89, R516, R523). The dirty map is then scanned, or set to ZERO where DDR5 does not
hold the cache or restore starts again (R74, R106, R236); in a vault the resume scans it (R176). -/
def attachEngine (s : State) : State :=
  let fresh := freshMemory s
  let s := releaseDdr (loadCopy (if fresh then trainMemory s else s))
  let s := loadCaps { s with warm := { s.warm with engineUp := true }, mon := { mons := draftMonitors s } }
  let s := (standing s).foldl (fun s n => engineFault n 0 s) (sendQuery s)
  let s := restoreSetpoint s
  let s := if inVault s then s else if fresh || s.warm.beforeReady then zeroMap s else scanMap s
  let s := if inVault s then recompute s else s
  { s with warm := { s.warm with step := 8 } }

/-- R73: a vault confirmed during the reset begins at FENCED, with the key loaded again; its fence is the instant at which
admission stopped. A warm reset request that waits for the reset's end is deferred (R69, R71); a restore that step 8 had begun
stops, and restore-ready counts as reached as it did before the reset (R71, R234). -/
def fenceAtReset (s : State) : State :=
  let ts := s.warm.stopTs
  let ready := !s.warm.beforeReady
  let w := { s.warm with kind := .none, step := 0, confirmed := none, deferred := s.warm.deferred <|> s.warm.later, later := none }
  let s := unwrapKey (fence 5 { s with
    warm := w, stg := { s.stg with tSum := 0, tCount := 0 },
    restore := { s.restore with st := .idle, held := false, ready := ready, mapKnown := true, loading := [] } })
  { s with vlt := { s.vlt with fenceTs := ts } }

/-- Whether the boot ends without a held restore: a NAND restore starts from DISCOVER once step 9 is over (R74, R234,
R236, R238). -/
def nandRestore (fresh : Bool) (s : State) : Bool := fresh || s.warm.beforeReady || s.lcs.st = .retired

/-- Step 8: the budget is evaluated, and restore goes to DISCOVER; a life-cycle wipe takes the step's place (R70, R492). -/
def evaluateAtReset (s : State) : State :=
  let wiping := s.lcs.step = 7
  let fresh := freshMemory s || wiping
  let s := recompute (if wiping then wipeAndKey s else s)
  let nand := nandRestore fresh s
  let next : RState := if s.lcs.st = .retired || s.cache.mismatch then .idle else .discover
  { s with
    restore := { s.restore with
      st := next, held := !nand, ready := false, mapDone := false, mapKnown := false, loading := [],
      completeTs := if next = .discover then 0 else s.restore.completeTs },
    warm := { s.warm with step := 9, structural := s.warm.structural && !wiping } }

/-- Whether a life-cycle wipe's new key waits for the operation of embedded flash that runs (R472, R492). -/
def keyWaits (s : State) : Bool := s.lcs.step = 7 && s.lcs.st = .field && eflBusy s

/-- Step 8 in the reset in progress: in a vault the engine waits for its resume, and a confirmed vault is fenced. -/
def stepEight (s : State) : State :=
  if s.warm.kind = .engine && inVault s then s
  else if s.warm.confirmed.isSome then fenceAtReset s
  else if keyWaits s then s
  else evaluateAtReset s

/-- R570: the host domains go on again, or wait for VIN, where one is off or PFAIL_N is asserted; the sequence opens the hold-up
switch once all are good, at once without any (R329). -/
def restartHosts (s : State) : State :=
  if s.pwr.seq ≠ .none || !(s.pwr.pfailAsserted || (groupDomains 5 s).any (fun d => !(domAt d s).on)) then s
  else if s.vin.good then beginSeq .host s
  else { s with pwr := { s.pwr with hostOwed := true } }

/-- Step 9 (R70, R569, R570): link training is enabled; a request that waits is performed. -/
def finishWarm (s : State) : State :=
  let chipset := s.warm.kind ≠ .engine
  let later := s.warm.later
  let s := { s with
    host := { s.host with training := true },
    warm := { s.warm with kind := .none, step := 0, coldBoot := false, later := none } }
  let s := if chipset then restartHosts (confirmFirmware s) else s
  match later with | some r => requestWarm r false s | none => s

/-- Whether a held restore still has to reach restore-ready before step 9 is over (R70, R236). -/
def heldPending (s : State) : Bool :=
  s.restore.held && s.vlt.state = .notArmed && !(s.restore.st = .lazy || s.restore.st = .complete)

/-- Step 9 in the reset in progress. -/
def stepNine (s : State) : State :=
  if s.warm.confirmed.isSome then fenceAtReset s
  else if heldPending s then s
  else finishWarm s

/-- A candidate submitted since the steward checked the draft is checked at step 6 as well (R460, R569). Where this reset has activated one,
the slot that was active before is no candidate of it. -/
def checkAgain (s : State) : State :=
  if draftPending s && s.warm.confirmed.isNone && !s.warm.activated then protectSectors (considerCand false s) else s

/-- Step 5: the chipset waits for its rails, the engine under the selvedge for its own. A chipset reset that a selvedge re-boot
overtook at this step has its candidate still to be checked. -/
def stepFive (s : State) : State :=
  if !railsGood s || s.sel.phase = .holding || s.sel.phase = .cooling then s
  else if stewardDone s then
    if s.sel.phase = .rebooting then
      let s := clearEngine s
      let s := { s with warm := { s.warm with step := 6 } }
      if s.warm.kind = .chipset && s.warm.reached = 5 then checkAgain s else s
    else s
  else checkAgain { s with warm := { s.warm with step := 6 } }

/-- Step 6: once the engine is configured and its rails are good, step 7 follows. -/
def stepSix (s : State) : State :=
  if !bootMayStream s then s
  else if s.drf.engineReady && railsGood s then attachEngine s
  else configureEngine s

/-- The reset in progress, or the cold boot, takes its next step. -/
def advanceWarm (s : State) : State :=
  match s.warm.step with
  | 3 =>
    if s.warm.engineUp && !s.stg.epochs.isEmpty then s
    else { s with stg := { s.stg with epochs := [] }, warm := { s.warm with step := 4 } }
  | 4 =>
    if stewardDone s then { s with warm := { s.warm with step := 5 } }
    else
      let s := resetCores (holdDdr s)
      if s.flt.belay then s else powerForBoot { s with warm := { s.warm with step := 5 } }
  | 5 => stepFive s
  | 6 => stepSix s
  | 8 => stepEight s
  | 9 => stepNine s
  | _ => s

end Sys2Proof.Machine
end

