-- ==== Sys2Proof/Machine/RegMap.lean ====
section
/-! DEFINITION. Register accesses: the two halves of the register space, 64-bit quantities, complement-paired writes, what each
write does, and the tunnel between the packages (R13 to R18, R501 to R506). -/

namespace Sys2Proof.Machine

/-! ### Addresses and masters (R501 to R504) -/

/-- The package that owns a register address (R501). -/
def halfOf (addr : Nat) : End := if addr < 0x200000 then .engine else .pctrl

/-- The package at which a master issues its accesses (R501). -/
def ownEnd : Master → End | .host => .engine | .smbus => .pctrl | .steward => .pctrl

/-- Whether the SMBus port takes transactions: the keeper runs, and the bus is not released as stuck (R434, R508). -/
def portLive (s : State) : Bool := s.pwr.keeper && !isFrozen 5 s

/-- Whether a master can access registers: the host through a trained port, the SMBus port and the steward while the keeper
runs. -/
def masterUp (m : Master) (s : State) : Bool :=
  match m with
  | .host => mailboxOpen s
  | .smbus => portLive s
  | .steward => s.pwr.keeper && !s.flt.stewardHalted && !s.efl.romRecovery

/-- A register by its address (R501). -/
def regAt (addr : Nat) (s : State) : RegVal := if addr < 0x200000 then engineReg addr s else pctrlReg addr s

/-- Addresses in the ranges that R501 reserves. -/
def inReserved (addr : Nat) : Bool :=
  (decide (0x0C0000 ≤ addr) && decide (addr < 0x200000)) || (decide (0x2C0000 ≤ addr) && decide (addr < 0x300000)) ||
  decide (0x380000 ≤ addr)

/-- Whether an address names the low word of a 64-bit register. -/
def isLowWord (addr : Nat) (s : State) : Bool := match regAt addr s with | some (w, _) => w | none => false

/-- Whether an address names the high word of a 64-bit register. -/
def isHighWord (addr : Nat) (s : State) : Bool := (regAt addr s).isNone && decide (4 ≤ addr) && isLowWord (addr - 4) s

/-- A register's whole value; 0 where there is none (R502). -/
def regValue (addr : Nat) (s : State) : Nat := match regAt addr s with | some (_, v) => v | none => 0

/-! ### Reads (R13, R470, R472, R502) -/

/-- What a read of a register does beside its value: EFL_DATA in a bank that does not read raises EFL_BUS, and a word left
undetermined may raise EFL_ECC; a free value that was read is spent (R470, R472, R486). -/
def readEffects (m : Master) (addr : Nat) (s : State) : State :=
  if addr = 0x270010 then
    let (w, row) := eflTarget s
    if row then
      let s' := nextFree s
      if Config.rowWordBad s.free (w % 256) then busError m (accessFault 232 m (0x400000 + 8 * (w % 256)) s') else s'
    else if eflReadFaults w s then busError m (accessFault 231 m (8 * w) (nextFree s))
    else if s.efl.undetermined.contains (blockOfWord w) then
      let bad := Config.freeBool (s.free + 1)
      let s := nextFree (nextFree s)
      if bad then busError m (accessFault 232 m (8 * w) s) else s
    else if holdsDatum (blockOfWord w) s then nextFree s
    else eccEffects m w s
  else if 0x200000 ≤ addr ∧ addr < 0x210000 then nextFree s
  else s

/-- Looks up what a master holds under an address. -/
def heldAt (m : Master) (addr : Nat) (l : List (Master × Nat × Nat)) : Option Nat :=
  (l.find? (fun e => e.1 = m && e.2.1 = addr)).map (·.2.2)

/-- Takes out what a master holds under an address. -/
def dropHeld (m : Master) (addr : Nat) (l : List (Master × Nat × Nat)) : List (Master × Nat × Nat) :=
  l.filter (fun e => !(e.1 = m && e.2.1 = addr))

/-- A 32-bit read: a low word latches the high word, and the next read of the high word takes the latch (R13). -/
def readNarrow (m : Master) (addr : Nat) (s : State) : Nat × State :=
  if isLowWord addr s then
    let v := regValue addr s
    let s := readEffects m addr s
    (v % 2 ^ 32, { s with port := { s.port with highLatch := (m, addr, v / 2 ^ 32) :: dropHeld m addr s.port.highLatch } })
  else if isHighWord addr s then
    match heldAt m (addr - 4) s.port.highLatch with
    | some h => (h, { s with port := { s.port with highLatch := dropHeld m (addr - 4) s.port.highLatch } })
    | none => (regValue (addr - 4) s / 2 ^ 32, s)
  else (regValue addr s, readEffects m addr s)

/-- A 64-bit read: both halves together; 0 where no 64-bit register stands (R502). It leaves the high word that a 32-bit read has
latched for a later 32-bit read of the upper half, of which R13 and R502 say nothing (DESIGN CHOICE, log entry 61). -/
def readWide (m : Master) (addr : Nat) (s : State) : Nat × State :=
  if isLowWord addr s then (regValue addr s, readEffects m addr s) else (0, s)

/-- A read at the package that owns the address. -/
def readAt (m : Master) (addr : Nat) (wide : Bool) (s : State) : Nat × State :=
  if wide then readWide m addr s else readNarrow m addr s

/-! ### Writes to the engine's half (R15) -/

/-- Whether bit `i` of a value written is 1: clears a flag of code RW1C. -/
def keepUnless (v i : Nat) (b : Bool) : Bool := b && !bitOf v i

/-- A write to VLT (R140, R185, R264). -/
def writeVlt (o v : Nat) (s : State) : State :=
  match o with
  | 0x10 =>
    let g := s.stg
    { s with stg := { g with evtRise := keepUnless v 31 g.evtRise, evtClear := keepUnless v 30 g.evtClear, ieClear := bitOf v 29 } }
  | 0x40 => { s with vlt := { s.vlt with specStarts := v } }
  | 0x44 => { s with vlt := { s.vlt with specAbandons := v } }
  | 0x48 => { s with vlt := { s.vlt with count := v } }
  | 0x60 =>
    let r := s.restore
    { s with restore := { r with
        evtReady := keepUnless v 31 r.evtReady, evtComplete := keepUnless v 30 r.evtComplete, ieComplete := bitOf v 29 } }
  | 0x64 => { s with restore := { s.restore with demandFetches := v } }
  | 0x68 => { s with restore := { s.restore with ue := v } }
  | _ => s

/-- A write to NCH (R233, R289). -/
def writeNch (o v : Nat) (s : State) : State :=
  if 0x100 ≤ o ∧ o < 0x280 then
    let n := (o - 0x100) / 0x20
    match o % 0x20 with
    | 0x04 => modChannel n (fun c => { c with ue := v % 2 ^ 24 }) s
    | 0x08 => modChannel n (fun c => { c with pfails := v }) s
    | 0x0C => modChannel n (fun c => { c with stalls := v }) s
    | _ => s
  else if o = 0x14 then { s with nand := { s.nand with discards := v } }
  else if o = 0x20 then { s with nand := { s.nand with peTarget := v / 2 ^ 21 % 2 ^ 7, peBlock := v % 2 ^ 21 } }
  else s

/-- A write to DCH (03, registers). -/
def writeDch (o v : Nat) (s : State) : State :=
  if 0x100 ≤ o ∧ o < 0x180 then
    let c := (o - 0x100) / 0x20
    match o % 0x20 with
    | 0x08 => { s with cache := { s.cache with ch := modAt c (fun x => { x with ce := v }) s.cache.ch } }
    | 0x0C => { s with cache := { s.cache with ch := modAt c (fun x => { x with ue := v }) s.cache.ch } }
    | _ => s
  else s

/-- A write to CXL (R322). -/
def writeCxl (o v : Nat) (s : State) : State :=
  match o with
  | 0x04 => { s with host := { s.host with linkdowns := v } }
  | 0x0C => { s with host := { s.host with gpfCount := v } }
  | 0x10 => { s with host := { s.host with drops := v } }
  | _ => s

/-- A write to CRL (R289). -/
def writeCrl (o v : Nat) (s : State) : State :=
  match o with
  | 0x0C => { s with rail := { s.rail with fbSeen := keepUnless v 28 s.rail.fbSeen } }
  | 0x14 => { s with rail := { s.rail with cmds := v } }
  | 0x18 => { s with rail := { s.rail with superseded := v } }
  | 0x1C => { s with rail := { s.rail with errs := v } }
  | _ => s

/-- A write to an end's HDL block. -/
def writeHdl (e : End) (o v : Nat) (s : State) : State :=
  match o with
  | 0x04 => setHdl e (fun h => { h with crcErrors := v }) s
  | 0x08 => setHdl e (fun h => { h with resends := v }) s
  | 0x0C => setHdl e (fun h => { h with unreached := v }) s
  | _ => s

/-- A write to MON (R521, R522). -/
def writeMon (o v : Nat) (s : State) : State :=
  if o = 0 then
    let s := { s with mon := { s.mon with freeze := bitOf v 31 } }
    if bitOf v 30 then clearMonitors s else s
  else if o = 4 then { s with mon := { s.mon with drops := v } }
  else if 0x1000 ≤ o ∧ o < 0x3000 ∧ o % 0x80 = 0 then writeMonCfg ((o - 0x1000) / 0x80) v s
  else s

/-- A 32-bit write to a register of the engine that is not complement-paired. -/
def writeEngine (addr v : Nat) (s : State) : State :=
  let o := addr % 0x10000
  match addr / 0x10000 with
  | 0x00 => writeVlt o v s
  | 0x01 => if o = 0x2C then { s with stg := { s.stg with voidCount := v } } else s
  | 0x04 => writeNch o v s
  | 0x06 => writeDch o v s
  | 0x07 => writeCxl o v s
  | 0x08 => writeCrl o v s
  | 0x09 => writeHdl .engine o v s
  | 0x0A => writeMon o v s
  | _ => s

/-! ### Writes to the power controller's half (R15) -/

/-- A write to DOM_STATUS[d] (R356). -/
def writeDom (o v : Nat) (s : State) : State :=
  if 0x100 ≤ o ∧ o < 0x1C0 ∧ o % 0x10 = 4 then
    modDom ((o - 0x100) / 0x10) (fun d =>
      { d with railFault := keepUnless v 28 d.railFault, trackFault := keepUnless v 27 d.trackFault }) s
  else s

/-- A write to GAU_EXER (R379, R382, R383). -/
def writeExer (v : Nat) (s : State) : State :=
  let s := exerciseGrant (bitOf v 31) s
  if bitOf v 30 then { s with chg := { s.chg with exerWanted := true } } else s

/-- A write to FLT_SRC_STATUS[n] (R419, R422, R426). -/
def writeSrcStatus (m : Master) (n v : Nat) (s : State) : State :=
  if !present n then s
  else
    let s := modSrc n (fun x => { x with shadowHit := keepUnless v 28 x.shadowHit, escalated := keepUnless v 27 x.escalated }) s
    if bitOf v 31 then clearLatched m n s else s

/-- A write to FLT (R411, R422, R424, R426, R442). -/
def writeFlt (m : Master) (o v : Nat) (s : State) : State :=
  if 0x400 ≤ o ∧ o < 0xC00 ∧ o % 8 = 4 then writeSrcStatus m ((o - 0x400) / 8) v s
  else
    match o with
    | 0x00 => { s with flt := { s.flt with si := keepUnless v 30 s.flt.si } }
    | 0x0C => { s with flt := { s.flt with shadowed := v } }
    | 0x10 => if bitOf v 31 then clearFirst m s else s
    | _ => s

/-- A write to EFL (R500). -/
def writeEfl (o v : Nat) (s : State) : State :=
  match o with
  | 0x08 => { s with efl := { s.efl with addr := fld (v / 8) 19 3 + fld (v / 2 ^ 22) 1 22 } }
  | 0x18 => { s with efl := { s.efl with select := v % 2 ^ 9 } }
  | 0x28 => { s with efl := { s.efl with ceCount := v } }
  | _ => s

/-- A write to LOG (R437, R442). -/
def writeLog (o v : Nat) (s : State) : State :=
  if o = 8 then { s with log := { s.log with lost := v } }
  else if o = 0xC then logMarkOp (BitVec.ofNat 32 v) s
  else s

/-- A 32-bit write to a register of the power controller that is not complement-paired. -/
def writePctrl (m : Master) (addr v : Nat) (s : State) : State :=
  let o := addr % 0x10000
  match addr / 0x10000 with
  | 0x21 => writeDom o v s
  | 0x23 => if o = 0x28 then writeExer v s else s
  | 0x24 => if o = 0x8 then { s with chg := { s.chg with balTimeout := keepUnless v 27 s.chg.balTimeout } } else s
  | 0x26 => writeFlt m o v s
  | 0x27 => writeEfl o v s
  | 0x28 => if o = 0x20 then { s with drf := { s.drf with candOfs := v % 2 ^ 16 } } else s
  | 0x2B => writeHdl .pctrl o v s
  | 0x30 => writeLog o v s
  | _ => s

/-! ### 64-bit writes (R13, R503) -/

/-- The 64-bit registers that take writes: TBS_OFFSET of the master, DRF_CAND_DATA, EFL_DATA, EFL_WP. -/
def writable64 (addr : Nat) : Bool := [0x2A0008, 0x280028, 0x270010, 0x270020].contains addr

/-- Both halves of a 64-bit register are written together. -/
def commit64 (m : Master) (addr v : Nat) (s : State) : State :=
  if addr = 0x2A0008 then { s with tbs := { s.tbs with offset := v % 2 ^ 64 } }
  else if addr = 0x280028 then candData m (BitVec.ofNat 64 v) s
  else if addr = 0x270010 then { s with efl := { s.efl with data := v % 2 ^ 64 } }
  else if addr = 0x270020 && !s.efl.wpLock then { s with efl := { s.efl with wp := v % 2 ^ 64 } }
  else s

/-- The present low half, which a write of the high word alone keeps: EFL_DATA's is that of the data held for OP 1, and
DRF_CAND_DATA reads 0. -/
def lowHalf (addr : Nat) (s : State) : Nat := (if addr = 0x270010 then s.efl.data else regValue addr s) % 2 ^ 32

/-- A 32-bit write to a half of a 64-bit register: the low word is held, the high word commits (R13, R503). -/
def writeHalf (m : Master) (addr v : Nat) (s : State) : State :=
  if writable64 addr then { s with port := { s.port with lowHold := (m, addr, v) :: dropHeld m addr s.port.lowHold } }
  else
    let low := (heldAt m (addr - 4) s.port.lowHold).getD (lowHalf (addr - 4) s)
    commit64 m (addr - 4) (v * 2 ^ 32 + low) { s with port := { s.port with lowHold := dropHeld m (addr - 4) s.port.lowHold } }

/-! ### Complement-paired writes (R16, R503) -/

/-- The registers with access code RWP: BLT_CAP[n], FLT_CTL, FLT_SRC_CFG[n], DRF_CTL, EFL_CTL, LCS_CTL. -/
def isPaired (addr : Nat) : Bool :=
  (decide (0x020000 ≤ addr) && decide (addr < 0x021000) && decide (addr % 0x40 = 8)) ||
  (decide (0x260400 ≤ addr) && decide (addr < 0x260C00) && decide (addr % 8 = 0)) ||
  [0x260008, 0x280018, 0x270004, 0x290004].contains addr

/-- A pair that failed: RWP_PAIR_E or RWP_PAIR_P, with the register's address (R16, R424). -/
def pairFail (m : Master) (addr : Nat) (s : State) : State :=
  match halfOf addr with
  | .engine => engineFault 65 addr s
  | .pctrl => accessFault 234 m addr s

/-- A completed write of DRF_CTL (R467). -/
def writeDrfCtl (m : Master) (v : Nat) (s : State) : State :=
  let s := if bitOf v 31 then submitCand m s else s
  let s := if bitOf v 30 then eraseCand m s else s
  let s := if bitOf v 29 then withdrawByHost m s else s
  let s := if bitOf v 28 then activateByHost m s else s
  withDrfCtl (v / 2 ^ 28 % 16 * 2 ^ 28) s

/-- Whether an operation of EFL_CTL is open to the management port (R478, R504). -/
def flashOpOpen (m : Master) (v : Nat) : Bool := m ≠ .smbus || (!bitOf v 0 && [0, 1, 2, 5, 6].contains (v / 2 ^ 28 % 16))

/-- A completed write of EFL_CTL (R471, R473, R477, R484, R486, R500). -/
def writeEflCtl (m : Master) (v : Nat) (s : State) : State :=
  if !flashOpOpen m v then denied m s
  else
    let s := if bitOf v 0 then lockWp m s else s
    match v / 2 ^ 28 % 16 with
    | 1 => eflProgramOp m s
    | 2 => eflEraseOp m s
    | 3 => eflSuspendOp m s
    | 4 => eflResumeOp m s
    | 5 => fwEraseOp m s
    | 6 => fwSubmitOp m s
    | n => withOp n s

/-- A completed write of LCS_CTL (R491, R500); the noise source's verdict is a free value. -/
def writeLcsCtl (m : Master) (v : Nat) (s : State) : State :=
  if bitOf v 29 then requestLifeCycle m (v / 2 ^ 30 % 4) (Config.freeBool s.free) (nextFree s)
  else { s with lcs := { s.lcs with ctl := v / 2 ^ 30 % 4 * 2 ^ 30 } }

/-- A pair is complete: the value takes effect. -/
def commitPair (m : Master) (addr v : Nat) (s : State) : State :=
  if addr < 0x200000 then
    { s with cache := { s.cache with caps := tput 0 ((addr - 0x020000) / 0x40) (v % 2 ^ 27) s.cache.caps } }
  else if addr = 0x260008 then (if bitOf v 31 then recoverOp m s else { s with flt := { s.flt with ctl := 0 } })
  else if addr = 0x280018 then writeDrfCtl m v s
  else if addr = 0x270004 then writeEflCtl m v s
  else if addr = 0x290004 then writeLcsCtl m v s
  else raiseSeverity m ((addr - 0x260400) / 8) (v % 8) (bitOf v 29) s

/-- A write to a complement-paired register (R16, R503): the first write is held, the matching second one takes effect, any
other second write fails; a write of another master fails the pair and begins its own. -/
def writePaired (m : Master) (addr v : Nat) (s : State) : State :=
  let rest := s.port.rwpHalf.filter (fun e => e.2.1 ≠ addr)
  match s.port.rwpHalf.find? (fun e => e.2.1 = addr) with
  | none => { s with port := { s.port with rwpHalf := (m, addr, v) :: s.port.rwpHalf } }
  | some h =>
    if h.1 = m then
      let s := { s with port := { s.port with rwpHalf := rest } }
      if h.2.2 + v = 2 ^ 32 - 1 then commitPair m addr h.2.2 s else pairFail m addr s
    else pairFail h.1 addr { s with port := { s.port with rwpHalf := (m, addr, v) :: rest } }

/-! ### An access at the package that owns the address (R502 to R504) -/

/-- Whether a write is refused for its master: LCS_CTL but for the management port; EFL_ADDR, EFL_DATA and EFL_CTL for the
host; EFL_WP but for the steward; in ROM recovery the management port reaches the EFL block alone (R483, R504). -/
def refusedFor (m : Master) (addr : Nat) (s : State) : Bool :=
  (decide (addr = 0x290004) && m ≠ .smbus) ||
  ([0x270004, 0x270008, 0x270010, 0x270014].contains addr && m = .host) ||
  ([0x270020, 0x270024].contains addr && m ≠ .steward) ||
  (s.efl.romRecovery && m = .smbus && decide (addr / 0x10000 ≠ 0x27))

/-- A write at the package that owns the address. A 64-bit write drops the low word that its master holds for the same register, of
which R13 and R502 say nothing (DESIGN CHOICE, log entry 61). -/
def writeAt (m : Master) (addr : Nat) (wide : Bool) (v : Nat) (s : State) : State :=
  if refusedFor m addr s then denied m s
  else if wide then
    (if writable64 addr then commit64 m addr v { s with port := { s.port with lowHold := dropHeld m addr s.port.lowHold } } else s)
  else if isPaired addr then writePaired m addr v s
  else if writable64 addr || (decide (4 ≤ addr) && writable64 (addr - 4)) then writeHalf m addr v s
  else if addr < 0x200000 then writeEngine addr v s
  else writePctrl m addr v s

/-! ### Issuing an access (R505, R506, R509) -/

/-- The next TAG at an end (R534). -/
def nextTag (e : End) (s : State) : Nat := match e with | .engine => s.port.tagE | .pctrl => s.port.tagP

/-- Moves TAG on. -/
def bumpTag (e : End) (s : State) : State :=
  match e with
  | .engine => { s with port := { s.port with tagE := (s.port.tagE + 1) % 256 } }
  | .pctrl => { s with port := { s.port with tagP := (s.port.tagP + 1) % 256 } }

/-- An access of `m` met an unreachable half (R506). -/
def metUnreachable (m : Master) (s : State) : State := countUnreached (ownEnd m) 1 (m = .smbus) s

/-- Moves REG_ADDR on by the bytes transferred, unless NO_INC is 1 (R509). -/
def advanceAddr (n : Nat) (s : State) : State :=
  if s.smb.noInc then s else { s with smb := { s.smb with addr := (s.smb.addr + n) % 2 ^ 22 } }

/-- The bytes of a value that byte enables name (R502). -/
def maskBytes (be : BitVec 8) (n v : Nat) : Nat :=
  ((List.range n).map (fun i => if be.getLsbD i then v / 256 ^ i % 256 * 256 ^ i else 0)).sum

/-! ### The SMBus port's answers (R508 to R510) -/

/-- The port's 7-bit address (R508). -/
def portAddress (s : State) : Nat := 0x58 + s.smb.strap

/-- The commands whose transfer is a block, with a byte count before the data (R509, R511). -/
def blockCodes : List Nat := [0x99, 0x9A, 0x9B, 0xD0, 0xD1]

/-- The PEC byte of a read (R508, R510): of the address for the write, the command, the address for the read, a block's count and the
data (PRESUMED, log entry 108). -/
def readPec (code : Nat) (l : List Byte) (s : State) : Byte :=
  BitVec.ofNat 8 (crc8 ([2 * portAddress s, code, 2 * portAddress s + 1] ++ (if blockCodes.contains code then [l.length] else []) ++
    l.map BitVec.toNat))

/-- Answers a command with data bytes on SMBus; a block's byte count is not among them. The PEC follows when the host clocks it (R510). -/
def smbAnswer (code : Nat) (l : List Byte) (s : State) : State := emit (.smbus l (readPec code l s)) s

/-- Bytes of an access. -/
def accessBytes (wide : Bool) : Nat := if wide then 8 else 4

/-- A read's data goes to its master (R13, R502, R509). -/
def answerAccess (m : Master) (wide : Bool) (be : BitVec 8) (v : Nat) (s : State) : State :=
  let n := accessBytes wide
  match m with
  | .smbus => advanceAddr n (smbAnswer 0xD1 (leBytes n v) s)
  | .host | .steward => emit (.register m (maskBytes be n v)) s

/-- A read of an unreachable half (R506). -/
def readLost (m : Master) (wide : Bool) (be : BitVec 8) (s : State) : State :=
  answerAccess m wide be (256 ^ accessBytes wide - 1) (metUnreachable m s)

/-- A master issues a write (R505, R506). -/
def issueWrite (m : Master) (addr : Nat) (wide : Bool) (v : Nat) (s : State) : State :=
  let e := ownEnd m
  if halfOf addr = e then writeAt m addr wide v s
  else if unreachable e s then metUnreachable m s
  else
    let req : RegReq := { tag := nextTag e s, write := true, wide := wide, master := m, addr := addr, data := v }
    bumpTag e (sendFrame e (.request req) s)

/-- A master issues a read (R505, R506); in ROM recovery the management port reaches the EFL block alone (R483). -/
def issueRead (m : Master) (addr : Nat) (wide : Bool) (be : BitVec 8) (s : State) : State :=
  let e := ownEnd m
  if m = .smbus && s.efl.romRecovery && decide (addr / 0x10000 ≠ 0x27) then emit .nack s
  else if halfOf addr = e then
    let (v, s) := readAt m addr wide s
    answerAccess m wide be v s
  else if unreachable e s then readLost m wide be s
  else
    let req : RegReq := { tag := nextTag e s, write := false, wide := wide, master := m, addr := addr, data := 0 }
    let s := { s with port := { s.port with reads := s.port.reads ++ [{ issuer := e, req := req, be := be }] } }
    bumpTag e (sendFrame e (.request req) s)

/-- Whether byte enables name every byte of an access. -/
def wholeAccess (wide : Bool) (be : BitVec 8) : Bool :=
  if wide then be = BitVec.allOnes 8 else be.extractLsb' 0 4 = BitVec.allOnes 4

/-- REGISTER_WRITE (R13 to R16, R502 to R506): a partial write is ignored. -/
def execRegisterWrite (m : Master) (addr : Nat) (wide : Bool) (value : DWord) (be : BitVec 8) (s : State) :
    Host.Outcome State Fault Refusal :=
  if addr % 4 ≠ 0 then .fault (.unaligned addr)
  else if !masterUp m s || !wholeAccess wide be then .next s
  else .next (issueWrite m addr wide (value.toNat % 256 ^ accessBytes wide) s)

/-- REGISTER_READ (R13, R17, R502 to R506). -/
def execRegisterRead (m : Master) (addr : Nat) (wide : Bool) (be : BitVec 8) (s : State) :
    Host.Outcome State Fault Refusal :=
  if addr % 4 ≠ 0 then .fault (.unaligned addr)
  else if !masterUp m s then .next s
  else .next (issueRead m addr wide be s)

/-- REGISTER_FRAME (R505, R506, R534): the far package performs the access, and answers a read. An engine that does not run performs
none: a write that reaches it is lost, and a read gets no answer. -/
def execRegisterFrame (hdr : FrameHdr) (at' : End) (req : RegReq) (s : State) : Host.Outcome State Fault Refusal :=
  let ok := accepts at' hdr s
  let s := receive at' hdr s
  if !ok || halfOf req.addr ≠ at' then .next s
  else if at' = .engine && engineAway s then .next (if req.write then metUnreachable req.master s else s)
  else if req.write then .next (writeAt req.master req.addr req.wide req.data s)
  else
    let (v, s) := readAt req.master req.addr req.wide s
    .next (sendFrame at' (.response req v) s)

/-- The read that a response or a timeout speaks of. -/
def waitingRead (e : End) (req : RegReq) (s : State) : Option PendingRead :=
  s.port.reads.find? (fun r => r.issuer = e && r.req.tag = req.tag)

/-- Takes a read off the list. -/
def dropRead (r : PendingRead) (s : State) : State :=
  { s with port := { s.port with reads := s.port.reads.filter (fun x => !(x.issuer = r.issuer && x.req.tag = r.req.tag)) } }

/-- REGISTER_RESPONSE (R505): the data of a tunnelled read goes to its master. -/
def execRegisterResponse (hdr : FrameHdr) (req : RegReq) (data : Nat) (s : State) : Host.Outcome State Fault Refusal :=
  let e := ownEnd req.master
  let ok := accepts e hdr s
  let s := receive e hdr s
  if !ok then .next s
  else match waitingRead e req s with
    | some r => .next (answerAccess r.req.master r.req.wide r.be data (dropRead r s))
    | none => .next s

/-- UNREACHABLE_TIMEOUT (R506): a tunnelled read without an answer reads all ones. -/
def execUnreachableTimeout (req : RegReq) (s : State) : Host.Outcome State Fault Refusal :=
  match waitingRead (ownEnd req.master) req s with
  | some r => .next (readLost r.req.master r.req.wide r.be (dropRead r s))
  | none => .next s

/-- RWP_PAIR_TIMEOUT (R16): 10 ms after a first write the pair has failed. -/
def execRwpPairTimeout (m : Master) (addr : Nat) (s : State) : Host.Outcome State Fault Refusal :=
  match heldAt m addr s.port.rwpHalf with
  | some _ => .next (pairFail m addr { s with port := { s.port with rwpHalf := dropHeld m addr s.port.rwpHalf } })
  | none => .next s

end Sys2Proof.Machine
end

