-- ==== Sys2Proof/Machine/Mgmt.lean ====
section
/-! DEFINITION. The SMBus and PMBus port (R508 to R513). -/

namespace Sys2Proof.Machine

/-! ### The port -/

/-- Changes the port's registers. -/
def setSmb (f : SmbSt → SmbSt) (s : State) : State := { s with smb := f s.smb }

/-- Has a PMBus command's effect while the port takes transactions (R434, R508); in ROM recovery the port accepts the EFL block alone (R483). -/
def onPort (f : State → State) (s : State) : Host.Outcome State Fault Refusal :=
  if !portLive s then .next s else if s.efl.romRecovery then .next (emit .nack s) else .next (f s)

/-- A write whose PEC is missing or wrong is discarded: NACK and PEC_ERROR (R510). -/
def badPec (s : State) : State := emit .nack (setSmb (fun p => { p with pecError := true }) s)

/-! ### Register access (R509, R510) -/

/-- REG_ADDR as it reads. -/
def regAddrWord (s : State) : Nat := s.smb.addr + b01 s.smb.noInc

/-- REG_ADDR (R509, R510). -/
def execRegAddr (value : Option Word) (pecOk : Bool) (s : State) : Host.Outcome State Fault Refusal :=
  if !portLive s then .next s
  else match value with
    | none => .next (smbAnswer 0xD0 (leBytes 4 (regAddrWord s)) s)
    | some v =>
      if !pecOk then .next (badPec s)
      else .next (setSmb (fun p => { p with addr := bitsOf v.toNat 21 2 * 4, noInc := bitOf v.toNat 0 }) s)

/-- REG_STATUS.RANGE: the address lies in a reserved range (R509). -/
def noteRange (s : State) : State := setSmb (fun p => { p with range := true }) s

/-- REG_DATA_WRITE (R502, R504, R509, R510). -/
def execRegDataWrite (bytes : List Byte) (pecOk : Bool) (s : State) : Host.Outcome State Fault Refusal :=
  if !portLive s then .next s
  else if !pecOk then .next (badPec s)
  else
    let a := s.smb.addr
    let t := if inReserved a then noteRange s else issueWrite .smbus a (bytes.length = 8) (ofLeBytes bytes) s
    .next (advanceAddr bytes.length t)

/-- REG_DATA_READ (R502, R505, R506, R509); a reserved range reads 0 and sets RANGE. -/
def execRegDataRead (count : Nat) (s : State) : Host.Outcome State Fault Refusal :=
  if !portLive s then .next s
  else
    let a := s.smb.addr
    let wide : Bool := count = 8
    .next (if inReserved a then answerAccess .smbus wide (BitVec.allOnes 8) 0 (noteRange s)
           else issueRead .smbus a wide (BitVec.allOnes 8) s)

/-- REG_STATUS's byte (R509). -/
def regStatusByte (s : State) : Nat :=
  b01 s.smb.unreachable + 2 * b01 s.smb.denied + 4 * b01 s.smb.pecError + 8 * b01 s.smb.range

/-- REG_STATUS (R509): cleared by the read. -/
def execRegStatus (s : State) : Host.Outcome State Fault Refusal :=
  if !portLive s then .next s
  else
    let v := regStatusByte s
    .next (smbAnswer 0xD2 (leBytes 1 v)
      (setSmb (fun p => { p with unreachable := false, denied := false, pecError := false, range := false }) s))

/-! ### PMBus (R511, R512) -/

/-- A refused write sets the CML invalid-data bit (R511). -/
def refuseWrite (s : State) : State := setSmb (fun p => { p with badData := true }) s

/-- A write with a PEC byte that is wrong is discarded, as R510 says of the register commands (DEDUCED from R508's PEC on every
command, log entry 108). -/
def withPec (pecOk : Bool) (f : State → State) (s : State) : State := if pecOk then f s else badPec s

/-- PAGE (R510, R511). -/
def execPage (value : Option Nat) (pecOk : Bool) (s : State) : Host.Outcome State Fault Refusal :=
  onPort (fun s => match value with
    | none => smbAnswer 0x00 (leBytes 1 s.smb.page) s
    | some d => withPec pecOk (fun s => if d < 12 then setSmb (fun p => { p with page := d }) s else refuseWrite s) s) s

/-- OPERATION (R510, R511). -/
def execOperation (value : Option Nat) (pecOk : Bool) (s : State) : Host.Outcome State Fault Refusal :=
  onPort (fun s => match value with
    | none => smbAnswer 0x01 (leBytes 1 (if (domAt s.smb.page s).on then 0x80 else 0)) s
    | some _ => withPec pecOk refuseWrite s) s

/-- The sources that CLEAR_FAULTS clears on a page (R511). -/
def pageSources (d : Nat) : List Nat :=
  [184 + d, 196] ++ (if d = 11 then (List.range 8).map (fun p => 166 + p) else if d = 1 then (List.range 4).map (fun p => 178 + p) else [])

/-- CLEAR_FAULTS (R426, R510, R511). -/
def execClearFaults (pecOk : Bool) (s : State) : Host.Outcome State Fault Refusal :=
  onPort (withPec pecOk (fun s => (pageSources s.smb.page).foldl (fun s n => clearLatched .smbus n s)
    (setSmb (fun p => { p with badCommand := false, badData := false }) s))) s

/-- CAPABILITY (R511). -/
def execCapability (s : State) : Host.Outcome State Fault Refusal := onPort (smbAnswer 0x19 (leBytes 1 0xD0)) s

/-- VOUT_MODE (R511). -/
def execVoutMode (s : State) : Host.Outcome State Fault Refusal := onPort (smbAnswer 0x20 (leBytes 1 0x14)) s

/-- STATUS_CML (R512): 7 invalid command, 6 invalid data; the bit positions are PMBus's (PRESUMED, log entry 10). -/
def cmlByte (s : State) : Nat := 128 * b01 s.smb.badCommand + 64 * b01 s.smb.badData

/-- RAIL_FAULT or TRACK_FAULT of the page's domain. -/
def voutFault (s : State) : Bool := (domAt s.smb.page s).railFault || (domAt s.smb.page s).trackFault

/-- A phase of the page's bus is dropped or not healthy (R512). -/
def ioutFault (s : State) : Bool :=
  (s.smb.page = 11 && !s.pwr.dropped.isEmpty) ||
  (s.smb.page = 1 && decide ((corePhases s).length < dset s P.vcorePhases))

/-- A zone has THROTTLE or VAULT. -/
def tempStatus (s : State) : Bool := s.thm.zones.any (fun z => z.throttle || z.vault)

/-- STATUS_WORD of the page (R512): bit positions as PMBus places them (PRESUMED, log entry 10). -/
def statusBits (s : State) : Nat :=
  let d := domAt s.smb.page s
  let vin := s.vin.below || s.vin.ovp
  fld (b01 (!d.on)) 1 6 + fld (b01 (voutFault s)) 1 5 + fld (b01 (voutFault s)) 1 15 + fld (b01 (ioutFault s)) 1 4 +
  fld (b01 (ioutFault s)) 1 14 + fld (b01 vin) 1 3 + fld (b01 vin) 1 13 + fld (b01 (tempStatus s)) 1 2 +
  fld (b01 (decide (cmlByte s ≠ 0))) 1 1 + fld (b01 (!d.good)) 1 11 + fld (b01 s.flt.belay) 1 9

/-- STATUS_BYTE (R512): the low byte of STATUS_WORD. -/
def execStatusByte (s : State) : Host.Outcome State Fault Refusal :=
  onPort (fun s => smbAnswer 0x78 (leBytes 1 (statusBits s % 256)) s) s

/-- STATUS_WORD (R512). -/
def execStatusWord (s : State) : Host.Outcome State Fault Refusal := onPort (fun s => smbAnswer 0x79 (leBytes 2 (statusBits s)) s) s

/-- STATUS_VOUT (R512): by the sense reading 7 over, 4 under voltage. -/
def voutByte (s : State) : Nat :=
  if voutFault s then (if domTarget s.smb.page s < sensedVolt s.smb.page s then 128 else 16) else 0

/-- STATUS_VOUT (R512). -/
def execStatusVout (s : State) : Host.Outcome State Fault Refusal := onPort (fun s => smbAnswer 0x7A (leBytes 1 (voutByte s)) s) s

/-- STATUS_IOUT (R512). -/
def execStatusIout (s : State) : Host.Outcome State Fault Refusal :=
  onPort (fun s => smbAnswer 0x7B (leBytes 1 (128 * b01 (ioutFault s))) s) s

/-- STATUS_INPUT (R512): 7 over voltage, 4 under voltage. -/
def execStatusInput (s : State) : Host.Outcome State Fault Refusal :=
  onPort (fun s => smbAnswer 0x7C (leBytes 1 (128 * b01 s.vin.ovp + 16 * b01 s.vin.below)) s) s

/-- STATUS_TEMPERATURE (R512): 7 a VAULT flag, 6 a THROTTLE flag. -/
def execStatusTemperature (s : State) : Host.Outcome State Fault Refusal :=
  onPort (fun s => smbAnswer 0x7D (leBytes 1 (128 * b01 (s.thm.zones.any (·.vault)) + 64 * b01 (s.thm.zones.any (·.throttle)))) s) s

/-- STATUS_CML (R512). -/
def execStatusCml (s : State) : Host.Outcome State Fault Refusal := onPort (fun s => smbAnswer 0x7E (leBytes 1 (cmlByte s)) s) s

/-- The mantissa of `num` / `den` at exponent `e`, rounded down. -/
def mantissa (num : Int) (den : Nat) (e : Int) : Int :=
  if e < 0 then num * 2 ^ (-e).toNat / den else num / ((den : Int) * 2 ^ e.toNat)

/-- The word of `num` / `den` in linear11: the least exponent at which the mantissa fits 11 bits (log entry 10). -/
def linear11 (num : Int) (den : Nat) : Nat :=
  if num = 0 then 0
  else
    let es := (List.range 32).map (fun i => (i : Int) - 16)
    match es.find? (fun e => decide (-1024 ≤ mantissa num den e) && decide (mantissa num den e ≤ 1023)) with
    | some e => ofSigned 5 e * 2 ^ 11 + ofSigned 11 (mantissa num den e)
    | none => 0

/-- READ_VIN (R511): the mean of VIN in units of 25 mV. -/
def execReadVin (s : State) : Host.Outcome State Fault Refusal :=
  onPort (fun s => smbAnswer 0x88 (leBytes 2 (linear11 s.vin.vin 40)) s) s

/-- READ_VOUT (R511): linear16 at 2^-12 V. -/
def execReadVout (s : State) : Host.Outcome State Fault Refusal :=
  onPort (fun s => smbAnswer 0x8B (leBytes 2 (sensedVolt s.smb.page s * 4096 / 1000)) s) s

/-- READ_IOUT (R511): units of 0.1 A. -/
def execReadIout (s : State) : Host.Outcome State Fault Refusal :=
  onPort (fun s => smbAnswer 0x8C (leBytes 2 (linear11 (domAt s.smb.page s).iout 10)) s) s

/-- A zone's maximum in linear11; 0 while it has none. -/
def zoneLinear (z : Nat) (s : State) : Nat := linear11 ((zoneMax z s).getD 0) 16

/-- READ_TEMPERATURE_1 (R511). -/
def execReadTemperature1 (s : State) : Host.Outcome State Fault Refusal :=
  onPort (fun s => smbAnswer 0x8D (leBytes 2 (zoneLinear 3 s)) s) s

/-- READ_TEMPERATURE_2 (R511). -/
def execReadTemperature2 (s : State) : Host.Outcome State Fault Refusal :=
  onPort (fun s => smbAnswer 0x8E (leBytes 2 (zoneLinear 0 s)) s) s

/-- PMBUS_REVISION (R511). -/
def execPmbusRevision (s : State) : Host.Outcome State Fault Refusal := onPort (smbAnswer 0x98 (leBytes 1 0x44)) s

/-- The ASCII bytes of a string. -/
def asciiBytes (l : List Nat) : List Byte := l.map (fun n => BitVec.ofNat 8 n)

/-- MFR_ID (R511): ODGAVAR. -/
def execMfrId (s : State) : Host.Outcome State Fault Refusal :=
  onPort (smbAnswer 0x99 (asciiBytes [0x4F, 0x44, 0x47, 0x41, 0x56, 0x41, 0x52])) s

/-- MFR_MODEL (R511): YV-4896P. -/
def execMfrModel (s : State) : Host.Outcome State Fault Refusal :=
  onPort (smbAnswer 0x9A (asciiBytes [0x59, 0x56, 0x2D, 0x34, 0x38, 0x39, 0x36, 0x50])) s

/-- MFR_REVISION (R511): B0. -/
def execMfrRevision (s : State) : Host.Outcome State Fault Refusal := onPort (smbAnswer 0x9B (asciiBytes [0x42, 0x30])) s

/-- The command codes of R509 and R511. -/
def portCodes : List Nat :=
  [0x00, 0x01, 0x03, 0x19, 0x20, 0x78, 0x79, 0x7A, 0x7B, 0x7C, 0x7D, 0x7E, 0x88, 0x8B, 0x8C, 0x8D, 0x8E, 0x98, 0x99, 0x9A, 0x9B,
   0xD0, 0xD1, 0xD2]

/-- INVALID_COMMAND (R511): a code outside the table is NACKed and sets the CML invalid-command bit. -/
def execInvalidCommand (code : Nat) (s : State) : Host.Outcome State Fault Refusal :=
  onPort (fun s => if portCodes.contains code then s else emit .nack (setSmb (fun p => { p with badCommand := true }) s)) s

/-- ALERT_RESPONSE (R508, R513): the port's address while SMBALERT_N is asserted, with a PEC of the Alert Response Address and it; nobody
answers otherwise. -/
def execAlertResponse (s : State) : Host.Outcome State Fault Refusal :=
  onPort (fun s =>
    let a := 2 * portAddress s
    if smbAlert s then emit (.smbus (leBytes 1 a) (BitVec.ofNat 8 (crc8 [2 * 0x0C + 1, a]))) s else emit .nack s) s

end Sys2Proof.Machine
end

