-- ==== Sys2Proof/Machine/Dispatch.lean ====
section
/-! DEFINITION. One arm for each command: its meaning. -/

namespace Sys2Proof.Machine

/-- The effect of a command on everything but the queue. -/
def exec (i : Instr) (s : State) : Host.Outcome State Fault Refusal :=
  match i with
  | .cxlMemWrite tag hpa data be poison burst map occ => Sys2Proof.Machine.execCxlMemWrite tag hpa data be poison burst map occ s
  | .heldWriteRelease => Sys2Proof.Machine.execHeldWriteRelease s
  | .capQueueRelease bolt => Sys2Proof.Machine.execCapQueueRelease bolt s
  | .cxlMemRead tag hpa burst a b map occ => Sys2Proof.Machine.execCxlMemRead tag hpa burst a b map occ s
  | .demandFetchComplete granule a b => Sys2Proof.Machine.execDemandFetchComplete granule a b s
  | .gpfPhase1Request => Sys2Proof.Machine.execGpfPhase1Request s
  | .gpfPhase2Request => Sys2Proof.Machine.execGpfPhase2Request s
  | .gpfPhase2Response => Sys2Proof.Machine.execGpfPhase2Response s
  | .windowExpiry => Sys2Proof.Machine.execWindowExpiry s
  | .cxlLinkTrained width speed flit256 => Sys2Proof.Machine.execCxlLinkTrained width speed flit256 s
  | .hdmDecoderCommit decoder req => Sys2Proof.Machine.execHdmDecoderCommit decoder req s
  | .perstN => Sys2Proof.Machine.execPerstN s
  | .hotReset => Sys2Proof.Machine.execHotReset s
  | .linkDown => Sys2Proof.Machine.execLinkDown s
  | .cxlReset => Sys2Proof.Machine.execCxlReset s
  | .functionLevelReset => Sys2Proof.Machine.execFunctionLevelReset s
  | .msixUnmask vector => Sys2Proof.Machine.execMsixUnmask vector s
  | .identify => Sys2Proof.Machine.execIdentify s
  | .backgroundOperationStatus => Sys2Proof.Machine.execBackgroundOperationStatus s
  | .getEventRecords log => Sys2Proof.Machine.execGetEventRecords log s
  | .clearEventRecords log all handles => Sys2Proof.Machine.execClearEventRecords log all handles s
  | .getEventInterruptPolicy => Sys2Proof.Machine.execGetEventInterruptPolicy s
  | .setEventInterruptPolicy info warn failure fatal => Sys2Proof.Machine.execSetEventInterruptPolicy info warn failure fatal s
  | .getFwInfo => Sys2Proof.Machine.execGetFwInfo s
  | .getTimestamp => Sys2Proof.Machine.execGetTimestamp s
  | .setTimestamp value => Sys2Proof.Machine.execSetTimestamp value s
  | .getSupportedLogs => Sys2Proof.Machine.execGetSupportedLogs s
  | .getLog cel offset length => Sys2Proof.Machine.execGetLog cel offset length s
  | .identifyMemoryDevice => Sys2Proof.Machine.execIdentifyMemoryDevice s
  | .getPartitionInfo => Sys2Proof.Machine.execGetPartitionInfo s
  | .getLsa offset length => Sys2Proof.Machine.execGetLsa offset length s
  | .setLsa offset data => Sys2Proof.Machine.execSetLsa offset data s
  | .getHealthInfo => Sys2Proof.Machine.execGetHealthInfo s
  | .getAlertConfiguration => Sys2Proof.Machine.execGetAlertConfiguration s
  | .setAlertConfiguration lifeUsed temperature correctedErrors => Sys2Proof.Machine.execSetAlertConfiguration lifeUsed temperature correctedErrors s
  | .getShutdownState => Sys2Proof.Machine.execGetShutdownState s
  | .setShutdownState value => Sys2Proof.Machine.execSetShutdownState value s
  | .getPoisonList dpa lines => Sys2Proof.Machine.execGetPoisonList dpa lines s
  | .sanitize => Sys2Proof.Machine.execSanitize s
  | .secureErase noise => Sys2Proof.Machine.execSecureErase noise s
  | .unsupportedCommand opcode => Sys2Proof.Machine.execUnsupportedCommand opcode s
  | .getVaultStatus input => Sys2Proof.Machine.execGetVaultStatus input s
  | .requestVault input => Sys2Proof.Machine.execRequestVault input s
  | .sealImage input => Sys2Proof.Machine.execSealImage input s
  | .sealResidualZero => Sys2Proof.Machine.execSealResidualZero s
  | .sealTimeout => Sys2Proof.Machine.execSealTimeout s
  | .dropImage input => Sys2Proof.Machine.execDropImage input s
  | .getLossReport input => Sys2Proof.Machine.execGetLossReport input s
  | .setBoltCap input => Sys2Proof.Machine.execSetBoltCap input s
  | .vendorGetLog input => Sys2Proof.Machine.execVendorGetLog input s
  | .backgroundCommandDone => Sys2Proof.Machine.execBackgroundCommandDone s
  | .budgetEvalTick => Sys2Proof.Machine.execBudgetEvalTick s
  | .reefHoldMaxExpiry tag => Sys2Proof.Machine.execReefHoldMaxExpiry tag s
  | .budgetRecoverExpiry => Sys2Proof.Machine.execBudgetRecoverExpiry s
  | .epbRecomputeTick => Sys2Proof.Machine.execEpbRecomputeTick s
  | .govTokenTick => Sys2Proof.Machine.execGovTokenTick s
  | .energyFrame hdr eGuar soc drawn => Sys2Proof.Machine.execEnergyFrame hdr eGuar soc drawn s
  | .energyStaleExpiry => Sys2Proof.Machine.execEnergyStaleExpiry s
  | .stagingSelect reads => Sys2Proof.Machine.execStagingSelect reads s
  | .epochAgeExpiry => Sys2Proof.Machine.execEpochAgeExpiry s
  | .pageProgramDone ptr blockB result resultB voided => Sys2Proof.Machine.execPageProgramDone ptr blockB result resultB voided s
  | .knotRecordProgram ptr ptrB result resultB => Sys2Proof.Machine.execKnotRecordProgram ptr ptrB result resultB s
  | .knotReadback epoch a b => Sys2Proof.Machine.execKnotReadback epoch a b s
  | .knotTimeout epoch => Sys2Proof.Machine.execKnotTimeout epoch s
  | .gcStart target block => Sys2Proof.Machine.execGcStart target block s
  | .garbageCollectionRead slot a b bursts => Sys2Proof.Machine.execGarbageCollectionRead slot a b bursts s
  | .blockEraseDone target block result => Sys2Proof.Machine.execBlockEraseDone target block result s
  | .patrolScrub burst a b => Sys2Proof.Machine.execPatrolScrub burst a b s
  | .spareCapacityCheck => Sys2Proof.Machine.execSpareCapacityCheck s
  | .nandDiscoveryDone channel found => Sys2Proof.Machine.execNandDiscoveryDone channel found s
  | .earlyWarning samples below level => Sys2Proof.Machine.execEarlyWarning samples below level s
  | .specAbandonExpiry samples below => Sys2Proof.Machine.execSpecAbandonExpiry samples below s
  | .warningFrame hdr => Sys2Proof.Machine.execWarningFrame hdr s
  | .abandonFrame hdr => Sys2Proof.Machine.execAbandonFrame hdr s
  | .specMaxExpiry => Sys2Proof.Machine.execSpecMaxExpiry s
  | .pfFilterExpiry vin comparator sampler => Sys2Proof.Machine.execPfFilterExpiry vin comparator sampler s
  | .inputOvervoltage above => Sys2Proof.Machine.execInputOvervoltage above s
  | .pfActive => Sys2Proof.Machine.execPfActive s
  | .vreqActive => Sys2Proof.Machine.execVreqActive s
  | .stewardVaultRequest => Sys2Proof.Machine.execStewardVaultRequest s
  | .manifestBuild => Sys2Proof.Machine.execManifestBuild s
  | .drainSelect reads => Sys2Proof.Machine.execDrainSelect reads s
  | .logSnapshotDone ok => Sys2Proof.Machine.execLogSnapshotDone ok s
  | .finalKnotProgram ptr ptrB result resultB => Sys2Proof.Machine.execFinalKnotProgram ptr ptrB result resultB s
  | .holdMaxExpiry => Sys2Proof.Machine.execHoldMaxExpiry s
  | .storeFloorReached => Sys2Proof.Machine.execStoreFloorReached s
  | .vinGood vin => Sys2Proof.Machine.execVinGood vin s
  | .stallWatchdogExpiry channel => Sys2Proof.Machine.execStallWatchdogExpiry channel s
  | .heartbeatToggle from' => Sys2Proof.Machine.execHeartbeatToggle from' s
  | .heartbeatTimeout at' => Sys2Proof.Machine.execHeartbeatTimeout at' s
  | .holdIslandReady => Sys2Proof.Machine.execHoldIslandReady s
  | .rebootTimeoutExpiry => Sys2Proof.Machine.execRebootTimeoutExpiry s
  | .vaultResume reads => Sys2Proof.Machine.execVaultResume reads s
  | .coolWaitExpiry => Sys2Proof.Machine.execCoolWaitExpiry s
  | .warmRstN lowUs unfit => Sys2Proof.Machine.execWarmRstN lowUs unfit s
  | .stewardWarmReset => Sys2Proof.Machine.execStewardWarmReset s
  | .stewardWatchdogExpiry => Sys2Proof.Machine.execStewardWatchdogExpiry s
  | .keeperStart smbAddr unfit newPctrl newEngine noise => Sys2Proof.Machine.execKeeperStart smbAddr unfit newPctrl newEngine noise s
  | .keeperStop => Sys2Proof.Machine.execKeeperStop s
  | .restoreDiscover intact => Sys2Proof.Machine.execRestoreDiscover intact s
  | .newestKnotFound reads => Sys2Proof.Machine.execNewestKnotFound reads s
  | .mapLoadDone reads => Sys2Proof.Machine.execMapLoadDone reads s
  | .restoreReady => Sys2Proof.Machine.execRestoreReady s
  | .backgroundLoad => Sys2Proof.Machine.execBackgroundLoad s
  | .granuleLoadDone granule a b => Sys2Proof.Machine.execGranuleLoadDone granule a b s
  | .loopWindowExpiry starves slackPct pace => Sys2Proof.Machine.execLoopWindowExpiry starves slackPct pace s
  | .set word complement shape iout => Sys2Proof.Machine.execSet word complement shape iout s
  | .query word complement shape iout => Sys2Proof.Machine.execQuery word complement shape iout s
  | .engage word complement shape iout => Sys2Proof.Machine.execEngage word complement shape iout s
  | .slewSettled iout => Sys2Proof.Machine.execSlewSettled iout s
  | .railAck word complement shape => Sys2Proof.Machine.execRailAck word complement shape s
  | .railAckTimeout seq => Sys2Proof.Machine.execRailAckTimeout seq s
  | .railIdleQuery => Sys2Proof.Machine.execRailIdleQuery s
  | .railFallback => Sys2Proof.Machine.execRailFallback s
  | .engageStep quarterAmps => Sys2Proof.Machine.execEngageStep quarterAmps s
  | .vinSenseDisagree => Sys2Proof.Machine.execVinSenseDisagree s
  | .holdupTest step => Sys2Proof.Machine.execHoldupTest step s
  | .phaseFault vcore p sense => Sys2Proof.Machine.execPhaseFault vcore p sense s
  | .ibusOverload iout => Sys2Proof.Machine.execIbusOverload iout s
  | .ibusOverloadRecheck iout => Sys2Proof.Machine.execIbusOverloadRecheck iout s
  | .ibusCollapse mv => Sys2Proof.Machine.execIbusCollapse mv s
  | .ibusLost mv => Sys2Proof.Machine.execIbusLost mv s
  | .domainGood d mv iout => Sys2Proof.Machine.execDomainGood d mv iout s
  | .groupDelayExpiry => Sys2Proof.Machine.execGroupDelayExpiry s
  | .pgTimeout d => Sys2Proof.Machine.execPgTimeout d s
  | .domainOutOfWindow d mv => Sys2Proof.Machine.execDomainOutOfWindow d mv s
  | .trackingFault d => Sys2Proof.Machine.execTrackingFault d s
  | .dischargeDone d => Sys2Proof.Machine.execDischargeDone d s
  | .fenceNotice hdr => Sys2Proof.Machine.execFenceNotice hdr s
  | .shedSpacingExpiry => Sys2Proof.Machine.execShedSpacingExpiry s
  | .cellScan cells stackMv badTaps => Sys2Proof.Machine.execCellScan cells stackMv badTaps s
  | .chargeTermination => Sys2Proof.Machine.execChargeTermination s
  | .chargeTimeout => Sys2Proof.Machine.execChargeTimeout s
  | .chargerStep => Sys2Proof.Machine.execChargerStep s
  | .impedanceStep sample => Sys2Proof.Machine.execImpedanceStep sample s
  | .impedanceProbe => Sys2Proof.Machine.execImpedanceProbe s
  | .autoZero => Sys2Proof.Machine.execAutoZero s
  | .gaugeUpdate deltaMc currentMa => Sys2Proof.Machine.execGaugeUpdate deltaMc currentMa s
  | .quietEntry => Sys2Proof.Machine.execQuietEntry s
  | .restPoint drift => Sys2Proof.Machine.execRestPoint drift s
  | .exerciseStart => Sys2Proof.Machine.execExerciseStart s
  | .exerciseGrant grant => Sys2Proof.Machine.execExerciseGrant grant s
  | .exerGrantWaitExpiry => Sys2Proof.Machine.execExerGrantWaitExpiry s
  | .emptyAnchor => Sys2Proof.Machine.execEmptyAnchor s
  | .fadeDaily => Sys2Proof.Machine.execFadeDaily s
  | .sensorSample sensor read => Sys2Proof.Machine.execSensorSample sensor read s
  | .thmHoldExpiry zone flag => Sys2Proof.Machine.execThmHoldExpiry zone flag s
  | .thmRateCheck => Sys2Proof.Machine.execThmRateCheck s
  | .storeRateCheck => Sys2Proof.Machine.execStoreRateCheck s
  | .sensorReturn sensor => Sys2Proof.Machine.execSensorReturn sensor s
  | .compensationTick => Sys2Proof.Machine.execCompensationTick s
  | .engineAnalogLimit tripped => Sys2Proof.Machine.execEngineAnalogLimit tripped s
  | .thermalStageOne => Sys2Proof.Machine.execThermalStageOne s
  | .thermalStageTwo tripped => Sys2Proof.Machine.execThermalStageTwo tripped s
  | .thermalShutdownExit => Sys2Proof.Machine.execThermalShutdownExit s
  | .sourceEntersFault n detail => Sys2Proof.Machine.execSourceEntersFault n detail s
  | .sourceBroken n t c => Sys2Proof.Machine.execSourceBroken n t c s
  | .unitResetDone unit => Sys2Proof.Machine.execUnitResetDone unit s
  | .faultFrame hdr entries => Sys2Proof.Machine.execFaultFrame hdr entries s
  | .belayeActive => Sys2Proof.Machine.execBelayeActive s
  | .belaypActive => Sys2Proof.Machine.execBelaypActive s
  | .nandRbNChange target ready => Sys2Proof.Machine.execNandRbNChange target ready s
  | .belayWpTimeout => Sys2Proof.Machine.execBelayWpTimeout s
  | .shadowExpiry source => Sys2Proof.Machine.execShadowExpiry source s
  | .latchedClear m n => Sys2Proof.Machine.execLatchedClear m n s
  | .severityRaise m n sev alert => Sys2Proof.Machine.execSeverityRaise m n sev alert s
  | .firstErrorClear m => Sys2Proof.Machine.execFirstErrorClear m s
  | .collectorSelfCheck mismatches => Sys2Proof.Machine.execCollectorSelfCheck mismatches s
  | .selvedgeCheck response passed => Sys2Proof.Machine.execSelvedgeCheck response passed s
  | .selvedgeCheckTimeout => Sys2Proof.Machine.execSelvedgeCheckTimeout s
  | .belaySettleExpiry => Sys2Proof.Machine.execBelaySettleExpiry s
  | .recover m => Sys2Proof.Machine.execRecover m s
  | .inputStuck input => Sys2Proof.Machine.execInputStuck input s
  | .inputChatter input source => Sys2Proof.Machine.execInputChatter input source s
  | .inputRelease input source => Sys2Proof.Machine.execInputRelease input source s
  | .pairBroken pair t c => Sys2Proof.Machine.execPairBroken pair t c s
  | .pairRelease pair t c => Sys2Proof.Machine.execPairRelease pair t c s
  | .logMark value => Sys2Proof.Machine.execLogMark value s
  | .logSecondEnd => Sys2Proof.Machine.execLogSecondEnd s
  | .logFrame hdr body => Sys2Proof.Machine.execLogFrame hdr body s
  | .knotPointerFrame hdr epoch slot epochC slotC => Sys2Proof.Machine.execKnotPointerFrame hdr epoch slot epochC slotC s
  | .submit m => Sys2Proof.Machine.execSubmit m s
  | .eraseCand m => Sys2Proof.Machine.execEraseCand m s
  | .withdraw m => Sys2Proof.Machine.execWithdraw m s
  | .activate m => Sys2Proof.Machine.execActivate m s
  | .drfCandDataWrite m data => Sys2Proof.Machine.execDrfCandDataWrite m data s
  | .draftFrame hdr offset bytes => Sys2Proof.Machine.execDraftFrame hdr offset bytes s
  | .draftCrcReply hdr sect crc => Sys2Proof.Machine.execDraftCrcReply hdr sect crc s
  | .draftStreamRetry => Sys2Proof.Machine.execDraftStreamRetry s
  | .eflProgram m => Sys2Proof.Machine.execEflProgram m s
  | .eflErase m => Sys2Proof.Machine.execEflErase m s
  | .eflSuspend m => Sys2Proof.Machine.execEflSuspend m s
  | .eflResume m => Sys2Proof.Machine.execEflResume m s
  | .fwErase m => Sys2Proof.Machine.execFwErase m s
  | .fwSubmit m => Sys2Proof.Machine.execFwSubmit m s
  | .wpLock m => Sys2Proof.Machine.execWpLock m s
  | .eflOperationDone clean => Sys2Proof.Machine.execEflOperationDone clean s
  | .flashWriteRetry => Sys2Proof.Machine.execFlashWriteRetry s
  | .lifeCycleRequest m target noise => Sys2Proof.Machine.execLifeCycleRequest m target noise s
  | .regAddr value pecOk => Sys2Proof.Machine.execRegAddr value pecOk s
  | .regDataWrite bytes pecOk => Sys2Proof.Machine.execRegDataWrite bytes pecOk s
  | .regDataRead count => Sys2Proof.Machine.execRegDataRead count s
  | .regStatus => Sys2Proof.Machine.execRegStatus s
  | .page value pecOk => Sys2Proof.Machine.execPage value pecOk s
  | .operation value pecOk => Sys2Proof.Machine.execOperation value pecOk s
  | .clearFaults pecOk => Sys2Proof.Machine.execClearFaults pecOk s
  | .capability => Sys2Proof.Machine.execCapability s
  | .voutMode => Sys2Proof.Machine.execVoutMode s
  | .statusByte => Sys2Proof.Machine.execStatusByte s
  | .statusWord => Sys2Proof.Machine.execStatusWord s
  | .statusVout => Sys2Proof.Machine.execStatusVout s
  | .statusIout => Sys2Proof.Machine.execStatusIout s
  | .statusInput => Sys2Proof.Machine.execStatusInput s
  | .statusTemperature => Sys2Proof.Machine.execStatusTemperature s
  | .statusCml => Sys2Proof.Machine.execStatusCml s
  | .readVin => Sys2Proof.Machine.execReadVin s
  | .readVout => Sys2Proof.Machine.execReadVout s
  | .readIout => Sys2Proof.Machine.execReadIout s
  | .readTemperature1 => Sys2Proof.Machine.execReadTemperature1 s
  | .readTemperature2 => Sys2Proof.Machine.execReadTemperature2 s
  | .pmbusRevision => Sys2Proof.Machine.execPmbusRevision s
  | .mfrId => Sys2Proof.Machine.execMfrId s
  | .mfrModel => Sys2Proof.Machine.execMfrModel s
  | .mfrRevision => Sys2Proof.Machine.execMfrRevision s
  | .invalidCommand code => Sys2Proof.Machine.execInvalidCommand code s
  | .alertResponse => Sys2Proof.Machine.execAlertResponse s
  | .registerFrame hdr at' req => Sys2Proof.Machine.execRegisterFrame hdr at' req s
  | .registerResponse hdr req data => Sys2Proof.Machine.execRegisterResponse hdr req data s
  | .unreachableTimeout req => Sys2Proof.Machine.execUnreachableTimeout req s
  | .timeFrame hdr from' correction => Sys2Proof.Machine.execTimeFrame hdr from' correction s
  | .refclkLoss present => Sys2Proof.Machine.execRefclkLoss present s
  | .monitorFrame hdr samples => Sys2Proof.Machine.execMonitorFrame hdr samples s
  | .monCfgWrite m monitor value => Sys2Proof.Machine.execMonCfgWrite m monitor value s
  | .monClearAll m => Sys2Proof.Machine.execMonClearAll m s
  | .monFreeze m freeze => Sys2Proof.Machine.execMonFreeze m freeze s
  | .heddleControlFrame at' hdr => Sys2Proof.Machine.execHeddleControlFrame at' hdr s
  | .heddleResendExpiry at' => Sys2Proof.Machine.execHeddleResendExpiry at' s
  | .heddleAckTick at' => Sys2Proof.Machine.execHeddleAckTick at' s
  | .heddleLinkDown at' => Sys2Proof.Machine.execHeddleLinkDown at' s
  | .heddleLinkUp => Sys2Proof.Machine.execHeddleLinkUp s
  | .rwpPairTimeout m addr => Sys2Proof.Machine.execRwpPairTimeout m addr s
  | .registerWrite m addr wide value be => Sys2Proof.Machine.execRegisterWrite m addr wide value be s
  | .registerRead m addr wide be => Sys2Proof.Machine.execRegisterRead m addr wide be s
  | .stewardUnitReset unit => Sys2Proof.Machine.execStewardUnitReset unit s
  | .refclkReturn => Sys2Proof.Machine.execRefclkReturn s

end Sys2Proof.Machine
end

