-- ==== Sys2Proof/Machine/Tick.lean ====
section
/-! DEFINITION. What happens as time passes with no command waiting: the timebase counts, and the sequences that need no
event from outside take a step (R70, R237, R427, R492, R514, R518). -/

namespace Sys2Proof.Machine

/-- The timebase counts nanoseconds while the keeper runs (R514). -/
def countTime (s : State) : State := { s with tbs := { s.tbs with now := (s.tbs.now + 1) % 2 ^ 64 } }

/-- The fill is sampled each millisecond while the vault state is armed (R518). -/
def sampleFill (s : State) : State :=
  if isArmed s && s.tbs.now % 1000000 = 0 then sample 9 0 s.stg.fill s else s

/-- The level of each domain that is on is sampled each millisecond (R518). -/
def sampleRails (s : State) : State :=
  if s.tbs.now % 1000000 = 0 then
    sendSamples (((List.range 12).filter (fun d => (domAt d s).on)).map (fun d => { code := 11, index := d, value := sensedVolt d s })) s
  else s

/-- The first reaction that waited for ARMED is taken, if its source is still latched and in fault (R427). -/
def takeOwed (s : State) : State :=
  if !isArmed s then s
  else match s.flt.sources.find? (fun e => e.2.owed) with
    | none => s
    | some e =>
      let s := modSrc e.1 (fun x => { x with owed := false }) s
      if inFault e.2 && e.2.latched then withAbort (react e.1 (sevOf e.1 s)) s else s

/-- A life-cycle transition takes a step while the chipset is neither in HOLD nor OFF, or else the reset in progress does;
in belay no reset proceeds (R432, R492, R495). -/
def advance (s : State) : State :=
  let powered := s.vlt.state ≠ .hold && s.vlt.state ≠ .off
  let t := if powered then advanceLifeCycle s else s
  if t.lcs.step ≠ s.lcs.step || s.flt.belay then t else advanceWarm t

/-- A tick of time (R514). -/
def tick (s : State) : State := if s.pwr.keeper then takeOwed (sampleRails (sampleFill (advance (leaveVerify (owedBoot (copyRuns (countTime s))))))) else s

end Sys2Proof.Machine
end

