-- ==== Sys2Proof/Safety.lean ====
section
/-! DEFINITION. What counts as a sound state: the invariants that statements speak of. -/

namespace Sys2Proof.Machine

/-- DDR5 holds its canonical form: addresses strictly rising, no listed byte equal to what an unlisted byte reads
as. -/
def Memory.wf (s : State) : Bool := memoryOk s.dram

/-- The keys of a table rise strictly, all above `b`. -/
def keysUp {α : Type} : Option Nat → Table α → Bool
  | _, [] => true
  | b, (k, _) :: t => (match b with | none => true | some x => decide (x < k)) && keysUp (some k) t

/-- The trouble log: a ring of at most 4,096 entries, HEAD its index, SEQ of 32 bits (R435, R436). -/
structure LogSound (l : LogSt) : Prop where
  ring : l.ring.length ≤ 4096
  head : l.head < 4096
  seq : l.seq < 2 ^ 32

/-- An end of the heddle link: at most 16 frames unacknowledged, SEQ numbers of 8 bits (R533, R535). -/
structure LinkSound (h : HdlEnd) : Prop where
  unacked : h.unacked.length ≤ 16
  txSeq : h.txSeq < 256
  rxSeq : h.rxSeq < 256

/-- The four event logs, of at most 256 records each (R314). -/
structure EventLogsSound (m : MbxSt) : Prop where
  four : m.logs.length = 4
  records : ∀ l ∈ m.logs, l.recs.length ≤ 256

/-- The cache: four DDR5 channels (R76), the table of poisoned lines in its canonical form (R101), the dirty map and the
caps tables. -/
structure CacheSound (c : CacheSt) : Prop where
  channels : c.ch.length = 4
  poison : tableOk 0#64 none c.poison = true
  map : keysUp none c.map = true
  caps : keysUp none c.caps = true

/-- Channels, targets and blocks of the NAND are tables. -/
structure NandSound (n : NandSt) : Prop where
  channels : keysUp none n.ch = true
  targets : keysUp none n.targets = true
  blocks : keysUp none n.blocks = true

/-- Five thermal zones (R391), and the sensors, a table. -/
structure ThermalSound (t : ThmSt) : Prop where
  zones : t.zones.length = 5
  sensors : keysUp none t.sensors = true

/-- What every state that the block reaches is: memory in its canonical form, every queue and log within the length that
its rule gives, and every fixed family of the length that its rule gives. -/
structure Sound (s : State) : Prop where
  memory : Memory.wf s = true
  log : LogSound s.log
  engineEnd : LinkSound s.hdlE
  pctrlEnd : LinkSound s.hdlP
  events : EventLogsSound s.mbx
  /-- Twelve power domains (R347). -/
  domains : s.pwr.doms.length = 12
  /-- Seven control pairs (R63). -/
  pairs : s.sel.pairs.length = 7
  cache : CacheSound s.cache
  nand : NandSound s.nand
  thermal : ThermalSound s.thm
  /-- The sources, a table by number (R411). -/
  sources : keysUp none s.flt.sources = true
  /-- The streamed bytes of the draft, a table by offset (R465). -/
  received : keysUp none s.drf.received = true
  /-- The words of embedded flash that are not erased, a table by number (R468). -/
  words : keysUp none s.efl.words = true
  /-- The monitors, a table by number (R518). -/
  monitors : keysUp none s.mon.mons = true
  /-- A timebase of 64 bits (R514). -/
  time : s.tbs.now < 2 ^ 64

end Sys2Proof.Machine
end

