-- ==== Sys2Proof/Certificates/Slice0/Obligations.lean ====
section
/-! DEFINITION. The statements for the provers, over `exec`, `step` and the registers as they read. -/

open Sys2Proof Sys2Proof.Machine

/-- A step runs the command at the front of the queue. For every command and state, the step of the state with that
command in front of its queue is exec of the command on the state with the queue's rest. Rests on
95_what_each_step_holds.md. -/
def Obligations.StepRunsFrontCommand : Prop :=
  ∀ (c : Instr) (s : State), step { s with pending := c :: s.pending } = exec c s

/-- A step on an empty queue is a tick of the time base. On an empty queue the step answers the next state tick s, and
an unpowered keeper leaves that state unchanged. The tick in place of idling is the model's choice (log entry 6).
Rests on 02_architecture.md, Clockless logic, and why faults stall; 16_management_registers_monitors.md, Timebase. -/
def Obligations.EmptyQueueTicks : Prop :=
  ∀ s : State, s.pending = [] → step s = .next (tick s) ∧ (s.pwr.keeper = false → tick s = s)

/-- The state after reset is sound. State.reset meets Sound, the well-formedness that StepKeepsSound keeps: canonical
memory and tables, the bounds of the trouble log, of the link sequences, of the event logs and of the time base, and
the fixed numbers of zones, domains, pairs and channels. The values of reset that the spec does not give are the
model's (log entries 5, 8 to 17). Rests on 02_architecture.md, Resets. -/
def Obligations.ResetIsSound : Prop :=
  Sound State.reset

/-- Every step keeps the state sound. From every sound state, if the step answers a next state then that state is
sound: memory and every table by key stay strictly ascending with no default entry, the trouble log holds at most
4,096 entries with head below 4,096 and sequence below 2^32, each link end has at most 16 unacknowledged frames and
sequence numbers below 256, the four event logs hold at most 256 records, there are 12 domains, 7 control pairs, 4
DDR5 channels and 5 zones, and the time base is below 2^64. Rests on 13_faults_and_belay.md, The trouble log;
16_management_registers_monitors.md, Timebase; 17_signals_links_package.md, Heddle link; 17_signals_links_package.md,
Control pairs and the rail link; 09_host_interface.md, Mailbox; 10_power_tree.md, Domains; 12_thermal.md, Sensors and
zones. -/
def Obligations.StepKeepsSound : Prop :=
  ∀ s t : State, Sound s → step s = .next t → Sound t

/-- Commands change only the parts of the state their rules name. For every command listed, a next state differs from
the state only in the named groups of registers: all others, and the queue, are unchanged (the frame of each listed
command). Rests on 95_what_each_step_holds.md. -/
def Obligations.CommandsChangeOnlyTheirParts : Prop :=
  ∀ (s t : State) (c : Instr), exec c s = .next t →
    match c with
    | .heldWriteRelease | .functionLevelReset | .epbRecomputeTick | .energyFrame _ _ _ _ | .energyStaleExpiry |
      .pageProgramDone _ _ _ _ _ | .blockEraseDone _ _ _ | .spareCapacityCheck | .nandDiscoveryDone _ _ =>
        t = { s with
         cache := t.cache, dram := t.dram, nand := t.nand, stg := t.stg, vlt := t.vlt, drain := t.drain,
          host := t.host, mbx := t.mbx, flt := t.flt, sel := t.sel, mon := t.mon, hdlE := t.hdlE, hdlP := t.hdlP,
          sent := t.sent, free := t.free }
    | .cxlMemRead _ _ _ _ _ _ _ | .backgroundCommandDone | .knotTimeout _ | .finalKnotProgram _ _ _ _ |
      .unitResetDone _ =>
        t = { s with
         cache := t.cache, dram := t.dram, log := t.log, nand := t.nand, stg := t.stg, vlt := t.vlt,
          drain := t.drain, restore := t.restore, rail := t.rail, vcore := t.vcore, host := t.host, mbx := t.mbx,
          pwr := t.pwr, cell := t.cell, gau := t.gau, chg := t.chg, flt := t.flt, sel := t.sel, warm := t.warm,
          drf := t.drf, mon := t.mon, hdlE := t.hdlE, hdlP := t.hdlP, sent := t.sent, free := t.free }
    | .gpfPhase1Request | .capability | .voutMode | .statusByte | .statusWord | .statusVout | .statusIout |
      .statusInput | .statusTemperature | .statusCml | .readVin | .readVout | .readIout | .readTemperature1 |
      .readTemperature2 | .pmbusRevision | .mfrId | .mfrModel | .mfrRevision | .alertResponse | .heddleAckTick _ =>
        t = { s with sent := t.sent }
    | .gpfPhase2Request | .msixUnmask _ | .identify | .getEventRecords _ | .getEventInterruptPolicy | .getFwInfo |
      .getTimestamp | .getSupportedLogs | .getLog _ _ _ | .identifyMemoryDevice | .getPartitionInfo | .getLsa _ _ |
      .getHealthInfo | .getAlertConfiguration | .getShutdownState | .getPoisonList _ _ | .unsupportedCommand _ |
      .getVaultStatus _ | .getLossReport _ | .vendorGetLog _ =>
        t = { s with host := t.host, sent := t.sent }
    | .gpfPhase2Response =>
        t = { s with
         cache := t.cache, stg := t.stg, vlt := t.vlt, drain := t.drain, rail := t.rail, host := t.host,
          gau := t.gau, flt := t.flt, sel := t.sel, mon := t.mon, hdlE := t.hdlE, hdlP := t.hdlP, sent := t.sent,
          free := t.free }
    | .windowExpiry =>
        t = { s with
         cache := t.cache, dram := t.dram, stg := t.stg, vlt := t.vlt, drain := t.drain, rail := t.rail,
          vcore := t.vcore, host := t.host, mbx := t.mbx, pwr := t.pwr, gau := t.gau, flt := t.flt, sel := t.sel,
          warm := t.warm, drf := t.drf, mon := t.mon, hdlE := t.hdlE, hdlP := t.hdlP, sent := t.sent, free := t.free }
    | .cxlLinkTrained _ _ _ =>
        t = { s with
         vlt := t.vlt, host := t.host, flt := t.flt, sel := t.sel, hdlE := t.hdlE, hdlP := t.hdlP, sent := t.sent }
    | .hdmDecoderCommit _ _ =>
        t = { s with host := t.host }
    | .perstN | .hotReset | .linkDown | .cxlReset =>
        t = { s with
         cache := t.cache, dram := t.dram, nand := t.nand, stg := t.stg, vlt := t.vlt, drain := t.drain,
          rail := t.rail, host := t.host, mbx := t.mbx, gau := t.gau, flt := t.flt, sel := t.sel, mon := t.mon,
          hdlE := t.hdlE, hdlP := t.hdlP, sent := t.sent, free := t.free }
    | .backgroundOperationStatus =>
        t = { s with host := t.host, sent := t.sent, free := t.free }
    | .clearEventRecords _ _ _ | .setEventInterruptPolicy _ _ _ _ | .setAlertConfiguration _ _ _ |
      .setShutdownState _ =>
        t = { s with host := t.host, mbx := t.mbx, sent := t.sent }
    | .setTimestamp _ =>
        t = { s with host := t.host, tbs := t.tbs, sent := t.sent }
    | .setLsa _ _ | .submit _ | .eraseCand _ | .eflErase _ | .fwErase _ | .fwSubmit _ =>
        t = { s with
         cache := t.cache, dram := t.dram, log := t.log, nand := t.nand, stg := t.stg, vlt := t.vlt,
          drain := t.drain, restore := t.restore, rail := t.rail, vcore := t.vcore, host := t.host, mbx := t.mbx,
          pwr := t.pwr, cell := t.cell, gau := t.gau, chg := t.chg, flt := t.flt, sel := t.sel, warm := t.warm,
          drf := t.drf, efl := t.efl, mon := t.mon, hdlE := t.hdlE, hdlP := t.hdlP, sent := t.sent, free := t.free }
    | .sanitize | .dropImage _ | .newestKnotFound _ =>
        t = { s with
         cache := t.cache, dram := t.dram, nand := t.nand, stg := t.stg, vlt := t.vlt, drain := t.drain,
          restore := t.restore, host := t.host, mbx := t.mbx, flt := t.flt, sel := t.sel, mon := t.mon,
          hdlE := t.hdlE, hdlP := t.hdlP, sent := t.sent, free := t.free }
    | .secureErase _ =>
        t = { s with
         cache := t.cache, dram := t.dram, log := t.log, nand := t.nand, stg := t.stg, vlt := t.vlt,
          drain := t.drain, restore := t.restore, rail := t.rail, vcore := t.vcore, host := t.host, mbx := t.mbx,
          pwr := t.pwr, cell := t.cell, gau := t.gau, chg := t.chg, flt := t.flt, sel := t.sel, warm := t.warm,
          drf := t.drf, efl := t.efl, lcs := t.lcs, mon := t.mon, hdlE := t.hdlE, hdlP := t.hdlP, sent := t.sent,
          free := t.free }
    | .requestVault _ =>
        t = { s with host := t.host, sel := t.sel, sent := t.sent }
    | .sealImage _ =>
        t = { s with stg := t.stg, host := t.host, mbx := t.mbx, sent := t.sent }
    | .sealResidualZero =>
        t = { s with
         stg := t.stg, vlt := t.vlt, drain := t.drain, mbx := t.mbx, flt := t.flt, sel := t.sel, hdlE := t.hdlE,
          hdlP := t.hdlP, sent := t.sent }
    | .setBoltCap _ =>
        t = { s with cache := t.cache, host := t.host, sent := t.sent }
    | .reefHoldMaxExpiry _ | .budgetRecoverExpiry | .engineAnalogLimit _ =>
        t = { s with vlt := t.vlt, flt := t.flt, sel := t.sel, hdlE := t.hdlE, hdlP := t.hdlP, sent := t.sent }
    | .govTokenTick | .epochAgeExpiry =>
        t = { s with stg := t.stg }
    | .stagingSelect _ | .garbageCollectionRead _ _ _ _ | .drainSelect _ =>
        t = { s with
         cache := t.cache, dram := t.dram, nand := t.nand, stg := t.stg, vlt := t.vlt, drain := t.drain,
          flt := t.flt, sel := t.sel, mon := t.mon, hdlE := t.hdlE, hdlP := t.hdlP, sent := t.sent, free := t.free }
    | .knotRecordProgram _ _ _ _ =>
        t = { s with
         cache := t.cache, nand := t.nand, stg := t.stg, vlt := t.vlt, drain := t.drain, flt := t.flt, sel := t.sel,
          mon := t.mon, hdlE := t.hdlE, hdlP := t.hdlP, sent := t.sent, free := t.free }
    | .gcStart _ _ =>
        t = { s with nand := t.nand }
    | .patrolScrub _ _ _ =>
        t = { s with
         cache := t.cache, dram := t.dram, nand := t.nand, vlt := t.vlt, drain := t.drain, restore := t.restore,
          host := t.host, flt := t.flt, sel := t.sel, mon := t.mon, hdlE := t.hdlE, hdlP := t.hdlP, sent := t.sent,
          free := t.free }
    | .earlyWarning _ _ _ | .specAbandonExpiry _ _ =>
        t = { s with
         cache := t.cache, dram := t.dram, log := t.log, nand := t.nand, stg := t.stg, vlt := t.vlt,
          drain := t.drain, restore := t.restore, rail := t.rail, vcore := t.vcore, host := t.host, mbx := t.mbx,
          vin := t.vin, pwr := t.pwr, cell := t.cell, gau := t.gau, chg := t.chg, flt := t.flt, sel := t.sel,
          warm := t.warm, drf := t.drf, mon := t.mon, hdlE := t.hdlE, hdlP := t.hdlP, sent := t.sent, free := t.free }
    | .warningFrame _ =>
        t = { s with nand := t.nand, vlt := t.vlt, hdlE := t.hdlE, hdlP := t.hdlP, sent := t.sent }
    | .abandonFrame _ =>
        t = { s with
         cache := t.cache, nand := t.nand, stg := t.stg, vlt := t.vlt, mon := t.mon, hdlE := t.hdlE, hdlP := t.hdlP,
          sent := t.sent, free := t.free }
    | .specMaxExpiry =>
        t = { s with
         cache := t.cache, nand := t.nand, stg := t.stg, vlt := t.vlt, flt := t.flt, sel := t.sel, mon := t.mon,
          hdlE := t.hdlE, hdlP := t.hdlP, sent := t.sent, free := t.free }
    | .manifestBuild =>
        t = { s with
         stg := t.stg, vlt := t.vlt, flt := t.flt, sel := t.sel, hdlE := t.hdlE, hdlP := t.hdlP, sent := t.sent }
    | .logSnapshotDone _ =>
        t = { s with log := t.log, vlt := t.vlt, drain := t.drain }
    | .holdMaxExpiry =>
        t = { s with
         cache := t.cache, dram := t.dram, stg := t.stg, vlt := t.vlt, restore := t.restore, vcore := t.vcore,
          pwr := t.pwr, flt := t.flt, warm := t.warm, drf := t.drf, hdlE := t.hdlE, hdlP := t.hdlP, sent := t.sent }
    | .storeFloorReached =>
        t = { s with
         cache := t.cache, dram := t.dram, stg := t.stg, vlt := t.vlt, restore := t.restore, vcore := t.vcore,
          pwr := t.pwr, cell := t.cell, flt := t.flt, warm := t.warm, drf := t.drf, hdlE := t.hdlE, hdlP := t.hdlP,
          sent := t.sent }
    | .stallWatchdogExpiry _ =>
        t = { s with
         cache := t.cache, dram := t.dram, nand := t.nand, stg := t.stg, vlt := t.vlt, drain := t.drain,
          rail := t.rail, host := t.host, mbx := t.mbx, flt := t.flt, sel := t.sel, mon := t.mon, hdlE := t.hdlE,
          hdlP := t.hdlP, sent := t.sent, free := t.free }
    | .coolWaitExpiry =>
        t = { s with vlt := t.vlt, rail := t.rail, vcore := t.vcore, pwr := t.pwr, flt := t.flt, sel := t.sel }
    | .warmRstN _ _ | .stewardWarmReset | .activate _ =>
        t = { s with
         cache := t.cache, log := t.log, nand := t.nand, stg := t.stg, vlt := t.vlt, host := t.host, mbx := t.mbx,
          sel := t.sel, warm := t.warm, drf := t.drf, mon := t.mon, hdlE := t.hdlE, hdlP := t.hdlP, sent := t.sent,
          free := t.free }
    | .restoreDiscover _ =>
        t = { s with
         vlt := t.vlt, restore := t.restore, flt := t.flt, sel := t.sel, hdlE := t.hdlE, hdlP := t.hdlP,
          sent := t.sent }
    | .mapLoadDone _ =>
        t = { s with
         cache := t.cache, log := t.log, nand := t.nand, stg := t.stg, vlt := t.vlt, drain := t.drain,
          restore := t.restore, host := t.host, mbx := t.mbx, flt := t.flt, sel := t.sel, efl := t.efl,
          mon := t.mon, hdlE := t.hdlE, hdlP := t.hdlP, sent := t.sent, free := t.free }
    | .backgroundLoad =>
        t = { s with restore := t.restore }
    | .loopWindowExpiry _ _ _ =>
        t = { s with rail := t.rail, mon := t.mon, sent := t.sent }
    | .slewSettled _ =>
        t = { s with vcore := t.vcore, pwr := t.pwr, sent := t.sent }
    | .railAck _ _ _ =>
        t = { s with rail := t.rail, flt := t.flt, hdlE := t.hdlE, hdlP := t.hdlP, sent := t.sent }
    | .railAckTimeout _ =>
        t = { s with
         vlt := t.vlt, rail := t.rail, flt := t.flt, sel := t.sel, hdlE := t.hdlE, hdlP := t.hdlP, sent := t.sent }
    | .railIdleQuery | .engageStep _ =>
        t = { s with rail := t.rail, sent := t.sent }
    | .groupDelayExpiry =>
        t = { s with rail := t.rail, vcore := t.vcore, pwr := t.pwr, flt := t.flt }
    | .dischargeDone _ | .shedSpacingExpiry =>
        t = { s with
         cache := t.cache, dram := t.dram, stg := t.stg, vcore := t.vcore, pwr := t.pwr, flt := t.flt,
          warm := t.warm, drf := t.drf, hdlE := t.hdlE }
    | .fenceNotice _ =>
        t = { s with
         cache := t.cache, dram := t.dram, stg := t.stg, vcore := t.vcore, pwr := t.pwr, flt := t.flt,
          warm := t.warm, drf := t.drf, hdlE := t.hdlE, hdlP := t.hdlP, sent := t.sent }
    | .chargeTermination | .chargerStep | .impedanceProbe | .exerciseStart =>
        t = { s with gau := t.gau, chg := t.chg }
    | .impedanceStep _ | .quietEntry =>
        t = { s with gau := t.gau }
    | .autoZero =>
        t = s
    | .belaypActive =>
        t = { s with
         cache := t.cache, dram := t.dram, nand := t.nand, stg := t.stg, vcore := t.vcore, pwr := t.pwr,
          flt := t.flt, sel := t.sel, warm := t.warm, drf := t.drf, mon := t.mon, hdlE := t.hdlE, free := t.free }
    | .nandRbNChange _ _ | .belayWpTimeout =>
        t = { s with
         cache := t.cache, dram := t.dram, nand := t.nand, stg := t.stg, vcore := t.vcore, pwr := t.pwr,
          flt := t.flt, warm := t.warm, drf := t.drf, hdlE := t.hdlE }
    | .latchedClear _ _ =>
        t = { s with log := t.log, rail := t.rail, vcore := t.vcore, pwr := t.pwr, flt := t.flt }
    | .firstErrorClear _ =>
        t = { s with flt := t.flt }
    | .logMark _ | .logSecondEnd =>
        t = { s with log := t.log }
    | .logFrame _ _ | .knotPointerFrame _ _ _ _ _ =>
        t = { s with log := t.log, hdlE := t.hdlE, hdlP := t.hdlP, sent := t.sent }
    | .withdraw _ | .drfCandDataWrite _ _ =>
        t = { s with drf := t.drf, efl := t.efl }
    | .draftFrame _ _ _ | .draftStreamRetry =>
        t = { s with drf := t.drf, hdlE := t.hdlE, hdlP := t.hdlP, sent := t.sent }
    | .eflProgram _ | .flashWriteRetry =>
        t = { s with efl := t.efl }
    | .eflSuspend _ | .eflResume _ | .wpLock _ =>
        t = { s with efl := t.efl, smb := t.smb }
    | .lifeCycleRequest _ _ _ =>
        t = { s with
         cache := t.cache, log := t.log, stg := t.stg, vlt := t.vlt, restore := t.restore, host := t.host,
          lcs := t.lcs, mon := t.mon, hdlE := t.hdlE, hdlP := t.hdlP, sent := t.sent, free := t.free }
    | .regAddr _ _ | .regStatus | .page _ _ | .operation _ _ | .invalidCommand _ =>
        t = { s with smb := t.smb, sent := t.sent }
    | .clearFaults _ =>
        t = { s with
         log := t.log, rail := t.rail, vcore := t.vcore, pwr := t.pwr, flt := t.flt, smb := t.smb, sent := t.sent }
    | .registerResponse _ _ _ | .unreachableTimeout _ =>
        t = { s with hdlE := t.hdlE, hdlP := t.hdlP, port := t.port, smb := t.smb, sent := t.sent }
    | .timeFrame _ _ _ =>
        t = { s with tbs := t.tbs, hdlE := t.hdlE, hdlP := t.hdlP, sent := t.sent, free := t.free }
    | .monitorFrame _ _ =>
        t = { s with mon := t.mon, hdlE := t.hdlE, hdlP := t.hdlP, sent := t.sent }
    | .monCfgWrite _ _ _ | .monClearAll _ | .monFreeze _ _ =>
        t = { s with mon := t.mon }
    | .heddleControlFrame _ _ =>
        t = { s with hdlE := t.hdlE, hdlP := t.hdlP, sent := t.sent }
    | .stewardUnitReset _ =>
        t = { s with
         cache := t.cache, log := t.log, nand := t.nand, stg := t.stg, vlt := t.vlt, drain := t.drain,
          restore := t.restore, rail := t.rail, pwr := t.pwr, cell := t.cell, gau := t.gau, chg := t.chg,
          flt := t.flt, sel := t.sel, mon := t.mon, hdlE := t.hdlE, hdlP := t.hdlP, sent := t.sent, free := t.free }
    | _ => True

/-- The queue, key, time base, cells, sensors, input and ports change only by named commands. No command changes the
queue. The life-cycle and key state, the time base, the store cells, the thermal state, the input stage, the
register ports and the test access ports are each unchanged by every command except those the statement names for it. Rests on
95_what_each_step_holds.md; 15_embedded_flash_lifecycle.md, The vault key; 15_embedded_flash_lifecycle.md, Life cycle;
16_management_registers_monitors.md, Timebase; 16_management_registers_monitors.md, The register space; 12_thermal.md,
Sensors and zones; 10_power_tree.md, The VIN front end; 11_energy_store.md, Cell channels, balancing and thermistors.
-/
def Obligations.FewCommandsReachApartStates : Prop :=
  (∀ (c : Instr) (s t : State), exec c s = .next t → t.pending = s.pending) ∧
  (∀ (s t : State) (c : Instr), exec c s = .next t →
    t.lcs = s.lcs ∨ (∃ a0, c = .secureErase a0) ∨ (∃ a0, c = .vinGood a0) ∨
      (∃ a0 a1 a2 a3 a4, c = .keeperStart a0 a1 a2 a3 a4) ∨ c = .keeperStop ∨ c = .restoreReady ∨
      (∃ a0 a1 a2, c = .lifeCycleRequest a0 a1 a2) ∨ (∃ a0 a1, c = .regDataWrite a0 a1) ∨
      (∃ a0 a1 a2, c = .registerFrame a0 a1 a2) ∨ (∃ a0 a1 a2 a3 a4, c = .registerWrite a0 a1 a2 a3 a4)) ∧
  (∀ (s t : State) (c : Instr), exec c s = .next t →
    t.tbs = s.tbs ∨ (∃ a0, c = .setTimestamp a0) ∨ (∃ a0, c = .vinGood a0) ∨ c = .keeperStop ∨
      (∃ a0 a1, c = .regDataWrite a0 a1) ∨ (∃ a0 a1 a2, c = .registerFrame a0 a1 a2) ∨
      (∃ a0 a1 a2, c = .timeFrame a0 a1 a2) ∨ (∃ a0, c = .refclkLoss a0) ∨ c = .heddleLinkUp ∨
      (∃ a0 a1 a2 a3 a4, c = .registerWrite a0 a1 a2 a3 a4) ∨ c = .refclkReturn) ∧
  (∀ (s t : State) (c : Instr), exec c s = .next t →
    t.cell = s.cell ∨ (∃ a0 a1 a2 a3 a4 a5 a6 a7, c = .cxlMemWrite a0 a1 a2 a3 a4 a5 a6 a7) ∨
      (∃ a0, c = .capQueueRelease a0) ∨ (∃ a0 a1 a2 a3 a4 a5 a6, c = .cxlMemRead a0 a1 a2 a3 a4 a5 a6) ∨
      (∃ a0 a1 a2, c = .demandFetchComplete a0 a1 a2) ∨ (∃ a0 a1, c = .setLsa a0 a1) ∨ (∃ a0, c = .secureErase a0) ∨
      c = .sealTimeout ∨ c = .backgroundCommandDone ∨ c = .budgetEvalTick ∨
      (∃ a0 a1 a2, c = .knotReadback a0 a1 a2) ∨ (∃ a0, c = .knotTimeout a0) ∨
      (∃ a0 a1 a2, c = .earlyWarning a0 a1 a2) ∨ (∃ a0 a1, c = .specAbandonExpiry a0 a1) ∨
      (∃ a0 a1 a2, c = .pfFilterExpiry a0 a1 a2) ∨ (∃ a0, c = .inputOvervoltage a0) ∨ c = .pfActive ∨
      c = .vreqActive ∨ c = .stewardVaultRequest ∨ (∃ a0 a1 a2 a3, c = .finalKnotProgram a0 a1 a2 a3) ∨
      c = .storeFloorReached ∨ (∃ a0, c = .vinGood a0) ∨ (∃ a0, c = .heartbeatToggle a0) ∨
      (∃ a0, c = .heartbeatTimeout a0) ∨ c = .holdIslandReady ∨ c = .rebootTimeoutExpiry ∨
      c = .stewardWatchdogExpiry ∨ (∃ a0 a1 a2 a3 a4, c = .keeperStart a0 a1 a2 a3 a4) ∨ c = .keeperStop ∨
      c = .restoreReady ∨ (∃ a0 a1 a2, c = .granuleLoadDone a0 a1 a2) ∨ (∃ a0 a1 a2 a3, c = .set a0 a1 a2 a3) ∨
      (∃ a0 a1 a2 a3, c = .query a0 a1 a2 a3) ∨ (∃ a0 a1 a2 a3, c = .engage a0 a1 a2 a3) ∨ c = .railFallback ∨
      c = .vinSenseDisagree ∨ (∃ a0, c = .holdupTest a0) ∨ (∃ a0 a1 a2, c = .phaseFault a0 a1 a2) ∨
      (∃ a0, c = .ibusOverload a0) ∨ (∃ a0, c = .ibusOverloadRecheck a0) ∨ (∃ a0, c = .ibusCollapse a0) ∨
      (∃ a0, c = .ibusLost a0) ∨ (∃ a0 a1 a2, c = .domainGood a0 a1 a2) ∨ (∃ a0, c = .pgTimeout a0) ∨
      (∃ a0 a1, c = .domainOutOfWindow a0 a1) ∨ (∃ a0, c = .trackingFault a0) ∨
      (∃ a0 a1 a2, c = .cellScan a0 a1 a2) ∨ c = .chargeTimeout ∨ (∃ a0 a1, c = .gaugeUpdate a0 a1) ∨
      (∃ a0, c = .restPoint a0) ∨ (∃ a0, c = .exerciseGrant a0) ∨ c = .exerGrantWaitExpiry ∨ c = .emptyAnchor ∨
      c = .fadeDaily ∨ (∃ a0 a1, c = .sensorSample a0 a1) ∨ (∃ a0 a1, c = .thmHoldExpiry a0 a1) ∨
      c = .thmRateCheck ∨ c = .storeRateCheck ∨ (∃ a0, c = .sensorReturn a0) ∨ c = .compensationTick ∨
      c = .thermalStageOne ∨ (∃ a0, c = .thermalStageTwo a0) ∨ c = .thermalShutdownExit ∨
      (∃ a0 a1, c = .sourceEntersFault a0 a1) ∨ (∃ a0 a1 a2, c = .sourceBroken a0 a1 a2) ∨
      (∃ a0, c = .unitResetDone a0) ∨ (∃ a0 a1, c = .faultFrame a0 a1) ∨ c = .belayeActive ∨
      (∃ a0, c = .shadowExpiry a0) ∨ (∃ a0 a1 a2 a3, c = .severityRaise a0 a1 a2 a3) ∨
      (∃ a0, c = .collectorSelfCheck a0) ∨ (∃ a0 a1, c = .selvedgeCheck a0 a1) ∨ c = .selvedgeCheckTimeout ∨
      c = .belaySettleExpiry ∨ (∃ a0, c = .recover a0) ∨ (∃ a0, c = .inputStuck a0) ∨
      (∃ a0 a1, c = .inputChatter a0 a1) ∨ (∃ a0 a1, c = .inputRelease a0 a1) ∨
      (∃ a0 a1 a2, c = .pairBroken a0 a1 a2) ∨ (∃ a0 a1 a2, c = .pairRelease a0 a1 a2) ∨ (∃ a0, c = .submit a0) ∨
      (∃ a0, c = .eraseCand a0) ∨ (∃ a0 a1 a2, c = .draftCrcReply a0 a1 a2) ∨ (∃ a0, c = .eflErase a0) ∨
      (∃ a0, c = .fwErase a0) ∨ (∃ a0, c = .fwSubmit a0) ∨ (∃ a0, c = .eflOperationDone a0) ∨
      (∃ a0 a1, c = .regDataWrite a0 a1) ∨ (∃ a0, c = .regDataRead a0) ∨ (∃ a0 a1 a2, c = .registerFrame a0 a1 a2) ∨
      (∃ a0, c = .refclkLoss a0) ∨ (∃ a0, c = .heddleResendExpiry a0) ∨ (∃ a0, c = .heddleLinkDown a0) ∨
      c = .heddleLinkUp ∨ (∃ a0 a1, c = .rwpPairTimeout a0 a1) ∨
      (∃ a0 a1 a2 a3 a4, c = .registerWrite a0 a1 a2 a3 a4) ∨ (∃ a0 a1 a2 a3, c = .registerRead a0 a1 a2 a3) ∨
      (∃ a0, c = .stewardUnitReset a0) ∨ c = .refclkReturn) ∧
  (∀ (s t : State) (c : Instr), exec c s = .next t →
    t.thm = s.thm ∨ (∃ a0, c = .vinGood a0) ∨ (∃ a0, c = .vaultResume a0) ∨
      (∃ a0 a1 a2 a3 a4, c = .keeperStart a0 a1 a2 a3 a4) ∨ c = .keeperStop ∨ c = .fadeDaily ∨
      (∃ a0 a1, c = .sensorSample a0 a1) ∨ (∃ a0 a1, c = .thmHoldExpiry a0 a1) ∨ c = .thmRateCheck ∨
      (∃ a0, c = .sensorReturn a0) ∨ c = .compensationTick ∨ c = .thermalStageOne ∨
      (∃ a0, c = .thermalStageTwo a0) ∨ c = .thermalShutdownExit) ∧
  (∀ (s t : State) (c : Instr), exec c s = .next t →
    t.vin = s.vin ∨ (∃ a0 a1 a2, c = .earlyWarning a0 a1 a2) ∨ (∃ a0 a1, c = .specAbandonExpiry a0 a1) ∨
      (∃ a0 a1 a2, c = .pfFilterExpiry a0 a1 a2) ∨ (∃ a0, c = .inputOvervoltage a0) ∨ (∃ a0, c = .vinGood a0) ∨
      c = .keeperStop ∨ (∃ a0, c = .inputStuck a0) ∨ (∃ a0 a1, c = .inputChatter a0 a1) ∨
      (∃ a0 a1, c = .inputRelease a0 a1)) ∧
  (∀ (s t : State) (c : Instr), exec c s = .next t →
    t.port = s.port ∨ (∃ a0, c = .vinGood a0) ∨ c = .keeperStop ∨ (∃ a0 a1, c = .regDataWrite a0 a1) ∨
      (∃ a0, c = .regDataRead a0) ∨ (∃ a0 a1 a2, c = .registerFrame a0 a1 a2) ∨
      (∃ a0 a1 a2, c = .registerResponse a0 a1 a2) ∨ (∃ a0, c = .unreachableTimeout a0) ∨
      (∃ a0 a1, c = .rwpPairTimeout a0 a1) ∨ (∃ a0 a1 a2 a3 a4, c = .registerWrite a0 a1 a2 a3 a4) ∨
      (∃ a0 a1 a2 a3, c = .registerRead a0 a1 a2 a3)) ∧
  (∀ (s t : State) (c : Instr), exec c s = .next t →
    t.tap = s.tap ∨ c = .keeperStop)

/-- An admitted CXL.mem write commits its bytes, state and poison. In a sound state with the port serving and no
request waiting, a decoded write to a granule of the residual, or to a ZERO granule that the caps and the budget
admit, completes: the granule is DIRTY, each enabled byte of the line holds the data, every other byte of memory reads
as before (in a ZERO granule the rest of the granule reads 0), and the completion is sent. For the residual, a
poisoned write poisons the line, a full clean write clears it and a partial one leaves poison as it is, unless the read of
the line it is merged into is uncorrectable: then the line is poisoned. Rests on
01_protection_guarantee.md, Accepted writes; 03_cache_memory.md, The dirty map; 03_cache_memory.md, ECC, poison and
scrub; 09_host_interface.md, Memory traffic; 09_host_interface.md, Poison. -/
def Obligations.AdmittedWritesCommit : Prop :=
  (∀ (s : State) (tag hpa dpa occ : Nat) (data : Line) (be : BitVec 64) (poison : Bool) (burst : Burst),
    Sound s → portServes s = true → requestsWait s = false → admitting s = true →
    decodeHpa s.host hpa = some dpa → boltDiscards (boltOf s (dpa / 4096)) s = false →
    inRes (entryOf (dpa / 4096) s) = true → inTail s = false →
    ∃ t, exec (.cxlMemWrite tag hpa data be poison burst .good occ) s = .next t ∧
      t.sent.head? = some (.written tag (devLoad { s with host := { s.host with load := loadOf occ } })) ∧
      entryOf (dpa / 4096) t = { entryOf (dpa / 4096) s with st := .dirty } ∧
      (∀ i, i < 64 → readByte t (dpa / 64 * 64 + i) =
        if be.getLsbD i then data.extractLsb' (8 * i) 8 else readByte s (dpa / 64 * 64 + i)) ∧
      (∀ a, a < dpa / 64 * 64 ∨ dpa / 64 * 64 + 64 ≤ a → readByte t a = readByte s a) ∧
      (poison = true → poisoned (dpa / 4096) (dpa % 4096 / 64) t = true) ∧
      (poison = false → be = allBytes → poisoned (dpa / 4096) (dpa % 4096 / 64) t = false) ∧
      (poison = false → be ≠ allBytes → eccOf (byEight s) burst ≠ .uncorrectable →
        ∀ l, poisoned (dpa / 4096) l t = poisoned (dpa / 4096) l s) ∧
      (be ≠ allBytes → eccOf (byEight s) burst = .uncorrectable →
        poisoned (dpa / 4096) (dpa % 4096 / 64) t = true)) ∧
  (∀ (s : State) (tag hpa dpa occ : Nat) (data : Line) (be : BitVec 64) (poison : Bool) (burst : Burst),
    Sound s → portServes s = true → requestsWait s = false → admitting s = true →
    decodeHpa s.host hpa = some dpa → boltDiscards (boltOf s (dpa / 4096)) s = false →
    (entryOf (dpa / 4096) s).st = .zero → tget [] s.cache.capq (boltOf s (dpa / 4096)) = [] →
    atCap (boltOf s (dpa / 4096)) s = false → s.stg.heldq = [] → fits (costOf (dpa / 4096) s) s = true →
    inTail s = false →
    ∃ t, exec (.cxlMemWrite tag hpa data be poison burst .good occ) s = .next t ∧
      (∃ l, .written tag l ∈ t.sent) ∧
      entryOf (dpa / 4096) t = { entryOf (dpa / 4096) s with st := .dirty } ∧
      (∀ i, i < 64 → readByte t (dpa / 64 * 64 + i) = if be.getLsbD i then data.extractLsb' (8 * i) 8 else 0) ∧
      (∀ a, a / 4096 = dpa / 4096 → a < dpa / 64 * 64 ∨ dpa / 64 * 64 + 64 ≤ a → readByte t a = 0) ∧
      (∀ a, a / 4096 ≠ dpa / 4096 → readByte t a = readByte s a))

/-- Writes outside the budget or a bolt cap are held, and released in turn. A write that would dirty a granule and
does not fit the budget joins the held queue with reef level 3 and changes neither map nor memory; one to a bolt at
its cap joins that bolt's queue, which stands in order of arrival, and changes neither. When the conditions allow, with no bolt
shed, no DDR5 controller in reset and no command running that empties the cache, HELD_WRITE_RELEASE commits the only held write and CAP_QUEUE_RELEASE the oldest of its queue, with the completion
sent and the granule DIRTY. Rests on
01_protection_guarantee.md, The budget invariant; 03_cache_memory.md, Bolts; 04_staging_and_budget.md, Fill and
reefing. -/
def Obligations.RefusedWritesAreHeldAndReleased : Prop :=
  (∀ (s : State) (tag hpa dpa occ : Nat) (data : Line) (be : BitVec 64) (poison : Bool) (burst : Burst),
    portServes s = true → requestsWait s = false → admitting s = true →
    decodeHpa s.host hpa = some dpa → boltDiscards (boltOf s (dpa / 4096)) s = false →
    (entryOf (dpa / 4096) s).st = .zero ∨ (entryOf (dpa / 4096) s).st = .clean →
    tget [] s.cache.capq (boltOf s (dpa / 4096)) = [] → atCap (boltOf s (dpa / 4096)) s = false →
    s.stg.heldq = [] → fits (costOf (dpa / 4096) s) s = false → inTail s = false →
    ∃ t, exec (.cxlMemWrite tag hpa data be poison burst .good occ) s = .next t ∧
      t.stg.heldq = [{ tag := tag, dpa := dpa, data := data, be := be, poison := poison, order := s.cache.received,
                       burst := burst }] ∧
      t.stg.l3 = true ∧ reefLevel t = 3 ∧ t.cache.map = s.cache.map ∧ t.dram = s.dram) ∧
  (∀ (s : State) (tag hpa dpa occ : Nat) (data : Line) (be : BitVec 64) (poison : Bool) (burst : Burst),
    portServes s = true → requestsWait s = false → admitting s = true →
    decodeHpa s.host hpa = some dpa → boltDiscards (boltOf s (dpa / 4096)) s = false →
    (entryOf (dpa / 4096) s).st = .zero ∨ (entryOf (dpa / 4096) s).st = .clean →
    atCap (boltOf s (dpa / 4096)) s = true → inTail s = false →
    ∃ t, exec (.cxlMemWrite tag hpa data be poison burst .good occ) s = .next t ∧
      tget [] t.cache.capq (boltOf s (dpa / 4096)) = byArrival
        { tag := tag, dpa := dpa, data := data, be := be, poison := poison, order := s.cache.received, burst := burst }
        (tget [] s.cache.capq (boltOf s (dpa / 4096))) ∧
      t.cache.map = s.cache.map ∧ t.dram = s.dram ∧ t.stg.heldq = s.stg.heldq ∧ reefLevel t = reefLevel s) ∧
  ((∀ (s : State) (w : HeldWrite), admitting s = true → ddrInReset s = false → emptying s = false → s.stg.heldq = [w] →
    boltDiscards (boltOf s (w.dpa / 4096)) s = false →
    (entryOf (w.dpa / 4096) s).st = .zero ∨ (entryOf (w.dpa / 4096) s).st = .clean →
    atCap (boltOf s (w.dpa / 4096)) s = false → fits (costOf (w.dpa / 4096) s) s = true →
    ∃ t, exec .heldWriteRelease s = .next t ∧ t.stg.heldq = [] ∧ (∃ l, .written w.tag l ∈ t.sent) ∧
      (entryOf (w.dpa / 4096) t).st = .dirty) ∧
  (∀ (s : State) (w : HeldWrite) (q : List HeldWrite) (n : Nat), admitting s = true → ddrInReset s = false →
    emptying s = false → tget [] s.cache.capq n = w :: q → boltDiscards n s = false →
    inRes (entryOf (w.dpa / 4096) s) = true → inTail s = false →
    ∃ t, exec (.capQueueRelease n) s = .next t ∧ t.cache.capq = tput [] n q s.cache.capq ∧
      t.sent.head? = some (.written w.tag (devLoad s)) ∧
      (entryOf (w.dpa / 4096) t).st = .dirty))

/-- Reads answer the line; unmapped accesses are dropped; scrub walks the lines. A decoded read of a granule that is
not RESTORE_PENDING, with no ECC error, answers the line, 0 for a ZERO granule, or poison for a poisoned line, and
changes neither map nor memory. An access outside the decoders changes no line: a write before the fence completes and
counts in CXL drops, a later one gets no completion, and a read answers poison and counts. A scrub read of the line
at the scrub position moves the position on, after the last line to the first, and counts a corrected one; a granule without
content is moved past with nothing read, and outside ARMED scrub does nothing. Rests on 03_cache_memory.md, ECC, poison and scrub; 09_host_interface.md, Memory traffic;
09_host_interface.md, HDM decoders and interleave; 09_host_interface.md, Poison. -/
def Obligations.ReadsAnswerTheLine : Prop :=
  (∀ (s : State) (tag hpa dpa occ : Nat) (burst : Burst) (a b : CopyRead), eccOf (byEight s) burst = .ok →
    portServes s = true → requestsWait s = false → decodeHpa s.host hpa = some dpa →
    (entryOf (dpa / 4096) s).st ≠ .restorePending →
    ∃ t, exec (.cxlMemRead tag hpa burst a b .good occ) s = .next t ∧
      (poisoned (dpa / 4096) (dpa % 4096 / 64) s = false → (entryOf (dpa / 4096) s).st ≠ .zero →
        t.sent.head? = some (.read tag (devLoad t) (readLine s (dpa / 64 * 64)) false)) ∧
      (poisoned (dpa / 4096) (dpa % 4096 / 64) s = false → (entryOf (dpa / 4096) s).st = .zero →
        t.sent.head? = some (.read tag (devLoad t) 0 false)) ∧
      (poisoned (dpa / 4096) (dpa % 4096 / 64) s = true → ∃ d, t.sent.head? = some (.read tag (devLoad t) d true)) ∧
      t.cache.map = s.cache.map ∧ t.dram = s.dram) ∧
  ((∀ (s : State) (tag hpa occ : Nat) (data : Line) (be : BitVec 64) (poison : Bool) (burst : Burst) (m : MapAcc),
    portServes s = true → decodeHpa s.host hpa = none → beforeFence s = true →
    ∃ t, exec (.cxlMemWrite tag hpa data be poison burst m occ) s = .next t ∧
      t.sent.head? = some (.written tag (devLoad t)) ∧ t.host.drops = satAdd max32 s.host.drops 1 ∧ t.cache = s.cache ∧
        t.dram = s.dram) ∧
  (∀ (s : State) (tag hpa occ : Nat) (data : Line) (be : BitVec 64) (poison : Bool) (burst : Burst) (m : MapAcc),
    portServes s = true → decodeHpa s.host hpa = none → beforeFence s = false →
    ∃ t, exec (.cxlMemWrite tag hpa data be poison burst m occ) s = .next t ∧ t.sent = s.sent ∧ t.cache = s.cache ∧
      t.dram = s.dram) ∧
  (∀ (s : State) (tag hpa occ : Nat) (burst : Burst) (a b : CopyRead) (m : MapAcc),
    portServes s = true → decodeHpa s.host hpa = none →
    ∃ t d, exec (.cxlMemRead tag hpa burst a b m occ) s = .next t ∧
      t.sent.head? = some (.read tag (devLoad t) d true) ∧ t.host.drops = satAdd max32 s.host.drops 1 ∧ t.cache = s.cache ∧
        t.dram = s.dram)) ∧
  ((∀ (s : State) (burst : Burst) (a b : CopyRead), isArmed s = true →
    (s.cache.scrubPos / 64 < capGranules s → (entryOf (s.cache.scrubPos / 64) s).st ≠ .zero ∧
      (entryOf (s.cache.scrubPos / 64) s).st ≠ .restorePending) →
    (eccOf (byEight s) burst = .ok →
      exec (.patrolScrub burst a b) s = .next { s with cache := { s.cache with
        scrubPos := if s.cache.scrubPos + 1 < scrubLines s then s.cache.scrubPos + 1 else 0, scrubbing := true } }) ∧
    (eccOf (byEight s) burst = .corrected →
      exec (.patrolScrub burst a b) s = .next { s with cache := { s.cache with
        scrubPos := if s.cache.scrubPos + 1 < scrubLines s then s.cache.scrubPos + 1 else 0, scrubbing := true,
        ch := modAt (lineChannel s.cache.scrubPos s) (fun c => { c with ce := satAdd max32 c.ce 1 }) s.cache.ch } })) ∧
  (∀ (s : State) (burst : Burst) (a b : CopyRead), isArmed s = true → s.cache.scrubPos / 64 < capGranules s →
    (entryOf (s.cache.scrubPos / 64) s).st = .zero ∨ (entryOf (s.cache.scrubPos / 64) s).st = .restorePending →
    exec (.patrolScrub burst a b) s = .next { s with cache := { s.cache with
      scrubPos := if 64 * (s.cache.scrubPos / 64) + 64 < scrubLines s then 64 * (s.cache.scrubPos / 64) + 64 else 0,
      scrubbing := true } }) ∧
  (∀ (s : State) (burst : Burst) (a b : CopyRead), isArmed s = false → exec (.patrolScrub burst a b) s = .next s))

/-- Link training, decoder commits and MSI-X unmasking. CXL_LINK_TRAINED records width, speed and flit mode, and
enables memory exactly in the supported combinations. HDM_DECODER_COMMIT of decoder 0 and 1 commits the request when
its form and the ranges fit, is ignored by a locked decoder and otherwise reports the error. MSIX_UNMASK unmasks its
vector and sends a pending interrupt while the link is up and no host domain is being shed. Rests on 09_host_interface.md, Link and protocol support;
09_host_interface.md, HDM decoders and interleave; 09_host_interface.md, MSI-X. -/
def Obligations.LinkDecodersAndInterrupts : Prop :=
  (∀ (s : State) (w v : Nat) (f : Bool),
    s.host.training = true → s.warm.engineUp = true → tfind s.flt.frozen 4 = none →
    ∃ t, exec (.cxlLinkTrained w v f) s = .next t ∧
      (t.host.memEnabled = true ↔
        (w = 4 ∨ w = 8 ∨ w = 16) ∧ (f = true ∧ (v = 5 ∨ v = 6) ∨ f = false ∧ (v = 3 ∨ v = 4 ∨ v = 5))) ∧
      t.host = { s.host with width := w, speed := v, flit256 := f, memEnabled := t.host.memEnabled } ∧
      t.cache = s.cache ∧ t.dram = s.dram ∧ t.stg = s.stg ∧ t.mbx = s.mbx ∧ t.log = s.log) ∧
  ((∀ (s : State) (r : HdmReq), s.warm.engineUp = true →
    exec (.hdmDecoderCommit 0 r) s = .next (
      if s.host.dec0.committed = true ∧ s.host.dec0.lock = true then s
      else if commitForm r = true ∧ decodersFit (decoderOf r) s.host.dec1 s = true then
        { s with host := { s.host with dec0 := decoderOf r } }
      else { s with host := { s.host with dec0 := { s.host.dec0 with committed := false, error := true } } })) ∧
  (∀ (s : State) (r : HdmReq), s.warm.engineUp = true →
    exec (.hdmDecoderCommit 1 r) s = .next (
      if s.host.dec1.committed = true ∧ s.host.dec1.lock = true then s
      else if commitForm r = true ∧ s.host.dec0.committed = true ∧ decodersFit s.host.dec0 (decoderOf r) s = true then
        { s with host := { s.host with dec1 := decoderOf r } }
      else { s with host := { s.host with dec1 := { s.host.dec1 with committed := false, error := true } } }))) ∧
  (∀ (s : State) (v : Nat), v < 8 → s.warm.engineUp = true → s.host.msixMasked.length = 8 →
    s.host.msixPending.length = 8 →
    ∃ t, exec (.msixUnmask v) s = .next t ∧ t.host.msixMasked[v]? = some false ∧ t.host.msixPending[v]? = some false ∧
      t.sent = (if s.host.msixPending[v]? = some true ∧ msixOpen s = true then .msix v :: s.sent else s.sent) ∧
      t = { s with sent := t.sent, host := { s.host with msixMasked := t.host.msixMasked, msixPending := t.host.msixPending } })

/-- Global Persistent Flush phases are answered. Phase 1 is answered at once. A Phase 2 request before the fence is
counted and waits; in FENCED or later it is answered at once, without error exactly when the fence was a flush
completion (FENCE_BY 1). When no covered write is outstanding, GPF_PHASE2_RESPONSE answers without error, and in
WINDOW the fence falls with FENCE_BY 1. States R309. -/
def Obligations.FlushPhasesAnswer : Prop :=
  (∀ s : State, s.warm.engineUp = true → exec .gpfPhase1Request s = .next { s with sent := .gpf1 :: s.sent }) ∧
  (∀ s : State, s.warm.engineUp = true → fenced s = false →
    exec .gpfPhase2Request s = .next { s with host := { s.host with
      gpfCount := satAdd max32 s.host.gpfCount 1, gpfWaiting := engineNow s :: s.host.gpfWaiting,
      gpfCovers := s.cache.received } }) ∧
  (∀ s : State, s.warm.engineUp = true → fenced s = true →
    ∃ t, exec .gpfPhase2Request s = .next t ∧ t.host.gpfWaiting = [] ∧
      t.sent.head? = some (.gpf2 (decide (s.vlt.fenceBy ≠ 1))) ∧ t.host.gpfFailed = decide (s.vlt.fenceBy ≠ 1)) ∧
  (∀ (s : State) (x : Nat), engineRuns s = true → s.host.gpfWaiting = [x] →
    uncommittedBelow s.host.gpfCovers s = false →
    s.vlt.state ≠ .window →
    ∃ t, exec .gpfPhase2Response s = .next t ∧ t.host.gpfWaiting = [] ∧ t.sent = .gpf2 false :: s.sent ∧
      t.host.gpfFailed = false ∧ t.vlt = s.vlt ∧ t.cache = s.cache ∧ t.dram = s.dram) ∧
  (∀ (s : State) (x : Nat), engineRuns s = true → s.host.gpfWaiting = [x] →
    uncommittedBelow s.host.gpfCovers s = false →
    s.vlt.state = .window →
    ∃ t, exec .gpfPhase2Response s = .next t ∧ t.host.gpfWaiting = [] ∧ .gpf2 false ∈ t.sent ∧
      t.vlt.state = .fenced ∧ t.vlt.fenceBy = 1 ∧ t.vlt.fenceTs = engineNow s)

/-- Host resets clear the port as their rules state. PERST_N and HOT_RESET clear decoders, range control, link width, memory
enable, doorbell, waiting requests and flush requests. LINK_DOWN keeps decoders and range control, clears the link and counts.
CXL_RESET uncommits both and keeps the link. FUNCTION_LEVEL_RESET keeps decoders, range control, link and vault state, discards held
and queued writes and keeps waiting reads. Rests on 01_protection_guarantee.md, Host resets; 09_host_interface.md,
Host resets. -/
def Obligations.HostResetsClearPort : Prop :=
  (∀ (c : Instr) (s : State), c = .perstN ∨ c = .hotReset → s.warm.engineUp = true →
    ∃ t, exec c s = .next t ∧ t.host.dec0 = {} ∧ t.host.dec1 = {} ∧ t.host.rangeEnable = false ∧ t.host.rangeBase = 0 ∧
      t.host.width = 0 ∧ t.host.memEnabled = false ∧
      t.mbx.doorbell = false ∧ t.cache.waiting = [] ∧ t.host.gpfWaiting = [] ∧ t.drf = s.drf ∧ t.lcs = s.lcs) ∧
  (∀ s : State, s.warm.engineUp = true →
    ∃ t, exec .linkDown s = .next t ∧ t.host.dec0 = s.host.dec0 ∧ t.host.dec1 = s.host.dec1 ∧ t.host.width = 0 ∧
      t.host.rangeEnable = s.host.rangeEnable ∧ t.host.rangeBase = s.host.rangeBase ∧
      t.host.memEnabled = false ∧ t.host.linkdowns = satAdd max32 s.host.linkdowns 1 ∧ t.cache.waiting = [] ∧
      t.host.gpfWaiting = []) ∧
  (∀ s : State, s.warm.engineUp = true →
    ∃ t, exec .cxlReset s = .next t ∧ t.host.dec0 = { s.host.dec0 with committed := false } ∧
      t.host.dec1 = { s.host.dec1 with committed := false } ∧ t.host.rangeEnable = false ∧ t.host.width = s.host.width ∧
      t.host.memEnabled = s.host.memEnabled ∧ t.cache.waiting = [] ∧ t.host.gpfWaiting = []) ∧
  (∀ s : State, s.warm.engineUp = true →
    ∃ t, exec .functionLevelReset s = .next t ∧ t.host.dec0 = s.host.dec0 ∧ t.host.dec1 = s.host.dec1 ∧
      t.host.rangeEnable = s.host.rangeEnable ∧ t.host.rangeBase = s.host.rangeBase ∧
      t.host.width = s.host.width ∧ t.host.memEnabled = s.host.memEnabled ∧ t.vlt = s.vlt ∧ t.stg.heldq = [] ∧
      t.cache.capq = [] ∧ t.cache.waiting = s.cache.waiting.filter isReadReq)

/-- Mailbox reads answer the values their rules list. With the engine up and the mailbox reachable, each read command
(IDENTIFY, GET_EVENT_INTERRUPT_POLICY, GET_FW_INFO, GET_TIMESTAMP, GET_SUPPORTED_LOGS, GET_LOG,
IDENTIFY_MEMORY_DEVICE, GET_PARTITION_INFO, GET_ALERT_CONFIGURATION, GET_SHUTDOWN_STATE, GET_HEALTH_INFO,
GET_POISON_LIST, BACKGROUND_OPERATION_STATUS) answers Success with the values of its rule in the rule's order and
changes nothing else; an unsupported opcode answers Unsupported. The order of the values in an answer and the free
percentage of a running command are the model's (log entries 18 and 2). Rests on 09_host_interface.md, Mailbox. -/
def Obligations.MailboxReadsAnswer : Prop :=
  (∀ s : State, s.host.training = true → s.warm.engineUp = true →
    (∀ d, s.drf.active = some d →
      exec .identify s = .next (msix 0 (emit (.answer .success
        [d.cxl.vendor, d.cxl.device, d.cxl.subVendor, d.cxl.subsys, d.cxl.serial, 16]) s))) ∧
    exec .getEventInterruptPolicy s =
      .next (msix 0 (emit (.answer .success (s.mbx.policy.map b01 ++ [1, 1, 2, 2])) s)) ∧
    exec .getFwInfo s = .next (msix 0 (emit (.answer .success [s.efl.version, 0xB0, 1, 0]) s)) ∧
    exec .getTimestamp s = .next (msix 0 (emit (.answer .success [(engineNow s + s.tbs.offset) % 2 ^ 64]) s)) ∧
    exec .getSupportedLogs s = .next (msix 0 (emit (.answer .success [1, 30]) s)) ∧
    (∀ o n, o + n ≤ 30 → exec (.getLog true o n) s =
      .next (msix 0 (emit (.answer .success ((commandOpcodes.drop o).take n)) s))) ∧
    exec .identifyMemoryDevice s = .next (msix 0 (emit (.answer .success
      [capGranules s * 4096, 0, capGranules s * 4096, 0, 65536, 65536, 0]) s)) ∧
    exec .getPartitionInfo s = .next (msix 0 (emit (.answer .success [0, capGranules s * 4096]) s)) ∧
    exec .getAlertConfiguration s =
      .next (msix 0 (emit (.answer .success [s.mbx.lifeAlert, s.mbx.tempAlert, s.mbx.ceAlert]) s)) ∧
    exec .getShutdownState s = .next (msix 0 (emit (.answer .success [s.mbx.shutdown]) s)) ∧
    (∀ op, exec (.unsupportedCommand op) s = .next (msix 0 (emit (.answer .unsupported []) s)))) ∧
  (∀ s : State, s.host.training = true → s.warm.engineUp = true →
    (∃ h m, exec .getHealthInfo s = .next (msix 0 (emit (.answer .success
        [h, m, lifeUsed s, ofSigned 16 ((zoneMax 0 s).getD 0 / 16), s.mbx.dirtyShutdowns, 0,
         satAdd max32 (s.cache.ch.map (·.ce)).sum 0]) s)) ∧
      (m = 0 ↔ mediaReady s = true) ∧ (bitOf h 0 = true ↔ s.nand.degraded = true ∨ s.gau.overdue = true) ∧
      (bitOf h 2 = true ↔ s.stg.exhausted = true ∨ s.flt.engineLive.contains 16 = true)) ∧
    (∀ dpa lines, ∃ l : List PoisonEntry, exec (.getPoisonList dpa lines) s = .next (msix 0 (emit (.answer .success
        ([b01 s.cache.overflow, s.cache.overflowTs, b01 (s.restore.listPartial || s.cache.overflow)] ++
         l.flatMap (fun e => [64 * e.line, e.lines, e.source]))) s)) ∧
      ∀ e, e ∈ l ↔ e ∈ poisonList s ∧ e.line < dpa / 64 + lines ∧ dpa / 64 < e.line + e.lines) ∧
    (s.mbx.bg = none → s.mbx.bgCode = .success →
      exec .backgroundOperationStatus s = .next (msix 0 (emit (.answer .success [s.mbx.bgOpcode, 0, s.mbx.bgPercent,
        0]) s))) ∧
    (s.mbx.bg ≠ none → ∃ p, exec .backgroundOperationStatus s =
      .next (msix 0 (emit (.answer .success [s.mbx.bgOpcode, 1, p, 1]) (nextFree s))) ∧ p < 100))

/-- Event records are read whole and cleared by handle. GET_EVENT_RECORDS of log 0 to 3 answers its overflow and all
its records; CLEAR_EVENT_RECORDS removes all records, or exactly those whose handles are named, from that log alone; a
log number of 4 or more answers Invalid Input. The answer's layout is the model's (log entry 18). Rests on
09_host_interface.md, Mailbox. -/
def Obligations.EventLogsAreReadAndCleared : Prop :=
  (∀ (s : State) (k : Nat), s.host.training = true → s.warm.engineUp = true → k < 4 →
    exec (.getEventRecords k) s = .next (msix 0 (emit (.answer .success
      ([b01 (decide (0 < (eventLog k s).overflow)), (eventLog k s).overflow, (eventLog k s).recs.length] ++
       (eventLog k s).recs.flatMap (recordValues s))) s))) ∧
  (∀ (s : State) (k : Nat) (all : Bool) (hs : List Nat), s.host.training = true → s.warm.engineUp = true →
    k < 4 → Sound s →
    ∃ t, exec (.clearEventRecords k all hs) s = .next t ∧
      (all = true → (eventLog k t).recs = [] ∧ (eventLog k t).overflow = 0) ∧
      (all = false → ∀ r, r ∈ (eventLog k t).recs ↔ r ∈ (eventLog k s).recs ∧ r.handle ∉ hs) ∧
      (∀ j, j ≠ k → eventLog j t = eventLog j s) ∧
      t = { s with sent := t.sent, host := { s.host with msixPending := t.host.msixPending }, mbx := { s.mbx with logs := t.mbx.logs } }) ∧
  (∀ (s : State) (k : Nat) (all : Bool) (hs : List Nat), s.host.training = true → s.warm.engineUp = true → 4 ≤ k →
    exec (.getEventRecords k) s = .next (msix 0 (emit (.answer .invalidInput []) s)) ∧
    exec (.clearEventRecords k all hs) s = .next (msix 0 (emit (.answer .invalidInput []) s)))

/-- Mailbox writes are held and read back. SET_TIMESTAMP makes the time stamp read the value given;
SET_ALERT_CONFIGURATION, SET_EVENT_INTERRUPT_POLICY and, while the steward may write embedded flash, SET_SHUTDOWN_STATE hold their
values. While the steward may write, SET_LSA answers Success, and where the words are erased it writes exactly its bytes of the label
storage area; GET_LSA reads them; an access past 64 KiB answers Invalid Input and changes nothing. While the steward may not write, or
finds its block worn, both commands answer Retry Required and change nothing, which is the model's choice (log entry 107), as are the
words that the area takes (log entry 110). Rests on 09_host_interface.md, Mailbox; 16_management_registers_monitors.md, Timebase. -/
def Obligations.MailboxWritesAreHeld : Prop :=
  (∀ s : State, s.host.training = true → s.warm.engineUp = true →
    (∀ v : DWord, ∃ o, exec (.setTimestamp v) s =
      .next (msix 0 (emit (.answer .success []) { s with tbs := { s.tbs with offset := o } })) ∧
      (engineNow s + o) % 2 ^ 64 = v.toNat) ∧
    (∀ v, eflReady s = true → blockWorn 304 s = false →
      exec (.setShutdownState v) s = .next (msix 0 (emit (.answer .success []) { s with mbx := { s.mbx with shutdown := v } }))) ∧
    (∀ v, eflReady s = false ∨ blockWorn 304 s = true →
      exec (.setShutdownState v) s = .next (msix 0 (emit (.answer .retryRequired []) s))) ∧
    (∀ a b c, exec (.setAlertConfiguration (some a) (some b) (some c)) s = .next (msix 0 (emit (.answer .success [])
      { s with mbx := { s.mbx with lifeAlert := a, tempAlert := b, ceAlert := c } }))) ∧
    (exec (.setAlertConfiguration none none none) s = .next (msix 0 (emit (.answer .success []) s))) ∧
    (∀ i w f x, s.mbx.policy.length = 4 → exec (.setEventInterruptPolicy (some i) (some w) (some f) (some x)) s =
      .next (msix 0 (emit (.answer .success []) { s with mbx := { s.mbx with policy := [i, w, f, x] } })))) ∧
  ((∀ (s : State) (o : Nat) (data : List Byte), s.host.training = true → s.warm.engineUp = true →
    o + data.length ≤ 65536 → eflReady s = true → Sound s →
    (∀ w, (lsaBase + o) / 8 ≤ w → w < (lsaBase + o + data.length + 7) / 8 → (eflWord w s).programs = 0 ∧
      blockReads (blockOfWord w) s = true ∧ blockWorn (blockOfWord w) s = false) →
    ∃ t, exec (.setLsa o data) s = .next t ∧ .answer .success [] ∈ t.sent ∧
      (∀ i, i < data.length → data[i]? = some (lsaByte (o + i) t)) ∧
      (∀ a, a < o ∨ o + data.length ≤ a → lsaByte a t = lsaByte a s) ∧
      t = { s with sent := t.sent, host := { s.host with msixPending := t.host.msixPending }, efl := { s.efl with words := t.efl.words } }) ∧
  (∀ (s : State) (o : Nat) (data : List Byte), s.host.training = true → s.warm.engineUp = true →
    o + data.length ≤ 65536 → eflReady s = true →
    ∃ t, exec (.setLsa o data) s = .next t ∧ .answer .success [] ∈ t.sent) ∧
  (∀ (s : State) (o : Nat) (data : List Byte), s.host.training = true → s.warm.engineUp = true →
    o + data.length ≤ 65536 → eflReady s = false →
    exec (.setLsa o data) s = .next (msix 0 (emit (.answer .retryRequired []) s))) ∧
  (∀ (s : State) (o n : Nat), s.host.training = true → s.warm.engineUp = true → o + n ≤ 65536 →
    exec (.getLsa o n) s = .next (msix 0 (emit (.mailbox .success ((List.range n).map (fun i => lsaByte (o + i) s))) s))) ∧
  (∀ (s : State) (o n : Nat) (data : List Byte), s.host.training = true → s.warm.engineUp = true →
    65536 < o + n → 65536 < o + data.length →
    exec (.getLsa o n) s = .next (msix 0 (emit (.answer .invalidInput []) s)) ∧
    exec (.setLsa o data) s = .next (msix 0 (emit (.answer .invalidInput []) s))))

/-- Vendor commands need their keys, and SET_BOLT_CAP its complement. REQUEST_VAULT with the key drives VREQ in an
armed state, answers Busy otherwise, and with any other input answers Invalid Input. DROP_IMAGE with its key, when
background commands may start, empties the map, the locations and the poison list; with any other
input it answers Invalid Input. SET_BOLT_CAP with bolt, value and complement sets that cap alone; a bolt above 62, a
value of 2^27 or more or a wrong complement answers Invalid Input. Rests on 09_host_interface.md, Vendor commands. -/
def Obligations.VendorCommandsNeedTheirKeys : Prop :=
  ((∀ s : State, s.host.training = true → s.warm.engineUp = true →
    (isArmed s = true → exec (.requestVault [0x54, 0x4C, 0x41, 0x56, 0xAB, 0xB3, 0xBE, 0xA9]) s =
      .next (msix 0 (emit (.mailbox .success []) (drivePair .vreq true s)))) ∧
    (isArmed s = false → exec (.requestVault [0x54, 0x4C, 0x41, 0x56, 0xAB, 0xB3, 0xBE, 0xA9]) s =
      .next (msix 0 (emit (.mailbox .busy []) s))) ∧
    (∀ input, input ≠ [0x54, 0x4C, 0x41, 0x56, 0xAB, 0xB3, 0xBE, 0xA9] →
      exec (.requestVault input) s = .next (msix 0 (emit (.mailbox .invalidInput []) s))) ∧
    (mayStartBg s = true → ∃ t, exec (.dropImage [0x50, 0x4F, 0x52, 0x44, 0xAF, 0xB0, 0xAD,
      0xBB]) s = .next t ∧
      t.mbx.bg = some .dropImage ∧ t.cache.map = [] ∧ t.cache.loc = [] ∧ t.cache.poison = [] ∧ t.cache.fetches = []) ∧
    (∀ input, input ≠ [0x50, 0x4F, 0x52, 0x44, 0xAF, 0xB0, 0xAD, 0xBB] →
      exec (.dropImage input) s = .next (msix 0 (emit (.mailbox .invalidInput []) s))))) ∧
  ((∀ (s : State) (n v : Nat), s.host.training = true → s.warm.engineUp = true → s.drf.active ≠ none → n ≤ 62 →
    v < 2 ^ 27 →
    Sound s →
    ∃ t, exec (.setBoltCap (leBytes 4 n ++ leBytes 4 v ++ leBytes 4 (2 ^ 32 - 1 - v))) s = .next t ∧
      tget 0 t.cache.caps n = v ∧ (∀ m, m ≠ n → tget 0 t.cache.caps m = tget 0 s.cache.caps m) ∧
      t = { s with sent := t.sent, host := { s.host with msixPending := t.host.msixPending },
                   cache := { s.cache with caps := t.cache.caps } }) ∧
  (∀ (s : State) (n v c : Nat), s.host.training = true → s.warm.engineUp = true → n < 2 ^ 32 → v < 2 ^ 32 →
    c < 2 ^ 32 →
    63 ≤ n ∨ 2 ^ 27 ≤ v ∨ v + c ≠ 2 ^ 32 - 1 →
    exec (.setBoltCap (leBytes 4 n ++ leBytes 4 v ++ leBytes 4 c)) s = .next (msix 0 (emit (.mailbox .invalidInput []) s))))

/-- Vendor reports answer the registers they name. GET_VAULT_STATUS answers 64 bytes with the vault state, the fill,
the residual in bytes, E_guar and the energy per byte with its temperature at their offsets; GET_LOSS_REPORT answers 528 bytes with the loss words of the 64
bolts; VENDOR_GET_LOG answers the entries from the index named, oldest first; an input where none is allowed answers
Invalid Input. Rests on 09_host_interface.md, Vendor commands; 01_protection_guarantee.md, Loss order and the loss
report. -/
def Obligations.VendorReportsAnswer : Prop :=
  ∀ s : State, s.host.training = true → s.warm.engineUp = true →
    (∃ b, exec (.getVaultStatus []) s = .next (msix 0 (emit (.mailbox .success b) s)) ∧ b.length = 64 ∧
      b.take 4 = leBytes 4 (vltStateWord s) ∧ (b.drop 12).take 4 = leBytes 4 s.stg.fill ∧
      (b.drop 16).take 8 = leBytes 8 (4096 * residual s) ∧ (b.drop 40).take 4 = leBytes 4 s.stg.eGuar ∧
      (b.drop 44).take 4 = leBytes 4 (epbWord s)) ∧
    (∃ b, exec (.getLossReport []) s = .next (msix 0 (emit (.mailbox .success b) s)) ∧ b.length = 528 ∧
      (∀ n, n < 64 → (b.drop (16 + 8 * n)).take 4 = leBytes 4 (lossCutWord n s) ∧
        (b.drop (20 + 8 * n)).take 4 = leBytes 4 (lossCountWord n s))) ∧
    (∀ first count : BitVec 16, first.toNat ≤ 4095 → 0 < count.toNat → count.toNat ≤ 2048 →
      exec (.vendorGetLog ([0, 0, 0, 0] ++ leBytes 2 first.toNat ++ leBytes 2 count.toNat)) s =
        .next (msix 0 (emit (.mailbox .success ((logFrom first.toNat count.toNat s.log.ring).flatMap logBytes)) s))) ∧
    (∀ x l, exec (.getVaultStatus (x :: l)) s = .next (msix 0 (emit (.mailbox .invalidInput []) s)) ∧
      exec (.getLossReport (x :: l)) s = .next (msix 0 (emit (.mailbox .invalidInput []) s)))

/-- Background commands start, are refused and end. When they may start, SANITIZE, SEAL_IMAGE and
SECURE_ERASE become the background command with the first effect of each (map and poison emptied, a new key with a
noise source and room for its entry, under which no epoch of the old one goes on, or Aborted with the old key, with its fault where the
noise source fails; Aborted is the model's return code, log entry 101). When they may not, SANITIZE, SEAL_IMAGE and DROP_IMAGE answer Busy.
BACKGROUND_COMMAND_DONE ends a finished command with its code and a Seal Image that succeeded with its output (log entry 90), SEAL_TIMEOUT ends a seal with Retry Required, and
SEAL_RESIDUAL_ZERO opens the empty manifest epoch. Rests on 09_host_interface.md, Mailbox; 09_host_interface.md,
Vendor commands. -/
def Obligations.BackgroundCommandsRun : Prop :=
  (∀ s : State, s.host.training = true → s.warm.engineUp = true → mayStartBg s = true →
    (∃ t, exec .sanitize s = .next t ∧ t.mbx.bg = some .sanitize ∧ t.mbx.phase = .erasing ∧ t.cache.map = [] ∧
      t.cache.loc = [] ∧ t.cache.poison = [] ∧ t.cache.listed = [] ∧ t.stg.epochs = []) ∧
    (∃ t, exec (.sealImage []) s = .next t ∧ t.mbx.bg = some .sealImage ∧ t.mbx.phase = .draining ∧
      t.stg.sealBoost = true ∧
      t.cache = s.cache ∧ t.dram = s.dram) ∧
    (s.lcs.st = .mfg → ∃ t, exec (.secureErase true) s = .next t ∧ t.mbx.bg = some .secureErase ∧
      t.mbx.phase = .draining ∧ t.cache.map = [] ∧ t.stg.epochs = [] ∧
      t.cache.loc = [] ∧ t.cache.poison = [] ∧ t.lcs.keyId = s.lcs.keyId + 1 ∧ t.lcs.keyPresent = true ∧
        t.dram = s.dram) ∧
    (keyRoom s = true → sevOf 232 s ≤ 1 → ∃ t, exec (.secureErase true) s = .next t ∧ t.mbx.bg = some .secureErase ∧
      t.cache.map = [] ∧ t.cache.loc = [] ∧ t.cache.poison = [] ∧
      (t.mbx.phase = .draining ∧ t.lcs.keyId = s.lcs.keyId + 1 ∧ t.stg.epochs = [] ∨
       t.mbx.phase = .finished .aborted ∧ t.lcs = s.lcs)) ∧
    (keyRoom s = false → ∃ t, exec (.secureErase true) s = .next t ∧ t.mbx.bg = some .secureErase ∧
      t.mbx.phase = .finished .aborted ∧ t.cache.map = [] ∧ t.lcs = s.lcs) ∧
    (∃ t, exec (.secureErase false) s = .next t ∧ t.mbx.bg = some .secureErase ∧ t.mbx.phase = .finished .aborted ∧
      t.cache.map = [] ∧ t.lcs = s.lcs ∧ 16 ∈ t.flt.engineLive)) ∧
  (∀ s : State, s.host.training = true → s.warm.engineUp = true → mayStartBg s = false →
    exec .sanitize s = .next (msix 0 (emit (.answer .busy []) s)) ∧
    exec (.sealImage []) s = .next (msix 0 (emit (.mailbox .busy []) s)) ∧
    exec (.dropImage [0x50, 0x4F, 0x52, 0x44, 0xAF, 0xB0, 0xAD,
      0xBB]) s = .next (msix 0 (emit (.mailbox .busy []) s))) ∧
  (∀ (s : State) (c : BgCmd) (code : RetCode), s.mbx.bg = some c → s.mbx.phase = .finished code →
    s.cache.waiting = [] → (inTail s = true → s.stg.heldq = []) →
    ∃ t, exec .backgroundCommandDone s = .next t ∧ t.mbx.bg = none ∧ t.mbx.bgCode = code ∧ t.mbx.phase = .draining ∧
      t.stg.sealBoost = false ∧
      (c = .sealImage → code = .success →
        .mailbox .success (leBytes 8 s.mbx.bgResult.1 ++ leBytes 8 s.mbx.bgResult.2) ∈ t.sent)) ∧
  (∀ s : State, s.mbx.bg = some .sealImage → s.mbx.phase = .draining → s.cache.waiting = [] →
    (inTail s = true → s.stg.heldq = []) →
    ∃ t, exec .sealTimeout s = .next t ∧ t.mbx.bg = none ∧ t.mbx.bgCode = .retryRequired) ∧
  (∀ s : State, sealWaits s = true → residual s = 0 → isArmed s = true → s.warm.engineUp = true → s.stg.epochs = [] →
    s.stg.nextEpoch < 2 ^ 48 - 2 →
    ∃ t e, exec .sealResidualZero s = .next t ∧ t.mbx.phase = .sealing ∧ t.stg.epochs = [e] ∧ e.kind = .manifest ∧
      t.drain.manifest = some [] ∧ t.cache = s.cache ∧ t.dram = s.dram)

/-- Budget evaluation sets fill, deficit and reef levels; the terms follow temperature. BUDGET_EVAL_TICK with the
engine up (outside the exercise tail) sets fill and deficit from the budget terms, the levels 1 and 2 at their
thresholds, level 3 on deficit or held writes, and releases held writes in their order: none while the first does not fit, but those
whose granule is in the residual. EPB_RECOMPUTE_TICK
computes the energy per byte, the window energy and the fixed energy and leaves E_guar. Rests on
04_staging_and_budget.md, The terms of the budget; 04_staging_and_budget.md, Fill and reefing. -/
def Obligations.BudgetFollowsItsTerms : Prop :=
  (∀ s : State, s.warm.engineUp = true → s.chg.phase ≠ .tail →
    ∃ t, exec .budgetEvalTick s = .next t ∧ t.stg.fill = fillOf t ∧ t.stg.deficit = !(fits 0 t) ∧
      (setting s P.l1On ≤ t.stg.fill → t.stg.l1 = true) ∧ (setting s P.l2On ≤ t.stg.fill → t.stg.l2 = true) ∧
      (t.stg.fill < setting s P.l1Off → setting s P.l1Off ≤ setting s P.l1On → t.stg.l1 = false) ∧
      (t.stg.heldq ≠ [] → reefLevel t = 3) ∧ (t.stg.deficit = true → reefLevel t = 3) ∧
      t.stg.heldq.Sublist s.stg.heldq ∧ t.vlt.state = s.vlt.state ∧
      (∀ w q, s.stg.heldq = w :: q → (∀ x ∈ s.stg.heldq, inRes (entryOf (x.dpa / 4096) s) = false) →
        boltDiscards (boltOf s (w.dpa / 4096)) s = false → atCap (boltOf s (w.dpa / 4096)) s = false →
        fits (costOf (w.dpa / 4096) s) s = false → t.stg.heldq = s.stg.heldq) ∧
      ((∀ w ∈ s.stg.heldq, w.be = allBytes ∨ eccOf (byEight s) w.burst ≠ .uncorrectable) → t.vlt = s.vlt) ∧
      t.nand = { s.nand with discards := t.nand.discards } ∧ t.log = s.log ∧ t.restore = s.restore) ∧
  (∀ s : State, s.warm.engineUp = true → s.drf.active ≠ none →
    ∃ t, exec .epbRecomputeTick s = .next t ∧ t.stg.computed = true ∧ t.stg.epb = epbNow s ∧
      t.stg.eWindow = (setting s P.window + 1) * setting s P.windowPower ∧
      t.stg.eFixed = divUp (setting s P.vaultStartEnergy * 10 ^ 9 + epbNow s * bFixed s) (10 ^ 9) ∧
      t.stg.eGuar = s.stg.eGuar ∧ t.vlt = s.vlt ∧ t.nand = s.nand ∧ t.restore = s.restore)

/-- Energy frames set E_guar; stale frames derate it; admission timers raise sources. An accepted ENERGY_FRAME sets
E_guar, the state of charge and the drawn charge, ends the stale source, whose code is not broken, and advances the sequence. ENERGY_STALE_EXPIRY
raises the source first and then takes a sixteenth of the received value each time. REEF_HOLD_MAX_EXPIRY and
BUDGET_RECOVER_EXPIRY raise their sources and change no budget or map. GOV_TOKEN_TICK adds the rate to the governor
level up to its depth. Rests on 04_staging_and_budget.md, The terms of the budget; 04_staging_and_budget.md, Fill and
reefing; 04_staging_and_budget.md, The endurance governor. -/
def Obligations.EnergyFrameSetsBudget : Prop :=
  ((∀ (s : State) (hdr : FrameHdr) (e soc drawn : Nat), accepts .engine hdr s = true →
    ∃ t, exec (.energyFrame hdr e soc drawn) s = .next t ∧ t.stg.eGuar = e ∧ t.stg.eReceived = e ∧ t.stg.soc = soc ∧
      t.stg.drawn = drawn ∧ (tfind s.flt.engineBroken 6 = none → 6 ∉ t.flt.engineLive) ∧ t.hdlE.rxSeq = (s.hdlE.rxSeq + 1) % 256) ∧
  (∀ (s : State), s.warm.engineUp = true → s.flt.engineLive.contains 6 = true →
    ∃ t, exec .energyStaleExpiry s = .next t ∧ t.stg.eGuar = s.stg.eGuar - (s.stg.eReceived + 15) / 16 ∧
      t.stg.eReceived = s.stg.eReceived) ∧
  (∀ (s : State), s.warm.engineUp = true → s.flt.engineLive.contains 6 = false →
    ∃ t, exec .energyStaleExpiry s = .next t ∧ 6 ∈ t.flt.engineLive ∧ t.stg = s.stg ∧ t.cache = s.cache)) ∧
  ((∀ (s : State) (tag : Nat), isHeld tag s = true →
    ∃ t, exec (.reefHoldMaxExpiry tag) s = .next t ∧ 4 ∈ t.flt.engineLive ∧ t.stg = s.stg ∧ t.cache = s.cache) ∧
  (∀ s : State, s.stg.recovering = true →
    ∃ t, exec .budgetRecoverExpiry s = .next t ∧ 5 ∈ t.flt.engineLive ∧ t.stg = s.stg ∧ t.cache = s.cache) ∧
  (∀ s : State, setting s P.govRate ≠ 0 → s.warm.engineUp = true →
    ∃ t, exec .govTokenTick s = .next t ∧
      t.stg.govLevel = min (s.stg.govLevel + setting s P.govRate * 1000) (setting s P.govDepth * 2 ^ 20 : Nat) ∧
      t = { s with stg := { s.stg with govLevel := t.stg.govLevel, govMarks := t.stg.govMarks } }))

/-- Pages are programmed, knots recorded, and read-back knots or voids the epoch. With the shuttles running,
PAGE_PROGRAM_DONE of the first epoch with units left stores up to four of them with the epoch and key on a pass, leaves the
epoch's pages and the knots and marks a program again on a fail, with no page changed where no block is entered as bad and no
page of a pair passed, stores the page that passed where its partner failed, and
only notes the wait when the drain reserve forbids the block. KNOT_RECORD_PROGRAM writes the record with kind, slots, previous
knot, pages and key. KNOT_READBACK of a staging epoch makes it the newest knot when both copies verify; when one fails, when a
page of its knot fails to program, and at KNOT_TIMEOUT, the epoch ends with a void knot of REASON 2 that awaits its read-back
and is written where there is a place, and the location map stands. A page of a voided epoch whose program may have begun, for which the drain reserve had room (log entry 64), is stored, and
the epochs stand. The place of a void knot is the model's (log entry 52).
Rests on 04_staging_and_budget.md, Epochs and knots; 06_flash_image_format.md, Knot records and void knots;
06_flash_image_format.md, Reserve, spare capacity and STORE_DEGRADED. -/
def Obligations.PagesKnotsAndReadback : Prop :=
  ((∀ (s : State) (e : Epoch) (ptr b : Nat) (rB : NandResult), shuttlesRun s = true →
    s.stg.epochs.find? (fun e => !e.todo.isEmpty) = some e → (pageIsDup e = true → rB = .pass) →
    mayProgram e ptr b s = true → mustWait e (if pageIsDup e then [ptr, copyBPtr ptr b s] else [ptr]) s = false →
    ∃ t p, exec (.pageProgramDone ptr b .pass rB none) s = .next t ∧ tfind t.nand.pages ptr = some p ∧
      p.units = pageUnits e.todo ∧
      p.epoch = e.num ∧ p.key = s.lcs.keyId ∧ p.copyB = false ∧ p.reprogram = e.reprogram ∧ p.units.length ≤ 4) ∧
  (∀ (s : State) (e : Epoch) (ptr b : Nat) (r rB : NandResult), shuttlesRun s = true →
    s.stg.epochs.find? (fun e => !e.todo.isEmpty) = some e → r = .fail ∨ pageIsDup e = true ∧ rB = .fail →
    mayProgram e ptr b s = true → mustWait e (if pageIsDup e then [ptr, copyBPtr ptr b s] else [ptr]) s = false →
    ∃ t, exec (.pageProgramDone ptr b r rB none) s = .next t ∧ t.nand.knots = s.nand.knots ∧
      (∃ x ∈ t.stg.epochs, x.num = e.num ∧ x.todo = e.todo ∧ x.pages = e.pages ∧ x.reprogram = true) ∧
      ((∀ x ∈ s.nand.blocks, x.2.failed = false ∧ x.2.worn = false ∧ x.2.pe < setting s P.pslcCycles) →
        (∀ tg, wornFresh tg s = false) → provisionalIn (ptrBlock ptr) s = true →
        (pageIsDup e = true → provisionalIn (ptrBlock (copyBPtr ptr b s)) s = true) →
        (r = .fail → (pageIsDup e = true → rB = .fail) → t.nand.pages = s.nand.pages) ∧
        (r = .pass → ∃ p, tfind t.nand.pages ptr = some p ∧ p.units = pageUnits e.todo ∧ p.epoch = e.num))) ∧
  (∀ (s : State) (e : Epoch) (ptr b : Nat) (r rB : NandResult), shuttlesRun s = true →
    s.stg.epochs.find? (fun e => !e.todo.isEmpty) = some e →
    mayProgram e ptr b s = true → mustWait e (if pageIsDup e then [ptr, copyBPtr ptr b s] else [ptr]) s = true →
    exec (.pageProgramDone ptr b r rB none) s = .next { s with nand := { s.nand with
      reserveWait := s.nand.reserveWait.filter (fun w => w.1 ≠ e.num) ++
        [(e.num, if pageIsDup e then [ptr, copyBPtr ptr b s] else [ptr])] } }) ∧
  (∀ (s : State) (e : Epoch) (ptr b : Nat) (rB : NandResult), shuttlesRun s = true →
    s.stg.begun.find? (fun x => x.num = e.num) = some e → begunAt e ptr = true → (pageIsDup e = true → rB = .pass) →
    mayProgram e ptr b s = true → roomFor e (if pageIsDup e then [ptr, copyBPtr ptr b s] else [ptr]) s = true →
    ∃ t p, exec (.pageProgramDone ptr b .pass rB (some e.num)) s = .next t ∧ tfind t.nand.pages ptr = some p ∧
      p.units = pageUnits e.todo ∧ p.epoch = e.num ∧ t.stg.epochs = s.stg.epochs ∧ t.nand.knots = s.nand.knots)) ∧
  ((∀ (s : State) (e : Epoch) (l : List Epoch) (ptr ptrB : Nat), shuttlesRun s = true →
    s.stg.epochs = e :: l → e.closed ≠ none → e.todo = [] →
    e.phase = .filling → e.kind ≠ .final → recordPages e.num ptr ptrB [] s = true → mustWait e [ptr, ptrB] s = false →
    ∃ t k, exec (.knotRecordProgram ptr ptrB .pass .pass) s = .next t ∧ t.nand.knots = k :: s.nand.knots ∧
      k.epoch = e.num ∧ k.kind = e.kind ∧ k.slot = 4 * ptr ∧ k.slotB = 4 * ptrB ∧ k.prev = s.stg.lastKnot ∧
      k.pages = e.pages ∧ k.key = s.lcs.keyId ∧ k.readA = true ∧ k.readB = true ∧
      t.stg.lastKnot = s.stg.lastKnot ∧ t.cache.map = s.cache.map) ∧
  (∀ (s : State) (e : Epoch) (l : List Epoch) (ptr ptrB : Nat) (r rB : NandResult), shuttlesRun s = true →
    s.stg.epochs = e :: l → e.closed ≠ none → e.todo = [] → r = .fail ∨ rB = .fail →
    e.phase = .filling → e.kind = .staging → recordPages e.num ptr ptrB [] s = true → mustWait e [ptr, ptrB] s = false →
    ∃ t, exec (.knotRecordProgram ptr ptrB r rB) s = .next t ∧ t.stg.lastKnot = s.stg.lastKnot ∧
      (∀ x ∈ t.stg.epochs, x.num ≠ e.num) ∧
      (∃ w ∈ t.stg.voidReads, w.epoch = e.num ∧ w.reason = 2 ∧ w.ts = engineNow s) ∧ t.cache.loc = s.cache.loc)) ∧
  ((∀ (s : State) (e : Epoch) (r : List Epoch) (slot : Nat) (k : KnotRec) (a b : CopyRead), engineRuns s = true →
    s.stg.epochs = e :: r → e.phase = .knotProgrammed slot → e.kind = .staging →
    s.nand.knots.find? (fun k => k.slot = slot) = some k → verifies slot k.slotB a b s = true →
    ∃ t, exec (.knotReadback e.num a b) s = .next t ∧ t.stg.lastKnot = some slot ∧
      t.stg.lastKnotEpoch = e.num ∧
      (∀ x ∈ t.stg.epochs, x.num ≠ e.num) ∧ t.nand.voids = s.nand.voids ∧ s.stg.safeTs ≤ t.stg.safeTs) ∧
  (∀ (s : State) (e : Epoch) (r : List Epoch) (slot : Nat) (k : KnotRec) (a b : CopyRead), engineRuns s = true →
    s.stg.epochs = e :: r → e.phase = .knotProgrammed slot → e.kind = .staging →
    s.nand.knots.find? (fun k => k.slot = slot) = some k → verifies slot k.slotB a b s = false →
    ∃ t, exec (.knotReadback e.num a b) s = .next t ∧ t.stg.lastKnot = s.stg.lastKnot ∧
      (∀ x ∈ t.stg.epochs, x.num ≠ e.num) ∧
      (∃ w ∈ t.stg.voidReads, w.epoch = e.num ∧ w.reason = 2 ∧ w.ts = engineNow s) ∧
      (voidPlace e.num [] s ≠ none →
        ∃ v, t.nand.voids = v :: s.nand.voids ∧ v.epoch = e.num ∧ v.reason = 2 ∧ v.ts = engineNow s) ∧
      t.cache.loc = s.cache.loc) ∧
  (∀ (s : State) (e : Epoch) (r : List Epoch), engineRuns s = true → s.stg.epochs = e :: r → e.closed ≠ none →
    e.todo = [] → e.kind = .staging →
    ∃ t, exec (.knotTimeout e.num) s = .next t ∧ t.stg.lastKnot = s.stg.lastKnot ∧ (∀ x ∈ t.stg.epochs,
      x.num ≠ e.num) ∧
      (∃ w ∈ t.stg.voidReads, w.epoch = e.num ∧ w.reason = 2 ∧ w.ts = engineNow s) ∧
      (voidPlace e.num [] s ≠ none →
        ∃ v, t.nand.voids = v :: s.nand.voids ∧ v.epoch = e.num ∧ v.reason = 2 ∧ v.ts = engineNow s) ∧
      t.cache.loc = s.cache.loc))

/-- Staging opens epochs of one 512 KiB block and closes them by age. With no epoch open and no map checkpoint due,
STAGING_SELECT opens an epoch of the next number whose units all lie in the chosen block, at most 16,384 copies; with
nothing to choose it changes nothing. EPOCH_AGE_EXPIRY closes the open epoch at the engine's time. Rests on 04_staging_and_budget.md,
Choosing what to stage; 04_staging_and_budget.md, Epochs and knots. -/
def Obligations.StagingSelectFillsEpoch : Prop :=
  (∀ (s : State) (b : Nat) (reads : CopyReads), engineRuns s = true → s.stg.ckpt = none → chooseBlock s = some b → s.stg.epochs = [] →
    s.stg.nextEpoch < 2 ^ 48 - 2 → s.stg.sinceBase < 8388608 →
    ∃ t e, exec (.stagingSelect reads) s = .next t ∧ t.stg.epochs = [e] ∧ e.num = s.stg.nextEpoch ∧ e.kind = .staging ∧
      t.stg.nextEpoch = s.stg.nextEpoch + 1 ∧ e.copies ≤ 16384 ∧
      (reads.bursts = [] → t.dram = s.dram ∧ t.nand = s.nand) ∧
      (∀ u ∈ e.todo, u.kind = .staging ∧ u.index / 128 = b)) ∧
  (∀ (s : State) (reads : CopyReads), chooseBlock s = none → s.stg.ckpt = none → s.stg.sinceBase < 8388608 →
    exec (.stagingSelect reads) s = .next s) ∧
  (∀ (s : State) (e : Epoch), s.stg.epochs = [e] → e.closed = none →
    ∃ t, exec .epochAgeExpiry s = .next t ∧ t.stg.epochs = [{ e with closed := some (engineNow s) }] ∧
      t = { s with stg := { s.stg with epochs := t.stg.epochs } })

/-- Erases count, garbage collection moves, spare capacity sheds. A passed BLOCK_ERASE_DONE of a working block counts one
erase where no block is due for retirement, marks the block the chipset's own and removes exactly that block's pages; at the 64th
a root record goes into a root block that takes it, and the count begins again. GC_START takes the closed block with the fewest live slots when the erased pool is below the
drain reserve plus 64 GiB. GARBAGE_COLLECTION_READ of a live slot opens an epoch with its
unit. Once discovery and MAPLOAD are over, SPARE_CAPACITY_CHECK changes nothing while the spare rule holds, and otherwise sets degraded and
sheds bolts until it holds or none is left. Rests on 06_flash_image_format.md, Wear, bad blocks and retirement;
06_flash_image_format.md, Garbage collection; 06_flash_image_format.md, Reserve, spare capacity and STORE_DEGRADED. -/
def Obligations.BlocksAreErasedAndSpareKept : Prop :=
  ((∀ (s : State) (tg b : Nat), targetWorks tg s = true → (blockAt (blockKey tg b) s).worn = false →
    (blockAt (blockKey tg b) s).failed = false → s.vlt.state = .armed → nandOpen s = true →
    mayErase (blockKey tg b) s = true → Sound s →
    ∃ t, exec (.blockEraseDone tg b .pass) s = .next t ∧
      (satAdd 16777215 (blockAt (blockKey tg b) s).pe 1 < setting s P.pslcCycles →
        (∀ e ∈ s.nand.blocks, e.2.failed = false ∧ e.2.worn = false ∧ e.2.pe < setting s P.pslcCycles) →
        (∀ x, wornFresh x s = false) → (targetAt tg s).erases = 63 → (rootBlocks tg s).length = 2 →
        (∀ x ∈ rootBlocks tg s, satAdd 16777215 (blockAt x s).pe 1 < setting s P.pslcCycles ∧ imagePages x s = false) →
        (targetAt tg t).erases ≤ 1) ∧
      (satAdd 16777215 (blockAt (blockKey tg b) s).pe 1 < setting s P.pslcCycles →
        (∀ e ∈ s.nand.blocks, e.2.failed = false ∧ e.2.worn = false ∧ e.2.pe < setting s P.pslcCycles) →
        (∀ x, wornFresh x s = false) → (targetAt tg s).erases < 63 →
        (targetAt tg t).erases = (targetAt tg s).erases + 1 ∧
        blockAt (blockKey tg b) t = { pe := satAdd 16777215 (blockAt (blockKey tg b) s).pe 1, owned := true } ∧
        (∀ p ∈ t.nand.pages, p.1 / 4096 ≠ blockKey tg b) ∧ (∀ p ∈ s.nand.pages, p.1 / 4096 ≠ blockKey tg b →
          p ∈ t.nand.pages) ∧
        t.cache = s.cache ∧ t.dram = s.dram ∧ t.stg = s.stg)) ∧
  (∀ (s : State) (tg b : Nat), s.vlt.state = .armed → s.restore.st = .complete →
    erasedPool s < drainReserve s + 2 ^ 36 →
    blockClosed (blockKey tg b) (blockAt (blockKey tg b) s) s = true →
    (∀ e ∈ s.nand.blocks, blockClosed e.1 e.2 s = true → liveSlots (blockKey tg b) s ≤ liveSlots e.1 s) →
    exec (.gcStart tg b) s = .next { s with nand := { s.nand with gcBlock := some (blockKey tg b) } }) ∧
  (∀ (s : State) (slot g : Nat) (l : Loc) (u : NandUnit) (c : CopyRead)
      (bursts : List (Nat × Burst)), engineRuns s = true → s.vlt.state = .armed →
    s.nand.gcBlock = some (slot / 4 / 4096) → s.cache.loc.find? (fun e => e.2.a = slot) = some (g, l) →
    unitAt slot s = some u → s.stg.epochs = [] → s.stg.nextEpoch < 2 ^ 48 - 2 →
    ∃ t e, exec (.garbageCollectionRead slot .decodes c bursts) s = .next t ∧ t.stg.epochs = [e] ∧ e.kind = .gc ∧
      e.todo = [{ u with kind := .gc, source := some slot, fromDdr := false }] ∧ t.cache = s.cache ∧
        t.dram = s.dram)) ∧
  ((∀ s : State, s.drf.active ≠ none → 5 * unshedBytes s + 2 ^ 32 ≤ 2 * spareBytes s → s.nand.reassess = false →
    (∀ x, wornFresh x s = false) → (∀ e ∈ s.nand.blocks, e.2.failed = false ∧ e.2.worn = false ∧ e.2.pe < setting s P.pslcCycles) →
    exec .spareCapacityCheck s = .next s) ∧
  (∀ s : State, s.drf.active ≠ none → ¬ 5 * unshedBytes s + 2 ^ 32 ≤ 2 * spareBytes s → s.nand.reassess = false →
    discoveryDone s = true → s.restore.mapKnown = true → (∀ x, wornFresh x s = false) → (∀ e ∈ s.nand.blocks, e.2.failed = false ∧ e.2.worn = false ∧ e.2.pe < setting s P.pslcCycles) →
    ∃ t, exec .spareCapacityCheck s = .next t ∧ t.nand.degraded = true ∧ (∀ n ∈ s.nand.shed, n ∈ t.nand.shed) ∧
      (5 * unshedBytes t + 2 ^ 32 ≤ 2 * spareBytes t ∨ ∀ n ∈ drainBolts t, n ∈ t.nand.shed) ∧
      t.cache = s.cache ∧ t.dram = s.dram))

/-- Early warning, speculation, abandon and SPEC_BLOCKED. EARLY_WARNING computes VIN and SLOPE from the sampler's readings and, at
its level or slope condition, sets the warning, which ends with the conditions; SPEC_ABANDON_EXPIRY above the restart level with no
condition left sends the abandon frame. An accepted WARNING_FRAME makes ARMED SPECULATIVE and
counts, unless SPEC_BLOCKED. ABANDON_FRAME and SPEC_MAX_EXPIRY return to ARMED, count, and end the open epoch (with
REASON 1 at the frame), SPEC_MAX_EXPIRY setting SPEC_BLOCKED. An engine that belay has stopped changes no state by them. Rests on 05_vault.md, Early warning and speculative
vault. -/
def Obligations.SpeculationStartsAndEnds : Prop :=
  ((∀ (s : State) (l : List Nat) (below lv : Bool), s.pwr.keeper = true → s.vin.armed = true → s.drf.active ≠ none →
    s.vin.warn = false → isFrozen 2 s = false → exercising s = false → lv = true ∨ slopeWarns l s = true →
    ∃ t, exec (.earlyWarning l below lv) s = .next t ∧ t.vin.warn = true ∧
      t.hdlP = (sendFrame .pctrl (.warning 1) s).hdlP ∧
      (16 ≤ l.length → t.vin.vin = ((l.reverse.take 16).sum) / 16) ∧
      (80 ≤ l.length → t.vin.slope =
        250 * (((l.reverse.take 16).sum : Int) - (((l.reverse.drop 64).take 16).sum : Int)) / 1024) ∧
      t.vlt = s.vlt ∧ t.cache = s.cache ∧ t.stg = s.stg ∧ t.pwr = s.pwr) ∧
  (∀ (s : State) (l : List Nat) (below : Bool), s.pwr.keeper = true → isFrozen 0 s = false → exercising s = false →
    slopeWarns l s = false → ∃ t, exec (.earlyWarning l below false) s = .next t ∧ t.vin.warn = false ∧ t.sent = s.sent) ∧
  (∀ (s : State) (l : List Nat) (below : Bool), s.pwr.keeper = true → s.vin.armed = true → s.drf.active ≠ none →
    s.vin.warned = true → 16 ≤ l.length → slopeWarns l s = false →
    100 * (setting s P.vinWarn + setting s P.vinHyst) < 25 * ((l.reverse.take 16).sum / 16) →
    isFrozen 0 s = false → isFrozen 2 s = false →
    ∃ t, exec (.specAbandonExpiry l below) s = .next t ∧ t.vin.warn = false ∧ t.vin.warned = false ∧
      t.hdlP = (sendFrame .pctrl (.warning 2) s).hdlP ∧ t.vlt = s.vlt ∧ t.cache = s.cache ∧ t.stg = s.stg) ∧
  (∀ (s : State) (hdr : FrameHdr), accepts .engine hdr s = true → engineRuns s = true → s.vlt.state = .armed → s.vlt.specBlocked = false →
    ∃ t, exec (.warningFrame hdr) s = .next t ∧ t.vlt.state = .speculative ∧
      t.vlt.specStarts = satAdd max32 s.vlt.specStarts 1 ∧ t.cache = s.cache ∧ t.stg = s.stg) ∧
  (∀ (s : State) (hdr : FrameHdr), accepts .engine hdr s = true → s.vlt.state = .armed → s.vlt.specBlocked = true →
    ∃ t, exec (.warningFrame hdr) s = .next t ∧ t.vlt = s.vlt)) ∧
  ((∀ (s : State) (hdr : FrameHdr), accepts .engine hdr s = true → engineRuns s = true → s.vlt.state = .speculative →
    ∃ t, exec (.abandonFrame hdr) s = .next t ∧ t.vlt.state = .armed ∧ t.vlt.specBlocked = false ∧
      t.vlt.specAbandons = satAdd max32 s.vlt.specAbandons 1 ∧ t.dram = s.dram ∧
      (openEpoch s = none → t.nand = s.nand) ∧
      (∀ e, openEpoch s = some e → (∀ x ∈ t.stg.epochs, x.num ≠ e.num) ∧
        (∃ w ∈ t.stg.voidReads, w.epoch = e.num ∧ w.reason = 1 ∧ w.ts = engineNow s) ∧
        (voidPlace e.num [] s ≠ none →
          ∃ v, t.nand.voids = v :: s.nand.voids ∧ v.epoch = e.num ∧ v.reason = 1 ∧ v.ts = engineNow s))) ∧
  (∀ s : State, engineRuns s = true → s.vlt.state = .speculative →
    ∃ t, exec .specMaxExpiry s = .next t ∧ t.vlt.state = .armed ∧ t.vlt.specBlocked = true ∧
      t.vlt.specAbandons = satAdd max32 s.vlt.specAbandons 1 ∧ t.dram = s.dram ∧
      (∀ e, openEpoch s = some e → ∀ x ∈ t.stg.epochs, x.num ≠ e.num)) ∧
  (∀ (s : State) (hdr : FrameHdr), accepts .engine hdr s = true → engineRuns s = false →
    (∃ t, exec (.warningFrame hdr) s = .next t ∧ t.vlt = s.vlt) ∧
    (∃ t, exec (.abandonFrame hdr) s = .next t ∧ t.vlt = { s.vlt with specBlocked := false }) ∧ exec .specMaxExpiry s = .next s))

/-- A vault is confirmed once, with its cause, and PFAIL_N and the hold-up switch act. In ARMED or SPECULATIVE with no
confirmation yet, each of the causes named (the steward's request, VREQ, a frozen VREQ pair, the power-fail filter and
the input overvoltage) confirms with its cause number, time and count, closes the hold-up switch, asserts PFAIL_N and drives the
PF pair, leaving the engine's vault state, the cache, the memory and the staging block. Rests on 05_vault.md,
Confirmation; 10_power_tree.md, The hold-up switch. -/
def Obligations.ConfirmationCauses : Prop :=
  ∀ (s : State) (c : Instr) (k : Nat), s.pwr.keeper = true → s.drf.active ≠ none → s.flt.belay = false →
    s.vlt.confirming = false → s.vlt.state = .armed ∨ s.vlt.state = .speculative → s.warm.kind = .none →
    s.warm.confirmed = none →
    (c = .stewardVaultRequest ∧ k = 3 ∨
     c = .vreqActive ∧ k = 2 ∧ pairActive .vreq s = true ∧ (pairAt .vreq s).frozen = false ∧ engineJudged s = true ∧
       s.vlt.engineCause = false ∨
     c = .vreqActive ∧ k = 6 ∧ (pairAt .vreq s).frozen = true ∧ engineJudged s = true ∧ s.vlt.engineCause = false ∨
     (∃ v, c = .pfFilterExpiry v true false ∧ k = 1 ∧ s.vin.armed = true) ∨
     (c = .inputOvervoltage true ∧ k = 1 ∧ s.vin.armed = true)) →
    exercising s = false →
    ∃ t, exec c s = .next t ∧ t.vlt.cause = k ∧ t.vlt.source = 0 ∧ t.vlt.confirming = true ∧ t.vlt.confirmTs = now s ∧
      t.vlt.count = satAdd max32 s.vlt.count 1 ∧ t.vlt.state = s.vlt.state ∧ t.pwr.huMode = .closed ∧
      t.pwr.pfailAsserted = true ∧ t.cache = s.cache ∧ t.dram = s.dram ∧ t.stg = s.stg ∧
      (Sound s → pairActive .pf t = true)

/-- PF opens the window and the window ends in the fence. PF_ACTIVE in ARMED or SPECULATIVE enters WINDOW, or FENCED
at a collapse or a window of 0, and closes the open epoch. WINDOW_EXPIRY fences with FENCE_BY 2 at the engine's time,
records the manifest of the residual, drops the cap queues and flush requests and leaves map, pages and knots. Rests
on 05_vault.md, Window and fence; 05_vault.md, Staging epochs at confirmation. -/
def Obligations.WindowAndFence : Prop :=
  (∀ s : State, pairActive .pf s = true → s.warm.engineUp = true → s.flt.belay = false → s.vlt.confirming = true →
    s.vlt.state = .armed ∨ s.vlt.state = .speculative → s.warm.kind = .none → s.cache.waiting = [] →
    (inTail s = true → s.stg.heldq = []) → (∀ d ∈ shedOrder s, 8 ≤ d) →
    ∃ t, exec .pfActive s = .next t ∧
      t.vlt.state = (if s.vlt.collapse = true ∨ setting s P.window = 0 then .fenced else .window) ∧
      (∀ e, openEpoch s = some e → ∀ x ∈ t.stg.epochs, x.num = e.num → x.closed ≠ none) ∧ t.vlt.cause = s.vlt.cause) ∧
  (∀ s : State, s.vlt.state = .window → engineRuns s = true → (∀ d ∈ shedOrder s, 8 ≤ d) →
    ∃ t, exec .windowExpiry s = .next t ∧ t.vlt.state = .fenced ∧ t.vlt.fenceBy = 2 ∧ t.vlt.fenceTs = engineNow s ∧
      t.drain.manifest = some (manifestOf s) ∧ t.cache.capq = [] ∧ t.cache.map = s.cache.map ∧
        t.host.gpfWaiting = [] ∧
      t.nand.pages = s.nand.pages ∧ t.nand.knots = s.nand.knots)

/-- The drain follows the manifest to the final knot and HOLD ends in OFF. MANIFEST_BUILD opens a closed manifest
epoch whose units name exactly the manifest's granules. DRAIN_SELECT takes the next granules in drain order, at least
one where the first is not PENDING, and takes those that an uncorrectable line made DIRTY again first next time (the model's
reading, log entry 49). LOG_SNAPSHOT_DONE takes the log's copy, or keeps the old one as stale, and starts the system bolt's 290 units.
FINAL_KNOT_PROGRAM writes the final record with the number that VLT_COUNT took at the confirmation and the checkpoint's knot. HOLD_MAX_EXPIRY and
STORE_FLOOR_REACHED end HOLD in OFF; in OFF the floor opens the hold-up switch; a hold_max of 0 never ends it. Rests
on 05_vault.md, The fence manifest; 05_vault.md, Drain; 05_vault.md, System bolt and final knot; 05_vault.md, After
the final knot; 06_flash_image_format.md, Knot records and void knots. -/
def Obligations.DrainFollowsManifest : Prop :=
  ((∀ (s : State) (l : List Nat), engineRuns s = true → s.vlt.state = .fenced → s.stg.epochs = [] → s.drain.manifest = some l →
    s.stg.nextEpoch < 2 ^ 48 - 2 →
    ∃ t e, exec .manifestBuild s = .next t ∧ t.stg.epochs = [e] ∧ e.kind = .manifest ∧ e.num = s.stg.nextEpoch ∧
      e.closed = some (engineNow s) ∧ e.todo.length = (capGranules s + 32767) / 32768 ∧
      (∀ g < capGranules s, g ∈ l ↔ ∃ u ∈ e.todo, ∃ m, u.data = .manifest m ∧ g ∈ m) ∧ t.cache = s.cache ∧
        t.dram = s.dram) ∧
  (∀ (s : State) (reads : CopyReads), engineRuns s = true → s.vlt.state = .drain → s.stg.epochs = [] →
    s.drain.left ≠ [] → (∀ g, s.drain.left.head? = some g → (entryOf g s).pending = false) →
    s.stg.nextEpoch < 2 ^ 48 - 2 →
    ∃ t e, exec (.drainSelect reads) s = .next t ∧ t.stg.epochs = [e] ∧ e.kind = .drain ∧ e.num = s.stg.nextEpoch ∧
      e.closed = some (engineNow s) ∧ e.todo.map (·.index) = s.drain.left.take e.todo.length ∧ 0 < e.todo.length ∧
      t.drain.left = (s.drain.left.take e.todo.length).filter (fun g => (entryOf g t).st = .dirty) ++
        s.drain.left.drop e.todo.length ∧ e.copies ≤ 16384 ∧
      (reads.bursts = [] → t.drain.left = s.drain.left.drop e.todo.length ∧ t.dram = s.dram)) ∧
  (∀ s : State, s.drain.stage = .asked →
    ∃ t, exec (.logSnapshotDone true) s = .next t ∧ t.drain.mirror = ringSlots s ∧ t.drain.stage = .system ∧
      t.drain.sysLeft.length = 290 ∧ t.vlt = s.vlt ∧ t.cache = s.cache ∧ t.stg = s.stg) ∧
  (∀ s : State, s.drain.stage = .asked →
    ∃ t, exec (.logSnapshotDone false) s = .next t ∧ t.drain.mirror = s.drain.mirror ∧ t.vlt.logStale = true ∧
      t.drain.stage = .system ∧ t.drain.sysLeft.length = 290 ∧ t.cache = s.cache)) ∧
  (∀ (s : State) (ptr ptrB : Nat), shuttlesRun s = true → s.vlt.state = .knot → s.stg.epochs = [] → s.drain.stage = .checkpoint →
    s.drain.sysLeft = [] → s.drain.ckptKnot ≠ none → s.stg.nextEpoch < 2 ^ 48 - 2 →
    recordPages s.stg.nextEpoch ptr ptrB [] s = true →
    ∃ t k, exec (.finalKnotProgram ptr ptrB .pass .pass) s = .next t ∧ t.nand.knots = k :: s.nand.knots ∧ k.kind = .final ∧
      k.epoch = s.stg.nextEpoch ∧ k.slot = 4 * ptr ∧ k.slotB = 4 * ptrB ∧ k.prev = s.stg.lastKnot ∧ k.vault = s.vlt.number ∧
      (∃ m h y z f n, k.kindData = .final m (s.drain.ckptKnot.getD 0) h y z f n) ∧ t.vlt = s.vlt ∧
        t.cache = s.cache) ∧
  ((∀ s : State, s.vlt.state = .hold → setting s P.holdMax ≠ 0 → s.warm.kind = .none →
    ∃ t, exec .holdMaxExpiry s = .next t ∧ t.vlt.state = .off ∧ t.restore.st = .idle ∧ t.nand = s.nand ∧
      t.efl = s.efl) ∧
  (∀ s : State, s.pwr.keeper = true → s.vlt.state = .hold → s.warm.kind = .none →
    ∃ t, exec .storeFloorReached s = .next t ∧ t.vlt.state = .off ∧ t.cell.floor = true ∧ t.nand = s.nand) ∧
  (∀ s : State, s.pwr.keeper = true → s.vlt.state = .off →
    exec .storeFloorReached s = .next { s with cell := { s.cell with floor := true }, pwr := { s.pwr with huMode := .opened, huChecking := false } }) ∧
  (∀ s : State, setting s P.holdMax = 0 → exec .holdMaxExpiry s = .next s))

/-- Stalls retire channels or raise sources; heartbeats judge the other end. In FENCED to KNOT a stall of a path or
shuttle retires its channel and no epoch keeps a copy scheduled there (which are those is the model's reading, log entry 103), but at S4
its source alone is raised; a stall of the port, admission, map or sequencer
raises its source. The engine's heartbeat ends a reboot; the power controller's clears its stall; a timeout already
judged changes nothing, and the engine's timeout raises source 58 without changing the vault state. Rests on
08_engine_and_rail_link.md, Stall watchdogs; 08_engine_and_rail_link.md, Shuttle retirement; 02_architecture.md,
Keeper, selvedge and hold island. -/
def Obligations.StallsAndHeartbeats : Prop :=
  ((∀ (s : State) (c : Nat) (x : StallChannel), x = .path c ∨ (∃ t d, x = .shuttle c t d) → engineRuns s = true →
    s.vlt.state = .fenced ∨ s.vlt.state = .drain ∨ s.vlt.state = .knot → (∀ e ∈ s.stg.epochs, e.kind = .drain) →
    sevOf (stallSource x) s ≠ 4 →
    ∃ t, exec (.stallWatchdogExpiry x) s = .next t ∧ c ∈ t.vlt.retired ∧ channelRetired c t = true ∧
      (∀ e ∈ t.stg.epochs, scheduledOn c t e = false)) ∧
  (∀ (s : State) (c : Nat) (x : StallChannel), x = .path c ∨ (∃ t d, x = .shuttle c t d) → s.warm.engineUp = true →
    s.vlt.state = .fenced ∨ s.vlt.state = .drain ∨ s.vlt.state = .knot → sevOf (stallSource x) s = 4 →
    ∃ t, exec (.stallWatchdogExpiry x) s = .next t ∧ stallSource x ∈ t.flt.engineLive ∧ t.vlt = s.vlt ∧ t.stg = s.stg ∧ t.nand = s.nand) ∧
  (∀ (s : State) (x : StallChannel), x = .cxl ∨ x = .adm ∨ x = .map ∨ x = .vseq → s.warm.engineUp = true →
    ∃ t, exec (.stallWatchdogExpiry x) s = .next t ∧ stallSource x ∈ t.flt.engineLive ∧ t.stg = s.stg ∧
      t.nand = s.nand ∧
      t.cache = s.cache)) ∧
  ((∀ s : State, s.warm.engineUp = true → s.flt.engineLive.contains 12 = false → s.sel.phase = .rebooting →
    ∃ t, exec (.heartbeatToggle .engine) s = .next t ∧ t.sel.phase = .idle ∧ t.sel.hbe = !s.sel.hbe ∧
      t.sel.engineStalled = false) ∧
  (∀ s : State, s.pwr.keeper = true → tfind s.flt.engineBroken 58 = none →
    ∃ t, exec (.heartbeatToggle .pctrl) s = .next t ∧ t.sel.hbp = !s.sel.hbp ∧ t.sel.pcStalled = false ∧
      58 ∉ t.flt.engineLive) ∧
  (∀ s : State, engineJudged s = true → s.flt.belay = false → s.sel.phase = .idle → s.sel.engineStalled = true →
    exec (.heartbeatTimeout .pctrl) s = .next s) ∧
  (∀ s : State, s.warm.engineUp = true → s.flt.engineStopped = false → s.sel.pcStalled = false → linkUp s = true →
    ∃ t, exec (.heartbeatTimeout .engine) s = .next t ∧ t.sel.pcStalled = true ∧ 58 ∈ t.flt.engineLive ∧
      t.vlt.state = s.vlt.state ∧ t.cache = s.cache))

/-- The selvedge reboots the engine and the vault resumes from its knot. HOLD_ISLAND_READY has every rank in self-refresh: under the
selvedge it cools when the trigger was thermal and reboots otherwise, in HOLD it takes the engine's and the NAND's domains off, and in
belay VCORE_E and VPHY_E. REBOOT_TIMEOUT_EXPIRY tries again up to reboot_max; then VAULT_REBOOT_EXHAUSTED at S4, where its pair is not
frozen and no shadow holds it, is belay. COOL_WAIT_EXPIRY
reboots throttled. VAULT_RESUME after an engine reset unwraps the key and takes k from the newest accepted knot, or 0 where there is none,
which is the model's choice (log entry 55): epoch k + 6 is next, the void knots of k + 1 to k + 5 await their read-back, and the vault goes on in
FENCED with the manifest rebuilt, DRAIN or KNOT as that knot says, or ends after a final one; from CONFIRMED and WINDOW with no knot it fences with
FENCE_BY 5 at the stop time. Without the key nothing resumes and source 16 is raised. Rests on 05_vault.md,
Failures during a vault; 05_vault.md, After the final knot; 02_architecture.md, Keeper, selvedge and hold island; 13_faults_and_belay.md,
Belay. -/
def Obligations.SelvedgeRebootsAndResumes : Prop :=
  ((∀ s : State, pairActive .hold s = true → s.flt.belay = false → s.sel.phase = .holding → s.sel.thermal = true →
    ∃ t, exec .holdIslandReady s = .next t ∧ t.sel.phase = .cooling ∧ (domAt 1 t).on = false ∧
      (∀ c ∈ t.cache.ch, c.selfRefresh = true)) ∧
  (∀ s : State, pairActive .hold s = true → s.flt.belay = false → s.sel.phase = .holding → s.sel.thermal = false →
    s.sel.attempts < setting s P.rebootMax →
    ∃ t, exec .holdIslandReady s = .next t ∧ t.sel.phase = .rebooting ∧ t.sel.attempts = s.sel.attempts + 1 ∧
      (∀ c ∈ t.cache.ch, c.selfRefresh = true)) ∧
  (∀ s : State, pairActive .hold s = true → s.flt.belay = false → s.sel.phase ≠ .holding → s.vlt.state = .hold → s.warm.kind = .none →
    ∃ t, exec .holdIslandReady s = .next t ∧ (∀ c ∈ t.cache.ch, c.selfRefresh = true) ∧ t.vlt.state = .hold ∧
      (domAt 6 t).on = false ∧ (domAt 7 t).on = false ∧
      (t.pwr.offGroups = [] → (domAt 1 t).on = false ∧ (domAt 2 t).on = false)) ∧
  (∀ s : State, pairActive .hold s = true → s.flt.belay = true → s.flt.awaitHold = true →
    ∃ t, exec .holdIslandReady s = .next t ∧ t.flt.awaitHold = false ∧ (∀ c ∈ t.cache.ch, c.selfRefresh = true) ∧
      (domAt 1 t).on = false ∧ (domAt 2 t).on = false) ∧
  (∀ s : State, pairActive .hold s = false → exec .holdIslandReady s = .next s)) ∧
  ((∀ s : State, s.sel.phase = .rebooting → s.flt.belay = false → s.sel.attempts < setting s P.rebootMax →
    ∃ t, exec .rebootTimeoutExpiry s = .next t ∧ t.sel.phase = .rebooting ∧ t.sel.attempts = s.sel.attempts + 1 ∧
      (∀ c ∈ t.cache.ch, c.selfRefresh = true) ∧ (inVault s = true → t.vlt.reboots = satAdd 255 s.vlt.reboots 1)) ∧
  (∀ (s : State) (c : Instr), c = .rebootTimeoutExpiry ∧ s.sel.phase = .rebooting ∨
      c = .holdIslandReady ∧ pairActive .hold s = true ∧ s.sel.phase = .holding ∧ s.sel.thermal = false →
    s.flt.belay = false → setting s P.rebootMax ≤ s.sel.attempts →
    sevOf 162 s = 4 → (srcAt 162 s).frozen = false → shadowed 162 s = false → Sound s →
    ∃ t, exec c s = .next t ∧ t.sel.phase = .idle ∧ t.flt.rebootExhausted = true ∧ t.flt.belay = true ∧ t.flt.belayCause = 162) ∧
  (∀ s : State, s.sel.phase ≠ .rebooting ∨ s.flt.belay = true → exec .rebootTimeoutExpiry s = .next s) ∧
  (∀ s : State, s.sel.phase = .cooling → s.flt.belay = false →
    ∃ t, exec .coolWaitExpiry s = .next t ∧ t.sel.phase = .rebooting ∧ t.sel.attempts = s.sel.attempts ∧
      t.sel.thermal = false ∧ t.vlt.throttled = true) ∧
  (∀ s : State, s.sel.phase ≠ .cooling ∨ s.flt.belay = true → exec .coolWaitExpiry s = .next s)) ∧
  (∀ (s u : State) (reads : List PageRead), s.warm.kind = .engine → s.warm.step = 8 → inVault s = true → s.warm.engineUp = true →
    discoveryDone s = true → s.flt.belay = false → s.lcs.st ≠ .retired →
    (keyUnwraps s = false →
      ∃ t, exec (.vaultResume reads) s = .next t ∧ t.restore.keyOk = false ∧ 16 ∈ t.flt.engineLive ∧ t.vlt = s.vlt ∧ t.warm = s.warm) ∧
    (keyUnwraps s = true →
      u = noteReads reads { s with restore := { s.restore with keyOk := true }, nand := { s.nand with badHeaders := [], badSlots := [] } } →
      ((if linkUp u then searchFrom u.log.knotPtr u else newestKnot u) = none → s.vlt.state = .confirmed ∨ s.vlt.state = .window →
        ∃ t, exec (.vaultResume reads) s = .next t ∧ t.vlt.state = .fenced ∧ t.vlt.fenceBy = 5 ∧ t.vlt.fenceTs = s.warm.stopTs ∧
          t.vlt.manifestRebuilt = true ∧ t.drain.manifest = some (manifestOf s) ∧ t.warm.kind = .none ∧ t.warm.step = 0 ∧
          t.stg.nextEpoch = 6 ∧ t.restore.keyOk = true ∧
          (∀ i, 1 ≤ i → i ≤ 5 → ∃ w ∈ t.stg.voidReads, w.epoch = i ∧ w.reason = 7)) ∧
      (∀ k, (if linkUp u then searchFrom u.log.knotPtr u else newestKnot u) = some k →
        (endsVoided k.epoch u = true ∨ k.kind ≠ .final →
          ∃ t, exec (.vaultResume reads) s = .next t ∧ t.warm.kind = .none ∧ t.warm.step = 0 ∧ t.restore.keyOk = true ∧
            t.stg.lastKnot = some k.slot ∧ t.stg.lastKnotEpoch = k.epoch ∧ t.stg.nextEpoch = k.epoch + 6 ∧
            (∀ i, 1 ≤ i → i ≤ 5 → ∃ w ∈ t.stg.voidReads, w.epoch = k.epoch + i ∧ w.reason = 7) ∧
            (endsVoided k.epoch u = true ∨ k.kind = .staging ∨ k.kind = .gc ∨ k.vault ≠ s.vlt.number →
              t.vlt.state = .fenced ∧ t.vlt.manifestRebuilt = true) ∧
            (endsVoided k.epoch u = false → k.vault = s.vlt.number →
              (∃ m ∈ knottedChain u (some k.slot), m.kind = .manifest) →
              (k.kind = .manifest ∨ k.kind = .drain → t.vlt.state = .drain ∨ t.vlt.state = .knot) ∧
              (k.kind = .system ∨ k.kind = .ckptEnd → t.vlt.state = .knot ∧ t.drain.stage = .asked))) ∧
        (endsVoided k.epoch u = false → k.kind = .final → k.vault = s.vlt.number →
          (∃ m ∈ knottedChain u (some k.slot), m.kind = .manifest) →
          ∃ t, exec (.vaultResume reads) s = .next t ∧ t.vlt.endTs = engineNow s ∧ t.vlt.confirming = false ∧
            (t.vlt.state = .notArmed ∨ t.vlt.state = .hold ∨ t.vlt.state = .off)))))

/-- A source in fault is latched, counted, logged and captured first; clears need the condition gone.
SOURCE_ENTERS_FAULT at S0 or S1 of a source whose code the collector sees and whose pair is not frozen latches and counts that source
alone, records the first error when none is valid, and
logs entry 1. With the link down an engine source's code stays what it was, and the engine drives BELAYE at S4, and VREQ with the cause at
S3. A valid first error keeps all but its count. FIRST_ERROR_CLEAR empties it. LATCHED_CLEAR clears the
latch of a source out of fault alone and logs entry 2, and changes nothing while the condition holds. SEVERITY_RAISE
raises a source's severity, never below the draft's. Rests on 13_faults_and_belay.md, Sources; 13_faults_and_belay.md,
First-error capture; 13_faults_and_belay.md, FAULT_N and clearing; 13_faults_and_belay.md, Severities and reactions.
-/
def Obligations.SourcesEnterAndClear : Prop :=
  (∀ (s : State) (n d : Nat), s.pwr.keeper = true → present n = true → codeSeen n s = true → (srcAt n s).frozen = false →
    inFault (srcAt n s) = false → sevOf n s ≤ 1 → shadowed n s = false → Sound s → tget 0 s.log.written n < 16 → s.flt.first.valid = false →
    inDrainStates s = false →
    ∃ t e, exec (.sourceEntersFault n d) s = .next t ∧
      (srcAt n t).latched = true ∧ (srcAt n t).count = satAdd 255 (srcAt n s).count 1 ∧
      (∀ m, m ≠ n → srcAt m t = srcAt m s) ∧
      t.flt.first.valid = true ∧ t.flt.first.source = n ∧ t.flt.first.sev = sevOf n s ∧ t.flt.first.ts = now s ∧
      t.flt.first.shadowed = false ∧ t.log.ring.head? = some e ∧ e.code = 1 ∧ e.source = n ∧ e.ts = now s ∧
        e.seq = s.log.seq ∧
      t.vlt = s.vlt ∧ t.cache = s.cache ∧ t.dram = s.dram ∧ t.stg = s.stg ∧ t.pwr = s.pwr) ∧
  (∀ (s : State) (n d : Nat), s.pwr.keeper = true → present n = true → n < 160 → s.warm.engineUp = true → linkUp s = false →
    Sound s → isEvent n = true ∨ n ∉ s.flt.engineLive →
    ∃ t, exec (.sourceEntersFault n d) s = .next t ∧ (∀ m, srcAt m t = srcAt m s) ∧ t.log = s.log ∧
      (sevOf n s = 4 → pairActive .belaye t = true) ∧
      (sevOf n s = 3 → pairActive .vreq t = true ∧ (noVault s = true → t.vlt.cause = 4 ∧ t.vlt.source = n))) ∧
  ((∀ (s : State) (n d : Nat) (t : State), s.flt.first.valid = true → s.pwr.keeper = true →
    sevOf n s ≤ 1 → inDrainStates s = false → exec (.sourceEntersFault n d) s = .next t →
    { t.flt.first with more := 0 } = { s.flt.first with more := 0 } ∧ s.flt.first.more ≤ t.flt.first.more ∨
      255 ≤ s.flt.first.more) ∧
  (∀ (s : State) (m : Master), s.pwr.keeper = true →
    exec (.firstErrorClear m) s = .next { s with flt := { s.flt with first := {} } })) ∧
  ((∀ (s : State) (m : Master) (n : Nat), s.pwr.keeper = true → (srcAt n s).latched = true →
    inFault (srcAt n s) = false →
    n < 192 ∨ 194 < n → Sound s →
    ∃ t e, exec (.latchedClear m n) s = .next t ∧ srcAt n t = { srcAt n s with latched := false } ∧
      (∀ k, k ≠ n → srcAt k t = srcAt k s) ∧ t.log.ring.head? = some e ∧ e.code = 2 ∧ e.source = n ∧
      e.data0 = masterCode m ∧ t = { s with flt := t.flt, log := t.log }) ∧
  (∀ (s : State) (m : Master) (n : Nat), inFault (srcAt n s) = true → exec (.latchedClear m n) s = .next s) ∧
  (∀ (s : State) (m : Master) (n v : Nat) (a : Bool), s.pwr.keeper = true → present n = true → draftSev n s ≤ v →
    v ≤ 4 →
    fixedSources.contains n = false → (srcAt n s).latched = false → Sound s →
    ∃ t, exec (.severityRaise m n v a) s = .next t ∧ sevOf n t = v ∧ alertOf n t = a ∧
      t = { s with flt := { s.flt with sources := t.flt.sources } }))

/-- Broken codes are faults; broken pairs freeze safe; bad inputs freeze. SOURCE_BROKEN latches the source with its
broken code and sets the signal-integrity flag, where the collector sees its code. PAIR_BROKEN of HOLD freezes it active, raises its source and has DDR5 in self-refresh;
PAIR_RELEASE takes the valid code, and DDR5 leaves self-refresh where HOLD is then inactive and no DDR5 controller is in
reset. INPUT_STUCK of input 0 and INPUT_CHATTER of input 3 freeze that input; INPUT_RELEASE of the only
frozen input ends the freeze and logs entry 9. INPUT_CHATTER of input 102 freezes the pair of the source it names in fault, and
INPUT_RELEASE lets that pair follow its wires again. Rests on 13_faults_and_belay.md, Source signalling;
13_faults_and_belay.md, Collector self-faults; 13_faults_and_belay.md, Input discipline. -/
def Obligations.BrokenCodesPairsAndInputs : Prop :=
  (∀ (s : State) (n : Nat) (b : Bool), s.pwr.keeper = true → present n = true → codeSeen n s = true →
    (srcAt n s).frozen = false → inFault (srcAt n s) = false → sevOf n s ≤ 1 → inDrainStates s = false → shadowed n s = false → Sound s →
    ∃ t, exec (.sourceBroken n b b) s = .next t ∧ t.flt.si = true ∧ (srcAt n t).latched = true ∧
      brokenCode (srcAt n t) = true ∧
      t.vlt = s.vlt ∧ t.cache = s.cache) ∧
  ((∀ (s : State) (b : Bool), Sound s → s.pwr.keeper = true → s.warm.engineUp = true → (pairAt .hold s).frozen = false →
    ∃ t, exec (.pairBroken .hold b b) s = .next t ∧ (pairAt .hold t).frozen = true ∧ pairActive .hold t = true ∧
      t.flt.si = true ∧ (∀ c ∈ t.cache.ch, c.selfRefresh = true ∧ c.held = true) ∧
      62 ∈ t.flt.engineLive) ∧
  (∀ (s : State) (p : PairId) (b : Bool), Sound s → (pairAt p s).frozen = true →
    ∃ t, exec (.pairRelease p b (!b)) s = .next t ∧ pairAt p t = { t := b, c := !b, frozen := false } ∧
      (p ≠ .hold → t.cache = s.cache) ∧ t.dram = s.dram ∧
      (p = .hold → b = false → s.warm.engineUp = true → s.flt.belay = false → s.vlt.state ≠ .hold → ddrInReset s = false →
        ∀ c ∈ t.cache.ch, c.selfRefresh = false ∧ c.held = false))) ∧
  ((∀ s : State, s.pwr.keeper = true → tfind s.flt.frozen 0 = none → sevOf 229 s ≤ 1 → inDrainStates s = false →
    ∃ t, exec (.inputStuck 0) s = .next t ∧ tfind t.flt.frozen 0 = some .stuck) ∧
  (∀ (s : State) (x : Nat), s.pwr.keeper = true → tfind s.flt.frozen 3 = none → sevOf 230 s ≤ 1 → inDrainStates s = false →
    ∃ t, exec (.inputChatter 3 x) s = .next t ∧ tfind t.flt.frozen 3 = some .chatter ∧ t.warm = s.warm) ∧
  (∀ (s : State) (n x : Nat) (f : Frozen), n ≠ 102 → s.flt.frozen = [(n, f)] →
    ∃ t e, exec (.inputRelease n x) s = .next t ∧ t.flt.frozen = [] ∧ t.log.ring.head? = some e ∧ e.code = 9) ∧
  (∀ (s : State) (n : Nat), s.pwr.keeper = true → present n = true → (srcAt n s).frozen = false → sevOf n s ≤ 1 →
    inDrainStates s = false → shadowed n s = false → Sound s →
    ∃ t, exec (.inputChatter 102 n) s = .next t ∧ (srcAt n t).frozen = true ∧ inFault (srcAt n t) = true) ∧
  (∀ (s : State) (n : Nat), present n = true → (srcAt n s).frozen = true → (srcAt n s).wireT = false →
    (srcAt n s).wireC = true → Sound s →
    ∃ t e, exec (.inputRelease 102 n) s = .next t ∧ (srcAt n t).frozen = false ∧ inFault (srcAt n t) = false ∧
      t.log.ring.head? = some e ∧ e.code = 9 ∧ e.data0 = 102))

/-- Severity decides the reaction to a source. A source whose code the collector sees, entering fault at S4 enters belay with its number, PFAIL_N
asserted and the hold-up switch closed; at S3 in ARMED it confirms a vault with cause 4 and its number; at S2, not
escalated and not shadowed, it resets its unit and starts its shadow. Rests on 13_faults_and_belay.md, Severities and
reactions; 13_faults_and_belay.md, Reaction shadows; 13_faults_and_belay.md, Belay. -/
def Obligations.SeverityDecidesReaction : Prop :=
  ∀ (s : State) (n d : Nat), s.pwr.keeper = true → present n = true → codeSeen n s = true → (srcAt n s).frozen = false →
    inFault (srcAt n s) = false → shadowed n s = false →
    Sound s → s.flt.belay = false → exercising s = false → inDrainStates s = false →
    (sevOf n s = 4 → ∃ t, exec (.sourceEntersFault n d) s = .next t ∧ t.flt.belay = true ∧ t.flt.belayCause = n ∧
      t.pwr.pfailAsserted = true ∧ t.pwr.huMode = .closed) ∧
    (sevOf n s = 3 → s.vlt.confirming = false → s.vlt.state = .armed → s.warm.kind = .none → s.warm.confirmed = none →
      ∃ t, exec (.sourceEntersFault n d) s = .next t ∧ t.vlt.confirming = true ∧ t.vlt.cause = 4 ∧ t.vlt.source = n ∧
        t.vlt.confirmTs = now s ∧ t.flt.belay = false ∧ t.cache = s.cache ∧ t.dram = s.dram) ∧
    (sevOf n s = 2 → escalates n s = false → s.flt.shadows.contains n = false →
      ∃ t, exec (.sourceEntersFault n d) s = .next t ∧ unitOf n s ∈ t.flt.resets ∧ n ∈ t.flt.shadows ∧
        t.vlt.confirming = s.vlt.confirming ∧
        t.flt.belay = false ∧ t.dram = s.dram)

/-- Unit resets start, end and shadow; fault frames set codes. STEWARD_UNIT_RESET resets the unit, logs entry 7 and
leaves memory and vault state; UNIT_RESET_DONE ends it and loads a NAND-path unit's key; SHADOW_EXPIRY ends a shadow whose set is quiet. An accepted
FAULT_FRAME with a normal code takes an engine source, whose pair is not frozen, out of fault. Rests on 13_faults_and_belay.md, Reaction shadows;
13_faults_and_belay.md, Severities and reactions; 13_faults_and_belay.md, Source signalling. -/
def Obligations.UnitResetShadowsAndEnds : Prop :=
  ((∀ (s : State) (u : UnitId), s.pwr.keeper = true → s.flt.belay = false →
    s.flt.resets.contains (unitCode u) = false →
    s.warm.engineUp = true →
    ∃ t e, exec (.stewardUnitReset u) s = .next t ∧ unitCode u ∈ t.flt.resets ∧ t.log.ring.head? = some e ∧
      e.code = 7 ∧
      e.data0 = 3 ∧ e.data1 = unitCode u % 2 ^ 32 ∧ t.dram = s.dram ∧
      t.vlt.state = s.vlt.state ∧ (s.stg.epochs = [] → u ≠ .vaultSequencer → t.vlt = s.vlt)) ∧
  (∀ (s : State) (u : UnitId), s.flt.resets.contains (unitCode u) = true →
    (inTail s = true → s.cache.waiting = [] ∧ s.stg.heldq = []) →
    ∃ t, exec (.unitResetDone u) s = .next t ∧ unitCode u ∉ t.flt.resets ∧ t.log = s.log ∧ t.vlt.state = s.vlt.state ∧
      (8 ≤ unitCode u → unitCode u ≤ 32 → s.lcs.st ≠ .retired → keyUnwraps s = true → t.restore.keyOk = true) ∧
      (s.cache.waiting = [] → s.stg.heldq = [] → keyUnwraps s = true → t.vlt = s.vlt)) ∧
  (∀ (s : State) (n : Nat), s.flt.shadows.contains n = true →
    (∀ m ∈ shadowSet n s, inFault (srcAt m s) = false) →
    exec (.shadowExpiry n) s = .next { s with flt := { s.flt with shadows := dropFrom n s.flt.shadows } })) ∧
  (∀ (s : State) (hdr : FrameHdr) (n : Nat), accepts .pctrl hdr s = true → n < 160 → present n = true →
    Sound s → (srcAt n s).t = true → (srcAt n s).c = false → (srcAt n s).frozen = false →
    ∃ t, exec (.faultFrame hdr [(n, false, true)]) s = .next t ∧
      srcAt n t = { srcAt n s with t := false, c := true, owed := false } ∧ t.hdlP.rxSeq = (s.hdlP.rxSeq + 1) % 256 ∧
      t.vlt = s.vlt ∧ t.cache = s.cache ∧ t.log = s.log)

/-- Belay stops the chipset and recovery resets it; the selvedge is checked. BELAYE_ACTIVE enters belay with its
pairs, switches, charger and log entry 4; BELAYP_ACTIVE stops the engine and drops held writes; BELAY_WP_TIMEOUT
protects the NAND and removes its rails; NAND_RB_N_CHANGE follows the pin. RECOVER and BELAY_SETTLE_EXPIRY with VIN
good leave belay by path 2 into a chipset warm reset and count. A passed SELVEDGE_CHECK clears its source and a
timeout raises it; a collector self-check with no mismatch changes nothing and one with a mismatch is a self-fault, which is belay.
Rests on 13_faults_and_belay.md, Belay; 13_faults_and_belay.md, Collector self-faults; 02_architecture.md, Keeper,
selvedge and hold island. -/
def Obligations.BelayStopsAndRecovers : Prop :=
  ((∀ s : State, s.pwr.keeper = true → pairActive .belaye s = true → belayeJudged s = true → s.flt.belay = false →
    exercising s = false → Sound s →
    ∃ t e, exec .belayeActive s = .next t ∧ t.flt.belay = true ∧ t.flt.entries = satAdd 255 s.flt.entries 1 ∧
      pairActive .belayp t = true ∧ pairActive .hold t = true ∧ t.pwr.pfailAsserted = true ∧ t.pwr.huMode = .closed ∧
      t.chg.st = .off ∧ t.pwr.shedding = [] ∧ t.log.ring.head? = some e ∧ e.code = 4) ∧
  (∀ s : State, pairActive .belayp s = true → s.warm.engineUp = true →
    ∃ t, exec .belaypActive s = .next t ∧ t.flt.engineStopped = true ∧ t.stg.heldq = [] ∧ t.cache.capq = []) ∧
  (∀ s : State, s.flt.belay = true → s.flt.nandOff = true → Sound s →
    ∃ t, exec .belayWpTimeout s = .next t ∧ t.flt.nandOff = false ∧ (∀ c < 12, (channelAt c t).wpAsserted = true) ∧
      (domAt 6 t).on = false ∧ (domAt 7 t).on = false ∧ t.cache = s.cache ∧ t.dram = s.dram) ∧
  (∀ (s : State) (tg : Nat) (r : Bool), declared tg s = true → s.flt.belay = false → Sound s →
    ∃ t, exec (.nandRbNChange tg r) s = .next t ∧
      (targetAt tg t).idle = (r && (tfind s.flt.frozen (tg + 6)).isNone) ∧
      t = { s with nand := { s.nand with targets := t.nand.targets } })) ∧
  (∀ (s : State) (c : Instr), s.flt.belay = true → mayRecover s = true → inVault s = false →
    pairActive .pf s = false →
    s.vin.good = true →
    (∃ m, c = .recover m) ∨
      c = .belaySettleExpiry ∧ s.flt.stewardHalted = false ∧ s.flt.recoveries < setting s P.belayRecoverMax →
    ∃ t, exec c s = .next t ∧ t.flt.belay = false ∧ t.flt.lastPath = 2 ∧
      t.flt.recoveries = satAdd 7 s.flt.recoveries 1 ∧
      t.flt.engineStopped = false ∧ t.warm.kind = .chipset ∧ t.warm.step = 3 ∧ t.dram = s.dram) ∧
  ((∀ s : State, s.pwr.keeper = true → s.flt.stewardHalted = false → s.drf.active ≠ none → Sound s →
    (srcAt 160 s).frozen = false →
    ∃ t, exec (.selvedgeCheck true false) s = .next t ∧ inFault (srcAt 160 t) = false ∧ t.sel = s.sel ∧
      t.warm = s.warm) ∧
  (∀ s : State, s.pwr.keeper = true → s.drf.active ≠ none → Sound s → (srcAt 160 s).frozen = false →
    ∃ t, exec .selvedgeCheckTimeout s = .next t ∧ inFault (srcAt 160 t) = true) ∧
  (∀ s : State, s.pwr.keeper = true → exec (.collectorSelfCheck []) s = .next s) ∧
  (∀ (s : State) (m : Nat × Nat) (l : List (Nat × Nat)), s.pwr.keeper = true →
    ∃ t, exec (.collectorSelfCheck (m :: l)) s = .next t ∧ t.flt.self = true ∧
      (Sound s → inFault (srcAt 235 s) = false → t.flt.belay = true)))

/-- The trouble log keeps order, sequence and merged engine entries. LOG_MARK and the end of a second with a
suppressed source add one entry of their code with the next sequence number and time. An engine entry not yet present
is added with flag bit 3, one already present is not added twice. A knot pointer is taken only with its complement.
Rests on 13_faults_and_belay.md, The trouble log; 02_architecture.md, Between the packages. -/
def Obligations.LogKeepsSequence : Prop :=
  (∀ (s : State) (v : Word), s.pwr.keeper = true →
    ∃ t e, exec (.logMark v) s = .next t ∧ t.log.ring = (e :: s.log.ring).take 4096 ∧ e.code = 13 ∧
      e.data0 = v.toNat ∧
      e.seq = s.log.seq ∧ e.ts = now s ∧ t.log.seq = (s.log.seq + 1) % 2 ^ 32 ∧ t = { s with log := t.log }) ∧
  (∀ s : State, s.pwr.keeper = true →
    ∃ t, exec .logSecondEnd s = .next t ∧ t.log.written = [] ∧ t.log.suppressed = [] ∧ t = { s with log := t.log } ∧
      (∀ n k, s.log.suppressed = [(n, k)] → ∃ e, t.log.ring = (e :: s.log.ring).take 4096 ∧ e.code = 3 ∧
        e.source = n ∧
        e.data0 = k % 2 ^ 64)) ∧
  (∀ (s : State) (hdr : FrameHdr) (ts code source flags d0 d1 st : Nat), accepts .pctrl hdr s = true → flags < 8 →
    (∀ e ∈ s.log.ring, ¬ (e.ts = ts ∧ e.code = code ∧ e.source = source)) →
    ∃ t, exec (.logFrame hdr (.entry ts code source flags d0 d1 st)) s = .next t ∧
      t.log.ring = ({ ts := ts, code := code, source := source, flags := flags + 8, seq := s.log.seq, data0 := d0, data1 := d1,
                      state := st } :: s.log.ring).take 4096) ∧
  (∀ (s : State) (hdr : FrameHdr) (ts code source flags d0 d1 st : Nat),
    (∃ e ∈ s.log.ring, e.ts = ts ∧ e.code = code ∧ e.source = source) →
    ∃ t, exec (.logFrame hdr (.entry ts code source flags d0 d1 st)) s = .next t ∧ t.log = s.log) ∧
  (∀ (s : State) (hdr : FrameHdr) (a b c d : Nat), accepts .pctrl hdr s = true →
    ∃ t, exec (.knotPointerFrame hdr a b c d) s = .next t ∧
      (a + c = 2 ^ 64 - 1 ∧ b + d = 2 ^ 64 - 1 → t.log.knotPtr = some (a, b)) ∧
      (¬ (a + c = 2 ^ 64 - 1 ∧ b + d = 2 ^ 64 - 1) → t.log.knotPtr = s.log.knotPtr))

/-- Rail-link commands are acknowledged with code, sequence, current and voltage. A SET above 180, or with slew 3, is refused
with code 2 and leaves output, target and slew; a valid SET starts a slew, acknowledged at SLEW_SETTLED with code 0
and the target voltage; QUERY answers code 4 with output and target; ENGAGE is recorded; a wrong complement, or a frame
that is not whole (counted too by the model's choice, log entry 59), only counts an error. Rests on 08_engine_and_rail_link.md, Rail link; 10_power_tree.md, The VCORE_E controller. -/
def Obligations.RailCommandsAreAcknowledged : Prop :=
  (∀ (s : State) (w : Word) (x : RailShape) (i : Nat), frameWhole x = true → vcmdDecoded s = true → w.toNat / 2 ^ 28 = 1 →
    180 < w.toNat % 256 ∨ w.toNat / 2 ^ 16 % 4 = 3 →
    s.vcore.fallback = false →
    s.vcore.lastWord ≠ some w.toNat →
    ∃ t a, exec (.set w (~~~w) x i) s = .next t ∧ t.sent = .acknowledge a :: s.sent ∧ a / 2 ^ 28 = 2 ∧
      a / 2 ^ 24 % 16 = w.toNat / 2 ^ 24 % 16 ∧ a / 2 ^ 16 % 128 = i % 128 ∧ t.vcore.target = s.vcore.target ∧ t.vcore.vout = s.vcore.vout ∧
      t.vcore.slewing = s.vcore.slewing) ∧
  (∀ (s : State) (w : Word) (x : RailShape) (i : Nat), frameWhole x = true → vcmdDecoded s = true → w.toNat / 2 ^ 28 = 1 →
    w.toNat % 256 ≤ 180 → w.toNat / 2 ^ 16 % 4 ≠ 3 →
    s.vcore.fallback = false →
    s.vcore.lastWord ≠ some w.toNat → s.vcore.slewing = none → s.vcore.vout ≠ w.toNat % 256 →
    ∃ t, exec (.set w (~~~w) x i) s = .next t ∧ t.sent = s.sent ∧ t.vcore.target = w.toNat % 256 ∧
      t.vcore.slewing = some (w.toNat / 2 ^ 24 % 16) ∧ t.vcore.vout = s.vcore.vout) ∧
  (∀ (s : State) (w : Word) (x : RailShape) (i : Nat), frameWhole x = true → vcmdDecoded s = true → w.toNat / 2 ^ 28 = 2 →
    s.vcore.fallback = false →
    ∃ t a, exec (.query w (~~~w) x i) s = .next t ∧ t.sent = .acknowledge a :: s.sent ∧ a / 2 ^ 28 = 4 ∧
      a / 2 ^ 24 % 16 = w.toNat / 2 ^ 24 % 16 ∧ a / 2 ^ 16 % 128 = i % 128 ∧ (s.vcore.slewing = none → a / 256 % 256 = s.vcore.vout % 256) ∧ a % 256 = s.vcore.target % 256) ∧
  (∀ (s : State) (w : Word) (x : RailShape) (i : Nat), frameWhole x = true → vcmdDecoded s = true → w.toNat / 2 ^ 28 = 3 →
    s.vcore.fallback = false →
    exec (.engage w (~~~w) x i) s = .next { s with vcore := { s.vcore with lastWord := some w.toNat, lastAck := none, iout := i } }) ∧
  (∀ (s : State) (w c : Word) (x : RailShape) (i : Nat), vcmdDecoded s = true → frameTaken w c x = false →
    exec (.set w c x i) s = .next { s with vcore := { s.vcore with errs := satAdd max32 s.vcore.errs 1 } }) ∧
  (∀ (s : State) (q i : Nat), s.vcore.slewing = some q → s.vcore.on = true → q < 16 →
    ∃ t a, exec (.slewSettled i) s = .next t ∧ t.sent = .acknowledge a :: s.sent ∧ a / 2 ^ 28 = 0 ∧
      a / 2 ^ 24 % 16 = q ∧ a / 2 ^ 16 % 128 = i % 128 ∧
      t.vcore.slewing = none ∧ t.vcore.vout = s.vcore.target ∧ t.vcore.target = s.vcore.target)

/-- The rail link retries and falls back; the governor steps setpoint and engage. The fourth unanswered transmission
takes the link down and gives up what is unacknowledged, which is the model's choice (log entry 100); an acknowledge that is not whole or has a wrong complement only counts, a good one brings the link back,
outside the loop's states with vcore_normal as the setpoint; an idle
engine queries; fallback raises the target to vfall. In a vault an occupied window steps the setpoint up by up_step to
at most 180, four calm windows step it down by one, and ENGAGE_STEP moves by at most its step. Rests on
08_engine_and_rail_link.md, Rail link; 08_engine_and_rail_link.md, Setpoints and the adaptive loop;
08_engine_and_rail_link.md, Engage steps. -/
def Obligations.RailLinkRetriesAndGoverns : Prop :=
  ((∀ (s : State) (w : Nat), s.rail.outstanding = [(w, 3)] → s.rail.linkDown = false →
    exec (.railAckTimeout (cmdSeq w)) s = .next { s with sent := .command w :: s.sent, rail := { s.rail with outstanding := [(w, 4)] } }) ∧
  (∀ (s : State) (q : Nat), s.rail.outstanding.any (fun c => cmdSeq c.1 = q) = false →
    exec (.railAckTimeout q) s = .next s) ∧
  (∀ (s : State) (w : Nat), s.rail.outstanding = [(w, 4)] → s.rail.linkDown = false →
    ∃ t, exec (.railAckTimeout (cmdSeq w)) s = .next t ∧ t.rail.linkDown = true ∧ t.rail.loopOn = false ∧ t.rail.outstanding = [] ∧
      57 ∈ t.flt.engineLive ∧ t.rail.setpoint = s.rail.setpoint ∧ t.cache = s.cache) ∧
  (∀ (s : State) (w c : Word) (x : RailShape), s.warm.engineUp = true → frameTaken w c x = false →
    exec (.railAck w c x) s = .next { s with rail := { s.rail with errs := satAdd max32 s.rail.errs 1 } }) ∧
  (∀ (s : State) (w : Word) (x : RailShape), frameWhole x = true → s.warm.engineUp = true → s.rail.linkDown = true →
    loopStates s = false → tfind s.flt.engineBroken 57 = none →
    ∃ t, exec (.railAck w (~~~w) x) s = .next t ∧ t.rail.linkDown = false ∧ 57 ∉ t.flt.engineLive ∧
      t.rail.setpoint = setting s P.vcoreNormal ∧
      t.rail.vout = w.toNat / 256 % 256 ∧ t.rail.iout = w.toNat / 65536 % 128) ∧
  (∀ s : State, s.warm.engineUp = true → s.rail.linkDown = false →
    ∃ t w, exec .railIdleQuery s = .next t ∧ t.sent = .command w :: s.sent ∧ w / 2 ^ 28 = 2 ∧
      t.rail.outstanding = (w, 1) :: s.rail.outstanding ∧ t.rail.setpoint = s.rail.setpoint) ∧
  (∀ s : State, s.vcore.on = true → s.vcore.fallback = false → s.vcore.slewing = none → sevOf 197 s ≤ 1 →
    inDrainStates s = false →
    ∃ t, exec .railFallback s = .next t ∧ t.vcore.fallback = true ∧
      t.vcore.target = Nat.max s.vcore.target (setting s P.vfall) ∧ t.vcore.vout = t.vcore.target)) ∧
  ((∀ (s : State) (n slack p : Nat), s.rail.loopOn = true → s.warm.engineUp = true → s.vlt.state = .drain → 0 < n →
    s.rail.outstanding = [] → s.rail.setpoint < 180 → 0 < setting s P.upStep →
    ∃ t q, exec (.loopWindowExpiry n slack p) s = .next t ∧
      t.rail.setpoint = Nat.min 180 (s.rail.setpoint + setting s P.upStep) ∧
      t.sent = .command (setWord q (setting s P.railSlew) t.rail.setpoint) :: s.sent ∧ t.rail.calm = 0 ∧
        t.rail.pace = p) ∧
  (∀ (s : State) (slack p : Nat), s.rail.loopOn = true → s.warm.engineUp = true → s.vlt.state = .drain →
    setting s P.slackDown ≤ slack → 3 ≤ s.rail.calm → s.rail.outstanding = [] →
      setting s P.vminVault < s.rail.setpoint →
    ∃ t, exec (.loopWindowExpiry 0 slack p) s = .next t ∧ t.rail.setpoint = s.rail.setpoint - 1 ∧ t.rail.calm = 4) ∧
  (∀ (s : State) (d : Int), s.warm.engineUp = true → s.rail.engaged + d ≠ 0 → 0 < setting s P.engageStep →
    ∃ t k, exec (.engageStep d) s = .next t ∧ t.sent = .command (engageWord k) :: s.sent ∧
      k ≤ setting s P.engageStep ∧ -40 ≤ k ∧ t.rail.engaged + k = s.rail.engaged + d ∧
      t = { s with sent := t.sent, rail := { s.rail with engaged := t.rail.engaged } }))

/-- Domains sequence by groups; rail faults switch host domains off. At boot a good domain 11 starts the group delay,
and GROUP_DELAY_EXPIRY after groups 0 and 2, while they are good, switches on exactly the domains of the next group. PG_TIMEOUT and
DOMAIN_OUT_OF_WINDOW switch the host domain off with its fault, TRACKING_FAULT in a ramp up or down has both partners off and
latches DOM_TRACK, DISCHARGE_DONE ends a discharge. Rests on 10_power_tree.md, Domains. -/
def Obligations.DomainsFollowGroupsAndFaults : Prop :=
  ((∀ (s : State) (mv i : Nat), s.pwr.seq = .boot → s.pwr.group = 0 → s.pwr.delaying = false →
    (domAt 11 s).on = true → hasSupply 11 s = true →
    inWindow 11 mv s = true → Sound s →
    ∃ t, exec (.domainGood 11 mv i) s = .next t ∧ (domAt 11 t).good = true ∧ (domAt 11 t).vout = mv ∧
      t.pwr.delaying = true ∧
      t.pwr.group = 0 ∧ t.cache = s.cache ∧ t.dram = s.dram) ∧
  (∀ s : State, s.pwr.seq = .boot → s.pwr.delaying = true → s.pwr.group = 0 → (domAt 11 s).good = true → Sound s →
    ∃ t, exec .groupDelayExpiry s = .next t ∧ t.pwr.group = 1 ∧ (domAt 5 t).on = true ∧
      (∀ d < 12, d ≠ 5 → domAt d t = domAt d s)) ∧
  (∀ s : State, s.pwr.seq = .boot → s.pwr.delaying = true → s.pwr.group = 2 → (domAt 3 s).good = true →
    (domAt 4 s).good = true → Sound s →
    ∃ t, exec .groupDelayExpiry s = .next t ∧ t.pwr.group = 3 ∧ (domAt 1 t).on = true ∧ (domAt 2 t).on = true ∧
      (∀ d < 12, d ≠ 1 → d ≠ 2 → domAt d t = domAt d s))) ∧
  ((∀ (s : State) (d : Nat), d = 8 ∨ d = 9 ∨ d = 10 → (domAt d s).on = true → (domAt d s).good = false →
    s.pwr.seq = .none →
    sevOf (184 + d) s ≤ 1 → inDrainStates s = false →
    ∃ t, exec (.pgTimeout d) s = .next t ∧ (domAt d t).on = false ∧ (domAt d t).railFault = true ∧
      t.cache = s.cache) ∧
  (∀ (s : State) (d mv : Nat), d = 8 ∨ d = 9 ∨ d = 10 → (domAt d s).on = true → (domAt d s).good = true →
    s.pwr.seq = .none →
    inWindow d mv s = false → sevOf (184 + d) s ≤ 1 → inDrainStates s = false →
    ∃ t, exec (.domainOutOfWindow d mv) s = .next t ∧ (domAt d t).on = false ∧ (domAt d t).railFault = true ∧
      t.cache = s.cache) ∧
  (∀ (s : State), (domAt 6 s).on = true → (domAt 7 s).on = true → (domAt 7 s).good = false → sevOf 196 s ≤ 2 →
    escalates 196 s = false → inDrainStates s = false →
    ∃ t, exec (.trackingFault 6) s = .next t ∧ (domAt 6 t).on = false ∧ (domAt 7 t).on = false ∧
      (sevOf 196 s ≤ 1 → (domAt 6 t).trackFault = true) ∧
      (inFault (srcAt 196 s) = false → (srcAt 196 s).frozen = false → Sound s → (srcAt 196 t).latched = true)) ∧
  (∀ (s : State), (domAt 6 s).on = false → (domAt 7 s).on = false → (domAt 6 s).falling = true → sevOf 196 s ≤ 1 →
    inDrainStates s = false → inFault (srcAt 196 s) = false → (srcAt 196 s).frozen = false → Sound s →
    ∃ t, exec (.trackingFault 6) s = .next t ∧ (srcAt 196 t).latched = true ∧ (domAt 6 t).trackFault = true ∧
      t.pwr.tracked = s.pwr.tracked) ∧
  (∀ (s : State) (d : Nat), (domAt d s).discharging = true → s.pwr.offGroups = [] →
    ∃ t, exec (.dischargeDone d) s = .next t ∧ (domAt d t).discharging = false ∧ (domAt d t).on = (domAt d s).on ∧
      t = { s with pwr := { s.pwr with doms := t.pwr.doms } }))

/-- Bus faults shed load and confirm vaults; shedding goes in order; inputs are checked. PHASE_FAULT drops an IBUS or
VCORE_E phase with its cause. IBUS_OVERLOAD above the capability takes the first domain of the order: DOM10 goes off, a
host domain raises IBUS_CAPACITY. The recheck takes the next one, none where none is left, or ends the overload.
IBUS_COLLAPSE confirms with source 176; IBUS_LOST switches everything off. SHED_SPACING_EXPIRY sheds one domain at a
time and then allows HOLD voltage, FENCE_NOTICE sheds the first or allows HOLD voltage where none is on.
VIN_SENSE_DISAGREE raises source 164; HOLDUP_TEST stops the charger for the open-switch check, forces an open switch on, leaves one
that is not open, as where a short at S4 enters belay, opens it again with what it found noted, raises source 165 where it fails, and begins nothing while VIN is not good. Rests on 10_power_tree.md, The intermediate bus; 10_power_tree.md, Shedding in a vault; 10_power_tree.md, The
hold-up switch; 10_power_tree.md, The VIN front end. -/
def Obligations.BusFaultsAndShedding : Prop :=
  ((∀ (s : State) (p : Nat) (b : Bool), s.drf.active ≠ none → (domAt 11 s).on = true →
    p < setting s P.ibusPhases → (∃ q ∈ healthyPhases s, q ≠ p) →
    (∀ e ∈ s.pwr.dropped, e.1 ≠ p) → sevOf (166 + p) s ≤ 1 →
    ∃ t, exec (.phaseFault false p b) s = .next t ∧ t.pwr.dropped = s.pwr.dropped ++ [(p, if b then 2 else 1)] ∧
      t.pwr.doms = s.pwr.doms) ∧
  (∀ (s : State) (p : Nat) (b : Bool), s.drf.active ≠ none → (domAt 1 s).on = true →
    p < setting s P.vcorePhases → p ∉ s.vcore.dropped → sevOf (178 + p) s ≤ 1 →
    320 ≤ (setting s P.vcorePhases - (s.vcore.dropped.length + 1)) * setting s P.vcorePhaseImax * 9 →
    ∃ t, exec (.phaseFault true p b) s = .next t ∧ t.vcore.dropped = s.vcore.dropped ++ [p] ∧
      t.vcore.causes = s.vcore.causes ++ [(p, if b then 2 else 1)] ∧ t.pwr = s.pwr) ∧
  (∀ (s : State) (i d : Nat) (l : List Nat), (domAt 11 s).on = true → s.pwr.overload = none → busCapability s < i →
    onInShedOrder s = d :: l → (d = 10 → sevOf 174 s ≤ 1) → (d ≠ 10 → sevOf 175 s = 3) →
    ∃ t, exec (.ibusOverload i) s = .next t ∧ t.pwr.overload = some [d] ∧
      (d = 10 → (domAt 10 t).on = false ∧ (domAt 10 t).shed = true ∧ (Sound s → (domAt 11 t).iout = i)) ∧
      (d ≠ 10 → inFault (srcAt 175 s) = false → (srcAt 175 s).frozen = false → Sound s → (srcAt 175 t).latched = true)) ∧
  (∀ (s : State) (i : Nat) (l : List Nat), s.pwr.overload = some l → i ≤ busCapability s →
    exec (.ibusOverloadRecheck i) s = .next { senseBus i s with pwr := { (senseBus i s).pwr with overload := none } }) ∧
  (∀ (s : State) (i : Nat) (l : List Nat), s.pwr.overload = some l → busCapability s < i →
    (∀ d ∈ onInShedOrder s, d ∈ l) →
    exec (.ibusOverloadRecheck i) s = .next (senseBus i s)) ∧
  (∀ (s : State) (i d : Nat) (l m : List Nat), s.pwr.overload = some l → busCapability s < i →
    onInShedOrder s = d :: m → d ∉ l → d ≠ 10 → (∃ e ∈ l, e ≠ 10) →
    exec (.ibusOverloadRecheck i) s =
      .next { senseBus i s with pwr := { (senseBus i s).pwr with overload := some (l ++ [d]) } }) ∧
  (∀ (s : State) (i d : Nat) (m : List Nat), s.pwr.overload = some [10] → busCapability s < i →
    onInShedOrder s = d :: m → d ≠ 10 → sevOf 175 s = 3 →
    ∃ t, exec (.ibusOverloadRecheck i) s = .next t ∧ t.pwr.overload = some [10, d] ∧
      (inFault (srcAt 175 s) = false → (srcAt 175 s).frozen = false → Sound s → (srcAt 175 t).latched = true)) ∧
  (∀ (s : State) (mv : Nat), (domAt 11 s).on = true → 100 * mv < 85 * domTarget 11 s → s.vlt.confirming = false →
    s.vlt.state = .armed → s.flt.belay = false → s.warm.kind = .none → s.warm.confirmed = none → sevOf 176 s = 3 →
      inFault (srcAt 176 s) = false → (srcAt 176 s).frozen = false →
    shadowed 176 s = false → exercising s = false → Sound s →
    ∃ t, exec (.ibusCollapse mv) s = .next t ∧ t.pwr.collapse = true ∧ (domAt 11 t).vout = mv ∧ t.vlt.collapse = true ∧
      t.vlt.confirming = true ∧ t.vlt.cause = 4 ∧ t.vlt.source = 176) ∧
  (∀ (s : State) (mv : Nat), (domAt 11 s).on = true → (domAt 1 s).on = true → 2 * mv < domTarget 11 s →
    ∃ t, exec (.ibusLost mv) s = .next t ∧ t.pwr.lost = true ∧ (∀ d, 1 ≤ d → d < 12 → (domAt d t).on = false) ∧
      t.warm.engineUp = false)) ∧
  ((∀ (s : State) (d e : Nat) (l : List Nat), s.pwr.shedding = d :: e :: l → (domAt d s).on = true →
    (domAt e s).on = true →
    8 ≤ d → 8 ≤ e → d ≠ e → d ∉ l →
    ∃ t, exec .shedSpacingExpiry s = .next t ∧ (domAt d t).on = false ∧ (domAt d t).shed = true ∧
      (domAt e t).on = true ∧
      e ∈ t.pwr.shedding ∧ d ∉ t.pwr.shedding ∧ t.pwr.atHold = s.pwr.atHold) ∧
  (∀ (s : State) (d : Nat), s.pwr.shedding = [d] → (domAt d s).on = true → 8 ≤ d →
    ∃ t, exec .shedSpacingExpiry s = .next t ∧ (domAt d t).on = false ∧ t.pwr.shedding = [] ∧ t.pwr.atHold = true) ∧
  (∀ (s : State) (hdr : FrameHdr), accepts .pctrl hdr s = true → s.flt.belay = false → s.vlt.confirming = true →
    s.pwr.atHold = false → s.pwr.shedding = [] → onInShedOrder s = [] → s.pwr.seq = .none →
    ∃ t, exec (.fenceNotice hdr) s = .next t ∧ t.pwr.atHold = true ∧ t.vlt = s.vlt) ∧
  (∀ (s : State) (hdr : FrameHdr) (d e : Nat) (l : List Nat), accepts .pctrl hdr s = true → s.flt.belay = false →
    s.vlt.confirming = true → s.pwr.atHold = false → s.pwr.shedding = [] → s.pwr.seq = .none →
    onInShedOrder s = d :: e :: l → 8 ≤ d →
    ∃ t, exec (.fenceNotice hdr) s = .next t ∧ (domAt d t).on = false ∧ (domAt d t).shed = true ∧
      t.pwr.shedding = e :: l ∧ t.pwr.atHold = false ∧ t.vlt = s.vlt)) ∧
  ((∀ s : State, s.pwr.keeper = true → Sound s → (srcAt 164 s).frozen = false →
    ∃ t, exec .vinSenseDisagree s = .next t ∧ inFault (srcAt 164 t) = true) ∧
  (∀ s : State, s.pwr.keeper = true → s.vin.good = true → s.pwr.huMode = .opened →
    s.pwr.huChecking = false → s.flt.stewardHalted = false →
    ∃ t, exec (.holdupTest .stop) s = .next t ∧ t.pwr.huChecking = true ∧ charging t = false ∧ t.chg.probe = false ∧
      t.chg.paused = (if charging s ∨ s.chg.st = .reverse then some (s.chg.st, s.chg.iout) else none)) ∧
  (∀ (s : State) (f : Bool) (a : Nat), s.pwr.huChecking = true → s.vin.good = true → s.pwr.huMode ≠ .opened → sevOf 238 s ≤ 1 →
    inDrainStates s = false →
    ∃ t, exec (.holdupTest (.check f a)) s = .next t ∧ t.pwr.huMode = s.pwr.huMode ∧ t.pwr.huChecking = false ∧ t.chg.paused = none) ∧
  (∀ (s : State) (a : Nat), s.pwr.huChecking = true → s.vin.good = true → 100 ≤ a → sevOf 238 s = 4 → s.flt.belay = false →
    inFault (srcAt 238 s) = false → (srcAt 238 s).frozen = false → shadowed 238 s = false → exercising s = false → Sound s →
    ∃ t, exec (.holdupTest (.check true a)) s = .next t ∧ t.flt.belay = true ∧ t.pwr.huMode = .closed ∧ t.pwr.huShort = true) ∧
  (∀ (s : State) (f : Bool) (a : Nat), s.pwr.huChecking = true → s.vin.good = true → s.pwr.huMode = .opened → sevOf 238 s ≤ 1 →
    inDrainStates s = false →
    ∃ t, exec (.holdupTest (.check f a)) s = .next t ∧ t.pwr.huMode = .forced ∧ t.pwr.huChecking = false ∧
      t.pwr.huShort = (if f then decide (100 ≤ a) else s.pwr.huShort) ∧ t.chg.paused = none) ∧
  (∀ (s : State) (f : Bool) (a : Nat), s.pwr.huChecking = true → s.vin.good = false →
    ∃ t, exec (.holdupTest (.check f a)) s = .next t ∧ t.pwr = { s.pwr with huChecking := false } ∧ t.chg.paused = none) ∧
  (∀ (s : State) (a : Nat), s.pwr.huMode = .forced → 500 ≤ a →
    exec (.holdupTest (.force a true)) s = .next (pcClear 165 { s with
      pwr := { s.pwr with huMode := .opened, huChecking := false, huTestFail := false } })) ∧
  (∀ (s : State) (a : Nat) (g : Bool), s.pwr.huMode = .forced → a < 500 ∨ g = false → Sound s → (srcAt 165 s).frozen = false →
    ∃ t, exec (.holdupTest (.force a g)) s = .next t ∧ t.pwr.huTestFail = true ∧ inFault (srcAt 165 t) = true) ∧
  (∀ (s : State) (a : Nat) (g : Bool), s.pwr.huMode ≠ .forced → exec (.holdupTest (.force a g)) s = .next s) ∧
  (∀ s : State, s.vin.good = false → exec (.holdupTest .stop) s = .next s))

/-- A warm reset begins at step 3, or waits for the vault. A warm reset by pin, steward or activation in ARMED enters
NOT_ARMED at step 3 of the sequence, ends the link and drops held and queued writes, keeping memory and locations. In
a vault the pin and the steward are deferred and logged with entry 8. Rests on 02_architecture.md, Resets. -/
def Obligations.WarmResetBeginsOrWaits : Prop :=
  (∀ (s : State) (c : Instr), (∃ us u, c = .warmRstN us u ∧ 10 ≤ us ∧ tfind s.flt.frozen 3 = none) ∨
      (c = .stewardWarmReset ∧ s.flt.stewardHalted = false) ∨ (∃ m, c = .activate m) →
    s.pwr.keeper = true → s.flt.belay = false → s.vlt.state = .armed → s.warm.kind = .none →
    ∃ t, exec c s = .next t ∧ t.warm.kind = .chipset ∧ t.warm.step = 3 ∧ t.warm.wasArmed = true ∧
      t.warm.started = now s ∧
      t.vlt.state = .notArmed ∧ t.host.training = false ∧ t.host.width = 0 ∧ t.cache.capq = [] ∧ t.stg.heldq = [] ∧
      t.dram = s.dram ∧ t.cache.loc = s.cache.loc) ∧
  (∀ (s : State) (c : Instr), (∃ us u, c = .warmRstN us u ∧ 10 ≤ us ∧ tfind s.flt.frozen 3 = none) ∧ inVault s = true ∨
      (c = .stewardWarmReset ∧ s.flt.stewardHalted = false ∧ inVault s = true) →
    s.pwr.keeper = true → s.flt.belay = false →
    ∃ t e, exec c s = .next t ∧ t.warm.deferred = some (if c = .stewardWarmReset then .steward else .pin) ∧
      t.log.ring.head? = some e ∧ e.code = 8 ∧ e.data1 = 0 ∧
      t = { s with warm := { s.warm with deferred := t.warm.deferred }, log := t.log })

/-- A warm reset in SPECULATIVE abandons the speculative epoch. For each warm reset request (pin, steward, activation,
steward watchdog) in SPECULATIVE with an open epoch, the epoch is gone, its void knot of REASON 1 awaits its read-back
and stands where there is a place for it (the place is the model's, log entry 52), every granule of the residual stays
in it, and the reset proceeds at step 3 with memory unchanged. States R72. -/
def Obligations.WarmResetAbandonsSpeculation : Prop :=
  ∀ (s : State) (c : Instr) (e : Epoch), (∃ us u, c = .warmRstN us u ∧ 10 ≤ us ∧ tfind s.flt.frozen 3 = none) ∨
      (c = .stewardWarmReset ∧ s.flt.stewardHalted = false) ∨ (∃ m, c = .activate m) ∨ (c = .stewardWatchdogExpiry ∧
        sevOf 233 s ≤ 1) →
    s.pwr.keeper = true → s.flt.belay = false → s.vlt.state = .speculative → s.warm.kind = .none →
    openEpoch s = some e →
    ∃ t, exec c s = .next t ∧ (∀ x ∈ t.stg.epochs, x.num ≠ e.num) ∧
      (∃ w ∈ t.stg.voidReads, w.epoch = e.num ∧ w.reason = 1 ∧ w.ts = engineNow s) ∧
      (voidPlace e.num [] s ≠ none → ∃ v ∈ t.nand.voids, v.epoch = e.num ∧ v.reason = 1 ∧ v.ts = engineNow s) ∧
      (∀ g, inRes (entryOf g s) = true → inRes (entryOf g t) = true) ∧
      t.vlt.state = .notArmed ∧ t.warm.kind = .chipset ∧ t.warm.step = 3 ∧ t.dram = s.dram

/-- A cold reset keeps the flash; VIN good starts the boot. KEEPER_STOP returns every volatile group to its reset
value and keeps NAND pages, knots, embedded-flash words and the key number; KEEPER_START powers the keeper with the
SMBus strap; the steward watchdog counts a failed trial only. VIN_GOOD above the restart level in NOT_ARMED, with the sampler not frozen, arms the
input stage and sequences group 0 on; at or below it changes nothing. Rests on 02_architecture.md, Resets;
02_architecture.md, Keeper, selvedge and hold island; 10_power_tree.md, The VIN front end; 10_power_tree.md, Domains.
-/
def Obligations.ColdResetAndBoot : Prop :=
  ((∀ s : State, s.pwr.keeper = true → s.efl.op = none →
    ∃ t, exec .keeperStop s = .next t ∧ t.dram = [] ∧ t.cache = {} ∧ t.log = {} ∧ t.pwr = {} ∧ t.vlt = {} ∧
      t.restore = {} ∧
      t.flt = {} ∧ t.tbs = {} ∧ t.hdlE = {} ∧ t.hdlP = {} ∧ t.nand.pages = s.nand.pages ∧
        t.nand.knots = s.nand.knots ∧
      t.efl.words = s.efl.words ∧ t.lcs.keyId = s.lcs.keyId) ∧
  (∀ (s : State) (a b : Nat) (p n q : Bool), s.pwr.keeper = false →
    ∃ t, exec (.keeperStart a b p n q) s = .next t ∧ t.pwr.keeper = true ∧ t.smb = { strap := a % 4 } ∧ t.efl.wpLock = true) ∧
  (∀ s : State, s.pwr.keeper = true → ∃ t, exec .stewardWatchdogExpiry s = .next t ∧
      t.efl = { s.efl with trialFails := if s.efl.trial then satAdd 15 s.efl.trialFails 1 else s.efl.trialFails })) ∧
  ((∀ (s : State) (v : Nat), s.pwr.keeper = true → s.vin.ovp = false → isFrozen 2 s = false →
    100 * (setting s P.vinWarn + setting s P.vinHyst) < 25 * v → s.flt.belay = false → s.vlt.state = .notArmed →
    s.pwr.hostOwed = false → s.drf.active ≠ none → (domAt 11 s).on = false → s.pwr.seq = .none → Sound s →
    ∃ t, exec (.vinGood v) s = .next t ∧ t.vin.good = true ∧ t.vin.armed = true ∧ t.vin.vin = v ∧ t.vin.warn = s.vin.warn ∧
      t.pwr.seq = .boot ∧ t.pwr.group = 0 ∧ (domAt 11 t).on = true ∧ t.warm.coldBoot = true) ∧
  (∀ (s : State) (v : Nat), isFrozen 2 s = false → 25 * v ≤ 100 * (setting s P.vinWarn + setting s P.vinHyst) →
    exec (.vinGood v) s = .next s))

/-- Restore runs DISCOVER, VERIFY, MAPLOAD and restore-ready in order. RESTORE_DISCOVER loads the stored key where the
engine unwraps it and it reads intact, and raises source 16 otherwise, with the counts of the last restore at 0;
NEWEST_KNOT_FOUND enters VERIFY with the newest knot of the pages that read, and the next epoch number exceeds every epoch
of a valid header in a block that the search reads, or finishes a Sanitize that is owed first; in MFG, and where a wipe has been done, the
image is EMPTY with no search, which shows HINT 2 by the model's choice (log entry 86); a page read with an invalid header is ignored; MAP_LOAD_DONE of an empty
image enters MAPLOAD with an empty map and LIST_PARTIAL; RESTORE_READY arms the vault in LAZY. Rests on 07_restore.md, Restore
states; 07_restore.md, DISCOVER; 07_restore.md, MAPLOAD; 07_restore.md, Restore-ready. -/
def Obligations.RestoreStatesInOrder : Prop :=
  (∀ s : State, mayDiscover s = true → s.restore.keyOk = false → keyUnwraps s = true →
    exec (.restoreDiscover true) s = .next { s with restore := { s.restore with
      st := .discover, keyOk := true, completeTs := 0, bytes := 0, covered := 0 } }) ∧
  (∀ (s : State) (b : Bool), mayDiscover s = true → s.restore.keyOk = false →
    b = false ∨ keyUnwraps s = false →
    ∃ t, exec (.restoreDiscover b) s = .next t ∧ t.restore.st = .discover ∧ t.restore.keyOk = false ∧
      t.restore.bytes = 0 ∧ t.restore.completeTs = 0 ∧ 16 ∈ t.flt.engineLive) ∧
  (∀ (s u : State) (reads : List PageRead), s.restore.st = .discover → s.restore.keyOk = true → restoreRuns s = true →
    s.restore.held = false → discoveryDone s = true → s.mbx.sanitizeOwed = false → s.lcs.st ≠ .mfg → s.lcs.wiped = false →
    u = noteReads reads { s with nand := { s.nand with badHeaders := [], badSlots := [] } } →
    (searchFrom s.log.knotPtr u = none →
      ∃ t, exec (.newestKnotFound reads) s = .next t ∧ t.restore.st = .verify ∧ t.restore.cls = 0 ∧ t.restore.epoch = 0 ∧
        t.stg.lastKnot = none ∧ t.stg.lastKnotEpoch = 0 ∧ t.restore.foreign = foreignStore u ∧
        (∀ p ∈ u.nand.pages, searched (ptrBlock p.1) u = true → p.1 ∉ u.nand.badHeaders → p.2.epoch < t.stg.nextEpoch)) ∧
    (∀ k, searchFrom s.log.knotPtr u = some k →
      ∃ t, exec (.newestKnotFound reads) s = .next t ∧ t.restore.st = .verify ∧
        t.restore.epoch = (if t.restore.cls = 0 then 0 else k.epoch) ∧
        t.stg.lastKnot = some k.slot ∧ t.stg.lastKnotEpoch = k.epoch ∧ k.epoch < t.stg.nextEpoch ∧
        (∀ p ∈ u.nand.pages, searched (ptrBlock p.1) u = true → p.1 ∉ u.nand.badHeaders → p.2.epoch < t.stg.nextEpoch))) ∧
  (∀ (s : State) (reads : List PageRead), s.restore.st = .discover → s.mbx.sanitizeOwed = true →
    (discoveryDone s = false → exec (.newestKnotFound reads) s = .next s) ∧
    (discoveryDone s = true → s.restore.keyOk = true → restoreRuns s = true →
      ∃ t, exec (.newestKnotFound reads) s = .next t ∧ t.mbx.sanitizeOwed = false)) ∧
  (∀ (s : State) (reads : List PageRead), s.restore.st = .discover → s.restore.keyOk = true → restoreRuns s = true →
    s.restore.held = false → discoveryDone s = true → s.mbx.sanitizeOwed = false → s.lcs.st = .mfg ∨ s.lcs.wiped = true →
    ∃ t, exec (.newestKnotFound reads) s = .next t ∧ t.restore.st = .verify ∧ t.restore.cls = 0 ∧ t.restore.hint = 2 ∧
      t.stg.lastKnot = none) ∧
  (∀ (s : State) (reads : List PageRead) (r : PageRead), r ∈ reads → headerValid (r.header.map (·.toNat)) = false →
    r.page ∈ (noteReads reads s).nand.badHeaders) ∧
  (∀ (s : State) (reads : List PageRead), s.restore.st = .verify ∨ s.restore.st = .mapload → s.restore.mapDone = false →
    restoreRuns s = true → s.warm.structural = false → s.restore.held = false → s.restore.cls = 0 →
    ∃ t, exec (.mapLoadDone reads) s = .next t ∧ t.restore.st = .mapload ∧ t.restore.mapDone = true ∧ t.cache.map = [] ∧ t.cache.loc = [] ∧
      t.cache.poison = [] ∧ t.restore.imageState = 0 ∧ t.restore.listPartial = true) ∧
  (∀ s : State, s.restore.st = .mapload → s.restore.mapDone = true → s.stg.computed = true → restoreRuns s = true →
    s.cache.waiting = [] → s.stg.heldq = [] → s.chg.phase ≠ .tail → s.cache.map ≠ [] →
    (∀ e ∈ s.cache.map, e.2.st = .restorePending) →
    ∃ t, exec .restoreReady s = .next t ∧ t.restore.st = .lazy ∧ t.vlt.state = .armed ∧ t.host.memActive = true ∧
      t.restore.readyTs = engineNow s ∧ t.restore.evtReady = true)

/-- Background and demand loads bring copies back; discovery brings channels up. BACKGROUND_LOAD takes the next
granule. A load, by GRANULE_LOAD_DONE or DEMAND_FETCH_COMPLETE, of a RESTORE_PENDING granule whose copy A decodes writes its content with
its poison and makes it CLEAN, or DIRTY where a copy is on a retired channel or target; by copy B it is DIRTY and counted, and with no
copy that decodes it is DIRTY with all 64 lines poisoned and counted; no other granule's bytes or
entry change. DEMAND_FETCH_COMPLETE answers
the waiting read with the line loaded, or with poison, and commits the waiting write that the budget and the caps admit. NAND_DISCOVERY_DONE of a passing
target makes it ready, and it and its channel work
unless its bad-block table is full; a channel with none that answers is retired with its targets. Rests on 07_restore.md,
Background restore; 07_restore.md, Demand fetch, reads and writes; 07_restore.md, Uncorrectable copies and retired
targets; 06_flash_image_format.md, Discovery and initialisation. -/
def Obligations.LoadsBringCopiesBack : Prop :=
  ((∀ (s : State) (g : Nat), loadsRun s = true → nextLoad s = some g →
    exec .backgroundLoad s = .next { s with restore := { s.restore with loading := s.restore.loading ++ [g] } }) ∧
  (∀ s : State, loadsRun s = false ∨ nextLoad s = none → exec .backgroundLoad s = .next s)) ∧
  (∀ (s : State) (c : Instr) (g : Nat) (a b : CopyRead) (l : Loc),
    c = .granuleLoadDone g a b ∧ s.restore.loading.contains g = true ∨ c = .demandFetchComplete g a b ∧ fetchOf g s ≠ none →
    ddrInReset s = false → (entryOf g s).st = .restorePending → tfind s.cache.loc g = some l →
    (∀ f, fetchOf g s = some f → f.writes = []) → (inTail s = true → s.stg.heldq = []) → Sound s →
    (∀ x, readCopy l.a a s = some x →
      ∃ t, exec c s = .next t ∧
        entryOf g t = { st := if copyRetired l.a s || (slotB l).any (fun y => copyRetired y s) then .dirty else .clean } ∧
        t.dram = (writeGranule g x.1 s).dram ∧ (∀ i < 64, poisoned g i t = (poisoned g i s || x.2.getLsbD i)) ∧
        t.restore.bytes = s.restore.bytes + 4096 ∧ t.restore.ue = s.restore.ue ∧ g ∉ t.restore.loading ∧ fetchOf g t = none ∧
        (∀ y, y / 4096 ≠ g → readByte t y = readByte s y) ∧ (∀ h, h ≠ g → entryOf h t = entryOf h s)) ∧
    (readCopy l.a a s = none → ∀ y x, slotB l = some y → readCopy y b s = some x →
      ∃ t, exec c s = .next t ∧ entryOf g t = { st := .dirty } ∧ t.dram = (writeGranule g x.1 s).dram ∧
        t.restore.ue = satAdd max32 s.restore.ue 1 ∧ g ∉ t.restore.loading ∧ (∀ h, h ≠ g → entryOf h t = entryOf h s)) ∧
    (readCopy l.a a s = none → (∀ y, slotB l = some y → readCopy y b s = none) →
      ∃ t, exec c s = .next t ∧ entryOf g t = { st := .dirty } ∧ (∀ i < 64, poisoned g i t = true) ∧
        t.restore.ue = satAdd max32 s.restore.ue 1 ∧ t.restore.poisonPresent = true ∧ g ∉ t.restore.loading ∧
        (∀ h, h ≠ g → entryOf h t = entryOf h s))) ∧
  ((∀ (s : State) (g : Nat) (a b : CopyRead), s.restore.loading.contains g = false ∨ ddrInReset s = true →
    exec (.granuleLoadDone g a b) s = .next s) ∧
  (∀ (s : State) (g : Nat) (a b : CopyRead), fetchOf g s = none ∨ ddrInReset s = true →
    exec (.demandFetchComplete g a b) s = .next s) ∧
  (∀ (s : State) (g : Nat) (a b : CopyRead) (f : Fetch) (r : ReadReq) (l : Loc), fetchOf g s = some f → f.reads = [r] →
    f.writes = [] → ddrInReset s = false → r.dpa / 4096 = g → (entryOf g s).st = .restorePending → tfind s.cache.loc g = some l →
    (inTail s = true → s.stg.heldq = []) → Sound s →
    (∀ x, readCopy l.a a s = some x → poisoned g (r.dpa % 4096 / 64) s = false → x.2.getLsbD (r.dpa % 4096 / 64) = false →
      ∃ t n, exec (.demandFetchComplete g a b) s = .next t ∧
        .read r.tag n (readLine (writeGranule g x.1 s) (r.dpa / 64 * 64)) false ∈ t.sent) ∧
    (readCopy l.a a s = none → (∀ y, slotB l = some y → readCopy y b s = none) →
      ∃ t n d, exec (.demandFetchComplete g a b) s = .next t ∧ .read r.tag n d true ∈ t.sent)) ∧
  (∀ (s u : State) (g : Nat) (a b : CopyRead) (f : Fetch) (w : HeldWrite), fetchOf g s = some f → f.reads = [] →
    f.writes = [w] → ddrInReset s = false → w.dpa / 4096 = g → u = loadGranule g a b s → (entryOf g u).st ≠ .restorePending →
    admitting s = true → boltDiscards (boltOf s g) s = false → inTail s = false →
    inRes (entryOf g u) = true ∨ tget [] s.cache.capq (boltOf s g) = [] ∧ atCap (boltOf s g) u = false ∧ s.stg.heldq = [] ∧
      fits (costOf g u) u = true →
    Sound s →
    ∃ t n, exec (.demandFetchComplete g a b) s = .next t ∧ .written w.tag n ∈ t.sent ∧ (entryOf g t).st = .dirty ∧
      fetchOf g t = none ∧
      (∀ i < 64, w.be.getLsbD i = true → readByte t (w.dpa / 64 * 64 + i) = w.data.extractLsb' (8 * i) 8)) ∧
  (∀ (s : State) (g : Nat) (a b : CopyRead) (f : Fetch) (r : ReadReq), fetchOf g s = some f → f.reads = [r] → f.writes = [] →
    ddrInReset s = false → r.dpa / 4096 = g → (entryOf g s).st = .clean → poisoned g (r.dpa % 4096 / 64) s = false →
    (inTail s = true → s.stg.heldq = []) →
    ∃ t n, exec (.demandFetchComplete g a b) s = .next t ∧ .read r.tag n (readLine s (r.dpa / 64 * 64)) false ∈ t.sent ∧
      fetchOf g t = none ∧ t.cache.map = s.cache.map ∧ t.dram = s.dram)) ∧
  ((∀ (s : State) (n : Nat) (d : Discovered), s.warm.engineUp = true → s.drf.engineReady = true → d.target / 8 = n →
    Sound s → declared d.target s = true → s.flt.belay = false →
    (targetAt d.target s).ready = false → (targetAt d.target s).permanent = false → identified d s = true →
    d.trained = true → hasRoot d s = true →
    ∃ t, exec (.nandDiscoveryDone n [d]) s = .next t ∧ (channelAt n t).wpAsserted = false ∧
      (targetAt d.target t).ready = true ∧ ((targetAt d.target t).bbt.length < 512 →
        (channelAt n t).trained = true ∧ (channelAt n t).retired = false ∧ (targetAt d.target t).retired = false) ∧
      (targetAt d.target t).mfr = d.mfr ∧ (targetAt d.target t).device = d.device) ∧
  (∀ (s : State) (n : Nat), s.warm.engineUp = true → s.drf.engineReady = true → (∃ g, g / 8 = n ∧ declared g s = true) → Sound s →
    ∃ t, exec (.nandDiscoveryDone n []) s = .next t ∧ (channelAt n t).trained = false ∧ (channelAt n t).retired = true ∧
      (∀ g, g / 8 = n → declared g s = true → (targetAt g t).ready = false ∧ (targetAt g t).retired = true)) ∧
  (∀ (s : State) (n : Nat) (l : List Discovered), s.warm.engineUp = false ∨ s.drf.engineReady = false →
    exec (.nandDiscoveryDone n l) s = .next s))

/-- Cells are scanned, charge terminates and the exercise runs its phases. CELL_SCAN takes the readings, finds shorts,
and bleeds no cell that is out, while its sources react no further than S1. CHARGE_TERMINATION ends a charge full, or starts balancing when cells are apart;
CHARGE_TIMEOUT stops it and latches source 206; CHARGER_STEP raises by quarters while the charger may charge, and stops it where it may
not. EXERCISE_START begins DISCHARGE when it is due and
VIN has been good for 1 h and the full anchor is at most 1 h old, and otherwise nothing, EXERCISE_GRANT grants and begins the seal, a withdrawn grant or EXER_GRANT_WAIT_EXPIRY aborts
with cause 6, and EMPTY_ANCHOR in TAIL sets the charge to 0 and goes to RECHARGE. Rests on 11_energy_store.md, Cell
channels, balancing and thermistors; 11_energy_store.md, Charger; 11_energy_store.md, Capacity learning. -/
def Obligations.CellsChargeAndExercise : Prop :=
  (∀ (s : State) (cells : List CellRead) (mv : Nat) (bad : List Nat), s.pwr.keeper = true → s.drf.active ≠ none →
    (∀ n ∈ [202, 203, 204, 205, 208, 211], sevOf n s ≤ 1) →
    ∃ t, exec (.cellScan cells mv bad) s = .next t ∧ t.cell.v = (cells.take (cellCount s)).map readingOf ∧
      t.cell.stackMv = mv ∧
      (t.cell.short = true ↔ ∃ i < cellCount s, ∃ x, cells[i]? = some (.volts x) ∧ x < 5000) ∧
      (∀ i ∈ t.cell.bleed, i ∉ t.cell.out) ∧ (t.cell.ov = true → charging t = false) ∧
      (countNow s ≤ 30 → t.efl = s.efl) ∧ t.thm = s.thm ∧ t.vin = s.vin ∧ t.tbs = s.tbs ∧ t.restore = s.restore) ∧
  ((∀ s : State, s.chg.st = .cv → cellsApart s = false →
    ∃ t, exec .chargeTermination s = .next t ∧ t.chg.st = .terminated ∧ t.chg.iout = 0 ∧ t.gau.qrem = s.gau.cap ∧
      t.gau.qunc = 0 ∧ t.gau.fullValid = !discharging s ∧ t.gau.cap = s.gau.cap ∧ t.gau.imb = imbNow s ∧
      t.gau.fullAt = some (now s) ∧ t.gau.loaded = true ∧
      t.chg.phase = (if s.chg.phase = .recharge then .idle else s.chg.phase) ∧ t = { s with chg := t.chg, gau := t.gau }) ∧
  (∀ s : State, s.chg.st = .cv → cellsApart s = true →
    exec .chargeTermination s = .next { s with chg := { s.chg with balancing := true } }) ∧
  (∀ s : State, s.chg.st ≠ .cv → exec .chargeTermination s = .next s) ∧
  (∀ s : State, charging s = true → sevOf 206 s ≤ 1 → inDrainStates s = false →
    ∃ t, exec .chargeTimeout s = .next t ∧ t.chg.st = .off ∧ t.chg.balTimeout = true ∧ t.chg.iout = 0 ∧
      t.gau = s.gau ∧
      t.cell = s.cell ∧ ((srcAt 206 s).frozen = false → Sound s → (srcAt 206 t).latched = true)) ∧
  (∀ s : State, charging s = false → exec .chargeTimeout s = .next s) ∧
  (∀ s : State, s.chg.probe = true →
    exec .chargerStep s = .next { s with chg := { s.chg with probe := false, iout := 0 } }) ∧
  (∀ s : State, s.chg.probe = false → charging s = true → chargeAllowed s = true → s.chg.step < 4 →
    exec .chargerStep s = .next { s with chg := { s.chg with
      step := s.chg.step + 1, iout := chargeLimit s * (s.chg.step + 1) / 4 } }) ∧
  (∀ s : State, s.chg.probe = false → charging s = true → chargeAllowed s = false →
    exec .chargerStep s = .next { s with chg := { s.chg with
      st := if chargeStopped s then .fault else .inhibited, step := 0, iout := 0, balancing := false, probe := false } }) ∧
  (∀ s : State, s.chg.probe = false → charging s = false ∨ chargeAllowed s = true ∧ 4 ≤ s.chg.step →
    exec .chargerStep s = .next s)) ∧
  ((∀ s : State, exerciseDue s = true → s.chg.phase = .idle → hourPassed s = true → restTemps s = true →
    storeFault s = false →
    s.vlt.state = .armed → s.restore.st = .complete →
    exec .exerciseStart s = .next { s with
      chg := { s.chg with
        phase := .discharge, st := .reverse, step := 0, iout := 100 * setting s P.exerCurrent, exerWanted := false,
        balancing := false, probe := false },
      gau := { s.gau with cls := 2 } }) ∧
  (∀ s : State, exerciseDue s = false ∨ s.chg.phase ≠ .idle ∨ s.vin.good = false ∨ now s < s.vin.goodAt + 3600000000000 ∨
    (∀ x, s.gau.fullAt = some x → x + 3600000000000 < now s) ∨ restTemps s = false ∨ storeFault s = true ∨
    s.vlt.state ≠ .armed ∨ s.restore.st ≠ .complete → exec .exerciseStart s = .next s) ∧
  (∀ s : State, s.pwr.keeper = true → s.chg.phase = .sealWait →
    exec (.exerciseGrant true) s = .next { s with
      chg := { s.chg with grant := true, phase := .seal }, stg := { s.stg with sealBoost := true } }) ∧
  (∀ s : State, s.pwr.keeper = true → s.chg.phase = .discharge →
    exec (.exerciseGrant true) s = .next { s with chg := { s.chg with grant := true } }) ∧
  (∀ (s : State) (c : Instr), c = .exerciseGrant false ∧ s.pwr.keeper = true ∧ exercising s = true ∨
      c = .exerGrantWaitExpiry ∧ s.chg.phase = .sealWait →
    sevOf 208 s ≤ 1 → inDrainStates s = false → Sound s →
    ∃ t, exec c s = .next t ∧ t.chg.phase = .recharge ∧ t.chg.st = .off ∧ t.chg.lastAbort = 6 ∧
      t.chg.aborts = satAdd 255 s.chg.aborts 1 ∧ t.gau = s.gau ∧ (srcAt 208 t).latched = true) ∧
  (∀ s : State, s.chg.phase = .tail → corrected s ≤ 10 * storeNat (·.emptyMv) s →
    ∃ t, exec .emptyAnchor s = .next t ∧ t.gau.qrem = 0 ∧ t.gau.qunc = 0 ∧ t.chg.phase = .recharge ∧ t.gau.rest = none) ∧
  (∀ s : State, s.chg.phase ≠ .tail ∨ 10 * storeNat (·.emptyMv) s < corrected s → exec .emptyAnchor s = .next s) ∧
  (∀ s : State, s.chg.phase ≠ .sealWait → exec .exerGrantWaitExpiry s = .next s))

/-- Impedance is measured, charge is counted, capacity fades. IMPEDANCE_STEP records the temperature-scaled ratio
rounded down at the mean store temperature, and ignores a small or unclean step; IMPEDANCE_PROBE starts within the charge
limit when the figure is old; AUTO_ZERO changes no register. GAUGE_UPDATE keeps charge within capacity and counts throughput, QUIET_ENTRY takes the quiet class,
REST_POINT at age 0 takes the charge from the open-circuit voltage and at other ages nothing, and FADE_DAILY takes the
fade of the day's mean store temperature and of the charge discharged in it, counts the day and begins a new one, raising source 209 when learning is overdue. Rests on 11_energy_store.md, Sampling;
11_energy_store.md, Charge counting; 11_energy_store.md, Impedance; 11_energy_store.md, Usable energy;
11_energy_store.md, Capacity learning. -/
def Obligations.ImpedanceAndGauge : Prop :=
  ((∀ (s : State) (x : StepSample), s.pwr.keeper = true → s.drf.active ≠ none → x.clean = true →
    50 ≤ x.dMilliAmp.natAbs → 0 < (rfac (tStoreMean s) s).1 →
    ∃ r, exec (.impedanceStep x) s = .next { s with gau := { s.gau with
        resist := (r :: s.gau.resist).take 15, impAt := now s, impStale := false } } ∧
      r * (x.dMilliAmp.natAbs * (rfac (tStoreMean s) s).1.toNat) ≤
        x.dMilliVolt.natAbs * 100000000 * (rfac (tStoreMean s) s).2 ∧
      x.dMilliVolt.natAbs * 100000000 * (rfac (tStoreMean s) s).2 <
        (r + 1) * (x.dMilliAmp.natAbs * (rfac (tStoreMean s) s).1.toNat)) ∧
  (∀ (s : State) (x : StepSample), x.clean = false ∨ x.dMilliAmp.natAbs < 50 →
    exec (.impedanceStep x) s = .next s) ∧
  (∀ s : State, s.pwr.keeper = true → s.drf.active ≠ none → impOld s = true → charging s = false →
    chargeAllowed s = true →
    exec .impedanceProbe s = .next { s with
      gau := { s.gau with impStale := true }, chg := { s.chg with probe := true, iout := Nat.min 2000 (chargeLimit s) } }) ∧
  (∀ s : State, exec .autoZero s = .next s)) ∧
  ((∀ (s : State) (d c : Int), s.pwr.keeper = true → s.drf.active ≠ none → sevOf 210 s ≤ 1 → sevOf 211 s ≤ 1 →
    ∃ t, exec (.gaugeUpdate d c) s = .next t ∧ t.gau.current = c ∧ t.gau.updated = now s ∧
      (s.gau.loaded = true → t.gau.qrem ≤ t.gau.cap) ∧ (t.gau.heldZero = true ∨ t.gau.cap = 0 → t.gau.eGuar = 0) ∧
      t.gau.throughput = satAdd (2 ^ 64 - 1) s.gau.throughput (if d < 0 then (-d).toNat else 0) ∧
      t.cell = s.cell ∧ t.thm = s.thm ∧ t.tbs = s.tbs ∧ t.efl.words = s.efl.words) ∧
  (∀ s : State, s.pwr.keeper = true → s.drf.active ≠ none → fastClass s = false → normalClass s = false →
    exec .quietEntry s = .next { s with gau := { s.gau with cls := 0 } }) ∧
  (∀ s : State, s.pwr.keeper = true → setting s P.profile = 1 → s.gau.current.natAbs < setting s P.iQuiet →
    charging s = false → s.chg.st ≠ .reverse → restTemps s = true → restUsable s = true → s.gau.rest = none →
    ∃ u, exec (.restPoint 0) s = .next u ∧ u = { s with gau := { s.gau with
      qrem := ocvSoc (meanCell s) s * s.gau.cap / 1000000, qunc := 0, imb := imbNow s,
      rest := some { soc := ocvSoc (meanCell s) s, counted := 0 }, loaded := true, reported := true,
      soc := countNow u, heldZero := s.gau.heldZero && decide (countNow u = 0) } }) ∧
  (∀ (s : State) (d : Nat), d ≠ 0 → exec (.restPoint d) s = .next s) ∧
  (∀ s : State, s.pwr.keeper = true → s.drf.active ≠ none →
    s.gau.days < setting s P.learnOverdue →
    s.gau.days < 65535 →
    ∃ u, exec .fadeDaily s = .next u ∧
      u.gau.cap = s.gau.cap - dayFade (dayMean s) (s.gau.throughput - s.gau.fadeBase) s ∧
      u.gau = { s.gau with
        cap := u.gau.cap, qrem := Nat.min u.gau.cap s.gau.qrem, days := s.gau.days + 1, fadeBase := s.gau.throughput,
        soc := u.gau.soc, fullValid := s.gau.fullValid && !discharging s, reported := true,
        heldZero := s.gau.heldZero && decide (countNow u = 0) } ∧
      (discharging s = false → u.gau.soc = countNow u) ∧ u.gau.soc ≤ countNow u ∧ (s.thm.dayCount ≠ 0 → u.free = s.free) ∧
      u = { s with gau := u.gau, efl := u.efl, free := u.free, thm := { s.thm with daySum := 0, dayCount := 0 } }) ∧
  (∀ s : State, s.thm.dayCount ≠ 0 → dayMean s = s.thm.daySum / (s.thm.dayCount : Int)) ∧
  (∀ s : State, s.pwr.keeper = true → s.drf.active ≠ none →
    setting s P.learnOverdue ≤ s.gau.days →
    Sound s → s.gau.days < 65535 → sevOf 209 s ≤ 1 → (srcAt 209 s).frozen = false →
    ∃ u, exec .fadeDaily s = .next u ∧ u.gau.overdue = true ∧ u.gau.days = s.gau.days + 1 ∧
      inFault (srcAt 209 u) = true))

/-- Sensors are sampled, break at the third bad reading and return. SENSOR_SAMPLE in range updates that sensor alone;
the third reading out of range in a row breaks it and keeps its temperature, and so does a missing reading of an engine
sensor while others arrive. SENSOR_RETURN ends the
break when the readings agree. COMPENSATION_TICK takes the median of zone 3, or raises source 225 with fewer than
three readings. Rests on 12_thermal.md, Broken sensors; 12_thermal.md, Sensors and zones; 12_thermal.md, Compensation.
-/
def Obligations.SensorsAreSampledAndBreak : Prop :=
  (∀ (s : State) (n : Nat) (x : SensorRead) (r : Int), s.pwr.keeper = true → sampleArrives n s = true →
    x = .temp r ∨ (∃ o, x = .ohms o ∧ thermReading n o s = some (r, true)) → inRangeTemp r = true →
    Sound s →
    ∃ t, exec (.sensorSample n x) s = .next t ∧ (sensorAt n t).temp = r ∧ (sensorAt n t).seen = true ∧
      (sensorAt n t).outRange = 0 ∧ (∀ m, m ≠ n → sensorAt m t = sensorAt m s) ∧
      ((sensorAt n s).broken = true → (sensorAt n t).broken = true) ∧ t.tbs = s.tbs) ∧
  (∀ (s : State) (n : Nat) (x : SensorRead), s.pwr.keeper = true → sampleArrives n s = true →
    (sensorAt n s).outRange = 2 →
    (∃ r, x = .temp r ∧ inRangeTemp r = false) ∨
      (∃ o r b, x = .ohms o ∧ thermReading n o s = some (r, b) ∧ (b = false ∨ inRangeTemp r = false)) → Sound s →
    ∃ t, exec (.sensorSample n x) s = .next t ∧ (sensorAt n t).broken = true ∧ (sensorAt n t).outRange = 3 ∧
      (sensorAt n t).temp = (sensorAt n s).temp) ∧
  (∀ (s : State) (n : Nat), s.pwr.keeper = true → sampleArrives n s = true → Sound s →
    ∃ t, exec (.sensorSample n .missing) s = .next t ∧
      (n < 12 → othersArrive n s = true → (sensorAt n t).broken = true) ∧
      (12 ≤ n ∨ othersArrive n s = false → (sensorAt n t).broken = (sensorAt n s).broken)) ∧
  (∀ (s : State) (n : Nat), s.pwr.keeper = true → (sensorAt n s).broken = true → (sensorAt n s).locked = false →
    (sensorAt n s).seen = true → (sensorAt n s).outRange = 0 → offFrom n (sensorAt n s).temp s = [] →
    Sound s →
    ∃ t, exec (.sensorReturn n) s = .next t ∧ (sensorAt n t).broken = false ∧ (sensorAt n t).cause = 0 ∧
      (∀ m, m ≠ n → sensorAt m t = sensorAt m s)) ∧
  (∀ s : State, s.pwr.keeper = true → 3 ≤ (zoneReadings 3 s).length →
    ∃ t, exec .compensationTick s = .next t ∧ t.thm = { s.thm with comp := medianOf (zoneReadings 3 s) } ∧
      t.cache = s.cache) ∧
  (∀ s : State, s.pwr.keeper = true → (zoneReadings 3 s).length < 3 → Sound s → (srcAt 225 s).frozen = false →
    ∃ t, exec .compensationTick s = .next t ∧ t.thm = s.thm ∧ inFault (srcAt 225 t) = true)

/-- Zone flags follow thresholds and rates; thermal limits stop the chipset. THM_HOLD_EXPIRY clears exactly the flag
named once the zone is below its hysteresis and its release timers have run; THM_RATE_CHECK sets RATE and THROTTLE of the
zone alone by the rise over ten checks, and keeps the readings; STORE_RATE_CHECK stops the charge by the rise over 10 min. ENGINE_ANALOG_LIMIT drives BELAYE; THERMAL_STAGE_ONE and THERMAL_STAGE_TWO stop steward and flash
and enter belay; THERMAL_SHUTDOWN_EXIT ends both below 120 °C. Rests on 12_thermal.md, Thresholds and flags;
12_thermal.md, Rate of rise; 12_thermal.md, Analog limits and thermal shutdown. -/
def Obligations.ZonesFollowThresholds : Prop :=
  ((∀ (s : State) (z : Nat) (w : Int) (a b : Option Int), s.pwr.keeper = true → zoneLimits z s = some (w, a, b) →
    z < 5 → heldLong z s = true → Sound s →
    ((zoneAt z s).warn = true → belowHyst z (some w) s = true →
      ∃ t, exec (.thmHoldExpiry z 0) s = .next t ∧ zoneAt z t = { zoneAt z s with warn := false } ∧
        (∀ y, y ≠ z → zoneAt y t = zoneAt y s) ∧ t.thm.sensors = s.thm.sensors) ∧
    ((zoneAt z s).throttle = true → (zoneAt z s).rate = false → belowHyst z a s = true →
      ∃ t, exec (.thmHoldExpiry z 1) s = .next t ∧ zoneAt z t = { zoneAt z s with throttle := false } ∧
        (∀ y, y ≠ z → zoneAt y t = zoneAt y s) ∧ t.thm.sensors = s.thm.sensors) ∧
    ((zoneAt z s).vault = true → belowHyst z b s = true →
      ∃ t, exec (.thmHoldExpiry z 2) s = .next t ∧ zoneAt z t = { zoneAt z s with vault := false, told := false } ∧
        (∀ y, y ≠ z → zoneAt y t = zoneAt y s) ∧ t.vlt = s.vlt) ∧
    ((zoneAt z s).rate = true →
      ∃ t, exec (.thmHoldExpiry z 3) s = .next t ∧ zoneAt z t = { zoneAt z s with rate := false } ∧
        (∀ y, y ≠ z → zoneAt y t = zoneAt y s))) ∧
  (∀ (s : State) (z n : Nat) (r : Int), s.pwr.keeper = true → s.drf.active ≠ none → z = 0 ∨ z = 3 →
    sensorZone n s = some z → n ∈ rateSensors s → riseOf n s = some r → 16 * (setting s P.dieRateMax : Int) < r →
    (∀ m ∈ rateSensors s, sensorZone m s ≠ some z →
      (riseOf m s).all (fun x => decide (x ≤ 16 * (setting s P.dieRateMax : Int))) = true) →
    Sound s →
    ∃ t, exec .thmRateCheck s = .next t ∧ zoneAt z t = { zoneAt z s with rate := true, throttle := true } ∧
      (∀ y, y ≠ z → zoneAt y t = zoneAt y s) ∧
      (∀ m ∈ rateSensors s, (sensorAt m t).hist = ((sensorAt m s).temp :: (sensorAt m s).hist).take 10)) ∧
  (∀ (s : State) (r : Int), s.pwr.keeper = true → s.drf.active ≠ none → storeRise s = some r →
    16 * (setting s P.storeRateMax : Int) < r → charging s = true →
    ∃ t, exec .storeRateCheck s = .next t ∧ t.chg.rateStop = true ∧ charging t = false ∧ t.thm = s.thm) ∧
  (∀ s : State, (∀ r, storeRise s = some r → r < 16 * (setting s P.storeRateMax : Int)) →
    s.chg.rateStop = false → exec .storeRateCheck s = .next s)) ∧
  ((∀ s : State, (domAt 2 s).good = true → s.flt.analogTrip = false → Sound s →
    ∃ t, exec (.engineAnalogLimit true) s = .next t ∧ t.flt.analogTrip = true ∧ t.thm = s.thm ∧
      pairActive .belaye t = true ∧
      64 ∈ t.flt.engineLive ∧ t.cache = s.cache) ∧
  (∀ s : State, (domAt 2 s).good = true → s.flt.analogTrip = true → Sound s → (pairAt .belaye s).frozen = false →
    (∀ n ∈ s.flt.engineLive, n = 64) → tfind s.flt.engineBroken 64 = none →
    ∃ t, exec (.engineAnalogLimit false) s = .next t ∧ t.flt.analogTrip = false ∧ t.thm = s.thm ∧
      pairActive .belaye t = false) ∧
  (∀ (s : State) (t : Int), s.pwr.keeper = true → s.thm.stage1 = false → zoneMax 3 s = some t → 2320 ≤ t →
    sevOf 227 s = 4 →
    inFault (srcAt 227 s) = false → (srcAt 227 s).frozen = false → shadowed 227 s = false → exercising s = false → s.flt.belay = false →
    Sound s →
    ∃ u, exec .thermalStageOne s = .next u ∧
      u.thm = { s.thm with stage1 := true, count1 := satAdd 255 s.thm.count1 1 } ∧
      u.cell.bleed = [] ∧ u.chg.st = .off ∧ u.flt.stewardHalted = true ∧ u.flt.belay = true ∧
        u.flt.belayCause = 227) ∧
  (∀ s : State, s.pwr.keeper = true → s.thm.stage2Tripped = false → sevOf 228 s = 4 → inFault (srcAt 228 s) = false →
    (srcAt 228 s).frozen = false →
    shadowed 228 s = false → exercising s = false → s.flt.belay = false → Sound s →
    ∃ u, exec (.thermalStageTwo true) s = .next u ∧ u.thm = { s.thm with
        stage2 := true, stage2Tripped := true, count2 := satAdd 255 s.thm.count2 1 } ∧
      u.efl.op = none ∧ u.flt.stewardHalted = true ∧ u.flt.belay = true ∧ u.flt.belayCause = 228) ∧
  (∀ s : State, s.pwr.keeper = true →
    exec (.thermalStageTwo false) s = .next { s with thm := { s.thm with stage2Tripped := false } }) ∧
  (∀ (s : State) (t : Int), s.pwr.keeper = true → s.thm.stage1 = true ∨ s.thm.stage2 = true →
    s.thm.stage2Tripped = false →
    zoneMax 3 s = some t → t < 1920 →
    ∃ u, exec .thermalShutdownExit s = .next u ∧ u.thm.stage1 = false ∧ u.thm.stage2 = false ∧ u.flt.belay = false ∧
      u.flt.stewardHalted = false ∧ u.warm.kind = .chipset ∧ u.warm.step = 3))

/-- Drafts are judged, withdrawn, erased and written; the active one is streamed and confirmed. SUBMIT, where reads of embedded flash raise no more
than S1, refuses every candidate once the generation is exhausted, and otherwise one with
the failed step and section or one for its generation, or makes the candidate pending; WITHDRAW and ERASE_CAND end it;
DRF_CAND_DATA writes the word and moves the offset, or reports 4 out of place. DRAFT_FRAME stores its bytes,
DRAFT_CRC_REPLY confirms the last section or fails the third time with HOLD active, DRAFT_STREAM_RETRY starts again. Rests on
14_draft.md, Checking; 14_draft.md, Slots and activation; 17_signals_links_package.md, Heddle link. -/
def Obligations.DraftsAreJudgedAndStreamed : Prop :=
  ((∀ (s : State) (m : Master), candidateFree s = true → sevOf 232 s ≤ 1 → inDrainStates s = false →
    ∃ t, exec (.submit m) s = .next t ∧ t.drf.active = s.drf.active ∧ t.nand = s.nand ∧ t.cache = s.cache ∧
      (refGeneration s = 0xFFFFFFFF → t.drf.reason = 3) ∧
      (∀ e, refGeneration s ≠ 0xFFFFFFFF → checkSlot (candSlot s) s = .error e → t.drf.reason = 1 ∧ t.drf.checkStep = e.1 ∧
        t.drf.checkSection = e.2.1) ∧
      (∀ d, checkSlot (candSlot s) s = .ok d → refGeneration s ≠ 0xFFFFFFFF → d.generation ≤ refGeneration s →
        t.drf.reason = 2) ∧
      (∀ d, judge s = .ok d →
        ((∀ e ∈ s.efl.words, blockOfWord e.1 / 8 = 32 + candSlot s → (eccRead (eflWord e.1 s)).2 = .clean) → t.log = s.log) ∧
        (draftPending s = false → refusal .steward false (submitAt s) false submittedWord s = 0 →
          draftPending t = true ∧ t.drf.result = 0))) ∧
  (∀ (s : State) (m : Master), candidateFree s = true → refusal .steward false (submitAt s) false 0 s = 0 →
    ∃ t, exec (.withdraw m) s = .next t ∧ draftPending t = false ∧ t.drf = { s.drf with result := 0, ctl := 0x20000000 }) ∧
  (∀ (s : State) (m : Master), candidateFree s = true →
    (∀ i < 8, refusal .steward false ((blockOfWord (slotBase (candSlot s)) + i) * 1024) true 0 s = 0) →
    ∃ t, exec (.eraseCand m) s = .next t ∧ t.drf.busy = true ∧ t.drf.active = s.drf.active ∧
      t.efl.op = some (.erase (blockOfWord (slotBase (candSlot s))) 1) ∧ t.efl.jobs.length = 7) ∧
  (∀ (s : State) (m : Master) (x : DWord), candidateFree s = true → s.drf.candOfs % 8 = 0 → s.drf.candOfs ≤ 65520 →
    refusal .steward false (slotBase (candSlot s) + s.drf.candOfs / 8) false x.toNat s = 0 →
    ∃ t, exec (.drfCandDataWrite m x) s = .next t ∧ t.drf.candOfs = s.drf.candOfs + 8 ∧ t.drf.result = 0 ∧
      (eflWord (slotBase (candSlot s) + s.drf.candOfs / 8) t).data = x.toNat) ∧
  (∀ (s : State) (m : Master) (x : DWord), candidateFree s = true → s.drf.candOfs % 8 ≠ 0 ∨ 65520 < s.drf.candOfs →
    exec (.drfCandDataWrite m x) s = .next { s with drf := { s.drf with result := 4 } })) ∧
  ((∀ (s : State) (hdr : FrameHdr) (o : Nat) (l : List Byte), accepts .engine hdr s = true → Sound s →
    ∃ t, exec (.draftFrame hdr o l) s = .next t ∧
      (∀ i, i < l.length → l[i]? = some (tget 0 t.drf.received (o + i))) ∧
      (∀ a, a < o ∨ o + l.length ≤ a → tget 0 t.drf.received a = tget 0 s.drf.received a) ∧
      t.hdlE.rxSeq = (s.hdlE.rxSeq + 1) % 256 ∧ t.cache = s.cache) ∧
  (∀ (s : State) (hdr : FrameHdr) (d : Draft) (ty o n : Nat) (crc : Word), accepts .pctrl hdr s = true →
    s.drf.active = some d →
    d.engine = [(ty, o, n, crc.toNat)] → s.drf.stream = .streaming →
    ∃ t, exec (.draftCrcReply hdr ty crc) s = .next t ∧ t.drf.stream = .confirmed ∧ t.drf.engineReady = true ∧
      t.drf.retained = some s.drf.received ∧ t.cache.header = regionHeader d ∧ t.cache.boltTable = d.bolts) ∧
  (∀ (s : State) (hdr : FrameHdr) (d : Draft) (ty o n k : Nat) (crc : Word), accepts .pctrl hdr s = true →
    s.drf.active = some d →
    d.engine = [(ty, o, n, k)] → crc.toNat ≠ k → s.drf.stream = .streaming → tget 0 s.drf.fails ty = 2 →
      sevOf 198 s ≤ 1 →
    inDrainStates s = false →
    ∃ t, exec (.draftCrcReply hdr ty crc) s = .next t ∧ t.drf.stream = .failed ∧ t.drf.reason = 8 ∧
      t.drf.engineReady = false ∧ pairActive .hold t = true ∧
      t.drf.active = some d) ∧
  (∀ (s : State) (d : Draft), s.pwr.keeper = true → s.drf.stream = .failed → s.drf.active = some d →
    ∃ t, exec .draftStreamRetry s = .next t ∧
      t.drf = { s.drf with stream := .streaming, okSections := [], fails := [], received := [] } ∧
      t = { s with drf := t.drf, hdlE := t.hdlE, hdlP := t.hdlP, sent := t.sent }))

/-- Embedded-flash operations are checked, started, suspended and completed. EFL_PROGRAM and EFL_ERASE start or report
the refusal; EFL_SUSPEND, EFL_RESUME and WP_LOCK act for the steward alone, and the management port's are noted as denied; FW_ERASE and FW_SUBMIT
act on the inactive slot: the first erases its 32 blocks, of which none may be refused, and the second commits a boot entry for an image that
passes. EFL_OPERATION_DONE writes the programmed word, unless it is refused, counts and clears an erased block, tries a failed one again and
marks it worn at the third; FLASH_WRITE_RETRY makes the writes that wait, with their values, and CONFIRM, in the window with no operation
running, in which alone boot entries are written and erases resumed. Rests on
15_embedded_flash_lifecycle.md, Program and erase; 15_embedded_flash_lifecycle.md, Write protection;
15_embedded_flash_lifecycle.md, Boot; 15_embedded_flash_lifecycle.md, Erase journal; 12_thermal.md, Embedded-flash
window. -/
def Obligations.FlashOperationsRun : Prop :=
  ((∀ (s : State) (m : Master) (w : Nat), s.pwr.keeper = true → eflTarget s = (w, false) →
    refusal m false w false s.efl.data s = 0 →
    exec (.eflProgram m) s = .next { s with efl := { s.efl with
      ctlOp := 1, result := 0, block := w / 1024, op := some (.program w s.efl.data) } }) ∧
  (∀ (s : State) (m : Master) (w r : Nat) (row : Bool), s.pwr.keeper = true → eflTarget s = (w, row) →
    refusal m row w false s.efl.data s = r → r ≠ 0 →
    exec (.eflProgram m) s = .next { s with efl := { s.efl with ctlOp := 1, result := r, block := w / 1024 } }) ∧
  (∀ (s : State) (m : Master) (w : Nat), s.pwr.keeper = true → eflTarget s = (w, false) →
    refusal m false w true 0 s = 0 →
    ∃ t, exec (.eflErase m) s = .next t ∧ t.efl.op = some (.erase (w / 1024) 1) ∧ t.efl.suspended = false ∧
      t.efl.result = 0 ∧ (journalFull (journalHalf s) s = false → t = { s with efl := t.efl })) ∧
  (∀ (s : State) (m : Master) (w r : Nat) (row : Bool), s.pwr.keeper = true → eflTarget s = (w, row) →
    refusal m row w true 0 s = r → r ≠ 0 →
    exec (.eflErase m) s = .next { s with efl := { s.efl with ctlOp := 2, result := r, block := w / 1024 } }) ∧
  (∀ (s : State) (b n : Nat), s.pwr.keeper = true → s.efl.op = some (.erase b n) → s.efl.suspended = false →
    exec (.eflSuspend .steward) s = .next { s with efl := { s.efl with ctlOp := 3, suspended := true, byWindow := false } }) ∧
  (∀ s : State, s.pwr.keeper = true → s.efl.suspended = true → eflOpen s = true →
    (s.efl.byWindow = true → tempReturned s = true) →
    exec (.eflResume .steward) s = .next { s with efl := { s.efl with ctlOp := 4, suspended := false, byWindow := false } }) ∧
  (∀ s : State, s.pwr.keeper = true → eflOpen s = false ∨ (s.efl.byWindow = true ∧ tempReturned s = false) →
    exec (.eflResume .steward) s = .next { s with efl := { s.efl with ctlOp := 4 } }) ∧
  (∀ (s t : State), s.pwr.keeper = true → t = { s with smb := { s.smb with denied := true } } →
    exec (.eflSuspend .smbus) s = .next t ∧ exec (.eflResume .smbus) s = .next t ∧ exec (.wpLock .smbus) s = .next t ∧
    exec (.eflSuspend .host) s = .next s ∧ exec (.eflResume .host) s = .next s ∧ exec (.wpLock .host) s = .next s) ∧
  (∀ s : State, s.pwr.keeper = true →
    exec (.wpLock .steward) s = .next { s with efl := { s.efl with wpLock := true } }) ∧
  (∀ (s : State) (m : Master), s.pwr.keeper = true →
    (∀ i < 32, refusal m false ((32 * inactiveSlot s + i) * 1024) true 0 s = 0) →
    ∃ t, exec (.fwErase m) s = .next t ∧ t.efl.op = some (.erase (32 * inactiveSlot s) 1) ∧ t.efl.jobs.length = 31 ∧
      (journalFull (journalHalf s) s = false → t = { s with efl := t.efl })) ∧
  (∀ (s : State) (m : Master) (r : Nat), s.pwr.keeper = true → refusal m false (32 * inactiveSlot s * 1024) true 0 s = r → r ≠ 0 →
    exec (.fwErase m) s = .next { s with efl := { s.efl with ctlOp := 5, result := r, block := 32 * inactiveSlot s } }) ∧
  (∀ (s u : State) (m : Master), s.pwr.keeper = true → m ≠ .host → s.efl.op = none → eflOpen s = true → s.flt.stewardHalted = false →
    u = stewardReads (fun b => b / 32 = inactiveSlot s) { s with efl := { s.efl with ctlOp := 6 } } →
    (imageOf (inactiveSlot s) u = none → exec (.fwSubmit m) s = .next u) ∧
    (∀ v, imageOf (inactiveSlot s) u = some v →
      (seqLeft 1 u = false → exec (.fwSubmit m) s = .next u) ∧
      (∀ q h i, newestEntry 1 u = some (q, h, i) → q < 0xFFFFFF → i + 1 < 256 → entryFree 1 h (i + 1) u = true →
        (∀ j < 4, (eflWord (entryBase 1 h (i + 1) + j) u).programs = 0) → blockWorn (recordBlock 1 h) u = false → h < 2 →
        ∃ t, exec (.fwSubmit m) s = .next t ∧ t = { u with efl := t.efl } ∧
          entryAt 1 h (i + 1) t = [pairWord (inactiveSlot s), pairWord v, erasedData, pairWord (0xC1000000 + q + 1)]))) ∧
  (∀ (s : State) (m : Master), s.pwr.keeper = true →
    exec (.fwSubmit .host) s = .next { s with efl := { s.efl with ctlOp := 6, result := 7 } } ∧
    (m ≠ .host → s.efl.op ≠ none → exec (.fwSubmit m) s = .next { s with efl := { s.efl with ctlOp := 6, result := 5 } }) ∧
    (m ≠ .host → s.efl.op = none → eflOpen s = false ∨ s.flt.stewardHalted = true →
      exec (.fwSubmit m) s = .next { s with efl := { s.efl with ctlOp := 6, result := 2 } }))) ∧
  ((∀ (s : State) (w d : Nat) (b : Bool), s.efl.op = some (.program w d) →
    (programStatus w d s = 0 →
      ∃ t, exec (.eflOperationDone b) s = .next t ∧ t.efl.op = none ∧
        eflWord w t = { data := d, programs := (eflWord w s).programs + 1 } ∧
        t = { s with efl := { s.efl with op := none, result := 0, words := t.efl.words } }) ∧
    (∀ r, programStatus w d s = r → r ≠ 0 →
      exec (.eflOperationDone b) s = .next { s with efl := { s.efl with op := none, result := r, block := w / 1024 } })) ∧
  (∀ (s : State) (b n x : Nat), s.efl.op = some (.erase b n) → s.efl.suspended = false → s.efl.jobs = [] →
    s.efl.after = .nothing → x = journalBase (journalHalf s) + 2 * journalEnd (journalHalf s) s →
    journalEnd (journalHalf s) s + 3 ≤ 4096 → blockWorn (x / 1024) s = false → (x / 1024) ∉ s.efl.incomplete →
    (∀ y ∈ s.efl.factoryBlocks, y < 272) → b < 272 ∨ 288 ≤ b → b < 512 → Sound s → eraseCount b s < maxErases →
    ∃ t, exec (.eflOperationDone true) s = .next t ∧ t.efl.op = none ∧ eraseCount b t = eraseCount b s + 1 ∧
      (∀ w, blockOfWord w = b → eflWord w t = {}) ∧
      (b ≠ 304 → b ≠ 328 → t.mbx = s.mbx) ∧ t = { s with efl := t.efl, mbx := t.mbx }) ∧
  (∀ (s : State) (b : Nat), s.efl.op = some (.erase b 3) → s.efl.suspended = false → s.efl.jobs = [] ∨ s.efl.after ≠ .nothing →
    ∃ t, exec (.eflOperationDone false) s = .next t ∧ t.efl.op = none ∧ b ∈ t.efl.worn ∧ b ∈ t.efl.undetermined ∧
      t.efl.result = 4) ∧
  (∀ (s : State) (b n x : Nat), s.efl.op = some (.erase b n) → s.efl.suspended = false → n < 3 →
    x = journalBase (journalHalf s) + 2 * journalEnd (journalHalf s) s →
    journalEnd (journalHalf s) s + 4 ≤ 4096 → blockWorn (x / 1024) s = false → (x / 1024) ∉ s.efl.incomplete →
    (∀ y ∈ s.efl.factoryBlocks, y < 272) → b < 272 ∨ 288 ≤ b → b < 512 → Sound s → eraseCount b s + 1 < 100000 →
    b ∉ s.efl.worn →
    ∃ t, exec (.eflOperationDone false) s = .next t ∧ t.efl.op = some (.erase b (n + 1)) ∧ b ∈ t.efl.undetermined ∧
      t = { s with efl := t.efl }) ∧
  (∀ (s : State) (b : Bool), s.efl.op = none → exec (.eflOperationDone b) s = .next s) ∧
  (∀ s : State, s.pwr.keeper = true → eflReady s = true → (∀ w ∈ s.efl.waits, blockWorn (datumBlock w) s = false) →
    ∃ t, exec .flashWriteRetry s = .next t ∧ t.efl.waits = [] ∧
      (∀ w ∈ s.efl.waits, (∀ x ∈ s.efl.waits, sameWrite w x = true → x = w) →
        (∀ r, w = .gauge r → t.efl.gauge = r) ∧ (∀ v, w = .scale v → t.efl.scale = v) ∧
        (∀ v, w = .dirtyCount v → t.efl.dirty = v)) ∧
      (∀ h i, s.efl.confirmDue = true → s.efl.trial = true → s.efl.runEntry = some (h, i) →
        programStatus (entryBase 1 h i + 2) confirmWord s = 0 → t.efl.confirmDue = false ∧ t.efl.trial = false) ∧
      t = { s with efl := t.efl }) ∧
  (∀ s : State, eflReady s = false → exec .flashWriteRetry s = .next s))

/-- Life-cycle requests are checked and begin. LIFE_CYCLE_REQUEST from the SMBus for FIELD or RETIRED begins step 1 in
NOT_ARMED with writes dropped, logged with entry 7, and in belay with nothing stopped; from another master it reports 5, for an illegal target 2, in a vault 3. The noise flag
of a begun transition is an operand (log entry 1). Rests on 15_embedded_flash_lifecycle.md, Life cycle;
15_embedded_flash_lifecycle.md, The vault key. -/
def Obligations.LifeCycleRequestsAreChecked : Prop :=
  (∀ (s : State) (n : Nat) (b : Bool), s.pwr.keeper = true → s.flt.stewardHalted = false → s.efl.romRecovery = false →
    s.lcs.st ≠ .retired → n = 1 ∨ n = 2 → inVault s = false → s.mbx.bg = none → s.lcs.step = 0 → s.drf.active ≠ none →
    s.flt.belay = false →
    ∃ t e, exec (.lifeCycleRequest .smbus n b) s = .next t ∧ t.lcs = { s.lcs with
        result := 1, ctl := n * 2 ^ 30 + 2 ^ 29, step := 1, target := (if n = 1 then .field else .retired), noise := b } ∧
      t.log.ring.head? = some e ∧ e.code = 7 ∧ e.data0 = 4 ∧
      t.vlt.state = .notArmed ∧ t.host.memActive = false ∧ t.restore.st = .idle ∧ t.stg.heldq = [] ∧
        t.cache.capq = [] ∧
      t.efl = s.efl ∧ t.dram = s.dram) ∧
  (∀ (s : State) (n : Nat) (b : Bool), s.pwr.keeper = true → s.flt.stewardHalted = false → s.efl.romRecovery = false →
    s.lcs.st ≠ .retired → n = 1 ∨ n = 2 → inVault s = false → s.mbx.bg = none → s.lcs.step = 0 → s.drf.active ≠ none →
    s.flt.belay = true →
    ∃ t, exec (.lifeCycleRequest .smbus n b) s = .next t ∧ t.lcs = { s.lcs with
        result := 1, ctl := n * 2 ^ 30 + 2 ^ 29, step := 1, target := (if n = 1 then .field else .retired), noise := b } ∧
      t = { s with lcs := t.lcs, log := t.log }) ∧
  (∀ (s : State) (m : Master) (n : Nat) (b : Bool), s.pwr.keeper = true → s.flt.stewardHalted = false →
    s.efl.romRecovery = false → m ≠ .smbus →
    exec (.lifeCycleRequest m n b) s = .next { s with lcs := { s.lcs with result := 5 } }) ∧
  (∀ (s : State) (n : Nat) (b : Bool), s.pwr.keeper = true → s.flt.stewardHalted = false → s.efl.romRecovery = false →
    s.lcs.st = .retired ∨ n = 0 ∨ n = 3 →
    exec (.lifeCycleRequest .smbus n b) s = .next { s with lcs := { s.lcs with result := 2, ctl := n % 4 * 2 ^ 30 + 2 ^ 29 } }) ∧
  (∀ (s : State) (n : Nat) (b : Bool), s.pwr.keeper = true → s.flt.stewardHalted = false → s.efl.romRecovery = false →
    s.lcs.st ≠ .retired → n = 1 ∨ n = 2 → inVault s = true →
    exec (.lifeCycleRequest .smbus n b) s = .next { s with lcs := { s.lcs with result := 3, ctl := n * 2 ^ 30 + 2 ^ 29 } })

/-- The heddle link acknowledges, resends, goes down and comes up. HEDDLE_ACK_TICK sends the acknowledge; a link that
is down ignores tick, resend and down. HEDDLE_CONTROL_FRAME with a bad CRC is counted and answered with a NAK, a good
one acknowledges frames. HEDDLE_RESEND_EXPIRY sends every unacknowledged frame again; the tenth failure or
HEDDLE_LINK_DOWN resets the end and keeps only class 6. HEDDLE_LINK_UP aligns the sequences, and loads the engine's copy of the time
base to within 200 ns, or measures a copy that is loaded (what the copy does meanwhile is the model's, log entry 109). Rests
on 17_signals_links_package.md, Heddle link; 16_management_registers_monitors.md, Heddle-link registers;
16_management_registers_monitors.md, Timebase. -/
def Obligations.LinkAcknowledgesAndResends : Prop :=
  (∀ (s : State) (e : End), (hdl e s).up = true →
    exec (.heddleAckTick e) s = .next { s with
      sent := .frame e 0 (((hdl e s).rxSeq + 255) % 256) (.control false) :: s.sent }) ∧
  (∀ (s : State) (e : End), (hdl e s).up = false →
    exec (.heddleAckTick e) s = .next s ∧ exec (.heddleResendExpiry e) s = .next s ∧
      exec (.heddleLinkDown e) s = .next s) ∧
  (∀ (s : State) (e : End) (h : FrameHdr), (hdl e s).up = true → h.valid = false →
    ∃ t, exec (.heddleControlFrame e h) s = .next t ∧
      t.sent.head? = some (.frame e 0 (((hdl e s).rxSeq + 255) % 256) (.control true)) ∧
      hdl e t = { hdl e s with crcErrors := satAdd max32 (hdl e s).crcErrors 1 } ∧
        hdl (otherEnd e) t = hdl (otherEnd e) s) ∧
  (∀ (s : State) (e : End) (h : FrameHdr), (hdl e s).up = true → h.valid = true → h.nak = false →
    (hdl e s).waiting = [] →
    ∃ t, exec (.heddleControlFrame e h) s = .next t ∧
      hdl e t = { hdl e s with unacked := ackFrames h.ack (hdl e s).unacked } ∧
      t.sent = s.sent ∧ hdl (otherEnd e) t = hdl (otherEnd e) s) ∧
  (∀ (s : State) (e : End), (hdl e s).up = true → (hdl e s).unacked ≠ [] → (∀ u ∈ (hdl e s).unacked, u.sends < 9) →
    ∃ t, exec (.heddleResendExpiry e) s = .next t ∧
      (hdl e t).unacked = (hdl e s).unacked.map (fun u => { u with sends := u.sends + 1 }) ∧
      (hdl e t).resends = satAdd max32 (hdl e s).resends (hdl e s).unacked.length ∧
      t.sent = ((hdl e s).unacked.map (fun u => Sent.frame e u.seq (((hdl e s).rxSeq + 255) % 256) u.frame)).reverse ++ s.sent ∧
      t.cache = s.cache ∧ t.vlt = s.vlt) ∧
  (∀ (s : State) (e : End) (c : Instr), (hdl e s).up = true → sevOf 198 s ≤ 1 → inDrainStates s = false →
    c = .heddleLinkDown e ∨ (c = .heddleResendExpiry e ∧ ∃ u ∈ (hdl e s).unacked, 9 ≤ u.sends) →
    ∃ t, exec c s = .next t ∧ (hdl e t).up = false ∧ (hdl e t).unacked = [] ∧ (hdl e t).txSeq = 0 ∧
      (hdl e t).rxSeq = 0 ∧
      (hdl e t).downs = satAdd 65535 (hdl e s).downs 1 ∧ (∀ f ∈ (hdl e t).waiting, frameClass f = 6) ∧
        t.dram = s.dram) ∧
  (∀ s : State, linkUp s = false → s.pwr.keeper = true → allGood [1, 2] s = true →
    ∃ t, exec .heddleLinkUp s = .next t ∧ linkUp t = true ∧ t.hdlE.rxSeq = 0 ∧ t.hdlP.rxSeq = 0 ∧
      (s.tbs.loaded = false → t.tbs.deviation.natAbs ≤ 200 ∧ t.tbs.loaded = true ∧ t.tbs.aligned = true) ∧
      (s.tbs.loaded = true → t.tbs.deviation = s.tbs.deviation ∧ t.tbs.measured = shownDeviation s.tbs.deviation ∧
        (t.tbs.aligned = true ↔ s.tbs.deviation.natAbs ≤ 200)) ∧
      t.cache = s.cache ∧ t.vlt = s.vlt) ∧
  (∀ s : State, linkUp s = true → exec .heddleLinkUp s = .next s)

/-- The management port reaches the register space. While the keeper runs and the bus is not released as stuck, REG_ADDR sets or reads the address; a wrong PEC is discarded with
PEC_ERROR and a NACK; REG_DATA of a reserved range sets RANGE, reads 0 and steps the address; REG_DATA at 0x26000C
writes and reads FLT shadow enable; REG_STATUS reads and clears its four bits. Each read has its PEC, whose
coverage and polynomial are SMBus's (PRESUMED, log entry 108). Rests on
16_management_registers_monitors.md, SMBus and PMBus port; 16_management_registers_monitors.md, The register space. -/
def Obligations.ManagementPortReachesRegisters : Prop :=
  ∀ s : State, portLive s = true →
    (∀ v : Word, exec (.regAddr (some v) true) s = .next { s with smb := { s.smb with
      addr := v.toNat % 2 ^ 22 / 4 * 4, noInc := v.getLsbD 0 } }) ∧
    exec (.regAddr none true) s =
      .next { s with sent := .smbus (leBytes 4 (s.smb.addr + b01 s.smb.noInc)) (readPec 0xD0 (leBytes 4 (s.smb.addr + b01 s.smb.noInc)) s) :: s.sent } ∧
    (∀ v : Word, exec (.regAddr (some v) false) s =
      .next { s with sent := .nack :: s.sent, smb := { s.smb with pecError := true } }) ∧
    (∀ l : List Byte, exec (.regDataWrite l false) s =
      .next { s with sent := .nack :: s.sent, smb := { s.smb with pecError := true } }) ∧
    (∀ l : List Byte, inReserved s.smb.addr = true → s.smb.noInc = false →
      exec (.regDataWrite l true) s = .next { s with smb := { s.smb with range := true, addr := (s.smb.addr + l.length) % 2 ^ 22 } }) ∧
    (s.smb.addr = 0x26000C → s.efl.romRecovery = false →
      ∀ v : Word, ∃ t, exec (.regDataWrite (leBytes 4 v.toNat) true) s = .next t ∧
        t.flt = { s.flt with shadowed := v.toNat }) ∧
    (∀ w : Bool, inReserved s.smb.addr = true → s.smb.noInc = false → exec (.regDataRead (if w then 8 else 4)) s =
      .next { s with sent := .smbus (leBytes (if w then 8 else 4) 0) (readPec 0xD1 (leBytes (if w then 8 else 4) 0) s) :: s.sent,
                     smb := { s.smb with range := true, addr := (s.smb.addr + (if w then 8 else 4)) % 2 ^ 22 } }) ∧
    (s.smb.addr = 0x26000C → s.efl.romRecovery = false →
      ∃ t, exec (.regDataRead 4) s = .next t ∧ t.sent = .smbus (leBytes 4 (s.flt.shadowed % 2 ^ 32)) (readPec 0xD1 (leBytes 4 (s.flt.shadowed % 2 ^ 32)) s) :: s.sent ∧
        t.flt = s.flt ∧
        (s.smb.noInc = false → t.smb.addr = 0x260010)) ∧
    (∃ b, exec .regStatus s = .next { s with
        sent := .smbus [b] (readPec 0xD2 [b] s) :: s.sent,
        smb := { s.smb with unreachable := false, denied := false, pecError := false, range := false } } ∧
      b.getLsbD 0 = s.smb.unreachable ∧ b.getLsbD 1 = s.smb.denied ∧ b.getLsbD 2 = s.smb.pecError ∧
        b.getLsbD 3 = s.smb.range)

/-- PMBus commands answer for the page. PAGE holds 0 to 11 and marks other pages as bad data; OPERATION writes are bad
data; CLEAR_FAULTS clears the page's latches alone; an unknown code is NACKed; ALERT_RESPONSE answers the address
while SMBALERT_N is asserted. The constants, READ_VOUT, the whole-degree temperatures below 1,024 °C, an input or
output of 0 and the status bits read as the rules list; the bit positions and the linear11 rounding are PMBus's
(PRESUMED, log entry 10), as are the PEC bytes (log entry 108), and a wrong PEC discards these writes too (DEDUCED, log entry 108).
Rests on 16_management_registers_monitors.md, SMBus and PMBus port. -/
def Obligations.PmbusCommandsAnswer : Prop :=
  (∀ s : State, portLive s = true → s.efl.romRecovery = false →
    (∀ d, d < 12 → exec (.page (some d) true) s = .next { s with smb := { s.smb with page := d } }) ∧
    (∀ d, 12 ≤ d → exec (.page (some d) true) s = .next { s with smb := { s.smb with badData := true } }) ∧
    (∀ b, exec (.page none b) s = .next { s with sent := .smbus (leBytes 1 s.smb.page) (readPec 0x00 (leBytes 1 s.smb.page) s) :: s.sent }) ∧
    (∀ v, exec (.operation (some v) true) s = .next { s with smb := { s.smb with badData := true } }) ∧
    (∀ b, exec (.operation none b) s =
      .next { s with sent := .smbus [if (domAt s.smb.page s).on then 0x80 else 0] (readPec 0x01 [if (domAt s.smb.page s).on then 0x80 else 0] s) :: s.sent }) ∧
    (∀ v w, exec (.page (some v) false) s = .next { s with sent := .nack :: s.sent, smb := { s.smb with pecError := true } } ∧
      exec (.operation (some w) false) s = .next { s with sent := .nack :: s.sent, smb := { s.smb with pecError := true } } ∧
      exec (.clearFaults false) s = .next { s with sent := .nack :: s.sent, smb := { s.smb with pecError := true } }) ∧
    (∃ t, exec (.clearFaults true) s = .next t ∧ t.smb = { s.smb with badCommand := false, badData := false } ∧
      (∀ n, n ∉ pageSources s.smb.page → srcAt n t = srcAt n s) ∧
      (Sound s → ∀ n ∈ pageSources s.smb.page, inFault (srcAt n s) = false →
        srcAt n t = { srcAt n s with latched := false })) ∧
    (∀ c, portCodes.contains c = false → exec (.invalidCommand c) s =
      .next { s with sent := .nack :: s.sent, smb := { s.smb with badCommand := true } }) ∧
    (smbAlert s = true → exec .alertResponse s =
      .next { s with sent := .smbus (leBytes 1 (2 * (0x58 + s.smb.strap))) (BitVec.ofNat 8 (crc8 [2 * 0x0C + 1, 2 * (0x58 + s.smb.strap)])) :: s.sent }) ∧
    (smbAlert s = false → exec .alertResponse s = .next { s with sent := .nack :: s.sent })) ∧
  (∀ s : State, portLive s = true → s.efl.romRecovery = false →
    exec .capability s = .next { s with sent := .smbus [0xD0] (readPec 0x19 [0xD0] s) :: s.sent } ∧
    exec .voutMode s = .next { s with sent := .smbus [0x14] (readPec 0x20 [0x14] s) :: s.sent } ∧
    exec .pmbusRevision s = .next { s with sent := .smbus [0x44] (readPec 0x98 [0x44] s) :: s.sent } ∧
    exec .mfrId s = .next { s with sent := .smbus [0x4F, 0x44, 0x47, 0x41, 0x56, 0x41, 0x52] (readPec 0x99 [0x4F, 0x44, 0x47, 0x41, 0x56, 0x41, 0x52] s) :: s.sent } ∧
    exec .mfrModel s = .next { s with sent := .smbus [0x59, 0x56, 0x2D, 0x34, 0x38, 0x39, 0x36, 0x50] (readPec 0x9A [0x59, 0x56, 0x2D, 0x34, 0x38, 0x39, 0x36, 0x50] s) :: s.sent } ∧
    exec .mfrRevision s = .next { s with sent := .smbus [0x42, 0x30] (readPec 0x9B [0x42, 0x30] s) :: s.sent } ∧
    exec .readVout s = .next { s with sent := .smbus (leBytes 2 (sensedVolt s.smb.page s * 4096 / 1000)) (readPec 0x8B (leBytes 2 (sensedVolt s.smb.page s * 4096 / 1000)) s) :: s.sent } ∧
    (∃ w, exec .readVin s = .next { s with sent := .smbus (leBytes 2 w) (readPec 0x88 (leBytes 2 w) s) :: s.sent } ∧ (s.vin.vin = 0 → w = 0)) ∧
    (∃ w, exec .readIout s = .next { s with sent := .smbus (leBytes 2 w) (readPec 0x8C (leBytes 2 w) s) :: s.sent } ∧
      ((domAt s.smb.page s).iout = 0 → w = 0)) ∧
    (∃ w, exec .readTemperature1 s = .next { s with sent := .smbus (leBytes 2 w) (readPec 0x8D (leBytes 2 w) s) :: s.sent } ∧
      (∀ n : Nat, n < 1024 → zoneMax 3 s = some (16 * n) → linear11 n 1 = w)) ∧
    (∃ w, exec .readTemperature2 s = .next { s with sent := .smbus (leBytes 2 w) (readPec 0x8E (leBytes 2 w) s) :: s.sent } ∧
      (∀ n : Nat, n < 1024 → zoneMax 0 s = some (16 * n) → linear11 n 1 = w))) ∧
  (∀ s : State, portLive s = true → s.efl.romRecovery = false →
    (∃ w, exec .statusWord s = .next { s with sent := .smbus (leBytes 2 w) (readPec 0x79 (leBytes 2 w) s) :: s.sent } ∧
      exec .statusByte s = .next { s with sent := .smbus (leBytes 1 w) (readPec 0x78 (leBytes 1 w) s) :: s.sent } ∧
      (bitOf w 6 = true ↔ (domAt s.smb.page s).on = false) ∧ (bitOf w 11 = true ↔ (domAt s.smb.page s).good = false) ∧
      (bitOf w 5 = true ↔ (domAt s.smb.page s).railFault = true ∨ (domAt s.smb.page s).trackFault = true) ∧
      (bitOf w 15 = bitOf w 5) ∧ (bitOf w 3 = true ↔ s.vin.below = true ∨ s.vin.ovp = true) ∧
      (bitOf w 1 = true ↔ s.smb.badCommand = true ∨ s.smb.badData = true)) ∧
    (∃ b, exec .statusVout s = .next { s with sent := .smbus (leBytes 1 b) (readPec 0x7A (leBytes 1 b) s) :: s.sent } ∧
      (b = 0 ↔ (domAt s.smb.page s).railFault = false ∧ (domAt s.smb.page s).trackFault = false)) ∧
    (∃ b, exec .statusIout s = .next { s with sent := .smbus (leBytes 1 b) (readPec 0x7B (leBytes 1 b) s) :: s.sent } ∧
      (s.smb.page = 11 → (b = 0 ↔ s.pwr.dropped = []))) ∧
    (∃ b, exec .statusInput s = .next { s with sent := .smbus (leBytes 1 b) (readPec 0x7C (leBytes 1 b) s) :: s.sent } ∧
      (bitOf b 7 = true ↔ s.vin.ovp = true) ∧ (bitOf b 4 = true ↔ s.vin.below = true)) ∧
    (∃ b, exec .statusTemperature s = .next { s with sent := .smbus (leBytes 1 b) (readPec 0x7D (leBytes 1 b) s) :: s.sent } ∧
      (bitOf b 7 = true ↔ ∃ z ∈ s.thm.zones, z.vault = true) ∧ (bitOf b 6 = true ↔ ∃ z ∈ s.thm.zones,
        z.throttle = true)) ∧
    (∃ b, exec .statusCml s = .next { s with sent := .smbus (leBytes 1 b) (readPec 0x7E (leBytes 1 b) s) :: s.sent } ∧
      (bitOf b 7 = s.smb.badCommand) ∧ (bitOf b 6 = s.smb.badData)))

/-- Registers are read locally and through the link. A misaligned address is a fault by name (log entry 11). The host
reads an engine register of 32 bits, a 64-bit one whole or in two halves with the high half latched, and 0 where no
register stands. An address of the power controller is tunnelled while it is reachable and reads all ones otherwise.
The register frame, its response and its timeout complete the access; a write that reaches an engine
that is away is lost and counted. Rests on 16_management_registers_monitors.md,
The register space; 17_signals_links_package.md, Heddle link. -/
def Obligations.RegistersAreReadAndTunnelled : Prop :=
  ((∀ (s : State) (m : Master) (a : Nat) (w : Bool) (be : BitVec 8), a % 4 ≠ 0 →
    exec (.registerRead m a w be) s = .fault (.unaligned a)) ∧
  (∀ (s : State) (a v : Nat), masterUp .host s = true → a % 4 = 0 → a < 0x200000 → engineReg a s = some (false, v) →
    isHighWord a s = false →
    exec (.registerRead .host a false 0x0F) s = .next { s with sent := .register .host (v % 2 ^ 32) :: s.sent }) ∧
  (∀ (s : State) (a v : Nat), masterUp .host s = true → a % 4 = 0 → a < 0x200000 → engineReg a s = some (true, v) →
    exec (.registerRead .host a false 0x0F) s = .next { s with
        sent := .register .host (v % 2 ^ 32) :: s.sent,
        port := { s.port with highLatch := (.host, a, v / 2 ^ 32) :: dropHeld .host a s.port.highLatch } } ∧
    exec (.registerRead .host a true 0xFF) s = .next { s with sent := .register .host (v % 2 ^ 64) :: s.sent }) ∧
  (∀ (s : State) (a h : Nat) (v : Nat), masterUp .host s = true → a % 4 = 0 → a + 4 < 0x200000 →
    engineReg a s = some (true, v) →
    engineReg (a + 4) s = none → heldAt .host a s.port.highLatch = some h → h < 2 ^ 32 →
    exec (.registerRead .host (a + 4) false 0x0F) s = .next { s with
      sent := .register .host h :: s.sent, port := { s.port with highLatch := dropHeld .host a s.port.highLatch } }) ∧
  (∀ (s : State) (a : Nat), masterUp .host s = true → a % 4 = 0 → a < 0x200000 → engineReg a s = none →
    isHighWord a s = false →
    exec (.registerRead .host a false 0x0F) s = .next { s with sent := .register .host 0 :: s.sent }) ∧
  (∀ (s : State) (a : Nat), masterUp .host s = true → a % 4 = 0 → 0x200000 ≤ a → unreachable .engine s = false →
    ∃ t r, exec (.registerRead .host a false 0x0F) s = .next t ∧ t.port.reads = s.port.reads ++ [r] ∧
      r.issuer = .engine ∧
      r.req = { tag := s.port.tagE, write := false, wide := false, master := .host, addr := a, data := 0 } ∧
      t.port.tagE = (s.port.tagE + 1) % 256 ∧ t.flt = s.flt ∧ t.efl = s.efl) ∧
  (∀ (s : State) (a : Nat), masterUp .host s = true → a % 4 = 0 → 0x200000 ≤ a → unreachable .engine s = true →
    ∃ t, exec (.registerRead .host a false 0x0F) s = .next t ∧ t.sent = .register .host 0xFFFFFFFF :: s.sent ∧
      t.hdlE.unreached = satAdd max32 s.hdlE.unreached 1 ∧ t.port = s.port)) ∧
  ((∀ (s : State) (hdr : FrameHdr) (r : RegReq), accepts .pctrl hdr s = true → r.write = false → r.wide = false →
    r.addr = 0x26000C →
    (hdl .pctrl s).waiting = [] →
    ∃ t, exec (.registerFrame hdr .pctrl r) s = .next t ∧ t.flt = s.flt ∧ t.hdlP.rxSeq = (s.hdlP.rxSeq + 1) % 256 ∧
      (16 ≤ t.hdlP.unacked.length ∧ t.hdlP.waiting = [.response r (s.flt.shadowed % 2 ^ 32)] ∨
       ∃ q a l, t.sent = .frame .pctrl q a (.response r (s.flt.shadowed % 2 ^ 32)) :: l)) ∧
  (∀ (s : State) (hdr : FrameHdr) (r : RegReq), accepts .engine hdr s = true → r.write = true → r.wide = false →
    r.master = .steward →
    r.addr = 0x000048 → engineAway s = false →
    ∃ t, exec (.registerFrame hdr .engine r) s = .next t ∧ t.vlt = { s.vlt with count := r.data } ∧ t.flt = s.flt) ∧
  (∀ (s : State) (hdr : FrameHdr) (r : RegReq), accepts .engine hdr s = true → r.write = true → r.master = .smbus →
    r.addr < 0x200000 → engineAway s = true →
    ∃ t, exec (.registerFrame hdr .engine r) s = .next t ∧ t.smb.unreachable = true ∧
      t.hdlP.unreached = satAdd max32 s.hdlP.unreached 1 ∧ t.vlt = s.vlt ∧ t.cache = s.cache) ∧
  (∀ (s : State) (hdr : FrameHdr) (r : RegReq) (p : PendingRead) (v : Nat), accepts .engine hdr s = true →
    r.master = .host →
    s.port.reads = [p] → p.issuer = .engine → p.req = { r with wide := false } → p.be = 0xFF → v < 2 ^ 32 →
    ∃ t, exec (.registerResponse hdr r v) s = .next t ∧ t.sent.head? = some (.register .host v) ∧ t.port.reads = [] ∧
      t.vlt = s.vlt ∧ t.cache = s.cache) ∧
  (∀ (s : State) (r : RegReq) (p : PendingRead), r.master = .host → s.port.reads = [p] → p.issuer = .engine →
    p.req = { r with wide := false } → p.be = 0xFF →
    ∃ t, exec (.unreachableTimeout r) s = .next t ∧ t.sent = .register .host 0xFFFFFFFF :: s.sent ∧
      t.port.reads = [] ∧
      t.hdlE.unreached = satAdd max32 s.hdlE.unreached 1) ∧
  (∀ (s : State) (r : RegReq), s.port.reads = [] → exec (.unreachableTimeout r) s = .next s))

/-- Registers are written by their access codes; RWP pairs need their complement. A misaligned address is a fault by
name and a partial write is ignored (log entry 11). Writes reach VLT_COUNT, CXL_DROPS, LOG_MARK and the time offset,
and not a read-only register. A BLT_CAP value waits for its complement, takes effect with it, and otherwise, or at
RWP_PAIR_TIMEOUT, raises the engine's pair source with the address. Rests on 16_management_registers_monitors.md, The
register space; 00_scope.md, Conventions. -/
def Obligations.RegistersAreWritten : Prop :=
  (∀ (s : State) (m : Master) (a : Nat) (w : Bool) (v : DWord) (be : BitVec 8), a % 4 ≠ 0 →
    exec (.registerWrite m a w v be) s = .fault (.unaligned a)) ∧
  (∀ (s : State) (m : Master) (a : Nat) (w : Bool) (v : DWord) (be : BitVec 8), a % 4 = 0 → wholeAccess w be = false →
    exec (.registerWrite m a w v be) s = .next s) ∧
  (∀ (s : State) (v : DWord), masterUp .host s = true →
    exec (.registerWrite .host 0x000048 false v 0x0F) s = .next { s with vlt := { s.vlt with count := v.toNat % 2 ^ 32 } } ∧
    exec (.registerWrite .host 0x070010 false v 0x0F) s = .next { s with host := { s.host with drops := v.toNat % 2 ^ 32 } } ∧
    exec (.registerWrite .host 0x000000 false v 0x0F) s = .next s) ∧
  (∀ (s : State) (v : DWord), masterUp .steward s = true →
    exec (.registerWrite .steward 0x30000C false v 0x0F) s = exec (.logMark (v.truncate 32)) s ∧
    exec (.registerWrite .steward 0x2A0008 true v 0xFF) s = .next { s with
      tbs := { s.tbs with offset := v.toNat }, port := { s.port with lowHold := dropHeld .steward 0x2A0008 s.port.lowHold } }) ∧
  (∀ (s : State) (n : Nat) (v : DWord), masterUp .host s = true → n < 63 →
    (∀ e ∈ s.port.rwpHalf, e.2.1 ≠ 0x020008 + 0x40 * n) →
    exec (.registerWrite .host (0x020008 + 0x40 * n) false v 0x0F) s = .next { s with
      port := { s.port with rwpHalf := (.host, 0x020008 + 0x40 * n, v.toNat % 2 ^ 32) :: s.port.rwpHalf } }) ∧
  (∀ (s : State) (n : Nat) (v c : DWord) (r : List (Master × Nat × Nat)), masterUp .host s = true → n < 63 →
    s.port.rwpHalf = (.host, 0x020008 + 0x40 * n, v.toNat % 2 ^ 32) :: r → (∀ e ∈ r, e.2.1 ≠ 0x020008 + 0x40 * n) →
    c.truncate 32 = ~~~(v.truncate 32) →
    exec (.registerWrite .host (0x020008 + 0x40 * n) false c 0x0F) s = .next { s with
      port := { s.port with rwpHalf := r },
      cache := { s.cache with caps := tput 0 n (v.toNat % 2 ^ 27) s.cache.caps } }) ∧
  (∀ (s : State) (n : Nat) (v c : DWord) (r : List (Master × Nat × Nat)), masterUp .host s = true → n < 63 →
    s.port.rwpHalf = (.host, 0x020008 + 0x40 * n, v.toNat % 2 ^ 32) :: r → (∀ e ∈ r, e.2.1 ≠ 0x020008 + 0x40 * n) →
    c.truncate 32 ≠ ~~~(v.truncate 32) →
    ∃ t, exec (.registerWrite .host (0x020008 + 0x40 * n) false c 0x0F) s = .next t ∧ t.port.rwpHalf = r ∧
      t.cache = s.cache ∧
      tget 0 t.flt.details 65 = 0x020008 + 0x40 * n) ∧
  (∀ (s : State) (a x : Nat), heldAt .host a s.port.rwpHalf = some x → 0 < a → a < 0x200000 →
    ∃ t, exec (.rwpPairTimeout .host a) s = .next t ∧ heldAt .host a t.port.rwpHalf = none ∧ t.cache = s.cache ∧
      t.stg = s.stg ∧ tget 0 t.flt.details 65 = a) ∧
  (∀ (s : State) (m : Master) (a : Nat), heldAt m a s.port.rwpHalf = none → exec (.rwpPairTimeout m a) s = .next s)

/-- The dirty-map counts, VLT_RESIDUAL and the bolts' residuals agree. In every state whose map has fewer than 2^32
entries, all in bolts 0 to 62, the two residual counts of the dirty map times 4,096 equal VLT_RESIDUAL, and
VLT_RESIDUAL equals the sum of the residuals of bolts 0 to 62. Rests on 03_cache_memory.md, The dirty map. -/
def Obligations.ResidualRegistersAgree : Prop :=
  ∀ s : State, s.cache.map.length < 2 ^ 32 → (∀ e ∈ s.cache.map, boltOf s e.1 < 63) →
    (regValue 0x030008 s + regValue 0x03000C s) * 4096 = regValue 0x000018 s ∧
    regValue 0x000018 s = ((List.range 63).map (fun n => regValue (0x020010 + 0x40 * n) s)).sum

/-- Entry index i names the i-th oldest entry and its slot in LOG_RING. In a sound state, Get Log of entry i answers
the i-th oldest entry present, and the eight words of that entry read at slot (HEAD − COUNT + i) mod 4,096 of
LOG_RING. States R440. -/
def Obligations.LogIndexNamesSlot : Prop :=
  ∀ (s : State) (i : BitVec 16) (e : LogEntry), Sound s → s.host.training = true → s.warm.engineUp = true →
    i.toNat < s.log.ring.length → s.log.ring[s.log.ring.length - 1 - i.toNat]? = some e →
    exec (.vendorGetLog ([0, 0, 0,
      0] ++ leBytes 2 i.toNat ++ leBytes 2 1)) s = .next (msix 0 (emit (.mailbox .success (logBytes e)) s)) ∧
    (∀ w, w < 8 → regValue (0x320000 + 0x20 * ((regValue 0x300004 s + 4096 - regValue 0x300000 s % 2 ^ 13 + i.toNat) % 4096) + 4 * w) s =
      ofLeBytes (((logBytes e).drop (4 * w)).take 4))

/-- The time base follows clock, frames and ticks; monitors are configured, cleared and frozen. TIME_FRAME records the
deviation with alignment within 200 ns and the correction at the other end; REFCLK_LOSS and REFCLK_RETURN end and
restore the lock, count its loss and set source 237; a step on an empty queue moves the time base by one (the model's choice, log entry 6).
MON_CFG_WRITE configures and clears its monitor alone, MON_CLEAR_ALL clears all, MON_FREEZE sets the freeze. Rests on
16_management_registers_monitors.md, Timebase; 16_management_registers_monitors.md, Performance monitors. -/
def Obligations.TimebaseFollowsTheClock : Prop :=
  ((∀ (s : State) (hdr : FrameHdr) (c : Int), accepts .engine hdr s = true →
    ∃ t, exec (.timeFrame hdr .pctrl c) s = .next t ∧ t.tbs.now = s.tbs.now ∧ t.tbs.offset = s.tbs.offset ∧
      t.tbs.loaded = true ∧ t.tbs.measured = shownDeviation t.tbs.deviation ∧ (t.tbs.aligned = true ↔ t.tbs.deviation.natAbs ≤ 200) ∧
      (s.tbs.loaded = false → t.tbs.deviation.natAbs ≤ 200) ∧ (s.tbs.loaded = true → t.tbs.deviation = s.tbs.deviation) ∧
      t.cache = s.cache) ∧
  (∀ (s : State) (hdr : FrameHdr) (c : Int), accepts .pctrl hdr s = true →
    ∃ t, exec (.timeFrame hdr .engine c) s = .next t ∧ t.tbs = { s.tbs with correction := c } ∧ t.cache = s.cache) ∧
  (∀ (s : State) (p : Bool), s.pwr.keeper = true → s.tbs.refclk = true → Sound s → (srcAt 237 s).frozen = false →
    ∃ t, exec (.refclkLoss p) s = .next t ∧ t.tbs.refclk = p ∧ t.tbs.now = s.tbs.now ∧ tbsLocked t = false ∧
      (s.tbs.offRate = false → t.tbs.losses = satAdd 255 s.tbs.losses 1 ∧ inFault (srcAt 237 t) = true)) ∧
  (∀ s : State, s.pwr.keeper = true → Sound s → (srcAt 237 s).frozen = false →
    ∃ t, exec .refclkReturn s = .next t ∧ t.tbs = { s.tbs with refclk := true, offRate := false } ∧ inFault (srcAt 237 t) = false ∧
      t.cache = s.cache) ∧
  (∀ s : State, s.pwr.keeper = true → s.pending = [] → ∃ t, step s = .next t ∧
    t.tbs.now = (s.tbs.now + 1) % 2 ^ 64 ∧ t.tbs.offset = s.tbs.offset ∧ t.tbs.refclk = s.tbs.refclk ∧
      t.tbs.losses = s.tbs.losses)) ∧
  ((∀ (s : State) (m : Master) (k : Nat) (v : Word), s.warm.engineUp = true → k < 64 → Sound s →
    ∃ t, exec (.monCfgWrite m k v) s = .next t ∧
      monitorAt k t = { cfg := v.toNat, min := 0xFFFF, max := 0, count := 0, sat := false, gap := false, bins := [] } ∧
      (∀ j, j ≠ k → monitorAt j t = monitorAt j s) ∧ t = { s with mon := { s.mon with mons := t.mon.mons } }) ∧
  (∀ (s : State) (m : Master), s.warm.engineUp = true → Sound s →
    ∃ t, exec (.monClearAll m) s = .next t ∧
      (∀ k, monitorAt k t = { cfg := (monitorAt k s).cfg, min := 0xFFFF, max := 0, count := 0, sat := false, gap := false, bins := [] }) ∧
      t = { s with mon := { s.mon with mons := t.mon.mons } }) ∧
  (∀ (s : State) (m : Master) (b : Bool), s.warm.engineUp = true →
    exec (.monFreeze m b) s = .next { s with mon := { s.mon with freeze := b } }))

/-- A monitored sample goes into one bin and counts saturate. A sample of a watched measurand updates minimum,
maximum, count and exactly one bin: bin 0 below the lower edge, bin k for its 2^w wide range, bin 15 above; count and
bins saturate at 0xFFFF_FFFF and set SAT, the others going on. While frozen the sample is counted as a drop.
MONITOR_FRAME delivers such a sample. States R519, R520. -/
def Obligations.SamplesGoIntoBins : Prop :=
  (∀ (s : State) (code index v k : Nat) (m : Monitor), s.warm.engineUp = true → v ≤ 65535 → s.mon.mons = [(k, m)] →
    watches code index m = true → m.count ≤ 0xFFFFFFFF → (∀ b, tget 0 m.bins b ≤ 0xFFFFFFFF) →
    (s.mon.freeze = false → ∃ y b, sample code index v s = { s with mon := { s.mon with mons := [(k, y)] } } ∧
      y.cfg = m.cfg ∧ y.min = Nat.min m.min v ∧ y.max = Nat.max m.max v ∧ y.gap = m.gap ∧
      y.count = Nat.min (m.count + 1) 0xFFFFFFFF ∧ b < 16 ∧
      (b = 0 ↔ v < bitsOf m.cfg 15 0) ∧
      (0 < b → b < 15 → bitsOf m.cfg 15 0 + (b - 1) * 2 ^ bitsOf m.cfg 31 28 ≤ v ∧
        v < bitsOf m.cfg 15 0 + b * 2 ^ bitsOf m.cfg 31 28) ∧
      (b = 15 ↔ bitsOf m.cfg 15 0 + 14 * 2 ^ bitsOf m.cfg 31 28 ≤ v) ∧
      tget 0 y.bins b = Nat.min (tget 0 m.bins b + 1) 0xFFFFFFFF ∧ (∀ c, c ≠ b → tget 0 y.bins c = tget 0 m.bins c) ∧
      (y.sat = true ↔ m.sat = true ∨ y.count = 0xFFFFFFFF ∨ tget 0 y.bins b = 0xFFFFFFFF)) ∧
    (s.mon.freeze = true →
      sample code index v s = { s with mon := { s.mon with drops := satAdd max32 s.mon.drops 1 } })) ∧
  (∀ (s : State) (hdr : FrameHdr) (x : MonSample), accepts .engine hdr s = true → 11 ≤ x.code →
    ∃ t, exec (.monitorFrame hdr [x]) s = .next t ∧ t.mon = (sample x.code x.index x.value s).mon ∧
      t.hdlE.rxSeq = (s.hdlE.rxSeq + 1) % 256 ∧ t.cache = s.cache)
end

