-- ==== Sys2Proof/Laws/Changes.lean ====
section
/-! SUPPORT. What an operation may change: which parts of the state it leaves as they are, and that a sound state stays sound. A set
of parts is a number, one bit for each field of `State` in its order; `Changes m s t` is the frame. -/

set_option linter.all false
set_option linter.unusedTactic false
set_option linter.unreachableTactic false

namespace Sys2Proof.Machine

/-- Every part of `k` is one of `m`. -/
def Covers (m k : Nat) : Prop := m ||| k = m

theorem Covers.bit {m k i : Nat} (h : Covers m k) (hk : k.testBit i = true) : m.testBit i = true := by
  have := congrArg (fun x => x.testBit i) h
  simp only [Nat.testBit_or, hk, Bool.or_true] at this
  exact this.symm

theorem Covers.trans {m k j : Nat} (h : Covers m k) (hj : k ||| j = k) : Covers m j := by
  unfold Covers at *
  apply Nat.eq_of_testBit_eq
  intro i
  have h1 := congrArg (fun x => x.testBit i) h
  have h2 := congrArg (fun x => x.testBit i) hj
  simp only [Nat.testBit_or] at *
  cases hm : m.testBit i <;> cases hk : k.testBit i <;> cases hj' : j.testBit i <;> simp_all

/-- A part that may change needs no proof. -/
theorem Covers.skip {m k i : Nat} {p : Prop} (h : Covers m k) (hk : k.testBit i = true) (hm : m.testBit i = false) : p := by
  rw [h.bit hk] at hm; cases hm

/-- From `s` to `t` only the parts `m` may differ, and a sound state stays sound. -/
structure Changes (m : Nat) (s t : State) : Prop where
  cache : m.testBit 0 = false → t.cache = s.cache
  dram : m.testBit 1 = false → t.dram = s.dram
  log : m.testBit 2 = false → t.log = s.log
  nand : m.testBit 3 = false → t.nand = s.nand
  stg : m.testBit 4 = false → t.stg = s.stg
  vlt : m.testBit 5 = false → t.vlt = s.vlt
  drain : m.testBit 6 = false → t.drain = s.drain
  restore : m.testBit 7 = false → t.restore = s.restore
  rail : m.testBit 8 = false → t.rail = s.rail
  vcore : m.testBit 9 = false → t.vcore = s.vcore
  host : m.testBit 10 = false → t.host = s.host
  mbx : m.testBit 11 = false → t.mbx = s.mbx
  vin : m.testBit 12 = false → t.vin = s.vin
  pwr : m.testBit 13 = false → t.pwr = s.pwr
  cell : m.testBit 14 = false → t.cell = s.cell
  gau : m.testBit 15 = false → t.gau = s.gau
  chg : m.testBit 16 = false → t.chg = s.chg
  thm : m.testBit 17 = false → t.thm = s.thm
  flt : m.testBit 18 = false → t.flt = s.flt
  sel : m.testBit 19 = false → t.sel = s.sel
  warm : m.testBit 20 = false → t.warm = s.warm
  drf : m.testBit 21 = false → t.drf = s.drf
  efl : m.testBit 22 = false → t.efl = s.efl
  lcs : m.testBit 23 = false → t.lcs = s.lcs
  tbs : m.testBit 24 = false → t.tbs = s.tbs
  mon : m.testBit 25 = false → t.mon = s.mon
  hdlE : m.testBit 26 = false → t.hdlE = s.hdlE
  hdlP : m.testBit 27 = false → t.hdlP = s.hdlP
  port : m.testBit 28 = false → t.port = s.port
  smb : m.testBit 29 = false → t.smb = s.smb
  sent : m.testBit 30 = false → t.sent = s.sent
  free : m.testBit 31 = false → t.free = s.free
  pending : m.testBit 32 = false → t.pending = s.pending
  tap : m.testBit 33 = false → t.tap = s.tap
  sound : Sound s → Sound t

theorem Changes.refl (m : Nat) (s : State) : Changes m s s := by
  constructor <;> intros <;> first | rfl | assumption

theorem Changes.trans {m : Nat} {s t u : State} (h : Changes m s t) (k : Changes m t u) : Changes m s u := by
  cases h; cases k
  constructor <;> intro x <;> simp only [*]

theorem Changes.cut {a b : Prop} (x : a) (f : a → b) : b := f x

theorem Changes.ite {m : Nat} {s a b : State} {c : Prop} [Decidable c] (ha : Changes m s a) (hb : Changes m s b) :
    Changes m s (if c then a else b) := by
  split <;> assumption

theorem Changes.foldl {α : Type} {m : Nat} {f : State → α → State} {l : List α} {s t : State} (h : Changes m s t)
    (hf : ∀ u x, Changes m s u → Changes m s (f u x)) : Changes m s (l.foldl f t) := by
  induction l generalizing t with
  | nil => exact h
  | cons x l ih => exact ih (hf _ _ h)

/-- An outcome's next state, if it has one, differs in the parts `m` only. -/
structure ChangesOut (m : Nat) (s : State) (o : Host.Outcome State Fault Refusal) : Prop where
  out : ∀ t, o = .next t → Changes m s t

theorem ChangesOut.next {m : Nat} {s t : State} (h : Changes m s t) : ChangesOut m s (.next t) := by
  refine ⟨?_⟩
  intro u hu; cases hu; exact h

theorem ChangesOut.fault {m : Nat} {s : State} {f : Fault} : ChangesOut m s (.fault f) := by
  refine ⟨?_⟩
  intro u hu; cases hu

theorem ChangesOut.ite {m : Nat} {s : State} {a b : Host.Outcome State Fault Refusal} {c : Prop} [Decidable c]
    (ha : ChangesOut m s a) (hb : ChangesOut m s b) : ChangesOut m s (if c then a else b) := by
  split <;> assumption

theorem tableOk_tput {α : Type} [DecidableEq α] (d : α) (n : Nat) (v : α) (t : Table α) :
    ∀ b : Option Nat, tableOk d b t = true → (∀ x, b = some x → x < n) → tableOk d b (tput d n v t) = true := by
  induction t with
  | nil =>
    intro b _ hb
    unfold tput
    split
    · rfl
    · cases b with
      | none => simp_all [tableOk]
      | some x => simp_all [tableOk]
  | cons c t ih =>
    obtain ⟨k, w⟩ := c
    intro b h hb
    simp only [tableOk, Bool.and_eq_true, decide_eq_true_eq] at h
    obtain ⟨⟨h1, h2⟩, h3⟩ := h
    unfold tput
    split
    · split
      · simp [tableOk, h1, h2, h3]
      · rename_i hlt hv
        cases b with
        | none => simp [tableOk, hv, h2, h3, hlt]
        | some x => simp [tableOk, hv, h2, h3, hlt, hb x rfl]
    · split
      · split
        · rename_i _ he hv
          clear ih
          cases t with
          | nil => rfl
          | cons c t =>
            obtain ⟨k2, w2⟩ := c
            simp only [tableOk, Bool.and_eq_true, decide_eq_true_eq] at h3 ⊢
            refine ⟨⟨?_, h3.1.2⟩, h3.2⟩
            cases b with
            | none => rfl
            | some x => simp only [decide_eq_true_eq]; have := hb x rfl; omega
        · rename_i _ he hv
          subst he
          simp [tableOk, hv, h3, h1]
      · rename_i h4 h5
        simp only [tableOk, Bool.and_eq_true, decide_eq_true_eq]
        refine ⟨⟨h1, h2⟩, ih _ h3 ?_⟩
        intro x hx
        cases hx
        omega

theorem tableOk_weaken {α : Type} [DecidableEq α] (d : α) (t : Table α) (k : Nat) (b : Option Nat) (hb : ∀ x, b = some x → x ≤ k)
    (h : tableOk d (some k) t = true) : tableOk d b t = true := by
  cases t with
  | nil => rfl
  | cons c t =>
    obtain ⟨j, w⟩ := c
    simp only [tableOk, Bool.and_eq_true, decide_eq_true_eq] at h ⊢
    refine ⟨⟨?_, h.1.2⟩, h.2⟩
    cases b with
    | none => rfl
    | some x => simp only [decide_eq_true_eq]; have := hb x rfl; omega

theorem tableOk_filter {α : Type} [DecidableEq α] (d : α) (p : Nat × α → Bool) (t : Table α) :
    ∀ b : Option Nat, tableOk d b t = true → tableOk d b (t.filter p) = true := by
  induction t with
  | nil => intro b h; exact h
  | cons c t ih =>
    obtain ⟨k, w⟩ := c
    intro b h
    simp only [tableOk, Bool.and_eq_true, decide_eq_true_eq] at h
    rw [List.filter_cons]
    split
    · simp only [tableOk, Bool.and_eq_true, decide_eq_true_eq]
      exact ⟨h.1, ih _ h.2⟩
    · refine tableOk_weaken d _ k b ?_ (ih _ h.2)
      intro x hx
      subst hx
      have := h.1.1
      simp at this
      omega

theorem LinkSound.fresh {h : HdlEnd} (hu : h.unacked = []) (ht : h.txSeq = 0) (hr : h.rxSeq = 0) : LinkSound h :=
  ⟨by simp [hu], by simp [ht], by simp [hr]⟩

theorem LogSound.fresh {l : LogSt} (hr : l.ring = []) (hh : l.head = 0) (hs : l.seq = 0) : LogSound l :=
  ⟨by simp [hr], by simp [hh], by simp [hs]⟩

theorem keysUp_nil {α : Type} : keysUp none ([] : Table α) = true := rfl

theorem keysUp_weaken {α : Type} (t : Table α) (k : Nat) (b : Option Nat) (hb : ∀ x, b = some x → x ≤ k)
    (h : keysUp (some k) t = true) : keysUp b t = true := by
  cases t with
  | nil => rfl
  | cons c t =>
    obtain ⟨j, w⟩ := c
    simp only [keysUp, Bool.and_eq_true, decide_eq_true_eq] at h ⊢
    refine ⟨?_, h.2⟩
    cases b with
    | none => rfl
    | some x => simp only [decide_eq_true_eq]; have := hb x rfl; omega

theorem keysUp_tput' {α : Type} [DecidableEq α] (d : α) (n : Nat) (v : α) (t : Table α) :
    ∀ b : Option Nat, keysUp b t = true → (∀ x, b = some x → x < n) → keysUp b (tput d n v t) = true := by
  induction t with
  | nil =>
    intro b _ hb
    unfold tput
    split
    · rfl
    · cases b <;> simp_all [keysUp]
  | cons c t ih =>
    obtain ⟨k, w⟩ := c
    intro b h hb
    simp only [keysUp, Bool.and_eq_true] at h
    obtain ⟨h1, h3⟩ := h
    unfold tput
    split
    · split
      · simp [keysUp, h1, h3]
      · rename_i hlt _
        cases b with
        | none => simp [keysUp, h3, hlt]
        | some x => simp [keysUp, h3, hlt, hb x rfl]
    · split
      · split
        · refine keysUp_weaken _ k _ ?_ h3
          intro x hx; subst hx; simp at h1; omega
        · rename_i _ he _
          subst he
          simp [keysUp, h3, h1]
      · simp only [keysUp, Bool.and_eq_true]
        refine ⟨h1, ih _ h3 ?_⟩
        intro x hx; cases hx; omega

theorem keysUp_tput {α : Type} [DecidableEq α] (d : α) (n : Nat) (v : α) {t : Table α} (h : keysUp none t = true) :
    keysUp none (tput d n v t) = true := keysUp_tput' d n v t none h (by simp)

theorem keysUp_tmod {α : Type} [DecidableEq α] (d : α) (n : Nat) (f : α → α) {t : Table α} (h : keysUp none t = true) :
    keysUp none (tmod d n f t) = true := keysUp_tput _ _ _ h

theorem keysUp_tins' {α : Type} (n : Nat) (v : α) (t : Table α) :
    ∀ b : Option Nat, keysUp b t = true → (∀ x, b = some x → x < n) → keysUp b (tins n v t) = true := by
  induction t with
  | nil => intro b _ hb; cases b <;> simp_all [keysUp, tins]
  | cons c t ih =>
    obtain ⟨k, w⟩ := c
    intro b h hb
    simp only [keysUp, Bool.and_eq_true] at h
    obtain ⟨h1, h3⟩ := h
    unfold tins
    split
    · rename_i hlt
      cases b with
      | none => simp [keysUp, h3, hlt]
      | some x => simp [keysUp, h3, hlt, hb x rfl]
    · split
      · rename_i _ he
        subst he
        simp [keysUp, h3, h1]
      · simp only [keysUp, Bool.and_eq_true]
        refine ⟨h1, ih _ h3 ?_⟩
        intro x hx; cases hx; omega

theorem keysUp_tins {α : Type} (n : Nat) (v : α) {t : Table α} (h : keysUp none t = true) : keysUp none (tins n v t) = true :=
  keysUp_tins' n v t none h (by simp)

theorem keysUp_filter' {α : Type} (p : Nat × α → Bool) (t : Table α) :
    ∀ b : Option Nat, keysUp b t = true → keysUp b (t.filter p) = true := by
  induction t with
  | nil => intro b h; exact h
  | cons c t ih =>
    obtain ⟨k, w⟩ := c
    intro b h
    simp only [keysUp, Bool.and_eq_true] at h
    rw [List.filter_cons]
    split
    · simp only [keysUp, Bool.and_eq_true]; exact ⟨h.1, ih _ h.2⟩
    · refine keysUp_weaken _ k b ?_ (ih _ h.2)
      intro x hx; subst hx; have := h.1; simp at this; omega

theorem keysUp_filter {α : Type} (p : Nat × α → Bool) {t : Table α} (h : keysUp none t = true) :
    keysUp none (t.filter p) = true := keysUp_filter' p t none h

theorem keysUp_map' {α β : Type} (f : Nat × α → Nat × β) (hf : ∀ e, (f e).1 = e.1) (t : Table α) :
    ∀ b : Option Nat, keysUp b t = true → keysUp b (t.map f) = true := by
  induction t with
  | nil => intro b h; rfl
  | cons c t ih =>
    intro b h
    obtain ⟨k, w⟩ := c
    have e := hf (k, w)
    simp only [keysUp, Bool.and_eq_true] at h
    rw [List.map_cons]
    generalize f (k, w) = y at *
    obtain ⟨y1, y2⟩ := y
    simp only at e
    subst e
    simp only [keysUp, Bool.and_eq_true]
    exact ⟨h.1, ih _ h.2⟩

theorem keysUp_map {α β : Type} (f : Nat × α → Nat × β) {t : Table α} (h : keysUp none t = true) (hf : ∀ e, (f e).1 = e.1) :
    keysUp none (t.map f) = true := keysUp_map' f hf t none h

theorem keysUp_filterMap' {α β : Type} (f : Nat × α → Option (Nat × β)) (hf : ∀ e x, f e = some x → x.1 = e.1) (t : Table α) :
    ∀ b : Option Nat, keysUp b t = true → keysUp b (t.filterMap f) = true := by
  induction t with
  | nil => intro b h; rfl
  | cons c t ih =>
    intro b h
    obtain ⟨k, w⟩ := c
    simp only [keysUp, Bool.and_eq_true] at h
    rw [List.filterMap_cons]
    cases hc : f (k, w) with
    | none =>
      refine keysUp_weaken _ k b ?_ (ih _ h.2)
      intro x hx; subst hx; have := h.1; simp at this; omega
    | some y =>
      have e := hf _ _ hc
      obtain ⟨y1, y2⟩ := y
      simp only at e
      subst e
      simp only [keysUp, Bool.and_eq_true]
      exact ⟨h.1, ih _ h.2⟩

theorem keysUp_filterMap {α β : Type} (f : Nat × α → Option (Nat × β)) {t : Table α} (h : keysUp none t = true)
    (hf : ∀ e x, f e = some x → x.1 = e.1) : keysUp none (t.filterMap f) = true := keysUp_filterMap' f hf t none h

theorem keysUp_indexed' {α β : Type} (f : α × Nat → Option (Nat × β)) (hf : ∀ e x, f e = some x → x.1 = e.2) (l : List α) :
    ∀ (k : Nat) (b : Option Nat), (∀ x, b = some x → x < k) → keysUp b ((l.zipIdx k).filterMap f) = true := by
  induction l with
  | nil => intro k b _; rfl
  | cons c l ih =>
    intro k b hb
    rw [List.zipIdx_cons, List.filterMap_cons]
    cases hc : f (c, k) with
    | none => exact ih _ _ (fun x hx => Nat.lt_succ_of_lt (hb x hx))
    | some y =>
      have e := hf _ _ hc
      obtain ⟨y1, y2⟩ := y
      simp only at e
      subst e
      simp only [keysUp, Bool.and_eq_true]
      refine ⟨?_, ih _ _ (fun x hx => by cases hx; exact Nat.lt_succ_self _)⟩
      cases b with
      | none => rfl
      | some x => simp [hb x rfl]

theorem keysUp_indexed {α β : Type} (f : α × Nat → Option (Nat × β)) (l : List α) (hf : ∀ e x, f e = some x → x.1 = e.2) :
    keysUp none (l.zipIdx.filterMap f) = true := keysUp_indexed' f hf l 0 none (by simp)

theorem keysUp_foldl {α γ : Type} (f : Table α → γ → Table α) (l : List γ) {t : Table α} (h : keysUp none t = true)
    (hf : ∀ u x, keysUp none u = true → keysUp none (f u x) = true) : keysUp none (l.foldl f t) = true := by
  induction l generalizing t with
  | nil => exact h
  | cons x l ih => exact ih (hf _ _ h)

theorem CacheSound.fresh {c : CacheSt} (hc : c.ch = [{}, {}, {}, {}]) (hp : c.poison = []) (hm : c.map = []) (hk : c.caps = []) :
    CacheSound c :=
  ⟨by simp [hc], by simp [hp, tableOk], by simp [hm, keysUp], by simp [hk, keysUp]⟩

/-- An update of several parts, the queue of commands not among them. -/
theorem Changes.parts {m : Nat} {s t : State} {cache' : CacheSt} {dram' : List Host.Cell} {log' : LogSt} {nand' :
    NandSt} {stg' : StgSt} {vlt' : VltSt} {drain' : DrainSt} {restore' : RstoreSt} {rail' : RailSt} {vcore' :
    VcoreSt} {host' : HostSt} {mbx' : MbxSt} {vin' : VinSt} {pwr' : PwrSt} {cell' : CellSt} {gau' : GauSt} {chg' :
    ChgSt} {thm' : ThmSt} {flt' : FltSt} {sel' : SelSt} {warm' : RstSt} {drf' : DrfSt} {efl' : EflSt} {lcs' : LcsSt}
    {tbs' : TbsSt} {mon' : MonSt} {hdlE' : HdlEnd} {hdlP' : HdlEnd} {port' : PortSt} {smb' : SmbSt} {sent' : List
    Sent} {free' : Nat} {tap' : TapSt} (hcache : m.testBit 0 = false → cache' = t.cache) (hdram : m.testBit 1 =
    false → dram' = t.dram) (hlog : m.testBit 2 = false → log' = t.log) (hnand : m.testBit 3 = false → nand' =
    t.nand) (hstg : m.testBit 4 = false → stg' = t.stg) (hvlt : m.testBit 5 = false → vlt' = t.vlt) (hdrain :
    m.testBit 6 = false → drain' = t.drain) (hrestore : m.testBit 7 = false → restore' = t.restore) (hrail :
    m.testBit 8 = false → rail' = t.rail) (hvcore : m.testBit 9 = false → vcore' = t.vcore) (hhost : m.testBit 10 =
    false → host' = t.host) (hmbx : m.testBit 11 = false → mbx' = t.mbx) (hvin : m.testBit 12 = false → vin' =
    t.vin) (hpwr : m.testBit 13 = false → pwr' = t.pwr) (hcell : m.testBit 14 = false → cell' = t.cell) (hgau :
    m.testBit 15 = false → gau' = t.gau) (hchg : m.testBit 16 = false → chg' = t.chg) (hthm : m.testBit 17 = false →
    thm' = t.thm) (hflt : m.testBit 18 = false → flt' = t.flt) (hsel : m.testBit 19 = false → sel' = t.sel) (hwarm :
    m.testBit 20 = false → warm' = t.warm) (hdrf : m.testBit 21 = false → drf' = t.drf) (hefl : m.testBit 22 = false
    → efl' = t.efl) (hlcs : m.testBit 23 = false → lcs' = t.lcs) (htbs : m.testBit 24 = false → tbs' = t.tbs) (hmon
    : m.testBit 25 = false → mon' = t.mon) (hhdlE : m.testBit 26 = false → hdlE' = t.hdlE) (hhdlP : m.testBit 27 =
    false → hdlP' = t.hdlP) (hport : m.testBit 28 = false → port' = t.port) (hsmb : m.testBit 29 = false → smb' =
    t.smb) (hsent : m.testBit 30 = false → sent' = t.sent) (hfree : m.testBit 31 = false → free' = t.free) (htap :
    m.testBit 33 = false → tap' = t.tap) (kdram : memoryOk t.dram = true → memoryOk dram' = true) (klog : LogSound
    t.log → LogSound log') (khdlE : LinkSound t.hdlE → LinkSound hdlE') (khdlP : LinkSound t.hdlP → LinkSound hdlP')
    (kmbx : EventLogsSound t.mbx → EventLogsSound mbx') (kpwr : t.pwr.doms.length = 12 → pwr'.doms.length = 12)
    (ksel : t.sel.pairs.length = 7 → sel'.pairs.length = 7) (kcache : CacheSound t.cache → CacheSound cache') (knand
    : NandSound t.nand → NandSound nand') (kthm : ThermalSound t.thm → ThermalSound thm') (kflt : keysUp none
    t.flt.sources = true → keysUp none flt'.sources = true) (kdrf : keysUp none t.drf.received = true → keysUp none
    drf'.received = true) (kefl : keysUp none t.efl.words = true → keysUp none efl'.words = true) (kmon : keysUp
    none t.mon.mons = true → keysUp none mon'.mons = true) (ktbs : t.tbs.now < 2 ^ 64 → tbs'.now < 2 ^ 64) (h :
    Changes m s t) : Changes m s (State.mk cache' dram' log' nand' stg' vlt' drain' restore' rail' vcore' host' mbx'
    vin' pwr' cell' gau' chg' thm' flt' sel' warm' drf' efl' lcs' tbs' mon' hdlE' hdlP' port' smb' sent' free'
    t.pending tap') := by
  cases h
  constructor
  case sound =>
    intro x
    have hs := ‹Sound s → Sound t› x
    exact ⟨kdram hs.memory, klog hs.log, khdlE hs.engineEnd, khdlP hs.pctrlEnd, kmbx hs.events, kpwr hs.domains,
      ksel hs.pairs, kcache hs.cache, knand hs.nand, kthm hs.thermal, kflt hs.sources, kdrf hs.received, kefl hs.words,
      kmon hs.monitors, ktbs hs.time⟩
  all_goals (intro x; simp only [*])

theorem Changes.put_cache {m : Nat} {s t : State} {x : CacheSt} (hm : m.testBit 0 = true) (e : CacheSound t.cache →
    CacheSound x) (h : Changes m s t) : Changes m s { t with cache := x } := by
  exact { h with cache := fun hx => absurd hm (by simp [hx]), sound := fun hs => { h.sound hs with cache := e (h.sound hs).cache } }

theorem Changes.put_dram {m : Nat} {s t : State} {x : List Host.Cell} (hm : m.testBit 1 = true) (e : memoryOk t.dram
    = true → memoryOk x = true) (h : Changes m s t) : Changes m s { t with dram := x } := by
  exact { h with dram := fun hx => absurd hm (by simp [hx]), sound := fun hs => { h.sound hs with memory := e (h.sound hs).memory } }

theorem Changes.put_log {m : Nat} {s t : State} {x : LogSt} (hm : m.testBit 2 = true) (e : LogSound t.log → LogSound
    x) (h : Changes m s t) : Changes m s { t with log := x } := by
  exact { h with log := fun hx => absurd hm (by simp [hx]), sound := fun hs => { h.sound hs with log := e (h.sound hs).log } }

theorem Changes.put_nand {m : Nat} {s t : State} {x : NandSt} (hm : m.testBit 3 = true) (e : NandSound t.nand →
    NandSound x) (h : Changes m s t) : Changes m s { t with nand := x } := by
  exact { h with nand := fun hx => absurd hm (by simp [hx]), sound := fun hs => { h.sound hs with nand := e (h.sound hs).nand } }

theorem Changes.put_stg {m : Nat} {s t : State} {x : StgSt} (hm : m.testBit 4 = true) (h : Changes m s t) : Changes
    m s { t with stg := x } := by
  exact { h with stg := fun hx => absurd hm (by simp [hx]), sound := fun hs => { h.sound hs with } }

theorem Changes.put_vlt {m : Nat} {s t : State} {x : VltSt} (hm : m.testBit 5 = true) (h : Changes m s t) : Changes
    m s { t with vlt := x } := by
  exact { h with vlt := fun hx => absurd hm (by simp [hx]), sound := fun hs => { h.sound hs with } }

theorem Changes.put_drain {m : Nat} {s t : State} {x : DrainSt} (hm : m.testBit 6 = true) (h : Changes m s t) :
    Changes m s { t with drain := x } := by
  exact { h with drain := fun hx => absurd hm (by simp [hx]), sound := fun hs => { h.sound hs with } }

theorem Changes.put_restore {m : Nat} {s t : State} {x : RstoreSt} (hm : m.testBit 7 = true) (h : Changes m s t) :
    Changes m s { t with restore := x } := by
  exact { h with restore := fun hx => absurd hm (by simp [hx]), sound := fun hs => { h.sound hs with } }

theorem Changes.put_rail {m : Nat} {s t : State} {x : RailSt} (hm : m.testBit 8 = true) (h : Changes m s t) :
    Changes m s { t with rail := x } := by
  exact { h with rail := fun hx => absurd hm (by simp [hx]), sound := fun hs => { h.sound hs with } }

theorem Changes.put_vcore {m : Nat} {s t : State} {x : VcoreSt} (hm : m.testBit 9 = true) (h : Changes m s t) :
    Changes m s { t with vcore := x } := by
  exact { h with vcore := fun hx => absurd hm (by simp [hx]), sound := fun hs => { h.sound hs with } }

theorem Changes.put_host {m : Nat} {s t : State} {x : HostSt} (hm : m.testBit 10 = true) (h : Changes m s t) :
    Changes m s { t with host := x } := by
  exact { h with host := fun hx => absurd hm (by simp [hx]), sound := fun hs => { h.sound hs with } }

theorem Changes.put_mbx {m : Nat} {s t : State} {x : MbxSt} (hm : m.testBit 11 = true) (e : EventLogsSound t.mbx →
    EventLogsSound x) (h : Changes m s t) : Changes m s { t with mbx := x } := by
  exact { h with mbx := fun hx => absurd hm (by simp [hx]), sound := fun hs => { h.sound hs with events := e (h.sound hs).events } }

theorem Changes.put_vin {m : Nat} {s t : State} {x : VinSt} (hm : m.testBit 12 = true) (h : Changes m s t) : Changes
    m s { t with vin := x } := by
  exact { h with vin := fun hx => absurd hm (by simp [hx]), sound := fun hs => { h.sound hs with } }

theorem Changes.put_pwr {m : Nat} {s t : State} {x : PwrSt} (hm : m.testBit 13 = true) (e : t.pwr.doms.length = 12 →
    x.doms.length = 12) (h : Changes m s t) : Changes m s { t with pwr := x } := by
  exact { h with pwr := fun hx => absurd hm (by simp [hx]), sound := fun hs => { h.sound hs with domains := e (h.sound hs).domains } }

theorem Changes.put_cell {m : Nat} {s t : State} {x : CellSt} (hm : m.testBit 14 = true) (h : Changes m s t) :
    Changes m s { t with cell := x } := by
  exact { h with cell := fun hx => absurd hm (by simp [hx]), sound := fun hs => { h.sound hs with } }

theorem Changes.put_gau {m : Nat} {s t : State} {x : GauSt} (hm : m.testBit 15 = true) (h : Changes m s t) : Changes
    m s { t with gau := x } := by
  exact { h with gau := fun hx => absurd hm (by simp [hx]), sound := fun hs => { h.sound hs with } }

theorem Changes.put_chg {m : Nat} {s t : State} {x : ChgSt} (hm : m.testBit 16 = true) (h : Changes m s t) : Changes
    m s { t with chg := x } := by
  exact { h with chg := fun hx => absurd hm (by simp [hx]), sound := fun hs => { h.sound hs with } }

theorem Changes.put_thm {m : Nat} {s t : State} {x : ThmSt} (hm : m.testBit 17 = true) (e : ThermalSound t.thm →
    ThermalSound x) (h : Changes m s t) : Changes m s { t with thm := x } := by
  exact { h with thm := fun hx => absurd hm (by simp [hx]), sound := fun hs => { h.sound hs with thermal := e (h.sound hs).thermal } }

theorem Changes.put_flt {m : Nat} {s t : State} {x : FltSt} (hm : m.testBit 18 = true) (e : keysUp none
    t.flt.sources = true → keysUp none x.sources = true) (h : Changes m s t) : Changes m s { t with flt := x } := by
  exact { h with flt := fun hx => absurd hm (by simp [hx]), sound := fun hs => { h.sound hs with sources := e (h.sound hs).sources } }

theorem Changes.put_sel {m : Nat} {s t : State} {x : SelSt} (hm : m.testBit 19 = true) (e : t.sel.pairs.length = 7 →
    x.pairs.length = 7) (h : Changes m s t) : Changes m s { t with sel := x } := by
  exact { h with sel := fun hx => absurd hm (by simp [hx]), sound := fun hs => { h.sound hs with pairs := e (h.sound hs).pairs } }

theorem Changes.put_warm {m : Nat} {s t : State} {x : RstSt} (hm : m.testBit 20 = true) (h : Changes m s t) :
    Changes m s { t with warm := x } := by
  exact { h with warm := fun hx => absurd hm (by simp [hx]), sound := fun hs => { h.sound hs with } }

theorem Changes.put_drf {m : Nat} {s t : State} {x : DrfSt} (hm : m.testBit 21 = true) (e : keysUp none
    t.drf.received = true → keysUp none x.received = true) (h : Changes m s t) : Changes m s { t with drf := x } :=
    by
  exact { h with drf := fun hx => absurd hm (by simp [hx]), sound := fun hs => { h.sound hs with received := e (h.sound hs).received } }

theorem Changes.put_efl {m : Nat} {s t : State} {x : EflSt} (hm : m.testBit 22 = true) (e : keysUp none t.efl.words
    = true → keysUp none x.words = true) (h : Changes m s t) : Changes m s { t with efl := x } := by
  exact { h with efl := fun hx => absurd hm (by simp [hx]), sound := fun hs => { h.sound hs with words := e (h.sound hs).words } }

theorem Changes.put_lcs {m : Nat} {s t : State} {x : LcsSt} (hm : m.testBit 23 = true) (h : Changes m s t) : Changes
    m s { t with lcs := x } := by
  exact { h with lcs := fun hx => absurd hm (by simp [hx]), sound := fun hs => { h.sound hs with } }

theorem Changes.put_tbs {m : Nat} {s t : State} {x : TbsSt} (hm : m.testBit 24 = true) (e : t.tbs.now < 2 ^ 64 →
    x.now < 2 ^ 64) (h : Changes m s t) : Changes m s { t with tbs := x } := by
  exact { h with tbs := fun hx => absurd hm (by simp [hx]), sound := fun hs => { h.sound hs with time := e (h.sound hs).time } }

theorem Changes.put_mon {m : Nat} {s t : State} {x : MonSt} (hm : m.testBit 25 = true) (e : keysUp none t.mon.mons =
    true → keysUp none x.mons = true) (h : Changes m s t) : Changes m s { t with mon := x } := by
  exact { h with mon := fun hx => absurd hm (by simp [hx]), sound := fun hs => { h.sound hs with monitors := e (h.sound hs).monitors } }

theorem Changes.put_hdlE {m : Nat} {s t : State} {x : HdlEnd} (hm : m.testBit 26 = true) (e : LinkSound t.hdlE →
    LinkSound x) (h : Changes m s t) : Changes m s { t with hdlE := x } := by
  exact { h with hdlE := fun hx => absurd hm (by simp [hx]), sound := fun hs => { h.sound hs with engineEnd := e (h.sound hs).engineEnd } }

theorem Changes.put_hdlP {m : Nat} {s t : State} {x : HdlEnd} (hm : m.testBit 27 = true) (e : LinkSound t.hdlP →
    LinkSound x) (h : Changes m s t) : Changes m s { t with hdlP := x } := by
  exact { h with hdlP := fun hx => absurd hm (by simp [hx]), sound := fun hs => { h.sound hs with pctrlEnd := e (h.sound hs).pctrlEnd } }

theorem Changes.put_port {m : Nat} {s t : State} {x : PortSt} (hm : m.testBit 28 = true) (h : Changes m s t) :
    Changes m s { t with port := x } := by
  exact { h with port := fun hx => absurd hm (by simp [hx]), sound := fun hs => { h.sound hs with } }

theorem Changes.put_smb {m : Nat} {s t : State} {x : SmbSt} (hm : m.testBit 29 = true) (h : Changes m s t) : Changes
    m s { t with smb := x } := by
  exact { h with smb := fun hx => absurd hm (by simp [hx]), sound := fun hs => { h.sound hs with } }

theorem Changes.put_sent {m : Nat} {s t : State} {x : List Sent} (hm : m.testBit 30 = true) (h : Changes m s t) :
    Changes m s { t with sent := x } := by
  exact { h with sent := fun hx => absurd hm (by simp [hx]), sound := fun hs => { h.sound hs with } }

theorem Changes.put_free {m : Nat} {s t : State} {x : Nat} (hm : m.testBit 31 = true) (h : Changes m s t) : Changes
    m s { t with free := x } := by
  exact { h with free := fun hx => absurd hm (by simp [hx]), sound := fun hs => { h.sound hs with } }

theorem Changes.put_pending {m : Nat} {s t : State} {x : List Instr} (hm : m.testBit 32 = true) (h : Changes m s t)
    : Changes m s { t with pending := x } := by
  exact { h with pending := fun hx => absurd hm (by simp [hx]), sound := fun hs => { h.sound hs with } }

theorem Changes.put_tap {m : Nat} {s t : State} {x : TapSt} (hm : m.testBit 33 = true) (h : Changes m s t) : Changes
    m s { t with tap := x } := by
  exact { h with tap := fun hx => absurd hm (by simp [hx]), sound := fun hs => { h.sound hs with } }

end Sys2Proof.Machine
end

