-- ==== Sys2Proof/Laws/ChangesStaging.lean ====
section
/-! SUPPORT. The frames of the shared operations on memory, links, log, monitors, NAND, staging and the power tree. -/

set_option linter.all false
set_option linter.unusedTactic false
set_option linter.unreachableTactic false

namespace Sys2Proof.Machine

/-! ### Ops -/

theorem writeByte_changes (a : Nat) (b : Byte) {m' : Nat} (hm : Covers m' 0x2) {u₀ u₁ : State}
    (hu : Changes m' u₀ u₁) : Changes m' u₀ (writeByte a b u₁) :=
  hu.put_dram (hm.bit (by decide)) (fun h => tableOk_tput _ _ _ _ none h (by simp))

theorem writeLineFrom_changes (a : Nat) (data : Line) (be : BitVec 64) (n : Nat) {m' : Nat} (hm : Covers m' 0x2) {u₀
    u₁ : State} (hu : Changes m' u₀ u₁) : Changes m' u₀ (writeLineFrom a data be n u₁) := by
  induction n generalizing u₁ with
  | zero =>
    unfold writeLineFrom
    repeat' first
      | with_reducible assumption | with_reducible refine writeByte_changes _ _ (hm.trans (by decide)) ?_
      | with_reducible apply Changes.ite
      | (extract_lets +onlyGivenNames x; refine Changes.cut (a := Changes m' u₀ x) ?_ (fun hx => ?_) <;> [unfold x; clear_value x])
      | extract_lets +onlyGivenNames x | split
  | succ n ih =>
    unfold writeLineFrom
    repeat' first
      | with_reducible assumption | with_reducible apply ih
      | with_reducible refine writeByte_changes _ _ (hm.trans (by decide)) ?_ | with_reducible apply Changes.ite
      | (extract_lets +onlyGivenNames x; refine Changes.cut (a := Changes m' u₀ x) ?_ (fun hx => ?_) <;> [unfold x; clear_value x])
      | extract_lets +onlyGivenNames x | split

theorem writeLine_changes (a : Nat) (data : Line) (be : BitVec 64) {m' : Nat} (hm : Covers m' 0x2) {u₀ u₁ : State}
    (hu : Changes m' u₀ u₁) : Changes m' u₀ (writeLine a data be u₁) := by
  unfold writeLine
  repeat' first
    | with_reducible assumption | with_reducible refine writeLineFrom_changes _ _ _ _ (hm.trans (by decide)) ?_

theorem zeroRange_changes (lo hi : Nat) {m' : Nat} (hm : Covers m' 0x2) {u₀ u₁ : State}
    (hu : Changes m' u₀ u₁) : Changes m' u₀ (zeroRange lo hi u₁) :=
  hu.put_dram (hm.bit (by decide)) (fun h => tableOk_filter _ _ _ none h)

theorem writeGranule_changes (g : Nat) (bytes : List Host.Cell) {m' : Nat} (hm : Covers m' 0x2) {u₀ u₁ : State} (hu
    : Changes m' u₀ u₁) : Changes m' u₀ (writeGranule g bytes u₁) := by
  unfold writeGranule
  repeat' first
    | with_reducible assumption | (fail_if_no_progress beta_reduce)
    | with_reducible refine writeByte_changes _ _ (hm.trans (by decide)) ?_
    | with_reducible refine zeroRange_changes _ _ (hm.trans (by decide)) ?_
    | (with_reducible refine Changes.foldl ?_ (fun v y hv => ?_))

theorem emit_changes (m : Sent) {m' : Nat} (hm : Covers m' 0x40000000) {u₀ u₁ : State} (hu : Changes m' u₀ u₁) :
    Changes m' u₀ (emit m u₁) := by
  unfold emit
  repeat' first
    | with_reducible assumption
    | (fail_if_no_progress with_reducible refine Changes.put_sent (hm.bit (by decide)) ?_)
    | extract_lets +onlyGivenNames x

theorem nextFree_changes {m' : Nat} (hm : Covers m' 0x80000000) {u₀ u₁ : State} (hu : Changes m' u₀ u₁) : Changes m'
    u₀ (nextFree u₁) := by
  unfold nextFree
  repeat' first
    | with_reducible assumption
    | (fail_if_no_progress with_reducible refine Changes.put_free (hm.bit (by decide)) ?_)
    | extract_lets +onlyGivenNames x

/-! ### EflWords -/

theorem loseDatum_changes (b : Nat) {m' : Nat} (hm : Covers m' 0x400800) {u₀ u₁ : State} (hu : Changes m' u₀ u₁) :
    Changes m' u₀ (loseDatum b u₁) := by
  unfold loseDatum
  repeat' first
    | with_reducible assumption
    | (fail_if_no_progress (with_reducible refine Changes.put_mbx (hm.bit (by decide)) ?_ ?_) <;> [(first | exact id | exact fun (h0 : EventLogsSound _) => ⟨h0.four, h0.records⟩ | exact fun _ => ⟨rfl, by simp⟩); skip])
    | (fail_if_no_progress (with_reducible refine Changes.put_efl (hm.bit (by decide)) ?_ ?_) <;> [(first | exact id | exact fun h0 => keysUp_tins _ _ h0 | exact fun h0 => keysUp_filter _ h0); skip])
    | split

/-! ### MonBase -/

theorem sample_changes (code index value : Nat) {m' : Nat} (hm : Covers m' 0x2000000) {u₀ u₁ : State} (hu : Changes
    m' u₀ u₁) : Changes m' u₀ (sample code index value u₁) := by
  unfold sample
  repeat' first
    | with_reducible assumption | (fail_if_no_progress beta_reduce) | with_reducible apply Changes.ite
    | (fail_if_no_progress (with_reducible refine Changes.put_mon (hm.bit (by decide)) ?_ ?_) <;> [(first | exact id | exact fun _ => keysUp_nil | exact keysUp_tmod _ _ _ | exact keysUp_tput _ _ _ | exact fun h0 => keysUp_filter _ h0 | exact fun h0 => keysUp_map _ h0 (fun e => by try beta_reduce; (try split) <;> rfl)); skip])
    | (extract_lets +onlyGivenNames x; refine Changes.cut (a := Changes m' u₀ x) ?_ (fun hx => ?_) <;> [unfold x; clear_value x])
    | extract_lets +onlyGivenNames x | split

theorem sampleFree_changes (code index : Nat) {m' : Nat} (hm : Covers m' 0x82000000) {u₀ u₁ : State} (hu : Changes
    m' u₀ u₁) : Changes m' u₀ (sampleFree code index u₁) := by
  unfold sampleFree
  repeat' first
    | with_reducible assumption | with_reducible refine nextFree_changes (hm.trans (by decide)) ?_
    | with_reducible refine sample_changes _ _ _ (hm.trans (by decide)) ?_ | with_reducible apply Changes.ite
    | split

theorem sampleSince_changes (code index since : Nat) {m' : Nat} (hm : Covers m' 0x2000000) {u₀ u₁ : State} (hu :
    Changes m' u₀ u₁) : Changes m' u₀ (sampleSince code index since u₁) := by
  unfold sampleSince
  repeat' first | with_reducible assumption | with_reducible refine sample_changes _ _ _ (hm.trans (by decide)) ?_

theorem gapMonitors_changes {m' : Nat} (hm : Covers m' 0x2000000) {u₀ u₁ : State} (hu : Changes m' u₀ u₁) : Changes
    m' u₀ (gapMonitors u₁) := by
  unfold gapMonitors
  repeat' first
    | with_reducible assumption | (fail_if_no_progress beta_reduce) | with_reducible apply Changes.ite
    | (fail_if_no_progress (with_reducible refine Changes.put_mon (hm.bit (by decide)) ?_ ?_) <;> [(first | exact id | exact fun _ => keysUp_nil | exact keysUp_tmod _ _ _ | exact keysUp_tput _ _ _ | exact fun h0 => keysUp_filter _ h0 | exact fun h0 => keysUp_map _ h0 (fun e => by try beta_reduce; (try split) <;> rfl)); skip])
    | extract_lets +onlyGivenNames x | split

/-! ### Link -/

theorem setHdl_changes (e : End) (f : HdlEnd → HdlEnd) {m' : Nat} (hm : Covers m' 0xc000000)
    (hf : ∀ h, LinkSound h → LinkSound (f h)) {u₀ u₁ : State} (hu : Changes m' u₀ u₁) : Changes m' u₀ (setHdl e f u₁) := by
  cases e with
  | engine => exact hu.put_hdlE (hm.bit (by decide)) (hf _)
  | pctrl => exact hu.put_hdlP (hm.bit (by decide)) (hf _)

theorem ackFrames_length (a : Nat) (l : List Unacked) : (ackFrames a l).length ≤ l.length := by
  unfold ackFrames
  split
  · simp
  · exact Nat.le_refl _

theorem pump_changes (e : End) (n : Nat) {m' : Nat} (hm : Covers m' 0x4c000000) {u₀ u₁ : State}
    (hu : Changes m' u₀ u₁) : Changes m' u₀ (pump e n u₁) := by
  induction n generalizing u₁ with
  | zero => exact hu
  | succ n ih =>
    unfold pump
    dsimp only
    split
    · rename_i hx
      simp only [Bool.and_eq_true, decide_eq_true_eq] at hx
      split
      · apply ih
        apply emit_changes _ (hm.trans (by decide))
        cases e with
        | engine =>
          refine hu.put_hdlE (hm.bit (by decide)) (fun h => ⟨?_, Nat.mod_lt _ (by decide), h.rxSeq⟩)
          have := hx.2
          simp only [hdl] at this
          simp; omega
        | pctrl =>
          refine hu.put_hdlP (hm.bit (by decide)) (fun h => ⟨?_, Nat.mod_lt _ (by decide), h.rxSeq⟩)
          have := hx.2
          simp only [hdl] at this
          simp; omega
      · exact hu
    · exact hu

theorem sendFrame_changes (e : End) (f : Frame) {m' : Nat} (hm : Covers m' 0x4c000000) {u₀ u₁ : State} (hu : Changes
    m' u₀ u₁) : Changes m' u₀ (sendFrame e f u₁) := by
  unfold sendFrame
  repeat' first
    | with_reducible assumption | (fail_if_no_progress beta_reduce)
    | with_reducible refine pump_changes _ _ (hm.trans (by decide)) ?_
    | (with_reducible refine setHdl_changes _ _ (hm.trans (by decide)) (fun h hh => by (first | exact ⟨hh.unacked, hh.txSeq, hh.rxSeq⟩ | exact LinkSound.fresh rfl rfl rfl | exact ⟨by simpa using hh.unacked, hh.txSeq, hh.rxSeq⟩ | exact ⟨hh.unacked, hh.txSeq, Nat.mod_lt _ (by decide)⟩ | exact ⟨Nat.le_trans (ackFrames_length _ _) hh.unacked, hh.txSeq, hh.rxSeq⟩)) ?_)
    | with_reducible apply Changes.ite | extract_lets +onlyGivenNames x | split

theorem sendControl_changes (e : End) (nak : Bool) {m' : Nat} (hm : Covers m' 0x40000000) {u₀ u₁ : State} (hu :
    Changes m' u₀ u₁) : Changes m' u₀ (sendControl e nak u₁) := by
  unfold sendControl
  repeat' first
    | with_reducible assumption | with_reducible refine emit_changes _ (hm.trans (by decide)) ?_
    | with_reducible apply Changes.ite | split

theorem resendAll_changes (e : End) {m' : Nat} (hm : Covers m' 0x4c000000) {u₀ u₁ : State} (hu : Changes m' u₀ u₁) :
    Changes m' u₀ (resendAll e u₁) := by
  unfold resendAll
  repeat' first
    | with_reducible assumption | (fail_if_no_progress beta_reduce)
    | with_reducible refine emit_changes _ (hm.trans (by decide)) ?_
    | (with_reducible refine setHdl_changes _ _ (hm.trans (by decide)) (fun h hh => by (first | exact ⟨hh.unacked, hh.txSeq, hh.rxSeq⟩ | exact LinkSound.fresh rfl rfl rfl | exact ⟨by simpa using hh.unacked, hh.txSeq, hh.rxSeq⟩ | exact ⟨hh.unacked, hh.txSeq, Nat.mod_lt _ (by decide)⟩ | exact ⟨Nat.le_trans (ackFrames_length _ _) hh.unacked, hh.txSeq, hh.rxSeq⟩)) ?_)
    | (with_reducible refine Changes.foldl ?_ (fun v y hv => ?_))
    | (extract_lets +onlyGivenNames x; refine Changes.cut (a := Changes m' u₀ x) ?_ (fun hx => ?_) <;> [unfold x; clear_value x])
    | extract_lets +onlyGivenNames x

theorem takeAck_changes (e : End) (hdr : FrameHdr) {m' : Nat} (hm : Covers m' 0x4c000000) {u₀ u₁ : State} (hu :
    Changes m' u₀ u₁) : Changes m' u₀ (takeAck e hdr u₁) := by
  unfold takeAck
  repeat' first
    | with_reducible assumption | (fail_if_no_progress beta_reduce)
    | (with_reducible refine setHdl_changes _ _ (hm.trans (by decide)) (fun h hh => by (first | exact ⟨hh.unacked, hh.txSeq, hh.rxSeq⟩ | exact LinkSound.fresh rfl rfl rfl | exact ⟨by simpa using hh.unacked, hh.txSeq, hh.rxSeq⟩ | exact ⟨hh.unacked, hh.txSeq, Nat.mod_lt _ (by decide)⟩ | exact ⟨Nat.le_trans (ackFrames_length _ _) hh.unacked, hh.txSeq, hh.rxSeq⟩)) ?_)
    | with_reducible refine pump_changes _ _ (hm.trans (by decide)) ?_
    | with_reducible refine resendAll_changes _ (hm.trans (by decide)) ?_ | with_reducible apply Changes.ite
    | (extract_lets +onlyGivenNames x; refine Changes.cut (a := Changes m' u₀ x) ?_ (fun hx => ?_) <;> [unfold x; clear_value x])
    | extract_lets +onlyGivenNames x | split

theorem receive_changes (e : End) (hdr : FrameHdr) {m' : Nat} (hm : Covers m' 0x4c000000) {u₀ u₁ : State} (hu :
    Changes m' u₀ u₁) : Changes m' u₀ (receive e hdr u₁) := by
  unfold receive
  repeat' first
    | with_reducible assumption | (fail_if_no_progress beta_reduce)
    | with_reducible refine sendControl_changes _ _ (hm.trans (by decide)) ?_
    | (with_reducible refine setHdl_changes _ _ (hm.trans (by decide)) (fun h hh => by (first | exact ⟨hh.unacked, hh.txSeq, hh.rxSeq⟩ | exact LinkSound.fresh rfl rfl rfl | exact ⟨by simpa using hh.unacked, hh.txSeq, hh.rxSeq⟩ | exact ⟨hh.unacked, hh.txSeq, Nat.mod_lt _ (by decide)⟩ | exact ⟨Nat.le_trans (ackFrames_length _ _) hh.unacked, hh.txSeq, hh.rxSeq⟩)) ?_)
    | with_reducible refine takeAck_changes _ _ (hm.trans (by decide)) ?_ | with_reducible apply Changes.ite
    | (extract_lets +onlyGivenNames x; refine Changes.cut (a := Changes m' u₀ x) ?_ (fun hx => ?_) <;> [unfold x; clear_value x])
    | extract_lets +onlyGivenNames x | split

theorem sendSamples_changes (l : List MonSample) {m' : Nat} (hm : Covers m' 0x4e000000) {u₀ u₁ : State} (hu :
    Changes m' u₀ u₁) : Changes m' u₀ (sendSamples l u₁) := by
  unfold sendSamples
  repeat' first
    | with_reducible assumption | with_reducible refine sendFrame_changes _ _ (hm.trans (by decide)) ?_
    | with_reducible refine gapMonitors_changes (hm.trans (by decide)) ?_ | with_reducible apply Changes.ite
    | split

/-! ### Log -/

theorem pushEntry_changes (e : LogEntry) {m' : Nat} (hm : Covers m' 0x4) {u₀ u₁ : State}
    (hu : Changes m' u₀ u₁) : Changes m' u₀ (pushEntry e u₁) :=
  hu.put_log (hm.bit (by decide)) (fun _ => ⟨List.length_take_le _ _, Nat.mod_lt _ (by decide), Nat.mod_lt _ (by decide)⟩)

theorem logEntry_changes (code source flags d0 d1 : Nat) {m' : Nat} (hm : Covers m' 0x4) {u₀ u₁ : State} (hu :
    Changes m' u₀ u₁) : Changes m' u₀ (logEntry code source flags d0 d1 u₁) := by
  unfold logEntry
  repeat' first | with_reducible assumption | with_reducible refine pushEntry_changes _ (hm.trans (by decide)) ?_

theorem logEvent_changes (code d0 d1 : Nat) {m' : Nat} (hm : Covers m' 0x4) {u₀ u₁ : State} (hu : Changes m' u₀ u₁)
    : Changes m' u₀ (logEvent code d0 d1 u₁) := by
  unfold logEvent
  repeat' first
    | with_reducible assumption | with_reducible refine logEntry_changes _ _ _ _ _ (hm.trans (by decide)) ?_

theorem engineLog_changes (code d0 d1 : Nat) {m' : Nat} (hm : Covers m' 0x4c000000) {u₀ u₁ : State} (hu : Changes m'
    u₀ u₁) : Changes m' u₀ (engineLog code d0 d1 u₁) := by
  unfold engineLog
  repeat' first | with_reducible assumption | with_reducible refine sendFrame_changes _ _ (hm.trans (by decide)) ?_

theorem setVault_changes (v : VState) {m' : Nat} (hm : Covers m' 0x4c000020) {u₀ u₁ : State} (hu : Changes m' u₀ u₁)
    : Changes m' u₀ (setVault v u₁) := by
  unfold setVault
  repeat' first
    | with_reducible assumption | with_reducible refine engineLog_changes _ _ _ (hm.trans (by decide)) ?_
    | with_reducible refine vaultCode_changes (hm.trans (by decide)) ?_ | with_reducible apply Changes.ite
    | (fail_if_no_progress with_reducible refine Changes.put_vlt (hm.bit (by decide)) ?_)
    | (extract_lets +onlyGivenNames x; refine Changes.cut (a := Changes m' u₀ x) ?_ (fun hx => ?_) <;> [unfold x; clear_value x])
    | extract_lets +onlyGivenNames x | split

/-! ### Engine -/

theorem setPair_changes (p : PairId) (f : Pair → Pair) {m' : Nat} (hm : Covers m' 0x80000) {u₀ u₁ : State}
    (hu : Changes m' u₀ u₁) : Changes m' u₀ (setPair p f u₁) :=
  hu.put_sel (hm.bit (by decide)) (fun h => by simpa [modAt] using h)

theorem drivePair_changes (p : PairId) (active : Bool) {m' : Nat} (hm : Covers m' 0x80000) {u₀ u₁ : State} (hu :
    Changes m' u₀ u₁) : Changes m' u₀ (drivePair p active u₁) := by
  unfold drivePair
  repeat' first
    | with_reducible assumption | (fail_if_no_progress beta_reduce)
    | with_reducible refine setPair_changes _ _ (hm.trans (by decide)) ?_ | extract_lets +onlyGivenNames x

theorem engineReact_changes (n : Nat) {m' : Nat} (hm : Covers m' 0x80020) {u₀ u₁ : State} (hu : Changes m' u₀ u₁) :
    Changes m' u₀ (engineReact n u₁) := by
  unfold engineReact
  repeat' first
    | with_reducible assumption | with_reducible refine drivePair_changes _ _ (hm.trans (by decide)) ?_
    | with_reducible apply Changes.ite
    | (fail_if_no_progress with_reducible refine Changes.put_vlt (hm.bit (by decide)) ?_)
    | extract_lets +onlyGivenNames x | split

theorem engineFault_changes (n detail : Nat) {m' : Nat} (hm : Covers m' 0x4c0c0020) {u₀ u₁ : State} (hu : Changes m'
    u₀ u₁) : Changes m' u₀ (engineFault n detail u₁) := by
  unfold engineFault
  repeat' first
    | with_reducible assumption | with_reducible refine engineReact_changes _ (hm.trans (by decide)) ?_
    | with_reducible refine sendFrame_changes _ _ (hm.trans (by decide)) ?_ | with_reducible apply Changes.ite
    | (fail_if_no_progress (with_reducible refine Changes.put_flt (hm.bit (by decide)) ?_ ?_) <;> [(first | exact id | exact keysUp_tmod _ _ _); skip])
    | (extract_lets +onlyGivenNames x; refine Changes.cut (a := Changes m' u₀ x) ?_ (fun hx => ?_) <;> [unfold x; clear_value x])
    | extract_lets +onlyGivenNames x | split

theorem engineClear_changes (n : Nat) {m' : Nat} (hm : Covers m' 0x4c040000) {u₀ u₁ : State} (hu : Changes m' u₀ u₁)
    : Changes m' u₀ (engineClear n u₁) := by
  unfold engineClear
  repeat' first
    | with_reducible assumption | with_reducible refine sendFrame_changes _ _ (hm.trans (by decide)) ?_
    | with_reducible apply Changes.ite
    | (fail_if_no_progress (with_reducible refine Changes.put_flt (hm.bit (by decide)) ?_ ?_) <;> [(first | exact id | exact fun h0 => keysUp_tmod _ _ _ h0); skip])
    | split

theorem engineCode_changes (n : Nat) (t : Bool) (c : Bool) {m' : Nat} (hm : Covers m' 0xc0020) {u₀ u₁ : State} (hu :
    Changes m' u₀ u₁) : Changes m' u₀ (engineCode n t c u₁) := by
  unfold engineCode
  repeat' first
    | with_reducible assumption | (fail_if_no_progress beta_reduce)
    | with_reducible refine engineReact_changes _ (hm.trans (by decide)) ?_ | with_reducible apply Changes.ite
    | (fail_if_no_progress (with_reducible refine Changes.put_flt (hm.bit (by decide)) ?_ ?_) <;> [(first | exact id | exact fun h0 => keysUp_tmod _ _ _ h0); skip])
    | (extract_lets +onlyGivenNames x; refine Changes.cut (a := Changes m' u₀ x) ?_ (fun hx => ?_) <;> [unfold x; clear_value x])
    | extract_lets +onlyGivenNames x | split

theorem engineCond_changes (n : Nat) (b : Bool) {m' : Nat} (hm : Covers m' 0x4c0c0020) {u₀ u₁ : State} (hu : Changes
    m' u₀ u₁) : Changes m' u₀ (engineCond n b u₁) := by
  unfold engineCond
  repeat' first
    | with_reducible assumption | with_reducible refine engineFault_changes _ _ (hm.trans (by decide)) ?_
    | with_reducible refine engineClear_changes _ (hm.trans (by decide)) ?_ | with_reducible apply Changes.ite
    | split

theorem msix_changes (v : Nat) {m' : Nat} (hm : Covers m' 0x40000400) {u₀ u₁ : State} (hu : Changes m' u₀ u₁) :
    Changes m' u₀ (msix v u₁) := by
  unfold msix
  repeat' first
    | with_reducible assumption | with_reducible refine emit_changes _ (hm.trans (by decide)) ?_
    | with_reducible apply Changes.ite
    | (fail_if_no_progress with_reducible refine Changes.put_host (hm.bit (by decide)) ?_)
    | split

theorem EventLogsSound.set {m : MbxSt} (h : EventLogsSound m) (i : Nat) (l : EventLog) (x : MbxSt) (hl : l.recs.length ≤ 256)
    (hx : x.logs = setAt i l m.logs) : EventLogsSound x := by
  refine ⟨?_, ?_⟩
  · rw [hx, setAt, List.length_set]; exact h.four
  · rw [hx]
    intro k hk
    rcases List.mem_or_eq_of_mem_set hk with h3 | h3
    · exact h.records k h3
    · rw [h3]; exact hl

theorem eventLog_records (i : Nat) {s : State} (h : EventLogsSound s.mbx) : (eventLog i s).recs.length ≤ 256 := by
  unfold eventLog
  split
  · rename_i l hl
    exact h.records l (List.mem_of_getElem? hl)
  · exact Nat.zero_le _

theorem postEvent_changes (i kind bolt : Nat) (values : List Nat) {m' : Nat} (hm : Covers m' 0x40000c00)
    {u₀ u₁ : State} (hu : Changes m' u₀ u₁) : Changes m' u₀ (postEvent i kind bolt values u₁) := by
  unfold postEvent
  dsimp only
  split
  · refine hu.put_mbx (hm.bit (by decide)) (fun h => h.set i _ _ ?_ rfl)
    exact eventLog_records i h
  · rename_i hl
    split
    · refine msix_changes _ (hm.trans (by decide)) (hu.put_mbx (hm.bit (by decide)) (fun h => h.set i _ _ ?_ rfl))
      simp; omega
    · refine hu.put_mbx (hm.bit (by decide)) (fun h => h.set i _ _ ?_ rfl)
      simp; omega

theorem setEntry_changes (g : Nat) (e : Entry) {m' : Nat} (hm : Covers m' 0x1) {u₀ u₁ : State} (hu : Changes m' u₀
    u₁) : Changes m' u₀ (setEntry g e u₁) := by
  unfold setEntry
  repeat' first
    | with_reducible assumption | with_reducible apply Changes.ite
    | (fail_if_no_progress (with_reducible refine Changes.put_cache (hm.bit (by decide)) ?_ ?_) <;> [(first | exact id | exact fun (h0 : CacheSound _) => ⟨h0.channels, h0.poison, h0.map, h0.caps⟩ | exact fun (h0 : CacheSound _) => ⟨h0.channels, rfl, h0.map, h0.caps⟩ | exact fun (h0 : CacheSound _) => ⟨h0.channels, h0.poison, rfl, h0.caps⟩ | exact fun (h0 : CacheSound _) => ⟨by simpa [modAt] using h0.channels, h0.poison, h0.map, h0.caps⟩ | exact fun (h0 : CacheSound _) => ⟨h0.channels, tableOk_tput _ _ _ _ none h0.poison (by simp), h0.map, h0.caps⟩ | exact fun (h0 : CacheSound _) => ⟨h0.channels, h0.poison, keysUp_tput _ _ _ h0.map, h0.caps⟩ | exact fun (h0 : CacheSound _) => ⟨h0.channels, h0.poison, h0.map, keysUp_tput _ _ _ h0.caps⟩ | exact fun (h0 : CacheSound _) => ⟨rfl, h0.poison, h0.map, h0.caps⟩ | exact fun _ => CacheSound.fresh rfl rfl rfl rfl); skip])
    | (extract_lets +onlyGivenNames x; refine Changes.cut (a := Changes m' u₀ x) ?_ (fun hx => ?_) <;> [unfold x; clear_value x])
    | extract_lets +onlyGivenNames x | split

theorem setState_changes (g : Nat) (x : GState) {m' : Nat} (hm : Covers m' 0x1) {u₀ u₁ : State} (hu : Changes m' u₀
    u₁) : Changes m' u₀ (setState g x u₁) := by
  unfold setState
  repeat' first
    | with_reducible assumption | with_reducible refine setEntry_changes _ _ (hm.trans (by decide)) ?_
    | extract_lets +onlyGivenNames x

theorem listRun_changes (g : Nat) (x : PSource) (r : BitVec 64) {m' : Nat} (hm : Covers m' 0x1) {u₀ u₁ : State} (hu
    : Changes m' u₀ u₁) : Changes m' u₀ (listRun g x u₁ r) := by
  unfold listRun
  repeat' first
    | with_reducible assumption | (fail_if_no_progress beta_reduce) | with_reducible apply Changes.ite
    | (fail_if_no_progress (with_reducible refine Changes.put_cache (hm.bit (by decide)) ?_ ?_) <;> [(first | exact id | (intro h0; constructor <;> first | exact h0.channels | exact h0.poison | exact h0.map | exact h0.caps | rfl | exact tableOk_tput _ _ _ _ none h0.poison (by simp) | exact keysUp_tput _ _ _ h0.map | exact keysUp_tput _ _ _ h0.caps | simpa [modAt] using h0.channels)); skip])
    | (extract_lets +onlyGivenNames x; refine Changes.cut (a := Changes m' u₀ x) ?_ (fun hx => ?_) <;> [unfold x; clear_value x])
    | extract_lets +onlyGivenNames x | split

theorem poisonLines_changes (g : Nat) (m : BitVec 64) (x : PSource) {m' : Nat} (hm : Covers m' 0x1) {u₀ u₁ : State}
    (hu : Changes m' u₀ u₁) : Changes m' u₀ (poisonLines g m x u₁) := by
  unfold poisonLines
  repeat' first
    | with_reducible assumption | (fail_if_no_progress beta_reduce)
    | with_reducible refine listRun_changes _ _ _ (hm.trans (by decide)) ?_
    | (with_reducible refine Changes.foldl ?_ (fun v y hv => ?_))
    | (fail_if_no_progress (with_reducible refine Changes.put_cache (hm.bit (by decide)) ?_ ?_) <;> [(first | exact id | (intro h0; constructor <;> first | exact h0.channels | exact h0.poison | exact h0.map | exact h0.caps | rfl | exact tableOk_tput _ _ _ _ none h0.poison (by simp) | exact keysUp_tput _ _ _ h0.map | exact keysUp_tput _ _ _ h0.caps | simpa [modAt] using h0.channels)); skip])
    | split

theorem unpoison_changes (g : Nat) (l : Nat) {m' : Nat} (hm : Covers m' 0x1) {u₀ u₁ : State} (hu : Changes m' u₀ u₁)
    : Changes m' u₀ (unpoison g l u₁) := by
  unfold unpoison
  repeat' first
    | with_reducible assumption | (fail_if_no_progress beta_reduce) | with_reducible apply Changes.ite
    | (fail_if_no_progress (with_reducible refine Changes.put_cache (hm.bit (by decide)) ?_ ?_) <;> [(first | exact id | (intro h0; constructor <;> first | exact h0.channels | exact h0.poison | exact h0.map | exact h0.caps | rfl | exact tableOk_tput _ _ _ _ none h0.poison (by simp) | exact keysUp_tput _ _ _ h0.map | exact keysUp_tput _ _ _ h0.caps | simpa [modAt] using h0.channels)); skip])
    | (extract_lets +onlyGivenNames x; refine Changes.cut (a := Changes m' u₀ x) ?_ (fun hx => ?_) <;> [unfold x; clear_value x])
    | extract_lets +onlyGivenNames x | split

theorem takeAgain_changes (g : Nat) {m' : Nat} (hm : Covers m' 0x40) {u₀ u₁ : State} (hu : Changes m' u₀ u₁) :
    Changes m' u₀ (takeAgain g u₁) := by
  unfold takeAgain
  repeat' first
    | with_reducible assumption | with_reducible apply Changes.ite
    | (fail_if_no_progress with_reducible refine Changes.put_drain (hm.bit (by decide)) ?_)
    | split

theorem poisonGranule_changes (g : Nat) {m' : Nat} (hm : Covers m' 0x41) {u₀ u₁ : State} (hu : Changes m' u₀ u₁) :
    Changes m' u₀ (poisonGranule g u₁) := by
  unfold poisonGranule
  repeat' first
    | with_reducible assumption | with_reducible refine takeAgain_changes _ (hm.trans (by decide)) ?_
    | with_reducible refine setEntry_changes _ _ (hm.trans (by decide)) ?_
    | with_reducible refine poisonLines_changes _ _ _ (hm.trans (by decide)) ?_

theorem countCe_changes (line : Nat) {m' : Nat} (hm : Covers m' 0x1) {u₀ u₁ : State} (hu : Changes m' u₀ u₁) :
    Changes m' u₀ (countCe line u₁) := by
  unfold countCe
  repeat' first
    | with_reducible assumption | (fail_if_no_progress beta_reduce)
    | (fail_if_no_progress (with_reducible refine Changes.put_cache (hm.bit (by decide)) ?_ ?_) <;> [(first | exact id | exact fun (h0 : CacheSound _) => ⟨h0.channels, h0.poison, h0.map, h0.caps⟩ | exact fun (h0 : CacheSound _) => ⟨h0.channels, rfl, h0.map, h0.caps⟩ | exact fun (h0 : CacheSound _) => ⟨h0.channels, h0.poison, rfl, h0.caps⟩ | exact fun (h0 : CacheSound _) => ⟨by simpa [modAt] using h0.channels, h0.poison, h0.map, h0.caps⟩ | exact fun (h0 : CacheSound _) => ⟨h0.channels, tableOk_tput _ _ _ _ none h0.poison (by simp), h0.map, h0.caps⟩ | exact fun (h0 : CacheSound _) => ⟨h0.channels, h0.poison, keysUp_tput _ _ _ h0.map, h0.caps⟩ | exact fun (h0 : CacheSound _) => ⟨h0.channels, h0.poison, h0.map, keysUp_tput _ _ _ h0.caps⟩ | exact fun (h0 : CacheSound _) => ⟨rfl, h0.poison, h0.map, h0.caps⟩ | exact fun _ => CacheSound.fresh rfl rfl rfl rfl); skip])
    | extract_lets +onlyGivenNames x

theorem countUe_changes (line : Nat) {m' : Nat} (hm : Covers m' 0x1) {u₀ u₁ : State} (hu : Changes m' u₀ u₁) :
    Changes m' u₀ (countUe line u₁) := by
  unfold countUe
  repeat' first
    | with_reducible assumption | (fail_if_no_progress beta_reduce)
    | (fail_if_no_progress (with_reducible refine Changes.put_cache (hm.bit (by decide)) ?_ ?_) <;> [(first | exact id | exact fun (h0 : CacheSound _) => ⟨h0.channels, h0.poison, h0.map, h0.caps⟩ | exact fun (h0 : CacheSound _) => ⟨h0.channels, rfl, h0.map, h0.caps⟩ | exact fun (h0 : CacheSound _) => ⟨h0.channels, h0.poison, rfl, h0.caps⟩ | exact fun (h0 : CacheSound _) => ⟨by simpa [modAt] using h0.channels, h0.poison, h0.map, h0.caps⟩ | exact fun (h0 : CacheSound _) => ⟨h0.channels, tableOk_tput _ _ _ _ none h0.poison (by simp), h0.map, h0.caps⟩ | exact fun (h0 : CacheSound _) => ⟨h0.channels, h0.poison, keysUp_tput _ _ _ h0.map, h0.caps⟩ | exact fun (h0 : CacheSound _) => ⟨h0.channels, h0.poison, h0.map, keysUp_tput _ _ _ h0.caps⟩ | exact fun (h0 : CacheSound _) => ⟨rfl, h0.poison, h0.map, h0.caps⟩ | exact fun _ => CacheSound.fresh rfl rfl rfl rfl); skip])
    | extract_lets +onlyGivenNames x

theorem ueDirty_changes (line : Nat) {m' : Nat} (hm : Covers m' 0x4c0c0061) {u₀ u₁ : State} (hu : Changes m' u₀ u₁)
    : Changes m' u₀ (ueDirty line u₁) := by
  unfold ueDirty
  repeat' first
    | with_reducible assumption | (fail_if_no_progress beta_reduce)
    | with_reducible refine poisonLines_changes _ _ _ (hm.trans (by decide)) ?_
    | with_reducible refine takeAgain_changes _ (hm.trans (by decide)) ?_
    | with_reducible refine setState_changes _ _ (hm.trans (by decide)) ?_
    | with_reducible refine engineFault_changes _ _ (hm.trans (by decide)) ?_ | with_reducible apply Changes.ite
    | (extract_lets +onlyGivenNames x; refine Changes.cut (a := Changes m' u₀ x) ?_ (fun hx => ?_) <;> [unfold x; clear_value x])
    | extract_lets +onlyGivenNames x | split

theorem mergeRead_changes (w : HeldWrite) {m' : Nat} (hm : Covers m' 0x4c0c0061) {u₀ u₁ : State} (hu : Changes m' u₀
    u₁) : Changes m' u₀ (mergeRead w u₁) := by
  unfold mergeRead
  repeat' first
    | with_reducible assumption | with_reducible refine countCe_changes _ (hm.trans (by decide)) ?_
    | with_reducible refine ueDirty_changes _ (hm.trans (by decide)) ?_
    | with_reducible refine countUe_changes _ (hm.trans (by decide)) ?_
    | split

theorem commitLine_changes (w : HeldWrite) {m' : Nat} (hm : Covers m' 0x4c0c0863) {u₀ u₁ : State} (hu : Changes m'
    u₀ u₁) : Changes m' u₀ (commitLine w u₁) := by
  unfold commitLine
  repeat' first
    | with_reducible assumption | (fail_if_no_progress beta_reduce)
    | with_reducible refine zeroRange_changes _ _ (hm.trans (by decide)) ?_
    | with_reducible refine setState_changes _ _ (hm.trans (by decide)) ?_
    | with_reducible refine mergeRead_changes _ (hm.trans (by decide)) ?_
    | with_reducible refine writeLine_changes _ _ _ (hm.trans (by decide)) ?_
    | with_reducible refine poisonLines_changes _ _ _ (hm.trans (by decide)) ?_
    | with_reducible refine unpoison_changes _ _ (hm.trans (by decide)) ?_ | with_reducible apply Changes.ite
    | (fail_if_no_progress (with_reducible refine Changes.put_mbx (hm.bit (by decide)) ?_ ?_) <;> [(first | exact id | exact fun (h0 : EventLogsSound _) => ⟨h0.four, h0.records⟩); skip])
    | (extract_lets +onlyGivenNames x; refine Changes.cut (a := Changes m' u₀ x) ?_ (fun hx => ?_) <;> [unfold x; clear_value x])
    | extract_lets +onlyGivenNames x | split

theorem commit_changes (w : HeldWrite) {m' : Nat} (hm : Covers m' 0xce0c0863) {u₀ u₁ : State} (hu : Changes m' u₀
    u₁) : Changes m' u₀ (commit w u₁) := by
  unfold commit
  repeat' first
    | with_reducible assumption | with_reducible refine sampleFree_changes _ _ (hm.trans (by decide)) ?_
    | with_reducible refine emit_changes _ (hm.trans (by decide)) ?_
    | with_reducible refine commitLine_changes _ (hm.trans (by decide)) ?_

theorem joinCapQueue_changes (n : Nat) (w : HeldWrite) {m' : Nat} (hm : Covers m' 0x1) {u₀ u₁ : State} (hu : Changes
    m' u₀ u₁) : Changes m' u₀ (joinCapQueue n w u₁) := by
  unfold joinCapQueue
  repeat' first
    | with_reducible assumption
    | (fail_if_no_progress (with_reducible refine Changes.put_cache (hm.bit (by decide)) ?_ ?_) <;> [(first | exact id | (intro h0; constructor <;> first | exact h0.channels | exact h0.poison | exact h0.map | exact h0.caps | rfl | exact tableOk_tput _ _ _ _ none h0.poison (by simp) | exact keysUp_tput _ _ _ h0.map | exact keysUp_tput _ _ _ h0.caps | simpa [modAt] using h0.channels)); skip])

theorem discardShed_changes (w : HeldWrite) {m' : Nat} (hm : Covers m' 0x40000008) {u₀ u₁ : State} (hu : Changes m'
    u₀ u₁) : Changes m' u₀ (discardShed w u₁) := by
  unfold discardShed
  repeat' first
    | with_reducible assumption | with_reducible refine emit_changes _ (hm.trans (by decide)) ?_
    | (fail_if_no_progress (with_reducible refine Changes.put_nand (hm.bit (by decide)) ?_ ?_) <;> [(first | exact id | (intro h0; constructor <;> first | exact h0.channels | exact h0.targets | exact h0.blocks | exact keysUp_tmod _ _ _ h0.channels | exact keysUp_tmod _ _ _ h0.targets | exact keysUp_tmod _ _ _ h0.blocks | exact keysUp_tins _ _ h0.blocks | exact keysUp_filter _ h0.targets | exact keysUp_map _ h0.channels (fun _ => rfl) | exact keysUp_map _ h0.targets (fun _ => rfl) | exact keysUp_map _ h0.blocks (fun e => by try beta_reduce; (try split) <;> rfl))); skip])

theorem passHeld_changes {m' : Nat} (hm : Covers m' 0xce0c0873) {u₀ u₁ : State} (hu : Changes m' u₀ u₁) : Changes m'
    u₀ (passHeld u₁) := by
  unfold passHeld
  repeat' first
    | with_reducible assumption | (fail_if_no_progress beta_reduce)
    | with_reducible refine sampleFree_changes _ _ (hm.trans (by decide)) ?_
    | with_reducible refine commit_changes _ (hm.trans (by decide)) ?_ | with_reducible apply Changes.ite
    | (with_reducible refine Changes.foldl ?_ (fun v y hv => ?_))
    | (fail_if_no_progress with_reducible refine Changes.put_stg (hm.bit (by decide)) ?_)
    | (extract_lets +onlyGivenNames x; refine Changes.cut (a := Changes m' u₀ x) ?_ (fun hx => ?_) <;> [unfold x; clear_value x])
    | extract_lets +onlyGivenNames x | split

theorem releaseHeld_changes (n : Nat) {m' : Nat} (hm : Covers m' 0xce0c087b) {u₀ u₁ : State} (hu : Changes m' u₀ u₁)
    : Changes m' u₀ (releaseHeld n u₁) := by
  induction n generalizing u₁ with
  | zero =>
    unfold releaseHeld
    repeat' first
      | with_reducible assumption | (fail_if_no_progress beta_reduce)
      | with_reducible refine sampleFree_changes _ _ (hm.trans (by decide)) ?_
      | with_reducible refine discardShed_changes _ (hm.trans (by decide)) ?_
      | with_reducible refine commit_changes _ (hm.trans (by decide)) ?_
      | with_reducible refine joinCapQueue_changes _ _ (hm.trans (by decide)) ?_
      | with_reducible refine passHeld_changes (hm.trans (by decide)) ?_ | with_reducible apply Changes.ite
      | (fail_if_no_progress with_reducible refine Changes.put_stg (hm.bit (by decide)) ?_)
      | (extract_lets +onlyGivenNames x; refine Changes.cut (a := Changes m' u₀ x) ?_ (fun hx => ?_) <;> [unfold x; clear_value x])
      | extract_lets +onlyGivenNames x | split
  | succ n ih =>
    unfold releaseHeld
    repeat' first
      | with_reducible assumption | with_reducible apply ih | (fail_if_no_progress beta_reduce)
      | with_reducible refine sampleFree_changes _ _ (hm.trans (by decide)) ?_
      | with_reducible refine discardShed_changes _ (hm.trans (by decide)) ?_
      | with_reducible refine commit_changes _ (hm.trans (by decide)) ?_
      | with_reducible refine joinCapQueue_changes _ _ (hm.trans (by decide)) ?_
      | with_reducible refine passHeld_changes (hm.trans (by decide)) ?_ | with_reducible apply Changes.ite
      | (fail_if_no_progress with_reducible refine Changes.put_stg (hm.bit (by decide)) ?_)
      | (extract_lets +onlyGivenNames x; refine Changes.cut (a := Changes m' u₀ x) ?_ (fun hx => ?_) <;> [unfold x; clear_value x])
      | extract_lets +onlyGivenNames x | split

theorem reefFlags_changes {m' : Nat} (hm : Covers m' 0x4c040c10) {u₀ u₁ : State} (hu : Changes m' u₀ u₁) : Changes
    m' u₀ (reefFlags u₁) := by
  unfold reefFlags
  repeat' first
    | with_reducible assumption | with_reducible refine engineClear_changes _ (hm.trans (by decide)) ?_
    | with_reducible refine postEvent_changes _ _ _ _ (hm.trans (by decide)) ?_
    | with_reducible refine msix_changes _ (hm.trans (by decide)) ?_ | with_reducible apply Changes.ite
    | (fail_if_no_progress with_reducible refine Changes.put_stg (hm.bit (by decide)) ?_)
    | (extract_lets +onlyGivenNames x; refine Changes.cut (a := Changes m' u₀ x) ?_ (fun hx => ?_) <;> [unfold x; clear_value x])
    | extract_lets +onlyGivenNames x | split

theorem evaluate_changes {m' : Nat} (hm : Covers m' 0xce0c0c7b) {u₀ u₁ : State} (hu : Changes m' u₀ u₁) : Changes m'
    u₀ (evaluate u₁) := by
  unfold evaluate
  repeat' first
    | with_reducible assumption | with_reducible refine reefFlags_changes (hm.trans (by decide)) ?_
    | with_reducible refine releaseHeld_changes _ (hm.trans (by decide)) ?_ | with_reducible apply Changes.ite
    | split

theorem discardWrites_changes {m' : Nat} (hm : Covers m' 0x82000011) {u₀ u₁ : State} (hu : Changes m' u₀ u₁) :
    Changes m' u₀ (discardWrites u₁) := by
  unfold discardWrites
  repeat' first
    | with_reducible assumption | (fail_if_no_progress beta_reduce)
    | with_reducible refine sampleFree_changes _ _ (hm.trans (by decide)) ?_
    | (with_reducible refine Changes.foldl ?_ (fun v y hv => ?_))
    | (fail_if_no_progress (with_reducible refine Changes.put_cache (hm.bit (by decide)) ?_ ?_) <;> [(first | exact id | exact fun (h0 : CacheSound _) => ⟨h0.channels, h0.poison, h0.map, h0.caps⟩ | exact fun (h0 : CacheSound _) => ⟨h0.channels, rfl, h0.map, h0.caps⟩ | exact fun (h0 : CacheSound _) => ⟨h0.channels, h0.poison, rfl, h0.caps⟩ | exact fun (h0 : CacheSound _) => ⟨by simpa [modAt] using h0.channels, h0.poison, h0.map, h0.caps⟩ | exact fun (h0 : CacheSound _) => ⟨h0.channels, tableOk_tput _ _ _ _ none h0.poison (by simp), h0.map, h0.caps⟩ | exact fun (h0 : CacheSound _) => ⟨h0.channels, h0.poison, keysUp_tput _ _ _ h0.map, h0.caps⟩ | exact fun (h0 : CacheSound _) => ⟨h0.channels, h0.poison, h0.map, keysUp_tput _ _ _ h0.caps⟩ | exact fun (h0 : CacheSound _) => ⟨rfl, h0.poison, h0.map, h0.caps⟩ | exact fun _ => CacheSound.fresh rfl rfl rfl rfl); skip])
    | (fail_if_no_progress with_reducible refine Changes.put_stg (hm.bit (by decide)) ?_)
    | (fail_if_no_progress with_reducible apply Changes.parts <;> first | exact hm.skip (by decide) | exact fun (h0 : CacheSound _) => ⟨h0.channels, h0.poison, h0.map, h0.caps⟩ | exact fun (h0 : CacheSound _) => ⟨h0.channels, rfl, h0.map, h0.caps⟩ | exact fun (h0 : CacheSound _) => ⟨h0.channels, h0.poison, rfl, h0.caps⟩ | exact fun (h0 : CacheSound _) => ⟨h0.channels, tableOk_tput _ _ _ _ none h0.poison (by simp), h0.map, h0.caps⟩ | exact fun (h0 : CacheSound _) => ⟨h0.channels, h0.poison, keysUp_tput _ _ _ h0.map, h0.caps⟩ | exact fun (h0 : CacheSound _) => ⟨h0.channels, h0.poison, h0.map, keysUp_tput _ _ _ h0.caps⟩ | exact fun (h0 : CacheSound _) => ⟨rfl, h0.poison, h0.map, h0.caps⟩ | exact fun _ => CacheSound.fresh rfl rfl rfl rfl | exact fun _ => rfl | exact id | exact fun (h0 : CacheSound _) => ⟨by simpa [modAt] using h0.channels, h0.poison, h0.map, h0.caps⟩ | skip)
    | (extract_lets +onlyGivenNames x; refine Changes.cut (a := Changes m' u₀ x) ?_ (fun hx => ?_) <;> [unfold x; clear_value x])
    | extract_lets +onlyGivenNames x

theorem emptyPoison_changes {m' : Nat} (hm : Covers m' 0x1) {u₀ u₁ : State} (hu : Changes m' u₀ u₁) : Changes m' u₀
    (emptyPoison u₁) := by
  unfold emptyPoison
  repeat' first
    | with_reducible assumption
    | (fail_if_no_progress (with_reducible refine Changes.put_cache (hm.bit (by decide)) ?_ ?_) <;> [(first | exact id | exact fun (h0 : CacheSound _) => ⟨h0.channels, h0.poison, h0.map, h0.caps⟩ | exact fun (h0 : CacheSound _) => ⟨h0.channels, rfl, h0.map, h0.caps⟩ | exact fun (h0 : CacheSound _) => ⟨h0.channels, h0.poison, rfl, h0.caps⟩ | exact fun (h0 : CacheSound _) => ⟨by simpa [modAt] using h0.channels, h0.poison, h0.map, h0.caps⟩ | exact fun (h0 : CacheSound _) => ⟨h0.channels, tableOk_tput _ _ _ _ none h0.poison (by simp), h0.map, h0.caps⟩ | exact fun (h0 : CacheSound _) => ⟨h0.channels, h0.poison, keysUp_tput _ _ _ h0.map, h0.caps⟩ | exact fun (h0 : CacheSound _) => ⟨h0.channels, h0.poison, h0.map, keysUp_tput _ _ _ h0.caps⟩ | exact fun (h0 : CacheSound _) => ⟨rfl, h0.poison, h0.map, h0.caps⟩ | exact fun _ => CacheSound.fresh rfl rfl rfl rfl); skip])
    | extract_lets +onlyGivenNames x

theorem zeroMap_changes {m' : Nat} (hm : Covers m' 0x1) {u₀ u₁ : State} (hu : Changes m' u₀ u₁) : Changes m' u₀
    (zeroMap u₁) := by
  unfold zeroMap
  repeat' first
    | with_reducible assumption
    | (fail_if_no_progress (with_reducible refine Changes.put_cache (hm.bit (by decide)) ?_ ?_) <;> [(first | exact id | exact fun (h0 : CacheSound _) => ⟨h0.channels, h0.poison, h0.map, h0.caps⟩ | exact fun (h0 : CacheSound _) => ⟨h0.channels, rfl, h0.map, h0.caps⟩ | exact fun (h0 : CacheSound _) => ⟨h0.channels, h0.poison, rfl, h0.caps⟩ | exact fun (h0 : CacheSound _) => ⟨by simpa [modAt] using h0.channels, h0.poison, h0.map, h0.caps⟩ | exact fun (h0 : CacheSound _) => ⟨h0.channels, tableOk_tput _ _ _ _ none h0.poison (by simp), h0.map, h0.caps⟩ | exact fun (h0 : CacheSound _) => ⟨h0.channels, h0.poison, keysUp_tput _ _ _ h0.map, h0.caps⟩ | exact fun (h0 : CacheSound _) => ⟨h0.channels, h0.poison, h0.map, keysUp_tput _ _ _ h0.caps⟩ | exact fun (h0 : CacheSound _) => ⟨rfl, h0.poison, h0.map, h0.caps⟩ | exact fun _ => CacheSound.fresh rfl rfl rfl rfl); skip])
    | extract_lets +onlyGivenNames x

/-! ### Nand -/

theorem modTarget_changes (t : Nat) (f : Target → Target) {m' : Nat} (hm : Covers m' 0x8) {u₀ u₁ : State} (hu :
    Changes m' u₀ u₁) : Changes m' u₀ (modTarget t f u₁) := by
  unfold modTarget
  repeat' first
    | with_reducible assumption
    | (fail_if_no_progress (with_reducible refine Changes.put_nand (hm.bit (by decide)) ?_ ?_) <;> [(first | exact id | exact fun (h0 : NandSound _) => ⟨h0.channels, h0.targets, h0.blocks⟩ | exact fun (h0 : NandSound _) => ⟨keysUp_tmod _ _ _ h0.channels, h0.targets, h0.blocks⟩ | exact fun (h0 : NandSound _) => ⟨h0.channels, keysUp_tmod _ _ _ h0.targets, h0.blocks⟩ | exact fun (h0 : NandSound _) => ⟨h0.channels, h0.targets, keysUp_tmod _ _ _ h0.blocks⟩ | exact fun (h0 : NandSound _) => ⟨h0.channels, h0.targets, keysUp_tins _ _ h0.blocks⟩ | exact fun (h0 : NandSound _) => ⟨h0.channels, h0.targets, keysUp_map _ h0.blocks (fun e => by try beta_reduce; (try split) <;> rfl)⟩ | exact fun (h0 : NandSound _) => ⟨h0.channels, keysUp_filter _ h0.targets, h0.blocks⟩); skip])
    | extract_lets +onlyGivenNames x

theorem modChannel_changes (c : Nat) (f : NandCh → NandCh) {m' : Nat} (hm : Covers m' 0x8) {u₀ u₁ : State} (hu :
    Changes m' u₀ u₁) : Changes m' u₀ (modChannel c f u₁) := by
  unfold modChannel
  repeat' first
    | with_reducible assumption
    | (fail_if_no_progress (with_reducible refine Changes.put_nand (hm.bit (by decide)) ?_ ?_) <;> [(first | exact id | exact fun (h0 : NandSound _) => ⟨h0.channels, h0.targets, h0.blocks⟩ | exact fun (h0 : NandSound _) => ⟨keysUp_tmod _ _ _ h0.channels, h0.targets, h0.blocks⟩ | exact fun (h0 : NandSound _) => ⟨h0.channels, keysUp_tmod _ _ _ h0.targets, h0.blocks⟩ | exact fun (h0 : NandSound _) => ⟨h0.channels, h0.targets, keysUp_tmod _ _ _ h0.blocks⟩ | exact fun (h0 : NandSound _) => ⟨h0.channels, h0.targets, keysUp_tins _ _ h0.blocks⟩ | exact fun (h0 : NandSound _) => ⟨h0.channels, h0.targets, keysUp_map _ h0.blocks (fun e => by try beta_reduce; (try split) <;> rfl)⟩ | exact fun (h0 : NandSound _) => ⟨h0.channels, keysUp_filter _ h0.targets, h0.blocks⟩); skip])
    | extract_lets +onlyGivenNames x

theorem modBlock_changes (b : Nat) (f : Block → Block) {m' : Nat} (hm : Covers m' 0x8) {u₀ u₁ : State} (hu : Changes
    m' u₀ u₁) : Changes m' u₀ (modBlock b f u₁) := by
  unfold modBlock
  repeat' first
    | with_reducible assumption
    | (fail_if_no_progress (with_reducible refine Changes.put_nand (hm.bit (by decide)) ?_ ?_) <;> [(first | exact id | exact fun (h0 : NandSound _) => ⟨h0.channels, h0.targets, h0.blocks⟩ | exact fun (h0 : NandSound _) => ⟨keysUp_tmod _ _ _ h0.channels, h0.targets, h0.blocks⟩ | exact fun (h0 : NandSound _) => ⟨h0.channels, keysUp_tmod _ _ _ h0.targets, h0.blocks⟩ | exact fun (h0 : NandSound _) => ⟨h0.channels, h0.targets, keysUp_tmod _ _ _ h0.blocks⟩ | exact fun (h0 : NandSound _) => ⟨h0.channels, h0.targets, keysUp_tins _ _ h0.blocks⟩ | exact fun (h0 : NandSound _) => ⟨h0.channels, h0.targets, keysUp_map _ h0.blocks (fun e => by try beta_reduce; (try split) <;> rfl)⟩ | exact fun (h0 : NandSound _) => ⟨h0.channels, keysUp_filter _ h0.targets, h0.blocks⟩); skip])
    | extract_lets +onlyGivenNames x

theorem onfi_changes (t : Nat) (op : Onfi) {m' : Nat} (hm : Covers m' 0x40000000) {u₀ u₁ : State} (hu : Changes m'
    u₀ u₁) : Changes m' u₀ (onfi t op u₁) := by
  unfold onfi
  repeat' first
    | with_reducible assumption | with_reducible refine emit_changes _ (hm.trans (by decide)) ?_

theorem onfiPslc_changes (t : Nat) (op : Onfi) {m' : Nat} (hm : Covers m' 0x40000000) {u₀ u₁ : State} (hu : Changes
    m' u₀ u₁) : Changes m' u₀ (onfiPslc t op u₁) := by
  unfold onfiPslc
  repeat' first
    | with_reducible assumption | (fail_if_no_progress beta_reduce)
    | with_reducible refine onfi_changes _ _ (hm.trans (by decide)) ?_ | with_reducible apply Changes.ite
    | (extract_lets +onlyGivenNames x; refine Changes.cut (a := Changes m' u₀ x) ?_ (fun hx => ?_) <;> [unfold x; clear_value x])
    | extract_lets +onlyGivenNames x | split

theorem openBlock_changes (p : Nat) {m' : Nat} (hm : Covers m' 0x8) {u₀ u₁ : State} (hu : Changes m' u₀ u₁) :
    Changes m' u₀ (openBlock p u₁) := by
  unfold openBlock
  repeat' first
    | with_reducible assumption | (fail_if_no_progress beta_reduce)
    | with_reducible refine modTarget_changes _ _ (hm.trans (by decide)) ?_
    | with_reducible refine modBlock_changes _ _ (hm.trans (by decide)) ?_ | with_reducible apply Changes.ite
    | (extract_lets +onlyGivenNames x; refine Changes.cut (a := Changes m' u₀ x) ?_ (fun hx => ?_) <;> [unfold x; clear_value x])
    | extract_lets +onlyGivenNames x | split

theorem moveFrontier_changes (p : Nat) (pair : Option Nat) {m' : Nat} (hm : Covers m' 0x8) {u₀ u₁ : State} (hu :
    Changes m' u₀ u₁) : Changes m' u₀ (moveFrontier p pair u₁) := by
  unfold moveFrontier
  repeat' first
    | with_reducible assumption
    | (fail_if_no_progress (with_reducible refine Changes.put_nand (hm.bit (by decide)) ?_ ?_) <;> [(first | exact id | (intro h0; constructor <;> first | exact h0.channels | exact h0.targets | exact h0.blocks | exact keysUp_tmod _ _ _ h0.channels | exact keysUp_tmod _ _ _ h0.targets | exact keysUp_tmod _ _ _ h0.blocks | exact keysUp_tins _ _ h0.blocks | exact keysUp_filter _ h0.targets | exact keysUp_map _ h0.channels (fun _ => rfl) | exact keysUp_map _ h0.targets (fun _ => rfl) | exact keysUp_map _ h0.blocks (fun e => by try beta_reduce; (try split) <;> rfl))); skip])
    | split

theorem programPage_changes (p : Nat) (type : Nat) (epoch : Nat) (units : List NandUnit) (dup : Bool) (copyB : Bool)
    (reprogram : Bool) (partner : Option Nat) {m' : Nat} (hm : Covers m' 0xc2000008) {u₀ u₁ : State} (hu : Changes
    m' u₀ u₁) : Changes m' u₀ (programPage p type epoch units dup copyB reprogram partner u₁) := by
  unfold programPage
  repeat' first
    | with_reducible assumption | (fail_if_no_progress beta_reduce)
    | with_reducible refine onfiPslc_changes _ _ (hm.trans (by decide)) ?_
    | with_reducible refine openBlock_changes _ (hm.trans (by decide)) ?_
    | with_reducible refine sampleFree_changes _ _ (hm.trans (by decide)) ?_
    | (fail_if_no_progress (with_reducible refine Changes.put_nand (hm.bit (by decide)) ?_ ?_) <;> [(first | exact id | (intro h0; constructor <;> first | exact h0.channels | exact h0.targets | exact h0.blocks | exact keysUp_tmod _ _ _ h0.channels | exact keysUp_tmod _ _ _ h0.targets | exact keysUp_tmod _ _ _ h0.blocks | exact keysUp_tins _ _ h0.blocks | exact keysUp_filter _ h0.targets | exact keysUp_map _ h0.channels (fun _ => rfl) | exact keysUp_map _ h0.targets (fun _ => rfl) | exact keysUp_map _ h0.blocks (fun e => by try beta_reduce; (try split) <;> rfl))); skip])
    | (extract_lets +onlyGivenNames x; refine Changes.cut (a := Changes m' u₀ x) ?_ (fun hx => ?_) <;> [unfold x; clear_value x])
    | extract_lets +onlyGivenNames x | split

theorem failPage_changes (p : Nat) {m' : Nat} (hm : Covers m' 0xc2000008) {u₀ u₁ : State} (hu : Changes m' u₀ u₁) :
    Changes m' u₀ (failPage p u₁) := by
  unfold failPage
  repeat' first
    | with_reducible assumption | (fail_if_no_progress beta_reduce)
    | with_reducible refine onfiPslc_changes _ _ (hm.trans (by decide)) ?_
    | with_reducible refine openBlock_changes _ (hm.trans (by decide)) ?_
    | with_reducible refine sampleFree_changes _ _ (hm.trans (by decide)) ?_
    | with_reducible refine modChannel_changes _ _ (hm.trans (by decide)) ?_
    | with_reducible refine modBlock_changes _ _ (hm.trans (by decide)) ?_
    | (extract_lets +onlyGivenNames x; refine Changes.cut (a := Changes m' u₀ x) ?_ (fun hx => ?_) <;> [unfold x; clear_value x])
    | extract_lets +onlyGivenNames x | split

theorem abandonBlock_changes (p : Nat) {m' : Nat} (hm : Covers m' 0x8) {u₀ u₁ : State} (hu : Changes m' u₀ u₁) :
    Changes m' u₀ (abandonBlock p u₁) := by
  unfold abandonBlock
  repeat' first
    | with_reducible assumption | (fail_if_no_progress beta_reduce)
    | with_reducible refine modBlock_changes _ _ (hm.trans (by decide)) ?_ | extract_lets +onlyGivenNames x

theorem eraseRoot_changes (b : Nat) {m' : Nat} (hm : Covers m' 0x40000008) {u₀ u₁ : State} (hu : Changes m' u₀ u₁) :
    Changes m' u₀ (eraseRoot b u₁) := by
  unfold eraseRoot
  repeat' first
    | with_reducible assumption | (fail_if_no_progress beta_reduce)
    | with_reducible refine onfiPslc_changes _ _ (hm.trans (by decide)) ?_
    | with_reducible refine modTarget_changes _ _ (hm.trans (by decide)) ?_
    | with_reducible refine modBlock_changes _ _ (hm.trans (by decide)) ?_
    | (fail_if_no_progress (with_reducible refine Changes.put_nand (hm.bit (by decide)) ?_ ?_) <;> [(first | exact id | (intro h0; constructor <;> first | exact h0.channels | exact h0.targets | exact h0.blocks | exact keysUp_tmod _ _ _ h0.channels | exact keysUp_tmod _ _ _ h0.targets | exact keysUp_tmod _ _ _ h0.blocks | exact keysUp_tins _ _ h0.blocks | exact keysUp_filter _ h0.targets | exact keysUp_map _ h0.channels (fun _ => rfl) | exact keysUp_map _ h0.targets (fun _ => rfl) | exact keysUp_map _ h0.blocks (fun e => by try beta_reduce; (try split) <;> rfl))); skip])
    | (extract_lets +onlyGivenNames x; refine Changes.cut (a := Changes m' u₀ x) ?_ (fun hx => ?_) <;> [unfold x; clear_value x])
    | extract_lets +onlyGivenNames x | split

theorem rootRoom_changes (b : Nat) (n : Nat) {m' : Nat} (hm : Covers m' 0x40000008) {u₀ u₁ : State} (hu : Changes m'
    u₀ u₁) : Changes m' u₀ (rootRoom b n u₁) := by
  unfold rootRoom
  repeat' first
    | with_reducible assumption | with_reducible refine eraseRoot_changes _ (hm.trans (by decide)) ?_
    | with_reducible apply Changes.ite
    | split

theorem programRoot_changes (b : Nat) (type : Nat) (units : List NandUnit) {m' : Nat} (hm : Covers m' 0xc2000008)
    {u₀ u₁ : State} (hu : Changes m' u₀ u₁) : Changes m' u₀ (programRoot b type units u₁) := by
  unfold programRoot
  repeat' first
    | with_reducible assumption | (fail_if_no_progress beta_reduce)
    | with_reducible refine programPage_changes _ _ _ _ _ _ _ _ (hm.trans (by decide)) ?_
    | (with_reducible refine Changes.foldl ?_ (fun v y hv => ?_))
    | (extract_lets +onlyGivenNames x; refine Changes.cut (a := Changes m' u₀ x) ?_ (fun hx => ?_) <;> [unfold x; clear_value x])
    | extract_lets +onlyGivenNames x | split

theorem writeRoot_changes (t : Nat) {m' : Nat} (hm : Covers m' 0xc2000008) {u₀ u₁ : State} (hu : Changes m' u₀ u₁) :
    Changes m' u₀ (writeRoot t u₁) := by
  unfold writeRoot
  repeat' first
    | with_reducible assumption | (fail_if_no_progress beta_reduce)
    | with_reducible refine modTarget_changes _ _ (hm.trans (by decide)) ?_
    | with_reducible refine rootRoom_changes _ _ (hm.trans (by decide)) ?_
    | with_reducible refine programRoot_changes _ _ _ (hm.trans (by decide)) ?_
    | (extract_lets +onlyGivenNames x; refine Changes.cut (a := Changes m' u₀ x) ?_ (fun hx => ?_) <;> [unfold x; clear_value x])
    | (extract_lets +onlyGivenNames x; clear_value x) | split

theorem rootIfDue_changes (t : Nat) {m' : Nat} (hm : Covers m' 0xc2000008) {u₀ u₁ : State} (hu : Changes m' u₀ u₁) :
    Changes m' u₀ (rootIfDue t u₁) := by
  unfold rootIfDue
  repeat' first
    | with_reducible assumption | with_reducible refine writeRoot_changes _ (hm.trans (by decide)) ?_
    | with_reducible apply Changes.ite
    | split

theorem noChannel_changes {m' : Nat} (hm : Covers m' 0x4c0c0020) {u₀ u₁ : State} (hu : Changes m' u₀ u₁) : Changes
    m' u₀ (noChannel u₁) := by
  unfold noChannel
  repeat' first
    | with_reducible assumption | with_reducible refine engineFault_changes _ _ (hm.trans (by decide)) ?_
    | with_reducible apply Changes.ite
    | split

theorem enterBad_changes (b : Nat) (cause : Nat) {m' : Nat} (hm : Covers m' 0xce0c0c7b) {u₀ u₁ : State} (hu :
    Changes m' u₀ u₁) : Changes m' u₀ (enterBad b cause u₁) := by
  unfold enterBad
  repeat' first
    | with_reducible assumption | (fail_if_no_progress beta_reduce)
    | with_reducible refine writeRoot_changes _ (hm.trans (by decide)) ?_
    | with_reducible refine modTarget_changes _ _ (hm.trans (by decide)) ?_
    | with_reducible refine setState_changes _ _ (hm.trans (by decide)) ?_
    | with_reducible refine noChannel_changes (hm.trans (by decide)) ?_
    | with_reducible refine evaluate_changes (hm.trans (by decide)) ?_
    | with_reducible refine engineFault_changes _ _ (hm.trans (by decide)) ?_ | with_reducible apply Changes.ite
    | (with_reducible refine Changes.foldl ?_ (fun v y hv => ?_))
    | (extract_lets +onlyGivenNames x; refine Changes.cut (a := Changes m' u₀ x) ?_ (fun hx => ?_) <;> [unfold x; clear_value x])
    | extract_lets +onlyGivenNames x | split

theorem writeDirIn_changes (d : DirRec) (b : Nat) {m' : Nat} (hm : Covers m' 0xc2000008) {u₀ u₁ : State} (hu :
    Changes m' u₀ u₁) : Changes m' u₀ (writeDirIn d b u₁) := by
  unfold writeDirIn
  repeat' first
    | with_reducible assumption | with_reducible refine rootIfDue_changes _ (hm.trans (by decide)) ?_
    | with_reducible refine programRoot_changes _ _ _ (hm.trans (by decide)) ?_
    | with_reducible refine rootRoom_changes _ _ (hm.trans (by decide)) ?_ | with_reducible apply Changes.ite
    | split

theorem writeDirectory_changes {m' : Nat} (hm : Covers m' 0xc2000008) {u₀ u₁ : State} (hu : Changes m' u₀ u₁) :
    Changes m' u₀ (writeDirectory u₁) := by
  unfold writeDirectory
  repeat' first
    | with_reducible assumption | (fail_if_no_progress beta_reduce)
    | with_reducible refine writeRoot_changes _ (hm.trans (by decide)) ?_
    | with_reducible refine writeDirIn_changes _ _ (hm.trans (by decide)) ?_ | with_reducible apply Changes.ite
    | (with_reducible refine Changes.foldl ?_ (fun v y hv => ?_))
    | (fail_if_no_progress (with_reducible refine Changes.put_nand (hm.bit (by decide)) ?_ ?_) <;> [(first | exact id | (intro h0; constructor <;> first | exact h0.channels | exact h0.targets | exact h0.blocks | exact keysUp_tmod _ _ _ h0.channels | exact keysUp_tmod _ _ _ h0.targets | exact keysUp_tmod _ _ _ h0.blocks | exact keysUp_tins _ _ h0.blocks | exact keysUp_filter _ h0.targets | exact keysUp_map _ h0.channels (fun _ => rfl) | exact keysUp_map _ h0.targets (fun _ => rfl) | exact keysUp_map _ h0.blocks (fun e => by try beta_reduce; (try split) <;> rfl))); skip])
    | (extract_lets +onlyGivenNames x; refine Changes.cut (a := Changes m' u₀ x) ?_ (fun hx => ?_) <;> [unfold x; clear_value x])
    | extract_lets +onlyGivenNames x | split

theorem writeRoots_changes {m' : Nat} (hm : Covers m' 0xc2000008) {u₀ u₁ : State} (hu : Changes m' u₀ u₁) : Changes m' u₀
    (writeRoots u₁) := by
  unfold writeRoots
  repeat' first
    | with_reducible assumption | (fail_if_no_progress beta_reduce)
    | with_reducible refine writeRoot_changes _ (hm.trans (by decide)) ?_
    | with_reducible refine modTarget_changes _ _ (hm.trans (by decide)) ?_ | with_reducible apply Changes.ite
    | (with_reducible refine Changes.foldl ?_ (fun v y hv => ?_)) | extract_lets +onlyGivenNames x | split

theorem shedBolts_changes (n : Nat) {m' : Nat} (hm : Covers m' 0x40000c08) {u₀ u₁ : State} (hu : Changes m' u₀ u₁) :
    Changes m' u₀ (shedBolts n u₁) := by
  induction n generalizing u₁ with
  | zero =>
    unfold shedBolts
    repeat' first
      | with_reducible assumption | (fail_if_no_progress beta_reduce)
      | with_reducible refine msix_changes _ (hm.trans (by decide)) ?_
      | with_reducible refine postEvent_changes _ _ _ _ (hm.trans (by decide)) ?_ | with_reducible apply Changes.ite
      | (fail_if_no_progress (with_reducible refine Changes.put_nand (hm.bit (by decide)) ?_ ?_) <;> [(first | exact id | exact fun (h0 : NandSound _) => ⟨h0.channels, h0.targets, h0.blocks⟩ | exact fun (h0 : NandSound _) => ⟨keysUp_tmod _ _ _ h0.channels, h0.targets, h0.blocks⟩ | exact fun (h0 : NandSound _) => ⟨h0.channels, keysUp_tmod _ _ _ h0.targets, h0.blocks⟩ | exact fun (h0 : NandSound _) => ⟨h0.channels, h0.targets, keysUp_tmod _ _ _ h0.blocks⟩ | exact fun (h0 : NandSound _) => ⟨h0.channels, h0.targets, keysUp_tins _ _ h0.blocks⟩ | exact fun (h0 : NandSound _) => ⟨h0.channels, h0.targets, keysUp_map _ h0.blocks (fun e => by try beta_reduce; (try split) <;> rfl)⟩ | exact fun (h0 : NandSound _) => ⟨h0.channels, keysUp_filter _ h0.targets, h0.blocks⟩); skip])
      | (extract_lets +onlyGivenNames x; refine Changes.cut (a := Changes m' u₀ x) ?_ (fun hx => ?_) <;> [unfold x; clear_value x])
      | extract_lets +onlyGivenNames x | split
  | succ n ih =>
    unfold shedBolts
    repeat' first
      | with_reducible assumption | (fail_if_no_progress beta_reduce) | with_reducible apply ih
      | with_reducible refine msix_changes _ (hm.trans (by decide)) ?_
      | with_reducible refine postEvent_changes _ _ _ _ (hm.trans (by decide)) ?_ | with_reducible apply Changes.ite
      | (fail_if_no_progress (with_reducible refine Changes.put_nand (hm.bit (by decide)) ?_ ?_) <;> [(first | exact id | exact fun (h0 : NandSound _) => ⟨h0.channels, h0.targets, h0.blocks⟩ | exact fun (h0 : NandSound _) => ⟨keysUp_tmod _ _ _ h0.channels, h0.targets, h0.blocks⟩ | exact fun (h0 : NandSound _) => ⟨h0.channels, keysUp_tmod _ _ _ h0.targets, h0.blocks⟩ | exact fun (h0 : NandSound _) => ⟨h0.channels, h0.targets, keysUp_tmod _ _ _ h0.blocks⟩ | exact fun (h0 : NandSound _) => ⟨h0.channels, h0.targets, keysUp_tins _ _ h0.blocks⟩ | exact fun (h0 : NandSound _) => ⟨h0.channels, h0.targets, keysUp_map _ h0.blocks (fun e => by try beta_reduce; (try split) <;> rfl)⟩ | exact fun (h0 : NandSound _) => ⟨h0.channels, keysUp_filter _ h0.targets, h0.blocks⟩); skip])
      | (extract_lets +onlyGivenNames x; refine Changes.cut (a := Changes m' u₀ x) ?_ (fun hx => ?_) <;> [unfold x; clear_value x])
      | extract_lets +onlyGivenNames x | split

theorem reassessStore_changes {m' : Nat} (hm : Covers m' 0x4c040008) {u₀ u₁ : State} (hu : Changes m' u₀ u₁) :
    Changes m' u₀ (reassessStore u₁) := by
  unfold reassessStore
  repeat' first
    | with_reducible assumption | (fail_if_no_progress beta_reduce)
    | with_reducible refine engineClear_changes _ (hm.trans (by decide)) ?_ | with_reducible apply Changes.ite
    | (fail_if_no_progress (with_reducible refine Changes.put_nand (hm.bit (by decide)) ?_ ?_) <;> [(first | exact id | (intro h0; constructor <;> first | exact h0.channels | exact h0.targets | exact h0.blocks | exact keysUp_tmod _ _ _ h0.channels | exact keysUp_tmod _ _ _ h0.targets | exact keysUp_tmod _ _ _ h0.blocks | exact keysUp_tins _ _ h0.blocks | exact keysUp_filter _ h0.targets | exact keysUp_map _ h0.channels (fun _ => rfl) | exact keysUp_map _ h0.targets (fun _ => rfl) | exact keysUp_map _ h0.blocks (fun e => by try beta_reduce; (try split) <;> rfl))); skip])
    | (extract_lets +onlyGivenNames x; refine Changes.cut (a := Changes m' u₀ x) ?_ (fun hx => ?_) <;> [unfold x; clear_value x])
    | extract_lets +onlyGivenNames x | split

theorem spareCheck_changes {m' : Nat} (hm : Covers m' 0x4c0c0c28) {u₀ u₁ : State} (hu : Changes m' u₀ u₁) : Changes
    m' u₀ (spareCheck u₁) := by
  unfold spareCheck
  repeat' first
    | with_reducible assumption | (fail_if_no_progress beta_reduce)
    | with_reducible refine reassessStore_changes (hm.trans (by decide)) ?_
    | with_reducible refine engineFault_changes _ _ (hm.trans (by decide)) ?_
    | with_reducible refine msix_changes _ (hm.trans (by decide)) ?_
    | with_reducible refine postEvent_changes _ _ _ _ (hm.trans (by decide)) ?_
    | with_reducible refine shedBolts_changes _ (hm.trans (by decide)) ?_ | with_reducible apply Changes.ite
    | (fail_if_no_progress (with_reducible refine Changes.put_nand (hm.bit (by decide)) ?_ ?_) <;> [(first | exact id | (intro h0; constructor <;> first | exact h0.channels | exact h0.targets | exact h0.blocks | exact keysUp_tmod _ _ _ h0.channels | exact keysUp_tmod _ _ _ h0.targets | exact keysUp_tmod _ _ _ h0.blocks | exact keysUp_tins _ _ h0.blocks | exact keysUp_filter _ h0.targets | exact keysUp_map _ h0.channels (fun _ => rfl) | exact keysUp_map _ h0.targets (fun _ => rfl) | exact keysUp_map _ h0.blocks (fun e => by try beta_reduce; (try split) <;> rfl))); skip])
    | (extract_lets +onlyGivenNames x; refine Changes.cut (a := Changes m' u₀ x) ?_ (fun hx => ?_) <;> [unfold x; clear_value x])
    | extract_lets +onlyGivenNames x | split

theorem enterRetired_changes {m' : Nat} (hm : Covers m' 0xce0c0c7b) {u₀ u₁ : State} (hu : Changes m' u₀ u₁) :
    Changes m' u₀ (enterRetired u₁) := by
  unfold enterRetired
  repeat' first
    | with_reducible assumption | (fail_if_no_progress beta_reduce)
    | with_reducible refine enterBad_changes _ _ (hm.trans (by decide)) ?_ | with_reducible apply Changes.ite
    | (with_reducible refine Changes.foldl ?_ (fun v y hv => ?_))
    | (extract_lets +onlyGivenNames x; refine Changes.cut (a := Changes m' u₀ x) ?_ (fun hx => ?_) <;> [unfold x; clear_value x])
    | extract_lets +onlyGivenNames x | split

theorem retireBlocks_changes {m' : Nat} (hm : Covers m' 0xce0c0c7b) {u₀ u₁ : State} (hu : Changes m' u₀ u₁) :
    Changes m' u₀ (retireBlocks u₁) := by
  unfold retireBlocks
  repeat' first
    | with_reducible assumption | (fail_if_no_progress beta_reduce)
    | with_reducible refine enterRetired_changes (hm.trans (by decide)) ?_
    | with_reducible refine spareCheck_changes (hm.trans (by decide)) ?_ | with_reducible apply Changes.ite
    | (fail_if_no_progress (with_reducible refine Changes.put_nand (hm.bit (by decide)) ?_ ?_) <;> [(first | exact id | (intro h0; constructor <;> first | exact h0.channels | exact h0.targets | exact h0.blocks | exact keysUp_tmod _ _ _ h0.channels | exact keysUp_tmod _ _ _ h0.targets | exact keysUp_tmod _ _ _ h0.blocks | exact keysUp_tins _ _ h0.blocks | exact keysUp_filter _ h0.targets | exact keysUp_map _ h0.channels (fun _ => rfl) | exact keysUp_map _ h0.targets (fun _ => rfl) | exact keysUp_map _ h0.blocks (fun e => by try beta_reduce; (try split) <;> rfl))); skip])
    | (extract_lets +onlyGivenNames x; refine Changes.cut (a := Changes m' u₀ x) ?_ (fun hx => ?_) <;> [unfold x; clear_value x])
    | extract_lets +onlyGivenNames x | split

/-! ### Copies -/

theorem retryReads_changes (page : Nat) {m' : Nat} (hm : Covers m' 0x40000000) {u₀ u₁ : State} (hu : Changes m' u₀
    u₁) : Changes m' u₀ (retryReads page u₁) := by
  unfold retryReads
  repeat' first
    | with_reducible assumption | (fail_if_no_progress beta_reduce)
    | with_reducible refine onfi_changes _ _ (hm.trans (by decide)) ?_
    | (with_reducible refine Changes.foldl ?_ (fun v y hv => ?_))
    | (extract_lets +onlyGivenNames x; refine Changes.cut (a := Changes m' u₀ x) ?_ (fun hx => ?_) <;> [unfold x; clear_value x])
    | extract_lets +onlyGivenNames x | split

theorem countCopyRead_changes (slot : Nat) (r : CopyRead) {m' : Nat} (hm : Covers m' 0xc2000008) {u₀ u₁ : State} (hu
    : Changes m' u₀ u₁) : Changes m' u₀ (countCopyRead slot r u₁) := by
  unfold countCopyRead
  repeat' first
    | with_reducible assumption | (fail_if_no_progress beta_reduce)
    | with_reducible refine onfi_changes _ _ (hm.trans (by decide)) ?_
    | with_reducible refine sampleFree_changes _ _ (hm.trans (by decide)) ?_
    | with_reducible refine modChannel_changes _ _ (hm.trans (by decide)) ?_
    | with_reducible refine retryReads_changes _ (hm.trans (by decide)) ?_ | with_reducible apply Changes.ite
    | (extract_lets +onlyGivenNames x; refine Changes.cut (a := Changes m' u₀ x) ?_ (fun hx => ?_) <;> [unfold x; clear_value x])
    | extract_lets +onlyGivenNames x | split

theorem placeCopy_changes (g : Nat) (c : List Host.Cell × BitVec 64) {m' : Nat} (hm : Covers m' 0x3) {u₀ u₁ : State}
    (hu : Changes m' u₀ u₁) : Changes m' u₀ (placeCopy g c u₁) := by
  unfold placeCopy
  repeat' first
    | with_reducible assumption | (fail_if_no_progress beta_reduce)
    | with_reducible refine writeGranule_changes _ _ (hm.trans (by decide)) ?_
    | with_reducible refine poisonLines_changes _ _ _ (hm.trans (by decide)) ?_ | with_reducible apply Changes.ite
    | (fail_if_no_progress (with_reducible refine Changes.put_cache (hm.bit (by decide)) ?_ ?_) <;> [(first | exact id | exact fun (h0 : CacheSound _) => ⟨h0.channels, h0.poison, h0.map, h0.caps⟩ | exact fun (h0 : CacheSound _) => ⟨h0.channels, rfl, h0.map, h0.caps⟩ | exact fun (h0 : CacheSound _) => ⟨h0.channels, h0.poison, rfl, h0.caps⟩ | exact fun (h0 : CacheSound _) => ⟨by simpa [modAt] using h0.channels, h0.poison, h0.map, h0.caps⟩ | exact fun (h0 : CacheSound _) => ⟨h0.channels, tableOk_tput _ _ _ _ none h0.poison (by simp), h0.map, h0.caps⟩ | exact fun (h0 : CacheSound _) => ⟨h0.channels, h0.poison, keysUp_tput _ _ _ h0.map, h0.caps⟩ | exact fun (h0 : CacheSound _) => ⟨h0.channels, h0.poison, h0.map, keysUp_tput _ _ _ h0.caps⟩ | exact fun (h0 : CacheSound _) => ⟨rfl, h0.poison, h0.map, h0.caps⟩ | exact fun _ => CacheSound.fresh rfl rfl rfl rfl); skip])
    | (extract_lets +onlyGivenNames x; refine Changes.cut (a := Changes m' u₀ x) ?_ (fun hx => ?_) <;> [unfold x; clear_value x])
    | extract_lets +onlyGivenNames x | split

theorem readCopies_changes (l : Loc) (a : CopyRead) (b : CopyRead) {m' : Nat} (hm : Covers m' 0xc2000008) {u₀ u₁ :
    State} (hu : Changes m' u₀ u₁) : Changes m' u₀ (readCopies l a b u₁).2.2 := by
  unfold readCopies
  repeat' first
    | with_reducible assumption | (fail_if_no_progress beta_reduce)
    | with_reducible refine countCopyRead_changes _ _ (hm.trans (by decide)) ?_
    | (extract_lets +onlyGivenNames x; refine Changes.cut (a := Changes m' u₀ x) ?_ (fun hx => ?_) <;> [unfold x; clear_value x])
    | extract_lets +onlyGivenNames x | split

theorem repairClean_changes (line : Nat) (a : CopyRead) (b : CopyRead) {m' : Nat} (hm : Covers m' 0xce0c006b) {u₀ u₁
    : State} (hu : Changes m' u₀ u₁) : Changes m' u₀ (repairClean line a b u₁) := by
  unfold repairClean
  repeat' first
    | with_reducible assumption | (fail_if_no_progress beta_reduce)
    | with_reducible refine engineFault_changes _ _ (hm.trans (by decide)) ?_
    | with_reducible refine takeAgain_changes _ (hm.trans (by decide)) ?_
    | with_reducible refine setEntry_changes _ _ (hm.trans (by decide)) ?_
    | with_reducible refine poisonLines_changes _ _ _ (hm.trans (by decide)) ?_
    | with_reducible refine readCopies_changes _ _ _ (hm.trans (by decide)) ?_
    | with_reducible refine placeCopy_changes _ _ (hm.trans (by decide)) ?_
    | with_reducible refine setState_changes _ _ (hm.trans (by decide)) ?_
    | (extract_lets +onlyGivenNames x; refine Changes.cut (a := Changes m' u₀ x) ?_ (fun hx => ?_) <;> [unfold x; clear_value x])
    | extract_lets +onlyGivenNames x | split

theorem lineEcc_changes (line : Nat) (e : Ecc) (a b : CopyRead) {m' : Nat} (hm : Covers m' 0xce0c006b) {u₀ u₁ :
    State} (hu : Changes m' u₀ u₁) : Changes m' u₀ (lineEcc line e a b u₁) := by
  unfold lineEcc
  repeat' first
    | with_reducible assumption | with_reducible refine countCe_changes _ (hm.trans (by decide)) ?_
    | with_reducible refine countUe_changes _ (hm.trans (by decide)) ?_
    | with_reducible refine repairClean_changes _ _ _ (hm.trans (by decide)) ?_
    | with_reducible refine ueDirty_changes _ (hm.trans (by decide)) ?_
    | with_reducible refine engineFault_changes _ _ (hm.trans (by decide)) ?_
    | (extract_lets +onlyGivenNames x; refine Changes.cut (a := Changes m' u₀ x) ?_ (fun hx => ?_) <;> [unfold x; clear_value x])
    | extract_lets +onlyGivenNames x | split

theorem lineRead_changes (line : Nat) (x : Burst) (a : CopyRead) (b : CopyRead) {m' : Nat} (hm : Covers m'
    0xce0c006b) {u₀ u₁ : State} (hu : Changes m' u₀ u₁) : Changes m' u₀ (lineRead line x a b u₁) := by
  unfold lineRead
  repeat' first
    | with_reducible assumption | with_reducible refine lineEcc_changes _ _ _ _ (hm.trans (by decide)) ?_

theorem granuleRead_changes (reads : CopyReads) (g : Nat) {m' : Nat} (hm : Covers m' 0xce0c006b) {u₀ u₁ : State} (hu
    : Changes m' u₀ u₁) : Changes m' u₀ (granuleRead reads g u₁) := by
  unfold granuleRead
  repeat' first
    | with_reducible assumption | (fail_if_no_progress beta_reduce)
    | with_reducible refine lineRead_changes _ _ _ _ (hm.trans (by decide)) ?_
    | (with_reducible refine Changes.foldl ?_ (fun v y hv => ?_))
    | split

theorem dirtyBlockUe_changes (g : Nat) {m' : Nat} (hm : Covers m' 0x4c0c0061) {u₀ u₁ : State} (hu : Changes m' u₀
    u₁) : Changes m' u₀ (dirtyBlockUe g u₁) := by
  unfold dirtyBlockUe
  repeat' first
    | with_reducible assumption | (fail_if_no_progress beta_reduce)
    | with_reducible refine engineFault_changes _ _ (hm.trans (by decide)) ?_
    | with_reducible refine poisonGranule_changes _ (hm.trans (by decide)) ?_
    | (with_reducible refine Changes.foldl ?_ (fun v y hv => ?_))

theorem locationBlockUe_changes (g : Nat) {m' : Nat} (hm : Covers m' 0x41) {u₀ u₁ : State} (hu : Changes m' u₀ u₁) :
    Changes m' u₀ (locationBlockUe g u₁) := by
  unfold locationBlockUe
  repeat' first
    | with_reducible assumption | (fail_if_no_progress beta_reduce)
    | with_reducible refine takeAgain_changes _ (hm.trans (by decide)) ?_
    | with_reducible refine setState_changes _ _ (hm.trans (by decide)) ?_
    | with_reducible refine poisonGranule_changes _ (hm.trans (by decide)) ?_
    | (with_reducible refine Changes.foldl ?_ (fun v y hv => ?_))
    | (fail_if_no_progress (with_reducible refine Changes.put_cache (hm.bit (by decide)) ?_ ?_) <;> [(first | exact id | (intro h0; constructor <;> first | exact h0.channels | exact h0.poison | exact h0.map | exact h0.caps | rfl | exact tableOk_tput _ _ _ _ none h0.poison (by simp) | exact keysUp_tput _ _ _ h0.map | exact keysUp_tput _ _ _ h0.caps | simpa [modAt] using h0.channels)); skip])
    | (extract_lets +onlyGivenNames x; refine Changes.cut (a := Changes m' u₀ x) ?_ (fun hx => ?_) <;> [unfold x; clear_value x])
    | extract_lets +onlyGivenNames x | split

theorem mapRegionUe_changes (line : Nat) {m' : Nat} (hm : Covers m' 0x4c0c0061) {u₀ u₁ : State} (hu : Changes m' u₀
    u₁) : Changes m' u₀ (mapRegionUe line u₁) := by
  unfold mapRegionUe
  repeat' first
    | with_reducible assumption | with_reducible refine dirtyBlockUe_changes _ (hm.trans (by decide)) ?_
    | with_reducible refine locationBlockUe_changes _ (hm.trans (by decide)) ?_ | with_reducible apply Changes.ite
    | (extract_lets +onlyGivenNames x; refine Changes.cut (a := Changes m' u₀ x) ?_ (fun hx => ?_) <;> [unfold x; clear_value x])
    | extract_lets +onlyGivenNames x | split

theorem regionRead_changes (line : Nat) (x : Burst) {m' : Nat} (hm : Covers m' 0x4c0c0061) {u₀ u₁ : State} (hu :
    Changes m' u₀ u₁) : Changes m' u₀ (regionRead line x u₁) := by
  unfold regionRead
  repeat' first
    | with_reducible assumption | with_reducible refine countCe_changes _ (hm.trans (by decide)) ?_
    | with_reducible refine mapRegionUe_changes _ (hm.trans (by decide)) ?_
    | with_reducible refine countUe_changes _ (hm.trans (by decide)) ?_
    | split

theorem regionReads_changes (reads : CopyReads) {m' : Nat} (hm : Covers m' 0x4c0c0061) {u₀ u₁ : State} (hu : Changes
    m' u₀ u₁) : Changes m' u₀ (regionReads reads u₁) := by
  unfold regionReads
  repeat' first
    | with_reducible assumption | (fail_if_no_progress beta_reduce)
    | with_reducible refine regionRead_changes _ _ (hm.trans (by decide)) ?_
    | (with_reducible refine Changes.foldl ?_ (fun v y hv => ?_))
    | split

/-! ### Staging -/

theorem modEpoch_changes (n : Nat) (f : Epoch → Epoch) {m' : Nat} (hm : Covers m' 0x10) {u₀ u₁ : State} (hu :
    Changes m' u₀ u₁) : Changes m' u₀ (modEpoch n f u₁) := by
  unfold modEpoch
  repeat' first
    | with_reducible assumption | (fail_if_no_progress beta_reduce) | with_reducible apply Changes.ite
    | (fail_if_no_progress with_reducible refine Changes.put_stg (hm.bit (by decide)) ?_)
    | extract_lets +onlyGivenNames x | split

theorem dropEpoch_changes (n : Nat) {m' : Nat} (hm : Covers m' 0x10) {u₀ u₁ : State} (hu : Changes m' u₀ u₁) :
    Changes m' u₀ (dropEpoch n u₁) := by
  unfold dropEpoch
  repeat' first
    | with_reducible assumption | (fail_if_no_progress beta_reduce)
    | (fail_if_no_progress with_reducible refine Changes.put_stg (hm.bit (by decide)) ?_)
    | extract_lets +onlyGivenNames x

theorem openNew_changes (kind : KnotKind) {m' : Nat} (hm : Covers m' 0x4c0c0030) {u₀ u₁ : State} (hu : Changes m' u₀
    u₁) : Changes m' u₀ (openNew kind u₁) := by
  unfold openNew
  repeat' first
    | with_reducible assumption | with_reducible refine engineFault_changes _ _ (hm.trans (by decide)) ?_
    | with_reducible apply Changes.ite
    | (fail_if_no_progress with_reducible refine Changes.put_stg (hm.bit (by decide)) ?_)
    | extract_lets +onlyGivenNames x | split

theorem closeEpoch_changes (n : Nat) {m' : Nat} (hm : Covers m' 0x10) {u₀ u₁ : State} (hu : Changes m' u₀ u₁) :
    Changes m' u₀ (closeEpoch n u₁) := by
  unfold closeEpoch
  repeat' first
    | with_reducible assumption | (fail_if_no_progress beta_reduce)
    | with_reducible refine modEpoch_changes _ _ (hm.trans (by decide)) ?_ | extract_lets +onlyGivenNames x

theorem closeOpen_changes {m' : Nat} (hm : Covers m' 0x10) {u₀ u₁ : State} (hu : Changes m' u₀ u₁) : Changes m' u₀
    (closeOpen u₁) := by
  unfold closeOpen
  repeat' first
    | with_reducible assumption | with_reducible refine closeEpoch_changes _ (hm.trans (by decide)) ?_ | split

theorem schedule_changes (n : Nat) (u : NandUnit) {m' : Nat} (hm : Covers m' 0x10) {u₀ u₁ : State} (hu : Changes m'
    u₀ u₁) : Changes m' u₀ (schedule n u u₁) := by
  unfold schedule
  repeat' first
    | with_reducible assumption | (fail_if_no_progress beta_reduce)
    | with_reducible refine modEpoch_changes _ _ (hm.trans (by decide)) ?_ | extract_lets +onlyGivenNames x

theorem unpend_changes (g : Nat) {m' : Nat} (hm : Covers m' 0x1) {u₀ u₁ : State} (hu : Changes m' u₀ u₁) : Changes
    m' u₀ (unpend g u₁) := by
  unfold unpend
  repeat' first
    | with_reducible assumption | with_reducible refine setEntry_changes _ _ (hm.trans (by decide)) ?_
    | with_reducible apply Changes.ite
    | (extract_lets +onlyGivenNames x; refine Changes.cut (a := Changes m' u₀ x) ?_ (fun hx => ?_) <;> [unfold x; clear_value x])
    | extract_lets +onlyGivenNames x | split

theorem writeVoid_changes (v : VoidWait) {m' : Nat} (hm : Covers m' 0xc2000018) {u₀ u₁ : State} (hu : Changes m' u₀
    u₁) : Changes m' u₀ (writeVoid v u₁) := by
  unfold writeVoid
  repeat' first
    | with_reducible assumption | (fail_if_no_progress beta_reduce)
    | with_reducible refine programPage_changes _ _ _ _ _ _ _ _ (hm.trans (by decide)) ?_
    | with_reducible refine moveFrontier_changes _ _ (hm.trans (by decide)) ?_ | with_reducible apply Changes.ite
    | (fail_if_no_progress (with_reducible refine Changes.put_nand (hm.bit (by decide)) ?_ ?_) <;> [(first | exact id | (intro h0; constructor <;> first | exact h0.channels | exact h0.targets | exact h0.blocks | exact keysUp_tmod _ _ _ h0.channels | exact keysUp_tmod _ _ _ h0.targets | exact keysUp_tmod _ _ _ h0.blocks | exact keysUp_tins _ _ h0.blocks | exact keysUp_filter _ h0.targets | exact keysUp_map _ h0.channels (fun _ => rfl) | exact keysUp_map _ h0.targets (fun _ => rfl) | exact keysUp_map _ h0.blocks (fun e => by try beta_reduce; (try split) <;> rfl))); skip])
    | (fail_if_no_progress with_reducible refine Changes.put_stg (hm.bit (by decide)) ?_)
    | (extract_lets +onlyGivenNames x; refine Changes.cut (a := Changes m' u₀ x) ?_ (fun hx => ?_) <;> [unfold x; clear_value x])
    | extract_lets +onlyGivenNames x | split

theorem voidEpoch_changes (reason : Nat) (e : Epoch) {m' : Nat} (hm : Covers m' 0xc2000019) {u₀ u₁ : State} (hu :
    Changes m' u₀ u₁) : Changes m' u₀ (voidEpoch reason u₁ e) := by
  unfold voidEpoch
  repeat' first
    | with_reducible assumption | (fail_if_no_progress beta_reduce)
    | with_reducible refine unpend_changes _ (hm.trans (by decide)) ?_
    | with_reducible refine dropEpoch_changes _ (hm.trans (by decide)) ?_
    | with_reducible refine sampleSince_changes _ _ _ (hm.trans (by decide)) ?_
    | with_reducible refine writeVoid_changes _ (hm.trans (by decide)) ?_ | with_reducible apply Changes.ite
    | (with_reducible refine Changes.foldl ?_ (fun v y hv => ?_))
    | (fail_if_no_progress with_reducible refine Changes.put_stg (hm.bit (by decide)) ?_)
    | (extract_lets +onlyGivenNames x; refine Changes.cut (a := Changes m' u₀ x) ?_ (fun hx => ?_) <;> [unfold x; clear_value x])
    | extract_lets +onlyGivenNames x | split

theorem voidWhere_changes (p : Epoch → Bool) (reason : Nat) {m' : Nat} (hm : Covers m' 0xc2000019) {u₀ u₁ : State}
    (hu : Changes m' u₀ u₁) : Changes m' u₀ (voidWhere p reason u₁) := by
  unfold voidWhere
  repeat' first
    | with_reducible assumption | with_reducible refine voidEpoch_changes _ _ (hm.trans (by decide)) ?_
    | (with_reducible refine Changes.foldl ?_ (fun v y hv => ?_))

theorem voidDrainFrom_changes (n : Nat) (reason : Nat) {m' : Nat} (hm : Covers m' 0xc2000079) {u₀ u₁ : State} (hu :
    Changes m' u₀ u₁) : Changes m' u₀ (voidDrainFrom n reason u₁) := by
  unfold voidDrainFrom
  repeat' first
    | with_reducible assumption | (fail_if_no_progress beta_reduce)
    | with_reducible refine voidEpoch_changes _ _ (hm.trans (by decide)) ?_ | with_reducible apply Changes.ite
    | (with_reducible refine Changes.foldl ?_ (fun v y hv => ?_))
    | (fail_if_no_progress with_reducible refine Changes.put_stg (hm.bit (by decide)) ?_)
    | (fail_if_no_progress with_reducible refine Changes.put_vlt (hm.bit (by decide)) ?_)
    | (fail_if_no_progress with_reducible refine Changes.put_drain (hm.bit (by decide)) ?_)
    | (fail_if_no_progress with_reducible apply Changes.parts <;> first | exact hm.skip (by decide) | exact fun _ => rfl | exact id | skip)
    | (extract_lets +onlyGivenNames x; refine Changes.cut (a := Changes m' u₀ x) ?_ (fun hx => ?_) <;> [unfold x; clear_value x])
    | extract_lets +onlyGivenNames x | split

theorem scheduleManifest_changes {m' : Nat} (hm : Covers m' 0x4c0c0030) {u₀ u₁ : State} (hu : Changes m' u₀ u₁) :
    Changes m' u₀ (scheduleManifest u₁) := by
  unfold scheduleManifest
  repeat' first
    | with_reducible assumption | (fail_if_no_progress beta_reduce)
    | with_reducible refine openNew_changes _ (hm.trans (by decide)) ?_
    | with_reducible refine closeEpoch_changes _ (hm.trans (by decide)) ?_
    | with_reducible refine modEpoch_changes _ _ (hm.trans (by decide)) ?_
    | (extract_lets +onlyGivenNames x; refine Changes.cut (a := Changes m' u₀ x) ?_ (fun hx => ?_) <;> [unfold x; clear_value x])
    | extract_lets +onlyGivenNames x | split

theorem addReprogram_changes (bytes : Nat) {m' : Nat} (hm : Covers m' 0x4c0c0020) {u₀ u₁ : State} (hu : Changes m'
    u₀ u₁) : Changes m' u₀ (addReprogram bytes u₁) := by
  unfold addReprogram
  repeat' first
    | with_reducible assumption | with_reducible refine engineFault_changes _ _ (hm.trans (by decide)) ?_
    | with_reducible apply Changes.ite
    | (fail_if_no_progress with_reducible refine Changes.put_vlt (hm.bit (by decide)) ?_)
    | (extract_lets +onlyGivenNames x; refine Changes.cut (a := Changes m' u₀ x) ?_ (fun hx => ?_) <;> [unfold x; clear_value x])
    | extract_lets +onlyGivenNames x | split

theorem strayEpochs_changes {m' : Nat} (hm : Covers m' 0x10) {u₀ u₁ : State} (hu : Changes m' u₀ u₁) : Changes m' u₀
    (strayEpochs u₁) := by
  unfold strayEpochs
  repeat' first
    | with_reducible assumption | (fail_if_no_progress beta_reduce)
    | (fail_if_no_progress with_reducible refine Changes.put_stg (hm.bit (by decide)) ?_)
    | split

theorem failKnot_changes (e : Epoch) (reason : Nat) {m' : Nat} (hm : Covers m' 0xce0c0079) {u₀ u₁ : State} (hu :
    Changes m' u₀ u₁) : Changes m' u₀ (failKnot e reason u₁) := by
  unfold failKnot
  repeat' first
    | with_reducible assumption | (fail_if_no_progress beta_reduce)
    | with_reducible refine voidEpoch_changes _ _ (hm.trans (by decide)) ?_
    | with_reducible refine addReprogram_changes _ (hm.trans (by decide)) ?_
    | with_reducible refine scheduleManifest_changes (hm.trans (by decide)) ?_
    | with_reducible refine voidDrainFrom_changes _ _ (hm.trans (by decide)) ?_ | with_reducible apply Changes.ite
    | (fail_if_no_progress with_reducible refine Changes.put_drain (hm.bit (by decide)) ?_)
    | (extract_lets +onlyGivenNames x; refine Changes.cut (a := Changes m' u₀ x) ?_ (fun hx => ?_) <;> [unfold x; clear_value x])
    | extract_lets +onlyGivenNames x | split

theorem adoptUnit_changes (ptr : Nat) (p : Page) (iu : NandUnit × Nat) {m' : Nat} (hm : Covers m' 0x4c0c0021) {u₀ u₁
    : State} (hu : Changes m' u₀ u₁) : Changes m' u₀ (adoptUnit ptr p u₁ iu) := by
  unfold adoptUnit
  repeat' first
    | with_reducible assumption | (fail_if_no_progress beta_reduce)
    | with_reducible refine engineFault_changes _ _ (hm.trans (by decide)) ?_
    | with_reducible refine setEntry_changes _ _ (hm.trans (by decide)) ?_ | with_reducible apply Changes.ite
    | (fail_if_no_progress (with_reducible refine Changes.put_cache (hm.bit (by decide)) ?_ ?_) <;> [(first | exact id | (intro h0; constructor <;> first | exact h0.channels | exact h0.poison | exact h0.map | exact h0.caps | rfl | exact tableOk_tput _ _ _ _ none h0.poison (by simp) | exact keysUp_tput _ _ _ h0.map | exact keysUp_tput _ _ _ h0.caps | simpa [modAt] using h0.channels)); skip])
    | (extract_lets +onlyGivenNames x; refine Changes.cut (a := Changes m' u₀ x) ?_ (fun hx => ?_) <;> [unfold x; clear_value x])
    | extract_lets +onlyGivenNames x | split

theorem applyUnit_changes (e : Epoch) (ptr : Nat) (p : Page) (iu : NandUnit × Nat) {m' : Nat} (hm : Covers m'
    0x4c0c0021) {u₀ u₁ : State} (hu : Changes m' u₀ u₁) : Changes m' u₀ (applyUnit e ptr p u₁ iu) := by
  unfold applyUnit
  repeat' first
    | with_reducible assumption | (fail_if_no_progress beta_reduce)
    | with_reducible refine adoptUnit_changes _ _ _ (hm.trans (by decide)) ?_ | with_reducible apply Changes.ite
    | (extract_lets +onlyGivenNames x; refine Changes.cut (a := Changes m' u₀ x) ?_ (fun hx => ?_) <;> [unfold x; clear_value x])
    | extract_lets +onlyGivenNames x | split

theorem applyPages_changes (e : Epoch) {m' : Nat} (hm : Covers m' 0x4c0c0021) {u₀ u₁ : State} (hu : Changes m' u₀
    u₁) : Changes m' u₀ (applyPages e u₁) := by
  unfold applyPages
  repeat' first
    | with_reducible assumption | (fail_if_no_progress beta_reduce)
    | with_reducible refine applyUnit_changes _ _ _ _ (hm.trans (by decide)) ?_
    | (with_reducible refine Changes.foldl ?_ (fun v y hv => ?_))
    | (extract_lets +onlyGivenNames x; refine Changes.cut (a := Changes m' u₀ x) ?_ (fun hx => ?_) <;> [unfold x; clear_value x])
    | extract_lets +onlyGivenNames x | split

theorem advanceSafe_changes {m' : Nat} (hm : Covers m' 0x10) {u₀ u₁ : State} (hu : Changes m' u₀ u₁) : Changes m' u₀
    (advanceSafe u₁) := by
  unfold advanceSafe
  repeat' first
    | with_reducible assumption
    | (fail_if_no_progress with_reducible refine Changes.put_stg (hm.bit (by decide)) ?_)
    | extract_lets +onlyGivenNames x

theorem finishShed_changes {m' : Nat} (hm : Covers m' 0x8) {u₀ u₁ : State} (hu : Changes m' u₀ u₁) : Changes m' u₀
    (finishShed u₁) := by
  unfold finishShed
  repeat' first
    | with_reducible assumption | (fail_if_no_progress beta_reduce)
    | (fail_if_no_progress (with_reducible refine Changes.put_nand (hm.bit (by decide)) ?_ ?_) <;> [(first | exact id | exact fun (h0 : NandSound _) => ⟨h0.channels, h0.targets, h0.blocks⟩ | exact fun (h0 : NandSound _) => ⟨keysUp_tmod _ _ _ h0.channels, h0.targets, h0.blocks⟩ | exact fun (h0 : NandSound _) => ⟨h0.channels, keysUp_tmod _ _ _ h0.targets, h0.blocks⟩ | exact fun (h0 : NandSound _) => ⟨h0.channels, h0.targets, keysUp_tmod _ _ _ h0.blocks⟩ | exact fun (h0 : NandSound _) => ⟨h0.channels, h0.targets, keysUp_tins _ _ h0.blocks⟩ | exact fun (h0 : NandSound _) => ⟨h0.channels, h0.targets, keysUp_map _ h0.blocks (fun e => by try beta_reduce; (try split) <;> rfl)⟩ | exact fun (h0 : NandSound _) => ⟨h0.channels, keysUp_filter _ h0.targets, h0.blocks⟩); skip])
    | extract_lets +onlyGivenNames x

theorem startCkpt_changes {m' : Nat} (hm : Covers m' 0x10) {u₀ u₁ : State} (hu : Changes m' u₀ u₁) : Changes m' u₀
    (startCkpt u₁) := by
  unfold startCkpt
  repeat' first
    | with_reducible assumption | with_reducible apply Changes.ite
    | (fail_if_no_progress with_reducible refine Changes.put_stg (hm.bit (by decide)) ?_)
    | split

theorem resolve_changes (e : Epoch) (slot : Nat) {m' : Nat} (hm : Covers m' 0xce0c0c7b) {u₀ u₁ : State} (hu :
    Changes m' u₀ u₁) : Changes m' u₀ (resolve e slot u₁) := by
  unfold resolve
  repeat' first
    | with_reducible assumption | (fail_if_no_progress beta_reduce)
    | with_reducible refine dropEpoch_changes _ (hm.trans (by decide)) ?_
    | with_reducible refine applyPages_changes _ (hm.trans (by decide)) ?_
    | with_reducible refine sampleSince_changes _ _ _ (hm.trans (by decide)) ?_
    | with_reducible refine sendFrame_changes _ _ (hm.trans (by decide)) ?_
    | with_reducible refine evaluate_changes (hm.trans (by decide)) ?_
    | with_reducible refine retireBlocks_changes (hm.trans (by decide)) ?_
    | with_reducible refine finishShed_changes (hm.trans (by decide)) ?_
    | with_reducible refine advanceSafe_changes (hm.trans (by decide)) ?_ | with_reducible apply Changes.ite
    | (fail_if_no_progress with_reducible refine Changes.put_stg (hm.bit (by decide)) ?_)
    | (fail_if_no_progress (with_reducible refine Changes.put_mbx (hm.bit (by decide)) ?_ ?_) <;> [(first | exact id | exact fun (h0 : EventLogsSound _) => ⟨h0.four, h0.records⟩); skip])
    | (fail_if_no_progress with_reducible apply Changes.parts <;> first | exact hm.skip (by decide) | exact fun _ => rfl | exact id | (first | exact id | exact fun (h0 : EventLogsSound _) => ⟨h0.four, h0.records⟩) | skip)
    | (extract_lets +onlyGivenNames x; refine Changes.cut (a := Changes m' u₀ x) ?_ (fun hx => ?_) <;> [unfold x; clear_value x])
    | extract_lets +onlyGivenNames x | split

theorem recordProgram_changes (p : Nat) (result : NandResult) (type : Nat) (epoch : Nat) (units : List NandUnit)
    (dup : Bool) (copyB : Bool) (again : Bool) (other : Nat) {m' : Nat} (hm : Covers m' 0xc2000008) {u₀ u₁ : State}
    (hu : Changes m' u₀ u₁) : Changes m' u₀ (recordProgram p result type epoch units dup copyB again other u₁) := by
  unfold recordProgram
  repeat' first
    | with_reducible assumption | with_reducible refine programPage_changes _ _ _ _ _ _ _ _ (hm.trans (by decide)) ?_
    | with_reducible refine failPage_changes _ (hm.trans (by decide)) ?_
    | split

theorem programKnot_changes (e : Epoch) (body : KnotBody) (p : Nat) (q : Nat) (ra : NandResult) (rb : NandResult)
    {m' : Nat} (hm : Covers m' 0xc2000018) {u₀ u₁ : State} (hu : Changes m' u₀ u₁) : Changes m' u₀ (programKnot e
    body p q ra rb u₁) := by
  unfold programKnot
  repeat' first
    | with_reducible assumption | (fail_if_no_progress beta_reduce)
    | with_reducible refine recordProgram_changes _ _ _ _ _ _ _ _ _ (hm.trans (by decide)) ?_
    | with_reducible refine abandonBlock_changes _ (hm.trans (by decide)) ?_
    | with_reducible refine moveFrontier_changes _ _ (hm.trans (by decide)) ?_
    | with_reducible refine modEpoch_changes _ _ (hm.trans (by decide)) ?_ | with_reducible apply Changes.ite
    | (fail_if_no_progress (with_reducible refine Changes.put_nand (hm.bit (by decide)) ?_ ?_) <;> [(first | exact id | (intro h0; constructor <;> first | exact h0.channels | exact h0.targets | exact h0.blocks | exact keysUp_tmod _ _ _ h0.channels | exact keysUp_tmod _ _ _ h0.targets | exact keysUp_tmod _ _ _ h0.blocks | exact keysUp_tins _ _ h0.blocks | exact keysUp_filter _ h0.targets | exact keysUp_map _ h0.channels (fun _ => rfl) | exact keysUp_map _ h0.targets (fun _ => rfl) | exact keysUp_map _ h0.blocks (fun e => by try beta_reduce; (try split) <;> rfl))); skip])
    | (extract_lets +onlyGivenNames x; refine Changes.cut (a := Changes m' u₀ x) ?_ (fun hx => ?_) <;> [unfold x; clear_value x])
    | extract_lets +onlyGivenNames x | split

theorem takeGranule_changes (n : Nat) (kind : UnitKind) (reads : CopyReads) (g : Nat) {m' : Nat} (hm : Covers m'
    0xce0c007b) {u₀ u₁ : State} (hu : Changes m' u₀ u₁) : Changes m' u₀ (takeGranule n kind reads g u₁) := by
  unfold takeGranule
  repeat' first
    | with_reducible assumption | (fail_if_no_progress beta_reduce)
    | with_reducible refine granuleRead_changes _ _ (hm.trans (by decide)) ?_
    | with_reducible refine setEntry_changes _ _ (hm.trans (by decide)) ?_
    | with_reducible refine schedule_changes _ _ (hm.trans (by decide)) ?_ | with_reducible apply Changes.ite
    | (extract_lets +onlyGivenNames x; refine Changes.cut (a := Changes m' u₀ x) ?_ (fun hx => ?_) <;> [unfold x; clear_value x])
    | extract_lets +onlyGivenNames x | split

theorem takeGranules_changes (kind : UnitKind) (reads : CopyReads) (n : List Nat) {m' : Nat} (hm : Covers m'
    0xce0c007b) {u₀ u₁ : State} (hu : Changes m' u₀ u₁) : Changes m' u₀ (takeGranules kind reads n u₁) := by
  induction n generalizing u₁ with
  | nil =>
    unfold takeGranules
    repeat' first
      | with_reducible assumption | (fail_if_no_progress beta_reduce)
      | with_reducible refine closeEpoch_changes _ (hm.trans (by decide)) ?_
      | with_reducible refine takeGranule_changes _ _ _ _ (hm.trans (by decide)) ?_ | with_reducible apply Changes.ite
      | (extract_lets +onlyGivenNames x; refine Changes.cut (a := Changes m' u₀ x) ?_ (fun hx => ?_) <;> [unfold x; clear_value x])
      | extract_lets +onlyGivenNames x | split
  | cons k n ih =>
    unfold takeGranules
    repeat' first
      | with_reducible assumption | with_reducible apply ih | (fail_if_no_progress beta_reduce)
      | with_reducible refine closeEpoch_changes _ (hm.trans (by decide)) ?_
      | with_reducible refine takeGranule_changes _ _ _ _ (hm.trans (by decide)) ?_ | with_reducible apply Changes.ite
      | (extract_lets +onlyGivenNames x; refine Changes.cut (a := Changes m' u₀ x) ?_ (fun hx => ?_) <;> [unfold x; clear_value x])
      | extract_lets +onlyGivenNames x | split

theorem stageCkpt_changes (c : CkptRun) {m' : Nat} (hm : Covers m' 0x4c0c0030) {u₀ u₁ : State} (hu : Changes m' u₀
    u₁) : Changes m' u₀ (stageCkpt c u₁) := by
  unfold stageCkpt
  repeat' first
    | with_reducible assumption | (fail_if_no_progress beta_reduce)
    | with_reducible refine openNew_changes _ (hm.trans (by decide)) ?_
    | with_reducible refine closeEpoch_changes _ (hm.trans (by decide)) ?_
    | with_reducible refine modEpoch_changes _ _ (hm.trans (by decide)) ?_ | with_reducible apply Changes.ite
    | (fail_if_no_progress with_reducible refine Changes.put_stg (hm.bit (by decide)) ?_)
    | (extract_lets +onlyGivenNames x; refine Changes.cut (a := Changes m' u₀ x) ?_ (fun hx => ?_) <;> [unfold x; clear_value x])
    | extract_lets +onlyGivenNames x | split

theorem execStagingSelect_changes (reads : CopyReads) {m' : Nat} (hm : Covers m' 0xce0c007b) {u₀ u₁ : State} (hu :
    Changes m' u₀ u₁) : ChangesOut m' u₀ (execStagingSelect reads u₁) := by
  unfold execStagingSelect
  repeat' first
    | with_reducible assumption | (fail_if_no_progress beta_reduce) | with_reducible apply ChangesOut.next
    | with_reducible apply ChangesOut.ite | with_reducible refine startCkpt_changes (hm.trans (by decide)) ?_
    | with_reducible refine stageCkpt_changes _ (hm.trans (by decide)) ?_
    | with_reducible refine regionReads_changes _ (hm.trans (by decide)) ?_
    | with_reducible refine openNew_changes _ (hm.trans (by decide)) ?_
    | with_reducible refine takeGranules_changes _ _ _ (hm.trans (by decide)) ?_ | with_reducible apply Changes.ite
    | (extract_lets +onlyGivenNames x; refine Changes.cut (a := Changes m' u₀ x) ?_ (fun hx => ?_) <;> [unfold x; clear_value x])
    | extract_lets +onlyGivenNames x | split

theorem execEpochAgeExpiry_changes {m' : Nat} (hm : Covers m' 0x10) {u₀ u₁ : State} (hu : Changes m' u₀ u₁) :
    ChangesOut m' u₀ (execEpochAgeExpiry u₁) := by
  unfold execEpochAgeExpiry
  repeat' first
    | with_reducible assumption | with_reducible apply ChangesOut.next
    | with_reducible refine closeOpen_changes (hm.trans (by decide)) ?_

theorem noteWait_changes (e : Epoch) (wait : Bool) (ptrs : List Nat) {m' : Nat} (hm : Covers m' 0x8) {u₀ u₁ : State}
    (hu : Changes m' u₀ u₁) : Changes m' u₀ (noteWait e wait ptrs u₁) := by
  unfold noteWait
  repeat' first
    | with_reducible assumption | (fail_if_no_progress beta_reduce) | with_reducible apply Changes.ite
    | (fail_if_no_progress (with_reducible refine Changes.put_nand (hm.bit (by decide)) ?_ ?_) <;> [(first | exact id | (intro h0; constructor <;> first | exact h0.channels | exact h0.targets | exact h0.blocks | exact keysUp_tmod _ _ _ h0.channels | exact keysUp_tmod _ _ _ h0.targets | exact keysUp_tmod _ _ _ h0.blocks | exact keysUp_tins _ _ h0.blocks | exact keysUp_filter _ h0.targets | exact keysUp_map _ h0.channels (fun _ => rfl) | exact keysUp_map _ h0.targets (fun _ => rfl) | exact keysUp_map _ h0.blocks (fun e => by try beta_reduce; (try split) <;> rfl))); skip])
    | (extract_lets +onlyGivenNames x; refine Changes.cut (a := Changes m' u₀ x) ?_ (fun hx => ?_) <;> [unfold x; clear_value x])
    | extract_lets +onlyGivenNames x | split

theorem execKnotRecordProgram_changes (ptr : Nat) (ptrB : Nat) (result : NandResult) (resultB : NandResult) {m' :
    Nat} (hm : Covers m' 0xce0c0079) {u₀ u₁ : State} (hu : Changes m' u₀ u₁) : ChangesOut m' u₀
    (execKnotRecordProgram ptr ptrB result resultB u₁) := by
  unfold execKnotRecordProgram
  repeat' first
    | with_reducible assumption | (fail_if_no_progress beta_reduce) | with_reducible apply ChangesOut.next
    | with_reducible apply ChangesOut.ite | with_reducible refine noteWait_changes _ _ _ (hm.trans (by decide)) ?_
    | with_reducible refine programKnot_changes _ _ _ _ _ _ (hm.trans (by decide)) ?_
    | with_reducible refine failKnot_changes _ _ (hm.trans (by decide)) ?_ | with_reducible apply Changes.ite
    | (extract_lets +onlyGivenNames x; refine Changes.cut (a := Changes m' u₀ x) ?_ (fun hx => ?_) <;> [unfold x; clear_value x])
    | extract_lets +onlyGivenNames x | split

theorem chargeGovernor_changes (copies : Nat) {m' : Nat} (hm : Covers m' 0x4c0c0030) {u₀ u₁ : State} (hu : Changes
    m' u₀ u₁) : Changes m' u₀ (chargeGovernor copies u₁) := by
  unfold chargeGovernor
  repeat' first
    | with_reducible assumption | (fail_if_no_progress beta_reduce)
    | with_reducible refine engineFault_changes _ _ (hm.trans (by decide)) ?_ | with_reducible apply Changes.ite
    | (with_reducible refine Changes.foldl ?_ (fun v y hv => ?_))
    | (fail_if_no_progress with_reducible refine Changes.put_stg (hm.bit (by decide)) ?_)
    | (extract_lets +onlyGivenNames x; refine Changes.cut (a := Changes m' u₀ x) ?_ (fun hx => ?_) <;> [unfold x; clear_value x])
    | extract_lets +onlyGivenNames x | split

theorem countCopies_changes (us : List NandUnit) {m' : Nat} (hm : Covers m' 0x4c0c0030) {u₀ u₁ : State} (hu :
    Changes m' u₀ u₁) : Changes m' u₀ (countCopies us u₁) := by
  unfold countCopies
  repeat' first
    | with_reducible assumption | (fail_if_no_progress beta_reduce)
    | with_reducible refine chargeGovernor_changes _ (hm.trans (by decide)) ?_ | with_reducible apply Changes.ite
    | (fail_if_no_progress with_reducible refine Changes.put_stg (hm.bit (by decide)) ?_)
    | (fail_if_no_progress with_reducible refine Changes.put_vlt (hm.bit (by decide)) ?_)
    | (fail_if_no_progress with_reducible apply Changes.parts <;> first | exact hm.skip (by decide) | exact fun _ => rfl | exact id | skip)
    | (extract_lets +onlyGivenNames x; refine Changes.cut (a := Changes m' u₀ x) ?_ (fun hx => ?_) <;> [unfold x; clear_value x])
    | extract_lets +onlyGivenNames x | split

theorem noteSlots_changes (ptr : Nat) (us : List NandUnit) {m' : Nat} (hm : Covers m' 0x40) {u₀ u₁ : State} (hu :
    Changes m' u₀ u₁) : Changes m' u₀ (noteSlots ptr us u₁) := by
  unfold noteSlots
  repeat' first
    | with_reducible assumption | (fail_if_no_progress beta_reduce) | with_reducible apply Changes.ite
    | (with_reducible refine Changes.foldl ?_ (fun v y hv => ?_))
    | (fail_if_no_progress with_reducible refine Changes.put_drain (hm.bit (by decide)) ?_)
    | (extract_lets +onlyGivenNames x; refine Changes.cut (a := Changes m' u₀ x) ?_ (fun hx => ?_) <;> [unfold x; clear_value x])
    | extract_lets +onlyGivenNames x | split

theorem pagePassed_changes (e : Epoch) (ptr : Nat) (blockB : Nat) {m' : Nat} (hm : Covers m' 0xce0c0079) {u₀ u₁ :
    State} (hu : Changes m' u₀ u₁) : Changes m' u₀ (pagePassed e ptr blockB u₁) := by
  unfold pagePassed
  repeat' first
    | with_reducible assumption | (fail_if_no_progress beta_reduce)
    | with_reducible refine programPage_changes _ _ _ _ _ _ _ _ (hm.trans (by decide)) ?_
    | with_reducible refine moveFrontier_changes _ _ (hm.trans (by decide)) ?_
    | with_reducible refine modEpoch_changes _ _ (hm.trans (by decide)) ?_
    | with_reducible refine noteSlots_changes _ _ (hm.trans (by decide)) ?_
    | with_reducible refine countCopies_changes _ (hm.trans (by decide)) ?_
    | with_reducible refine failKnot_changes _ _ (hm.trans (by decide)) ?_ | with_reducible apply Changes.ite
    | (extract_lets +onlyGivenNames x; refine Changes.cut (a := Changes m' u₀ x) ?_ (fun hx => ?_) <;> [unfold x; clear_value x])
    | extract_lets +onlyGivenNames x | split

theorem pageOfFailed_changes (e : Epoch) (p : Nat) (q : Nat) (r : NandResult) (copyB : Bool) {m' : Nat} (hm : Covers
    m' 0xc2000008) {u₀ u₁ : State} (hu : Changes m' u₀ u₁) : Changes m' u₀ (pageOfFailed e p q r copyB u₁) := by
  unfold pageOfFailed
  repeat' first
    | with_reducible assumption | (fail_if_no_progress beta_reduce)
    | with_reducible refine failPage_changes _ (hm.trans (by decide)) ?_
    | with_reducible refine abandonBlock_changes _ (hm.trans (by decide)) ?_
    | with_reducible refine programPage_changes _ _ _ _ _ _ _ _ (hm.trans (by decide)) ?_
    | (extract_lets +onlyGivenNames x; refine Changes.cut (a := Changes m' u₀ x) ?_ (fun hx => ?_) <;> [unfold x; clear_value x])
    | extract_lets +onlyGivenNames x | split

theorem failPages_changes (e : Epoch) (ptr : Nat) (other : Nat) (result : NandResult) (resultB : NandResult) {m' :
    Nat} (hm : Covers m' 0xc2000008) {u₀ u₁ : State} (hu : Changes m' u₀ u₁) : Changes m' u₀ (failPages e ptr other
    result resultB u₁) := by
  unfold failPages
  repeat' first
    | with_reducible assumption | (fail_if_no_progress beta_reduce)
    | with_reducible refine pageOfFailed_changes _ _ _ _ _ (hm.trans (by decide)) ?_
    | with_reducible refine abandonBlock_changes _ (hm.trans (by decide)) ?_ | with_reducible apply Changes.ite
    | (extract_lets +onlyGivenNames x; refine Changes.cut (a := Changes m' u₀ x) ?_ (fun hx => ?_) <;> [unfold x; clear_value x])
    | extract_lets +onlyGivenNames x | split

theorem pageFailed_changes (e : Epoch) (ptr : Nat) (blockB : Nat) (result : NandResult) (resultB : NandResult) {m' :
    Nat} (hm : Covers m' 0xce0c0c7b) {u₀ u₁ : State} (hu : Changes m' u₀ u₁) : Changes m' u₀ (pageFailed e ptr
    blockB result resultB u₁) := by
  unfold pageFailed
  repeat' first
    | with_reducible assumption | (fail_if_no_progress beta_reduce)
    | with_reducible refine failPages_changes _ _ _ _ _ (hm.trans (by decide)) ?_
    | with_reducible refine modEpoch_changes _ _ (hm.trans (by decide)) ?_
    | with_reducible refine retireBlocks_changes (hm.trans (by decide)) ?_
    | with_reducible refine addReprogram_changes _ (hm.trans (by decide)) ?_ | with_reducible apply Changes.ite
    | (fail_if_no_progress with_reducible refine Changes.put_vlt (hm.bit (by decide)) ?_)
    | (extract_lets +onlyGivenNames x; refine Changes.cut (a := Changes m' u₀ x) ?_ (fun hx => ?_) <;> [unfold x; clear_value x])
    | extract_lets +onlyGivenNames x | split

theorem noteTarget_changes (ptr : Nat) {m' : Nat} (hm : Covers m' 0x10) {u₀ u₁ : State} (hu : Changes m' u₀ u₁) :
    Changes m' u₀ (noteTarget ptr u₁) := by
  unfold noteTarget
  repeat' first
    | with_reducible assumption | (fail_if_no_progress beta_reduce)
    | (fail_if_no_progress with_reducible refine Changes.put_stg (hm.bit (by decide)) ?_)
    | split

theorem begunDone_changes (e : Epoch) (ptr : Nat) (blockB : Nat) (result : NandResult) (resultB : NandResult) {m' :
    Nat} (hm : Covers m' 0xce0c0c7b) {u₀ u₁ : State} (hu : Changes m' u₀ u₁) : Changes m' u₀ (begunDone e ptr blockB
    result resultB u₁) := by
  unfold begunDone
  repeat' first
    | with_reducible assumption | (fail_if_no_progress beta_reduce)
    | with_reducible refine noteTarget_changes _ (hm.trans (by decide)) ?_
    | with_reducible refine programPage_changes _ _ _ _ _ _ _ _ (hm.trans (by decide)) ?_
    | with_reducible refine countCopies_changes _ (hm.trans (by decide)) ?_
    | with_reducible refine moveFrontier_changes _ _ (hm.trans (by decide)) ?_
    | with_reducible refine retireBlocks_changes (hm.trans (by decide)) ?_
    | with_reducible refine failPages_changes _ _ _ _ _ (hm.trans (by decide)) ?_ | with_reducible apply Changes.ite
    | (fail_if_no_progress with_reducible refine Changes.put_stg (hm.bit (by decide)) ?_)
    | (extract_lets +onlyGivenNames x; refine Changes.cut (a := Changes m' u₀ x) ?_ (fun hx => ?_) <;> [unfold x; clear_value x])
    | extract_lets +onlyGivenNames x | split

theorem pageDone_changes (e : Epoch) (ptr : Nat) (blockB : Nat) (result : NandResult) (resultB : NandResult) {m' :
    Nat} (hm : Covers m' 0xce0c0c7b) {u₀ u₁ : State} (hu : Changes m' u₀ u₁) : Changes m' u₀ (pageDone e ptr blockB
    result resultB u₁) := by
  unfold pageDone
  repeat' first
    | with_reducible assumption | (fail_if_no_progress beta_reduce)
    | with_reducible refine noteTarget_changes _ (hm.trans (by decide)) ?_
    | with_reducible refine pagePassed_changes _ _ _ (hm.trans (by decide)) ?_
    | with_reducible refine pageFailed_changes _ _ _ _ _ (hm.trans (by decide)) ?_ | with_reducible apply Changes.ite
    | (extract_lets +onlyGivenNames x; refine Changes.cut (a := Changes m' u₀ x) ?_ (fun hx => ?_) <;> [unfold x; clear_value x])
    | extract_lets +onlyGivenNames x | split

theorem execPageProgramDone_changes (ptr : Nat) (blockB : Nat) (result : NandResult) (resultB : NandResult) (voided
    : Option Nat) {m' : Nat} (hm : Covers m' 0xce0c0c7b) {u₀ u₁ : State} (hu : Changes m' u₀ u₁) : ChangesOut m' u₀
    (execPageProgramDone ptr blockB result resultB voided u₁) := by
  unfold execPageProgramDone
  repeat' first
    | with_reducible assumption | (fail_if_no_progress beta_reduce) | with_reducible apply ChangesOut.next
    | with_reducible apply ChangesOut.ite
    | with_reducible refine begunDone_changes _ _ _ _ _ (hm.trans (by decide)) ?_
    | with_reducible refine noteWait_changes _ _ _ (hm.trans (by decide)) ?_
    | with_reducible refine pageDone_changes _ _ _ _ _ (hm.trans (by decide)) ?_ | with_reducible apply Changes.ite
    | (extract_lets +onlyGivenNames x; refine Changes.cut (a := Changes m' u₀ x) ?_ (fun hx => ?_) <;> [unfold x; clear_value x])
    | extract_lets +onlyGivenNames x | split

theorem execGcStart_changes (target block : Nat) {m' : Nat} (hm : Covers m' 0x8) {u₀ u₁ : State} (hu : Changes m' u₀
    u₁) : ChangesOut m' u₀ (execGcStart target block u₁) := by
  unfold execGcStart
  repeat' first
    | with_reducible assumption | (fail_if_no_progress beta_reduce) | with_reducible apply ChangesOut.next
    | with_reducible apply ChangesOut.ite | with_reducible apply Changes.ite
    | (fail_if_no_progress (with_reducible refine Changes.put_nand (hm.bit (by decide)) ?_ ?_) <;> [(first | exact id | exact fun (h0 : NandSound _) => ⟨h0.channels, h0.targets, h0.blocks⟩ | exact fun (h0 : NandSound _) => ⟨keysUp_tmod _ _ _ h0.channels, h0.targets, h0.blocks⟩ | exact fun (h0 : NandSound _) => ⟨h0.channels, keysUp_tmod _ _ _ h0.targets, h0.blocks⟩ | exact fun (h0 : NandSound _) => ⟨h0.channels, h0.targets, keysUp_tmod _ _ _ h0.blocks⟩ | exact fun (h0 : NandSound _) => ⟨h0.channels, h0.targets, keysUp_tins _ _ h0.blocks⟩ | exact fun (h0 : NandSound _) => ⟨h0.channels, h0.targets, keysUp_map _ h0.blocks (fun e => by try beta_reduce; (try split) <;> rfl)⟩ | exact fun (h0 : NandSound _) => ⟨h0.channels, keysUp_filter _ h0.targets, h0.blocks⟩); skip])
    | (extract_lets +onlyGivenNames x; refine Changes.cut (a := Changes m' u₀ x) ?_ (fun hx => ?_) <;> [unfold x; clear_value x])
    | extract_lets +onlyGivenNames x | split

theorem collectCopy_changes (e : Epoch) (g : Nat) (slot : Nat) (found : Option NandUnit) (reads : CopyReads) {m' :
    Nat} (hm : Covers m' 0xce0c007b) {u₀ u₁ : State} (hu : Changes m' u₀ u₁) : Changes m' u₀ (collectCopy e g slot
    found reads u₁) := by
  unfold collectCopy
  repeat' first
    | with_reducible assumption | (fail_if_no_progress beta_reduce)
    | with_reducible refine schedule_changes _ _ (hm.trans (by decide)) ?_
    | with_reducible refine granuleRead_changes _ _ (hm.trans (by decide)) ?_
    | (extract_lets +onlyGivenNames x; refine Changes.cut (a := Changes m' u₀ x) ?_ (fun hx => ?_) <;> [unfold x; clear_value x])
    | extract_lets +onlyGivenNames x | split

theorem execGarbageCollectionRead_changes (slot : Nat) (a : CopyRead) (b : CopyRead) (bursts : List (Nat × Burst))
    {m' : Nat} (hm : Covers m' 0xce0c007b) {u₀ u₁ : State} (hu : Changes m' u₀ u₁) : ChangesOut m' u₀
    (execGarbageCollectionRead slot a b bursts u₁) := by
  unfold execGarbageCollectionRead
  repeat' first
    | with_reducible assumption | (fail_if_no_progress beta_reduce) | with_reducible apply ChangesOut.next
    | with_reducible apply ChangesOut.ite | with_reducible refine countCopyRead_changes _ _ (hm.trans (by decide)) ?_
    | with_reducible refine openNew_changes _ (hm.trans (by decide)) ?_
    | with_reducible refine closeEpoch_changes _ (hm.trans (by decide)) ?_
    | with_reducible refine collectCopy_changes _ _ _ _ _ (hm.trans (by decide)) ?_ | with_reducible apply Changes.ite
    | (extract_lets +onlyGivenNames x; refine Changes.cut (a := Changes m' u₀ x) ?_ (fun hx => ?_) <;> [unfold x; clear_value x])
    | extract_lets +onlyGivenNames x | split

theorem dropErased_changes {m' : Nat} (hm : Covers m' 0x8) {u₀ u₁ : State} (hu : Changes m' u₀ u₁) : Changes m' u₀
    (dropErased u₁) := by
  unfold dropErased
  repeat' first
    | with_reducible assumption | (fail_if_no_progress beta_reduce)
    | (fail_if_no_progress (with_reducible refine Changes.put_nand (hm.bit (by decide)) ?_ ?_) <;> [(first | exact id | (intro h0; constructor <;> first | exact h0.channels | exact h0.targets | exact h0.blocks | exact keysUp_tmod _ _ _ h0.channels | exact keysUp_tmod _ _ _ h0.targets | exact keysUp_tmod _ _ _ h0.blocks | exact keysUp_tins _ _ h0.blocks | exact keysUp_filter _ h0.targets | exact keysUp_map _ h0.channels (fun _ => rfl) | exact keysUp_map _ h0.targets (fun _ => rfl) | exact keysUp_map _ h0.blocks (fun e => by try beta_reduce; (try split) <;> rfl))); skip])
    | split

theorem execBlockEraseDone_changes (target : Nat) (block : Nat) (result : NandResult) {m' : Nat} (hm : Covers m'
    0xce0c0c7b) {u₀ u₁ : State} (hu : Changes m' u₀ u₁) : ChangesOut m' u₀ (execBlockEraseDone target block result
    u₁) := by
  unfold execBlockEraseDone
  repeat' first
    | with_reducible assumption | (fail_if_no_progress beta_reduce) | with_reducible apply ChangesOut.next
    | with_reducible apply ChangesOut.ite | with_reducible refine onfiPslc_changes _ _ (hm.trans (by decide)) ?_
    | with_reducible refine dropErased_changes (hm.trans (by decide)) ?_
    | with_reducible refine modBlock_changes _ _ (hm.trans (by decide)) ?_
    | with_reducible refine rootIfDue_changes _ (hm.trans (by decide)) ?_
    | with_reducible refine modTarget_changes _ _ (hm.trans (by decide)) ?_
    | with_reducible refine spareCheck_changes (hm.trans (by decide)) ?_
    | with_reducible refine enterBad_changes _ _ (hm.trans (by decide)) ?_
    | with_reducible refine retireBlocks_changes (hm.trans (by decide)) ?_ | with_reducible apply Changes.ite
    | (fail_if_no_progress (with_reducible refine Changes.put_nand (hm.bit (by decide)) ?_ ?_) <;> [(first | exact id | (intro h0; constructor <;> first | exact h0.channels | exact h0.targets | exact h0.blocks | exact keysUp_tmod _ _ _ h0.channels | exact keysUp_tmod _ _ _ h0.targets | exact keysUp_tmod _ _ _ h0.blocks | exact keysUp_tins _ _ h0.blocks | exact keysUp_filter _ h0.targets | exact keysUp_map _ h0.channels (fun _ => rfl) | exact keysUp_map _ h0.targets (fun _ => rfl) | exact keysUp_map _ h0.blocks (fun e => by try beta_reduce; (try split) <;> rfl))); skip])
    | (extract_lets +onlyGivenNames x; refine Changes.cut (a := Changes m' u₀ x) ?_ (fun hx => ?_) <;> [unfold x; clear_value x])
    | extract_lets +onlyGivenNames x | split

theorem execSpareCapacityCheck_changes {m' : Nat} (hm : Covers m' 0xce0c0c7b) {u₀ u₁ : State} (hu : Changes m' u₀
    u₁) : ChangesOut m' u₀ (execSpareCapacityCheck u₁) := by
  unfold execSpareCapacityCheck
  repeat' first
    | with_reducible assumption | with_reducible apply ChangesOut.next
    | with_reducible refine spareCheck_changes (hm.trans (by decide)) ?_
    | with_reducible refine retireBlocks_changes (hm.trans (by decide)) ?_

/-! ### Zones -/

theorem noteTemp_changes {m' : Nat} (hm : Covers m' 0x10) {u₀ u₁ : State} (hu : Changes m' u₀ u₁) : Changes m' u₀
    (noteTemp u₁) := by
  unfold noteTemp
  repeat' first
    | with_reducible assumption | with_reducible apply Changes.ite
    | (fail_if_no_progress with_reducible refine Changes.put_stg (hm.bit (by decide)) ?_)
    | (extract_lets +onlyGivenNames x; refine Changes.cut (a := Changes m' u₀ x) ?_ (fun hx => ?_) <;> [unfold x; clear_value x])
    | extract_lets +onlyGivenNames x | split

theorem recompute_changes {m' : Nat} (hm : Covers m' 0xce0c0c7b) {u₀ u₁ : State} (hu : Changes m' u₀ u₁) : Changes
    m' u₀ (recompute u₁) := by
  unfold recompute
  repeat' first
    | with_reducible assumption | with_reducible refine noteTemp_changes (hm.trans (by decide)) ?_
    | with_reducible refine evaluate_changes (hm.trans (by decide)) ?_
    | (fail_if_no_progress with_reducible refine Changes.put_stg (hm.bit (by decide)) ?_)
    | (extract_lets +onlyGivenNames x; refine Changes.cut (a := Changes m' u₀ x) ?_ (fun hx => ?_) <;> [unfold x; clear_value x])
    | extract_lets +onlyGivenNames x

theorem tempFollows_changes {m' : Nat} (hm : Covers m' 0xce0c0c7b) {u₀ u₁ : State} (hu : Changes m' u₀ u₁) : Changes
    m' u₀ (tempFollows u₁) := by
  unfold tempFollows
  repeat' first
    | with_reducible assumption | with_reducible refine recompute_changes (hm.trans (by decide)) ?_
    | with_reducible apply Changes.ite | split

/-! ### EflBase -/

theorem makeWrite_changes (w : StewardWrite) {m' : Nat} (hm : Covers m' 0x400000) {u₀ u₁ : State} (hu : Changes m'
    u₀ u₁) : Changes m' u₀ (makeWrite w u₁) := by
  unfold makeWrite
  repeat' first
    | with_reducible assumption | with_reducible apply Changes.ite
    | (fail_if_no_progress (with_reducible refine Changes.put_efl (hm.bit (by decide)) ?_ ?_) <;> [(first | exact id | exact fun h0 => keysUp_tins _ _ h0 | exact fun h0 => keysUp_filter _ h0); skip])
    | split

theorem dropWaiting_changes (w : StewardWrite) {m' : Nat} (hm : Covers m' 0x400000) {u₀ u₁ : State} (hu : Changes m'
    u₀ u₁) : Changes m' u₀ (dropWaiting w u₁) := by
  unfold dropWaiting
  repeat' first
    | with_reducible assumption | (fail_if_no_progress beta_reduce)
    | (fail_if_no_progress (with_reducible refine Changes.put_efl (hm.bit (by decide)) ?_ ?_) <;> [(first | exact id | exact fun h0 => keysUp_tins _ _ h0 | exact fun h0 => keysUp_filter _ h0); skip])
    | split

theorem stewardWrite_changes (w : StewardWrite) {m' : Nat} (hm : Covers m' 0x400000) {u₀ u₁ : State} (hu : Changes
    m' u₀ u₁) : Changes m' u₀ (stewardWrite w u₁) := by
  unfold stewardWrite
  repeat' first
    | with_reducible assumption | (fail_if_no_progress beta_reduce)
    | with_reducible refine dropWaiting_changes _ (hm.trans (by decide)) ?_
    | with_reducible refine makeWrite_changes _ (hm.trans (by decide)) ?_ | with_reducible apply Changes.ite
    | (fail_if_no_progress (with_reducible refine Changes.put_efl (hm.bit (by decide)) ?_ ?_) <;> [(first | exact id | exact fun h0 => keysUp_tins _ _ h0 | exact fun h0 => keysUp_filter _ h0); skip])
    | (extract_lets +onlyGivenNames x; refine Changes.cut (a := Changes m' u₀ x) ?_ (fun hx => ?_) <;> [unfold x; clear_value x])
    | extract_lets +onlyGivenNames x | split

theorem writeGauge_changes {m' : Nat} (hm : Covers m' 0x400000) {u₀ u₁ : State} (hu : Changes m' u₀ u₁) : Changes m'
    u₀ (writeGauge u₁) := by
  unfold writeGauge
  repeat' first
    | with_reducible assumption | with_reducible refine stewardWrite_changes _ (hm.trans (by decide)) ?_

theorem makeWaiting_changes {m' : Nat} (hm : Covers m' 0x400000) {u₀ u₁ : State} (hu : Changes m' u₀ u₁) : Changes
    m' u₀ (makeWaiting u₁) := by
  unfold makeWaiting
  repeat' first
    | with_reducible assumption | (fail_if_no_progress beta_reduce)
    | with_reducible refine makeWrite_changes _ (hm.trans (by decide)) ?_ | with_reducible apply Changes.ite
    | (with_reducible refine Changes.foldl ?_ (fun v y hv => ?_))
    | (fail_if_no_progress (with_reducible refine Changes.put_efl (hm.bit (by decide)) ?_ ?_) <;> [(first | exact id | exact fun h0 => keysUp_tins _ _ h0 | exact fun h0 => keysUp_filter _ h0); skip])
    | (extract_lets +onlyGivenNames x; refine Changes.cut (a := Changes m' u₀ x) ?_ (fun hx => ?_) <;> [unfold x; clear_value x])
    | extract_lets +onlyGivenNames x | split

/-! ### RailBase -/

theorem sendCommand_changes (w : Nat) {m' : Nat} (hm : Covers m' 0x40000100) {u₀ u₁ : State} (hu : Changes m' u₀ u₁)
    : Changes m' u₀ (sendCommand w u₁) := by
  unfold sendCommand
  repeat' first
    | with_reducible assumption | with_reducible refine emit_changes _ (hm.trans (by decide)) ?_
    | (fail_if_no_progress with_reducible refine Changes.put_rail (hm.bit (by decide)) ?_)
    | (extract_lets +onlyGivenNames x; refine Changes.cut (a := Changes m' u₀ x) ?_ (fun hx => ?_) <;> [unfold x; clear_value x])
    | extract_lets +onlyGivenNames x

theorem sendSet_changes (code : Nat) {m' : Nat} (hm : Covers m' 0x40000100) {u₀ u₁ : State} (hu : Changes m' u₀ u₁)
    : Changes m' u₀ (sendSet code u₁) := by
  unfold sendSet
  repeat' first
    | with_reducible assumption | with_reducible refine sendCommand_changes _ (hm.trans (by decide)) ?_
    | (fail_if_no_progress with_reducible refine Changes.put_rail (hm.bit (by decide)) ?_)
    | (extract_lets +onlyGivenNames x; refine Changes.cut (a := Changes m' u₀ x) ?_ (fun hx => ?_) <;> [unfold x; clear_value x])
    | extract_lets +onlyGivenNames x

theorem sendQuery_changes {m' : Nat} (hm : Covers m' 0x40000100) {u₀ u₁ : State} (hu : Changes m' u₀ u₁) : Changes
    m' u₀ (sendQuery u₁) := by
  unfold sendQuery
  repeat' first | with_reducible assumption | with_reducible refine sendCommand_changes _ (hm.trans (by decide)) ?_

theorem startLoop_changes {m' : Nat} (hm : Covers m' 0x40000100) {u₀ u₁ : State} (hu : Changes m' u₀ u₁) : Changes
    m' u₀ (startLoop u₁) := by
  unfold startLoop
  repeat' first
    | with_reducible assumption | (fail_if_no_progress beta_reduce)
    | with_reducible refine sendSet_changes _ (hm.trans (by decide)) ?_ | with_reducible apply Changes.ite
    | (fail_if_no_progress with_reducible refine Changes.put_rail (hm.bit (by decide)) ?_)
    | (extract_lets +onlyGivenNames x; refine Changes.cut (a := Changes m' u₀ x) ?_ (fun hx => ?_) <;> [unfold x; clear_value x])
    | extract_lets +onlyGivenNames x | split

theorem demandChanged_changes {m' : Nat} (hm : Covers m' 0x40000100) {u₀ u₁ : State} (hu : Changes m' u₀ u₁) :
    Changes m' u₀ (demandChanged u₁) := by
  unfold demandChanged
  repeat' first
    | with_reducible assumption | with_reducible refine startLoop_changes (hm.trans (by decide)) ?_
    | with_reducible apply Changes.ite
    | split

theorem normalSetpoint_changes {m' : Nat} (hm : Covers m' 0x40000100) {u₀ u₁ : State} (hu : Changes m' u₀ u₁) :
    Changes m' u₀ (normalSetpoint u₁) := by
  unfold normalSetpoint
  repeat' first
    | with_reducible assumption | with_reducible refine sendSet_changes _ (hm.trans (by decide)) ?_
    | with_reducible apply Changes.ite
    | (fail_if_no_progress with_reducible refine Changes.put_rail (hm.bit (by decide)) ?_)
    | (extract_lets +onlyGivenNames x; refine Changes.cut (a := Changes m' u₀ x) ?_ (fun hx => ?_) <;> [unfold x; clear_value x])
    | extract_lets +onlyGivenNames x | split

/-! ### PowerBase -/

theorem modDom_changes (d : Nat) (f : Dom → Dom) {m' : Nat} (hm : Covers m' 0x2000) {u₀ u₁ : State} (hu : Changes m'
    u₀ u₁) : Changes m' u₀ (modDom d f u₁) := by
  unfold modDom
  repeat' first
    | with_reducible assumption
    | (fail_if_no_progress (with_reducible refine Changes.put_pwr (hm.bit (by decide)) ?_ ?_) <;> [(first | exact id | exact fun _ => rfl | exact fun h0 => by simpa [modAt] using h0); skip])
    | extract_lets +onlyGivenNames x

theorem setHoldup_changes (m : HuMode) {m' : Nat} (hm : Covers m' 0x2000) {u₀ u₁ : State} (hu : Changes m' u₀ u₁) :
    Changes m' u₀ (setHoldup m u₁) := by
  unfold setHoldup
  repeat' first
    | with_reducible assumption
    | (fail_if_no_progress (with_reducible refine Changes.put_pwr (hm.bit (by decide)) ?_ ?_) <;> [(first | exact id | exact fun _ => rfl | exact fun h0 => by simpa [modAt] using h0); skip])

theorem setPfail_changes (asserted : Bool) {m' : Nat} (hm : Covers m' 0x2000) {u₀ u₁ : State} (hu : Changes m' u₀
    u₁) : Changes m' u₀ (setPfail asserted u₁) := by
  unfold setPfail
  repeat' first
    | with_reducible assumption
    | (fail_if_no_progress (with_reducible refine Changes.put_pwr (hm.bit (by decide)) ?_ ?_) <;> [(first | exact id | exact fun _ => rfl | exact fun h0 => by simpa [modAt] using h0); skip])
    | extract_lets +onlyGivenNames x

theorem engineLost_changes {m' : Nat} (hm : Covers m' 0x4100011) {u₀ u₁ : State} (hu : Changes m' u₀ u₁) : Changes
    m' u₀ (engineLost u₁) := by
  unfold engineLost
  repeat' first
    | with_reducible assumption
    | (fail_if_no_progress (with_reducible refine Changes.put_cache (hm.bit (by decide)) ?_ ?_) <;> [(first | exact id | exact fun (h0 : CacheSound _) => ⟨h0.channels, h0.poison, h0.map, h0.caps⟩ | exact fun (h0 : CacheSound _) => ⟨h0.channels, rfl, h0.map, h0.caps⟩ | exact fun (h0 : CacheSound _) => ⟨h0.channels, h0.poison, rfl, h0.caps⟩ | exact fun (h0 : CacheSound _) => ⟨by simpa [modAt] using h0.channels, h0.poison, h0.map, h0.caps⟩ | exact fun (h0 : CacheSound _) => ⟨h0.channels, tableOk_tput _ _ _ _ none h0.poison (by simp), h0.map, h0.caps⟩ | exact fun (h0 : CacheSound _) => ⟨h0.channels, h0.poison, keysUp_tput _ _ _ h0.map, h0.caps⟩ | exact fun (h0 : CacheSound _) => ⟨h0.channels, h0.poison, h0.map, keysUp_tput _ _ _ h0.caps⟩ | exact fun (h0 : CacheSound _) => ⟨rfl, h0.poison, h0.map, h0.caps⟩ | exact fun _ => CacheSound.fresh rfl rfl rfl rfl); skip])
    | (fail_if_no_progress with_reducible refine Changes.put_stg (hm.bit (by decide)) ?_)
    | (fail_if_no_progress with_reducible refine Changes.put_warm (hm.bit (by decide)) ?_)
    | (fail_if_no_progress (with_reducible refine Changes.put_hdlE (hm.bit (by decide)) ?_ ?_) <;> [(first | exact id | exact fun (h0 : LinkSound _) => ⟨h0.unacked, h0.txSeq, h0.rxSeq⟩ | exact fun _ => LinkSound.fresh rfl rfl rfl); skip])
    | (fail_if_no_progress with_reducible apply Changes.parts <;> first | exact hm.skip (by decide) | exact fun (h0 : LinkSound _) => ⟨h0.unacked, h0.txSeq, h0.rxSeq⟩ | exact fun _ => LinkSound.fresh rfl rfl rfl | exact fun (h0 : CacheSound _) => ⟨h0.channels, h0.poison, h0.map, h0.caps⟩ | exact fun (h0 : CacheSound _) => ⟨h0.channels, rfl, h0.map, h0.caps⟩ | exact fun (h0 : CacheSound _) => ⟨h0.channels, h0.poison, rfl, h0.caps⟩ | exact fun (h0 : CacheSound _) => ⟨h0.channels, tableOk_tput _ _ _ _ none h0.poison (by simp), h0.map, h0.caps⟩ | exact fun (h0 : CacheSound _) => ⟨h0.channels, h0.poison, keysUp_tput _ _ _ h0.map, h0.caps⟩ | exact fun (h0 : CacheSound _) => ⟨h0.channels, h0.poison, h0.map, keysUp_tput _ _ _ h0.caps⟩ | exact fun (h0 : CacheSound _) => ⟨rfl, h0.poison, h0.map, h0.caps⟩ | exact fun _ => CacheSound.fresh rfl rfl rfl rfl | exact fun _ => rfl | exact id | exact fun (h0 : CacheSound _) => ⟨by simpa [modAt] using h0.channels, h0.poison, h0.map, h0.caps⟩ | skip)
    | extract_lets +onlyGivenNames x

theorem ddrLost_changes {m' : Nat} (hm : Covers m' 0x3) {u₀ u₁ : State}
    (hu : Changes m' u₀ u₁) : Changes m' u₀ (ddrLost u₁) :=
  emptyPoison_changes (hm.trans (by decide)) (zeroMap_changes (hm.trans (by decide)) (hu.put_dram (hm.bit (by decide)) (fun _ => rfl)))

theorem railLinkBack_changes {m' : Nat} (hm : Covers m' 0x40000) {u₀ u₁ : State} (hu : Changes m' u₀ u₁) : Changes
    m' u₀ (railLinkBack u₁) := by
  unfold railLinkBack
  refine hu.put_flt (hm.bit (by decide)) (fun h => ?_)
  generalize (fun x : Source => _) = f
  exact keysUp_tmod _ _ f h

theorem switchOn_changes (d : Nat) {m' : Nat} (hm : Covers m' 0x42300) {u₀ u₁ : State} (hu : Changes m' u₀ u₁) :
    Changes m' u₀ (switchOn d u₁) := by
  unfold switchOn
  repeat' first
    | with_reducible assumption | (fail_if_no_progress beta_reduce)
    | with_reducible refine modDom_changes _ _ (hm.trans (by decide)) ?_
    | with_reducible refine railLinkBack_changes (hm.trans (by decide)) ?_ | with_reducible apply Changes.ite
    | (fail_if_no_progress with_reducible refine Changes.put_rail (hm.bit (by decide)) ?_)
    | (fail_if_no_progress with_reducible refine Changes.put_vcore (hm.bit (by decide)) ?_)
    | (fail_if_no_progress with_reducible apply Changes.parts <;> first | exact hm.skip (by decide) | exact fun _ => rfl | exact id | skip)
    | (extract_lets +onlyGivenNames x; refine Changes.cut (a := Changes m' u₀ x) ?_ (fun hx => ?_) <;> [unfold x; clear_value x])
    | extract_lets +onlyGivenNames x | split

theorem switchOff_changes (d : Nat) {m' : Nat} (hm : Covers m' 0x4342213) {u₀ u₁ : State} (hu : Changes m' u₀ u₁) :
    Changes m' u₀ (switchOff d u₁) := by
  unfold switchOff
  repeat' first
    | with_reducible assumption | (fail_if_no_progress beta_reduce)
    | with_reducible refine modDom_changes _ _ (hm.trans (by decide)) ?_
    | with_reducible refine engineLost_changes (hm.trans (by decide)) ?_
    | with_reducible refine ddrLost_changes (hm.trans (by decide)) ?_ | with_reducible apply Changes.ite
    | (fail_if_no_progress with_reducible refine Changes.put_vcore (hm.bit (by decide)) ?_)
    | (fail_if_no_progress (with_reducible refine Changes.put_flt (hm.bit (by decide)) ?_ ?_) <;> [(first | exact id | exact fun h0 => keysUp_tmod _ _ _ h0); skip])
    | (fail_if_no_progress (with_reducible refine Changes.put_drf (hm.bit (by decide)) ?_ ?_) <;> [(first | exact id | exact fun _ => keysUp_nil); skip])
    | (fail_if_no_progress with_reducible apply Changes.parts <;> first | exact hm.skip (by decide) | exact fun _ => rfl | exact id | (first | exact id | exact fun h0 => keysUp_tmod _ _ _ h0) | (first | exact id | exact fun _ => keysUp_nil) | skip)
    | (extract_lets +onlyGivenNames x; refine Changes.cut (a := Changes m' u₀ x) ?_ (fun hx => ?_) <;> [unfold x; clear_value x])
    | extract_lets +onlyGivenNames x | split

theorem shedDomain_changes (d : Nat) {m' : Nat} (hm : Covers m' 0x4342213) {u₀ u₁ : State} (hu : Changes m' u₀ u₁) :
    Changes m' u₀ (shedDomain d u₁) := by
  unfold shedDomain
  repeat' first
    | with_reducible assumption | (fail_if_no_progress beta_reduce)
    | with_reducible refine modDom_changes _ _ (hm.trans (by decide)) ?_
    | with_reducible refine switchOff_changes _ (hm.trans (by decide)) ?_ | with_reducible apply Changes.ite
    | extract_lets +onlyGivenNames x | split

theorem finishSeq_changes {m' : Nat} (hm : Covers m' 0x2000) {u₀ u₁ : State} (hu : Changes m' u₀ u₁) : Changes m' u₀
    (finishSeq u₁) := by
  unfold finishSeq
  repeat' first
    | with_reducible assumption | with_reducible refine setHoldup_changes _ (hm.trans (by decide)) ?_
    | with_reducible apply Changes.ite
    | (fail_if_no_progress (with_reducible refine Changes.put_pwr (hm.bit (by decide)) ?_ ?_) <;> [(first | exact id | exact fun _ => rfl | exact fun h0 => by simpa [modAt] using h0); skip])
    | (extract_lets +onlyGivenNames x; refine Changes.cut (a := Changes m' u₀ x) ?_ (fun hx => ?_) <;> [unfold x; clear_value x])
    | extract_lets +onlyGivenNames x | split

theorem nextHost_changes {m' : Nat} (hm : Covers m' 0x42300) {u₀ u₁ : State} (hu : Changes m' u₀ u₁) : Changes m' u₀
    (nextHost u₁) := by
  unfold nextHost
  repeat' first
    | with_reducible assumption | (fail_if_no_progress beta_reduce)
    | with_reducible refine finishSeq_changes (hm.trans (by decide)) ?_
    | with_reducible refine switchOn_changes _ (hm.trans (by decide)) ?_ | with_reducible apply Changes.ite
    | (with_reducible refine Changes.foldl ?_ (fun v y hv => ?_)) | split

theorem startGroup_changes (g : Nat) {m' : Nat} (hm : Covers m' 0x42300) {u₀ u₁ : State} (hu : Changes m' u₀ u₁) :
    Changes m' u₀ (startGroup g u₁) := by
  unfold startGroup
  repeat' first
    | with_reducible assumption | (fail_if_no_progress beta_reduce)
    | with_reducible refine switchOn_changes _ (hm.trans (by decide)) ?_
    | with_reducible refine nextHost_changes (hm.trans (by decide)) ?_
    | with_reducible refine setPfail_changes _ (hm.trans (by decide)) ?_ | with_reducible apply Changes.ite
    | (with_reducible refine Changes.foldl ?_ (fun v y hv => ?_))
    | (fail_if_no_progress (with_reducible refine Changes.put_pwr (hm.bit (by decide)) ?_ ?_) <;> [(first | exact id | exact fun _ => rfl | exact fun h0 => by simpa [modAt] using h0); skip])
    | (extract_lets +onlyGivenNames x; refine Changes.cut (a := Changes m' u₀ x) ?_ (fun hx => ?_) <;> [unfold x; clear_value x])
    | extract_lets +onlyGivenNames x | split

theorem beginSeq_changes (goal : SeqGoal) {m' : Nat} (hm : Covers m' 0x42300) {u₀ u₁ : State} (hu : Changes m' u₀ u₁)
    : Changes m' u₀ (beginSeq goal u₁) := by
  unfold beginSeq
  repeat' first
    | with_reducible assumption | with_reducible refine startGroup_changes _ (hm.trans (by decide)) ?_
    | (fail_if_no_progress (with_reducible refine Changes.put_pwr (hm.bit (by decide)) ?_ ?_) <;> [(first | exact id | exact fun _ => rfl | exact fun h0 => by simpa [modAt] using h0); skip])
    | (extract_lets +onlyGivenNames x; refine Changes.cut (a := Changes m' u₀ x) ?_ (fun hx => ?_) <;> [unfold x; clear_value x])
    | extract_lets +onlyGivenNames x | split

theorem offGroupList_changes (n : List Nat) {m' : Nat} (hm : Covers m' 0x4342213) {u₀ u₁ : State} (hu : Changes m'
    u₀ u₁) : Changes m' u₀ (offGroupList n u₁) := by
  induction n generalizing u₁ with
  | nil =>
    unfold offGroupList
    repeat' first
      | with_reducible assumption | (fail_if_no_progress beta_reduce)
      | with_reducible refine switchOff_changes _ (hm.trans (by decide)) ?_ | with_reducible apply Changes.ite
      | (with_reducible refine Changes.foldl ?_ (fun v y hv => ?_))
      | (fail_if_no_progress (with_reducible refine Changes.put_pwr (hm.bit (by decide)) ?_ ?_) <;> [(first | exact id | exact fun _ => rfl | exact fun h0 => by simpa [modAt] using h0); skip])
      | (extract_lets +onlyGivenNames x; refine Changes.cut (a := Changes m' u₀ x) ?_ (fun hx => ?_) <;> [unfold x; clear_value x])
      | extract_lets +onlyGivenNames x | split
  | cons k n ih =>
    unfold offGroupList
    repeat' first
      | with_reducible assumption | with_reducible apply ih | (fail_if_no_progress beta_reduce)
      | with_reducible refine switchOff_changes _ (hm.trans (by decide)) ?_ | with_reducible apply Changes.ite
      | (with_reducible refine Changes.foldl ?_ (fun v y hv => ?_))
      | (fail_if_no_progress (with_reducible refine Changes.put_pwr (hm.bit (by decide)) ?_ ?_) <;> [(first | exact id | exact fun _ => rfl | exact fun h0 => by simpa [modAt] using h0); skip])
      | (extract_lets +onlyGivenNames x; refine Changes.cut (a := Changes m' u₀ x) ?_ (fun hx => ?_) <;> [unfold x; clear_value x])
      | extract_lets +onlyGivenNames x | split

theorem beginOff_changes (l : List Nat) {m' : Nat} (hm : Covers m' 0x4342213) {u₀ u₁ : State} (hu : Changes m' u₀
    u₁) : Changes m' u₀ (beginOff l u₁) := by
  unfold beginOff
  repeat' first
    | with_reducible assumption | with_reducible refine offGroupList_changes _ (hm.trans (by decide)) ?_
    | (fail_if_no_progress (with_reducible refine Changes.put_pwr (hm.bit (by decide)) ?_ ?_) <;> [(first | exact id | exact fun _ => rfl | exact fun h0 => by simpa [modAt] using h0); skip])
    | extract_lets +onlyGivenNames x

theorem shedDone_changes {m' : Nat} (hm : Covers m' 0x2000) {u₀ u₁ : State} (hu : Changes m' u₀ u₁) : Changes m' u₀
    (shedDone u₁) := by
  unfold shedDone
  repeat' first
    | with_reducible assumption
    | (fail_if_no_progress (with_reducible refine Changes.put_pwr (hm.bit (by decide)) ?_ ?_) <;> [(first | exact id | exact fun _ => rfl | exact fun h0 => by simpa [modAt] using h0); skip])
    | extract_lets +onlyGivenNames x

theorem stopHostSeq_changes {m' : Nat} (hm : Covers m' 0x2000) {u₀ u₁ : State} (hu : Changes m' u₀ u₁) : Changes m'
    u₀ (stopHostSeq u₁) := by
  unfold stopHostSeq
  repeat' first
    | with_reducible assumption | with_reducible apply Changes.ite
    | (fail_if_no_progress (with_reducible refine Changes.put_pwr (hm.bit (by decide)) ?_ ?_) <;> [(first | exact id | exact fun _ => rfl | exact fun h0 => by simpa [modAt] using h0); skip])
    | extract_lets +onlyGivenNames x | split

theorem startShed_changes {m' : Nat} (hm : Covers m' 0x4342213) {u₀ u₁ : State} (hu : Changes m' u₀ u₁) : Changes m'
    u₀ (startShed u₁) := by
  unfold startShed
  repeat' first
    | with_reducible assumption | with_reducible refine stopHostSeq_changes (hm.trans (by decide)) ?_
    | with_reducible refine shedDone_changes (hm.trans (by decide)) ?_
    | with_reducible refine shedDomain_changes _ (hm.trans (by decide)) ?_ | with_reducible apply Changes.ite
    | (fail_if_no_progress (with_reducible refine Changes.put_pwr (hm.bit (by decide)) ?_ ?_) <;> [(first | exact id | exact fun _ => rfl | exact fun h0 => by simpa [modAt] using h0); skip])
    | (extract_lets +onlyGivenNames x; refine Changes.cut (a := Changes m' u₀ x) ?_ (fun hx => ?_) <;> [unfold x; clear_value x])
    | extract_lets +onlyGivenNames x | split

theorem shedTogether_changes (shed : Bool) {m' : Nat} (hm : Covers m' 0x4342213) {u₀ u₁ : State} (hu : Changes m' u₀
    u₁) : Changes m' u₀ (shedTogether shed u₁) := by
  unfold shedTogether
  repeat' first
    | with_reducible assumption | (fail_if_no_progress beta_reduce)
    | with_reducible refine shedDomain_changes _ (hm.trans (by decide)) ?_
    | with_reducible refine switchOff_changes _ (hm.trans (by decide)) ?_
    | with_reducible refine stopHostSeq_changes (hm.trans (by decide)) ?_ | with_reducible apply Changes.ite
    | (with_reducible refine Changes.foldl ?_ (fun v y hv => ?_))
    | (fail_if_no_progress (with_reducible refine Changes.put_pwr (hm.bit (by decide)) ?_ ?_) <;> [(first | exact id | exact fun _ => rfl | exact fun h0 => by simpa [modAt] using h0); skip])
    | (extract_lets +onlyGivenNames x; refine Changes.cut (a := Changes m' u₀ x) ?_ (fun hx => ?_) <;> [unfold x; clear_value x])
    | extract_lets +onlyGivenNames x | split

end Sys2Proof.Machine
end

