-- ==== Sys2Proof/Laws/ChangesVault.lean ====
section
/-! SUPPORT. The frames of fence, fault collection, cache, budget and vault. -/

set_option linter.all false
set_option linter.unusedTactic false
set_option linter.unreachableTactic false

namespace Sys2Proof.Machine

/-! ### VaultBase -/

theorem inhibitCharger_changes {m' : Nat} (hm : Covers m' 0x10000) {u₀ u₁ : State} (hu : Changes m' u₀ u₁) : Changes
    m' u₀ (inhibitCharger u₁) := by
  unfold inhibitCharger
  repeat' first
    | with_reducible assumption | (fail_if_no_progress beta_reduce) | with_reducible apply Changes.ite
    | (fail_if_no_progress with_reducible refine Changes.put_chg (hm.bit (by decide)) ?_)
    | (extract_lets +onlyGivenNames x; refine Changes.cut (a := Changes m' u₀ x) ?_ (fun hx => ?_) <;> [unfold x; clear_value x])
    | extract_lets +onlyGivenNames x | split

theorem stopCharger_changes {m' : Nat} (hm : Covers m' 0x10000) {u₀ u₁ : State} (hu : Changes m' u₀ u₁) : Changes m'
    u₀ (stopCharger u₁) := by
  unfold stopCharger
  repeat' first
    | with_reducible assumption
    | (fail_if_no_progress with_reducible refine Changes.put_chg (hm.bit (by decide)) ?_)
    | extract_lets +onlyGivenNames x

theorem endExercise_changes (cause : Nat) {m' : Nat} (hm : Covers m' 0x10000) {u₀ u₁ : State} (hu : Changes m' u₀
    u₁) : Changes m' u₀ (endExercise cause u₁) := by
  unfold endExercise
  repeat' first
    | with_reducible assumption | with_reducible apply Changes.ite
    | (fail_if_no_progress with_reducible refine Changes.put_chg (hm.bit (by decide)) ?_)
    | extract_lets +onlyGivenNames x | split

theorem endBackground_changes (code : RetCode) {m' : Nat} (hm : Covers m' 0x40000c10) {u₀ u₁ : State} (hu : Changes
    m' u₀ u₁) : Changes m' u₀ (endBackground code u₁) := by
  unfold endBackground
  repeat' first
    | with_reducible assumption | (fail_if_no_progress beta_reduce)
    | with_reducible refine emit_changes _ (hm.trans (by decide)) ?_
    | with_reducible refine msix_changes _ (hm.trans (by decide)) ?_ | with_reducible apply Changes.ite
    | (fail_if_no_progress with_reducible refine Changes.put_stg (hm.bit (by decide)) ?_)
    | (fail_if_no_progress (with_reducible refine Changes.put_mbx (hm.bit (by decide)) ?_ ?_) <;> [(first | exact id | exact fun (h0 : EventLogsSound _) => ⟨h0.four, h0.records⟩); skip])
    | (fail_if_no_progress with_reducible apply Changes.parts <;> first | exact hm.skip (by decide) | exact fun _ => rfl | exact id | (first | exact id | exact fun (h0 : EventLogsSound _) => ⟨h0.four, h0.records⟩) | skip)
    | (extract_lets +onlyGivenNames x; refine Changes.cut (a := Changes m' u₀ x) ?_ (fun hx => ?_) <;> [unfold x; clear_value x])
    | extract_lets +onlyGivenNames x | split

theorem finishBackground_changes (code : RetCode) {m' : Nat} (hm : Covers m' 0x810) {u₀ u₁ : State} (hu : Changes m'
    u₀ u₁) : Changes m' u₀ (finishBackground code u₁) := by
  unfold finishBackground
  repeat' first
    | with_reducible assumption | with_reducible apply Changes.ite
    | (fail_if_no_progress with_reducible refine Changes.put_stg (hm.bit (by decide)) ?_)
    | (fail_if_no_progress (with_reducible refine Changes.put_mbx (hm.bit (by decide)) ?_ ?_) <;> [(first | exact id | exact fun (h0 : EventLogsSound _) => ⟨h0.four, h0.records⟩); skip])
    | (fail_if_no_progress with_reducible apply Changes.parts <;> first | exact hm.skip (by decide) | exact fun (h0 : EventLogsSound _) => ⟨h0.four, h0.records⟩ | exact fun _ => rfl | exact id | skip)
    | (extract_lets +onlyGivenNames x; refine Changes.cut (a := Changes m' u₀ x) ?_ (fun hx => ?_) <;> [unfold x; clear_value x])
    | extract_lets +onlyGivenNames x | split

theorem abortBackground_changes {m' : Nat} (hm : Covers m' 0x40000c10) {u₀ u₁ : State} (hu : Changes m' u₀ u₁) :
    Changes m' u₀ (abortBackground u₁) := by
  unfold abortBackground
  repeat' first
    | with_reducible assumption | (fail_if_no_progress beta_reduce)
    | with_reducible refine endBackground_changes _ (hm.trans (by decide)) ?_ | with_reducible apply Changes.ite
    | (fail_if_no_progress (with_reducible refine Changes.put_mbx (hm.bit (by decide)) ?_ ?_) <;> [(first | exact id | exact fun (h0 : EventLogsSound _) => ⟨h0.four, h0.records⟩); skip])
    | (extract_lets +onlyGivenNames x; refine Changes.cut (a := Changes m' u₀ x) ?_ (fun hx => ?_) <;> [unfold x; clear_value x])
    | extract_lets +onlyGivenNames x | split

theorem answerFlush_changes (error : Bool) {m' : Nat} (hm : Covers m' 0x40000400) {u₀ u₁ : State} (hu : Changes m'
    u₀ u₁) : Changes m' u₀ (answerFlush error u₁) := by
  unfold answerFlush
  repeat' first
    | with_reducible assumption | (fail_if_no_progress beta_reduce)
    | with_reducible refine emit_changes _ (hm.trans (by decide)) ?_
    | (with_reducible refine Changes.foldl ?_ (fun v y hv => ?_))
    | (fail_if_no_progress with_reducible refine Changes.put_host (hm.bit (by decide)) ?_)
    | (extract_lets +onlyGivenNames x; refine Changes.cut (a := Changes m' u₀ x) ?_ (fun hx => ?_) <;> [unfold x; clear_value x])
    | extract_lets +onlyGivenNames x | split

theorem abandon_changes {m' : Nat} (hm : Covers m' 0xce000039) {u₀ u₁ : State} (hu : Changes m' u₀ u₁) : Changes m'
    u₀ (abandon u₁) := by
  unfold abandon
  repeat' first
    | with_reducible assumption | with_reducible refine voidEpoch_changes _ _ (hm.trans (by decide)) ?_
    | with_reducible refine setVault_changes _ (hm.trans (by decide)) ?_
    | (fail_if_no_progress with_reducible refine Changes.put_vlt (hm.bit (by decide)) ?_)
    | (extract_lets +onlyGivenNames x; refine Changes.cut (a := Changes m' u₀ x) ?_ (fun hx => ?_) <;> [unfold x; clear_value x])
    | extract_lets +onlyGivenNames x | split

theorem fence_changes (bySource : Nat) {m' : Nat} (hm : Covers m' 0xce0c8171) {u₀ u₁ : State} (hu : Changes m' u₀
    u₁) : Changes m' u₀ (fence bySource u₁) := by
  unfold fence
  repeat' first
    | with_reducible assumption | (fail_if_no_progress beta_reduce)
    | with_reducible refine discardWrites_changes (hm.trans (by decide)) ?_
    | with_reducible refine setVault_changes _ (hm.trans (by decide)) ?_
    | with_reducible refine sendFrame_changes _ _ (hm.trans (by decide)) ?_
    | with_reducible refine noChannel_changes (hm.trans (by decide)) ?_
    | with_reducible refine startLoop_changes (hm.trans (by decide)) ?_
    | (fail_if_no_progress (with_reducible refine Changes.put_cache (hm.bit (by decide)) ?_ ?_) <;> [(first | exact id | (intro h0; constructor <;> first | exact h0.channels | exact h0.poison | exact h0.map | exact h0.caps | rfl | exact tableOk_tput _ _ _ _ none h0.poison (by simp) | exact keysUp_tput _ _ _ h0.map | exact keysUp_tput _ _ _ h0.caps | simpa [modAt] using h0.channels)); skip])
    | (fail_if_no_progress with_reducible refine Changes.put_vlt (hm.bit (by decide)) ?_)
    | (fail_if_no_progress with_reducible refine Changes.put_drain (hm.bit (by decide)) ?_)
    | (fail_if_no_progress with_reducible refine Changes.put_gau (hm.bit (by decide)) ?_)
    | (fail_if_no_progress with_reducible apply Changes.parts <;> first | exact hm.skip (by decide) | exact fun _ => rfl | exact id | (first | exact id | (intro h0; constructor <;> first | exact h0.channels | exact h0.poison | exact h0.map | exact h0.caps | rfl | exact tableOk_tput _ _ _ _ none h0.poison (by simp) | exact keysUp_tput _ _ _ h0.map | exact keysUp_tput _ _ _ h0.caps | simpa [modAt] using h0.channels)) | skip)
    | (extract_lets +onlyGivenNames x; refine Changes.cut (a := Changes m' u₀ x) ?_ (fun hx => ?_) <;> [unfold x; clear_value x])
    | extract_lets +onlyGivenNames x | split

theorem fenceFailing_changes (bySource : Nat) {m' : Nat} (hm : Covers m' 0xce0c8d71) {u₀ u₁ : State} (hu : Changes
    m' u₀ u₁) : Changes m' u₀ (fenceFailing bySource u₁) := by
  unfold fenceFailing
  repeat' first
    | with_reducible assumption | with_reducible refine answerFlush_changes _ (hm.trans (by decide)) ?_
    | with_reducible refine fence_changes _ (hm.trans (by decide)) ?_
    | with_reducible refine postEvent_changes _ _ _ _ (hm.trans (by decide)) ?_ | with_reducible apply Changes.ite
    | (extract_lets +onlyGivenNames x; refine Changes.cut (a := Changes m' u₀ x) ?_ (fun hx => ?_) <;> [unfold x; clear_value x])
    | extract_lets +onlyGivenNames x | split

theorem fenceByHost_changes {m' : Nat} (hm : Covers m' 0xce0c8571) {u₀ u₁ : State} (hu : Changes m' u₀ u₁) : Changes
    m' u₀ (fenceByHost u₁) := by
  unfold fenceByHost
  repeat' first
    | with_reducible assumption | (fail_if_no_progress beta_reduce)
    | with_reducible refine fence_changes _ (hm.trans (by decide)) ?_ | with_reducible apply Changes.ite
    | (fail_if_no_progress with_reducible refine Changes.put_host (hm.bit (by decide)) ?_)
    | (extract_lets +onlyGivenNames x; refine Changes.cut (a := Changes m' u₀ x) ?_ (fun hx => ?_) <;> [unfold x; clear_value x])
    | extract_lets +onlyGivenNames x | split

theorem enterConfirmed_changes {m' : Nat} (hm : Covers m' 0xce000cb9) {u₀ u₁ : State} (hu : Changes m' u₀ u₁) :
    Changes m' u₀ (enterConfirmed u₁) := by
  unfold enterConfirmed
  repeat' first
    | with_reducible assumption | (fail_if_no_progress beta_reduce)
    | with_reducible refine setVault_changes _ (hm.trans (by decide)) ?_
    | with_reducible refine closeOpen_changes (hm.trans (by decide)) ?_
    | with_reducible refine strayEpochs_changes (hm.trans (by decide)) ?_
    | with_reducible refine voidWhere_changes _ _ (hm.trans (by decide)) ?_
    | with_reducible refine abortBackground_changes (hm.trans (by decide)) ?_
    | with_reducible refine postEvent_changes _ _ _ _ (hm.trans (by decide)) ?_
    | with_reducible refine msix_changes _ (hm.trans (by decide)) ?_ | with_reducible apply Changes.ite
    | (fail_if_no_progress (with_reducible refine Changes.put_cache (hm.bit (by decide)) ?_ ?_) <;> [(first | exact id | (intro h0; constructor <;> first | exact h0.channels | exact h0.poison | exact h0.map | exact h0.caps | rfl | exact tableOk_tput _ _ _ _ none h0.poison (by simp) | exact keysUp_tput _ _ _ h0.map | exact keysUp_tput _ _ _ h0.caps | simpa [modAt] using h0.channels)); skip])
    | (fail_if_no_progress (with_reducible refine Changes.put_nand (hm.bit (by decide)) ?_ ?_) <;> [(first | exact id | (intro h0; constructor <;> first | exact h0.channels | exact h0.targets | exact h0.blocks | exact keysUp_tmod _ _ _ h0.channels | exact keysUp_tmod _ _ _ h0.targets | exact keysUp_tmod _ _ _ h0.blocks | exact keysUp_tins _ _ h0.blocks | exact keysUp_filter _ h0.targets | exact keysUp_map _ h0.channels (fun _ => rfl) | exact keysUp_map _ h0.targets (fun _ => rfl) | exact keysUp_map _ h0.blocks (fun e => by try beta_reduce; (try split) <;> rfl))); skip])
    | (fail_if_no_progress with_reducible refine Changes.put_stg (hm.bit (by decide)) ?_)
    | (fail_if_no_progress with_reducible refine Changes.put_vlt (hm.bit (by decide)) ?_)
    | (fail_if_no_progress with_reducible refine Changes.put_restore (hm.bit (by decide)) ?_)
    | (fail_if_no_progress with_reducible apply Changes.parts <;> first | exact hm.skip (by decide) | exact fun _ => rfl | exact id | (first | exact id | (intro h0; constructor <;> first | exact h0.channels | exact h0.poison | exact h0.map | exact h0.caps | rfl | exact tableOk_tput _ _ _ _ none h0.poison (by simp) | exact keysUp_tput _ _ _ h0.map | exact keysUp_tput _ _ _ h0.caps | simpa [modAt] using h0.channels)) | (first | exact id | (intro h0; constructor <;> first | exact h0.channels | exact h0.targets | exact h0.blocks | exact keysUp_tmod _ _ _ h0.channels | exact keysUp_tmod _ _ _ h0.targets | exact keysUp_tmod _ _ _ h0.blocks | exact keysUp_tins _ _ h0.blocks | exact keysUp_filter _ h0.targets | exact keysUp_map _ h0.channels (fun _ => rfl) | exact keysUp_map _ h0.targets (fun _ => rfl) | exact keysUp_map _ h0.blocks (fun e => by try beta_reduce; (try split) <;> rfl))) | skip)
    | (extract_lets +onlyGivenNames x; refine Changes.cut (a := Changes m' u₀ x) ?_ (fun hx => ?_) <;> [unfold x; clear_value x])
    | extract_lets +onlyGivenNames x | split

theorem shedOnce_changes {m' : Nat} (hm : Covers m' 0x4342213) {u₀ u₁ : State} (hu : Changes m' u₀ u₁) : Changes m'
    u₀ (shedOnce u₁) := by
  unfold shedOnce
  repeat' first
    | with_reducible assumption | with_reducible refine startShed_changes (hm.trans (by decide)) ?_
    | with_reducible apply Changes.ite | split

theorem openWindow_changes {m' : Nat} (hm : Covers m' 0xce3caf73) {u₀ u₁ : State} (hu : Changes m' u₀ u₁) : Changes
    m' u₀ (openWindow u₁) := by
  unfold openWindow
  repeat' first
    | with_reducible assumption | (fail_if_no_progress beta_reduce)
    | with_reducible refine fenceFailing_changes _ (hm.trans (by decide)) ?_
    | with_reducible refine shedOnce_changes (hm.trans (by decide)) ?_
    | with_reducible refine setVault_changes _ (hm.trans (by decide)) ?_ | with_reducible apply Changes.ite
    | (extract_lets +onlyGivenNames x; refine Changes.cut (a := Changes m' u₀ x) ?_ (fun hx => ?_) <;> [unfold x; clear_value x])
    | extract_lets +onlyGivenNames x | split

theorem enterOff_changes {m' : Nat} (hm : Covers m' 0x4c3422b3) {u₀ u₁ : State} (hu : Changes m' u₀ u₁) : Changes m'
    u₀ (enterOff u₁) := by
  unfold enterOff
  repeat' first
    | with_reducible assumption | with_reducible refine beginOff_changes _ (hm.trans (by decide)) ?_
    | with_reducible refine setVault_changes _ (hm.trans (by decide)) ?_
    | (fail_if_no_progress with_reducible refine Changes.put_restore (hm.bit (by decide)) ?_)
    | (fail_if_no_progress (with_reducible refine Changes.put_pwr (hm.bit (by decide)) ?_ ?_) <;> [(first | exact id | exact fun _ => rfl | exact fun h0 => by simpa [modAt] using h0); skip])
    | (fail_if_no_progress with_reducible refine Changes.put_warm (hm.bit (by decide)) ?_)
    | (fail_if_no_progress with_reducible apply Changes.parts <;> first | exact hm.skip (by decide) | exact fun _ => rfl | exact id | exact fun h0 => by simpa [modAt] using h0 | skip)
    | extract_lets +onlyGivenNames x

theorem enterHold_changes {m' : Nat} (hm : Covers m' 0x4c080020) {u₀ u₁ : State} (hu : Changes m' u₀ u₁) : Changes
    m' u₀ (enterHold u₁) := by
  unfold enterHold
  repeat' first
    | with_reducible assumption | with_reducible refine drivePair_changes _ _ (hm.trans (by decide)) ?_
    | with_reducible refine setVault_changes _ (hm.trans (by decide)) ?_

theorem recordConfirm_changes (cause : Nat) (source : Nat) {m' : Nat} (hm : Covers m' 0xc8020) {u₀ u₁ : State} (hu :
    Changes m' u₀ u₁) : Changes m' u₀ (recordConfirm cause source u₁) := by
  unfold recordConfirm
  repeat' first
    | with_reducible assumption | with_reducible apply Changes.ite
    | (fail_if_no_progress with_reducible refine Changes.put_vlt (hm.bit (by decide)) ?_)
    | (fail_if_no_progress with_reducible refine Changes.put_gau (hm.bit (by decide)) ?_)
    | (fail_if_no_progress (with_reducible refine Changes.put_flt (hm.bit (by decide)) ?_ ?_) <;> [(first | exact id | exact fun h0 => keysUp_tmod _ _ _ h0); skip])
    | (fail_if_no_progress (with_reducible refine Changes.put_sel (hm.bit (by decide)) ?_ ?_) <;> [(first | exact id | exact fun _ => rfl | exact fun h0 => by simpa [modAt] using h0); skip])
    | (fail_if_no_progress with_reducible apply Changes.parts <;> first | exact hm.skip (by decide) | exact fun _ => rfl | exact id | (first | exact id | exact fun h0 => keysUp_tmod _ _ _ h0) | (first | exact id | exact fun _ => rfl | exact fun h0 => by simpa [modAt] using h0) | skip)
    | split

theorem confirmOutputs_changes {m' : Nat} (hm : Covers m' 0x92020) {u₀ u₁ : State} (hu : Changes m' u₀ u₁) : Changes
    m' u₀ (confirmOutputs u₁) := by
  unfold confirmOutputs
  repeat' first
    | with_reducible assumption | with_reducible refine drivePair_changes _ _ (hm.trans (by decide)) ?_
    | with_reducible refine setPfail_changes _ (hm.trans (by decide)) ?_
    | with_reducible refine setHoldup_changes _ (hm.trans (by decide)) ?_
    | with_reducible refine endExercise_changes _ (hm.trans (by decide)) ?_
    | with_reducible refine stopCharger_changes (hm.trans (by decide)) ?_
    | (fail_if_no_progress with_reducible refine Changes.put_vlt (hm.bit (by decide)) ?_)
    | (extract_lets +onlyGivenNames x; refine Changes.cut (a := Changes m' u₀ x) ?_ (fun hx => ?_) <;> [unfold x; clear_value x])
    | extract_lets +onlyGivenNames x

theorem confirmInReset_changes (cause : Nat) (source : Nat) {m' : Nat} (hm : Covers m' 0x180020) {u₀ u₁ : State} (hu
    : Changes m' u₀ u₁) : Changes m' u₀ (confirmInReset cause source u₁) := by
  unfold confirmInReset
  repeat' first
    | with_reducible assumption
    | (fail_if_no_progress with_reducible refine Changes.put_vlt (hm.bit (by decide)) ?_)
    | (fail_if_no_progress (with_reducible refine Changes.put_sel (hm.bit (by decide)) ?_ ?_) <;> [(first | exact id | exact fun _ => rfl | exact fun h0 => by simpa [modAt] using h0); skip])
    | (fail_if_no_progress with_reducible refine Changes.put_warm (hm.bit (by decide)) ?_)
    | (fail_if_no_progress with_reducible apply Changes.parts <;> first | exact hm.skip (by decide) | exact fun _ => rfl | exact id | (first | exact id | exact fun _ => rfl | exact fun h0 => by simpa [modAt] using h0) | skip)

theorem confirm_changes (cause : Nat) (source : Nat) {m' : Nat} (hm : Covers m' 0x43da237) {u₀ u₁ : State} (hu :
    Changes m' u₀ u₁) : Changes m' u₀ (confirm cause source u₁) := by
  unfold confirm
  repeat' first
    | with_reducible assumption | (fail_if_no_progress beta_reduce)
    | with_reducible refine logEvent_changes _ _ _ (hm.trans (by decide)) ?_
    | with_reducible refine confirmOutputs_changes (hm.trans (by decide)) ?_
    | with_reducible refine beginOff_changes _ (hm.trans (by decide)) ?_
    | with_reducible refine startShed_changes (hm.trans (by decide)) ?_
    | with_reducible refine recordConfirm_changes _ _ (hm.trans (by decide)) ?_
    | with_reducible refine confirmInReset_changes _ _ (hm.trans (by decide)) ?_ | with_reducible apply Changes.ite
    | (extract_lets +onlyGivenNames x; refine Changes.cut (a := Changes m' u₀ x) ?_ (fun hx => ?_) <;> [unfold x; clear_value x])
    | extract_lets +onlyGivenNames x | split

theorem engineOff_changes {m' : Nat} (hm : Covers m' 0x4c1000a0) {u₀ u₁ : State} (hu : Changes m' u₀ u₁) : Changes
    m' u₀ (engineOff u₁) := by
  unfold engineOff
  repeat' first
    | with_reducible assumption | with_reducible refine setVault_changes _ (hm.trans (by decide)) ?_
    | (fail_if_no_progress with_reducible refine Changes.put_restore (hm.bit (by decide)) ?_)
    | (fail_if_no_progress with_reducible refine Changes.put_warm (hm.bit (by decide)) ?_)
    | (fail_if_no_progress with_reducible apply Changes.parts <;> first | exact hm.skip (by decide) | exact fun _ => rfl | exact id | skip)

theorem seePf_changes {m' : Nat} (hm : Covers m' 0xce3caffb) {u₀ u₁ : State} (hu : Changes m' u₀ u₁) : Changes m' u₀
    (seePf u₁) := by
  unfold seePf
  repeat' first
    | with_reducible assumption | with_reducible refine openWindow_changes (hm.trans (by decide)) ?_
    | with_reducible refine enterConfirmed_changes (hm.trans (by decide)) ?_
    | with_reducible refine enterOff_changes (hm.trans (by decide)) ?_
    | with_reducible refine engineOff_changes (hm.trans (by decide)) ?_ | with_reducible apply Changes.ite
    | split

theorem vaultOver_changes {m' : Nat} (hm : Covers m' 0x180020) {u₀ u₁ : State} (hu : Changes m' u₀ u₁) : Changes m'
    u₀ (vaultOver u₁) := by
  unfold vaultOver
  repeat' first
    | with_reducible assumption | with_reducible refine drivePair_changes _ _ (hm.trans (by decide)) ?_
    | (fail_if_no_progress with_reducible refine Changes.put_vlt (hm.bit (by decide)) ?_)
    | (fail_if_no_progress with_reducible refine Changes.put_warm (hm.bit (by decide)) ?_)
    | (fail_if_no_progress with_reducible apply Changes.parts <;> first | exact hm.skip (by decide) | exact fun _ => rfl | exact id | skip)

/-! ### ResetBase -/

theorem clearEngine_changes {m' : Nat} (hm : Covers m' 0x52c01f9) {u₀ u₁ : State} (hu : Changes m' u₀ u₁) : Changes
    m' u₀ (clearEngine u₁) := by
  unfold clearEngine
  repeat' first
    | with_reducible assumption | (fail_if_no_progress beta_reduce)
    | with_reducible refine drivePair_changes _ _ (hm.trans (by decide)) ?_ | with_reducible apply Changes.ite
    | (fail_if_no_progress (with_reducible refine Changes.put_cache (hm.bit (by decide)) ?_ ?_) <;> [(first | exact id | (intro h0; constructor <;> first | exact h0.channels | exact h0.poison | exact h0.map | exact h0.caps | rfl | exact tableOk_tput _ _ _ _ none h0.poison (by simp) | exact keysUp_tput _ _ _ h0.map | exact keysUp_tput _ _ _ h0.caps | simpa [modAt] using h0.channels)); skip])
    | (fail_if_no_progress (with_reducible refine Changes.put_nand (hm.bit (by decide)) ?_ ?_) <;> [(first | exact id | (intro h0; constructor <;> first | exact h0.channels | exact h0.targets | exact h0.blocks | exact keysUp_tmod _ _ _ h0.channels | exact keysUp_tmod _ _ _ h0.targets | exact keysUp_tmod _ _ _ h0.blocks | exact keysUp_tins _ _ h0.blocks | exact keysUp_filter _ h0.targets | exact keysUp_map _ h0.channels (fun _ => rfl) | exact keysUp_map _ h0.targets (fun _ => rfl) | exact keysUp_map _ h0.blocks (fun e => by try beta_reduce; (try split) <;> rfl))); skip])
    | (fail_if_no_progress with_reducible refine Changes.put_stg (hm.bit (by decide)) ?_)
    | (fail_if_no_progress with_reducible refine Changes.put_vlt (hm.bit (by decide)) ?_)
    | (fail_if_no_progress with_reducible refine Changes.put_drain (hm.bit (by decide)) ?_)
    | (fail_if_no_progress with_reducible refine Changes.put_restore (hm.bit (by decide)) ?_)
    | (fail_if_no_progress with_reducible refine Changes.put_rail (hm.bit (by decide)) ?_)
    | (fail_if_no_progress (with_reducible refine Changes.put_flt (hm.bit (by decide)) ?_ ?_) <;> [(first | exact id | exact fun h0 => keysUp_tmod _ _ _ h0); skip])
    | (fail_if_no_progress (with_reducible refine Changes.put_drf (hm.bit (by decide)) ?_ ?_) <;> [(first | exact id | exact fun _ => keysUp_nil); skip])
    | (fail_if_no_progress (with_reducible refine Changes.put_tbs (hm.bit (by decide)) ?_ ?_) <;> [(exact id); skip])
    | (fail_if_no_progress (with_reducible refine Changes.put_hdlE (hm.bit (by decide)) ?_ ?_) <;> [(first | exact id | exact fun (h0 : LinkSound _) => ⟨h0.unacked, h0.txSeq, h0.rxSeq⟩ | exact fun _ => LinkSound.fresh rfl rfl rfl); skip])
    | (fail_if_no_progress with_reducible apply Changes.parts <;> first | exact hm.skip (by decide) | exact fun _ => rfl | exact id | (first | exact id | (intro h0; constructor <;> first | exact h0.channels | exact h0.poison | exact h0.map | exact h0.caps | rfl | exact tableOk_tput _ _ _ _ none h0.poison (by simp) | exact keysUp_tput _ _ _ h0.map | exact keysUp_tput _ _ _ h0.caps | simpa [modAt] using h0.channels)) | (first | exact id | (intro h0; constructor <;> first | exact h0.channels | exact h0.targets | exact h0.blocks | exact keysUp_tmod _ _ _ h0.channels | exact keysUp_tmod _ _ _ h0.targets | exact keysUp_tmod _ _ _ h0.blocks | exact keysUp_tins _ _ h0.blocks | exact keysUp_filter _ h0.targets | exact keysUp_map _ h0.channels (fun _ => rfl) | exact keysUp_map _ h0.targets (fun _ => rfl) | exact keysUp_map _ h0.blocks (fun e => by try beta_reduce; (try split) <;> rfl))) | (first | exact id | exact fun h0 => keysUp_tmod _ _ _ h0) | (first | exact id | exact fun _ => keysUp_nil) | (exact id) | (first | exact id | exact fun (h0 : LinkSound _) => ⟨h0.unacked, h0.txSeq, h0.rxSeq⟩ | exact fun _ => LinkSound.fresh rfl rfl rfl) | skip)
    | (extract_lets +onlyGivenNames x; refine Changes.cut (a := Changes m' u₀ x) ?_ (fun hx => ?_) <;> [unfold x; clear_value x])
    | extract_lets +onlyGivenNames x | split

theorem unwrapKey_changes {m' : Nat} (hm : Covers m' 0x4c0c00a0) {u₀ u₁ : State} (hu : Changes m' u₀ u₁) : Changes
    m' u₀ (unwrapKey u₁) := by
  unfold unwrapKey
  repeat' first
    | with_reducible assumption | with_reducible refine engineFault_changes _ _ (hm.trans (by decide)) ?_
    | with_reducible apply Changes.ite
    | (fail_if_no_progress with_reducible refine Changes.put_restore (hm.bit (by decide)) ?_)
    | split

theorem clearPort_changes {m' : Nat} (hm : Covers m' 0xc00) {u₀ u₁ : State} (hu : Changes m' u₀ u₁) : Changes m' u₀
    (clearPort u₁) := by
  unfold clearPort
  repeat' first
    | with_reducible assumption | (fail_if_no_progress beta_reduce)
    | (fail_if_no_progress with_reducible refine Changes.put_host (hm.bit (by decide)) ?_)
    | (fail_if_no_progress (with_reducible refine Changes.put_mbx (hm.bit (by decide)) ?_ ?_) <;> [(first | exact id | exact fun (h0 : EventLogsSound _) => ⟨h0.four, h0.records⟩); skip])
    | (fail_if_no_progress with_reducible apply Changes.parts <;> first | exact hm.skip (by decide) | exact fun _ => rfl | exact id | (first | exact id | exact fun (h0 : EventLogsSound _) => ⟨h0.four, h0.records⟩) | skip)
    | (extract_lets +onlyGivenNames x; refine Changes.cut (a := Changes m' u₀ x) ?_ (fun hx => ?_) <;> [unfold x; clear_value x])
    | extract_lets +onlyGivenNames x

theorem noteSeal_changes {m' : Nat} (hm : Covers m' 0x200000) {u₀ u₁ : State} (hu : Changes m' u₀ u₁) : Changes m'
    u₀ (noteSeal u₁) := by
  unfold noteSeal
  repeat' first
    | with_reducible assumption
    | (fail_if_no_progress (with_reducible refine Changes.put_drf (hm.bit (by decide)) ?_ ?_) <;> [(first | exact id | exact fun _ => keysUp_nil); skip])

theorem beginWarm_changes (kind : RstKind) {m' : Nat} (hm : Covers m' 0xce380c3d) {u₀ u₁ : State} (hu : Changes m'
    u₀ u₁) : Changes m' u₀ (beginWarm kind u₁) := by
  unfold beginWarm
  repeat' first
    | with_reducible assumption | (fail_if_no_progress beta_reduce)
    | with_reducible refine logEvent_changes _ _ _ (hm.trans (by decide)) ?_
    | with_reducible refine voidEpoch_changes _ _ (hm.trans (by decide)) ?_
    | with_reducible refine clearPort_changes (hm.trans (by decide)) ?_
    | with_reducible refine discardWrites_changes (hm.trans (by decide)) ?_
    | with_reducible refine noteSeal_changes (hm.trans (by decide)) ?_
    | with_reducible refine voidWhere_changes _ _ (hm.trans (by decide)) ?_
    | with_reducible refine closeOpen_changes (hm.trans (by decide)) ?_
    | with_reducible refine setVault_changes _ (hm.trans (by decide)) ?_
    | with_reducible refine strayEpochs_changes (hm.trans (by decide)) ?_ | with_reducible apply Changes.ite
    | (fail_if_no_progress with_reducible refine Changes.put_vlt (hm.bit (by decide)) ?_)
    | (fail_if_no_progress (with_reducible refine Changes.put_sel (hm.bit (by decide)) ?_ ?_) <;> [(first | exact id | exact fun _ => rfl | exact fun h0 => by simpa [modAt] using h0); skip])
    | (fail_if_no_progress with_reducible refine Changes.put_warm (hm.bit (by decide)) ?_)
    | (fail_if_no_progress with_reducible apply Changes.parts <;> first | exact hm.skip (by decide) | exact fun _ => rfl | exact id | (first | exact id | exact fun _ => rfl | exact fun h0 => by simpa [modAt] using h0) | skip)
    | (extract_lets +onlyGivenNames x; refine Changes.cut (a := Changes m' u₀ x) ?_ (fun hx => ?_) <;> [unfold x; clear_value x])
    | extract_lets +onlyGivenNames x | split

theorem requestWarm_changes (r : Requester) (overBelay : Bool) {m' : Nat} (hm : Covers m' 0xce380c3d) {u₀ u₁ :
    State} (hu : Changes m' u₀ u₁) : Changes m' u₀ (requestWarm r overBelay u₁) := by
  unfold requestWarm
  repeat' first
    | with_reducible assumption | (fail_if_no_progress beta_reduce)
    | with_reducible refine logEvent_changes _ _ _ (hm.trans (by decide)) ?_
    | with_reducible refine beginWarm_changes _ (hm.trans (by decide)) ?_ | with_reducible apply Changes.ite
    | (fail_if_no_progress with_reducible refine Changes.put_warm (hm.bit (by decide)) ?_)
    | (extract_lets +onlyGivenNames x; refine Changes.cut (a := Changes m' u₀ x) ?_ (fun hx => ?_) <;> [unfold x; clear_value x])
    | extract_lets +onlyGivenNames x | split

theorem scanMap_changes {m' : Nat} (hm : Covers m' 0x1) {u₀ u₁ : State} (hu : Changes m' u₀ u₁) : Changes m' u₀
    (scanMap u₁) := by
  unfold scanMap
  repeat' first
    | with_reducible assumption | (fail_if_no_progress beta_reduce) | with_reducible apply Changes.ite
    | (fail_if_no_progress (with_reducible refine Changes.put_cache (hm.bit (by decide)) ?_ ?_) <;> [(first | exact fun (h0 : CacheSound _) => ⟨h0.channels, h0.poison, keysUp_filterMap _ h0.map (by intro e x hx; simp only [Option.ite_none_left_eq_some, Option.ite_none_right_eq_some, Option.some.injEq] at hx; obtain ⟨_, rfl⟩ := hx; rfl), h0.caps⟩ | exact id | exact fun (h0 : CacheSound _) => ⟨h0.channels, h0.poison, h0.map, h0.caps⟩ | exact fun (h0 : CacheSound _) => ⟨h0.channels, rfl, h0.map, h0.caps⟩ | exact fun (h0 : CacheSound _) => ⟨h0.channels, h0.poison, rfl, h0.caps⟩ | exact fun (h0 : CacheSound _) => ⟨by simpa [modAt] using h0.channels, h0.poison, h0.map, h0.caps⟩ | exact fun (h0 : CacheSound _) => ⟨h0.channels, tableOk_tput _ _ _ _ none h0.poison (by simp), h0.map, h0.caps⟩ | exact fun (h0 : CacheSound _) => ⟨h0.channels, h0.poison, keysUp_tput _ _ _ h0.map, h0.caps⟩ | exact fun (h0 : CacheSound _) => ⟨h0.channels, h0.poison, h0.map, keysUp_tput _ _ _ h0.caps⟩ | exact fun (h0 : CacheSound _) => ⟨rfl, h0.poison, h0.map, h0.caps⟩ | exact fun _ => CacheSound.fresh rfl rfl rfl rfl); skip])
    | (extract_lets +onlyGivenNames x; refine Changes.cut (a := Changes m' u₀ x) ?_ (fun hx => ?_) <;> [unfold x; clear_value x])
    | extract_lets +onlyGivenNames x | split

theorem setRefresh_changes (b : Bool) {m' : Nat} (hm : Covers m' 0x1) {u₀ u₁ : State} (hu : Changes m' u₀ u₁) :
    Changes m' u₀ (setRefresh b u₁) := by
  unfold setRefresh
  repeat' first
    | with_reducible assumption | (fail_if_no_progress beta_reduce)
    | (fail_if_no_progress (with_reducible refine Changes.put_cache (hm.bit (by decide)) ?_ ?_) <;> [(first | exact id | exact fun (h0 : CacheSound _) => ⟨h0.channels, h0.poison, h0.map, h0.caps⟩ | exact fun (h0 : CacheSound _) => ⟨h0.channels, rfl, h0.map, h0.caps⟩ | exact fun (h0 : CacheSound _) => ⟨h0.channels, h0.poison, rfl, h0.caps⟩ | exact fun (h0 : CacheSound _) => ⟨by simpa [modAt] using h0.channels, h0.poison, h0.map, h0.caps⟩ | exact fun (h0 : CacheSound _) => ⟨h0.channels, tableOk_tput _ _ _ _ none h0.poison (by simp), h0.map, h0.caps⟩ | exact fun (h0 : CacheSound _) => ⟨h0.channels, h0.poison, keysUp_tput _ _ _ h0.map, h0.caps⟩ | exact fun (h0 : CacheSound _) => ⟨h0.channels, h0.poison, h0.map, keysUp_tput _ _ _ h0.caps⟩ | exact fun (h0 : CacheSound _) => ⟨rfl, h0.poison, h0.map, h0.caps⟩ | exact fun _ => CacheSound.fresh rfl rfl rfl rfl); skip])
    | extract_lets +onlyGivenNames x

theorem leaveRefresh_changes {m' : Nat} (hm : Covers m' 0x1) {u₀ u₁ : State} (hu : Changes m' u₀ u₁) : Changes m' u₀
    (leaveRefresh u₁) := by
  unfold leaveRefresh
  repeat' first
    | with_reducible assumption | (fail_if_no_progress beta_reduce) | with_reducible apply Changes.ite
    | (fail_if_no_progress (with_reducible refine Changes.put_cache (hm.bit (by decide)) ?_ ?_) <;> [(first | exact id | (intro h0; constructor <;> first | exact h0.channels | exact h0.poison | exact h0.map | exact h0.caps | rfl | exact tableOk_tput _ _ _ _ none h0.poison (by simp) | exact keysUp_tput _ _ _ h0.map | exact keysUp_tput _ _ _ h0.caps | simpa [modAt] using h0.channels)); skip])
    | split

theorem holdDdr_changes {m' : Nat} (hm : Covers m' 0x80001) {u₀ u₁ : State} (hu : Changes m' u₀ u₁) : Changes m' u₀
    (holdDdr u₁) := by
  unfold holdDdr
  repeat' first
    | with_reducible assumption | with_reducible refine setRefresh_changes _ (hm.trans (by decide)) ?_
    | with_reducible refine drivePair_changes _ _ (hm.trans (by decide)) ?_

theorem releaseDdr_changes {m' : Nat} (hm : Covers m' 0x80001) {u₀ u₁ : State} (hu : Changes m' u₀ u₁) : Changes m'
    u₀ (releaseDdr u₁) := by
  unfold releaseDdr
  repeat' first
    | with_reducible assumption | (fail_if_no_progress beta_reduce)
    | with_reducible refine leaveRefresh_changes (hm.trans (by decide)) ?_
    | with_reducible refine drivePair_changes _ _ (hm.trans (by decide)) ?_
    | (fail_if_no_progress (with_reducible refine Changes.put_cache (hm.bit (by decide)) ?_ ?_) <;> [(first | exact id | (intro h0; constructor <;> first | exact h0.channels | exact h0.poison | exact h0.map | exact h0.caps | rfl | exact tableOk_tput _ _ _ _ none h0.poison (by simp) | exact keysUp_tput _ _ _ h0.map | exact keysUp_tput _ _ _ h0.caps | simpa [modAt] using h0.channels)); skip])
    | (extract_lets +onlyGivenNames x; refine Changes.cut (a := Changes m' u₀ x) ?_ (fun hx => ?_) <;> [unfold x; clear_value x])
    | extract_lets +onlyGivenNames x | split

theorem loadCaps_changes {m' : Nat} (hm : Covers m' 0x1) {u₀ u₁ : State} (hu : Changes m' u₀ u₁) : Changes m' u₀
    (loadCaps u₁) := by
  unfold loadCaps
  repeat' first
    | with_reducible assumption | (fail_if_no_progress beta_reduce) | with_reducible apply Changes.ite
    | (fail_if_no_progress (with_reducible refine Changes.put_cache (hm.bit (by decide)) ?_ ?_) <;> [(first | exact fun (h0 : CacheSound _) => ⟨h0.channels, h0.poison, h0.map, keysUp_indexed _ _ (by intro e x hx; simp only [Option.ite_none_left_eq_some, Option.ite_none_right_eq_some, Option.some.injEq] at hx; obtain ⟨_, rfl⟩ := hx; rfl)⟩ | exact id | exact fun (h0 : CacheSound _) => ⟨h0.channels, h0.poison, h0.map, h0.caps⟩ | exact fun (h0 : CacheSound _) => ⟨h0.channels, rfl, h0.map, h0.caps⟩ | exact fun (h0 : CacheSound _) => ⟨h0.channels, h0.poison, rfl, h0.caps⟩ | exact fun (h0 : CacheSound _) => ⟨by simpa [modAt] using h0.channels, h0.poison, h0.map, h0.caps⟩ | exact fun (h0 : CacheSound _) => ⟨h0.channels, tableOk_tput _ _ _ _ none h0.poison (by simp), h0.map, h0.caps⟩ | exact fun (h0 : CacheSound _) => ⟨h0.channels, h0.poison, keysUp_tput _ _ _ h0.map, h0.caps⟩ | exact fun (h0 : CacheSound _) => ⟨h0.channels, h0.poison, h0.map, keysUp_tput _ _ _ h0.caps⟩ | exact fun (h0 : CacheSound _) => ⟨rfl, h0.poison, h0.map, h0.caps⟩ | exact fun _ => CacheSound.fresh rfl rfl rfl rfl); skip])
    | extract_lets +onlyGivenNames x | split

theorem clearGauge_changes {m' : Nat} (hm : Covers m' 0xc000) {u₀ u₁ : State} (hu : Changes m' u₀ u₁) : Changes m'
    u₀ (clearGauge u₁) := by
  unfold clearGauge
  repeat' first
    | with_reducible assumption
    | (fail_if_no_progress with_reducible refine Changes.put_cell (hm.bit (by decide)) ?_)
    | (fail_if_no_progress with_reducible refine Changes.put_gau (hm.bit (by decide)) ?_)
    | (fail_if_no_progress with_reducible apply Changes.parts <;> first | exact hm.skip (by decide) | exact fun _ => rfl | exact id | skip)

theorem clearCharger_changes {m' : Nat} (hm : Covers m' 0x12000) {u₀ u₁ : State} (hu : Changes m' u₀ u₁) : Changes
    m' u₀ (clearCharger u₁) := by
  unfold clearCharger
  repeat' first
    | with_reducible assumption | with_reducible refine stopCharger_changes (hm.trans (by decide)) ?_
    | (fail_if_no_progress (with_reducible refine Changes.put_pwr (hm.bit (by decide)) ?_ ?_) <;> [(first | exact id | exact fun _ => rfl | exact fun h0 => by simpa [modAt] using h0); skip])
    | (fail_if_no_progress with_reducible refine Changes.put_chg (hm.bit (by decide)) ?_)
    | (fail_if_no_progress with_reducible apply Changes.parts <;> first | exact hm.skip (by decide) | exact fun _ => rfl | exact id | (first | exact id | exact fun _ => rfl | exact fun h0 => by simpa [modAt] using h0) | skip)

/-! ### Collector -/

theorem beginReboot_changes {m' : Nat} (hm : Covers m' 0xce380c3d) {u₀ u₁ : State} (hu : Changes m' u₀ u₁) : Changes
    m' u₀ (beginReboot u₁) := by
  unfold beginReboot
  repeat' first
    | with_reducible assumption | (fail_if_no_progress beta_reduce)
    | with_reducible refine clearPort_changes (hm.trans (by decide)) ?_
    | with_reducible refine discardWrites_changes (hm.trans (by decide)) ?_
    | with_reducible refine noteSeal_changes (hm.trans (by decide)) ?_
    | with_reducible refine logEvent_changes _ _ _ (hm.trans (by decide)) ?_
    | with_reducible refine beginWarm_changes _ (hm.trans (by decide)) ?_ | with_reducible apply Changes.ite
    | (fail_if_no_progress with_reducible refine Changes.put_stg (hm.bit (by decide)) ?_)
    | (fail_if_no_progress with_reducible refine Changes.put_warm (hm.bit (by decide)) ?_)
    | (extract_lets +onlyGivenNames x; refine Changes.cut (a := Changes m' u₀ x) ?_ (fun hx => ?_) <;> [unfold x; clear_value x])
    | extract_lets +onlyGivenNames x | split

theorem selvedgeHold_changes (thermal : Bool) {m' : Nat} (hm : Covers m' 0xce380c3d) {u₀ u₁ : State} (hu : Changes
    m' u₀ u₁) : Changes m' u₀ (selvedgeHold thermal u₁) := by
  unfold selvedgeHold
  repeat' first
    | with_reducible assumption | with_reducible refine drivePair_changes _ _ (hm.trans (by decide)) ?_
    | with_reducible refine beginReboot_changes (hm.trans (by decide)) ?_ | with_reducible apply Changes.ite
    | (fail_if_no_progress (with_reducible refine Changes.put_sel (hm.bit (by decide)) ?_ ?_) <;> [(first | exact id | exact fun _ => rfl | exact fun h0 => by simpa [modAt] using h0); skip])
    | (extract_lets +onlyGivenNames x; refine Changes.cut (a := Changes m' u₀ x) ?_ (fun hx => ?_) <;> [unfold x; clear_value x])
    | extract_lets +onlyGivenNames x | split

theorem protectReady_changes {m' : Nat} (hm : Covers m' 0x8) {u₀ u₁ : State} (hu : Changes m' u₀ u₁) : Changes m' u₀
    (protectReady u₁) := by
  unfold protectReady
  repeat' first
    | with_reducible assumption | (fail_if_no_progress beta_reduce)
    | with_reducible refine modChannel_changes _ _ (hm.trans (by decide)) ?_ | with_reducible apply Changes.ite
    | (with_reducible refine Changes.foldl ?_ (fun v y hv => ?_)) | extract_lets +onlyGivenNames x | split

theorem nandOffWhenProtected_changes {m' : Nat} (hm : Covers m' 0x4342213) {u₀ u₁ : State} (hu : Changes m' u₀ u₁) :
    Changes m' u₀ (nandOffWhenProtected u₁) := by
  unfold nandOffWhenProtected
  repeat' first
    | with_reducible assumption | (fail_if_no_progress beta_reduce)
    | with_reducible refine switchOff_changes _ (hm.trans (by decide)) ?_ | with_reducible apply Changes.ite
    | (fail_if_no_progress (with_reducible refine Changes.put_flt (hm.bit (by decide)) ?_ ?_) <;> [(first | exact id | exact keysUp_tmod _ _ _); skip])
    | extract_lets +onlyGivenNames x | split

theorem enterBelay_changes (cause : Nat) {m' : Nat} (hm : Covers m' 0x43d2217) {u₀ u₁ : State} (hu : Changes m' u₀
    u₁) : Changes m' u₀ (enterBelay cause u₁) := by
  unfold enterBelay
  repeat' first
    | with_reducible assumption | (fail_if_no_progress beta_reduce)
    | with_reducible refine drivePair_changes _ _ (hm.trans (by decide)) ?_
    | with_reducible refine setHoldup_changes _ (hm.trans (by decide)) ?_
    | with_reducible refine stopCharger_changes (hm.trans (by decide)) ?_
    | with_reducible refine setPfail_changes _ (hm.trans (by decide)) ?_
    | with_reducible refine logEvent_changes _ _ _ (hm.trans (by decide)) ?_
    | with_reducible refine shedTogether_changes _ (hm.trans (by decide)) ?_ | with_reducible apply Changes.ite
    | (fail_if_no_progress (with_reducible refine Changes.put_flt (hm.bit (by decide)) ?_ ?_) <;> [(first | exact id | exact fun h0 => keysUp_tmod _ _ _ h0); skip])
    | (fail_if_no_progress (with_reducible refine Changes.put_sel (hm.bit (by decide)) ?_ ?_) <;> [(first | exact id | exact fun _ => rfl | exact fun h0 => by simpa [modAt] using h0); skip])
    | (fail_if_no_progress with_reducible refine Changes.put_warm (hm.bit (by decide)) ?_)
    | (fail_if_no_progress with_reducible apply Changes.parts <;> first | exact hm.skip (by decide) | exact fun _ => rfl | exact id | (first | exact id | exact fun h0 => keysUp_tmod _ _ _ h0) | (first | exact id | exact fun _ => rfl | exact fun h0 => by simpa [modAt] using h0) | skip)
    | (extract_lets +onlyGivenNames x; refine Changes.cut (a := Changes m' u₀ x) ?_ (fun hx => ?_) <;> [unfold x; clear_value x])
    | extract_lets +onlyGivenNames x | split

theorem engineBelay_changes {m' : Nat} (hm : Covers m' 0x8634221b) {u₀ u₁ : State} (hu : Changes m' u₀ u₁) : Changes
    m' u₀ (engineBelay u₁) := by
  unfold engineBelay
  repeat' first
    | with_reducible assumption | with_reducible refine nandOffWhenProtected_changes (hm.trans (by decide)) ?_
    | with_reducible refine protectReady_changes (hm.trans (by decide)) ?_
    | with_reducible refine discardWrites_changes (hm.trans (by decide)) ?_
    | (fail_if_no_progress (with_reducible refine Changes.put_flt (hm.bit (by decide)) ?_ ?_) <;> [(first | exact id | exact keysUp_tmod _ _ _); skip])
    | extract_lets +onlyGivenNames x

theorem modSrc_changes (n : Nat) (f : Source → Source) {m' : Nat} (hm : Covers m' 0x40000) {u₀ u₁ : State} (hu :
    Changes m' u₀ u₁) : Changes m' u₀ (modSrc n f u₁) := by
  unfold modSrc
  repeat' first
    | with_reducible assumption
    | (fail_if_no_progress (with_reducible refine Changes.put_flt (hm.bit (by decide)) ?_ ?_) <;> [(first | exact id | exact keysUp_tmod _ _ _); skip])
    | extract_lets +onlyGivenNames x

theorem captureFirst_changes (n sev master detail : Nat) (shadow : Bool) {m' : Nat} (hm : Covers m' 0x40000) {u₀ u₁
    : State} (hu : Changes m' u₀ u₁) : Changes m' u₀ (captureFirst n sev master detail shadow u₁) := by
  unfold captureFirst
  repeat' first
    | with_reducible assumption | with_reducible apply Changes.ite
    | (fail_if_no_progress (with_reducible refine Changes.put_flt (hm.bit (by decide)) ?_ ?_) <;> [(first | exact id | exact keysUp_tmod _ _ _); skip])
    | (extract_lets +onlyGivenNames x; refine Changes.cut (a := Changes m' u₀ x) ?_ (fun hx => ?_) <;> [unfold x; clear_value x])
    | extract_lets +onlyGivenNames x | split

theorem logFault_changes (n sev detail : Nat) (shadow first : Bool) {m' : Nat} (hm : Covers m' 0x4) {u₀ u₁ : State}
    (hu : Changes m' u₀ u₁) : Changes m' u₀ (logFault n sev detail shadow first u₁) := by
  unfold logFault
  repeat' first
    | with_reducible assumption | with_reducible refine logEntry_changes _ _ _ _ _ (hm.trans (by decide)) ?_
    | with_reducible apply Changes.ite
    | (fail_if_no_progress (with_reducible refine Changes.put_log (hm.bit (by decide)) ?_ ?_) <;> [(first | exact id | exact fun (h0 : LogSound _) => ⟨h0.ring, h0.head, h0.seq⟩ | exact fun _ => LogSound.fresh rfl rfl rfl); skip])
    | (extract_lets +onlyGivenNames x; refine Changes.cut (a := Changes m' u₀ x) ?_ (fun hx => ?_) <;> [unfold x; clear_value x])
    | extract_lets +onlyGivenNames x | split

theorem voidUnits_changes (p : Epoch → Bool) (reason : Nat) {m' : Nat} (hm : Covers m' 0xce0c0079) {u₀ u₁ : State}
    (hu : Changes m' u₀ u₁) : Changes m' u₀ (voidUnits p reason u₁) := by
  unfold voidUnits
  repeat' first
    | with_reducible assumption | (fail_if_no_progress beta_reduce)
    | with_reducible refine failKnot_changes _ _ (hm.trans (by decide)) ?_ | with_reducible apply Changes.ite
    | (with_reducible refine Changes.foldl ?_ (fun v y hv => ?_))
    | split

theorem dropKey_changes {m' : Nat} (hm : Covers m' 0x80) {u₀ u₁ : State} (hu : Changes m' u₀ u₁) : Changes m' u₀
    (dropKey u₁) := by
  unfold dropKey
  repeat' first
    | with_reducible assumption
    | (fail_if_no_progress with_reducible refine Changes.put_restore (hm.bit (by decide)) ?_)

theorem clearCxlPort_changes {m' : Nat} (hm : Covers m' 0x82000011) {u₀ u₁ : State} (hu : Changes m' u₀ u₁) :
    Changes m' u₀ (clearCxlPort u₁) := by
  unfold clearCxlPort
  repeat' first
    | with_reducible assumption | (fail_if_no_progress beta_reduce)
    | with_reducible refine discardWrites_changes (hm.trans (by decide)) ?_
    | (fail_if_no_progress (with_reducible refine Changes.put_cache (hm.bit (by decide)) ?_ ?_) <;> [(first | exact id | (intro h0; constructor <;> first | exact h0.channels | exact h0.poison | exact h0.map | exact h0.caps | rfl | exact tableOk_tput _ _ _ _ none h0.poison (by simp) | exact keysUp_tput _ _ _ h0.map | exact keysUp_tput _ _ _ h0.caps | simpa [modAt] using h0.channels)); skip])
    | (extract_lets +onlyGivenNames x; refine Changes.cut (a := Changes m' u₀ x) ?_ (fun hx => ?_) <;> [unfold x; clear_value x])
    | extract_lets +onlyGivenNames x | split

theorem requeueFetches_changes {m' : Nat} (hm : Covers m' 0x81) {u₀ u₁ : State} (hu : Changes m' u₀ u₁) : Changes m'
    u₀ (requeueFetches u₁) := by
  unfold requeueFetches
  repeat' first
    | with_reducible assumption | (fail_if_no_progress beta_reduce)
    | (fail_if_no_progress (with_reducible refine Changes.put_cache (hm.bit (by decide)) ?_ ?_) <;> [(first | exact id | (intro h0; constructor <;> first | exact h0.channels | exact h0.poison | exact h0.map | exact h0.caps | rfl | exact tableOk_tput _ _ _ _ none h0.poison (by simp) | exact keysUp_tput _ _ _ h0.map | exact keysUp_tput _ _ _ h0.caps | simpa [modAt] using h0.channels)); skip])
    | (fail_if_no_progress with_reducible refine Changes.put_restore (hm.bit (by decide)) ?_)
    | (fail_if_no_progress with_reducible apply Changes.parts <;> first | exact hm.skip (by decide) | exact fun _ => rfl | exact id | (first | exact id | (intro h0; constructor <;> first | exact h0.channels | exact h0.poison | exact h0.map | exact h0.caps | rfl | exact tableOk_tput _ _ _ _ none h0.poison (by simp) | exact keysUp_tput _ _ _ h0.map | exact keysUp_tput _ _ _ h0.caps | simpa [modAt] using h0.channels)) | skip)
    | (extract_lets +onlyGivenNames x; refine Changes.cut (a := Changes m' u₀ x) ?_ (fun hx => ?_) <;> [unfold x; clear_value x])
    | extract_lets +onlyGivenNames x | split

theorem clearSequencer_changes {m' : Nat} (hm : Covers m' 0xce0c00f9) {u₀ u₁ : State} (hu : Changes m' u₀ u₁) :
    Changes m' u₀ (clearSequencer u₁) := by
  unfold clearSequencer
  repeat' first
    | with_reducible assumption | (fail_if_no_progress beta_reduce)
    | with_reducible refine requeueFetches_changes (hm.trans (by decide)) ?_
    | with_reducible refine dropKey_changes (hm.trans (by decide)) ?_
    | with_reducible refine voidUnits_changes _ _ (hm.trans (by decide)) ?_ | with_reducible apply Changes.ite
    | (fail_if_no_progress (with_reducible refine Changes.put_nand (hm.bit (by decide)) ?_ ?_) <;> [(first | exact id | (intro h0; constructor <;> first | exact h0.channels | exact h0.targets | exact h0.blocks | exact keysUp_tmod _ _ _ h0.channels | exact keysUp_tmod _ _ _ h0.targets | exact keysUp_tmod _ _ _ h0.blocks | exact keysUp_tins _ _ h0.blocks | exact keysUp_filter _ h0.targets | exact keysUp_map _ h0.channels (fun _ => rfl) | exact keysUp_map _ h0.targets (fun _ => rfl) | exact keysUp_map _ h0.blocks (fun e => by try beta_reduce; (try split) <;> rfl))); skip])
    | (fail_if_no_progress with_reducible refine Changes.put_stg (hm.bit (by decide)) ?_)
    | (fail_if_no_progress with_reducible refine Changes.put_vlt (hm.bit (by decide)) ?_)
    | (fail_if_no_progress with_reducible refine Changes.put_restore (hm.bit (by decide)) ?_)
    | (fail_if_no_progress with_reducible apply Changes.parts <;> first | exact hm.skip (by decide) | exact fun _ => rfl | exact id | (first | exact id | (intro h0; constructor <;> first | exact h0.channels | exact h0.targets | exact h0.blocks | exact keysUp_tmod _ _ _ h0.channels | exact keysUp_tmod _ _ _ h0.targets | exact keysUp_tmod _ _ _ h0.blocks | exact keysUp_tins _ _ h0.blocks | exact keysUp_filter _ h0.targets | exact keysUp_map _ h0.channels (fun _ => rfl) | exact keysUp_map _ h0.targets (fun _ => rfl) | exact keysUp_map _ h0.blocks (fun e => by try beta_reduce; (try split) <;> rfl))) | skip)
    | (extract_lets +onlyGivenNames x; refine Changes.cut (a := Changes m' u₀ x) ?_ (fun hx => ?_) <;> [unfold x; clear_value x])
    | extract_lets +onlyGivenNames x | split

theorem clearDomains_changes (l : List Nat) {m' : Nat} (hm : Covers m' 0x2000) {u₀ u₁ : State} (hu : Changes m' u₀
    u₁) : Changes m' u₀ (clearDomains l u₁) := by
  unfold clearDomains
  repeat' first
    | with_reducible assumption | (fail_if_no_progress beta_reduce)
    | with_reducible refine modDom_changes _ _ (hm.trans (by decide)) ?_
    | (with_reducible refine Changes.foldl ?_ (fun v y hv => ?_))
    | split

theorem clearUnit_changes (u : Nat) {m' : Nat} (hm : Covers m' 0xce0de1f9) {u₀ u₁ : State} (hu : Changes m' u₀ u₁) :
    Changes m' u₀ (clearUnit u u₁) := by
  unfold clearUnit
  repeat' first
    | with_reducible assumption | (fail_if_no_progress beta_reduce)
    | with_reducible refine clearCxlPort_changes (hm.trans (by decide)) ?_
    | with_reducible refine clearSequencer_changes (hm.trans (by decide)) ?_
    | with_reducible refine dropKey_changes (hm.trans (by decide)) ?_
    | with_reducible refine voidUnits_changes _ _ (hm.trans (by decide)) ?_
    | with_reducible refine clearDomains_changes _ (hm.trans (by decide)) ?_
    | with_reducible refine clearCharger_changes (hm.trans (by decide)) ?_
    | with_reducible refine clearGauge_changes (hm.trans (by decide)) ?_ | with_reducible apply Changes.ite
    | (fail_if_no_progress (with_reducible refine Changes.put_cache (hm.bit (by decide)) ?_ ?_) <;> [(first | exact id | (intro h0; constructor <;> first | exact h0.channels | exact h0.poison | exact h0.map | exact h0.caps | rfl | exact tableOk_tput _ _ _ _ none h0.poison (by simp) | exact keysUp_tput _ _ _ h0.map | exact keysUp_tput _ _ _ h0.caps | simpa [modAt] using h0.channels)); skip])
    | (fail_if_no_progress with_reducible refine Changes.put_stg (hm.bit (by decide)) ?_)
    | (fail_if_no_progress with_reducible refine Changes.put_rail (hm.bit (by decide)) ?_)
    | (extract_lets +onlyGivenNames x; refine Changes.cut (a := Changes m' u₀ x) ?_ (fun hx => ?_) <;> [unfold x; clear_value x])
    | extract_lets +onlyGivenNames x | split

theorem beginUnitReset_changes (u : Nat) {m' : Nat} (hm : Covers m' 0xce0de1fd) {u₀ u₁ : State} (hu : Changes m' u₀
    u₁) : Changes m' u₀ (beginUnitReset u u₁) := by
  unfold beginUnitReset
  repeat' first
    | with_reducible assumption | with_reducible refine logEvent_changes _ _ _ (hm.trans (by decide)) ?_
    | with_reducible refine clearUnit_changes _ (hm.trans (by decide)) ?_
    | (fail_if_no_progress (with_reducible refine Changes.put_flt (hm.bit (by decide)) ?_ ?_) <;> [(first | exact id | exact keysUp_tmod _ _ _); skip])
    | extract_lets +onlyGivenNames x

theorem unitReaction_changes (n : Nat) {m' : Nat} (hm : Covers m' 0xce0de1fd) {u₀ u₁ : State} (hu : Changes m' u₀
    u₁) : Changes m' u₀ (unitReaction n u₁) := by
  unfold unitReaction
  repeat' first
    | with_reducible assumption | (fail_if_no_progress beta_reduce)
    | with_reducible refine modSrc_changes _ _ (hm.trans (by decide)) ?_
    | with_reducible refine beginUnitReset_changes _ (hm.trans (by decide)) ?_ | with_reducible apply Changes.ite
    | (fail_if_no_progress (with_reducible refine Changes.put_flt (hm.bit (by decide)) ?_ ?_) <;> [(first | exact id | exact keysUp_tmod _ _ _); skip])
    | (extract_lets +onlyGivenNames x; refine Changes.cut (a := Changes m' u₀ x) ?_ (fun hx => ?_) <;> [unfold x; clear_value x])
    | extract_lets +onlyGivenNames x | split

theorem takeReaction_changes (n : Nat) (sev : Nat) {m' : Nat} (hm : Covers m' 0xce3defff) {u₀ u₁ : State} (hu :
    Changes m' u₀ u₁) : Changes m' u₀ (takeReaction n sev u₁) := by
  unfold takeReaction
  repeat' first
    | with_reducible assumption | with_reducible refine enterBelay_changes _ (hm.trans (by decide)) ?_
    | with_reducible refine selvedgeHold_changes _ (hm.trans (by decide)) ?_
    | with_reducible refine confirm_changes _ _ (hm.trans (by decide)) ?_
    | with_reducible refine unitReaction_changes _ (hm.trans (by decide)) ?_ | with_reducible apply Changes.ite
    | split

theorem react_changes (n sev : Nat) {m' : Nat} (hm : Covers m' 0xce3defff) {u₀ u₁ : State} (hu : Changes m' u₀ u₁) :
    Changes m' u₀ (react n sev u₁) := by
  unfold react
  repeat' first
    | with_reducible assumption | (fail_if_no_progress beta_reduce)
    | with_reducible refine takeReaction_changes _ _ (hm.trans (by decide)) ?_
    | with_reducible refine modSrc_changes _ _ (hm.trans (by decide)) ?_ | with_reducible apply Changes.ite
    | (extract_lets +onlyGivenNames x; refine Changes.cut (a := Changes m' u₀ x) ?_ (fun hx => ?_) <;> [unfold x; clear_value x])
    | extract_lets +onlyGivenNames x | split

theorem enterSev_changes (n : Nat) (sev : Nat) (master : Nat) (detail : Nat) {m' : Nat} (hm : Covers m' 0xce3defff)
    {u₀ u₁ : State} (hu : Changes m' u₀ u₁) : Changes m' u₀ (enterSev n sev master detail u₁) := by
  unfold enterSev
  repeat' first
    | with_reducible assumption | (fail_if_no_progress beta_reduce)
    | with_reducible refine modSrc_changes _ _ (hm.trans (by decide)) ?_
    | with_reducible refine captureFirst_changes _ _ _ _ _ (hm.trans (by decide)) ?_
    | with_reducible refine logFault_changes _ _ _ _ _ (hm.trans (by decide)) ?_
    | with_reducible refine react_changes _ _ (hm.trans (by decide)) ?_ | with_reducible apply Changes.ite
    | (fail_if_no_progress (with_reducible refine Changes.put_flt (hm.bit (by decide)) ?_ ?_) <;> [(first | exact id | exact fun h0 => keysUp_tmod _ _ _ h0); skip])
    | (extract_lets +onlyGivenNames x; refine Changes.cut (a := Changes m' u₀ x) ?_ (fun hx => ?_) <;> [unfold x; clear_value x])
    | extract_lets +onlyGivenNames x | split

theorem enterFault_changes (n detail : Nat) {m' : Nat} (hm : Covers m' 0xce3defff) {u₀ u₁ : State} (hu : Changes m'
    u₀ u₁) : Changes m' u₀ (enterFault n detail u₁) := by
  unfold enterFault
  repeat' first
    | with_reducible assumption | with_reducible refine enterSev_changes _ _ _ _ (hm.trans (by decide)) ?_

theorem withAbort_changes (f : State → State) {m' : Nat} (hm : Covers m' 0xce3defff) {u₀ u₁ : State}
    (hf : ∀ v, Changes m' u₀ v → Changes m' u₀ (f v)) (hu : Changes m' u₀ u₁) : Changes m' u₀ (withAbort f u₁) := by
  unfold withAbort
  dsimp only
  split
  · exact enterFault_changes _ _ (hm.trans (by decide)) (hf _ hu)
  · exact hf _ hu

theorem codeChange_changes (n : Nat) (t : Bool) (c : Bool) (detail : Nat) {m' : Nat} (hm : Covers m' 0xce3defff) {u₀
    u₁ : State} (hu : Changes m' u₀ u₁) : Changes m' u₀ (codeChange n t c detail u₁) := by
  unfold codeChange
  repeat' first
    | with_reducible assumption | (fail_if_no_progress beta_reduce)
    | with_reducible refine modSrc_changes _ _ (hm.trans (by decide)) ?_
    | (with_reducible refine withAbort_changes _ (hm.trans (by decide)) (fun v hv => ?_) ?_)
    | with_reducible refine enterFault_changes _ _ (hm.trans (by decide)) ?_ | with_reducible apply Changes.ite
    | (fail_if_no_progress (with_reducible refine Changes.put_flt (hm.bit (by decide)) ?_ ?_) <;> [(first | exact id | exact fun h0 => keysUp_tmod _ _ _ h0); skip])
    | (extract_lets +onlyGivenNames x; refine Changes.cut (a := Changes m' u₀ x) ?_ (fun hx => ?_) <;> [unfold x; clear_value x])
    | extract_lets +onlyGivenNames x | split

theorem pcFault_changes (n : Nat) (detail : Nat) {m' : Nat} (hm : Covers m' 0xce3defff) {u₀ u₁ : State} (hu :
    Changes m' u₀ u₁) : Changes m' u₀ (pcFault n detail u₁) := by
  unfold pcFault
  repeat' first
    | with_reducible assumption
    | (with_reducible refine withAbort_changes _ (hm.trans (by decide)) (fun v hv => ?_) ?_)
    | with_reducible refine enterFault_changes _ _ (hm.trans (by decide)) ?_
    | with_reducible refine codeChange_changes _ _ _ _ (hm.trans (by decide)) ?_ | with_reducible apply Changes.ite
    | split

theorem pcClear_changes (n : Nat) {m' : Nat} (hm : Covers m' 0xce3defff) {u₀ u₁ : State} (hu : Changes m' u₀ u₁) :
    Changes m' u₀ (pcClear n u₁) := by
  unfold pcClear
  repeat' first
    | with_reducible assumption | with_reducible refine codeChange_changes _ _ _ _ (hm.trans (by decide)) ?_

theorem pcCond_changes (n : Nat) (b : Bool) {m' : Nat} (hm : Covers m' 0xce3defff) {u₀ u₁ : State} (hu : Changes m'
    u₀ u₁) : Changes m' u₀ (pcCond n b u₁) := by
  unfold pcCond
  repeat' first
    | with_reducible assumption | with_reducible refine pcFault_changes _ _ (hm.trans (by decide)) ?_
    | with_reducible refine pcClear_changes _ (hm.trans (by decide)) ?_ | with_reducible apply Changes.ite | split

theorem confirmVault_changes (cause : Nat) {m' : Nat} (hm : Covers m' 0xce3defff) {u₀ u₁ : State} (hu : Changes m'
    u₀ u₁) : Changes m' u₀ (confirmVault cause u₁) := by
  unfold confirmVault
  repeat' first
    | with_reducible assumption
    | (with_reducible refine withAbort_changes _ (hm.trans (by decide)) (fun v hv => ?_) ?_)
    | with_reducible refine confirm_changes _ _ (hm.trans (by decide)) ?_

/-! ### EflRecords -/

theorem storeWord_changes (w : Nat) (x : EflWord) {m' : Nat} (hm : Covers m' 0x400000) {u₀ u₁ : State} (hu : Changes
    m' u₀ u₁) : Changes m' u₀ (storeWord w x u₁) := by
  unfold storeWord
  repeat' first
    | with_reducible assumption
    | (fail_if_no_progress (with_reducible refine Changes.put_efl (hm.bit (by decide)) ?_ ?_) <;> [(first | exact id | exact fun h0 => keysUp_tins _ _ h0 | exact fun h0 => keysUp_filter _ h0); skip])

theorem eflResult_changes (r b : Nat) {m' : Nat} (hm : Covers m' 0x400000) {u₀ u₁ : State} (hu : Changes m' u₀ u₁) :
    Changes m' u₀ (eflResult r b u₁) := by
  unfold eflResult
  repeat' first
    | with_reducible assumption
    | (fail_if_no_progress (with_reducible refine Changes.put_efl (hm.bit (by decide)) ?_ ?_) <;> [(first | exact id | exact fun h0 => keysUp_tins _ _ h0 | exact fun h0 => keysUp_filter _ h0); skip])
    | extract_lets +onlyGivenNames x

theorem programWord_changes (w : Nat) (d : Nat) {m' : Nat} (hm : Covers m' 0x400000) {u₀ u₁ : State} (hu : Changes
    m' u₀ u₁) : Changes m' u₀ (programWord w d u₁) := by
  unfold programWord
  repeat' first
    | with_reducible assumption | (fail_if_no_progress beta_reduce)
    | with_reducible refine storeWord_changes _ _ (hm.trans (by decide)) ?_
    | with_reducible refine eflResult_changes _ _ (hm.trans (by decide)) ?_ | with_reducible apply Changes.ite
    | (extract_lets +onlyGivenNames x; refine Changes.cut (a := Changes m' u₀ x) ?_ (fun hx => ?_) <;> [unfold x; clear_value x])
    | extract_lets +onlyGivenNames x | split

theorem wipeBlock_changes (b : Nat) {m' : Nat} (hm : Covers m' 0x400800) {u₀ u₁ : State} (hu : Changes m' u₀ u₁) :
    Changes m' u₀ (wipeBlock b u₁) := by
  unfold wipeBlock
  repeat' first
    | with_reducible assumption | (fail_if_no_progress beta_reduce)
    | with_reducible refine loseDatum_changes _ (hm.trans (by decide)) ?_
    | (fail_if_no_progress (with_reducible refine Changes.put_efl (hm.bit (by decide)) ?_ ?_) <;> [(first | exact id | exact fun h0 => keysUp_tins _ _ h0 | exact fun h0 => keysUp_filter _ h0); skip])
    | (extract_lets +onlyGivenNames x; refine Changes.cut (a := Changes m' u₀ x) ?_ (fun hx => ?_) <;> [unfold x; clear_value x])
    | extract_lets +onlyGivenNames x | split

theorem putRecord_changes (half : Nat) (type : Nat) (block : Nat) (count : Nat) {m' : Nat} (hm : Covers m' 0x400000)
    {u₀ u₁ : State} (hu : Changes m' u₀ u₁) : Changes m' u₀ (putRecord half type block count u₁) := by
  unfold putRecord
  repeat' first
    | with_reducible assumption | (fail_if_no_progress beta_reduce)
    | with_reducible refine programWord_changes _ _ (hm.trans (by decide)) ?_
    | (extract_lets +onlyGivenNames x; refine Changes.cut (a := Changes m' u₀ x) ?_ (fun hx => ?_) <;> [unfold x; clear_value x])
    | extract_lets +onlyGivenNames x

theorem wearOut_changes (b : Nat) {m' : Nat} (hm : Covers m' 0xce7defff) {u₀ u₁ : State} (hu : Changes m' u₀ u₁) :
    Changes m' u₀ (wearOut b u₁) := by
  unfold wearOut
  repeat' first
    | with_reducible assumption | with_reducible refine pcFault_changes _ _ (hm.trans (by decide)) ?_
    | (fail_if_no_progress (with_reducible refine Changes.put_efl (hm.bit (by decide)) ?_ ?_) <;> [(first | exact id | exact fun h0 => keysUp_tins _ _ h0 | exact fun h0 => keysUp_filter _ h0); skip])

theorem eraseTries_changes (half : Nat) (b : Nat) (n : Nat) {m' : Nat} (hm : Covers m' 0xce7defff) {u₀ u₁ : State} (hu :
    Changes m' u₀ u₁) : Changes m' u₀ (eraseTries half b n u₁) := by
  induction n generalizing u₁ with
  | zero => exact wearOut_changes _ (hm.trans (by decide)) hu
  | succ n ih =>
    unfold eraseTries
    extract_lets c w bad v
    have hv : Changes m' u₀ v := nextFree_changes (hm.trans (by decide)) (putRecord_changes _ _ _ _ (hm.trans (by decide))
      (wipeBlock_changes _ (hm.trans (by decide)) (putRecord_changes _ _ _ _ (hm.trans (by decide)) hu)))
    clear_value v bad
    split
    · exact ih (hv.put_efl (hm.bit (by decide)) id)
    · exact hv

theorem eraseIn_changes (half : Nat) (b : Nat) {m' : Nat} (hm : Covers m' 0xce7defff) {u₀ u₁ : State} (hu : Changes
    m' u₀ u₁) : Changes m' u₀ (eraseIn half u₁ b) := by
  unfold eraseIn
  repeat' first
    | with_reducible assumption | with_reducible refine eflResult_changes _ _ (hm.trans (by decide)) ?_
    | with_reducible refine eraseTries_changes _ _ _ (hm.trans (by decide)) ?_ | with_reducible apply Changes.ite
    | split

theorem journalRoom_changes {m' : Nat} (hm : Covers m' 0xce7defff) {u₀ u₁ : State} (hu : Changes m' u₀ u₁) : Changes
    m' u₀ (journalRoom u₁) := by
  unfold journalRoom
  repeat' first
    | with_reducible assumption | (fail_if_no_progress beta_reduce)
    | with_reducible refine putRecord_changes _ _ _ _ (hm.trans (by decide)) ?_
    | with_reducible refine eraseIn_changes _ _ (hm.trans (by decide)) ?_ | with_reducible apply Changes.ite
    | (with_reducible refine Changes.foldl ?_ (fun v y hv => ?_))
    | (extract_lets +onlyGivenNames x; refine Changes.cut (a := Changes m' u₀ x) ?_ (fun hx => ?_) <;> [unfold x; clear_value x])
    | extract_lets +onlyGivenNames x | split

theorem journal_changes (type : Nat) (block : Nat) (count : Nat) {m' : Nat} (hm : Covers m' 0xce7defff) {u₀ u₁ :
    State} (hu : Changes m' u₀ u₁) : Changes m' u₀ (journal type block count u₁) := by
  unfold journal
  repeat' first
    | with_reducible assumption | (fail_if_no_progress beta_reduce)
    | with_reducible refine journalRoom_changes (hm.trans (by decide)) ?_
    | with_reducible refine putRecord_changes _ _ _ _ (hm.trans (by decide)) ?_
    | (extract_lets +onlyGivenNames x; refine Changes.cut (a := Changes m' u₀ x) ?_ (fun hx => ?_) <;> [unfold x; clear_value x])
    | extract_lets +onlyGivenNames x

theorem eraseNow_changes (b : Nat) {m' : Nat} (hm : Covers m' 0xce7defff) {u₀ u₁ : State} (hu : Changes m' u₀ u₁) :
    Changes m' u₀ (eraseNow u₁ b) := by
  unfold eraseNow
  repeat' first
    | with_reducible assumption | (fail_if_no_progress beta_reduce)
    | with_reducible refine journalRoom_changes (hm.trans (by decide)) ?_
    | with_reducible refine eraseIn_changes _ _ (hm.trans (by decide)) ?_
    | (extract_lets +onlyGivenNames x; refine Changes.cut (a := Changes m' u₀ x) ?_ (fun hx => ?_) <;> [unfold x; clear_value x])
    | extract_lets +onlyGivenNames x

theorem writeEntry_changes (kind : Nat) (h : Nat) (i : Nat) (l : List Nat) {m' : Nat} (hm : Covers m' 0x400000) {u₀
    u₁ : State} (hu : Changes m' u₀ u₁) : Changes m' u₀ (writeEntry kind h i l u₁) := by
  unfold writeEntry
  repeat' first
    | with_reducible assumption | (fail_if_no_progress beta_reduce)
    | with_reducible refine programWord_changes _ _ (hm.trans (by decide)) ?_ | with_reducible apply Changes.ite
    | (with_reducible refine Changes.foldl ?_ (fun v y hv => ?_))
    | split

theorem commitEntry_changes (kind : Nat) (payload : List Nat) {m' : Nat} (hm : Covers m' 0xce7defff) {u₀ u₁ : State}
    (hu : Changes m' u₀ u₁) : Changes m' u₀ (commitEntry kind payload u₁) := by
  unfold commitEntry
  repeat' first
    | with_reducible assumption | (fail_if_no_progress beta_reduce)
    | with_reducible refine writeEntry_changes _ _ _ _ (hm.trans (by decide)) ?_
    | with_reducible refine eraseNow_changes _ (hm.trans (by decide)) ?_ | with_reducible apply Changes.ite
    | (extract_lets +onlyGivenNames x; refine Changes.cut (a := Changes m' u₀ x) ?_ (fun hx => ?_) <;> [unfold x; clear_value x])
    | extract_lets +onlyGivenNames x | split

theorem zeroEntry_changes (kind : Nat) (h : Nat) (i : Nat) {m' : Nat} (hm : Covers m' 0x400000) {u₀ u₁ : State} (hu
    : Changes m' u₀ u₁) : Changes m' u₀ (zeroEntry kind h i u₁) := by
  unfold zeroEntry
  repeat' first
    | with_reducible assumption | (fail_if_no_progress beta_reduce)
    | with_reducible refine programWord_changes _ _ (hm.trans (by decide)) ?_
    | (with_reducible refine Changes.foldl ?_ (fun v y hv => ?_))
    | split

theorem voidTorn_changes (kind : Nat) {m' : Nat} (hm : Covers m' 0x400000) {u₀ u₁ : State} (hu : Changes m' u₀ u₁) :
    Changes m' u₀ (voidTorn kind u₁) := by
  unfold voidTorn
  repeat' first
    | with_reducible assumption | (fail_if_no_progress beta_reduce)
    | with_reducible refine zeroEntry_changes _ _ _ (hm.trans (by decide)) ?_ | with_reducible apply Changes.ite
    | (with_reducible refine Changes.foldl ?_ (fun v y hv => ?_))
    | split

theorem markNewest_changes (kind : Nat) (j : Nat) (v : Nat) {m' : Nat} (hm : Covers m' 0x400000) {u₀ u₁ : State} (hu
    : Changes m' u₀ u₁) : Changes m' u₀ (markNewest kind j v u₁) := by
  unfold markNewest
  repeat' first
    | with_reducible assumption | with_reducible refine programWord_changes _ _ (hm.trans (by decide)) ?_
    | split

theorem rewriteBlock_changes (b : Nat) (ws : List (Nat × Nat)) {m' : Nat} (hm : Covers m' 0xce7defff) {u₀ u₁ :
    State} (hu : Changes m' u₀ u₁) : Changes m' u₀ (rewriteBlock b ws u₁) := by
  unfold rewriteBlock
  repeat' first
    | with_reducible assumption | (fail_if_no_progress beta_reduce)
    | with_reducible refine programWord_changes _ _ (hm.trans (by decide)) ?_
    | with_reducible refine eraseNow_changes _ (hm.trans (by decide)) ?_ | with_reducible apply Changes.ite
    | (with_reducible refine Changes.foldl ?_ (fun v y hv => ?_))
    | (extract_lets +onlyGivenNames x; refine Changes.cut (a := Changes m' u₀ x) ?_ (fun hx => ?_) <;> [unfold x; clear_value x])
    | extract_lets +onlyGivenNames x | split

theorem writeLsa_changes (offset : Nat) (data : List Byte) {m' : Nat} (hm : Covers m' 0xce7defff) {u₀ u₁ : State}
    (hu : Changes m' u₀ u₁) : Changes m' u₀ (writeLsa offset data u₁) := by
  unfold writeLsa
  repeat' first
    | with_reducible assumption | (fail_if_no_progress beta_reduce)
    | with_reducible refine rewriteBlock_changes _ _ (hm.trans (by decide)) ?_ | with_reducible apply Changes.ite
    | (with_reducible refine Changes.foldl ?_ (fun v y hv => ?_))
    | (extract_lets +onlyGivenNames x; refine Changes.cut (a := Changes m' u₀ x) ?_ (fun hx => ?_) <;> [unfold x; clear_value x])
    | extract_lets +onlyGivenNames x | split

/-! ### Cache -/

theorem poisonAtRestore_changes (g : Nat) {m' : Nat} (hm : Covers m' 0x40000cc1) {u₀ u₁ : State} (hu : Changes m' u₀
    u₁) : Changes m' u₀ (poisonAtRestore g u₁) := by
  unfold poisonAtRestore
  repeat' first
    | with_reducible assumption | with_reducible refine poisonGranule_changes _ (hm.trans (by decide)) ?_
    | with_reducible refine postEvent_changes _ _ _ _ (hm.trans (by decide)) ?_
    | (fail_if_no_progress with_reducible refine Changes.put_restore (hm.bit (by decide)) ?_)
    | (extract_lets +onlyGivenNames x; refine Changes.cut (a := Changes m' u₀ x) ?_ (fun hx => ?_) <;> [unfold x; clear_value x])
    | extract_lets +onlyGivenNames x

theorem checkComplete_changes {m' : Nat} (hm : Covers m' 0x40000480) {u₀ u₁ : State} (hu : Changes m' u₀ u₁) :
    Changes m' u₀ (checkComplete u₁) := by
  unfold checkComplete
  repeat' first
    | with_reducible assumption | (fail_if_no_progress beta_reduce)
    | with_reducible refine msix_changes _ (hm.trans (by decide)) ?_ | with_reducible apply Changes.ite
    | (fail_if_no_progress with_reducible refine Changes.put_restore (hm.bit (by decide)) ?_)
    | (extract_lets +onlyGivenNames x; refine Changes.cut (a := Changes m' u₀ x) ?_ (fun hx => ?_) <;> [unfold x; clear_value x])
    | extract_lets +onlyGivenNames x | split

theorem loadGranule_changes (g : Nat) (a b : CopyRead) {m' : Nat} (hm : Covers m' 0xce0c0ceb) {u₀ u₁ : State} (hu :
    Changes m' u₀ u₁) : Changes m' u₀ (loadGranule g a b u₁) := by
  unfold loadGranule
  repeat' first
    | with_reducible assumption | with_reducible refine readCopies_changes _ _ _ (hm.trans (by decide)) ?_
    | with_reducible refine setEntry_changes _ _ (hm.trans (by decide)) ?_
    | with_reducible refine placeCopy_changes _ _ (hm.trans (by decide)) ?_
    | with_reducible refine engineFault_changes _ _ (hm.trans (by decide)) ?_
    | with_reducible refine poisonAtRestore_changes _ (hm.trans (by decide)) ?_ | with_reducible apply Changes.ite
    | (fail_if_no_progress with_reducible refine Changes.put_restore (hm.bit (by decide)) ?_)
    | (extract_lets +onlyGivenNames x; refine Changes.cut (a := Changes m' u₀ x) ?_ (fun hx => ?_) <;> [unfold x; clear_value x])
    | extract_lets +onlyGivenNames x | split

theorem answerRead_changes (tag dpa : Nat) {m' : Nat} (hm : Covers m' 0xc2000000) {u₀ u₁ : State} (hu : Changes m'
    u₀ u₁) : Changes m' u₀ (answerRead tag dpa u₁) := by
  unfold answerRead
  repeat' first
    | with_reducible assumption | with_reducible refine sampleFree_changes _ _ (hm.trans (by decide)) ?_
    | with_reducible refine emit_changes _ (hm.trans (by decide)) ?_
    | with_reducible refine nextFree_changes (hm.trans (by decide)) ?_ | with_reducible apply Changes.ite
    | (extract_lets +onlyGivenNames x; refine Changes.cut (a := Changes m' u₀ x) ?_ (fun hx => ?_) <;> [unfold x; clear_value x])
    | extract_lets +onlyGivenNames x | split

theorem joinFetch_changes (g : Nat) (f : Fetch → Fetch) {m' : Nat} (hm : Covers m' 0x81) {u₀ u₁ : State} (hu :
    Changes m' u₀ u₁) : Changes m' u₀ (joinFetch g f u₁) := by
  unfold joinFetch
  repeat' first
    | with_reducible assumption | (fail_if_no_progress beta_reduce) | with_reducible apply Changes.ite
    | (fail_if_no_progress (with_reducible refine Changes.put_cache (hm.bit (by decide)) ?_ ?_) <;> [(first | exact id | exact fun (h0 : CacheSound _) => ⟨h0.channels, h0.poison, h0.map, h0.caps⟩ | exact fun (h0 : CacheSound _) => ⟨h0.channels, rfl, h0.map, h0.caps⟩ | exact fun (h0 : CacheSound _) => ⟨h0.channels, h0.poison, rfl, h0.caps⟩ | exact fun (h0 : CacheSound _) => ⟨by simpa [modAt] using h0.channels, h0.poison, h0.map, h0.caps⟩ | exact fun (h0 : CacheSound _) => ⟨h0.channels, tableOk_tput _ _ _ _ none h0.poison (by simp), h0.map, h0.caps⟩ | exact fun (h0 : CacheSound _) => ⟨h0.channels, h0.poison, keysUp_tput _ _ _ h0.map, h0.caps⟩ | exact fun (h0 : CacheSound _) => ⟨h0.channels, h0.poison, h0.map, keysUp_tput _ _ _ h0.caps⟩ | exact fun (h0 : CacheSound _) => ⟨rfl, h0.poison, h0.map, h0.caps⟩ | exact fun _ => CacheSound.fresh rfl rfl rfl rfl); skip])
    | (fail_if_no_progress with_reducible refine Changes.put_restore (hm.bit (by decide)) ?_)
    | (fail_if_no_progress with_reducible apply Changes.parts <;> first | exact hm.skip (by decide) | exact fun (h0 : CacheSound _) => ⟨h0.channels, h0.poison, h0.map, h0.caps⟩ | exact fun (h0 : CacheSound _) => ⟨h0.channels, rfl, h0.map, h0.caps⟩ | exact fun (h0 : CacheSound _) => ⟨h0.channels, h0.poison, rfl, h0.caps⟩ | exact fun (h0 : CacheSound _) => ⟨h0.channels, tableOk_tput _ _ _ _ none h0.poison (by simp), h0.map, h0.caps⟩ | exact fun (h0 : CacheSound _) => ⟨h0.channels, h0.poison, keysUp_tput _ _ _ h0.map, h0.caps⟩ | exact fun (h0 : CacheSound _) => ⟨h0.channels, h0.poison, h0.map, keysUp_tput _ _ _ h0.caps⟩ | exact fun (h0 : CacheSound _) => ⟨rfl, h0.poison, h0.map, h0.caps⟩ | exact fun _ => CacheSound.fresh rfl rfl rfl rfl | exact fun _ => rfl | exact id | exact fun (h0 : CacheSound _) => ⟨by simpa [modAt] using h0.channels, h0.poison, h0.map, h0.caps⟩ | skip)
    | extract_lets +onlyGivenNames x | split

theorem tailEnds_changes {m' : Nat} (hm : Covers m' 0xce3defff) {u₀ u₁ : State} (hu : Changes m' u₀ u₁) : Changes m'
    u₀ (tailEnds u₁) := by
  unfold tailEnds
  repeat' first
    | with_reducible assumption
    | (with_reducible refine withAbort_changes _ (hm.trans (by decide)) (fun v hv => ?_) ?_)
    | with_reducible refine endExercise_changes _ (hm.trans (by decide)) ?_ | with_reducible apply Changes.ite
    | split

theorem tailHeld_changes {m' : Nat} (hm : Covers m' 0xce3defff) {u₀ u₁ : State} (hu : Changes m' u₀ u₁) : Changes m'
    u₀ (tailHeld u₁) := by
  unfold tailHeld
  repeat' first
    | with_reducible assumption | with_reducible refine evaluate_changes (hm.trans (by decide)) ?_
    | with_reducible refine tailEnds_changes (hm.trans (by decide)) ?_ | with_reducible apply Changes.ite
    | split

theorem holdWrite_changes (w : HeldWrite) {m' : Nat} (hm : Covers m' 0xce3defff) {u₀ u₁ : State} (hu : Changes m' u₀
    u₁) : Changes m' u₀ (holdWrite w u₁) := by
  unfold holdWrite
  repeat' first
    | with_reducible assumption | with_reducible refine evaluate_changes (hm.trans (by decide)) ?_
    | with_reducible refine tailEnds_changes (hm.trans (by decide)) ?_
    | (fail_if_no_progress with_reducible refine Changes.put_stg (hm.bit (by decide)) ?_)

theorem admitBudget_changes (w : HeldWrite) {m' : Nat} (hm : Covers m' 0xce3defff) {u₀ u₁ : State} (hu : Changes m'
    u₀ u₁) : Changes m' u₀ (admitBudget w u₁) := by
  unfold admitBudget
  repeat' first
    | with_reducible assumption | (fail_if_no_progress beta_reduce)
    | with_reducible refine commit_changes _ (hm.trans (by decide)) ?_
    | with_reducible refine evaluate_changes (hm.trans (by decide)) ?_
    | with_reducible refine holdWrite_changes _ (hm.trans (by decide)) ?_ | with_reducible apply Changes.ite
    | (extract_lets +onlyGivenNames x; refine Changes.cut (a := Changes m' u₀ x) ?_ (fun hx => ?_) <;> [unfold x; clear_value x])
    | extract_lets +onlyGivenNames x | split

theorem admitWrite_changes (w : HeldWrite) {m' : Nat} (hm : Covers m' 0xce3defff) {u₀ u₁ : State} (hu : Changes m'
    u₀ u₁) : Changes m' u₀ (admitWrite w u₁) := by
  unfold admitWrite
  repeat' first
    | with_reducible assumption | (fail_if_no_progress beta_reduce)
    | with_reducible refine commit_changes _ (hm.trans (by decide)) ?_
    | with_reducible refine joinCapQueue_changes _ _ (hm.trans (by decide)) ?_
    | with_reducible refine evaluate_changes (hm.trans (by decide)) ?_
    | with_reducible refine tailEnds_changes (hm.trans (by decide)) ?_
    | with_reducible refine admitBudget_changes _ (hm.trans (by decide)) ?_ | with_reducible apply Changes.ite
    | (extract_lets +onlyGivenNames x; refine Changes.cut (a := Changes m' u₀ x) ?_ (fun hx => ?_) <;> [unfold x; clear_value x])
    | extract_lets +onlyGivenNames x | split

theorem serveWrite_changes (w : HeldWrite) {m' : Nat} (hm : Covers m' 0xce3defff) {u₀ u₁ : State} (hu : Changes m'
    u₀ u₁) : Changes m' u₀ (serveWrite w u₁) := by
  unfold serveWrite
  repeat' first
    | with_reducible assumption | (fail_if_no_progress beta_reduce)
    | with_reducible refine discardShed_changes _ (hm.trans (by decide)) ?_
    | with_reducible refine joinFetch_changes _ _ (hm.trans (by decide)) ?_
    | with_reducible refine admitWrite_changes _ (hm.trans (by decide)) ?_ | with_reducible apply Changes.ite
    | (extract_lets +onlyGivenNames x; refine Changes.cut (a := Changes m' u₀ x) ?_ (fun hx => ?_) <;> [unfold x; clear_value x])
    | extract_lets +onlyGivenNames x | split

theorem serveRead_changes (r : ReadReq) {m' : Nat} (hm : Covers m' 0xce0c00eb) {u₀ u₁ : State} (hu : Changes m' u₀
    u₁) : Changes m' u₀ (serveRead r u₁) := by
  unfold serveRead
  repeat' first
    | with_reducible assumption | (fail_if_no_progress beta_reduce)
    | with_reducible refine joinFetch_changes _ _ (hm.trans (by decide)) ?_
    | with_reducible refine answerRead_changes _ _ (hm.trans (by decide)) ?_
    | with_reducible refine lineRead_changes _ _ _ _ (hm.trans (by decide)) ?_ | with_reducible apply Changes.ite
    | (extract_lets +onlyGivenNames x; refine Changes.cut (a := Changes m' u₀ x) ?_ (fun hx => ?_) <;> [unfold x; clear_value x])
    | extract_lets +onlyGivenNames x | split

theorem mapRead_changes (g : Nat) (m : MapAcc) {m' : Nat} (hm : Covers m' 0x4c0c04e1) {u₀ u₁ : State} (hu : Changes
    m' u₀ u₁) : Changes m' u₀ (mapRead g m u₁) := by
  unfold mapRead
  repeat' first
    | with_reducible assumption | with_reducible refine engineFault_changes _ _ (hm.trans (by decide)) ?_
    | with_reducible refine checkComplete_changes (hm.trans (by decide)) ?_
    | with_reducible refine poisonGranule_changes _ (hm.trans (by decide)) ?_
    | with_reducible refine countCe_changes _ (hm.trans (by decide)) ?_
    | with_reducible refine dirtyBlockUe_changes _ (hm.trans (by decide)) ?_
    | with_reducible refine countUe_changes _ (hm.trans (by decide)) ?_
    | with_reducible refine locationBlockUe_changes _ (hm.trans (by decide)) ?_
    | split

theorem serveReq_changes (r : HostReq) {m' : Nat} (hm : Covers m' 0xce3defff) {u₀ u₁ : State} (hu : Changes m' u₀
    u₁) : Changes m' u₀ (serveReq u₁ r) := by
  unfold serveReq
  repeat' first
    | with_reducible assumption | with_reducible refine serveWrite_changes _ (hm.trans (by decide)) ?_
    | with_reducible refine mapRead_changes _ _ (hm.trans (by decide)) ?_
    | with_reducible refine serveRead_changes _ (hm.trans (by decide)) ?_
    | split

theorem releaseWaiting_changes {m' : Nat} (hm : Covers m' 0xce3defff) {u₀ u₁ : State} (hu : Changes m' u₀ u₁) :
    Changes m' u₀ (releaseWaiting u₁) := by
  unfold releaseWaiting
  repeat' first
    | with_reducible assumption | (fail_if_no_progress beta_reduce)
    | with_reducible refine evaluate_changes (hm.trans (by decide)) ?_
    | with_reducible refine tailHeld_changes (hm.trans (by decide)) ?_
    | with_reducible refine serveReq_changes _ (hm.trans (by decide)) ?_ | with_reducible apply Changes.ite
    | (with_reducible refine Changes.foldl ?_ (fun v y hv => ?_))
    | (fail_if_no_progress (with_reducible refine Changes.put_cache (hm.bit (by decide)) ?_ ?_) <;> [(first | exact id | (intro h0; constructor <;> first | exact h0.channels | exact h0.poison | exact h0.map | exact h0.caps | rfl | exact tableOk_tput _ _ _ _ none h0.poison (by simp) | exact keysUp_tput _ _ _ h0.map | exact keysUp_tput _ _ _ h0.caps | simpa [modAt] using h0.channels)); skip])
    | (extract_lets +onlyGivenNames x; refine Changes.cut (a := Changes m' u₀ x) ?_ (fun hx => ?_) <;> [unfold x; clear_value x])
    | extract_lets +onlyGivenNames x | split

theorem serveFetch_changes (g : Nat) {m' : Nat} (hm : Covers m' 0xce3defff) {u₀ u₁ : State} (hu : Changes m' u₀ u₁)
    : Changes m' u₀ (serveFetch g u₁) := by
  unfold serveFetch
  repeat' first
    | with_reducible assumption | (fail_if_no_progress beta_reduce)
    | with_reducible refine sampleFree_changes _ _ (hm.trans (by decide)) ?_
    | with_reducible refine answerRead_changes _ _ (hm.trans (by decide)) ?_
    | with_reducible refine serveWrite_changes _ (hm.trans (by decide)) ?_
    | (with_reducible refine Changes.foldl ?_ (fun v y hv => ?_))
    | (fail_if_no_progress (with_reducible refine Changes.put_cache (hm.bit (by decide)) ?_ ?_) <;> [(first | exact id | (intro h0; constructor <;> first | exact h0.channels | exact h0.poison | exact h0.map | exact h0.caps | rfl | exact tableOk_tput _ _ _ _ none h0.poison (by simp) | exact keysUp_tput _ _ _ h0.map | exact keysUp_tput _ _ _ h0.caps | simpa [modAt] using h0.channels)); skip])
    | (extract_lets +onlyGivenNames x; refine Changes.cut (a := Changes m' u₀ x) ?_ (fun hx => ?_) <;> [unfold x; clear_value x])
    | extract_lets +onlyGivenNames x | split

theorem finishLoad_changes (g : Nat) (a b : CopyRead) {m' : Nat} (hm : Covers m' 0xce3defff) {u₀ u₁ : State} (hu :
    Changes m' u₀ u₁) : Changes m' u₀ (finishLoad g a b u₁) := by
  unfold finishLoad
  repeat' first
    | with_reducible assumption | with_reducible refine checkComplete_changes (hm.trans (by decide)) ?_
    | with_reducible refine serveFetch_changes _ (hm.trans (by decide)) ?_
    | with_reducible refine loadGranule_changes _ _ _ (hm.trans (by decide)) ?_

theorem unmapped_changes {m' : Nat} (hm : Covers m' 0x4c0c0420) {u₀ u₁ : State} (hu : Changes m' u₀ u₁) : Changes m'
    u₀ (unmapped u₁) := by
  unfold unmapped
  repeat' first
    | with_reducible assumption | with_reducible refine engineFault_changes _ _ (hm.trans (by decide)) ?_
    | (fail_if_no_progress with_reducible refine Changes.put_host (hm.bit (by decide)) ?_)
    | extract_lets +onlyGivenNames x

theorem execCxlMemWrite_changes (tag : Nat) (hpa : Nat) (data : Line) (be : BitVec 64) (poison : Bool) (burst :
    Burst) (map : MapAcc) (occ : Nat) {m' : Nat} (hm : Covers m' 0xce3defff) {u₀ u₁ : State} (hu : Changes m' u₀ u₁)
    : ChangesOut m' u₀ (execCxlMemWrite tag hpa data be poison burst map occ u₁) := by
  unfold execCxlMemWrite
  repeat' first
    | with_reducible assumption | (fail_if_no_progress beta_reduce) | with_reducible apply ChangesOut.next
    | with_reducible apply ChangesOut.ite | with_reducible refine emit_changes _ (hm.trans (by decide)) ?_
    | with_reducible refine unmapped_changes (hm.trans (by decide)) ?_
    | with_reducible refine tailHeld_changes (hm.trans (by decide)) ?_
    | with_reducible refine serveReq_changes _ (hm.trans (by decide)) ?_ | with_reducible apply Changes.ite
    | (fail_if_no_progress (with_reducible refine Changes.put_cache (hm.bit (by decide)) ?_ ?_) <;> [(first | exact id | (intro h0; constructor <;> first | exact h0.channels | exact h0.poison | exact h0.map | exact h0.caps | rfl | exact tableOk_tput _ _ _ _ none h0.poison (by simp) | exact keysUp_tput _ _ _ h0.map | exact keysUp_tput _ _ _ h0.caps | simpa [modAt] using h0.channels)); skip])
    | (fail_if_no_progress with_reducible refine Changes.put_host (hm.bit (by decide)) ?_)
    | (extract_lets +onlyGivenNames x; refine Changes.cut (a := Changes m' u₀ x) ?_ (fun hx => ?_) <;> [unfold x; clear_value x])
    | extract_lets +onlyGivenNames x | split

theorem execCxlMemRead_changes (tag : Nat) (hpa : Nat) (burst : Burst) (a : CopyRead) (b : CopyRead) (map : MapAcc)
    (occ : Nat) {m' : Nat} (hm : Covers m' 0xce3defff) {u₀ u₁ : State} (hu : Changes m' u₀ u₁) : ChangesOut m' u₀
    (execCxlMemRead tag hpa burst a b map occ u₁) := by
  unfold execCxlMemRead
  repeat' first
    | with_reducible assumption | (fail_if_no_progress beta_reduce) | with_reducible apply ChangesOut.next
    | with_reducible apply ChangesOut.ite | with_reducible refine emit_changes _ (hm.trans (by decide)) ?_
    | with_reducible refine nextFree_changes (hm.trans (by decide)) ?_
    | with_reducible refine unmapped_changes (hm.trans (by decide)) ?_
    | with_reducible refine serveReq_changes _ (hm.trans (by decide)) ?_ | with_reducible apply Changes.ite
    | (fail_if_no_progress (with_reducible refine Changes.put_cache (hm.bit (by decide)) ?_ ?_) <;> [(first | exact id | (intro h0; constructor <;> first | exact h0.channels | exact h0.poison | exact h0.map | exact h0.caps | rfl | exact tableOk_tput _ _ _ _ none h0.poison (by simp) | exact keysUp_tput _ _ _ h0.map | exact keysUp_tput _ _ _ h0.caps | simpa [modAt] using h0.channels)); skip])
    | (fail_if_no_progress with_reducible refine Changes.put_host (hm.bit (by decide)) ?_)
    | (extract_lets +onlyGivenNames x; refine Changes.cut (a := Changes m' u₀ x) ?_ (fun hx => ?_) <;> [unfold x; clear_value x])
    | extract_lets +onlyGivenNames x | split

theorem execHeldWriteRelease_changes {m' : Nat} (hm : Covers m' 0xce0c0c7b) {u₀ u₁ : State} (hu : Changes m' u₀ u₁)
    : ChangesOut m' u₀ (execHeldWriteRelease u₁) := by
  unfold execHeldWriteRelease
  repeat' first
    | with_reducible assumption | with_reducible apply ChangesOut.next | with_reducible apply ChangesOut.ite
    | with_reducible refine evaluate_changes (hm.trans (by decide)) ?_ | with_reducible apply Changes.ite
    | split

theorem execCapQueueRelease_changes (bolt : Nat) {m' : Nat} (hm : Covers m' 0xce3defff) {u₀ u₁ : State} (hu :
    Changes m' u₀ u₁) : ChangesOut m' u₀ (execCapQueueRelease bolt u₁) := by
  unfold execCapQueueRelease
  repeat' first
    | with_reducible assumption | with_reducible apply ChangesOut.next | with_reducible apply ChangesOut.ite
    | with_reducible refine discardShed_changes _ (hm.trans (by decide)) ?_
    | with_reducible refine sampleFree_changes _ _ (hm.trans (by decide)) ?_
    | with_reducible refine tailHeld_changes (hm.trans (by decide)) ?_
    | with_reducible refine admitBudget_changes _ (hm.trans (by decide)) ?_ | with_reducible apply Changes.ite
    | (fail_if_no_progress (with_reducible refine Changes.put_cache (hm.bit (by decide)) ?_ ?_) <;> [(first | exact id | (intro h0; constructor <;> first | exact h0.channels | exact h0.poison | exact h0.map | exact h0.caps | rfl | exact tableOk_tput _ _ _ _ none h0.poison (by simp) | exact keysUp_tput _ _ _ h0.map | exact keysUp_tput _ _ _ h0.caps | simpa [modAt] using h0.channels)); skip])
    | split

theorem execDemandFetchComplete_changes (granule : Nat) (a : CopyRead) (b : CopyRead) {m' : Nat} (hm : Covers m'
    0xce3defff) {u₀ u₁ : State} (hu : Changes m' u₀ u₁) : ChangesOut m' u₀ (execDemandFetchComplete granule a b u₁)
    := by
  unfold execDemandFetchComplete
  repeat' first
    | with_reducible assumption | with_reducible apply ChangesOut.next | with_reducible apply ChangesOut.ite
    | with_reducible refine tailHeld_changes (hm.trans (by decide)) ?_
    | with_reducible refine finishLoad_changes _ _ _ (hm.trans (by decide)) ?_ | with_reducible apply Changes.ite
    | split

theorem scrubTo_changes (line : Nat) {m' : Nat} (hm : Covers m' 0x1) {u₀ u₁ : State} (hu : Changes m' u₀ u₁) :
    Changes m' u₀ (scrubTo line u₁) := by
  unfold scrubTo
  repeat' first
    | with_reducible assumption | with_reducible apply Changes.ite
    | (fail_if_no_progress (with_reducible refine Changes.put_cache (hm.bit (by decide)) ?_ ?_) <;> [(first | exact id | (intro h0; constructor <;> first | exact h0.channels | exact h0.poison | exact h0.map | exact h0.caps | rfl | exact tableOk_tput _ _ _ _ none h0.poison (by simp) | exact keysUp_tput _ _ _ h0.map | exact keysUp_tput _ _ _ h0.caps | simpa [modAt] using h0.channels)); skip])
    | split

theorem execPatrolScrub_changes (burst : Burst) (a : CopyRead) (b : CopyRead) {m' : Nat} (hm : Covers m' 0xce0c04eb)
    {u₀ u₁ : State} (hu : Changes m' u₀ u₁) : ChangesOut m' u₀ (execPatrolScrub burst a b u₁) := by
  unfold execPatrolScrub
  repeat' first
    | with_reducible assumption | (fail_if_no_progress beta_reduce) | with_reducible apply ChangesOut.next
    | with_reducible apply ChangesOut.ite | with_reducible refine scrubTo_changes _ (hm.trans (by decide)) ?_
    | with_reducible refine lineRead_changes _ _ _ _ (hm.trans (by decide)) ?_
    | with_reducible refine countCe_changes _ (hm.trans (by decide)) ?_
    | with_reducible refine checkComplete_changes (hm.trans (by decide)) ?_
    | with_reducible refine mapRegionUe_changes _ (hm.trans (by decide)) ?_
    | with_reducible refine countUe_changes _ (hm.trans (by decide)) ?_ | with_reducible apply Changes.ite
    | (extract_lets +onlyGivenNames x; refine Changes.cut (a := Changes m' u₀ x) ?_ (fun hx => ?_) <;> [unfold x; clear_value x])
    | extract_lets +onlyGivenNames x | split

/-! ### Budget -/

theorem execBudgetEvalTick_changes {m' : Nat} (hm : Covers m' 0xce3defff) {u₀ u₁ : State} (hu : Changes m' u₀ u₁) :
    ChangesOut m' u₀ (execBudgetEvalTick u₁) := by
  unfold execBudgetEvalTick
  repeat' first
    | with_reducible assumption | with_reducible apply ChangesOut.next | with_reducible apply ChangesOut.ite
    | with_reducible refine tailHeld_changes (hm.trans (by decide)) ?_
    | with_reducible refine evaluate_changes (hm.trans (by decide)) ?_ | with_reducible apply Changes.ite | split

theorem execReefHoldMaxExpiry_changes (tag : Nat) {m' : Nat} (hm : Covers m' 0x4c0c0020) {u₀ u₁ : State} (hu :
    Changes m' u₀ u₁) : ChangesOut m' u₀ (execReefHoldMaxExpiry tag u₁) := by
  unfold execReefHoldMaxExpiry
  repeat' first
    | with_reducible assumption | with_reducible apply ChangesOut.next | with_reducible apply ChangesOut.ite
    | with_reducible refine engineFault_changes _ _ (hm.trans (by decide)) ?_ | with_reducible apply Changes.ite
    | split

theorem execBudgetRecoverExpiry_changes {m' : Nat} (hm : Covers m' 0x4c0c0020) {u₀ u₁ : State} (hu : Changes m' u₀
    u₁) : ChangesOut m' u₀ (execBudgetRecoverExpiry u₁) := by
  unfold execBudgetRecoverExpiry
  repeat' first
    | with_reducible assumption | with_reducible apply ChangesOut.next | with_reducible apply ChangesOut.ite
    | with_reducible refine engineFault_changes _ _ (hm.trans (by decide)) ?_ | with_reducible apply Changes.ite
    | split

theorem execEpbRecomputeTick_changes {m' : Nat} (hm : Covers m' 0xce0c0c7b) {u₀ u₁ : State} (hu : Changes m' u₀ u₁)
    : ChangesOut m' u₀ (execEpbRecomputeTick u₁) := by
  unfold execEpbRecomputeTick
  repeat' first
    | with_reducible assumption | with_reducible apply ChangesOut.next | with_reducible apply ChangesOut.ite
    | with_reducible refine recompute_changes (hm.trans (by decide)) ?_ | with_reducible apply Changes.ite | split

theorem execGovTokenTick_changes {m' : Nat} (hm : Covers m' 0x10) {u₀ u₁ : State} (hu : Changes m' u₀ u₁) :
    ChangesOut m' u₀ (execGovTokenTick u₁) := by
  unfold execGovTokenTick
  repeat' first
    | with_reducible assumption | with_reducible apply ChangesOut.next | with_reducible apply ChangesOut.ite
    | with_reducible apply Changes.ite
    | (fail_if_no_progress with_reducible refine Changes.put_stg (hm.bit (by decide)) ?_)
    | (extract_lets +onlyGivenNames x; refine Changes.cut (a := Changes m' u₀ x) ?_ (fun hx => ?_) <;> [unfold x; clear_value x])
    | extract_lets +onlyGivenNames x | split

theorem execEnergyFrame_changes (hdr : FrameHdr) (eGuar soc drawn : Nat) {m' : Nat} (hm : Covers m' 0xce0c0c7b) {u₀
    u₁ : State} (hu : Changes m' u₀ u₁) : ChangesOut m' u₀ (execEnergyFrame hdr eGuar soc drawn u₁) := by
  unfold execEnergyFrame
  repeat' first
    | with_reducible assumption | with_reducible apply ChangesOut.next | with_reducible apply ChangesOut.ite
    | with_reducible refine receive_changes _ _ (hm.trans (by decide)) ?_
    | with_reducible refine evaluate_changes (hm.trans (by decide)) ?_
    | with_reducible refine engineClear_changes _ (hm.trans (by decide)) ?_ | with_reducible apply Changes.ite
    | (fail_if_no_progress with_reducible refine Changes.put_stg (hm.bit (by decide)) ?_)
    | (extract_lets +onlyGivenNames x; refine Changes.cut (a := Changes m' u₀ x) ?_ (fun hx => ?_) <;> [unfold x; clear_value x])
    | extract_lets +onlyGivenNames x | split

theorem execEnergyStaleExpiry_changes {m' : Nat} (hm : Covers m' 0xce0c0c7b) {u₀ u₁ : State} (hu : Changes m' u₀ u₁)
    : ChangesOut m' u₀ (execEnergyStaleExpiry u₁) := by
  unfold execEnergyStaleExpiry
  repeat' first
    | with_reducible assumption | with_reducible apply ChangesOut.next | with_reducible apply ChangesOut.ite
    | with_reducible refine evaluate_changes (hm.trans (by decide)) ?_
    | with_reducible refine engineFault_changes _ _ (hm.trans (by decide)) ?_ | with_reducible apply Changes.ite
    | (fail_if_no_progress with_reducible refine Changes.put_stg (hm.bit (by decide)) ?_)
    | extract_lets +onlyGivenNames x | split

/-! ### Vault -/

theorem vinBad_changes {m' : Nat} (hm : Covers m' 0xce3dffff) {u₀ u₁ : State} (hu : Changes m' u₀ u₁) : Changes m'
    u₀ (vinBad u₁) := by
  unfold vinBad
  repeat' first
    | with_reducible assumption | (fail_if_no_progress beta_reduce)
    | with_reducible refine inhibitCharger_changes (hm.trans (by decide)) ?_
    | (with_reducible refine withAbort_changes _ (hm.trans (by decide)) (fun v hv => ?_) ?_)
    | with_reducible refine endExercise_changes _ (hm.trans (by decide)) ?_ | with_reducible apply Changes.ite
    | (fail_if_no_progress with_reducible refine Changes.put_vin (hm.bit (by decide)) ?_)
    | (fail_if_no_progress with_reducible refine Changes.put_chg (hm.bit (by decide)) ?_)
    | (extract_lets +onlyGivenNames x; refine Changes.cut (a := Changes m' u₀ x) ?_ (fun hx => ?_) <;> [unfold x; clear_value x])
    | extract_lets +onlyGivenNames x | split

theorem readVin_changes (samples : List Nat) (below : Bool) {m' : Nat} (hm : Covers m' 0xce3dffff) {u₀ u₁ : State}
    (hu : Changes m' u₀ u₁) : Changes m' u₀ (readVin samples below u₁) := by
  unfold readVin
  repeat' first
    | with_reducible assumption | (fail_if_no_progress beta_reduce)
    | with_reducible refine vinBad_changes (hm.trans (by decide)) ?_ | with_reducible apply Changes.ite
    | (fail_if_no_progress with_reducible refine Changes.put_vin (hm.bit (by decide)) ?_)
    | (extract_lets +onlyGivenNames x; refine Changes.cut (a := Changes m' u₀ x) ?_ (fun hx => ?_) <;> [unfold x; clear_value x])
    | extract_lets +onlyGivenNames x | split

theorem execEarlyWarning_changes (samples : List Nat) (below : Bool) (level : Bool) {m' : Nat} (hm : Covers m'
    0xce3dffff) {u₀ u₁ : State} (hu : Changes m' u₀ u₁) : ChangesOut m' u₀ (execEarlyWarning samples below level u₁)
    := by
  unfold execEarlyWarning
  repeat' first
    | with_reducible assumption | (fail_if_no_progress beta_reduce) | with_reducible apply ChangesOut.next
    | with_reducible apply ChangesOut.ite | with_reducible refine readVin_changes _ _ (hm.trans (by decide)) ?_
    | with_reducible refine sendFrame_changes _ _ (hm.trans (by decide)) ?_ | with_reducible apply Changes.ite
    | (fail_if_no_progress with_reducible refine Changes.put_vin (hm.bit (by decide)) ?_)
    | (extract_lets +onlyGivenNames x; refine Changes.cut (a := Changes m' u₀ x) ?_ (fun hx => ?_) <;> [unfold x; clear_value x])
    | extract_lets +onlyGivenNames x | split

theorem execSpecAbandonExpiry_changes (samples : List Nat) (below : Bool) {m' : Nat} (hm : Covers m' 0xce3dffff) {u₀
    u₁ : State} (hu : Changes m' u₀ u₁) : ChangesOut m' u₀ (execSpecAbandonExpiry samples below u₁) := by
  unfold execSpecAbandonExpiry
  repeat' first
    | with_reducible assumption | (fail_if_no_progress beta_reduce) | with_reducible apply ChangesOut.next
    | with_reducible apply ChangesOut.ite | with_reducible refine readVin_changes _ _ (hm.trans (by decide)) ?_
    | with_reducible refine sendFrame_changes _ _ (hm.trans (by decide)) ?_ | with_reducible apply Changes.ite
    | (fail_if_no_progress with_reducible refine Changes.put_vin (hm.bit (by decide)) ?_)
    | (extract_lets +onlyGivenNames x; refine Changes.cut (a := Changes m' u₀ x) ?_ (fun hx => ?_) <;> [unfold x; clear_value x])
    | extract_lets +onlyGivenNames x | split

theorem execWarningFrame_changes (hdr : FrameHdr) {m' : Nat} (hm : Covers m' 0x4c000028) {u₀ u₁ : State} (hu :
    Changes m' u₀ u₁) : ChangesOut m' u₀ (execWarningFrame hdr u₁) := by
  unfold execWarningFrame
  repeat' first
    | with_reducible assumption | (fail_if_no_progress beta_reduce) | with_reducible apply ChangesOut.next
    | with_reducible apply ChangesOut.ite | with_reducible refine receive_changes _ _ (hm.trans (by decide)) ?_
    | with_reducible refine setVault_changes _ (hm.trans (by decide)) ?_ | with_reducible apply Changes.ite
    | (fail_if_no_progress (with_reducible refine Changes.put_nand (hm.bit (by decide)) ?_ ?_) <;> [(first | exact id | (intro h0; constructor <;> first | exact h0.channels | exact h0.targets | exact h0.blocks | exact keysUp_tmod _ _ _ h0.channels | exact keysUp_tmod _ _ _ h0.targets | exact keysUp_tmod _ _ _ h0.blocks | exact keysUp_tins _ _ h0.blocks | exact keysUp_filter _ h0.targets | exact keysUp_map _ h0.channels (fun _ => rfl) | exact keysUp_map _ h0.targets (fun _ => rfl) | exact keysUp_map _ h0.blocks (fun e => by try beta_reduce; (try split) <;> rfl))); skip])
    | (fail_if_no_progress with_reducible refine Changes.put_vlt (hm.bit (by decide)) ?_)
    | (fail_if_no_progress with_reducible apply Changes.parts <;> first | exact hm.skip (by decide) | exact fun _ => rfl | exact id | (first | exact id | (intro h0; constructor <;> first | exact h0.channels | exact h0.targets | exact h0.blocks | exact keysUp_tmod _ _ _ h0.channels | exact keysUp_tmod _ _ _ h0.targets | exact keysUp_tmod _ _ _ h0.blocks | exact keysUp_tins _ _ h0.blocks | exact keysUp_filter _ h0.targets | exact keysUp_map _ h0.channels (fun _ => rfl) | exact keysUp_map _ h0.targets (fun _ => rfl) | exact keysUp_map _ h0.blocks (fun e => by try beta_reduce; (try split) <;> rfl))) | skip)
    | (extract_lets +onlyGivenNames x; refine Changes.cut (a := Changes m' u₀ x) ?_ (fun hx => ?_) <;> [unfold x; clear_value x])
    | extract_lets +onlyGivenNames x | split

theorem execAbandonFrame_changes (hdr : FrameHdr) {m' : Nat} (hm : Covers m' 0xce000039) {u₀ u₁ : State} (hu :
    Changes m' u₀ u₁) : ChangesOut m' u₀ (execAbandonFrame hdr u₁) := by
  unfold execAbandonFrame
  repeat' first
    | with_reducible assumption | (fail_if_no_progress beta_reduce) | with_reducible apply ChangesOut.next
    | with_reducible apply ChangesOut.ite | with_reducible refine receive_changes _ _ (hm.trans (by decide)) ?_
    | with_reducible refine abandon_changes (hm.trans (by decide)) ?_ | with_reducible apply Changes.ite
    | (fail_if_no_progress with_reducible refine Changes.put_vlt (hm.bit (by decide)) ?_)
    | (extract_lets +onlyGivenNames x; refine Changes.cut (a := Changes m' u₀ x) ?_ (fun hx => ?_) <;> [unfold x; clear_value x])
    | extract_lets +onlyGivenNames x | split

theorem execSpecMaxExpiry_changes {m' : Nat} (hm : Covers m' 0xce0c0039) {u₀ u₁ : State} (hu : Changes m' u₀ u₁) :
    ChangesOut m' u₀ (execSpecMaxExpiry u₁) := by
  unfold execSpecMaxExpiry
  repeat' first
    | with_reducible assumption | (fail_if_no_progress beta_reduce) | with_reducible apply ChangesOut.next
    | with_reducible apply ChangesOut.ite | with_reducible refine abandon_changes (hm.trans (by decide)) ?_
    | with_reducible refine engineFault_changes _ _ (hm.trans (by decide)) ?_ | with_reducible apply Changes.ite
    | (fail_if_no_progress with_reducible refine Changes.put_vlt (hm.bit (by decide)) ?_)
    | (extract_lets +onlyGivenNames x; refine Changes.cut (a := Changes m' u₀ x) ?_ (fun hx => ?_) <;> [unfold x; clear_value x])
    | extract_lets +onlyGivenNames x | split

theorem execPfFilterExpiry_changes (vin : Nat) (comparator : Bool) (sampler : Bool) {m' : Nat} (hm : Covers m'
    0xce3dffff) {u₀ u₁ : State} (hu : Changes m' u₀ u₁) : ChangesOut m' u₀ (execPfFilterExpiry vin comparator
    sampler u₁) := by
  unfold execPfFilterExpiry
  repeat' first
    | with_reducible assumption | (fail_if_no_progress beta_reduce) | with_reducible apply ChangesOut.next
    | with_reducible apply ChangesOut.ite | with_reducible refine pcClear_changes _ (hm.trans (by decide)) ?_
    | with_reducible refine confirmVault_changes _ (hm.trans (by decide)) ?_
    | with_reducible refine vinBad_changes (hm.trans (by decide)) ?_ | with_reducible apply Changes.ite
    | (fail_if_no_progress with_reducible refine Changes.put_vin (hm.bit (by decide)) ?_)
    | (extract_lets +onlyGivenNames x; refine Changes.cut (a := Changes m' u₀ x) ?_ (fun hx => ?_) <;> [unfold x; clear_value x])
    | extract_lets +onlyGivenNames x | split

theorem execInputOvervoltage_changes (above : Bool) {m' : Nat} (hm : Covers m' 0xce3dffff) {u₀ u₁ : State} (hu :
    Changes m' u₀ u₁) : ChangesOut m' u₀ (execInputOvervoltage above u₁) := by
  unfold execInputOvervoltage
  repeat' first
    | with_reducible assumption | (fail_if_no_progress beta_reduce) | with_reducible apply ChangesOut.next
    | with_reducible apply ChangesOut.ite | with_reducible refine confirmVault_changes _ (hm.trans (by decide)) ?_
    | with_reducible refine vinBad_changes (hm.trans (by decide)) ?_ | with_reducible apply Changes.ite
    | (fail_if_no_progress with_reducible refine Changes.put_vin (hm.bit (by decide)) ?_)
    | (extract_lets +onlyGivenNames x; refine Changes.cut (a := Changes m' u₀ x) ?_ (fun hx => ?_) <;> [unfold x; clear_value x])
    | extract_lets +onlyGivenNames x | split

theorem execStewardVaultRequest_changes {m' : Nat} (hm : Covers m' 0xce3defff) {u₀ u₁ : State} (hu : Changes m' u₀
    u₁) : ChangesOut m' u₀ (execStewardVaultRequest u₁) := by
  unfold execStewardVaultRequest
  repeat' first
    | with_reducible assumption | with_reducible apply ChangesOut.next | with_reducible apply ChangesOut.ite
    | with_reducible refine confirmVault_changes _ (hm.trans (by decide)) ?_ | with_reducible apply Changes.ite
    | split

theorem vreqSeen_changes {m' : Nat} (hm : Covers m' 0xce3defff) {u₀ u₁ : State} (hu : Changes m' u₀ u₁) : Changes m'
    u₀ (vreqSeen u₁) := by
  unfold vreqSeen
  repeat' first
    | with_reducible assumption
    | (with_reducible refine withAbort_changes _ (hm.trans (by decide)) (fun v hv => ?_) ?_)
    | with_reducible refine confirm_changes _ _ (hm.trans (by decide)) ?_
    | with_reducible refine confirmVault_changes _ (hm.trans (by decide)) ?_ | with_reducible apply Changes.ite
    | split

theorem execVreqActive_changes {m' : Nat} (hm : Covers m' 0xce3defff) {u₀ u₁ : State} (hu : Changes m' u₀ u₁) :
    ChangesOut m' u₀ (execVreqActive u₁) := by
  unfold execVreqActive
  repeat' first
    | with_reducible assumption | with_reducible apply ChangesOut.next | with_reducible apply ChangesOut.ite
    | with_reducible refine vreqSeen_changes (hm.trans (by decide)) ?_ | with_reducible apply Changes.ite | split

theorem pfSeen_changes {m' : Nat} (hm : Covers m' 0xce3defff) {u₀ u₁ : State} (hu : Changes m' u₀ u₁) : Changes m'
    u₀ (pfSeen u₁) := by
  unfold pfSeen
  repeat' first
    | with_reducible assumption | (fail_if_no_progress beta_reduce)
    | with_reducible refine releaseWaiting_changes (hm.trans (by decide)) ?_
    | with_reducible refine seePf_changes (hm.trans (by decide)) ?_
    | with_reducible refine drivePair_changes _ _ (hm.trans (by decide)) ?_
    | with_reducible refine recordConfirm_changes _ _ (hm.trans (by decide)) ?_
    | with_reducible refine confirmInReset_changes _ _ (hm.trans (by decide)) ?_ | with_reducible apply Changes.ite
    | (extract_lets +onlyGivenNames x; refine Changes.cut (a := Changes m' u₀ x) ?_ (fun hx => ?_) <;> [unfold x; clear_value x])
    | extract_lets +onlyGivenNames x | split

theorem execPfActive_changes {m' : Nat} (hm : Covers m' 0xce3defff) {u₀ u₁ : State} (hu : Changes m' u₀ u₁) :
    ChangesOut m' u₀ (execPfActive u₁) := by
  unfold execPfActive
  repeat' first
    | with_reducible assumption | with_reducible apply ChangesOut.next | with_reducible apply ChangesOut.ite
    | with_reducible refine pfSeen_changes (hm.trans (by decide)) ?_ | with_reducible apply Changes.ite | split

theorem windowShed_changes {m' : Nat} (hm : Covers m' 0x4342213) {u₀ u₁ : State} (hu : Changes m' u₀ u₁) : Changes
    m' u₀ (windowShed u₁) := by
  unfold windowShed
  repeat' first
    | with_reducible assumption | with_reducible refine shedOnce_changes (hm.trans (by decide)) ?_
    | with_reducible apply Changes.ite
    | split

theorem execWindowExpiry_changes {m' : Nat} (hm : Covers m' 0xce3caf73) {u₀ u₁ : State} (hu : Changes m' u₀ u₁) :
    ChangesOut m' u₀ (execWindowExpiry u₁) := by
  unfold execWindowExpiry
  repeat' first
    | with_reducible assumption | with_reducible apply ChangesOut.next | with_reducible apply ChangesOut.ite
    | with_reducible refine windowShed_changes (hm.trans (by decide)) ?_
    | with_reducible refine fenceFailing_changes _ (hm.trans (by decide)) ?_ | with_reducible apply Changes.ite
    | split

theorem execManifestBuild_changes {m' : Nat} (hm : Covers m' 0x4c0c0030) {u₀ u₁ : State} (hu : Changes m' u₀ u₁) :
    ChangesOut m' u₀ (execManifestBuild u₁) := by
  unfold execManifestBuild
  repeat' first
    | with_reducible assumption | with_reducible apply ChangesOut.next | with_reducible apply ChangesOut.ite
    | with_reducible refine scheduleManifest_changes (hm.trans (by decide)) ?_ | with_reducible apply Changes.ite
    | split

theorem askSnapshot_changes {m' : Nat} (hm : Covers m' 0x4c000040) {u₀ u₁ : State} (hu : Changes m' u₀ u₁) : Changes
    m' u₀ (askSnapshot u₁) := by
  unfold askSnapshot
  repeat' first
    | with_reducible assumption | with_reducible refine sendFrame_changes _ _ (hm.trans (by decide)) ?_
    | (fail_if_no_progress with_reducible refine Changes.put_drain (hm.bit (by decide)) ?_)
    | extract_lets +onlyGivenNames x

theorem selectDrain_changes (reads : CopyReads) {m' : Nat} (hm : Covers m' 0xce0c007b) {u₀ u₁ : State} (hu : Changes
    m' u₀ u₁) : Changes m' u₀ (selectDrain reads u₁) := by
  unfold selectDrain
  repeat' first
    | with_reducible assumption | (fail_if_no_progress beta_reduce)
    | with_reducible refine openNew_changes _ (hm.trans (by decide)) ?_
    | with_reducible refine takeGranule_changes _ _ _ _ (hm.trans (by decide)) ?_
    | with_reducible refine closeEpoch_changes _ (hm.trans (by decide)) ?_
    | with_reducible refine modEpoch_changes _ _ (hm.trans (by decide)) ?_
    | with_reducible refine askSnapshot_changes (hm.trans (by decide)) ?_ | with_reducible apply Changes.ite
    | (with_reducible refine Changes.foldl ?_ (fun v y hv => ?_))
    | (fail_if_no_progress with_reducible refine Changes.put_drain (hm.bit (by decide)) ?_)
    | (extract_lets +onlyGivenNames x; refine Changes.cut (a := Changes m' u₀ x) ?_ (fun hx => ?_) <;> [unfold x; clear_value x])
    | extract_lets +onlyGivenNames x | split

theorem beginSeal_changes {m' : Nat} (hm : Covers m' 0x4c0c0870) {u₀ u₁ : State} (hu : Changes m' u₀ u₁) : Changes
    m' u₀ (beginSeal u₁) := by
  unfold beginSeal
  repeat' first
    | with_reducible assumption | with_reducible refine scheduleManifest_changes (hm.trans (by decide)) ?_
    | (fail_if_no_progress with_reducible refine Changes.put_stg (hm.bit (by decide)) ?_)
    | (fail_if_no_progress with_reducible refine Changes.put_drain (hm.bit (by decide)) ?_)
    | (fail_if_no_progress (with_reducible refine Changes.put_mbx (hm.bit (by decide)) ?_ ?_) <;> [(first | exact id | exact fun (h0 : EventLogsSound _) => ⟨h0.four, h0.records⟩); skip])
    | (fail_if_no_progress with_reducible apply Changes.parts <;> first | exact hm.skip (by decide) | exact fun (h0 : EventLogsSound _) => ⟨h0.four, h0.records⟩ | exact fun _ => rfl | exact id | skip)
    | extract_lets +onlyGivenNames x

theorem selectSystem_changes (reads : CopyReads) {m' : Nat} (hm : Covers m' 0x4c0c0071) {u₀ u₁ : State} (hu :
    Changes m' u₀ u₁) : Changes m' u₀ (selectSystem reads u₁) := by
  unfold selectSystem
  repeat' first
    | with_reducible assumption | (fail_if_no_progress beta_reduce)
    | with_reducible refine regionReads_changes _ (hm.trans (by decide)) ?_
    | with_reducible refine openNew_changes _ (hm.trans (by decide)) ?_
    | with_reducible refine closeEpoch_changes _ (hm.trans (by decide)) ?_
    | with_reducible refine modEpoch_changes _ _ (hm.trans (by decide)) ?_ | with_reducible apply Changes.ite
    | (fail_if_no_progress with_reducible refine Changes.put_stg (hm.bit (by decide)) ?_)
    | (fail_if_no_progress with_reducible refine Changes.put_drain (hm.bit (by decide)) ?_)
    | (fail_if_no_progress with_reducible apply Changes.parts <;> first | exact hm.skip (by decide) | exact fun _ => rfl | exact id | skip)
    | (extract_lets +onlyGivenNames x; refine Changes.cut (a := Changes m' u₀ x) ?_ (fun hx => ?_) <;> [unfold x; clear_value x])
    | extract_lets +onlyGivenNames x | split

theorem execDrainSelect_changes (reads : CopyReads) {m' : Nat} (hm : Covers m' 0xce0c007b) {u₀ u₁ : State} (hu :
    Changes m' u₀ u₁) : ChangesOut m' u₀ (execDrainSelect reads u₁) := by
  unfold execDrainSelect
  repeat' first
    | with_reducible assumption | with_reducible apply ChangesOut.next | with_reducible apply ChangesOut.ite
    | with_reducible refine selectDrain_changes _ (hm.trans (by decide)) ?_
    | with_reducible refine selectSystem_changes _ (hm.trans (by decide)) ?_ | with_reducible apply Changes.ite
    | (fail_if_no_progress with_reducible refine Changes.put_stg (hm.bit (by decide)) ?_)
    | (fail_if_no_progress with_reducible refine Changes.put_drain (hm.bit (by decide)) ?_)
    | (fail_if_no_progress with_reducible apply Changes.parts <;> first | exact hm.skip (by decide) | exact fun _ => rfl | exact id | skip)
    | split

theorem execLogSnapshotDone_changes (ok : Bool) {m' : Nat} (hm : Covers m' 0x64) {u₀ u₁ : State} (hu : Changes m' u₀
    u₁) : ChangesOut m' u₀ (execLogSnapshotDone ok u₁) := by
  unfold execLogSnapshotDone
  repeat' first
    | with_reducible assumption | (fail_if_no_progress beta_reduce) | with_reducible apply ChangesOut.next
    | with_reducible apply ChangesOut.ite | with_reducible refine logEvent_changes _ _ _ (hm.trans (by decide)) ?_
    | with_reducible apply Changes.ite
    | (fail_if_no_progress with_reducible refine Changes.put_vlt (hm.bit (by decide)) ?_)
    | (fail_if_no_progress with_reducible refine Changes.put_drain (hm.bit (by decide)) ?_)
    | (extract_lets +onlyGivenNames x; refine Changes.cut (a := Changes m' u₀ x) ?_ (fun hx => ?_) <;> [unfold x; clear_value x])
    | extract_lets +onlyGivenNames x | split

theorem beginHeld_changes (afterVault : Bool) (finalFail : Bool) {m' : Nat} (hm : Covers m' 0x80) {u₀ u₁ : State}
    (hu : Changes m' u₀ u₁) : Changes m' u₀ (beginHeld afterVault finalFail u₁) := by
  unfold beginHeld
  repeat' first
    | with_reducible assumption
    | (fail_if_no_progress with_reducible refine Changes.put_restore (hm.bit (by decide)) ?_)

theorem normalRate_changes {m' : Nat} (hm : Covers m' 0x1) {u₀ u₁ : State} (hu : Changes m' u₀ u₁) : Changes m' u₀
    (normalRate u₁) := by
  unfold normalRate
  repeat' first
    | with_reducible assumption | (fail_if_no_progress beta_reduce)
    | (fail_if_no_progress (with_reducible refine Changes.put_cache (hm.bit (by decide)) ?_ ?_) <;> [(first | exact id | exact fun (h0 : CacheSound _) => ⟨h0.channels, h0.poison, h0.map, h0.caps⟩ | exact fun (h0 : CacheSound _) => ⟨h0.channels, rfl, h0.map, h0.caps⟩ | exact fun (h0 : CacheSound _) => ⟨h0.channels, h0.poison, rfl, h0.caps⟩ | exact fun (h0 : CacheSound _) => ⟨by simpa [modAt] using h0.channels, h0.poison, h0.map, h0.caps⟩ | exact fun (h0 : CacheSound _) => ⟨h0.channels, tableOk_tput _ _ _ _ none h0.poison (by simp), h0.map, h0.caps⟩ | exact fun (h0 : CacheSound _) => ⟨h0.channels, h0.poison, keysUp_tput _ _ _ h0.map, h0.caps⟩ | exact fun (h0 : CacheSound _) => ⟨h0.channels, h0.poison, h0.map, keysUp_tput _ _ _ h0.caps⟩ | exact fun (h0 : CacheSound _) => ⟨rfl, h0.poison, h0.map, h0.caps⟩ | exact fun _ => CacheSound.fresh rfl rfl rfl rfl); skip])
    | extract_lets +onlyGivenNames x

theorem returnToService_changes (failed : Bool) {m' : Nat} (hm : Covers m' 0x4c0427a1) {u₀ u₁ : State} (hu : Changes
    m' u₀ u₁) : Changes m' u₀ (returnToService failed u₁) := by
  unfold returnToService
  repeat' first
    | with_reducible assumption | with_reducible refine beginHeld_changes _ _ (hm.trans (by decide)) ?_
    | with_reducible refine beginSeq_changes _ (hm.trans (by decide)) ?_
    | with_reducible refine normalRate_changes (hm.trans (by decide)) ?_
    | with_reducible refine setVault_changes _ (hm.trans (by decide)) ?_
    | (fail_if_no_progress with_reducible refine Changes.put_host (hm.bit (by decide)) ?_)
    | (extract_lets +onlyGivenNames x; refine Changes.cut (a := Changes m' u₀ x) ?_ (fun hx => ?_) <;> [unfold x; clear_value x])
    | extract_lets +onlyGivenNames x

theorem afterFinal_changes (failed : Bool) {m' : Nat} (hm : Covers m' 0xce3c2fbf) {u₀ u₁ : State} (hu : Changes m'
    u₀ u₁) : Changes m' u₀ (afterFinal failed u₁) := by
  unfold afterFinal
  repeat' first
    | with_reducible assumption | with_reducible refine vaultOver_changes (hm.trans (by decide)) ?_
    | with_reducible refine beginWarm_changes _ (hm.trans (by decide)) ?_
    | with_reducible refine returnToService_changes _ (hm.trans (by decide)) ?_
    | with_reducible refine enterHold_changes (hm.trans (by decide)) ?_
    | with_reducible refine enterOff_changes (hm.trans (by decide)) ?_ | with_reducible apply Changes.ite
    | (fail_if_no_progress with_reducible refine Changes.put_restore (hm.bit (by decide)) ?_)
    | (fail_if_no_progress with_reducible refine Changes.put_warm (hm.bit (by decide)) ?_)
    | (fail_if_no_progress with_reducible apply Changes.parts <;> first | exact hm.skip (by decide) | exact fun _ => rfl | exact id | skip)
    | (extract_lets +onlyGivenNames x; refine Changes.cut (a := Changes m' u₀ x) ?_ (fun hx => ?_) <;> [unfold x; clear_value x])
    | extract_lets +onlyGivenNames x | split

theorem observeEpb_changes {m' : Nat} (hm : Covers m' 0x4c4c0030) {u₀ u₁ : State} (hu : Changes m' u₀ u₁) : Changes
    m' u₀ (observeEpb u₁) := by
  unfold observeEpb
  repeat' first
    | with_reducible assumption | (fail_if_no_progress beta_reduce)
    | with_reducible refine stewardWrite_changes _ (hm.trans (by decide)) ?_
    | with_reducible refine engineFault_changes _ _ (hm.trans (by decide)) ?_ | with_reducible apply Changes.ite
    | (fail_if_no_progress with_reducible refine Changes.put_stg (hm.bit (by decide)) ?_)
    | (extract_lets +onlyGivenNames x; refine Changes.cut (a := Changes m' u₀ x) ?_ (fun hx => ?_) <;> [unfold x; clear_value x])
    | extract_lets +onlyGivenNames x | split

theorem sealDone_changes (e : Epoch) {m' : Nat} (hm : Covers m' 0xce3defff) {u₀ u₁ : State} (hu : Changes m' u₀ u₁)
    : Changes m' u₀ (sealDone e u₁) := by
  unfold sealDone
  repeat' first
    | with_reducible assumption | (fail_if_no_progress beta_reduce)
    | (with_reducible refine withAbort_changes _ (hm.trans (by decide)) (fun v hv => ?_) ?_)
    | with_reducible refine endExercise_changes _ (hm.trans (by decide)) ?_
    | with_reducible refine tailHeld_changes (hm.trans (by decide)) ?_
    | with_reducible refine evaluate_changes (hm.trans (by decide)) ?_
    | with_reducible refine finishBackground_changes _ (hm.trans (by decide)) ?_ | with_reducible apply Changes.ite
    | (fail_if_no_progress with_reducible refine Changes.put_drain (hm.bit (by decide)) ?_)
    | (fail_if_no_progress with_reducible refine Changes.put_restore (hm.bit (by decide)) ?_)
    | (fail_if_no_progress (with_reducible refine Changes.put_mbx (hm.bit (by decide)) ?_ ?_) <;> [(first | exact id | exact fun (h0 : EventLogsSound _) => ⟨h0.four, h0.records⟩); skip])
    | (fail_if_no_progress with_reducible refine Changes.put_chg (hm.bit (by decide)) ?_)
    | (fail_if_no_progress with_reducible refine Changes.put_warm (hm.bit (by decide)) ?_)
    | (fail_if_no_progress with_reducible apply Changes.parts <;> first | exact hm.skip (by decide) | exact fun _ => rfl | exact id | (first | exact id | exact fun (h0 : EventLogsSound _) => ⟨h0.four, h0.records⟩) | skip)
    | (extract_lets +onlyGivenNames x; refine Changes.cut (a := Changes m' u₀ x) ?_ (fun hx => ?_) <;> [unfold x; clear_value x])
    | extract_lets +onlyGivenNames x | split

theorem finalVerified_changes (e : Epoch) (slot : Nat) {m' : Nat} (hm : Covers m' 0xce7defff)
    {u₀ u₁ : State} (hu : Changes m' u₀ u₁) : Changes m' u₀ (finalVerified e slot u₁) := by
  unfold finalVerified
  extract_lets +onlyGivenNames a b
  have ha : Changes m' u₀ a := resolve_changes _ _ (hm.trans (by decide)) hu
  clear_value a
  have hb : Changes m' u₀ b := writeRoots_changes (hm.trans (by decide)) (writeDirectory_changes (hm.trans (by decide)) ha)
  clear_value b
  split
  · exact sealDone_changes _ (hm.trans (by decide)) hb
  · refine afterFinal_changes _ (hm.trans (by decide)) (normalSetpoint_changes (hm.trans (by decide))
      (observeEpb_changes (hm.trans (by decide)) ?_))
    apply Changes.parts
    all_goals first
      | exact hm.skip (by decide)
      | exact fun _ => rfl
      | exact hb
      | exact id
      | exact fun h => ⟨h.four, h.records⟩

theorem sealFailed_changes {m' : Nat} (hm : Covers m' 0xce3defff) {u₀ u₁ : State} (hu : Changes m' u₀ u₁) : Changes
    m' u₀ (sealFailed u₁) := by
  unfold sealFailed
  repeat' first
    | with_reducible assumption | with_reducible refine finishBackground_changes _ (hm.trans (by decide)) ?_
    | (with_reducible refine withAbort_changes _ (hm.trans (by decide)) (fun v hv => ?_) ?_)
    | with_reducible refine endExercise_changes _ (hm.trans (by decide)) ?_ | with_reducible apply Changes.ite
    | split

theorem finalFailed_changes (e : Epoch) {m' : Nat} (hm : Covers m' 0xce3defff) {u₀ u₁ : State} (hu : Changes m' u₀
    u₁) : Changes m' u₀ (finalFailed e u₁) := by
  unfold finalFailed
  repeat' first
    | with_reducible assumption | (fail_if_no_progress beta_reduce)
    | with_reducible refine modEpoch_changes _ _ (hm.trans (by decide)) ?_
    | with_reducible refine engineFault_changes _ _ (hm.trans (by decide)) ?_
    | with_reducible refine dropEpoch_changes _ (hm.trans (by decide)) ?_
    | with_reducible refine sealFailed_changes (hm.trans (by decide)) ?_
    | with_reducible refine afterFinal_changes _ (hm.trans (by decide)) ?_
    | with_reducible refine normalSetpoint_changes (hm.trans (by decide)) ?_ | with_reducible apply Changes.ite
    | (fail_if_no_progress with_reducible refine Changes.put_drain (hm.bit (by decide)) ?_)
    | (extract_lets +onlyGivenNames x; refine Changes.cut (a := Changes m' u₀ x) ?_ (fun hx => ?_) <;> [unfold x; clear_value x])
    | extract_lets +onlyGivenNames x | split

theorem programFinal_changes (e : Epoch) (ptr : Nat) (ptrB : Nat) (result : NandResult) (resultB : NandResult) {m' :
    Nat} (hm : Covers m' 0xce3defff) {u₀ u₁ : State} (hu : Changes m' u₀ u₁) : Changes m' u₀ (programFinal e ptr
    ptrB result resultB u₁) := by
  unfold programFinal
  repeat' first
    | with_reducible assumption | (fail_if_no_progress beta_reduce)
    | with_reducible refine programKnot_changes _ _ _ _ _ _ (hm.trans (by decide)) ?_
    | with_reducible refine modEpoch_changes _ _ (hm.trans (by decide)) ?_
    | with_reducible refine finalFailed_changes _ (hm.trans (by decide)) ?_ | with_reducible apply Changes.ite
    | (fail_if_no_progress with_reducible refine Changes.put_drain (hm.bit (by decide)) ?_)
    | (extract_lets +onlyGivenNames x; refine Changes.cut (a := Changes m' u₀ x) ?_ (fun hx => ?_) <;> [unfold x; clear_value x])
    | extract_lets +onlyGivenNames x | split

theorem execFinalKnotProgram_changes (ptr : Nat) (ptrB : Nat) (result : NandResult) (resultB : NandResult) {m' :
    Nat} (hm : Covers m' 0xce3defff) {u₀ u₁ : State} (hu : Changes m' u₀ u₁) : ChangesOut m' u₀
    (execFinalKnotProgram ptr ptrB result resultB u₁) := by
  unfold execFinalKnotProgram
  repeat' first
    | with_reducible assumption | (fail_if_no_progress beta_reduce) | with_reducible apply ChangesOut.next
    | with_reducible apply ChangesOut.ite | with_reducible refine openNew_changes _ (hm.trans (by decide)) ?_
    | with_reducible refine closeEpoch_changes _ (hm.trans (by decide)) ?_
    | with_reducible refine programFinal_changes _ _ _ _ _ (hm.trans (by decide)) ?_
    | with_reducible apply Changes.ite
    | (fail_if_no_progress with_reducible refine Changes.put_drain (hm.bit (by decide)) ?_)
    | (extract_lets +onlyGivenNames x; refine Changes.cut (a := Changes m' u₀ x) ?_ (fun hx => ?_) <;> [unfold x; clear_value x])
    | extract_lets +onlyGivenNames x | split

theorem afterKnot_changes (e : Epoch) (slot : Nat) {m' : Nat} (hm : Covers m' 0xce000078) {u₀ u₁ : State} (hu :
    Changes m' u₀ u₁) : Changes m' u₀ (afterKnot e slot u₁) := by
  unfold afterKnot
  repeat' first
    | with_reducible assumption | (fail_if_no_progress beta_reduce)
    | with_reducible refine startCkpt_changes (hm.trans (by decide)) ?_
    | with_reducible refine writeDirectory_changes (hm.trans (by decide)) ?_
    | with_reducible refine askSnapshot_changes (hm.trans (by decide)) ?_
    | with_reducible refine sampleSince_changes _ _ _ (hm.trans (by decide)) ?_
    | with_reducible refine setVault_changes _ (hm.trans (by decide)) ?_ | with_reducible apply Changes.ite
    | (fail_if_no_progress with_reducible refine Changes.put_stg (hm.bit (by decide)) ?_)
    | (fail_if_no_progress with_reducible refine Changes.put_drain (hm.bit (by decide)) ?_)
    | (extract_lets +onlyGivenNames x; refine Changes.cut (a := Changes m' u₀ x) ?_ (fun hx => ?_) <;> [unfold x; clear_value x])
    | extract_lets +onlyGivenNames x | split

theorem afterStray_changes (e : Epoch) {m' : Nat} (hm : Covers m' 0xc2000808) {u₀ u₁ : State} (hu : Changes m' u₀
    u₁) : Changes m' u₀ (afterStray e u₁) := by
  unfold afterStray
  repeat' first
    | with_reducible assumption | with_reducible refine writeRoots_changes (hm.trans (by decide)) ?_
    | with_reducible refine writeDirectory_changes (hm.trans (by decide)) ?_
    | (fail_if_no_progress (with_reducible refine Changes.put_mbx (hm.bit (by decide)) ?_ ?_) <;> [(first | exact id | exact fun (h0 : EventLogsSound _) => ⟨h0.four, h0.records⟩); skip])
    | split

theorem knotVerified_changes (e : Epoch) (slot : Nat) {m' : Nat} (hm : Covers m' 0xce7defff) {u₀ u₁ : State} (hu :
    Changes m' u₀ u₁) : Changes m' u₀ (knotVerified e slot u₁) := by
  unfold knotVerified
  repeat' first
    | with_reducible assumption | with_reducible refine afterStray_changes _ (hm.trans (by decide)) ?_
    | with_reducible refine resolve_changes _ _ (hm.trans (by decide)) ?_
    | with_reducible refine finalVerified_changes _ _ (hm.trans (by decide)) ?_
    | with_reducible refine afterKnot_changes _ _ (hm.trans (by decide)) ?_ | with_reducible apply Changes.ite
    | split

theorem knotFailed_changes (e : Epoch) {m' : Nat} (hm : Covers m' 0xce3defff) {u₀ u₁ : State} (hu : Changes m' u₀
    u₁) : Changes m' u₀ (knotFailed e u₁) := by
  unfold knotFailed
  repeat' first
    | with_reducible assumption | with_reducible refine finalFailed_changes _ (hm.trans (by decide)) ?_
    | with_reducible refine failKnot_changes _ _ (hm.trans (by decide)) ?_ | with_reducible apply Changes.ite
    | split

theorem spoilKnot_changes (slot : Nat) (a : CopyRead) (b : CopyRead) {m' : Nat} (hm : Covers m' 0x8) {u₀ u₁ : State}
    (hu : Changes m' u₀ u₁) : Changes m' u₀ (spoilKnot slot a b u₁) := by
  unfold spoilKnot
  repeat' first
    | with_reducible assumption | (fail_if_no_progress beta_reduce) | with_reducible apply Changes.ite
    | (fail_if_no_progress (with_reducible refine Changes.put_nand (hm.bit (by decide)) ?_ ?_) <;> [(first | exact id | (intro h0; constructor <;> first | exact h0.channels | exact h0.targets | exact h0.blocks | exact keysUp_tmod _ _ _ h0.channels | exact keysUp_tmod _ _ _ h0.targets | exact keysUp_tmod _ _ _ h0.blocks | exact keysUp_tins _ _ h0.blocks | exact keysUp_filter _ h0.targets | exact keysUp_map _ h0.channels (fun _ => rfl) | exact keysUp_map _ h0.targets (fun _ => rfl) | exact keysUp_map _ h0.blocks (fun e => by try beta_reduce; (try split) <;> rfl))); skip])
    | split

theorem spoilVoid_changes (epoch : Nat) (slot : Nat) (a : CopyRead) (b : CopyRead) {m' : Nat} (hm : Covers m' 0x8)
    {u₀ u₁ : State} (hu : Changes m' u₀ u₁) : Changes m' u₀ (spoilVoid epoch slot a b u₁) := by
  unfold spoilVoid
  repeat' first
    | with_reducible assumption | (fail_if_no_progress beta_reduce) | with_reducible apply Changes.ite
    | (fail_if_no_progress (with_reducible refine Changes.put_nand (hm.bit (by decide)) ?_ ?_) <;> [(first | exact id | (intro h0; constructor <;> first | exact h0.channels | exact h0.targets | exact h0.blocks | exact keysUp_tmod _ _ _ h0.channels | exact keysUp_tmod _ _ _ h0.targets | exact keysUp_tmod _ _ _ h0.blocks | exact keysUp_tins _ _ h0.blocks | exact keysUp_filter _ h0.targets | exact keysUp_map _ h0.channels (fun _ => rfl) | exact keysUp_map _ h0.targets (fun _ => rfl) | exact keysUp_map _ h0.blocks (fun e => by try beta_reduce; (try split) <;> rfl))); skip])
    | split

theorem readBack_changes (slot : Nat) (other : Nat) (a : CopyRead) (b : CopyRead) {m' : Nat} (hm : Covers m'
    0xc2000008) {u₀ u₁ : State} (hu : Changes m' u₀ u₁) : Changes m' u₀ (readBack slot other a b u₁) := by
  unfold readBack
  repeat' first
    | with_reducible assumption | with_reducible refine countCopyRead_changes _ _ (hm.trans (by decide)) ?_

theorem voidReadback_changes (epoch : Nat) (a : CopyRead) (b : CopyRead) {m' : Nat} (hm : Covers m' 0xce0c0038) {u₀
    u₁ : State} (hu : Changes m' u₀ u₁) : Changes m' u₀ (voidReadback epoch a b u₁) := by
  unfold voidReadback
  repeat' first
    | with_reducible assumption | (fail_if_no_progress beta_reduce)
    | with_reducible refine spoilVoid_changes _ _ _ _ (hm.trans (by decide)) ?_
    | with_reducible refine readBack_changes _ _ _ _ (hm.trans (by decide)) ?_
    | with_reducible refine writeVoid_changes _ (hm.trans (by decide)) ?_
    | with_reducible refine engineFault_changes _ _ (hm.trans (by decide)) ?_ | with_reducible apply Changes.ite
    | (fail_if_no_progress with_reducible refine Changes.put_stg (hm.bit (by decide)) ?_)
    | (extract_lets +onlyGivenNames x; refine Changes.cut (a := Changes m' u₀ x) ?_ (fun hx => ?_) <;> [unfold x; clear_value x])
    | extract_lets +onlyGivenNames x | split

theorem execKnotReadback_changes (epoch : Nat) (a : CopyRead) (b : CopyRead) {m' : Nat} (hm : Covers m' 0xce7defff)
    {u₀ u₁ : State} (hu : Changes m' u₀ u₁) : ChangesOut m' u₀ (execKnotReadback epoch a b u₁) := by
  unfold execKnotReadback
  repeat' first
    | with_reducible assumption | (fail_if_no_progress beta_reduce) | with_reducible apply ChangesOut.next
    | with_reducible apply ChangesOut.ite | with_reducible refine spoilKnot_changes _ _ _ (hm.trans (by decide)) ?_
    | with_reducible refine readBack_changes _ _ _ _ (hm.trans (by decide)) ?_
    | with_reducible refine knotVerified_changes _ _ (hm.trans (by decide)) ?_
    | with_reducible refine knotFailed_changes _ (hm.trans (by decide)) ?_
    | with_reducible refine voidReadback_changes _ _ _ (hm.trans (by decide)) ?_ | with_reducible apply Changes.ite
    | (extract_lets +onlyGivenNames x; refine Changes.cut (a := Changes m' u₀ x) ?_ (fun hx => ?_) <;> [unfold x; clear_value x])
    | extract_lets +onlyGivenNames x | split

theorem execKnotTimeout_changes (epoch : Nat) {m' : Nat} (hm : Covers m' 0xce3defff) {u₀ u₁ : State} (hu : Changes
    m' u₀ u₁) : ChangesOut m' u₀ (execKnotTimeout epoch u₁) := by
  unfold execKnotTimeout
  repeat' first
    | with_reducible assumption | with_reducible apply ChangesOut.next | with_reducible apply ChangesOut.ite
    | with_reducible refine knotFailed_changes _ (hm.trans (by decide)) ?_ | with_reducible apply Changes.ite
    | split

theorem execHoldMaxExpiry_changes {m' : Nat} (hm : Covers m' 0x4c3422b3) {u₀ u₁ : State} (hu : Changes m' u₀ u₁) :
    ChangesOut m' u₀ (execHoldMaxExpiry u₁) := by
  unfold execHoldMaxExpiry
  repeat' first
    | with_reducible assumption | with_reducible apply ChangesOut.next | with_reducible apply ChangesOut.ite
    | with_reducible refine enterOff_changes (hm.trans (by decide)) ?_ | with_reducible apply Changes.ite | split

theorem execStoreFloorReached_changes {m' : Nat} (hm : Covers m' 0x4c3462b3) {u₀ u₁ : State} (hu : Changes m' u₀ u₁)
    : ChangesOut m' u₀ (execStoreFloorReached u₁) := by
  unfold execStoreFloorReached
  repeat' first
    | with_reducible assumption | with_reducible apply ChangesOut.next | with_reducible apply ChangesOut.ite
    | with_reducible refine enterOff_changes (hm.trans (by decide)) ?_
    | with_reducible refine setHoldup_changes _ (hm.trans (by decide)) ?_ | with_reducible apply Changes.ite
    | (fail_if_no_progress with_reducible refine Changes.put_cell (hm.bit (by decide)) ?_)
    | (extract_lets +onlyGivenNames x; refine Changes.cut (a := Changes m' u₀ x) ?_ (fun hx => ?_) <;> [unfold x; clear_value x])
    | extract_lets +onlyGivenNames x | split

end Sys2Proof.Machine
end

