-- ==== Sys2Proof/Laws/ChangesHost.lean ====
section
/-! SUPPORT. The frames of restore, selvedge, host interface and mailbox. -/

set_option linter.all false
set_option linter.unusedTactic false
set_option linter.unreachableTactic false

namespace Sys2Proof.Machine

/-! ### Restore -/

theorem cutBlocks_changes (t : Nat) (cut : List Nat) {m' : Nat} (hm : Covers m' 0x8) {u₀ u₁ : State} (hu : Changes
    m' u₀ u₁) : Changes m' u₀ (cutBlocks t cut u₁) := by
  unfold cutBlocks
  repeat' first
    | with_reducible assumption | (fail_if_no_progress beta_reduce)
    | with_reducible refine modBlock_changes _ _ (hm.trans (by decide)) ?_
    | (with_reducible refine Changes.foldl ?_ (fun v y hv => ?_))
    | (fail_if_no_progress (with_reducible refine Changes.put_nand (hm.bit (by decide)) ?_ ?_) <;> [(first | exact id | (intro h0; constructor <;> first | exact h0.channels | exact h0.targets | exact h0.blocks | exact keysUp_tmod _ _ _ h0.channels | exact keysUp_tmod _ _ _ h0.targets | exact keysUp_tmod _ _ _ h0.blocks | exact keysUp_tins _ _ h0.blocks | exact keysUp_filter _ h0.targets | exact keysUp_map _ h0.channels (fun _ => rfl) | exact keysUp_map _ h0.targets (fun _ => rfl) | exact keysUp_map _ h0.blocks (fun e => by try beta_reduce; (try split) <;> rfl))); skip])
    | (extract_lets +onlyGivenNames x; refine Changes.cut (a := Changes m' u₀ x) ?_ (fun hx => ?_) <;> [unfold x; clear_value x])
    | extract_lets +onlyGivenNames x | split

theorem rebuildCounters_changes (t : Nat) (r : RootRec) {m' : Nat} (hm : Covers m' 0x8) {u₀ u₁ : State} (hu :
    Changes m' u₀ u₁) : Changes m' u₀ (rebuildCounters t r u₁) := by
  unfold rebuildCounters
  repeat' first
    | with_reducible assumption | (fail_if_no_progress beta_reduce)
    | with_reducible refine modTarget_changes _ _ (hm.trans (by decide)) ?_ | with_reducible apply Changes.ite
    | (fail_if_no_progress (with_reducible refine Changes.put_nand (hm.bit (by decide)) ?_ ?_) <;> [(first | exact id | (intro h0; constructor <;> first | exact h0.channels | exact h0.targets | exact h0.blocks | exact keysUp_tmod _ _ _ h0.channels | exact keysUp_tmod _ _ _ h0.targets | exact keysUp_tmod _ _ _ h0.blocks | exact keysUp_tins _ _ h0.blocks | exact keysUp_filter _ h0.targets | exact keysUp_map _ h0.channels (fun _ => rfl) | exact keysUp_map _ h0.targets (fun _ => rfl) | exact keysUp_map _ h0.blocks (fun e => by try beta_reduce; (try split) <;> rfl))); skip])
    | (extract_lets +onlyGivenNames x; refine Changes.cut (a := Changes m' u₀ x) ?_ (fun hx => ?_) <;> [unfold x; clear_value x])
    | extract_lets +onlyGivenNames x | split

theorem identifyOps_changes (d : Discovered) {m' : Nat} (hm : Covers m' 0x40000000) {u₀ u₁ : State} (hu : Changes m'
    u₀ u₁) : Changes m' u₀ (identifyOps d u₁) := by
  unfold identifyOps
  repeat' first
    | with_reducible assumption | (fail_if_no_progress beta_reduce)
    | with_reducible refine onfi_changes _ _ (hm.trans (by decide)) ?_ | with_reducible apply Changes.ite
    | (extract_lets +onlyGivenNames x; refine Changes.cut (a := Changes m' u₀ x) ?_ (fun hx => ?_) <;> [unfold x; clear_value x])
    | extract_lets +onlyGivenNames x | split

theorem interfaceOps_changes (d : Discovered) {m' : Nat} (hm : Covers m' 0x40000000) {u₀ u₁ : State} (hu : Changes
    m' u₀ u₁) : Changes m' u₀ (interfaceOps d u₁) := by
  unfold interfaceOps
  repeat' first
    | with_reducible assumption | (fail_if_no_progress beta_reduce)
    | with_reducible refine onfi_changes _ _ (hm.trans (by decide)) ?_ | with_reducible apply Changes.ite
    | (extract_lets +onlyGivenNames x; refine Changes.cut (a := Changes m' u₀ x) ?_ (fun hx => ?_) <;> [unfold x; clear_value x])
    | extract_lets +onlyGivenNames x | split

theorem loadTarget_changes (d : Discovered) {m' : Nat} (hm : Covers m' 0x4c0c0028) {u₀ u₁ : State} (hu : Changes m'
    u₀ u₁) : Changes m' u₀ (loadTarget d u₁) := by
  unfold loadTarget
  repeat' first
    | with_reducible assumption | (fail_if_no_progress beta_reduce)
    | with_reducible refine rebuildCounters_changes _ _ (hm.trans (by decide)) ?_
    | with_reducible refine cutBlocks_changes _ _ (hm.trans (by decide)) ?_
    | with_reducible refine modTarget_changes _ _ (hm.trans (by decide)) ?_
    | with_reducible refine engineFault_changes _ _ (hm.trans (by decide)) ?_ | with_reducible apply Changes.ite
    | (extract_lets +onlyGivenNames x; refine Changes.cut (a := Changes m' u₀ x) ?_ (fun hx => ?_) <;> [unfold x; clear_value x])
    | extract_lets +onlyGivenNames x | split

theorem countBadRoots_changes (d : Discovered) {m' : Nat} (hm : Covers m' 0x40000008) {u₀ u₁ : State} (hu : Changes
    m' u₀ u₁) : Changes m' u₀ (countBadRoots d u₁) := by
  unfold countBadRoots
  repeat' first
    | with_reducible assumption | (fail_if_no_progress beta_reduce)
    | with_reducible refine retryReads_changes _ (hm.trans (by decide)) ?_
    | with_reducible refine onfi_changes _ _ (hm.trans (by decide)) ?_
    | with_reducible refine modChannel_changes _ _ (hm.trans (by decide)) ?_
    | (with_reducible refine Changes.foldl ?_ (fun v y hv => ?_))
    | (extract_lets +onlyGivenNames x; refine Changes.cut (a := Changes m' u₀ x) ?_ (fun hx => ?_) <;> [unfold x; clear_value x])
    | extract_lets +onlyGivenNames x | split

theorem failTarget_changes (t : Nat) {m' : Nat} (hm : Covers m' 0x4c0c0028) {u₀ u₁ : State} (hu : Changes m' u₀ u₁)
    : Changes m' u₀ (failTarget t u₁) := by
  unfold failTarget
  repeat' first
    | with_reducible assumption | (fail_if_no_progress beta_reduce)
    | with_reducible refine engineFault_changes _ _ (hm.trans (by decide)) ?_
    | with_reducible refine modTarget_changes _ _ (hm.trans (by decide)) ?_ | with_reducible apply Changes.ite
    | split

theorem discoverTarget_changes (d : Discovered) {m' : Nat} (hm : Covers m' 0x4c0c0028) {u₀ u₁ : State} (hu : Changes
    m' u₀ u₁) : Changes m' u₀ (discoverTarget u₁ d) := by
  unfold discoverTarget
  repeat' first
    | with_reducible assumption | (fail_if_no_progress beta_reduce)
    | with_reducible refine modTarget_changes _ _ (hm.trans (by decide)) ?_
    | with_reducible refine identifyOps_changes _ (hm.trans (by decide)) ?_
    | with_reducible refine failTarget_changes _ (hm.trans (by decide)) ?_
    | with_reducible refine interfaceOps_changes _ (hm.trans (by decide)) ?_
    | with_reducible refine countBadRoots_changes _ (hm.trans (by decide)) ?_
    | with_reducible refine loadTarget_changes _ (hm.trans (by decide)) ?_ | with_reducible apply Changes.ite
    | (extract_lets +onlyGivenNames x; refine Changes.cut (a := Changes m' u₀ x) ?_ (fun hx => ?_) <;> [unfold x; clear_value x])
    | extract_lets +onlyGivenNames x | split

theorem execNandDiscoveryDone_changes (channel : Nat) (found : List Discovered) {m' : Nat} (hm : Covers m'
    0xce0c0c7b) {u₀ u₁ : State} (hu : Changes m' u₀ u₁) : ChangesOut m' u₀ (execNandDiscoveryDone channel found u₁)
    := by
  unfold execNandDiscoveryDone
  repeat' first
    | with_reducible assumption | (fail_if_no_progress beta_reduce) | with_reducible apply ChangesOut.next
    | with_reducible apply ChangesOut.ite | with_reducible refine discoverTarget_changes _ (hm.trans (by decide)) ?_
    | with_reducible refine failTarget_changes _ (hm.trans (by decide)) ?_
    | with_reducible refine modChannel_changes _ _ (hm.trans (by decide)) ?_
    | with_reducible refine noChannel_changes (hm.trans (by decide)) ?_
    | with_reducible refine spareCheck_changes (hm.trans (by decide)) ?_
    | with_reducible refine retireBlocks_changes (hm.trans (by decide)) ?_ | with_reducible apply Changes.ite
    | (with_reducible refine Changes.foldl ?_ (fun v y hv => ?_))
    | (extract_lets +onlyGivenNames x; refine Changes.cut (a := Changes m' u₀ x) ?_ (fun hx => ?_) <;> [unfold x; clear_value x])
    | extract_lets +onlyGivenNames x | split

theorem eraseTarget_changes (t : Nat) {m' : Nat} (hm : Covers m' 0xc2000008) {u₀ u₁ : State} (hu : Changes m' u₀ u₁)
    : Changes m' u₀ (eraseTarget t u₁) := by
  unfold eraseTarget
  repeat' first
    | with_reducible assumption | (fail_if_no_progress beta_reduce)
    | with_reducible refine modBlock_changes _ _ (hm.trans (by decide)) ?_
    | with_reducible refine onfiPslc_changes _ _ (hm.trans (by decide)) ?_
    | with_reducible refine modTarget_changes _ _ (hm.trans (by decide)) ?_
    | with_reducible refine writeRoot_changes _ (hm.trans (by decide)) ?_ | with_reducible apply Changes.ite
    | (with_reducible refine Changes.foldl ?_ (fun v y hv => ?_))
    | (fail_if_no_progress (with_reducible refine Changes.put_nand (hm.bit (by decide)) ?_ ?_) <;> [(first | exact id | (intro h0; constructor <;> first | exact h0.channels | exact h0.targets | exact h0.blocks | exact keysUp_tmod _ _ _ h0.channels | exact keysUp_tmod _ _ _ h0.targets | exact keysUp_tmod _ _ _ h0.blocks | exact keysUp_tins _ _ h0.blocks | exact keysUp_filter _ h0.targets | exact keysUp_map _ h0.channels (fun _ => rfl) | exact keysUp_map _ h0.targets (fun _ => rfl) | exact keysUp_map _ h0.blocks (fun e => by try beta_reduce; (try split) <;> rfl))); skip])
    | (extract_lets +onlyGivenNames x; refine Changes.cut (a := Changes m' u₀ x) ?_ (fun hx => ?_) <;> [unfold x; clear_value x])
    | extract_lets +onlyGivenNames x | split

theorem eraseTargets_changes {m' : Nat} (hm : Covers m' 0xc2000008) {u₀ u₁ : State} (hu : Changes m' u₀ u₁) :
    Changes m' u₀ (eraseTargets u₁) := by
  unfold eraseTargets
  repeat' first
    | with_reducible assumption | (fail_if_no_progress beta_reduce)
    | with_reducible refine eraseTarget_changes _ (hm.trans (by decide)) ?_ | with_reducible apply Changes.ite
    | (with_reducible refine Changes.foldl ?_ (fun v y hv => ?_))
    | split

theorem forgetEpochs_changes {m' : Nat} (hm : Covers m' 0x10) {u₀ u₁ : State} (hu : Changes m' u₀ u₁) : Changes m'
    u₀ (forgetEpochs u₁) := by
  unfold forgetEpochs
  repeat' first
    | with_reducible assumption
    | (fail_if_no_progress with_reducible refine Changes.put_stg (hm.bit (by decide)) ?_)

theorem eraseStore_changes {m' : Nat} (hm : Covers m' 0xce0c0c7b) {u₀ u₁ : State} (hu : Changes m' u₀ u₁) :
    Changes m' u₀ (eraseStore u₁) := by
  unfold eraseStore
  have h := eraseTargets_changes (hm.trans (by decide)) (enterRetired_changes (hm.trans (by decide))
    (forgetEpochs_changes (hm.trans (by decide)) hu))
  generalize eraseTargets (enterRetired (forgetEpochs u₁)) = x at *
  refine retireBlocks_changes (hm.trans (by decide)) (dropErased_changes (hm.trans (by decide)) ?_)
  apply Changes.parts
  all_goals first
    | exact hm.skip (by decide)
    | exact h
    | exact id
    | exact fun _ => rfl
    | exact fun h => ⟨h.four, h.records⟩
    | exact fun h => ⟨h.channels, h.targets, h.blocks⟩

theorem reportSanitize_changes {m' : Nat} (hm : Covers m' 0x800) {u₀ u₁ : State} (hu : Changes m' u₀ u₁) : Changes
    m' u₀ (reportSanitize u₁) := by
  unfold reportSanitize
  repeat' first
    | with_reducible assumption
    | (fail_if_no_progress (with_reducible refine Changes.put_mbx (hm.bit (by decide)) ?_ ?_) <;> [(first | exact id | exact fun (h0 : EventLogsSound _) => ⟨h0.four, h0.records⟩); skip])
    | extract_lets +onlyGivenNames x

theorem finishSanitize_changes {m' : Nat} (hm : Covers m' 0xce0c0c7b) {u₀ u₁ : State} (hu : Changes m' u₀ u₁) : Changes
    m' u₀ (finishSanitize u₁) := by
  unfold finishSanitize
  repeat' first
    | with_reducible assumption | with_reducible refine reportSanitize_changes (hm.trans (by decide)) ?_
    | with_reducible refine eraseStore_changes (hm.trans (by decide)) ?_ | with_reducible apply Changes.ite | split

theorem execRestoreDiscover_changes (intact : Bool) {m' : Nat} (hm : Covers m' 0x4c0c00a0) {u₀ u₁ : State} (hu :
    Changes m' u₀ u₁) : ChangesOut m' u₀ (execRestoreDiscover intact u₁) := by
  unfold execRestoreDiscover
  repeat' first
    | with_reducible assumption | (fail_if_no_progress beta_reduce) | with_reducible apply ChangesOut.next
    | with_reducible apply ChangesOut.ite | with_reducible refine engineFault_changes _ _ (hm.trans (by decide)) ?_
    | with_reducible apply Changes.ite
    | (fail_if_no_progress with_reducible refine Changes.put_restore (hm.bit (by decide)) ?_)
    | (extract_lets +onlyGivenNames x; refine Changes.cut (a := Changes m' u₀ x) ?_ (fun hx => ?_) <;> [unfold x; clear_value x])
    | extract_lets +onlyGivenNames x | split

theorem disownStore_changes {m' : Nat} (hm : Covers m' 0x8) {u₀ u₁ : State} (hu : Changes m' u₀ u₁) : Changes m' u₀
    (disownStore u₁) := by
  unfold disownStore
  repeat' first
    | with_reducible assumption
    | (fail_if_no_progress (with_reducible refine Changes.put_nand (hm.bit (by decide)) ?_ ?_) <;> [(first | exact id | exact fun (h0 : NandSound _) => ⟨h0.channels, h0.targets, h0.blocks⟩ | exact fun (h0 : NandSound _) => ⟨keysUp_tmod _ _ _ h0.channels, h0.targets, h0.blocks⟩ | exact fun (h0 : NandSound _) => ⟨h0.channels, keysUp_tmod _ _ _ h0.targets, h0.blocks⟩ | exact fun (h0 : NandSound _) => ⟨h0.channels, h0.targets, keysUp_tmod _ _ _ h0.blocks⟩ | exact fun (h0 : NandSound _) => ⟨h0.channels, h0.targets, keysUp_tins _ _ h0.blocks⟩ | exact fun (h0 : NandSound _) => ⟨h0.channels, h0.targets, keysUp_map _ h0.blocks (fun e => by try beta_reduce; (try split) <;> rfl)⟩ | exact fun (h0 : NandSound _) => ⟨h0.channels, keysUp_filter _ h0.targets, h0.blocks⟩); skip])
    | extract_lets +onlyGivenNames x

theorem searchStore_changes {m' : Nat} (hm : Covers m' 0x4c0c0cb8) {u₀ u₁ : State} (hu : Changes m' u₀ u₁) : Changes
    m' u₀ (searchStore u₁) := by
  unfold searchStore
  repeat' first
    | with_reducible assumption | (fail_if_no_progress beta_reduce)
    | with_reducible refine disownStore_changes (hm.trans (by decide)) ?_
    | with_reducible refine engineFault_changes _ _ (hm.trans (by decide)) ?_
    | with_reducible refine postEvent_changes _ _ _ _ (hm.trans (by decide)) ?_ | with_reducible apply Changes.ite
    | (fail_if_no_progress with_reducible refine Changes.put_stg (hm.bit (by decide)) ?_)
    | (fail_if_no_progress with_reducible refine Changes.put_restore (hm.bit (by decide)) ?_)
    | (fail_if_no_progress (with_reducible refine Changes.put_mbx (hm.bit (by decide)) ?_ ?_) <;> [(first | exact id | exact fun (h0 : EventLogsSound _) => ⟨h0.four, h0.records⟩); skip])
    | (fail_if_no_progress with_reducible apply Changes.parts <;> first | exact hm.skip (by decide) | exact fun _ => rfl | exact id | (first | exact id | exact fun (h0 : EventLogsSound _) => ⟨h0.four, h0.records⟩) | skip)
    | (extract_lets +onlyGivenNames x; refine Changes.cut (a := Changes m' u₀ x) ?_ (fun hx => ?_) <;> [unfold x; clear_value x])
    | extract_lets +onlyGivenNames x | split

theorem searchHeld_changes {m' : Nat} (hm : Covers m' 0x80) {u₀ u₁ : State} (hu : Changes m' u₀ u₁) : Changes m' u₀
    (searchHeld u₁) := by
  unfold searchHeld
  repeat' first
    | with_reducible assumption | (fail_if_no_progress beta_reduce) | with_reducible apply Changes.ite
    | (fail_if_no_progress with_reducible refine Changes.put_restore (hm.bit (by decide)) ?_)
    | (extract_lets +onlyGivenNames x; refine Changes.cut (a := Changes m' u₀ x) ?_ (fun hx => ?_) <;> [unfold x; clear_value x])
    | extract_lets +onlyGivenNames x | split

theorem noteReads_changes (reads : List PageRead) {m' : Nat} (hm : Covers m' 0xc2000008) {u₀ u₁ : State} (hu :
    Changes m' u₀ u₁) : Changes m' u₀ (noteReads reads u₁) := by
  unfold noteReads
  repeat' first
    | with_reducible assumption | (fail_if_no_progress beta_reduce)
    | with_reducible refine countCopyRead_changes _ _ (hm.trans (by decide)) ?_
    | (with_reducible refine Changes.foldl ?_ (fun v y hv => ?_))
    | (fail_if_no_progress (with_reducible refine Changes.put_nand (hm.bit (by decide)) ?_ ?_) <;> [(first | exact id | (intro h0; constructor <;> first | exact h0.channels | exact h0.targets | exact h0.blocks | exact keysUp_tmod _ _ _ h0.channels | exact keysUp_tmod _ _ _ h0.targets | exact keysUp_tmod _ _ _ h0.blocks | exact keysUp_tins _ _ h0.blocks | exact keysUp_filter _ h0.targets | exact keysUp_map _ h0.channels (fun _ => rfl) | exact keysUp_map _ h0.targets (fun _ => rfl) | exact keysUp_map _ h0.blocks (fun e => by try beta_reduce; (try split) <;> rfl))); skip])
    | (extract_lets +onlyGivenNames x; refine Changes.cut (a := Changes m' u₀ x) ?_ (fun hx => ?_) <;> [unfold x; clear_value x])
    | extract_lets +onlyGivenNames x | split

theorem execNewestKnotFound_changes (reads : List PageRead) {m' : Nat} (hm : Covers m' 0xce0c0cfb) {u₀ u₁ : State}
    (hu : Changes m' u₀ u₁) : ChangesOut m' u₀ (execNewestKnotFound reads u₁) := by
  unfold execNewestKnotFound
  repeat' first
    | with_reducible assumption | (fail_if_no_progress beta_reduce) | with_reducible apply ChangesOut.next
    | with_reducible apply ChangesOut.ite | with_reducible refine finishSanitize_changes (hm.trans (by decide)) ?_
    | with_reducible refine searchHeld_changes (hm.trans (by decide)) ?_
    | with_reducible refine searchStore_changes (hm.trans (by decide)) ?_
    | with_reducible refine noteReads_changes _ (hm.trans (by decide)) ?_ | with_reducible apply Changes.ite
    | (fail_if_no_progress (with_reducible refine Changes.put_nand (hm.bit (by decide)) ?_ ?_) <;> [(first | exact id | (intro h0; constructor <;> first | exact h0.channels | exact h0.targets | exact h0.blocks | exact keysUp_tmod _ _ _ h0.channels | exact keysUp_tmod _ _ _ h0.targets | exact keysUp_tmod _ _ _ h0.blocks | exact keysUp_tins _ _ h0.blocks | exact keysUp_filter _ h0.targets | exact keysUp_map _ h0.channels (fun _ => rfl) | exact keysUp_map _ h0.targets (fun _ => rfl) | exact keysUp_map _ h0.blocks (fun e => by try beta_reduce; (try split) <;> rfl))); skip])
    | (extract_lets +onlyGivenNames x; refine Changes.cut (a := Changes m' u₀ x) ?_ (fun hx => ?_) <;> [unfold x; clear_value x])
    | extract_lets +onlyGivenNames x | split

theorem leaveVerify_changes {m' : Nat} (hm : Covers m' 0x80) {u₀ u₁ : State} (hu : Changes m' u₀ u₁) : Changes m' u₀
    (leaveVerify u₁) := by
  unfold leaveVerify
  repeat' first
    | with_reducible assumption | with_reducible apply Changes.ite
    | (fail_if_no_progress with_reducible refine Changes.put_restore (hm.bit (by decide)) ?_)
    | split

theorem loadLog_changes (chain : List KnotRec) {m' : Nat} (hm : Covers m' 0x84) {u₀ u₁ : State} (hu : Changes m' u₀
    u₁) : Changes m' u₀ (loadLog chain u₁) := by
  unfold loadLog
  repeat' first
    | with_reducible assumption | (fail_if_no_progress beta_reduce)
    | (fail_if_no_progress (with_reducible refine Changes.put_log (hm.bit (by decide)) ?_ ?_) <;> [(first | exact id | exact fun (h0 : LogSound _) => ⟨h0.ring, h0.head, h0.seq⟩ | exact fun _ => LogSound.fresh rfl rfl rfl); skip])
    | (fail_if_no_progress with_reducible refine Changes.put_restore (hm.bit (by decide)) ?_)
    | (fail_if_no_progress with_reducible apply Changes.parts <;> first | exact hm.skip (by decide) | exact fun _ => rfl | exact id | (first | exact id | exact fun (h0 : LogSound _) => ⟨h0.ring, h0.head, h0.seq⟩ | exact fun _ => LogSound.fresh rfl rfl rfl) | skip)
    | (extract_lets +onlyGivenNames x; refine Changes.cut (a := Changes m' u₀ x) ?_ (fun hx => ?_) <;> [unfold x; clear_value x])
    | extract_lets +onlyGivenNames x | split

theorem loadPoisonList_changes (chain : List KnotRec) {m' : Nat} (hm : Covers m' 0x1) {u₀ u₁ : State} (hu : Changes
    m' u₀ u₁) : Changes m' u₀ (loadPoisonList chain u₁) := by
  unfold loadPoisonList
  repeat' first
    | with_reducible assumption | (fail_if_no_progress beta_reduce) | with_reducible apply Changes.ite
    | (with_reducible refine Changes.foldl ?_ (fun v y hv => ?_))
    | (fail_if_no_progress (with_reducible refine Changes.put_cache (hm.bit (by decide)) ?_ ?_) <;> [(first | exact id | exact fun (h0 : CacheSound _) => ⟨h0.channels, h0.poison, h0.map, h0.caps⟩ | exact fun (h0 : CacheSound _) => ⟨h0.channels, rfl, h0.map, h0.caps⟩ | exact fun (h0 : CacheSound _) => ⟨h0.channels, h0.poison, rfl, h0.caps⟩ | exact fun (h0 : CacheSound _) => ⟨by simpa [modAt] using h0.channels, h0.poison, h0.map, h0.caps⟩ | exact fun (h0 : CacheSound _) => ⟨h0.channels, tableOk_tput _ _ _ _ none h0.poison (by simp), h0.map, h0.caps⟩ | exact fun (h0 : CacheSound _) => ⟨h0.channels, h0.poison, keysUp_tput _ _ _ h0.map, h0.caps⟩ | exact fun (h0 : CacheSound _) => ⟨h0.channels, h0.poison, h0.map, keysUp_tput _ _ _ h0.caps⟩ | exact fun (h0 : CacheSound _) => ⟨rfl, h0.poison, h0.map, h0.caps⟩ | exact fun _ => CacheSound.fresh rfl rfl rfl rfl); skip])
    | (extract_lets +onlyGivenNames x; refine Changes.cut (a := Changes m' u₀ x) ?_ (fun hx => ?_) <;> [unfold x; clear_value x])
    | extract_lets +onlyGivenNames x | split

theorem reportLoss_changes (cls : Nat) (policy : Nat) (lost : List Nat) {m' : Nat} (hm : Covers m' 0x40400c81) {u₀
    u₁ : State} (hu : Changes m' u₀ u₁) : Changes m' u₀ (reportLoss cls policy lost u₁) := by
  unfold reportLoss
  repeat' first
    | with_reducible assumption | (fail_if_no_progress beta_reduce)
    | with_reducible refine stewardWrite_changes _ (hm.trans (by decide)) ?_
    | with_reducible refine msix_changes _ (hm.trans (by decide)) ?_
    | with_reducible refine postEvent_changes _ _ _ _ (hm.trans (by decide)) ?_ | with_reducible apply Changes.ite
    | (with_reducible refine Changes.foldl ?_ (fun v y hv => ?_))
    | (fail_if_no_progress (with_reducible refine Changes.put_cache (hm.bit (by decide)) ?_ ?_) <;> [(first | exact id | (intro h0; constructor <;> first | exact h0.channels | exact h0.poison | exact h0.map | exact h0.caps | rfl | exact tableOk_tput _ _ _ _ none h0.poison (by simp) | exact keysUp_tput _ _ _ h0.map | exact keysUp_tput _ _ _ h0.caps | simpa [modAt] using h0.channels)); skip])
    | (fail_if_no_progress with_reducible refine Changes.put_restore (hm.bit (by decide)) ?_)
    | (fail_if_no_progress (with_reducible refine Changes.put_mbx (hm.bit (by decide)) ?_ ?_) <;> [(first | exact id | exact fun (h0 : EventLogsSound _) => ⟨h0.four, h0.records⟩); skip])
    | (fail_if_no_progress with_reducible apply Changes.parts <;> first | exact hm.skip (by decide) | exact fun _ => rfl | exact id | (first | exact id | (intro h0; constructor <;> first | exact h0.channels | exact h0.poison | exact h0.map | exact h0.caps | rfl | exact tableOk_tput _ _ _ _ none h0.poison (by simp) | exact keysUp_tput _ _ _ h0.map | exact keysUp_tput _ _ _ h0.caps | simpa [modAt] using h0.channels)) | (first | exact id | exact fun (h0 : EventLogsSound _) => ⟨h0.four, h0.records⟩) | skip)
    | (extract_lets +onlyGivenNames x; refine Changes.cut (a := Changes m' u₀ x) ?_ (fun hx => ?_) <;> [unfold x; clear_value x])
    | extract_lets +onlyGivenNames x | split

theorem replayUnit_keys (ptr : Nat) (p : Page) (loc : Table Loc) (iu : NandUnit × Nat) (h : keysUp none loc = true) :
    keysUp none (replayUnit ptr p loc iu) = true := by
  unfold replayUnit
  repeat' first | exact h | exact keysUp_tins _ _ h | split | extract_lets

theorem replayKnot_keys (s : State) (loc : Table Loc) (k : KnotRec) (h : keysUp none loc = true) :
    keysUp none (replayKnot s loc k) = true :=
  keysUp_foldl _ _ h (fun _ _ h => keysUp_foldl _ _ h (fun _ _ h => replayUnit_keys _ _ _ _ h))

theorem rebuildMap_keys (chain : List KnotRec) (s : State) :
    keysUp none (rebuildMap chain s).1 = true :=
  keysUp_foldl _ _ (keysUp_foldl _ _ rfl (fun _ _ h => keysUp_foldl _ _ h (fun _ _ h => keysUp_tins _ _ h)))
    (fun _ _ h => replayKnot_keys _ _ _ h)

theorem rebuilt_keys (cls : Nat) (chain : List KnotRec) (s : State) :
    keysUp none (if cls = 0 then (([] : Table Loc), ([] : List Nat)) else rebuildMap chain s).1 = true := by
  split
  · rfl
  · exact rebuildMap_keys _ _

theorem loadMap_changes {m' : Nat} (hm : Covers m' 0x4c4c0ced) {u₀ u₁ : State} (hu : Changes m' u₀ u₁) : Changes m'
    u₀ (loadMap u₁) := by
  unfold loadMap
  repeat' first
    | with_reducible assumption | (fail_if_no_progress beta_reduce)
    | with_reducible refine emptyPoison_changes (hm.trans (by decide)) ?_
    | with_reducible refine loadPoisonList_changes _ (hm.trans (by decide)) ?_
    | with_reducible refine loadLog_changes _ (hm.trans (by decide)) ?_
    | with_reducible refine reportLoss_changes _ _ _ (hm.trans (by decide)) ?_
    | with_reducible refine spareCheck_changes (hm.trans (by decide)) ?_
    | with_reducible refine poisonAtRestore_changes _ (hm.trans (by decide)) ?_ | with_reducible apply Changes.ite
    | (with_reducible refine Changes.foldl ?_ (fun v y hv => ?_))
    | (fail_if_no_progress (with_reducible refine Changes.put_cache (hm.bit (by decide)) ?_ ?_) <;> [(first | exact id | (intro h0; constructor <;> first | exact h0.channels | exact h0.poison | exact h0.map | exact h0.caps | rfl | exact keysUp_map _ (rebuilt_keys _ _ _) (fun _ => rfl) | exact tableOk_tput _ _ _ _ none h0.poison (by simp) | exact keysUp_tput _ _ _ h0.map | exact keysUp_tput _ _ _ h0.caps | simpa [modAt] using h0.channels)); skip])
    | (fail_if_no_progress with_reducible refine Changes.put_restore (hm.bit (by decide)) ?_)
    | (extract_lets +onlyGivenNames x; refine Changes.cut (a := Changes m' u₀ x) ?_ (fun hx => ?_) <;> [unfold x; clear_value x])
    | extract_lets +onlyGivenNames x | split

theorem loadHeld_changes {m' : Nat} (hm : Covers m' 0x4c4c0ca9) {u₀ u₁ : State} (hu : Changes m' u₀ u₁) : Changes m'
    u₀ (loadHeld u₁) := by
  unfold loadHeld
  repeat' first
    | with_reducible assumption | (fail_if_no_progress beta_reduce)
    | with_reducible refine spareCheck_changes (hm.trans (by decide)) ?_
    | with_reducible refine reportLoss_changes _ _ _ (hm.trans (by decide)) ?_ | with_reducible apply Changes.ite
    | (fail_if_no_progress with_reducible refine Changes.put_restore (hm.bit (by decide)) ?_)
    | (extract_lets +onlyGivenNames x; refine Changes.cut (a := Changes m' u₀ x) ?_ (fun hx => ?_) <;> [unfold x; clear_value x])
    | extract_lets +onlyGivenNames x | split

theorem loadEmpty_changes {m' : Nat} (hm : Covers m' 0x4c4c0cfd) {u₀ u₁ : State} (hu : Changes m' u₀ u₁) : Changes
    m' u₀ (loadEmpty u₁) := by
  unfold loadEmpty
  repeat' first
    | with_reducible assumption | (fail_if_no_progress beta_reduce)
    | with_reducible refine loadMap_changes (hm.trans (by decide)) ?_
    | with_reducible refine beginSeal_changes (hm.trans (by decide)) ?_
    | (fail_if_no_progress with_reducible refine Changes.put_restore (hm.bit (by decide)) ?_)
    | (extract_lets +onlyGivenNames x; refine Changes.cut (a := Changes m' u₀ x) ?_ (fun hx => ?_) <;> [unfold x; clear_value x])
    | extract_lets +onlyGivenNames x

theorem execMapLoadDone_changes (reads : List PageRead) {m' : Nat} (hm : Covers m' 0xce4c0cfd) {u₀ u₁ : State} (hu :
    Changes m' u₀ u₁) : ChangesOut m' u₀ (execMapLoadDone reads u₁) := by
  unfold execMapLoadDone
  repeat' first
    | with_reducible assumption | (fail_if_no_progress beta_reduce) | with_reducible apply ChangesOut.next
    | with_reducible apply ChangesOut.ite | with_reducible refine leaveVerify_changes (hm.trans (by decide)) ?_
    | with_reducible refine loadEmpty_changes (hm.trans (by decide)) ?_
    | with_reducible refine loadHeld_changes (hm.trans (by decide)) ?_
    | with_reducible refine loadMap_changes (hm.trans (by decide)) ?_
    | with_reducible refine noteReads_changes _ (hm.trans (by decide)) ?_ | with_reducible apply Changes.ite
    | (extract_lets +onlyGivenNames x; refine Changes.cut (a := Changes m' u₀ x) ?_ (fun hx => ?_) <;> [unfold x; clear_value x])
    | extract_lets +onlyGivenNames x | split

theorem firstRoots_changes {m' : Nat} (hm : Covers m' 0xc2000008) {u₀ u₁ : State} (hu : Changes m' u₀ u₁) : Changes
    m' u₀ (firstRoots u₁) := by
  unfold firstRoots
  repeat' first
    | with_reducible assumption | (fail_if_no_progress beta_reduce)
    | with_reducible refine writeRoot_changes _ (hm.trans (by decide)) ?_ | with_reducible apply Changes.ite
    | (with_reducible refine Changes.foldl ?_ (fun v y hv => ?_))
    | split

theorem execRestoreReady_changes {m' : Nat} (hm : Covers m' 0xcebdefff) {u₀ u₁ : State} (hu : Changes m' u₀ u₁) :
    ChangesOut m' u₀ (execRestoreReady u₁) := by
  unfold execRestoreReady
  repeat' first
    | with_reducible assumption | (fail_if_no_progress beta_reduce) | with_reducible apply ChangesOut.next
    | with_reducible apply ChangesOut.ite | with_reducible refine writeDirectory_changes (hm.trans (by decide)) ?_
    | with_reducible refine retireBlocks_changes (hm.trans (by decide)) ?_
    | with_reducible refine firstRoots_changes (hm.trans (by decide)) ?_
    | with_reducible refine checkComplete_changes (hm.trans (by decide)) ?_
    | with_reducible refine tailHeld_changes (hm.trans (by decide)) ?_
    | with_reducible refine releaseWaiting_changes (hm.trans (by decide)) ?_
    | with_reducible refine evaluate_changes (hm.trans (by decide)) ?_
    | with_reducible refine msix_changes _ (hm.trans (by decide)) ?_
    | with_reducible refine engineLog_changes _ _ _ (hm.trans (by decide)) ?_
    | with_reducible refine setVault_changes _ (hm.trans (by decide)) ?_ | with_reducible apply Changes.ite
    | (fail_if_no_progress with_reducible refine Changes.put_restore (hm.bit (by decide)) ?_)
    | (fail_if_no_progress with_reducible refine Changes.put_host (hm.bit (by decide)) ?_)
    | (fail_if_no_progress with_reducible refine Changes.put_lcs (hm.bit (by decide)) ?_)
    | (fail_if_no_progress with_reducible apply Changes.parts <;> first | exact hm.skip (by decide) | exact fun _ => rfl | exact id | skip)
    | (extract_lets +onlyGivenNames x; refine Changes.cut (a := Changes m' u₀ x) ?_ (fun hx => ?_) <;> [unfold x; clear_value x])
    | extract_lets +onlyGivenNames x | split

theorem execBackgroundLoad_changes {m' : Nat} (hm : Covers m' 0x80) {u₀ u₁ : State} (hu : Changes m' u₀ u₁) :
    ChangesOut m' u₀ (execBackgroundLoad u₁) := by
  unfold execBackgroundLoad
  repeat' first
    | with_reducible assumption | with_reducible apply ChangesOut.next | with_reducible apply ChangesOut.ite
    | with_reducible apply Changes.ite
    | (fail_if_no_progress with_reducible refine Changes.put_restore (hm.bit (by decide)) ?_)
    | extract_lets +onlyGivenNames x | split

theorem execGranuleLoadDone_changes (granule : Nat) (a : CopyRead) (b : CopyRead) {m' : Nat} (hm : Covers m'
    0xce3defff) {u₀ u₁ : State} (hu : Changes m' u₀ u₁) : ChangesOut m' u₀ (execGranuleLoadDone granule a b u₁) :=
    by
  unfold execGranuleLoadDone
  repeat' first
    | with_reducible assumption | with_reducible apply ChangesOut.next | with_reducible apply ChangesOut.ite
    | with_reducible refine tailHeld_changes (hm.trans (by decide)) ?_
    | with_reducible refine finishLoad_changes _ _ _ (hm.trans (by decide)) ?_ | with_reducible apply Changes.ite
    | split

/-! ### Selvedge -/

theorem retireInVault_changes (c : Nat) {m' : Nat} (hm : Covers m' 0xce0c0d79) {u₀ u₁ : State} (hu : Changes m' u₀
    u₁) : Changes m' u₀ (retireInVault c u₁) := by
  unfold retireInVault
  repeat' first
    | with_reducible assumption | (fail_if_no_progress beta_reduce)
    | with_reducible refine modChannel_changes _ _ (hm.trans (by decide)) ?_
    | with_reducible refine spareCheck_changes (hm.trans (by decide)) ?_
    | with_reducible refine noChannel_changes (hm.trans (by decide)) ?_
    | with_reducible refine demandChanged_changes (hm.trans (by decide)) ?_
    | with_reducible refine voidUnits_changes _ _ (hm.trans (by decide)) ?_
    | (fail_if_no_progress with_reducible refine Changes.put_vlt (hm.bit (by decide)) ?_)
    | (extract_lets +onlyGivenNames x; refine Changes.cut (a := Changes m' u₀ x) ?_ (fun hx => ?_) <;> [unfold x; clear_value x])
    | extract_lets +onlyGivenNames x | split

theorem dirtyOnChannel_changes (c : Nat) {m' : Nat} (hm : Covers m' 0x1) {u₀ u₁ : State} (hu : Changes m' u₀ u₁) :
    Changes m' u₀ (dirtyOnChannel c u₁) := by
  unfold dirtyOnChannel
  repeat' first
    | with_reducible assumption | (fail_if_no_progress beta_reduce)
    | with_reducible refine setState_changes _ _ (hm.trans (by decide)) ?_ | with_reducible apply Changes.ite
    | (with_reducible refine Changes.foldl ?_ (fun v y hv => ?_)) | split

theorem retireForBoot_changes (c : Nat) {m' : Nat} (hm : Covers m' 0xce0c0c7b) {u₀ u₁ : State} (hu : Changes m' u₀
    u₁) : Changes m' u₀ (retireForBoot c u₁) := by
  unfold retireForBoot
  repeat' first
    | with_reducible assumption | (fail_if_no_progress beta_reduce)
    | with_reducible refine modChannel_changes _ _ (hm.trans (by decide)) ?_
    | with_reducible refine modTarget_changes _ _ (hm.trans (by decide)) ?_
    | with_reducible refine spareCheck_changes (hm.trans (by decide)) ?_
    | with_reducible refine evaluate_changes (hm.trans (by decide)) ?_
    | with_reducible refine dirtyOnChannel_changes _ (hm.trans (by decide)) ?_ | with_reducible apply Changes.ite
    | (with_reducible refine Changes.foldl ?_ (fun v y hv => ?_))
    | (extract_lets +onlyGivenNames x; refine Changes.cut (a := Changes m' u₀ x) ?_ (fun hx => ?_) <;> [unfold x; clear_value x])
    | extract_lets +onlyGivenNames x | split

theorem shuttleStall_changes (c : Nat) (target : Option Nat) (lasting : Bool) {m' : Nat} (hm : Covers m' 0xce0c0c7b)
    {u₀ u₁ : State} (hu : Changes m' u₀ u₁) : Changes m' u₀ (shuttleStall c target lasting u₁) := by
  unfold shuttleStall
  repeat' first
    | with_reducible assumption | (fail_if_no_progress beta_reduce)
    | with_reducible refine retireForBoot_changes _ (hm.trans (by decide)) ?_
    | with_reducible refine modChannel_changes _ _ (hm.trans (by decide)) ?_ | with_reducible apply Changes.ite
    | (extract_lets +onlyGivenNames x; refine Changes.cut (a := Changes m' u₀ x) ?_ (fun hx => ?_) <;> [unfold x; clear_value x])
    | extract_lets +onlyGivenNames x | split

theorem discoveryStall_changes (c : Nat) (target : Option Nat) {m' : Nat} (hm : Covers m' 0x4c0c0c28) {u₀ u₁ :
    State} (hu : Changes m' u₀ u₁) : Changes m' u₀ (discoveryStall c target u₁) := by
  unfold discoveryStall
  repeat' first
    | with_reducible assumption | (fail_if_no_progress beta_reduce)
    | with_reducible refine failTarget_changes _ (hm.trans (by decide)) ?_
    | with_reducible refine spareCheck_changes (hm.trans (by decide)) ?_
    | with_reducible refine modChannel_changes _ _ (hm.trans (by decide)) ?_ | with_reducible apply Changes.ite
    | (with_reducible refine Changes.foldl ?_ (fun v y hv => ?_))
    | (extract_lets +onlyGivenNames x; refine Changes.cut (a := Changes m' u₀ x) ?_ (fun hx => ?_) <;> [unfold x; clear_value x])
    | extract_lets +onlyGivenNames x | split

theorem execStallWatchdogExpiry_changes (channel : StallChannel) {m' : Nat} (hm : Covers m' 0xce0c0d7b) {u₀ u₁ :
    State} (hu : Changes m' u₀ u₁) : ChangesOut m' u₀ (execStallWatchdogExpiry channel u₁) := by
  unfold execStallWatchdogExpiry
  repeat' first
    | with_reducible assumption | (fail_if_no_progress beta_reduce) | with_reducible apply ChangesOut.next
    | with_reducible apply ChangesOut.ite | with_reducible refine engineFault_changes _ _ (hm.trans (by decide)) ?_
    | with_reducible refine retireInVault_changes _ (hm.trans (by decide)) ?_
    | with_reducible refine discoveryStall_changes _ _ (hm.trans (by decide)) ?_
    | with_reducible refine shuttleStall_changes _ _ _ (hm.trans (by decide)) ?_ | with_reducible apply Changes.ite
    | (extract_lets +onlyGivenNames x; refine Changes.cut (a := Changes m' u₀ x) ?_ (fun hx => ?_) <;> [unfold x; clear_value x])
    | extract_lets +onlyGivenNames x | split

theorem railsOn_changes {m' : Nat} (hm : Covers m' 0x42300) {u₀ u₁ : State} (hu : Changes m' u₀ u₁) : Changes m' u₀
    (railsOn u₁) := by
  unfold railsOn
  repeat' first
    | with_reducible assumption | with_reducible refine switchOn_changes _ (hm.trans (by decide)) ?_
    | with_reducible refine beginSeq_changes _ (hm.trans (by decide)) ?_ | with_reducible apply Changes.ite | split

theorem startAttempt_changes {m' : Nat} (hm : Covers m' 0xce3defff) {u₀ u₁ : State} (hu : Changes m' u₀ u₁) :
    Changes m' u₀ (startAttempt u₁) := by
  unfold startAttempt
  repeat' first
    | with_reducible assumption | with_reducible refine pcFault_changes _ _ (hm.trans (by decide)) ?_
    | with_reducible refine railsOn_changes (hm.trans (by decide)) ?_ | with_reducible apply Changes.ite
    | (fail_if_no_progress with_reducible refine Changes.put_vlt (hm.bit (by decide)) ?_)
    | (fail_if_no_progress (with_reducible refine Changes.put_flt (hm.bit (by decide)) ?_ ?_) <;> [(first | exact id | exact keysUp_tmod _ _ _); skip])
    | (fail_if_no_progress (with_reducible refine Changes.put_sel (hm.bit (by decide)) ?_ ?_) <;> [(first | exact id | exact fun _ => rfl | exact fun h0 => by simpa [modAt] using h0); skip])
    | (fail_if_no_progress with_reducible apply Changes.parts <;> first | exact hm.skip (by decide) | exact fun _ => rfl | exact id | exact fun h0 => by simpa [modAt] using h0 | exact keysUp_tmod _ _ _ | skip)
    | (extract_lets +onlyGivenNames x; refine Changes.cut (a := Changes m' u₀ x) ?_ (fun hx => ?_) <;> [unfold x; clear_value x])
    | extract_lets +onlyGivenNames x | split

theorem startCooled_changes {m' : Nat} (hm : Covers m' 0xc2320) {u₀ u₁ : State} (hu : Changes m' u₀ u₁) : Changes m'
    u₀ (startCooled u₁) := by
  unfold startCooled
  repeat' first
    | with_reducible assumption | with_reducible refine railsOn_changes (hm.trans (by decide)) ?_
    | (fail_if_no_progress with_reducible refine Changes.put_vlt (hm.bit (by decide)) ?_)
    | (fail_if_no_progress (with_reducible refine Changes.put_sel (hm.bit (by decide)) ?_ ?_) <;> [(first | exact id | exact fun _ => rfl | exact fun h0 => by simpa [modAt] using h0); skip])
    | (fail_if_no_progress with_reducible apply Changes.parts <;> first | exact hm.skip (by decide) | exact fun _ => rfl | exact id | exact fun h0 => by simpa [modAt] using h0 | skip)
    | extract_lets +onlyGivenNames x

theorem selvedgeReady_changes {m' : Nat} (hm : Covers m' 0xce3defff) {u₀ u₁ : State} (hu : Changes m' u₀ u₁) :
    Changes m' u₀ (selvedgeReady u₁) := by
  unfold selvedgeReady
  repeat' first
    | with_reducible assumption | with_reducible refine switchOff_changes _ (hm.trans (by decide)) ?_
    | with_reducible refine setRefresh_changes _ (hm.trans (by decide)) ?_
    | with_reducible refine startAttempt_changes (hm.trans (by decide)) ?_ | with_reducible apply Changes.ite
    | (fail_if_no_progress (with_reducible refine Changes.put_sel (hm.bit (by decide)) ?_ ?_) <;> [(first | exact id | exact fun _ => rfl | exact fun h0 => by simpa [modAt] using h0); skip])
    | (extract_lets +onlyGivenNames x; refine Changes.cut (a := Changes m' u₀ x) ?_ (fun hx => ?_) <;> [unfold x; clear_value x])
    | extract_lets +onlyGivenNames x | split

theorem holdReady_changes {m' : Nat} (hm : Covers m' 0x4342213) {u₀ u₁ : State} (hu : Changes m' u₀ u₁) : Changes m'
    u₀ (holdReady u₁) := by
  unfold holdReady
  repeat' first
    | with_reducible assumption | with_reducible refine beginOff_changes _ (hm.trans (by decide)) ?_
    | with_reducible refine setRefresh_changes _ (hm.trans (by decide)) ?_

theorem belayReady_changes {m' : Nat} (hm : Covers m' 0x4342213) {u₀ u₁ : State} (hu : Changes m' u₀ u₁) : Changes
    m' u₀ (belayReady u₁) := by
  unfold belayReady
  repeat' first
    | with_reducible assumption | with_reducible refine switchOff_changes _ (hm.trans (by decide)) ?_
    | with_reducible refine setRefresh_changes _ (hm.trans (by decide)) ?_
    | (fail_if_no_progress (with_reducible refine Changes.put_flt (hm.bit (by decide)) ?_ ?_) <;> [(first | exact id | exact keysUp_tmod _ _ _); skip])
    | extract_lets +onlyGivenNames x

theorem execHoldIslandReady_changes {m' : Nat} (hm : Covers m' 0xce3defff) {u₀ u₁ : State} (hu : Changes m' u₀ u₁) :
    ChangesOut m' u₀ (execHoldIslandReady u₁) := by
  unfold execHoldIslandReady
  repeat' first
    | with_reducible assumption | with_reducible apply ChangesOut.next | with_reducible apply ChangesOut.ite
    | with_reducible refine belayReady_changes (hm.trans (by decide)) ?_
    | with_reducible refine selvedgeReady_changes (hm.trans (by decide)) ?_
    | with_reducible refine holdReady_changes (hm.trans (by decide)) ?_ | with_reducible apply Changes.ite | split

theorem execRebootTimeoutExpiry_changes {m' : Nat} (hm : Covers m' 0xce3defff) {u₀ u₁ : State} (hu : Changes m' u₀
    u₁) : ChangesOut m' u₀ (execRebootTimeoutExpiry u₁) := by
  unfold execRebootTimeoutExpiry
  repeat' first
    | with_reducible assumption | with_reducible apply ChangesOut.next | with_reducible apply ChangesOut.ite
    | with_reducible refine drivePair_changes _ _ (hm.trans (by decide)) ?_
    | with_reducible refine startAttempt_changes (hm.trans (by decide)) ?_
    | with_reducible refine switchOff_changes _ (hm.trans (by decide)) ?_
    | with_reducible refine setRefresh_changes _ (hm.trans (by decide)) ?_ | with_reducible apply Changes.ite
    | (fail_if_no_progress with_reducible refine Changes.put_warm (hm.bit (by decide)) ?_)
    | (extract_lets +onlyGivenNames x; refine Changes.cut (a := Changes m' u₀ x) ?_ (fun hx => ?_) <;> [unfold x; clear_value x])
    | extract_lets +onlyGivenNames x | split

theorem execCoolWaitExpiry_changes {m' : Nat} (hm : Covers m' 0xc2320) {u₀ u₁ : State} (hu : Changes m' u₀ u₁) :
    ChangesOut m' u₀ (execCoolWaitExpiry u₁) := by
  unfold execCoolWaitExpiry
  repeat' first
    | with_reducible assumption | with_reducible apply ChangesOut.next | with_reducible apply ChangesOut.ite
    | with_reducible refine startCooled_changes (hm.trans (by decide)) ?_ | with_reducible apply Changes.ite | split

theorem engineAloneVault_changes {m' : Nat} (hm : Covers m' 0xce3defff) {u₀ u₁ : State} (hu : Changes m' u₀ u₁) :
    Changes m' u₀ (engineAloneVault u₁) := by
  unfold engineAloneVault
  repeat' first
    | with_reducible assumption | (fail_if_no_progress beta_reduce)
    | with_reducible refine releaseWaiting_changes (hm.trans (by decide)) ?_
    | with_reducible refine seePf_changes (hm.trans (by decide)) ?_
    | with_reducible refine drivePair_changes _ _ (hm.trans (by decide)) ?_
    | with_reducible refine recordConfirm_changes _ _ (hm.trans (by decide)) ?_
    | with_reducible refine openWindow_changes (hm.trans (by decide)) ?_
    | with_reducible refine enterConfirmed_changes (hm.trans (by decide)) ?_
    | with_reducible refine confirmInReset_changes _ _ (hm.trans (by decide)) ?_
    | with_reducible refine engineOff_changes (hm.trans (by decide)) ?_ | with_reducible apply Changes.ite
    | (fail_if_no_progress with_reducible refine Changes.put_vlt (hm.bit (by decide)) ?_)
    | (extract_lets +onlyGivenNames x; refine Changes.cut (a := Changes m' u₀ x) ?_ (fun hx => ?_) <;> [unfold x; clear_value x])
    | extract_lets +onlyGivenNames x | split

theorem pctrlStalled_changes {m' : Nat} (hm : Covers m' 0xce3defff) {u₀ u₁ : State} (hu : Changes m' u₀ u₁) :
    Changes m' u₀ (pctrlStalled u₁) := by
  unfold pctrlStalled
  repeat' first
    | with_reducible assumption | with_reducible refine engineAloneVault_changes (hm.trans (by decide)) ?_
    | with_reducible refine engineFault_changes _ _ (hm.trans (by decide)) ?_ | with_reducible apply Changes.ite
    | (fail_if_no_progress (with_reducible refine Changes.put_sel (hm.bit (by decide)) ?_ ?_) <;> [(first | exact id | exact fun _ => rfl | exact fun h0 => by simpa [modAt] using h0); skip])
    | (extract_lets +onlyGivenNames x; refine Changes.cut (a := Changes m' u₀ x) ?_ (fun hx => ?_) <;> [unfold x; clear_value x])
    | extract_lets +onlyGivenNames x | split

theorem engineStalledNow_changes {m' : Nat} (hm : Covers m' 0xce3defff) {u₀ u₁ : State} (hu : Changes m' u₀ u₁) :
    Changes m' u₀ (engineStalledNow u₁) := by
  unfold engineStalledNow
  repeat' first
    | with_reducible assumption | with_reducible refine selvedgeHold_changes _ (hm.trans (by decide)) ?_
    | with_reducible refine pcFault_changes _ _ (hm.trans (by decide)) ?_ | with_reducible apply Changes.ite
    | (fail_if_no_progress (with_reducible refine Changes.put_sel (hm.bit (by decide)) ?_ ?_) <;> [(first | exact id | exact fun _ => rfl | exact fun h0 => by simpa [modAt] using h0); skip])
    | extract_lets +onlyGivenNames x | split

theorem execHeartbeatTimeout_changes (at' : End) {m' : Nat} (hm : Covers m' 0xce3defff) {u₀ u₁ : State} (hu :
    Changes m' u₀ u₁) : ChangesOut m' u₀ (execHeartbeatTimeout at' u₁) := by
  unfold execHeartbeatTimeout
  repeat' first
    | with_reducible assumption | with_reducible apply ChangesOut.next | with_reducible apply ChangesOut.ite
    | with_reducible refine engineStalledNow_changes (hm.trans (by decide)) ?_
    | with_reducible refine pctrlStalled_changes (hm.trans (by decide)) ?_ | with_reducible apply Changes.ite
    | split

theorem engineBeats_changes {m' : Nat} (hm : Covers m' 0xce3defff) {u₀ u₁ : State} (hu : Changes m' u₀ u₁) : Changes
    m' u₀ (engineBeats u₁) := by
  unfold engineBeats
  repeat' first
    | with_reducible assumption | (fail_if_no_progress beta_reduce)
    | with_reducible refine pcClear_changes _ (hm.trans (by decide)) ?_ | with_reducible apply Changes.ite
    | (fail_if_no_progress (with_reducible refine Changes.put_sel (hm.bit (by decide)) ?_ ?_) <;> [(first | exact id | exact fun _ => rfl | exact fun h0 => by simpa [modAt] using h0); skip])
    | (extract_lets +onlyGivenNames x; refine Changes.cut (a := Changes m' u₀ x) ?_ (fun hx => ?_) <;> [unfold x; clear_value x])
    | extract_lets +onlyGivenNames x | split

theorem execHeartbeatToggle_changes (from' : End) {m' : Nat} (hm : Covers m' 0xce3defff) {u₀ u₁ : State} (hu :
    Changes m' u₀ u₁) : ChangesOut m' u₀ (execHeartbeatToggle from' u₁) := by
  unfold execHeartbeatToggle
  repeat' first
    | with_reducible assumption | with_reducible apply ChangesOut.next | with_reducible apply ChangesOut.ite
    | with_reducible refine engineClear_changes _ (hm.trans (by decide)) ?_
    | with_reducible refine engineBeats_changes (hm.trans (by decide)) ?_ | with_reducible apply Changes.ite
    | (fail_if_no_progress (with_reducible refine Changes.put_sel (hm.bit (by decide)) ?_ ?_) <;> [(first | exact id | exact fun _ => rfl | exact fun h0 => by simpa [modAt] using h0); skip])
    | extract_lets +onlyGivenNames x | split

theorem adoptKnots_changes (chain : List KnotRec) {m' : Nat} (hm : Covers m' 0x4c0c0021) {u₀ u₁ : State} (hu :
    Changes m' u₀ u₁) : Changes m' u₀ (adoptKnots chain u₁) := by
  unfold adoptKnots
  repeat' first
    | with_reducible assumption | (fail_if_no_progress beta_reduce)
    | with_reducible refine adoptUnit_changes _ _ _ (hm.trans (by decide)) ?_
    | (with_reducible refine Changes.foldl ?_ (fun v y hv => ?_))
    | (extract_lets +onlyGivenNames x; refine Changes.cut (a := Changes m' u₀ x) ?_ (fun hx => ?_) <;> [unfold x; clear_value x])
    | extract_lets +onlyGivenNames x | split

theorem voidFive_changes (k : Nat) {m' : Nat} (hm : Covers m' 0xc2000018) {u₀ u₁ : State} (hu : Changes m' u₀ u₁) :
    Changes m' u₀ (voidFive k u₁) := by
  unfold voidFive
  repeat' first
    | with_reducible assumption | (fail_if_no_progress beta_reduce)
    | with_reducible refine writeVoid_changes _ (hm.trans (by decide)) ?_
    | (with_reducible refine Changes.foldl ?_ (fun v y hv => ?_))
    | (fail_if_no_progress with_reducible refine Changes.put_stg (hm.bit (by decide)) ?_)
    | (extract_lets +onlyGivenNames x; refine Changes.cut (a := Changes m' u₀ x) ?_ (fun hx => ?_) <;> [unfold x; clear_value x])
    | extract_lets +onlyGivenNames x | split

theorem resumeFenced_changes {m' : Nat} (hm : Covers m' 0x4c008460) {u₀ u₁ : State} (hu : Changes m' u₀ u₁) :
    Changes m' u₀ (resumeFenced u₁) := by
  unfold resumeFenced
  repeat' first
    | with_reducible assumption | with_reducible refine setVault_changes _ (hm.trans (by decide)) ?_
    | with_reducible refine sendFrame_changes _ _ (hm.trans (by decide)) ?_
    | with_reducible refine answerFlush_changes _ (hm.trans (by decide)) ?_ | with_reducible apply Changes.ite
    | (fail_if_no_progress with_reducible refine Changes.put_vlt (hm.bit (by decide)) ?_)
    | (fail_if_no_progress with_reducible refine Changes.put_drain (hm.bit (by decide)) ?_)
    | (fail_if_no_progress with_reducible refine Changes.put_gau (hm.bit (by decide)) ?_)
    | (fail_if_no_progress with_reducible apply Changes.parts <;> first | exact hm.skip (by decide) | exact fun _ => rfl | exact id | skip)
    | (extract_lets +onlyGivenNames x; refine Changes.cut (a := Changes m' u₀ x) ?_ (fun hx => ?_) <;> [unfold x; clear_value x])
    | extract_lets +onlyGivenNames x | split

theorem resumeDrain_changes (m : KnotRec) (last : Option (Nat × Nat)) {m' : Nat} (hm : Covers m' 0x4c000060) {u₀ u₁
    : State} (hu : Changes m' u₀ u₁) : Changes m' u₀ (resumeDrain m last u₁) := by
  unfold resumeDrain
  repeat' first
    | with_reducible assumption | (fail_if_no_progress beta_reduce)
    | with_reducible refine setVault_changes _ (hm.trans (by decide)) ?_
    | with_reducible refine askSnapshot_changes (hm.trans (by decide)) ?_ | with_reducible apply Changes.ite
    | (fail_if_no_progress with_reducible refine Changes.put_drain (hm.bit (by decide)) ?_)
    | (extract_lets +onlyGivenNames x; refine Changes.cut (a := Changes m' u₀ x) ?_ (fun hx => ?_) <;> [unfold x; clear_value x])
    | extract_lets +onlyGivenNames x | split

theorem resumeKnot_changes (m : KnotRec) {m' : Nat} (hm : Covers m' 0x4c000060) {u₀ u₁ : State} (hu : Changes m' u₀
    u₁) : Changes m' u₀ (resumeKnot m u₁) := by
  unfold resumeKnot
  repeat' first
    | with_reducible assumption | with_reducible refine setVault_changes _ (hm.trans (by decide)) ?_
    | with_reducible refine askSnapshot_changes (hm.trans (by decide)) ?_
    | (fail_if_no_progress with_reducible refine Changes.put_drain (hm.bit (by decide)) ?_)
    | extract_lets +onlyGivenNames x

theorem finalRecords_changes (k : KnotRec) {m' : Nat} (hm : Covers m' 0xc2000008) {u₀ u₁ : State} (hu : Changes m'
    u₀ u₁) : Changes m' u₀ (finalRecords k u₁) := by
  unfold finalRecords
  repeat' first
    | with_reducible assumption | (fail_if_no_progress beta_reduce)
    | with_reducible refine writeRoots_changes (hm.trans (by decide)) ?_
    | with_reducible refine writeDirectory_changes (hm.trans (by decide)) ?_ | with_reducible apply Changes.ite
    | split

theorem resumeAt_changes (k : Option KnotRec) (voided : Bool) (chain : List KnotRec) {m' : Nat} (hm : Covers m'
    0xce3cafff) {u₀ u₁ : State} (hu : Changes m' u₀ u₁) : Changes m' u₀ (resumeAt k voided chain u₁) := by
  unfold resumeAt
  repeat' first
    | with_reducible assumption | (fail_if_no_progress beta_reduce)
    | with_reducible refine resumeFenced_changes (hm.trans (by decide)) ?_
    | with_reducible refine resumeDrain_changes _ _ (hm.trans (by decide)) ?_
    | with_reducible refine resumeKnot_changes _ (hm.trans (by decide)) ?_
    | with_reducible refine afterFinal_changes _ (hm.trans (by decide)) ?_
    | with_reducible refine finalRecords_changes _ (hm.trans (by decide)) ?_ | with_reducible apply Changes.ite
    | (fail_if_no_progress with_reducible refine Changes.put_vlt (hm.bit (by decide)) ?_)
    | (fail_if_no_progress (with_reducible refine Changes.put_mbx (hm.bit (by decide)) ?_ ?_) <;> [(first | exact id | exact fun (h0 : EventLogsSound _) => ⟨h0.four, h0.records⟩); skip])
    | (fail_if_no_progress with_reducible apply Changes.parts <;> first | exact hm.skip (by decide) | exact fun _ => rfl | exact id | (first | exact id | exact fun (h0 : EventLogsSound _) => ⟨h0.four, h0.records⟩) | skip)
    | split

theorem resumeVault_changes {m' : Nat} (hm : Covers m' 0xce3eafff) {u₀ u₁ : State} (hu : Changes m' u₀ u₁) : Changes
    m' u₀ (resumeVault u₁) := by
  unfold resumeVault
  repeat' first
    | with_reducible assumption | (fail_if_no_progress beta_reduce)
    | with_reducible refine adoptKnots_changes _ (hm.trans (by decide)) ?_
    | with_reducible refine scanMap_changes (hm.trans (by decide)) ?_
    | with_reducible refine voidFive_changes _ (hm.trans (by decide)) ?_
    | with_reducible refine demandChanged_changes (hm.trans (by decide)) ?_
    | with_reducible refine noChannel_changes (hm.trans (by decide)) ?_
    | with_reducible refine resumeAt_changes _ _ _ (hm.trans (by decide)) ?_ | with_reducible apply Changes.ite
    | (fail_if_no_progress with_reducible refine Changes.put_stg (hm.bit (by decide)) ?_)
    | (fail_if_no_progress (with_reducible refine Changes.put_thm (hm.bit (by decide)) ?_ ?_) <;> [(first | exact id | (intro h0; constructor <;> first | exact h0.zones | exact h0.sensors | exact keysUp_tmod _ _ _ h0.sensors | simpa [modAt] using h0.zones)); skip])
    | (fail_if_no_progress with_reducible refine Changes.put_warm (hm.bit (by decide)) ?_)
    | (fail_if_no_progress with_reducible apply Changes.parts <;> first | exact hm.skip (by decide) | exact fun _ => rfl | exact id | (first | exact id | (intro h0; constructor <;> first | exact h0.zones | exact h0.sensors | exact keysUp_tmod _ _ _ h0.sensors | simpa [modAt] using h0.zones)) | skip)
    | (extract_lets +onlyGivenNames x; refine Changes.cut (a := Changes m' u₀ x) ?_ (fun hx => ?_) <;> [unfold x; clear_value x])
    | extract_lets +onlyGivenNames x | split

theorem execVaultResume_changes (reads : List PageRead) {m' : Nat} (hm : Covers m' 0xce3eafff) {u₀ u₁ : State} (hu :
    Changes m' u₀ u₁) : ChangesOut m' u₀ (execVaultResume reads u₁) := by
  unfold execVaultResume
  repeat' first
    | with_reducible assumption | (fail_if_no_progress beta_reduce) | with_reducible apply ChangesOut.next
    | with_reducible apply ChangesOut.ite | with_reducible refine unwrapKey_changes (hm.trans (by decide)) ?_
    | with_reducible refine resumeVault_changes (hm.trans (by decide)) ?_
    | with_reducible refine noteReads_changes _ (hm.trans (by decide)) ?_ | with_reducible apply Changes.ite
    | (fail_if_no_progress (with_reducible refine Changes.put_nand (hm.bit (by decide)) ?_ ?_) <;> [(first | exact id | (intro h0; constructor <;> first | exact h0.channels | exact h0.targets | exact h0.blocks | exact keysUp_tmod _ _ _ h0.channels | exact keysUp_tmod _ _ _ h0.targets | exact keysUp_tmod _ _ _ h0.blocks | exact keysUp_tins _ _ h0.blocks | exact keysUp_filter _ h0.targets | exact keysUp_map _ h0.channels (fun _ => rfl) | exact keysUp_map _ h0.targets (fun _ => rfl) | exact keysUp_map _ h0.blocks (fun e => by try beta_reduce; (try split) <;> rfl))); skip])
    | (extract_lets +onlyGivenNames x; refine Changes.cut (a := Changes m' u₀ x) ?_ (fun hx => ?_) <;> [unfold x; clear_value x])
    | extract_lets +onlyGivenNames x | split

/-! ### HostIf -/

theorem execCxlLinkTrained_changes (width speed : Nat) (flit256 : Bool) {m' : Nat} (hm : Covers m' 0x4c0c0420) {u₀
    u₁ : State} (hu : Changes m' u₀ u₁) : ChangesOut m' u₀ (execCxlLinkTrained width speed flit256 u₁) := by
  unfold execCxlLinkTrained
  repeat' first
    | with_reducible assumption | with_reducible apply ChangesOut.next | with_reducible apply ChangesOut.ite
    | with_reducible refine engineCond_changes _ _ (hm.trans (by decide)) ?_ | with_reducible apply Changes.ite
    | (fail_if_no_progress with_reducible refine Changes.put_host (hm.bit (by decide)) ?_)
    | (extract_lets +onlyGivenNames x; refine Changes.cut (a := Changes m' u₀ x) ?_ (fun hx => ?_) <;> [unfold x; clear_value x])
    | extract_lets +onlyGivenNames x | split

theorem execHdmDecoderCommit_changes (decoder : Nat) (req : HdmReq) {m' : Nat} (hm : Covers m' 0x400) {u₀ u₁ :
    State} (hu : Changes m' u₀ u₁) : ChangesOut m' u₀ (execHdmDecoderCommit decoder req u₁) := by
  unfold execHdmDecoderCommit
  repeat' first
    | with_reducible assumption | with_reducible apply ChangesOut.next | with_reducible apply ChangesOut.ite
    | with_reducible apply Changes.ite
    | (fail_if_no_progress with_reducible refine Changes.put_host (hm.bit (by decide)) ?_)
    | (extract_lets +onlyGivenNames x; refine Changes.cut (a := Changes m' u₀ x) ?_ (fun hx => ?_) <;> [unfold x; clear_value x])
    | extract_lets +onlyGivenNames x | split

theorem execGpfPhase1Request_changes {m' : Nat} (hm : Covers m' 0x40000000) {u₀ u₁ : State} (hu : Changes m' u₀ u₁)
    : ChangesOut m' u₀ (execGpfPhase1Request u₁) := by
  unfold execGpfPhase1Request
  repeat' first
    | with_reducible assumption | with_reducible apply ChangesOut.next | with_reducible apply ChangesOut.ite
    | with_reducible refine emit_changes _ (hm.trans (by decide)) ?_ | with_reducible apply Changes.ite | split

theorem execGpfPhase2Request_changes {m' : Nat} (hm : Covers m' 0x40000400) {u₀ u₁ : State} (hu : Changes m' u₀ u₁)
    : ChangesOut m' u₀ (execGpfPhase2Request u₁) := by
  unfold execGpfPhase2Request
  repeat' first
    | with_reducible assumption | with_reducible apply ChangesOut.next | with_reducible apply ChangesOut.ite
    | with_reducible refine answerFlush_changes _ (hm.trans (by decide)) ?_ | with_reducible apply Changes.ite
    | (fail_if_no_progress with_reducible refine Changes.put_host (hm.bit (by decide)) ?_)
    | (extract_lets +onlyGivenNames x; refine Changes.cut (a := Changes m' u₀ x) ?_ (fun hx => ?_) <;> [unfold x; clear_value x])
    | extract_lets +onlyGivenNames x | split

theorem execGpfPhase2Response_changes {m' : Nat} (hm : Covers m' 0xce0c8571) {u₀ u₁ : State} (hu : Changes m' u₀ u₁)
    : ChangesOut m' u₀ (execGpfPhase2Response u₁) := by
  unfold execGpfPhase2Response
  repeat' first
    | with_reducible assumption | (fail_if_no_progress beta_reduce) | with_reducible apply ChangesOut.next
    | with_reducible apply ChangesOut.ite | with_reducible refine answerFlush_changes _ (hm.trans (by decide)) ?_
    | with_reducible refine fence_changes _ (hm.trans (by decide)) ?_ | with_reducible apply Changes.ite
    | (extract_lets +onlyGivenNames x; refine Changes.cut (a := Changes m' u₀ x) ?_ (fun hx => ?_) <;> [unfold x; clear_value x])
    | extract_lets +onlyGivenNames x | split

theorem dropRequests_changes {m' : Nat} (hm : Covers m' 0x82000411) {u₀ u₁ : State} (hu : Changes m' u₀ u₁) :
    Changes m' u₀ (dropRequests u₁) := by
  unfold dropRequests
  repeat' first
    | with_reducible assumption | (fail_if_no_progress beta_reduce)
    | with_reducible refine discardWrites_changes (hm.trans (by decide)) ?_
    | (fail_if_no_progress (with_reducible refine Changes.put_cache (hm.bit (by decide)) ?_ ?_) <;> [(first | exact id | exact fun (h0 : CacheSound _) => ⟨h0.channels, h0.poison, h0.map, h0.caps⟩ | exact fun (h0 : CacheSound _) => ⟨h0.channels, rfl, h0.map, h0.caps⟩ | exact fun (h0 : CacheSound _) => ⟨h0.channels, h0.poison, rfl, h0.caps⟩ | exact fun (h0 : CacheSound _) => ⟨by simpa [modAt] using h0.channels, h0.poison, h0.map, h0.caps⟩ | exact fun (h0 : CacheSound _) => ⟨h0.channels, tableOk_tput _ _ _ _ none h0.poison (by simp), h0.map, h0.caps⟩ | exact fun (h0 : CacheSound _) => ⟨h0.channels, h0.poison, keysUp_tput _ _ _ h0.map, h0.caps⟩ | exact fun (h0 : CacheSound _) => ⟨h0.channels, h0.poison, h0.map, keysUp_tput _ _ _ h0.caps⟩ | exact fun (h0 : CacheSound _) => ⟨rfl, h0.poison, h0.map, h0.caps⟩ | exact fun _ => CacheSound.fresh rfl rfl rfl rfl); skip])
    | (fail_if_no_progress with_reducible refine Changes.put_host (hm.bit (by decide)) ?_)
    | (fail_if_no_progress with_reducible apply Changes.parts <;> first | exact hm.skip (by decide) | exact fun (h0 : CacheSound _) => ⟨h0.channels, h0.poison, h0.map, h0.caps⟩ | exact fun (h0 : CacheSound _) => ⟨h0.channels, rfl, h0.map, h0.caps⟩ | exact fun (h0 : CacheSound _) => ⟨h0.channels, h0.poison, rfl, h0.caps⟩ | exact fun (h0 : CacheSound _) => ⟨h0.channels, tableOk_tput _ _ _ _ none h0.poison (by simp), h0.map, h0.caps⟩ | exact fun (h0 : CacheSound _) => ⟨h0.channels, h0.poison, keysUp_tput _ _ _ h0.map, h0.caps⟩ | exact fun (h0 : CacheSound _) => ⟨h0.channels, h0.poison, h0.map, keysUp_tput _ _ _ h0.caps⟩ | exact fun (h0 : CacheSound _) => ⟨rfl, h0.poison, h0.map, h0.caps⟩ | exact fun _ => CacheSound.fresh rfl rfl rfl rfl | exact fun _ => rfl | exact id | exact fun (h0 : CacheSound _) => ⟨by simpa [modAt] using h0.channels, h0.poison, h0.map, h0.caps⟩ | skip)
    | (extract_lets +onlyGivenNames x; refine Changes.cut (a := Changes m' u₀ x) ?_ (fun hx => ?_) <;> [unfold x; clear_value x])
    | extract_lets +onlyGivenNames x

theorem linkGone_changes {m' : Nat} (hm : Covers m' 0x4c040400) {u₀ u₁ : State} (hu : Changes m' u₀ u₁) : Changes m'
    u₀ (linkGone u₁) := by
  unfold linkGone
  repeat' first
    | with_reducible assumption | with_reducible refine engineClear_changes _ (hm.trans (by decide)) ?_
    | (fail_if_no_progress with_reducible refine Changes.put_host (hm.bit (by decide)) ?_)
    | extract_lets +onlyGivenNames x

theorem hostReset_changes {m' : Nat} (hm : Covers m' 0xce0c8d7b) {u₀ u₁ : State} (hu : Changes m' u₀ u₁) : Changes
    m' u₀ (hostReset u₁) := by
  unfold hostReset
  repeat' first
    | with_reducible assumption | (fail_if_no_progress beta_reduce)
    | with_reducible refine evaluate_changes (hm.trans (by decide)) ?_
    | with_reducible refine dropRequests_changes (hm.trans (by decide)) ?_
    | with_reducible refine fenceByHost_changes (hm.trans (by decide)) ?_
    | with_reducible refine linkGone_changes (hm.trans (by decide)) ?_
    | (fail_if_no_progress with_reducible refine Changes.put_host (hm.bit (by decide)) ?_)
    | (fail_if_no_progress (with_reducible refine Changes.put_mbx (hm.bit (by decide)) ?_ ?_) <;> [(first | exact id | exact fun (h0 : EventLogsSound _) => ⟨h0.four, h0.records⟩); skip])
    | (fail_if_no_progress with_reducible apply Changes.parts <;> first | exact hm.skip (by decide) | exact fun _ => rfl | exact id | (first | exact id | exact fun (h0 : EventLogsSound _) => ⟨h0.four, h0.records⟩) | skip)
    | (extract_lets +onlyGivenNames x; refine Changes.cut (a := Changes m' u₀ x) ?_ (fun hx => ?_) <;> [unfold x; clear_value x])
    | extract_lets +onlyGivenNames x

theorem execPerstN_changes {m' : Nat} (hm : Covers m' 0xce0c8d7b) {u₀ u₁ : State} (hu : Changes m' u₀ u₁) :
    ChangesOut m' u₀ (execPerstN u₁) := by
  unfold execPerstN
  repeat' first
    | with_reducible assumption | with_reducible apply ChangesOut.next | with_reducible apply ChangesOut.ite
    | with_reducible refine hostReset_changes (hm.trans (by decide)) ?_ | with_reducible apply Changes.ite | split

theorem execHotReset_changes {m' : Nat} (hm : Covers m' 0xce0c8d7b) {u₀ u₁ : State} (hu : Changes m' u₀ u₁) :
    ChangesOut m' u₀ (execHotReset u₁) := by
  unfold execHotReset
  repeat' first
    | with_reducible assumption | with_reducible apply ChangesOut.next | with_reducible apply ChangesOut.ite
    | with_reducible refine hostReset_changes (hm.trans (by decide)) ?_ | with_reducible apply Changes.ite | split

theorem linkLoss_changes {m' : Nat} (hm : Covers m' 0xce0c8d7b) {u₀ u₁ : State} (hu : Changes m' u₀ u₁) : Changes m'
    u₀ (linkLoss u₁) := by
  unfold linkLoss
  repeat' first
    | with_reducible assumption | with_reducible refine linkGone_changes (hm.trans (by decide)) ?_
    | with_reducible refine evaluate_changes (hm.trans (by decide)) ?_
    | with_reducible refine dropRequests_changes (hm.trans (by decide)) ?_
    | with_reducible refine fenceByHost_changes (hm.trans (by decide)) ?_
    | (extract_lets +onlyGivenNames x; refine Changes.cut (a := Changes m' u₀ x) ?_ (fun hx => ?_) <;> [unfold x; clear_value x])
    | (fail_if_no_progress with_reducible refine Changes.put_host (hm.bit (by decide)) ?_)
    | (fail_if_no_progress (with_reducible refine Changes.put_mbx (hm.bit (by decide)) ?_ ?_) <;> [(first | exact id | exact fun (h0 : EventLogsSound _) => ⟨h0.four, h0.records⟩); skip])
    | (fail_if_no_progress with_reducible apply Changes.parts <;> first | exact hm.skip (by decide) | exact fun (h0 : EventLogsSound _) => ⟨h0.four, h0.records⟩ | exact fun _ => rfl | exact id | skip)
    | (extract_lets +onlyGivenNames x; refine Changes.cut (a := Changes m' u₀ x) ?_ (fun hx => ?_) <;> [unfold x; clear_value x])
    | extract_lets +onlyGivenNames x

theorem execLinkDown_changes {m' : Nat} (hm : Covers m' 0xce0c8d7b) {u₀ u₁ : State} (hu : Changes m' u₀ u₁) :
    ChangesOut m' u₀ (execLinkDown u₁) := by
  unfold execLinkDown
  repeat' first
    | with_reducible assumption | with_reducible apply ChangesOut.next | with_reducible apply ChangesOut.ite
    | with_reducible refine linkLoss_changes (hm.trans (by decide)) ?_ | with_reducible apply Changes.ite | split

theorem execCxlReset_changes {m' : Nat} (hm : Covers m' 0xce0c8d7b) {u₀ u₁ : State} (hu : Changes m' u₀ u₁) :
    ChangesOut m' u₀ (execCxlReset u₁) := by
  unfold execCxlReset
  repeat' first
    | with_reducible assumption | (fail_if_no_progress beta_reduce) | with_reducible apply ChangesOut.next
    | with_reducible apply ChangesOut.ite | with_reducible refine evaluate_changes (hm.trans (by decide)) ?_
    | with_reducible refine dropRequests_changes (hm.trans (by decide)) ?_
    | with_reducible refine fenceByHost_changes (hm.trans (by decide)) ?_ | with_reducible apply Changes.ite
    | (fail_if_no_progress with_reducible refine Changes.put_host (hm.bit (by decide)) ?_)
    | (fail_if_no_progress (with_reducible refine Changes.put_mbx (hm.bit (by decide)) ?_ ?_) <;> [(first | exact id | exact fun (h0 : EventLogsSound _) => ⟨h0.four, h0.records⟩); skip])
    | (fail_if_no_progress with_reducible apply Changes.parts <;> first | exact hm.skip (by decide) | exact fun _ => rfl | exact id | (first | exact id | exact fun (h0 : EventLogsSound _) => ⟨h0.four, h0.records⟩) | skip)
    | (extract_lets +onlyGivenNames x; refine Changes.cut (a := Changes m' u₀ x) ?_ (fun hx => ?_) <;> [unfold x; clear_value x])
    | extract_lets +onlyGivenNames x | split

theorem execFunctionLevelReset_changes {m' : Nat} (hm : Covers m' 0xce0c0c7b) {u₀ u₁ : State} (hu : Changes m' u₀
    u₁) : ChangesOut m' u₀ (execFunctionLevelReset u₁) := by
  unfold execFunctionLevelReset
  repeat' first
    | with_reducible assumption | with_reducible apply ChangesOut.next | with_reducible apply ChangesOut.ite
    | with_reducible refine evaluate_changes (hm.trans (by decide)) ?_
    | with_reducible refine discardWrites_changes (hm.trans (by decide)) ?_ | with_reducible apply Changes.ite
    | (fail_if_no_progress (with_reducible refine Changes.put_mbx (hm.bit (by decide)) ?_ ?_) <;> [(first | exact id | exact fun (h0 : EventLogsSound _) => ⟨h0.four, h0.records⟩); skip])
    | (extract_lets +onlyGivenNames x; refine Changes.cut (a := Changes m' u₀ x) ?_ (fun hx => ?_) <;> [unfold x; clear_value x])
    | extract_lets +onlyGivenNames x | split

theorem execMsixUnmask_changes (vector : Nat) {m' : Nat} (hm : Covers m' 0x40000400) {u₀ u₁ : State} (hu : Changes
    m' u₀ u₁) : ChangesOut m' u₀ (execMsixUnmask vector u₁) := by
  unfold execMsixUnmask
  repeat' first
    | with_reducible assumption | with_reducible apply ChangesOut.next | with_reducible apply ChangesOut.ite
    | with_reducible refine msix_changes _ (hm.trans (by decide)) ?_ | with_reducible apply Changes.ite
    | (fail_if_no_progress with_reducible refine Changes.put_host (hm.bit (by decide)) ?_)
    | (extract_lets +onlyGivenNames x; refine Changes.cut (a := Changes m' u₀ x) ?_ (fun hx => ?_) <;> [unfold x; clear_value x])
    | extract_lets +onlyGivenNames x | split

/-! ### Mailbox -/

theorem answer_changes (code : RetCode) (values : List Nat) {m' : Nat} (hm : Covers m' 0x40000400) {u₀ u₁ : State}
    (hu : Changes m' u₀ u₁) : ChangesOut m' u₀ (answer code values u₁) := by
  unfold answer
  repeat' first
    | with_reducible assumption | with_reducible apply ChangesOut.next
    | with_reducible refine msix_changes _ (hm.trans (by decide)) ?_
    | with_reducible refine emit_changes _ (hm.trans (by decide)) ?_

theorem reply_changes (code : RetCode) (bytes : List Byte) {m' : Nat} (hm : Covers m' 0x40000400) {u₀ u₁ : State}
    (hu : Changes m' u₀ u₁) : ChangesOut m' u₀ (reply code bytes u₁) := by
  unfold reply
  repeat' first
    | with_reducible assumption | with_reducible apply ChangesOut.next
    | with_reducible refine msix_changes _ (hm.trans (by decide)) ?_
    | with_reducible refine emit_changes _ (hm.trans (by decide)) ?_

theorem whenOpen_changes {m' : Nat} {u₀ u₁ : State} (f : State → Host.Outcome State Fault Refusal)
    (hf : ∀ v, Changes m' u₀ v → ChangesOut m' u₀ (f v)) (hu : Changes m' u₀ u₁) : ChangesOut m' u₀ (whenOpen u₁ f) := by
  unfold whenOpen
  split
  · exact hf _ hu
  · exact ChangesOut.next hu

theorem execIdentify_changes {m' : Nat} (hm : Covers m' 0x40000400) {u₀ u₁ : State} (hu : Changes m' u₀ u₁) :
    ChangesOut m' u₀ (execIdentify u₁) := by
  unfold execIdentify
  repeat' first
    | with_reducible assumption | (fail_if_no_progress beta_reduce) | with_reducible apply ChangesOut.next
    | (with_reducible refine whenOpen_changes _ (fun v hv => ?_) ?_)
    | with_reducible refine answer_changes _ _ (hm.trans (by decide)) ?_
    | split

theorem execBackgroundOperationStatus_changes {m' : Nat} (hm : Covers m' 0xc0000400) {u₀ u₁ : State} (hu : Changes
    m' u₀ u₁) : ChangesOut m' u₀ (execBackgroundOperationStatus u₁) := by
  unfold execBackgroundOperationStatus
  repeat' first
    | with_reducible assumption | (fail_if_no_progress beta_reduce) | with_reducible apply ChangesOut.next
    | with_reducible apply ChangesOut.ite | (with_reducible refine whenOpen_changes _ (fun v hv => ?_) ?_)
    | with_reducible refine answer_changes _ _ (hm.trans (by decide)) ?_
    | with_reducible refine nextFree_changes (hm.trans (by decide)) ?_ | with_reducible apply Changes.ite | split

theorem execGetEventRecords_changes (log : Nat) {m' : Nat} (hm : Covers m' 0x40000400) {u₀ u₁ : State} (hu : Changes
    m' u₀ u₁) : ChangesOut m' u₀ (execGetEventRecords log u₁) := by
  unfold execGetEventRecords
  repeat' first
    | with_reducible assumption | (fail_if_no_progress beta_reduce) | with_reducible apply ChangesOut.next
    | with_reducible apply ChangesOut.ite | (with_reducible refine whenOpen_changes _ (fun v hv => ?_) ?_)
    | with_reducible refine answer_changes _ _ (hm.trans (by decide)) ?_ | with_reducible apply Changes.ite
    | (extract_lets +onlyGivenNames x; refine Changes.cut (a := Changes m' u₀ x) ?_ (fun hx => ?_) <;> [unfold x; clear_value x])
    | extract_lets +onlyGivenNames x | split

theorem execClearEventRecords_changes (log : Nat) (all : Bool) (handles : List Nat) {m' : Nat}
    (hm : Covers m' 0x40000c00) {u₀ u₁ : State} (hu : Changes m' u₀ u₁) :
    ChangesOut m' u₀ (execClearEventRecords log all handles u₁) := by
  unfold execClearEventRecords
  refine whenOpen_changes _ (fun v hv => ?_) hu
  dsimp only
  split
  · refine answer_changes _ _ (hm.trans (by decide)) (hv.put_mbx (hm.bit (by decide)) (fun h => h.set log _ _ ?_ rfl))
    split
    · exact Nat.zero_le _
    · exact Nat.le_trans (List.length_filter_le _ _) (eventLog_records log h)
  · exact answer_changes _ _ (hm.trans (by decide)) hv

theorem execGetEventInterruptPolicy_changes {m' : Nat} (hm : Covers m' 0x40000400) {u₀ u₁ : State} (hu : Changes m'
    u₀ u₁) : ChangesOut m' u₀ (execGetEventInterruptPolicy u₁) := by
  unfold execGetEventInterruptPolicy
  repeat' first
    | with_reducible assumption | (fail_if_no_progress beta_reduce) | with_reducible apply ChangesOut.next
    | (with_reducible refine whenOpen_changes _ (fun v hv => ?_) ?_)
    | with_reducible refine answer_changes _ _ (hm.trans (by decide)) ?_

theorem execSetEventInterruptPolicy_changes (info warn failure fatal : Option Bool) {m' : Nat} (hm : Covers m'
    0x40000c00) {u₀ u₁ : State} (hu : Changes m' u₀ u₁) : ChangesOut m' u₀ (execSetEventInterruptPolicy info warn
    failure fatal u₁) := by
  unfold execSetEventInterruptPolicy
  repeat' first
    | with_reducible assumption | (fail_if_no_progress beta_reduce) | with_reducible apply ChangesOut.next
    | (with_reducible refine whenOpen_changes _ (fun v hv => ?_) ?_)
    | with_reducible refine answer_changes _ _ (hm.trans (by decide)) ?_
    | (fail_if_no_progress (with_reducible refine Changes.put_mbx (hm.bit (by decide)) ?_ ?_) <;> [(first | exact id | exact fun (h0 : EventLogsSound _) => ⟨h0.four, h0.records⟩); skip])
    | (extract_lets +onlyGivenNames x; refine Changes.cut (a := Changes m' u₀ x) ?_ (fun hx => ?_) <;> [unfold x; clear_value x])
    | extract_lets +onlyGivenNames x

theorem execGetFwInfo_changes {m' : Nat} (hm : Covers m' 0x40000400) {u₀ u₁ : State} (hu : Changes m' u₀ u₁) :
    ChangesOut m' u₀ (execGetFwInfo u₁) := by
  unfold execGetFwInfo
  repeat' first
    | with_reducible assumption | (fail_if_no_progress beta_reduce) | with_reducible apply ChangesOut.next
    | (with_reducible refine whenOpen_changes _ (fun v hv => ?_) ?_)
    | with_reducible refine answer_changes _ _ (hm.trans (by decide)) ?_

theorem execGetTimestamp_changes {m' : Nat} (hm : Covers m' 0x40000400) {u₀ u₁ : State} (hu : Changes m' u₀ u₁) :
    ChangesOut m' u₀ (execGetTimestamp u₁) := by
  unfold execGetTimestamp
  repeat' first
    | with_reducible assumption | (fail_if_no_progress beta_reduce) | with_reducible apply ChangesOut.next
    | (with_reducible refine whenOpen_changes _ (fun v hv => ?_) ?_)
    | with_reducible refine answer_changes _ _ (hm.trans (by decide)) ?_
    | split

theorem execSetTimestamp_changes (value : DWord) {m' : Nat} (hm : Covers m' 0x41000400) {u₀ u₁ : State} (hu :
    Changes m' u₀ u₁) : ChangesOut m' u₀ (execSetTimestamp value u₁) := by
  unfold execSetTimestamp
  repeat' first
    | with_reducible assumption | (fail_if_no_progress beta_reduce) | with_reducible apply ChangesOut.next
    | (with_reducible refine whenOpen_changes _ (fun v hv => ?_) ?_)
    | with_reducible refine answer_changes _ _ (hm.trans (by decide)) ?_
    | (fail_if_no_progress (with_reducible refine Changes.put_tbs (hm.bit (by decide)) ?_ ?_) <;> [(exact id); skip])
    | extract_lets +onlyGivenNames x

theorem execGetSupportedLogs_changes {m' : Nat} (hm : Covers m' 0x40000400) {u₀ u₁ : State} (hu : Changes m' u₀ u₁)
    : ChangesOut m' u₀ (execGetSupportedLogs u₁) := by
  unfold execGetSupportedLogs
  repeat' first
    | with_reducible assumption | (fail_if_no_progress beta_reduce) | with_reducible apply ChangesOut.next
    | (with_reducible refine whenOpen_changes _ (fun v hv => ?_) ?_)
    | with_reducible refine answer_changes _ _ (hm.trans (by decide)) ?_

theorem execGetLog_changes (cel : Bool) (offset length : Nat) {m' : Nat} (hm : Covers m' 0x40000400) {u₀ u₁ : State}
    (hu : Changes m' u₀ u₁) : ChangesOut m' u₀ (execGetLog cel offset length u₁) := by
  unfold execGetLog
  repeat' first
    | with_reducible assumption | (fail_if_no_progress beta_reduce) | with_reducible apply ChangesOut.next
    | with_reducible apply ChangesOut.ite | (with_reducible refine whenOpen_changes _ (fun v hv => ?_) ?_)
    | with_reducible refine answer_changes _ _ (hm.trans (by decide)) ?_ | with_reducible apply Changes.ite | split

theorem execIdentifyMemoryDevice_changes {m' : Nat} (hm : Covers m' 0x40000400) {u₀ u₁ : State} (hu : Changes m' u₀
    u₁) : ChangesOut m' u₀ (execIdentifyMemoryDevice u₁) := by
  unfold execIdentifyMemoryDevice
  repeat' first
    | with_reducible assumption | (fail_if_no_progress beta_reduce) | with_reducible apply ChangesOut.next
    | (with_reducible refine whenOpen_changes _ (fun v hv => ?_) ?_)
    | with_reducible refine answer_changes _ _ (hm.trans (by decide)) ?_
    | (extract_lets +onlyGivenNames x; refine Changes.cut (a := Changes m' u₀ x) ?_ (fun hx => ?_) <;> [unfold x; clear_value x])
    | extract_lets +onlyGivenNames x

theorem execGetPartitionInfo_changes {m' : Nat} (hm : Covers m' 0x40000400) {u₀ u₁ : State} (hu : Changes m' u₀ u₁)
    : ChangesOut m' u₀ (execGetPartitionInfo u₁) := by
  unfold execGetPartitionInfo
  repeat' first
    | with_reducible assumption | (fail_if_no_progress beta_reduce) | with_reducible apply ChangesOut.next
    | (with_reducible refine whenOpen_changes _ (fun v hv => ?_) ?_)
    | with_reducible refine answer_changes _ _ (hm.trans (by decide)) ?_

theorem execGetLsa_changes (offset : Nat) (length : Nat) {m' : Nat} (hm : Covers m' 0x40000400) {u₀ u₁ : State} (hu
    : Changes m' u₀ u₁) : ChangesOut m' u₀ (execGetLsa offset length u₁) := by
  unfold execGetLsa
  repeat' first
    | with_reducible assumption | (fail_if_no_progress beta_reduce) | with_reducible apply ChangesOut.next
    | with_reducible apply ChangesOut.ite | (with_reducible refine whenOpen_changes _ (fun v hv => ?_) ?_)
    | with_reducible refine reply_changes _ _ (hm.trans (by decide)) ?_
    | with_reducible refine answer_changes _ _ (hm.trans (by decide)) ?_ | with_reducible apply Changes.ite
    | split

theorem execSetLsa_changes (offset : Nat) (data : List Byte) {m' : Nat} (hm : Covers m' 0xce7defff) {u₀ u₁ : State}
    (hu : Changes m' u₀ u₁) : ChangesOut m' u₀ (execSetLsa offset data u₁) := by
  unfold execSetLsa
  repeat' first
    | with_reducible assumption | (fail_if_no_progress beta_reduce) | with_reducible apply ChangesOut.next
    | with_reducible apply ChangesOut.ite | (with_reducible refine whenOpen_changes _ (fun v hv => ?_) ?_)
    | with_reducible refine answer_changes _ _ (hm.trans (by decide)) ?_
    | with_reducible refine writeLsa_changes _ _ (hm.trans (by decide)) ?_ | with_reducible apply Changes.ite
    | split

theorem execGetHealthInfo_changes {m' : Nat} (hm : Covers m' 0x40000400) {u₀ u₁ : State} (hu : Changes m' u₀ u₁) :
    ChangesOut m' u₀ (execGetHealthInfo u₁) := by
  unfold execGetHealthInfo
  repeat' first
    | with_reducible assumption | (fail_if_no_progress beta_reduce) | with_reducible apply ChangesOut.next
    | (with_reducible refine whenOpen_changes _ (fun v hv => ?_) ?_)
    | with_reducible refine answer_changes _ _ (hm.trans (by decide)) ?_

theorem execGetAlertConfiguration_changes {m' : Nat} (hm : Covers m' 0x40000400) {u₀ u₁ : State} (hu : Changes m' u₀
    u₁) : ChangesOut m' u₀ (execGetAlertConfiguration u₁) := by
  unfold execGetAlertConfiguration
  repeat' first
    | with_reducible assumption | (fail_if_no_progress beta_reduce) | with_reducible apply ChangesOut.next
    | (with_reducible refine whenOpen_changes _ (fun v hv => ?_) ?_)
    | with_reducible refine answer_changes _ _ (hm.trans (by decide)) ?_

theorem execSetAlertConfiguration_changes (lifeUsed temperature correctedErrors : Option Nat) {m' : Nat} (hm :
    Covers m' 0x40000c00) {u₀ u₁ : State} (hu : Changes m' u₀ u₁) : ChangesOut m' u₀ (execSetAlertConfiguration
    lifeUsed temperature correctedErrors u₁) := by
  unfold execSetAlertConfiguration
  repeat' first
    | with_reducible assumption | (fail_if_no_progress beta_reduce) | with_reducible apply ChangesOut.next
    | (with_reducible refine whenOpen_changes _ (fun v hv => ?_) ?_)
    | with_reducible refine answer_changes _ _ (hm.trans (by decide)) ?_
    | (fail_if_no_progress (with_reducible refine Changes.put_mbx (hm.bit (by decide)) ?_ ?_) <;> [(first | exact id | exact fun (h0 : EventLogsSound _) => ⟨h0.four, h0.records⟩); skip])
    | extract_lets +onlyGivenNames x

theorem execGetShutdownState_changes {m' : Nat} (hm : Covers m' 0x40000400) {u₀ u₁ : State} (hu : Changes m' u₀ u₁)
    : ChangesOut m' u₀ (execGetShutdownState u₁) := by
  unfold execGetShutdownState
  repeat' first
    | with_reducible assumption | (fail_if_no_progress beta_reduce) | with_reducible apply ChangesOut.next
    | (with_reducible refine whenOpen_changes _ (fun v hv => ?_) ?_)
    | with_reducible refine answer_changes _ _ (hm.trans (by decide)) ?_

theorem execSetShutdownState_changes (value : Nat) {m' : Nat} (hm : Covers m' 0x40000c00) {u₀ u₁ : State} (hu :
    Changes m' u₀ u₁) : ChangesOut m' u₀ (execSetShutdownState value u₁) := by
  unfold execSetShutdownState
  repeat' first
    | with_reducible assumption | (fail_if_no_progress beta_reduce) | with_reducible apply ChangesOut.next
    | with_reducible apply ChangesOut.ite | (with_reducible refine whenOpen_changes _ (fun v hv => ?_) ?_)
    | with_reducible refine answer_changes _ _ (hm.trans (by decide)) ?_ | with_reducible apply Changes.ite
    | (fail_if_no_progress (with_reducible refine Changes.put_mbx (hm.bit (by decide)) ?_ ?_) <;> [(first | exact id | exact fun (h0 : EventLogsSound _) => ⟨h0.four, h0.records⟩); skip])
    | split

theorem execGetPoisonList_changes (dpa lines : Nat) {m' : Nat} (hm : Covers m' 0x40000400) {u₀ u₁ : State} (hu :
    Changes m' u₀ u₁) : ChangesOut m' u₀ (execGetPoisonList dpa lines u₁) := by
  unfold execGetPoisonList
  repeat' first
    | with_reducible assumption | (fail_if_no_progress beta_reduce) | with_reducible apply ChangesOut.next
    | (with_reducible refine whenOpen_changes _ (fun v hv => ?_) ?_)
    | with_reducible refine answer_changes _ _ (hm.trans (by decide)) ?_
    | (extract_lets +onlyGivenNames x; refine Changes.cut (a := Changes m' u₀ x) ?_ (fun hx => ?_) <;> [unfold x; clear_value x])
    | extract_lets +onlyGivenNames x

theorem execUnsupportedCommand_changes (_opcode : Nat) {m' : Nat} (hm : Covers m' 0x40000400) {u₀ u₁ : State} (hu :
    Changes m' u₀ u₁) : ChangesOut m' u₀ (execUnsupportedCommand _opcode u₁) := by
  unfold execUnsupportedCommand
  repeat' first
    | with_reducible assumption | (fail_if_no_progress beta_reduce) | with_reducible apply ChangesOut.next
    | (with_reducible refine whenOpen_changes _ (fun v hv => ?_) ?_)
    | with_reducible refine answer_changes _ _ (hm.trans (by decide)) ?_

theorem startBg_changes (c : BgCmd) (phase : BgPhase) {m' : Nat} (hm : Covers m' 0x810) {u₀ u₁ : State} (hu :
    Changes m' u₀ u₁) : Changes m' u₀ (startBg c phase u₁) := by
  unfold startBg
  repeat' first
    | with_reducible assumption
    | (fail_if_no_progress with_reducible refine Changes.put_stg (hm.bit (by decide)) ?_)
    | (fail_if_no_progress (with_reducible refine Changes.put_mbx (hm.bit (by decide)) ?_ ?_) <;> [(first | exact id | exact fun (h0 : EventLogsSound _) => ⟨h0.four, h0.records⟩); skip])
    | (fail_if_no_progress with_reducible apply Changes.parts <;> first | exact hm.skip (by decide) | exact fun _ => rfl | exact id | (first | exact id | exact fun (h0 : EventLogsSound _) => ⟨h0.four, h0.records⟩) | skip)

theorem emptyCache_changes {m' : Nat} (hm : Covers m' 0xce0c0cfb) {u₀ u₁ : State} (hu : Changes m' u₀ u₁) : Changes
    m' u₀ (emptyCache u₁) := by
  unfold emptyCache
  repeat' first
    | with_reducible assumption | with_reducible refine evaluate_changes (hm.trans (by decide)) ?_
    | with_reducible refine checkComplete_changes (hm.trans (by decide)) ?_
    | with_reducible refine emptyPoison_changes (hm.trans (by decide)) ?_
    | with_reducible refine zeroMap_changes (hm.trans (by decide)) ?_
    | with_reducible refine requeueFetches_changes (hm.trans (by decide)) ?_

theorem execSanitize_changes {m' : Nat} (hm : Covers m' 0xce0c0cfb) {u₀ u₁ : State} (hu : Changes m' u₀ u₁) :
    ChangesOut m' u₀ (execSanitize u₁) := by
  unfold execSanitize
  repeat' first
    | with_reducible assumption | (fail_if_no_progress beta_reduce) | with_reducible apply ChangesOut.next
    | with_reducible apply ChangesOut.ite | (with_reducible refine whenOpen_changes _ (fun v hv => ?_) ?_)
    | with_reducible refine forgetEpochs_changes (hm.trans (by decide)) ?_
    | with_reducible refine startBg_changes _ _ (hm.trans (by decide)) ?_
    | with_reducible refine answer_changes _ _ (hm.trans (by decide)) ?_
    | with_reducible refine emptyCache_changes (hm.trans (by decide)) ?_ | with_reducible apply Changes.ite
    | (fail_if_no_progress (with_reducible refine Changes.put_dram (hm.bit (by decide)) ?_ ?_) <;> [(first | exact id | exact fun _ => rfl); skip])
    | (extract_lets +onlyGivenNames x; refine Changes.cut (a := Changes m' u₀ x) ?_ (fun hx => ?_) <;> [unfold x; clear_value x])
    | extract_lets +onlyGivenNames x | split

theorem execSealImage_changes (input : List Byte) {m' : Nat} (hm : Covers m' 0x40000c10) {u₀ u₁ : State} (hu :
    Changes m' u₀ u₁) : ChangesOut m' u₀ (execSealImage input u₁) := by
  unfold execSealImage
  repeat' first
    | with_reducible assumption | (fail_if_no_progress beta_reduce) | with_reducible apply ChangesOut.next
    | with_reducible apply ChangesOut.ite | (with_reducible refine whenOpen_changes _ (fun v hv => ?_) ?_)
    | with_reducible refine reply_changes _ _ (hm.trans (by decide)) ?_
    | with_reducible refine startBg_changes _ _ (hm.trans (by decide)) ?_ | with_reducible apply Changes.ite
    | split

theorem execSealResidualZero_changes {m' : Nat} (hm : Covers m' 0x4c0c0870) {u₀ u₁ : State} (hu : Changes m' u₀ u₁)
    : ChangesOut m' u₀ (execSealResidualZero u₁) := by
  unfold execSealResidualZero
  repeat' first
    | with_reducible assumption | with_reducible apply ChangesOut.next | with_reducible apply ChangesOut.ite
    | with_reducible refine closeOpen_changes (hm.trans (by decide)) ?_
    | with_reducible refine beginSeal_changes (hm.trans (by decide)) ?_ | with_reducible apply Changes.ite
    | (extract_lets +onlyGivenNames x; refine Changes.cut (a := Changes m' u₀ x) ?_ (fun hx => ?_) <;> [unfold x; clear_value x])
    | extract_lets +onlyGivenNames x | split

theorem execSealTimeout_changes {m' : Nat} (hm : Covers m' 0xce3defff) {u₀ u₁ : State} (hu : Changes m' u₀ u₁) :
    ChangesOut m' u₀ (execSealTimeout u₁) := by
  unfold execSealTimeout
  repeat' first
    | with_reducible assumption | with_reducible apply ChangesOut.next | with_reducible apply ChangesOut.ite
    | (with_reducible refine withAbort_changes _ (hm.trans (by decide)) (fun v hv => ?_) ?_)
    | with_reducible refine endExercise_changes _ (hm.trans (by decide)) ?_
    | with_reducible refine releaseWaiting_changes (hm.trans (by decide)) ?_
    | with_reducible refine endBackground_changes _ (hm.trans (by decide)) ?_ | with_reducible apply Changes.ite
    | split

theorem execDropImage_changes (input : List Byte) {m' : Nat} (hm : Covers m' 0xce0c0cfb) {u₀ u₁ : State} (hu :
    Changes m' u₀ u₁) : ChangesOut m' u₀ (execDropImage input u₁) := by
  unfold execDropImage
  repeat' first
    | with_reducible assumption | (fail_if_no_progress beta_reduce) | with_reducible apply ChangesOut.next
    | with_reducible apply ChangesOut.ite | (with_reducible refine whenOpen_changes _ (fun v hv => ?_) ?_)
    | with_reducible refine reply_changes _ _ (hm.trans (by decide)) ?_
    | with_reducible refine emptyCache_changes (hm.trans (by decide)) ?_
    | with_reducible refine startBg_changes _ _ (hm.trans (by decide)) ?_ | with_reducible apply Changes.ite | split

theorem execBackgroundCommandDone_changes {m' : Nat} (hm : Covers m' 0xce3defff) {u₀ u₁ : State} (hu : Changes m' u₀
    u₁) : ChangesOut m' u₀ (execBackgroundCommandDone u₁) := by
  unfold execBackgroundCommandDone
  repeat' first
    | with_reducible assumption | with_reducible apply ChangesOut.next
    | with_reducible refine releaseWaiting_changes (hm.trans (by decide)) ?_
    | with_reducible refine endBackground_changes _ (hm.trans (by decide)) ?_
    | with_reducible refine eraseStore_changes (hm.trans (by decide)) ?_ | split

theorem execGetVaultStatus_changes (input : List Byte) {m' : Nat} (hm : Covers m' 0x40000400) {u₀ u₁ : State} (hu :
    Changes m' u₀ u₁) : ChangesOut m' u₀ (execGetVaultStatus input u₁) := by
  unfold execGetVaultStatus
  repeat' first
    | with_reducible assumption | (fail_if_no_progress beta_reduce) | with_reducible apply ChangesOut.next
    | with_reducible apply ChangesOut.ite | (with_reducible refine whenOpen_changes _ (fun v hv => ?_) ?_)
    | with_reducible refine reply_changes _ _ (hm.trans (by decide)) ?_ | with_reducible apply Changes.ite
    | split

theorem execRequestVault_changes (input : List Byte) {m' : Nat} (hm : Covers m' 0x40080400) {u₀ u₁ : State} (hu :
    Changes m' u₀ u₁) : ChangesOut m' u₀ (execRequestVault input u₁) := by
  unfold execRequestVault
  repeat' first
    | with_reducible assumption | (fail_if_no_progress beta_reduce) | with_reducible apply ChangesOut.next
    | with_reducible apply ChangesOut.ite | (with_reducible refine whenOpen_changes _ (fun v hv => ?_) ?_)
    | with_reducible refine reply_changes _ _ (hm.trans (by decide)) ?_
    | with_reducible refine drivePair_changes _ _ (hm.trans (by decide)) ?_ | with_reducible apply Changes.ite
    | split

theorem execGetLossReport_changes (input : List Byte) {m' : Nat} (hm : Covers m' 0x40000400) {u₀ u₁ : State} (hu :
    Changes m' u₀ u₁) : ChangesOut m' u₀ (execGetLossReport input u₁) := by
  unfold execGetLossReport
  repeat' first
    | with_reducible assumption | (fail_if_no_progress beta_reduce) | with_reducible apply ChangesOut.next
    | with_reducible apply ChangesOut.ite | (with_reducible refine whenOpen_changes _ (fun v hv => ?_) ?_)
    | with_reducible refine reply_changes _ _ (hm.trans (by decide)) ?_ | with_reducible apply Changes.ite | split

theorem execSetBoltCap_changes (input : List Byte) {m' : Nat} (hm : Covers m' 0x40000401) {u₀ u₁ : State} (hu :
    Changes m' u₀ u₁) : ChangesOut m' u₀ (execSetBoltCap input u₁) := by
  unfold execSetBoltCap
  repeat' first
    | with_reducible assumption | (fail_if_no_progress beta_reduce) | with_reducible apply ChangesOut.next
    | with_reducible apply ChangesOut.ite | (with_reducible refine whenOpen_changes _ (fun v hv => ?_) ?_)
    | with_reducible refine reply_changes _ _ (hm.trans (by decide)) ?_ | with_reducible apply Changes.ite
    | (fail_if_no_progress (with_reducible refine Changes.put_cache (hm.bit (by decide)) ?_ ?_) <;> [(first | exact id | exact fun (h0 : CacheSound _) => ⟨h0.channels, h0.poison, h0.map, h0.caps⟩ | exact fun (h0 : CacheSound _) => ⟨h0.channels, rfl, h0.map, h0.caps⟩ | exact fun (h0 : CacheSound _) => ⟨h0.channels, h0.poison, rfl, h0.caps⟩ | exact fun (h0 : CacheSound _) => ⟨by simpa [modAt] using h0.channels, h0.poison, h0.map, h0.caps⟩ | exact fun (h0 : CacheSound _) => ⟨h0.channels, tableOk_tput _ _ _ _ none h0.poison (by simp), h0.map, h0.caps⟩ | exact fun (h0 : CacheSound _) => ⟨h0.channels, h0.poison, keysUp_tput _ _ _ h0.map, h0.caps⟩ | exact fun (h0 : CacheSound _) => ⟨h0.channels, h0.poison, h0.map, keysUp_tput _ _ _ h0.caps⟩ | exact fun (h0 : CacheSound _) => ⟨rfl, h0.poison, h0.map, h0.caps⟩ | exact fun _ => CacheSound.fresh rfl rfl rfl rfl); skip])
    | (extract_lets +onlyGivenNames x; refine Changes.cut (a := Changes m' u₀ x) ?_ (fun hx => ?_) <;> [unfold x; clear_value x])
    | extract_lets +onlyGivenNames x | split

theorem execVendorGetLog_changes (input : List Byte) {m' : Nat} (hm : Covers m' 0x40000400) {u₀ u₁ : State} (hu :
    Changes m' u₀ u₁) : ChangesOut m' u₀ (execVendorGetLog input u₁) := by
  unfold execVendorGetLog
  repeat' first
    | with_reducible assumption | (fail_if_no_progress beta_reduce) | with_reducible apply ChangesOut.next
    | with_reducible apply ChangesOut.ite | (with_reducible refine whenOpen_changes _ (fun v hv => ?_) ?_)
    | with_reducible refine reply_changes _ _ (hm.trans (by decide)) ?_ | with_reducible apply Changes.ite
    | (extract_lets +onlyGivenNames x; refine Changes.cut (a := Changes m' u₀ x) ?_ (fun hx => ?_) <;> [unfold x; clear_value x])
    | extract_lets +onlyGivenNames x | split

end Sys2Proof.Machine
end

