-- ==== Sys2Proof/Laws/ChangesPower.lean ====
section
/-! SUPPORT. The frames of rail link, power tree, charger and gauge. -/

set_option linter.all false
set_option linter.unusedTactic false
set_option linter.unreachableTactic false

namespace Sys2Proof.Machine

/-! ### Rail -/

theorem sendAck_changes (status : Nat) (seq : Nat) (vout : Nat) {m' : Nat} (hm : Covers m' 0x40000200) {u₀ u₁ :
    State} (hu : Changes m' u₀ u₁) : Changes m' u₀ (sendAck status seq vout u₁) := by
  unfold sendAck
  repeat' first
    | with_reducible assumption | (fail_if_no_progress beta_reduce)
    | with_reducible refine emit_changes _ (hm.trans (by decide)) ?_ | with_reducible apply Changes.ite
    | (fail_if_no_progress with_reducible refine Changes.put_vcore (hm.bit (by decide)) ?_)
    | (extract_lets +onlyGivenNames x; refine Changes.cut (a := Changes m' u₀ x) ?_ (fun hx => ?_) <;> [unfold x; clear_value x])
    | extract_lets +onlyGivenNames x | split

theorem sendMeasured_changes (status seq : Nat) {m' : Nat} (hm : Covers m' 0xc0000200) {u₀ u₁ : State} (hu : Changes
    m' u₀ u₁) : Changes m' u₀ (sendMeasured status seq u₁) := by
  unfold sendMeasured
  repeat' first
    | with_reducible assumption | with_reducible refine sendAck_changes _ _ _ (hm.trans (by decide)) ?_
    | with_reducible refine nextFree_changes (hm.trans (by decide)) ?_ | with_reducible apply Changes.ite | split

theorem displace_changes {m' : Nat} (hm : Covers m' 0xc0000200) {u₀ u₁ : State} (hu : Changes m' u₀ u₁) : Changes m'
    u₀ (displace u₁) := by
  unfold displace
  repeat' first
    | with_reducible assumption | (fail_if_no_progress beta_reduce)
    | with_reducible refine sendAck_changes _ _ _ (hm.trans (by decide)) ?_
    | with_reducible refine nextFree_changes (hm.trans (by decide)) ?_ | with_reducible apply Changes.ite
    | (fail_if_no_progress with_reducible refine Changes.put_vcore (hm.bit (by decide)) ?_)
    | (extract_lets +onlyGivenNames x; refine Changes.cut (a := Changes m' u₀ x) ?_ (fun hx => ?_) <;> [unfold x; clear_value x])
    | extract_lets +onlyGivenNames x | split

theorem takeSet_changes (seq : Nat) (code : Nat) (slew : Nat) {m' : Nat} (hm : Covers m' 0xc0000200) {u₀ u₁ : State}
    (hu : Changes m' u₀ u₁) : Changes m' u₀ (takeSet seq code slew u₁) := by
  unfold takeSet
  repeat' first
    | with_reducible assumption | (fail_if_no_progress beta_reduce)
    | with_reducible refine displace_changes (hm.trans (by decide)) ?_
    | with_reducible refine sendAck_changes _ _ _ (hm.trans (by decide)) ?_ | with_reducible apply Changes.ite
    | (fail_if_no_progress with_reducible refine Changes.put_vcore (hm.bit (by decide)) ?_)
    | (extract_lets +onlyGivenNames x; refine Changes.cut (a := Changes m' u₀ x) ?_ (fun hx => ?_) <;> [unfold x; clear_value x])
    | extract_lets +onlyGivenNames x | split

theorem noteWord_changes (w : Nat) {m' : Nat} (hm : Covers m' 0x200) {u₀ u₁ : State} (hu : Changes m' u₀ u₁) :
    Changes m' u₀ (noteWord w u₁) := by
  unfold noteWord
  repeat' first
    | with_reducible assumption
    | (fail_if_no_progress with_reducible refine Changes.put_vcore (hm.bit (by decide)) ?_)

theorem takeCommand_changes (w : Nat) {m' : Nat} (hm : Covers m' 0xc0000200) {u₀ u₁ : State} (hu : Changes m' u₀ u₁)
    : Changes m' u₀ (takeCommand w u₁) := by
  unfold takeCommand
  repeat' first
    | with_reducible assumption | with_reducible refine noteWord_changes _ (hm.trans (by decide)) ?_
    | with_reducible refine sendMeasured_changes _ _ (hm.trans (by decide)) ?_
    | with_reducible refine takeSet_changes _ _ _ (hm.trans (by decide)) ?_ | with_reducible apply Changes.ite
    | (extract_lets +onlyGivenNames x; refine Changes.cut (a := Changes m' u₀ x) ?_ (fun hx => ?_) <;> [unfold x; clear_value x])
    | extract_lets +onlyGivenNames x | split

theorem repeatAck_changes (w : Nat) {m' : Nat} (hm : Covers m' 0xc0000200) {u₀ u₁ : State} (hu : Changes m' u₀ u₁) :
    Changes m' u₀ (repeatAck w u₁) := by
  unfold repeatAck
  repeat' first
    | with_reducible assumption | with_reducible refine sendMeasured_changes _ _ (hm.trans (by decide)) ?_
    | with_reducible apply Changes.ite
    | split

theorem vcmdFrame_changes (word : Word) (complement : Word) (shape : RailShape) (iout : Nat) {m' : Nat} (hm : Covers
    m' 0xce3defff) {u₀ u₁ : State} (hu : Changes m' u₀ u₁) : Changes m' u₀ (vcmdFrame word complement shape iout u₁)
    := by
  unfold vcmdFrame
  repeat' first
    | with_reducible assumption | (fail_if_no_progress beta_reduce)
    | with_reducible refine pcClear_changes _ (hm.trans (by decide)) ?_
    | with_reducible refine repeatAck_changes _ (hm.trans (by decide)) ?_
    | with_reducible refine takeCommand_changes _ (hm.trans (by decide)) ?_ | with_reducible apply Changes.ite
    | (fail_if_no_progress with_reducible refine Changes.put_vcore (hm.bit (by decide)) ?_)
    | (extract_lets +onlyGivenNames x; refine Changes.cut (a := Changes m' u₀ x) ?_ (fun hx => ?_) <;> [unfold x; clear_value x])
    | extract_lets +onlyGivenNames x | split

theorem execSet_changes (word : Word) (complement : Word) (shape : RailShape) (iout : Nat) {m' : Nat} (hm : Covers
    m' 0xce3defff) {u₀ u₁ : State} (hu : Changes m' u₀ u₁) : ChangesOut m' u₀ (execSet word complement shape iout
    u₁) := by
  unfold execSet
  repeat' first
    | with_reducible assumption | with_reducible apply ChangesOut.next
    | with_reducible refine vcmdFrame_changes _ _ _ _ (hm.trans (by decide)) ?_

theorem execQuery_changes (word : Word) (complement : Word) (shape : RailShape) (iout : Nat) {m' : Nat} (hm : Covers
    m' 0xce3defff) {u₀ u₁ : State} (hu : Changes m' u₀ u₁) : ChangesOut m' u₀ (execQuery word complement shape iout
    u₁) := by
  unfold execQuery
  repeat' first
    | with_reducible assumption | with_reducible apply ChangesOut.next
    | with_reducible refine vcmdFrame_changes _ _ _ _ (hm.trans (by decide)) ?_

theorem execEngage_changes (word : Word) (complement : Word) (shape : RailShape) (iout : Nat) {m' : Nat} (hm :
    Covers m' 0xce3defff) {u₀ u₁ : State} (hu : Changes m' u₀ u₁) : ChangesOut m' u₀ (execEngage word complement
    shape iout u₁) := by
  unfold execEngage
  repeat' first
    | with_reducible assumption | with_reducible apply ChangesOut.next
    | with_reducible refine vcmdFrame_changes _ _ _ _ (hm.trans (by decide)) ?_

theorem execSlewSettled_changes (iout : Nat) {m' : Nat} (hm : Covers m' 0x40002200) {u₀ u₁ : State} (hu : Changes m'
    u₀ u₁) : ChangesOut m' u₀ (execSlewSettled iout u₁) := by
  unfold execSlewSettled
  repeat' first
    | with_reducible assumption | (fail_if_no_progress beta_reduce) | with_reducible apply ChangesOut.next
    | with_reducible apply ChangesOut.ite | with_reducible refine modDom_changes _ _ (hm.trans (by decide)) ?_
    | with_reducible refine sendAck_changes _ _ _ (hm.trans (by decide)) ?_ | with_reducible apply Changes.ite
    | (fail_if_no_progress with_reducible refine Changes.put_vcore (hm.bit (by decide)) ?_)
    | (extract_lets +onlyGivenNames x; refine Changes.cut (a := Changes m' u₀ x) ?_ (fun hx => ?_) <;> [unfold x; clear_value x])
    | extract_lets +onlyGivenNames x | split

theorem execRailFallback_changes {m' : Nat} (hm : Covers m' 0xce3defff) {u₀ u₁ : State} (hu : Changes m' u₀ u₁) :
    ChangesOut m' u₀ (execRailFallback u₁) := by
  unfold execRailFallback
  repeat' first
    | with_reducible assumption | with_reducible apply ChangesOut.next | with_reducible apply ChangesOut.ite
    | with_reducible refine pcFault_changes _ _ (hm.trans (by decide)) ?_ | with_reducible apply Changes.ite
    | (fail_if_no_progress with_reducible refine Changes.put_vcore (hm.bit (by decide)) ?_)
    | (extract_lets +onlyGivenNames x; refine Changes.cut (a := Changes m' u₀ x) ?_ (fun hx => ?_) <;> [unfold x; clear_value x])
    | extract_lets +onlyGivenNames x | split

theorem noteAck_changes (w : Nat) {m' : Nat} (hm : Covers m' 0x100) {u₀ u₁ : State} (hu : Changes m' u₀ u₁) :
    Changes m' u₀ (noteAck w u₁) := by
  unfold noteAck
  repeat' first
    | with_reducible assumption | (fail_if_no_progress beta_reduce) | with_reducible apply Changes.ite
    | (fail_if_no_progress with_reducible refine Changes.put_rail (hm.bit (by decide)) ?_)
    | (extract_lets +onlyGivenNames x; refine Changes.cut (a := Changes m' u₀ x) ?_ (fun hx => ?_) <;> [unfold x; clear_value x])
    | extract_lets +onlyGivenNames x | split

theorem execRailAck_changes (word : Word) (complement : Word) (shape : RailShape) {m' : Nat} (hm : Covers m'
    0x4c040100) {u₀ u₁ : State} (hu : Changes m' u₀ u₁) : ChangesOut m' u₀ (execRailAck word complement shape u₁) :=
    by
  unfold execRailAck
  repeat' first
    | with_reducible assumption | (fail_if_no_progress beta_reduce) | with_reducible apply ChangesOut.next
    | with_reducible apply ChangesOut.ite | with_reducible refine noteAck_changes _ (hm.trans (by decide)) ?_
    | with_reducible refine engineClear_changes _ (hm.trans (by decide)) ?_
    | with_reducible refine startLoop_changes (hm.trans (by decide)) ?_
    | with_reducible refine normalSetpoint_changes (hm.trans (by decide)) ?_ | with_reducible apply Changes.ite
    | (fail_if_no_progress with_reducible refine Changes.put_rail (hm.bit (by decide)) ?_)
    | (extract_lets +onlyGivenNames x; refine Changes.cut (a := Changes m' u₀ x) ?_ (fun hx => ?_) <;> [unfold x; clear_value x])
    | extract_lets +onlyGivenNames x | split

theorem railLinkDown_changes {m' : Nat} (hm : Covers m' 0x4c0c0120) {u₀ u₁ : State} (hu : Changes m' u₀ u₁) :
    Changes m' u₀ (railLinkDown u₁) := by
  unfold railLinkDown
  repeat' first
    | with_reducible assumption | with_reducible refine engineFault_changes _ _ (hm.trans (by decide)) ?_
    | (fail_if_no_progress with_reducible refine Changes.put_rail (hm.bit (by decide)) ?_)
    | extract_lets +onlyGivenNames x

theorem execRailAckTimeout_changes (seq : Nat) {m' : Nat} (hm : Covers m' 0x4c0c0120) {u₀ u₁ : State} (hu : Changes
    m' u₀ u₁) : ChangesOut m' u₀ (execRailAckTimeout seq u₁) := by
  unfold execRailAckTimeout
  repeat' first
    | with_reducible assumption | (fail_if_no_progress beta_reduce) | with_reducible apply ChangesOut.next
    | with_reducible apply ChangesOut.ite | with_reducible refine emit_changes _ (hm.trans (by decide)) ?_
    | with_reducible refine railLinkDown_changes (hm.trans (by decide)) ?_ | with_reducible apply Changes.ite
    | (fail_if_no_progress with_reducible refine Changes.put_rail (hm.bit (by decide)) ?_)
    | split

theorem execRailIdleQuery_changes {m' : Nat} (hm : Covers m' 0x40000100) {u₀ u₁ : State} (hu : Changes m' u₀ u₁) :
    ChangesOut m' u₀ (execRailIdleQuery u₁) := by
  unfold execRailIdleQuery
  repeat' first
    | with_reducible assumption | with_reducible apply ChangesOut.next | with_reducible apply ChangesOut.ite
    | with_reducible refine sendQuery_changes (hm.trans (by decide)) ?_ | with_reducible apply Changes.ite
    | (fail_if_no_progress with_reducible refine Changes.put_rail (hm.bit (by decide)) ?_)
    | extract_lets +onlyGivenNames x | split

theorem execLoopWindowExpiry_changes (starves slackPct pace : Nat) {m' : Nat} (hm : Covers m' 0x42000100) {u₀ u₁ :
    State} (hu : Changes m' u₀ u₁) : ChangesOut m' u₀ (execLoopWindowExpiry starves slackPct pace u₁) := by
  unfold execLoopWindowExpiry
  repeat' first
    | with_reducible assumption | (fail_if_no_progress beta_reduce) | with_reducible apply ChangesOut.next
    | with_reducible apply ChangesOut.ite | with_reducible refine sample_changes _ _ _ (hm.trans (by decide)) ?_
    | with_reducible refine sendSet_changes _ (hm.trans (by decide)) ?_ | with_reducible apply Changes.ite
    | (fail_if_no_progress with_reducible refine Changes.put_rail (hm.bit (by decide)) ?_)
    | (extract_lets +onlyGivenNames x; refine Changes.cut (a := Changes m' u₀ x) ?_ (fun hx => ?_) <;> [unfold x; clear_value x])
    | extract_lets +onlyGivenNames x | split

theorem execEngageStep_changes (quarterAmps : Int) {m' : Nat} (hm : Covers m' 0x40000100) {u₀ u₁ : State} (hu :
    Changes m' u₀ u₁) : ChangesOut m' u₀ (execEngageStep quarterAmps u₁) := by
  unfold execEngageStep
  repeat' first
    | with_reducible assumption | with_reducible apply ChangesOut.next | with_reducible apply ChangesOut.ite
    | with_reducible refine emit_changes _ (hm.trans (by decide)) ?_ | with_reducible apply Changes.ite
    | (fail_if_no_progress with_reducible refine Changes.put_rail (hm.bit (by decide)) ?_)
    | (extract_lets +onlyGivenNames x; refine Changes.cut (a := Changes m' u₀ x) ?_ (fun hx => ?_) <;> [unfold x; clear_value x])
    | extract_lets +onlyGivenNames x | split

/-! ### StoreBase -/

theorem firstReading_changes {m' : Nat} (hm : Covers m' 0x8000) {u₀ u₁ : State} (hu : Changes m' u₀ u₁) : Changes m'
    u₀ (firstReading u₁) := by
  unfold firstReading
  repeat' first
    | with_reducible assumption | with_reducible apply Changes.ite
    | (fail_if_no_progress with_reducible refine Changes.put_gau (hm.bit (by decide)) ?_)
    | (extract_lets +onlyGivenNames x; refine Changes.cut (a := Changes m' u₀ x) ?_ (fun hx => ?_) <;> [unfold x; clear_value x])
    | extract_lets +onlyGivenNames x | split

theorem updateClass_changes {m' : Nat} (hm : Covers m' 0x8000) {u₀ u₁ : State} (hu : Changes m' u₀ u₁) : Changes m'
    u₀ (updateClass u₁) := by
  unfold updateClass
  repeat' first
    | with_reducible assumption
    | (fail_if_no_progress with_reducible refine Changes.put_gau (hm.bit (by decide)) ?_)

theorem startCharger_changes {m' : Nat} (hm : Covers m' 0x18000) {u₀ u₁ : State} (hu : Changes m' u₀ u₁) : Changes
    m' u₀ (startCharger u₁) := by
  unfold startCharger
  repeat' first
    | with_reducible assumption | with_reducible refine updateClass_changes (hm.trans (by decide)) ?_
    | with_reducible refine inhibitCharger_changes (hm.trans (by decide)) ?_ | with_reducible apply Changes.ite
    | (fail_if_no_progress with_reducible refine Changes.put_chg (hm.bit (by decide)) ?_)
    | split

theorem exerciseCheck_changes {m' : Nat} (hm : Covers m' 0xce3defff) {u₀ u₁ : State} (hu : Changes m' u₀ u₁) :
    Changes m' u₀ (exerciseCheck u₁) := by
  unfold exerciseCheck
  repeat' first
    | with_reducible assumption
    | (with_reducible refine withAbort_changes _ (hm.trans (by decide)) (fun v hv => ?_) ?_)
    | with_reducible refine endExercise_changes _ (hm.trans (by decide)) ?_ | with_reducible apply Changes.ite
    | split

theorem chargerCheck_changes {m' : Nat} (hm : Covers m' 0x18000) {u₀ u₁ : State} (hu : Changes m' u₀ u₁) : Changes
    m' u₀ (chargerCheck u₁) := by
  unfold chargerCheck
  repeat' first
    | with_reducible assumption | with_reducible refine startCharger_changes (hm.trans (by decide)) ?_
    | with_reducible apply Changes.ite
    | (fail_if_no_progress with_reducible refine Changes.put_chg (hm.bit (by decide)) ?_)
    | split

theorem currentFollows_changes {m' : Nat} (hm : Covers m' 0x14000) {u₀ u₁ : State} (hu : Changes m' u₀ u₁) : Changes
    m' u₀ (currentFollows u₁) := by
  unfold currentFollows
  repeat' first
    | with_reducible assumption | (fail_if_no_progress beta_reduce) | with_reducible apply Changes.ite
    | (fail_if_no_progress with_reducible refine Changes.put_cell (hm.bit (by decide)) ?_)
    | (fail_if_no_progress with_reducible refine Changes.put_chg (hm.bit (by decide)) ?_)
    | (extract_lets +onlyGivenNames x; refine Changes.cut (a := Changes m' u₀ x) ?_ (fun hx => ?_) <;> [unfold x; clear_value x])
    | extract_lets +onlyGivenNames x | split

/-! ### Power -/

theorem execVinSenseDisagree_changes {m' : Nat} (hm : Covers m' 0xce3defff) {u₀ u₁ : State} (hu : Changes m' u₀ u₁)
    : ChangesOut m' u₀ (execVinSenseDisagree u₁) := by
  unfold execVinSenseDisagree
  repeat' first
    | with_reducible assumption | with_reducible apply ChangesOut.next | with_reducible apply ChangesOut.ite
    | with_reducible refine pcFault_changes _ _ (hm.trans (by decide)) ?_ | with_reducible apply Changes.ite | split

theorem openCheck_changes (differ : Bool) (ma : Nat) {m' : Nat} (hm : Covers m' 0xce3defff) {u₀ u₁ : State} (hu :
    Changes m' u₀ u₁) : Changes m' u₀ (openCheck differ ma u₁) := by
  unfold openCheck
  repeat' first
    | with_reducible assumption | with_reducible refine pcCond_changes _ _ (hm.trans (by decide)) ?_
    | with_reducible apply Changes.ite
    | (fail_if_no_progress (with_reducible refine Changes.put_pwr (hm.bit (by decide)) ?_ ?_) <;> [(first | exact id | exact fun _ => rfl | exact fun h0 => by simpa [modAt] using h0); skip])
    | extract_lets +onlyGivenNames x | split

theorem switchTest_changes (ma : Nat) (gatesOk : Bool) {m' : Nat} (hm : Covers m' 0xce3defff) {u₀ u₁ : State} (hu :
    Changes m' u₀ u₁) : Changes m' u₀ (switchTest ma gatesOk u₁) := by
  unfold switchTest
  repeat' first
    | with_reducible assumption | with_reducible refine pcCond_changes _ _ (hm.trans (by decide)) ?_
    | (fail_if_no_progress (with_reducible refine Changes.put_pwr (hm.bit (by decide)) ?_ ?_) <;> [(first | exact id | exact fun _ => rfl | exact fun h0 => by simpa [modAt] using h0); skip])
    | (extract_lets +onlyGivenNames x; refine Changes.cut (a := Changes m' u₀ x) ?_ (fun hx => ?_) <;> [unfold x; clear_value x])
    | extract_lets +onlyGivenNames x

theorem pauseCharger_changes {m' : Nat} (hm : Covers m' 0x12000) {u₀ u₁ : State} (hu : Changes m' u₀ u₁) : Changes
    m' u₀ (pauseCharger u₁) := by
  unfold pauseCharger
  repeat' first
    | with_reducible assumption | (fail_if_no_progress beta_reduce)
    | with_reducible refine stopCharger_changes (hm.trans (by decide)) ?_ | with_reducible apply Changes.ite
    | (fail_if_no_progress (with_reducible refine Changes.put_pwr (hm.bit (by decide)) ?_ ?_) <;> [(first | exact id | exact fun _ => rfl | exact fun h0 => by simpa [modAt] using h0); skip])
    | (fail_if_no_progress with_reducible refine Changes.put_chg (hm.bit (by decide)) ?_)
    | (fail_if_no_progress with_reducible apply Changes.parts <;> first | exact hm.skip (by decide) | exact fun _ => rfl | exact id | (first | exact id | exact fun _ => rfl | exact fun h0 => by simpa [modAt] using h0) | skip)
    | (extract_lets +onlyGivenNames x; refine Changes.cut (a := Changes m' u₀ x) ?_ (fun hx => ?_) <;> [unfold x; clear_value x])
    | extract_lets +onlyGivenNames x | split

theorem restartCharger_changes (was : ChgState) (ma : Nat) {m' : Nat} (hm : Covers m' 0x18000) {u₀ u₁ : State} (hu :
    Changes m' u₀ u₁) : Changes m' u₀ (restartCharger was ma u₁) := by
  unfold restartCharger
  repeat' first
    | with_reducible assumption | with_reducible refine startCharger_changes (hm.trans (by decide)) ?_
    | with_reducible apply Changes.ite
    | (fail_if_no_progress with_reducible refine Changes.put_chg (hm.bit (by decide)) ?_)
    | split

theorem resumeCharger_changes {m' : Nat} (hm : Covers m' 0x1a000) {u₀ u₁ : State} (hu : Changes m' u₀ u₁) : Changes
    m' u₀ (resumeCharger u₁) := by
  unfold resumeCharger
  repeat' first
    | with_reducible assumption | (fail_if_no_progress beta_reduce)
    | with_reducible refine restartCharger_changes _ _ (hm.trans (by decide)) ?_
    | (fail_if_no_progress (with_reducible refine Changes.put_pwr (hm.bit (by decide)) ?_ ?_) <;> [(first | exact id | exact fun _ => rfl | exact fun h0 => by simpa [modAt] using h0); skip])
    | (fail_if_no_progress with_reducible refine Changes.put_chg (hm.bit (by decide)) ?_)
    | (fail_if_no_progress with_reducible apply Changes.parts <;> first | exact hm.skip (by decide) | exact fun _ => rfl | exact id | (first | exact id | exact fun _ => rfl | exact fun h0 => by simpa [modAt] using h0) | skip)
    | (extract_lets +onlyGivenNames x; refine Changes.cut (a := Changes m' u₀ x) ?_ (fun hx => ?_) <;> [unfold x; clear_value x])
    | extract_lets +onlyGivenNames x | split

theorem forceTest_changes {m' : Nat} (hm : Covers m' 0x1a000) {u₀ u₁ : State} (hu : Changes m' u₀ u₁) : Changes m'
    u₀ (forceTest u₁) := by
  unfold forceTest
  repeat' first
    | with_reducible assumption | with_reducible refine setHoldup_changes _ (hm.trans (by decide)) ?_
    | with_reducible refine resumeCharger_changes (hm.trans (by decide)) ?_ | with_reducible apply Changes.ite
    | (fail_if_no_progress (with_reducible refine Changes.put_pwr (hm.bit (by decide)) ?_ ?_) <;> [(first | exact id | exact fun _ => rfl | exact fun h0 => by simpa [modAt] using h0); skip])
    | (fail_if_no_progress with_reducible refine Changes.put_chg (hm.bit (by decide)) ?_)
    | (fail_if_no_progress with_reducible apply Changes.parts <;> first | exact hm.skip (by decide) | exact fun _ => rfl | exact id | (first | exact id | exact fun _ => rfl | exact fun h0 => by simpa [modAt] using h0) | skip)
    | split

theorem execHoldupTest_changes (step : HuStep) {m' : Nat} (hm : Covers m' 0xce3defff) {u₀ u₁ : State} (hu : Changes
    m' u₀ u₁) : ChangesOut m' u₀ (execHoldupTest step u₁) := by
  unfold execHoldupTest
  repeat' first
    | with_reducible assumption | with_reducible apply ChangesOut.next | with_reducible apply ChangesOut.ite
    | with_reducible refine pauseCharger_changes (hm.trans (by decide)) ?_
    | with_reducible refine forceTest_changes (hm.trans (by decide)) ?_
    | with_reducible refine openCheck_changes _ _ (hm.trans (by decide)) ?_
    | with_reducible refine resumeCharger_changes (hm.trans (by decide)) ?_
    | with_reducible refine switchTest_changes _ _ (hm.trans (by decide)) ?_
    | with_reducible refine setHoldup_changes _ (hm.trans (by decide)) ?_ | with_reducible apply Changes.ite
    | split

theorem busLoss_changes {m' : Nat} (hm : Covers m' 0xce3defff) {u₀ u₁ : State} (hu : Changes m' u₀ u₁) : Changes m'
    u₀ (busLoss u₁) := by
  unfold busLoss
  repeat' first
    | with_reducible assumption | (fail_if_no_progress beta_reduce)
    | with_reducible refine pcFault_changes _ _ (hm.trans (by decide)) ?_
    | with_reducible refine switchOff_changes _ (hm.trans (by decide)) ?_
    | (with_reducible refine Changes.foldl ?_ (fun v y hv => ?_))
    | (fail_if_no_progress (with_reducible refine Changes.put_pwr (hm.bit (by decide)) ?_ ?_) <;> [(first | exact id | exact fun _ => rfl | exact fun h0 => by simpa [modAt] using h0); skip])
    | (extract_lets +onlyGivenNames x; refine Changes.cut (a := Changes m' u₀ x) ?_ (fun hx => ?_) <;> [unfold x; clear_value x])
    | extract_lets +onlyGivenNames x

theorem dropBusPhase_changes (p : Nat) (sense : Bool) {m' : Nat} (hm : Covers m' 0xce3defff) {u₀ u₁ : State} (hu :
    Changes m' u₀ u₁) : Changes m' u₀ (dropBusPhase p sense u₁) := by
  unfold dropBusPhase
  repeat' first
    | with_reducible assumption | (fail_if_no_progress beta_reduce)
    | with_reducible refine pcFault_changes _ _ (hm.trans (by decide)) ?_
    | with_reducible refine busLoss_changes (hm.trans (by decide)) ?_ | with_reducible apply Changes.ite
    | (fail_if_no_progress (with_reducible refine Changes.put_pwr (hm.bit (by decide)) ?_ ?_) <;> [(first | exact id | exact fun _ => rfl | exact fun h0 => by simpa [modAt] using h0); skip])
    | (extract_lets +onlyGivenNames x; refine Changes.cut (a := Changes m' u₀ x) ?_ (fun hx => ?_) <;> [unfold x; clear_value x])
    | extract_lets +onlyGivenNames x | split

theorem dropCorePhase_changes (p : Nat) (sense : Bool) {m' : Nat} (hm : Covers m' 0xce3defff) {u₀ u₁ : State} (hu :
    Changes m' u₀ u₁) : Changes m' u₀ (dropCorePhase p sense u₁) := by
  unfold dropCorePhase
  repeat' first
    | with_reducible assumption | (fail_if_no_progress beta_reduce)
    | with_reducible refine pcFault_changes _ _ (hm.trans (by decide)) ?_
    | with_reducible refine switchOff_changes _ (hm.trans (by decide)) ?_ | with_reducible apply Changes.ite
    | (fail_if_no_progress with_reducible refine Changes.put_vcore (hm.bit (by decide)) ?_)
    | (extract_lets +onlyGivenNames x; refine Changes.cut (a := Changes m' u₀ x) ?_ (fun hx => ?_) <;> [unfold x; clear_value x])
    | extract_lets +onlyGivenNames x | split

theorem execPhaseFault_changes (vcore : Bool) (p : Nat) (sense : Bool) {m' : Nat} (hm : Covers m' 0xce3defff) {u₀ u₁
    : State} (hu : Changes m' u₀ u₁) : ChangesOut m' u₀ (execPhaseFault vcore p sense u₁) := by
  unfold execPhaseFault
  repeat' first
    | with_reducible assumption | with_reducible apply ChangesOut.next | with_reducible apply ChangesOut.ite
    | with_reducible refine dropCorePhase_changes _ _ (hm.trans (by decide)) ?_
    | with_reducible refine dropBusPhase_changes _ _ (hm.trans (by decide)) ?_ | with_reducible apply Changes.ite
    | split

theorem senseBus_changes (iout : Nat) {m' : Nat} (hm : Covers m' 0x2000) {u₀ u₁ : State} (hu : Changes m' u₀ u₁) :
    Changes m' u₀ (senseBus iout u₁) := by
  unfold senseBus
  repeat' first
    | with_reducible assumption | (fail_if_no_progress beta_reduce)
    | with_reducible refine modDom_changes _ _ (hm.trans (by decide)) ?_
    | split

theorem overloadStep_changes (acted : List Nat) {m' : Nat} (hm : Covers m' 0xce3defff) {u₀ u₁ : State} (hu : Changes
    m' u₀ u₁) : Changes m' u₀ (overloadStep acted u₁) := by
  unfold overloadStep
  repeat' first
    | with_reducible assumption | (fail_if_no_progress beta_reduce)
    | with_reducible refine pcFault_changes _ _ (hm.trans (by decide)) ?_
    | with_reducible refine shedDomain_changes _ (hm.trans (by decide)) ?_ | with_reducible apply Changes.ite
    | (fail_if_no_progress (with_reducible refine Changes.put_pwr (hm.bit (by decide)) ?_ ?_) <;> [(first | exact id | exact fun _ => rfl | exact fun h0 => by simpa [modAt] using h0); skip])
    | (extract_lets +onlyGivenNames x; refine Changes.cut (a := Changes m' u₀ x) ?_ (fun hx => ?_) <;> [unfold x; clear_value x])
    | extract_lets +onlyGivenNames x | split

theorem execIbusOverload_changes (iout : Nat) {m' : Nat} (hm : Covers m' 0xce3defff) {u₀ u₁ : State} (hu : Changes
    m' u₀ u₁) : ChangesOut m' u₀ (execIbusOverload iout u₁) := by
  unfold execIbusOverload
  repeat' first
    | with_reducible assumption | (fail_if_no_progress beta_reduce) | with_reducible apply ChangesOut.next
    | with_reducible apply ChangesOut.ite | with_reducible refine senseBus_changes _ (hm.trans (by decide)) ?_
    | with_reducible refine overloadStep_changes _ (hm.trans (by decide)) ?_ | with_reducible apply Changes.ite
    | (extract_lets +onlyGivenNames x; refine Changes.cut (a := Changes m' u₀ x) ?_ (fun hx => ?_) <;> [unfold x; clear_value x])
    | extract_lets +onlyGivenNames x | split

theorem execIbusOverloadRecheck_changes (iout : Nat) {m' : Nat} (hm : Covers m' 0xce3defff) {u₀ u₁ : State} (hu :
    Changes m' u₀ u₁) : ChangesOut m' u₀ (execIbusOverloadRecheck iout u₁) := by
  unfold execIbusOverloadRecheck
  repeat' first
    | with_reducible assumption | (fail_if_no_progress beta_reduce) | with_reducible apply ChangesOut.next
    | with_reducible apply ChangesOut.ite | with_reducible refine senseBus_changes _ (hm.trans (by decide)) ?_
    | with_reducible refine overloadStep_changes _ (hm.trans (by decide)) ?_ | with_reducible apply Changes.ite
    | (fail_if_no_progress (with_reducible refine Changes.put_pwr (hm.bit (by decide)) ?_ ?_) <;> [(first | exact id | exact fun _ => rfl | exact fun h0 => by simpa [modAt] using h0); skip])
    | (extract_lets +onlyGivenNames x; refine Changes.cut (a := Changes m' u₀ x) ?_ (fun hx => ?_) <;> [unfold x; clear_value x])
    | extract_lets +onlyGivenNames x | split

theorem execIbusCollapse_changes (mv : Nat) {m' : Nat} (hm : Covers m' 0xce3defff) {u₀ u₁ : State} (hu : Changes m'
    u₀ u₁) : ChangesOut m' u₀ (execIbusCollapse mv u₁) := by
  unfold execIbusCollapse
  repeat' first
    | with_reducible assumption | (fail_if_no_progress beta_reduce) | with_reducible apply ChangesOut.next
    | with_reducible apply ChangesOut.ite | with_reducible refine modDom_changes _ _ (hm.trans (by decide)) ?_
    | with_reducible refine shedTogether_changes _ (hm.trans (by decide)) ?_
    | with_reducible refine pcFault_changes _ _ (hm.trans (by decide)) ?_
    | with_reducible refine fenceByHost_changes (hm.trans (by decide)) ?_ | with_reducible apply Changes.ite
    | (fail_if_no_progress with_reducible refine Changes.put_vlt (hm.bit (by decide)) ?_)
    | (fail_if_no_progress (with_reducible refine Changes.put_pwr (hm.bit (by decide)) ?_ ?_) <;> [(first | exact id | exact fun _ => rfl | exact fun h0 => by simpa [modAt] using h0); skip])
    | (extract_lets +onlyGivenNames x; refine Changes.cut (a := Changes m' u₀ x) ?_ (fun hx => ?_) <;> [unfold x; clear_value x])
    | extract_lets +onlyGivenNames x | split

theorem execIbusLost_changes (mv : Nat) {m' : Nat} (hm : Covers m' 0xce3defff) {u₀ u₁ : State} (hu : Changes m' u₀
    u₁) : ChangesOut m' u₀ (execIbusLost mv u₁) := by
  unfold execIbusLost
  repeat' first
    | with_reducible assumption | with_reducible apply ChangesOut.next | with_reducible apply ChangesOut.ite
    | with_reducible refine busLoss_changes (hm.trans (by decide)) ?_ | with_reducible apply Changes.ite
    | split

theorem powerIsGood_changes {m' : Nat} (hm : Covers m' 0x118080) {u₀ u₁ : State} (hu : Changes m' u₀ u₁) : Changes
    m' u₀ (powerIsGood u₁) := by
  unfold powerIsGood
  repeat' first
    | with_reducible assumption | (fail_if_no_progress beta_reduce)
    | with_reducible refine firstReading_changes (hm.trans (by decide)) ?_
    | with_reducible refine startCharger_changes (hm.trans (by decide)) ?_ | with_reducible apply Changes.ite
    | (fail_if_no_progress with_reducible refine Changes.put_restore (hm.bit (by decide)) ?_)
    | (fail_if_no_progress with_reducible refine Changes.put_warm (hm.bit (by decide)) ?_)
    | (fail_if_no_progress with_reducible apply Changes.parts <;> first | exact hm.skip (by decide) | exact fun _ => rfl | exact id | skip)
    | (extract_lets +onlyGivenNames x; refine Changes.cut (a := Changes m' u₀ x) ?_ (fun hx => ?_) <;> [unfold x; clear_value x])
    | extract_lets +onlyGivenNames x | split

theorem groupIsGood_changes {m' : Nat} (hm : Covers m' 0x11a080) {u₀ u₁ : State} (hu : Changes m' u₀ u₁) : Changes
    m' u₀ (groupIsGood u₁) := by
  unfold groupIsGood
  repeat' first
    | with_reducible assumption | with_reducible refine powerIsGood_changes (hm.trans (by decide)) ?_
    | with_reducible apply Changes.ite
    | (fail_if_no_progress (with_reducible refine Changes.put_pwr (hm.bit (by decide)) ?_ ?_) <;> [(first | exact id | exact fun _ => rfl | exact fun h0 => by simpa [modAt] using h0); skip])
    | (extract_lets +onlyGivenNames x; refine Changes.cut (a := Changes m' u₀ x) ?_ (fun hx => ?_) <;> [unfold x; clear_value x])
    | extract_lets +onlyGivenNames x | split

theorem sequenceGood_changes {m' : Nat} (hm : Covers m' 0x15a380) {u₀ u₁ : State} (hu : Changes m' u₀ u₁) : Changes
    m' u₀ (sequenceGood u₁) := by
  unfold sequenceGood
  repeat' first
    | with_reducible assumption | with_reducible refine nextHost_changes (hm.trans (by decide)) ?_
    | with_reducible refine groupIsGood_changes (hm.trans (by decide)) ?_ | with_reducible apply Changes.ite | split

theorem railRecovered_changes (d : Nat) {m' : Nat} (hm : Covers m' 0xce3defff) {u₀ u₁ : State} (hu : Changes m' u₀
    u₁) : Changes m' u₀ (railRecovered d u₁) := by
  unfold railRecovered
  repeat' first
    | with_reducible assumption | with_reducible refine pcClear_changes _ (hm.trans (by decide)) ?_
    | with_reducible apply Changes.ite
    | split

theorem execDomainGood_changes (d : Nat) (mv : Nat) (iout : Nat) {m' : Nat} (hm : Covers m' 0xce3defff) {u₀ u₁ :
    State} (hu : Changes m' u₀ u₁) : ChangesOut m' u₀ (execDomainGood d mv iout u₁) := by
  unfold execDomainGood
  repeat' first
    | with_reducible assumption | (fail_if_no_progress beta_reduce) | with_reducible apply ChangesOut.next
    | with_reducible apply ChangesOut.ite | with_reducible refine sequenceGood_changes (hm.trans (by decide)) ?_
    | with_reducible refine railRecovered_changes _ (hm.trans (by decide)) ?_
    | with_reducible refine modDom_changes _ _ (hm.trans (by decide)) ?_ | with_reducible apply Changes.ite
    | split

theorem execGroupDelayExpiry_changes {m' : Nat} (hm : Covers m' 0x42300) {u₀ u₁ : State} (hu : Changes m' u₀ u₁) :
    ChangesOut m' u₀ (execGroupDelayExpiry u₁) := by
  unfold execGroupDelayExpiry
  repeat' first
    | with_reducible assumption | with_reducible apply ChangesOut.next | with_reducible apply ChangesOut.ite
    | with_reducible refine startGroup_changes _ (hm.trans (by decide)) ?_ | with_reducible apply Changes.ite
    | (fail_if_no_progress (with_reducible refine Changes.put_pwr (hm.bit (by decide)) ?_ ?_) <;> [(first | exact id | exact fun _ => rfl | exact fun h0 => by simpa [modAt] using h0); skip])
    | split

theorem failPair_changes (d : Nat) {m' : Nat} (hm : Covers m' 0x2000) {u₀ u₁ : State} (hu : Changes m' u₀ u₁) :
    Changes m' u₀ (failPair d u₁) := by
  unfold failPair
  repeat' first
    | with_reducible assumption
    | (fail_if_no_progress (with_reducible refine Changes.put_pwr (hm.bit (by decide)) ?_ ?_) <;> [(first | exact id | exact fun _ => rfl | exact fun h0 => by simpa [modAt] using h0); skip])

theorem railFault_changes (d : Nat) {m' : Nat} (hm : Covers m' 0xce3defff) {u₀ u₁ : State} (hu : Changes m' u₀ u₁) :
    Changes m' u₀ (railFault d u₁) := by
  unfold railFault
  repeat' first
    | with_reducible assumption | (fail_if_no_progress beta_reduce)
    | with_reducible refine modDom_changes _ _ (hm.trans (by decide)) ?_
    | with_reducible refine pcFault_changes _ _ (hm.trans (by decide)) ?_
    | with_reducible refine failPair_changes _ (hm.trans (by decide)) ?_
    | with_reducible refine pcClear_changes _ (hm.trans (by decide)) ?_
    | with_reducible refine switchOff_changes _ (hm.trans (by decide)) ?_
    | with_reducible refine nextHost_changes (hm.trans (by decide)) ?_ | with_reducible apply Changes.ite
    | (fail_if_no_progress (with_reducible refine Changes.put_pwr (hm.bit (by decide)) ?_ ?_) <;> [(first | exact id | exact fun _ => rfl | exact fun h0 => by simpa [modAt] using h0); skip])
    | (extract_lets +onlyGivenNames x; refine Changes.cut (a := Changes m' u₀ x) ?_ (fun hx => ?_) <;> [unfold x; clear_value x])
    | extract_lets +onlyGivenNames x | split

theorem execPgTimeout_changes (d : Nat) {m' : Nat} (hm : Covers m' 0xce3defff) {u₀ u₁ : State} (hu : Changes m' u₀
    u₁) : ChangesOut m' u₀ (execPgTimeout d u₁) := by
  unfold execPgTimeout
  repeat' first
    | with_reducible assumption | with_reducible apply ChangesOut.next | with_reducible apply ChangesOut.ite
    | with_reducible refine railFault_changes _ (hm.trans (by decide)) ?_ | with_reducible apply Changes.ite | split

theorem execDomainOutOfWindow_changes (d mv : Nat) {m' : Nat} (hm : Covers m' 0xce3defff) {u₀ u₁ : State} (hu :
    Changes m' u₀ u₁) : ChangesOut m' u₀ (execDomainOutOfWindow d mv u₁) := by
  unfold execDomainOutOfWindow
  repeat' first
    | with_reducible assumption | (fail_if_no_progress beta_reduce) | with_reducible apply ChangesOut.next
    | with_reducible apply ChangesOut.ite | with_reducible refine railFault_changes _ (hm.trans (by decide)) ?_
    | with_reducible refine modDom_changes _ _ (hm.trans (by decide)) ?_ | with_reducible apply Changes.ite
    | extract_lets +onlyGivenNames x | split

theorem trackFaultOn_changes (d : Nat) (severe : Bool) {m' : Nat} (hm : Covers m' 0xce3defff) {u₀ u₁ : State} (hu :
    Changes m' u₀ u₁) : Changes m' u₀ (trackFaultOn d severe u₁) := by
  unfold trackFaultOn
  repeat' first
    | with_reducible assumption | (fail_if_no_progress beta_reduce)
    | with_reducible refine modDom_changes _ _ (hm.trans (by decide)) ?_
    | with_reducible refine pcClear_changes _ (hm.trans (by decide)) ?_
    | (with_reducible refine withAbort_changes _ (hm.trans (by decide)) (fun v hv => ?_) ?_)
    | with_reducible refine enterSev_changes _ _ _ _ (hm.trans (by decide)) ?_
    | with_reducible refine pcFault_changes _ _ (hm.trans (by decide)) ?_ | with_reducible apply Changes.ite
    | (extract_lets +onlyGivenNames x; refine Changes.cut (a := Changes m' u₀ x) ?_ (fun hx => ?_) <;> [unfold x; clear_value x])
    | extract_lets +onlyGivenNames x | split

theorem execTrackingFault_changes (d : Nat) {m' : Nat} (hm : Covers m' 0xce3defff) {u₀ u₁ : State} (hu : Changes m'
    u₀ u₁) : ChangesOut m' u₀ (execTrackingFault d u₁) := by
  unfold execTrackingFault
  repeat' first
    | with_reducible assumption | (fail_if_no_progress beta_reduce) | with_reducible apply ChangesOut.next
    | with_reducible apply ChangesOut.ite | with_reducible refine trackFaultOn_changes _ _ (hm.trans (by decide)) ?_
    | with_reducible refine switchOff_changes _ (hm.trans (by decide)) ?_
    | with_reducible refine failPair_changes _ (hm.trans (by decide)) ?_ | with_reducible apply Changes.ite
    | (fail_if_no_progress (with_reducible refine Changes.put_pwr (hm.bit (by decide)) ?_ ?_) <;> [(first | exact id | exact fun _ => rfl | exact fun h0 => by simpa [modAt] using h0); skip])
    | (extract_lets +onlyGivenNames x; refine Changes.cut (a := Changes m' u₀ x) ?_ (fun hx => ?_) <;> [unfold x; clear_value x])
    | extract_lets +onlyGivenNames x | split

theorem execDischargeDone_changes (d : Nat) {m' : Nat} (hm : Covers m' 0x4342213) {u₀ u₁ : State} (hu : Changes m'
    u₀ u₁) : ChangesOut m' u₀ (execDischargeDone d u₁) := by
  unfold execDischargeDone
  repeat' first
    | with_reducible assumption | (fail_if_no_progress beta_reduce) | with_reducible apply ChangesOut.next
    | with_reducible apply ChangesOut.ite | with_reducible refine modDom_changes _ _ (hm.trans (by decide)) ?_
    | with_reducible refine offGroupList_changes _ (hm.trans (by decide)) ?_ | with_reducible apply Changes.ite
    | (extract_lets +onlyGivenNames x; refine Changes.cut (a := Changes m' u₀ x) ?_ (fun hx => ?_) <;> [unfold x; clear_value x])
    | extract_lets +onlyGivenNames x | split

theorem execFenceNotice_changes (hdr : FrameHdr) {m' : Nat} (hm : Covers m' 0x4c342213) {u₀ u₁ : State} (hu :
    Changes m' u₀ u₁) : ChangesOut m' u₀ (execFenceNotice hdr u₁) := by
  unfold execFenceNotice
  repeat' first
    | with_reducible assumption | with_reducible apply ChangesOut.next | with_reducible apply ChangesOut.ite
    | with_reducible refine receive_changes _ _ (hm.trans (by decide)) ?_
    | with_reducible refine shedOnce_changes (hm.trans (by decide)) ?_ | with_reducible apply Changes.ite
    | (extract_lets +onlyGivenNames x; refine Changes.cut (a := Changes m' u₀ x) ?_ (fun hx => ?_) <;> [unfold x; clear_value x])
    | extract_lets +onlyGivenNames x | split

theorem execShedSpacingExpiry_changes {m' : Nat} (hm : Covers m' 0x4342213) {u₀ u₁ : State} (hu : Changes m' u₀ u₁)
    : ChangesOut m' u₀ (execShedSpacingExpiry u₁) := by
  unfold execShedSpacingExpiry
  repeat' first
    | with_reducible assumption | (fail_if_no_progress beta_reduce) | with_reducible apply ChangesOut.next
    | with_reducible apply ChangesOut.ite | with_reducible refine shedDone_changes (hm.trans (by decide)) ?_
    | with_reducible refine shedDomain_changes _ (hm.trans (by decide)) ?_ | with_reducible apply Changes.ite
    | (fail_if_no_progress (with_reducible refine Changes.put_pwr (hm.bit (by decide)) ?_ ?_) <;> [(first | exact id | exact fun _ => rfl | exact fun h0 => by simpa [modAt] using h0); skip])
    | (extract_lets +onlyGivenNames x; refine Changes.cut (a := Changes m' u₀ x) ?_ (fun hx => ?_) <;> [unfold x; clear_value x])
    | extract_lets +onlyGivenNames x | split

/-! ### Gauge -/

theorem reportSoc_changes {m' : Nat} (hm : Covers m' 0x8000) {u₀ u₁ : State} (hu : Changes m' u₀ u₁) : Changes m' u₀
    (reportSoc u₁) := by
  unfold reportSoc
  repeat' first
    | with_reducible assumption | (fail_if_no_progress beta_reduce) | with_reducible apply Changes.ite
    | (fail_if_no_progress with_reducible refine Changes.put_gau (hm.bit (by decide)) ?_)
    | (extract_lets +onlyGivenNames x; refine Changes.cut (a := Changes m' u₀ x) ?_ (fun hx => ?_) <;> [unfold x; clear_value x])
    | extract_lets +onlyGivenNames x | split

theorem sendEnergy_changes {m' : Nat} (hm : Covers m' 0x4c000000) {u₀ u₁ : State} (hu : Changes m' u₀ u₁) : Changes
    m' u₀ (sendEnergy u₁) := by
  unfold sendEnergy
  repeat' first
    | with_reducible assumption | with_reducible refine sendFrame_changes _ _ (hm.trans (by decide)) ?_
    | with_reducible apply Changes.ite
    | split

theorem scanCells_changes (cells : List CellRead) (stackMv : Nat) (badTaps : List Nat) {m' : Nat} (hm : Covers m'
    0x4000) {u₀ u₁ : State} (hu : Changes m' u₀ u₁) : Changes m' u₀ (scanCells cells stackMv badTaps u₁) := by
  unfold scanCells
  repeat' first
    | with_reducible assumption | (fail_if_no_progress beta_reduce)
    | (fail_if_no_progress with_reducible refine Changes.put_cell (hm.bit (by decide)) ?_)
    | (extract_lets +onlyGivenNames x; refine Changes.cut (a := Changes m' u₀ x) ?_ (fun hx => ?_) <;> [unfold x; clear_value x])
    | extract_lets +onlyGivenNames x | split

theorem enterCv_changes {m' : Nat} (hm : Covers m' 0x10000) {u₀ u₁ : State} (hu : Changes m' u₀ u₁) : Changes m' u₀
    (enterCv u₁) := by
  unfold enterCv
  repeat' first
    | with_reducible assumption | with_reducible apply Changes.ite
    | (fail_if_no_progress with_reducible refine Changes.put_chg (hm.bit (by decide)) ?_)
    | extract_lets +onlyGivenNames x | split

theorem sendCurrent_changes {m' : Nat} (hm : Covers m' 0x4e000000) {u₀ u₁ : State} (hu : Changes m' u₀ u₁) : Changes
    m' u₀ (sendCurrent u₁) := by
  unfold sendCurrent
  repeat' first
    | with_reducible assumption | (fail_if_no_progress beta_reduce)
    | with_reducible refine sendSamples_changes _ (hm.trans (by decide)) ?_ | with_reducible apply Changes.ite
    | (extract_lets +onlyGivenNames x; refine Changes.cut (a := Changes m' u₀ x) ?_ (fun hx => ?_) <;> [unfold x; clear_value x])
    | extract_lets +onlyGivenNames x | split

theorem snapEmpty_changes {m' : Nat} (hm : Covers m' 0xce7defff) {u₀ u₁ : State} (hu : Changes m' u₀ u₁) : Changes
    m' u₀ (snapEmpty u₁) := by
  unfold snapEmpty
  repeat' first
    | with_reducible assumption | (fail_if_no_progress beta_reduce)
    | with_reducible refine writeGauge_changes (hm.trans (by decide)) ?_
    | with_reducible refine pcFault_changes _ _ (hm.trans (by decide)) ?_ | with_reducible apply Changes.ite
    | (fail_if_no_progress with_reducible refine Changes.put_gau (hm.bit (by decide)) ?_)
    | (extract_lets +onlyGivenNames x; refine Changes.cut (a := Changes m' u₀ x) ?_ (fun hx => ?_) <;> [unfold x; clear_value x])
    | extract_lets +onlyGivenNames x | split

theorem execCellScan_changes (cells : List CellRead) (stackMv : Nat) (badTaps : List Nat) {m' : Nat} (hm : Covers m'
    0xce7defff) {u₀ u₁ : State} (hu : Changes m' u₀ u₁) : ChangesOut m' u₀ (execCellScan cells stackMv badTaps u₁)
    := by
  unfold execCellScan
  repeat' first
    | with_reducible assumption | (fail_if_no_progress beta_reduce) | with_reducible apply ChangesOut.next
    | with_reducible apply ChangesOut.ite | with_reducible refine scanCells_changes _ _ _ (hm.trans (by decide)) ?_
    | with_reducible refine pcCond_changes _ _ (hm.trans (by decide)) ?_
    | with_reducible refine sendCurrent_changes (hm.trans (by decide)) ?_
    | with_reducible refine snapEmpty_changes (hm.trans (by decide)) ?_
    | with_reducible refine currentFollows_changes (hm.trans (by decide)) ?_
    | with_reducible refine enterCv_changes (hm.trans (by decide)) ?_
    | with_reducible refine chargerCheck_changes (hm.trans (by decide)) ?_
    | (with_reducible refine withAbort_changes _ (hm.trans (by decide)) (fun v hv => ?_) ?_)
    | with_reducible refine endExercise_changes _ (hm.trans (by decide)) ?_ | with_reducible apply Changes.ite
    | (fail_if_no_progress with_reducible refine Changes.put_cell (hm.bit (by decide)) ?_)
    | (extract_lets +onlyGivenNames x; refine Changes.cut (a := Changes m' u₀ x) ?_ (fun hx => ?_) <;> [unfold x; clear_value x])
    | extract_lets +onlyGivenNames x | split

theorem fullAnchor_changes {m' : Nat} (hm : Covers m' 0x18000) {u₀ u₁ : State} (hu : Changes m' u₀ u₁) : Changes m'
    u₀ (fullAnchor u₁) := by
  unfold fullAnchor
  repeat' first
    | with_reducible assumption | with_reducible refine reportSoc_changes (hm.trans (by decide)) ?_
    | with_reducible apply Changes.ite
    | (fail_if_no_progress with_reducible refine Changes.put_gau (hm.bit (by decide)) ?_)
    | (fail_if_no_progress with_reducible refine Changes.put_chg (hm.bit (by decide)) ?_)
    | (fail_if_no_progress with_reducible apply Changes.parts <;> first | exact hm.skip (by decide) | exact fun _ => rfl | exact id | skip)
    | split

theorem execChargeTermination_changes {m' : Nat} (hm : Covers m' 0x18000) {u₀ u₁ : State} (hu : Changes m' u₀ u₁) :
    ChangesOut m' u₀ (execChargeTermination u₁) := by
  unfold execChargeTermination
  repeat' first
    | with_reducible assumption | with_reducible apply ChangesOut.next | with_reducible apply ChangesOut.ite
    | with_reducible refine fullAnchor_changes (hm.trans (by decide)) ?_ | with_reducible apply Changes.ite
    | (fail_if_no_progress with_reducible refine Changes.put_chg (hm.bit (by decide)) ?_)
    | extract_lets +onlyGivenNames x | split

theorem execChargeTimeout_changes {m' : Nat} (hm : Covers m' 0xce3defff) {u₀ u₁ : State} (hu : Changes m' u₀ u₁) :
    ChangesOut m' u₀ (execChargeTimeout u₁) := by
  unfold execChargeTimeout
  repeat' first
    | with_reducible assumption | with_reducible apply ChangesOut.next | with_reducible apply ChangesOut.ite
    | with_reducible refine stopCharger_changes (hm.trans (by decide)) ?_
    | with_reducible refine pcFault_changes _ _ (hm.trans (by decide)) ?_ | with_reducible apply Changes.ite
    | (fail_if_no_progress with_reducible refine Changes.put_chg (hm.bit (by decide)) ?_)
    | (extract_lets +onlyGivenNames x; refine Changes.cut (a := Changes m' u₀ x) ?_ (fun hx => ?_) <;> [unfold x; clear_value x])
    | extract_lets +onlyGivenNames x | split

theorem execChargerStep_changes {m' : Nat} (hm : Covers m' 0x18000) {u₀ u₁ : State} (hu : Changes m' u₀ u₁) :
    ChangesOut m' u₀ (execChargerStep u₁) := by
  unfold execChargerStep
  repeat' first
    | with_reducible assumption | with_reducible apply ChangesOut.next | with_reducible apply ChangesOut.ite
    | with_reducible refine chargerCheck_changes (hm.trans (by decide)) ?_ | with_reducible apply Changes.ite
    | (fail_if_no_progress with_reducible refine Changes.put_chg (hm.bit (by decide)) ?_)
    | split

theorem execImpedanceStep_changes (sample : StepSample) {m' : Nat} (hm : Covers m' 0x8000) {u₀ u₁ : State} (hu :
    Changes m' u₀ u₁) : ChangesOut m' u₀ (execImpedanceStep sample u₁) := by
  unfold execImpedanceStep
  repeat' first
    | with_reducible assumption | (fail_if_no_progress beta_reduce) | with_reducible apply ChangesOut.next
    | with_reducible apply ChangesOut.ite | with_reducible apply Changes.ite
    | (fail_if_no_progress with_reducible refine Changes.put_gau (hm.bit (by decide)) ?_)
    | (extract_lets +onlyGivenNames x; refine Changes.cut (a := Changes m' u₀ x) ?_ (fun hx => ?_) <;> [unfold x; clear_value x])
    | extract_lets +onlyGivenNames x | split

theorem execImpedanceProbe_changes {m' : Nat} (hm : Covers m' 0x18000) {u₀ u₁ : State} (hu : Changes m' u₀ u₁) :
    ChangesOut m' u₀ (execImpedanceProbe u₁) := by
  unfold execImpedanceProbe
  repeat' first
    | with_reducible assumption | (fail_if_no_progress beta_reduce) | with_reducible apply ChangesOut.next
    | with_reducible apply ChangesOut.ite | with_reducible apply Changes.ite
    | (fail_if_no_progress with_reducible refine Changes.put_gau (hm.bit (by decide)) ?_)
    | (fail_if_no_progress with_reducible refine Changes.put_chg (hm.bit (by decide)) ?_)
    | (extract_lets +onlyGivenNames x; refine Changes.cut (a := Changes m' u₀ x) ?_ (fun hx => ?_) <;> [unfold x; clear_value x])
    | extract_lets +onlyGivenNames x | split

theorem execAutoZero_changes {m' : Nat} (hm : Covers m' 0x0) {u₀ u₁ : State} (hu : Changes m' u₀ u₁) : ChangesOut m'
    u₀ (execAutoZero u₁) := by
  unfold execAutoZero
  repeat' first | with_reducible assumption | with_reducible apply ChangesOut.next

theorem noteOverdue_changes {m' : Nat} (hm : Covers m' 0xce3defff) {u₀ u₁ : State} (hu : Changes m' u₀ u₁) : Changes
    m' u₀ (noteOverdue u₁) := by
  unfold noteOverdue
  repeat' first
    | with_reducible assumption | with_reducible refine pcFault_changes _ _ (hm.trans (by decide)) ?_
    | with_reducible apply Changes.ite
    | (fail_if_no_progress with_reducible refine Changes.put_gau (hm.bit (by decide)) ?_)
    | split

theorem loadCapacity_changes {m' : Nat} (hm : Covers m' 0x8000) {u₀ u₁ : State} (hu : Changes m' u₀ u₁) : Changes m'
    u₀ (loadCapacity u₁) := by
  unfold loadCapacity
  repeat' first
    | with_reducible assumption | with_reducible apply Changes.ite
    | (fail_if_no_progress with_reducible refine Changes.put_gau (hm.bit (by decide)) ?_)
    | (extract_lets +onlyGivenNames x; refine Changes.cut (a := Changes m' u₀ x) ?_ (fun hx => ?_) <;> [unfold x; clear_value x])
    | extract_lets +onlyGivenNames x | split

theorem countCharge_changes (delta current : Int) {m' : Nat} (hm : Covers m' 0x8000) {u₀ u₁ : State} (hu : Changes
    m' u₀ u₁) : Changes m' u₀ (countCharge delta current u₁) := by
  unfold countCharge
  repeat' first
    | with_reducible assumption | (fail_if_no_progress beta_reduce) | with_reducible apply Changes.ite
    | (fail_if_no_progress with_reducible refine Changes.put_gau (hm.bit (by decide)) ?_)
    | (extract_lets +onlyGivenNames x; refine Changes.cut (a := Changes m' u₀ x) ?_ (fun hx => ?_) <;> [unfold x; clear_value x])
    | extract_lets +onlyGivenNames x | split

theorem holdZero_changes (was : Nat) {m' : Nat} (hm : Covers m' 0xce3defff) {u₀ u₁ : State} (hu : Changes m' u₀ u₁)
    : Changes m' u₀ (holdZero was u₁) := by
  unfold holdZero
  repeat' first
    | with_reducible assumption | (fail_if_no_progress beta_reduce)
    | with_reducible refine pcFault_changes _ _ (hm.trans (by decide)) ?_ | with_reducible apply Changes.ite
    | (fail_if_no_progress with_reducible refine Changes.put_gau (hm.bit (by decide)) ?_)
    | (extract_lets +onlyGivenNames x; refine Changes.cut (a := Changes m' u₀ x) ?_ (fun hx => ?_) <;> [unfold x; clear_value x])
    | extract_lets +onlyGivenNames x | split

theorem dischargeEnd_changes {m' : Nat} (hm : Covers m' 0x10010) {u₀ u₁ : State} (hu : Changes m' u₀ u₁) : Changes
    m' u₀ (dischargeEnd u₁) := by
  unfold dischargeEnd
  repeat' first
    | with_reducible assumption | with_reducible apply Changes.ite
    | (fail_if_no_progress with_reducible refine Changes.put_stg (hm.bit (by decide)) ?_)
    | (fail_if_no_progress with_reducible refine Changes.put_chg (hm.bit (by decide)) ?_)
    | (fail_if_no_progress with_reducible apply Changes.parts <;> first | exact hm.skip (by decide) | exact fun _ => rfl | exact id | skip)
    | extract_lets +onlyGivenNames x | split

theorem chargerCurrent_changes {m' : Nat} (hm : Covers m' 0x10000) {u₀ u₁ : State} (hu : Changes m' u₀ u₁) : Changes
    m' u₀ (chargerCurrent u₁) := by
  unfold chargerCurrent
  repeat' first
    | with_reducible assumption | with_reducible apply Changes.ite
    | (fail_if_no_progress with_reducible refine Changes.put_chg (hm.bit (by decide)) ?_)
    | extract_lets +onlyGivenNames x | split

theorem execGaugeUpdate_changes (deltaMc currentMa : Int) {m' : Nat} (hm : Covers m' 0xce7defff) {u₀ u₁ : State} (hu
    : Changes m' u₀ u₁) : ChangesOut m' u₀ (execGaugeUpdate deltaMc currentMa u₁) := by
  unfold execGaugeUpdate
  repeat' first
    | with_reducible assumption | with_reducible apply ChangesOut.next | with_reducible apply ChangesOut.ite
    | with_reducible refine countCharge_changes _ _ (hm.trans (by decide)) ?_
    | with_reducible refine firstReading_changes (hm.trans (by decide)) ?_
    | with_reducible refine updateClass_changes (hm.trans (by decide)) ?_
    | with_reducible refine reportSoc_changes (hm.trans (by decide)) ?_
    | with_reducible refine snapEmpty_changes (hm.trans (by decide)) ?_
    | with_reducible refine holdZero_changes _ (hm.trans (by decide)) ?_
    | with_reducible refine sendEnergy_changes (hm.trans (by decide)) ?_
    | with_reducible refine chargerCheck_changes (hm.trans (by decide)) ?_
    | with_reducible refine dischargeEnd_changes (hm.trans (by decide)) ?_
    | with_reducible refine chargerCurrent_changes (hm.trans (by decide)) ?_ | with_reducible apply Changes.ite
    | (fail_if_no_progress with_reducible refine Changes.put_gau (hm.bit (by decide)) ?_)
    | (extract_lets +onlyGivenNames x; refine Changes.cut (a := Changes m' u₀ x) ?_ (fun hx => ?_) <;> [unfold x; clear_value x])
    | extract_lets +onlyGivenNames x | split

theorem execQuietEntry_changes {m' : Nat} (hm : Covers m' 0x8000) {u₀ u₁ : State} (hu : Changes m' u₀ u₁) :
    ChangesOut m' u₀ (execQuietEntry u₁) := by
  unfold execQuietEntry
  repeat' first
    | with_reducible assumption | with_reducible apply ChangesOut.next | with_reducible apply ChangesOut.ite
    | with_reducible apply Changes.ite
    | (fail_if_no_progress with_reducible refine Changes.put_gau (hm.bit (by decide)) ?_)
    | extract_lets +onlyGivenNames x | split

theorem learn_changes (kind : Nat) (value : Nat) {m' : Nat} (hm : Covers m' 0xce7defff) {u₀ u₁ : State} (hu :
    Changes m' u₀ u₁) : Changes m' u₀ (learn kind value u₁) := by
  unfold learn
  repeat' first
    | with_reducible assumption | (fail_if_no_progress beta_reduce)
    | with_reducible refine writeGauge_changes (hm.trans (by decide)) ?_
    | with_reducible refine pcClear_changes _ (hm.trans (by decide)) ?_
    | with_reducible refine pcFault_changes _ _ (hm.trans (by decide)) ?_ | with_reducible apply Changes.ite
    | (fail_if_no_progress with_reducible refine Changes.put_gau (hm.bit (by decide)) ?_)
    | (extract_lets +onlyGivenNames x; refine Changes.cut (a := Changes m' u₀ x) ?_ (fun hx => ?_) <;> [unfold x; clear_value x])
    | extract_lets +onlyGivenNames x | split

theorem restLearning_changes (soc : Nat) {m' : Nat} (hm : Covers m' 0xce7defff) {u₀ u₁ : State} (hu : Changes m' u₀
    u₁) : Changes m' u₀ (restLearning soc u₁) := by
  unfold restLearning
  repeat' first
    | with_reducible assumption | with_reducible refine learn_changes _ _ (hm.trans (by decide)) ?_
    | with_reducible apply Changes.ite
    | (extract_lets +onlyGivenNames x; refine Changes.cut (a := Changes m' u₀ x) ?_ (fun hx => ?_) <;> [unfold x; clear_value x])
    | extract_lets +onlyGivenNames x | split

theorem execRestPoint_changes (drift : Nat) {m' : Nat} (hm : Covers m' 0xce7defff) {u₀ u₁ : State} (hu : Changes m'
    u₀ u₁) : ChangesOut m' u₀ (execRestPoint drift u₁) := by
  unfold execRestPoint
  repeat' first
    | with_reducible assumption | with_reducible apply ChangesOut.next | with_reducible apply ChangesOut.ite
    | with_reducible refine restLearning_changes _ (hm.trans (by decide)) ?_
    | with_reducible refine reportSoc_changes (hm.trans (by decide)) ?_ | with_reducible apply Changes.ite
    | (fail_if_no_progress with_reducible refine Changes.put_gau (hm.bit (by decide)) ?_)
    | (extract_lets +onlyGivenNames x; refine Changes.cut (a := Changes m' u₀ x) ?_ (fun hx => ?_) <;> [unfold x; clear_value x])
    | extract_lets +onlyGivenNames x | split

theorem execExerciseStart_changes {m' : Nat} (hm : Covers m' 0x18000) {u₀ u₁ : State} (hu : Changes m' u₀ u₁) :
    ChangesOut m' u₀ (execExerciseStart u₁) := by
  unfold execExerciseStart
  repeat' first
    | with_reducible assumption | with_reducible apply ChangesOut.next | with_reducible apply ChangesOut.ite
    | with_reducible refine updateClass_changes (hm.trans (by decide)) ?_ | with_reducible apply Changes.ite
    | (fail_if_no_progress with_reducible refine Changes.put_chg (hm.bit (by decide)) ?_)
    | split

theorem exerciseGrant_changes (grant : Bool) {m' : Nat} (hm : Covers m' 0xce3defff) {u₀ u₁ : State} (hu : Changes m'
    u₀ u₁) : Changes m' u₀ (exerciseGrant grant u₁) := by
  unfold exerciseGrant
  repeat' first
    | with_reducible assumption
    | (with_reducible refine withAbort_changes _ (hm.trans (by decide)) (fun v hv => ?_) ?_)
    | with_reducible refine endExercise_changes _ (hm.trans (by decide)) ?_ | with_reducible apply Changes.ite
    | (fail_if_no_progress with_reducible refine Changes.put_stg (hm.bit (by decide)) ?_)
    | (fail_if_no_progress with_reducible refine Changes.put_chg (hm.bit (by decide)) ?_)
    | (fail_if_no_progress with_reducible apply Changes.parts <;> first | exact hm.skip (by decide) | exact fun _ => rfl | exact id | skip)
    | (extract_lets +onlyGivenNames x; refine Changes.cut (a := Changes m' u₀ x) ?_ (fun hx => ?_) <;> [unfold x; clear_value x])
    | extract_lets +onlyGivenNames x | split

theorem execExerciseGrant_changes (grant : Bool) {m' : Nat} (hm : Covers m' 0xce3defff) {u₀ u₁ : State} (hu :
    Changes m' u₀ u₁) : ChangesOut m' u₀ (execExerciseGrant grant u₁) := by
  unfold execExerciseGrant
  repeat' first
    | with_reducible assumption | with_reducible apply ChangesOut.next
    | with_reducible refine exerciseGrant_changes _ (hm.trans (by decide)) ?_

theorem execExerGrantWaitExpiry_changes {m' : Nat} (hm : Covers m' 0xce3defff) {u₀ u₁ : State} (hu : Changes m' u₀
    u₁) : ChangesOut m' u₀ (execExerGrantWaitExpiry u₁) := by
  unfold execExerGrantWaitExpiry
  repeat' first
    | with_reducible assumption | with_reducible apply ChangesOut.next | with_reducible apply ChangesOut.ite
    | (with_reducible refine withAbort_changes _ (hm.trans (by decide)) (fun v hv => ?_) ?_)
    | with_reducible refine endExercise_changes _ (hm.trans (by decide)) ?_ | with_reducible apply Changes.ite
    | split

theorem execEmptyAnchor_changes {m' : Nat} (hm : Covers m' 0xce7defff) {u₀ u₁ : State} (hu : Changes m' u₀ u₁) :
    ChangesOut m' u₀ (execEmptyAnchor u₁) := by
  unfold execEmptyAnchor
  repeat' first
    | with_reducible assumption | (fail_if_no_progress beta_reduce) | with_reducible apply ChangesOut.next
    | with_reducible apply ChangesOut.ite | with_reducible refine learn_changes _ _ (hm.trans (by decide)) ?_
    | with_reducible refine chargerCheck_changes (hm.trans (by decide)) ?_
    | with_reducible refine reportSoc_changes (hm.trans (by decide)) ?_ | with_reducible apply Changes.ite
    | (fail_if_no_progress with_reducible refine Changes.put_gau (hm.bit (by decide)) ?_)
    | (fail_if_no_progress with_reducible refine Changes.put_chg (hm.bit (by decide)) ?_)
    | (fail_if_no_progress with_reducible apply Changes.parts <;> first | exact hm.skip (by decide) | exact fun _ => rfl | exact id | skip)
    | (extract_lets +onlyGivenNames x; refine Changes.cut (a := Changes m' u₀ x) ?_ (fun hx => ?_) <;> [unfold x; clear_value x])
    | extract_lets +onlyGivenNames x | split

theorem newDay_changes {m' : Nat} (hm : Covers m' 0x80028000) {u₀ u₁ : State} (hu : Changes m' u₀ u₁) : Changes m'
    u₀ (newDay u₁) := by
  unfold newDay
  repeat' first
    | with_reducible assumption | (fail_if_no_progress beta_reduce)
    | with_reducible refine nextFree_changes (hm.trans (by decide)) ?_ | with_reducible apply Changes.ite
    | (fail_if_no_progress with_reducible refine Changes.put_gau (hm.bit (by decide)) ?_)
    | (fail_if_no_progress (with_reducible refine Changes.put_thm (hm.bit (by decide)) ?_ ?_) <;> [(first | exact id | exact fun h0 => ⟨h0.zones, keysUp_filter _ (keysUp_map _ h0.sensors (fun _ => rfl))⟩ | (intro h0; constructor <;> first | exact h0.zones | exact h0.sensors | exact keysUp_tmod _ _ _ h0.sensors | simpa [modAt] using h0.zones)); skip])
    | (fail_if_no_progress with_reducible apply Changes.parts <;> first | exact hm.skip (by decide) | exact fun _ => rfl | exact id | (first | exact id | exact fun h0 => ⟨h0.zones, keysUp_filter _ (keysUp_map _ h0.sensors (fun _ => rfl))⟩ | (intro h0; constructor <;> first | exact h0.zones | exact h0.sensors | exact keysUp_tmod _ _ _ h0.sensors | simpa [modAt] using h0.zones)) | skip)
    | (extract_lets +onlyGivenNames x; refine Changes.cut (a := Changes m' u₀ x) ?_ (fun hx => ?_) <;> [unfold x; clear_value x])
    | extract_lets +onlyGivenNames x | split

theorem execFadeDaily_changes {m' : Nat} (hm : Covers m' 0xce7fefff) {u₀ u₁ : State} (hu : Changes m' u₀ u₁) :
    ChangesOut m' u₀ (execFadeDaily u₁) := by
  unfold execFadeDaily
  repeat' first
    | with_reducible assumption | (fail_if_no_progress beta_reduce) | with_reducible apply ChangesOut.next
    | with_reducible apply ChangesOut.ite | with_reducible refine newDay_changes (hm.trans (by decide)) ?_
    | with_reducible refine writeGauge_changes (hm.trans (by decide)) ?_
    | with_reducible refine noteOverdue_changes (hm.trans (by decide)) ?_
    | with_reducible refine reportSoc_changes (hm.trans (by decide)) ?_ | with_reducible apply Changes.ite
    | (fail_if_no_progress with_reducible refine Changes.put_gau (hm.bit (by decide)) ?_)
    | (extract_lets +onlyGivenNames x; refine Changes.cut (a := Changes m' u₀ x) ?_ (fun hx => ?_) <;> [unfold x; clear_value x])
    | extract_lets +onlyGivenNames x | split

end Sys2Proof.Machine
end

