-- ==== Sys2Proof/Laws/ChangesFaults.lean ====
section
/-! SUPPORT. The frames of the fault commands, the embedded flash and the draft. -/

set_option linter.all false
set_option linter.unusedTactic false
set_option linter.unreachableTactic false

namespace Sys2Proof.Machine

/-! ### Faults -/

theorem channelReports_changes (n : Nat) {m' : Nat} (hm : Covers m' 0xce0c0d79) {u₀ u₁ : State} (hu : Changes m' u₀
    u₁) : Changes m' u₀ (channelReports n u₁) := by
  unfold channelReports
  repeat' first
    | with_reducible assumption | with_reducible refine retireInVault_changes _ (hm.trans (by decide)) ?_
    | with_reducible apply Changes.ite
    | split

theorem engineSide_changes (n : Nat) (t : Bool) (c : Bool) {m' : Nat} (hm : Covers m' 0xc0020) {u₀ u₁ : State} (hu :
    Changes m' u₀ u₁) : Changes m' u₀ (engineSide n t c u₁) := by
  unfold engineSide
  repeat' first
    | with_reducible assumption | with_reducible refine engineReact_changes _ (hm.trans (by decide)) ?_
    | with_reducible refine engineCode_changes _ _ _ (hm.trans (by decide)) ?_ | with_reducible apply Changes.ite
    | split

theorem execSourceEntersFault_changes (n : Nat) (detail : Nat) {m' : Nat} (hm : Covers m' 0xce3defff) {u₀ u₁ :
    State} (hu : Changes m' u₀ u₁) : ChangesOut m' u₀ (execSourceEntersFault n detail u₁) := by
  unfold execSourceEntersFault
  repeat' first
    | with_reducible assumption | with_reducible apply ChangesOut.next | with_reducible apply ChangesOut.ite
    | with_reducible refine channelReports_changes _ (hm.trans (by decide)) ?_
    | with_reducible refine pcFault_changes _ _ (hm.trans (by decide)) ?_
    | with_reducible refine engineSide_changes _ _ _ (hm.trans (by decide)) ?_
    | with_reducible refine engineFault_changes _ _ (hm.trans (by decide)) ?_ | with_reducible apply Changes.ite
    | split

theorem execSourceBroken_changes (n : Nat) (t : Bool) (c : Bool) {m' : Nat} (hm : Covers m' 0xce3defff) {u₀ u₁ :
    State} (hu : Changes m' u₀ u₁) : ChangesOut m' u₀ (execSourceBroken n t c u₁) := by
  unfold execSourceBroken
  repeat' first
    | with_reducible assumption | (fail_if_no_progress beta_reduce) | with_reducible apply ChangesOut.next
    | with_reducible apply ChangesOut.ite | with_reducible refine engineSide_changes _ _ _ (hm.trans (by decide)) ?_
    | with_reducible refine channelReports_changes _ (hm.trans (by decide)) ?_
    | with_reducible refine codeChange_changes _ _ _ _ (hm.trans (by decide)) ?_ | with_reducible apply Changes.ite
    | (extract_lets +onlyGivenNames x; refine Changes.cut (a := Changes m' u₀ x) ?_ (fun hx => ?_) <;> [unfold x; clear_value x])
    | extract_lets +onlyGivenNames x | split

theorem execFaultFrame_changes (hdr : FrameHdr) (entries : List (Nat × Bool × Bool)) {m' : Nat} (hm : Covers m'
    0xce3defff) {u₀ u₁ : State} (hu : Changes m' u₀ u₁) : ChangesOut m' u₀ (execFaultFrame hdr entries u₁) := by
  unfold execFaultFrame
  repeat' first
    | with_reducible assumption | (fail_if_no_progress beta_reduce) | with_reducible apply ChangesOut.next
    | with_reducible apply ChangesOut.ite | with_reducible refine receive_changes _ _ (hm.trans (by decide)) ?_
    | with_reducible refine codeChange_changes _ _ _ _ (hm.trans (by decide)) ?_ | with_reducible apply Changes.ite
    | (with_reducible refine Changes.foldl ?_ (fun v y hv => ?_))
    | (extract_lets +onlyGivenNames x; refine Changes.cut (a := Changes m' u₀ x) ?_ (fun hx => ?_) <;> [unfold x; clear_value x])
    | extract_lets +onlyGivenNames x | split

theorem restorePairs_changes {m' : Nat} (hm : Covers m' 0x42300) {u₀ u₁ : State} (hu : Changes m' u₀ u₁) : Changes
    m' u₀ (restorePairs u₁) := by
  unfold restorePairs
  repeat' first
    | with_reducible assumption | (fail_if_no_progress beta_reduce)
    | with_reducible refine switchOn_changes _ (hm.trans (by decide)) ?_
    | (with_reducible refine Changes.foldl ?_ (fun v y hv => ?_))
    | (fail_if_no_progress (with_reducible refine Changes.put_pwr (hm.bit (by decide)) ?_ ?_) <;> [(first | exact id | exact fun _ => rfl | exact fun h0 => by simpa [modAt] using h0); skip])
    | (extract_lets +onlyGivenNames x; refine Changes.cut (a := Changes m' u₀ x) ?_ (fun hx => ?_) <;> [unfold x; clear_value x])
    | extract_lets +onlyGivenNames x | split

theorem resumeUnit_changes (u : Nat) {m' : Nat} (hm : Covers m' 0x4c0da3a1) {u₀ u₁ : State} (hu : Changes m' u₀ u₁)
    : Changes m' u₀ (resumeUnit u u₁) := by
  unfold resumeUnit
  repeat' first
    | with_reducible assumption | (fail_if_no_progress beta_reduce)
    | with_reducible refine engineClear_changes _ (hm.trans (by decide)) ?_
    | with_reducible refine leaveRefresh_changes (hm.trans (by decide)) ?_
    | with_reducible refine unwrapKey_changes (hm.trans (by decide)) ?_
    | with_reducible refine demandChanged_changes (hm.trans (by decide)) ?_
    | with_reducible refine sendQuery_changes (hm.trans (by decide)) ?_
    | with_reducible refine restorePairs_changes (hm.trans (by decide)) ?_
    | with_reducible refine startCharger_changes (hm.trans (by decide)) ?_ | with_reducible apply Changes.ite
    | (extract_lets +onlyGivenNames x; refine Changes.cut (a := Changes m' u₀ x) ?_ (fun hx => ?_) <;> [unfold x; clear_value x])
    | extract_lets +onlyGivenNames x | split

theorem execUnitResetDone_changes (unit : UnitId) {m' : Nat} (hm : Covers m' 0xce3defff) {u₀ u₁ : State} (hu :
    Changes m' u₀ u₁) : ChangesOut m' u₀ (execUnitResetDone unit u₁) := by
  unfold execUnitResetDone
  repeat' first
    | with_reducible assumption | with_reducible apply ChangesOut.next | with_reducible apply ChangesOut.ite
    | with_reducible refine releaseWaiting_changes (hm.trans (by decide)) ?_
    | with_reducible refine resumeUnit_changes _ (hm.trans (by decide)) ?_ | with_reducible apply Changes.ite
    | (fail_if_no_progress (with_reducible refine Changes.put_flt (hm.bit (by decide)) ?_ ?_) <;> [(first | exact id | exact keysUp_tmod _ _ _); skip])
    | (extract_lets +onlyGivenNames x; refine Changes.cut (a := Changes m' u₀ x) ?_ (fun hx => ?_) <;> [unfold x; clear_value x])
    | extract_lets +onlyGivenNames x | split

theorem execStewardUnitReset_changes (unit : UnitId) {m' : Nat} (hm : Covers m' 0xce0de1fd) {u₀ u₁ : State} (hu :
    Changes m' u₀ u₁) : ChangesOut m' u₀ (execStewardUnitReset unit u₁) := by
  unfold execStewardUnitReset
  repeat' first
    | with_reducible assumption | with_reducible apply ChangesOut.next | with_reducible apply ChangesOut.ite
    | with_reducible refine beginUnitReset_changes _ (hm.trans (by decide)) ?_ | with_reducible apply Changes.ite
    | (extract_lets +onlyGivenNames x; refine Changes.cut (a := Changes m' u₀ x) ?_ (fun hx => ?_) <;> [unfold x; clear_value x])
    | extract_lets +onlyGivenNames x | split

theorem lateReaction_changes (n : Nat) (sev : Nat) {m' : Nat} (hm : Covers m' 0xce3defff) {u₀ u₁ : State} (hu :
    Changes m' u₀ u₁) : Changes m' u₀ (lateReaction n sev u₁) := by
  unfold lateReaction
  repeat' first
    | with_reducible assumption | (fail_if_no_progress beta_reduce)
    | (with_reducible refine withAbort_changes _ (hm.trans (by decide)) (fun v hv => ?_) ?_)
    | with_reducible refine react_changes _ _ (hm.trans (by decide)) ?_
    | with_reducible refine logFault_changes _ _ _ _ _ (hm.trans (by decide)) ?_
    | split

theorem execShadowExpiry_changes (source : Nat) {m' : Nat} (hm : Covers m' 0xce3defff) {u₀ u₁ : State} (hu : Changes
    m' u₀ u₁) : ChangesOut m' u₀ (execShadowExpiry source u₁) := by
  unfold execShadowExpiry
  repeat' first
    | with_reducible assumption | (fail_if_no_progress beta_reduce) | with_reducible apply ChangesOut.next
    | with_reducible apply ChangesOut.ite | with_reducible refine lateReaction_changes _ _ (hm.trans (by decide)) ?_
    | with_reducible apply Changes.ite | (with_reducible refine Changes.foldl ?_ (fun v y hv => ?_))
    | (fail_if_no_progress (with_reducible refine Changes.put_flt (hm.bit (by decide)) ?_ ?_) <;> [(first | exact id | exact fun h0 => keysUp_tmod _ _ _ h0); skip])
    | (extract_lets +onlyGivenNames x; refine Changes.cut (a := Changes m' u₀ x) ?_ (fun hx => ?_) <;> [unfold x; clear_value x])
    | extract_lets +onlyGivenNames x | split

theorem clearLatched_changes (m : Master) (n : Nat) {m' : Nat} (hm : Covers m' 0x42304) {u₀ u₁ : State} (hu :
    Changes m' u₀ u₁) : Changes m' u₀ (clearLatched m n u₁) := by
  unfold clearLatched
  repeat' first
    | with_reducible assumption | (fail_if_no_progress beta_reduce)
    | with_reducible refine logEntry_changes _ _ _ _ _ (hm.trans (by decide)) ?_
    | with_reducible refine modSrc_changes _ _ (hm.trans (by decide)) ?_
    | with_reducible refine nextHost_changes (hm.trans (by decide)) ?_ | with_reducible apply Changes.ite
    | (extract_lets +onlyGivenNames x; refine Changes.cut (a := Changes m' u₀ x) ?_ (fun hx => ?_) <;> [unfold x; clear_value x])
    | extract_lets +onlyGivenNames x | split

theorem execLatchedClear_changes (m : Master) (n : Nat) {m' : Nat} (hm : Covers m' 0x42304) {u₀ u₁ : State} (hu :
    Changes m' u₀ u₁) : ChangesOut m' u₀ (execLatchedClear m n u₁) := by
  unfold execLatchedClear
  repeat' first
    | with_reducible assumption | with_reducible apply ChangesOut.next | with_reducible apply ChangesOut.ite
    | with_reducible refine clearLatched_changes _ _ (hm.trans (by decide)) ?_ | with_reducible apply Changes.ite
    | split

theorem accessFault_changes (n : Nat) (m : Master) (addr : Nat) {m' : Nat} (hm : Covers m' 0xce3defff) {u₀ u₁ :
    State} (hu : Changes m' u₀ u₁) : Changes m' u₀ (accessFault n m addr u₁) := by
  unfold accessFault
  repeat' first
    | with_reducible assumption
    | (with_reducible refine withAbort_changes _ (hm.trans (by decide)) (fun v hv => ?_) ?_)
    | with_reducible refine enterSev_changes _ _ _ _ (hm.trans (by decide)) ?_

theorem raiseSeverity_changes (m : Master) (n : Nat) (sev : Nat) (alert : Bool) {m' : Nat} (hm : Covers m'
    0xce3defff) {u₀ u₁ : State} (hu : Changes m' u₀ u₁) : Changes m' u₀ (raiseSeverity m n sev alert u₁) := by
  unfold raiseSeverity
  repeat' first
    | with_reducible assumption | (fail_if_no_progress beta_reduce)
    | with_reducible refine accessFault_changes _ _ _ (hm.trans (by decide)) ?_
    | with_reducible refine modSrc_changes _ _ (hm.trans (by decide)) ?_
    | with_reducible refine lateReaction_changes _ _ (hm.trans (by decide)) ?_ | with_reducible apply Changes.ite
    | (extract_lets +onlyGivenNames x; refine Changes.cut (a := Changes m' u₀ x) ?_ (fun hx => ?_) <;> [unfold x; clear_value x])
    | extract_lets +onlyGivenNames x | split

theorem execSeverityRaise_changes (m : Master) (n sev : Nat) (alert : Bool) {m' : Nat} (hm : Covers m' 0xce3defff)
    {u₀ u₁ : State} (hu : Changes m' u₀ u₁) : ChangesOut m' u₀ (execSeverityRaise m n sev alert u₁) := by
  unfold execSeverityRaise
  repeat' first
    | with_reducible assumption | with_reducible apply ChangesOut.next | with_reducible apply ChangesOut.ite
    | with_reducible refine raiseSeverity_changes _ _ _ _ (hm.trans (by decide)) ?_
    | with_reducible apply Changes.ite | split

theorem clearFirst_changes (_m : Master) {m' : Nat} (hm : Covers m' 0x40000) {u₀ u₁ : State} (hu : Changes m' u₀ u₁)
    : Changes m' u₀ (clearFirst _m u₁) := by
  unfold clearFirst
  repeat' first
    | with_reducible assumption | with_reducible apply Changes.ite
    | (fail_if_no_progress (with_reducible refine Changes.put_flt (hm.bit (by decide)) ?_ ?_) <;> [(first | exact id | exact keysUp_tmod _ _ _); skip])
    | extract_lets +onlyGivenNames x | split

theorem execFirstErrorClear_changes (_m : Master) {m' : Nat} (hm : Covers m' 0x40000) {u₀ u₁ : State} (hu : Changes
    m' u₀ u₁) : ChangesOut m' u₀ (execFirstErrorClear _m u₁) := by
  unfold execFirstErrorClear
  repeat' first
    | with_reducible assumption | with_reducible apply ChangesOut.next
    | with_reducible refine clearFirst_changes _ (hm.trans (by decide)) ?_

theorem selfFault_changes {m' : Nat} (hm : Covers m' 0xce3defff) {u₀ u₁ : State} (hu : Changes m' u₀ u₁) : Changes
    m' u₀ (selfFault u₁) := by
  unfold selfFault
  repeat' first
    | with_reducible assumption | (fail_if_no_progress beta_reduce)
    | with_reducible refine modSrc_changes _ _ (hm.trans (by decide)) ?_
    | (with_reducible refine withAbort_changes _ (hm.trans (by decide)) (fun v hv => ?_) ?_)
    | with_reducible refine enterBelay_changes _ (hm.trans (by decide)) ?_
    | with_reducible refine logFault_changes _ _ _ _ _ (hm.trans (by decide)) ?_
    | with_reducible refine captureFirst_changes _ _ _ _ _ (hm.trans (by decide)) ?_
    | with_reducible apply Changes.ite
    | (extract_lets +onlyGivenNames x; refine Changes.cut (a := Changes m' u₀ x) ?_ (fun hx => ?_) <;> [unfold x; clear_value x])
    | extract_lets +onlyGivenNames x | split

theorem execCollectorSelfCheck_changes (mismatches : List (Nat × Nat)) {m' : Nat} (hm : Covers m' 0xce3defff) {u₀ u₁
    : State} (hu : Changes m' u₀ u₁) : ChangesOut m' u₀ (execCollectorSelfCheck mismatches u₁) := by
  unfold execCollectorSelfCheck
  repeat' first
    | with_reducible assumption | (fail_if_no_progress beta_reduce) | with_reducible apply ChangesOut.next
    | with_reducible apply ChangesOut.ite | with_reducible refine modSrc_changes _ _ (hm.trans (by decide)) ?_
    | with_reducible refine selfFault_changes (hm.trans (by decide)) ?_ | with_reducible apply Changes.ite
    | (with_reducible refine Changes.foldl ?_ (fun v y hv => ?_))
    | (fail_if_no_progress (with_reducible refine Changes.put_flt (hm.bit (by decide)) ?_ ?_) <;> [(first | exact id | exact fun h0 => keysUp_tmod _ _ _ h0); skip])
    | (extract_lets +onlyGivenNames x; refine Changes.cut (a := Changes m' u₀ x) ?_ (fun hx => ?_) <;> [unfold x; clear_value x])
    | extract_lets +onlyGivenNames x | split

theorem execSelvedgeCheck_changes (response passed : Bool) {m' : Nat} (hm : Covers m' 0xce3defff) {u₀ u₁ : State}
    (hu : Changes m' u₀ u₁) : ChangesOut m' u₀ (execSelvedgeCheck response passed u₁) := by
  unfold execSelvedgeCheck
  repeat' first
    | with_reducible assumption | with_reducible apply ChangesOut.next | with_reducible apply ChangesOut.ite
    | with_reducible refine pcCond_changes _ _ (hm.trans (by decide)) ?_
    | with_reducible refine selvedgeHold_changes _ (hm.trans (by decide)) ?_ | with_reducible apply Changes.ite
    | (extract_lets +onlyGivenNames x; refine Changes.cut (a := Changes m' u₀ x) ?_ (fun hx => ?_) <;> [unfold x; clear_value x])
    | extract_lets +onlyGivenNames x | split

theorem execSelvedgeCheckTimeout_changes {m' : Nat} (hm : Covers m' 0xce3defff) {u₀ u₁ : State} (hu : Changes m' u₀
    u₁) : ChangesOut m' u₀ (execSelvedgeCheckTimeout u₁) := by
  unfold execSelvedgeCheckTimeout
  repeat' first
    | with_reducible assumption | with_reducible apply ChangesOut.next | with_reducible apply ChangesOut.ite
    | with_reducible refine pcFault_changes _ _ (hm.trans (by decide)) ?_ | with_reducible apply Changes.ite | split

theorem belayeSeen_changes {m' : Nat} (hm : Covers m' 0xce3defff) {u₀ u₁ : State} (hu : Changes m' u₀ u₁) : Changes
    m' u₀ (belayeSeen u₁) := by
  unfold belayeSeen
  repeat' first
    | with_reducible assumption | (fail_if_no_progress beta_reduce)
    | (with_reducible refine withAbort_changes _ (hm.trans (by decide)) (fun v hv => ?_) ?_)
    | with_reducible refine enterBelay_changes _ (hm.trans (by decide)) ?_
    | (extract_lets +onlyGivenNames x; refine Changes.cut (a := Changes m' u₀ x) ?_ (fun hx => ?_) <;> [unfold x; clear_value x])
    | extract_lets +onlyGivenNames x

theorem execBelayeActive_changes {m' : Nat} (hm : Covers m' 0xce3defff) {u₀ u₁ : State} (hu : Changes m' u₀ u₁) :
    ChangesOut m' u₀ (execBelayeActive u₁) := by
  unfold execBelayeActive
  repeat' first
    | with_reducible assumption | with_reducible apply ChangesOut.next | with_reducible apply ChangesOut.ite
    | with_reducible refine belayeSeen_changes (hm.trans (by decide)) ?_ | with_reducible apply Changes.ite | split

theorem belaypSeen_changes {m' : Nat} (hm : Covers m' 0x863c221b) {u₀ u₁ : State} (hu : Changes m' u₀ u₁) : Changes
    m' u₀ (belaypSeen u₁) := by
  unfold belaypSeen
  repeat' first
    | with_reducible assumption | with_reducible refine engineBelay_changes (hm.trans (by decide)) ?_
    | with_reducible refine drivePair_changes _ _ (hm.trans (by decide)) ?_ | with_reducible apply Changes.ite
    | split

theorem execBelaypActive_changes {m' : Nat} (hm : Covers m' 0x863c221b) {u₀ u₁ : State} (hu : Changes m' u₀ u₁) :
    ChangesOut m' u₀ (execBelaypActive u₁) := by
  unfold execBelaypActive
  repeat' first
    | with_reducible assumption | with_reducible apply ChangesOut.next | with_reducible apply ChangesOut.ite
    | with_reducible refine belaypSeen_changes (hm.trans (by decide)) ?_ | with_reducible apply Changes.ite | split

theorem execNandRbNChange_changes (target : Nat) (ready : Bool) {m' : Nat} (hm : Covers m' 0x434221b) {u₀ u₁ :
    State} (hu : Changes m' u₀ u₁) : ChangesOut m' u₀ (execNandRbNChange target ready u₁) := by
  unfold execNandRbNChange
  repeat' first
    | with_reducible assumption | (fail_if_no_progress beta_reduce) | with_reducible apply ChangesOut.next
    | with_reducible apply ChangesOut.ite | with_reducible refine modTarget_changes _ _ (hm.trans (by decide)) ?_
    | with_reducible refine nandOffWhenProtected_changes (hm.trans (by decide)) ?_
    | with_reducible refine protectReady_changes (hm.trans (by decide)) ?_ | with_reducible apply Changes.ite
    | (extract_lets +onlyGivenNames x; refine Changes.cut (a := Changes m' u₀ x) ?_ (fun hx => ?_) <;> [unfold x; clear_value x])
    | extract_lets +onlyGivenNames x | split

theorem execBelayWpTimeout_changes {m' : Nat} (hm : Covers m' 0x434221b) {u₀ u₁ : State} (hu : Changes m' u₀ u₁) :
    ChangesOut m' u₀ (execBelayWpTimeout u₁) := by
  unfold execBelayWpTimeout
  repeat' first
    | with_reducible assumption | (fail_if_no_progress beta_reduce) | with_reducible apply ChangesOut.next
    | with_reducible apply ChangesOut.ite
    | with_reducible refine nandOffWhenProtected_changes (hm.trans (by decide)) ?_
    | with_reducible refine modChannel_changes _ _ (hm.trans (by decide)) ?_ | with_reducible apply Changes.ite
    | (with_reducible refine Changes.foldl ?_ (fun v y hv => ?_)) | extract_lets +onlyGivenNames x | split

theorem leaveBelay_changes {m' : Nat} (hm : Covers m' 0xc0000) {u₀ u₁ : State} (hu : Changes m' u₀ u₁) : Changes m'
    u₀ (leaveBelay u₁) := by
  unfold leaveBelay
  repeat' first
    | with_reducible assumption | (fail_if_no_progress beta_reduce)
    | with_reducible refine drivePair_changes _ _ (hm.trans (by decide)) ?_
    | (fail_if_no_progress (with_reducible refine Changes.put_flt (hm.bit (by decide)) ?_ ?_) <;> [(first | exact id | exact fun h0 => keysUp_tmod _ _ _ h0); skip])
    | (extract_lets +onlyGivenNames x; refine Changes.cut (a := Changes m' u₀ x) ?_ (fun hx => ?_) <;> [unfold x; clear_value x])
    | extract_lets +onlyGivenNames x

theorem attemptRecovery_changes {m' : Nat} (hm : Covers m' 0xce3defff) {u₀ u₁ : State} (hu : Changes m' u₀ u₁) :
    Changes m' u₀ (attemptRecovery u₁) := by
  unfold attemptRecovery
  extract_lets p f a b r c
  have ha : Changes m' u₀ a := hu.put_flt (hm.bit (by decide)) id
  clear_value a
  have hb : Changes m' u₀ b := logEvent_changes _ _ _ (hm.trans (by decide)) ha
  clear_value b
  have hc : Changes m' u₀ c := leaveBelay_changes (hm.trans (by decide)) (requestWarm_changes _ _ (hm.trans (by decide))
    (hb.put_warm (hm.bit (by decide))))
  clear_value c
  refine Changes.ite hu (Changes.ite ?_ (Changes.ite ?_ ?_))
  · exact startAttempt_changes (hm.trans (by decide)) (beginReboot_changes (hm.trans (by decide))
      (leaveBelay_changes (hm.trans (by decide)) hb))
  · exact leaveBelay_changes (hm.trans (by decide)) (requestWarm_changes _ _ (hm.trans (by decide)) hb)
  · refine vaultOver_changes (hm.trans (by decide)) ?_
    apply Changes.parts
    all_goals first
      | exact hm.skip (by decide)
      | exact hc
      | exact fun _ => rfl
      | exact id

theorem execBelaySettleExpiry_changes {m' : Nat} (hm : Covers m' 0xce3defff) {u₀ u₁ : State} (hu : Changes m' u₀ u₁)
    : ChangesOut m' u₀ (execBelaySettleExpiry u₁) := by
  unfold execBelaySettleExpiry
  repeat' first
    | with_reducible assumption | with_reducible apply ChangesOut.next | with_reducible apply ChangesOut.ite
    | with_reducible refine attemptRecovery_changes (hm.trans (by decide)) ?_ | with_reducible apply Changes.ite
    | split

theorem recoverOp_changes (_m : Master) {m' : Nat} (hm : Covers m' 0xce3defff) {u₀ u₁ : State} (hu : Changes m' u₀
    u₁) : Changes m' u₀ (recoverOp _m u₁) := by
  unfold recoverOp
  repeat' first
    | with_reducible assumption | (fail_if_no_progress beta_reduce)
    | with_reducible refine attemptRecovery_changes (hm.trans (by decide)) ?_ | with_reducible apply Changes.ite
    | (fail_if_no_progress (with_reducible refine Changes.put_flt (hm.bit (by decide)) ?_ ?_) <;> [(first | exact id | exact fun h0 => keysUp_tmod _ _ _ h0); skip])
    | (extract_lets +onlyGivenNames x; refine Changes.cut (a := Changes m' u₀ x) ?_ (fun hx => ?_) <;> [unfold x; clear_value x])
    | extract_lets +onlyGivenNames x | split

theorem execRecover_changes (_m : Master) {m' : Nat} (hm : Covers m' 0xce3defff) {u₀ u₁ : State} (hu : Changes m' u₀
    u₁) : ChangesOut m' u₀ (execRecover _m u₁) := by
  unfold execRecover
  repeat' first
    | with_reducible assumption | with_reducible apply ChangesOut.next
    | with_reducible refine recoverOp_changes _ (hm.trans (by decide)) ?_

theorem rbStuck_changes (input : Nat) {m' : Nat} (hm : Covers m' 0xce0c0d7b) {u₀ u₁ : State} (hu : Changes m' u₀ u₁)
    : Changes m' u₀ (rbStuck input u₁) := by
  unfold rbStuck
  repeat' first
    | with_reducible assumption | (fail_if_no_progress beta_reduce)
    | with_reducible refine engineFault_changes _ _ (hm.trans (by decide)) ?_
    | with_reducible refine modTarget_changes _ _ (hm.trans (by decide)) ?_
    | with_reducible refine retireInVault_changes _ (hm.trans (by decide)) ?_
    | with_reducible refine discoveryStall_changes _ _ (hm.trans (by decide)) ?_
    | with_reducible refine shuttleStall_changes _ _ _ (hm.trans (by decide)) ?_ | with_reducible apply Changes.ite
    | (extract_lets +onlyGivenNames x; refine Changes.cut (a := Changes m' u₀ x) ?_ (fun hx => ?_) <;> [unfold x; clear_value x])
    | extract_lets +onlyGivenNames x | split

theorem safeInput_changes (input : Nat) {m' : Nat} (hm : Covers m' 0xce0c9d7b) {u₀ u₁ : State} (hu : Changes m' u₀
    u₁) : Changes m' u₀ (safeInput input u₁) := by
  unfold safeInput
  repeat' first
    | with_reducible assumption | (fail_if_no_progress beta_reduce)
    | with_reducible refine hostReset_changes (hm.trans (by decide)) ?_ | with_reducible apply Changes.ite
    | (fail_if_no_progress with_reducible refine Changes.put_vin (hm.bit (by decide)) ?_)
    | (extract_lets +onlyGivenNames x; refine Changes.cut (a := Changes m' u₀ x) ?_ (fun hx => ?_) <;> [unfold x; clear_value x])
    | extract_lets +onlyGivenNames x | split

theorem freezeSource_changes (n : Nat) {m' : Nat} (hm : Covers m' 0xce3defff) {u₀ u₁ : State} (hu : Changes m' u₀
    u₁) : Changes m' u₀ (freezeSource n u₁) := by
  unfold freezeSource
  repeat' first
    | with_reducible assumption | (fail_if_no_progress beta_reduce)
    | with_reducible refine logEvent_changes _ _ _ (hm.trans (by decide)) ?_
    | with_reducible refine codeChange_changes _ _ _ _ (hm.trans (by decide)) ?_
    | with_reducible refine modSrc_changes _ _ (hm.trans (by decide)) ?_ | with_reducible apply Changes.ite
    | (extract_lets +onlyGivenNames x; refine Changes.cut (a := Changes m' u₀ x) ?_ (fun hx => ?_) <;> [unfold x; clear_value x])
    | extract_lets +onlyGivenNames x | split

theorem releaseSource_changes (n : Nat) {m' : Nat} (hm : Covers m' 0xce3defff) {u₀ u₁ : State} (hu : Changes m' u₀
    u₁) : Changes m' u₀ (releaseSource n u₁) := by
  unfold releaseSource
  repeat' first
    | with_reducible assumption | (fail_if_no_progress beta_reduce)
    | with_reducible refine codeChange_changes _ _ _ _ (hm.trans (by decide)) ?_
    | with_reducible refine logEvent_changes _ _ _ (hm.trans (by decide)) ?_
    | with_reducible refine modSrc_changes _ _ (hm.trans (by decide)) ?_ | with_reducible apply Changes.ite
    | (extract_lets +onlyGivenNames x; refine Changes.cut (a := Changes m' u₀ x) ?_ (fun hx => ?_) <;> [unfold x; clear_value x])
    | extract_lets +onlyGivenNames x | split

theorem freezeInput_changes (input : Nat) (how : Frozen) {m' : Nat} (hm : Covers m' 0xce3dffff) {u₀ u₁ : State} (hu
    : Changes m' u₀ u₁) : Changes m' u₀ (freezeInput input how u₁) := by
  unfold freezeInput
  repeat' first
    | with_reducible assumption | (fail_if_no_progress beta_reduce)
    | with_reducible refine logEvent_changes _ _ _ (hm.trans (by decide)) ?_
    | with_reducible refine safeInput_changes _ (hm.trans (by decide)) ?_
    | with_reducible refine rbStuck_changes _ (hm.trans (by decide)) ?_
    | with_reducible refine pcFault_changes _ _ (hm.trans (by decide)) ?_ | with_reducible apply Changes.ite
    | (fail_if_no_progress (with_reducible refine Changes.put_flt (hm.bit (by decide)) ?_ ?_) <;> [(first | exact id | exact fun h0 => keysUp_tmod _ _ _ h0); skip])
    | (extract_lets +onlyGivenNames x; refine Changes.cut (a := Changes m' u₀ x) ?_ (fun hx => ?_) <;> [unfold x; clear_value x])
    | extract_lets +onlyGivenNames x | split

theorem execInputStuck_changes (input : Nat) {m' : Nat} (hm : Covers m' 0xce3dffff) {u₀ u₁ : State} (hu : Changes m'
    u₀ u₁) : ChangesOut m' u₀ (execInputStuck input u₁) := by
  unfold execInputStuck
  repeat' first
    | with_reducible assumption | with_reducible apply ChangesOut.next | with_reducible apply ChangesOut.ite
    | with_reducible refine freezeInput_changes _ _ (hm.trans (by decide)) ?_ | with_reducible apply Changes.ite
    | split

theorem execInputChatter_changes (input : Nat) (source : Nat) {m' : Nat} (hm : Covers m' 0xce3dffff) {u₀ u₁ : State}
    (hu : Changes m' u₀ u₁) : ChangesOut m' u₀ (execInputChatter input source u₁) := by
  unfold execInputChatter
  repeat' first
    | with_reducible assumption | with_reducible apply ChangesOut.next | with_reducible apply ChangesOut.ite
    | with_reducible refine freezeSource_changes _ (hm.trans (by decide)) ?_
    | with_reducible refine freezeInput_changes _ _ (hm.trans (by decide)) ?_ | with_reducible apply Changes.ite
    | split

theorem execInputRelease_changes (input : Nat) (source : Nat) {m' : Nat} (hm : Covers m' 0xce3dffff) {u₀ u₁ : State}
    (hu : Changes m' u₀ u₁) : ChangesOut m' u₀ (execInputRelease input source u₁) := by
  unfold execInputRelease
  repeat' first
    | with_reducible assumption | (fail_if_no_progress beta_reduce) | with_reducible apply ChangesOut.next
    | with_reducible apply ChangesOut.ite | with_reducible refine releaseSource_changes _ (hm.trans (by decide)) ?_
    | with_reducible refine logEvent_changes _ _ _ (hm.trans (by decide)) ?_
    | with_reducible refine pcClear_changes _ (hm.trans (by decide)) ?_ | with_reducible apply Changes.ite
    | (fail_if_no_progress with_reducible refine Changes.put_vin (hm.bit (by decide)) ?_)
    | (fail_if_no_progress (with_reducible refine Changes.put_flt (hm.bit (by decide)) ?_ ?_) <;> [(first | exact id | exact fun h0 => keysUp_tmod _ _ _ h0); skip])
    | (extract_lets +onlyGivenNames x; refine Changes.cut (a := Changes m' u₀ x) ?_ (fun hx => ?_) <;> [unfold x; clear_value x])
    | extract_lets +onlyGivenNames x | split

theorem safePair_changes (p : PairId) {m' : Nat} (hm : Covers m' 0xce3defff) {u₀ u₁ : State} (hu : Changes m' u₀ u₁)
    : Changes m' u₀ (safePair p u₁) := by
  unfold safePair
  repeat' first
    | with_reducible assumption | with_reducible refine drivePair_changes _ _ (hm.trans (by decide)) ?_
    | with_reducible refine pfSeen_changes (hm.trans (by decide)) ?_
    | with_reducible refine vreqSeen_changes (hm.trans (by decide)) ?_
    | with_reducible refine belaypSeen_changes (hm.trans (by decide)) ?_
    | with_reducible refine belayeSeen_changes (hm.trans (by decide)) ?_
    | with_reducible refine setRefresh_changes _ (hm.trans (by decide)) ?_
    | with_reducible refine pctrlStalled_changes (hm.trans (by decide)) ?_
    | with_reducible refine engineStalledNow_changes (hm.trans (by decide)) ?_ | with_reducible apply Changes.ite
    | split

theorem raisePair_changes (p : PairId) {m' : Nat} (hm : Covers m' 0xce3defff) {u₀ u₁ : State} (hu : Changes m' u₀
    u₁) : Changes m' u₀ (raisePair p u₁) := by
  unfold raisePair
  repeat' first
    | with_reducible assumption | (fail_if_no_progress beta_reduce)
    | with_reducible refine pcFault_changes _ _ (hm.trans (by decide)) ?_
    | with_reducible refine engineFault_changes _ _ (hm.trans (by decide)) ?_ | with_reducible apply Changes.ite
    | (fail_if_no_progress (with_reducible refine Changes.put_flt (hm.bit (by decide)) ?_ ?_) <;> [(first | exact id | exact fun h0 => keysUp_tmod _ _ _ h0); skip])
    | (extract_lets +onlyGivenNames x; refine Changes.cut (a := Changes m' u₀ x) ?_ (fun hx => ?_) <;> [unfold x; clear_value x])
    | extract_lets +onlyGivenNames x | split

theorem execPairBroken_changes (pair : PairId) (t : Bool) (c : Bool) {m' : Nat} (hm : Covers m' 0xce3defff) {u₀ u₁ :
    State} (hu : Changes m' u₀ u₁) : ChangesOut m' u₀ (execPairBroken pair t c u₁) := by
  unfold execPairBroken
  repeat' first
    | with_reducible assumption | (fail_if_no_progress beta_reduce) | with_reducible apply ChangesOut.next
    | with_reducible apply ChangesOut.ite | with_reducible refine safePair_changes _ (hm.trans (by decide)) ?_
    | with_reducible refine raisePair_changes _ (hm.trans (by decide)) ?_
    | with_reducible refine setPair_changes _ _ (hm.trans (by decide)) ?_ | with_reducible apply Changes.ite
    | (fail_if_no_progress (with_reducible refine Changes.put_flt (hm.bit (by decide)) ?_ ?_) <;> [(first | exact id | exact fun h0 => keysUp_tmod _ _ _ h0); skip])
    | split

theorem unholdDdr_changes (p : PairId) {m' : Nat} (hm : Covers m' 0x1) {u₀ u₁ : State} (hu : Changes m' u₀ u₁) :
    Changes m' u₀ (unholdDdr p u₁) := by
  unfold unholdDdr
  repeat' first
    | with_reducible assumption | with_reducible refine leaveRefresh_changes (hm.trans (by decide)) ?_
    | with_reducible apply Changes.ite
    | split

theorem execPairRelease_changes (pair : PairId) (t : Bool) (c : Bool) {m' : Nat} (hm : Covers m' 0xce3defff) {u₀ u₁
    : State} (hu : Changes m' u₀ u₁) : ChangesOut m' u₀ (execPairRelease pair t c u₁) := by
  unfold execPairRelease
  repeat' first
    | with_reducible assumption | (fail_if_no_progress beta_reduce) | with_reducible apply ChangesOut.next
    | with_reducible apply ChangesOut.ite | with_reducible refine setPair_changes _ _ (hm.trans (by decide)) ?_
    | with_reducible refine pcClear_changes _ (hm.trans (by decide)) ?_
    | with_reducible refine unholdDdr_changes _ (hm.trans (by decide)) ?_
    | with_reducible refine engineClear_changes _ (hm.trans (by decide)) ?_ | with_reducible apply Changes.ite
    | (extract_lets +onlyGivenNames x; refine Changes.cut (a := Changes m' u₀ x) ?_ (fun hx => ?_) <;> [unfold x; clear_value x])
    | extract_lets +onlyGivenNames x | split

theorem logMarkOp_changes (value : Word) {m' : Nat} (hm : Covers m' 0x4) {u₀ u₁ : State} (hu : Changes m' u₀ u₁) :
    Changes m' u₀ (logMarkOp value u₁) := by
  unfold logMarkOp
  repeat' first
    | with_reducible assumption | with_reducible refine logEvent_changes _ _ _ (hm.trans (by decide)) ?_
    | with_reducible apply Changes.ite | split

theorem execLogMark_changes (value : Word) {m' : Nat} (hm : Covers m' 0x4) {u₀ u₁ : State} (hu : Changes m' u₀ u₁) :
    ChangesOut m' u₀ (execLogMark value u₁) := by
  unfold execLogMark
  repeat' first
    | with_reducible assumption | with_reducible apply ChangesOut.next
    | with_reducible refine logMarkOp_changes _ (hm.trans (by decide)) ?_

theorem execLogSecondEnd_changes {m' : Nat} (hm : Covers m' 0x4) {u₀ u₁ : State} (hu : Changes m' u₀ u₁) :
    ChangesOut m' u₀ (execLogSecondEnd u₁) := by
  unfold execLogSecondEnd
  repeat' first
    | with_reducible assumption | (fail_if_no_progress beta_reduce) | with_reducible apply ChangesOut.next
    | with_reducible apply ChangesOut.ite
    | with_reducible refine logEntry_changes _ _ _ _ _ (hm.trans (by decide)) ?_ | with_reducible apply Changes.ite
    | (with_reducible refine Changes.foldl ?_ (fun v y hv => ?_))
    | (fail_if_no_progress (with_reducible refine Changes.put_log (hm.bit (by decide)) ?_ ?_) <;> [(first | exact id | exact fun (h0 : LogSound _) => ⟨h0.ring, h0.head, h0.seq⟩ | exact fun _ => LogSound.fresh rfl rfl rfl); skip])
    | (extract_lets +onlyGivenNames x; refine Changes.cut (a := Changes m' u₀ x) ?_ (fun hx => ?_) <;> [unfold x; clear_value x])
    | extract_lets +onlyGivenNames x | split

theorem execLogFrame_changes (hdr : FrameHdr) (body : LogBody) {m' : Nat} (hm : Covers m' 0x4c000004) {u₀ u₁ :
    State} (hu : Changes m' u₀ u₁) : ChangesOut m' u₀ (execLogFrame hdr body u₁) := by
  unfold execLogFrame
  repeat' first
    | with_reducible assumption | (fail_if_no_progress beta_reduce) | with_reducible apply ChangesOut.next
    | with_reducible apply ChangesOut.ite | with_reducible refine receive_changes _ _ (hm.trans (by decide)) ?_
    | with_reducible refine pushEntry_changes _ (hm.trans (by decide)) ?_
    | with_reducible refine sendFrame_changes _ _ (hm.trans (by decide)) ?_ | with_reducible apply Changes.ite
    | (with_reducible refine Changes.foldl ?_ (fun v y hv => ?_))
    | (extract_lets +onlyGivenNames x; refine Changes.cut (a := Changes m' u₀ x) ?_ (fun hx => ?_) <;> [unfold x; clear_value x])
    | extract_lets +onlyGivenNames x | split

theorem execKnotPointerFrame_changes (hdr : FrameHdr) (epoch slot epochC slotC : Nat) {m' : Nat} (hm : Covers m'
    0x4c000004) {u₀ u₁ : State} (hu : Changes m' u₀ u₁) : ChangesOut m' u₀ (execKnotPointerFrame hdr epoch slot
    epochC slotC u₁) := by
  unfold execKnotPointerFrame
  repeat' first
    | with_reducible assumption | with_reducible apply ChangesOut.next | with_reducible apply ChangesOut.ite
    | with_reducible refine receive_changes _ _ (hm.trans (by decide)) ?_ | with_reducible apply Changes.ite
    | (fail_if_no_progress (with_reducible refine Changes.put_log (hm.bit (by decide)) ?_ ?_) <;> [(first | exact id | exact fun (h0 : LogSound _) => ⟨h0.ring, h0.head, h0.seq⟩ | exact fun _ => LogSound.fresh rfl rfl rfl); skip])
    | (extract_lets +onlyGivenNames x; refine Changes.cut (a := Changes m' u₀ x) ?_ (fun hx => ?_) <;> [unfold x; clear_value x])
    | extract_lets +onlyGivenNames x | split

/-! ### Eflash -/

theorem busError_changes (m : Master) {m' : Nat} (hm : Covers m' 0x40000000) {u₀ u₁ : State} (hu : Changes m' u₀ u₁)
    : Changes m' u₀ (busError m u₁) := by
  unfold busError
  repeat' first
    | with_reducible assumption | with_reducible refine emit_changes _ (hm.trans (by decide)) ?_

theorem eccEffects_changes (m : Master) (w : Nat) {m' : Nat} (hm : Covers m' 0xce7defff) {u₀ u₁ : State} (hu :
    Changes m' u₀ u₁) : Changes m' u₀ (eccEffects m w u₁) := by
  unfold eccEffects
  repeat' first
    | with_reducible assumption | with_reducible refine busError_changes _ (hm.trans (by decide)) ?_
    | with_reducible refine accessFault_changes _ _ _ (hm.trans (by decide)) ?_
    | (fail_if_no_progress (with_reducible refine Changes.put_efl (hm.bit (by decide)) ?_ ?_) <;> [(first | exact id | exact fun h0 => keysUp_tins _ _ h0 | exact fun h0 => keysUp_filter _ h0); skip])
    | split

theorem stewardReads_changes (blocks : Nat → Bool) {m' : Nat} (hm : Covers m' 0xce7defff) {u₀ u₁ : State} (hu :
    Changes m' u₀ u₁) : Changes m' u₀ (stewardReads blocks u₁) := by
  unfold stewardReads
  repeat' first
    | with_reducible assumption | (fail_if_no_progress beta_reduce)
    | with_reducible refine eccEffects_changes _ _ (hm.trans (by decide)) ?_
    | (with_reducible refine Changes.foldl ?_ (fun v y hv => ?_))
    | split

theorem withOp_changes (n : Nat) {m' : Nat} (hm : Covers m' 0x400000) {u₀ u₁ : State} (hu : Changes m' u₀ u₁) :
    Changes m' u₀ (withOp n u₁) := by
  unfold withOp
  repeat' first
    | with_reducible assumption
    | (fail_if_no_progress (with_reducible refine Changes.put_efl (hm.bit (by decide)) ?_ ?_) <;> [(first | exact id | exact fun h0 => keysUp_tins _ _ h0 | exact fun h0 => keysUp_filter _ h0); skip])

theorem eflProgramOp_changes (m : Master) {m' : Nat} (hm : Covers m' 0x400000) {u₀ u₁ : State} (hu : Changes m' u₀
    u₁) : Changes m' u₀ (eflProgramOp m u₁) := by
  unfold eflProgramOp
  have h : Changes m' u₀ (withOp 1 u₁) := withOp_changes _ (hm.trans (by decide)) hu
  generalize withOp 1 u₁ = a at *
  refine Changes.ite hu ?_
  dsimp only
  refine Changes.ite ?_ (eflResult_changes _ _ (hm.trans (by decide)) h)
  exact Changes.put_efl (hm.bit (by decide)) id (eflResult_changes 0 (blockOfWord (eflTarget a).1) (hm.trans (by decide)) h)

theorem execEflProgram_changes (m : Master) {m' : Nat} (hm : Covers m' 0x400000) {u₀ u₁ : State} (hu : Changes m' u₀
    u₁) : ChangesOut m' u₀ (execEflProgram m u₁) := by
  unfold execEflProgram
  repeat' first
    | with_reducible assumption | with_reducible apply ChangesOut.next
    | with_reducible refine eflProgramOp_changes _ (hm.trans (by decide)) ?_

theorem startErase_changes (b tries : Nat) {m' : Nat} (hm : Covers m' 0xce7defff) {u₀ u₁ : State} (hu : Changes m' u₀
    u₁) : Changes m' u₀ (startErase b tries u₁) := by
  unfold startErase
  have h : Changes m' u₀ (journal 0x49 b (eraseCount b u₁) u₁) := journal_changes _ _ _ (hm.trans (by decide)) hu
  generalize journal 0x49 b (eraseCount b u₁) u₁ = a at *
  exact h.put_efl (hm.bit (by decide)) id

theorem eflEraseOp_changes (m : Master) {m' : Nat} (hm : Covers m' 0xce7defff) {u₀ u₁ : State} (hu : Changes m' u₀
    u₁) : Changes m' u₀ (eflEraseOp m u₁) := by
  unfold eflEraseOp
  have h : Changes m' u₀ (withOp 2 u₁) := withOp_changes _ (hm.trans (by decide)) hu
  generalize withOp 2 u₁ = a at *
  refine Changes.ite hu ?_
  dsimp only
  exact Changes.ite (startErase_changes _ _ (hm.trans (by decide)) h) (eflResult_changes _ _ (hm.trans (by decide)) h)

theorem execEflErase_changes (m : Master) {m' : Nat} (hm : Covers m' 0xce7defff) {u₀ u₁ : State} (hu : Changes m' u₀
    u₁) : ChangesOut m' u₀ (execEflErase m u₁) := by
  unfold execEflErase
  repeat' first
    | with_reducible assumption | with_reducible apply ChangesOut.next
    | with_reducible refine eflEraseOp_changes _ (hm.trans (by decide)) ?_

theorem suspendErase_changes (window : Bool) {m' : Nat} (hm : Covers m' 0x400000) {u₀ u₁ : State} (hu : Changes m'
    u₀ u₁) : Changes m' u₀ (suspendErase window u₁) := by
  unfold suspendErase
  repeat' first
    | with_reducible assumption | with_reducible apply Changes.ite
    | (fail_if_no_progress (with_reducible refine Changes.put_efl (hm.bit (by decide)) ?_ ?_) <;> [(first | exact id | exact fun h0 => keysUp_tins _ _ h0 | exact fun h0 => keysUp_filter _ h0); skip])
    | extract_lets +onlyGivenNames x | split

theorem resumeErase_changes {m' : Nat} (hm : Covers m' 0x400000) {u₀ u₁ : State} (hu : Changes m' u₀ u₁) : Changes
    m' u₀ (resumeErase u₁) := by
  unfold resumeErase
  repeat' first
    | with_reducible assumption | with_reducible apply Changes.ite
    | (fail_if_no_progress (with_reducible refine Changes.put_efl (hm.bit (by decide)) ?_ ?_) <;> [(first | exact id | exact fun h0 => keysUp_tins _ _ h0 | exact fun h0 => keysUp_filter _ h0); skip])
    | split

theorem eflWindow_changes {m' : Nat} (hm : Covers m' 0x400000) {u₀ u₁ : State} (hu : Changes m' u₀ u₁) : Changes m'
    u₀ (eflWindow u₁) := by
  unfold eflWindow
  repeat' first
    | with_reducible assumption | with_reducible refine suspendErase_changes _ (hm.trans (by decide)) ?_
    | with_reducible refine resumeErase_changes (hm.trans (by decide)) ?_ | with_reducible apply Changes.ite | split

theorem denied_changes (m : Master) {m' : Nat} (hm : Covers m' 0x20000000) {u₀ u₁ : State} (hu : Changes m' u₀ u₁) :
    Changes m' u₀ (denied m u₁) := by
  unfold denied
  repeat' first
    | with_reducible assumption | with_reducible apply Changes.ite
    | (fail_if_no_progress with_reducible refine Changes.put_smb (hm.bit (by decide)) ?_)
    | split

theorem eflSuspendOp_changes (m : Master) {m' : Nat} (hm : Covers m' 0x20400000) {u₀ u₁ : State} (hu : Changes m' u₀
    u₁) : Changes m' u₀ (eflSuspendOp m u₁) := by
  unfold eflSuspendOp
  repeat' first
    | with_reducible assumption | with_reducible refine suspendErase_changes _ (hm.trans (by decide)) ?_
    | with_reducible refine withOp_changes _ (hm.trans (by decide)) ?_
    | with_reducible refine denied_changes _ (hm.trans (by decide)) ?_ | with_reducible apply Changes.ite
    | split

theorem execEflSuspend_changes (m : Master) {m' : Nat} (hm : Covers m' 0x20400000) {u₀ u₁ : State} (hu : Changes m' u₀
    u₁) : ChangesOut m' u₀ (execEflSuspend m u₁) := by
  unfold execEflSuspend
  repeat' first
    | with_reducible assumption | with_reducible apply ChangesOut.next
    | with_reducible refine eflSuspendOp_changes _ (hm.trans (by decide)) ?_

theorem eflResumeOp_changes (m : Master) {m' : Nat} (hm : Covers m' 0x20400000) {u₀ u₁ : State} (hu : Changes m' u₀
    u₁) : Changes m' u₀ (eflResumeOp m u₁) := by
  unfold eflResumeOp
  repeat' first
    | with_reducible assumption | with_reducible refine resumeErase_changes (hm.trans (by decide)) ?_
    | with_reducible refine withOp_changes _ (hm.trans (by decide)) ?_
    | with_reducible refine denied_changes _ (hm.trans (by decide)) ?_ | with_reducible apply Changes.ite
    | split

theorem execEflResume_changes (m : Master) {m' : Nat} (hm : Covers m' 0x20400000) {u₀ u₁ : State} (hu : Changes m' u₀
    u₁) : ChangesOut m' u₀ (execEflResume m u₁) := by
  unfold execEflResume
  repeat' first
    | with_reducible assumption | with_reducible apply ChangesOut.next
    | with_reducible refine eflResumeOp_changes _ (hm.trans (by decide)) ?_

theorem jobsOver_changes {m' : Nat} (hm : Covers m' 0x600000) {u₀ u₁ : State} (hu : Changes m' u₀ u₁) : Changes m'
    u₀ (jobsOver u₁) := by
  unfold jobsOver
  repeat' first
    | with_reducible assumption
    | (fail_if_no_progress (with_reducible refine Changes.put_drf (hm.bit (by decide)) ?_ ?_) <;> [(first | exact id | exact fun _ => keysUp_nil); skip])
    | (fail_if_no_progress (with_reducible refine Changes.put_efl (hm.bit (by decide)) ?_ ?_) <;> [(first | exact id | exact fun h0 => keysUp_tins _ _ h0 | exact fun h0 => keysUp_filter _ h0); skip])
    | (fail_if_no_progress with_reducible apply Changes.parts <;> first | exact hm.skip (by decide) | exact fun _ => rfl | exact id | (first | exact id | exact fun _ => keysUp_nil) | (first | exact id | exact fun h0 => keysUp_tins _ _ h0 | exact fun h0 => keysUp_filter _ h0) | skip)
    | split

theorem jobsFail_changes {m' : Nat} (hm : Covers m' 0x600000) {u₀ u₁ : State} (hu : Changes m' u₀ u₁) : Changes m'
    u₀ (jobsFail u₁) := by
  unfold jobsFail
  repeat' first
    | with_reducible assumption | with_reducible apply Changes.ite
    | (fail_if_no_progress (with_reducible refine Changes.put_drf (hm.bit (by decide)) ?_ ?_) <;> [(first | exact id | exact fun _ => keysUp_nil); skip])
    | (fail_if_no_progress (with_reducible refine Changes.put_efl (hm.bit (by decide)) ?_ ?_) <;> [(first | exact id | exact fun h0 => keysUp_tins _ _ h0 | exact fun h0 => keysUp_filter _ h0); skip])
    | (fail_if_no_progress with_reducible apply Changes.parts <;> first | exact hm.skip (by decide) | exact fun _ => rfl | exact id | (first | exact id | exact fun _ => keysUp_nil) | (first | exact id | exact fun h0 => keysUp_tins _ _ h0 | exact fun h0 => keysUp_filter _ h0) | skip)
    | split

theorem nextFrom_changes (n : List Nat) {m' : Nat} (hm : Covers m' 0xce7defff) {u₀ u₁ : State} (hu : Changes m' u₀
    u₁) : Changes m' u₀ (nextFrom n u₁) := by
  induction n generalizing u₁ with
  | nil =>
    unfold nextFrom
    repeat' first
      | with_reducible assumption | with_reducible refine startErase_changes _ _ (hm.trans (by decide)) ?_
      | with_reducible refine jobsFail_changes (hm.trans (by decide)) ?_
      | with_reducible refine jobsOver_changes (hm.trans (by decide)) ?_ | with_reducible apply Changes.ite
      | (fail_if_no_progress (with_reducible refine Changes.put_efl (hm.bit (by decide)) ?_ ?_) <;> [(first | exact id | exact fun h0 => keysUp_tins _ _ h0 | exact fun h0 => keysUp_filter _ h0); skip])
      | split
  | cons k n ih =>
    unfold nextFrom
    repeat' first
      | with_reducible assumption | with_reducible apply ih | with_reducible refine startErase_changes _ _ (hm.trans (by decide)) ?_
      | with_reducible refine jobsFail_changes (hm.trans (by decide)) ?_
      | with_reducible refine jobsOver_changes (hm.trans (by decide)) ?_ | with_reducible apply Changes.ite
      | (fail_if_no_progress (with_reducible refine Changes.put_efl (hm.bit (by decide)) ?_ ?_) <;> [(first | exact id | exact fun h0 => keysUp_tins _ _ h0 | exact fun h0 => keysUp_filter _ h0); skip])
      | split

theorem nextJob_changes {m' : Nat} (hm : Covers m' 0xce7defff) {u₀ u₁ : State} (hu : Changes m' u₀ u₁) : Changes m'
    u₀ (nextJob u₁) := by
  unfold nextJob
  repeat' first
    | with_reducible assumption | with_reducible refine nextFrom_changes _ (hm.trans (by decide)) ?_

theorem startJobs_changes (l : List Nat) (after : EflThen) {m' : Nat} (hm : Covers m' 0xce7defff) {u₀ u₁ : State} (hu
    : Changes m' u₀ u₁) : Changes m' u₀ (startJobs l after u₁) := by
  unfold startJobs
  repeat' first
    | with_reducible assumption | with_reducible refine nextJob_changes (hm.trans (by decide)) ?_
    | (fail_if_no_progress (with_reducible refine Changes.put_efl (hm.bit (by decide)) ?_ ?_) <;> [(first | exact id | exact fun h0 => keysUp_tins _ _ h0 | exact fun h0 => keysUp_filter _ h0); skip])
    | extract_lets +onlyGivenNames x

theorem fwEraseOp_changes (m : Master) {m' : Nat} (hm : Covers m' 0xce7defff) {u₀ u₁ : State} (hu : Changes m' u₀
    u₁) : Changes m' u₀ (fwEraseOp m u₁) := by
  unfold fwEraseOp
  have h : Changes m' u₀ (withOp 5 u₁) := withOp_changes _ (hm.trans (by decide)) hu
  generalize withOp 5 u₁ = a at *
  refine Changes.ite hu ?_
  dsimp only
  split
  · exact eflResult_changes _ _ (hm.trans (by decide)) h
  · exact startJobs_changes _ _ (hm.trans (by decide)) h

theorem execFwErase_changes (m : Master) {m' : Nat} (hm : Covers m' 0xce7defff) {u₀ u₁ : State} (hu : Changes m' u₀
    u₁) : ChangesOut m' u₀ (execFwErase m u₁) := by
  unfold execFwErase
  repeat' first
    | with_reducible assumption | with_reducible apply ChangesOut.next
    | with_reducible refine fwEraseOp_changes _ (hm.trans (by decide)) ?_

theorem fwSubmitOp_changes (m : Master) {m' : Nat} (hm : Covers m' 0xce7defff) {u₀ u₁ : State} (hu : Changes m' u₀
    u₁) : Changes m' u₀ (fwSubmitOp m u₁) := by
  unfold fwSubmitOp
  have h : Changes m' u₀ (withOp 6 u₁) := withOp_changes _ (hm.trans (by decide)) hu
  generalize withOp 6 u₁ = a at *
  refine Changes.ite hu ?_
  have hr : ∀ r b, Changes m' u₀ (eflResult r b a) := fun _ _ => eflResult_changes _ _ (hm.trans (by decide)) h
  refine Changes.ite (hr _ _) (Changes.ite (hr _ _) (Changes.ite (hr _ _) ?_))
  have hs : Changes m' u₀ (stewardReads (fun b => b / 32 = inactiveSlot a) a) := stewardReads_changes _ (hm.trans (by decide)) h
  dsimp only
  generalize stewardReads (fun b => b / 32 = inactiveSlot a) a = c at *
  split
  · exact hs
  · rename_i v _
    have ht : Changes m' u₀ (commitEntry 1 [pairWord (inactiveSlot a), pairWord v] c) := commitEntry_changes _ _ (hm.trans (by decide)) hs
    generalize commitEntry 1 [pairWord (inactiveSlot a), pairWord v] c = t at *
    exact Changes.ite (ht.put_efl (hm.bit (by decide)) id) ht

theorem execFwSubmit_changes (m : Master) {m' : Nat} (hm : Covers m' 0xce7defff) {u₀ u₁ : State} (hu : Changes m' u₀
    u₁) : ChangesOut m' u₀ (execFwSubmit m u₁) := by
  unfold execFwSubmit
  repeat' first
    | with_reducible assumption | with_reducible apply ChangesOut.next
    | with_reducible refine fwSubmitOp_changes _ (hm.trans (by decide)) ?_

theorem lockWp_changes (m : Master) {m' : Nat} (hm : Covers m' 0x20400000) {u₀ u₁ : State} (hu : Changes m' u₀ u₁) :
    Changes m' u₀ (lockWp m u₁) := by
  unfold lockWp
  repeat' first
    | with_reducible assumption | with_reducible refine denied_changes _ (hm.trans (by decide)) ?_
    | with_reducible apply Changes.ite
    | (fail_if_no_progress (with_reducible refine Changes.put_efl (hm.bit (by decide)) ?_ ?_) <;> [(first | exact id | exact fun h0 => keysUp_tins _ _ h0 | exact fun h0 => keysUp_filter _ h0); skip])
    | split

theorem execWpLock_changes (m : Master) {m' : Nat} (hm : Covers m' 0x20400000) {u₀ u₁ : State} (hu : Changes m' u₀ u₁)
    : ChangesOut m' u₀ (execWpLock m u₁) := by
  unfold execWpLock
  repeat' first
    | with_reducible assumption | with_reducible apply ChangesOut.next
    | with_reducible refine lockWp_changes _ (hm.trans (by decide)) ?_

theorem eraseFailed_changes (b : Nat) (tries : Nat) {m' : Nat} (hm : Covers m' 0xce7defff) {u₀ u₁ : State} (hu :
    Changes m' u₀ u₁) : Changes m' u₀ (eraseFailed b tries u₁) := by
  unfold eraseFailed
  repeat' first
    | with_reducible assumption | (fail_if_no_progress beta_reduce)
    | with_reducible refine startErase_changes _ _ (hm.trans (by decide)) ?_
    | with_reducible refine wearOut_changes _ (hm.trans (by decide)) ?_
    | with_reducible refine nextJob_changes (hm.trans (by decide)) ?_
    | with_reducible refine jobsFail_changes (hm.trans (by decide)) ?_ | with_reducible apply Changes.ite
    | (fail_if_no_progress (with_reducible refine Changes.put_efl (hm.bit (by decide)) ?_ ?_) <;> [(first | exact id | exact fun h0 => keysUp_tins _ _ h0 | exact fun h0 => keysUp_filter _ h0); skip])
    | (extract_lets +onlyGivenNames x; refine Changes.cut (a := Changes m' u₀ x) ?_ (fun hx => ?_) <;> [unfold x; clear_value x])
    | extract_lets +onlyGivenNames x | split

theorem completeProgram_changes (w : Nat) (d : Nat) {m' : Nat} (hm : Covers m' 0x400000) {u₀ u₁ : State} (hu :
    Changes m' u₀ u₁) : Changes m' u₀ (completeProgram w d u₁) := by
  unfold completeProgram
  repeat' first
    | with_reducible assumption | with_reducible refine programWord_changes _ _ (hm.trans (by decide)) ?_
    | (fail_if_no_progress (with_reducible refine Changes.put_efl (hm.bit (by decide)) ?_ ?_) <;> [(first | exact id | exact fun h0 => keysUp_tins _ _ h0 | exact fun h0 => keysUp_filter _ h0); skip])

theorem execEflOperationDone_changes (clean : Bool) {m' : Nat} (hm : Covers m' 0xce7defff) {u₀ u₁ : State} (hu :
    Changes m' u₀ u₁) : ChangesOut m' u₀ (execEflOperationDone clean u₁) := by
  unfold execEflOperationDone
  repeat' first
    | with_reducible assumption | (fail_if_no_progress beta_reduce) | with_reducible apply ChangesOut.next
    | with_reducible apply ChangesOut.ite
    | with_reducible refine completeProgram_changes _ _ (hm.trans (by decide)) ?_
    | with_reducible refine nextJob_changes (hm.trans (by decide)) ?_
    | with_reducible refine journal_changes _ _ _ (hm.trans (by decide)) ?_
    | with_reducible refine wipeBlock_changes _ (hm.trans (by decide)) ?_
    | with_reducible refine eraseFailed_changes _ _ (hm.trans (by decide)) ?_ | with_reducible apply Changes.ite
    | (fail_if_no_progress (with_reducible refine Changes.put_efl (hm.bit (by decide)) ?_ ?_) <;> [(first | exact id | exact fun h0 => keysUp_tins _ _ h0 | exact fun h0 => keysUp_filter _ h0); skip])
    | (extract_lets +onlyGivenNames x; refine Changes.cut (a := Changes m' u₀ x) ?_ (fun hx => ?_) <;> [unfold x; clear_value x])
    | extract_lets +onlyGivenNames x | split

theorem confirmFirmware_changes {m' : Nat} (hm : Covers m' 0x400000) {u₀ u₁ : State} (hu : Changes m' u₀
    u₁) : Changes m' u₀ (confirmFirmware u₁) := by
  unfold confirmFirmware
  split
  · exact hu
  · rename_i e _
    refine Changes.ite hu (Changes.ite (hu.put_efl (hm.bit (by decide)) id) ?_)
    have h : Changes m' u₀ (programWord (entryBase 1 e.1 e.2 + 2) confirmWord { u₁ with efl := { u₁.efl with confirmDue := false } }) :=
      programWord_changes _ _ (hm.trans (by decide)) (hu.put_efl (hm.bit (by decide)) id)
    exact h.put_efl (hm.bit (by decide)) id

theorem execFlashWriteRetry_changes {m' : Nat} (hm : Covers m' 0x400000) {u₀ u₁ : State} (hu : Changes m' u₀ u₁) :
    ChangesOut m' u₀ (execFlashWriteRetry u₁) := by
  unfold execFlashWriteRetry
  repeat' first
    | with_reducible assumption | (fail_if_no_progress beta_reduce) | with_reducible apply ChangesOut.next
    | with_reducible apply ChangesOut.ite | with_reducible refine makeWaiting_changes (hm.trans (by decide)) ?_
    | with_reducible refine confirmFirmware_changes (hm.trans (by decide)) ?_ | with_reducible apply Changes.ite
    | (extract_lets +onlyGivenNames x; refine Changes.cut (a := Changes m' u₀ x) ?_ (fun hx => ?_) <;> [unfold x; clear_value x])
    | extract_lets +onlyGivenNames x | split

theorem cutOperation_changes {m' : Nat} (hm : Covers m' 0x80400000) {u₀ u₁ : State} (hu : Changes m' u₀ u₁) :
    Changes m' u₀ (cutOperation u₁) := by
  unfold cutOperation
  repeat' first
    | with_reducible assumption | (fail_if_no_progress beta_reduce)
    | with_reducible refine nextFree_changes (hm.trans (by decide)) ?_
    | with_reducible refine storeWord_changes _ _ (hm.trans (by decide)) ?_
    | (fail_if_no_progress (with_reducible refine Changes.put_efl (hm.bit (by decide)) ?_ ?_) <;> [(first | exact id | exact fun h0 => keysUp_tins _ _ h0 | exact fun h0 => keysUp_filter _ h0); skip])
    | (extract_lets +onlyGivenNames x; refine Changes.cut (a := Changes m' u₀ x) ?_ (fun hx => ?_) <;> [unfold x; clear_value x])
    | extract_lets +onlyGivenNames x | split

theorem countIncomplete_changes {m' : Nat} (hm : Covers m' 0xce7defff) {u₀ u₁ : State} (hu : Changes m' u₀ u₁) :
    Changes m' u₀ (countIncomplete u₁) := by
  unfold countIncomplete
  repeat' first
    | with_reducible assumption | (fail_if_no_progress beta_reduce)
    | with_reducible refine journal_changes _ _ _ (hm.trans (by decide)) ?_ | with_reducible apply Changes.ite
    | (with_reducible refine Changes.foldl ?_ (fun v y hv => ?_))
    | (fail_if_no_progress (with_reducible refine Changes.put_efl (hm.bit (by decide)) ?_ ?_) <;> [(first | exact id | exact fun h0 => keysUp_tins _ _ h0 | exact fun h0 => keysUp_filter _ h0); skip])
    | (extract_lets +onlyGivenNames x; refine Changes.cut (a := Changes m' u₀ x) ?_ (fun hx => ?_) <;> [unfold x; clear_value x])
    | extract_lets +onlyGivenNames x | split

/-! ### DraftOps -/

theorem programCand_changes (w d : Nat) {m' : Nat} (hm : Covers m' 0x600000) {u₀ u₁ : State} (hu : Changes m' u₀ u₁)
    : Changes m' u₀ (programCand w d u₁) := by
  unfold programCand
  repeat' first
    | with_reducible assumption | with_reducible refine programWord_changes _ _ (hm.trans (by decide)) ?_
    | with_reducible apply Changes.ite
    | (fail_if_no_progress (with_reducible refine Changes.put_drf (hm.bit (by decide)) ?_ ?_) <;> [(first | exact id | exact fun _ => keysUp_nil); skip])
    | (extract_lets +onlyGivenNames x; refine Changes.cut (a := Changes m' u₀ x) ?_ (fun hx => ?_) <;> [unfold x; clear_value x])
    | extract_lets +onlyGivenNames x | split

theorem noteCheck_changes (e : Nat × Nat × Nat) {m' : Nat} (hm : Covers m' 0x200000) {u₀ u₁ : State} (hu : Changes
    m' u₀ u₁) : Changes m' u₀ (noteCheck e u₁) := by
  unfold noteCheck
  repeat' first
    | with_reducible assumption
    | (fail_if_no_progress (with_reducible refine Changes.put_drf (hm.bit (by decide)) ?_ ?_) <;> [(first | exact id | exact fun _ => keysUp_nil); skip])
    | extract_lets +onlyGivenNames x

theorem refuseDraft_changes (reason : Nat) {m' : Nat} (hm : Covers m' 0x200004) {u₀ u₁ : State} (hu : Changes m' u₀
    u₁) : Changes m' u₀ (refuseDraft reason u₁) := by
  unfold refuseDraft
  repeat' first
    | with_reducible assumption | with_reducible refine logEvent_changes _ _ _ (hm.trans (by decide)) ?_
    | (fail_if_no_progress (with_reducible refine Changes.put_drf (hm.bit (by decide)) ?_ ?_) <;> [(first | exact id | exact fun _ => keysUp_nil); skip])
    | (extract_lets +onlyGivenNames x; refine Changes.cut (a := Changes m' u₀ x) ?_ (fun hx => ?_) <;> [unfold x; clear_value x])
    | extract_lets +onlyGivenNames x

theorem withDrfCtl_changes (v : Nat) {m' : Nat} (hm : Covers m' 0x200000) {u₀ u₁ : State} (hu : Changes m' u₀ u₁) :
    Changes m' u₀ (withDrfCtl v u₁) := by
  unfold withDrfCtl
  repeat' first
    | with_reducible assumption
    | (fail_if_no_progress (with_reducible refine Changes.put_drf (hm.bit (by decide)) ?_ ?_) <;> [(first | exact id | exact fun _ => keysUp_nil); skip])

theorem submitCand_changes (_m : Master) {m' : Nat} (hm : Covers m' 0xce7defff) {u₀ u₁ : State} (hu : Changes m' u₀
    u₁) : Changes m' u₀ (submitCand _m u₁) := by
  unfold submitCand
  repeat' first
    | with_reducible assumption | (fail_if_no_progress beta_reduce)
    | with_reducible refine stewardReads_changes _ (hm.trans (by decide)) ?_
    | with_reducible refine withDrfCtl_changes _ (hm.trans (by decide)) ?_
    | with_reducible refine noteCheck_changes _ (hm.trans (by decide)) ?_
    | with_reducible refine programCand_changes _ _ (hm.trans (by decide)) ?_
    | with_reducible refine refuseDraft_changes _ (hm.trans (by decide)) ?_ | with_reducible apply Changes.ite
    | (extract_lets +onlyGivenNames x; refine Changes.cut (a := Changes m' u₀ x) ?_ (fun hx => ?_) <;> [unfold x; clear_value x])
    | extract_lets +onlyGivenNames x | split

theorem execSubmit_changes (_m : Master) {m' : Nat} (hm : Covers m' 0xce7defff) {u₀ u₁ : State} (hu : Changes m' u₀
    u₁) : ChangesOut m' u₀ (execSubmit _m u₁) := by
  unfold execSubmit
  repeat' first
    | with_reducible assumption | with_reducible apply ChangesOut.next
    | with_reducible refine submitCand_changes _ (hm.trans (by decide)) ?_

theorem eraseCand_changes (_m : Master) {m' : Nat} (hm : Covers m' 0xce7defff) {u₀ u₁ : State} (hu : Changes m' u₀
    u₁) : Changes m' u₀ (eraseCand _m u₁) := by
  unfold eraseCand
  have h : Changes m' u₀ (withDrfCtl 0x40000000 u₁) := withDrfCtl_changes _ (hm.trans (by decide)) hu
  generalize withDrfCtl 0x40000000 u₁ = a at *
  refine Changes.ite hu ?_
  dsimp only
  split
  · exact h.put_drf (hm.bit (by decide)) id
  · exact startJobs_changes _ _ (hm.trans (by decide)) (h.put_drf (hm.bit (by decide)) id)

theorem execEraseCand_changes (_m : Master) {m' : Nat} (hm : Covers m' 0xce7defff) {u₀ u₁ : State} (hu : Changes m' u₀
    u₁) : ChangesOut m' u₀ (execEraseCand _m u₁) := by
  unfold execEraseCand
  repeat' first
    | with_reducible assumption | with_reducible apply ChangesOut.next
    | with_reducible refine eraseCand_changes _ (hm.trans (by decide)) ?_

theorem withdrawByHost_changes (_m : Master) {m' : Nat} (hm : Covers m' 0x600000) {u₀ u₁ : State} (hu : Changes m'
    u₀ u₁) : Changes m' u₀ (withdrawByHost _m u₁) := by
  unfold withdrawByHost
  repeat' first
    | with_reducible assumption | with_reducible refine programCand_changes _ _ (hm.trans (by decide)) ?_
    | with_reducible refine withDrfCtl_changes _ (hm.trans (by decide)) ?_ | with_reducible apply Changes.ite
    | split

theorem execWithdraw_changes (_m : Master) {m' : Nat} (hm : Covers m' 0x600000) {u₀ u₁ : State} (hu : Changes m' u₀
    u₁) : ChangesOut m' u₀ (execWithdraw _m u₁) := by
  unfold execWithdraw
  repeat' first
    | with_reducible assumption | with_reducible apply ChangesOut.next
    | with_reducible refine withdrawByHost_changes _ (hm.trans (by decide)) ?_

theorem activateByHost_changes (_m : Master) {m' : Nat} (hm : Covers m' 0xce380c3d) {u₀ u₁ : State} (hu : Changes m'
    u₀ u₁) : Changes m' u₀ (activateByHost _m u₁) := by
  unfold activateByHost
  repeat' first
    | with_reducible assumption | with_reducible refine requestWarm_changes _ _ (hm.trans (by decide)) ?_
    | with_reducible refine withDrfCtl_changes _ (hm.trans (by decide)) ?_ | with_reducible apply Changes.ite
    | split

theorem execActivate_changes (_m : Master) {m' : Nat} (hm : Covers m' 0xce380c3d) {u₀ u₁ : State} (hu : Changes m'
    u₀ u₁) : ChangesOut m' u₀ (execActivate _m u₁) := by
  unfold execActivate
  repeat' first
    | with_reducible assumption | with_reducible apply ChangesOut.next
    | with_reducible refine activateByHost_changes _ (hm.trans (by decide)) ?_

theorem candData_changes (_m : Master) (data : DWord) {m' : Nat} (hm : Covers m' 0x600000) {u₀ u₁ : State} (hu :
    Changes m' u₀ u₁) : Changes m' u₀ (candData _m data u₁) := by
  unfold candData
  repeat' first
    | with_reducible assumption | with_reducible refine programCand_changes _ _ (hm.trans (by decide)) ?_
    | with_reducible apply Changes.ite
    | (fail_if_no_progress (with_reducible refine Changes.put_drf (hm.bit (by decide)) ?_ ?_) <;> [(first | exact id | exact fun _ => keysUp_nil); skip])
    | (extract_lets +onlyGivenNames x; refine Changes.cut (a := Changes m' u₀ x) ?_ (fun hx => ?_) <;> [unfold x; clear_value x])
    | extract_lets +onlyGivenNames x | split

theorem execDrfCandDataWrite_changes (_m : Master) (data : DWord) {m' : Nat} (hm : Covers m' 0x600000) {u₀ u₁ :
    State} (hu : Changes m' u₀ u₁) : ChangesOut m' u₀ (execDrfCandDataWrite _m data u₁) := by
  unfold execDrfCandDataWrite
  repeat' first
    | with_reducible assumption | with_reducible apply ChangesOut.next
    | with_reducible refine candData_changes _ _ (hm.trans (by decide)) ?_

theorem startStream_changes {m' : Nat} (hm : Covers m' 0x4c200000) {u₀ u₁ : State} (hu : Changes m' u₀ u₁) : Changes
    m' u₀ (startStream u₁) := by
  unfold startStream
  repeat' first
    | with_reducible assumption | (fail_if_no_progress beta_reduce)
    | (with_reducible refine setHdl_changes _ _ (hm.trans (by decide)) (fun h hh => by (first | exact ⟨hh.unacked, hh.txSeq, hh.rxSeq⟩ | exact LinkSound.fresh rfl rfl rfl | exact ⟨by simpa using hh.unacked, hh.txSeq, hh.rxSeq⟩ | exact ⟨hh.unacked, hh.txSeq, Nat.mod_lt _ (by decide)⟩ | exact ⟨Nat.le_trans (ackFrames_length _ _) hh.unacked, hh.txSeq, hh.rxSeq⟩)) ?_)
    | with_reducible refine sendFrame_changes _ _ (hm.trans (by decide)) ?_
    | (with_reducible refine Changes.foldl ?_ (fun v y hv => ?_))
    | (fail_if_no_progress (with_reducible refine Changes.put_drf (hm.bit (by decide)) ?_ ?_) <;> [(first | exact id | exact fun _ => keysUp_nil); skip])
    | (extract_lets +onlyGivenNames x; refine Changes.cut (a := Changes m' u₀ x) ?_ (fun hx => ?_) <;> [unfold x; clear_value x])
    | extract_lets +onlyGivenNames x | split

theorem resendSection_changes (type : Nat) (d : Draft) {m' : Nat} (hm : Covers m' 0x4c000000) {u₀ u₁ : State} (hu :
    Changes m' u₀ u₁) : Changes m' u₀ (resendSection type d u₁) := by
  unfold resendSection
  repeat' first
    | with_reducible assumption | (fail_if_no_progress beta_reduce)
    | with_reducible refine sendFrame_changes _ _ (hm.trans (by decide)) ?_
    | (with_reducible refine Changes.foldl ?_ (fun v y hv => ?_)) | split

theorem sectionReplies_changes (offset : Nat) (n : Nat) {m' : Nat} (hm : Covers m' 0x4c000000) {u₀ u₁ : State} (hu :
    Changes m' u₀ u₁) : Changes m' u₀ (sectionReplies offset n u₁) := by
  unfold sectionReplies
  repeat' first
    | with_reducible assumption | (fail_if_no_progress beta_reduce)
    | with_reducible refine sendFrame_changes _ _ (hm.trans (by decide)) ?_
    | (with_reducible refine Changes.foldl ?_ (fun v y hv => ?_))
    | split

theorem execDraftFrame_changes (hdr : FrameHdr) (offset : Nat) (bytes : List Byte) {m' : Nat} (hm : Covers m'
    0x4c200000) {u₀ u₁ : State} (hu : Changes m' u₀ u₁) : ChangesOut m' u₀ (execDraftFrame hdr offset bytes u₁) :=
    by
  unfold execDraftFrame
  repeat' first
    | with_reducible assumption | (fail_if_no_progress beta_reduce) | with_reducible apply ChangesOut.next
    | with_reducible apply ChangesOut.ite | with_reducible refine receive_changes _ _ (hm.trans (by decide)) ?_
    | with_reducible refine sectionReplies_changes _ _ (hm.trans (by decide)) ?_ | with_reducible apply Changes.ite
    | (with_reducible refine Changes.foldl ?_ (fun v y hv => ?_))
    | (fail_if_no_progress (with_reducible refine Changes.put_drf (hm.bit (by decide)) ?_ ?_) <;> [(first | exact fun h0 => keysUp_foldl _ _ h0 (fun _ _ h => keysUp_tput _ _ _ h) | exact id | exact fun _ => keysUp_nil); skip])
    | (extract_lets +onlyGivenNames x; refine Changes.cut (a := Changes m' u₀ x) ?_ (fun hx => ?_) <;> [unfold x; clear_value x])
    | extract_lets +onlyGivenNames x | split

theorem streamConfirmed_changes (d : Draft) {m' : Nat} (hm : Covers m' 0x200001) {u₀ u₁ : State} (hu : Changes m' u₀
    u₁) : Changes m' u₀ (streamConfirmed d u₁) := by
  unfold streamConfirmed
  repeat' first
    | with_reducible assumption
    | (fail_if_no_progress (with_reducible refine Changes.put_cache (hm.bit (by decide)) ?_ ?_) <;> [(first | exact id | (intro h0; constructor <;> first | exact h0.channels | exact h0.poison | exact h0.map | exact h0.caps | rfl | exact tableOk_tput _ _ _ _ none h0.poison (by simp) | exact keysUp_tput _ _ _ h0.map | exact keysUp_tput _ _ _ h0.caps | simpa [modAt] using h0.channels)); skip])
    | (fail_if_no_progress (with_reducible refine Changes.put_drf (hm.bit (by decide)) ?_ ?_) <;> [(first | exact id | exact fun _ => keysUp_nil); skip])
    | (fail_if_no_progress with_reducible apply Changes.parts <;> first | exact hm.skip (by decide) | exact fun _ => rfl | exact id | (first | exact id | (intro h0; constructor <;> first | exact h0.channels | exact h0.poison | exact h0.map | exact h0.caps | rfl | exact tableOk_tput _ _ _ _ none h0.poison (by simp) | exact keysUp_tput _ _ _ h0.map | exact keysUp_tput _ _ _ h0.caps | simpa [modAt] using h0.channels)) | (first | exact id | exact fun _ => keysUp_nil) | skip)

theorem streamFailed_changes {m' : Nat} (hm : Covers m' 0xce3defff) {u₀ u₁ : State} (hu : Changes m' u₀ u₁) :
    Changes m' u₀ (streamFailed u₁) := by
  unfold streamFailed
  repeat' first
    | with_reducible assumption | with_reducible refine pcFault_changes _ _ (hm.trans (by decide)) ?_
    | with_reducible refine drivePair_changes _ _ (hm.trans (by decide)) ?_
    | (fail_if_no_progress (with_reducible refine Changes.put_drf (hm.bit (by decide)) ?_ ?_) <;> [(first | exact id | exact fun _ => keysUp_nil); skip])

theorem execDraftCrcReply_changes (hdr : FrameHdr) (sect : Nat) (crc : Word) {m' : Nat} (hm : Covers m' 0xce3defff)
    {u₀ u₁ : State} (hu : Changes m' u₀ u₁) : ChangesOut m' u₀ (execDraftCrcReply hdr sect crc u₁) := by
  unfold execDraftCrcReply
  repeat' first
    | with_reducible assumption | (fail_if_no_progress beta_reduce) | with_reducible apply ChangesOut.next
    | with_reducible apply ChangesOut.ite | with_reducible refine receive_changes _ _ (hm.trans (by decide)) ?_
    | with_reducible refine pcCond_changes _ _ (hm.trans (by decide)) ?_
    | with_reducible refine streamConfirmed_changes _ (hm.trans (by decide)) ?_
    | with_reducible refine resendSection_changes _ _ (hm.trans (by decide)) ?_
    | with_reducible refine streamFailed_changes (hm.trans (by decide)) ?_ | with_reducible apply Changes.ite
    | (fail_if_no_progress (with_reducible refine Changes.put_drf (hm.bit (by decide)) ?_ ?_) <;> [(first | exact id | exact fun _ => keysUp_nil); skip])
    | (extract_lets +onlyGivenNames x; refine Changes.cut (a := Changes m' u₀ x) ?_ (fun hx => ?_) <;> [unfold x; clear_value x])
    | extract_lets +onlyGivenNames x | split

theorem execDraftStreamRetry_changes {m' : Nat} (hm : Covers m' 0x4c200000) {u₀ u₁ : State} (hu : Changes m' u₀ u₁)
    : ChangesOut m' u₀ (execDraftStreamRetry u₁) := by
  unfold execDraftStreamRetry
  repeat' first
    | with_reducible assumption | with_reducible apply ChangesOut.next | with_reducible apply ChangesOut.ite
    | with_reducible refine startStream_changes (hm.trans (by decide)) ?_ | with_reducible apply Changes.ite | split

theorem restructure_changes {m' : Nat} (hm : Covers m' 0x8) {u₀ u₁ : State} (hu : Changes m' u₀ u₁) : Changes m' u₀
    (restructure u₁) := by
  unfold restructure
  repeat' first
    | with_reducible assumption | (fail_if_no_progress beta_reduce) | with_reducible apply Changes.ite
    | (fail_if_no_progress (with_reducible refine Changes.put_nand (hm.bit (by decide)) ?_ ?_) <;> [(first | exact id | (intro h0; constructor <;> first | exact h0.channels | exact h0.targets | exact h0.blocks | exact keysUp_tmod _ _ _ h0.channels | exact keysUp_tmod _ _ _ h0.targets | exact keysUp_tmod _ _ _ h0.blocks | exact keysUp_tins _ _ h0.blocks | exact keysUp_filter _ h0.targets | exact keysUp_map _ h0.channels (fun _ => rfl) | exact keysUp_map _ h0.targets (fun _ => rfl) | exact keysUp_map _ h0.blocks (fun e => by try beta_reduce; (try split) <;> rfl))); skip])
    | split

theorem activateCand_changes (d : Draft) {m' : Nat} (hm : Covers m' 0xce7defff) {u₀ u₁ : State} (hu : Changes m' u₀
    u₁) : Changes m' u₀ (activateCand d u₁) := by
  unfold activateCand
  repeat' first
    | with_reducible assumption | (fail_if_no_progress beta_reduce)
    | with_reducible refine commitEntry_changes _ _ (hm.trans (by decide)) ?_
    | with_reducible refine logEvent_changes _ _ _ (hm.trans (by decide)) ?_
    | with_reducible refine stewardWrite_changes _ (hm.trans (by decide)) ?_
    | with_reducible refine restructure_changes (hm.trans (by decide)) ?_
    | with_reducible refine ddrLost_changes (hm.trans (by decide)) ?_ | with_reducible apply Changes.ite
    | (fail_if_no_progress with_reducible refine Changes.put_stg (hm.bit (by decide)) ?_)
    | (fail_if_no_progress with_reducible refine Changes.put_warm (hm.bit (by decide)) ?_)
    | (fail_if_no_progress (with_reducible refine Changes.put_drf (hm.bit (by decide)) ?_ ?_) <;> [(first | exact id | exact fun _ => keysUp_nil); skip])
    | (fail_if_no_progress with_reducible apply Changes.parts <;> first | exact hm.skip (by decide) | exact fun _ => rfl | exact id | (first | exact id | exact fun _ => keysUp_nil) | skip)
    | (extract_lets +onlyGivenNames x; refine Changes.cut (a := Changes m' u₀ x) ?_ (fun hx => ?_) <;> [unfold x; clear_value x])
    | extract_lets +onlyGivenNames x | split

theorem withdrawCand_changes (reason : Nat) (check : Nat × Nat × Nat) {m' : Nat} (hm : Covers m' 0x600004) {u₀ u₁ :
    State} (hu : Changes m' u₀ u₁) : Changes m' u₀ (withdrawCand reason check u₁) := by
  unfold withdrawCand
  repeat' first
    | with_reducible assumption | (fail_if_no_progress beta_reduce)
    | with_reducible refine refuseDraft_changes _ (hm.trans (by decide)) ?_
    | with_reducible refine noteCheck_changes _ (hm.trans (by decide)) ?_
    | with_reducible refine programWord_changes _ _ (hm.trans (by decide)) ?_ | with_reducible apply Changes.ite
    | (extract_lets +onlyGivenNames x; refine Changes.cut (a := Changes m' u₀ x) ?_ (fun hx => ?_) <;> [unfold x; clear_value x])
    | extract_lets +onlyGivenNames x | split

theorem considerCand_changes (cold : Bool) {m' : Nat} (hm : Covers m' 0xce7defff) {u₀ u₁ : State} (hu : Changes m'
    u₀ u₁) : Changes m' u₀ (considerCand cold u₁) := by
  unfold considerCand
  repeat' first
    | with_reducible assumption | with_reducible refine withdrawCand_changes _ _ (hm.trans (by decide)) ?_
    | with_reducible refine activateCand_changes _ (hm.trans (by decide)) ?_ | with_reducible apply Changes.ite
    | (fail_if_no_progress (with_reducible refine Changes.put_drf (hm.bit (by decide)) ?_ ?_) <;> [(first | exact id | exact fun _ => keysUp_nil); skip])
    | split

theorem chooseDraft_changes {m' : Nat} (hm : Covers m' 0x200000) {u₀ u₁ : State} (hu : Changes m' u₀ u₁) : Changes
    m' u₀ (chooseDraft u₁) := by
  unfold chooseDraft
  repeat' first
    | with_reducible assumption | (fail_if_no_progress beta_reduce)
    | with_reducible refine noteCheck_changes _ (hm.trans (by decide)) ?_ | with_reducible apply Changes.ite
    | (fail_if_no_progress (with_reducible refine Changes.put_drf (hm.bit (by decide)) ?_ ?_) <;> [(first | exact id | exact fun _ => keysUp_nil); skip])
    | (extract_lets +onlyGivenNames x; refine Changes.cut (a := Changes m' u₀ x) ?_ (fun hx => ?_) <;> [unfold x; clear_value x])
    | extract_lets +onlyGivenNames x | split

theorem considerAfter_changes (cold : Bool) {m' : Nat} (hm : Covers m' 0xce7defff) {u₀ u₁ : State} (hu : Changes m'
    u₀ u₁) : Changes m' u₀ (considerAfter cold u₁) := by
  unfold considerAfter
  repeat' first
    | with_reducible assumption | (fail_if_no_progress beta_reduce)
    | with_reducible refine considerCand_changes _ (hm.trans (by decide)) ?_ | with_reducible apply Changes.ite
    | (fail_if_no_progress (with_reducible refine Changes.put_drf (hm.bit (by decide)) ?_ ?_) <;> [(first | exact id | exact fun _ => keysUp_nil); skip])
    | (extract_lets +onlyGivenNames x; refine Changes.cut (a := Changes m' u₀ x) ?_ (fun hx => ?_) <;> [unfold x; clear_value x])
    | extract_lets +onlyGivenNames x | split

theorem draftAtReset_changes (cold : Bool) {m' : Nat} (hm : Covers m' 0xce7defff) {u₀ u₁ : State} (hu : Changes m'
    u₀ u₁) : Changes m' u₀ (draftAtReset cold u₁) := by
  unfold draftAtReset
  repeat' first
    | with_reducible assumption | (fail_if_no_progress beta_reduce)
    | with_reducible refine chooseDraft_changes (hm.trans (by decide)) ?_
    | with_reducible refine considerAfter_changes _ (hm.trans (by decide)) ?_ | with_reducible apply Changes.ite
    | (extract_lets +onlyGivenNames x; refine Changes.cut (a := Changes m' u₀ x) ?_ (fun hx => ?_) <;> [unfold x; clear_value x])
    | extract_lets +onlyGivenNames x | split

end Sys2Proof.Machine
end

