-- ==== Sys2Proof/Laws/ChangesThermal.lean ====
section
/-! SUPPORT. The frames of thermal control, monitors, heddle link and life cycle. -/

set_option linter.all false
set_option linter.unusedTactic false
set_option linter.unreachableTactic false

namespace Sys2Proof.Machine

/-! ### Thermal -/

theorem modSensor_changes (n : Nat) (f : Sensor → Sensor) {m' : Nat} (hm : Covers m' 0x20000) {u₀ u₁ : State} (hu :
    Changes m' u₀ u₁) : Changes m' u₀ (modSensor n f u₁) := by
  unfold modSensor
  repeat' first
    | with_reducible assumption
    | (fail_if_no_progress (with_reducible refine Changes.put_thm (hm.bit (by decide)) ?_ ?_) <;> [(first | exact id | exact fun (h0 : ThermalSound _) => ⟨h0.zones, h0.sensors⟩ | exact fun (h0 : ThermalSound _) => ⟨h0.zones, keysUp_tmod _ _ _ h0.sensors⟩ | exact fun (h0 : ThermalSound _) => ⟨by simpa [modAt] using h0.zones, h0.sensors⟩); skip])
    | extract_lets +onlyGivenNames x

theorem modZone_changes (z : Nat) (f : Zone → Zone) {m' : Nat} (hm : Covers m' 0x20000) {u₀ u₁ : State} (hu :
    Changes m' u₀ u₁) : Changes m' u₀ (modZone z f u₁) := by
  unfold modZone
  repeat' first
    | with_reducible assumption
    | (fail_if_no_progress (with_reducible refine Changes.put_thm (hm.bit (by decide)) ?_ ?_) <;> [(first | exact id | exact fun (h0 : ThermalSound _) => ⟨h0.zones, h0.sensors⟩ | exact fun (h0 : ThermalSound _) => ⟨h0.zones, keysUp_tmod _ _ _ h0.sensors⟩ | exact fun (h0 : ThermalSound _) => ⟨by simpa [modAt] using h0.zones, h0.sensors⟩); skip])
    | extract_lets +onlyGivenNames x

theorem restartRelease_changes (n : Nat) {m' : Nat} (hm : Covers m' 0x20000) {u₀ u₁ : State} (hu : Changes m' u₀ u₁)
    : Changes m' u₀ (restartRelease n u₁) := by
  unfold restartRelease
  repeat' first
    | with_reducible assumption | (fail_if_no_progress beta_reduce)
    | with_reducible refine modZone_changes _ _ (hm.trans (by decide)) ?_
    | split

theorem declareBroken_changes (n : Nat) (cause : Nat) {m' : Nat} (hm : Covers m' 0xce3fefff) {u₀ u₁ : State} (hu :
    Changes m' u₀ u₁) : Changes m' u₀ (declareBroken n cause u₁) := by
  unfold declareBroken
  repeat' first
    | with_reducible assumption | (fail_if_no_progress beta_reduce)
    | with_reducible refine pcFault_changes _ _ (hm.trans (by decide)) ?_
    | with_reducible refine restartRelease_changes _ (hm.trans (by decide)) ?_
    | with_reducible refine modSensor_changes _ _ (hm.trans (by decide)) ?_ | with_reducible apply Changes.ite
    | split

theorem suspectCond_changes {m' : Nat} (hm : Covers m' 0xce3defff) {u₀ u₁ : State} (hu : Changes m' u₀ u₁) : Changes
    m' u₀ (suspectCond u₁) := by
  unfold suspectCond
  repeat' first
    | with_reducible assumption | (fail_if_no_progress beta_reduce)
    | with_reducible refine pcCond_changes _ _ (hm.trans (by decide)) ?_

theorem missedSample_changes (n : Nat) {m' : Nat} (hm : Covers m' 0xce3fefff) {u₀ u₁ : State} (hu : Changes m' u₀
    u₁) : Changes m' u₀ (missedSample n u₁) := by
  unfold missedSample
  repeat' first
    | with_reducible assumption | (fail_if_no_progress beta_reduce)
    | with_reducible refine modSensor_changes _ _ (hm.trans (by decide)) ?_
    | with_reducible refine declareBroken_changes _ _ (hm.trans (by decide)) ?_ | with_reducible apply Changes.ite
    | (extract_lets +onlyGivenNames x; refine Changes.cut (a := Changes m' u₀ x) ?_ (fun hx => ?_) <;> [unfold x; clear_value x])
    | extract_lets +onlyGivenNames x | split

theorem judgeSample_changes (n : Nat) (t : Int) {m' : Nat} (hm : Covers m' 0xce3fefff) {u₀ u₁ : State} (hu : Changes
    m' u₀ u₁) : Changes m' u₀ (judgeSample n t u₁) := by
  unfold judgeSample
  repeat' first
    | with_reducible assumption | (fail_if_no_progress beta_reduce)
    | with_reducible refine modSensor_changes _ _ (hm.trans (by decide)) ?_
    | with_reducible refine suspectCond_changes (hm.trans (by decide)) ?_
    | with_reducible refine declareBroken_changes _ _ (hm.trans (by decide)) ?_ | with_reducible apply Changes.ite
    | (extract_lets +onlyGivenNames x; refine Changes.cut (a := Changes m' u₀ x) ?_ (fun hx => ?_) <;> [unfold x; clear_value x])
    | extract_lets +onlyGivenNames x | split

theorem badSample_changes (n : Nat) (t : Int) {m' : Nat} (hm : Covers m' 0xce3fefff) {u₀ u₁ : State} (hu : Changes
    m' u₀ u₁) : Changes m' u₀ (badSample n t u₁) := by
  unfold badSample
  repeat' first
    | with_reducible assumption | (fail_if_no_progress beta_reduce)
    | with_reducible refine judgeSample_changes _ _ (hm.trans (by decide)) ?_
    | with_reducible refine modSensor_changes _ _ (hm.trans (by decide)) ?_
    | with_reducible refine declareBroken_changes _ _ (hm.trans (by decide)) ?_ | with_reducible apply Changes.ite
    | (extract_lets +onlyGivenNames x; refine Changes.cut (a := Changes m' u₀ x) ?_ (fun hx => ?_) <;> [unfold x; clear_value x])
    | extract_lets +onlyGivenNames x | split

theorem goodSample_changes (n : Nat) (t : Int) {m' : Nat} (hm : Covers m' 0xce3fefff) {u₀ u₁ : State} (hu : Changes
    m' u₀ u₁) : Changes m' u₀ (goodSample n t u₁) := by
  unfold goodSample
  repeat' first
    | with_reducible assumption | (fail_if_no_progress beta_reduce)
    | with_reducible refine judgeSample_changes _ _ (hm.trans (by decide)) ?_
    | with_reducible refine suspectCond_changes (hm.trans (by decide)) ?_
    | with_reducible refine modSensor_changes _ _ (hm.trans (by decide)) ?_
    | (extract_lets +onlyGivenNames x; refine Changes.cut (a := Changes m' u₀ x) ?_ (fun hx => ?_) <;> [unfold x; clear_value x])
    | extract_lets +onlyGivenNames x | split

theorem takeReading_changes (n : Nat) (t : Int) (ok : Bool) {m' : Nat} (hm : Covers m' 0xce3fefff) {u₀ u₁ : State}
    (hu : Changes m' u₀ u₁) : Changes m' u₀ (takeReading n t ok u₁) := by
  unfold takeReading
  repeat' first
    | with_reducible assumption | with_reducible refine goodSample_changes _ _ (hm.trans (by decide)) ?_
    | with_reducible refine badSample_changes _ _ (hm.trans (by decide)) ?_ | with_reducible apply Changes.ite
    | split

theorem takeSample_changes (n : Nat) (r : SensorRead) {m' : Nat} (hm : Covers m' 0xce3fefff) {u₀ u₁ : State} (hu :
    Changes m' u₀ u₁) : Changes m' u₀ (takeSample n r u₁) := by
  unfold takeSample
  repeat' first
    | with_reducible assumption | with_reducible refine missedSample_changes _ (hm.trans (by decide)) ?_
    | with_reducible refine takeReading_changes _ _ _ (hm.trans (by decide)) ?_
    | split

theorem keepZone_changes {m' : Nat} (hm : Covers m' 0x20000) {u₀ u₁ : State} (hu : Changes m' u₀ u₁) : Changes m' u₀
    (keepZone u₁) := by
  unfold keepZone
  repeat' first
    | with_reducible assumption | (fail_if_no_progress beta_reduce)
    | with_reducible refine modZone_changes _ _ (hm.trans (by decide)) ?_
    | split

theorem thermalHold_changes {m' : Nat} (hm : Covers m' 0xce3defff) {u₀ u₁ : State} (hu : Changes m' u₀ u₁) : Changes
    m' u₀ (thermalHold u₁) := by
  unfold thermalHold
  repeat' first
    | with_reducible assumption | (fail_if_no_progress beta_reduce)
    | with_reducible refine pcFault_changes _ _ (hm.trans (by decide)) ?_
    | with_reducible refine selvedgeHold_changes _ (hm.trans (by decide)) ?_ | with_reducible apply Changes.ite
    | (fail_if_no_progress with_reducible refine Changes.put_vlt (hm.bit (by decide)) ?_)
    | (fail_if_no_progress (with_reducible refine Changes.put_sel (hm.bit (by decide)) ?_ ?_) <;> [(first | exact id | exact fun _ => rfl | exact fun h0 => by simpa [modAt] using h0); skip])
    | (extract_lets +onlyGivenNames x; refine Changes.cut (a := Changes m' u₀ x) ?_ (fun hx => ?_) <;> [unfold x; clear_value x])
    | extract_lets +onlyGivenNames x | split

theorem shuttlesFollow_changes {m' : Nat} (hm : Covers m' 0x40000100) {u₀ u₁ : State} (hu : Changes m' u₀ u₁) :
    Changes m' u₀ (shuttlesFollow u₁) := by
  unfold shuttlesFollow
  repeat' first
    | with_reducible assumption | with_reducible refine demandChanged_changes (hm.trans (by decide)) ?_
    | with_reducible apply Changes.ite | split

theorem setWarn_changes (z : Nat) {m' : Nat} (hm : Covers m' 0xce3fefff) {u₀ u₁ : State} (hu : Changes m' u₀ u₁) :
    Changes m' u₀ (setWarn z u₁) := by
  unfold setWarn
  repeat' first
    | with_reducible assumption | (fail_if_no_progress beta_reduce)
    | with_reducible refine pcFault_changes _ _ (hm.trans (by decide)) ?_
    | with_reducible refine modZone_changes _ _ (hm.trans (by decide)) ?_ | with_reducible apply Changes.ite
    | extract_lets +onlyGivenNames x | split

theorem demandFollows_changes (z : Nat) {m' : Nat} (hm : Covers m' 0x40000100) {u₀ u₁ : State} (hu : Changes m' u₀
    u₁) : Changes m' u₀ (demandFollows z u₁) := by
  unfold demandFollows
  repeat' first
    | with_reducible assumption | with_reducible refine shuttlesFollow_changes (hm.trans (by decide)) ?_
    | with_reducible apply Changes.ite
    | split

theorem setThrottle_changes (z : Nat) {m' : Nat} (hm : Covers m' 0x40034100) {u₀ u₁ : State} (hu : Changes m' u₀ u₁)
    : Changes m' u₀ (setThrottle z u₁) := by
  unfold setThrottle
  repeat' first
    | with_reducible assumption | (fail_if_no_progress beta_reduce)
    | with_reducible refine demandFollows_changes _ (hm.trans (by decide)) ?_
    | with_reducible refine currentFollows_changes (hm.trans (by decide)) ?_
    | with_reducible refine modZone_changes _ _ (hm.trans (by decide)) ?_ | with_reducible apply Changes.ite
    | split

theorem tellVault_changes (z : Nat) {m' : Nat} (hm : Covers m' 0xce3fefff) {u₀ u₁ : State} (hu : Changes m' u₀ u₁) :
    Changes m' u₀ (tellVault z u₁) := by
  unfold tellVault
  repeat' first
    | with_reducible assumption | (fail_if_no_progress beta_reduce)
    | with_reducible refine pcFault_changes _ _ (hm.trans (by decide)) ?_
    | with_reducible refine modZone_changes _ _ (hm.trans (by decide)) ?_ | with_reducible apply Changes.ite
    | split

theorem setVaultFlag_changes (z : Nat) (crossed : Bool) {m' : Nat} (hm : Covers m' 0xce3fefff) {u₀ u₁ : State} (hu :
    Changes m' u₀ u₁) : Changes m' u₀ (setVaultFlag z crossed u₁) := by
  unfold setVaultFlag
  repeat' first
    | with_reducible assumption | (fail_if_no_progress beta_reduce)
    | with_reducible refine modZone_changes _ _ (hm.trans (by decide)) ?_
    | with_reducible refine thermalHold_changes (hm.trans (by decide)) ?_ | with_reducible apply Changes.ite
    | (extract_lets +onlyGivenNames x; refine Changes.cut (a := Changes m' u₀ x) ?_ (fun hx => ?_) <;> [unfold x; clear_value x])
    | extract_lets +onlyGivenNames x | split

theorem zoneFlags_changes (before : Option Int) (z : Nat) {m' : Nat} (hm : Covers m' 0xce3fefff) {u₀ u₁ : State} (hu
    : Changes m' u₀ u₁) : Changes m' u₀ (zoneFlags before z u₁) := by
  unfold zoneFlags
  repeat' first
    | with_reducible assumption | (fail_if_no_progress beta_reduce)
    | with_reducible refine setWarn_changes _ (hm.trans (by decide)) ?_
    | with_reducible refine setThrottle_changes _ (hm.trans (by decide)) ?_
    | with_reducible refine tellVault_changes _ (hm.trans (by decide)) ?_
    | with_reducible refine setVaultFlag_changes _ _ (hm.trans (by decide)) ?_ | with_reducible apply Changes.ite
    | (extract_lets +onlyGivenNames x; refine Changes.cut (a := Changes m' u₀ x) ?_ (fun hx => ?_) <;> [unfold x; clear_value x])
    | extract_lets +onlyGivenNames x | split

theorem thermFollow_changes {m' : Nat} (hm : Covers m' 0xce7defff) {u₀ u₁ : State} (hu : Changes m' u₀ u₁) : Changes
    m' u₀ (thermFollow u₁) := by
  unfold thermFollow
  repeat' first
    | with_reducible assumption | with_reducible refine currentFollows_changes (hm.trans (by decide)) ?_
    | with_reducible refine chargerCheck_changes (hm.trans (by decide)) ?_
    | with_reducible refine exerciseCheck_changes (hm.trans (by decide)) ?_
    | with_reducible refine eflWindow_changes (hm.trans (by decide)) ?_

theorem noteStore_changes (z : Nat) {m' : Nat} (hm : Covers m' 0x20000) {u₀ u₁ : State} (hu : Changes m' u₀ u₁) :
    Changes m' u₀ (noteStore z u₁) := by
  unfold noteStore
  repeat' first
    | with_reducible assumption | (fail_if_no_progress beta_reduce) | with_reducible apply Changes.ite
    | (fail_if_no_progress (with_reducible refine Changes.put_thm (hm.bit (by decide)) ?_ ?_) <;> [(first | exact id | exact fun h0 => ⟨h0.zones, keysUp_filter _ (keysUp_map _ h0.sensors (fun _ => rfl))⟩ | (intro h0; constructor <;> first | exact h0.zones | exact h0.sensors | exact keysUp_tmod _ _ _ h0.sensors | simpa [modAt] using h0.zones)); skip])
    | (extract_lets +onlyGivenNames x; refine Changes.cut (a := Changes m' u₀ x) ?_ (fun hx => ?_) <;> [unfold x; clear_value x])
    | extract_lets +onlyGivenNames x | split

theorem execSensorSample_changes (sensor : Nat) (read : SensorRead) {m' : Nat} (hm : Covers m' 0xce7fefff) {u₀ u₁ :
    State} (hu : Changes m' u₀ u₁) : ChangesOut m' u₀ (execSensorSample sensor read u₁) := by
  unfold execSensorSample
  repeat' first
    | with_reducible assumption | (fail_if_no_progress beta_reduce) | with_reducible apply ChangesOut.next
    | with_reducible apply ChangesOut.ite | with_reducible refine keepZone_changes (hm.trans (by decide)) ?_
    | with_reducible refine takeSample_changes _ _ (hm.trans (by decide)) ?_
    | with_reducible refine zoneFlags_changes _ _ (hm.trans (by decide)) ?_
    | with_reducible refine sendSamples_changes _ (hm.trans (by decide)) ?_
    | with_reducible refine startCooled_changes (hm.trans (by decide)) ?_
    | with_reducible refine thermFollow_changes (hm.trans (by decide)) ?_
    | with_reducible refine tempFollows_changes (hm.trans (by decide)) ?_
    | with_reducible refine noteStore_changes _ (hm.trans (by decide)) ?_ | with_reducible apply Changes.ite
    | (with_reducible refine Changes.foldl ?_ (fun v y hv => ?_))
    | (extract_lets +onlyGivenNames x; refine Changes.cut (a := Changes m' u₀ x) ?_ (fun hx => ?_) <;> [unfold x; clear_value x])
    | extract_lets +onlyGivenNames x | split

theorem rateCond_changes {m' : Nat} (hm : Covers m' 0xce3defff) {u₀ u₁ : State} (hu : Changes m' u₀ u₁) : Changes m'
    u₀ (rateCond u₁) := by
  unfold rateCond
  repeat' first | with_reducible assumption | with_reducible refine pcCond_changes _ _ (hm.trans (by decide)) ?_

theorem execThmHoldExpiry_changes (zone : Nat) (flag : Nat) {m' : Nat} (hm : Covers m' 0xce7fefff) {u₀ u₁ : State}
    (hu : Changes m' u₀ u₁) : ChangesOut m' u₀ (execThmHoldExpiry zone flag u₁) := by
  unfold execThmHoldExpiry
  repeat' first
    | with_reducible assumption | (fail_if_no_progress beta_reduce) | with_reducible apply ChangesOut.next
    | with_reducible apply ChangesOut.ite | with_reducible refine pcClear_changes _ (hm.trans (by decide)) ?_
    | with_reducible refine modZone_changes _ _ (hm.trans (by decide)) ?_
    | with_reducible refine thermFollow_changes (hm.trans (by decide)) ?_
    | with_reducible refine demandFollows_changes _ (hm.trans (by decide)) ?_
    | with_reducible refine rateCond_changes (hm.trans (by decide)) ?_ | with_reducible apply Changes.ite
    | split

theorem noteRates_changes {m' : Nat} (hm : Covers m' 0x20000) {u₀ u₁ : State} (hu : Changes m' u₀ u₁) :
    Changes m' u₀ (noteRates u₁) :=
  hu.put_thm (hm.bit (by decide)) (fun h => ⟨h.zones, keysUp_map _ h.sensors (fun _ => rfl)⟩)

theorem execThmRateCheck_changes {m' : Nat} (hm : Covers m' 0xce3fefff) {u₀ u₁ : State} (hu : Changes m' u₀ u₁) :
    ChangesOut m' u₀ (execThmRateCheck u₁) := by
  unfold execThmRateCheck
  repeat' first
    | with_reducible assumption | (fail_if_no_progress beta_reduce) | with_reducible apply ChangesOut.next
    | with_reducible apply ChangesOut.ite | with_reducible refine rateCond_changes (hm.trans (by decide)) ?_
    | with_reducible refine setThrottle_changes _ (hm.trans (by decide)) ?_
    | with_reducible refine modZone_changes _ _ (hm.trans (by decide)) ?_
    | with_reducible refine noteRates_changes (hm.trans (by decide)) ?_ | with_reducible apply Changes.ite
    | (with_reducible refine Changes.foldl ?_ (fun v y hv => ?_))
    | (extract_lets +onlyGivenNames x; refine Changes.cut (a := Changes m' u₀ x) ?_ (fun hx => ?_) <;> [unfold x; clear_value x])
    | extract_lets +onlyGivenNames x | split

theorem execStoreRateCheck_changes {m' : Nat} (hm : Covers m' 0xce3defff) {u₀ u₁ : State} (hu : Changes m' u₀ u₁) :
    ChangesOut m' u₀ (execStoreRateCheck u₁) := by
  unfold execStoreRateCheck
  repeat' first
    | with_reducible assumption | (fail_if_no_progress beta_reduce) | with_reducible apply ChangesOut.next
    | with_reducible apply ChangesOut.ite | with_reducible refine chargerCheck_changes (hm.trans (by decide)) ?_
    | with_reducible refine pcFault_changes _ _ (hm.trans (by decide)) ?_
    | with_reducible refine pcClear_changes _ (hm.trans (by decide)) ?_ | with_reducible apply Changes.ite
    | (fail_if_no_progress with_reducible refine Changes.put_chg (hm.bit (by decide)) ?_)
    | (extract_lets +onlyGivenNames x; refine Changes.cut (a := Changes m' u₀ x) ?_ (fun hx => ?_) <;> [unfold x; clear_value x])
    | extract_lets +onlyGivenNames x | split

theorem execSensorReturn_changes (sensor : Nat) {m' : Nat} (hm : Covers m' 0xce7fefff) {u₀ u₁ : State} (hu : Changes
    m' u₀ u₁) : ChangesOut m' u₀ (execSensorReturn sensor u₁) := by
  unfold execSensorReturn
  repeat' first
    | with_reducible assumption | (fail_if_no_progress beta_reduce) | with_reducible apply ChangesOut.next
    | with_reducible apply ChangesOut.ite | with_reducible refine modSensor_changes _ _ (hm.trans (by decide)) ?_
    | with_reducible refine pcCond_changes _ _ (hm.trans (by decide)) ?_
    | with_reducible refine zoneFlags_changes _ _ (hm.trans (by decide)) ?_
    | with_reducible refine keepZone_changes (hm.trans (by decide)) ?_
    | with_reducible refine thermFollow_changes (hm.trans (by decide)) ?_
    | with_reducible refine tempFollows_changes (hm.trans (by decide)) ?_ | with_reducible apply Changes.ite
    | (with_reducible refine Changes.foldl ?_ (fun v y hv => ?_))
    | (extract_lets +onlyGivenNames x; refine Changes.cut (a := Changes m' u₀ x) ?_ (fun hx => ?_) <;> [unfold x; clear_value x])
    | extract_lets +onlyGivenNames x | split

theorem execCompensationTick_changes {m' : Nat} (hm : Covers m' 0xce3fefff) {u₀ u₁ : State} (hu : Changes m' u₀ u₁)
    : ChangesOut m' u₀ (execCompensationTick u₁) := by
  unfold execCompensationTick
  repeat' first
    | with_reducible assumption | with_reducible apply ChangesOut.next | with_reducible apply ChangesOut.ite
    | with_reducible refine pcFault_changes _ _ (hm.trans (by decide)) ?_
    | with_reducible refine pcClear_changes _ (hm.trans (by decide)) ?_ | with_reducible apply Changes.ite
    | (fail_if_no_progress (with_reducible refine Changes.put_thm (hm.bit (by decide)) ?_ ?_) <;> [(first | exact id | exact fun (h0 : ThermalSound _) => ⟨h0.zones, h0.sensors⟩ | exact fun (h0 : ThermalSound _) => ⟨h0.zones, keysUp_tmod _ _ _ h0.sensors⟩ | exact fun (h0 : ThermalSound _) => ⟨by simpa [modAt] using h0.zones, h0.sensors⟩); skip])
    | (extract_lets +onlyGivenNames x; refine Changes.cut (a := Changes m' u₀ x) ?_ (fun hx => ?_) <;> [unfold x; clear_value x])
    | extract_lets +onlyGivenNames x | split

theorem execEngineAnalogLimit_changes (tripped : Bool) {m' : Nat} (hm : Covers m' 0x4c0c0020) {u₀ u₁ : State} (hu :
    Changes m' u₀ u₁) : ChangesOut m' u₀ (execEngineAnalogLimit tripped u₁) := by
  unfold execEngineAnalogLimit
  repeat' first
    | with_reducible assumption | (fail_if_no_progress beta_reduce) | with_reducible apply ChangesOut.next
    | with_reducible apply ChangesOut.ite | with_reducible refine engineFault_changes _ _ (hm.trans (by decide)) ?_
    | with_reducible refine drivePair_changes _ _ (hm.trans (by decide)) ?_
    | with_reducible refine engineClear_changes _ (hm.trans (by decide)) ?_ | with_reducible apply Changes.ite
    | (fail_if_no_progress (with_reducible refine Changes.put_flt (hm.bit (by decide)) ?_ ?_) <;> [(first | exact id | exact fun h0 => keysUp_tmod _ _ _ h0); skip])
    | (extract_lets +onlyGivenNames x; refine Changes.cut (a := Changes m' u₀ x) ?_ (fun hx => ?_) <;> [unfold x; clear_value x])
    | extract_lets +onlyGivenNames x | split

theorem haltPower_changes {m' : Nat} (hm : Covers m' 0x54000) {u₀ u₁ : State} (hu : Changes m' u₀ u₁) : Changes m'
    u₀ (haltPower u₁) := by
  unfold haltPower
  repeat' first
    | with_reducible assumption | with_reducible refine stopCharger_changes (hm.trans (by decide)) ?_
    | (fail_if_no_progress with_reducible refine Changes.put_cell (hm.bit (by decide)) ?_)
    | (fail_if_no_progress (with_reducible refine Changes.put_flt (hm.bit (by decide)) ?_ ?_) <;> [(first | exact id | exact keysUp_tmod _ _ _); skip])
    | (fail_if_no_progress with_reducible apply Changes.parts <;> first | exact hm.skip (by decide) | exact fun _ => rfl | exact id | exact keysUp_tmod _ _ _ | skip)
    | (extract_lets +onlyGivenNames x; refine Changes.cut (a := Changes m' u₀ x) ?_ (fun hx => ?_) <;> [unfold x; clear_value x])
    | extract_lets +onlyGivenNames x

theorem execThermalStageOne_changes {m' : Nat} (hm : Covers m' 0xce7fefff) {u₀ u₁ : State} (hu : Changes m' u₀ u₁) :
    ChangesOut m' u₀ (execThermalStageOne u₁) := by
  unfold execThermalStageOne
  repeat' first
    | with_reducible assumption | (fail_if_no_progress beta_reduce) | with_reducible apply ChangesOut.next
    | with_reducible apply ChangesOut.ite | with_reducible refine suspendErase_changes _ (hm.trans (by decide)) ?_
    | with_reducible refine completeProgram_changes _ _ (hm.trans (by decide)) ?_
    | with_reducible refine pcFault_changes _ _ (hm.trans (by decide)) ?_
    | with_reducible refine haltPower_changes (hm.trans (by decide)) ?_ | with_reducible apply Changes.ite
    | (fail_if_no_progress (with_reducible refine Changes.put_thm (hm.bit (by decide)) ?_ ?_) <;> [(first | exact id | (intro h0; constructor <;> first | exact h0.zones | exact h0.sensors | exact keysUp_tmod _ _ _ h0.sensors | simpa [modAt] using h0.zones)); skip])
    | (extract_lets +onlyGivenNames x; refine Changes.cut (a := Changes m' u₀ x) ?_ (fun hx => ?_) <;> [unfold x; clear_value x])
    | extract_lets +onlyGivenNames x | split

theorem execThermalStageTwo_changes (tripped : Bool) {m' : Nat} (hm : Covers m' 0xce7fefff) {u₀ u₁ : State} (hu :
    Changes m' u₀ u₁) : ChangesOut m' u₀ (execThermalStageTwo tripped u₁) := by
  unfold execThermalStageTwo
  repeat' first
    | with_reducible assumption | with_reducible apply ChangesOut.next | with_reducible apply ChangesOut.ite
    | with_reducible refine pcFault_changes _ _ (hm.trans (by decide)) ?_
    | with_reducible refine haltPower_changes (hm.trans (by decide)) ?_
    | with_reducible refine cutOperation_changes (hm.trans (by decide)) ?_ | with_reducible apply Changes.ite
    | (fail_if_no_progress (with_reducible refine Changes.put_thm (hm.bit (by decide)) ?_ ?_) <;> [(first | exact id | exact fun (h0 : ThermalSound _) => ⟨h0.zones, h0.sensors⟩ | exact fun (h0 : ThermalSound _) => ⟨h0.zones, keysUp_tmod _ _ _ h0.sensors⟩ | exact fun (h0 : ThermalSound _) => ⟨by simpa [modAt] using h0.zones, h0.sensors⟩); skip])
    | (extract_lets +onlyGivenNames x; refine Changes.cut (a := Changes m' u₀ x) ?_ (fun hx => ?_) <;> [unfold x; clear_value x])
    | extract_lets +onlyGivenNames x | split

theorem execThermalShutdownExit_changes {m' : Nat} (hm : Covers m' 0xce3fefff) {u₀ u₁ : State} (hu : Changes m' u₀
    u₁) : ChangesOut m' u₀ (execThermalShutdownExit u₁) := by
  unfold execThermalShutdownExit
  repeat' first
    | with_reducible assumption | with_reducible apply ChangesOut.next | with_reducible apply ChangesOut.ite
    | with_reducible refine pcClear_changes _ (hm.trans (by decide)) ?_
    | with_reducible refine leaveBelay_changes (hm.trans (by decide)) ?_
    | with_reducible refine requestWarm_changes _ _ (hm.trans (by decide)) ?_
    | with_reducible refine vaultOver_changes (hm.trans (by decide)) ?_ | with_reducible apply Changes.ite
    | (fail_if_no_progress with_reducible refine Changes.put_restore (hm.bit (by decide)) ?_)
    | (fail_if_no_progress (with_reducible refine Changes.put_thm (hm.bit (by decide)) ?_ ?_) <;> [(first | exact id | exact fun (h0 : ThermalSound _) => ⟨h0.zones, h0.sensors⟩ | exact fun (h0 : ThermalSound _) => ⟨h0.zones, keysUp_tmod _ _ _ h0.sensors⟩ | exact fun (h0 : ThermalSound _) => ⟨by simpa [modAt] using h0.zones, h0.sensors⟩); skip])
    | (fail_if_no_progress (with_reducible refine Changes.put_flt (hm.bit (by decide)) ?_ ?_) <;> [(first | exact id | exact keysUp_tmod _ _ _); skip])
    | (fail_if_no_progress with_reducible apply Changes.parts <;> first | exact hm.skip (by decide) | exact fun (h0 : ThermalSound _) => ⟨h0.zones, h0.sensors⟩ | exact fun (h0 : ThermalSound _) => ⟨h0.zones, keysUp_tmod _ _ _ h0.sensors⟩ | exact fun _ => rfl | exact id | exact fun (h0 : ThermalSound _) => ⟨by simpa [modAt] using h0.zones, h0.sensors⟩ | exact keysUp_tmod _ _ _ | skip)
    | (extract_lets +onlyGivenNames x; refine Changes.cut (a := Changes m' u₀ x) ?_ (fun hx => ?_) <;> [unfold x; clear_value x])
    | extract_lets +onlyGivenNames x | split

/-! ### Monitors -/

theorem measureCopy_changes {m' : Nat} (hm : Covers m' 0x1000000) {u₀ u₁ : State} (hu : Changes m' u₀ u₁) : Changes
    m' u₀ (measureCopy u₁) := by
  unfold measureCopy
  repeat' first
    | with_reducible assumption
    | (fail_if_no_progress (with_reducible refine Changes.put_tbs (hm.bit (by decide)) ?_ ?_) <;> [(exact id); skip])

theorem loadTime_changes {m' : Nat} (hm : Covers m' 0x81000000) {u₀ u₁ : State} (hu : Changes m' u₀ u₁) : Changes m'
    u₀ (loadTime u₁) := by
  unfold loadTime
  repeat' first
    | with_reducible assumption | with_reducible refine measureCopy_changes (hm.trans (by decide)) ?_
    | with_reducible refine nextFree_changes (hm.trans (by decide)) ?_
    | (fail_if_no_progress (with_reducible refine Changes.put_tbs (hm.bit (by decide)) ?_ ?_) <;> [(exact id); skip])

theorem meetMaster_changes {m' : Nat} (hm : Covers m' 0x81000000) {u₀ u₁ : State} (hu : Changes m' u₀ u₁) : Changes
    m' u₀ (meetMaster u₁) := by
  unfold meetMaster
  repeat' first
    | with_reducible assumption | with_reducible refine measureCopy_changes (hm.trans (by decide)) ?_
    | with_reducible refine loadTime_changes (hm.trans (by decide)) ?_ | with_reducible apply Changes.ite
    | split

theorem copyRuns_changes {m' : Nat} (hm : Covers m' 0x81000000) {u₀ u₁ : State} (hu : Changes m' u₀ u₁) : Changes m'
    u₀ (copyRuns u₁) := by
  unfold copyRuns
  repeat' first
    | with_reducible assumption | (fail_if_no_progress beta_reduce)
    | with_reducible refine nextFree_changes (hm.trans (by decide)) ?_ | with_reducible apply Changes.ite
    | (fail_if_no_progress (with_reducible refine Changes.put_tbs (hm.bit (by decide)) ?_ ?_) <;> [(exact id); skip])
    | (extract_lets +onlyGivenNames x; refine Changes.cut (a := Changes m' u₀ x) ?_ (fun hx => ?_) <;> [unfold x; clear_value x])
    | extract_lets +onlyGivenNames x | split

theorem execTimeFrame_changes (hdr : FrameHdr) (from' : End) (correction : Int) {m' : Nat} (hm : Covers m'
    0xcd000000) {u₀ u₁ : State} (hu : Changes m' u₀ u₁) : ChangesOut m' u₀ (execTimeFrame hdr from' correction u₁)
    := by
  unfold execTimeFrame
  repeat' first
    | with_reducible assumption | (fail_if_no_progress beta_reduce) | with_reducible apply ChangesOut.next
    | with_reducible apply ChangesOut.ite | with_reducible refine receive_changes _ _ (hm.trans (by decide)) ?_
    | with_reducible refine meetMaster_changes (hm.trans (by decide)) ?_ | with_reducible apply Changes.ite
    | (fail_if_no_progress (with_reducible refine Changes.put_tbs (hm.bit (by decide)) ?_ ?_) <;> [(exact id); skip])
    | (extract_lets +onlyGivenNames x; refine Changes.cut (a := Changes m' u₀ x) ?_ (fun hx => ?_) <;> [unfold x; clear_value x])
    | extract_lets +onlyGivenNames x | split

theorem execRefclkLoss_changes (present : Bool) {m' : Nat} (hm : Covers m' 0xcf3defff) {u₀ u₁ : State} (hu : Changes
    m' u₀ u₁) : ChangesOut m' u₀ (execRefclkLoss present u₁) := by
  unfold execRefclkLoss
  repeat' first
    | with_reducible assumption | (fail_if_no_progress beta_reduce) | with_reducible apply ChangesOut.next
    | with_reducible apply ChangesOut.ite | with_reducible refine pcFault_changes _ _ (hm.trans (by decide)) ?_
    | with_reducible apply Changes.ite
    | (fail_if_no_progress (with_reducible refine Changes.put_tbs (hm.bit (by decide)) ?_ ?_) <;> [(exact id); skip])
    | (extract_lets +onlyGivenNames x; refine Changes.cut (a := Changes m' u₀ x) ?_ (fun hx => ?_) <;> [unfold x; clear_value x])
    | extract_lets +onlyGivenNames x | split

theorem execRefclkReturn_changes {m' : Nat} (hm : Covers m' 0xcf3defff) {u₀ u₁ : State} (hu : Changes m' u₀ u₁) :
    ChangesOut m' u₀ (execRefclkReturn u₁) := by
  unfold execRefclkReturn
  repeat' first
    | with_reducible assumption | with_reducible apply ChangesOut.next | with_reducible apply ChangesOut.ite
    | with_reducible refine pcClear_changes _ (hm.trans (by decide)) ?_ | with_reducible apply Changes.ite
    | (fail_if_no_progress (with_reducible refine Changes.put_tbs (hm.bit (by decide)) ?_ ?_) <;> [(exact id); skip])
    | split

theorem execMonitorFrame_changes (hdr : FrameHdr) (samples : List MonSample) {m' : Nat} (hm : Covers m' 0x4e000000)
    {u₀ u₁ : State} (hu : Changes m' u₀ u₁) : ChangesOut m' u₀ (execMonitorFrame hdr samples u₁) := by
  unfold execMonitorFrame
  repeat' first
    | with_reducible assumption | (fail_if_no_progress beta_reduce) | with_reducible apply ChangesOut.next
    | with_reducible apply ChangesOut.ite | with_reducible refine receive_changes _ _ (hm.trans (by decide)) ?_
    | with_reducible refine sample_changes _ _ _ (hm.trans (by decide)) ?_ | with_reducible apply Changes.ite
    | (with_reducible refine Changes.foldl ?_ (fun v y hv => ?_))
    | (extract_lets +onlyGivenNames x; refine Changes.cut (a := Changes m' u₀ x) ?_ (fun hx => ?_) <;> [unfold x; clear_value x])
    | extract_lets +onlyGivenNames x | split

theorem writeMonCfg_changes (m value : Nat) {m' : Nat} (hm : Covers m' 0x2000000) {u₀ u₁ : State} (hu : Changes m'
    u₀ u₁) : Changes m' u₀ (writeMonCfg m value u₁) := by
  unfold writeMonCfg
  repeat' first
    | with_reducible assumption
    | (fail_if_no_progress (with_reducible refine Changes.put_mon (hm.bit (by decide)) ?_ ?_) <;> [(first | exact id | exact fun _ => keysUp_nil | exact keysUp_tmod _ _ _ | exact keysUp_tput _ _ _ | exact fun h0 => keysUp_filter _ h0 | exact fun h0 => keysUp_map _ h0 (fun e => by try beta_reduce; (try split) <;> rfl)); skip])
    | extract_lets +onlyGivenNames x

theorem execMonCfgWrite_changes (_m : Master) (monitor : Nat) (value : Word) {m' : Nat} (hm : Covers m' 0x2000000)
    {u₀ u₁ : State} (hu : Changes m' u₀ u₁) : ChangesOut m' u₀ (execMonCfgWrite _m monitor value u₁) := by
  unfold execMonCfgWrite
  repeat' first
    | with_reducible assumption | with_reducible apply ChangesOut.next | with_reducible apply ChangesOut.ite
    | with_reducible refine writeMonCfg_changes _ _ (hm.trans (by decide)) ?_ | with_reducible apply Changes.ite
    | split

theorem clearMonitors_changes {m' : Nat} (hm : Covers m' 0x2000000) {u₀ u₁ : State} (hu : Changes m' u₀ u₁) :
    Changes m' u₀ (clearMonitors u₁) := by
  unfold clearMonitors
  repeat' first
    | with_reducible assumption | (fail_if_no_progress beta_reduce) | with_reducible apply Changes.ite
    | (fail_if_no_progress (with_reducible refine Changes.put_mon (hm.bit (by decide)) ?_ ?_) <;> [(first | exact fun h0 => keysUp_filterMap _ h0 (by intro e x hx; simp only [Option.ite_none_left_eq_some, Option.ite_none_right_eq_some, Option.some.injEq] at hx; obtain ⟨_, rfl⟩ := hx; rfl) | exact id | exact fun _ => keysUp_nil | exact keysUp_tmod _ _ _ | exact keysUp_tput _ _ _ | exact fun h0 => keysUp_filter _ h0 | exact fun h0 => keysUp_map _ h0 (fun e => by try beta_reduce; (try split) <;> rfl)); skip])
    | extract_lets +onlyGivenNames x | split

theorem execMonClearAll_changes (_m : Master) {m' : Nat} (hm : Covers m' 0x2000000) {u₀ u₁ : State} (hu : Changes m'
    u₀ u₁) : ChangesOut m' u₀ (execMonClearAll _m u₁) := by
  unfold execMonClearAll
  repeat' first
    | with_reducible assumption | with_reducible apply ChangesOut.next | with_reducible apply ChangesOut.ite
    | with_reducible refine clearMonitors_changes (hm.trans (by decide)) ?_ | with_reducible apply Changes.ite
    | split

theorem execMonFreeze_changes (_m : Master) (freeze : Bool) {m' : Nat} (hm : Covers m' 0x2000000) {u₀ u₁ : State}
    (hu : Changes m' u₀ u₁) : ChangesOut m' u₀ (execMonFreeze _m freeze u₁) := by
  unfold execMonFreeze
  repeat' first
    | with_reducible assumption | with_reducible apply ChangesOut.next | with_reducible apply ChangesOut.ite
    | with_reducible apply Changes.ite
    | (fail_if_no_progress (with_reducible refine Changes.put_mon (hm.bit (by decide)) ?_ ?_) <;> [(first | exact id | exact fun _ => keysUp_nil | exact keysUp_tmod _ _ _ | exact keysUp_tput _ _ _ | exact fun h0 => keysUp_filter _ h0 | exact fun h0 => keysUp_map _ h0 (fun e => by try beta_reduce; (try split) <;> rfl)); skip])
    | extract_lets +onlyGivenNames x | split

/-! ### Heddle -/

theorem execHeddleControlFrame_changes (at' : End) (hdr : FrameHdr) {m' : Nat} (hm : Covers m' 0x4c000000) {u₀ u₁ :
    State} (hu : Changes m' u₀ u₁) : ChangesOut m' u₀ (execHeddleControlFrame at' hdr u₁) := by
  unfold execHeddleControlFrame
  repeat' first
    | with_reducible assumption | (fail_if_no_progress beta_reduce) | with_reducible apply ChangesOut.next
    | with_reducible apply ChangesOut.ite | with_reducible refine takeAck_changes _ _ (hm.trans (by decide)) ?_
    | with_reducible refine sendControl_changes _ _ (hm.trans (by decide)) ?_
    | (with_reducible refine setHdl_changes _ _ (hm.trans (by decide)) (fun h hh => by (first | exact ⟨hh.unacked, hh.txSeq, hh.rxSeq⟩ | exact LinkSound.fresh rfl rfl rfl | exact ⟨by simpa using hh.unacked, hh.txSeq, hh.rxSeq⟩ | exact ⟨hh.unacked, hh.txSeq, Nat.mod_lt _ (by decide)⟩ | exact ⟨Nat.le_trans (ackFrames_length _ _) hh.unacked, hh.txSeq, hh.rxSeq⟩)) ?_)
    | with_reducible apply Changes.ite | extract_lets +onlyGivenNames x | split

theorem countUnreached_changes (e : End) (n : Nat) (port : Bool) {m' : Nat} (hm : Covers m' 0x2c000000) {u₀ u₁ :
    State} (hu : Changes m' u₀ u₁) : Changes m' u₀ (countUnreached e n port u₁) := by
  unfold countUnreached
  repeat' first
    | with_reducible assumption | (fail_if_no_progress beta_reduce)
    | (with_reducible refine setHdl_changes _ _ (hm.trans (by decide)) (fun h hh => by (first | exact ⟨hh.unacked, hh.txSeq, hh.rxSeq⟩ | exact LinkSound.fresh rfl rfl rfl | exact ⟨by simpa using hh.unacked, hh.txSeq, hh.rxSeq⟩ | exact ⟨hh.unacked, hh.txSeq, Nat.mod_lt _ (by decide)⟩ | exact ⟨Nat.le_trans (ackFrames_length _ _) hh.unacked, hh.txSeq, hh.rxSeq⟩)) ?_)
    | with_reducible apply Changes.ite
    | (fail_if_no_progress with_reducible refine Changes.put_smb (hm.bit (by decide)) ?_)
    | (extract_lets +onlyGivenNames x; refine Changes.cut (a := Changes m' u₀ x) ?_ (fun hx => ?_) <;> [unfold x; clear_value x])
    | extract_lets +onlyGivenNames x | split

theorem loseFrames_changes (e : End) {m' : Nat} (hm : Covers m' 0x2e000000) {u₀ u₁ : State} (hu : Changes m' u₀ u₁)
    : Changes m' u₀ (loseFrames e u₁) := by
  unfold loseFrames
  repeat' first
    | with_reducible assumption | (fail_if_no_progress beta_reduce)
    | (with_reducible refine setHdl_changes _ _ (hm.trans (by decide)) (fun h hh => by (first | exact ⟨hh.unacked, hh.txSeq, hh.rxSeq⟩ | exact LinkSound.fresh rfl rfl rfl | exact ⟨by simpa using hh.unacked, hh.txSeq, hh.rxSeq⟩ | exact ⟨hh.unacked, hh.txSeq, Nat.mod_lt _ (by decide)⟩ | exact ⟨Nat.le_trans (ackFrames_length _ _) hh.unacked, hh.txSeq, hh.rxSeq⟩)) ?_)
    | with_reducible refine gapMonitors_changes (hm.trans (by decide)) ?_
    | with_reducible refine countUnreached_changes _ _ _ (hm.trans (by decide)) ?_
    | (extract_lets +onlyGivenNames x; refine Changes.cut (a := Changes m' u₀ x) ?_ (fun hx => ?_) <;> [unfold x; clear_value x])
    | extract_lets +onlyGivenNames x | split

theorem endDown_changes (e : End) {m' : Nat} (hm : Covers m' 0xee3defff) {u₀ u₁ : State} (hu : Changes m' u₀ u₁) :
    Changes m' u₀ (endDown e u₁) := by
  unfold endDown
  repeat' first
    | with_reducible assumption | (fail_if_no_progress beta_reduce)
    | (with_reducible refine setHdl_changes _ _ (hm.trans (by decide)) (fun h hh => by (first | exact ⟨hh.unacked, hh.txSeq, hh.rxSeq⟩ | exact LinkSound.fresh rfl rfl rfl | exact ⟨by simpa using hh.unacked, hh.txSeq, hh.rxSeq⟩ | exact ⟨hh.unacked, hh.txSeq, Nat.mod_lt _ (by decide)⟩ | exact ⟨Nat.le_trans (ackFrames_length _ _) hh.unacked, hh.txSeq, hh.rxSeq⟩)) ?_)
    | with_reducible refine loseFrames_changes _ (hm.trans (by decide)) ?_
    | with_reducible refine abandon_changes (hm.trans (by decide)) ?_
    | with_reducible refine engineFault_changes _ _ (hm.trans (by decide)) ?_
    | with_reducible refine pcFault_changes _ _ (hm.trans (by decide)) ?_ | with_reducible apply Changes.ite
    | (extract_lets +onlyGivenNames x; refine Changes.cut (a := Changes m' u₀ x) ?_ (fun hx => ?_) <;> [unfold x; clear_value x])
    | extract_lets +onlyGivenNames x | split

theorem execHeddleResendExpiry_changes (at' : End) {m' : Nat} (hm : Covers m' 0xee3defff) {u₀ u₁ : State} (hu :
    Changes m' u₀ u₁) : ChangesOut m' u₀ (execHeddleResendExpiry at' u₁) := by
  unfold execHeddleResendExpiry
  repeat' first
    | with_reducible assumption | with_reducible apply ChangesOut.next | with_reducible apply ChangesOut.ite
    | with_reducible refine endDown_changes _ (hm.trans (by decide)) ?_
    | with_reducible refine resendAll_changes _ (hm.trans (by decide)) ?_ | with_reducible apply Changes.ite
    | split

theorem execHeddleAckTick_changes (at' : End) {m' : Nat} (hm : Covers m' 0x40000000) {u₀ u₁ : State} (hu : Changes
    m' u₀ u₁) : ChangesOut m' u₀ (execHeddleAckTick at' u₁) := by
  unfold execHeddleAckTick
  repeat' first
    | with_reducible assumption | with_reducible apply ChangesOut.next
    | with_reducible refine sendControl_changes _ _ (hm.trans (by decide)) ?_

theorem execHeddleLinkDown_changes (at' : End) {m' : Nat} (hm : Covers m' 0xee3defff) {u₀ u₁ : State} (hu : Changes
    m' u₀ u₁) : ChangesOut m' u₀ (execHeddleLinkDown at' u₁) := by
  unfold execHeddleLinkDown
  repeat' first
    | with_reducible assumption | with_reducible apply ChangesOut.next
    | with_reducible refine endDown_changes _ (hm.trans (by decide)) ?_

theorem sendAllCodes_changes {m' : Nat} (hm : Covers m' 0x4c000000) {u₀ u₁ : State} (hu : Changes m' u₀ u₁) :
    Changes m' u₀ (sendAllCodes u₁) := by
  unfold sendAllCodes
  repeat' first
    | with_reducible assumption | (fail_if_no_progress beta_reduce)
    | with_reducible refine sendFrame_changes _ _ (hm.trans (by decide)) ?_
    | (with_reducible refine Changes.foldl ?_ (fun v y hv => ?_))
    | (extract_lets +onlyGivenNames x; refine Changes.cut (a := Changes m' u₀ x) ?_ (fun hx => ?_) <;> [unfold x; clear_value x])
    | extract_lets +onlyGivenNames x | split

theorem afterReturn_changes {m' : Nat} (hm : Covers m' 0x4c200000) {u₀ u₁ : State} (hu : Changes m' u₀ u₁) : Changes
    m' u₀ (afterReturn u₁) := by
  unfold afterReturn
  repeat' first
    | with_reducible assumption | with_reducible refine sendAllCodes_changes (hm.trans (by decide)) ?_
    | with_reducible refine sendFrame_changes _ _ (hm.trans (by decide)) ?_
    | with_reducible refine sendEnergy_changes (hm.trans (by decide)) ?_
    | with_reducible refine startStream_changes (hm.trans (by decide)) ?_ | with_reducible apply Changes.ite
    | (extract_lets +onlyGivenNames x; refine Changes.cut (a := Changes m' u₀ x) ?_ (fun hx => ?_) <;> [unfold x; clear_value x])
    | extract_lets +onlyGivenNames x | split

theorem execHeddleLinkUp_changes {m' : Nat} (hm : Covers m' 0xef3defff) {u₀ u₁ : State} (hu : Changes m' u₀ u₁) :
    ChangesOut m' u₀ (execHeddleLinkUp u₁) := by
  unfold execHeddleLinkUp
  repeat' first
    | with_reducible assumption | (fail_if_no_progress beta_reduce) | with_reducible apply ChangesOut.next
    | with_reducible apply ChangesOut.ite | with_reducible refine loseFrames_changes _ (hm.trans (by decide)) ?_
    | with_reducible refine meetMaster_changes (hm.trans (by decide)) ?_
    | with_reducible refine pump_changes _ _ (hm.trans (by decide)) ?_
    | with_reducible refine engineClear_changes _ (hm.trans (by decide)) ?_
    | with_reducible refine pcClear_changes _ (hm.trans (by decide)) ?_
    | with_reducible refine afterReturn_changes (hm.trans (by decide)) ?_ | with_reducible apply Changes.ite
    | (fail_if_no_progress (with_reducible refine Changes.put_hdlE (hm.bit (by decide)) ?_ ?_) <;> [(first | exact id | exact fun (h0 : LinkSound _) => ⟨h0.unacked, h0.txSeq, h0.rxSeq⟩ | exact fun _ => LinkSound.fresh rfl rfl rfl); skip])
    | (fail_if_no_progress (with_reducible refine Changes.put_hdlP (hm.bit (by decide)) ?_ ?_) <;> [(first | exact id | exact fun (h0 : LinkSound _) => ⟨h0.unacked, h0.txSeq, h0.rxSeq⟩ | exact fun _ => LinkSound.fresh rfl rfl rfl); skip])
    | (fail_if_no_progress with_reducible apply Changes.parts <;> first | exact hm.skip (by decide) | exact fun _ => rfl | exact id | (first | exact id | exact fun (h0 : LinkSound _) => ⟨h0.unacked, h0.txSeq, h0.rxSeq⟩ | exact fun _ => LinkSound.fresh rfl rfl rfl) | skip)
    | (extract_lets +onlyGivenNames x; refine Changes.cut (a := Changes m' u₀ x) ?_ (fun hx => ?_) <;> [unfold x; clear_value x])
    | extract_lets +onlyGivenNames x | split

/-! ### LifeCycle -/

theorem zeroOldKeys_changes {m' : Nat} (hm : Covers m' 0x400000) {u₀ u₁ : State} (hu : Changes m' u₀ u₁) : Changes
    m' u₀ (zeroOldKeys u₁) := by
  unfold zeroOldKeys
  repeat' first
    | with_reducible assumption | (fail_if_no_progress beta_reduce)
    | with_reducible refine zeroEntry_changes _ _ _ (hm.trans (by decide)) ?_
    | (with_reducible refine Changes.foldl ?_ (fun v y hv => ?_))
    | (extract_lets +onlyGivenNames x; refine Changes.cut (a := Changes m' u₀ x) ?_ (fun hx => ?_) <;> [unfold x; clear_value x])
    | extract_lets +onlyGivenNames x | split

theorem newKey_changes {m' : Nat} (hm : Covers m' 0xcefdefff) {u₀ u₁ : State} (hu : Changes m' u₀ u₁) : Changes m'
    u₀ (newKey u₁).1 := by
  unfold newKey
  repeat' first
    | with_reducible assumption | (fail_if_no_progress beta_reduce)
    | with_reducible refine commitEntry_changes _ _ (hm.trans (by decide)) ?_
    | with_reducible refine zeroOldKeys_changes (hm.trans (by decide)) ?_ | with_reducible apply Changes.ite
    | (fail_if_no_progress with_reducible refine Changes.put_lcs (hm.bit (by decide)) ?_)
    | (extract_lets +onlyGivenNames x; refine Changes.cut (a := Changes m' u₀ x) ?_ (fun hx => ?_) <;> [unfold x; clear_value x])
    | extract_lets +onlyGivenNames x | split

theorem execSecureErase_changes (noise : Bool) {m' : Nat} (hm : Covers m' 0xcefdefff) {u₀ u₁ : State} (hu : Changes
    m' u₀ u₁) : ChangesOut m' u₀ (execSecureErase noise u₁) := by
  unfold execSecureErase
  repeat' first
    | with_reducible assumption | (fail_if_no_progress beta_reduce) | with_reducible apply ChangesOut.next
    | with_reducible apply ChangesOut.ite | (with_reducible refine whenOpen_changes _ (fun v hv => ?_) ?_)
    | with_reducible refine emptyCache_changes (hm.trans (by decide)) ?_
    | with_reducible refine startBg_changes _ _ (hm.trans (by decide)) ?_
    | with_reducible refine newKey_changes (hm.trans (by decide)) ?_
    | with_reducible refine answer_changes _ _ (hm.trans (by decide)) ?_
    | with_reducible refine forgetEpochs_changes (hm.trans (by decide)) ?_
    | with_reducible refine finishBackground_changes _ (hm.trans (by decide)) ?_
    | with_reducible refine engineFault_changes _ _ (hm.trans (by decide)) ?_ | with_reducible apply Changes.ite
    | (extract_lets +onlyGivenNames x; refine Changes.cut (a := Changes m' u₀ x) ?_ (fun hx => ?_) <;> [unfold x; clear_value x])
    | extract_lets +onlyGivenNames x | split

theorem bootEntry_changes (slot : Nat) (confirmed : Bool) {m' : Nat} (hm : Covers m' 0xce7defff) {u₀ u₁ : State} (hu
    : Changes m' u₀ u₁) : Changes m' u₀ (bootEntry slot confirmed u₁) := by
  unfold bootEntry
  repeat' first
    | with_reducible assumption | (fail_if_no_progress beta_reduce)
    | with_reducible refine commitEntry_changes _ _ (hm.trans (by decide)) ?_
    | with_reducible refine markNewest_changes _ _ _ (hm.trans (by decide)) ?_ | with_reducible apply Changes.ite
    | (extract_lets +onlyGivenNames x; refine Changes.cut (a := Changes m' u₀ x) ?_ (fun hx => ?_) <;> [unfold x; clear_value x])
    | extract_lets +onlyGivenNames x | split

theorem voidOpen_changes (kind : Nat) {m' : Nat} (hm : Covers m' 0x400000) {u₀ u₁ : State} (hu : Changes m' u₀ u₁) :
    Changes m' u₀ (voidOpen kind u₁) := by
  unfold voidOpen
  repeat' first
    | with_reducible assumption | with_reducible refine voidTorn_changes _ (hm.trans (by decide)) ?_
    | with_reducible apply Changes.ite
    | split

theorem revertTrial_changes {m' : Nat} (hm : Covers m' 0xce7defff) {u₀ u₁ : State} (hu : Changes m' u₀ u₁) : Changes
    m' u₀ (revertTrial u₁) := by
  unfold revertTrial
  repeat' first
    | with_reducible assumption | (fail_if_no_progress beta_reduce)
    | with_reducible refine bootEntry_changes _ _ (hm.trans (by decide)) ?_ | with_reducible apply Changes.ite
    | (fail_if_no_progress (with_reducible refine Changes.put_efl (hm.bit (by decide)) ?_ ?_) <;> [(first | exact id | exact fun h0 => keysUp_tins _ _ h0 | exact fun h0 => keysUp_filter _ h0); skip])
    | (extract_lets +onlyGivenNames x; refine Changes.cut (a := Changes m' u₀ x) ?_ (fun hx => ?_) <;> [unfold x; clear_value x])
    | extract_lets +onlyGivenNames x | split

theorem chooseImage_changes {m' : Nat} (hm : Covers m' 0xce7defff) {u₀ u₁ : State} (hu : Changes m' u₀ u₁) : Changes
    m' u₀ (chooseImage u₁) := by
  unfold chooseImage
  repeat' first
    | with_reducible assumption | (fail_if_no_progress beta_reduce)
    | with_reducible refine bootEntry_changes _ _ (hm.trans (by decide)) ?_
    | (fail_if_no_progress (with_reducible refine Changes.put_efl (hm.bit (by decide)) ?_ ?_) <;> [(first | exact id | exact fun h0 => keysUp_tins _ _ h0 | exact fun h0 => keysUp_filter _ h0); skip])
    | (extract_lets +onlyGivenNames x; refine Changes.cut (a := Changes m' u₀ x) ?_ (fun hx => ?_) <;> [unfold x; clear_value x])
    | extract_lets +onlyGivenNames x | split

theorem protectSectors_changes {m' : Nat} (hm : Covers m' 0x400000) {u₀ u₁ : State} (hu : Changes m' u₀ u₁) :
    Changes m' u₀ (protectSectors u₁) := by
  unfold protectSectors
  repeat' first
    | with_reducible assumption | (fail_if_no_progress beta_reduce)
    | (fail_if_no_progress (with_reducible refine Changes.put_efl (hm.bit (by decide)) ?_ ?_) <;> [(first | exact id | exact fun h0 => keysUp_tins _ _ h0 | exact fun h0 => keysUp_filter _ h0); skip])
    | split

theorem bootLifeCycle_changes {m' : Nat} (hm : Covers m' 0x80c00000) {u₀ u₁ : State} (hu : Changes m' u₀ u₁) :
    Changes m' u₀ (bootLifeCycle u₁) := by
  unfold bootLifeCycle
  repeat' first
    | with_reducible assumption | (fail_if_no_progress beta_reduce)
    | with_reducible refine zeroOldKeys_changes (hm.trans (by decide)) ?_
    | with_reducible refine nextFree_changes (hm.trans (by decide)) ?_ | with_reducible apply Changes.ite
    | (fail_if_no_progress with_reducible refine Changes.put_lcs (hm.bit (by decide)) ?_)
    | (extract_lets +onlyGivenNames x; refine Changes.cut (a := Changes m' u₀ x) ?_ (fun hx => ?_) <;> [unfold x; clear_value x])
    | extract_lets +onlyGivenNames x | split

theorem flashCut_changes {m' : Nat} (hm : Covers m' 0xcefdefff) {u₀ u₁ : State} (hu : Changes m' u₀ u₁) :
    Changes m' u₀ (match u₁.efl.op with
      | some (.program w d) => completeProgram w d u₁
      | _ => cutOperation u₁) := by
  split
  · exact completeProgram_changes _ _ (hm.trans (by decide)) hu
  · exact cutOperation_changes (hm.trans (by decide)) hu

theorem flashBooted_changes {m' : Nat} (hm : Covers m' 0xcefdefff) {u₀ c : State} (hc : Changes m' u₀ c) :
    Changes m' u₀ { c with
      drf := { c.drf with ctl := 0 },
      efl := { c.efl with
      trial := onTrial c, bootSeq := (newestSeq 1 c).getD 0, runEntry := (newestEntry 1 c).map Prod.snd, confirmDue := false,
      addr := 0, data := 0, select := 0, result := 0, block := 0, ctlOp := 0, jobs := [], after := .nothing } } :=
  by
  apply Changes.parts
  all_goals first
    | exact hm.skip (by decide)
    | exact hc
    | exact fun _ => rfl
    | exact id

theorem stewardStarts_changes {m' : Nat} (hm : Covers m' 0xcefdefff) {u₀ c : State} (hc : Changes m' u₀ c) :
    Changes m' u₀ { c with flt := { c.flt with stewardHalted := false } } :=
  hc.put_flt (hm.bit (by decide)) id

theorem stewardBoot_changes {m' : Nat} (hm : Covers m' 0xcefdefff) {u₀ u₁ : State} (hu : Changes m' u₀ u₁) :
    Changes m' u₀ (stewardBoot u₁) :=
  bootLifeCycle_changes (hm.trans (by decide)) (protectSectors_changes (hm.trans (by decide))
    (stewardStarts_changes hm (flashBooted_changes hm (voidOpen_changes 4 (hm.trans (by decide)) (voidOpen_changes 3 (hm.trans (by decide))
      (voidOpen_changes 2 (hm.trans (by decide)) (chooseImage_changes (hm.trans (by decide))
        (revertTrial_changes (hm.trans (by decide)) (voidOpen_changes 1 (hm.trans (by decide))
          (countIncomplete_changes (hm.trans (by decide)) (stewardReads_changes _ (hm.trans (by decide)) (flashCut_changes hm hu))))))))))))

theorem stopForWipe_changes {m' : Nat} (hm : Covers m' 0xce0004b1) {u₀ u₁ : State} (hu : Changes m' u₀ u₁) : Changes
    m' u₀ (stopForWipe u₁) := by
  unfold stopForWipe
  repeat' first
    | with_reducible assumption | (fail_if_no_progress beta_reduce)
    | with_reducible refine discardWrites_changes (hm.trans (by decide)) ?_
    | with_reducible refine setVault_changes _ (hm.trans (by decide)) ?_
    | (fail_if_no_progress with_reducible refine Changes.put_restore (hm.bit (by decide)) ?_)
    | (fail_if_no_progress with_reducible refine Changes.put_host (hm.bit (by decide)) ?_)
    | (fail_if_no_progress with_reducible apply Changes.parts <;> first | exact hm.skip (by decide) | exact fun _ => rfl | exact id | skip)
    | (extract_lets +onlyGivenNames x; refine Changes.cut (a := Changes m' u₀ x) ?_ (fun hx => ?_) <;> [unfold x; clear_value x])
    | extract_lets +onlyGivenNames x

theorem requestLifeCycle_changes (m : Master) (target : Nat) (noise : Bool) {m' : Nat} (hm : Covers m' 0xce8004b5)
    {u₀ u₁ : State} (hu : Changes m' u₀ u₁) : Changes m' u₀ (requestLifeCycle m target noise u₁) := by
  unfold requestLifeCycle
  repeat' first
    | with_reducible assumption | (fail_if_no_progress beta_reduce)
    | with_reducible refine logEvent_changes _ _ _ (hm.trans (by decide)) ?_
    | with_reducible refine stopForWipe_changes (hm.trans (by decide)) ?_ | with_reducible apply Changes.ite
    | (fail_if_no_progress with_reducible refine Changes.put_lcs (hm.bit (by decide)) ?_)
    | (extract_lets +onlyGivenNames x; refine Changes.cut (a := Changes m' u₀ x) ?_ (fun hx => ?_) <;> [unfold x; clear_value x])
    | extract_lets +onlyGivenNames x | split

theorem execLifeCycleRequest_changes (m : Master) (target : Nat) (noise : Bool) {m' : Nat} (hm : Covers m'
    0xce8004b5) {u₀ u₁ : State} (hu : Changes m' u₀ u₁) : ChangesOut m' u₀ (execLifeCycleRequest m target noise u₁)
    := by
  unfold execLifeCycleRequest
  repeat' first
    | with_reducible assumption | with_reducible apply ChangesOut.next
    | with_reducible refine requestLifeCycle_changes _ _ _ (hm.trans (by decide)) ?_

theorem commitLifeCycle_changes {m' : Nat} (hm : Covers m' 0xcefdefff) {u₀ u₁ : State} (hu : Changes m' u₀ u₁) :
    Changes m' u₀ (commitLifeCycle u₁) := by
  unfold commitLifeCycle
  repeat' first
    | with_reducible assumption | (fail_if_no_progress beta_reduce)
    | with_reducible refine commitEntry_changes _ _ (hm.trans (by decide)) ?_ | with_reducible apply Changes.ite
    | (fail_if_no_progress with_reducible refine Changes.put_lcs (hm.bit (by decide)) ?_)
    | (extract_lets +onlyGivenNames x; refine Changes.cut (a := Changes m' u₀ x) ?_ (fun hx => ?_) <;> [unfold x; clear_value x])
    | extract_lets +onlyGivenNames x | split

theorem startWipe_changes (blocks : List Nat) (next : Nat) {m' : Nat} (hm : Covers m' 0xcefdefff) {u₀ u₁ : State} (hu
    : Changes m' u₀ u₁) : Changes m' u₀ (startWipe blocks next u₁) := by
  unfold startWipe
  repeat' first
    | with_reducible assumption | with_reducible refine startJobs_changes _ _ (hm.trans (by decide)) ?_
    | (fail_if_no_progress with_reducible refine Changes.put_restore (hm.bit (by decide)) ?_)
    | (fail_if_no_progress with_reducible refine Changes.put_lcs (hm.bit (by decide)) ?_)
    | (fail_if_no_progress with_reducible apply Changes.parts <;> first | exact hm.skip (by decide) | exact fun _ => rfl | exact id | skip)
    | extract_lets +onlyGivenNames x

theorem clearUserData_changes {m' : Nat} (hm : Covers m' 0x400814) {u₀ u₁ : State} (hu : Changes m' u₀ u₁) : Changes
    m' u₀ (clearUserData u₁) := by
  unfold clearUserData
  repeat' first
    | with_reducible assumption | (fail_if_no_progress beta_reduce)
    | (fail_if_no_progress (with_reducible refine Changes.put_log (hm.bit (by decide)) ?_ ?_) <;> [(first | exact id | exact fun (h0 : LogSound _) => ⟨h0.ring, h0.head, h0.seq⟩ | exact fun _ => LogSound.fresh rfl rfl rfl); skip])
    | (fail_if_no_progress with_reducible refine Changes.put_stg (hm.bit (by decide)) ?_)
    | (fail_if_no_progress (with_reducible refine Changes.put_mbx (hm.bit (by decide)) ?_ ?_) <;> [(first | exact id | exact fun (h0 : EventLogsSound _) => ⟨h0.four, h0.records⟩ | exact fun _ => ⟨rfl, by simp⟩); skip])
    | (fail_if_no_progress (with_reducible refine Changes.put_efl (hm.bit (by decide)) ?_ ?_) <;> [(first | exact id | exact fun h0 => keysUp_tins _ _ h0 | exact fun h0 => keysUp_filter _ h0); skip])
    | (fail_if_no_progress with_reducible apply Changes.parts <;> first | exact hm.skip (by decide) | exact fun _ => rfl | exact id | (first | exact id | exact fun (h0 : LogSound _) => ⟨h0.ring, h0.head, h0.seq⟩ | exact fun _ => LogSound.fresh rfl rfl rfl) | (first | exact id | exact fun (h0 : EventLogsSound _) => ⟨h0.four, h0.records⟩ | exact fun _ => ⟨rfl, by simp⟩) | (first | exact id | exact fun h0 => keysUp_tins _ _ h0 | exact fun h0 => keysUp_filter _ h0) | skip)
    | split

theorem finishWipe_changes {m' : Nat} (hm : Covers m' 0xc00000) {u₀ u₁ : State} (hu : Changes m' u₀ u₁) : Changes m'
    u₀ (finishWipe u₁) := by
  unfold finishWipe
  repeat' first
    | with_reducible assumption | (fail_if_no_progress beta_reduce)
    | with_reducible refine markNewest_changes _ _ _ (hm.trans (by decide)) ?_ | with_reducible apply Changes.ite
    | (fail_if_no_progress with_reducible refine Changes.put_lcs (hm.bit (by decide)) ?_)
    | (extract_lets +onlyGivenNames x; refine Changes.cut (a := Changes m' u₀ x) ?_ (fun hx => ?_) <;> [unfold x; clear_value x])
    | extract_lets +onlyGivenNames x | split

theorem advanceLifeCycle_changes {m' : Nat} (hm : Covers m' 0xcefdefff) {u₀ u₁ : State} (hu : Changes m' u₀ u₁) :
    Changes m' u₀ (advanceLifeCycle u₁) := by
  unfold advanceLifeCycle
  repeat' first
    | with_reducible assumption | (fail_if_no_progress beta_reduce)
    | with_reducible refine commitLifeCycle_changes (hm.trans (by decide)) ?_
    | with_reducible refine startWipe_changes _ _ (hm.trans (by decide)) ?_
    | with_reducible refine clearUserData_changes (hm.trans (by decide)) ?_
    | with_reducible refine beginWarm_changes _ (hm.trans (by decide)) ?_
    | with_reducible refine finishWipe_changes (hm.trans (by decide)) ?_ | with_reducible apply Changes.ite
    | (fail_if_no_progress with_reducible refine Changes.put_lcs (hm.bit (by decide)) ?_)
    | extract_lets +onlyGivenNames x | split

theorem wipeAndKey_changes {m' : Nat} (hm : Covers m' 0xcefdefff) {u₀ u₁ : State} (hu : Changes m' u₀ u₁) : Changes
    m' u₀ (wipeAndKey u₁) := by
  unfold wipeAndKey
  repeat' first
    | with_reducible assumption | (fail_if_no_progress beta_reduce)
    | with_reducible refine emptyPoison_changes (hm.trans (by decide)) ?_
    | with_reducible refine zeroMap_changes (hm.trans (by decide)) ?_
    | with_reducible refine zeroRange_changes _ _ (hm.trans (by decide)) ?_
    | with_reducible refine newKey_changes (hm.trans (by decide)) ?_
    | with_reducible refine engineFault_changes _ _ (hm.trans (by decide)) ?_ | with_reducible apply Changes.ite
    | (fail_if_no_progress (with_reducible refine Changes.put_cache (hm.bit (by decide)) ?_ ?_) <;> [(first | exact id | (intro h0; constructor <;> first | exact h0.channels | exact h0.poison | exact h0.map | exact h0.caps | rfl | exact tableOk_tput _ _ _ _ none h0.poison (by simp) | exact keysUp_tput _ _ _ h0.map | exact keysUp_tput _ _ _ h0.caps | simpa [modAt] using h0.channels)); skip])
    | (fail_if_no_progress with_reducible refine Changes.put_drain (hm.bit (by decide)) ?_)
    | (fail_if_no_progress with_reducible refine Changes.put_lcs (hm.bit (by decide)) ?_)
    | (fail_if_no_progress with_reducible apply Changes.parts <;> first | exact hm.skip (by decide) | exact fun _ => rfl | exact id | (first | exact id | (intro h0; constructor <;> first | exact h0.channels | exact h0.poison | exact h0.map | exact h0.caps | rfl | exact tableOk_tput _ _ _ _ none h0.poison (by simp) | exact keysUp_tput _ _ _ h0.map | exact keysUp_tput _ _ _ h0.caps | simpa [modAt] using h0.channels)) | skip)
    | (extract_lets +onlyGivenNames x; refine Changes.cut (a := Changes m' u₀ x) ?_ (fun hx => ?_) <;> [unfold x; clear_value x])
    | extract_lets +onlyGivenNames x | split

end Sys2Proof.Machine
end

