-- ==== Sys2Proof/Laws/ChangesPort.lean ====
section
/-! SUPPORT. The frames of the resets, the register space and the management port. -/

set_option linter.all false
set_option linter.unusedTactic false
set_option linter.unreachableTactic false

namespace Sys2Proof.Machine

/-! ### Reset -/

theorem coldNand_sound {n : NandSt} (h : NandSound n) : NandSound (coldNand n) :=
  ⟨rfl, keysUp_filter _ (keysUp_map _ h.targets (fun _ => rfl)), h.blocks⟩

theorem coldMailbox_sound {n : Nat} {s : State} (h : EventLogsSound s.mbx) : EventLogsSound (coldMailbox n s) :=
  ⟨h.four, h.records⟩

theorem coldEngine_changes {m' : Nat} (hm : Covers m' 0x72c0dfb) {u₀ u₁ : State}
    (hu : Changes m' u₀ u₁) : Changes m' u₀ (coldEngine u₁) := by
  have hp : Changes m' u₀ (drivePair .vreq false (drivePair .belaye false u₁)) :=
    drivePair_changes _ _ (hm.trans (by decide)) (drivePair_changes _ _ (hm.trans (by decide)) hu)
  have e : (drivePair .vreq false (drivePair .belaye false u₁)).mbx = u₁.mbx := rfl
  have f : (drivePair .vreq false (drivePair .belaye false u₁)).flt = u₁.flt := rfl
  have n : (drivePair .vreq false (drivePair .belaye false u₁)).nand = u₁.nand := rfl
  have g : (drivePair .vreq false (drivePair .belaye false u₁)).tbs = u₁.tbs := rfl
  unfold coldEngine
  dsimp only
  generalize drivePair .vreq false (drivePair .belaye false u₁) = p at *
  apply Changes.parts
  all_goals first
    | exact hm.skip (by decide)
    | exact fun _ => rfl
    | exact hp
    | exact id
    | exact fun _ => LinkSound.fresh rfl rfl rfl
    | exact fun _ => CacheSound.fresh rfl rfl rfl rfl
    | exact fun h => coldMailbox_sound (e ▸ h)
    | exact fun h => coldNand_sound (n ▸ h)
    | (intro h; rw [f] at h; exact h)
    | (intro h; rw [g] at h; exact h)

theorem resetPower_changes {m' : Nat} (hm : Covers m' 0xfe3fefff) {u₀ u₁ : State} (hu : Changes m' u₀ u₁) : Changes
    m' u₀ (resetPower u₁) := by
  unfold resetPower
  repeat' first
    | with_reducible assumption | (fail_if_no_progress beta_reduce)
    | with_reducible refine pcClear_changes _ (hm.trans (by decide)) ?_
    | with_reducible refine clearGauge_changes (hm.trans (by decide)) ?_
    | with_reducible refine clearCharger_changes (hm.trans (by decide)) ?_
    | with_reducible refine clearDomains_changes _ (hm.trans (by decide)) ?_ | with_reducible apply Changes.ite
    | (fail_if_no_progress (with_reducible refine Changes.put_pwr (hm.bit (by decide)) ?_ ?_) <;> [(first | exact id | exact fun _ => rfl | exact fun h0 => by simpa [modAt] using h0); skip])
    | (fail_if_no_progress with_reducible refine Changes.put_chg (hm.bit (by decide)) ?_)
    | (fail_if_no_progress (with_reducible refine Changes.put_thm (hm.bit (by decide)) ?_ ?_) <;> [(first | exact id | exact fun h0 => ⟨h0.zones, keysUp_filter _ (keysUp_map _ h0.sensors (fun _ => rfl))⟩ | (intro h0; constructor <;> first | exact h0.zones | exact h0.sensors | exact keysUp_tmod _ _ _ h0.sensors | simpa [modAt] using h0.zones)); skip])
    | (fail_if_no_progress (with_reducible refine Changes.put_flt (hm.bit (by decide)) ?_ ?_) <;> [(first | exact id | exact fun h0 => keysUp_tmod _ _ _ h0 | exact fun h0 => keysUp_filter _ (keysUp_map _ h0 (fun _ => rfl))); skip])
    | (fail_if_no_progress (with_reducible refine Changes.put_drf (hm.bit (by decide)) ?_ ?_) <;> [(first | exact id | exact fun _ => keysUp_nil); skip])
    | (fail_if_no_progress with_reducible refine Changes.put_port (hm.bit (by decide)) ?_)
    | (fail_if_no_progress with_reducible refine Changes.put_smb (hm.bit (by decide)) ?_)
    | (fail_if_no_progress with_reducible apply Changes.parts <;> first | exact hm.skip (by decide) | exact fun _ => rfl | exact id | (first | exact id | exact fun _ => rfl | exact fun h0 => by simpa [modAt] using h0) | (first | exact id | exact fun h0 => ⟨h0.zones, keysUp_filter _ (keysUp_map _ h0.sensors (fun _ => rfl))⟩ | (intro h0; constructor <;> first | exact h0.zones | exact h0.sensors | exact keysUp_tmod _ _ _ h0.sensors | simpa [modAt] using h0.zones)) | (first | exact id | exact fun h0 => keysUp_tmod _ _ _ h0 | exact fun h0 => keysUp_filter _ (keysUp_map _ h0 (fun _ => rfl))) | (first | exact id | exact fun _ => keysUp_nil) | skip)
    | (extract_lets +onlyGivenNames x; refine Changes.cut (a := Changes m' u₀ x) ?_ (fun hx => ?_) <;> [unfold x; clear_value x])
    | extract_lets +onlyGivenNames x | split

theorem reenter_changes (n : Nat) {m' : Nat} (hm : Covers m' 0xce3defff) {u₀ u₁ : State} (hu : Changes m' u₀ u₁) :
    Changes m' u₀ (reenter u₁ n) := by
  unfold reenter
  repeat' first
    | with_reducible assumption | (fail_if_no_progress beta_reduce)
    | with_reducible refine modSrc_changes _ _ (hm.trans (by decide)) ?_
    | with_reducible refine logFault_changes _ _ _ _ _ (hm.trans (by decide)) ?_
    | with_reducible refine captureFirst_changes _ _ _ _ _ (hm.trans (by decide)) ?_
    | (with_reducible refine withAbort_changes _ (hm.trans (by decide)) (fun v hv => ?_) ?_)
    | with_reducible refine react_changes _ _ (hm.trans (by decide)) ?_ | with_reducible apply Changes.ite
    | (extract_lets +onlyGivenNames x; refine Changes.cut (a := Changes m' u₀ x) ?_ (fun hx => ?_) <;> [unfold x; clear_value x])
    | extract_lets +onlyGivenNames x | split

theorem checkRow_changes {m' : Nat} (hm : Covers m' 0xce7defff) {u₀ u₁ : State} (hu : Changes m' u₀ u₁) : Changes m'
    u₀ (checkRow u₁) := by
  unfold checkRow
  repeat' first
    | with_reducible assumption | (fail_if_no_progress beta_reduce)
    | with_reducible refine nextFree_changes (hm.trans (by decide)) ?_
    | with_reducible refine pcFault_changes _ _ (hm.trans (by decide)) ?_ | with_reducible apply Changes.ite
    | (fail_if_no_progress (with_reducible refine Changes.put_efl (hm.bit (by decide)) ?_ ?_) <;> [(first | exact id | exact fun h0 => keysUp_tins _ _ h0 | exact fun h0 => keysUp_filter _ h0); skip])
    | (extract_lets +onlyGivenNames x; refine Changes.cut (a := Changes m' u₀ x) ?_ (fun hx => ?_) <;> [unfold x; clear_value x])
    | extract_lets +onlyGivenNames x | split

theorem clearUnassigned_changes {m' : Nat} (hm : Covers m' 0xce3fefff) {u₀ u₁ : State} (hu : Changes m' u₀ u₁) :
    Changes m' u₀ (clearUnassigned u₁) := by
  unfold clearUnassigned
  repeat' first
    | with_reducible assumption | (fail_if_no_progress beta_reduce)
    | with_reducible refine pcClear_changes _ (hm.trans (by decide)) ?_
    | with_reducible refine pcCond_changes _ _ (hm.trans (by decide)) ?_
    | (with_reducible refine Changes.foldl ?_ (fun v y hv => ?_))
    | (fail_if_no_progress (with_reducible refine Changes.put_thm (hm.bit (by decide)) ?_ ?_) <;> [(first | exact id | exact fun h0 => ⟨h0.zones, keysUp_filter _ (keysUp_map _ h0.sensors (fun _ => rfl))⟩ | (intro h0; constructor <;> first | exact h0.zones | exact h0.sensors | exact keysUp_tmod _ _ _ h0.sensors | simpa [modAt] using h0.zones)); skip])
    | (extract_lets +onlyGivenNames x; refine Changes.cut (a := Changes m' u₀ x) ?_ (fun hx => ?_) <;> [unfold x; clear_value x])
    | extract_lets +onlyGivenNames x | split

theorem bootDraft_changes (cold : Bool) {m' : Nat} (hm : Covers m' 0xce7fefff) {u₀ u₁ : State} (hu : Changes m' u₀
    u₁) : Changes m' u₀ (bootDraft cold u₁) := by
  unfold bootDraft
  repeat' first
    | with_reducible assumption | (fail_if_no_progress beta_reduce)
    | with_reducible refine clearUnassigned_changes (hm.trans (by decide)) ?_
    | with_reducible refine draftAtReset_changes _ (hm.trans (by decide)) ?_
    | with_reducible refine protectSectors_changes (hm.trans (by decide)) ?_
    | with_reducible refine loadCapacity_changes (hm.trans (by decide)) ?_
    | with_reducible refine checkRow_changes (hm.trans (by decide)) ?_
    | with_reducible refine noteOverdue_changes (hm.trans (by decide)) ?_
    | with_reducible refine reenter_changes _ (hm.trans (by decide)) ?_ | with_reducible apply Changes.ite
    | (with_reducible refine Changes.foldl ?_ (fun v y hv => ?_))
    | (fail_if_no_progress (with_reducible refine Changes.put_flt (hm.bit (by decide)) ?_ ?_) <;> [(first | exact id | exact fun h0 => keysUp_tmod _ _ _ h0); skip])
    | (fail_if_no_progress (with_reducible refine Changes.put_drf (hm.bit (by decide)) ?_ ?_) <;> [(first | exact id | exact fun _ => keysUp_nil); skip])
    | (extract_lets +onlyGivenNames x; refine Changes.cut (a := Changes m' u₀ x) ?_ (fun hx => ?_) <;> [unfold x; clear_value x])
    | extract_lets +onlyGivenNames x | split

theorem mfgKey_changes (noise : Bool) {m' : Nat} (hm : Covers m' 0xcefdefff) {u₀ u₁ : State} (hu : Changes m' u₀ u₁)
    : Changes m' u₀ (mfgKey noise u₁) := by
  unfold mfgKey
  repeat' first
    | with_reducible assumption | with_reducible refine newKey_changes (hm.trans (by decide)) ?_
    | with_reducible apply Changes.ite
    | split

theorem reportLost_changes {m' : Nat} (hm : Covers m' 0xce7defff) {u₀ u₁ : State} (hu : Changes m' u₀ u₁) : Changes
    m' u₀ (reportLost u₁) := by
  unfold reportLost
  repeat' first
    | with_reducible assumption | with_reducible refine pcFault_changes _ _ (hm.trans (by decide)) ?_
    | with_reducible apply Changes.ite
    | (fail_if_no_progress (with_reducible refine Changes.put_efl (hm.bit (by decide)) ?_ ?_) <;> [(first | exact id | exact fun h0 => keysUp_tins _ _ h0 | exact fun h0 => keysUp_filter _ h0); skip])
    | extract_lets +onlyGivenNames x | split

theorem newController_changes {m' : Nat} (hm : Covers m' 0xc08814) {u₀ u₁ : State} (hu : Changes m' u₀ u₁) : Changes
    m' u₀ (newController u₁) := by
  unfold newController
  repeat' first
    | with_reducible assumption
    | (fail_if_no_progress (with_reducible refine Changes.put_log (hm.bit (by decide)) ?_ ?_) <;> [(first | exact id | exact fun (h0 : LogSound _) => ⟨h0.ring, h0.head, h0.seq⟩ | exact fun _ => LogSound.fresh rfl rfl rfl); skip])
    | (fail_if_no_progress with_reducible refine Changes.put_stg (hm.bit (by decide)) ?_)
    | (fail_if_no_progress (with_reducible refine Changes.put_mbx (hm.bit (by decide)) ?_ ?_) <;> [(first | exact id | exact fun (h0 : EventLogsSound _) => ⟨h0.four, h0.records⟩ | exact fun _ => ⟨rfl, by simp⟩); skip])
    | (fail_if_no_progress with_reducible refine Changes.put_gau (hm.bit (by decide)) ?_)
    | (fail_if_no_progress (with_reducible refine Changes.put_efl (hm.bit (by decide)) ?_ ?_) <;> [(first | exact id | exact fun h0 => keysUp_tins _ _ h0 | exact fun h0 => keysUp_filter _ h0 | exact fun _ => keysUp_nil); skip])
    | (fail_if_no_progress with_reducible refine Changes.put_lcs (hm.bit (by decide)) ?_)
    | (fail_if_no_progress with_reducible apply Changes.parts <;> first | exact hm.skip (by decide) | exact fun _ => rfl | exact id | (first | exact id | exact fun (h0 : LogSound _) => ⟨h0.ring, h0.head, h0.seq⟩ | exact fun _ => LogSound.fresh rfl rfl rfl) | (first | exact id | exact fun (h0 : EventLogsSound _) => ⟨h0.four, h0.records⟩ | exact fun _ => ⟨rfl, by simp⟩) | (first | exact id | exact fun h0 => keysUp_tins _ _ h0 | exact fun h0 => keysUp_filter _ h0 | exact fun _ => keysUp_nil) | skip)

theorem replacePackages_changes (controller : Bool) (engine : Bool) {m' : Nat} (hm : Covers m' 0xc08814) {u₀ u₁ :
    State} (hu : Changes m' u₀ u₁) : Changes m' u₀ (replacePackages controller engine u₁) := by
  unfold replacePackages
  repeat' first
    | with_reducible assumption | (fail_if_no_progress beta_reduce)
    | with_reducible refine newController_changes (hm.trans (by decide)) ?_ | with_reducible apply Changes.ite
    | (fail_if_no_progress with_reducible refine Changes.put_lcs (hm.bit (by decide)) ?_)
    | (extract_lets +onlyGivenNames x; refine Changes.cut (a := Changes m' u₀ x) ?_ (fun hx => ?_) <;> [unfold x; clear_value x])
    | extract_lets +onlyGivenNames x | split

theorem execKeeperStart_changes (smbAddr : Nat) (unfit : Nat) (newPctrl : Bool) (newEngine : Bool) (noise : Bool)
    {m' : Nat} (hm : Covers m' 0xeeffefff) {u₀ u₁ : State} (hu : Changes m' u₀ u₁) : ChangesOut m' u₀
    (execKeeperStart smbAddr unfit newPctrl newEngine noise u₁) := by
  unfold execKeeperStart
  repeat' first
    | with_reducible assumption | (fail_if_no_progress beta_reduce) | with_reducible apply ChangesOut.next
    | with_reducible apply ChangesOut.ite
    | with_reducible refine replacePackages_changes _ _ (hm.trans (by decide)) ?_
    | with_reducible refine modDom_changes _ _ (hm.trans (by decide)) ?_
    | with_reducible refine reportLost_changes (hm.trans (by decide)) ?_
    | with_reducible refine bootDraft_changes _ (hm.trans (by decide)) ?_
    | with_reducible refine mfgKey_changes _ (hm.trans (by decide)) ?_
    | with_reducible refine stewardBoot_changes (hm.trans (by decide)) ?_
    | with_reducible refine logEvent_changes _ _ _ (hm.trans (by decide)) ?_ | with_reducible apply Changes.ite
    | (fail_if_no_progress (with_reducible refine Changes.put_cache (hm.bit (by decide)) ?_ ?_) <;> [(first | exact id | (intro h0; constructor <;> first | exact h0.channels | exact h0.poison | exact h0.map | exact h0.caps | rfl | exact tableOk_tput _ _ _ _ none h0.poison (by simp) | exact keysUp_tput _ _ _ h0.map | exact keysUp_tput _ _ _ h0.caps | simpa [modAt] using h0.channels)); skip])
    | (fail_if_no_progress (with_reducible refine Changes.put_pwr (hm.bit (by decide)) ?_ ?_) <;> [(first | exact id | exact fun _ => rfl | exact fun h0 => by simpa [modAt] using h0); skip])
    | (fail_if_no_progress with_reducible refine Changes.put_smb (hm.bit (by decide)) ?_)
    | (fail_if_no_progress with_reducible apply Changes.parts <;> first | exact hm.skip (by decide) | exact fun _ => rfl | exact id | (first | exact id | (intro h0; constructor <;> first | exact h0.channels | exact h0.poison | exact h0.map | exact h0.caps | rfl | exact tableOk_tput _ _ _ _ none h0.poison (by simp) | exact keysUp_tput _ _ _ h0.map | exact keysUp_tput _ _ _ h0.caps | simpa [modAt] using h0.channels)) | (first | exact id | exact fun _ => rfl | exact fun h0 => by simpa [modAt] using h0) | skip)
    | (extract_lets +onlyGivenNames x; refine Changes.cut (a := Changes m' u₀ x) ?_ (fun hx => ?_) <;> [unfold x; clear_value x])
    | extract_lets +onlyGivenNames x | split

theorem execKeeperStop_changes {m' : Nat} (hm : Covers m' 0x2bfffffff) {u₀ u₁ : State} (hu : Changes m' u₀ u₁) :
    ChangesOut m' u₀ (execKeeperStop u₁) := by
  unfold execKeeperStop
  split
  · apply ChangesOut.next
    have hc := cutOperation_changes (hm.trans (by decide)) hu
    generalize cutOperation u₁ = c at *
    apply Changes.parts
    all_goals first
      | exact hm.skip (by decide)
      | exact hc
      | exact fun _ => rfl
      | exact id
      | exact fun _ => LinkSound.fresh rfl rfl rfl
      | exact fun _ => LogSound.fresh rfl rfl rfl
      | exact fun _ => CacheSound.fresh rfl rfl rfl rfl
      | exact fun h => coldMailbox_sound h
      | exact fun h => coldNand_sound h
      | exact fun _ => ⟨rfl, rfl⟩
      | exact fun _ => by decide
  · exact ChangesOut.next hu

theorem beginBoot_changes {m' : Nat} (hm : Covers m' 0x142300) {u₀ u₁ : State} (hu : Changes m' u₀ u₁) : Changes m'
    u₀ (beginBoot u₁) := by
  unfold beginBoot
  repeat' first
    | with_reducible assumption | with_reducible refine beginSeq_changes _ (hm.trans (by decide)) ?_
    | (fail_if_no_progress (with_reducible refine Changes.put_pwr (hm.bit (by decide)) ?_ ?_) <;> [(first | exact id | exact fun _ => rfl | exact fun h0 => by simpa [modAt] using h0); skip])
    | (fail_if_no_progress with_reducible refine Changes.put_warm (hm.bit (by decide)) ?_)
    | (fail_if_no_progress with_reducible apply Changes.parts <;> first | exact hm.skip (by decide) | exact fun _ => rfl | exact id | (first | exact id | exact fun _ => rfl | exact fun h0 => by simpa [modAt] using h0) | skip)

theorem offBoot_changes {m' : Nat} (hm : Covers m' 0xffffefff) {u₀ u₁ : State} (hu : Changes m' u₀ u₁) : Changes m'
    u₀ (offBoot u₁) := by
  unfold offBoot
  repeat' first
    | with_reducible assumption | (fail_if_no_progress beta_reduce)
    | with_reducible refine logEvent_changes _ _ _ (hm.trans (by decide)) ?_
    | with_reducible refine setVault_changes _ (hm.trans (by decide)) ?_
    | with_reducible refine coldEngine_changes (hm.trans (by decide)) ?_
    | with_reducible refine resetPower_changes (hm.trans (by decide)) ?_
    | with_reducible refine vaultOver_changes (hm.trans (by decide)) ?_
    | with_reducible refine drivePair_changes _ _ (hm.trans (by decide)) ?_
    | with_reducible refine bootDraft_changes _ (hm.trans (by decide)) ?_
    | with_reducible refine stewardBoot_changes (hm.trans (by decide)) ?_
    | with_reducible refine beginBoot_changes (hm.trans (by decide)) ?_ | with_reducible apply Changes.ite
    | (fail_if_no_progress (with_reducible refine Changes.put_pwr (hm.bit (by decide)) ?_ ?_) <;> [(first | exact id | exact fun _ => rfl | exact fun h0 => by simpa [modAt] using h0); skip])
    | (fail_if_no_progress with_reducible refine Changes.put_warm (hm.bit (by decide)) ?_)
    | (fail_if_no_progress (with_reducible refine Changes.put_drf (hm.bit (by decide)) ?_ ?_) <;> [(first | exact id | exact fun _ => keysUp_nil); skip])
    | (fail_if_no_progress with_reducible apply Changes.parts <;> first | exact hm.skip (by decide) | exact fun _ => rfl | exact id | (first | exact id | exact fun _ => rfl | exact fun h0 => by simpa [modAt] using h0) | (first | exact id | exact fun _ => keysUp_nil) | skip)
    | (extract_lets +onlyGivenNames x; refine Changes.cut (a := Changes m' u₀ x) ?_ (fun hx => ?_) <;> [unfold x; clear_value x])
    | extract_lets +onlyGivenNames x | split

theorem vinIsGood_changes (vin : Nat) {m' : Nat} (hm : Covers m' 0xce3dffff) {u₀ u₁ : State} (hu : Changes m' u₀ u₁)
    : Changes m' u₀ (vinIsGood vin u₁) := by
  unfold vinIsGood
  repeat' first
    | with_reducible assumption | (fail_if_no_progress beta_reduce)
    | with_reducible refine chargerCheck_changes (hm.trans (by decide)) ?_
    | with_reducible refine pcClear_changes _ (hm.trans (by decide)) ?_ | with_reducible apply Changes.ite
    | (fail_if_no_progress with_reducible refine Changes.put_vin (hm.bit (by decide)) ?_)
    | (extract_lets +onlyGivenNames x; refine Changes.cut (a := Changes m' u₀ x) ?_ (fun hx => ?_) <;> [unfold x; clear_value x])
    | extract_lets +onlyGivenNames x | split

theorem startOnVin_changes {m' : Nat} (hm : Covers m' 0xffffefff) {u₀ u₁ : State} (hu : Changes m' u₀ u₁) : Changes
    m' u₀ (startOnVin u₁) := by
  unfold startOnVin
  repeat' first
    | with_reducible assumption | with_reducible refine offBoot_changes (hm.trans (by decide)) ?_
    | with_reducible refine requestWarm_changes _ _ (hm.trans (by decide)) ?_
    | with_reducible refine beginSeq_changes _ (hm.trans (by decide)) ?_
    | with_reducible refine beginBoot_changes (hm.trans (by decide)) ?_ | with_reducible apply Changes.ite
    | (fail_if_no_progress (with_reducible refine Changes.put_pwr (hm.bit (by decide)) ?_ ?_) <;> [(first | exact id | exact fun _ => rfl | exact fun h0 => by simpa [modAt] using h0); skip])
    | extract_lets +onlyGivenNames x | split

theorem owedBoot_changes {m' : Nat} (hm : Covers m' 0xffffefff) {u₀ u₁ : State} (hu : Changes m' u₀ u₁) : Changes m'
    u₀ (owedBoot u₁) := by
  unfold owedBoot
  repeat' first
    | with_reducible assumption | with_reducible refine offBoot_changes (hm.trans (by decide)) ?_
    | with_reducible apply Changes.ite
    | (fail_if_no_progress (with_reducible refine Changes.put_pwr (hm.bit (by decide)) ?_ ?_) <;> [(first | exact id | exact fun _ => rfl | exact fun h0 => by simpa [modAt] using h0); skip])
    | (extract_lets +onlyGivenNames x; refine Changes.cut (a := Changes m' u₀ x) ?_ (fun hx => ?_) <;> [unfold x; clear_value x])
    | extract_lets +onlyGivenNames x | split

theorem execVinGood_changes (vin : Nat) {m' : Nat} (hm : Covers m' 0xffffffff) {u₀ u₁ : State} (hu : Changes m' u₀
    u₁) : ChangesOut m' u₀ (execVinGood vin u₁) := by
  unfold execVinGood
  repeat' first
    | with_reducible assumption | with_reducible apply ChangesOut.next | with_reducible apply ChangesOut.ite
    | with_reducible refine startOnVin_changes (hm.trans (by decide)) ?_
    | with_reducible refine vinIsGood_changes _ (hm.trans (by decide)) ?_ | with_reducible apply Changes.ite
    | (extract_lets +onlyGivenNames x; refine Changes.cut (a := Changes m' u₀ x) ?_ (fun hx => ?_) <;> [unfold x; clear_value x])
    | extract_lets +onlyGivenNames x | split

theorem askWarm_changes (r : Requester) {m' : Nat} (hm : Covers m' 0xce380c3d) {u₀ u₁ : State} (hu : Changes m' u₀
    u₁) : Changes m' u₀ (askWarm r u₁) := by
  unfold askWarm
  repeat' first
    | with_reducible assumption | with_reducible refine requestWarm_changes _ _ (hm.trans (by decide)) ?_
    | with_reducible apply Changes.ite | split

theorem execWarmRstN_changes (lowUs unfit : Nat) {m' : Nat} (hm : Covers m' 0xce380c3d) {u₀ u₁ : State} (hu :
    Changes m' u₀ u₁) : ChangesOut m' u₀ (execWarmRstN lowUs unfit u₁) := by
  unfold execWarmRstN
  repeat' first
    | with_reducible assumption | with_reducible apply ChangesOut.next | with_reducible apply ChangesOut.ite
    | with_reducible refine askWarm_changes _ (hm.trans (by decide)) ?_ | with_reducible apply Changes.ite
    | (fail_if_no_progress (with_reducible refine Changes.put_cache (hm.bit (by decide)) ?_ ?_) <;> [(first | exact id | exact fun (h0 : CacheSound _) => ⟨h0.channels, h0.poison, h0.map, h0.caps⟩ | exact fun (h0 : CacheSound _) => ⟨h0.channels, rfl, h0.map, h0.caps⟩ | exact fun (h0 : CacheSound _) => ⟨h0.channels, h0.poison, rfl, h0.caps⟩ | exact fun (h0 : CacheSound _) => ⟨by simpa [modAt] using h0.channels, h0.poison, h0.map, h0.caps⟩ | exact fun (h0 : CacheSound _) => ⟨h0.channels, tableOk_tput _ _ _ _ none h0.poison (by simp), h0.map, h0.caps⟩ | exact fun (h0 : CacheSound _) => ⟨h0.channels, h0.poison, keysUp_tput _ _ _ h0.map, h0.caps⟩ | exact fun (h0 : CacheSound _) => ⟨h0.channels, h0.poison, h0.map, keysUp_tput _ _ _ h0.caps⟩ | exact fun (h0 : CacheSound _) => ⟨rfl, h0.poison, h0.map, h0.caps⟩ | exact fun _ => CacheSound.fresh rfl rfl rfl rfl); skip])
    | (extract_lets +onlyGivenNames x; refine Changes.cut (a := Changes m' u₀ x) ?_ (fun hx => ?_) <;> [unfold x; clear_value x])
    | extract_lets +onlyGivenNames x | split

theorem execStewardWarmReset_changes {m' : Nat} (hm : Covers m' 0xce380c3d) {u₀ u₁ : State} (hu : Changes m' u₀ u₁)
    : ChangesOut m' u₀ (execStewardWarmReset u₁) := by
  unfold execStewardWarmReset
  repeat' first
    | with_reducible assumption | with_reducible apply ChangesOut.next | with_reducible apply ChangesOut.ite
    | with_reducible refine askWarm_changes _ (hm.trans (by decide)) ?_ | with_reducible apply Changes.ite | split

theorem execStewardWatchdogExpiry_changes {m' : Nat} (hm : Covers m' 0xce7defff) {u₀ u₁ : State} (hu : Changes m' u₀
    u₁) : ChangesOut m' u₀ (execStewardWatchdogExpiry u₁) := by
  unfold execStewardWatchdogExpiry
  repeat' first
    | with_reducible assumption | with_reducible apply ChangesOut.next | with_reducible apply ChangesOut.ite
    | with_reducible refine askWarm_changes _ (hm.trans (by decide)) ?_
    | with_reducible refine pcFault_changes _ _ (hm.trans (by decide)) ?_ | with_reducible apply Changes.ite
    | (fail_if_no_progress (with_reducible refine Changes.put_efl (hm.bit (by decide)) ?_ ?_) <;> [(first | exact id | exact fun h0 => keysUp_tins _ _ h0 | exact fun h0 => keysUp_filter _ h0); skip])
    | (extract_lets +onlyGivenNames x; refine Changes.cut (a := Changes m' u₀ x) ?_ (fun hx => ?_) <;> [unfold x; clear_value x])
    | extract_lets +onlyGivenNames x | split

theorem resetCores_changes {m' : Nat} (hm : Covers m' 0xffffefff) {u₀ u₁ : State} (hu : Changes m' u₀ u₁) : Changes
    m' u₀ (resetCores u₁) := by
  unfold resetCores
  repeat' first
    | with_reducible assumption | with_reducible refine clearEngine_changes (hm.trans (by decide)) ?_
    | with_reducible refine engineLost_changes (hm.trans (by decide)) ?_
    | with_reducible refine resetPower_changes (hm.trans (by decide)) ?_
    | with_reducible refine bootDraft_changes _ (hm.trans (by decide)) ?_
    | with_reducible refine stewardBoot_changes (hm.trans (by decide)) ?_
    | (fail_if_no_progress (with_reducible refine Changes.put_drf (hm.bit (by decide)) ?_ ?_) <;> [(first | exact id | exact fun _ => keysUp_nil); skip])
    | (extract_lets +onlyGivenNames x; refine Changes.cut (a := Changes m' u₀ x) ?_ (fun hx => ?_) <;> [unfold x; clear_value x])
    | extract_lets +onlyGivenNames x

theorem goInert_changes {m' : Nat} (hm : Covers m' 0x43c2213) {u₀ u₁ : State} (hu : Changes m' u₀ u₁) : Changes m'
    u₀ (goInert u₁) := by
  unfold goInert
  repeat' first
    | with_reducible assumption | (fail_if_no_progress beta_reduce)
    | with_reducible refine drivePair_changes _ _ (hm.trans (by decide)) ?_
    | with_reducible refine ddrLost_changes (hm.trans (by decide)) ?_
    | with_reducible refine beginOff_changes _ (hm.trans (by decide)) ?_
    | (fail_if_no_progress (with_reducible refine Changes.put_cache (hm.bit (by decide)) ?_ ?_) <;> [(first | exact id | (intro h0; constructor <;> first | exact h0.channels | exact h0.poison | exact h0.map | exact h0.caps | rfl | exact tableOk_tput _ _ _ _ none h0.poison (by simp) | exact keysUp_tput _ _ _ h0.map | exact keysUp_tput _ _ _ h0.caps | simpa [modAt] using h0.channels)); skip])
    | (fail_if_no_progress (with_reducible refine Changes.put_pwr (hm.bit (by decide)) ?_ ?_) <;> [(first | exact id | exact fun _ => rfl | exact fun h0 => by simpa [modAt] using h0); skip])
    | (fail_if_no_progress with_reducible refine Changes.put_warm (hm.bit (by decide)) ?_)
    | (fail_if_no_progress with_reducible apply Changes.parts <;> first | exact hm.skip (by decide) | exact fun _ => rfl | exact id | (first | exact id | (intro h0; constructor <;> first | exact h0.channels | exact h0.poison | exact h0.map | exact h0.caps | rfl | exact tableOk_tput _ _ _ _ none h0.poison (by simp) | exact keysUp_tput _ _ _ h0.map | exact keysUp_tput _ _ _ h0.caps | simpa [modAt] using h0.channels)) | (first | exact id | exact fun _ => rfl | exact fun h0 => by simpa [modAt] using h0) | skip)
    | (extract_lets +onlyGivenNames x; refine Changes.cut (a := Changes m' u₀ x) ?_ (fun hx => ?_) <;> [unfold x; clear_value x])
    | extract_lets +onlyGivenNames x

theorem powerForBoot_changes {m' : Nat} (hm : Covers m' 0x43c2313) {u₀ u₁ : State} (hu : Changes m' u₀ u₁) : Changes
    m' u₀ (powerForBoot u₁) := by
  unfold powerForBoot
  repeat' first
    | with_reducible assumption | with_reducible refine goInert_changes (hm.trans (by decide)) ?_
    | with_reducible refine beginBoot_changes (hm.trans (by decide)) ?_
    | with_reducible refine beginSeq_changes _ (hm.trans (by decide)) ?_ | with_reducible apply Changes.ite
    | (fail_if_no_progress with_reducible refine Changes.put_warm (hm.bit (by decide)) ?_)
    | split

theorem configureEngine_changes {m' : Nat} (hm : Covers m' 0x4c200000) {u₀ u₁ : State} (hu : Changes m' u₀ u₁) :
    Changes m' u₀ (configureEngine u₁) := by
  unfold configureEngine
  repeat' first
    | with_reducible assumption | with_reducible refine startStream_changes (hm.trans (by decide)) ?_
    | with_reducible apply Changes.ite
    | (fail_if_no_progress (with_reducible refine Changes.put_drf (hm.bit (by decide)) ?_ ?_) <;> [(first | exact id | exact fun _ => keysUp_nil); skip])
    | split

theorem trainMemory_changes {m' : Nat} (hm : Covers m' 0x4c0c0021) {u₀ u₁ : State} (hu : Changes m' u₀ u₁) : Changes
    m' u₀ (trainMemory u₁) := by
  unfold trainMemory
  repeat' first
    | with_reducible assumption | (fail_if_no_progress beta_reduce)
    | with_reducible refine engineCond_changes _ _ (hm.trans (by decide)) ?_
    | (fail_if_no_progress (with_reducible refine Changes.put_cache (hm.bit (by decide)) ?_ ?_) <;> [(first | exact id | exact fun (h0 : CacheSound _) => ⟨h0.channels, h0.poison, h0.map, h0.caps⟩ | exact fun (h0 : CacheSound _) => ⟨h0.channels, rfl, h0.map, h0.caps⟩ | exact fun (h0 : CacheSound _) => ⟨h0.channels, h0.poison, rfl, h0.caps⟩ | exact fun (h0 : CacheSound _) => ⟨by simpa [modAt] using h0.channels, h0.poison, h0.map, h0.caps⟩ | exact fun (h0 : CacheSound _) => ⟨h0.channels, tableOk_tput _ _ _ _ none h0.poison (by simp), h0.map, h0.caps⟩ | exact fun (h0 : CacheSound _) => ⟨h0.channels, h0.poison, keysUp_tput _ _ _ h0.map, h0.caps⟩ | exact fun (h0 : CacheSound _) => ⟨h0.channels, h0.poison, h0.map, keysUp_tput _ _ _ h0.caps⟩ | exact fun (h0 : CacheSound _) => ⟨rfl, h0.poison, h0.map, h0.caps⟩ | exact fun _ => CacheSound.fresh rfl rfl rfl rfl); skip])
    | (extract_lets +onlyGivenNames x; refine Changes.cut (a := Changes m' u₀ x) ?_ (fun hx => ?_) <;> [unfold x; clear_value x])
    | extract_lets +onlyGivenNames x | split

theorem loadCopy_changes {m' : Nat} (hm : Covers m' 0x81000000) {u₀ u₁ : State} (hu : Changes m' u₀ u₁) : Changes m'
    u₀ (loadCopy u₁) := by
  unfold loadCopy
  repeat' first
    | with_reducible assumption | with_reducible refine loadTime_changes (hm.trans (by decide)) ?_
    | with_reducible apply Changes.ite
    | split

theorem restoreSetpoint_changes {m' : Nat} (hm : Covers m' 0x40000100) {u₀ u₁ : State} (hu : Changes m' u₀ u₁) :
    Changes m' u₀ (restoreSetpoint u₁) := by
  unfold restoreSetpoint
  repeat' first
    | with_reducible assumption | with_reducible refine normalSetpoint_changes (hm.trans (by decide)) ?_
    | with_reducible apply Changes.ite
    | split

theorem draftMonitors_keys (s : State) : keysUp none (draftMonitors s) = true := by
  unfold draftMonitors
  split
  · rfl
  · exact keysUp_indexed _ _ (by intro e x hx; simp only [Option.ite_none_left_eq_some, Option.ite_none_right_eq_some, Option.some.injEq] at hx; obtain ⟨_, rfl⟩ := hx; rfl)

theorem attachEngine_changes {m' : Nat} (hm : Covers m' 0xcf1c0d7b) {u₀ u₁ : State} (hu : Changes m' u₀ u₁) :
    Changes m' u₀ (attachEngine u₁) := by
  unfold attachEngine
  repeat' first
    | with_reducible assumption | (fail_if_no_progress beta_reduce)
    | with_reducible refine releaseDdr_changes (hm.trans (by decide)) ?_
    | with_reducible refine loadCopy_changes (hm.trans (by decide)) ?_
    | with_reducible refine trainMemory_changes (hm.trans (by decide)) ?_
    | with_reducible refine loadCaps_changes (hm.trans (by decide)) ?_
    | with_reducible refine engineFault_changes _ _ (hm.trans (by decide)) ?_
    | with_reducible refine sendQuery_changes (hm.trans (by decide)) ?_
    | with_reducible refine restoreSetpoint_changes (hm.trans (by decide)) ?_
    | with_reducible refine zeroMap_changes (hm.trans (by decide)) ?_
    | with_reducible refine scanMap_changes (hm.trans (by decide)) ?_
    | with_reducible refine recompute_changes (hm.trans (by decide)) ?_ | with_reducible apply Changes.ite
    | (with_reducible refine Changes.foldl ?_ (fun v y hv => ?_))
    | (fail_if_no_progress with_reducible refine Changes.put_warm (hm.bit (by decide)) ?_)
    | (fail_if_no_progress (with_reducible refine Changes.put_mon (hm.bit (by decide)) ?_ ?_) <;> [(first | exact id | exact fun _ => keysUp_nil | exact keysUp_tmod _ _ _ | exact keysUp_tput _ _ _ | exact fun h0 => keysUp_filter _ h0 | exact fun h0 => keysUp_map _ h0 (fun e => by try beta_reduce; (try split) <;> rfl) | exact fun _ => draftMonitors_keys _); skip])
    | (fail_if_no_progress with_reducible apply Changes.parts <;> first | exact hm.skip (by decide) | exact fun _ => rfl | exact id | (first | exact id | exact fun _ => keysUp_nil | exact keysUp_tmod _ _ _ | exact keysUp_tput _ _ _ | exact fun h0 => keysUp_filter _ h0 | exact fun h0 => keysUp_map _ h0 (fun e => by try beta_reduce; (try split) <;> rfl) | exact fun _ => draftMonitors_keys _) | skip)
    | (extract_lets +onlyGivenNames x; refine Changes.cut (a := Changes m' u₀ x) ?_ (fun hx => ?_) <;> [unfold x; clear_value x])
    | extract_lets +onlyGivenNames x | split

theorem fenceAtReset_changes {m' : Nat} (hm : Covers m' 0xce1c81f1) {u₀ u₁ : State} (hu : Changes m' u₀ u₁) :
    Changes m' u₀ (fenceAtReset u₁) := by
  unfold fenceAtReset
  repeat' first
    | with_reducible assumption | (fail_if_no_progress beta_reduce)
    | with_reducible refine unwrapKey_changes (hm.trans (by decide)) ?_
    | with_reducible refine fence_changes _ (hm.trans (by decide)) ?_
    | (fail_if_no_progress with_reducible refine Changes.put_stg (hm.bit (by decide)) ?_)
    | (fail_if_no_progress with_reducible refine Changes.put_vlt (hm.bit (by decide)) ?_)
    | (fail_if_no_progress with_reducible refine Changes.put_restore (hm.bit (by decide)) ?_)
    | (fail_if_no_progress with_reducible refine Changes.put_warm (hm.bit (by decide)) ?_)
    | (fail_if_no_progress with_reducible apply Changes.parts <;> first | exact hm.skip (by decide) | exact fun _ => rfl | exact id | skip)
    | (extract_lets +onlyGivenNames x; refine Changes.cut (a := Changes m' u₀ x) ?_ (fun hx => ?_) <;> [unfold x; clear_value x])
    | extract_lets +onlyGivenNames x

theorem evaluateAtReset_changes {m' : Nat} (hm : Covers m' 0xcefdefff) {u₀ u₁ : State} (hu : Changes m' u₀ u₁) :
    Changes m' u₀ (evaluateAtReset u₁) := by
  unfold evaluateAtReset
  repeat' first
    | with_reducible assumption | (fail_if_no_progress beta_reduce)
    | with_reducible refine recompute_changes (hm.trans (by decide)) ?_
    | with_reducible refine wipeAndKey_changes (hm.trans (by decide)) ?_ | with_reducible apply Changes.ite
    | (fail_if_no_progress with_reducible refine Changes.put_restore (hm.bit (by decide)) ?_)
    | (fail_if_no_progress with_reducible refine Changes.put_warm (hm.bit (by decide)) ?_)
    | (fail_if_no_progress with_reducible apply Changes.parts <;> first | exact hm.skip (by decide) | exact fun _ => rfl | exact id | skip)
    | (extract_lets +onlyGivenNames x; refine Changes.cut (a := Changes m' u₀ x) ?_ (fun hx => ?_) <;> [unfold x; clear_value x])
    | extract_lets +onlyGivenNames x | split

theorem stepEight_changes {m' : Nat} (hm : Covers m' 0xcefdefff) {u₀ u₁ : State} (hu : Changes m' u₀ u₁) : Changes
    m' u₀ (stepEight u₁) := by
  unfold stepEight
  repeat' first
    | with_reducible assumption | with_reducible refine fenceAtReset_changes (hm.trans (by decide)) ?_
    | with_reducible refine evaluateAtReset_changes (hm.trans (by decide)) ?_ | with_reducible apply Changes.ite
    | split

theorem restartHosts_changes {m' : Nat} (hm : Covers m' 0x42300) {u₀ u₁ : State} (hu : Changes m' u₀ u₁) : Changes
    m' u₀ (restartHosts u₁) := by
  unfold restartHosts
  repeat' first
    | with_reducible assumption | (fail_if_no_progress beta_reduce)
    | with_reducible refine beginSeq_changes _ (hm.trans (by decide)) ?_ | with_reducible apply Changes.ite
    | (fail_if_no_progress (with_reducible refine Changes.put_pwr (hm.bit (by decide)) ?_ ?_) <;> [(first | exact id | exact fun _ => rfl | exact fun h0 => by simpa [modAt] using h0); skip])
    | split

theorem finishWarm_changes {m' : Nat} (hm : Covers m' 0xce7c2f3d) {u₀ u₁ : State} (hu : Changes m' u₀ u₁) : Changes
    m' u₀ (finishWarm u₁) := by
  unfold finishWarm
  repeat' first
    | with_reducible assumption | with_reducible refine restartHosts_changes (hm.trans (by decide)) ?_
    | with_reducible refine confirmFirmware_changes (hm.trans (by decide)) ?_
    | with_reducible refine requestWarm_changes _ _ (hm.trans (by decide)) ?_ | with_reducible apply Changes.ite
    | (fail_if_no_progress with_reducible refine Changes.put_host (hm.bit (by decide)) ?_)
    | (fail_if_no_progress with_reducible refine Changes.put_warm (hm.bit (by decide)) ?_)
    | (fail_if_no_progress with_reducible apply Changes.parts <;> first | exact hm.skip (by decide) | exact fun _ => rfl | exact id | skip)
    | (extract_lets +onlyGivenNames x; refine Changes.cut (a := Changes m' u₀ x) ?_ (fun hx => ?_) <;> [unfold x; clear_value x])
    | (extract_lets +onlyGivenNames x; clear_value x) | extract_lets +onlyGivenNames x | split

theorem stepNine_changes {m' : Nat} (hm : Covers m' 0xce7caffd) {u₀ u₁ : State} (hu : Changes m' u₀ u₁) : Changes m'
    u₀ (stepNine u₁) := by
  unfold stepNine
  repeat' first
    | with_reducible assumption | with_reducible refine fenceAtReset_changes (hm.trans (by decide)) ?_
    | with_reducible refine finishWarm_changes (hm.trans (by decide)) ?_ | with_reducible apply Changes.ite | split

theorem checkAgain_changes {m' : Nat} (hm : Covers m' 0xce7defff) {u₀ u₁ : State} (hu : Changes m' u₀ u₁) : Changes
    m' u₀ (checkAgain u₁) := by
  unfold checkAgain
  repeat' first
    | with_reducible assumption | with_reducible refine protectSectors_changes (hm.trans (by decide)) ?_
    | with_reducible refine considerCand_changes _ (hm.trans (by decide)) ?_ | with_reducible apply Changes.ite
    | split

theorem stepFive_changes {m' : Nat} (hm : Covers m' 0xcf7defff) {u₀ u₁ : State} (hu : Changes m' u₀ u₁) : Changes m'
    u₀ (stepFive u₁) := by
  unfold stepFive
  repeat' first
    | with_reducible assumption | (fail_if_no_progress beta_reduce)
    | with_reducible refine clearEngine_changes (hm.trans (by decide)) ?_
    | with_reducible refine checkAgain_changes (hm.trans (by decide)) ?_ | with_reducible apply Changes.ite
    | (fail_if_no_progress with_reducible refine Changes.put_warm (hm.bit (by decide)) ?_)
    | (extract_lets +onlyGivenNames x; refine Changes.cut (a := Changes m' u₀ x) ?_ (fun hx => ?_) <;> [unfold x; clear_value x])
    | extract_lets +onlyGivenNames x | split

theorem stepSix_changes {m' : Nat} (hm : Covers m' 0xcf3c0d7b) {u₀ u₁ : State} (hu : Changes m' u₀ u₁) : Changes m'
    u₀ (stepSix u₁) := by
  unfold stepSix
  repeat' first
    | with_reducible assumption | with_reducible refine attachEngine_changes (hm.trans (by decide)) ?_
    | with_reducible refine configureEngine_changes (hm.trans (by decide)) ?_ | with_reducible apply Changes.ite
    | split

theorem advanceWarm_changes {m' : Nat} (hm : Covers m' 0xffffefff) {u₀ u₁ : State} (hu : Changes m' u₀ u₁) : Changes
    m' u₀ (advanceWarm u₁) := by
  unfold advanceWarm
  repeat' first
    | with_reducible assumption | (fail_if_no_progress beta_reduce)
    | with_reducible refine resetCores_changes (hm.trans (by decide)) ?_
    | with_reducible refine holdDdr_changes (hm.trans (by decide)) ?_
    | with_reducible refine powerForBoot_changes (hm.trans (by decide)) ?_
    | with_reducible refine stepFive_changes (hm.trans (by decide)) ?_
    | with_reducible refine stepSix_changes (hm.trans (by decide)) ?_
    | with_reducible refine stepEight_changes (hm.trans (by decide)) ?_
    | with_reducible refine stepNine_changes (hm.trans (by decide)) ?_ | with_reducible apply Changes.ite
    | (fail_if_no_progress with_reducible refine Changes.put_stg (hm.bit (by decide)) ?_)
    | (fail_if_no_progress with_reducible refine Changes.put_warm (hm.bit (by decide)) ?_)
    | (fail_if_no_progress with_reducible apply Changes.parts <;> first | exact hm.skip (by decide) | exact fun _ => rfl | exact id | skip)
    | (extract_lets +onlyGivenNames x; refine Changes.cut (a := Changes m' u₀ x) ?_ (fun hx => ?_) <;> [unfold x; clear_value x])
    | extract_lets +onlyGivenNames x | split

/-! ### RegMap -/

theorem readEffects_changes (m : Master) (addr : Nat) {m' : Nat} (hm : Covers m' 0xce7defff) {u₀ u₁ : State} (hu :
    Changes m' u₀ u₁) : Changes m' u₀ (readEffects m addr u₁) := by
  unfold readEffects
  repeat' first
    | with_reducible assumption | (fail_if_no_progress beta_reduce)
    | with_reducible refine nextFree_changes (hm.trans (by decide)) ?_
    | with_reducible refine busError_changes _ (hm.trans (by decide)) ?_
    | with_reducible refine accessFault_changes _ _ _ (hm.trans (by decide)) ?_
    | with_reducible refine eccEffects_changes _ _ (hm.trans (by decide)) ?_ | with_reducible apply Changes.ite
    | (extract_lets +onlyGivenNames x; refine Changes.cut (a := Changes m' u₀ x) ?_ (fun hx => ?_) <;> [unfold x; clear_value x])
    | extract_lets +onlyGivenNames x | split

theorem readNarrow_changes (m : Master) (addr : Nat) {m' : Nat} (hm : Covers m' 0xde7defff) {u₀ u₁ : State} (hu :
    Changes m' u₀ u₁) : Changes m' u₀ (readNarrow m addr u₁).2 := by
  unfold readNarrow
  repeat' first
    | with_reducible assumption | with_reducible refine readEffects_changes _ _ (hm.trans (by decide)) ?_
    | with_reducible apply Changes.ite
    | (fail_if_no_progress with_reducible refine Changes.put_port (hm.bit (by decide)) ?_)
    | (extract_lets +onlyGivenNames x; refine Changes.cut (a := Changes m' u₀ x) ?_ (fun hx => ?_) <;> [unfold x; clear_value x])
    | extract_lets +onlyGivenNames x | split

theorem readWide_changes (m : Master) (addr : Nat) {m' : Nat} (hm : Covers m' 0xce7defff) {u₀ u₁ : State} (hu :
    Changes m' u₀ u₁) : Changes m' u₀ (readWide m addr u₁).2 := by
  unfold readWide
  repeat' first
    | with_reducible assumption | with_reducible refine readEffects_changes _ _ (hm.trans (by decide)) ?_
    | with_reducible apply Changes.ite | split

theorem readAt_changes (m : Master) (addr : Nat) (wide : Bool) {m' : Nat} (hm : Covers m' 0xde7defff) {u₀ u₁ :
    State} (hu : Changes m' u₀ u₁) : Changes m' u₀ (readAt m addr wide u₁).2 := by
  unfold readAt
  repeat' first
    | with_reducible assumption | with_reducible refine readNarrow_changes _ _ (hm.trans (by decide)) ?_
    | with_reducible refine readWide_changes _ _ (hm.trans (by decide)) ?_ | with_reducible apply Changes.ite
    | split

theorem writeVlt_changes (o v : Nat) {m' : Nat} (hm : Covers m' 0xb0) {u₀ u₁ : State} (hu : Changes m' u₀ u₁) :
    Changes m' u₀ (writeVlt o v u₁) := by
  unfold writeVlt
  repeat' first
    | with_reducible assumption
    | (fail_if_no_progress with_reducible refine Changes.put_stg (hm.bit (by decide)) ?_)
    | (fail_if_no_progress with_reducible refine Changes.put_vlt (hm.bit (by decide)) ?_)
    | (fail_if_no_progress with_reducible refine Changes.put_restore (hm.bit (by decide)) ?_)
    | (fail_if_no_progress with_reducible apply Changes.parts <;> first | exact hm.skip (by decide) | exact fun _ => rfl | exact id | skip)
    | (extract_lets +onlyGivenNames x; refine Changes.cut (a := Changes m' u₀ x) ?_ (fun hx => ?_) <;> [unfold x; clear_value x])
    | extract_lets +onlyGivenNames x | split

theorem writeNch_changes (o v : Nat) {m' : Nat} (hm : Covers m' 0x8) {u₀ u₁ : State} (hu : Changes m' u₀ u₁) :
    Changes m' u₀ (writeNch o v u₁) := by
  unfold writeNch
  repeat' first
    | with_reducible assumption | (fail_if_no_progress beta_reduce)
    | with_reducible refine modChannel_changes _ _ (hm.trans (by decide)) ?_ | with_reducible apply Changes.ite
    | (fail_if_no_progress (with_reducible refine Changes.put_nand (hm.bit (by decide)) ?_ ?_) <;> [(first | exact id | exact fun (h0 : NandSound _) => ⟨h0.channels, h0.targets, h0.blocks⟩ | exact fun (h0 : NandSound _) => ⟨keysUp_tmod _ _ _ h0.channels, h0.targets, h0.blocks⟩ | exact fun (h0 : NandSound _) => ⟨h0.channels, keysUp_tmod _ _ _ h0.targets, h0.blocks⟩ | exact fun (h0 : NandSound _) => ⟨h0.channels, h0.targets, keysUp_tmod _ _ _ h0.blocks⟩ | exact fun (h0 : NandSound _) => ⟨h0.channels, h0.targets, keysUp_tins _ _ h0.blocks⟩ | exact fun (h0 : NandSound _) => ⟨h0.channels, h0.targets, keysUp_map _ h0.blocks (fun e => by try beta_reduce; (try split) <;> rfl)⟩ | exact fun (h0 : NandSound _) => ⟨h0.channels, keysUp_filter _ h0.targets, h0.blocks⟩); skip])
    | (extract_lets +onlyGivenNames x; refine Changes.cut (a := Changes m' u₀ x) ?_ (fun hx => ?_) <;> [unfold x; clear_value x])
    | extract_lets +onlyGivenNames x | split

theorem writeDch_changes (o v : Nat) {m' : Nat} (hm : Covers m' 0x1) {u₀ u₁ : State} (hu : Changes m' u₀ u₁) :
    Changes m' u₀ (writeDch o v u₁) := by
  unfold writeDch
  repeat' first
    | with_reducible assumption | (fail_if_no_progress beta_reduce) | with_reducible apply Changes.ite
    | (fail_if_no_progress (with_reducible refine Changes.put_cache (hm.bit (by decide)) ?_ ?_) <;> [(first | exact id | exact fun (h0 : CacheSound _) => ⟨h0.channels, h0.poison, h0.map, h0.caps⟩ | exact fun (h0 : CacheSound _) => ⟨h0.channels, rfl, h0.map, h0.caps⟩ | exact fun (h0 : CacheSound _) => ⟨h0.channels, h0.poison, rfl, h0.caps⟩ | exact fun (h0 : CacheSound _) => ⟨by simpa [modAt] using h0.channels, h0.poison, h0.map, h0.caps⟩ | exact fun (h0 : CacheSound _) => ⟨h0.channels, tableOk_tput _ _ _ _ none h0.poison (by simp), h0.map, h0.caps⟩ | exact fun (h0 : CacheSound _) => ⟨h0.channels, h0.poison, keysUp_tput _ _ _ h0.map, h0.caps⟩ | exact fun (h0 : CacheSound _) => ⟨h0.channels, h0.poison, h0.map, keysUp_tput _ _ _ h0.caps⟩ | exact fun (h0 : CacheSound _) => ⟨rfl, h0.poison, h0.map, h0.caps⟩ | exact fun _ => CacheSound.fresh rfl rfl rfl rfl); skip])
    | (extract_lets +onlyGivenNames x; refine Changes.cut (a := Changes m' u₀ x) ?_ (fun hx => ?_) <;> [unfold x; clear_value x])
    | extract_lets +onlyGivenNames x | split

theorem writeCxl_changes (o v : Nat) {m' : Nat} (hm : Covers m' 0x400) {u₀ u₁ : State} (hu : Changes m' u₀ u₁) :
    Changes m' u₀ (writeCxl o v u₁) := by
  unfold writeCxl
  repeat' first
    | with_reducible assumption
    | (fail_if_no_progress with_reducible refine Changes.put_host (hm.bit (by decide)) ?_)
    | extract_lets +onlyGivenNames x | split

theorem writeCrl_changes (o v : Nat) {m' : Nat} (hm : Covers m' 0x100) {u₀ u₁ : State} (hu : Changes m' u₀ u₁) :
    Changes m' u₀ (writeCrl o v u₁) := by
  unfold writeCrl
  repeat' first
    | with_reducible assumption
    | (fail_if_no_progress with_reducible refine Changes.put_rail (hm.bit (by decide)) ?_)
    | extract_lets +onlyGivenNames x | split

theorem writeHdl_changes (e : End) (o v : Nat) {m' : Nat} (hm : Covers m' 0xc000000) {u₀ u₁ : State} (hu : Changes
    m' u₀ u₁) : Changes m' u₀ (writeHdl e o v u₁) := by
  unfold writeHdl
  repeat' first
    | with_reducible assumption | (fail_if_no_progress beta_reduce)
    | (with_reducible refine setHdl_changes _ _ (hm.trans (by decide)) (fun h hh => by (first | exact ⟨hh.unacked, hh.txSeq, hh.rxSeq⟩ | exact LinkSound.fresh rfl rfl rfl | exact ⟨by simpa using hh.unacked, hh.txSeq, hh.rxSeq⟩ | exact ⟨hh.unacked, hh.txSeq, Nat.mod_lt _ (by decide)⟩ | exact ⟨Nat.le_trans (ackFrames_length _ _) hh.unacked, hh.txSeq, hh.rxSeq⟩)) ?_)
    | extract_lets +onlyGivenNames x | split

theorem writeMon_changes (o v : Nat) {m' : Nat} (hm : Covers m' 0x2000000) {u₀ u₁ : State} (hu : Changes m' u₀ u₁) :
    Changes m' u₀ (writeMon o v u₁) := by
  unfold writeMon
  repeat' first
    | with_reducible assumption | with_reducible refine clearMonitors_changes (hm.trans (by decide)) ?_
    | with_reducible refine writeMonCfg_changes _ _ (hm.trans (by decide)) ?_ | with_reducible apply Changes.ite
    | (fail_if_no_progress (with_reducible refine Changes.put_mon (hm.bit (by decide)) ?_ ?_) <;> [(first | exact id | exact fun _ => keysUp_nil | exact keysUp_tmod _ _ _ | exact keysUp_tput _ _ _ | exact fun h0 => keysUp_filter _ h0 | exact fun h0 => keysUp_map _ h0 (fun e => by try beta_reduce; (try split) <;> rfl)); skip])
    | (extract_lets +onlyGivenNames x; refine Changes.cut (a := Changes m' u₀ x) ?_ (fun hx => ?_) <;> [unfold x; clear_value x])
    | extract_lets +onlyGivenNames x | split

theorem writeEngine_changes (addr v : Nat) {m' : Nat} (hm : Covers m' 0xe0005b9) {u₀ u₁ : State} (hu : Changes m' u₀
    u₁) : Changes m' u₀ (writeEngine addr v u₁) := by
  unfold writeEngine
  repeat' first
    | with_reducible assumption | with_reducible refine writeVlt_changes _ _ (hm.trans (by decide)) ?_
    | with_reducible refine writeNch_changes _ _ (hm.trans (by decide)) ?_
    | with_reducible refine writeDch_changes _ _ (hm.trans (by decide)) ?_
    | with_reducible refine writeCxl_changes _ _ (hm.trans (by decide)) ?_
    | with_reducible refine writeCrl_changes _ _ (hm.trans (by decide)) ?_
    | with_reducible refine writeHdl_changes _ _ _ (hm.trans (by decide)) ?_
    | with_reducible refine writeMon_changes _ _ (hm.trans (by decide)) ?_ | with_reducible apply Changes.ite
    | (fail_if_no_progress with_reducible refine Changes.put_stg (hm.bit (by decide)) ?_)
    | (extract_lets +onlyGivenNames x; refine Changes.cut (a := Changes m' u₀ x) ?_ (fun hx => ?_) <;> [unfold x; clear_value x])
    | extract_lets +onlyGivenNames x | split

theorem writeDom_changes (o v : Nat) {m' : Nat} (hm : Covers m' 0x2000) {u₀ u₁ : State} (hu : Changes m' u₀ u₁)
    : Changes m' u₀ (writeDom o v u₁) := by
  unfold writeDom
  repeat' first
    | with_reducible assumption | (fail_if_no_progress beta_reduce)
    | with_reducible refine modDom_changes _ _ (hm.trans (by decide)) ?_
    | with_reducible refine railFault_changes _ (hm.trans (by decide)) ?_ | with_reducible apply Changes.ite
    | extract_lets +onlyGivenNames x | split

theorem writeExer_changes (v : Nat) {m' : Nat} (hm : Covers m' 0xce3defff) {u₀ u₁ : State} (hu : Changes m' u₀ u₁) :
    Changes m' u₀ (writeExer v u₁) := by
  unfold writeExer
  repeat' first
    | with_reducible assumption | with_reducible refine exerciseGrant_changes _ (hm.trans (by decide)) ?_
    | with_reducible apply Changes.ite
    | (fail_if_no_progress with_reducible refine Changes.put_chg (hm.bit (by decide)) ?_)
    | (extract_lets +onlyGivenNames x; refine Changes.cut (a := Changes m' u₀ x) ?_ (fun hx => ?_) <;> [unfold x; clear_value x])
    | extract_lets +onlyGivenNames x | split

theorem writeSrcStatus_changes (m : Master) (n v : Nat) {m' : Nat} (hm : Covers m' 0x42304) {u₀ u₁ : State} (hu :
    Changes m' u₀ u₁) : Changes m' u₀ (writeSrcStatus m n v u₁) := by
  unfold writeSrcStatus
  repeat' first
    | with_reducible assumption | (fail_if_no_progress beta_reduce)
    | with_reducible refine modSrc_changes _ _ (hm.trans (by decide)) ?_
    | with_reducible refine clearLatched_changes _ _ (hm.trans (by decide)) ?_ | with_reducible apply Changes.ite
    | (extract_lets +onlyGivenNames x; refine Changes.cut (a := Changes m' u₀ x) ?_ (fun hx => ?_) <;> [unfold x; clear_value x])
    | extract_lets +onlyGivenNames x | split

theorem writeFlt_changes (m : Master) (o v : Nat) {m' : Nat} (hm : Covers m' 0x42304) {u₀ u₁ : State} (hu : Changes
    m' u₀ u₁) : Changes m' u₀ (writeFlt m o v u₁) := by
  unfold writeFlt
  repeat' first
    | with_reducible assumption | with_reducible refine writeSrcStatus_changes _ _ _ (hm.trans (by decide)) ?_
    | with_reducible refine clearFirst_changes _ (hm.trans (by decide)) ?_ | with_reducible apply Changes.ite
    | (fail_if_no_progress (with_reducible refine Changes.put_flt (hm.bit (by decide)) ?_ ?_) <;> [(first | exact id | exact keysUp_tmod _ _ _); skip])
    | extract_lets +onlyGivenNames x | split

theorem writeEfl_changes (o v : Nat) {m' : Nat} (hm : Covers m' 0x400000) {u₀ u₁ : State} (hu : Changes m' u₀ u₁) :
    Changes m' u₀ (writeEfl o v u₁) := by
  unfold writeEfl
  repeat' first
    | with_reducible assumption
    | (fail_if_no_progress (with_reducible refine Changes.put_efl (hm.bit (by decide)) ?_ ?_) <;> [(first | exact id | exact fun h0 => keysUp_tins _ _ h0 | exact fun h0 => keysUp_filter _ h0); skip])
    | extract_lets +onlyGivenNames x | split

theorem writeLog_changes (o v : Nat) {m' : Nat} (hm : Covers m' 0x4) {u₀ u₁ : State} (hu : Changes m' u₀ u₁) :
    Changes m' u₀ (writeLog o v u₁) := by
  unfold writeLog
  repeat' first
    | with_reducible assumption | with_reducible refine logMarkOp_changes _ (hm.trans (by decide)) ?_
    | with_reducible apply Changes.ite
    | (fail_if_no_progress (with_reducible refine Changes.put_log (hm.bit (by decide)) ?_ ?_) <;> [(first | exact id | exact fun (h0 : LogSound _) => ⟨h0.ring, h0.head, h0.seq⟩ | exact fun _ => LogSound.fresh rfl rfl rfl); skip])
    | extract_lets +onlyGivenNames x | split

theorem writePctrl_changes (m : Master) (addr v : Nat) {m' : Nat} (hm : Covers m' 0xce7defff) {u₀ u₁ : State} (hu :
    Changes m' u₀ u₁) : Changes m' u₀ (writePctrl m addr v u₁) := by
  unfold writePctrl
  repeat' first
    | with_reducible assumption | with_reducible refine writeDom_changes _ _ (hm.trans (by decide)) ?_
    | with_reducible refine writeExer_changes _ (hm.trans (by decide)) ?_
    | with_reducible refine writeFlt_changes _ _ _ (hm.trans (by decide)) ?_
    | with_reducible refine writeEfl_changes _ _ (hm.trans (by decide)) ?_
    | with_reducible refine writeHdl_changes _ _ _ (hm.trans (by decide)) ?_
    | with_reducible refine writeLog_changes _ _ (hm.trans (by decide)) ?_ | with_reducible apply Changes.ite
    | (fail_if_no_progress with_reducible refine Changes.put_chg (hm.bit (by decide)) ?_)
    | (fail_if_no_progress (with_reducible refine Changes.put_drf (hm.bit (by decide)) ?_ ?_) <;> [(first | exact id | exact fun _ => keysUp_nil); skip])
    | (fail_if_no_progress with_reducible apply Changes.parts <;> first | exact hm.skip (by decide) | exact fun _ => keysUp_nil | exact fun _ => rfl | exact id | skip)
    | (extract_lets +onlyGivenNames x; refine Changes.cut (a := Changes m' u₀ x) ?_ (fun hx => ?_) <;> [unfold x; clear_value x])
    | extract_lets +onlyGivenNames x | split

theorem commit64_changes (m : Master) (addr v : Nat) {m' : Nat} (hm : Covers m' 0x1600000) {u₀ u₁ : State} (hu :
    Changes m' u₀ u₁) : Changes m' u₀ (commit64 m addr v u₁) := by
  unfold commit64
  repeat' first
    | with_reducible assumption | with_reducible refine candData_changes _ _ (hm.trans (by decide)) ?_
    | with_reducible apply Changes.ite
    | (fail_if_no_progress (with_reducible refine Changes.put_efl (hm.bit (by decide)) ?_ ?_) <;> [(first | exact id | exact fun h0 => keysUp_tins _ _ h0 | exact fun h0 => keysUp_filter _ h0); skip])
    | (fail_if_no_progress (with_reducible refine Changes.put_tbs (hm.bit (by decide)) ?_ ?_) <;> [(exact id); skip])
    | (fail_if_no_progress with_reducible apply Changes.parts <;> first | exact hm.skip (by decide) | exact fun _ => rfl | exact id | exact keysUp_tput _ _ _ | skip)
    | extract_lets +onlyGivenNames x | split

theorem writeHalf_changes (m : Master) (addr v : Nat) {m' : Nat} (hm : Covers m' 0x11600000) {u₀ u₁ : State} (hu :
    Changes m' u₀ u₁) : Changes m' u₀ (writeHalf m addr v u₁) := by
  unfold writeHalf
  repeat' first
    | with_reducible assumption | with_reducible refine commit64_changes _ _ _ (hm.trans (by decide)) ?_
    | with_reducible apply Changes.ite
    | (fail_if_no_progress with_reducible refine Changes.put_port (hm.bit (by decide)) ?_)
    | (extract_lets +onlyGivenNames x; refine Changes.cut (a := Changes m' u₀ x) ?_ (fun hx => ?_) <;> [unfold x; clear_value x])
    | extract_lets +onlyGivenNames x | split

theorem pairFail_changes (m : Master) (addr : Nat) {m' : Nat} (hm : Covers m' 0xce3defff) {u₀ u₁ : State} (hu :
    Changes m' u₀ u₁) : Changes m' u₀ (pairFail m addr u₁) := by
  unfold pairFail
  repeat' first
    | with_reducible assumption | with_reducible refine engineFault_changes _ _ (hm.trans (by decide)) ?_
    | with_reducible refine accessFault_changes _ _ _ (hm.trans (by decide)) ?_ | split

theorem writeDrfCtl_changes (m : Master) (v : Nat) {m' : Nat} (hm : Covers m' 0xce7defff) {u₀ u₁ : State} (hu :
    Changes m' u₀ u₁) : Changes m' u₀ (writeDrfCtl m v u₁) := by
  unfold writeDrfCtl
  repeat' first
    | with_reducible assumption | (fail_if_no_progress beta_reduce)
    | with_reducible refine submitCand_changes _ (hm.trans (by decide)) ?_
    | with_reducible refine eraseCand_changes _ (hm.trans (by decide)) ?_
    | with_reducible refine withdrawByHost_changes _ (hm.trans (by decide)) ?_
    | with_reducible refine activateByHost_changes _ (hm.trans (by decide)) ?_
    | with_reducible refine withDrfCtl_changes _ (hm.trans (by decide)) ?_ | with_reducible apply Changes.ite
    | (extract_lets +onlyGivenNames x; refine Changes.cut (a := Changes m' u₀ x) ?_ (fun hx => ?_) <;> [unfold x; clear_value x])
    | extract_lets +onlyGivenNames x | split

theorem writeEflCtl_changes (m : Master) (v : Nat) {m' : Nat} (hm : Covers m' 0xee7defff) {u₀ u₁ : State} (hu :
    Changes m' u₀ u₁) : Changes m' u₀ (writeEflCtl m v u₁) := by
  unfold writeEflCtl
  repeat' first
    | with_reducible assumption | (fail_if_no_progress beta_reduce)
    | with_reducible refine denied_changes _ (hm.trans (by decide)) ?_
    | with_reducible refine lockWp_changes _ (hm.trans (by decide)) ?_
    | with_reducible refine eflProgramOp_changes _ (hm.trans (by decide)) ?_
    | with_reducible refine eflEraseOp_changes _ (hm.trans (by decide)) ?_
    | with_reducible refine eflSuspendOp_changes _ (hm.trans (by decide)) ?_
    | with_reducible refine eflResumeOp_changes _ (hm.trans (by decide)) ?_
    | with_reducible refine fwEraseOp_changes _ (hm.trans (by decide)) ?_
    | with_reducible refine fwSubmitOp_changes _ (hm.trans (by decide)) ?_
    | with_reducible refine withOp_changes _ (hm.trans (by decide)) ?_ | with_reducible apply Changes.ite
    | (extract_lets +onlyGivenNames x; refine Changes.cut (a := Changes m' u₀ x) ?_ (fun hx => ?_) <;> [unfold x; clear_value x])
    | extract_lets +onlyGivenNames x | split

theorem writeLcsCtl_changes (m : Master) (v : Nat) {m' : Nat} (hm : Covers m' 0xce8004b5) {u₀ u₁ : State} (hu :
    Changes m' u₀ u₁) : Changes m' u₀ (writeLcsCtl m v u₁) := by
  unfold writeLcsCtl
  repeat' first
    | with_reducible assumption | with_reducible refine requestLifeCycle_changes _ _ _ (hm.trans (by decide)) ?_
    | with_reducible refine nextFree_changes (hm.trans (by decide)) ?_ | with_reducible apply Changes.ite
    | (fail_if_no_progress with_reducible refine Changes.put_lcs (hm.bit (by decide)) ?_)
    | split

theorem commitPair_changes (m : Master) (addr : Nat) (v : Nat) {m' : Nat} (hm : Covers m' 0xeefdefff) {u₀ u₁ :
    State} (hu : Changes m' u₀ u₁) : Changes m' u₀ (commitPair m addr v u₁) := by
  unfold commitPair
  repeat' first
    | with_reducible assumption | with_reducible refine recoverOp_changes _ (hm.trans (by decide)) ?_
    | with_reducible refine writeDrfCtl_changes _ _ (hm.trans (by decide)) ?_
    | with_reducible refine writeEflCtl_changes _ _ (hm.trans (by decide)) ?_
    | with_reducible refine writeLcsCtl_changes _ _ (hm.trans (by decide)) ?_
    | with_reducible refine raiseSeverity_changes _ _ _ _ (hm.trans (by decide)) ?_ | with_reducible apply Changes.ite
    | (fail_if_no_progress (with_reducible refine Changes.put_cache (hm.bit (by decide)) ?_ ?_) <;> [(first | exact id | (intro h0; constructor <;> first | exact h0.channels | exact h0.poison | exact h0.map | exact h0.caps | rfl | exact tableOk_tput _ _ _ _ none h0.poison (by simp) | exact keysUp_tput _ _ _ h0.map | exact keysUp_tput _ _ _ h0.caps | simpa [modAt] using h0.channels)); skip])
    | (fail_if_no_progress (with_reducible refine Changes.put_flt (hm.bit (by decide)) ?_ ?_) <;> [(first | exact id | exact fun h0 => keysUp_tmod _ _ _ h0); skip])
    | split

theorem writePaired_changes (m : Master) (addr v : Nat) {m' : Nat} (hm : Covers m' 0xfefdefff) {u₀ u₁ : State} (hu :
    Changes m' u₀ u₁) : Changes m' u₀ (writePaired m addr v u₁) := by
  unfold writePaired
  repeat' first
    | with_reducible assumption | (fail_if_no_progress beta_reduce)
    | with_reducible refine commitPair_changes _ _ _ (hm.trans (by decide)) ?_
    | with_reducible refine pairFail_changes _ _ (hm.trans (by decide)) ?_ | with_reducible apply Changes.ite
    | (fail_if_no_progress with_reducible refine Changes.put_port (hm.bit (by decide)) ?_)
    | (extract_lets +onlyGivenNames x; refine Changes.cut (a := Changes m' u₀ x) ?_ (fun hx => ?_) <;> [unfold x; clear_value x])
    | extract_lets +onlyGivenNames x | split

theorem writeAt_changes (m : Master) (addr : Nat) (wide : Bool) (v : Nat) {m' : Nat} (hm : Covers m' 0xfffdefff) {u₀
    u₁ : State} (hu : Changes m' u₀ u₁) : Changes m' u₀ (writeAt m addr wide v u₁) := by
  unfold writeAt
  repeat' first
    | with_reducible assumption | with_reducible refine denied_changes _ (hm.trans (by decide)) ?_
    | with_reducible refine commit64_changes _ _ _ (hm.trans (by decide)) ?_
    | with_reducible refine writePaired_changes _ _ _ (hm.trans (by decide)) ?_
    | with_reducible refine writeHalf_changes _ _ _ (hm.trans (by decide)) ?_
    | with_reducible refine writeEngine_changes _ _ (hm.trans (by decide)) ?_
    | with_reducible refine writePctrl_changes _ _ _ (hm.trans (by decide)) ?_ | with_reducible apply Changes.ite
    | (fail_if_no_progress with_reducible refine Changes.put_port (hm.bit (by decide)) ?_)
    | split

theorem bumpTag_changes (e : End) {m' : Nat} (hm : Covers m' 0x10000000) {u₀ u₁ : State} (hu : Changes m' u₀ u₁) :
    Changes m' u₀ (bumpTag e u₁) := by
  unfold bumpTag
  repeat' first
    | with_reducible assumption
    | (fail_if_no_progress with_reducible refine Changes.put_port (hm.bit (by decide)) ?_)
    | extract_lets +onlyGivenNames x | split

theorem metUnreachable_changes (m : Master) {m' : Nat} (hm : Covers m' 0x2c000000) {u₀ u₁ : State} (hu : Changes m'
    u₀ u₁) : Changes m' u₀ (metUnreachable m u₁) := by
  unfold metUnreachable
  repeat' first
    | with_reducible assumption | with_reducible refine countUnreached_changes _ _ _ (hm.trans (by decide)) ?_

theorem advanceAddr_changes (n : Nat) {m' : Nat} (hm : Covers m' 0x20000000) {u₀ u₁ : State} (hu : Changes m' u₀ u₁)
    : Changes m' u₀ (advanceAddr n u₁) := by
  unfold advanceAddr
  repeat' first
    | with_reducible assumption | with_reducible apply Changes.ite
    | (fail_if_no_progress with_reducible refine Changes.put_smb (hm.bit (by decide)) ?_)
    | extract_lets +onlyGivenNames x | split

theorem smbAnswer_changes (code : Nat) (l : List Byte) {m' : Nat} (hm : Covers m' 0x40000000) {u₀ u₁ : State} (hu :
    Changes m' u₀ u₁) : Changes m' u₀ (smbAnswer code l u₁) := by
  unfold smbAnswer
  repeat' first
    | with_reducible assumption | with_reducible refine emit_changes _ (hm.trans (by decide)) ?_

theorem answerAccess_changes (m : Master) (wide : Bool) (be : BitVec 8) (v : Nat) {m' : Nat} (hm : Covers m'
    0x60000000) {u₀ u₁ : State} (hu : Changes m' u₀ u₁) : Changes m' u₀ (answerAccess m wide be v u₁) := by
  unfold answerAccess
  repeat' first
    | with_reducible assumption | (fail_if_no_progress beta_reduce)
    | with_reducible refine advanceAddr_changes _ (hm.trans (by decide)) ?_
    | with_reducible refine smbAnswer_changes _ _ (hm.trans (by decide)) ?_
    | with_reducible refine emit_changes _ (hm.trans (by decide)) ?_
    | (extract_lets +onlyGivenNames x; refine Changes.cut (a := Changes m' u₀ x) ?_ (fun hx => ?_) <;> [unfold x; clear_value x])
    | extract_lets +onlyGivenNames x | split

theorem readLost_changes (m : Master) (wide : Bool) (be : BitVec 8) {m' : Nat} (hm : Covers m' 0x6c000000) {u₀ u₁ :
    State} (hu : Changes m' u₀ u₁) : Changes m' u₀ (readLost m wide be u₁) := by
  unfold readLost
  repeat' first
    | with_reducible assumption | with_reducible refine answerAccess_changes _ _ _ _ (hm.trans (by decide)) ?_
    | with_reducible refine metUnreachable_changes _ (hm.trans (by decide)) ?_

theorem issueWrite_changes (m : Master) (addr : Nat) (wide : Bool) (v : Nat) {m' : Nat} (hm : Covers m' 0xfffdefff)
    {u₀ u₁ : State} (hu : Changes m' u₀ u₁) : Changes m' u₀ (issueWrite m addr wide v u₁) := by
  unfold issueWrite
  repeat' first
    | with_reducible assumption | with_reducible refine writeAt_changes _ _ _ _ (hm.trans (by decide)) ?_
    | with_reducible refine metUnreachable_changes _ (hm.trans (by decide)) ?_
    | with_reducible refine bumpTag_changes _ (hm.trans (by decide)) ?_
    | with_reducible refine sendFrame_changes _ _ (hm.trans (by decide)) ?_ | with_reducible apply Changes.ite
    | (extract_lets +onlyGivenNames x; refine Changes.cut (a := Changes m' u₀ x) ?_ (fun hx => ?_) <;> [unfold x; clear_value x])
    | extract_lets +onlyGivenNames x | split

theorem issueRead_changes (m : Master) (addr : Nat) (wide : Bool) (be : BitVec 8) {m' : Nat} (hm : Covers m'
    0xfe7defff) {u₀ u₁ : State} (hu : Changes m' u₀ u₁) : Changes m' u₀ (issueRead m addr wide be u₁) := by
  unfold issueRead
  repeat' first
    | with_reducible assumption | with_reducible refine emit_changes _ (hm.trans (by decide)) ?_
    | with_reducible refine readAt_changes _ _ _ (hm.trans (by decide)) ?_
    | with_reducible refine answerAccess_changes _ _ _ _ (hm.trans (by decide)) ?_
    | with_reducible refine readLost_changes _ _ _ (hm.trans (by decide)) ?_
    | with_reducible refine bumpTag_changes _ (hm.trans (by decide)) ?_
    | with_reducible refine sendFrame_changes _ _ (hm.trans (by decide)) ?_ | with_reducible apply Changes.ite
    | (fail_if_no_progress with_reducible refine Changes.put_port (hm.bit (by decide)) ?_)
    | (extract_lets +onlyGivenNames x; refine Changes.cut (a := Changes m' u₀ x) ?_ (fun hx => ?_) <;> [unfold x; clear_value x])
    | extract_lets +onlyGivenNames x | split

theorem execRegisterWrite_changes (m : Master) (addr : Nat) (wide : Bool) (value : DWord) (be : BitVec 8) {m' : Nat}
    (hm : Covers m' 0xfffdefff) {u₀ u₁ : State} (hu : Changes m' u₀ u₁) : ChangesOut m' u₀ (execRegisterWrite m addr
    wide value be u₁) := by
  unfold execRegisterWrite
  repeat' first
    | with_reducible assumption | with_reducible apply ChangesOut.next | with_reducible apply ChangesOut.ite
    | with_reducible apply ChangesOut.fault
    | with_reducible refine issueWrite_changes _ _ _ _ (hm.trans (by decide)) ?_ | with_reducible apply Changes.ite
    | split

theorem execRegisterRead_changes (m : Master) (addr : Nat) (wide : Bool) (be : BitVec 8) {m' : Nat} (hm : Covers m'
    0xfe7defff) {u₀ u₁ : State} (hu : Changes m' u₀ u₁) : ChangesOut m' u₀ (execRegisterRead m addr wide be u₁) :=
    by
  unfold execRegisterRead
  repeat' first
    | with_reducible assumption | with_reducible apply ChangesOut.next | with_reducible apply ChangesOut.ite
    | with_reducible apply ChangesOut.fault
    | with_reducible refine issueRead_changes _ _ _ _ (hm.trans (by decide)) ?_ | with_reducible apply Changes.ite
    | split

theorem execRegisterFrame_changes (hdr : FrameHdr) (at' : End) (req : RegReq) {m' : Nat} (hm : Covers m' 0xfffdefff)
    {u₀ u₁ : State} (hu : Changes m' u₀ u₁) : ChangesOut m' u₀ (execRegisterFrame hdr at' req u₁) := by
  unfold execRegisterFrame
  repeat' first
    | with_reducible assumption | (fail_if_no_progress beta_reduce) | with_reducible apply ChangesOut.next
    | with_reducible apply ChangesOut.ite | with_reducible refine receive_changes _ _ (hm.trans (by decide)) ?_
    | with_reducible refine metUnreachable_changes _ (hm.trans (by decide)) ?_
    | with_reducible refine writeAt_changes _ _ _ _ (hm.trans (by decide)) ?_
    | with_reducible refine readAt_changes _ _ _ (hm.trans (by decide)) ?_
    | with_reducible refine sendFrame_changes _ _ (hm.trans (by decide)) ?_ | with_reducible apply Changes.ite
    | (extract_lets +onlyGivenNames x; refine Changes.cut (a := Changes m' u₀ x) ?_ (fun hx => ?_) <;> [unfold x; clear_value x])
    | extract_lets +onlyGivenNames x | split

theorem dropRead_changes (r : PendingRead) {m' : Nat} (hm : Covers m' 0x10000000) {u₀ u₁ : State} (hu : Changes m'
    u₀ u₁) : Changes m' u₀ (dropRead r u₁) := by
  unfold dropRead
  repeat' first
    | with_reducible assumption | (fail_if_no_progress beta_reduce)
    | (fail_if_no_progress with_reducible refine Changes.put_port (hm.bit (by decide)) ?_)
    | extract_lets +onlyGivenNames x

theorem execRegisterResponse_changes (hdr : FrameHdr) (req : RegReq) (data : Nat) {m' : Nat} (hm : Covers m'
    0x7c000000) {u₀ u₁ : State} (hu : Changes m' u₀ u₁) : ChangesOut m' u₀ (execRegisterResponse hdr req data u₁) :=
    by
  unfold execRegisterResponse
  repeat' first
    | with_reducible assumption | with_reducible apply ChangesOut.next | with_reducible apply ChangesOut.ite
    | with_reducible refine receive_changes _ _ (hm.trans (by decide)) ?_
    | with_reducible refine answerAccess_changes _ _ _ _ (hm.trans (by decide)) ?_
    | with_reducible refine dropRead_changes _ (hm.trans (by decide)) ?_ | with_reducible apply Changes.ite
    | (extract_lets +onlyGivenNames x; refine Changes.cut (a := Changes m' u₀ x) ?_ (fun hx => ?_) <;> [unfold x; clear_value x])
    | extract_lets +onlyGivenNames x | split

theorem execUnreachableTimeout_changes (req : RegReq) {m' : Nat} (hm : Covers m' 0x7c000000) {u₀ u₁ : State} (hu :
    Changes m' u₀ u₁) : ChangesOut m' u₀ (execUnreachableTimeout req u₁) := by
  unfold execUnreachableTimeout
  repeat' first
    | with_reducible assumption | with_reducible apply ChangesOut.next
    | with_reducible refine readLost_changes _ _ _ (hm.trans (by decide)) ?_
    | with_reducible refine dropRead_changes _ (hm.trans (by decide)) ?_ | split

theorem execRwpPairTimeout_changes (m : Master) (addr : Nat) {m' : Nat} (hm : Covers m' 0xde3defff) {u₀ u₁ : State}
    (hu : Changes m' u₀ u₁) : ChangesOut m' u₀ (execRwpPairTimeout m addr u₁) := by
  unfold execRwpPairTimeout
  repeat' first
    | with_reducible assumption | with_reducible apply ChangesOut.next
    | with_reducible refine pairFail_changes _ _ (hm.trans (by decide)) ?_
    | (fail_if_no_progress with_reducible refine Changes.put_port (hm.bit (by decide)) ?_)
    | extract_lets +onlyGivenNames x | split

/-! ### Mgmt -/

theorem setSmb_changes (f : SmbSt → SmbSt) {m' : Nat} (hm : Covers m' 0x20000000) {u₀ u₁ : State} (hu : Changes m'
    u₀ u₁) : Changes m' u₀ (setSmb f u₁) := by
  unfold setSmb
  repeat' first
    | with_reducible assumption
    | (fail_if_no_progress with_reducible refine Changes.put_smb (hm.bit (by decide)) ?_)
    | extract_lets +onlyGivenNames x

theorem onPort_changes (f : State → State) {m' : Nat} (hm : Covers m' 0x40000000) {u₀ u₁ : State}
    (hf : ∀ v, Changes m' u₀ v → Changes m' u₀ (f v)) (hu : Changes m' u₀ u₁) : ChangesOut m' u₀ (onPort f u₁) := by
  unfold onPort
  split
  · exact ChangesOut.next hu
  · split
    · exact ChangesOut.next (emit_changes _ (hm.trans (by decide)) hu)
    · exact ChangesOut.next (hf _ hu)

theorem badPec_changes {m' : Nat} (hm : Covers m' 0x60000000) {u₀ u₁ : State} (hu : Changes m' u₀ u₁) : Changes m'
    u₀ (badPec u₁) := by
  unfold badPec
  repeat' first
    | with_reducible assumption | (fail_if_no_progress beta_reduce)
    | with_reducible refine emit_changes _ (hm.trans (by decide)) ?_
    | with_reducible refine setSmb_changes _ (hm.trans (by decide)) ?_ | extract_lets +onlyGivenNames x

theorem execRegAddr_changes (value : Option Word) (pecOk : Bool) {m' : Nat} (hm : Covers m' 0x60000000) {u₀ u₁ :
    State} (hu : Changes m' u₀ u₁) : ChangesOut m' u₀ (execRegAddr value pecOk u₁) := by
  unfold execRegAddr
  repeat' first
    | with_reducible assumption | (fail_if_no_progress beta_reduce) | with_reducible apply ChangesOut.next
    | with_reducible apply ChangesOut.ite | with_reducible refine smbAnswer_changes _ _ (hm.trans (by decide)) ?_
    | with_reducible refine badPec_changes (hm.trans (by decide)) ?_
    | with_reducible refine setSmb_changes _ (hm.trans (by decide)) ?_ | with_reducible apply Changes.ite
    | split

theorem noteRange_changes {m' : Nat} (hm : Covers m' 0x20000000) {u₀ u₁ : State} (hu : Changes m' u₀ u₁) : Changes
    m' u₀ (noteRange u₁) := by
  unfold noteRange
  repeat' first
    | with_reducible assumption | (fail_if_no_progress beta_reduce)
    | with_reducible refine setSmb_changes _ (hm.trans (by decide)) ?_ | extract_lets +onlyGivenNames x

theorem execRegDataWrite_changes (bytes : List Byte) (pecOk : Bool) {m' : Nat} (hm : Covers m' 0xfffdefff) {u₀ u₁ :
    State} (hu : Changes m' u₀ u₁) : ChangesOut m' u₀ (execRegDataWrite bytes pecOk u₁) := by
  unfold execRegDataWrite
  repeat' first
    | with_reducible assumption | (fail_if_no_progress beta_reduce) | with_reducible apply ChangesOut.next
    | with_reducible apply ChangesOut.ite | with_reducible refine badPec_changes (hm.trans (by decide)) ?_
    | with_reducible refine noteRange_changes (hm.trans (by decide)) ?_
    | with_reducible refine issueWrite_changes _ _ _ _ (hm.trans (by decide)) ?_
    | with_reducible refine advanceAddr_changes _ (hm.trans (by decide)) ?_ | with_reducible apply Changes.ite
    | (extract_lets +onlyGivenNames x; refine Changes.cut (a := Changes m' u₀ x) ?_ (fun hx => ?_) <;> [unfold x; clear_value x])
    | extract_lets +onlyGivenNames x | split

theorem execRegDataRead_changes (count : Nat) {m' : Nat} (hm : Covers m' 0xfe7defff) {u₀ u₁ : State} (hu : Changes
    m' u₀ u₁) : ChangesOut m' u₀ (execRegDataRead count u₁) := by
  unfold execRegDataRead
  repeat' first
    | with_reducible assumption | (fail_if_no_progress beta_reduce) | with_reducible apply ChangesOut.next
    | with_reducible apply ChangesOut.ite
    | with_reducible refine answerAccess_changes _ _ _ _ (hm.trans (by decide)) ?_
    | with_reducible refine noteRange_changes (hm.trans (by decide)) ?_
    | with_reducible refine issueRead_changes _ _ _ _ (hm.trans (by decide)) ?_ | with_reducible apply Changes.ite
    | (extract_lets +onlyGivenNames x; refine Changes.cut (a := Changes m' u₀ x) ?_ (fun hx => ?_) <;> [unfold x; clear_value x])
    | extract_lets +onlyGivenNames x | split

theorem execRegStatus_changes {m' : Nat} (hm : Covers m' 0x60000000) {u₀ u₁ : State} (hu : Changes m' u₀ u₁) :
    ChangesOut m' u₀ (execRegStatus u₁) := by
  unfold execRegStatus
  repeat' first
    | with_reducible assumption | (fail_if_no_progress beta_reduce) | with_reducible apply ChangesOut.next
    | with_reducible apply ChangesOut.ite | with_reducible refine smbAnswer_changes _ _ (hm.trans (by decide)) ?_
    | with_reducible refine setSmb_changes _ (hm.trans (by decide)) ?_ | with_reducible apply Changes.ite
    | (extract_lets +onlyGivenNames x; refine Changes.cut (a := Changes m' u₀ x) ?_ (fun hx => ?_) <;> [unfold x; clear_value x])
    | extract_lets +onlyGivenNames x | split

theorem refuseWrite_changes {m' : Nat} (hm : Covers m' 0x20000000) {u₀ u₁ : State} (hu : Changes m' u₀ u₁) : Changes
    m' u₀ (refuseWrite u₁) := by
  unfold refuseWrite
  repeat' first
    | with_reducible assumption | (fail_if_no_progress beta_reduce)
    | with_reducible refine setSmb_changes _ (hm.trans (by decide)) ?_ | extract_lets +onlyGivenNames x

theorem withPec_changes (pecOk : Bool) (f : State → State) {m' : Nat} (hm : Covers m' 0x60000000) {u₀ u₁ : State}
    (hf : ∀ v, Changes m' u₀ v → Changes m' u₀ (f v)) (hu : Changes m' u₀ u₁) : Changes m' u₀ (withPec pecOk f u₁) := by
  unfold withPec
  split
  · exact hf _ hu
  · exact badPec_changes (hm.trans (by decide)) hu

theorem execPage_changes (value : Option Nat) (pecOk : Bool) {m' : Nat} (hm : Covers m' 0x60000000) {u₀ u₁ : State}
    (hu : Changes m' u₀ u₁) : ChangesOut m' u₀ (execPage value pecOk u₁) := by
  unfold execPage
  repeat' first
    | with_reducible assumption | (fail_if_no_progress beta_reduce) | with_reducible apply ChangesOut.next
    | with_reducible apply ChangesOut.ite
    | (with_reducible refine onPort_changes _ (hm.trans (by decide)) (fun v hv => ?_) ?_)
    | with_reducible refine smbAnswer_changes _ _ (hm.trans (by decide)) ?_
    | (with_reducible refine withPec_changes _ _ (hm.trans (by decide)) (fun v hv => ?_) ?_)
    | with_reducible refine setSmb_changes _ (hm.trans (by decide)) ?_
    | with_reducible refine refuseWrite_changes (hm.trans (by decide)) ?_ | with_reducible apply Changes.ite
    | split

theorem execOperation_changes (value : Option Nat) (pecOk : Bool) {m' : Nat} (hm : Covers m' 0x60000000) {u₀ u₁ :
    State} (hu : Changes m' u₀ u₁) : ChangesOut m' u₀ (execOperation value pecOk u₁) := by
  unfold execOperation
  repeat' first
    | with_reducible assumption | (fail_if_no_progress beta_reduce) | with_reducible apply ChangesOut.next
    | with_reducible apply ChangesOut.ite
    | (with_reducible refine onPort_changes _ (hm.trans (by decide)) (fun v hv => ?_) ?_)
    | with_reducible refine smbAnswer_changes _ _ (hm.trans (by decide)) ?_
    | (with_reducible refine withPec_changes _ _ (hm.trans (by decide)) (fun v hv => ?_) ?_)
    | with_reducible refine refuseWrite_changes (hm.trans (by decide)) ?_ | with_reducible apply Changes.ite
    | split

theorem execClearFaults_changes (pecOk : Bool) {m' : Nat} (hm : Covers m' 0x60042304) {u₀ u₁ : State} (hu : Changes
    m' u₀ u₁) : ChangesOut m' u₀ (execClearFaults pecOk u₁) := by
  unfold execClearFaults
  repeat' first
    | with_reducible assumption | (fail_if_no_progress beta_reduce) | with_reducible apply ChangesOut.next
    | (with_reducible refine onPort_changes _ (hm.trans (by decide)) (fun v hv => ?_) ?_)
    | (with_reducible refine withPec_changes _ _ (hm.trans (by decide)) (fun v hv => ?_) ?_)
    | with_reducible refine clearLatched_changes _ _ (hm.trans (by decide)) ?_
    | with_reducible refine setSmb_changes _ (hm.trans (by decide)) ?_
    | (with_reducible refine Changes.foldl ?_ (fun v y hv => ?_))
    | split

theorem execCapability_changes {m' : Nat} (hm : Covers m' 0x40000000) {u₀ u₁ : State} (hu : Changes m' u₀ u₁) :
    ChangesOut m' u₀ (execCapability u₁) := by
  unfold execCapability
  repeat' first
    | with_reducible assumption | with_reducible apply ChangesOut.next
    | (with_reducible refine onPort_changes _ (hm.trans (by decide)) (fun v hv => ?_) ?_)
    | with_reducible refine smbAnswer_changes _ _ (hm.trans (by decide)) ?_

theorem execVoutMode_changes {m' : Nat} (hm : Covers m' 0x40000000) {u₀ u₁ : State} (hu : Changes m' u₀ u₁) :
    ChangesOut m' u₀ (execVoutMode u₁) := by
  unfold execVoutMode
  repeat' first
    | with_reducible assumption | with_reducible apply ChangesOut.next
    | (with_reducible refine onPort_changes _ (hm.trans (by decide)) (fun v hv => ?_) ?_)
    | with_reducible refine smbAnswer_changes _ _ (hm.trans (by decide)) ?_

theorem execStatusByte_changes {m' : Nat} (hm : Covers m' 0x40000000) {u₀ u₁ : State} (hu : Changes m' u₀ u₁) :
    ChangesOut m' u₀ (execStatusByte u₁) := by
  unfold execStatusByte
  repeat' first
    | with_reducible assumption | (fail_if_no_progress beta_reduce) | with_reducible apply ChangesOut.next
    | (with_reducible refine onPort_changes _ (hm.trans (by decide)) (fun v hv => ?_) ?_)
    | with_reducible refine smbAnswer_changes _ _ (hm.trans (by decide)) ?_
    | split

theorem execStatusWord_changes {m' : Nat} (hm : Covers m' 0x40000000) {u₀ u₁ : State} (hu : Changes m' u₀ u₁) :
    ChangesOut m' u₀ (execStatusWord u₁) := by
  unfold execStatusWord
  repeat' first
    | with_reducible assumption | (fail_if_no_progress beta_reduce) | with_reducible apply ChangesOut.next
    | (with_reducible refine onPort_changes _ (hm.trans (by decide)) (fun v hv => ?_) ?_)
    | with_reducible refine smbAnswer_changes _ _ (hm.trans (by decide)) ?_
    | split

theorem execStatusVout_changes {m' : Nat} (hm : Covers m' 0x40000000) {u₀ u₁ : State} (hu : Changes m' u₀ u₁) :
    ChangesOut m' u₀ (execStatusVout u₁) := by
  unfold execStatusVout
  repeat' first
    | with_reducible assumption | (fail_if_no_progress beta_reduce) | with_reducible apply ChangesOut.next
    | (with_reducible refine onPort_changes _ (hm.trans (by decide)) (fun v hv => ?_) ?_)
    | with_reducible refine smbAnswer_changes _ _ (hm.trans (by decide)) ?_
    | split

theorem execStatusIout_changes {m' : Nat} (hm : Covers m' 0x40000000) {u₀ u₁ : State} (hu : Changes m' u₀ u₁) :
    ChangesOut m' u₀ (execStatusIout u₁) := by
  unfold execStatusIout
  repeat' first
    | with_reducible assumption | (fail_if_no_progress beta_reduce) | with_reducible apply ChangesOut.next
    | (with_reducible refine onPort_changes _ (hm.trans (by decide)) (fun v hv => ?_) ?_)
    | with_reducible refine smbAnswer_changes _ _ (hm.trans (by decide)) ?_
    | split

theorem execStatusInput_changes {m' : Nat} (hm : Covers m' 0x40000000) {u₀ u₁ : State} (hu : Changes m' u₀ u₁) :
    ChangesOut m' u₀ (execStatusInput u₁) := by
  unfold execStatusInput
  repeat' first
    | with_reducible assumption | (fail_if_no_progress beta_reduce) | with_reducible apply ChangesOut.next
    | (with_reducible refine onPort_changes _ (hm.trans (by decide)) (fun v hv => ?_) ?_)
    | with_reducible refine smbAnswer_changes _ _ (hm.trans (by decide)) ?_
    | split

theorem execStatusTemperature_changes {m' : Nat} (hm : Covers m' 0x40000000) {u₀ u₁ : State} (hu : Changes m' u₀ u₁)
    : ChangesOut m' u₀ (execStatusTemperature u₁) := by
  unfold execStatusTemperature
  repeat' first
    | with_reducible assumption | (fail_if_no_progress beta_reduce) | with_reducible apply ChangesOut.next
    | (with_reducible refine onPort_changes _ (hm.trans (by decide)) (fun v hv => ?_) ?_)
    | with_reducible refine smbAnswer_changes _ _ (hm.trans (by decide)) ?_
    | split

theorem execStatusCml_changes {m' : Nat} (hm : Covers m' 0x40000000) {u₀ u₁ : State} (hu : Changes m' u₀ u₁) :
    ChangesOut m' u₀ (execStatusCml u₁) := by
  unfold execStatusCml
  repeat' first
    | with_reducible assumption | (fail_if_no_progress beta_reduce) | with_reducible apply ChangesOut.next
    | (with_reducible refine onPort_changes _ (hm.trans (by decide)) (fun v hv => ?_) ?_)
    | with_reducible refine smbAnswer_changes _ _ (hm.trans (by decide)) ?_
    | split

theorem execReadVin_changes {m' : Nat} (hm : Covers m' 0x40000000) {u₀ u₁ : State} (hu : Changes m' u₀ u₁) :
    ChangesOut m' u₀ (execReadVin u₁) := by
  unfold execReadVin
  repeat' first
    | with_reducible assumption | (fail_if_no_progress beta_reduce) | with_reducible apply ChangesOut.next
    | (with_reducible refine onPort_changes _ (hm.trans (by decide)) (fun v hv => ?_) ?_)
    | with_reducible refine smbAnswer_changes _ _ (hm.trans (by decide)) ?_
    | split

theorem execReadVout_changes {m' : Nat} (hm : Covers m' 0x40000000) {u₀ u₁ : State} (hu : Changes m' u₀ u₁) :
    ChangesOut m' u₀ (execReadVout u₁) := by
  unfold execReadVout
  repeat' first
    | with_reducible assumption | (fail_if_no_progress beta_reduce) | with_reducible apply ChangesOut.next
    | (with_reducible refine onPort_changes _ (hm.trans (by decide)) (fun v hv => ?_) ?_)
    | with_reducible refine smbAnswer_changes _ _ (hm.trans (by decide)) ?_
    | split

theorem execReadIout_changes {m' : Nat} (hm : Covers m' 0x40000000) {u₀ u₁ : State} (hu : Changes m' u₀ u₁) :
    ChangesOut m' u₀ (execReadIout u₁) := by
  unfold execReadIout
  repeat' first
    | with_reducible assumption | (fail_if_no_progress beta_reduce) | with_reducible apply ChangesOut.next
    | (with_reducible refine onPort_changes _ (hm.trans (by decide)) (fun v hv => ?_) ?_)
    | with_reducible refine smbAnswer_changes _ _ (hm.trans (by decide)) ?_
    | split

theorem execReadTemperature1_changes {m' : Nat} (hm : Covers m' 0x40000000) {u₀ u₁ : State} (hu : Changes m' u₀ u₁)
    : ChangesOut m' u₀ (execReadTemperature1 u₁) := by
  unfold execReadTemperature1
  repeat' first
    | with_reducible assumption | (fail_if_no_progress beta_reduce) | with_reducible apply ChangesOut.next
    | (with_reducible refine onPort_changes _ (hm.trans (by decide)) (fun v hv => ?_) ?_)
    | with_reducible refine smbAnswer_changes _ _ (hm.trans (by decide)) ?_
    | split

theorem execReadTemperature2_changes {m' : Nat} (hm : Covers m' 0x40000000) {u₀ u₁ : State} (hu : Changes m' u₀ u₁)
    : ChangesOut m' u₀ (execReadTemperature2 u₁) := by
  unfold execReadTemperature2
  repeat' first
    | with_reducible assumption | (fail_if_no_progress beta_reduce) | with_reducible apply ChangesOut.next
    | (with_reducible refine onPort_changes _ (hm.trans (by decide)) (fun v hv => ?_) ?_)
    | with_reducible refine smbAnswer_changes _ _ (hm.trans (by decide)) ?_
    | split

theorem execPmbusRevision_changes {m' : Nat} (hm : Covers m' 0x40000000) {u₀ u₁ : State} (hu : Changes m' u₀ u₁) :
    ChangesOut m' u₀ (execPmbusRevision u₁) := by
  unfold execPmbusRevision
  repeat' first
    | with_reducible assumption | with_reducible apply ChangesOut.next
    | (with_reducible refine onPort_changes _ (hm.trans (by decide)) (fun v hv => ?_) ?_)
    | with_reducible refine smbAnswer_changes _ _ (hm.trans (by decide)) ?_

theorem execMfrId_changes {m' : Nat} (hm : Covers m' 0x40000000) {u₀ u₁ : State} (hu : Changes m' u₀ u₁) :
    ChangesOut m' u₀ (execMfrId u₁) := by
  unfold execMfrId
  repeat' first
    | with_reducible assumption | with_reducible apply ChangesOut.next
    | (with_reducible refine onPort_changes _ (hm.trans (by decide)) (fun v hv => ?_) ?_)
    | with_reducible refine smbAnswer_changes _ _ (hm.trans (by decide)) ?_

theorem execMfrModel_changes {m' : Nat} (hm : Covers m' 0x40000000) {u₀ u₁ : State} (hu : Changes m' u₀ u₁) :
    ChangesOut m' u₀ (execMfrModel u₁) := by
  unfold execMfrModel
  repeat' first
    | with_reducible assumption | with_reducible apply ChangesOut.next
    | (with_reducible refine onPort_changes _ (hm.trans (by decide)) (fun v hv => ?_) ?_)
    | with_reducible refine smbAnswer_changes _ _ (hm.trans (by decide)) ?_

theorem execMfrRevision_changes {m' : Nat} (hm : Covers m' 0x40000000) {u₀ u₁ : State} (hu : Changes m' u₀ u₁) :
    ChangesOut m' u₀ (execMfrRevision u₁) := by
  unfold execMfrRevision
  repeat' first
    | with_reducible assumption | with_reducible apply ChangesOut.next
    | (with_reducible refine onPort_changes _ (hm.trans (by decide)) (fun v hv => ?_) ?_)
    | with_reducible refine smbAnswer_changes _ _ (hm.trans (by decide)) ?_

theorem execInvalidCommand_changes (code : Nat) {m' : Nat} (hm : Covers m' 0x60000000) {u₀ u₁ : State} (hu : Changes
    m' u₀ u₁) : ChangesOut m' u₀ (execInvalidCommand code u₁) := by
  unfold execInvalidCommand
  repeat' first
    | with_reducible assumption | (fail_if_no_progress beta_reduce) | with_reducible apply ChangesOut.next
    | with_reducible apply ChangesOut.ite
    | (with_reducible refine onPort_changes _ (hm.trans (by decide)) (fun v hv => ?_) ?_)
    | with_reducible refine emit_changes _ (hm.trans (by decide)) ?_
    | with_reducible refine setSmb_changes _ (hm.trans (by decide)) ?_ | with_reducible apply Changes.ite
    | extract_lets +onlyGivenNames x | split

theorem execAlertResponse_changes {m' : Nat} (hm : Covers m' 0x40000000) {u₀ u₁ : State} (hu : Changes m' u₀ u₁) :
    ChangesOut m' u₀ (execAlertResponse u₁) := by
  unfold execAlertResponse
  repeat' first
    | with_reducible assumption | (fail_if_no_progress beta_reduce) | with_reducible apply ChangesOut.next
    | with_reducible apply ChangesOut.ite
    | (with_reducible refine onPort_changes _ (hm.trans (by decide)) (fun v hv => ?_) ?_)
    | with_reducible refine emit_changes _ (hm.trans (by decide)) ?_ | with_reducible apply Changes.ite
    | (extract_lets +onlyGivenNames x; refine Changes.cut (a := Changes m' u₀ x) ?_ (fun hx => ?_) <;> [unfold x; clear_value x])
    | extract_lets +onlyGivenNames x | split

end Sys2Proof.Machine
end

