-- ==== Sys2Proof/Laws/ChangesExec.lean ====
section
/-! SUPPORT. The frame of every command, and of the tick. -/

set_option linter.all false
set_option linter.unusedTactic false
set_option linter.unreachableTactic false

namespace Sys2Proof.Machine

/-! ### Dispatch -/

theorem exec_changes (i : Instr) {m' : Nat} (hm : Covers m' 0x2ffffffff) {u₀ u₁ : State} (hu : Changes m' u₀ u₁) :
    ChangesOut m' u₀ (exec i u₁) := by
  cases i with
  | cxlMemWrite a0 a1 a2 a3 a4 a5 a6 a7 => exact execCxlMemWrite_changes a0 a1 a2 a3 a4 a5 a6 a7 (hm.trans (by decide)) hu
  | heldWriteRelease => exact execHeldWriteRelease_changes (hm.trans (by decide)) hu
  | capQueueRelease a0 => exact execCapQueueRelease_changes a0 (hm.trans (by decide)) hu
  | cxlMemRead a0 a1 a2 a3 a4 a5 a6 => exact execCxlMemRead_changes a0 a1 a2 a3 a4 a5 a6 (hm.trans (by decide)) hu
  | demandFetchComplete a0 a1 a2 => exact execDemandFetchComplete_changes a0 a1 a2 (hm.trans (by decide)) hu
  | gpfPhase1Request => exact execGpfPhase1Request_changes (hm.trans (by decide)) hu
  | gpfPhase2Request => exact execGpfPhase2Request_changes (hm.trans (by decide)) hu
  | gpfPhase2Response => exact execGpfPhase2Response_changes (hm.trans (by decide)) hu
  | windowExpiry => exact execWindowExpiry_changes (hm.trans (by decide)) hu
  | cxlLinkTrained a0 a1 a2 => exact execCxlLinkTrained_changes a0 a1 a2 (hm.trans (by decide)) hu
  | hdmDecoderCommit a0 a1 => exact execHdmDecoderCommit_changes a0 a1 (hm.trans (by decide)) hu
  | perstN => exact execPerstN_changes (hm.trans (by decide)) hu
  | hotReset => exact execHotReset_changes (hm.trans (by decide)) hu
  | linkDown => exact execLinkDown_changes (hm.trans (by decide)) hu
  | cxlReset => exact execCxlReset_changes (hm.trans (by decide)) hu
  | functionLevelReset => exact execFunctionLevelReset_changes (hm.trans (by decide)) hu
  | msixUnmask a0 => exact execMsixUnmask_changes a0 (hm.trans (by decide)) hu
  | identify => exact execIdentify_changes (hm.trans (by decide)) hu
  | backgroundOperationStatus => exact execBackgroundOperationStatus_changes (hm.trans (by decide)) hu
  | getEventRecords a0 => exact execGetEventRecords_changes a0 (hm.trans (by decide)) hu
  | clearEventRecords a0 a1 a2 => exact execClearEventRecords_changes a0 a1 a2 (hm.trans (by decide)) hu
  | getEventInterruptPolicy => exact execGetEventInterruptPolicy_changes (hm.trans (by decide)) hu
  | setEventInterruptPolicy a0 a1 a2 a3 => exact execSetEventInterruptPolicy_changes a0 a1 a2 a3 (hm.trans (by decide)) hu
  | getFwInfo => exact execGetFwInfo_changes (hm.trans (by decide)) hu
  | getTimestamp => exact execGetTimestamp_changes (hm.trans (by decide)) hu
  | setTimestamp a0 => exact execSetTimestamp_changes a0 (hm.trans (by decide)) hu
  | getSupportedLogs => exact execGetSupportedLogs_changes (hm.trans (by decide)) hu
  | getLog a0 a1 a2 => exact execGetLog_changes a0 a1 a2 (hm.trans (by decide)) hu
  | identifyMemoryDevice => exact execIdentifyMemoryDevice_changes (hm.trans (by decide)) hu
  | getPartitionInfo => exact execGetPartitionInfo_changes (hm.trans (by decide)) hu
  | getLsa a0 a1 => exact execGetLsa_changes a0 a1 (hm.trans (by decide)) hu
  | setLsa a0 a1 => exact execSetLsa_changes a0 a1 (hm.trans (by decide)) hu
  | getHealthInfo => exact execGetHealthInfo_changes (hm.trans (by decide)) hu
  | getAlertConfiguration => exact execGetAlertConfiguration_changes (hm.trans (by decide)) hu
  | setAlertConfiguration a0 a1 a2 => exact execSetAlertConfiguration_changes a0 a1 a2 (hm.trans (by decide)) hu
  | getShutdownState => exact execGetShutdownState_changes (hm.trans (by decide)) hu
  | setShutdownState a0 => exact execSetShutdownState_changes a0 (hm.trans (by decide)) hu
  | getPoisonList a0 a1 => exact execGetPoisonList_changes a0 a1 (hm.trans (by decide)) hu
  | sanitize => exact execSanitize_changes (hm.trans (by decide)) hu
  | secureErase a0 => exact execSecureErase_changes a0 (hm.trans (by decide)) hu
  | unsupportedCommand a0 => exact execUnsupportedCommand_changes a0 (hm.trans (by decide)) hu
  | getVaultStatus a0 => exact execGetVaultStatus_changes a0 (hm.trans (by decide)) hu
  | requestVault a0 => exact execRequestVault_changes a0 (hm.trans (by decide)) hu
  | sealImage a0 => exact execSealImage_changes a0 (hm.trans (by decide)) hu
  | sealResidualZero => exact execSealResidualZero_changes (hm.trans (by decide)) hu
  | sealTimeout => exact execSealTimeout_changes (hm.trans (by decide)) hu
  | dropImage a0 => exact execDropImage_changes a0 (hm.trans (by decide)) hu
  | getLossReport a0 => exact execGetLossReport_changes a0 (hm.trans (by decide)) hu
  | setBoltCap a0 => exact execSetBoltCap_changes a0 (hm.trans (by decide)) hu
  | vendorGetLog a0 => exact execVendorGetLog_changes a0 (hm.trans (by decide)) hu
  | backgroundCommandDone => exact execBackgroundCommandDone_changes (hm.trans (by decide)) hu
  | budgetEvalTick => exact execBudgetEvalTick_changes (hm.trans (by decide)) hu
  | reefHoldMaxExpiry a0 => exact execReefHoldMaxExpiry_changes a0 (hm.trans (by decide)) hu
  | budgetRecoverExpiry => exact execBudgetRecoverExpiry_changes (hm.trans (by decide)) hu
  | epbRecomputeTick => exact execEpbRecomputeTick_changes (hm.trans (by decide)) hu
  | govTokenTick => exact execGovTokenTick_changes (hm.trans (by decide)) hu
  | energyFrame a0 a1 a2 a3 => exact execEnergyFrame_changes a0 a1 a2 a3 (hm.trans (by decide)) hu
  | energyStaleExpiry => exact execEnergyStaleExpiry_changes (hm.trans (by decide)) hu
  | stagingSelect a0 => exact execStagingSelect_changes a0 (hm.trans (by decide)) hu
  | epochAgeExpiry => exact execEpochAgeExpiry_changes (hm.trans (by decide)) hu
  | pageProgramDone a0 a1 a2 a3 a4 => exact execPageProgramDone_changes a0 a1 a2 a3 a4 (hm.trans (by decide)) hu
  | knotRecordProgram a0 a1 a2 a3 => exact execKnotRecordProgram_changes a0 a1 a2 a3 (hm.trans (by decide)) hu
  | knotReadback a0 a1 a2 => exact execKnotReadback_changes a0 a1 a2 (hm.trans (by decide)) hu
  | knotTimeout a0 => exact execKnotTimeout_changes a0 (hm.trans (by decide)) hu
  | gcStart a0 a1 => exact execGcStart_changes a0 a1 (hm.trans (by decide)) hu
  | garbageCollectionRead a0 a1 a2 a3 => exact execGarbageCollectionRead_changes a0 a1 a2 a3 (hm.trans (by decide)) hu
  | blockEraseDone a0 a1 a2 => exact execBlockEraseDone_changes a0 a1 a2 (hm.trans (by decide)) hu
  | patrolScrub a0 a1 a2 => exact execPatrolScrub_changes a0 a1 a2 (hm.trans (by decide)) hu
  | spareCapacityCheck => exact execSpareCapacityCheck_changes (hm.trans (by decide)) hu
  | nandDiscoveryDone a0 a1 => exact execNandDiscoveryDone_changes a0 a1 (hm.trans (by decide)) hu
  | earlyWarning a0 a1 a2 => exact execEarlyWarning_changes a0 a1 a2 (hm.trans (by decide)) hu
  | specAbandonExpiry a0 a1 => exact execSpecAbandonExpiry_changes a0 a1 (hm.trans (by decide)) hu
  | warningFrame a0 => exact execWarningFrame_changes a0 (hm.trans (by decide)) hu
  | abandonFrame a0 => exact execAbandonFrame_changes a0 (hm.trans (by decide)) hu
  | specMaxExpiry => exact execSpecMaxExpiry_changes (hm.trans (by decide)) hu
  | pfFilterExpiry a0 a1 a2 => exact execPfFilterExpiry_changes a0 a1 a2 (hm.trans (by decide)) hu
  | inputOvervoltage a0 => exact execInputOvervoltage_changes a0 (hm.trans (by decide)) hu
  | pfActive => exact execPfActive_changes (hm.trans (by decide)) hu
  | vreqActive => exact execVreqActive_changes (hm.trans (by decide)) hu
  | stewardVaultRequest => exact execStewardVaultRequest_changes (hm.trans (by decide)) hu
  | manifestBuild => exact execManifestBuild_changes (hm.trans (by decide)) hu
  | drainSelect a0 => exact execDrainSelect_changes a0 (hm.trans (by decide)) hu
  | logSnapshotDone a0 => exact execLogSnapshotDone_changes a0 (hm.trans (by decide)) hu
  | finalKnotProgram a0 a1 a2 a3 => exact execFinalKnotProgram_changes a0 a1 a2 a3 (hm.trans (by decide)) hu
  | holdMaxExpiry => exact execHoldMaxExpiry_changes (hm.trans (by decide)) hu
  | storeFloorReached => exact execStoreFloorReached_changes (hm.trans (by decide)) hu
  | vinGood a0 => exact execVinGood_changes a0 (hm.trans (by decide)) hu
  | stallWatchdogExpiry a0 => exact execStallWatchdogExpiry_changes a0 (hm.trans (by decide)) hu
  | heartbeatToggle a0 => exact execHeartbeatToggle_changes a0 (hm.trans (by decide)) hu
  | heartbeatTimeout a0 => exact execHeartbeatTimeout_changes a0 (hm.trans (by decide)) hu
  | holdIslandReady => exact execHoldIslandReady_changes (hm.trans (by decide)) hu
  | rebootTimeoutExpiry => exact execRebootTimeoutExpiry_changes (hm.trans (by decide)) hu
  | vaultResume a0 => exact execVaultResume_changes a0 (hm.trans (by decide)) hu
  | coolWaitExpiry => exact execCoolWaitExpiry_changes (hm.trans (by decide)) hu
  | warmRstN a0 a1 => exact execWarmRstN_changes a0 a1 (hm.trans (by decide)) hu
  | stewardWarmReset => exact execStewardWarmReset_changes (hm.trans (by decide)) hu
  | stewardWatchdogExpiry => exact execStewardWatchdogExpiry_changes (hm.trans (by decide)) hu
  | keeperStart a0 a1 a2 a3 a4 => exact execKeeperStart_changes a0 a1 a2 a3 a4 (hm.trans (by decide)) hu
  | keeperStop => exact execKeeperStop_changes (hm.trans (by decide)) hu
  | restoreDiscover a0 => exact execRestoreDiscover_changes a0 (hm.trans (by decide)) hu
  | newestKnotFound a0 => exact execNewestKnotFound_changes a0 (hm.trans (by decide)) hu
  | mapLoadDone a0 => exact execMapLoadDone_changes a0 (hm.trans (by decide)) hu
  | restoreReady => exact execRestoreReady_changes (hm.trans (by decide)) hu
  | backgroundLoad => exact execBackgroundLoad_changes (hm.trans (by decide)) hu
  | granuleLoadDone a0 a1 a2 => exact execGranuleLoadDone_changes a0 a1 a2 (hm.trans (by decide)) hu
  | loopWindowExpiry a0 a1 a2 => exact execLoopWindowExpiry_changes a0 a1 a2 (hm.trans (by decide)) hu
  | set a0 a1 a2 a3 => exact execSet_changes a0 a1 a2 a3 (hm.trans (by decide)) hu
  | query a0 a1 a2 a3 => exact execQuery_changes a0 a1 a2 a3 (hm.trans (by decide)) hu
  | engage a0 a1 a2 a3 => exact execEngage_changes a0 a1 a2 a3 (hm.trans (by decide)) hu
  | slewSettled a0 => exact execSlewSettled_changes a0 (hm.trans (by decide)) hu
  | railAck a0 a1 a2 => exact execRailAck_changes a0 a1 a2 (hm.trans (by decide)) hu
  | railAckTimeout a0 => exact execRailAckTimeout_changes a0 (hm.trans (by decide)) hu
  | railIdleQuery => exact execRailIdleQuery_changes (hm.trans (by decide)) hu
  | railFallback => exact execRailFallback_changes (hm.trans (by decide)) hu
  | engageStep a0 => exact execEngageStep_changes a0 (hm.trans (by decide)) hu
  | vinSenseDisagree => exact execVinSenseDisagree_changes (hm.trans (by decide)) hu
  | holdupTest a0 => exact execHoldupTest_changes a0 (hm.trans (by decide)) hu
  | phaseFault a0 a1 a2 => exact execPhaseFault_changes a0 a1 a2 (hm.trans (by decide)) hu
  | ibusOverload a0 => exact execIbusOverload_changes a0 (hm.trans (by decide)) hu
  | ibusOverloadRecheck a0 => exact execIbusOverloadRecheck_changes a0 (hm.trans (by decide)) hu
  | ibusCollapse a0 => exact execIbusCollapse_changes a0 (hm.trans (by decide)) hu
  | ibusLost a0 => exact execIbusLost_changes a0 (hm.trans (by decide)) hu
  | domainGood a0 a1 a2 => exact execDomainGood_changes a0 a1 a2 (hm.trans (by decide)) hu
  | groupDelayExpiry => exact execGroupDelayExpiry_changes (hm.trans (by decide)) hu
  | pgTimeout a0 => exact execPgTimeout_changes a0 (hm.trans (by decide)) hu
  | domainOutOfWindow a0 a1 => exact execDomainOutOfWindow_changes a0 a1 (hm.trans (by decide)) hu
  | trackingFault a0 => exact execTrackingFault_changes a0 (hm.trans (by decide)) hu
  | dischargeDone a0 => exact execDischargeDone_changes a0 (hm.trans (by decide)) hu
  | fenceNotice a0 => exact execFenceNotice_changes a0 (hm.trans (by decide)) hu
  | shedSpacingExpiry => exact execShedSpacingExpiry_changes (hm.trans (by decide)) hu
  | cellScan a0 a1 a2 => exact execCellScan_changes a0 a1 a2 (hm.trans (by decide)) hu
  | chargeTermination => exact execChargeTermination_changes (hm.trans (by decide)) hu
  | chargeTimeout => exact execChargeTimeout_changes (hm.trans (by decide)) hu
  | chargerStep => exact execChargerStep_changes (hm.trans (by decide)) hu
  | impedanceStep a0 => exact execImpedanceStep_changes a0 (hm.trans (by decide)) hu
  | impedanceProbe => exact execImpedanceProbe_changes (hm.trans (by decide)) hu
  | autoZero => exact execAutoZero_changes (hm.trans (by decide)) hu
  | gaugeUpdate a0 a1 => exact execGaugeUpdate_changes a0 a1 (hm.trans (by decide)) hu
  | quietEntry => exact execQuietEntry_changes (hm.trans (by decide)) hu
  | restPoint a0 => exact execRestPoint_changes a0 (hm.trans (by decide)) hu
  | exerciseStart => exact execExerciseStart_changes (hm.trans (by decide)) hu
  | exerciseGrant a0 => exact execExerciseGrant_changes a0 (hm.trans (by decide)) hu
  | exerGrantWaitExpiry => exact execExerGrantWaitExpiry_changes (hm.trans (by decide)) hu
  | emptyAnchor => exact execEmptyAnchor_changes (hm.trans (by decide)) hu
  | fadeDaily => exact execFadeDaily_changes (hm.trans (by decide)) hu
  | sensorSample a0 a1 => exact execSensorSample_changes a0 a1 (hm.trans (by decide)) hu
  | thmHoldExpiry a0 a1 => exact execThmHoldExpiry_changes a0 a1 (hm.trans (by decide)) hu
  | thmRateCheck => exact execThmRateCheck_changes (hm.trans (by decide)) hu
  | storeRateCheck => exact execStoreRateCheck_changes (hm.trans (by decide)) hu
  | sensorReturn a0 => exact execSensorReturn_changes a0 (hm.trans (by decide)) hu
  | compensationTick => exact execCompensationTick_changes (hm.trans (by decide)) hu
  | engineAnalogLimit a0 => exact execEngineAnalogLimit_changes a0 (hm.trans (by decide)) hu
  | thermalStageOne => exact execThermalStageOne_changes (hm.trans (by decide)) hu
  | thermalStageTwo a0 => exact execThermalStageTwo_changes a0 (hm.trans (by decide)) hu
  | thermalShutdownExit => exact execThermalShutdownExit_changes (hm.trans (by decide)) hu
  | sourceEntersFault a0 a1 => exact execSourceEntersFault_changes a0 a1 (hm.trans (by decide)) hu
  | sourceBroken a0 a1 a2 => exact execSourceBroken_changes a0 a1 a2 (hm.trans (by decide)) hu
  | unitResetDone a0 => exact execUnitResetDone_changes a0 (hm.trans (by decide)) hu
  | faultFrame a0 a1 => exact execFaultFrame_changes a0 a1 (hm.trans (by decide)) hu
  | belayeActive => exact execBelayeActive_changes (hm.trans (by decide)) hu
  | belaypActive => exact execBelaypActive_changes (hm.trans (by decide)) hu
  | nandRbNChange a0 a1 => exact execNandRbNChange_changes a0 a1 (hm.trans (by decide)) hu
  | belayWpTimeout => exact execBelayWpTimeout_changes (hm.trans (by decide)) hu
  | shadowExpiry a0 => exact execShadowExpiry_changes a0 (hm.trans (by decide)) hu
  | latchedClear a0 a1 => exact execLatchedClear_changes a0 a1 (hm.trans (by decide)) hu
  | severityRaise a0 a1 a2 a3 => exact execSeverityRaise_changes a0 a1 a2 a3 (hm.trans (by decide)) hu
  | firstErrorClear a0 => exact execFirstErrorClear_changes a0 (hm.trans (by decide)) hu
  | collectorSelfCheck a0 => exact execCollectorSelfCheck_changes a0 (hm.trans (by decide)) hu
  | selvedgeCheck a0 a1 => exact execSelvedgeCheck_changes a0 a1 (hm.trans (by decide)) hu
  | selvedgeCheckTimeout => exact execSelvedgeCheckTimeout_changes (hm.trans (by decide)) hu
  | belaySettleExpiry => exact execBelaySettleExpiry_changes (hm.trans (by decide)) hu
  | recover a0 => exact execRecover_changes a0 (hm.trans (by decide)) hu
  | inputStuck a0 => exact execInputStuck_changes a0 (hm.trans (by decide)) hu
  | inputChatter a0 a1 => exact execInputChatter_changes a0 a1 (hm.trans (by decide)) hu
  | inputRelease a0 a1 => exact execInputRelease_changes a0 a1 (hm.trans (by decide)) hu
  | pairBroken a0 a1 a2 => exact execPairBroken_changes a0 a1 a2 (hm.trans (by decide)) hu
  | pairRelease a0 a1 a2 => exact execPairRelease_changes a0 a1 a2 (hm.trans (by decide)) hu
  | logMark a0 => exact execLogMark_changes a0 (hm.trans (by decide)) hu
  | logSecondEnd => exact execLogSecondEnd_changes (hm.trans (by decide)) hu
  | logFrame a0 a1 => exact execLogFrame_changes a0 a1 (hm.trans (by decide)) hu
  | knotPointerFrame a0 a1 a2 a3 a4 => exact execKnotPointerFrame_changes a0 a1 a2 a3 a4 (hm.trans (by decide)) hu
  | submit a0 => exact execSubmit_changes a0 (hm.trans (by decide)) hu
  | eraseCand a0 => exact execEraseCand_changes a0 (hm.trans (by decide)) hu
  | withdraw a0 => exact execWithdraw_changes a0 (hm.trans (by decide)) hu
  | activate a0 => exact execActivate_changes a0 (hm.trans (by decide)) hu
  | drfCandDataWrite a0 a1 => exact execDrfCandDataWrite_changes a0 a1 (hm.trans (by decide)) hu
  | draftFrame a0 a1 a2 => exact execDraftFrame_changes a0 a1 a2 (hm.trans (by decide)) hu
  | draftCrcReply a0 a1 a2 => exact execDraftCrcReply_changes a0 a1 a2 (hm.trans (by decide)) hu
  | draftStreamRetry => exact execDraftStreamRetry_changes (hm.trans (by decide)) hu
  | eflProgram a0 => exact execEflProgram_changes a0 (hm.trans (by decide)) hu
  | eflErase a0 => exact execEflErase_changes a0 (hm.trans (by decide)) hu
  | eflSuspend a0 => exact execEflSuspend_changes a0 (hm.trans (by decide)) hu
  | eflResume a0 => exact execEflResume_changes a0 (hm.trans (by decide)) hu
  | fwErase a0 => exact execFwErase_changes a0 (hm.trans (by decide)) hu
  | fwSubmit a0 => exact execFwSubmit_changes a0 (hm.trans (by decide)) hu
  | wpLock a0 => exact execWpLock_changes a0 (hm.trans (by decide)) hu
  | eflOperationDone a0 => exact execEflOperationDone_changes a0 (hm.trans (by decide)) hu
  | flashWriteRetry => exact execFlashWriteRetry_changes (hm.trans (by decide)) hu
  | lifeCycleRequest a0 a1 a2 => exact execLifeCycleRequest_changes a0 a1 a2 (hm.trans (by decide)) hu
  | regAddr a0 a1 => exact execRegAddr_changes a0 a1 (hm.trans (by decide)) hu
  | regDataWrite a0 a1 => exact execRegDataWrite_changes a0 a1 (hm.trans (by decide)) hu
  | regDataRead a0 => exact execRegDataRead_changes a0 (hm.trans (by decide)) hu
  | regStatus => exact execRegStatus_changes (hm.trans (by decide)) hu
  | page a0 a1 => exact execPage_changes a0 a1 (hm.trans (by decide)) hu
  | operation a0 a1 => exact execOperation_changes a0 a1 (hm.trans (by decide)) hu
  | clearFaults a0 => exact execClearFaults_changes a0 (hm.trans (by decide)) hu
  | capability => exact execCapability_changes (hm.trans (by decide)) hu
  | voutMode => exact execVoutMode_changes (hm.trans (by decide)) hu
  | statusByte => exact execStatusByte_changes (hm.trans (by decide)) hu
  | statusWord => exact execStatusWord_changes (hm.trans (by decide)) hu
  | statusVout => exact execStatusVout_changes (hm.trans (by decide)) hu
  | statusIout => exact execStatusIout_changes (hm.trans (by decide)) hu
  | statusInput => exact execStatusInput_changes (hm.trans (by decide)) hu
  | statusTemperature => exact execStatusTemperature_changes (hm.trans (by decide)) hu
  | statusCml => exact execStatusCml_changes (hm.trans (by decide)) hu
  | readVin => exact execReadVin_changes (hm.trans (by decide)) hu
  | readVout => exact execReadVout_changes (hm.trans (by decide)) hu
  | readIout => exact execReadIout_changes (hm.trans (by decide)) hu
  | readTemperature1 => exact execReadTemperature1_changes (hm.trans (by decide)) hu
  | readTemperature2 => exact execReadTemperature2_changes (hm.trans (by decide)) hu
  | pmbusRevision => exact execPmbusRevision_changes (hm.trans (by decide)) hu
  | mfrId => exact execMfrId_changes (hm.trans (by decide)) hu
  | mfrModel => exact execMfrModel_changes (hm.trans (by decide)) hu
  | mfrRevision => exact execMfrRevision_changes (hm.trans (by decide)) hu
  | invalidCommand a0 => exact execInvalidCommand_changes a0 (hm.trans (by decide)) hu
  | alertResponse => exact execAlertResponse_changes (hm.trans (by decide)) hu
  | registerFrame a0 a1 a2 => exact execRegisterFrame_changes a0 a1 a2 (hm.trans (by decide)) hu
  | registerResponse a0 a1 a2 => exact execRegisterResponse_changes a0 a1 a2 (hm.trans (by decide)) hu
  | unreachableTimeout a0 => exact execUnreachableTimeout_changes a0 (hm.trans (by decide)) hu
  | timeFrame a0 a1 a2 => exact execTimeFrame_changes a0 a1 a2 (hm.trans (by decide)) hu
  | refclkLoss a0 => exact execRefclkLoss_changes a0 (hm.trans (by decide)) hu
  | monitorFrame a0 a1 => exact execMonitorFrame_changes a0 a1 (hm.trans (by decide)) hu
  | monCfgWrite a0 a1 a2 => exact execMonCfgWrite_changes a0 a1 a2 (hm.trans (by decide)) hu
  | monClearAll a0 => exact execMonClearAll_changes a0 (hm.trans (by decide)) hu
  | monFreeze a0 a1 => exact execMonFreeze_changes a0 a1 (hm.trans (by decide)) hu
  | heddleControlFrame a0 a1 => exact execHeddleControlFrame_changes a0 a1 (hm.trans (by decide)) hu
  | heddleResendExpiry a0 => exact execHeddleResendExpiry_changes a0 (hm.trans (by decide)) hu
  | heddleAckTick a0 => exact execHeddleAckTick_changes a0 (hm.trans (by decide)) hu
  | heddleLinkDown a0 => exact execHeddleLinkDown_changes a0 (hm.trans (by decide)) hu
  | heddleLinkUp => exact execHeddleLinkUp_changes (hm.trans (by decide)) hu
  | rwpPairTimeout a0 a1 => exact execRwpPairTimeout_changes a0 a1 (hm.trans (by decide)) hu
  | registerWrite a0 a1 a2 a3 a4 => exact execRegisterWrite_changes a0 a1 a2 a3 a4 (hm.trans (by decide)) hu
  | registerRead a0 a1 a2 a3 => exact execRegisterRead_changes a0 a1 a2 a3 (hm.trans (by decide)) hu
  | stewardUnitReset a0 => exact execStewardUnitReset_changes a0 (hm.trans (by decide)) hu
  | refclkReturn => exact execRefclkReturn_changes (hm.trans (by decide)) hu

/-! ### Tick -/

theorem countTime_changes {m' : Nat} (hm : Covers m' 0x1000000) {u₀ u₁ : State}
    (hu : Changes m' u₀ u₁) : Changes m' u₀ (countTime u₁) :=
  hu.put_tbs (hm.bit (by decide)) (fun _ => Nat.mod_lt _ (by decide))

theorem sampleFill_changes {m' : Nat} (hm : Covers m' 0x2000000) {u₀ u₁ : State} (hu : Changes m' u₀ u₁) : Changes
    m' u₀ (sampleFill u₁) := by
  unfold sampleFill
  repeat' first
    | with_reducible assumption | with_reducible refine sample_changes _ _ _ (hm.trans (by decide)) ?_
    | with_reducible apply Changes.ite | split

theorem sampleRails_changes {m' : Nat} (hm : Covers m' 0x4e000000) {u₀ u₁ : State} (hu : Changes m' u₀ u₁) : Changes
    m' u₀ (sampleRails u₁) := by
  unfold sampleRails
  repeat' first
    | with_reducible assumption | (fail_if_no_progress beta_reduce)
    | with_reducible refine sendSamples_changes _ (hm.trans (by decide)) ?_ | with_reducible apply Changes.ite
    | split

theorem takeOwed_changes {m' : Nat} (hm : Covers m' 0xce3defff) {u₀ u₁ : State} (hu : Changes m' u₀ u₁) : Changes m'
    u₀ (takeOwed u₁) := by
  unfold takeOwed
  repeat' first
    | with_reducible assumption | (fail_if_no_progress beta_reduce)
    | with_reducible refine modSrc_changes _ _ (hm.trans (by decide)) ?_
    | (with_reducible refine withAbort_changes _ (hm.trans (by decide)) (fun v hv => ?_) ?_)
    | with_reducible refine react_changes _ _ (hm.trans (by decide)) ?_ | with_reducible apply Changes.ite
    | (extract_lets +onlyGivenNames x; refine Changes.cut (a := Changes m' u₀ x) ?_ (fun hx => ?_) <;> [unfold x; clear_value x])
    | extract_lets +onlyGivenNames x | split

theorem advance_changes {m' : Nat} (hm : Covers m' 0xffffefff) {u₀ u₁ : State} (hu : Changes m' u₀ u₁) : Changes m'
    u₀ (advance u₁) := by
  unfold advance
  repeat' first
    | with_reducible assumption | with_reducible refine advanceLifeCycle_changes (hm.trans (by decide)) ?_
    | with_reducible refine advanceWarm_changes (hm.trans (by decide)) ?_ | with_reducible apply Changes.ite
    | (extract_lets +onlyGivenNames x; refine Changes.cut (a := Changes m' u₀ x) ?_ (fun hx => ?_) <;> [unfold x; clear_value x])
    | extract_lets +onlyGivenNames x | split

theorem tick_changes {m' : Nat} (hm : Covers m' 0xffffefff) {u₀ u₁ : State} (hu : Changes m' u₀ u₁) : Changes m' u₀
    (tick u₁) := by
  unfold tick
  repeat' first
    | with_reducible assumption | with_reducible refine takeOwed_changes (hm.trans (by decide)) ?_
    | with_reducible refine sampleRails_changes (hm.trans (by decide)) ?_
    | with_reducible refine sampleFill_changes (hm.trans (by decide)) ?_
    | with_reducible refine advance_changes (hm.trans (by decide)) ?_
    | with_reducible refine leaveVerify_changes (hm.trans (by decide)) ?_
    | with_reducible refine owedBoot_changes (hm.trans (by decide)) ?_
    | with_reducible refine copyRuns_changes (hm.trans (by decide)) ?_
    | with_reducible refine countTime_changes (hm.trans (by decide)) ?_ | with_reducible apply Changes.ite
    | split

end Sys2Proof.Machine
end

