-- ==== Sys2Proof/Laws/Memory.lean ====
section
/-! SUPPORT. Laws of the memory and of the tables: a read after a write, and the canonical form that every memory
operation keeps. -/

set_option linter.all false

namespace Sys2Proof.Machine

/-! ### Tables -/

theorem tget_tput_self {α} [DecidableEq α] (d v : α) (n : Nat) (hv : v ≠ d) (t : Table α) : tget d (tput d n v t) n = v := by
  induction t with
  | nil => simp [tput, hv, tget]
  | cons c t ih =>
    obtain ⟨k, w⟩ := c
    unfold tput
    split
    · simp [hv, tget]
    · split
      · simp [hv, tget]
      · rename_i h1 h2
        simp only [tget, if_neg h2, if_neg h1]; exact ih

theorem tget_above {α} [DecidableEq α] (d : α) (n : Nat) (t : Table α) : ∀ b, tableOk d (some b) t = true → n ≤ b → tget d t n = d := by
  intro b h hn
  cases t with
  | nil => rfl
  | cons c t =>
    obtain ⟨k, w⟩ := c
    simp only [tableOk, Bool.and_eq_true, decide_eq_true_eq] at h
    have := h.1.1
    unfold tget
    rw [if_neg (by omega), if_pos (by omega)]

theorem tget_tput_ok {α} [DecidableEq α] (d v : α) (n : Nat) (t : Table α) : ∀ b, tableOk d b t = true → tget d (tput d n v t) n = v := by
  induction t with
  | nil => intro b _; by_cases hv : v = d <;> simp [tput, hv, tget]
  | cons c t ih =>
    obtain ⟨k, w⟩ := c
    intro b h
    simp only [tableOk, Bool.and_eq_true, decide_eq_true_eq] at h
    unfold tput
    split
    · rename_i h1
      by_cases hv : v = d
      · simp only [hv, if_true, tget]; rw [if_neg (by omega), if_pos h1]
      · simp [hv, tget]
    · split
      · rename_i h1 h2
        subst h2
        by_cases hv : v = d
        · simp only [hv, if_true]; exact tget_above d n t n h.2 (Nat.le_refl _)
        · simp [hv, tget]
      · rename_i h1 h2
        simp only [tget, if_neg h2, if_neg h1]; exact ih _ h.2

theorem tget_tput_ne {α} [DecidableEq α] (d v : α) (n m : Nat) (hm : m ≠ n) (t : Table α) : ∀ b, tableOk d b t = true → tget d (tput d n v t) m = tget d t m := by
  induction t with
  | nil => intro b _; by_cases hv : v = d <;> simp [tput, hv, tget, hm]
  | cons c t ih =>
    obtain ⟨k, w⟩ := c
    intro b h
    simp only [tableOk, Bool.and_eq_true, decide_eq_true_eq] at h
    unfold tput
    split
    · rename_i h1
      by_cases hv : v = d
      · simp [hv]
      · simp only [hv, if_false, tget, hm]
        by_cases h3 : m < n
        · rw [if_pos h3, if_neg (by omega), if_pos (by omega)]
        · simp [h3]
    · split
      · rename_i h1 h2
        subst h2
        by_cases hv : v = d
        · simp only [hv, if_true, tget, hm, if_false]
          by_cases h3 : m < n
          · rw [if_pos h3]; exact tget_above d m t n h.2 (by omega)
          · simp [h3]
        · simp only [hv, if_false, tget, hm]
      · rename_i h1 h2
        simp only [tget]
        rw [ih _ h.2]

theorem tget_above_up {α : Type} (d : α) (n : Nat) (t : Table α) : ∀ b, keysUp (some b) t = true → n ≤ b → tget d t n = d := by
  intro b h hn
  cases t with
  | nil => rfl
  | cons c t =>
    obtain ⟨k, w⟩ := c
    simp only [keysUp, Bool.and_eq_true, decide_eq_true_eq] at h
    have := h.1
    unfold tget
    rw [if_neg (by omega), if_pos (by omega)]

/-- A read after a write of a table whose keys rise. -/
theorem tget_tput_up {α : Type} [DecidableEq α] (d v : α) (n : Nat) (t : Table α) :
    ∀ b, keysUp b t = true → tget d (tput d n v t) n = v := by
  induction t with
  | nil => intro b _; by_cases hv : v = d <;> simp [tput, hv, tget]
  | cons c t ih =>
    obtain ⟨k, w⟩ := c
    intro b h
    simp only [keysUp, Bool.and_eq_true, decide_eq_true_eq] at h
    unfold tput
    split
    · rename_i h1
      by_cases hv : v = d
      · simp only [hv, if_true, tget]; rw [if_neg (by omega), if_pos h1]
      · simp [hv, tget]
    · split
      · rename_i h1 h2
        subst h2
        by_cases hv : v = d
        · simp only [hv, if_true]; exact tget_above_up d n t n h.2 (Nat.le_refl _)
        · simp [hv, tget]
      · rename_i h1 h2
        simp only [tget, if_neg h2, if_neg h1]; exact ih _ h.2

/-- A write of a table whose keys rise leaves every other key. -/
theorem tget_tput_up_ne {α : Type} [DecidableEq α] (d v : α) (n m : Nat) (hm : m ≠ n) (t : Table α) :
    ∀ b, keysUp b t = true → tget d (tput d n v t) m = tget d t m := by
  induction t with
  | nil => intro b _; by_cases hv : v = d <;> simp [tput, hv, tget, hm]
  | cons c t ih =>
    obtain ⟨k, w⟩ := c
    intro b h
    simp only [keysUp, Bool.and_eq_true, decide_eq_true_eq] at h
    unfold tput
    split
    · rename_i h1
      by_cases hv : v = d
      · simp [hv]
      · simp only [hv, if_false, tget, hm]
        by_cases h3 : m < n
        · rw [if_pos h3, if_neg (by omega), if_pos (by omega)]
        · simp [h3]
    · split
      · rename_i h1 h2
        subst h2
        by_cases hv : v = d
        · simp only [hv, if_true, tget, hm, if_false]
          by_cases h3 : m < n
          · rw [if_pos h3]; exact tget_above_up d m t n h.2 (by omega)
          · simp [h3]
        · simp only [hv, if_false, tget, hm]
      · rename_i h1 h2
        simp only [tget]
        rw [ih _ h.2]

/-- A read after a change of one entry. -/
theorem tget_tmod_up {α : Type} [DecidableEq α] (d : α) (n m : Nat) (f : α → α) {t : Table α} (h : keysUp none t = true) :
    tget d (tmod d n f t) m = if m = n then f (tget d t n) else tget d t m := by
  unfold tmod
  split
  · rename_i e; subst e; exact tget_tput_up _ _ _ _ _ h
  · rename_i e; exact tget_tput_up_ne _ _ _ _ e _ _ h

/-! ### Memory -/

theorem reset_memory_wf : Memory.wf State.reset = true := rfl

/-- Every memory operation keeps the canonical form. -/
theorem writeByte_wf (a : Nat) (v : Byte) (s : State) (h : Memory.wf s = true) : Memory.wf (writeByte a v s) = true :=
  tableOk_tput _ _ _ _ none h (by simp)

theorem writeLineFrom_wf (a : Nat) (data : Line) (be : BitVec 64) (n : Nat) (s : State) (h : Memory.wf s = true) :
    Memory.wf (writeLineFrom a data be n s) = true := by
  induction n generalizing s with
  | zero => exact h
  | succ n ih =>
    unfold writeLineFrom
    dsimp only
    apply ih
    split
    · exact writeByte_wf _ _ _ h
    · exact h

theorem writeLine_wf (a : Nat) (data : Line) (be : BitVec 64) (s : State) (h : Memory.wf s = true) :
    Memory.wf (writeLine a data be s) = true := writeLineFrom_wf a data be 64 s h

theorem zeroRange_wf (lo hi : Nat) (s : State) (h : Memory.wf s = true) : Memory.wf (zeroRange lo hi s) = true :=
  tableOk_filter _ _ _ none h

theorem writeGranule_wf (g : Nat) (l : List Host.Cell) (s : State) (h : Memory.wf s = true) :
    Memory.wf (writeGranule g l s) = true := by
  unfold writeGranule
  have : ∀ (l : List Host.Cell) (s : State), Memory.wf s = true →
      Memory.wf (l.foldl (fun s c => writeByte (4096 * g + c.1 % 4096) c.2 s) s) = true := by
    intro l
    induction l with
    | nil => intro s h; exact h
    | cons c l ih => intro s h; exact ih _ (writeByte_wf _ _ _ h)
  exact this l _ (zeroRange_wf _ _ _ h)

theorem readByte_writeByte (a b : Nat) (v : Byte) (s : State) (h : Sound s) : readByte (writeByte a v s) b = if b = a then v else readByte s b := by
  unfold readByte writeByte
  split
  · rename_i hb; subst hb; exact tget_tput_ok _ _ _ _ none h.memory
  · rename_i hb; exact tget_tput_ne _ _ _ _ hb _ none h.memory

theorem writeByte_sound (a : Nat) (v : Byte) (s : State) (h : Sound s) : Sound (writeByte a v s) :=
  (writeByte_changes a v (m' := 0x1ffffffff) rfl (Changes.refl _ s)).sound h

theorem read_writeLineFrom (a : Nat) (data : Line) (be : BitVec 64) (n : Nat) (s : State) (h : Sound s) (hn : n ≤ 64) (b : Nat) :
    readByte (writeLineFrom a data be n s) b =
      if 64 - n ≤ b - a ∧ a ≤ b ∧ b < a + 64 ∧ be.getLsbD (b - a) = true then data.extractLsb' (8 * (b - a)) 8 else readByte s b := by
  induction n generalizing s with
  | zero => simp only [writeLineFrom]; rw [if_neg (by omega)]
  | succ n ih =>
    unfold writeLineFrom
    dsimp only
    have hs : Sound (if be.getLsbD (63 - n) then writeByte (a + (63 - n)) (data.extractLsb' (8 * (63 - n)) 8) s else s) := by
      split
      · exact writeByte_sound _ _ _ h
      · exact h
    rw [ih _ hs (by omega)]
    by_cases hb : b = a + (63 - n)
    · subst hb
      rw [if_neg (by omega)]
      have : a + (63 - n) - a = 63 - n := by omega
      simp only [this]
      by_cases he : be.getLsbD (63 - n) = true
      · rw [if_pos he, readByte_writeByte _ _ _ _ h, if_pos rfl, if_pos ⟨by omega, by omega, by omega, he⟩]
      · rw [if_neg he, if_neg (fun x => he x.2.2.2)]
    · have hr : readByte (if be.getLsbD (63 - n) then writeByte (a + (63 - n)) (data.extractLsb' (8 * (63 - n)) 8) s else s) b = readByte s b := by
        split
        · rw [readByte_writeByte _ _ _ _ h, if_neg hb]
        · rfl
      rw [hr]
      by_cases hc : 64 - n ≤ b - a ∧ a ≤ b ∧ b < a + 64 ∧ be.getLsbD (b - a) = true
      · rw [if_pos hc, if_pos ⟨by omega, hc.2⟩]
      · rw [if_neg hc, if_neg]
        rintro ⟨x, y, z, w⟩
        exact hc ⟨by omega, y, z, w⟩

/-- A line stored at an address reads back byte by byte. -/
theorem readByte_writeLine (a : Nat) (data : Line) (be : BitVec 64) (s : State) (h : Sound s) (b : Nat) :
    readByte (writeLine a data be s) b =
      if a ≤ b ∧ b < a + 64 ∧ be.getLsbD (b - a) = true then data.extractLsb' (8 * (b - a)) 8 else readByte s b := by
  unfold writeLine
  rw [read_writeLineFrom _ _ _ _ _ h (Nat.le_refl _)]
  simp

end Sys2Proof.Machine
end

