-- ==== Sys2Proof/Laws/State.lean ====
section
/-! SUPPORT. What each update of the state writes, and that it leaves every other field as it is: one lemma per field per
update, so that no proof unfolds a record update. -/

set_option linter.all false

namespace Sys2Proof.Machine

variable (s : State)

/-! ### emit -/

@[simp] theorem emit_sent (m : Sent) : (emit m s).sent = m :: s.sent := rfl
@[simp] theorem emit_cache (m : Sent) : (emit m s).cache = s.cache := rfl
@[simp] theorem emit_dram (m : Sent) : (emit m s).dram = s.dram := rfl
@[simp] theorem emit_log (m : Sent) : (emit m s).log = s.log := rfl
@[simp] theorem emit_nand (m : Sent) : (emit m s).nand = s.nand := rfl
@[simp] theorem emit_stg (m : Sent) : (emit m s).stg = s.stg := rfl
@[simp] theorem emit_vlt (m : Sent) : (emit m s).vlt = s.vlt := rfl
@[simp] theorem emit_drain (m : Sent) : (emit m s).drain = s.drain := rfl
@[simp] theorem emit_restore (m : Sent) : (emit m s).restore = s.restore := rfl
@[simp] theorem emit_rail (m : Sent) : (emit m s).rail = s.rail := rfl
@[simp] theorem emit_vcore (m : Sent) : (emit m s).vcore = s.vcore := rfl
@[simp] theorem emit_host (m : Sent) : (emit m s).host = s.host := rfl
@[simp] theorem emit_mbx (m : Sent) : (emit m s).mbx = s.mbx := rfl
@[simp] theorem emit_vin (m : Sent) : (emit m s).vin = s.vin := rfl
@[simp] theorem emit_pwr (m : Sent) : (emit m s).pwr = s.pwr := rfl
@[simp] theorem emit_cell (m : Sent) : (emit m s).cell = s.cell := rfl
@[simp] theorem emit_gau (m : Sent) : (emit m s).gau = s.gau := rfl
@[simp] theorem emit_chg (m : Sent) : (emit m s).chg = s.chg := rfl
@[simp] theorem emit_thm (m : Sent) : (emit m s).thm = s.thm := rfl
@[simp] theorem emit_flt (m : Sent) : (emit m s).flt = s.flt := rfl
@[simp] theorem emit_sel (m : Sent) : (emit m s).sel = s.sel := rfl
@[simp] theorem emit_warm (m : Sent) : (emit m s).warm = s.warm := rfl
@[simp] theorem emit_drf (m : Sent) : (emit m s).drf = s.drf := rfl
@[simp] theorem emit_efl (m : Sent) : (emit m s).efl = s.efl := rfl
@[simp] theorem emit_lcs (m : Sent) : (emit m s).lcs = s.lcs := rfl
@[simp] theorem emit_tbs (m : Sent) : (emit m s).tbs = s.tbs := rfl
@[simp] theorem emit_mon (m : Sent) : (emit m s).mon = s.mon := rfl
@[simp] theorem emit_hdlE (m : Sent) : (emit m s).hdlE = s.hdlE := rfl
@[simp] theorem emit_hdlP (m : Sent) : (emit m s).hdlP = s.hdlP := rfl
@[simp] theorem emit_port (m : Sent) : (emit m s).port = s.port := rfl
@[simp] theorem emit_smb (m : Sent) : (emit m s).smb = s.smb := rfl
@[simp] theorem emit_free (m : Sent) : (emit m s).free = s.free := rfl
@[simp] theorem emit_pending (m : Sent) : (emit m s).pending = s.pending := rfl
@[simp] theorem emit_tap (m : Sent) : (emit m s).tap = s.tap := rfl

/-! ### nextFree -/

@[simp] theorem nextFree_free : (nextFree s).free = s.free + 1 := rfl
@[simp] theorem nextFree_cache : (nextFree s).cache = s.cache := rfl
@[simp] theorem nextFree_dram : (nextFree s).dram = s.dram := rfl
@[simp] theorem nextFree_log : (nextFree s).log = s.log := rfl
@[simp] theorem nextFree_nand : (nextFree s).nand = s.nand := rfl
@[simp] theorem nextFree_stg : (nextFree s).stg = s.stg := rfl
@[simp] theorem nextFree_vlt : (nextFree s).vlt = s.vlt := rfl
@[simp] theorem nextFree_drain : (nextFree s).drain = s.drain := rfl
@[simp] theorem nextFree_restore : (nextFree s).restore = s.restore := rfl
@[simp] theorem nextFree_rail : (nextFree s).rail = s.rail := rfl
@[simp] theorem nextFree_vcore : (nextFree s).vcore = s.vcore := rfl
@[simp] theorem nextFree_host : (nextFree s).host = s.host := rfl
@[simp] theorem nextFree_mbx : (nextFree s).mbx = s.mbx := rfl
@[simp] theorem nextFree_vin : (nextFree s).vin = s.vin := rfl
@[simp] theorem nextFree_pwr : (nextFree s).pwr = s.pwr := rfl
@[simp] theorem nextFree_cell : (nextFree s).cell = s.cell := rfl
@[simp] theorem nextFree_gau : (nextFree s).gau = s.gau := rfl
@[simp] theorem nextFree_chg : (nextFree s).chg = s.chg := rfl
@[simp] theorem nextFree_thm : (nextFree s).thm = s.thm := rfl
@[simp] theorem nextFree_flt : (nextFree s).flt = s.flt := rfl
@[simp] theorem nextFree_sel : (nextFree s).sel = s.sel := rfl
@[simp] theorem nextFree_warm : (nextFree s).warm = s.warm := rfl
@[simp] theorem nextFree_drf : (nextFree s).drf = s.drf := rfl
@[simp] theorem nextFree_efl : (nextFree s).efl = s.efl := rfl
@[simp] theorem nextFree_lcs : (nextFree s).lcs = s.lcs := rfl
@[simp] theorem nextFree_tbs : (nextFree s).tbs = s.tbs := rfl
@[simp] theorem nextFree_mon : (nextFree s).mon = s.mon := rfl
@[simp] theorem nextFree_hdlE : (nextFree s).hdlE = s.hdlE := rfl
@[simp] theorem nextFree_hdlP : (nextFree s).hdlP = s.hdlP := rfl
@[simp] theorem nextFree_port : (nextFree s).port = s.port := rfl
@[simp] theorem nextFree_smb : (nextFree s).smb = s.smb := rfl
@[simp] theorem nextFree_sent : (nextFree s).sent = s.sent := rfl
@[simp] theorem nextFree_pending : (nextFree s).pending = s.pending := rfl
@[simp] theorem nextFree_tap : (nextFree s).tap = s.tap := rfl

/-! ### writeByte -/

@[simp] theorem writeByte_dram (a : Nat) (b : Byte) : (writeByte a b s).dram = tput unlistedByte a b s.dram := rfl
@[simp] theorem writeByte_cache (a : Nat) (b : Byte) : (writeByte a b s).cache = s.cache := rfl
@[simp] theorem writeByte_log (a : Nat) (b : Byte) : (writeByte a b s).log = s.log := rfl
@[simp] theorem writeByte_nand (a : Nat) (b : Byte) : (writeByte a b s).nand = s.nand := rfl
@[simp] theorem writeByte_stg (a : Nat) (b : Byte) : (writeByte a b s).stg = s.stg := rfl
@[simp] theorem writeByte_vlt (a : Nat) (b : Byte) : (writeByte a b s).vlt = s.vlt := rfl
@[simp] theorem writeByte_drain (a : Nat) (b : Byte) : (writeByte a b s).drain = s.drain := rfl
@[simp] theorem writeByte_restore (a : Nat) (b : Byte) : (writeByte a b s).restore = s.restore := rfl
@[simp] theorem writeByte_rail (a : Nat) (b : Byte) : (writeByte a b s).rail = s.rail := rfl
@[simp] theorem writeByte_vcore (a : Nat) (b : Byte) : (writeByte a b s).vcore = s.vcore := rfl
@[simp] theorem writeByte_host (a : Nat) (b : Byte) : (writeByte a b s).host = s.host := rfl
@[simp] theorem writeByte_mbx (a : Nat) (b : Byte) : (writeByte a b s).mbx = s.mbx := rfl
@[simp] theorem writeByte_vin (a : Nat) (b : Byte) : (writeByte a b s).vin = s.vin := rfl
@[simp] theorem writeByte_pwr (a : Nat) (b : Byte) : (writeByte a b s).pwr = s.pwr := rfl
@[simp] theorem writeByte_cell (a : Nat) (b : Byte) : (writeByte a b s).cell = s.cell := rfl
@[simp] theorem writeByte_gau (a : Nat) (b : Byte) : (writeByte a b s).gau = s.gau := rfl
@[simp] theorem writeByte_chg (a : Nat) (b : Byte) : (writeByte a b s).chg = s.chg := rfl
@[simp] theorem writeByte_thm (a : Nat) (b : Byte) : (writeByte a b s).thm = s.thm := rfl
@[simp] theorem writeByte_flt (a : Nat) (b : Byte) : (writeByte a b s).flt = s.flt := rfl
@[simp] theorem writeByte_sel (a : Nat) (b : Byte) : (writeByte a b s).sel = s.sel := rfl
@[simp] theorem writeByte_warm (a : Nat) (b : Byte) : (writeByte a b s).warm = s.warm := rfl
@[simp] theorem writeByte_drf (a : Nat) (b : Byte) : (writeByte a b s).drf = s.drf := rfl
@[simp] theorem writeByte_efl (a : Nat) (b : Byte) : (writeByte a b s).efl = s.efl := rfl
@[simp] theorem writeByte_lcs (a : Nat) (b : Byte) : (writeByte a b s).lcs = s.lcs := rfl
@[simp] theorem writeByte_tbs (a : Nat) (b : Byte) : (writeByte a b s).tbs = s.tbs := rfl
@[simp] theorem writeByte_mon (a : Nat) (b : Byte) : (writeByte a b s).mon = s.mon := rfl
@[simp] theorem writeByte_hdlE (a : Nat) (b : Byte) : (writeByte a b s).hdlE = s.hdlE := rfl
@[simp] theorem writeByte_hdlP (a : Nat) (b : Byte) : (writeByte a b s).hdlP = s.hdlP := rfl
@[simp] theorem writeByte_port (a : Nat) (b : Byte) : (writeByte a b s).port = s.port := rfl
@[simp] theorem writeByte_smb (a : Nat) (b : Byte) : (writeByte a b s).smb = s.smb := rfl
@[simp] theorem writeByte_sent (a : Nat) (b : Byte) : (writeByte a b s).sent = s.sent := rfl
@[simp] theorem writeByte_free (a : Nat) (b : Byte) : (writeByte a b s).free = s.free := rfl
@[simp] theorem writeByte_pending (a : Nat) (b : Byte) : (writeByte a b s).pending = s.pending := rfl
@[simp] theorem writeByte_tap (a : Nat) (b : Byte) : (writeByte a b s).tap = s.tap := rfl

/-! ### zeroRange -/

@[simp] theorem zeroRange_dram (lo hi : Nat) : (zeroRange lo hi s).dram = s.dram.filter (fun c => c.1 < lo || hi ≤ c.1) := rfl
@[simp] theorem zeroRange_cache (lo hi : Nat) : (zeroRange lo hi s).cache = s.cache := rfl
@[simp] theorem zeroRange_log (lo hi : Nat) : (zeroRange lo hi s).log = s.log := rfl
@[simp] theorem zeroRange_nand (lo hi : Nat) : (zeroRange lo hi s).nand = s.nand := rfl
@[simp] theorem zeroRange_stg (lo hi : Nat) : (zeroRange lo hi s).stg = s.stg := rfl
@[simp] theorem zeroRange_vlt (lo hi : Nat) : (zeroRange lo hi s).vlt = s.vlt := rfl
@[simp] theorem zeroRange_drain (lo hi : Nat) : (zeroRange lo hi s).drain = s.drain := rfl
@[simp] theorem zeroRange_restore (lo hi : Nat) : (zeroRange lo hi s).restore = s.restore := rfl
@[simp] theorem zeroRange_rail (lo hi : Nat) : (zeroRange lo hi s).rail = s.rail := rfl
@[simp] theorem zeroRange_vcore (lo hi : Nat) : (zeroRange lo hi s).vcore = s.vcore := rfl
@[simp] theorem zeroRange_host (lo hi : Nat) : (zeroRange lo hi s).host = s.host := rfl
@[simp] theorem zeroRange_mbx (lo hi : Nat) : (zeroRange lo hi s).mbx = s.mbx := rfl
@[simp] theorem zeroRange_vin (lo hi : Nat) : (zeroRange lo hi s).vin = s.vin := rfl
@[simp] theorem zeroRange_pwr (lo hi : Nat) : (zeroRange lo hi s).pwr = s.pwr := rfl
@[simp] theorem zeroRange_cell (lo hi : Nat) : (zeroRange lo hi s).cell = s.cell := rfl
@[simp] theorem zeroRange_gau (lo hi : Nat) : (zeroRange lo hi s).gau = s.gau := rfl
@[simp] theorem zeroRange_chg (lo hi : Nat) : (zeroRange lo hi s).chg = s.chg := rfl
@[simp] theorem zeroRange_thm (lo hi : Nat) : (zeroRange lo hi s).thm = s.thm := rfl
@[simp] theorem zeroRange_flt (lo hi : Nat) : (zeroRange lo hi s).flt = s.flt := rfl
@[simp] theorem zeroRange_sel (lo hi : Nat) : (zeroRange lo hi s).sel = s.sel := rfl
@[simp] theorem zeroRange_warm (lo hi : Nat) : (zeroRange lo hi s).warm = s.warm := rfl
@[simp] theorem zeroRange_drf (lo hi : Nat) : (zeroRange lo hi s).drf = s.drf := rfl
@[simp] theorem zeroRange_efl (lo hi : Nat) : (zeroRange lo hi s).efl = s.efl := rfl
@[simp] theorem zeroRange_lcs (lo hi : Nat) : (zeroRange lo hi s).lcs = s.lcs := rfl
@[simp] theorem zeroRange_tbs (lo hi : Nat) : (zeroRange lo hi s).tbs = s.tbs := rfl
@[simp] theorem zeroRange_mon (lo hi : Nat) : (zeroRange lo hi s).mon = s.mon := rfl
@[simp] theorem zeroRange_hdlE (lo hi : Nat) : (zeroRange lo hi s).hdlE = s.hdlE := rfl
@[simp] theorem zeroRange_hdlP (lo hi : Nat) : (zeroRange lo hi s).hdlP = s.hdlP := rfl
@[simp] theorem zeroRange_port (lo hi : Nat) : (zeroRange lo hi s).port = s.port := rfl
@[simp] theorem zeroRange_smb (lo hi : Nat) : (zeroRange lo hi s).smb = s.smb := rfl
@[simp] theorem zeroRange_sent (lo hi : Nat) : (zeroRange lo hi s).sent = s.sent := rfl
@[simp] theorem zeroRange_free (lo hi : Nat) : (zeroRange lo hi s).free = s.free := rfl
@[simp] theorem zeroRange_pending (lo hi : Nat) : (zeroRange lo hi s).pending = s.pending := rfl
@[simp] theorem zeroRange_tap (lo hi : Nat) : (zeroRange lo hi s).tap = s.tap := rfl

/-! ### setPair -/

@[simp] theorem setPair_sel (p : PairId) (f : Pair → Pair) : (setPair p f s).sel = { s.sel with pairs := modAt (pairIndex p) f s.sel.pairs } := rfl
@[simp] theorem setPair_cache (p : PairId) (f : Pair → Pair) : (setPair p f s).cache = s.cache := rfl
@[simp] theorem setPair_dram (p : PairId) (f : Pair → Pair) : (setPair p f s).dram = s.dram := rfl
@[simp] theorem setPair_log (p : PairId) (f : Pair → Pair) : (setPair p f s).log = s.log := rfl
@[simp] theorem setPair_nand (p : PairId) (f : Pair → Pair) : (setPair p f s).nand = s.nand := rfl
@[simp] theorem setPair_stg (p : PairId) (f : Pair → Pair) : (setPair p f s).stg = s.stg := rfl
@[simp] theorem setPair_vlt (p : PairId) (f : Pair → Pair) : (setPair p f s).vlt = s.vlt := rfl
@[simp] theorem setPair_drain (p : PairId) (f : Pair → Pair) : (setPair p f s).drain = s.drain := rfl
@[simp] theorem setPair_restore (p : PairId) (f : Pair → Pair) : (setPair p f s).restore = s.restore := rfl
@[simp] theorem setPair_rail (p : PairId) (f : Pair → Pair) : (setPair p f s).rail = s.rail := rfl
@[simp] theorem setPair_vcore (p : PairId) (f : Pair → Pair) : (setPair p f s).vcore = s.vcore := rfl
@[simp] theorem setPair_host (p : PairId) (f : Pair → Pair) : (setPair p f s).host = s.host := rfl
@[simp] theorem setPair_mbx (p : PairId) (f : Pair → Pair) : (setPair p f s).mbx = s.mbx := rfl
@[simp] theorem setPair_vin (p : PairId) (f : Pair → Pair) : (setPair p f s).vin = s.vin := rfl
@[simp] theorem setPair_pwr (p : PairId) (f : Pair → Pair) : (setPair p f s).pwr = s.pwr := rfl
@[simp] theorem setPair_cell (p : PairId) (f : Pair → Pair) : (setPair p f s).cell = s.cell := rfl
@[simp] theorem setPair_gau (p : PairId) (f : Pair → Pair) : (setPair p f s).gau = s.gau := rfl
@[simp] theorem setPair_chg (p : PairId) (f : Pair → Pair) : (setPair p f s).chg = s.chg := rfl
@[simp] theorem setPair_thm (p : PairId) (f : Pair → Pair) : (setPair p f s).thm = s.thm := rfl
@[simp] theorem setPair_flt (p : PairId) (f : Pair → Pair) : (setPair p f s).flt = s.flt := rfl
@[simp] theorem setPair_warm (p : PairId) (f : Pair → Pair) : (setPair p f s).warm = s.warm := rfl
@[simp] theorem setPair_drf (p : PairId) (f : Pair → Pair) : (setPair p f s).drf = s.drf := rfl
@[simp] theorem setPair_efl (p : PairId) (f : Pair → Pair) : (setPair p f s).efl = s.efl := rfl
@[simp] theorem setPair_lcs (p : PairId) (f : Pair → Pair) : (setPair p f s).lcs = s.lcs := rfl
@[simp] theorem setPair_tbs (p : PairId) (f : Pair → Pair) : (setPair p f s).tbs = s.tbs := rfl
@[simp] theorem setPair_mon (p : PairId) (f : Pair → Pair) : (setPair p f s).mon = s.mon := rfl
@[simp] theorem setPair_hdlE (p : PairId) (f : Pair → Pair) : (setPair p f s).hdlE = s.hdlE := rfl
@[simp] theorem setPair_hdlP (p : PairId) (f : Pair → Pair) : (setPair p f s).hdlP = s.hdlP := rfl
@[simp] theorem setPair_port (p : PairId) (f : Pair → Pair) : (setPair p f s).port = s.port := rfl
@[simp] theorem setPair_smb (p : PairId) (f : Pair → Pair) : (setPair p f s).smb = s.smb := rfl
@[simp] theorem setPair_sent (p : PairId) (f : Pair → Pair) : (setPair p f s).sent = s.sent := rfl
@[simp] theorem setPair_free (p : PairId) (f : Pair → Pair) : (setPair p f s).free = s.free := rfl
@[simp] theorem setPair_pending (p : PairId) (f : Pair → Pair) : (setPair p f s).pending = s.pending := rfl
@[simp] theorem setPair_tap (p : PairId) (f : Pair → Pair) : (setPair p f s).tap = s.tap := rfl

/-! ### drivePair -/

@[simp] theorem drivePair_sel (p : PairId) (b : Bool) : (drivePair p b s).sel = { s.sel with pairs := modAt (pairIndex p) (fun x => { x with t := b, c := !b }) s.sel.pairs } := rfl
@[simp] theorem drivePair_cache (p : PairId) (b : Bool) : (drivePair p b s).cache = s.cache := rfl
@[simp] theorem drivePair_dram (p : PairId) (b : Bool) : (drivePair p b s).dram = s.dram := rfl
@[simp] theorem drivePair_log (p : PairId) (b : Bool) : (drivePair p b s).log = s.log := rfl
@[simp] theorem drivePair_nand (p : PairId) (b : Bool) : (drivePair p b s).nand = s.nand := rfl
@[simp] theorem drivePair_stg (p : PairId) (b : Bool) : (drivePair p b s).stg = s.stg := rfl
@[simp] theorem drivePair_vlt (p : PairId) (b : Bool) : (drivePair p b s).vlt = s.vlt := rfl
@[simp] theorem drivePair_drain (p : PairId) (b : Bool) : (drivePair p b s).drain = s.drain := rfl
@[simp] theorem drivePair_restore (p : PairId) (b : Bool) : (drivePair p b s).restore = s.restore := rfl
@[simp] theorem drivePair_rail (p : PairId) (b : Bool) : (drivePair p b s).rail = s.rail := rfl
@[simp] theorem drivePair_vcore (p : PairId) (b : Bool) : (drivePair p b s).vcore = s.vcore := rfl
@[simp] theorem drivePair_host (p : PairId) (b : Bool) : (drivePair p b s).host = s.host := rfl
@[simp] theorem drivePair_mbx (p : PairId) (b : Bool) : (drivePair p b s).mbx = s.mbx := rfl
@[simp] theorem drivePair_vin (p : PairId) (b : Bool) : (drivePair p b s).vin = s.vin := rfl
@[simp] theorem drivePair_pwr (p : PairId) (b : Bool) : (drivePair p b s).pwr = s.pwr := rfl
@[simp] theorem drivePair_cell (p : PairId) (b : Bool) : (drivePair p b s).cell = s.cell := rfl
@[simp] theorem drivePair_gau (p : PairId) (b : Bool) : (drivePair p b s).gau = s.gau := rfl
@[simp] theorem drivePair_chg (p : PairId) (b : Bool) : (drivePair p b s).chg = s.chg := rfl
@[simp] theorem drivePair_thm (p : PairId) (b : Bool) : (drivePair p b s).thm = s.thm := rfl
@[simp] theorem drivePair_flt (p : PairId) (b : Bool) : (drivePair p b s).flt = s.flt := rfl
@[simp] theorem drivePair_warm (p : PairId) (b : Bool) : (drivePair p b s).warm = s.warm := rfl
@[simp] theorem drivePair_drf (p : PairId) (b : Bool) : (drivePair p b s).drf = s.drf := rfl
@[simp] theorem drivePair_efl (p : PairId) (b : Bool) : (drivePair p b s).efl = s.efl := rfl
@[simp] theorem drivePair_lcs (p : PairId) (b : Bool) : (drivePair p b s).lcs = s.lcs := rfl
@[simp] theorem drivePair_tbs (p : PairId) (b : Bool) : (drivePair p b s).tbs = s.tbs := rfl
@[simp] theorem drivePair_mon (p : PairId) (b : Bool) : (drivePair p b s).mon = s.mon := rfl
@[simp] theorem drivePair_hdlE (p : PairId) (b : Bool) : (drivePair p b s).hdlE = s.hdlE := rfl
@[simp] theorem drivePair_hdlP (p : PairId) (b : Bool) : (drivePair p b s).hdlP = s.hdlP := rfl
@[simp] theorem drivePair_port (p : PairId) (b : Bool) : (drivePair p b s).port = s.port := rfl
@[simp] theorem drivePair_smb (p : PairId) (b : Bool) : (drivePair p b s).smb = s.smb := rfl
@[simp] theorem drivePair_sent (p : PairId) (b : Bool) : (drivePair p b s).sent = s.sent := rfl
@[simp] theorem drivePair_free (p : PairId) (b : Bool) : (drivePair p b s).free = s.free := rfl
@[simp] theorem drivePair_pending (p : PairId) (b : Bool) : (drivePair p b s).pending = s.pending := rfl
@[simp] theorem drivePair_tap (p : PairId) (b : Bool) : (drivePair p b s).tap = s.tap := rfl

/-! ### joinCapQueue -/

@[simp] theorem joinCapQueue_cache (n : Nat) (w : HeldWrite) : (joinCapQueue n w s).cache = { s.cache with capq := tmod [] n (byArrival w) s.cache.capq } := rfl
@[simp] theorem joinCapQueue_dram (n : Nat) (w : HeldWrite) : (joinCapQueue n w s).dram = s.dram := rfl
@[simp] theorem joinCapQueue_log (n : Nat) (w : HeldWrite) : (joinCapQueue n w s).log = s.log := rfl
@[simp] theorem joinCapQueue_nand (n : Nat) (w : HeldWrite) : (joinCapQueue n w s).nand = s.nand := rfl
@[simp] theorem joinCapQueue_stg (n : Nat) (w : HeldWrite) : (joinCapQueue n w s).stg = s.stg := rfl
@[simp] theorem joinCapQueue_vlt (n : Nat) (w : HeldWrite) : (joinCapQueue n w s).vlt = s.vlt := rfl
@[simp] theorem joinCapQueue_drain (n : Nat) (w : HeldWrite) : (joinCapQueue n w s).drain = s.drain := rfl
@[simp] theorem joinCapQueue_restore (n : Nat) (w : HeldWrite) : (joinCapQueue n w s).restore = s.restore := rfl
@[simp] theorem joinCapQueue_rail (n : Nat) (w : HeldWrite) : (joinCapQueue n w s).rail = s.rail := rfl
@[simp] theorem joinCapQueue_vcore (n : Nat) (w : HeldWrite) : (joinCapQueue n w s).vcore = s.vcore := rfl
@[simp] theorem joinCapQueue_host (n : Nat) (w : HeldWrite) : (joinCapQueue n w s).host = s.host := rfl
@[simp] theorem joinCapQueue_mbx (n : Nat) (w : HeldWrite) : (joinCapQueue n w s).mbx = s.mbx := rfl
@[simp] theorem joinCapQueue_vin (n : Nat) (w : HeldWrite) : (joinCapQueue n w s).vin = s.vin := rfl
@[simp] theorem joinCapQueue_pwr (n : Nat) (w : HeldWrite) : (joinCapQueue n w s).pwr = s.pwr := rfl
@[simp] theorem joinCapQueue_cell (n : Nat) (w : HeldWrite) : (joinCapQueue n w s).cell = s.cell := rfl
@[simp] theorem joinCapQueue_gau (n : Nat) (w : HeldWrite) : (joinCapQueue n w s).gau = s.gau := rfl
@[simp] theorem joinCapQueue_chg (n : Nat) (w : HeldWrite) : (joinCapQueue n w s).chg = s.chg := rfl
@[simp] theorem joinCapQueue_thm (n : Nat) (w : HeldWrite) : (joinCapQueue n w s).thm = s.thm := rfl
@[simp] theorem joinCapQueue_flt (n : Nat) (w : HeldWrite) : (joinCapQueue n w s).flt = s.flt := rfl
@[simp] theorem joinCapQueue_sel (n : Nat) (w : HeldWrite) : (joinCapQueue n w s).sel = s.sel := rfl
@[simp] theorem joinCapQueue_warm (n : Nat) (w : HeldWrite) : (joinCapQueue n w s).warm = s.warm := rfl
@[simp] theorem joinCapQueue_drf (n : Nat) (w : HeldWrite) : (joinCapQueue n w s).drf = s.drf := rfl
@[simp] theorem joinCapQueue_efl (n : Nat) (w : HeldWrite) : (joinCapQueue n w s).efl = s.efl := rfl
@[simp] theorem joinCapQueue_lcs (n : Nat) (w : HeldWrite) : (joinCapQueue n w s).lcs = s.lcs := rfl
@[simp] theorem joinCapQueue_tbs (n : Nat) (w : HeldWrite) : (joinCapQueue n w s).tbs = s.tbs := rfl
@[simp] theorem joinCapQueue_mon (n : Nat) (w : HeldWrite) : (joinCapQueue n w s).mon = s.mon := rfl
@[simp] theorem joinCapQueue_hdlE (n : Nat) (w : HeldWrite) : (joinCapQueue n w s).hdlE = s.hdlE := rfl
@[simp] theorem joinCapQueue_hdlP (n : Nat) (w : HeldWrite) : (joinCapQueue n w s).hdlP = s.hdlP := rfl
@[simp] theorem joinCapQueue_port (n : Nat) (w : HeldWrite) : (joinCapQueue n w s).port = s.port := rfl
@[simp] theorem joinCapQueue_smb (n : Nat) (w : HeldWrite) : (joinCapQueue n w s).smb = s.smb := rfl
@[simp] theorem joinCapQueue_sent (n : Nat) (w : HeldWrite) : (joinCapQueue n w s).sent = s.sent := rfl
@[simp] theorem joinCapQueue_free (n : Nat) (w : HeldWrite) : (joinCapQueue n w s).free = s.free := rfl
@[simp] theorem joinCapQueue_pending (n : Nat) (w : HeldWrite) : (joinCapQueue n w s).pending = s.pending := rfl
@[simp] theorem joinCapQueue_tap (n : Nat) (w : HeldWrite) : (joinCapQueue n w s).tap = s.tap := rfl

/-! ### modTarget -/

@[simp] theorem modTarget_nand (n : Nat) (f : Target → Target) : (modTarget n f s).nand = { s.nand with targets := tmod {} n f s.nand.targets } := rfl
@[simp] theorem modTarget_cache (n : Nat) (f : Target → Target) : (modTarget n f s).cache = s.cache := rfl
@[simp] theorem modTarget_dram (n : Nat) (f : Target → Target) : (modTarget n f s).dram = s.dram := rfl
@[simp] theorem modTarget_log (n : Nat) (f : Target → Target) : (modTarget n f s).log = s.log := rfl
@[simp] theorem modTarget_stg (n : Nat) (f : Target → Target) : (modTarget n f s).stg = s.stg := rfl
@[simp] theorem modTarget_vlt (n : Nat) (f : Target → Target) : (modTarget n f s).vlt = s.vlt := rfl
@[simp] theorem modTarget_drain (n : Nat) (f : Target → Target) : (modTarget n f s).drain = s.drain := rfl
@[simp] theorem modTarget_restore (n : Nat) (f : Target → Target) : (modTarget n f s).restore = s.restore := rfl
@[simp] theorem modTarget_rail (n : Nat) (f : Target → Target) : (modTarget n f s).rail = s.rail := rfl
@[simp] theorem modTarget_vcore (n : Nat) (f : Target → Target) : (modTarget n f s).vcore = s.vcore := rfl
@[simp] theorem modTarget_host (n : Nat) (f : Target → Target) : (modTarget n f s).host = s.host := rfl
@[simp] theorem modTarget_mbx (n : Nat) (f : Target → Target) : (modTarget n f s).mbx = s.mbx := rfl
@[simp] theorem modTarget_vin (n : Nat) (f : Target → Target) : (modTarget n f s).vin = s.vin := rfl
@[simp] theorem modTarget_pwr (n : Nat) (f : Target → Target) : (modTarget n f s).pwr = s.pwr := rfl
@[simp] theorem modTarget_cell (n : Nat) (f : Target → Target) : (modTarget n f s).cell = s.cell := rfl
@[simp] theorem modTarget_gau (n : Nat) (f : Target → Target) : (modTarget n f s).gau = s.gau := rfl
@[simp] theorem modTarget_chg (n : Nat) (f : Target → Target) : (modTarget n f s).chg = s.chg := rfl
@[simp] theorem modTarget_thm (n : Nat) (f : Target → Target) : (modTarget n f s).thm = s.thm := rfl
@[simp] theorem modTarget_flt (n : Nat) (f : Target → Target) : (modTarget n f s).flt = s.flt := rfl
@[simp] theorem modTarget_sel (n : Nat) (f : Target → Target) : (modTarget n f s).sel = s.sel := rfl
@[simp] theorem modTarget_warm (n : Nat) (f : Target → Target) : (modTarget n f s).warm = s.warm := rfl
@[simp] theorem modTarget_drf (n : Nat) (f : Target → Target) : (modTarget n f s).drf = s.drf := rfl
@[simp] theorem modTarget_efl (n : Nat) (f : Target → Target) : (modTarget n f s).efl = s.efl := rfl
@[simp] theorem modTarget_lcs (n : Nat) (f : Target → Target) : (modTarget n f s).lcs = s.lcs := rfl
@[simp] theorem modTarget_tbs (n : Nat) (f : Target → Target) : (modTarget n f s).tbs = s.tbs := rfl
@[simp] theorem modTarget_mon (n : Nat) (f : Target → Target) : (modTarget n f s).mon = s.mon := rfl
@[simp] theorem modTarget_hdlE (n : Nat) (f : Target → Target) : (modTarget n f s).hdlE = s.hdlE := rfl
@[simp] theorem modTarget_hdlP (n : Nat) (f : Target → Target) : (modTarget n f s).hdlP = s.hdlP := rfl
@[simp] theorem modTarget_port (n : Nat) (f : Target → Target) : (modTarget n f s).port = s.port := rfl
@[simp] theorem modTarget_smb (n : Nat) (f : Target → Target) : (modTarget n f s).smb = s.smb := rfl
@[simp] theorem modTarget_sent (n : Nat) (f : Target → Target) : (modTarget n f s).sent = s.sent := rfl
@[simp] theorem modTarget_free (n : Nat) (f : Target → Target) : (modTarget n f s).free = s.free := rfl
@[simp] theorem modTarget_pending (n : Nat) (f : Target → Target) : (modTarget n f s).pending = s.pending := rfl
@[simp] theorem modTarget_tap (n : Nat) (f : Target → Target) : (modTarget n f s).tap = s.tap := rfl

/-! ### modChannel -/

@[simp] theorem modChannel_nand (n : Nat) (f : NandCh → NandCh) : (modChannel n f s).nand = { s.nand with ch := tmod {} n f s.nand.ch } := rfl
@[simp] theorem modChannel_cache (n : Nat) (f : NandCh → NandCh) : (modChannel n f s).cache = s.cache := rfl
@[simp] theorem modChannel_dram (n : Nat) (f : NandCh → NandCh) : (modChannel n f s).dram = s.dram := rfl
@[simp] theorem modChannel_log (n : Nat) (f : NandCh → NandCh) : (modChannel n f s).log = s.log := rfl
@[simp] theorem modChannel_stg (n : Nat) (f : NandCh → NandCh) : (modChannel n f s).stg = s.stg := rfl
@[simp] theorem modChannel_vlt (n : Nat) (f : NandCh → NandCh) : (modChannel n f s).vlt = s.vlt := rfl
@[simp] theorem modChannel_drain (n : Nat) (f : NandCh → NandCh) : (modChannel n f s).drain = s.drain := rfl
@[simp] theorem modChannel_restore (n : Nat) (f : NandCh → NandCh) : (modChannel n f s).restore = s.restore := rfl
@[simp] theorem modChannel_rail (n : Nat) (f : NandCh → NandCh) : (modChannel n f s).rail = s.rail := rfl
@[simp] theorem modChannel_vcore (n : Nat) (f : NandCh → NandCh) : (modChannel n f s).vcore = s.vcore := rfl
@[simp] theorem modChannel_host (n : Nat) (f : NandCh → NandCh) : (modChannel n f s).host = s.host := rfl
@[simp] theorem modChannel_mbx (n : Nat) (f : NandCh → NandCh) : (modChannel n f s).mbx = s.mbx := rfl
@[simp] theorem modChannel_vin (n : Nat) (f : NandCh → NandCh) : (modChannel n f s).vin = s.vin := rfl
@[simp] theorem modChannel_pwr (n : Nat) (f : NandCh → NandCh) : (modChannel n f s).pwr = s.pwr := rfl
@[simp] theorem modChannel_cell (n : Nat) (f : NandCh → NandCh) : (modChannel n f s).cell = s.cell := rfl
@[simp] theorem modChannel_gau (n : Nat) (f : NandCh → NandCh) : (modChannel n f s).gau = s.gau := rfl
@[simp] theorem modChannel_chg (n : Nat) (f : NandCh → NandCh) : (modChannel n f s).chg = s.chg := rfl
@[simp] theorem modChannel_thm (n : Nat) (f : NandCh → NandCh) : (modChannel n f s).thm = s.thm := rfl
@[simp] theorem modChannel_flt (n : Nat) (f : NandCh → NandCh) : (modChannel n f s).flt = s.flt := rfl
@[simp] theorem modChannel_sel (n : Nat) (f : NandCh → NandCh) : (modChannel n f s).sel = s.sel := rfl
@[simp] theorem modChannel_warm (n : Nat) (f : NandCh → NandCh) : (modChannel n f s).warm = s.warm := rfl
@[simp] theorem modChannel_drf (n : Nat) (f : NandCh → NandCh) : (modChannel n f s).drf = s.drf := rfl
@[simp] theorem modChannel_efl (n : Nat) (f : NandCh → NandCh) : (modChannel n f s).efl = s.efl := rfl
@[simp] theorem modChannel_lcs (n : Nat) (f : NandCh → NandCh) : (modChannel n f s).lcs = s.lcs := rfl
@[simp] theorem modChannel_tbs (n : Nat) (f : NandCh → NandCh) : (modChannel n f s).tbs = s.tbs := rfl
@[simp] theorem modChannel_mon (n : Nat) (f : NandCh → NandCh) : (modChannel n f s).mon = s.mon := rfl
@[simp] theorem modChannel_hdlE (n : Nat) (f : NandCh → NandCh) : (modChannel n f s).hdlE = s.hdlE := rfl
@[simp] theorem modChannel_hdlP (n : Nat) (f : NandCh → NandCh) : (modChannel n f s).hdlP = s.hdlP := rfl
@[simp] theorem modChannel_port (n : Nat) (f : NandCh → NandCh) : (modChannel n f s).port = s.port := rfl
@[simp] theorem modChannel_smb (n : Nat) (f : NandCh → NandCh) : (modChannel n f s).smb = s.smb := rfl
@[simp] theorem modChannel_sent (n : Nat) (f : NandCh → NandCh) : (modChannel n f s).sent = s.sent := rfl
@[simp] theorem modChannel_free (n : Nat) (f : NandCh → NandCh) : (modChannel n f s).free = s.free := rfl
@[simp] theorem modChannel_pending (n : Nat) (f : NandCh → NandCh) : (modChannel n f s).pending = s.pending := rfl
@[simp] theorem modChannel_tap (n : Nat) (f : NandCh → NandCh) : (modChannel n f s).tap = s.tap := rfl

/-! ### modBlock -/

@[simp] theorem modBlock_nand (n : Nat) (f : Block → Block) : (modBlock n f s).nand = { s.nand with blocks := tins n (f (blockAt n s)) s.nand.blocks } := rfl
@[simp] theorem modBlock_cache (n : Nat) (f : Block → Block) : (modBlock n f s).cache = s.cache := rfl
@[simp] theorem modBlock_dram (n : Nat) (f : Block → Block) : (modBlock n f s).dram = s.dram := rfl
@[simp] theorem modBlock_log (n : Nat) (f : Block → Block) : (modBlock n f s).log = s.log := rfl
@[simp] theorem modBlock_stg (n : Nat) (f : Block → Block) : (modBlock n f s).stg = s.stg := rfl
@[simp] theorem modBlock_vlt (n : Nat) (f : Block → Block) : (modBlock n f s).vlt = s.vlt := rfl
@[simp] theorem modBlock_drain (n : Nat) (f : Block → Block) : (modBlock n f s).drain = s.drain := rfl
@[simp] theorem modBlock_restore (n : Nat) (f : Block → Block) : (modBlock n f s).restore = s.restore := rfl
@[simp] theorem modBlock_rail (n : Nat) (f : Block → Block) : (modBlock n f s).rail = s.rail := rfl
@[simp] theorem modBlock_vcore (n : Nat) (f : Block → Block) : (modBlock n f s).vcore = s.vcore := rfl
@[simp] theorem modBlock_host (n : Nat) (f : Block → Block) : (modBlock n f s).host = s.host := rfl
@[simp] theorem modBlock_mbx (n : Nat) (f : Block → Block) : (modBlock n f s).mbx = s.mbx := rfl
@[simp] theorem modBlock_vin (n : Nat) (f : Block → Block) : (modBlock n f s).vin = s.vin := rfl
@[simp] theorem modBlock_pwr (n : Nat) (f : Block → Block) : (modBlock n f s).pwr = s.pwr := rfl
@[simp] theorem modBlock_cell (n : Nat) (f : Block → Block) : (modBlock n f s).cell = s.cell := rfl
@[simp] theorem modBlock_gau (n : Nat) (f : Block → Block) : (modBlock n f s).gau = s.gau := rfl
@[simp] theorem modBlock_chg (n : Nat) (f : Block → Block) : (modBlock n f s).chg = s.chg := rfl
@[simp] theorem modBlock_thm (n : Nat) (f : Block → Block) : (modBlock n f s).thm = s.thm := rfl
@[simp] theorem modBlock_flt (n : Nat) (f : Block → Block) : (modBlock n f s).flt = s.flt := rfl
@[simp] theorem modBlock_sel (n : Nat) (f : Block → Block) : (modBlock n f s).sel = s.sel := rfl
@[simp] theorem modBlock_warm (n : Nat) (f : Block → Block) : (modBlock n f s).warm = s.warm := rfl
@[simp] theorem modBlock_drf (n : Nat) (f : Block → Block) : (modBlock n f s).drf = s.drf := rfl
@[simp] theorem modBlock_efl (n : Nat) (f : Block → Block) : (modBlock n f s).efl = s.efl := rfl
@[simp] theorem modBlock_lcs (n : Nat) (f : Block → Block) : (modBlock n f s).lcs = s.lcs := rfl
@[simp] theorem modBlock_tbs (n : Nat) (f : Block → Block) : (modBlock n f s).tbs = s.tbs := rfl
@[simp] theorem modBlock_mon (n : Nat) (f : Block → Block) : (modBlock n f s).mon = s.mon := rfl
@[simp] theorem modBlock_hdlE (n : Nat) (f : Block → Block) : (modBlock n f s).hdlE = s.hdlE := rfl
@[simp] theorem modBlock_hdlP (n : Nat) (f : Block → Block) : (modBlock n f s).hdlP = s.hdlP := rfl
@[simp] theorem modBlock_port (n : Nat) (f : Block → Block) : (modBlock n f s).port = s.port := rfl
@[simp] theorem modBlock_smb (n : Nat) (f : Block → Block) : (modBlock n f s).smb = s.smb := rfl
@[simp] theorem modBlock_sent (n : Nat) (f : Block → Block) : (modBlock n f s).sent = s.sent := rfl
@[simp] theorem modBlock_free (n : Nat) (f : Block → Block) : (modBlock n f s).free = s.free := rfl
@[simp] theorem modBlock_pending (n : Nat) (f : Block → Block) : (modBlock n f s).pending = s.pending := rfl
@[simp] theorem modBlock_tap (n : Nat) (f : Block → Block) : (modBlock n f s).tap = s.tap := rfl

/-! ### modDom -/

@[simp] theorem modDom_pwr (n : Nat) (f : Dom → Dom) : (modDom n f s).pwr = { s.pwr with doms := modAt n f s.pwr.doms } := rfl
@[simp] theorem modDom_cache (n : Nat) (f : Dom → Dom) : (modDom n f s).cache = s.cache := rfl
@[simp] theorem modDom_dram (n : Nat) (f : Dom → Dom) : (modDom n f s).dram = s.dram := rfl
@[simp] theorem modDom_log (n : Nat) (f : Dom → Dom) : (modDom n f s).log = s.log := rfl
@[simp] theorem modDom_nand (n : Nat) (f : Dom → Dom) : (modDom n f s).nand = s.nand := rfl
@[simp] theorem modDom_stg (n : Nat) (f : Dom → Dom) : (modDom n f s).stg = s.stg := rfl
@[simp] theorem modDom_vlt (n : Nat) (f : Dom → Dom) : (modDom n f s).vlt = s.vlt := rfl
@[simp] theorem modDom_drain (n : Nat) (f : Dom → Dom) : (modDom n f s).drain = s.drain := rfl
@[simp] theorem modDom_restore (n : Nat) (f : Dom → Dom) : (modDom n f s).restore = s.restore := rfl
@[simp] theorem modDom_rail (n : Nat) (f : Dom → Dom) : (modDom n f s).rail = s.rail := rfl
@[simp] theorem modDom_vcore (n : Nat) (f : Dom → Dom) : (modDom n f s).vcore = s.vcore := rfl
@[simp] theorem modDom_host (n : Nat) (f : Dom → Dom) : (modDom n f s).host = s.host := rfl
@[simp] theorem modDom_mbx (n : Nat) (f : Dom → Dom) : (modDom n f s).mbx = s.mbx := rfl
@[simp] theorem modDom_vin (n : Nat) (f : Dom → Dom) : (modDom n f s).vin = s.vin := rfl
@[simp] theorem modDom_cell (n : Nat) (f : Dom → Dom) : (modDom n f s).cell = s.cell := rfl
@[simp] theorem modDom_gau (n : Nat) (f : Dom → Dom) : (modDom n f s).gau = s.gau := rfl
@[simp] theorem modDom_chg (n : Nat) (f : Dom → Dom) : (modDom n f s).chg = s.chg := rfl
@[simp] theorem modDom_thm (n : Nat) (f : Dom → Dom) : (modDom n f s).thm = s.thm := rfl
@[simp] theorem modDom_flt (n : Nat) (f : Dom → Dom) : (modDom n f s).flt = s.flt := rfl
@[simp] theorem modDom_sel (n : Nat) (f : Dom → Dom) : (modDom n f s).sel = s.sel := rfl
@[simp] theorem modDom_warm (n : Nat) (f : Dom → Dom) : (modDom n f s).warm = s.warm := rfl
@[simp] theorem modDom_drf (n : Nat) (f : Dom → Dom) : (modDom n f s).drf = s.drf := rfl
@[simp] theorem modDom_efl (n : Nat) (f : Dom → Dom) : (modDom n f s).efl = s.efl := rfl
@[simp] theorem modDom_lcs (n : Nat) (f : Dom → Dom) : (modDom n f s).lcs = s.lcs := rfl
@[simp] theorem modDom_tbs (n : Nat) (f : Dom → Dom) : (modDom n f s).tbs = s.tbs := rfl
@[simp] theorem modDom_mon (n : Nat) (f : Dom → Dom) : (modDom n f s).mon = s.mon := rfl
@[simp] theorem modDom_hdlE (n : Nat) (f : Dom → Dom) : (modDom n f s).hdlE = s.hdlE := rfl
@[simp] theorem modDom_hdlP (n : Nat) (f : Dom → Dom) : (modDom n f s).hdlP = s.hdlP := rfl
@[simp] theorem modDom_port (n : Nat) (f : Dom → Dom) : (modDom n f s).port = s.port := rfl
@[simp] theorem modDom_smb (n : Nat) (f : Dom → Dom) : (modDom n f s).smb = s.smb := rfl
@[simp] theorem modDom_sent (n : Nat) (f : Dom → Dom) : (modDom n f s).sent = s.sent := rfl
@[simp] theorem modDom_free (n : Nat) (f : Dom → Dom) : (modDom n f s).free = s.free := rfl
@[simp] theorem modDom_pending (n : Nat) (f : Dom → Dom) : (modDom n f s).pending = s.pending := rfl
@[simp] theorem modDom_tap (n : Nat) (f : Dom → Dom) : (modDom n f s).tap = s.tap := rfl

/-! ### modSrc -/

@[simp] theorem modSrc_flt (n : Nat) (f : Source → Source) : (modSrc n f s).flt = { s.flt with sources := tmod {} n f s.flt.sources } := rfl
@[simp] theorem modSrc_cache (n : Nat) (f : Source → Source) : (modSrc n f s).cache = s.cache := rfl
@[simp] theorem modSrc_dram (n : Nat) (f : Source → Source) : (modSrc n f s).dram = s.dram := rfl
@[simp] theorem modSrc_log (n : Nat) (f : Source → Source) : (modSrc n f s).log = s.log := rfl
@[simp] theorem modSrc_nand (n : Nat) (f : Source → Source) : (modSrc n f s).nand = s.nand := rfl
@[simp] theorem modSrc_stg (n : Nat) (f : Source → Source) : (modSrc n f s).stg = s.stg := rfl
@[simp] theorem modSrc_vlt (n : Nat) (f : Source → Source) : (modSrc n f s).vlt = s.vlt := rfl
@[simp] theorem modSrc_drain (n : Nat) (f : Source → Source) : (modSrc n f s).drain = s.drain := rfl
@[simp] theorem modSrc_restore (n : Nat) (f : Source → Source) : (modSrc n f s).restore = s.restore := rfl
@[simp] theorem modSrc_rail (n : Nat) (f : Source → Source) : (modSrc n f s).rail = s.rail := rfl
@[simp] theorem modSrc_vcore (n : Nat) (f : Source → Source) : (modSrc n f s).vcore = s.vcore := rfl
@[simp] theorem modSrc_host (n : Nat) (f : Source → Source) : (modSrc n f s).host = s.host := rfl
@[simp] theorem modSrc_mbx (n : Nat) (f : Source → Source) : (modSrc n f s).mbx = s.mbx := rfl
@[simp] theorem modSrc_vin (n : Nat) (f : Source → Source) : (modSrc n f s).vin = s.vin := rfl
@[simp] theorem modSrc_pwr (n : Nat) (f : Source → Source) : (modSrc n f s).pwr = s.pwr := rfl
@[simp] theorem modSrc_cell (n : Nat) (f : Source → Source) : (modSrc n f s).cell = s.cell := rfl
@[simp] theorem modSrc_gau (n : Nat) (f : Source → Source) : (modSrc n f s).gau = s.gau := rfl
@[simp] theorem modSrc_chg (n : Nat) (f : Source → Source) : (modSrc n f s).chg = s.chg := rfl
@[simp] theorem modSrc_thm (n : Nat) (f : Source → Source) : (modSrc n f s).thm = s.thm := rfl
@[simp] theorem modSrc_sel (n : Nat) (f : Source → Source) : (modSrc n f s).sel = s.sel := rfl
@[simp] theorem modSrc_warm (n : Nat) (f : Source → Source) : (modSrc n f s).warm = s.warm := rfl
@[simp] theorem modSrc_drf (n : Nat) (f : Source → Source) : (modSrc n f s).drf = s.drf := rfl
@[simp] theorem modSrc_efl (n : Nat) (f : Source → Source) : (modSrc n f s).efl = s.efl := rfl
@[simp] theorem modSrc_lcs (n : Nat) (f : Source → Source) : (modSrc n f s).lcs = s.lcs := rfl
@[simp] theorem modSrc_tbs (n : Nat) (f : Source → Source) : (modSrc n f s).tbs = s.tbs := rfl
@[simp] theorem modSrc_mon (n : Nat) (f : Source → Source) : (modSrc n f s).mon = s.mon := rfl
@[simp] theorem modSrc_hdlE (n : Nat) (f : Source → Source) : (modSrc n f s).hdlE = s.hdlE := rfl
@[simp] theorem modSrc_hdlP (n : Nat) (f : Source → Source) : (modSrc n f s).hdlP = s.hdlP := rfl
@[simp] theorem modSrc_port (n : Nat) (f : Source → Source) : (modSrc n f s).port = s.port := rfl
@[simp] theorem modSrc_smb (n : Nat) (f : Source → Source) : (modSrc n f s).smb = s.smb := rfl
@[simp] theorem modSrc_sent (n : Nat) (f : Source → Source) : (modSrc n f s).sent = s.sent := rfl
@[simp] theorem modSrc_free (n : Nat) (f : Source → Source) : (modSrc n f s).free = s.free := rfl
@[simp] theorem modSrc_pending (n : Nat) (f : Source → Source) : (modSrc n f s).pending = s.pending := rfl
@[simp] theorem modSrc_tap (n : Nat) (f : Source → Source) : (modSrc n f s).tap = s.tap := rfl

/-! ### modSensor -/

@[simp] theorem modSensor_thm (n : Nat) (f : Sensor → Sensor) : (modSensor n f s).thm = { s.thm with sensors := tmod {} n f s.thm.sensors } := rfl
@[simp] theorem modSensor_cache (n : Nat) (f : Sensor → Sensor) : (modSensor n f s).cache = s.cache := rfl
@[simp] theorem modSensor_dram (n : Nat) (f : Sensor → Sensor) : (modSensor n f s).dram = s.dram := rfl
@[simp] theorem modSensor_log (n : Nat) (f : Sensor → Sensor) : (modSensor n f s).log = s.log := rfl
@[simp] theorem modSensor_nand (n : Nat) (f : Sensor → Sensor) : (modSensor n f s).nand = s.nand := rfl
@[simp] theorem modSensor_stg (n : Nat) (f : Sensor → Sensor) : (modSensor n f s).stg = s.stg := rfl
@[simp] theorem modSensor_vlt (n : Nat) (f : Sensor → Sensor) : (modSensor n f s).vlt = s.vlt := rfl
@[simp] theorem modSensor_drain (n : Nat) (f : Sensor → Sensor) : (modSensor n f s).drain = s.drain := rfl
@[simp] theorem modSensor_restore (n : Nat) (f : Sensor → Sensor) : (modSensor n f s).restore = s.restore := rfl
@[simp] theorem modSensor_rail (n : Nat) (f : Sensor → Sensor) : (modSensor n f s).rail = s.rail := rfl
@[simp] theorem modSensor_vcore (n : Nat) (f : Sensor → Sensor) : (modSensor n f s).vcore = s.vcore := rfl
@[simp] theorem modSensor_host (n : Nat) (f : Sensor → Sensor) : (modSensor n f s).host = s.host := rfl
@[simp] theorem modSensor_mbx (n : Nat) (f : Sensor → Sensor) : (modSensor n f s).mbx = s.mbx := rfl
@[simp] theorem modSensor_vin (n : Nat) (f : Sensor → Sensor) : (modSensor n f s).vin = s.vin := rfl
@[simp] theorem modSensor_pwr (n : Nat) (f : Sensor → Sensor) : (modSensor n f s).pwr = s.pwr := rfl
@[simp] theorem modSensor_cell (n : Nat) (f : Sensor → Sensor) : (modSensor n f s).cell = s.cell := rfl
@[simp] theorem modSensor_gau (n : Nat) (f : Sensor → Sensor) : (modSensor n f s).gau = s.gau := rfl
@[simp] theorem modSensor_chg (n : Nat) (f : Sensor → Sensor) : (modSensor n f s).chg = s.chg := rfl
@[simp] theorem modSensor_flt (n : Nat) (f : Sensor → Sensor) : (modSensor n f s).flt = s.flt := rfl
@[simp] theorem modSensor_sel (n : Nat) (f : Sensor → Sensor) : (modSensor n f s).sel = s.sel := rfl
@[simp] theorem modSensor_warm (n : Nat) (f : Sensor → Sensor) : (modSensor n f s).warm = s.warm := rfl
@[simp] theorem modSensor_drf (n : Nat) (f : Sensor → Sensor) : (modSensor n f s).drf = s.drf := rfl
@[simp] theorem modSensor_efl (n : Nat) (f : Sensor → Sensor) : (modSensor n f s).efl = s.efl := rfl
@[simp] theorem modSensor_lcs (n : Nat) (f : Sensor → Sensor) : (modSensor n f s).lcs = s.lcs := rfl
@[simp] theorem modSensor_tbs (n : Nat) (f : Sensor → Sensor) : (modSensor n f s).tbs = s.tbs := rfl
@[simp] theorem modSensor_mon (n : Nat) (f : Sensor → Sensor) : (modSensor n f s).mon = s.mon := rfl
@[simp] theorem modSensor_hdlE (n : Nat) (f : Sensor → Sensor) : (modSensor n f s).hdlE = s.hdlE := rfl
@[simp] theorem modSensor_hdlP (n : Nat) (f : Sensor → Sensor) : (modSensor n f s).hdlP = s.hdlP := rfl
@[simp] theorem modSensor_port (n : Nat) (f : Sensor → Sensor) : (modSensor n f s).port = s.port := rfl
@[simp] theorem modSensor_smb (n : Nat) (f : Sensor → Sensor) : (modSensor n f s).smb = s.smb := rfl
@[simp] theorem modSensor_sent (n : Nat) (f : Sensor → Sensor) : (modSensor n f s).sent = s.sent := rfl
@[simp] theorem modSensor_free (n : Nat) (f : Sensor → Sensor) : (modSensor n f s).free = s.free := rfl
@[simp] theorem modSensor_pending (n : Nat) (f : Sensor → Sensor) : (modSensor n f s).pending = s.pending := rfl
@[simp] theorem modSensor_tap (n : Nat) (f : Sensor → Sensor) : (modSensor n f s).tap = s.tap := rfl

/-! ### modZone -/

@[simp] theorem modZone_thm (n : Nat) (f : Zone → Zone) : (modZone n f s).thm = { s.thm with zones := modAt n f s.thm.zones } := rfl
@[simp] theorem modZone_cache (n : Nat) (f : Zone → Zone) : (modZone n f s).cache = s.cache := rfl
@[simp] theorem modZone_dram (n : Nat) (f : Zone → Zone) : (modZone n f s).dram = s.dram := rfl
@[simp] theorem modZone_log (n : Nat) (f : Zone → Zone) : (modZone n f s).log = s.log := rfl
@[simp] theorem modZone_nand (n : Nat) (f : Zone → Zone) : (modZone n f s).nand = s.nand := rfl
@[simp] theorem modZone_stg (n : Nat) (f : Zone → Zone) : (modZone n f s).stg = s.stg := rfl
@[simp] theorem modZone_vlt (n : Nat) (f : Zone → Zone) : (modZone n f s).vlt = s.vlt := rfl
@[simp] theorem modZone_drain (n : Nat) (f : Zone → Zone) : (modZone n f s).drain = s.drain := rfl
@[simp] theorem modZone_restore (n : Nat) (f : Zone → Zone) : (modZone n f s).restore = s.restore := rfl
@[simp] theorem modZone_rail (n : Nat) (f : Zone → Zone) : (modZone n f s).rail = s.rail := rfl
@[simp] theorem modZone_vcore (n : Nat) (f : Zone → Zone) : (modZone n f s).vcore = s.vcore := rfl
@[simp] theorem modZone_host (n : Nat) (f : Zone → Zone) : (modZone n f s).host = s.host := rfl
@[simp] theorem modZone_mbx (n : Nat) (f : Zone → Zone) : (modZone n f s).mbx = s.mbx := rfl
@[simp] theorem modZone_vin (n : Nat) (f : Zone → Zone) : (modZone n f s).vin = s.vin := rfl
@[simp] theorem modZone_pwr (n : Nat) (f : Zone → Zone) : (modZone n f s).pwr = s.pwr := rfl
@[simp] theorem modZone_cell (n : Nat) (f : Zone → Zone) : (modZone n f s).cell = s.cell := rfl
@[simp] theorem modZone_gau (n : Nat) (f : Zone → Zone) : (modZone n f s).gau = s.gau := rfl
@[simp] theorem modZone_chg (n : Nat) (f : Zone → Zone) : (modZone n f s).chg = s.chg := rfl
@[simp] theorem modZone_flt (n : Nat) (f : Zone → Zone) : (modZone n f s).flt = s.flt := rfl
@[simp] theorem modZone_sel (n : Nat) (f : Zone → Zone) : (modZone n f s).sel = s.sel := rfl
@[simp] theorem modZone_warm (n : Nat) (f : Zone → Zone) : (modZone n f s).warm = s.warm := rfl
@[simp] theorem modZone_drf (n : Nat) (f : Zone → Zone) : (modZone n f s).drf = s.drf := rfl
@[simp] theorem modZone_efl (n : Nat) (f : Zone → Zone) : (modZone n f s).efl = s.efl := rfl
@[simp] theorem modZone_lcs (n : Nat) (f : Zone → Zone) : (modZone n f s).lcs = s.lcs := rfl
@[simp] theorem modZone_tbs (n : Nat) (f : Zone → Zone) : (modZone n f s).tbs = s.tbs := rfl
@[simp] theorem modZone_mon (n : Nat) (f : Zone → Zone) : (modZone n f s).mon = s.mon := rfl
@[simp] theorem modZone_hdlE (n : Nat) (f : Zone → Zone) : (modZone n f s).hdlE = s.hdlE := rfl
@[simp] theorem modZone_hdlP (n : Nat) (f : Zone → Zone) : (modZone n f s).hdlP = s.hdlP := rfl
@[simp] theorem modZone_port (n : Nat) (f : Zone → Zone) : (modZone n f s).port = s.port := rfl
@[simp] theorem modZone_smb (n : Nat) (f : Zone → Zone) : (modZone n f s).smb = s.smb := rfl
@[simp] theorem modZone_sent (n : Nat) (f : Zone → Zone) : (modZone n f s).sent = s.sent := rfl
@[simp] theorem modZone_free (n : Nat) (f : Zone → Zone) : (modZone n f s).free = s.free := rfl
@[simp] theorem modZone_pending (n : Nat) (f : Zone → Zone) : (modZone n f s).pending = s.pending := rfl
@[simp] theorem modZone_tap (n : Nat) (f : Zone → Zone) : (modZone n f s).tap = s.tap := rfl

/-! ### setSmb -/

@[simp] theorem setSmb_smb (f : SmbSt → SmbSt) : (setSmb f s).smb = f s.smb := rfl
@[simp] theorem setSmb_cache (f : SmbSt → SmbSt) : (setSmb f s).cache = s.cache := rfl
@[simp] theorem setSmb_dram (f : SmbSt → SmbSt) : (setSmb f s).dram = s.dram := rfl
@[simp] theorem setSmb_log (f : SmbSt → SmbSt) : (setSmb f s).log = s.log := rfl
@[simp] theorem setSmb_nand (f : SmbSt → SmbSt) : (setSmb f s).nand = s.nand := rfl
@[simp] theorem setSmb_stg (f : SmbSt → SmbSt) : (setSmb f s).stg = s.stg := rfl
@[simp] theorem setSmb_vlt (f : SmbSt → SmbSt) : (setSmb f s).vlt = s.vlt := rfl
@[simp] theorem setSmb_drain (f : SmbSt → SmbSt) : (setSmb f s).drain = s.drain := rfl
@[simp] theorem setSmb_restore (f : SmbSt → SmbSt) : (setSmb f s).restore = s.restore := rfl
@[simp] theorem setSmb_rail (f : SmbSt → SmbSt) : (setSmb f s).rail = s.rail := rfl
@[simp] theorem setSmb_vcore (f : SmbSt → SmbSt) : (setSmb f s).vcore = s.vcore := rfl
@[simp] theorem setSmb_host (f : SmbSt → SmbSt) : (setSmb f s).host = s.host := rfl
@[simp] theorem setSmb_mbx (f : SmbSt → SmbSt) : (setSmb f s).mbx = s.mbx := rfl
@[simp] theorem setSmb_vin (f : SmbSt → SmbSt) : (setSmb f s).vin = s.vin := rfl
@[simp] theorem setSmb_pwr (f : SmbSt → SmbSt) : (setSmb f s).pwr = s.pwr := rfl
@[simp] theorem setSmb_cell (f : SmbSt → SmbSt) : (setSmb f s).cell = s.cell := rfl
@[simp] theorem setSmb_gau (f : SmbSt → SmbSt) : (setSmb f s).gau = s.gau := rfl
@[simp] theorem setSmb_chg (f : SmbSt → SmbSt) : (setSmb f s).chg = s.chg := rfl
@[simp] theorem setSmb_thm (f : SmbSt → SmbSt) : (setSmb f s).thm = s.thm := rfl
@[simp] theorem setSmb_flt (f : SmbSt → SmbSt) : (setSmb f s).flt = s.flt := rfl
@[simp] theorem setSmb_sel (f : SmbSt → SmbSt) : (setSmb f s).sel = s.sel := rfl
@[simp] theorem setSmb_warm (f : SmbSt → SmbSt) : (setSmb f s).warm = s.warm := rfl
@[simp] theorem setSmb_drf (f : SmbSt → SmbSt) : (setSmb f s).drf = s.drf := rfl
@[simp] theorem setSmb_efl (f : SmbSt → SmbSt) : (setSmb f s).efl = s.efl := rfl
@[simp] theorem setSmb_lcs (f : SmbSt → SmbSt) : (setSmb f s).lcs = s.lcs := rfl
@[simp] theorem setSmb_tbs (f : SmbSt → SmbSt) : (setSmb f s).tbs = s.tbs := rfl
@[simp] theorem setSmb_mon (f : SmbSt → SmbSt) : (setSmb f s).mon = s.mon := rfl
@[simp] theorem setSmb_hdlE (f : SmbSt → SmbSt) : (setSmb f s).hdlE = s.hdlE := rfl
@[simp] theorem setSmb_hdlP (f : SmbSt → SmbSt) : (setSmb f s).hdlP = s.hdlP := rfl
@[simp] theorem setSmb_port (f : SmbSt → SmbSt) : (setSmb f s).port = s.port := rfl
@[simp] theorem setSmb_sent (f : SmbSt → SmbSt) : (setSmb f s).sent = s.sent := rfl
@[simp] theorem setSmb_free (f : SmbSt → SmbSt) : (setSmb f s).free = s.free := rfl
@[simp] theorem setSmb_pending (f : SmbSt → SmbSt) : (setSmb f s).pending = s.pending := rfl
@[simp] theorem setSmb_tap (f : SmbSt → SmbSt) : (setSmb f s).tap = s.tap := rfl

/-! ### emptyPoison -/

@[simp] theorem emptyPoison_cache : (emptyPoison s).cache = { s.cache with poison := [], listed := [], overflow := false, overflowTs := 0 } := rfl
@[simp] theorem emptyPoison_dram : (emptyPoison s).dram = s.dram := rfl
@[simp] theorem emptyPoison_log : (emptyPoison s).log = s.log := rfl
@[simp] theorem emptyPoison_nand : (emptyPoison s).nand = s.nand := rfl
@[simp] theorem emptyPoison_stg : (emptyPoison s).stg = s.stg := rfl
@[simp] theorem emptyPoison_vlt : (emptyPoison s).vlt = s.vlt := rfl
@[simp] theorem emptyPoison_drain : (emptyPoison s).drain = s.drain := rfl
@[simp] theorem emptyPoison_restore : (emptyPoison s).restore = s.restore := rfl
@[simp] theorem emptyPoison_rail : (emptyPoison s).rail = s.rail := rfl
@[simp] theorem emptyPoison_vcore : (emptyPoison s).vcore = s.vcore := rfl
@[simp] theorem emptyPoison_host : (emptyPoison s).host = s.host := rfl
@[simp] theorem emptyPoison_mbx : (emptyPoison s).mbx = s.mbx := rfl
@[simp] theorem emptyPoison_vin : (emptyPoison s).vin = s.vin := rfl
@[simp] theorem emptyPoison_pwr : (emptyPoison s).pwr = s.pwr := rfl
@[simp] theorem emptyPoison_cell : (emptyPoison s).cell = s.cell := rfl
@[simp] theorem emptyPoison_gau : (emptyPoison s).gau = s.gau := rfl
@[simp] theorem emptyPoison_chg : (emptyPoison s).chg = s.chg := rfl
@[simp] theorem emptyPoison_thm : (emptyPoison s).thm = s.thm := rfl
@[simp] theorem emptyPoison_flt : (emptyPoison s).flt = s.flt := rfl
@[simp] theorem emptyPoison_sel : (emptyPoison s).sel = s.sel := rfl
@[simp] theorem emptyPoison_warm : (emptyPoison s).warm = s.warm := rfl
@[simp] theorem emptyPoison_drf : (emptyPoison s).drf = s.drf := rfl
@[simp] theorem emptyPoison_efl : (emptyPoison s).efl = s.efl := rfl
@[simp] theorem emptyPoison_lcs : (emptyPoison s).lcs = s.lcs := rfl
@[simp] theorem emptyPoison_tbs : (emptyPoison s).tbs = s.tbs := rfl
@[simp] theorem emptyPoison_mon : (emptyPoison s).mon = s.mon := rfl
@[simp] theorem emptyPoison_hdlE : (emptyPoison s).hdlE = s.hdlE := rfl
@[simp] theorem emptyPoison_hdlP : (emptyPoison s).hdlP = s.hdlP := rfl
@[simp] theorem emptyPoison_port : (emptyPoison s).port = s.port := rfl
@[simp] theorem emptyPoison_smb : (emptyPoison s).smb = s.smb := rfl
@[simp] theorem emptyPoison_sent : (emptyPoison s).sent = s.sent := rfl
@[simp] theorem emptyPoison_free : (emptyPoison s).free = s.free := rfl
@[simp] theorem emptyPoison_pending : (emptyPoison s).pending = s.pending := rfl
@[simp] theorem emptyPoison_tap : (emptyPoison s).tap = s.tap := rfl

/-! ### zeroMap -/

@[simp] theorem zeroMap_cache : (zeroMap s).cache = { s.cache with map := [], loc := [], stamps := [] } := rfl
@[simp] theorem zeroMap_dram : (zeroMap s).dram = s.dram := rfl
@[simp] theorem zeroMap_log : (zeroMap s).log = s.log := rfl
@[simp] theorem zeroMap_nand : (zeroMap s).nand = s.nand := rfl
@[simp] theorem zeroMap_stg : (zeroMap s).stg = s.stg := rfl
@[simp] theorem zeroMap_vlt : (zeroMap s).vlt = s.vlt := rfl
@[simp] theorem zeroMap_drain : (zeroMap s).drain = s.drain := rfl
@[simp] theorem zeroMap_restore : (zeroMap s).restore = s.restore := rfl
@[simp] theorem zeroMap_rail : (zeroMap s).rail = s.rail := rfl
@[simp] theorem zeroMap_vcore : (zeroMap s).vcore = s.vcore := rfl
@[simp] theorem zeroMap_host : (zeroMap s).host = s.host := rfl
@[simp] theorem zeroMap_mbx : (zeroMap s).mbx = s.mbx := rfl
@[simp] theorem zeroMap_vin : (zeroMap s).vin = s.vin := rfl
@[simp] theorem zeroMap_pwr : (zeroMap s).pwr = s.pwr := rfl
@[simp] theorem zeroMap_cell : (zeroMap s).cell = s.cell := rfl
@[simp] theorem zeroMap_gau : (zeroMap s).gau = s.gau := rfl
@[simp] theorem zeroMap_chg : (zeroMap s).chg = s.chg := rfl
@[simp] theorem zeroMap_thm : (zeroMap s).thm = s.thm := rfl
@[simp] theorem zeroMap_flt : (zeroMap s).flt = s.flt := rfl
@[simp] theorem zeroMap_sel : (zeroMap s).sel = s.sel := rfl
@[simp] theorem zeroMap_warm : (zeroMap s).warm = s.warm := rfl
@[simp] theorem zeroMap_drf : (zeroMap s).drf = s.drf := rfl
@[simp] theorem zeroMap_efl : (zeroMap s).efl = s.efl := rfl
@[simp] theorem zeroMap_lcs : (zeroMap s).lcs = s.lcs := rfl
@[simp] theorem zeroMap_tbs : (zeroMap s).tbs = s.tbs := rfl
@[simp] theorem zeroMap_mon : (zeroMap s).mon = s.mon := rfl
@[simp] theorem zeroMap_hdlE : (zeroMap s).hdlE = s.hdlE := rfl
@[simp] theorem zeroMap_hdlP : (zeroMap s).hdlP = s.hdlP := rfl
@[simp] theorem zeroMap_port : (zeroMap s).port = s.port := rfl
@[simp] theorem zeroMap_smb : (zeroMap s).smb = s.smb := rfl
@[simp] theorem zeroMap_sent : (zeroMap s).sent = s.sent := rfl
@[simp] theorem zeroMap_free : (zeroMap s).free = s.free := rfl
@[simp] theorem zeroMap_pending : (zeroMap s).pending = s.pending := rfl
@[simp] theorem zeroMap_tap : (zeroMap s).tap = s.tap := rfl

/-! ### setHdl -/

@[simp] theorem setHdl_hdlE (e : End) (f : HdlEnd → HdlEnd) :
    (setHdl e f s).hdlE = if e = .engine then f s.hdlE else s.hdlE := by cases e <;> rfl
@[simp] theorem setHdl_hdlP (e : End) (f : HdlEnd → HdlEnd) :
    (setHdl e f s).hdlP = if e = .pctrl then f s.hdlP else s.hdlP := by cases e <;> rfl
@[simp] theorem setHdl_cache (e : End) (f : HdlEnd → HdlEnd) : (setHdl e f s).cache = s.cache := by cases e <;> rfl
@[simp] theorem setHdl_dram (e : End) (f : HdlEnd → HdlEnd) : (setHdl e f s).dram = s.dram := by cases e <;> rfl
@[simp] theorem setHdl_log (e : End) (f : HdlEnd → HdlEnd) : (setHdl e f s).log = s.log := by cases e <;> rfl
@[simp] theorem setHdl_nand (e : End) (f : HdlEnd → HdlEnd) : (setHdl e f s).nand = s.nand := by cases e <;> rfl
@[simp] theorem setHdl_stg (e : End) (f : HdlEnd → HdlEnd) : (setHdl e f s).stg = s.stg := by cases e <;> rfl
@[simp] theorem setHdl_vlt (e : End) (f : HdlEnd → HdlEnd) : (setHdl e f s).vlt = s.vlt := by cases e <;> rfl
@[simp] theorem setHdl_drain (e : End) (f : HdlEnd → HdlEnd) : (setHdl e f s).drain = s.drain := by cases e <;> rfl
@[simp] theorem setHdl_restore (e : End) (f : HdlEnd → HdlEnd) : (setHdl e f s).restore = s.restore := by cases e <;> rfl
@[simp] theorem setHdl_rail (e : End) (f : HdlEnd → HdlEnd) : (setHdl e f s).rail = s.rail := by cases e <;> rfl
@[simp] theorem setHdl_vcore (e : End) (f : HdlEnd → HdlEnd) : (setHdl e f s).vcore = s.vcore := by cases e <;> rfl
@[simp] theorem setHdl_host (e : End) (f : HdlEnd → HdlEnd) : (setHdl e f s).host = s.host := by cases e <;> rfl
@[simp] theorem setHdl_mbx (e : End) (f : HdlEnd → HdlEnd) : (setHdl e f s).mbx = s.mbx := by cases e <;> rfl
@[simp] theorem setHdl_vin (e : End) (f : HdlEnd → HdlEnd) : (setHdl e f s).vin = s.vin := by cases e <;> rfl
@[simp] theorem setHdl_pwr (e : End) (f : HdlEnd → HdlEnd) : (setHdl e f s).pwr = s.pwr := by cases e <;> rfl
@[simp] theorem setHdl_cell (e : End) (f : HdlEnd → HdlEnd) : (setHdl e f s).cell = s.cell := by cases e <;> rfl
@[simp] theorem setHdl_gau (e : End) (f : HdlEnd → HdlEnd) : (setHdl e f s).gau = s.gau := by cases e <;> rfl
@[simp] theorem setHdl_chg (e : End) (f : HdlEnd → HdlEnd) : (setHdl e f s).chg = s.chg := by cases e <;> rfl
@[simp] theorem setHdl_thm (e : End) (f : HdlEnd → HdlEnd) : (setHdl e f s).thm = s.thm := by cases e <;> rfl
@[simp] theorem setHdl_flt (e : End) (f : HdlEnd → HdlEnd) : (setHdl e f s).flt = s.flt := by cases e <;> rfl
@[simp] theorem setHdl_sel (e : End) (f : HdlEnd → HdlEnd) : (setHdl e f s).sel = s.sel := by cases e <;> rfl
@[simp] theorem setHdl_warm (e : End) (f : HdlEnd → HdlEnd) : (setHdl e f s).warm = s.warm := by cases e <;> rfl
@[simp] theorem setHdl_drf (e : End) (f : HdlEnd → HdlEnd) : (setHdl e f s).drf = s.drf := by cases e <;> rfl
@[simp] theorem setHdl_efl (e : End) (f : HdlEnd → HdlEnd) : (setHdl e f s).efl = s.efl := by cases e <;> rfl
@[simp] theorem setHdl_lcs (e : End) (f : HdlEnd → HdlEnd) : (setHdl e f s).lcs = s.lcs := by cases e <;> rfl
@[simp] theorem setHdl_tbs (e : End) (f : HdlEnd → HdlEnd) : (setHdl e f s).tbs = s.tbs := by cases e <;> rfl
@[simp] theorem setHdl_mon (e : End) (f : HdlEnd → HdlEnd) : (setHdl e f s).mon = s.mon := by cases e <;> rfl
@[simp] theorem setHdl_port (e : End) (f : HdlEnd → HdlEnd) : (setHdl e f s).port = s.port := by cases e <;> rfl
@[simp] theorem setHdl_smb (e : End) (f : HdlEnd → HdlEnd) : (setHdl e f s).smb = s.smb := by cases e <;> rfl
@[simp] theorem setHdl_sent (e : End) (f : HdlEnd → HdlEnd) : (setHdl e f s).sent = s.sent := by cases e <;> rfl
@[simp] theorem setHdl_free (e : End) (f : HdlEnd → HdlEnd) : (setHdl e f s).free = s.free := by cases e <;> rfl
@[simp] theorem setHdl_pending (e : End) (f : HdlEnd → HdlEnd) : (setHdl e f s).pending = s.pending := by cases e <;> rfl
@[simp] theorem setHdl_tap (e : End) (f : HdlEnd → HdlEnd) : (setHdl e f s).tap = s.tap := by cases e <;> rfl

/-! ### msix -/

@[simp] theorem msix_cache (v : Nat) : (msix v s).cache = s.cache := by unfold msix; split <;> [rfl; (try split) <;> rfl]
@[simp] theorem msix_dram (v : Nat) : (msix v s).dram = s.dram := by unfold msix; split <;> [rfl; (try split) <;> rfl]
@[simp] theorem msix_log (v : Nat) : (msix v s).log = s.log := by unfold msix; split <;> [rfl; (try split) <;> rfl]
@[simp] theorem msix_nand (v : Nat) : (msix v s).nand = s.nand := by unfold msix; split <;> [rfl; (try split) <;> rfl]
@[simp] theorem msix_stg (v : Nat) : (msix v s).stg = s.stg := by unfold msix; split <;> [rfl; (try split) <;> rfl]
@[simp] theorem msix_vlt (v : Nat) : (msix v s).vlt = s.vlt := by unfold msix; split <;> [rfl; (try split) <;> rfl]
@[simp] theorem msix_drain (v : Nat) : (msix v s).drain = s.drain := by unfold msix; split <;> [rfl; (try split) <;> rfl]
@[simp] theorem msix_restore (v : Nat) : (msix v s).restore = s.restore := by unfold msix; split <;> [rfl; (try split) <;> rfl]
@[simp] theorem msix_rail (v : Nat) : (msix v s).rail = s.rail := by unfold msix; split <;> [rfl; (try split) <;> rfl]
@[simp] theorem msix_vcore (v : Nat) : (msix v s).vcore = s.vcore := by unfold msix; split <;> [rfl; (try split) <;> rfl]
@[simp] theorem msix_mbx (v : Nat) : (msix v s).mbx = s.mbx := by unfold msix; split <;> [rfl; (try split) <;> rfl]
@[simp] theorem msix_vin (v : Nat) : (msix v s).vin = s.vin := by unfold msix; split <;> [rfl; (try split) <;> rfl]
@[simp] theorem msix_pwr (v : Nat) : (msix v s).pwr = s.pwr := by unfold msix; split <;> [rfl; (try split) <;> rfl]
@[simp] theorem msix_cell (v : Nat) : (msix v s).cell = s.cell := by unfold msix; split <;> [rfl; (try split) <;> rfl]
@[simp] theorem msix_gau (v : Nat) : (msix v s).gau = s.gau := by unfold msix; split <;> [rfl; (try split) <;> rfl]
@[simp] theorem msix_chg (v : Nat) : (msix v s).chg = s.chg := by unfold msix; split <;> [rfl; (try split) <;> rfl]
@[simp] theorem msix_thm (v : Nat) : (msix v s).thm = s.thm := by unfold msix; split <;> [rfl; (try split) <;> rfl]
@[simp] theorem msix_flt (v : Nat) : (msix v s).flt = s.flt := by unfold msix; split <;> [rfl; (try split) <;> rfl]
@[simp] theorem msix_sel (v : Nat) : (msix v s).sel = s.sel := by unfold msix; split <;> [rfl; (try split) <;> rfl]
@[simp] theorem msix_warm (v : Nat) : (msix v s).warm = s.warm := by unfold msix; split <;> [rfl; (try split) <;> rfl]
@[simp] theorem msix_drf (v : Nat) : (msix v s).drf = s.drf := by unfold msix; split <;> [rfl; (try split) <;> rfl]
@[simp] theorem msix_efl (v : Nat) : (msix v s).efl = s.efl := by unfold msix; split <;> [rfl; (try split) <;> rfl]
@[simp] theorem msix_lcs (v : Nat) : (msix v s).lcs = s.lcs := by unfold msix; split <;> [rfl; (try split) <;> rfl]
@[simp] theorem msix_tbs (v : Nat) : (msix v s).tbs = s.tbs := by unfold msix; split <;> [rfl; (try split) <;> rfl]
@[simp] theorem msix_mon (v : Nat) : (msix v s).mon = s.mon := by unfold msix; split <;> [rfl; (try split) <;> rfl]
@[simp] theorem msix_hdlE (v : Nat) : (msix v s).hdlE = s.hdlE := by unfold msix; split <;> [rfl; (try split) <;> rfl]
@[simp] theorem msix_hdlP (v : Nat) : (msix v s).hdlP = s.hdlP := by unfold msix; split <;> [rfl; (try split) <;> rfl]
@[simp] theorem msix_port (v : Nat) : (msix v s).port = s.port := by unfold msix; split <;> [rfl; (try split) <;> rfl]
@[simp] theorem msix_smb (v : Nat) : (msix v s).smb = s.smb := by unfold msix; split <;> [rfl; (try split) <;> rfl]
@[simp] theorem msix_free (v : Nat) : (msix v s).free = s.free := by unfold msix; split <;> [rfl; (try split) <;> rfl]
@[simp] theorem msix_pending (v : Nat) : (msix v s).pending = s.pending := by unfold msix; split <;> [rfl; (try split) <;> rfl]
@[simp] theorem msix_tap (v : Nat) : (msix v s).tap = s.tap := by unfold msix; split <;> [rfl; (try split) <;> rfl]


/-! ### strayEpochs -/

@[simp] theorem strayEpochs_stg : (strayEpochs s).stg = { s.stg with epochs := s.stg.epochs.map (fun e => { e with stray := true }) } := rfl
@[simp] theorem strayEpochs_cache : (strayEpochs s).cache = s.cache := rfl
@[simp] theorem strayEpochs_dram : (strayEpochs s).dram = s.dram := rfl
@[simp] theorem strayEpochs_log : (strayEpochs s).log = s.log := rfl
@[simp] theorem strayEpochs_nand : (strayEpochs s).nand = s.nand := rfl
@[simp] theorem strayEpochs_vlt : (strayEpochs s).vlt = s.vlt := rfl
@[simp] theorem strayEpochs_drain : (strayEpochs s).drain = s.drain := rfl
@[simp] theorem strayEpochs_restore : (strayEpochs s).restore = s.restore := rfl
@[simp] theorem strayEpochs_rail : (strayEpochs s).rail = s.rail := rfl
@[simp] theorem strayEpochs_vcore : (strayEpochs s).vcore = s.vcore := rfl
@[simp] theorem strayEpochs_host : (strayEpochs s).host = s.host := rfl
@[simp] theorem strayEpochs_mbx : (strayEpochs s).mbx = s.mbx := rfl
@[simp] theorem strayEpochs_vin : (strayEpochs s).vin = s.vin := rfl
@[simp] theorem strayEpochs_pwr : (strayEpochs s).pwr = s.pwr := rfl
@[simp] theorem strayEpochs_cell : (strayEpochs s).cell = s.cell := rfl
@[simp] theorem strayEpochs_gau : (strayEpochs s).gau = s.gau := rfl
@[simp] theorem strayEpochs_chg : (strayEpochs s).chg = s.chg := rfl
@[simp] theorem strayEpochs_thm : (strayEpochs s).thm = s.thm := rfl
@[simp] theorem strayEpochs_flt : (strayEpochs s).flt = s.flt := rfl
@[simp] theorem strayEpochs_sel : (strayEpochs s).sel = s.sel := rfl
@[simp] theorem strayEpochs_warm : (strayEpochs s).warm = s.warm := rfl
@[simp] theorem strayEpochs_drf : (strayEpochs s).drf = s.drf := rfl
@[simp] theorem strayEpochs_efl : (strayEpochs s).efl = s.efl := rfl
@[simp] theorem strayEpochs_lcs : (strayEpochs s).lcs = s.lcs := rfl
@[simp] theorem strayEpochs_tbs : (strayEpochs s).tbs = s.tbs := rfl
@[simp] theorem strayEpochs_mon : (strayEpochs s).mon = s.mon := rfl
@[simp] theorem strayEpochs_hdlE : (strayEpochs s).hdlE = s.hdlE := rfl
@[simp] theorem strayEpochs_hdlP : (strayEpochs s).hdlP = s.hdlP := rfl
@[simp] theorem strayEpochs_port : (strayEpochs s).port = s.port := rfl
@[simp] theorem strayEpochs_smb : (strayEpochs s).smb = s.smb := rfl
@[simp] theorem strayEpochs_sent : (strayEpochs s).sent = s.sent := rfl
@[simp] theorem strayEpochs_free : (strayEpochs s).free = s.free := rfl
@[simp] theorem strayEpochs_pending : (strayEpochs s).pending = s.pending := rfl
@[simp] theorem strayEpochs_tap : (strayEpochs s).tap = s.tap := rfl

/-! ### updateClass -/

@[simp] theorem updateClass_gau : (updateClass s).gau = { s.gau with cls := classNow s } := rfl
@[simp] theorem updateClass_cache : (updateClass s).cache = s.cache := rfl
@[simp] theorem updateClass_dram : (updateClass s).dram = s.dram := rfl
@[simp] theorem updateClass_log : (updateClass s).log = s.log := rfl
@[simp] theorem updateClass_nand : (updateClass s).nand = s.nand := rfl
@[simp] theorem updateClass_stg : (updateClass s).stg = s.stg := rfl
@[simp] theorem updateClass_vlt : (updateClass s).vlt = s.vlt := rfl
@[simp] theorem updateClass_drain : (updateClass s).drain = s.drain := rfl
@[simp] theorem updateClass_restore : (updateClass s).restore = s.restore := rfl
@[simp] theorem updateClass_rail : (updateClass s).rail = s.rail := rfl
@[simp] theorem updateClass_vcore : (updateClass s).vcore = s.vcore := rfl
@[simp] theorem updateClass_host : (updateClass s).host = s.host := rfl
@[simp] theorem updateClass_mbx : (updateClass s).mbx = s.mbx := rfl
@[simp] theorem updateClass_vin : (updateClass s).vin = s.vin := rfl
@[simp] theorem updateClass_pwr : (updateClass s).pwr = s.pwr := rfl
@[simp] theorem updateClass_cell : (updateClass s).cell = s.cell := rfl
@[simp] theorem updateClass_chg : (updateClass s).chg = s.chg := rfl
@[simp] theorem updateClass_thm : (updateClass s).thm = s.thm := rfl
@[simp] theorem updateClass_flt : (updateClass s).flt = s.flt := rfl
@[simp] theorem updateClass_sel : (updateClass s).sel = s.sel := rfl
@[simp] theorem updateClass_warm : (updateClass s).warm = s.warm := rfl
@[simp] theorem updateClass_drf : (updateClass s).drf = s.drf := rfl
@[simp] theorem updateClass_efl : (updateClass s).efl = s.efl := rfl
@[simp] theorem updateClass_lcs : (updateClass s).lcs = s.lcs := rfl
@[simp] theorem updateClass_tbs : (updateClass s).tbs = s.tbs := rfl
@[simp] theorem updateClass_mon : (updateClass s).mon = s.mon := rfl
@[simp] theorem updateClass_hdlE : (updateClass s).hdlE = s.hdlE := rfl
@[simp] theorem updateClass_hdlP : (updateClass s).hdlP = s.hdlP := rfl
@[simp] theorem updateClass_port : (updateClass s).port = s.port := rfl
@[simp] theorem updateClass_smb : (updateClass s).smb = s.smb := rfl
@[simp] theorem updateClass_sent : (updateClass s).sent = s.sent := rfl
@[simp] theorem updateClass_free : (updateClass s).free = s.free := rfl
@[simp] theorem updateClass_pending : (updateClass s).pending = s.pending := rfl
@[simp] theorem updateClass_tap : (updateClass s).tap = s.tap := rfl

/-! ### clearDomains -/

/-- A domain's flags live in `pwr` alone, so clearing them changes nothing else. -/
theorem clearDomains_eq (l : List Nat) : clearDomains l s = { s with pwr := (clearDomains l s).pwr } := by
  induction l generalizing s with
  | nil => rfl
  | cons d l ih => rw [clearDomains, List.foldl_cons, ← clearDomains, ih]; rfl
@[simp] theorem clearDomains_cache (l : List Nat) : (clearDomains l s).cache = s.cache := by rw [clearDomains_eq]
@[simp] theorem clearDomains_dram (l : List Nat) : (clearDomains l s).dram = s.dram := by rw [clearDomains_eq]
@[simp] theorem clearDomains_log (l : List Nat) : (clearDomains l s).log = s.log := by rw [clearDomains_eq]
@[simp] theorem clearDomains_nand (l : List Nat) : (clearDomains l s).nand = s.nand := by rw [clearDomains_eq]
@[simp] theorem clearDomains_stg (l : List Nat) : (clearDomains l s).stg = s.stg := by rw [clearDomains_eq]
@[simp] theorem clearDomains_vlt (l : List Nat) : (clearDomains l s).vlt = s.vlt := by rw [clearDomains_eq]
@[simp] theorem clearDomains_drain (l : List Nat) : (clearDomains l s).drain = s.drain := by rw [clearDomains_eq]
@[simp] theorem clearDomains_restore (l : List Nat) : (clearDomains l s).restore = s.restore := by rw [clearDomains_eq]
@[simp] theorem clearDomains_rail (l : List Nat) : (clearDomains l s).rail = s.rail := by rw [clearDomains_eq]
@[simp] theorem clearDomains_vcore (l : List Nat) : (clearDomains l s).vcore = s.vcore := by rw [clearDomains_eq]
@[simp] theorem clearDomains_host (l : List Nat) : (clearDomains l s).host = s.host := by rw [clearDomains_eq]
@[simp] theorem clearDomains_mbx (l : List Nat) : (clearDomains l s).mbx = s.mbx := by rw [clearDomains_eq]
@[simp] theorem clearDomains_vin (l : List Nat) : (clearDomains l s).vin = s.vin := by rw [clearDomains_eq]
@[simp] theorem clearDomains_cell (l : List Nat) : (clearDomains l s).cell = s.cell := by rw [clearDomains_eq]
@[simp] theorem clearDomains_gau (l : List Nat) : (clearDomains l s).gau = s.gau := by rw [clearDomains_eq]
@[simp] theorem clearDomains_chg (l : List Nat) : (clearDomains l s).chg = s.chg := by rw [clearDomains_eq]
@[simp] theorem clearDomains_thm (l : List Nat) : (clearDomains l s).thm = s.thm := by rw [clearDomains_eq]
@[simp] theorem clearDomains_flt (l : List Nat) : (clearDomains l s).flt = s.flt := by rw [clearDomains_eq]
@[simp] theorem clearDomains_sel (l : List Nat) : (clearDomains l s).sel = s.sel := by rw [clearDomains_eq]
@[simp] theorem clearDomains_warm (l : List Nat) : (clearDomains l s).warm = s.warm := by rw [clearDomains_eq]
@[simp] theorem clearDomains_drf (l : List Nat) : (clearDomains l s).drf = s.drf := by rw [clearDomains_eq]
@[simp] theorem clearDomains_efl (l : List Nat) : (clearDomains l s).efl = s.efl := by rw [clearDomains_eq]
@[simp] theorem clearDomains_lcs (l : List Nat) : (clearDomains l s).lcs = s.lcs := by rw [clearDomains_eq]
@[simp] theorem clearDomains_tbs (l : List Nat) : (clearDomains l s).tbs = s.tbs := by rw [clearDomains_eq]
@[simp] theorem clearDomains_mon (l : List Nat) : (clearDomains l s).mon = s.mon := by rw [clearDomains_eq]
@[simp] theorem clearDomains_hdlE (l : List Nat) : (clearDomains l s).hdlE = s.hdlE := by rw [clearDomains_eq]
@[simp] theorem clearDomains_hdlP (l : List Nat) : (clearDomains l s).hdlP = s.hdlP := by rw [clearDomains_eq]
@[simp] theorem clearDomains_port (l : List Nat) : (clearDomains l s).port = s.port := by rw [clearDomains_eq]
@[simp] theorem clearDomains_smb (l : List Nat) : (clearDomains l s).smb = s.smb := by rw [clearDomains_eq]
@[simp] theorem clearDomains_sent (l : List Nat) : (clearDomains l s).sent = s.sent := by rw [clearDomains_eq]
@[simp] theorem clearDomains_free (l : List Nat) : (clearDomains l s).free = s.free := by rw [clearDomains_eq]
@[simp] theorem clearDomains_pending (l : List Nat) : (clearDomains l s).pending = s.pending := by rw [clearDomains_eq]
@[simp] theorem clearDomains_tap (l : List Nat) : (clearDomains l s).tap = s.tap := by rw [clearDomains_eq]

/-! ### clearGauge -/

@[simp] theorem clearGauge_cell : (clearGauge s).cell = {} := rfl
@[simp] theorem clearGauge_cache : (clearGauge s).cache = s.cache := rfl
@[simp] theorem clearGauge_dram : (clearGauge s).dram = s.dram := rfl
@[simp] theorem clearGauge_log : (clearGauge s).log = s.log := rfl
@[simp] theorem clearGauge_nand : (clearGauge s).nand = s.nand := rfl
@[simp] theorem clearGauge_stg : (clearGauge s).stg = s.stg := rfl
@[simp] theorem clearGauge_vlt : (clearGauge s).vlt = s.vlt := rfl
@[simp] theorem clearGauge_drain : (clearGauge s).drain = s.drain := rfl
@[simp] theorem clearGauge_restore : (clearGauge s).restore = s.restore := rfl
@[simp] theorem clearGauge_rail : (clearGauge s).rail = s.rail := rfl
@[simp] theorem clearGauge_vcore : (clearGauge s).vcore = s.vcore := rfl
@[simp] theorem clearGauge_host : (clearGauge s).host = s.host := rfl
@[simp] theorem clearGauge_mbx : (clearGauge s).mbx = s.mbx := rfl
@[simp] theorem clearGauge_vin : (clearGauge s).vin = s.vin := rfl
@[simp] theorem clearGauge_pwr : (clearGauge s).pwr = s.pwr := rfl
@[simp] theorem clearGauge_cap : (clearGauge s).gau.cap = s.gau.cap := rfl
@[simp] theorem clearGauge_qrem : (clearGauge s).gau.qrem = s.gau.qrem := rfl
@[simp] theorem clearGauge_qunc : (clearGauge s).gau.qunc = s.gau.qunc := rfl
@[simp] theorem clearGauge_imb : (clearGauge s).gau.imb = s.gau.imb := rfl
@[simp] theorem clearGauge_reported : (clearGauge s).gau.reported = false := rfl
@[simp] theorem clearGauge_chg : (clearGauge s).chg = s.chg := rfl
@[simp] theorem clearGauge_thm : (clearGauge s).thm = s.thm := rfl
@[simp] theorem clearGauge_flt : (clearGauge s).flt = s.flt := rfl
@[simp] theorem clearGauge_sel : (clearGauge s).sel = s.sel := rfl
@[simp] theorem clearGauge_warm : (clearGauge s).warm = s.warm := rfl
@[simp] theorem clearGauge_drf : (clearGauge s).drf = s.drf := rfl
@[simp] theorem clearGauge_efl : (clearGauge s).efl = s.efl := rfl
@[simp] theorem clearGauge_lcs : (clearGauge s).lcs = s.lcs := rfl
@[simp] theorem clearGauge_tbs : (clearGauge s).tbs = s.tbs := rfl
@[simp] theorem clearGauge_mon : (clearGauge s).mon = s.mon := rfl
@[simp] theorem clearGauge_hdlE : (clearGauge s).hdlE = s.hdlE := rfl
@[simp] theorem clearGauge_hdlP : (clearGauge s).hdlP = s.hdlP := rfl
@[simp] theorem clearGauge_port : (clearGauge s).port = s.port := rfl
@[simp] theorem clearGauge_smb : (clearGauge s).smb = s.smb := rfl
@[simp] theorem clearGauge_sent : (clearGauge s).sent = s.sent := rfl
@[simp] theorem clearGauge_free : (clearGauge s).free = s.free := rfl
@[simp] theorem clearGauge_pending : (clearGauge s).pending = s.pending := rfl
@[simp] theorem clearGauge_tap : (clearGauge s).tap = s.tap := rfl

/-! ### noteRates -/

@[simp] theorem noteRates_cache : (noteRates s).cache = s.cache := rfl
@[simp] theorem noteRates_dram : (noteRates s).dram = s.dram := rfl
@[simp] theorem noteRates_log : (noteRates s).log = s.log := rfl
@[simp] theorem noteRates_nand : (noteRates s).nand = s.nand := rfl
@[simp] theorem noteRates_stg : (noteRates s).stg = s.stg := rfl
@[simp] theorem noteRates_vlt : (noteRates s).vlt = s.vlt := rfl
@[simp] theorem noteRates_drain : (noteRates s).drain = s.drain := rfl
@[simp] theorem noteRates_restore : (noteRates s).restore = s.restore := rfl
@[simp] theorem noteRates_rail : (noteRates s).rail = s.rail := rfl
@[simp] theorem noteRates_vcore : (noteRates s).vcore = s.vcore := rfl
@[simp] theorem noteRates_host : (noteRates s).host = s.host := rfl
@[simp] theorem noteRates_mbx : (noteRates s).mbx = s.mbx := rfl
@[simp] theorem noteRates_vin : (noteRates s).vin = s.vin := rfl
@[simp] theorem noteRates_pwr : (noteRates s).pwr = s.pwr := rfl
@[simp] theorem noteRates_cell : (noteRates s).cell = s.cell := rfl
@[simp] theorem noteRates_gau : (noteRates s).gau = s.gau := rfl
@[simp] theorem noteRates_chg : (noteRates s).chg = s.chg := rfl
@[simp] theorem noteRates_zones : (noteRates s).thm.zones = s.thm.zones := rfl
@[simp] theorem noteRates_flt : (noteRates s).flt = s.flt := rfl
@[simp] theorem noteRates_sel : (noteRates s).sel = s.sel := rfl
@[simp] theorem noteRates_warm : (noteRates s).warm = s.warm := rfl
@[simp] theorem noteRates_drf : (noteRates s).drf = s.drf := rfl
@[simp] theorem noteRates_efl : (noteRates s).efl = s.efl := rfl
@[simp] theorem noteRates_lcs : (noteRates s).lcs = s.lcs := rfl
@[simp] theorem noteRates_tbs : (noteRates s).tbs = s.tbs := rfl
@[simp] theorem noteRates_mon : (noteRates s).mon = s.mon := rfl
@[simp] theorem noteRates_hdlE : (noteRates s).hdlE = s.hdlE := rfl
@[simp] theorem noteRates_hdlP : (noteRates s).hdlP = s.hdlP := rfl
@[simp] theorem noteRates_port : (noteRates s).port = s.port := rfl
@[simp] theorem noteRates_smb : (noteRates s).smb = s.smb := rfl
@[simp] theorem noteRates_sent : (noteRates s).sent = s.sent := rfl
@[simp] theorem noteRates_free : (noteRates s).free = s.free := rfl
@[simp] theorem noteRates_pending : (noteRates s).pending = s.pending := rfl
@[simp] theorem noteRates_tap : (noteRates s).tap = s.tap := rfl

end Sys2Proof.Machine
end

