-- ==== Sys2Proof/Machine/ConfigSpace.lean ====
section
/-! DEFINITION. What the function shows in configuration space beside the vault DVSEC: its DVSECs and its BARs (R293, R294). No
command of the table reads configuration space, so no meaning uses them (log entry 71). -/

namespace Sys2Proof.Machine

/-- The register blocks that the Register Locator names (R294). -/
inductive RegisterBlock where
  | component | device | vendorSpecific
  deriving DecidableEq, Repr

/-- A region of a BAR: the BAR, the offset in it, and the block that the Register Locator names there, if any (R294). -/
structure BarRegion where
  bar : Nat
  offset : Nat
  block : Option RegisterBlock
  deriving DecidableEq, Repr

/-- The regions of the two BARs; the third holds the MSI-X table and pending bits (R294). -/
def barRegions : List BarRegion :=
  [⟨0, 0x00000, some .component⟩, ⟨0, 0x10000, some .device⟩, ⟨0, 0x20000, none⟩, ⟨2, 0x000000, some .vendorSpecific⟩]

/-- The size of a 64-bit non-prefetchable memory BAR in bytes (R294). -/
def barBytes : Nat → Option Nat
  | 0 => some (256 * 2 ^ 10)
  | 2 => some (4 * 2 ^ 20)
  | _ => none

/-- The PCIe DVSEC for CXL Devices (R293). -/
structure DeviceDvsec where
  memCapable : Bool := true
  cacheCapable : Bool := false
  hdmCount : Nat := 2
  range1 : Nat
  rangeBase : Nat
  rangeEnable : Bool
  range2 : Nat := 0
  memoryActive : Bool
  activeTimeout : Nat := 0b010
  cxlReset : Bool := true
  resetMemClear : Bool := false
  deriving DecidableEq, Repr

/-- Its content: Range 1 has size C and the control that the host has set, and Memory_Active is set from restore-ready on while ARMED or SPECULATIVE (R251, R293,
R321). -/
def deviceDvsec (s : State) : DeviceDvsec :=
  { range1 := capGranules s * 4096, rangeBase := s.host.rangeBase, rangeEnable := s.host.rangeEnable, memoryActive := s.host.memActive && mediaReady s }

/-- The GPF DVSEC: Phase 2 Duration in µs and Phase 2 Power in mW (R293). -/
def gpfDvsec : Nat × Nat := (100, 14000)

/-- The Flex Bus Port DVSEC: CXL.io, CXL.mem, 68-byte and 256-byte flit capable (R293). -/
def flexBusDvsec : List Bool := [true, true, true, true]

/-- The Register Locator DVSEC: one entry for each region with a block identifier (R293, R294). -/
def registerLocator : List BarRegion := barRegions.filter (·.block.isSome)

/-- The DVSECs by DVSEC ID and whether each uses the CXL vendor ID (R293). -/
def dvsecIds : List (Nat × Bool) := [(0x0000, true), (0x0005, true), (0x0007, true), (0x0008, true), (0x0001, false)]

end Sys2Proof.Machine
end

