-- ==== Sys2Proof/Machine/FrameFormat.lean ====
section
/-! DEFINITION. The bytes of a heddle-link frame: header, payloads and check (R10, R11, R533, R534), and what makes a received
frame valid (R535). The state holds frames by their fields; these are their bytes (log entry 71). -/

namespace Sys2Proof.Machine

/-- Master of a tunnelled request (R534). -/
def masterNumber : Master → Nat | .host => 1 | .smbus => 2 | .steward => 3

/-- The request word: OP, master, TAG and register address bits [21:2] (R534). -/
def requestWord (r : RegReq) : Nat :=
  (b01 r.write + 2 * b01 r.wide) * 2 ^ 30 + masterNumber r.master % 4 * 2 ^ 28 + r.tag % 64 * 2 ^ 22 +
    r.addr % 2 ^ 22 / 4 * 4

/-- Data of a request or a response: four bytes, or eight for a 64-bit access (R534). -/
def dataBytes (r : RegReq) (v : Nat) : List Nat := leList (if r.wide then 8 else 4) v

/-- A number in `n` bytes of two's complement. -/
def signedList (n : Nat) (i : Int) : List Nat := leList n (i % (2 ^ (8 * n) : Nat)).toNat

/-- The payload of a frame (R534). -/
def framePayload : Frame → List Nat
  | .control _ => []
  | .fault es => es.flatMap (fun e => [e.1, 2 * b01 e.2.1 + b01 e.2.2, 0, 0])
  | .warning k => [k, 0, 0, 0]
  | .knotPointer e p => leList 8 e ++ leList 8 p ++ leList 8 (2 ^ 64 - 1 - e) ++ leList 8 (2 ^ 64 - 1 - p)
  | .energy g soc d st => leList 4 g ++ leList 4 soc ++ leList 4 (Nat.min d max32) ++ leList 4 st
  | .time m c st => leList 8 m ++ signedList 4 c ++ leList 4 st
  | .log es => es.flatMap (fun e => (logBytes e).map (·.toNat))
  | .logRequest => [1, 0, 0, 0]
  | .monitor ms => ms.flatMap (fun m => [m.code, m.index] ++ leList 2 m.value)
  | .request r => leList 4 (requestWord r) ++ (if r.write then dataBytes r r.data else [])
  | .response r v => leList 4 (requestWord r) ++ dataBytes r v
  | .draft o bs => leList 4 o ++ bs.map (·.toNat)
  | .draftReply t c => leList 2 t ++ [0, 0] ++ leList 4 c

/-- The header word: CLASS, SEQ, ACK, NAK and LEN4 (R533). -/
def headerWord (seq ack : Nat) (f : Frame) : Nat :=
  frameClass f * 2 ^ 28 + seq % 256 * 2 ^ 20 + ack % 256 * 2 ^ 12 +
    b01 (match f with | .control nak => nak | _ => false) * 2 ^ 11 + (framePayload f).length / 4

/-- A frame between its control symbols K27.7 and K29.7: the header and its complement, the payload and its CRC-32C when
there is one (R533). -/
def frameBytes (seq ack : Nat) (f : Frame) : List Nat :=
  let p := framePayload f
  paired 4 (headerWord seq ack f) ++ p ++ (if p.isEmpty then [] else leList 4 (crc32c p))

/-- Whether the bytes received between the control symbols are a frame: the header pair, the length it states and the CRC
hold (R533, R535). -/
def frameValid (l : List Nat) : Bool :=
  let n := 4 * (leNat (l.take 4) % 256)
  pairAtOk 4 0 l && decide (l.length = 8 + n + (if n = 0 then 0 else 4)) &&
    (n = 0 || leNat (l.drop (8 + n)) = crc32c ((l.drop 8).take n))

/-- What the header of received bytes states (R533). -/
def headerOf (l : List Nat) : FrameHdr :=
  let w := leNat (l.take 4)
  { seq := w / 2 ^ 20 % 256, ack := w / 2 ^ 12 % 256, nak := decide (w / 2 ^ 11 % 2 = 1), valid := frameValid l }

end Sys2Proof.Machine
end

