-- ==== Sys2Proof/Machine/TestPort.lean ====
section
/-! DEFINITION. Boundary scan: which test instructions execute (R545). -/

namespace Sys2Proof.Machine

/-- Whether an instruction takes control of pins (R545). -/
def TapInstr.takesPins : TapInstr → Bool
  | .extest | .extestPulse | .extestTrain | .clamp | .highz => true
  | .bypass | .idcode | .sample | .preload => false

/-- Whether the chipset is INERT or in MFG (R443, R545). -/
def pinsMayBeTaken (s : State) : Bool := s.drf.active.isNone || s.lcs.st = .mfg

/-- What a test access port executes of the instruction in its register: BYPASS for one that takes control of pins outside INERT
and MFG (R545). -/
def tapExecuted (i : TapInstr) (s : State) : TapInstr := if i.takesPins && !pinsMayBeTaken s then .bypass else i

/-- A package's test access port loads an instruction, one that it may not execute as BYPASS (R545). No row of the opcode table
loads one (log entry 63). -/
def loadTap (e : End) (i : TapInstr) (s : State) : State :=
  let i := tapExecuted i s
  match e with
  | .engine => { s with tap := { s.tap with engine := i } }
  | .pctrl => { s with tap := { s.tap with pctrl := i } }

end Sys2Proof.Machine
end

