-- ==== Sys2Proof/WellFormed.lean ====
section
/-! DEFINITION. Which commands are well formed: each operand in the range that its rule gives it. -/

namespace Sys2Proof

/-- A frame header's fields fit their bytes (R533). -/
def FrameHdr.wf (h : FrameHdr) : Bool := decide (h.seq < 256) && decide (h.ack < 256)

/-- A unit that the table of R420 names. -/
def UnitId.wf : UnitId → Bool
  | .ddr c => decide (c < 4)
  | .shuttle n => decide (n < 12)
  | .path n => decide (n < 12)
  | _ => true

/-- A handshake channel of R275. -/
def StallChannel.wf : StallChannel → Bool
  | .ddr c => decide (c < 4)
  | .path n => decide (n < 12)
  | .shuttle n t _ => decide (n < 12) && (match t with | some k => decide (k < 8) | none => true)
  | _ => true

/-- The fields of a log entry fit their bytes (R436). -/
def LogBody.wf : LogBody → Bool
  | .entry ts code src fl d0 d1 st =>
    decide (ts < 2 ^ 64) && decide (code < 2 ^ 16) && decide (src < 256) && decide (fl < 256) && decide (d0 < 2 ^ 64) &&
    decide (d1 < 2 ^ 32) && decide (st < 2 ^ 16)
  | _ => true

/-- A host physical address of at most 52 bits. -/
def hpaOk (a : Nat) : Bool := decide (a < 2 ^ 52)

/-- A granule of the largest protected capacity (R80). -/
def granuleOk (g : Nat) : Bool := decide (g < 2 ^ 26)

/-- A register address of 24 bits (R500). -/
def addrOk (a : Nat) : Bool := decide (a < 2 ^ 24)

/-- A register request's fields fit the frame (R534). -/
def RegReq.wf (r : RegReq) : Bool :=
  addrOk r.addr && decide (r.tag < 256) && decide (r.data < (if r.wide then 2 ^ 64 else 2 ^ 32))

/-- Lines of the protected capacity by their number (R80). -/
def burstsOk (l : List (Nat × Burst)) : Bool := l.all (fun e => decide (e.1 < 2 ^ 32))

/-- A payload as read has 4,096 bytes (R192). -/
def CopyRead.wf : CopyRead → Bool
  | .payload l => l.length = 4096
  | _ => true

/-- What the reads of copies meet names lines of the protected capacity and of the system region above it (R80, R82). -/
def CopyReads.wf (r : CopyReads) : Bool := r.bursts.all (fun e => decide (e.1 < 2 ^ 33)) && r.a.wf && r.b.wf

/-- A page as read: its header and check bytes, and its slots by number (R192). -/
def PageRead.wf (r : PageRead) : Bool :=
  decide (r.page < 2 ^ 40) && r.header.length = 246 && r.slots.all (fun e => decide (e.1 < 4) && e.2.wf)

/-- Whether a command's operands lie in their ranges. -/
def Instr.wf : Instr → Bool
  | .cxlMemWrite _ hpa _ _ _ _ _ occ => hpaOk hpa && decide (occ ≤ 100)
  | .cxlMemRead _ hpa _ a b _ occ => hpaOk hpa && decide (occ ≤ 100) && a.wf && b.wf
  | .capQueueRelease n => decide (n < 63)
  | .demandFetchComplete g a b => granuleOk g && a.wf && b.wf
  | .granuleLoadDone g a b => granuleOk g && a.wf && b.wf
  | .newestKnotFound l => l.all PageRead.wf
  | .mapLoadDone l => l.all PageRead.wf
  | .vaultResume l => l.all PageRead.wf
  | .cxlLinkTrained w sp _ => decide (w ≤ 16) && decide (sp ≤ 6)
  | .hdmDecoderCommit d _ => decide (d < 2)
  | .msixUnmask v => decide (v < 8)
  | .getEventRecords l => decide (l < 4)
  | .clearEventRecords l _ _ => decide (l < 4)
  | .getLsa o n => decide (o + n ≤ 2 ^ 32)
  | .setLsa o d => decide (o + d.length ≤ 2 ^ 32)
  | .unsupportedCommand op => decide (op < 2 ^ 16)
  | .energyFrame h _ _ _ => h.wf
  | .pageProgramDone p b _ _ v => decide (p < 2 ^ 40) && decide (b < 2 ^ 16) && v.all (fun n => decide (n < 2 ^ 48))
  | .earlyWarning l _ _ => l.all (fun v => decide (v < 4096))
  | .specAbandonExpiry l _ => l.all (fun v => decide (v < 4096))
  | .knotRecordProgram p q _ _ => decide (p < 2 ^ 40) && decide (q < 2 ^ 40)
  | .finalKnotProgram p q _ _ => decide (p < 2 ^ 40) && decide (q < 2 ^ 40)
  | .gcStart t b => decide (t < 96) && decide (b < 2 ^ 21)
  | .blockEraseDone t b _ => decide (t < 96) && decide (b < 2 ^ 21)
  | .stagingSelect r => r.wf
  | .drainSelect r => r.wf
  | .garbageCollectionRead p a b l => decide (p < 2 ^ 42) && a.wf && b.wf && burstsOk l
  | .knotReadback _ a b => a.wf && b.wf
  | .patrolScrub _ a b => a.wf && b.wf
  | .nandDiscoveryDone c _ => decide (c < 12)
  | .warningFrame h => h.wf
  | .abandonFrame h => h.wf
  | .fenceNotice h => h.wf
  | .stallWatchdogExpiry c => c.wf
  | .keeperStart a u _ _ _ => decide (a < 128) && decide (u < 16)
  | .warmRstN _ u => decide (u < 16)
  | .domainGood d _ _ => decide (d < 12)
  | .pgTimeout d => decide (d < 12)
  | .domainOutOfWindow d _ => decide (d < 12)
  | .trackingFault d => decide (d < 12)
  | .dischargeDone d => decide (d < 12)
  | .phaseFault v p _ => decide (p < (if v then 4 else 8))
  | .sensorSample n r => decide (n < 26) && (match r with | .temp _ => decide (n < 18) | .ohms _ => decide (18 ≤ n) | .missing => true)
  | .set _ _ _ i => decide (i < 128)
  | .query _ _ _ i => decide (i < 128)
  | .engage _ _ _ i => decide (i < 128)
  | .railAckTimeout n => decide (n < 16)
  | .sensorReturn n => decide (n < 26)
  | .thmHoldExpiry z f => decide (z < 5) && decide (f < 4)
  | .sourceEntersFault n _ => decide (n < 256)
  | .sourceBroken n _ _ => decide (n < 256)
  | .unitResetDone u => u.wf
  | .stewardUnitReset u => u.wf
  | .faultFrame h l => h.wf && l.all (fun e => decide (e.1 < 256))
  | .shadowExpiry n => decide (n < 256)
  | .latchedClear _ n => decide (n < 256)
  | .severityRaise _ n sev _ => decide (n < 256) && decide (sev < 8)
  | .nandRbNChange t _ => decide (t < 96)
  | .logFrame h b => h.wf && b.wf
  | .knotPointerFrame h e sl ec sc => h.wf && decide (e < 2 ^ 48) && decide (sl < 2 ^ 48) && decide (ec < 2 ^ 64) && decide (sc < 2 ^ 64)
  | .draftFrame h o b => h.wf && decide (o < 2 ^ 16) && decide (b.length ≤ 124)
  | .draftCrcReply h _ _ => h.wf
  | .lifeCycleRequest _ t _ => decide (t < 16)
  | .regDataWrite b _ => decide (b.length = 4) || decide (b.length = 8)
  | .regDataRead n => decide (n = 4) || decide (n = 8)
  | .page v _ => (match v with | some n => decide (n < 256) | none => true)
  | .operation v _ => (match v with | some n => decide (n < 256) | none => true)
  | .invalidCommand c => decide (c < 256)
  | .registerFrame h _ r => h.wf && r.wf
  | .registerResponse h r d => h.wf && r.wf && decide (d < 2 ^ 64)
  | .unreachableTimeout r => r.wf
  | .timeFrame h _ _ => h.wf
  | .monitorFrame h _ => h.wf
  | .monCfgWrite _ k _ => decide (k < 64)
  | .heddleControlFrame _ h => h.wf
  | .rwpPairTimeout _ a => addrOk a
  | .registerWrite _ a _ _ _ => addrOk a
  | .registerRead _ a _ _ => addrOk a
  | _ => true

end Sys2Proof
end

