-- ==== Sys2Proof/Tests/Slice0.lean ====
section
/-! SUPPORT. Tests: the check of well-formedness on an ill-formed term for each of its checks, worked examples of the spec,
and for each statement with hypotheses a state and operands that meet them, clause by clause. -/

set_option linter.all false
set_option Elab.async false
set_option maxRecDepth 10000

namespace Sys2Proof.Tests

open Sys2Proof Sys2Proof.Machine

/-! ### States and operands for the tests -/

def hdr0 : FrameHdr := { seq := 0, ack := 255, nak := false, valid := true }
def req0 : HdmReq := { base := 0, size := 2^34, ways := 1, granularity := 256, position := 0, skip := 0, lock := false }
def held0 : HeldWrite := { tag := 7, dpa := 64, data := 5, be := BitVec.allOnes 64, poison := false, order := 0 }
def epoch0 : Epoch := { num := 1, kind := .staging, opened := 10 }
def step0 : StepSample := { dMilliVolt := 10, dMilliAmp := 100, clean := true }
def rq0 : RegReq := { tag := 0, write := false, wide := false, master := .host, addr := 0x26000C, data := 9 }
def pr0 : PendingRead := { issuer := .engine, req := rq0, be := 0xFF }
def disc0 : Discovered := { target := 0, trained := true, mfr := 44, device := 197121, paramCrc := true, dataBytes := 16384, spareBytes := 2048, luns := 1, planes := 6, blocks := 1024, pages := 512, factoryBad := [], rootBad := [], cut := [] }
def reads0 : CopyReads := { bursts := [], a := .decodes, b := .decodes }
def shape0 : RailShape := { bits := 64, both := false, spacerNs := 0 }
def unit0 : NandUnit := { index := 0, bolt := 0, kind := .staging, dup := false, data := .granule [] }
def knot0 : KnotRec := { slot := 4, slotB := 8, kind := .staging, epoch := 1, prev := none, ts := 5, pages := [0], units := 1, vault := 0, last := none, kindData := .blank, key := 2 }
def fetch0 : Fetch := { granule := 0, reads := [{ tag := 7, dpa := 64, burst := .good, a := .decodes, b := .decodes }] }
def loc0 : Loc := { a := 8 }
def nandUp (n : Nat) : NandSt := { ch := (List.range 12).map (fun c => (c, { trained := true, wpAsserted := false })), targets := (List.range n).map (fun t => (t, { ready := true, mfr := 44, device := 197121 })) }
def sensorsAt (t : Int) : Table Sensor := (List.range 26).map (fun n => (n, { temp := t, seen := true }))

/-- A small draft: 16 GiB protected, one bolt, every NAND target declared, twelve cells. -/
def draft : Draft :=
  let dom (target track partner : Nat) : DomRec :=
    { present := true, discharge := true, track := track, partner := partner, target := target, pgPct := 5, pgTimeout := 20,
      ramp := 1000 }
  let therm (z : Nat) : ThermIn := { zone := z, nbrs := [], bias := 10000, table := [] }
  { generation := 1, structCrc := 0, length := 7616, engine := [(1, 224, 56, 890959799)],
    params := [(0x0600 + 8, 30)],
    dram := { cGib := 16, vaultRate := 32, channels := 15, rdimm := false, ranks := 1, width := 8, density := 16, rate := 64 },
    nand := { chMask := 4095, mode := 1, rate := 16, targets := List.replicate 96 0,
              descs := [{ mfr := 44, device := 197121, luns := 1, planes := 6, blocks := 1024, pages := 512, spare := 2048,
                          tProg := 220, tR := 50, tBers := 300 }] },
    bolts := [{ present := true, priority := 0, duplex := false, base := 0, size := 64, cap := 0 }] ++
      List.replicate 62 { present := false, priority := 0, duplex := false, base := 0, size := 0, cap := 0 } ++
      [{ present := true, priority := 15, duplex := true, base := 0, size := 0, cap := 0 }],
    epb := List.replicate 12 3000,
    cxl := { vendor := 4660, device := 18582, subVendor := 0, subsys := 0, serial := 77, width := 16, speed := 6 },
    mon := [], shedOrder := [8, 9, 10],
    doms := [dom 0 0 15, dom 0 0 15, dom 850 0 15, dom 1100 1 4, dom 1100 1 3, dom 1800 0 15, dom 2500 0 15, dom 1200 2 6,
             dom 1000 0 15, dom 1200 0 15, dom 3300 0 15, dom 0 0 15],
    store := { chem := 1, cells := 12, thermMask := 12, cvMv := 3800, emptyMv := 2200, floorMv := 2200, shunt := 1000,
               chgLo := -20, chgHi := 60, coldT := 0, coldMa := 500, rInit := 2400,
               ocv := (List.range 33).map (fun i => 2200 + 50 * i), tfac := List.replicate 12 1024,
               rfac := List.replicate 12 1024, ratedMc := 158000 },
    zoneThr := [(95, 105, 115), (70, 80, 90), (75, 85, 95), (100, 110, 120), (60, 127, 127)],
    therm := [therm 1, therm 2, therm 4, therm 4, therm 15, therm 15, therm 15, therm 15],
    faults := (List.range 256).map (fun n => { sev := (defaultSev n).getD 255, unit := 1, alert := false, set := 255 }),
    shadowSets := [] }

/-- An armed block, restore complete, everything powered, the host's decoder 0 over the protected capacity. -/
def base : State :=
  { State.reset with
    pwr := { keeper := true, huMode := .opened, group := 5,
             doms := List.replicate 12 { on := true, good := true, vout := 1000 } },
    drf := { active := some draft, engineReady := true, stream := .confirmed, retained := some [] },
    warm := { engineUp := true },
    host := { width := 16, speed := 6, flit256 := true, memEnabled := true, training := true, memActive := true,
              dec0 := { committed := true, base := 0, size := 2 ^ 34 } },
    vlt := { state := .armed },
    restore := { st := .complete, keyOk := true, mapDone := true, mapKnown := true, ready := true },
    vin := { good := true, armed := true, vin := 1920 },
    stg := { epb := 3000, tEval := 15, eFixed := 1719, eWindow := 2400, computed := true, fill := 0, eGuar := 5017698,
             eReceived := 5017698, energySeen := true },
    gau := { cls := 1, cap := 158000, qrem := 158000, eGuar := 5017698, loaded := true },
    chg := { st := .cv, step := 1 },
    cell := { v := List.replicate 12 38000, stackMv := 45600 },
    hdlE := { up := true }, hdlP := { up := true },
    lcs := { st := .field, keyId := 2, keyPresent := true, keySeq := 1 },
    vcore := { on := true, target := 140, vout := 140 }, rail := { setpoint := 140 },
    efl := { wpLock := true },
    tbs := { now := 80 } }

/-- The draft with every source at S1. -/
def calm : Draft :=
  { draft with faults := (List.range 256).map (fun _ => { sev := 1, unit := 1, alert := false, set := 255 }) }

/-- A block that searches its NAND for the newest knot, and what its reads leave. -/
def atSearch (n : NandSt) : State :=
  { base with restore := { base.restore with st := .discover, ready := false }, vlt := { state := .notArmed }, nand := n }
def readAll (l : List PageRead) (s : State) : State := noteReads l { s with nand := { s.nand with badHeaders := [], badSlots := [] } }
def knotted : NandSt :=
  { nandUp 96 with
    knots := [{ knot0 with slot := 32768, slotB := 32772 }],
    pages := [(8192, { type := 2, epoch := 1, units := [], dup := true, copyB := false, reprogram := false, partner := some 2,
                       blockSeq := 0, pe := 0, ts := 5, key := 2 })] }

/-- External inputs with a thermistor of 100 steps for 5 degrees C. -/
def tabled (l : Table Sensor) : State :=
  { base with
    thm := { base.thm with sensors := l },
    drf := { base.drf with active := some { draft with
      therm := List.replicate 8 { zone := 4, nbrs := [], bias := 10000, table := (List.range 33).map (fun k => 3400 - 100 * k) } } } }

/-- Every pair active. -/
def pairsOn : SelSt := { base.sel with pairs := base.sel.pairs.map (fun p => { p with t := true, c := false }) }
/-- Embedded flash in its temperature window. -/
def atTemp (e : EflSt) : State := { base with efl := e, thm := { base.thm with sensors := sensorsAt 400 } }
/-- An engine re-booted in a vault, with the key in keeper SRAM, and what it has read. -/
def rebooted (st : VState) (n : NandSt) : State :=
  { base with
    nand := n, lcs := { base.lcs with st := .mfg }, vlt := { base.vlt with state := st },
    warm := { base.warm with kind := .engine, step := 8, stopTs := 7 } }
def resumeRead (s : State) : State :=
  noteReads [] { s with restore := { s.restore with keyOk := true }, nand := { s.nand with badHeaders := [], badSlots := [] } }
/-- NAND that holds knots, the n-th at page 8192 + 4 n, and its page. -/
def knotAt (n : Nat) (kind : KnotKind) : KnotRec :=
  { knot0 with kind := kind, epoch := n + 1, slot := 32768 + 16 * n, slotB := 32772 + 16 * n,
               prev := if n = 0 then none else some (32752 + 16 * n) }
def knotStore (l : List KnotKind) : NandSt :=
  { nandUp 96 with
    knots := (List.range l.length).map (fun n => knotAt n (l[n]?.getD .staging)),
    pages := (List.range l.length).map (fun n =>
      (8192 + 4 * n, { type := 2, epoch := n + 1, units := [], dup := true, copyB := false, reprogram := false, partner := some 2,
                       blockSeq := 0, pe := 0, ts := 5, key := 2 })) }
def void0 : VoidRec := { epoch := 3, reason := 1, ts := 0, slot := 32768, slotB := 32772, key := 2 }
def entryLog : LogEntry := { ts := 5, code := 2, source := 3, flags := 0, seq := 0, data0 := 0, data1 := 0, state := 0 }
/-- A granule whose copy A lies on NAND, or both copies. -/
def pageOf (l : List NandUnit) (partner : Option Nat) (isB : Bool) : Page :=
  { type := 1, epoch := 1, units := l, dup := partner.isSome, copyB := isB, reprogram := false, partner := partner,
    blockSeq := 0, pe := 0, ts := 0, key := 2 }
def loading (l : Loc) (n : NandSt) (f : List Fetch) : State :=
  { base with
    restore := { base.restore with st := .lazy, loading := [0] }, nand := n,
    cache := { base.cache with map := [(0, { st := .restorePending })], loc := [(0, l)], fetches := f } }
def copyA : Loc := { a := 4 * (20 * 4096) }
def withA : NandSt := { nandUp 96 with pages := [(20 * 4096, pageOf [unit0] none false)] }

/-- A sound state, as a check. -/
def soundB (s : State) : Bool :=
  Memory.wf s && decide (s.log.ring.length ≤ 4096) && decide (s.log.head < 4096) && decide (s.log.seq < 2 ^ 32) &&
  decide (s.hdlE.unacked.length ≤ 16) && decide (s.hdlE.txSeq < 256) && decide (s.hdlE.rxSeq < 256) &&
  decide (s.hdlP.unacked.length ≤ 16) && decide (s.hdlP.txSeq < 256) && decide (s.hdlP.rxSeq < 256) &&
  decide (s.mbx.logs.length = 4) && s.mbx.logs.all (fun l => decide (l.recs.length ≤ 256)) &&
  decide (s.pwr.doms.length = 12) && decide (s.sel.pairs.length = 7) && decide (s.cache.ch.length = 4) &&
  tableOk 0#64 none s.cache.poison && keysUp none s.cache.map && keysUp none s.cache.caps && keysUp none s.nand.ch &&
  keysUp none s.nand.targets && keysUp none s.nand.blocks && decide (s.thm.zones.length = 5) &&
  keysUp none s.thm.sensors && keysUp none s.flt.sources && keysUp none s.drf.received && keysUp none s.efl.words &&
  keysUp none s.mon.mons && decide (s.tbs.now < 2 ^ 64)

theorem sound_of {s : State} (h : soundB s = true) : Sound s := by
  simp only [soundB, Bool.and_eq_true, decide_eq_true_eq, List.all_eq_true] at h
  obtain ⟨⟨⟨⟨⟨⟨⟨⟨⟨⟨⟨⟨⟨⟨⟨⟨⟨⟨⟨⟨⟨⟨⟨⟨⟨⟨⟨m, l1⟩, l2⟩, l3⟩, e1⟩, e2⟩, e3⟩, p1⟩, p2⟩, p3⟩, v1⟩, v2⟩, d⟩, sp⟩, c1⟩, c2⟩, c3⟩, c4⟩, n1⟩, n2⟩,
    n3⟩, t1⟩, t2⟩, so⟩, dr⟩, co⟩, mo⟩, ti⟩ := h
  exact ⟨m, ⟨l1, l2, l3⟩, ⟨e1, e2, e3⟩, ⟨p1, p2, p3⟩, ⟨v1, v2⟩, d, sp, ⟨c1, c2, c3, c4⟩, ⟨n1, n2, n3⟩, ⟨t1, t2⟩, so, dr, co,
    mo, ti⟩

/-- No target's counter has reached pslc_cycles. -/
theorem fresh_low {s : State} (h : s.nand.targets.all (fun e => decide (e.2.fresh < setting s P.pslcCycles)) = true)
    (hp : 0 < setting s P.pslcCycles) (x : Nat) : wornFresh x s = false := by
  have key : ∀ (l : Table Target), l.all (fun e => decide (e.2.fresh < setting s P.pslcCycles)) = true →
      (tget {} l x).fresh < setting s P.pslcCycles := by
    intro l
    induction l with
    | nil => intro _; simpa [tget] using hp
    | cons e l ih =>
      obtain ⟨k, v⟩ := e
      intro hl
      simp only [List.all_cons, Bool.and_eq_true, decide_eq_true_eq] at hl
      unfold tget
      split
      · exact hl.1
      · split
        · simpa using hp
        · exact ih hl.2
  have h1 := key s.nand.targets h
  unfold wornFresh targetAt
  rw [decide_eq_false_iff_not, Nat.not_le]
  exact h1

/-! ### An ill-formed term for each check -/

theorem test_wf_refuses_traffic :
    ([
      .cxlMemWrite 0 (2 ^ 52) 0 0 false .good .good 0,
      .cxlMemWrite 0 0 0 0 false .good .good 101,
      .cxlMemRead 0 (2 ^ 52) .good .decodes .decodes .good 0,
      .cxlMemRead 0 0 .good .decodes .decodes .good 101,
      .capQueueRelease 63,
      .demandFetchComplete (2 ^ 26) .decodes .decodes,
      .granuleLoadDone (2 ^ 26) .decodes .decodes,
      .cxlMemRead 0 0 .good (.payload []) .decodes .good 0,
      .demandFetchComplete 0 .decodes (.payload [0]),
      .granuleLoadDone 0 (.payload []) .decodes,
      .stagingSelect { reads0 with bursts := [(2 ^ 33, .half)] }] : List Instr).all (fun i => !i.wf) = true := by decide +kernel

theorem test_wf_refuses_host :
    ([
      .cxlLinkTrained 17 5 true,
      .cxlLinkTrained 16 7 true,
      .hdmDecoderCommit 2 req0,
      .msixUnmask 8,
      .getEventRecords 4,
      .clearEventRecords 4 true [],
      .getLsa (2 ^ 32) 1,
      .setLsa (2 ^ 32) [0],
      .unsupportedCommand (2 ^ 16)] : List Instr).all (fun i => !i.wf) = true := by decide +kernel

theorem test_wf_refuses_nand :
    ([
      .pageProgramDone (2 ^ 40) 0 .pass .pass none,
      .pageProgramDone 0 (2 ^ 16) .pass .pass none,
      .pageProgramDone 0 0 .pass .pass (some (2 ^ 48)),
      .knotRecordProgram (2 ^ 40) 0 .pass .pass,
      .knotRecordProgram 0 (2 ^ 40) .pass .pass,
      .finalKnotProgram (2 ^ 40) 0 .pass .pass,
      .finalKnotProgram 0 (2 ^ 40) .pass .pass,
      .garbageCollectionRead (2 ^ 42) .decodes .decodes [],
      .garbageCollectionRead 0 .decodes .decodes [(2 ^ 32, .half)],
      .drainSelect { reads0 with bursts := [(2 ^ 33, .half)] },
      .knotReadback 0 (.payload []) .decodes,
      .patrolScrub .good .decodes (.payload []),
      .newestKnotFound [{ page := 2 ^ 40, header := List.replicate 246 0, slots := [] }],
      .newestKnotFound [{ page := 0, header := List.replicate 245 0, slots := [] }],
      .mapLoadDone [{ page := 0, header := List.replicate 246 0, slots := [(4, .decodes)] }],
      .mapLoadDone [{ page := 0, header := List.replicate 246 0, slots := [(0, .payload [])] }],
      .vaultResume [{ page := 2 ^ 40, header := List.replicate 246 0, slots := [] }],
      .gcStart 96 0,
      .gcStart 0 (2 ^ 21),
      .blockEraseDone 96 0 .pass,
      .blockEraseDone 0 (2 ^ 21) .pass,
      .nandDiscoveryDone 12 [],
      .nandRbNChange 96 true] : List Instr).all (fun i => !i.wf) = true := by decide +kernel

theorem test_wf_refuses_power :
    ([
      .stallWatchdogExpiry (.ddr 4),
      .stallWatchdogExpiry (.path 12),
      .stallWatchdogExpiry (.shuttle 12 none false),
      .stallWatchdogExpiry (.shuttle 0 (some 8) false),
      .earlyWarning [4096] false false,
      .specAbandonExpiry [0, 4096] false,
      .set 0 0 shape0 128,
      .query 0 0 shape0 128,
      .engage 0 0 shape0 128,
      .railAckTimeout 16,
      .keeperStart 128 0 false false true,
      .keeperStart 0 16 false false true,
      .warmRstN 10 16,
      .domainGood 12 0 0,
      .pgTimeout 12,
      .domainOutOfWindow 12 0,
      .trackingFault 12,
      .dischargeDone 12,
      .phaseFault true 4 false,
      .phaseFault false 8 false] : List Instr).all (fun i => !i.wf) = true := by decide +kernel

theorem test_wf_refuses_faults :
    ([
      .sensorSample 26 .missing,
      .sensorSample 18 (.temp 0),
      .sensorSample 17 (.ohms 0),
      .sensorReturn 26,
      .thmHoldExpiry 5 0,
      .thmHoldExpiry 0 4,
      .sourceEntersFault 256 0,
      .sourceBroken 256 true true,
      .unitResetDone (.ddr 4),
      .unitResetDone (.shuttle 12),
      .stewardUnitReset (.path 12),
      .faultFrame hdr0 [(256, true, false)],
      .shadowExpiry 256,
      .latchedClear .host 256,
      .severityRaise .host 256 1 true,
      .severityRaise .host 0 8 true] : List Instr).all (fun i => !i.wf) = true := by decide +kernel

theorem test_wf_refuses_frames :
    ([
      .energyFrame { seq := 256, ack := 0, nak := false, valid := true } 0 0 0,
      .warningFrame { seq := 0, ack := 256, nak := false, valid := true },
      .abandonFrame { seq := 256, ack := 0, nak := false, valid := true },
      .fenceNotice { seq := 0, ack := 256, nak := false, valid := true },
      .faultFrame { seq := 256, ack := 0, nak := false, valid := true } [],
      .logFrame { seq := 256, ack := 0, nak := false, valid := true } (.entry 0 0 0 0 0 0 0),
      .logFrame hdr0 (.entry (2 ^ 64) 0 0 0 0 0 0),
      .logFrame hdr0 (.entry 0 (2 ^ 16) 0 0 0 0 0),
      .logFrame hdr0 (.entry 0 0 256 0 0 0 0),
      .logFrame hdr0 (.entry 0 0 0 256 0 0 0),
      .logFrame hdr0 (.entry 0 0 0 0 (2 ^ 64) 0 0),
      .logFrame hdr0 (.entry 0 0 0 0 0 (2 ^ 32) 0),
      .logFrame hdr0 (.entry 0 0 0 0 0 0 (2 ^ 16)),
      .knotPointerFrame { seq := 256, ack := 0, nak := false, valid := true } 0 0 0 0,
      .knotPointerFrame hdr0 (2 ^ 48) 0 0 0,
      .knotPointerFrame hdr0 0 (2 ^ 48) 0 0,
      .knotPointerFrame hdr0 0 0 (2 ^ 64) 0,
      .knotPointerFrame hdr0 0 0 0 (2 ^ 64),
      .draftFrame { seq := 256, ack := 0, nak := false, valid := true } 0 [],
      .draftFrame hdr0 (2 ^ 16) [],
      .draftFrame hdr0 0 (List.replicate 125 0),
      .draftCrcReply { seq := 256, ack := 0, nak := false, valid := true } 0 0,
      .timeFrame { seq := 256, ack := 0, nak := false, valid := true } .engine 0,
      .monitorFrame { seq := 0, ack := 256, nak := false, valid := true } [],
      .heddleControlFrame .engine { seq := 256, ack := 0, nak := false, valid := true }] : List Instr).all (fun i => !i.wf) = true := by decide +kernel

theorem test_wf_refuses_ports :
    ([
      .lifeCycleRequest .smbus 16 true,
      .regDataWrite [0, 0, 0] true,
      .regDataRead 5,
      .page (some 256) true,
      .operation (some 256) true,
      .invalidCommand 256,
      .registerFrame { seq := 256, ack := 0, nak := false, valid := true } .engine rq0,
      .registerFrame hdr0 .engine { rq0 with addr := 2 ^ 24 },
      .registerFrame hdr0 .engine { rq0 with tag := 256 },
      .registerFrame hdr0 .engine { rq0 with data := 2 ^ 32 },
      .registerResponse { seq := 256, ack := 0, nak := false, valid := true } rq0 0,
      .registerResponse hdr0 { rq0 with addr := 2 ^ 24 } 0,
      .registerResponse hdr0 rq0 (2 ^ 64),
      .unreachableTimeout { rq0 with tag := 256 },
      .monCfgWrite .host 64 0,
      .rwpPairTimeout .host (2 ^ 24),
      .registerWrite .host (2 ^ 24) false 0 0,
      .registerRead .host (2 ^ 24) false 0] : List Instr).all (fun i => !i.wf) = true := by decide +kernel

theorem test_wf_takes :
    ([.cxlMemWrite 0 (2 ^ 52 - 1) 0 0 false .good .good 100, .capQueueRelease 62, .msixUnmask 7, .gcStart 95 (2 ^ 21 - 1),
      .stallWatchdogExpiry (.shuttle 11 (some 7) true), .phaseFault false 7 true, .sensorSample 25 .missing,
      .thmHoldExpiry 4 3, .sourceEntersFault 255 0, .severityRaise .host 255 7 true, .warningFrame hdr0, .regDataRead 8,
      .registerWrite .host (2 ^ 24 - 4) false 0 0] : List Instr).all (fun i => i.wf) = true := by decide +kernel

/-! ### Worked examples and values of the spec -/

/-- The 4-way interleave at 1 KiB of the host-interface chapter (R298): position 2, B = 0x40_0000_0000. -/
theorem test_decode_interleave :
    decodeHpa { base.host with dec0 := { committed := true, base := 0x4000000000, size := 2 ^ 38, ways := 4, gran := 1024,
                                         position := 2 } } 0x40B0002A40 = some 0x2C000A40 := by decide +kernel

/-- An address that another member serves decodes to none. -/
theorem test_decode_other_member :
    decodeHpa { base.host with dec0 := { committed := true, base := 0x4000000000, size := 2 ^ 38, ways := 4, gran := 1024,
                                         position := 2 } } 0x40B0002640 = none := by decide +kernel

/-- The same example's line lies on channel 1 (R83). -/
theorem test_line_channel : lineChannel (0x2C000A40 / 64) base = 1 := by decide +kernel

/-- The bolts of the 191 GiB example: a granule of bolt 2 (R86). -/
theorem test_bolt_of_granule :
    boltOf { base with drf := { base.drf with active := some { draft with
      dram := { draft.dram with cGib := 191 },
      bolts := [{ present := true, priority := 1, duplex := false, base := 0, size := 512, cap := 0 },
                { present := true, priority := 0, duplex := true, base := 512, size := 192, cap := 0 },
                { present := true, priority := 7, duplex := false, base := 704, size := 60, cap := 0 }] } } } 0x2C00001 = 2 := by
  decide +kernel

/-- The page pointer and slot of the duplex-copy example (R193). -/
theorem test_page_pointer :
    ptrChannel 0x2AB01A403C = 2 ∧ ptrTarget 0x2AB01A403C = 2 * 8 + 5 ∧ ptrPage 0x2AB01A403C = 0x3C ∧
      slotAddr 0x2AB01A403C 2 = 0xAAC06900F2 := by decide +kernel

/-- B_fixed of the budget example: 128 GiB (R127). -/
theorem test_fixed_bytes :
    bFixed { base with drf := { base.drf with active := some { draft with dram := { draft.dram with cGib := 128 } } } } =
      883179520 := by decide +kernel

/-- Bins of the read-latency monitor: L = 100, w = 4 (R519). -/
theorem test_bins :
    [99, 100, 115, 170, 230, 320, 323, 324].map (binOf (4 * 2 ^ 28 + 4 * 2 ^ 22 + 100)) = [0, 1, 1, 5, 9, 14, 14, 15] := by
  decide +kernel

/-- The start setpoints of the rail example: 40 GB/s and 36.67 GB/s at 85 °C need codes 40 and 30 (R265, R268). -/
theorem test_setpoints :
    (List.range 181).find? (fun c => paceMeets 1360 4000 c paceTable) = some 40 ∧
      (List.range 181).find? (fun c => paceMeets 1360 3667 c paceTable) = some 30 := by decide +kernel

/-- The bus example: six phases of 40 A give 216 A, five give 180 A (R336). -/
theorem test_bus_capability :
    busCapability { base with drf := { base.drf with active := some { draft with
      params := [(P.ibusPhases, 6), (P.phaseImax, 40)] } } } = 2160 ∧
    busCapability { base with pwr := { base.pwr with dropped := [(3, 1)] }, drf := { base.drf with active := some { draft with
      params := [(P.ibusPhases, 6), (P.phaseImax, 40)] } } } = 1800 := by decide +kernel

/-- CRC-32C of "123456789", the check value of the code's standard. -/
theorem test_crc32c : crc32c [0x31, 0x32, 0x33, 0x34, 0x35, 0x36, 0x37, 0x38, 0x39] = 0xE3069283 := by decide +kernel

/-! ### The hypotheses of every statement are met -/

theorem witness_EmptyQueueTicks :
    (∃ (s : State), s.pending = [] ∧ s.pwr.keeper = false) ∧
    (∃ (s : State), s.pending = []) := by
  and_intros
  · exact ⟨State.reset, by decide +kernel⟩
  · exact ⟨base, by decide +kernel⟩

theorem witness_StepKeepsSound :
    (∃ (s : State) (t : State), Sound s ∧ step s = .next t) := by
  refine ⟨base, tick base, ?_⟩
  and_intros
  all_goals first
    | decide +kernel
    | exact sound_of (by decide +kernel)
    | exact rfl

theorem witness_CommandsChangeOnlyTheirParts :
    (∃ (s : State) (t : State) (c : Instr), exec c s = .next t) := by
  exact ⟨base, _, .identify, rfl⟩

theorem witness_FewCommandsReachApartStates :
    (∃ (c : Instr) (s : State) (t : State), exec c s = .next t) := by
  exact ⟨.identify, base, _, rfl⟩

theorem witness_AdmittedWritesCommit :
    (∃ (s : State) (tag : Nat) (hpa : Nat) (dpa : Nat) (occ : Nat) (data : Line) (be : BitVec 64) (poison : Bool)
      (burst : Burst), Sound s ∧ portServes s = true ∧ requestsWait s = false ∧ admitting s = true ∧ decodeHpa s.host
      hpa = some dpa ∧ boltDiscards (boltOf s (dpa / 4096)) s = false ∧ inRes (entryOf (dpa / 4096) s) = true ∧ inTail
      s = false) ∧
    (∃ (s : State) (tag : Nat) (hpa : Nat) (dpa : Nat) (occ : Nat) (data : Line) (be : BitVec 64) (poison : Bool)
      (burst : Burst), Sound s ∧ portServes s = true ∧ requestsWait s = false ∧ admitting s = true ∧ decodeHpa s.host
      hpa = some dpa ∧ boltDiscards (boltOf s (dpa / 4096)) s = false ∧ (entryOf (dpa / 4096) s).st = .zero ∧ tget []
      s.cache.capq (boltOf s (dpa / 4096)) = [] ∧ atCap (boltOf s (dpa / 4096)) s = false ∧ s.stg.heldq = [] ∧ fits
      (costOf (dpa / 4096) s) s = true ∧ inTail s = false) := by
  and_intros
  · refine ⟨{ base with cache := { base.cache with map := [(0, { st := .dirty })] } }, 0, 64, 64, 0, 5,
        (BitVec.allOnes 64), true, .good, ?_⟩
    and_intros
    all_goals first
      | decide +kernel
      | exact sound_of (by decide +kernel)
  · refine ⟨base, 0, 2 ^ 34 - 64, 2 ^ 34 - 64, 0, 5, (BitVec.allOnes 64), true, .good, ?_⟩
    and_intros
    all_goals first
      | decide +kernel
      | exact sound_of (by decide +kernel)

theorem witness_RefusedWritesAreHeldAndReleased :
    (∃ (s : State) (tag : Nat) (hpa : Nat) (dpa : Nat) (occ : Nat) (data : Line) (be : BitVec 64) (poison : Bool)
      (burst : Burst), portServes s = true ∧ requestsWait s = false ∧ admitting s = true ∧ decodeHpa s.host hpa = some
      dpa ∧ boltDiscards (boltOf s (dpa / 4096)) s = false ∧ ((entryOf (dpa / 4096) s).st = .zero ∨ (entryOf (dpa /
      4096) s).st = .clean) ∧ tget [] s.cache.capq (boltOf s (dpa / 4096)) = [] ∧ atCap (boltOf s (dpa / 4096)) s =
      false ∧ s.stg.heldq = [] ∧ fits (costOf (dpa / 4096) s) s = false ∧ inTail s = false) ∧
    (∃ (s : State) (tag : Nat) (hpa : Nat) (dpa : Nat) (occ : Nat) (data : Line) (be : BitVec 64) (poison : Bool)
      (burst : Burst), portServes s = true ∧ requestsWait s = false ∧ admitting s = true ∧ decodeHpa s.host hpa = some
      dpa ∧ boltDiscards (boltOf s (dpa / 4096)) s = false ∧ ((entryOf (dpa / 4096) s).st = .zero ∨ (entryOf (dpa /
      4096) s).st = .clean) ∧ atCap (boltOf s (dpa / 4096)) s = true ∧ inTail s = false) ∧
    (∃ (s : State) (w : HeldWrite), admitting s = true ∧ ddrInReset s = false ∧ emptying s = false ∧ s.stg.heldq = [w]
      ∧ boltDiscards (boltOf s (w.dpa / 4096)) s = false ∧ ((entryOf (w.dpa / 4096) s).st = .zero ∨ (entryOf (w.dpa /
      4096) s).st = .clean) ∧ atCap (boltOf s (w.dpa / 4096)) s = false ∧ fits (costOf (w.dpa / 4096) s) s = true) ∧
    (∃ (s : State) (w : HeldWrite) (q : List HeldWrite) (n : Nat), admitting s = true ∧ ddrInReset s = false ∧
      emptying s = false ∧ tget [] s.cache.capq n = w :: q ∧ boltDiscards n s = false ∧ inRes (entryOf (w.dpa / 4096)
      s) = true ∧ inTail s = false) := by
  and_intros
  · exact ⟨{ base with stg := { base.stg with eGuar := 0 } }, 0, 4096, 4096, 0, 5, (BitVec.allOnes 64), true, .good,
        by decide +kernel⟩
  · exact ⟨{ base with cache := { base.cache with caps := [(0, 1)], map := [(0, { st := .dirty })] } }, 0, 4096, 4096,
        0, 5, (BitVec.allOnes 64), true, .good, by decide +kernel⟩
  · exact ⟨{ base with stg := { base.stg with heldq := [held0] } }, held0, by decide +kernel⟩
  · exact ⟨{ base with cache := { base.cache with capq := [(0, [held0])], map := [(0, { st := .dirty })] } }, held0,
        [], 0, by decide +kernel⟩

theorem witness_ReadsAnswerTheLine :
    (∃ (s : State) (tag : Nat) (hpa : Nat) (dpa : Nat) (occ : Nat) (burst : Burst) (a : CopyRead) (b : CopyRead),
      eccOf (byEight s) burst = .ok ∧ portServes s = true ∧ requestsWait s = false ∧ decodeHpa s.host hpa = some dpa ∧
      (entryOf (dpa / 4096) s).st ≠ .restorePending) ∧
    (∃ (s : State) (tag : Nat) (hpa : Nat) (occ : Nat) (data : Line) (be : BitVec 64) (poison : Bool) (burst : Burst)
      (m : MapAcc), portServes s = true ∧ decodeHpa s.host hpa = none ∧ beforeFence s = true) ∧
    (∃ (s : State) (tag : Nat) (hpa : Nat) (occ : Nat) (data : Line) (be : BitVec 64) (poison : Bool) (burst : Burst)
      (m : MapAcc), portServes s = true ∧ decodeHpa s.host hpa = none ∧ beforeFence s = false) ∧
    (∃ (s : State) (tag : Nat) (hpa : Nat) (occ : Nat) (burst : Burst) (a : CopyRead) (b : CopyRead) (m : MapAcc),
      portServes s = true ∧ decodeHpa s.host hpa = none) ∧
    (∃ (s : State) (burst : Burst) (a : CopyRead) (b : CopyRead), isArmed s = true ∧ (s.cache.scrubPos / 64 <
      capGranules s → (entryOf (s.cache.scrubPos / 64) s).st ≠ .zero ∧ (entryOf (s.cache.scrubPos / 64) s).st ≠
      .restorePending)) ∧
    (∃ (s : State) (burst : Burst) (a : CopyRead) (b : CopyRead), isArmed s = true ∧ s.cache.scrubPos / 64 <
      capGranules s ∧ ((entryOf (s.cache.scrubPos / 64) s).st = .zero ∨ (entryOf (s.cache.scrubPos / 64) s).st =
      .restorePending)) ∧
    (∃ (s : State) (burst : Burst) (a : CopyRead) (b : CopyRead), isArmed s = false) ∧
    (∃ (s : State) (burst : Burst) (a : CopyRead) (b : CopyRead), isArmed s = true ∧ (s.cache.scrubPos / 64 <
      capGranules s → (entryOf (s.cache.scrubPos / 64) s).st ≠ .zero ∧ (entryOf (s.cache.scrubPos / 64) s).st ≠
      .restorePending) ∧ eccOf (byEight s) burst = .ok) ∧
    (∃ (s : State) (burst : Burst) (a : CopyRead) (b : CopyRead), isArmed s = true ∧ (s.cache.scrubPos / 64 <
      capGranules s → (entryOf (s.cache.scrubPos / 64) s).st ≠ .zero ∧ (entryOf (s.cache.scrubPos / 64) s).st ≠
      .restorePending) ∧ eccOf (byEight s) burst = .corrected) := by
  and_intros
  · exact ⟨base, 0, 0, 0, 0, .good, .decodes, .decodes, by decide +kernel⟩
  · exact ⟨base, 0, 2 ^ 34, 0, 5, (BitVec.allOnes 64), true, .good, .good, by decide +kernel⟩
  · exact ⟨{ base with vlt := { base.vlt with state := .fenced } }, 0, 2 ^ 34, 0, 5, (BitVec.allOnes 64), true, .good,
        .good, by decide +kernel⟩
  · exact ⟨base, 0, 2 ^ 34, 0, .good, .decodes, .decodes, .good, by decide +kernel⟩
  · refine ⟨{ base with cache := { base.cache with map := [(0, { st := .dirty })] } }, .good, .decodes, .decodes, ?_⟩
    and_intros
    all_goals first
      | decide +kernel
      | exact sound_of (by decide +kernel)
  · exact ⟨base, .good, .decodes, .decodes, by decide +kernel⟩
  · exact ⟨{ base with vlt := { base.vlt with state := .window } }, .good, .decodes, .decodes, by decide +kernel⟩
  · exact ⟨{ base with cache := { base.cache with map := [(0, { st := .dirty })] } }, .good, .decodes, .decodes,
        by decide +kernel⟩
  · exact ⟨{ base with cache := { base.cache with map := [(0, { st := .dirty })], scrubPos := 3 } }, .half, .decodes,
        .decodes, by decide +kernel⟩

theorem witness_LinkDecodersAndInterrupts :
    (∃ (s : State) (w : Nat) (v : Nat) (f : Bool), s.host.training = true ∧ s.warm.engineUp = true ∧ tfind
      s.flt.frozen 4 = none) ∧
    (∃ (s : State) (r : HdmReq), s.warm.engineUp = true) ∧
    (∃ (s : State) (v : Nat), v < 8 ∧ s.warm.engineUp = true ∧ s.host.msixMasked.length = 8 ∧
      s.host.msixPending.length = 8) := by
  and_intros
  · exact ⟨base, 0, 0, true, by decide +kernel⟩
  · exact ⟨base, req0, by decide +kernel⟩
  · exact ⟨base, 0, by decide +kernel⟩

theorem witness_FlushPhasesAnswer :
    (∃ (s : State), s.warm.engineUp = true) ∧
    (∃ (s : State), s.warm.engineUp = true ∧ fenced s = false) ∧
    (∃ (s : State), s.warm.engineUp = true ∧ fenced s = true) ∧
    (∃ (s : State) (x : Nat), engineRuns s = true ∧ s.host.gpfWaiting = [x] ∧ uncommittedBelow s.host.gpfCovers s =
      false ∧ s.vlt.state ≠ .window) ∧
    (∃ (s : State) (x : Nat), engineRuns s = true ∧ s.host.gpfWaiting = [x] ∧ uncommittedBelow s.host.gpfCovers s =
      false ∧ s.vlt.state = .window) := by
  and_intros
  · exact ⟨base, by decide +kernel⟩
  · exact ⟨base, by decide +kernel⟩
  · exact ⟨{ base with vlt := { base.vlt with state := .fenced, fenceBy := 2 } }, by decide +kernel⟩
  · exact ⟨{ base with host := { base.host with gpfWaiting := [5] } }, 5, by decide +kernel⟩
  · exact ⟨{ base with host := { base.host with gpfWaiting := [5] }, vlt := { base.vlt with state := .window } }, 5,
        by decide +kernel⟩

theorem witness_HostResetsClearPort :
    (∃ (c : Instr) (s : State), (c = .perstN ∨ c = .hotReset) ∧ s.warm.engineUp = true) ∧
    (∃ (s : State), s.warm.engineUp = true) := by
  and_intros
  · exact ⟨.hotReset, base, by decide +kernel⟩
  · exact ⟨base, by decide +kernel⟩

theorem witness_MailboxReadsAnswer :
    (∃ (s : State) (d : Draft), s.host.training = true ∧ s.warm.engineUp = true ∧ s.drf.active = some d) ∧
    (∃ (s : State), s.host.training = true ∧ s.warm.engineUp = true) ∧
    (∃ (s : State) (o : Nat) (n : Nat), s.host.training = true ∧ s.warm.engineUp = true ∧ o + n ≤ 30) ∧
    (∃ (s : State) (op : Nat), s.host.training = true ∧ s.warm.engineUp = true) ∧
    (∃ (s : State), s.host.training = true ∧ s.warm.engineUp = true) ∧
    (∃ (s : State) (dpa : Nat) (lines : Nat), s.host.training = true ∧ s.warm.engineUp = true) ∧
    (∃ (s : State), s.host.training = true ∧ s.warm.engineUp = true ∧ s.mbx.bg = none ∧ s.mbx.bgCode = .success) ∧
    (∃ (s : State), s.host.training = true ∧ s.warm.engineUp = true ∧ s.mbx.bg ≠ none) := by
  and_intros
  · exact ⟨base, draft, by decide +kernel⟩
  · exact ⟨base, by decide +kernel⟩
  · exact ⟨base, 20, 10, by decide +kernel⟩
  · exact ⟨base, 0, by decide +kernel⟩
  · exact ⟨base, by decide +kernel⟩
  · exact ⟨base, 0, 0, by decide +kernel⟩
  · exact ⟨base, by decide +kernel⟩
  · exact ⟨{ base with mbx := { base.mbx with bg := some .sanitize } }, by decide +kernel⟩

theorem witness_EventLogsAreReadAndCleared :
    (∃ (s : State) (k : Nat), s.host.training = true ∧ s.warm.engineUp = true ∧ k < 4) ∧
    (∃ (s : State) (k : Nat) (all : Bool) (hs : List Nat), s.host.training = true ∧ s.warm.engineUp = true ∧ k < 4 ∧
      Sound s) ∧
    (∃ (s : State) (k : Nat) (all : Bool) (hs : List Nat), s.host.training = true ∧ s.warm.engineUp = true ∧ 4 ≤ k) := by
  and_intros
  · exact ⟨base, 0, by decide +kernel⟩
  · refine ⟨{ base with mbx := { base.mbx with logs := [{}, {}, {}, { recs := [] }] } }, 3, true, [], ?_⟩
    and_intros
    all_goals first
      | decide +kernel
      | exact sound_of (by decide +kernel)
  · exact ⟨base, 4, true, [], by decide +kernel⟩

theorem witness_MailboxWritesAreHeld :
    (∃ (s : State), s.host.training = true ∧ s.warm.engineUp = true) ∧
    (∃ (s : State) (o : Nat) (data : List Byte), s.host.training = true ∧ s.warm.engineUp = true ∧ o + data.length ≤
      65536 ∧ eflReady s = true ∧ Sound s ∧ (∀ w, (lsaBase + o) / 8 ≤ w → w < (lsaBase + o + data.length + 7) / 8 →
      (eflWord w s).programs = 0 ∧ blockReads (blockOfWord w) s = true ∧ blockWorn (blockOfWord w) s = false)) ∧
    (∃ (s : State) (o : Nat) (data : List Byte), s.host.training = true ∧ s.warm.engineUp = true ∧ o + data.length ≤
      65536 ∧ eflReady s = true) ∧
    (∃ (s : State) (o : Nat) (data : List Byte), s.host.training = true ∧ s.warm.engineUp = true ∧ o + data.length ≤
      65536 ∧ eflReady s = false) ∧
    (∃ (s : State) (o : Nat) (n : Nat), s.host.training = true ∧ s.warm.engineUp = true ∧ o + n ≤ 65536) ∧
    (∃ (s : State) (o : Nat) (n : Nat) (data : List Byte), s.host.training = true ∧ s.warm.engineUp = true ∧ 65536 < o
      + n ∧ 65536 < o + data.length) ∧
    (∃ (s : State) (v : DWord), s.host.training = true ∧ s.warm.engineUp = true) ∧
    (∃ (s : State) (a : Nat) (b : Nat) (c : Nat), s.host.training = true ∧ s.warm.engineUp = true) ∧
    (∃ (s : State) (i : Bool) (w : Bool) (f : Bool) (x : Bool), s.host.training = true ∧ s.warm.engineUp = true ∧
      s.mbx.policy.length = 4) ∧
    (∃ (s : State) (v : Nat), eflReady s = true ∧ blockWorn 304 s = false) ∧
    (∃ (s : State) (v : Nat), (eflReady s = false ∨ blockWorn 304 s = true)) := by
  and_intros
  · exact ⟨base, by decide +kernel⟩
  · refine ⟨atTemp base.efl, 65534, [1, 2], ?_⟩
    and_intros
    all_goals first
      | decide +kernel
      | exact sound_of (by decide +kernel)
  · refine ⟨atTemp base.efl, 65534, [1, 2], ?_⟩
    and_intros
    all_goals first
      | decide +kernel
      | exact sound_of (by decide +kernel)
  · refine ⟨{ base with thm := { base.thm with stage1 := true } }, 65534, [1, 2], ?_⟩
    and_intros
    all_goals first
      | decide +kernel
      | exact sound_of (by decide +kernel)
  · exact ⟨base, 65534, 2, by decide +kernel⟩
  · exact ⟨base, 65535, 2, [1, 2], by decide +kernel⟩
  · exact ⟨base, 0, by decide +kernel⟩
  · exact ⟨base, 0, 0, 0, by decide +kernel⟩
  · exact ⟨base, true, true, true, true, by decide +kernel⟩
  · refine ⟨atTemp base.efl, 0, ?_⟩
    and_intros
    all_goals first
      | decide +kernel
      | exact sound_of (by decide +kernel)
  · refine ⟨{ base with thm := { base.thm with stage1 := true } }, 0, ?_⟩
    and_intros
    all_goals first
      | decide +kernel
      | exact sound_of (by decide +kernel)

theorem witness_VendorCommandsNeedTheirKeys :
    (∃ (s : State), s.host.training = true ∧ s.warm.engineUp = true ∧ isArmed s = true) ∧
    (∃ (s : State), s.host.training = true ∧ s.warm.engineUp = true ∧ isArmed s = false) ∧
    (∃ (s : State) (input : List Byte), s.host.training = true ∧ s.warm.engineUp = true ∧ input ≠ [0x54, 0x4C, 0x41,
      0x56, 0xAB, 0xB3, 0xBE, 0xA9]) ∧
    (∃ (s : State) (input : List Byte), s.host.training = true ∧ s.warm.engineUp = true ∧ input ≠ [0x50, 0x4F, 0x52,
      0x44, 0xAF, 0xB0, 0xAD, 0xBB]) ∧
    (∃ (s : State) (n : Nat) (v : Nat), s.host.training = true ∧ s.warm.engineUp = true ∧ s.drf.active ≠ none ∧ n ≤ 62
      ∧ v < 2 ^ 27 ∧ Sound s) ∧
    (∃ (s : State) (n : Nat) (v : Nat) (c : Nat), s.host.training = true ∧ s.warm.engineUp = true ∧ n < 2 ^ 32 ∧ v < 2
      ^ 32 ∧ c < 2 ^ 32 ∧ (63 ≤ n ∨ 2 ^ 27 ≤ v ∨ v + c ≠ 2 ^ 32 - 1)) ∧
    (∃ (s : State), s.host.training = true ∧ s.warm.engineUp = true) ∧
    (∃ (s : State), s.host.training = true ∧ s.warm.engineUp = true ∧ mayStartBg s = true) := by
  and_intros
  · exact ⟨base, by decide +kernel⟩
  · exact ⟨{ base with vlt := { base.vlt with state := .notArmed } }, by decide +kernel⟩
  · exact ⟨base, [], by decide +kernel⟩
  · exact ⟨base, [], by decide +kernel⟩
  · refine ⟨base, 62, 2 ^ 27 - 1, ?_⟩
    and_intros
    all_goals first
      | decide +kernel
      | exact sound_of (by decide +kernel)
  · exact ⟨base, 63, 0, 0, by decide +kernel⟩
  · exact ⟨base, by decide +kernel⟩
  · exact ⟨base, by decide +kernel⟩

theorem witness_VendorReportsAnswer :
    (∃ (s : State), s.host.training = true ∧ s.warm.engineUp = true) ∧
    (∃ (s : State) (first : BitVec 16) (count : BitVec 16), s.host.training = true ∧ s.warm.engineUp = true ∧
      first.toNat ≤ 4095 ∧ 0 < count.toNat ∧ count.toNat ≤ 2048) ∧
    (∃ (s : State) (x : Byte) (l : List Byte), s.host.training = true ∧ s.warm.engineUp = true) := by
  and_intros
  · exact ⟨base, by decide +kernel⟩
  · exact ⟨base, 4095, 2048, by decide +kernel⟩
  · exact ⟨base, 0, [], by decide +kernel⟩

theorem witness_BackgroundCommandsRun :
    (∃ (s : State), s.host.training = true ∧ s.warm.engineUp = true ∧ mayStartBg s = false) ∧
    (∃ (s : State), sealWaits s = true ∧ residual s = 0 ∧ isArmed s = true ∧ s.warm.engineUp = true ∧ s.stg.epochs =
      [] ∧ s.stg.nextEpoch < 2 ^ 48 - 2) ∧
    (∃ (s : State), s.host.training = true ∧ s.warm.engineUp = true ∧ mayStartBg s = true) ∧
    (∃ (s : State), s.host.training = true ∧ s.warm.engineUp = true ∧ mayStartBg s = true ∧ keyRoom s = true) ∧
    (∃ (s : State), s.host.training = true ∧ s.warm.engineUp = true ∧ mayStartBg s = true ∧ keyRoom s = false) ∧
    (∃ (s : State) (c : BgCmd) (code : RetCode), s.mbx.bg = some c ∧ s.mbx.phase = .finished code ∧ s.cache.waiting =
      [] ∧ (inTail s = true → s.stg.heldq = [])) ∧
    (∃ (s : State), s.mbx.bg = some .sealImage ∧ s.mbx.phase = .draining ∧ s.cache.waiting = [] ∧ (inTail s = true →
      s.stg.heldq = [])) := by
  and_intros
  · exact ⟨{ base with vlt := { base.vlt with state := .notArmed } }, by decide +kernel⟩
  · exact ⟨{ base with mbx := { base.mbx with bg := some .sealImage } }, by decide +kernel⟩
  · exact ⟨base, by decide +kernel⟩
  · exact ⟨base, by decide +kernel⟩
  · exact ⟨{ base with thm := { base.thm with stage1 := true } }, by decide +kernel⟩
  · exact ⟨{ base with mbx := { base.mbx with bg := some .sanitize, phase := .finished .success } }, .sanitize,
        .success, by decide +kernel⟩
  · exact ⟨{ base with mbx := { base.mbx with bg := some .sealImage } }, by decide +kernel⟩

theorem witness_BudgetFollowsItsTerms :
    (∃ (s : State), s.warm.engineUp = true ∧ s.chg.phase ≠ .tail) ∧
    (∃ (s : State), s.warm.engineUp = true ∧ s.drf.active ≠ none) := by
  and_intros
  · exact ⟨base, by decide +kernel⟩
  · exact ⟨base, by decide +kernel⟩

theorem witness_EnergyFrameSetsBudget :
    (∃ (s : State) (hdr : FrameHdr) (e : Nat) (soc : Nat) (drawn : Nat), accepts .engine hdr s = true) ∧
    (∃ (s : State), s.warm.engineUp = true ∧ s.flt.engineLive.contains 6 = true) ∧
    (∃ (s : State), s.warm.engineUp = true ∧ s.flt.engineLive.contains 6 = false) ∧
    (∃ (s : State) (tag : Nat), isHeld tag s = true) ∧
    (∃ (s : State), s.stg.recovering = true) ∧
    (∃ (s : State), setting s P.govRate ≠ 0 ∧ s.warm.engineUp = true) := by
  and_intros
  · exact ⟨base, hdr0, 0, 0, 0, by decide +kernel⟩
  · exact ⟨{ base with flt := { base.flt with engineLive := [6] } }, by decide +kernel⟩
  · exact ⟨base, by decide +kernel⟩
  · exact ⟨{ base with stg := { base.stg with heldq := [held0] } }, 7, by decide +kernel⟩
  · exact ⟨{ base with stg := { base.stg with recovering := true } }, by decide +kernel⟩
  · exact ⟨{ base with drf := { base.drf with active := some { draft with params := [(P.govRate, 100)] } } },
        by decide +kernel⟩

theorem witness_PagesKnotsAndReadback :
    (∃ (s : State) (e : Epoch) (ptr : Nat) (b : Nat) (rB : NandResult), shuttlesRun s = true ∧ s.stg.epochs.find? (fun
      e => !e.todo.isEmpty) = some e ∧ (pageIsDup e = true → rB = .pass) ∧ mayProgram e ptr b s = true ∧ mustWait e
      (if pageIsDup e then [ptr, copyBPtr ptr b s] else [ptr]) s = false) ∧
    (∃ (s : State) (e : Epoch) (ptr : Nat) (b : Nat) (r : NandResult) (rB : NandResult), shuttlesRun s = true ∧
      s.stg.epochs.find? (fun e => !e.todo.isEmpty) = some e ∧ (r = .fail ∨ pageIsDup e = true ∧ rB = .fail) ∧
      mayProgram e ptr b s = true ∧ mustWait e (if pageIsDup e then [ptr, copyBPtr ptr b s] else [ptr]) s = false) ∧
    (∃ (s : State) (e : Epoch) (ptr : Nat) (b : Nat) (r : NandResult) (rB : NandResult), shuttlesRun s = true ∧
      s.stg.epochs.find? (fun e => !e.todo.isEmpty) = some e ∧ mayProgram e ptr b s = true ∧ mustWait e (if pageIsDup
      e then [ptr, copyBPtr ptr b s] else [ptr]) s = true) ∧
    (∃ (s : State) (e : Epoch) (ptr : Nat) (b : Nat) (rB : NandResult), shuttlesRun s = true ∧ s.stg.begun.find? (fun
      x => x.num = e.num) = some e ∧ begunAt e ptr = true ∧ (pageIsDup e = true → rB = .pass) ∧ mayProgram e ptr b s =
      true ∧ roomFor e (if pageIsDup e then [ptr, copyBPtr ptr b s] else [ptr]) s = true) ∧
    (∃ (s : State) (e : Epoch) (l : List Epoch) (ptr : Nat) (ptrB : Nat), shuttlesRun s = true ∧ s.stg.epochs = e :: l
      ∧ e.closed ≠ none ∧ e.todo = [] ∧ e.phase = .filling ∧ e.kind ≠ .final ∧ recordPages e.num ptr ptrB [] s = true
      ∧ mustWait e [ptr, ptrB] s = false) ∧
    (∃ (s : State) (e : Epoch) (l : List Epoch) (ptr : Nat) (ptrB : Nat) (r : NandResult) (rB : NandResult),
      shuttlesRun s = true ∧ s.stg.epochs = e :: l ∧ e.closed ≠ none ∧ e.todo = [] ∧ (r = .fail ∨ rB = .fail) ∧
      e.phase = .filling ∧ e.kind = .staging ∧ recordPages e.num ptr ptrB [] s = true ∧ mustWait e [ptr, ptrB] s =
      false) ∧
    (∃ (s : State) (e : Epoch) (r : List Epoch) (slot : Nat) (k : KnotRec) (a : CopyRead) (b : CopyRead), engineRuns s
      = true ∧ s.stg.epochs = e :: r ∧ e.phase = .knotProgrammed slot ∧ e.kind = .staging ∧ s.nand.knots.find? (fun k
      => k.slot = slot) = some k ∧ verifies slot k.slotB a b s = true) ∧
    (∃ (s : State) (e : Epoch) (r : List Epoch) (slot : Nat) (k : KnotRec) (a : CopyRead) (b : CopyRead), engineRuns s
      = true ∧ s.stg.epochs = e :: r ∧ e.phase = .knotProgrammed slot ∧ e.kind = .staging ∧ s.nand.knots.find? (fun k
      => k.slot = slot) = some k ∧ verifies slot k.slotB a b s = false) ∧
    (∃ (s : State) (e : Epoch) (r : List Epoch), engineRuns s = true ∧ s.stg.epochs = e :: r ∧ e.closed ≠ none ∧
      e.todo = [] ∧ e.kind = .staging) := by
  and_intros
  · exact
        ⟨{ base with nand := nandUp 96, stg := { base.stg with epochs := [{ num := 1, kind := .staging, opened := 10, todo := [unit0] }] } },
        { num := 1, kind := .staging, opened := 10, todo := [unit0] }, 2 ^ 28 + 20 * 4096, 20, .pass,
        by decide +kernel⟩
  · exact
        ⟨{ base with nand := nandUp 96, stg := { base.stg with epochs := [{ num := 1, kind := .staging, opened := 10, todo := [unit0] }] } },
        { num := 1, kind := .staging, opened := 10, todo := [unit0] }, 2 ^ 28 + 20 * 4096, 20, .fail, .pass,
        by decide +kernel⟩
  · exact
        ⟨{ base with nand := nandUp 1, stg := { base.stg with epochs := [{ num := 1, kind := .staging, opened := 10, todo := [unit0] }] }, cache := { base.cache with caps := [(0, 2 ^ 27)] } },
        { num := 1, kind := .staging, opened := 10, todo := [unit0] }, 20 * 4096, 20, .pass, .pass,
        by decide +kernel⟩
  · exact
        ⟨{ base with nand := nandUp 96, stg := { base.stg with begun := [{ num := 1, kind := .staging, opened := 10, todo := [unit0] }] } },
        { num := 1, kind := .staging, opened := 10, todo := [unit0] }, 2 ^ 28 + 20 * 4096, 20, .pass,
        by decide +kernel⟩
  · exact
        ⟨{ base with nand := nandUp 96, stg := { base.stg with epochs := [{ num := 1, kind := .staging, opened := 10, closed := some 20, pages := [4096 * 20] }] } },
        { num := 1, kind := .staging, opened := 10, closed := some 20, pages := [4096 * 20] }, [], 2 ^ 36 + 2 ^ 29
        + 20 * 4096, 7 * 2 ^ 36 + 2 ^ 29 + 20 * 4096, by decide +kernel⟩
  · exact
        ⟨{ base with nand := nandUp 96, stg := { base.stg with epochs := [{ num := 1, kind := .staging, opened := 10, closed := some 20, pages := [4096 * 20] }] } },
        { num := 1, kind := .staging, opened := 10, closed := some 20, pages := [4096 * 20] }, [], 2 ^ 36 + 2 ^ 29
        + 20 * 4096, 7 * 2 ^ 36 + 2 ^ 29 + 20 * 4096, .pass, .fail, by decide +kernel⟩
  · exact
        ⟨{ base with nand := { nandUp 96 with knots := [knot0] }, stg := { base.stg with epochs := [{ num := 1, kind := .staging, opened := 10, closed := some 20, phase := .knotProgrammed 4 }] } },
        { num := 1, kind := .staging, opened := 10, closed := some 20, phase := .knotProgrammed 4 }, [], 4, knot0,
        .decodes, .decodes, by decide +kernel⟩
  · exact
        ⟨{ base with nand := { nandUp 96 with knots := [knot0] }, stg := { base.stg with epochs := [{ num := 1, kind := .staging, opened := 10, closed := some 20, phase := .knotProgrammed 4 }] } },
        { num := 1, kind := .staging, opened := 10, closed := some 20, phase := .knotProgrammed 4 }, [], 4, knot0,
        .decodes, .uncorrectable, by decide +kernel⟩
  · exact
        ⟨{ base with nand := nandUp 96, stg := { base.stg with epochs := [{ num := 1, kind := .staging, opened := 10, closed := some 20, pages := [4096 * 20] }] } },
        { num := 1, kind := .staging, opened := 10, closed := some 20, pages := [4096 * 20] }, [],
        by decide +kernel⟩

theorem witness_StagingSelectFillsEpoch :
    (∃ (s : State) (b : Nat) (reads : CopyReads), engineRuns s = true ∧ s.stg.ckpt = none ∧ chooseBlock s = some b ∧
      s.stg.epochs = [] ∧ s.stg.nextEpoch < 2 ^ 48 - 2 ∧ s.stg.sinceBase < 8388608) ∧
    (∃ (s : State) (reads : CopyReads), chooseBlock s = none ∧ s.stg.ckpt = none ∧ s.stg.sinceBase < 8388608) ∧
    (∃ (s : State) (e : Epoch), s.stg.epochs = [e] ∧ e.closed = none) := by
  and_intros
  · exact
        ⟨{ base with nand := nandUp 96, cache := { base.cache with map := [(0, { st := .dirty })] }, stg := { base.stg with boost := true } },
        0, reads0, by decide +kernel⟩
  · exact ⟨base, reads0, by decide +kernel⟩
  · exact ⟨{ base with stg := { base.stg with epochs := [epoch0] } }, epoch0, by decide +kernel⟩

theorem witness_BlocksAreErasedAndSpareKept :
    (∃ (s : State) (tg : Nat) (b : Nat), targetWorks tg s = true ∧ (blockAt (blockKey tg b) s).worn = false ∧ (blockAt
      (blockKey tg b) s).failed = false ∧ s.vlt.state = .armed ∧ nandOpen s = true ∧ mayErase (blockKey tg b) s = true
      ∧ Sound s) ∧
    (∃ (s : State) (tg : Nat) (b : Nat), s.vlt.state = .armed ∧ s.restore.st = .complete ∧ erasedPool s < drainReserve
      s + 2 ^ 36 ∧ blockClosed (blockKey tg b) (blockAt (blockKey tg b) s) s = true ∧ (∀ e ∈ s.nand.blocks,
      blockClosed e.1 e.2 s = true → liveSlots (blockKey tg b) s ≤ liveSlots e.1 s)) ∧
    (∃ (s : State) (slot : Nat) (g : Nat) (l : Loc) (u : NandUnit) (c : CopyRead) (bursts : List (Nat × Burst)),
      engineRuns s = true ∧ s.vlt.state = .armed ∧ s.nand.gcBlock = some (slot / 4 / 4096) ∧ s.cache.loc.find? (fun e
      => e.2.a = slot) = some (g, l) ∧ unitAt slot s = some u ∧ s.stg.epochs = [] ∧ s.stg.nextEpoch < 2 ^ 48 - 2) ∧
    (∃ (s : State), s.drf.active ≠ none ∧ 5 * unshedBytes s + 2 ^ 32 ≤ 2 * spareBytes s ∧ s.nand.reassess = false ∧ (∀
      x, wornFresh x s = false) ∧ (∀ e ∈ s.nand.blocks, e.2.failed = false ∧ e.2.worn = false ∧ e.2.pe < setting s
      P.pslcCycles)) ∧
    (∃ (s : State), s.drf.active ≠ none ∧ ¬ 5 * unshedBytes s + 2 ^ 32 ≤ 2 * spareBytes s ∧ s.nand.reassess = false ∧
      discoveryDone s = true ∧ s.restore.mapKnown = true ∧ (∀ x, wornFresh x s = false) ∧ (∀ e ∈ s.nand.blocks,
      e.2.failed = false ∧ e.2.worn = false ∧ e.2.pe < setting s P.pslcCycles)) ∧
    (∃ (s : State) (tg : Nat) (b : Nat), targetWorks tg s = true ∧ (blockAt (blockKey tg b) s).worn = false ∧ (blockAt
      (blockKey tg b) s).failed = false ∧ s.vlt.state = .armed ∧ nandOpen s = true ∧ mayErase (blockKey tg b) s = true
      ∧ Sound s ∧ satAdd 16777215 (blockAt (blockKey tg b) s).pe 1 < setting s P.pslcCycles ∧ (∀ e ∈ s.nand.blocks,
      e.2.failed = false ∧ e.2.worn = false ∧ e.2.pe < setting s P.pslcCycles) ∧ (∀ x, wornFresh x s = false) ∧
      (targetAt tg s).erases = 63 ∧ (rootBlocks tg s).length = 2 ∧ (∀ x ∈ rootBlocks tg s, satAdd 16777215 (blockAt x
      s).pe 1 < setting s P.pslcCycles)) := by
  and_intros
  · refine ⟨{ base with nand := nandUp 96 }, 0, 20, ?_⟩
    and_intros
    all_goals first
      | decide +kernel
      | exact sound_of (by decide +kernel)
  · exact
        ⟨{ base with nand := { nandUp 1 with blocks := [(20, { erased := false, next := 4096 })] }, cache := { base.cache with caps := [(0, 2 ^ 27)] } },
        0, 20, by decide +kernel⟩
  · exact
        ⟨{ base with nand := { nandUp 96 with gcBlock := some 20, pages := [(20 * 4096, { type := 1, epoch := 1, units := [unit0], dup := false, copyB := false, reprogram := false, partner := none, blockSeq := 0, pe := 0, ts := 0, key := 2 })] }, cache := { base.cache with loc := [(0, { a := 4 * (20 * 4096) })] } },
        4 * (20 * 4096), 0, { a := 4 * (20 * 4096) }, unit0, .decodes, [], by decide +kernel⟩
  · refine ⟨{ base with nand := nandUp 96 }, ?_⟩
    and_intros
    all_goals first
      | decide +kernel
      | exact fresh_low (by decide +kernel) (by decide +kernel)
  · refine ⟨{ base with nand := nandUp 0 }, ?_⟩
    and_intros
    all_goals first
      | decide +kernel
      | exact fresh_low (by decide +kernel) (by decide +kernel)
  · refine
        ⟨{ base with nand := { nandUp 96 with targets := (nandUp 96).targets.map (fun e => (e.1, { e.2 with erases := 63 })) } },
        0, 20, ?_⟩
    and_intros
    all_goals first
      | decide +kernel
      | exact sound_of (by decide +kernel)
      | exact fresh_low (by decide +kernel) (by decide +kernel)

theorem witness_SpeculationStartsAndEnds :
    (∃ (s : State) (l : List Nat) (below : Bool) (lv : Bool), s.pwr.keeper = true ∧ s.vin.armed = true ∧ s.drf.active
      ≠ none ∧ s.vin.warn = false ∧ isFrozen 2 s = false ∧ exercising s = false ∧ (lv = true ∨ slopeWarns l s = true)) ∧
    (∃ (s : State) (l : List Nat) (below : Bool), s.pwr.keeper = true ∧ isFrozen 0 s = false ∧ exercising s = false ∧
      slopeWarns l s = false) ∧
    (∃ (s : State) (l : List Nat) (below : Bool), s.pwr.keeper = true ∧ s.vin.armed = true ∧ s.drf.active ≠ none ∧
      s.vin.warned = true ∧ 16 ≤ l.length ∧ slopeWarns l s = false ∧ 100 * (setting s P.vinWarn + setting s P.vinHyst)
      < 25 * ((l.reverse.take 16).sum / 16) ∧ isFrozen 0 s = false ∧ isFrozen 2 s = false) ∧
    (∃ (s : State) (hdr : FrameHdr), accepts .engine hdr s = true ∧ engineRuns s = true ∧ s.vlt.state = .armed ∧
      s.vlt.specBlocked = false) ∧
    (∃ (s : State) (hdr : FrameHdr), accepts .engine hdr s = true ∧ s.vlt.state = .armed ∧ s.vlt.specBlocked = true) ∧
    (∃ (s : State) (hdr : FrameHdr), accepts .engine hdr s = true ∧ engineRuns s = true ∧ s.vlt.state = .speculative) ∧
    (∃ (s : State), engineRuns s = true ∧ s.vlt.state = .speculative) ∧
    (∃ (s : State) (hdr : FrameHdr), accepts .engine hdr s = true ∧ engineRuns s = false) ∧
    (∃ (s : State) (l : List Nat), s.pwr.keeper = true ∧ s.vin.armed = true ∧ s.drf.active ≠ none ∧ s.vin.warn = false
      ∧ isFrozen 2 s = false ∧ exercising s = false ∧ slopeWarns l s = true ∧ 80 ≤ l.length) := by
  and_intros
  · exact ⟨base, [], false, true, by decide +kernel⟩
  · exact ⟨base, [], false, by decide +kernel⟩
  · exact ⟨{ base with vin := { base.vin with warn := true, warned := true } }, List.replicate 16 2000, false,
        by decide +kernel⟩
  · refine ⟨base, hdr0, ?_⟩
    and_intros
    all_goals first
      | decide +kernel
      | exact sound_of (by decide +kernel)
  · exact ⟨{ base with vlt := { base.vlt with specBlocked := true } }, hdr0, by decide +kernel⟩
  · refine ⟨{ base with vlt := { base.vlt with state := .speculative }, stg := { base.stg with epochs := [epoch0] } }, hdr0, ?_⟩
    and_intros
    all_goals first
      | decide +kernel
      | exact sound_of (by decide +kernel)
  · refine ⟨{ base with vlt := { base.vlt with state := .speculative }, stg := { base.stg with epochs := [epoch0] } }, ?_⟩
    and_intros
    all_goals first
      | decide +kernel
      | exact sound_of (by decide +kernel)
  · refine ⟨{ base with flt := { base.flt with engineStopped := true } }, hdr0, ?_⟩
    and_intros
    all_goals first
      | decide +kernel
      | exact sound_of (by decide +kernel)
  · exact ⟨base, (List.range 90).map (fun i => 3000 - 20 * i), by decide +kernel⟩

theorem witness_ConfirmationCauses :
    (∃ (s : State) (c : Instr) (k : Nat), s.pwr.keeper = true ∧ s.drf.active ≠ none ∧ s.flt.belay = false ∧
      s.vlt.confirming = false ∧ (s.vlt.state = .armed ∨ s.vlt.state = .speculative) ∧ s.warm.kind = .none ∧
      s.warm.confirmed = none ∧ (c = .stewardVaultRequest ∧ k = 3 ∨ c = .vreqActive ∧ k = 2 ∧ pairActive .vreq s =
      true ∧ (pairAt .vreq s).frozen = false ∧ engineJudged s = true ∧ s.vlt.engineCause = false ∨ c = .vreqActive ∧ k
      = 6 ∧ (pairAt .vreq s).frozen = true ∧ engineJudged s = true ∧ s.vlt.engineCause = false ∨ (∃ v, c =
      .pfFilterExpiry v true false ∧ k = 1 ∧ s.vin.armed = true) ∨ (c = .inputOvervoltage true ∧ k = 1 ∧ s.vin.armed =
      true)) ∧ exercising s = false) := by
  refine ⟨base, .stewardVaultRequest, 3, ?_⟩
  and_intros
  all_goals first
    | decide +kernel
    | exact Or.inl ⟨rfl, rfl⟩

theorem witness_WindowAndFence :
    (∃ (s : State), s.vlt.state = .window ∧ engineRuns s = true ∧ (∀ d ∈ shedOrder s, 8 ≤ d)) ∧
    (∃ (s : State), pairActive .pf s = true ∧ s.warm.engineUp = true ∧ s.flt.belay = false ∧ s.vlt.confirming = true ∧
      (s.vlt.state = .armed ∨ s.vlt.state = .speculative) ∧ s.warm.kind = .none ∧ s.cache.waiting = [] ∧ (inTail s =
      true → s.stg.heldq = []) ∧ (∀ d ∈ shedOrder s, 8 ≤ d)) := by
  and_intros
  · exact ⟨{ base with vlt := { base.vlt with state := .window } }, by decide +kernel⟩
  · exact
        ⟨{ base with sel := { base.sel with pairs := base.sel.pairs.map (fun p => { p with t := true, c := false }) }, vlt := { base.vlt with confirming := true } },
        by decide +kernel⟩

theorem witness_DrainFollowsManifest :
    (∃ (s : State) (l : List Nat), engineRuns s = true ∧ s.vlt.state = .fenced ∧ s.stg.epochs = [] ∧ s.drain.manifest
      = some l ∧ s.stg.nextEpoch < 2 ^ 48 - 2) ∧
    (∃ (s : State) (reads : CopyReads), engineRuns s = true ∧ s.vlt.state = .drain ∧ s.stg.epochs = [] ∧ s.drain.left
      ≠ [] ∧ (∀ g, s.drain.left.head? = some g → (entryOf g s).pending = false) ∧ s.stg.nextEpoch < 2 ^ 48 - 2) ∧
    (∃ (s : State), s.drain.stage = .asked) ∧
    (∃ (s : State), s.drain.stage = .asked) ∧
    (∃ (s : State) (ptr : Nat) (ptrB : Nat), shuttlesRun s = true ∧ s.vlt.state = .knot ∧ s.stg.epochs = [] ∧
      s.drain.stage = .checkpoint ∧ s.drain.sysLeft = [] ∧ s.drain.ckptKnot ≠ none ∧ s.stg.nextEpoch < 2 ^ 48 - 2 ∧
      recordPages s.stg.nextEpoch ptr ptrB [] s = true) ∧
    (∃ (s : State), s.vlt.state = .hold ∧ setting s P.holdMax ≠ 0 ∧ s.warm.kind = .none) ∧
    (∃ (s : State), s.pwr.keeper = true ∧ s.vlt.state = .hold ∧ s.warm.kind = .none) ∧
    (∃ (s : State), s.pwr.keeper = true ∧ s.vlt.state = .off) ∧
    (∃ (s : State), setting s P.holdMax = 0) := by
  and_intros
  · exact
        ⟨{ base with vlt := { base.vlt with state := .fenced }, drain := { base.drain with manifest := some [0, 32768] } },
        [0, 32768], by decide +kernel⟩
  · refine
        ⟨{ base with vlt := { base.vlt with state := .drain }, drain := { base.drain with left := [0] }, cache := { base.cache with map := [(0, { st := .dirty })] } },
        reads0, ?_⟩
    and_intros
    all_goals first
      | decide +kernel
      | exact (fun _ h => by cases h; decide +kernel)
  · exact ⟨{ base with drain := { base.drain with stage := .asked } }, by decide +kernel⟩
  · exact ⟨{ base with drain := { base.drain with stage := .asked } }, by decide +kernel⟩
  · exact
        ⟨{ base with nand := nandUp 96, vlt := { base.vlt with state := .knot }, drain := { base.drain with stage := .checkpoint, ckptKnot := some 4 } },
        2 ^ 36 + 2 ^ 29 + 20 * 4096, 7 * 2 ^ 36 + 2 ^ 29 + 20 * 4096, by decide +kernel⟩
  · exact
        ⟨{ base with vlt := { base.vlt with state := .hold }, drf := { base.drf with active := some { draft with params := [(P.holdMax, 100)] } } },
        by decide +kernel⟩
  · exact ⟨{ base with vlt := { base.vlt with state := .hold } }, by decide +kernel⟩
  · exact ⟨{ base with vlt := { base.vlt with state := .off } }, by decide +kernel⟩
  · exact ⟨base, by decide +kernel⟩

theorem witness_StallsAndHeartbeats :
    (∃ (s : State) (c : Nat) (x : StallChannel), (x = .path c ∨ (∃ t d, x = .shuttle c t d)) ∧ engineRuns s = true ∧
      (s.vlt.state = .fenced ∨ s.vlt.state = .drain ∨ s.vlt.state = .knot) ∧ (∀ e ∈ s.stg.epochs, e.kind = .drain) ∧
      sevOf (stallSource x) s ≠ 4) ∧
    (∃ (s : State) (c : Nat) (x : StallChannel), (x = .path c ∨ (∃ t d, x = .shuttle c t d)) ∧ s.warm.engineUp = true
      ∧ (s.vlt.state = .fenced ∨ s.vlt.state = .drain ∨ s.vlt.state = .knot) ∧ sevOf (stallSource x) s = 4) ∧
    (∃ (s : State) (x : StallChannel), (x = .cxl ∨ x = .adm ∨ x = .map ∨ x = .vseq) ∧ s.warm.engineUp = true) ∧
    (∃ (s : State), s.warm.engineUp = true ∧ s.flt.engineLive.contains 12 = false ∧ s.sel.phase = .rebooting) ∧
    (∃ (s : State), s.pwr.keeper = true ∧ tfind s.flt.engineBroken 58 = none) ∧
    (∃ (s : State), engineJudged s = true ∧ s.flt.belay = false ∧ s.sel.phase = .idle ∧ s.sel.engineStalled = true) ∧
    (∃ (s : State), s.warm.engineUp = true ∧ s.flt.engineStopped = false ∧ s.sel.pcStalled = false ∧ linkUp s = true) := by
  and_intros
  · refine ⟨{ base with vlt := { base.vlt with state := .drain }, drf := { base.drf with active := some calm } }, 0, .path 0, ?_⟩
    and_intros
    all_goals first
      | decide +kernel
      | exact sound_of (by decide +kernel)
      | exact Or.inl rfl
  · refine ⟨{ base with vlt := { base.vlt with state := .drain }, drf := { base.drf with active := some { draft with faults := draft.faults.map (fun f => { f with sev := 4 }) } } }, 0, .path 0, ?_⟩
    and_intros
    all_goals first
      | decide +kernel
      | exact sound_of (by decide +kernel)
      | exact Or.inl rfl
  · exact ⟨base, .cxl, by decide +kernel⟩
  · exact ⟨{ base with sel := { base.sel with phase := .rebooting } }, by decide +kernel⟩
  · refine ⟨base, ?_⟩
    and_intros
    all_goals first
      | decide +kernel
      | exact sound_of (by decide +kernel)
  · exact ⟨{ base with sel := { base.sel with engineStalled := true } }, by decide +kernel⟩
  · exact ⟨base, by decide +kernel⟩

theorem witness_SelvedgeRebootsAndResumes :
    (∃ (s : State), pairActive .hold s = true ∧ s.flt.belay = false ∧ s.sel.phase = .holding ∧ s.sel.thermal = true) ∧
    (∃ (s : State), pairActive .hold s = true ∧ s.flt.belay = false ∧ s.sel.phase = .holding ∧ s.sel.thermal = false ∧
      s.sel.attempts < setting s P.rebootMax) ∧
    (∃ (s : State), pairActive .hold s = true ∧ s.flt.belay = false ∧ s.sel.phase ≠ .holding ∧ s.vlt.state = .hold ∧
      s.warm.kind = .none) ∧
    (∃ (s : State), pairActive .hold s = true ∧ s.flt.belay = true ∧ s.flt.awaitHold = true) ∧
    (∃ (s : State), pairActive .hold s = false) ∧
    (∃ (s : State), s.sel.phase = .rebooting ∧ s.flt.belay = false ∧ s.sel.attempts < setting s P.rebootMax) ∧
    (∃ (s : State) (c : Instr), (c = .rebootTimeoutExpiry ∧ s.sel.phase = .rebooting ∨ c = .holdIslandReady ∧
      pairActive .hold s = true ∧ s.sel.phase = .holding ∧ s.sel.thermal = false) ∧ s.flt.belay = false ∧ setting s
      P.rebootMax ≤ s.sel.attempts ∧ sevOf 162 s = 4 ∧ (srcAt 162 s).frozen = false ∧ shadowed 162 s = false ∧ Sound
      s) ∧
    (∃ (s : State), (s.sel.phase ≠ .rebooting ∨ s.flt.belay = true)) ∧
    (∃ (s : State), s.sel.phase = .cooling ∧ s.flt.belay = false) ∧
    (∃ (s : State), (s.sel.phase ≠ .cooling ∨ s.flt.belay = true)) ∧
    (∃ (s : State) (u : State) (reads : List PageRead), s.warm.kind = .engine ∧ s.warm.step = 8 ∧ inVault s = true ∧
      s.warm.engineUp = true ∧ discoveryDone s = true ∧ s.flt.belay = false ∧ s.lcs.st ≠ .retired) ∧
    (∃ (s : State) (u : State) (reads : List PageRead), s.warm.kind = .engine ∧ s.warm.step = 8 ∧ inVault s = true ∧
      s.warm.engineUp = true ∧ discoveryDone s = true ∧ s.flt.belay = false ∧ s.lcs.st ≠ .retired ∧ keyUnwraps s =
      false) ∧
    (∃ (s : State) (u : State) (reads : List PageRead), s.warm.kind = .engine ∧ s.warm.step = 8 ∧ inVault s = true ∧
      s.warm.engineUp = true ∧ discoveryDone s = true ∧ s.flt.belay = false ∧ s.lcs.st ≠ .retired ∧ keyUnwraps s =
      true ∧ u = noteReads reads { s with restore := { s.restore with keyOk := true }, nand :=
      { s.nand with badHeaders := [], badSlots := [] } } ∧ (if linkUp u then searchFrom u.log.knotPtr u else
      newestKnot u) = none ∧ (s.vlt.state = .confirmed ∨ s.vlt.state = .window)) ∧
    (∃ (s : State) (u : State) (reads : List PageRead) (k : KnotRec), s.warm.kind = .engine ∧ s.warm.step = 8 ∧
      inVault s = true ∧ s.warm.engineUp = true ∧ discoveryDone s = true ∧ s.flt.belay = false ∧ s.lcs.st ≠ .retired ∧
      keyUnwraps s = true ∧ u = noteReads reads { s with restore := { s.restore with keyOk := true }, nand :=
      { s.nand with badHeaders := [], badSlots := [] } } ∧ (if linkUp u then searchFrom u.log.knotPtr u else
      newestKnot u) = some k ∧ k.kind ≠ .final ∧ k.kind = .staging) ∧
    (∃ (s : State) (u : State) (reads : List PageRead) (k : KnotRec), s.warm.kind = .engine ∧ s.warm.step = 8 ∧
      inVault s = true ∧ s.warm.engineUp = true ∧ discoveryDone s = true ∧ s.flt.belay = false ∧ s.lcs.st ≠ .retired ∧
      keyUnwraps s = true ∧ u = noteReads reads { s with restore := { s.restore with keyOk := true }, nand :=
      { s.nand with badHeaders := [], badSlots := [] } } ∧ (if linkUp u then searchFrom u.log.knotPtr u else
      newestKnot u) = some k ∧ endsVoided k.epoch u = true) ∧
    (∃ (s : State) (u : State) (reads : List PageRead) (k : KnotRec), s.warm.kind = .engine ∧ s.warm.step = 8 ∧
      inVault s = true ∧ s.warm.engineUp = true ∧ discoveryDone s = true ∧ s.flt.belay = false ∧ s.lcs.st ≠ .retired ∧
      keyUnwraps s = true ∧ u = noteReads reads { s with restore := { s.restore with keyOk := true }, nand :=
      { s.nand with badHeaders := [], badSlots := [] } } ∧ (if linkUp u then searchFrom u.log.knotPtr u else
      newestKnot u) = some k ∧ endsVoided k.epoch u = false ∧ k.vault = s.vlt.number ∧ (∃ m ∈ knottedChain u (some
      k.slot), m.kind = .manifest) ∧ (k.kind = .manifest ∨ k.kind = .drain)) ∧
    (∃ (s : State) (u : State) (reads : List PageRead) (k : KnotRec), s.warm.kind = .engine ∧ s.warm.step = 8 ∧
      inVault s = true ∧ s.warm.engineUp = true ∧ discoveryDone s = true ∧ s.flt.belay = false ∧ s.lcs.st ≠ .retired ∧
      keyUnwraps s = true ∧ u = noteReads reads { s with restore := { s.restore with keyOk := true }, nand :=
      { s.nand with badHeaders := [], badSlots := [] } } ∧ (if linkUp u then searchFrom u.log.knotPtr u else
      newestKnot u) = some k ∧ endsVoided k.epoch u = false ∧ k.vault = s.vlt.number ∧ (∃ m ∈ knottedChain u (some
      k.slot), m.kind = .manifest) ∧ (k.kind = .system ∨ k.kind = .ckptEnd)) ∧
    (∃ (s : State) (u : State) (reads : List PageRead) (k : KnotRec), s.warm.kind = .engine ∧ s.warm.step = 8 ∧
      inVault s = true ∧ s.warm.engineUp = true ∧ discoveryDone s = true ∧ s.flt.belay = false ∧ s.lcs.st ≠ .retired ∧
      keyUnwraps s = true ∧ u = noteReads reads { s with restore := { s.restore with keyOk := true }, nand :=
      { s.nand with badHeaders := [], badSlots := [] } } ∧ (if linkUp u then searchFrom u.log.knotPtr u else
      newestKnot u) = some k ∧ endsVoided k.epoch u = false ∧ k.kind = .final ∧ k.vault = s.vlt.number ∧ (∃ m ∈
      knottedChain u (some k.slot), m.kind = .manifest)) := by
  and_intros
  · exact
        ⟨{ base with sel := { base.sel with pairs := base.sel.pairs.map (fun p => { p with t := true, c := false }), phase := .holding, thermal := true } },
        by decide +kernel⟩
  · exact
        ⟨{ base with sel := { base.sel with pairs := base.sel.pairs.map (fun p => { p with t := true, c := false }), phase := .holding } },
        by decide +kernel⟩
  · refine ⟨{ base with sel := pairsOn, vlt := { base.vlt with state := .hold } }, ?_⟩
    and_intros
    all_goals first
      | decide +kernel
      | exact sound_of (by decide +kernel)
  · refine ⟨{ base with sel := pairsOn, flt := { base.flt with belay := true, awaitHold := true } }, ?_⟩
    and_intros
    all_goals first
      | decide +kernel
      | exact sound_of (by decide +kernel)
  · refine ⟨base, ?_⟩
    and_intros
    all_goals first
      | decide +kernel
      | exact sound_of (by decide +kernel)
  · exact ⟨{ base with sel := { base.sel with phase := .rebooting } }, by decide +kernel⟩
  · refine ⟨{ base with sel := { base.sel with phase := .rebooting, attempts := 9 } }, .rebootTimeoutExpiry, ?_⟩
    and_intros
    all_goals first
      | decide +kernel
      | exact sound_of (by decide +kernel)
      | exact Or.inl ⟨rfl, by decide +kernel⟩
  · refine ⟨base, ?_⟩
    and_intros
    all_goals first
      | decide +kernel
      | exact sound_of (by decide +kernel)
  · exact ⟨{ base with sel := { base.sel with phase := .cooling } }, by decide +kernel⟩
  · refine ⟨base, ?_⟩
    and_intros
    all_goals first
      | decide +kernel
      | exact sound_of (by decide +kernel)
  · refine ⟨rebooted .confirmed (nandUp 96), base, [], ?_⟩
    and_intros
    all_goals first
      | decide +kernel
      | exact sound_of (by decide +kernel)
  · refine ⟨{ base with nand := nandUp 96, warm := { base.warm with kind := .engine, step := 8 }, vlt := { base.vlt with state := .drain } }, base, [], ?_⟩
    and_intros
    all_goals first
      | decide +kernel
      | exact sound_of (by decide +kernel)
  · refine ⟨rebooted .confirmed (nandUp 96), resumeRead (rebooted .confirmed (nandUp 96)), [], ?_⟩
    and_intros
    all_goals first
      | decide +kernel
      | exact sound_of (by decide +kernel)
      | exact rfl
  · refine ⟨rebooted .fenced (knotStore [.staging]), resumeRead (rebooted .fenced (knotStore [.staging])), [], knotAt 0 .staging, ?_⟩
    and_intros
    all_goals first
      | decide +kernel
      | exact sound_of (by decide +kernel)
      | exact rfl
  · refine ⟨rebooted .drain { knotStore [.manifest, .drain] with voids := [void0] }, resumeRead (rebooted .drain { knotStore [.manifest, .drain] with voids := [void0] }), [], knotAt 1 .drain, ?_⟩
    and_intros
    all_goals first
      | decide +kernel
      | exact sound_of (by decide +kernel)
      | exact rfl
  · refine ⟨rebooted .drain (knotStore [.manifest, .drain]), resumeRead (rebooted .drain (knotStore [.manifest, .drain])), [], knotAt 1 .drain, ?_⟩
    and_intros
    all_goals first
      | decide +kernel
      | exact sound_of (by decide +kernel)
      | exact rfl
  · refine ⟨rebooted .knot (knotStore [.manifest, .system]), resumeRead (rebooted .knot (knotStore [.manifest, .system])), [], knotAt 1 .system, ?_⟩
    and_intros
    all_goals first
      | decide +kernel
      | exact sound_of (by decide +kernel)
      | exact rfl
  · refine ⟨rebooted .knot (knotStore [.manifest, .final]), resumeRead (rebooted .knot (knotStore [.manifest, .final])), [], knotAt 1 .final, ?_⟩
    and_intros
    all_goals first
      | decide +kernel
      | exact sound_of (by decide +kernel)
      | exact rfl

theorem witness_SourcesEnterAndClear :
    (∃ (s : State) (n : Nat) (d : Nat), s.pwr.keeper = true ∧ present n = true ∧ codeSeen n s = true ∧ (srcAt n
      s).frozen = false ∧ inFault (srcAt n s) = false ∧ sevOf n s ≤ 1 ∧ shadowed n s = false ∧ Sound s ∧ tget 0
      s.log.written n < 16 ∧ s.flt.first.valid = false ∧ inDrainStates s = false) ∧
    (∃ (s : State) (n : Nat) (d : Nat), s.pwr.keeper = true ∧ present n = true ∧ n < 160 ∧ s.warm.engineUp = true ∧
      linkUp s = false ∧ Sound s ∧ (isEvent n = true ∨ n ∉ s.flt.engineLive)) ∧
    (∃ (s : State) (n : Nat) (d : Nat) (t : State), s.flt.first.valid = true ∧ s.pwr.keeper = true ∧ sevOf n s ≤ 1 ∧
      inDrainStates s = false ∧ exec (.sourceEntersFault n d) s = .next t) ∧
    (∃ (s : State) (m : Master), s.pwr.keeper = true) ∧
    (∃ (s : State) (m : Master) (n : Nat), s.pwr.keeper = true ∧ (srcAt n s).latched = true ∧ inFault (srcAt n s) =
      false ∧ (n < 192 ∨ 194 < n) ∧ Sound s) ∧
    (∃ (s : State) (m : Master) (n : Nat), inFault (srcAt n s) = true) ∧
    (∃ (s : State) (m : Master) (n : Nat) (v : Nat) (a : Bool), s.pwr.keeper = true ∧ present n = true ∧ draftSev n s
      ≤ v ∧ v ≤ 4 ∧ fixedSources.contains n = false ∧ (srcAt n s).latched = false ∧ Sound s) ∧
    (∃ (s : State) (n : Nat), n < 160 ∧ present n = true ∧ s.warm.engineUp = true ∧ linkUp s = false ∧ n ∉
      s.flt.engineLive ∧ sevOf n s = 4) ∧
    (∃ (s : State) (n : Nat), n < 160 ∧ present n = true ∧ s.warm.engineUp = true ∧ linkUp s = false ∧ n ∉
      s.flt.engineLive ∧ sevOf n s = 3 ∧ noVault s = true) := by
  and_intros
  · refine ⟨base, 57, 0, ?_⟩
    and_intros
    all_goals first
      | decide +kernel
      | exact sound_of (by decide +kernel)
  · refine ⟨{ base with hdlE := { base.hdlE with up := false }, drf := { base.drf with active := some calm } }, 57, 0, ?_⟩
    and_intros
    all_goals first
      | decide +kernel
      | exact sound_of (by decide +kernel)
  · exact ⟨{ base with flt := { base.flt with first := { valid := true } } }, 57, 0, _, by decide +kernel,
        by decide +kernel, by decide +kernel, by decide +kernel, rfl⟩
  · exact ⟨base, .host, by decide +kernel⟩
  · refine ⟨{ base with flt := { base.flt with sources := [(57, { latched := true })] } }, .host, 57, ?_⟩
    and_intros
    all_goals first
      | decide +kernel
      | exact sound_of (by decide +kernel)
  · exact ⟨{ base with flt := { base.flt with sources := [(57, { latched := true, t := true, c := false })] } },
        .host, 57, by decide +kernel⟩
  · refine ⟨base, .host, 57, 4, true, ?_⟩
    and_intros
    all_goals first
      | decide +kernel
      | exact sound_of (by decide +kernel)
  · refine ⟨{ base with hdlE := { base.hdlE with up := false } }, 16, ?_⟩
    and_intros
    all_goals first
      | decide +kernel
      | exact sound_of (by decide +kernel)
  · refine ⟨{ base with hdlE := { base.hdlE with up := false } }, 4, ?_⟩
    and_intros
    all_goals first
      | decide +kernel
      | exact sound_of (by decide +kernel)

theorem witness_BrokenCodesPairsAndInputs :
    (∃ (s : State) (n : Nat) (b : Bool), s.pwr.keeper = true ∧ present n = true ∧ codeSeen n s = true ∧ (srcAt n
      s).frozen = false ∧ inFault (srcAt n s) = false ∧ sevOf n s ≤ 1 ∧ inDrainStates s = false ∧ shadowed n s = false
      ∧ Sound s) ∧
    (∃ (s : State) (b : Bool), Sound s ∧ s.pwr.keeper = true ∧ s.warm.engineUp = true ∧ (pairAt .hold s).frozen =
      false) ∧
    (∃ (s : State) (p : PairId) (b : Bool), Sound s ∧ (pairAt p s).frozen = true) ∧
    (∃ (s : State), s.pwr.keeper = true ∧ tfind s.flt.frozen 0 = none ∧ sevOf 229 s ≤ 1 ∧ inDrainStates s = false) ∧
    (∃ (s : State) (x : Nat), s.pwr.keeper = true ∧ tfind s.flt.frozen 3 = none ∧ sevOf 230 s ≤ 1 ∧ inDrainStates s =
      false) ∧
    (∃ (s : State) (n : Nat) (x : Nat) (f : Frozen), n ≠ 102 ∧ s.flt.frozen = [(n, f)]) ∧
    (∃ (s : State) (n : Nat), s.pwr.keeper = true ∧ present n = true ∧ (srcAt n s).frozen = false ∧ sevOf n s ≤ 1 ∧
      inDrainStates s = false ∧ shadowed n s = false ∧ Sound s) ∧
    (∃ (s : State) (n : Nat), present n = true ∧ (srcAt n s).frozen = true ∧ (srcAt n s).wireT = false ∧ (srcAt n
      s).wireC = true ∧ Sound s) := by
  and_intros
  · refine ⟨base, 57, true, ?_⟩
    and_intros
    all_goals first
      | decide +kernel
      | exact sound_of (by decide +kernel)
  · refine ⟨base, true, ?_⟩
    and_intros
    all_goals first
      | decide +kernel
      | exact sound_of (by decide +kernel)
  · refine ⟨{ base with sel := { base.sel with pairs := base.sel.pairs.map (fun p => { p with frozen := true }) } },
        .pf, true, ?_⟩
    and_intros
    all_goals first
      | decide +kernel
      | exact sound_of (by decide +kernel)
  · exact ⟨base, by decide +kernel⟩
  · refine ⟨base, 57, ?_⟩
    and_intros
    all_goals first
      | decide +kernel
      | exact sound_of (by decide +kernel)
  · refine ⟨{ base with flt := { base.flt with frozen := [(4, .stuck)] } }, 4, 0, .stuck, ?_⟩
    and_intros
    all_goals first
      | decide +kernel
      | exact sound_of (by decide +kernel)
  · refine ⟨base, 57, ?_⟩
    and_intros
    all_goals first
      | decide +kernel
      | exact sound_of (by decide +kernel)
  · refine ⟨{ base with flt := { base.flt with sources := [(57, { t := true, c := true, frozen := true, wireT := false, wireC := true })] } }, 57, ?_⟩
    and_intros
    all_goals first
      | decide +kernel
      | exact sound_of (by decide +kernel)

theorem witness_SeverityDecidesReaction :
    (∃ (s : State) (n : Nat) (d : Nat), s.pwr.keeper = true ∧ present n = true ∧ codeSeen n s = true ∧ (srcAt n
      s).frozen = false ∧ inFault (srcAt n s) = false ∧ shadowed n s = false ∧ Sound s ∧ s.flt.belay = false ∧
      exercising s = false ∧ inDrainStates s = false) ∧
    (∃ (s : State) (n : Nat) (d : Nat), s.pwr.keeper = true ∧ present n = true ∧ codeSeen n s = true ∧ (srcAt n
      s).frozen = false ∧ inFault (srcAt n s) = false ∧ shadowed n s = false ∧ Sound s ∧ s.flt.belay = false ∧
      exercising s = false ∧ inDrainStates s = false ∧ sevOf n s = 4) ∧
    (∃ (s : State) (n : Nat) (d : Nat), s.pwr.keeper = true ∧ present n = true ∧ codeSeen n s = true ∧ (srcAt n
      s).frozen = false ∧ inFault (srcAt n s) = false ∧ shadowed n s = false ∧ Sound s ∧ s.flt.belay = false ∧
      exercising s = false ∧ inDrainStates s = false ∧ sevOf n s = 3 ∧ s.vlt.confirming = false ∧ s.vlt.state = .armed
      ∧ s.warm.kind = .none ∧ s.warm.confirmed = none) ∧
    (∃ (s : State) (n : Nat) (d : Nat), s.pwr.keeper = true ∧ present n = true ∧ codeSeen n s = true ∧ (srcAt n
      s).frozen = false ∧ inFault (srcAt n s) = false ∧ shadowed n s = false ∧ Sound s ∧ s.flt.belay = false ∧
      exercising s = false ∧ inDrainStates s = false ∧ sevOf n s = 2 ∧ escalates n s = false ∧ s.flt.shadows.contains
      n = false) := by
  and_intros
  · refine ⟨base, 227, 0, ?_⟩
    and_intros
    all_goals first
      | decide +kernel
      | exact sound_of (by decide +kernel)
  · refine ⟨base, 227, 0, ?_⟩
    and_intros
    all_goals first
      | decide +kernel
      | exact sound_of (by decide +kernel)
  · refine ⟨base, 175, 0, ?_⟩
    and_intros
    all_goals first
      | decide +kernel
      | exact sound_of (by decide +kernel)
  · refine ⟨base, 2, 0, ?_⟩
    and_intros
    all_goals first
      | decide +kernel
      | exact sound_of (by decide +kernel)

theorem witness_UnitResetShadowsAndEnds :
    (∃ (s : State) (u : UnitId), s.pwr.keeper = true ∧ s.flt.belay = false ∧ s.flt.resets.contains (unitCode u) =
      false ∧ s.warm.engineUp = true) ∧
    (∃ (s : State) (u : UnitId), s.flt.resets.contains (unitCode u) = true ∧ (inTail s = true → s.cache.waiting = [] ∧
      s.stg.heldq = [])) ∧
    (∃ (s : State) (n : Nat), s.flt.shadows.contains n = true ∧ (∀ m ∈ shadowSet n s, inFault (srcAt m s) = false)) ∧
    (∃ (s : State) (hdr : FrameHdr) (n : Nat), accepts .pctrl hdr s = true ∧ n < 160 ∧ present n = true ∧ Sound s ∧
      (srcAt n s).t = true ∧ (srcAt n s).c = false ∧ (srcAt n s).frozen = false) := by
  and_intros
  · exact ⟨base, .admission, by decide +kernel⟩
  · exact ⟨{ base with flt := { base.flt with resets := [unitCode .admission] } }, .admission, by decide +kernel⟩
  · exact ⟨{ base with flt := { base.flt with shadows := [2] } }, 2, by decide +kernel⟩
  · refine ⟨{ base with flt := { base.flt with sources := [(57, { t := true, c := false })] } }, hdr0, 57, ?_⟩
    and_intros
    all_goals first
      | decide +kernel
      | exact sound_of (by decide +kernel)

theorem witness_BelayStopsAndRecovers :
    (∃ (s : State), s.pwr.keeper = true ∧ pairActive .belaye s = true ∧ belayeJudged s = true ∧ s.flt.belay = false ∧
      exercising s = false ∧ Sound s) ∧
    (∃ (s : State), pairActive .belayp s = true ∧ s.warm.engineUp = true) ∧
    (∃ (s : State), s.flt.belay = true ∧ s.flt.nandOff = true ∧ Sound s) ∧
    (∃ (s : State) (tg : Nat) (r : Bool), declared tg s = true ∧ s.flt.belay = false ∧ Sound s) ∧
    (∃ (s : State) (c : Instr), s.flt.belay = true ∧ mayRecover s = true ∧ inVault s = false ∧ pairActive .pf s =
      false ∧ s.vin.good = true ∧ ((∃ m, c = .recover m) ∨ c = .belaySettleExpiry ∧ s.flt.stewardHalted = false ∧
      s.flt.recoveries < setting s P.belayRecoverMax)) ∧
    (∃ (s : State), s.pwr.keeper = true ∧ s.flt.stewardHalted = false ∧ s.drf.active ≠ none ∧ Sound s ∧ (srcAt 160
      s).frozen = false) ∧
    (∃ (s : State), s.pwr.keeper = true ∧ s.drf.active ≠ none ∧ Sound s ∧ (srcAt 160 s).frozen = false) ∧
    (∃ (s : State), s.pwr.keeper = true) ∧
    (∃ (s : State) (m : Nat × Nat) (l : List (Nat × Nat)), s.pwr.keeper = true) := by
  and_intros
  · refine
        ⟨{ base with sel := { base.sel with pairs := base.sel.pairs.map (fun p => { p with t := true, c := false }) } },
        ?_⟩
    and_intros
    all_goals first
      | decide +kernel
      | exact sound_of (by decide +kernel)
  · exact
        ⟨{ base with sel := { base.sel with pairs := base.sel.pairs.map (fun p => { p with t := true, c := false }) } },
        by decide +kernel⟩
  · refine ⟨{ base with flt := { base.flt with belay := true, nandOff := true }, nand := nandUp 96 }, ?_⟩
    and_intros
    all_goals first
      | decide +kernel
      | exact sound_of (by decide +kernel)
  · refine ⟨base, 0, true, ?_⟩
    and_intros
    all_goals first
      | decide +kernel
      | exact sound_of (by decide +kernel)
  · refine ⟨{ base with flt := { base.flt with belay := true } }, .recover .host, ?_⟩
    and_intros
    all_goals first
      | decide +kernel
      | exact Or.inl ⟨_, rfl⟩
  · refine ⟨base, ?_⟩
    and_intros
    all_goals first
      | decide +kernel
      | exact sound_of (by decide +kernel)
  · refine ⟨base, ?_⟩
    and_intros
    all_goals first
      | decide +kernel
      | exact sound_of (by decide +kernel)
  · exact ⟨base, by decide +kernel⟩
  · exact ⟨base, (0, 0), [], by decide +kernel⟩

theorem witness_LogKeepsSequence :
    (∃ (s : State) (v : Word), s.pwr.keeper = true) ∧
    (∃ (s : State), s.pwr.keeper = true) ∧
    (∃ (s : State) (hdr : FrameHdr) (ts : Nat) (code : Nat) (source : Nat) (flags : Nat) (d0 : Nat) (d1 : Nat) (st :
      Nat), accepts .pctrl hdr s = true ∧ flags < 8 ∧ (∀ e ∈ s.log.ring, ¬ (e.ts = ts ∧ e.code = code ∧ e.source =
      source))) ∧
    (∃ (s : State) (hdr : FrameHdr) (ts : Nat) (code : Nat) (source : Nat) (flags : Nat) (d0 : Nat) (d1 : Nat) (st :
      Nat), (∃ e ∈ s.log.ring, e.ts = ts ∧ e.code = code ∧ e.source = source)) ∧
    (∃ (s : State) (hdr : FrameHdr) (a : Nat) (b : Nat) (c : Nat) (d : Nat), accepts .pctrl hdr s = true) := by
  and_intros
  · exact ⟨base, 0, by decide +kernel⟩
  · exact ⟨base, by decide +kernel⟩
  · exact ⟨base, hdr0, 0, 0, 0, 0, 0, 0, 0, by decide +kernel⟩
  · exact
        ⟨{ base with log := { base.log with ring := [{ ts := 5, code := 2, source := 3, flags := 0, seq := 0, data0 := 0, data1 := 0, state := 0 }] } },
        hdr0, 5, 2, 3, 0, 0, 0, 0, ⟨_, .head _, rfl, rfl, rfl⟩⟩
  · exact ⟨base, hdr0, 0, 0, 0, 0, by decide +kernel⟩

theorem witness_RailCommandsAreAcknowledged :
    (∃ (s : State) (q : Nat) (i : Nat), s.vcore.slewing = some q ∧ s.vcore.on = true ∧ q < 16) ∧
    (∃ (s : State) (w : Word) (x : RailShape) (i : Nat), frameWhole x = true ∧ vcmdDecoded s = true ∧ w.toNat / 2 ^ 28
      = 1 ∧ (180 < w.toNat % 256 ∨ w.toNat / 2 ^ 16 % 4 = 3) ∧ s.vcore.fallback = false ∧ s.vcore.lastWord ≠ some
      w.toNat) ∧
    (∃ (s : State) (w : Word) (x : RailShape) (i : Nat), frameWhole x = true ∧ vcmdDecoded s = true ∧ w.toNat / 2 ^ 28
      = 1 ∧ w.toNat % 256 ≤ 180 ∧ w.toNat / 2 ^ 16 % 4 ≠ 3 ∧ s.vcore.fallback = false ∧ s.vcore.lastWord ≠ some
      w.toNat ∧ s.vcore.slewing = none ∧ s.vcore.vout ≠ w.toNat % 256) ∧
    (∃ (s : State) (w : Word) (x : RailShape) (i : Nat), frameWhole x = true ∧ vcmdDecoded s = true ∧ w.toNat / 2 ^ 28
      = 2 ∧ s.vcore.fallback = false) ∧
    (∃ (s : State) (w : Word) (x : RailShape) (i : Nat), frameWhole x = true ∧ vcmdDecoded s = true ∧ w.toNat / 2 ^ 28
      = 3 ∧ s.vcore.fallback = false) ∧
    (∃ (s : State) (w : Word) (c : Word) (x : RailShape) (i : Nat), vcmdDecoded s = true ∧ frameTaken w c x = false) := by
  and_intros
  · exact ⟨{ base with vcore := { base.vcore with slewing := some 3, target := 150 } }, 3, 0, by decide +kernel⟩
  · exact ⟨base, 0x100000FF, shape0, 127, by decide +kernel⟩
  · exact ⟨base, 0x1000008D, shape0, 127, by decide +kernel⟩
  · exact ⟨base, 0x23000000, shape0, 0, by decide +kernel⟩
  · exact ⟨base, 0x30000000, shape0, 127, by decide +kernel⟩
  · exact ⟨base, 0, 0xFFFFFFFF, { shape0 with both := true }, 0, by decide +kernel⟩

theorem witness_RailLinkRetriesAndGoverns :
    (∃ (s : State) (w : Nat), s.rail.outstanding = [(w, 3)] ∧ s.rail.linkDown = false) ∧
    (∃ (s : State) (q : Nat), s.rail.outstanding.any (fun c => cmdSeq c.1 = q) = false) ∧
    (∃ (s : State) (w : Nat), s.rail.outstanding = [(w, 4)] ∧ s.rail.linkDown = false) ∧
    (∃ (s : State) (w : Word) (c : Word) (x : RailShape), s.warm.engineUp = true ∧ frameTaken w c x = false) ∧
    (∃ (s : State) (w : Word) (x : RailShape), frameWhole x = true ∧ s.warm.engineUp = true ∧ s.rail.linkDown = true ∧
      loopStates s = false ∧ tfind s.flt.engineBroken 57 = none) ∧
    (∃ (s : State), s.warm.engineUp = true ∧ s.rail.linkDown = false) ∧
    (∃ (s : State), s.vcore.on = true ∧ s.vcore.fallback = false ∧ s.vcore.slewing = none ∧ sevOf 197 s ≤ 1 ∧
      inDrainStates s = false) ∧
    (∃ (s : State) (n : Nat) (slack : Nat) (p : Nat), s.rail.loopOn = true ∧ s.warm.engineUp = true ∧ s.vlt.state =
      .drain ∧ 0 < n ∧ s.rail.outstanding = [] ∧ s.rail.setpoint < 180 ∧ 0 < setting s P.upStep) ∧
    (∃ (s : State) (slack : Nat) (p : Nat), s.rail.loopOn = true ∧ s.warm.engineUp = true ∧ s.vlt.state = .drain ∧
      setting s P.slackDown ≤ slack ∧ 3 ≤ s.rail.calm ∧ s.rail.outstanding = [] ∧ setting s P.vminVault <
      s.rail.setpoint) ∧
    (∃ (s : State) (d : Int), s.warm.engineUp = true ∧ s.rail.engaged + d ≠ 0 ∧ 0 < setting s P.engageStep) := by
  and_intros
  · exact ⟨{ base with rail := { base.rail with outstanding := [(5, 3)] } }, 5, by decide +kernel⟩
  · exact ⟨base, 15, by decide +kernel⟩
  · exact ⟨{ base with rail := { base.rail with outstanding := [(5, 4)] } }, 5, by decide +kernel⟩
  · exact ⟨base, 0, 0, shape0, by decide +kernel⟩
  · refine ⟨{ base with rail := { base.rail with linkDown := true } }, 0x20008C8C, shape0, ?_⟩
    and_intros
    all_goals first
      | decide +kernel
      | exact sound_of (by decide +kernel)
  · exact ⟨base, by decide +kernel⟩
  · exact ⟨base, by decide +kernel⟩
  · exact ⟨{ base with rail := { base.rail with loopOn := true }, vlt := { base.vlt with state := .drain } }, 1, 0, 0,
        by decide +kernel⟩
  · exact
        ⟨{ base with rail := { base.rail with loopOn := true, calm := 3 }, vlt := { base.vlt with state := .drain } },
        1000, 0, by decide +kernel⟩
  · exact ⟨base, 5, by decide +kernel⟩

theorem witness_DomainsFollowGroupsAndFaults :
    (∃ (s : State) (mv : Nat) (i : Nat), s.pwr.seq = .boot ∧ s.pwr.group = 0 ∧ s.pwr.delaying = false ∧ (domAt 11
      s).on = true ∧ hasSupply 11 s = true ∧ inWindow 11 mv s = true ∧ Sound s) ∧
    (∃ (s : State), s.pwr.seq = .boot ∧ s.pwr.delaying = true ∧ s.pwr.group = 0 ∧ (domAt 11 s).good = true ∧ Sound s) ∧
    (∃ (s : State), s.pwr.seq = .boot ∧ s.pwr.delaying = true ∧ s.pwr.group = 2 ∧ (domAt 3 s).good = true ∧ (domAt 4
      s).good = true ∧ Sound s) ∧
    (∃ (s : State) (d : Nat), (d = 8 ∨ d = 9 ∨ d = 10) ∧ (domAt d s).on = true ∧ (domAt d s).good = false ∧ s.pwr.seq
      = .none ∧ sevOf (184 + d) s ≤ 1 ∧ inDrainStates s = false) ∧
    (∃ (s : State) (d : Nat) (mv : Nat), (d = 8 ∨ d = 9 ∨ d = 10) ∧ (domAt d s).on = true ∧ (domAt d s).good = true ∧
      s.pwr.seq = .none ∧ inWindow d mv s = false ∧ sevOf (184 + d) s ≤ 1 ∧ inDrainStates s = false) ∧
    (∃ (s : State), (domAt 6 s).on = true ∧ (domAt 7 s).on = true ∧ (domAt 7 s).good = false ∧ sevOf 196 s ≤ 2 ∧
      escalates 196 s = false ∧ inDrainStates s = false) ∧
    (∃ (s : State), (domAt 6 s).on = false ∧ (domAt 7 s).on = false ∧ (domAt 6 s).falling = true ∧ sevOf 196 s ≤ 1 ∧
      inDrainStates s = false ∧ inFault (srcAt 196 s) = false ∧ (srcAt 196 s).frozen = false ∧ Sound s) ∧
    (∃ (s : State) (d : Nat), (domAt d s).discharging = true ∧ s.pwr.offGroups = []) := by
  and_intros
  · refine ⟨{ base with pwr := { base.pwr with seq := .boot, group := 0 } }, 12000, 0, ?_⟩
    and_intros
    all_goals first
      | decide +kernel
      | exact sound_of (by decide +kernel)
  · refine ⟨{ base with pwr := { base.pwr with seq := .boot, group := 0, delaying := true } }, ?_⟩
    and_intros
    all_goals first
      | decide +kernel
      | exact sound_of (by decide +kernel)
  · refine ⟨{ base with pwr := { base.pwr with seq := .boot, group := 2, delaying := true } }, ?_⟩
    and_intros
    all_goals first
      | decide +kernel
      | exact sound_of (by decide +kernel)
  · exact ⟨{ base with pwr := { base.pwr with doms := base.pwr.doms.set 9 { on := true } } }, 9, by decide +kernel⟩
  · exact ⟨base, 9, 100, by decide +kernel⟩
  · exact ⟨{ base with pwr := { base.pwr with doms := base.pwr.doms.set 7 { on := true } } }, by decide +kernel⟩
  · refine
        ⟨{ base with pwr := { base.pwr with doms := (base.pwr.doms.set 6 { falling := true }).set 7 {} }, drf := { base.drf with active := some calm } },
        ?_⟩
    and_intros
    all_goals first
      | decide +kernel
      | exact sound_of (by decide +kernel)
  · exact ⟨{ base with pwr := { base.pwr with doms := base.pwr.doms.set 9 { discharging := true } } }, 9,
        by decide +kernel⟩

theorem witness_BusFaultsAndShedding :
    (∃ (s : State) (p : Nat) (b : Bool), s.drf.active ≠ none ∧ (domAt 11 s).on = true ∧ p < setting s P.ibusPhases ∧
      (∃ q ∈ healthyPhases s, q ≠ p) ∧ (∀ e ∈ s.pwr.dropped, e.1 ≠ p) ∧ sevOf (166 + p) s ≤ 1) ∧
    (∃ (s : State) (p : Nat) (b : Bool), s.drf.active ≠ none ∧ (domAt 1 s).on = true ∧ p < setting s P.vcorePhases ∧ p
      ∉ s.vcore.dropped ∧ sevOf (178 + p) s ≤ 1 ∧ 320 ≤ (setting s P.vcorePhases - (s.vcore.dropped.length + 1)) *
      setting s P.vcorePhaseImax * 9) ∧
    (∃ (s : State) (i : Nat) (d : Nat) (l : List Nat), (domAt 11 s).on = true ∧ s.pwr.overload = none ∧ busCapability
      s < i ∧ onInShedOrder s = d :: l ∧ (d = 10 → sevOf 174 s ≤ 1) ∧ (d ≠ 10 → sevOf 175 s = 3)) ∧
    (∃ (s : State) (i : Nat) (l : List Nat), s.pwr.overload = some l ∧ i ≤ busCapability s) ∧
    (∃ (s : State) (i : Nat) (l : List Nat), s.pwr.overload = some l ∧ busCapability s < i ∧ (∀ d ∈ onInShedOrder s, d
      ∈ l)) ∧
    (∃ (s : State) (i : Nat) (d : Nat) (l : List Nat) (m : List Nat), s.pwr.overload = some l ∧ busCapability s < i ∧
      onInShedOrder s = d :: m ∧ d ∉ l ∧ d ≠ 10 ∧ (∃ e ∈ l, e ≠ 10)) ∧
    (∃ (s : State) (i : Nat) (d : Nat) (m : List Nat), s.pwr.overload = some [10] ∧ busCapability s < i ∧
      onInShedOrder s = d :: m ∧ d ≠ 10 ∧ sevOf 175 s = 3) ∧
    (∃ (s : State) (mv : Nat), (domAt 11 s).on = true ∧ 100 * mv < 85 * domTarget 11 s ∧ s.vlt.confirming = false ∧
      s.vlt.state = .armed ∧ s.flt.belay = false ∧ s.warm.kind = .none ∧ s.warm.confirmed = none ∧ sevOf 176 s = 3 ∧
      inFault (srcAt 176 s) = false ∧ (srcAt 176 s).frozen = false ∧ shadowed 176 s = false ∧ exercising s = false ∧
      Sound s) ∧
    (∃ (s : State) (mv : Nat), (domAt 11 s).on = true ∧ (domAt 1 s).on = true ∧ 2 * mv < domTarget 11 s) ∧
    (∃ (s : State) (d : Nat) (e : Nat) (l : List Nat), s.pwr.shedding = d :: e :: l ∧ (domAt d s).on = true ∧ (domAt e
      s).on = true ∧ 8 ≤ d ∧ 8 ≤ e ∧ d ≠ e ∧ d ∉ l) ∧
    (∃ (s : State) (d : Nat), s.pwr.shedding = [d] ∧ (domAt d s).on = true ∧ 8 ≤ d) ∧
    (∃ (s : State) (hdr : FrameHdr), accepts .pctrl hdr s = true ∧ s.flt.belay = false ∧ s.vlt.confirming = true ∧
      s.pwr.atHold = false ∧ s.pwr.shedding = [] ∧ onInShedOrder s = [] ∧ s.pwr.seq = .none) ∧
    (∃ (s : State) (hdr : FrameHdr) (d : Nat) (e : Nat) (l : List Nat), accepts .pctrl hdr s = true ∧ s.flt.belay =
      false ∧ s.vlt.confirming = true ∧ s.pwr.atHold = false ∧ s.pwr.shedding = [] ∧ s.pwr.seq = .none ∧ onInShedOrder
      s = d :: e :: l ∧ 8 ≤ d) ∧
    (∃ (s : State), s.pwr.keeper = true ∧ Sound s ∧ (srcAt 164 s).frozen = false) ∧
    (∃ (s : State), s.pwr.keeper = true ∧ s.vin.good = true ∧ s.pwr.huMode = .opened ∧ s.pwr.huChecking = false ∧
      s.flt.stewardHalted = false) ∧
    (∃ (s : State) (f : Bool) (a : Nat), s.pwr.huChecking = true ∧ s.vin.good = true ∧ s.pwr.huMode ≠ .opened ∧ sevOf
      238 s ≤ 1 ∧ inDrainStates s = false) ∧
    (∃ (s : State) (a : Nat), s.pwr.huChecking = true ∧ s.vin.good = true ∧ 100 ≤ a ∧ sevOf 238 s = 4 ∧ s.flt.belay =
      false ∧ inFault (srcAt 238 s) = false ∧ (srcAt 238 s).frozen = false ∧ shadowed 238 s = false ∧ exercising s =
      false ∧ Sound s) ∧
    (∃ (s : State) (f : Bool) (a : Nat), s.pwr.huChecking = true ∧ s.vin.good = true ∧ s.pwr.huMode = .opened ∧ sevOf
      238 s ≤ 1 ∧ inDrainStates s = false) ∧
    (∃ (s : State) (f : Bool) (a : Nat), s.pwr.huChecking = true ∧ s.vin.good = false) ∧
    (∃ (s : State) (a : Nat), s.pwr.huMode = .forced ∧ 500 ≤ a) ∧
    (∃ (s : State) (a : Nat) (g : Bool), s.pwr.huMode = .forced ∧ (a < 500 ∨ g = false) ∧ Sound s ∧ (srcAt 165
      s).frozen = false) ∧
    (∃ (s : State) (a : Nat) (g : Bool), s.pwr.huMode ≠ .forced) ∧
    (∃ (s : State), s.vin.good = false) := by
  and_intros
  · exact
        ⟨{ base with drf := { base.drf with active := some { draft with params := [(P.ibusPhases, 4)] } }, pwr := { base.pwr with dropped := [(1, 2)] } },
        0, true, by decide +kernel⟩
  · exact
        ⟨{ base with drf := { base.drf with active := some { draft with params := [(P.vcorePhases, 4), (P.vcorePhaseImax, 40)] } } },
        3, true, by decide +kernel⟩
  · exact ⟨base, 100000, 8, [9, 10], by decide +kernel⟩
  · exact ⟨{ base with pwr := { base.pwr with overload := some [8] } }, 0, [8], by decide +kernel⟩
  · exact ⟨{ base with pwr := { base.pwr with overload := some [8, 9, 10] } }, 100000, [8, 9, 10], by decide +kernel⟩
  · exact ⟨{ base with pwr := { base.pwr with overload := some [8], doms := (base.pwr.doms.set 8 {}) } }, 100000, 9,
        [8], [10], by decide +kernel⟩
  · exact ⟨{ base with pwr := { base.pwr with overload := some [10] } }, 100000, 8, [9, 10], by decide +kernel⟩
  · refine ⟨base, 0, ?_⟩
    and_intros
    all_goals first
      | decide +kernel
      | exact sound_of (by decide +kernel)
  · exact ⟨base, 0, by decide +kernel⟩
  · exact ⟨{ base with pwr := { base.pwr with shedding := [8, 9] } }, 8, 9, [], by decide +kernel⟩
  · exact ⟨{ base with pwr := { base.pwr with shedding := [10] } }, 10, by decide +kernel⟩
  · exact
        ⟨{ base with vlt := { base.vlt with confirming := true }, pwr := { base.pwr with doms := ((base.pwr.doms.set 8 {}).set 9 {}).set 10 {} } },
        hdr0, by decide +kernel⟩
  · exact ⟨{ base with vlt := { base.vlt with confirming := true } }, hdr0, 8, 9, [10], by decide +kernel⟩
  · refine ⟨base, ?_⟩
    and_intros
    all_goals first
      | decide +kernel
      | exact sound_of (by decide +kernel)
  · refine ⟨base, ?_⟩
    and_intros
    all_goals first
      | decide +kernel
      | exact sound_of (by decide +kernel)
  · refine ⟨{ base with pwr := { base.pwr with huChecking := true, huMode := .closed }, drf := { base.drf with active := some calm } }, true, 100, ?_⟩
    and_intros
    all_goals first
      | decide +kernel
      | exact sound_of (by decide +kernel)
  · refine ⟨{ base with pwr := { base.pwr with huChecking := true }, drf := { base.drf with active := some { draft with faults := draft.faults.map (fun f => { f with sev := 4 }) } } }, 100, ?_⟩
    and_intros
    all_goals first
      | decide +kernel
      | exact sound_of (by decide +kernel)
  · refine ⟨{ base with pwr := { base.pwr with huChecking := true }, drf := { base.drf with active := some calm } }, true, 100, ?_⟩
    and_intros
    all_goals first
      | decide +kernel
      | exact sound_of (by decide +kernel)
  · exact ⟨{ base with pwr := { base.pwr with huChecking := true }, vin := { base.vin with good := false } }, true,
        99, by decide +kernel⟩
  · exact ⟨{ base with pwr := { base.pwr with huMode := .forced } }, 500, by decide +kernel⟩
  · refine ⟨{ base with pwr := { base.pwr with huMode := .forced } }, 0, false, ?_⟩
    and_intros
    all_goals first
      | decide +kernel
      | exact sound_of (by decide +kernel)
  · exact ⟨base, 0, true, by decide +kernel⟩
  · exact ⟨{ base with vin := { base.vin with good := false } }, by decide +kernel⟩

theorem witness_WarmResetBeginsOrWaits :
    (∃ (s : State) (c : Instr), ((∃ us u, c = .warmRstN us u ∧ 10 ≤ us ∧ tfind s.flt.frozen 3 = none) ∨ (c =
      .stewardWarmReset ∧ s.flt.stewardHalted = false) ∨ (∃ m, c = .activate m)) ∧ s.pwr.keeper = true ∧ s.flt.belay =
      false ∧ s.vlt.state = .armed ∧ s.warm.kind = .none) ∧
    (∃ (s : State) (c : Instr), ((∃ us u, c = .warmRstN us u ∧ 10 ≤ us ∧ tfind s.flt.frozen 3 = none) ∧ inVault s =
      true ∨ (c = .stewardWarmReset ∧ s.flt.stewardHalted = false ∧ inVault s = true)) ∧ s.pwr.keeper = true ∧
      s.flt.belay = false) := by
  and_intros
  · refine ⟨base, .warmRstN 10 0, ?_⟩
    and_intros
    all_goals first
      | decide +kernel
      | exact Or.inl ⟨10, 0, rfl, by decide, rfl⟩
  · refine ⟨{ base with vlt := { base.vlt with state := .drain } }, .stewardWarmReset, ?_⟩
    and_intros
    all_goals first
      | decide +kernel
      | exact Or.inr ⟨rfl, rfl, rfl⟩

theorem witness_WarmResetAbandonsSpeculation :
    (∃ (s : State) (c : Instr) (e : Epoch), ((∃ us u, c = .warmRstN us u ∧ 10 ≤ us ∧ tfind s.flt.frozen 3 = none) ∨ (c
      = .stewardWarmReset ∧ s.flt.stewardHalted = false) ∨ (∃ m, c = .activate m) ∨ (c = .stewardWatchdogExpiry ∧
      sevOf 233 s ≤ 1)) ∧ s.pwr.keeper = true ∧ s.flt.belay = false ∧ s.vlt.state = .speculative ∧ s.warm.kind = .none
      ∧ openEpoch s = some e) := by
  refine ⟨{ base with vlt := { base.vlt with state := .speculative }, stg := { base.stg with epochs := [epoch0] } },
      .stewardWarmReset, epoch0, ?_⟩
  and_intros
  all_goals first
    | decide +kernel
    | exact Or.inr (Or.inl ⟨rfl, rfl⟩)

theorem witness_ColdResetAndBoot :
    (∃ (s : State), s.pwr.keeper = true ∧ s.efl.op = none) ∧
    (∃ (s : State) (a : Nat) (b : Nat) (p : Bool) (n : Bool) (q : Bool), s.pwr.keeper = false) ∧
    (∃ (s : State), s.pwr.keeper = true) ∧
    (∃ (s : State) (v : Nat), s.pwr.keeper = true ∧ s.vin.ovp = false ∧ isFrozen 2 s = false ∧ 100 * (setting s
      P.vinWarn + setting s P.vinHyst) < 25 * v ∧ s.flt.belay = false ∧ s.vlt.state = .notArmed ∧ s.pwr.hostOwed =
      false ∧ s.drf.active ≠ none ∧ (domAt 11 s).on = false ∧ s.pwr.seq = .none ∧ Sound s) ∧
    (∃ (s : State) (v : Nat), isFrozen 2 s = false ∧ 25 * v ≤ 100 * (setting s P.vinWarn + setting s P.vinHyst)) := by
  and_intros
  · exact ⟨base, by decide +kernel⟩
  · refine ⟨State.reset, 0, 0, true, true, true, ?_⟩
    and_intros
    all_goals first
      | decide +kernel
      | exact sound_of (by decide +kernel)
  · exact ⟨base, by decide +kernel⟩
  · refine
        ⟨{ base with vlt := { base.vlt with state := .notArmed }, pwr := { base.pwr with doms := List.replicate 12 {} } },
        1900, ?_⟩
    and_intros
    all_goals first
      | decide +kernel
      | exact sound_of (by decide +kernel)
  · exact ⟨base, 0, by decide +kernel⟩

theorem witness_RestoreStatesInOrder :
    (∃ (s : State), mayDiscover s = true ∧ s.restore.keyOk = false ∧ keyUnwraps s = true) ∧
    (∃ (s : State) (b : Bool), mayDiscover s = true ∧ s.restore.keyOk = false ∧ (b = false ∨ keyUnwraps s = false)) ∧
    (∃ (s : State) (u : State) (reads : List PageRead), s.restore.st = .discover ∧ s.restore.keyOk = true ∧
      restoreRuns s = true ∧ s.restore.held = false ∧ discoveryDone s = true ∧ s.mbx.sanitizeOwed = false ∧ s.lcs.st ≠
      .mfg ∧ s.lcs.wiped = false ∧ u = noteReads reads { s with nand :=
      { s.nand with badHeaders := [], badSlots := [] } }) ∧
    (∃ (s : State) (reads : List PageRead), s.restore.st = .discover ∧ s.mbx.sanitizeOwed = true) ∧
    (∃ (s : State) (reads : List PageRead), s.restore.st = .discover ∧ s.restore.keyOk = true ∧ restoreRuns s = true ∧
      s.restore.held = false ∧ discoveryDone s = true ∧ s.mbx.sanitizeOwed = false ∧ (s.lcs.st = .mfg ∨ s.lcs.wiped =
      true)) ∧
    (∃ (s : State) (reads : List PageRead) (r : PageRead), r ∈ reads ∧ headerValid (r.header.map (·.toNat)) = false) ∧
    (∃ (s : State) (reads : List PageRead), (s.restore.st = .verify ∨ s.restore.st = .mapload) ∧ s.restore.mapDone =
      false ∧ restoreRuns s = true ∧ s.warm.structural = false ∧ s.restore.held = false ∧ s.restore.cls = 0) ∧
    (∃ (s : State), s.restore.st = .mapload ∧ s.restore.mapDone = true ∧ s.stg.computed = true ∧ restoreRuns s = true
      ∧ s.cache.waiting = [] ∧ s.stg.heldq = [] ∧ s.chg.phase ≠ .tail ∧ s.cache.map ≠ [] ∧ (∀ e ∈ s.cache.map, e.2.st
      = .restorePending)) ∧
    (∃ (s : State) (u : State) (reads : List PageRead), s.restore.st = .discover ∧ s.restore.keyOk = true ∧
      restoreRuns s = true ∧ s.restore.held = false ∧ discoveryDone s = true ∧ s.mbx.sanitizeOwed = false ∧ s.lcs.st ≠
      .mfg ∧ s.lcs.wiped = false ∧ u = noteReads reads { s with nand :=
      { s.nand with badHeaders := [], badSlots := [] } } ∧ searchFrom s.log.knotPtr u = none) ∧
    (∃ (s : State) (u : State) (reads : List PageRead) (k : KnotRec), s.restore.st = .discover ∧ s.restore.keyOk =
      true ∧ restoreRuns s = true ∧ s.restore.held = false ∧ discoveryDone s = true ∧ s.mbx.sanitizeOwed = false ∧
      s.lcs.st ≠ .mfg ∧ s.lcs.wiped = false ∧ u = noteReads reads { s with nand :=
      { s.nand with badHeaders := [], badSlots := [] } } ∧ searchFrom s.log.knotPtr u = some k) ∧
    (∃ (s : State), s.restore.st = .discover ∧ s.mbx.sanitizeOwed = true ∧ discoveryDone s = false) ∧
    (∃ (s : State), s.restore.st = .discover ∧ s.mbx.sanitizeOwed = true ∧ discoveryDone s = true ∧ s.restore.keyOk =
      true ∧ restoreRuns s = true) := by
  and_intros
  · refine ⟨{ base with lcs := { base.lcs with st := .mfg }, restore := { base.restore with st := .discover, keyOk := false }, vlt := { base.vlt with state := .notArmed } }, ?_⟩
    and_intros
    all_goals first
      | decide +kernel
      | exact sound_of (by decide +kernel)
  · refine ⟨{ base with restore := { base.restore with st := .discover, keyOk := false }, vlt := { base.vlt with state := .notArmed } }, true, ?_⟩
    and_intros
    all_goals first
      | decide +kernel
      | exact sound_of (by decide +kernel)
  · refine ⟨atSearch (nandUp 96), readAll [] (atSearch (nandUp 96)), [], ?_⟩
    and_intros
    all_goals first
      | decide +kernel
      | exact sound_of (by decide +kernel)
      | exact rfl
  · refine ⟨{ (atSearch (nandUp 96)) with mbx := { base.mbx with sanitizeOwed := true } }, [], ?_⟩
    and_intros
    all_goals first
      | decide +kernel
      | exact sound_of (by decide +kernel)
  · refine ⟨{ (atSearch (nandUp 96)) with lcs := { base.lcs with wiped := true } }, [], ?_⟩
    and_intros
    all_goals first
      | decide +kernel
      | exact sound_of (by decide +kernel)
  · exact ⟨base, [{ page := 0, header := [], slots := [] }], { page := 0, header := [], slots := [] },
        by decide +kernel⟩
  · exact
        ⟨{ base with restore := { base.restore with st := .verify, mapDone := false }, vlt := { base.vlt with state := .notArmed } },
        [], by decide +kernel⟩
  · exact
        ⟨{ base with restore := { base.restore with st := .mapload }, vlt := { base.vlt with state := .notArmed }, cache := { base.cache with map := [(0, { st := .restorePending })] } },
        by decide +kernel⟩
  · refine ⟨atSearch (nandUp 96), readAll [] (atSearch (nandUp 96)), [], ?_⟩
    and_intros
    all_goals first
      | decide +kernel
      | exact sound_of (by decide +kernel)
      | exact rfl
  · refine ⟨atSearch knotted, readAll [] (atSearch knotted), [], { knot0 with slot := 32768, slotB := 32772 }, ?_⟩
    and_intros
    all_goals first
      | decide +kernel
      | exact sound_of (by decide +kernel)
      | exact rfl
  · refine ⟨{ (atSearch {}) with mbx := { base.mbx with sanitizeOwed := true } }, ?_⟩
    and_intros
    all_goals first
      | decide +kernel
      | exact sound_of (by decide +kernel)
  · refine ⟨{ (atSearch (nandUp 96)) with mbx := { base.mbx with sanitizeOwed := true } }, ?_⟩
    and_intros
    all_goals first
      | decide +kernel
      | exact sound_of (by decide +kernel)

theorem witness_LoadsBringCopiesBack :
    (∃ (s : State) (g : Nat), loadsRun s = true ∧ nextLoad s = some g) ∧
    (∃ (s : State), (loadsRun s = false ∨ nextLoad s = none)) ∧
    (∃ (s : State) (c : Instr) (g : Nat) (a : CopyRead) (b : CopyRead) (l : Loc), (c = .granuleLoadDone g a b ∧
      s.restore.loading.contains g = true ∨ c = .demandFetchComplete g a b ∧ fetchOf g s ≠ none) ∧ ddrInReset s =
      false ∧ (entryOf g s).st = .restorePending ∧ tfind s.cache.loc g = some l ∧ (∀ f, fetchOf g s = some f →
      f.writes = []) ∧ (inTail s = true → s.stg.heldq = []) ∧ Sound s) ∧
    (∃ (s : State) (g : Nat) (a : CopyRead) (b : CopyRead), (s.restore.loading.contains g = false ∨ ddrInReset s =
      true)) ∧
    (∃ (s : State) (g : Nat) (a : CopyRead) (b : CopyRead), (fetchOf g s = none ∨ ddrInReset s = true)) ∧
    (∃ (s : State) (g : Nat) (a : CopyRead) (b : CopyRead) (f : Fetch) (r : ReadReq) (l : Loc), fetchOf g s = some f ∧
      f.reads = [r] ∧ f.writes = [] ∧ ddrInReset s = false ∧ r.dpa / 4096 = g ∧ (entryOf g s).st = .restorePending ∧
      tfind s.cache.loc g = some l ∧ (inTail s = true → s.stg.heldq = []) ∧ Sound s) ∧
    (∃ (s : State) (u : State) (g : Nat) (a : CopyRead) (b : CopyRead) (f : Fetch) (w : HeldWrite), fetchOf g s = some
      f ∧ f.reads = [] ∧ f.writes = [w] ∧ ddrInReset s = false ∧ w.dpa / 4096 = g ∧ u = loadGranule g a b s ∧ (entryOf
      g u).st ≠ .restorePending ∧ admitting s = true ∧ boltDiscards (boltOf s g) s = false ∧ inTail s = false ∧ (inRes
      (entryOf g u) = true ∨ tget [] s.cache.capq (boltOf s g) = [] ∧ atCap (boltOf s g) u = false ∧ s.stg.heldq = []
      ∧ fits (costOf g u) u = true) ∧ Sound s) ∧
    (∃ (s : State) (g : Nat) (a : CopyRead) (b : CopyRead) (f : Fetch) (r : ReadReq), fetchOf g s = some f ∧ f.reads =
      [r] ∧ f.writes = [] ∧ ddrInReset s = false ∧ r.dpa / 4096 = g ∧ (entryOf g s).st = .clean ∧ poisoned g (r.dpa %
      4096 / 64) s = false ∧ (inTail s = true → s.stg.heldq = [])) ∧
    (∃ (s : State) (n : Nat) (d : Discovered), s.warm.engineUp = true ∧ s.drf.engineReady = true ∧ d.target / 8 = n ∧
      Sound s ∧ declared d.target s = true ∧ s.flt.belay = false ∧ (targetAt d.target s).ready = false ∧ (targetAt
      d.target s).permanent = false ∧ identified d s = true ∧ d.trained = true ∧ hasRoot d s = true) ∧
    (∃ (s : State) (n : Nat), s.warm.engineUp = true ∧ s.drf.engineReady = true ∧ (∃ g, g / 8 = n ∧ declared g s =
      true) ∧ Sound s) ∧
    (∃ (s : State) (n : Nat) (l : List Discovered), (s.warm.engineUp = false ∨ s.drf.engineReady = false)) ∧
    (∃ (s : State) (c : Instr) (g : Nat) (a : CopyRead) (b : CopyRead) (l : Loc) (x : List Host.Cell × BitVec 64), (c
      = .granuleLoadDone g a b ∧ s.restore.loading.contains g = true ∨ c = .demandFetchComplete g a b ∧ fetchOf g s ≠
      none) ∧ ddrInReset s = false ∧ (entryOf g s).st = .restorePending ∧ tfind s.cache.loc g = some l ∧ (∀ f, fetchOf
      g s = some f → f.writes = []) ∧ (inTail s = true → s.stg.heldq = []) ∧ Sound s ∧ c = .demandFetchComplete g a b
      ∧ readCopy l.a a s = some x) ∧
    (∃ (s : State) (c : Instr) (g : Nat) (a : CopyRead) (b : CopyRead) (l : Loc), (c = .granuleLoadDone g a b ∧
      s.restore.loading.contains g = true ∨ c = .demandFetchComplete g a b ∧ fetchOf g s ≠ none) ∧ ddrInReset s =
      false ∧ (entryOf g s).st = .restorePending ∧ tfind s.cache.loc g = some l ∧ (∀ f, fetchOf g s = some f →
      f.writes = []) ∧ (inTail s = true → s.stg.heldq = []) ∧ Sound s ∧ readCopy l.a a s = none ∧ slotB l = none) ∧
    (∃ (s : State) (g : Nat) (a : CopyRead) (b : CopyRead) (f : Fetch) (r : ReadReq) (l : Loc) (x : List Host.Cell ×
      BitVec 64), fetchOf g s = some f ∧ f.reads = [r] ∧ f.writes = [] ∧ ddrInReset s = false ∧ r.dpa / 4096 = g ∧
      (entryOf g s).st = .restorePending ∧ tfind s.cache.loc g = some l ∧ (inTail s = true → s.stg.heldq = []) ∧ Sound
      s ∧ readCopy l.a a s = some x ∧ poisoned g (r.dpa % 4096 / 64) s = false ∧ x.2.getLsbD (r.dpa % 4096 / 64) =
      false) ∧
    (∃ (s : State) (g : Nat) (a : CopyRead) (b : CopyRead) (f : Fetch) (r : ReadReq) (l : Loc), fetchOf g s = some f ∧
      f.reads = [r] ∧ f.writes = [] ∧ ddrInReset s = false ∧ r.dpa / 4096 = g ∧ (entryOf g s).st = .restorePending ∧
      tfind s.cache.loc g = some l ∧ (inTail s = true → s.stg.heldq = []) ∧ Sound s ∧ readCopy l.a a s = none ∧ slotB
      l = none) := by
  and_intros
  · exact
        ⟨{ base with restore := { base.restore with st := .lazy }, cache := { base.cache with map := [(0, { st := .restorePending })] } },
        0, by decide +kernel⟩
  · refine ⟨base, ?_⟩
    and_intros
    all_goals first
      | decide +kernel
      | exact sound_of (by decide +kernel)
  · refine ⟨loading copyA withA [], .granuleLoadDone 0 .decodes .decodes, 0, .decodes, .decodes, copyA, ?_⟩
    and_intros
    all_goals first
      | decide +kernel
      | exact sound_of (by decide +kernel)
      | exact Or.inl ⟨rfl, by decide +kernel⟩
      | exact Or.inr ⟨rfl, by decide +kernel⟩
      | exact fun f h => by cases h <;> rfl
      | exact fun f h => by cases h
      | exact (fun h => by cases h)
      | exact rfl
  · refine ⟨base, 0, .decodes, .decodes, ?_⟩
    and_intros
    all_goals first
      | decide +kernel
      | exact sound_of (by decide +kernel)
  · refine ⟨base, 0, .decodes, .decodes, ?_⟩
    and_intros
    all_goals first
      | decide +kernel
      | exact sound_of (by decide +kernel)
  · refine ⟨loading copyA withA ([{ granule := 0, reads := [{ tag := 7, dpa := 64, burst := .good, a := .decodes, b := .decodes }], writes := [] }]), 0, .decodes, .decodes, { granule := 0, reads := [{ tag := 7, dpa := 64, burst := .good, a := .decodes, b := .decodes }], writes := [] }, { tag := 7, dpa := 64, burst := .good, a := .decodes, b := .decodes }, copyA, ?_⟩
    and_intros
    all_goals first
      | decide +kernel
      | exact sound_of (by decide +kernel)
      | exact Or.inl ⟨rfl, by decide +kernel⟩
      | exact Or.inr ⟨rfl, by decide +kernel⟩
      | exact fun f h => by cases h <;> rfl
      | exact fun f h => by cases h
      | exact (fun h => by cases h)
      | exact rfl
  · refine ⟨loading copyA withA ([{ granule := 0, reads := [], writes := [held0] }]), loadGranule 0 .decodes .decodes (loading copyA withA ([{ granule := 0, reads := [], writes := [held0] }])), 0, .decodes, .decodes, { granule := 0, reads := [], writes := [held0] }, held0, ?_⟩
    and_intros
    all_goals first
      | decide +kernel
      | exact sound_of (by decide +kernel)
      | exact Or.inl ⟨rfl, by decide +kernel⟩
      | exact Or.inr ⟨rfl, by decide +kernel⟩
      | exact fun f h => by cases h <;> rfl
      | exact fun f h => by cases h
      | exact (fun h => by cases h)
      | exact rfl
  · refine ⟨{ base with cache := { base.cache with fetches := [fetch0], map := [(0, { st := .clean })] } }, 0, .decodes, .decodes, fetch0, { tag := 7, dpa := 64, burst := .good, a := .decodes, b := .decodes }, ?_⟩
    and_intros
    all_goals first
      | decide +kernel
      | exact sound_of (by decide +kernel)
      | exact Or.inl ⟨rfl, by decide +kernel⟩
      | exact Or.inr ⟨rfl, by decide +kernel⟩
      | exact fun f h => by cases h <;> rfl
      | exact fun f h => by cases h
      | exact (fun h => by cases h)
      | exact rfl
  · refine ⟨base, 0, disc0, ?_⟩
    and_intros
    all_goals first
      | decide +kernel
      | exact sound_of (by decide +kernel)
  · refine ⟨base, 0, ?_⟩
    and_intros
    all_goals first
      | decide +kernel
      | exact sound_of (by decide +kernel)
      | exact ⟨0, by decide +kernel⟩
  · refine ⟨{ base with drf := { base.drf with engineReady := false } }, 0, [], ?_⟩
    and_intros
    all_goals first
      | decide +kernel
      | exact sound_of (by decide +kernel)
  · refine ⟨loading copyA withA ([{ granule := 0, reads := [{ tag := 7, dpa := 64, burst := .good, a := .decodes, b := .decodes }], writes := [] }]), .demandFetchComplete 0 .decodes .decodes, 0, .decodes, .decodes, copyA, ([], 0), ?_⟩
    and_intros
    all_goals first
      | decide +kernel
      | exact sound_of (by decide +kernel)
      | exact Or.inl ⟨rfl, by decide +kernel⟩
      | exact Or.inr ⟨rfl, by decide +kernel⟩
      | exact fun f h => by cases h <;> rfl
      | exact fun f h => by cases h
      | exact (fun h => by cases h)
      | exact rfl
  · refine ⟨loading copyA withA [], .granuleLoadDone 0 .uncorrectable .decodes, 0, .uncorrectable, .decodes, copyA, ?_⟩
    and_intros
    all_goals first
      | decide +kernel
      | exact sound_of (by decide +kernel)
      | exact Or.inl ⟨rfl, by decide +kernel⟩
      | exact Or.inr ⟨rfl, by decide +kernel⟩
      | exact fun f h => by cases h <;> rfl
      | exact fun f h => by cases h
      | exact (fun h => by cases h)
      | exact rfl
  · refine ⟨loading copyA withA ([{ granule := 0, reads := [{ tag := 7, dpa := 64, burst := .good, a := .decodes, b := .decodes }], writes := [] }]), 0, .decodes, .decodes, { granule := 0, reads := [{ tag := 7, dpa := 64, burst := .good, a := .decodes, b := .decodes }], writes := [] }, { tag := 7, dpa := 64, burst := .good, a := .decodes, b := .decodes }, copyA, ([], 0), ?_⟩
    and_intros
    all_goals first
      | decide +kernel
      | exact sound_of (by decide +kernel)
      | exact Or.inl ⟨rfl, by decide +kernel⟩
      | exact Or.inr ⟨rfl, by decide +kernel⟩
      | exact fun f h => by cases h <;> rfl
      | exact fun f h => by cases h
      | exact (fun h => by cases h)
      | exact rfl
  · refine ⟨loading copyA withA ([{ granule := 0, reads := [{ tag := 7, dpa := 64, burst := .good, a := .decodes, b := .decodes }], writes := [] }]), 0, .uncorrectable, .decodes, { granule := 0, reads := [{ tag := 7, dpa := 64, burst := .good, a := .decodes, b := .decodes }], writes := [] }, { tag := 7, dpa := 64, burst := .good, a := .decodes, b := .decodes }, copyA, ?_⟩
    and_intros
    all_goals first
      | decide +kernel
      | exact sound_of (by decide +kernel)
      | exact Or.inl ⟨rfl, by decide +kernel⟩
      | exact Or.inr ⟨rfl, by decide +kernel⟩
      | exact fun f h => by cases h <;> rfl
      | exact fun f h => by cases h
      | exact (fun h => by cases h)
      | exact rfl

theorem witness_CellsChargeAndExercise :
    (∃ (s : State) (cells : List CellRead) (mv : Nat) (bad : List Nat), s.pwr.keeper = true ∧ s.drf.active ≠ none ∧ (∀
      n ∈ [202, 203, 204, 205, 208, 211], sevOf n s ≤ 1)) ∧
    (∃ (s : State), s.chg.st = .cv ∧ cellsApart s = false) ∧
    (∃ (s : State), s.chg.st = .cv ∧ cellsApart s = true) ∧
    (∃ (s : State), s.chg.st ≠ .cv) ∧
    (∃ (s : State), charging s = true ∧ sevOf 206 s ≤ 1 ∧ inDrainStates s = false) ∧
    (∃ (s : State), charging s = false) ∧
    (∃ (s : State), s.chg.probe = true) ∧
    (∃ (s : State), s.chg.probe = false ∧ charging s = true ∧ chargeAllowed s = true ∧ s.chg.step < 4) ∧
    (∃ (s : State), s.chg.probe = false ∧ charging s = true ∧ chargeAllowed s = false) ∧
    (∃ (s : State), s.chg.probe = false ∧ (charging s = false ∨ chargeAllowed s = true ∧ 4 ≤ s.chg.step)) ∧
    (∃ (s : State), exerciseDue s = true ∧ s.chg.phase = .idle ∧ hourPassed s = true ∧ restTemps s = true ∧ storeFault
      s = false ∧ s.vlt.state = .armed ∧ s.restore.st = .complete) ∧
    (∃ (s : State), (exerciseDue s = false ∨ s.chg.phase ≠ .idle ∨ s.vin.good = false ∨ now s < s.vin.goodAt +
      3600000000000 ∨ (∀ x, s.gau.fullAt = some x → x + 3600000000000 < now s) ∨ restTemps s = false ∨ storeFault s =
      true ∨ s.vlt.state ≠ .armed ∨ s.restore.st ≠ .complete)) ∧
    (∃ (s : State), s.pwr.keeper = true ∧ s.chg.phase = .sealWait) ∧
    (∃ (s : State), s.pwr.keeper = true ∧ s.chg.phase = .discharge) ∧
    (∃ (s : State) (c : Instr), (c = .exerciseGrant false ∧ s.pwr.keeper = true ∧ exercising s = true ∨ c =
      .exerGrantWaitExpiry ∧ s.chg.phase = .sealWait) ∧ sevOf 208 s ≤ 1 ∧ inDrainStates s = false ∧ Sound s) ∧
    (∃ (s : State), s.chg.phase = .tail ∧ corrected s ≤ 10 * storeNat (·.emptyMv) s) ∧
    (∃ (s : State), (s.chg.phase ≠ .tail ∨ 10 * storeNat (·.emptyMv) s < corrected s)) ∧
    (∃ (s : State), s.chg.phase ≠ .sealWait) ∧
    (∃ (s : State), exercising s = true ∧ s.pwr.keeper = true ∧ sevOf 208 s ≤ 1 ∧ inDrainStates s = false) := by
  and_intros
  · exact ⟨base, [], 0, [], by decide +kernel⟩
  · exact ⟨base, by decide +kernel⟩
  · exact ⟨{ base with cell := { base.cell with v := (List.replicate 12 38000).set 3 30000 } }, by decide +kernel⟩
  · refine ⟨{ base with chg := { base.chg with st := .off } }, ?_⟩
    and_intros
    all_goals first
      | decide +kernel
      | exact sound_of (by decide +kernel)
  · exact ⟨base, by decide +kernel⟩
  · refine ⟨{ base with chg := { base.chg with st := .off } }, ?_⟩
    and_intros
    all_goals first
      | decide +kernel
      | exact sound_of (by decide +kernel)
  · exact ⟨{ base with chg := { base.chg with probe := true } }, by decide +kernel⟩
  · refine ⟨{ base with thm := { base.thm with sensors := sensorsAt 400 } }, ?_⟩
    and_intros
    all_goals first
      | decide +kernel
      | exact sound_of (by decide +kernel)
  · refine ⟨{ base with vin := { base.vin with good := false } }, ?_⟩
    and_intros
    all_goals first
      | decide +kernel
      | exact sound_of (by decide +kernel)
  · refine ⟨{ base with chg := { base.chg with st := .off } }, ?_⟩
    and_intros
    all_goals first
      | decide +kernel
      | exact sound_of (by decide +kernel)
  · exact
        ⟨{ base with chg := { base.chg with exerWanted := true, st := .terminated }, gau := { base.gau with fullAt := some (2 ^ 43 - 3600000000000) }, tbs := { base.tbs with now := 2 ^ 43 }, vin := { base.vin with goodAt := 2 ^ 43 - 3600000000000 }, thm := { base.thm with sensors := sensorsAt 400 } },
        by decide +kernel⟩
  · exact ⟨base, Or.inl (by decide +kernel)⟩
  · exact ⟨{ base with chg := { base.chg with phase := .sealWait } }, by decide +kernel⟩
  · exact ⟨{ base with chg := { base.chg with phase := .discharge } }, by decide +kernel⟩
  · refine ⟨{ base with chg := { base.chg with phase := .sealWait } }, .exerGrantWaitExpiry, ?_⟩
    and_intros
    all_goals first
      | decide +kernel
      | exact sound_of (by decide +kernel)
      | exact Or.inr ⟨rfl, by decide +kernel⟩
  · exact
        ⟨{ base with chg := { base.chg with phase := .tail, st := .reverse }, cell := { base.cell with v := List.replicate 12 22000 } },
        by decide +kernel⟩
  · refine ⟨base, ?_⟩
    and_intros
    all_goals first
      | decide +kernel
      | exact sound_of (by decide +kernel)
  · refine ⟨base, ?_⟩
    and_intros
    all_goals first
      | decide +kernel
      | exact sound_of (by decide +kernel)
  · refine ⟨{ base with chg := { base.chg with phase := .tail } }, ?_⟩
    and_intros
    all_goals first
      | decide +kernel
      | exact sound_of (by decide +kernel)

theorem witness_ImpedanceAndGauge :
    (∃ (s : State) (x : StepSample), s.pwr.keeper = true ∧ s.drf.active ≠ none ∧ x.clean = true ∧ 50 ≤
      x.dMilliAmp.natAbs ∧ 0 < (rfac (tStoreMean s) s).1) ∧
    (∃ (s : State) (x : StepSample), (x.clean = false ∨ x.dMilliAmp.natAbs < 50)) ∧
    (∃ (s : State), s.pwr.keeper = true ∧ s.drf.active ≠ none ∧ impOld s = true ∧ charging s = false ∧ chargeAllowed s
      = true) ∧
    (∃ (s : State) (d : Int) (c : Int), s.pwr.keeper = true ∧ s.drf.active ≠ none ∧ sevOf 210 s ≤ 1 ∧ sevOf 211 s ≤ 1) ∧
    (∃ (s : State), s.pwr.keeper = true ∧ s.drf.active ≠ none ∧ fastClass s = false ∧ normalClass s = false) ∧
    (∃ (s : State), s.pwr.keeper = true ∧ setting s P.profile = 1 ∧ s.gau.current.natAbs < setting s P.iQuiet ∧
      charging s = false ∧ s.chg.st ≠ .reverse ∧ restTemps s = true ∧ restUsable s = true ∧ s.gau.rest = none) ∧
    (∃ (s : State) (d : Nat), d ≠ 0) ∧
    (∃ (s : State), s.pwr.keeper = true ∧ s.drf.active ≠ none ∧ s.gau.days < setting s P.learnOverdue ∧ s.gau.days <
      65535) ∧
    (∃ (s : State), s.thm.dayCount ≠ 0) ∧
    (∃ (s : State), s.pwr.keeper = true ∧ s.drf.active ≠ none ∧ setting s P.learnOverdue ≤ s.gau.days ∧ Sound s ∧
      s.gau.days < 65535 ∧ sevOf 209 s ≤ 1 ∧ (srcAt 209 s).frozen = false) := by
  and_intros
  · exact ⟨base, step0, by decide +kernel⟩
  · exact ⟨base, { step0 with clean := false }, by decide +kernel⟩
  · exact
        ⟨{ base with chg := { base.chg with st := .off }, gau := { base.gau with resist := [] }, tbs := { base.tbs with now := 2 ^ 62 }, vin := { base.vin with good := true }, thm := { base.thm with sensors := sensorsAt 400 } },
        by decide +kernel⟩
  · exact ⟨base, (0 : Int), (0 : Int), by decide +kernel⟩
  · exact ⟨{ base with chg := { base.chg with st := .off }, gau := { base.gau with soc := 1000 } }, by decide +kernel⟩
  · exact ⟨{ base with chg := { base.chg with st := .off }, thm := { base.thm with sensors := sensorsAt 400 } },
        by decide +kernel⟩
  · exact ⟨base, 1, by decide +kernel⟩
  · exact ⟨base, by decide +kernel⟩
  · exact ⟨{ base with thm := { base.thm with dayCount := 1 } }, by decide +kernel⟩
  · refine ⟨{ base with gau := { base.gau with days := 1000 } }, ?_⟩
    and_intros
    all_goals first
      | decide +kernel
      | exact sound_of (by decide +kernel)

theorem witness_SensorsAreSampledAndBreak :
    (∃ (s : State) (n : Nat) (x : SensorRead) (r : Int), s.pwr.keeper = true ∧ sampleArrives n s = true ∧ (x = .temp r
      ∨ (∃ o, x = .ohms o ∧ thermReading n o s = some (r, true))) ∧ inRangeTemp r = true ∧ Sound s) ∧
    (∃ (s : State) (n : Nat) (x : SensorRead), s.pwr.keeper = true ∧ sampleArrives n s = true ∧ (sensorAt n
      s).outRange = 2 ∧ ((∃ r, x = .temp r ∧ inRangeTemp r = false) ∨ (∃ o r b, x = .ohms o ∧ thermReading n o s =
      some (r, b) ∧ (b = false ∨ inRangeTemp r = false))) ∧ Sound s) ∧
    (∃ (s : State) (n : Nat), s.pwr.keeper = true ∧ sampleArrives n s = true ∧ Sound s) ∧
    (∃ (s : State) (n : Nat), s.pwr.keeper = true ∧ (sensorAt n s).broken = true ∧ (sensorAt n s).locked = false ∧
      (sensorAt n s).seen = true ∧ (sensorAt n s).outRange = 0 ∧ offFrom n (sensorAt n s).temp s = [] ∧ Sound s) ∧
    (∃ (s : State), s.pwr.keeper = true ∧ 3 ≤ (zoneReadings 3 s).length) ∧
    (∃ (s : State), s.pwr.keeper = true ∧ (zoneReadings 3 s).length < 3 ∧ Sound s ∧ (srcAt 225 s).frozen = false) ∧
    (∃ (s : State) (n : Nat), s.pwr.keeper = true ∧ sampleArrives n s = true ∧ n < 12 ∧ othersArrive n s = true ∧
      Sound s) := by
  and_intros
  · refine ⟨base, 0, .temp 0, (0 : Int), ?_⟩
    and_intros
    all_goals first
      | decide +kernel
      | exact Or.inl rfl
      | exact sound_of (by decide +kernel)
  · refine ⟨{ base with thm := { base.thm with sensors := [(3, { outRange := 2 })] } }, 3, .temp 2801, ?_⟩
    and_intros
    all_goals first
      | decide +kernel
      | exact Or.inl ⟨2801, rfl, by decide +kernel⟩
      | exact sound_of (by decide +kernel)
  · refine ⟨base, 0, ?_⟩
    and_intros
    all_goals first
      | decide +kernel
      | exact sound_of (by decide +kernel)
  · refine
        ⟨{ base with thm := { base.thm with sensors := [(20, { seen := true, broken := true, temp := 400, cause := 1 })] } },
        20, ?_⟩
    and_intros
    all_goals first
      | decide +kernel
      | exact sound_of (by decide +kernel)
  · exact ⟨{ base with thm := { base.thm with sensors := sensorsAt 400 } }, by decide +kernel⟩
  · refine ⟨base, ?_⟩
    and_intros
    all_goals first
      | decide +kernel
      | exact sound_of (by decide +kernel)
  · refine ⟨{ base with thm := { base.thm with sensors := [(1, { seen := true })] } }, 0, ?_⟩
    and_intros
    all_goals first
      | decide +kernel
      | exact sound_of (by decide +kernel)

theorem witness_ZonesFollowThresholds :
    (∃ (s : State) (z : Nat) (w : Int) (a : Option Int) (b : Option Int), s.pwr.keeper = true ∧ zoneLimits z s = some
      (w, a, b) ∧ z < 5 ∧ heldLong z s = true ∧ Sound s) ∧
    (∃ (s : State) (z : Nat) (n : Nat) (r : Int), s.pwr.keeper = true ∧ s.drf.active ≠ none ∧ (z = 0 ∨ z = 3) ∧
      sensorZone n s = some z ∧ n ∈ rateSensors s ∧ riseOf n s = some r ∧ 16 * (setting s P.dieRateMax : Int) < r ∧ (∀
      m ∈ rateSensors s, sensorZone m s ≠ some z → (riseOf m s).all (fun x => decide (x ≤ 16 * (setting s P.dieRateMax
      : Int))) = true) ∧ Sound s) ∧
    (∃ (s : State) (r : Int), s.pwr.keeper = true ∧ s.drf.active ≠ none ∧ storeRise s = some r ∧ 16 * (setting s
      P.storeRateMax : Int) < r ∧ charging s = true) ∧
    (∃ (s : State), (∀ r, storeRise s = some r → r < 16 * (setting s P.storeRateMax : Int)) ∧ s.chg.rateStop = false) ∧
    (∃ (s : State), (domAt 2 s).good = true ∧ s.flt.analogTrip = false ∧ Sound s) ∧
    (∃ (s : State), (domAt 2 s).good = true ∧ s.flt.analogTrip = true ∧ Sound s ∧ (pairAt .belaye s).frozen = false ∧
      (∀ n ∈ s.flt.engineLive, n = 64) ∧ tfind s.flt.engineBroken 64 = none) ∧
    (∃ (s : State) (t : Int), s.pwr.keeper = true ∧ s.thm.stage1 = false ∧ zoneMax 3 s = some t ∧ 2320 ≤ t ∧ sevOf 227
      s = 4 ∧ inFault (srcAt 227 s) = false ∧ (srcAt 227 s).frozen = false ∧ shadowed 227 s = false ∧ exercising s =
      false ∧ s.flt.belay = false ∧ Sound s) ∧
    (∃ (s : State), s.pwr.keeper = true ∧ s.thm.stage2Tripped = false ∧ sevOf 228 s = 4 ∧ inFault (srcAt 228 s) =
      false ∧ (srcAt 228 s).frozen = false ∧ shadowed 228 s = false ∧ exercising s = false ∧ s.flt.belay = false ∧
      Sound s) ∧
    (∃ (s : State), s.pwr.keeper = true) ∧
    (∃ (s : State) (t : Int), s.pwr.keeper = true ∧ (s.thm.stage1 = true ∨ s.thm.stage2 = true) ∧ s.thm.stage2Tripped
      = false ∧ zoneMax 3 s = some t ∧ t < 1920) ∧
    (∃ (s : State) (z : Nat) (w : Int) (a : Option Int) (b : Option Int), s.pwr.keeper = true ∧ zoneLimits z s = some
      (w, a, b) ∧ z < 5 ∧ heldLong z s = true ∧ Sound s ∧ (zoneAt z s).warn = true ∧ belowHyst z (some w) s = true) ∧
    (∃ (s : State) (z : Nat) (w : Int) (a : Option Int) (b : Option Int), s.pwr.keeper = true ∧ zoneLimits z s = some
      (w, a, b) ∧ z < 5 ∧ heldLong z s = true ∧ Sound s ∧ (zoneAt z s).throttle = true ∧ (zoneAt z s).rate = false ∧
      belowHyst z a s = true) ∧
    (∃ (s : State) (z : Nat) (w : Int) (a : Option Int) (b : Option Int), s.pwr.keeper = true ∧ zoneLimits z s = some
      (w, a, b) ∧ z < 5 ∧ heldLong z s = true ∧ Sound s ∧ (zoneAt z s).vault = true ∧ belowHyst z b s = true) ∧
    (∃ (s : State) (z : Nat) (w : Int) (a : Option Int) (b : Option Int), s.pwr.keeper = true ∧ zoneLimits z s = some
      (w, a, b) ∧ z < 5 ∧ heldLong z s = true ∧ Sound s ∧ (zoneAt z s).rate = true) := by
  and_intros
  · refine
        ⟨{ base with thm := { base.thm with zones := base.thm.zones.map (fun z => { z with warn := true }), sensors := sensorsAt 400 } },
        0, 1520, (some 1680), (some 1840), ?_⟩
    and_intros
    all_goals first
      | decide +kernel
      | exact sound_of (by decide +kernel)
  · refine
        ⟨{ base with thm := { base.thm with sensors := (List.range 26).map (fun n => (n, { temp := 2400, seen := true, hist := if n = 0 then List.replicate 10 0 else [] })) } },
        0, 0, 2400, ?_⟩
    and_intros
    all_goals first
      | decide +kernel
      | exact sound_of (by decide +kernel)
  · exact
        ⟨{ base with thm := { base.thm with sensors := sensorsAt 2000, storeHist := [(0, 0)] }, tbs := { base.tbs with now := 600 * 10 ^ 9 } },
        2000, by decide +kernel⟩
  · refine ⟨base, ?_⟩
    and_intros
    all_goals first
      | decide +kernel
      | exact (fun r h => by rw [show storeRise base = none by decide +kernel] at h; cases h)
  · refine ⟨base, ?_⟩
    and_intros
    all_goals first
      | decide +kernel
      | exact sound_of (by decide +kernel)
  · refine ⟨{ base with flt := { base.flt with analogTrip := true } }, ?_⟩
    and_intros
    all_goals first
      | decide +kernel
      | exact sound_of (by decide +kernel)
  · refine ⟨{ base with thm := { base.thm with sensors := sensorsAt 2400 } }, 2400, ?_⟩
    and_intros
    all_goals first
      | decide +kernel
      | exact sound_of (by decide +kernel)
  · refine ⟨base, ?_⟩
    and_intros
    all_goals first
      | decide +kernel
      | exact sound_of (by decide +kernel)
  · exact ⟨base, by decide +kernel⟩
  · exact
        ⟨{ base with thm := { base.thm with sensors := sensorsAt 400, stage1 := true }, flt := { base.flt with belay := true } },
        400, by decide +kernel⟩
  · refine
        ⟨{ base with thm := { base.thm with zones := base.thm.zones.map (fun z => { z with warn := true }), sensors := sensorsAt 400 } },
        0, 1520, (some 1680), (some 1840), ?_⟩
    and_intros
    all_goals first
      | decide +kernel
      | exact sound_of (by decide +kernel)
  · refine
        ⟨{ base with thm := { base.thm with zones := base.thm.zones.map (fun z => { z with throttle := true }), sensors := sensorsAt 400 } },
        0, 1520, (some 1680), (some 1840), ?_⟩
    and_intros
    all_goals first
      | decide +kernel
      | exact sound_of (by decide +kernel)
  · refine
        ⟨{ base with thm := { base.thm with zones := base.thm.zones.map (fun z => { z with vault := true }), sensors := sensorsAt 400 } },
        0, 1520, (some 1680), (some 1840), ?_⟩
    and_intros
    all_goals first
      | decide +kernel
      | exact sound_of (by decide +kernel)
  · refine
        ⟨{ base with thm := { base.thm with zones := base.thm.zones.map (fun z => { z with rate := true, throttle := true }), sensors := sensorsAt 400 } },
        0, 1520, (some 1680), (some 1840), ?_⟩
    and_intros
    all_goals first
      | decide +kernel
      | exact sound_of (by decide +kernel)

theorem witness_DraftsAreJudgedAndStreamed :
    (∃ (s : State) (m : Master), candidateFree s = true ∧ sevOf 232 s ≤ 1 ∧ inDrainStates s = false) ∧
    (∃ (s : State) (m : Master), candidateFree s = true ∧ refusal .steward false (submitAt s) false 0 s = 0) ∧
    (∃ (s : State) (m : Master), candidateFree s = true ∧ (∀ i < 8, refusal .steward false ((blockOfWord (slotBase
      (candSlot s)) + i) * 1024) true 0 s = 0)) ∧
    (∃ (s : State) (m : Master) (x : DWord), candidateFree s = true ∧ s.drf.candOfs % 8 = 0 ∧ s.drf.candOfs ≤ 65520 ∧
      refusal .steward false (slotBase (candSlot s) + s.drf.candOfs / 8) false x.toNat s = 0) ∧
    (∃ (s : State) (m : Master) (x : DWord), candidateFree s = true ∧ (s.drf.candOfs % 8 ≠ 0 ∨ 65520 < s.drf.candOfs)) ∧
    (∃ (s : State) (hdr : FrameHdr) (o : Nat) (l : List Byte), accepts .engine hdr s = true ∧ Sound s) ∧
    (∃ (s : State) (hdr : FrameHdr) (d : Draft) (ty : Nat) (o : Nat) (n : Nat) (crc : Word), accepts .pctrl hdr s =
      true ∧ s.drf.active = some d ∧ d.engine = [(ty, o, n, crc.toNat)] ∧ s.drf.stream = .streaming) ∧
    (∃ (s : State) (hdr : FrameHdr) (d : Draft) (ty : Nat) (o : Nat) (n : Nat) (k : Nat) (crc : Word), accepts .pctrl
      hdr s = true ∧ s.drf.active = some d ∧ d.engine = [(ty, o, n, k)] ∧ crc.toNat ≠ k ∧ s.drf.stream = .streaming ∧
      tget 0 s.drf.fails ty = 2 ∧ sevOf 198 s ≤ 1 ∧ inDrainStates s = false) ∧
    (∃ (s : State) (d : Draft), s.pwr.keeper = true ∧ s.drf.stream = .failed ∧ s.drf.active = some d) := by
  and_intros
  · refine ⟨{ base with drf := { base.drf with active := some calm } }, .steward, ?_⟩
    and_intros
    all_goals first
      | decide +kernel
      | exact sound_of (by decide +kernel)
  · exact
        ⟨{ base with efl := { base.efl with words := [(submitAt base, { programs := 0 })], wp := 0 } },
        .host, by decide +kernel⟩
  · exact ⟨{ base with efl := { base.efl with wp := 0 }, thm := { base.thm with sensors := sensorsAt 400 } }, .host,
        by decide +kernel⟩
  · exact
        ⟨{ base with drf := { base.drf with candOfs := 65520 }, thm := { base.thm with sensors := sensorsAt 400 }, efl := { base.efl with wp := 0, words := [(slotBase (candSlot base) + 8190, { programs := 0 })] } },
        .host, 0, by decide +kernel⟩
  · exact ⟨{ base with drf := { base.drf with candOfs := 65528 } }, .host, 0, by decide +kernel⟩
  · refine ⟨base, hdr0, 224, [1, 2], ?_⟩
    and_intros
    all_goals first
      | decide +kernel
      | exact sound_of (by decide +kernel)
  · exact
        ⟨{ base with drf := { base.drf with active := some { draft with engine := [(1, 224, 56, 77)] }, stream := .streaming } },
        hdr0, { draft with engine := [(1, 224, 56, 77)] }, 1, 224, 56, 77, by decide +kernel⟩
  · exact
        ⟨{ base with drf := { base.drf with active := some { draft with engine := [(1, 224, 56, 77)] }, stream := .streaming, fails := [(1, 2)] } },
        hdr0, { draft with engine := [(1, 224, 56, 77)] }, 1, 224, 56, 77, 78, by decide +kernel⟩
  · exact ⟨{ base with drf := { base.drf with stream := .failed } }, draft, by decide +kernel⟩

theorem witness_FlashOperationsRun :
    (∃ (s : State) (m : Master) (w : Nat), s.pwr.keeper = true ∧ eflTarget s = (w, false) ∧ refusal m false w false
      s.efl.data s = 0) ∧
    (∃ (s : State) (m : Master) (w : Nat) (r : Nat) (row : Bool), s.pwr.keeper = true ∧ eflTarget s = (w, row) ∧
      refusal m row w false s.efl.data s = r ∧ r ≠ 0) ∧
    (∃ (s : State) (m : Master) (w : Nat), s.pwr.keeper = true ∧ eflTarget s = (w, false) ∧ refusal m false w true 0 s
      = 0) ∧
    (∃ (s : State) (m : Master) (w : Nat) (r : Nat) (row : Bool), s.pwr.keeper = true ∧ eflTarget s = (w, row) ∧
      refusal m row w true 0 s = r ∧ r ≠ 0) ∧
    (∃ (s : State) (b : Nat) (n : Nat), s.pwr.keeper = true ∧ s.efl.op = some (.erase b n) ∧ s.efl.suspended = false) ∧
    (∃ (s : State), s.pwr.keeper = true ∧ s.efl.suspended = true ∧ eflOpen s = true ∧ (s.efl.byWindow = true →
      tempReturned s = true)) ∧
    (∃ (s : State), s.pwr.keeper = true ∧ (eflOpen s = false ∨ (s.efl.byWindow = true ∧ tempReturned s = false))) ∧
    (∃ (s : State) (t : State), s.pwr.keeper = true ∧ t = { s with smb := { s.smb with denied := true } }) ∧
    (∃ (s : State), s.pwr.keeper = true) ∧
    (∃ (s : State) (m : Master), s.pwr.keeper = true ∧ (∀ i < 32, refusal m false ((32 * inactiveSlot s + i) * 1024)
      true 0 s = 0)) ∧
    (∃ (s : State) (m : Master) (r : Nat), s.pwr.keeper = true ∧ refusal m false (32 * inactiveSlot s * 1024) true 0 s
      = r ∧ r ≠ 0) ∧
    (∃ (s : State) (u : State) (m : Master), s.pwr.keeper = true ∧ m ≠ .host ∧ s.efl.op = none ∧ eflOpen s = true ∧
      s.flt.stewardHalted = false ∧ u = stewardReads (fun b => b / 32 = inactiveSlot s) { s with efl :=
      { s.efl with ctlOp := 6 } }) ∧
    (∃ (s : State) (m : Master), s.pwr.keeper = true) ∧
    (∃ (s : State) (w : Nat) (d : Nat) (b : Bool), s.efl.op = some (.program w d)) ∧
    (∃ (s : State) (b : Nat) (n : Nat) (x : Nat), s.efl.op = some (.erase b n) ∧ s.efl.suspended = false ∧ s.efl.jobs
      = [] ∧ s.efl.after = .nothing ∧ x = journalBase (journalHalf s) + 2 * journalEnd (journalHalf s) s ∧ journalEnd
      (journalHalf s) s + 3 ≤ 4096 ∧ blockWorn (x / 1024) s = false ∧ (x / 1024) ∉ s.efl.incomplete ∧ (∀ y ∈
      s.efl.factoryBlocks, y < 272) ∧ (b < 272 ∨ 288 ≤ b) ∧ b < 512 ∧ Sound s ∧ eraseCount b s < maxErases) ∧
    (∃ (s : State) (b : Nat), s.efl.op = some (.erase b 3) ∧ s.efl.suspended = false ∧ (s.efl.jobs = [] ∨ s.efl.after
      ≠ .nothing)) ∧
    (∃ (s : State) (b : Nat) (n : Nat) (x : Nat), s.efl.op = some (.erase b n) ∧ s.efl.suspended = false ∧ n < 3 ∧ x =
      journalBase (journalHalf s) + 2 * journalEnd (journalHalf s) s ∧ journalEnd (journalHalf s) s + 4 ≤ 4096 ∧
      blockWorn (x / 1024) s = false ∧ (x / 1024) ∉ s.efl.incomplete ∧ (∀ y ∈ s.efl.factoryBlocks, y < 272) ∧ (b < 272
      ∨ 288 ≤ b) ∧ b < 512 ∧ Sound s ∧ eraseCount b s + 1 < 100000 ∧ b ∉ s.efl.worn) ∧
    (∃ (s : State) (b : Bool), s.efl.op = none) ∧
    (∃ (s : State), s.pwr.keeper = true ∧ eflReady s = true ∧ (∀ w ∈ s.efl.waits, blockWorn (datumBlock w) s = false)) ∧
    (∃ (s : State), eflReady s = false) ∧
    (∃ (s : State) (m : Master), m ≠ .host ∧ s.efl.op ≠ none) ∧
    (∃ (s : State) (m : Master), m ≠ .host ∧ s.efl.op = none ∧ (eflOpen s = false ∨ s.flt.stewardHalted = true)) ∧
    (∃ (s : State) (u : State) (m : Master) (v : Nat), s.pwr.keeper = true ∧ m ≠ .host ∧ s.efl.op = none ∧ eflOpen s =
      true ∧ s.flt.stewardHalted = false ∧ u = stewardReads (fun b => b / 32 = inactiveSlot s) { s with efl :=
      { s.efl with ctlOp := 6 } } ∧ imageOf (inactiveSlot s) u = some v) ∧
    (∃ (s : State) (w : Nat) (d : Nat), s.efl.op = some (.program w d) ∧ programStatus w d s = 0) ∧
    (∃ (s : State) (w : Nat) (d : Nat) (r : Nat), s.efl.op = some (.program w d) ∧ programStatus w d s = r ∧ r ≠ 0) := by
  and_intros
  · refine ⟨atTemp { base.efl with addr := 300000 * 8, data := 0, wp := 0 }, .steward, 300000, ?_⟩
    and_intros
    all_goals first
      | decide +kernel
      | exact sound_of (by decide +kernel)
  · refine ⟨atTemp { base.efl with addr := 300000 * 8, data := 5 }, .host, 300000, 7, false, ?_⟩
    and_intros
    all_goals first
      | decide +kernel
      | exact sound_of (by decide +kernel)
  · refine ⟨atTemp { base.efl with addr := 300000 * 8, wp := 0 }, .steward, 300000, ?_⟩
    and_intros
    all_goals first
      | decide +kernel
      | exact sound_of (by decide +kernel)
  · refine ⟨{ base with efl := { base.efl with addr := 300000 * 8 } }, .host, 300000, 7, false, ?_⟩
    and_intros
    all_goals first
      | decide +kernel
      | exact sound_of (by decide +kernel)
  · exact ⟨{ base with efl := { base.efl with op := some (.erase 9 1) } }, 9, 1, by decide +kernel⟩
  · exact
        ⟨{ base with efl := { base.efl with op := some (.erase 9 1), suspended := true }, thm := { base.thm with sensors := sensorsAt 400 } },
        by decide +kernel⟩
  · refine ⟨{ base with thm := { base.thm with stage1 := true } }, ?_⟩
    and_intros
    all_goals first
      | decide +kernel
      | exact sound_of (by decide +kernel)
  · refine ⟨base, { base with smb := { base.smb with denied := true } }, ?_⟩
    and_intros
    all_goals first
      | decide +kernel
      | exact sound_of (by decide +kernel)
      | exact rfl
  · exact ⟨base, by decide +kernel⟩
  · refine ⟨atTemp { base.efl with wp := 0 }, .smbus, ?_⟩
    and_intros
    all_goals first
      | decide +kernel
      | exact sound_of (by decide +kernel)
  · refine ⟨{ base with thm := { base.thm with stage1 := true } }, .steward, 2, ?_⟩
    and_intros
    all_goals first
      | decide +kernel
      | exact sound_of (by decide +kernel)
  · refine ⟨atTemp base.efl, stewardReads (fun b => b / 32 = inactiveSlot (atTemp base.efl)) { (atTemp base.efl) with efl := { (atTemp base.efl).efl with ctlOp := 6 } }, .smbus, ?_⟩
    and_intros
    all_goals first
      | decide +kernel
      | exact sound_of (by decide +kernel)
      | exact rfl
  · refine ⟨base, .host, ?_⟩
    and_intros
    all_goals first
      | decide +kernel
      | exact sound_of (by decide +kernel)
  · exact ⟨{ base with efl := { base.efl with op := some (.program 300000 5) } }, 300000, 5, true, by decide +kernel⟩
  · refine ⟨{ base with efl := { base.efl with op := some (.erase 300 1) } }, 300, 1, 34 * 8192, ?_⟩
    and_intros
    all_goals first
      | decide +kernel
      | exact sound_of (by decide +kernel)
      | exact rfl
  · refine ⟨{ base with efl := { base.efl with op := some (.erase 300 3) } }, 300, ?_⟩
    and_intros
    all_goals first
      | decide +kernel
      | exact sound_of (by decide +kernel)
  · refine ⟨{ base with efl := { base.efl with op := some (.erase 300 1) } }, 300, 1, 34 * 8192, ?_⟩
    and_intros
    all_goals first
      | decide +kernel
      | exact sound_of (by decide +kernel)
      | exact rfl
  · refine ⟨base, true, ?_⟩
    and_intros
    all_goals first
      | decide +kernel
      | exact sound_of (by decide +kernel)
  · refine ⟨atTemp { base.efl with waits := [.gauge none, .scale 1024] }, ?_⟩
    and_intros
    all_goals first
      | decide +kernel
      | exact sound_of (by decide +kernel)
  · refine ⟨{ base with thm := { base.thm with stage1 := true } }, ?_⟩
    and_intros
    all_goals first
      | decide +kernel
      | exact sound_of (by decide +kernel)
  · refine ⟨{ base with efl := { base.efl with op := some (.erase 300 1) } }, .smbus, ?_⟩
    and_intros
    all_goals first
      | decide +kernel
      | exact sound_of (by decide +kernel)
  · refine ⟨{ base with thm := { base.thm with stage1 := true } }, .smbus, ?_⟩
    and_intros
    all_goals first
      | decide +kernel
      | exact sound_of (by decide +kernel)
  · refine ⟨atTemp { base.efl with slot := 1 }, stewardReads (fun b => b / 32 = inactiveSlot (atTemp { base.efl with slot := 1 })) { (atTemp { base.efl with slot := 1 }) with efl := { (atTemp { base.efl with slot := 1 }).efl with ctlOp := 6 } }, .smbus, Config.factoryVersion.toNat, ?_⟩
    and_intros
    all_goals first
      | decide +kernel
      | exact sound_of (by decide +kernel)
      | exact rfl
  · refine ⟨atTemp { base.efl with op := some (.program 300000 5) }, 300000, 5, ?_⟩
    and_intros
    all_goals first
      | decide +kernel
      | exact sound_of (by decide +kernel)
  · refine ⟨{ base with efl := { base.efl with op := some (.program 300000 5), words := [(300000, { data := 4, programs := 1 })] } }, 300000, 5, 1, ?_⟩
    and_intros
    all_goals first
      | decide +kernel
      | exact sound_of (by decide +kernel)

theorem witness_LifeCycleRequestsAreChecked :
    (∃ (s : State) (n : Nat) (b : Bool), s.pwr.keeper = true ∧ s.flt.stewardHalted = false ∧ s.efl.romRecovery = false
      ∧ s.lcs.st ≠ .retired ∧ (n = 1 ∨ n = 2) ∧ inVault s = false ∧ s.mbx.bg = none ∧ s.lcs.step = 0 ∧ s.drf.active ≠
      none ∧ s.flt.belay = false) ∧
    (∃ (s : State) (n : Nat) (b : Bool), s.pwr.keeper = true ∧ s.flt.stewardHalted = false ∧ s.efl.romRecovery = false
      ∧ s.lcs.st ≠ .retired ∧ (n = 1 ∨ n = 2) ∧ inVault s = false ∧ s.mbx.bg = none ∧ s.lcs.step = 0 ∧ s.drf.active ≠
      none ∧ s.flt.belay = true) ∧
    (∃ (s : State) (m : Master) (n : Nat) (b : Bool), s.pwr.keeper = true ∧ s.flt.stewardHalted = false ∧
      s.efl.romRecovery = false ∧ m ≠ .smbus) ∧
    (∃ (s : State) (n : Nat) (b : Bool), s.pwr.keeper = true ∧ s.flt.stewardHalted = false ∧ s.efl.romRecovery = false
      ∧ (s.lcs.st = .retired ∨ n = 0 ∨ n = 3)) ∧
    (∃ (s : State) (n : Nat) (b : Bool), s.pwr.keeper = true ∧ s.flt.stewardHalted = false ∧ s.efl.romRecovery = false
      ∧ s.lcs.st ≠ .retired ∧ (n = 1 ∨ n = 2) ∧ inVault s = true) := by
  and_intros
  · exact ⟨base, 1, true, by decide +kernel⟩
  · refine ⟨{ base with flt := { base.flt with belay := true } }, 1, true, ?_⟩
    and_intros
    all_goals first
      | decide +kernel
      | exact sound_of (by decide +kernel)
  · exact ⟨base, .host, 1, true, by decide +kernel⟩
  · exact ⟨base, 3, true, by decide +kernel⟩
  · exact ⟨{ base with vlt := { base.vlt with state := .drain } }, 2, true, by decide +kernel⟩

theorem witness_LinkAcknowledgesAndResends :
    (∃ (s : State) (e : End), (hdl e s).up = true) ∧
    (∃ (s : State) (e : End), (hdl e s).up = false) ∧
    (∃ (s : State) (e : End) (h : FrameHdr), (hdl e s).up = true ∧ h.valid = false) ∧
    (∃ (s : State) (e : End) (h : FrameHdr), (hdl e s).up = true ∧ h.valid = true ∧ h.nak = false ∧ (hdl e s).waiting
      = []) ∧
    (∃ (s : State) (e : End), (hdl e s).up = true ∧ (hdl e s).unacked ≠ [] ∧ (∀ u ∈ (hdl e s).unacked, u.sends < 9)) ∧
    (∃ (s : State) (e : End) (c : Instr), (hdl e s).up = true ∧ sevOf 198 s ≤ 1 ∧ inDrainStates s = false ∧ (c =
      .heddleLinkDown e ∨ (c = .heddleResendExpiry e ∧ ∃ u ∈ (hdl e s).unacked, 9 ≤ u.sends))) ∧
    (∃ (s : State), linkUp s = false ∧ s.pwr.keeper = true ∧ allGood [1, 2] s = true) ∧
    (∃ (s : State), linkUp s = true) := by
  and_intros
  · exact ⟨base, .engine, by decide +kernel⟩
  · exact ⟨{ base with hdlE := { base.hdlE with up := false } }, .engine, by decide +kernel⟩
  · exact ⟨base, .engine, { hdr0 with valid := false }, by decide +kernel⟩
  · exact ⟨base, .engine, hdr0, by decide +kernel⟩
  · exact ⟨{ base with hdlE := { base.hdlE with unacked := [{ seq := 0, frame := .control false, sends := 1 }] } },
        .engine, by decide +kernel⟩
  · refine ⟨{ base with hdlE := { base.hdlE with unacked := [{ seq := 0, frame := .control false, sends := 1 }] } },
        .engine, .heddleLinkDown .engine, ?_⟩
    and_intros
    all_goals first
      | decide +kernel
      | exact Or.inl rfl
  · refine ⟨{ base with hdlE := { base.hdlE with up := false }, hdlP := { base.hdlP with up := false } }, ?_⟩
    and_intros
    all_goals first
      | decide +kernel
      | exact sound_of (by decide +kernel)
  · refine ⟨base, ?_⟩
    and_intros
    all_goals first
      | decide +kernel
      | exact sound_of (by decide +kernel)

theorem witness_ManagementPortReachesRegisters :
    (∃ (s : State), portLive s = true) ∧
    (∃ (s : State), portLive s = true ∧ inReserved s.smb.addr = true ∧ s.smb.noInc = false) ∧
    (∃ (s : State), portLive s = true ∧ s.smb.addr = 0x26000C ∧ s.efl.romRecovery = false) := by
  and_intros
  · refine ⟨base, ?_⟩
    and_intros
    all_goals first
      | decide +kernel
      | exact sound_of (by decide +kernel)
  · refine ⟨{ base with smb := { base.smb with addr := 0xC0000 } }, ?_⟩
    and_intros
    all_goals first
      | decide +kernel
      | exact sound_of (by decide +kernel)
  · refine ⟨{ base with smb := { base.smb with addr := 0x26000C } }, ?_⟩
    and_intros
    all_goals first
      | decide +kernel
      | exact sound_of (by decide +kernel)

theorem witness_PmbusCommandsAnswer :
    (∃ (s : State), portLive s = true ∧ s.efl.romRecovery = false) ∧
    (∃ (s : State), portLive s = true ∧ s.efl.romRecovery = false ∧ smbAlert s = true) ∧
    (∃ (s : State), portLive s = true ∧ s.efl.romRecovery = false ∧ smbAlert s = false) ∧
    (∃ (s : State) (c : Nat), portLive s = true ∧ portCodes.contains c = false) ∧
    (∃ (s : State), portLive s = true ∧ Sound s) ∧
    (∃ (s : State), portLive s = true ∧ zoneMax 3 s = some (16 * (25 : Nat)) ∧ zoneMax 0 s = some (16 * (25 : Nat))) := by
  and_intros
  · refine ⟨base, ?_⟩
    and_intros
    all_goals first
      | decide +kernel
      | exact sound_of (by decide +kernel)
  · exact
        ⟨{ base with drf := { base.drf with active := some { draft with faults := (List.range 256).map (fun n => { sev := (defaultSev n).getD 255, unit := 1, alert := true, set := 255 }) } }, flt := { base.flt with sources := [(57, { t := true, c := false })] } },
        by decide +kernel⟩
  · refine ⟨base, ?_⟩
    and_intros
    all_goals first
      | decide +kernel
      | exact sound_of (by decide +kernel)
  · refine ⟨base, 0xFF, ?_⟩
    and_intros
    all_goals first
      | decide +kernel
      | exact sound_of (by decide +kernel)
  · refine ⟨base, ?_⟩
    and_intros
    all_goals first
      | decide +kernel
      | exact sound_of (by decide +kernel)
  · refine ⟨{ base with thm := { base.thm with sensors := sensorsAt 400 } }, ?_⟩
    and_intros
    all_goals first
      | decide +kernel
      | exact sound_of (by decide +kernel)

theorem witness_RegistersAreReadAndTunnelled :
    (∃ (s : State) (m : Master) (a : Nat) (w : Bool) (be : BitVec 8), a % 4 ≠ 0) ∧
    (∃ (s : State) (a : Nat) (v : Nat), masterUp .host s = true ∧ a % 4 = 0 ∧ a < 0x200000 ∧ engineReg a s = some
      (false, v) ∧ isHighWord a s = false) ∧
    (∃ (s : State) (a : Nat) (v : Nat), masterUp .host s = true ∧ a % 4 = 0 ∧ a < 0x200000 ∧ engineReg a s = some
      (true, v)) ∧
    (∃ (s : State) (a : Nat) (h : Nat) (v : Nat), masterUp .host s = true ∧ a % 4 = 0 ∧ a + 4 < 0x200000 ∧ engineReg a
      s = some (true, v) ∧ engineReg (a + 4) s = none ∧ heldAt .host a s.port.highLatch = some h ∧ h < 2 ^ 32) ∧
    (∃ (s : State) (a : Nat), masterUp .host s = true ∧ a % 4 = 0 ∧ a < 0x200000 ∧ engineReg a s = none ∧ isHighWord a
      s = false) ∧
    (∃ (s : State) (a : Nat), masterUp .host s = true ∧ a % 4 = 0 ∧ 0x200000 ≤ a ∧ unreachable .engine s = false) ∧
    (∃ (s : State) (a : Nat), masterUp .host s = true ∧ a % 4 = 0 ∧ 0x200000 ≤ a ∧ unreachable .engine s = true) ∧
    (∃ (s : State) (hdr : FrameHdr) (r : RegReq), accepts .pctrl hdr s = true ∧ r.write = false ∧ r.wide = false ∧
      r.addr = 0x26000C ∧ (hdl .pctrl s).waiting = []) ∧
    (∃ (s : State) (hdr : FrameHdr) (r : RegReq), accepts .engine hdr s = true ∧ r.write = true ∧ r.wide = false ∧
      r.master = .steward ∧ r.addr = 0x000048 ∧ engineAway s = false) ∧
    (∃ (s : State) (hdr : FrameHdr) (r : RegReq), accepts .engine hdr s = true ∧ r.write = true ∧ r.master = .smbus ∧
      r.addr < 0x200000 ∧ engineAway s = true) ∧
    (∃ (s : State) (hdr : FrameHdr) (r : RegReq) (p : PendingRead) (v : Nat), accepts .engine hdr s = true ∧ r.master
      = .host ∧ s.port.reads = [p] ∧ p.issuer = .engine ∧ p.req = { r with wide := false } ∧ p.be = 0xFF ∧ v < 2 ^ 32) ∧
    (∃ (s : State) (r : RegReq) (p : PendingRead), r.master = .host ∧ s.port.reads = [p] ∧ p.issuer = .engine ∧ p.req
      = { r with wide := false } ∧ p.be = 0xFF) ∧
    (∃ (s : State) (r : RegReq), s.port.reads = []) := by
  and_intros
  · exact ⟨base, .host, 2, true, (0x0F : BitVec 8), by decide +kernel⟩
  · exact ⟨base, 0, 0, by decide +kernel⟩
  · exact ⟨base, 24, 0, by decide +kernel⟩
  · exact ⟨{ base with port := { base.port with highLatch := [(.host, 0xB0000, 5)] } }, 0xB0000, 5, base.tbs.now %
        2^32, by decide +kernel⟩
  · exact ⟨base, 0x9FFFC, by decide +kernel⟩
  · exact ⟨{ base with hdlE := { base.hdlE with up := true }, hdlP := { base.hdlP with up := true } }, 0x2FFFF0,
        by decide +kernel⟩
  · exact ⟨{ base with hdlE := { base.hdlE with up := false } }, 0x2FFFF0, by decide +kernel⟩
  · exact ⟨base, hdr0, rq0, by decide +kernel⟩
  · refine ⟨base, hdr0, { rq0 with write := true, master := .steward, addr := 0x48 }, ?_⟩
    and_intros
    all_goals first
      | decide +kernel
      | exact sound_of (by decide +kernel)
  · refine ⟨{ base with vlt := { base.vlt with state := .hold } }, hdr0, { rq0 with write := true, master := .smbus, addr := 0x48 }, ?_⟩
    and_intros
    all_goals first
      | decide +kernel
      | exact sound_of (by decide +kernel)
  · exact ⟨{ base with port := { base.port with reads := [pr0] } }, hdr0, rq0, pr0, 9, by decide +kernel⟩
  · exact ⟨{ base with port := { base.port with reads := [pr0] } }, rq0, pr0, by decide +kernel⟩
  · exact ⟨base, rq0, by decide +kernel⟩

theorem witness_RegistersAreWritten :
    (∃ (s : State) (m : Master) (a : Nat) (w : Bool) (v : DWord) (be : BitVec 8), a % 4 ≠ 0) ∧
    (∃ (s : State) (m : Master) (a : Nat) (w : Bool) (v : DWord) (be : BitVec 8), a % 4 = 0 ∧ wholeAccess w be =
      false) ∧
    (∃ (s : State) (v : DWord), masterUp .host s = true) ∧
    (∃ (s : State) (v : DWord), masterUp .steward s = true) ∧
    (∃ (s : State) (n : Nat) (v : DWord), masterUp .host s = true ∧ n < 63 ∧ (∀ e ∈ s.port.rwpHalf, e.2.1 ≠ 0x020008 +
      0x40 * n)) ∧
    (∃ (s : State) (n : Nat) (v : DWord) (c : DWord) (r : List (Master × Nat × Nat)), masterUp .host s = true ∧ n < 63
      ∧ s.port.rwpHalf = (.host, 0x020008 + 0x40 * n, v.toNat % 2 ^ 32) :: r ∧ (∀ e ∈ r, e.2.1 ≠ 0x020008 + 0x40 * n)
      ∧ c.truncate 32 = ~~~(v.truncate 32)) ∧
    (∃ (s : State) (n : Nat) (v : DWord) (c : DWord) (r : List (Master × Nat × Nat)), masterUp .host s = true ∧ n < 63
      ∧ s.port.rwpHalf = (.host, 0x020008 + 0x40 * n, v.toNat % 2 ^ 32) :: r ∧ (∀ e ∈ r, e.2.1 ≠ 0x020008 + 0x40 * n)
      ∧ c.truncate 32 ≠ ~~~(v.truncate 32)) ∧
    (∃ (s : State) (a : Nat) (x : Nat), heldAt .host a s.port.rwpHalf = some x ∧ 0 < a ∧ a < 0x200000) ∧
    (∃ (s : State) (m : Master) (a : Nat), heldAt m a s.port.rwpHalf = none) := by
  and_intros
  · exact ⟨base, .host, 2, true, 0, (0x0F : BitVec 8), by decide +kernel⟩
  · exact ⟨base, .host, 0, true, 0, (0x0F : BitVec 8), by decide +kernel⟩
  · exact ⟨base, 0, by decide +kernel⟩
  · exact ⟨base, 0, by decide +kernel⟩
  · exact ⟨base, 0, 0, by decide +kernel⟩
  · exact ⟨{ base with port := { base.port with rwpHalf := [(.host, 0x020008, 5)] } }, 0, 5, 0xFFFFFFFA, [],
        by decide +kernel⟩
  · exact ⟨{ base with port := { base.port with rwpHalf := [(.host, 0x020008, 5)] } }, 0, 5, 0xFFFFFFFB, [],
        by decide +kernel⟩
  · exact ⟨{ base with port := { base.port with rwpHalf := [(.host, 0x020008, 5)] } }, 0x020008, 5, by decide +kernel⟩
  · exact ⟨base, .host, 0, by decide +kernel⟩

theorem witness_ResidualRegistersAgree :
    (∃ (s : State), s.cache.map.length < 2 ^ 32 ∧ (∀ e ∈ s.cache.map, boltOf s e.1 < 63)) := by
  exact ⟨base, by decide +kernel⟩

theorem witness_LogIndexNamesSlot :
    (∃ (s : State) (i : BitVec 16) (e : LogEntry), Sound s ∧ s.host.training = true ∧ s.warm.engineUp = true ∧ i.toNat
      < s.log.ring.length ∧ s.log.ring[s.log.ring.length - 1 - i.toNat]? = some e) ∧
    (∃ (s : State) (i : BitVec 16) (e : LogEntry) (w : Nat), Sound s ∧ s.host.training = true ∧ s.warm.engineUp = true
      ∧ i.toNat < s.log.ring.length ∧ s.log.ring[s.log.ring.length - 1 - i.toNat]? = some e ∧ w < 8) := by
  and_intros
  · refine
        ⟨{ base with log := { base.log with ring := [{ ts := 5, code := 2, source := 3, flags := 0, seq := 0, data0 := 0, data1 := 0, state := 0 }, { ts := 5, code := 2, source := 3, flags := 0, seq := 0, data0 := 0, data1 := 0, state := 0 }], head := 2, seq := 2 } },
        1, { ts := 5, code := 2, source := 3, flags := 0, seq := 0, data0 := 0, data1 := 0, state := 0 }, ?_⟩
    and_intros
    all_goals first
      | decide +kernel
      | exact sound_of (by decide +kernel)
  · refine
        ⟨{ base with log := { base.log with ring := [{ ts := 5, code := 2, source := 3, flags := 0, seq := 0, data0 := 0, data1 := 0, state := 0 }, { ts := 5, code := 2, source := 3, flags := 0, seq := 0, data0 := 0, data1 := 0, state := 0 }], head := 2, seq := 2 } },
        1, { ts := 5, code := 2, source := 3, flags := 0, seq := 0, data0 := 0, data1 := 0, state := 0 }, 3, ?_⟩
    and_intros
    all_goals first
      | decide +kernel
      | exact sound_of (by decide +kernel)

theorem witness_TimebaseFollowsTheClock :
    (∃ (s : State) (hdr : FrameHdr) (c : Int), accepts .engine hdr s = true) ∧
    (∃ (s : State) (hdr : FrameHdr) (c : Int), accepts .pctrl hdr s = true) ∧
    (∃ (s : State) (p : Bool), s.pwr.keeper = true ∧ s.tbs.refclk = true ∧ Sound s ∧ (srcAt 237 s).frozen = false) ∧
    (∃ (s : State), s.pwr.keeper = true ∧ Sound s ∧ (srcAt 237 s).frozen = false) ∧
    (∃ (s : State), s.pwr.keeper = true ∧ s.pending = []) ∧
    (∃ (s : State) (m : Master) (k : Nat) (v : Word), s.warm.engineUp = true ∧ k < 64 ∧ Sound s) ∧
    (∃ (s : State) (m : Master), s.warm.engineUp = true ∧ Sound s) ∧
    (∃ (s : State) (m : Master) (b : Bool), s.warm.engineUp = true) := by
  and_intros
  · refine ⟨base, hdr0, 0, ?_⟩
    and_intros
    all_goals first
      | decide +kernel
      | exact sound_of (by decide +kernel)
  · refine ⟨base, hdr0, 0, ?_⟩
    and_intros
    all_goals first
      | decide +kernel
      | exact sound_of (by decide +kernel)
  · refine ⟨{ base with tbs := { base.tbs with refclk := true } }, true, ?_⟩
    and_intros
    all_goals first
      | decide +kernel
      | exact sound_of (by decide +kernel)
  · refine ⟨base, ?_⟩
    and_intros
    all_goals first
      | decide +kernel
      | exact sound_of (by decide +kernel)
  · exact ⟨base, by decide +kernel⟩
  · refine ⟨base, .host, 0, 0, ?_⟩
    and_intros
    all_goals first
      | decide +kernel
      | exact sound_of (by decide +kernel)
  · refine ⟨base, .host, ?_⟩
    and_intros
    all_goals first
      | decide +kernel
      | exact sound_of (by decide +kernel)
  · exact ⟨base, .host, true, by decide +kernel⟩

theorem witness_SamplesGoIntoBins :
    (∃ (s : State) (code : Nat) (index : Nat) (v : Nat) (k : Nat) (m : Monitor), s.warm.engineUp = true ∧ v ≤ 65535 ∧
      s.mon.mons = [(k, m)] ∧ watches code index m = true ∧ m.count ≤ 0xFFFFFFFF ∧ (∀ b, tget 0 m.bins b ≤
      0xFFFFFFFF)) ∧
    (∃ (s : State) (hdr : FrameHdr) (x : MonSample), accepts .engine hdr s = true ∧ 11 ≤ x.code) ∧
    (∃ (s : State) (code : Nat) (index : Nat) (v : Nat) (k : Nat) (m : Monitor), s.warm.engineUp = true ∧ v ≤ 65535 ∧
      s.mon.mons = [(k, m)] ∧ watches code index m = true ∧ m.count ≤ 0xFFFFFFFF ∧ (∀ b, tget 0 m.bins b ≤ 0xFFFFFFFF)
      ∧ s.mon.freeze = false) ∧
    (∃ (s : State) (code : Nat) (index : Nat) (v : Nat) (k : Nat) (m : Monitor), s.warm.engineUp = true ∧ v ≤ 65535 ∧
      s.mon.mons = [(k, m)] ∧ watches code index m = true ∧ m.count ≤ 0xFFFFFFFF ∧ (∀ b, tget 0 m.bins b ≤ 0xFFFFFFFF)
      ∧ s.mon.freeze = true) := by
  and_intros
  · refine ⟨{ base with mon := { base.mon with mons := [(0, { cfg := 2 ^ 22 })] } }, 1, 0, 0, 0, { cfg := 2 ^ 22 },
        ?_⟩
    and_intros
    all_goals first
      | decide +kernel
      | exact fun _ => Nat.zero_le _
  · exact ⟨base, hdr0, { code := 11, index := 0, value := 0 }, by decide +kernel⟩
  · refine ⟨{ base with mon := { base.mon with mons := [(0, { cfg := 2 ^ 22 })] } }, 1, 0, 0, 0, { cfg := 2 ^ 22 },
        ?_⟩
    and_intros
    all_goals first
      | decide +kernel
      | exact fun _ => Nat.zero_le _
  · refine ⟨{ base with mon := { base.mon with mons := [(0, { cfg := 2 ^ 22 })], freeze := true } }, 1, 0, 0, 0,
        { cfg := 2 ^ 22 }, ?_⟩
    and_intros
    all_goals first
      | decide +kernel
      | exact fun _ => Nat.zero_le _

/-- R295: VERSION is 1, STATE copies VLT_STATE, whose reset value is 0xF (R185), and both steppings are B0. -/
theorem test_dvsec : dvsecField 0x0A State.reset = some 1 ∧ dvsecField 0x14 State.reset = some 0xF ∧
    dvsecField 0x1C State.reset = some 0xB0B0 := by decide +kernel

end Sys2Proof.Tests
end

/-! PROOFS. A void knot: where it goes, what writing one leaves, and the abandoned epoch of a warm reset (R29, R70, R72). -/

namespace Sys2Proof.Machine

section VoidKnots
variable {s t u : State} {n : Nat}

/-! ### The residual (R90, R91) -/

/-- A write to a table leaves what is read under another key, unless that is the default; the keys need not rise. -/
theorem tget_tput_ne_of_ne_default {α : Type} [DecidableEq α] {d : α} (v : α) {k m : Nat} (hm : m ≠ k) {l : Table α}
    (h : tget d l m ≠ d) : tget d (tput d k v l) m = tget d l m := by
  induction l with
  | nil => simp [tget] at h
  | cons c l ih =>
    obtain ⟨j, w⟩ := c
    by_cases hj : m = j
    · subst hj
      unfold tput
      split_ifs <;> grind [tget]
    · have hlt : ¬ m < j := fun hlt => h (by simp [tget, hj, hlt])
      have hl : tget d l m ≠ d := by simpa [tget, hj, hlt] using h
      unfold tput
      split_ifs <;> grind [tget]

theorem entryOf_setEntry_same {g : Nat} {x : Entry} (hx : x ≠ {}) : entryOf g (setEntry g x s) = x := by
  unfold setEntry entryOf
  dsimp only
  split <;> exact tget_tput_self _ _ _ hx _

theorem entryOf_setEntry_ne {g h : Nat} (x : Entry) (hg : h ≠ g) (hh : entryOf h s ≠ {}) :
    entryOf h (setEntry g x s) = entryOf h s := by
  unfold setEntry entryOf
  dsimp only
  split <;> exact tget_tput_ne_of_ne_default _ hg hh

theorem ne_default_of_inRes {x : Entry} (h : inRes x = true) : x ≠ {} := by
  rintro rfl
  exact absurd h (by decide)

/-- Every granule of the residual of `s` lies in that of `t`. -/
def KeepsResidual (s t : State) : Prop := ∀ g, inRes (entryOf g s) = true → inRes (entryOf g t) = true

theorem KeepsResidual.trans (h : KeepsResidual s t) (k : KeepsResidual t u) : KeepsResidual s u :=
  fun g hg => k g (h g hg)

theorem KeepsResidual.of_map (h : t.cache.map = s.cache.map) : KeepsResidual s t := by
  intro g hg
  rwa [entryOf, h]

/-- A void knot moves a granule from STAGING to DIRTY at most (R91). -/
theorem unpend_keepsResidual (g : Nat) (s : State) : KeepsResidual s (unpend g s) := by
  intro h hh
  unfold unpend
  by_cases hg : h = g
  · subst hg
    have hx : inRes { st := if (entryOf h s).st = .staging then .dirty else (entryOf h s).st, pending := false } = true := by
      split
      · rfl
      · exact hh
    rwa [entryOf_setEntry_same (ne_default_of_inRes hx)]
  · rwa [entryOf_setEntry_ne _ hg (ne_default_of_inRes hh)]

theorem foldl_unpend_keepsResidual (l : List Nat) (s : State) : KeepsResidual s (l.foldl (fun s g => unpend g s) s) := by
  induction l generalizing s with
  | nil => exact fun _ h => h
  | cons g l ih => exact (unpend_keepsResidual g s).trans (ih _)

theorem engineNow_congr (h : t.tbs = s.tbs) : engineNow t = engineNow s := by rw [engineNow, h, engineNow]

/-! ### The place of a void knot (R204) -/

/-- What the place of a void knot is chosen by. -/
def placeView (s : State) : State :=
  { nand := s.nand, vlt := { state := s.vlt.state, retired := s.vlt.retired }, drf := { active := s.drf.active } }

theorem voidPlace_placeView (n : Nat) (avoid : List Nat) (s : State) :
    voidPlace n avoid (placeView s) = voidPlace n avoid s := rfl

theorem voidPlace_congr (n : Nat) (avoid : List Nat) (h : placeView t = placeView s) :
    voidPlace n avoid t = voidPlace n avoid s := by
  rw [← voidPlace_placeView n avoid t, h, voidPlace_placeView]

/-! ### Writing a void knot (R120, R209) -/

@[simp] theorem openBlock_voids (p : Nat) : (openBlock p s).nand.voids = s.nand.voids := by
  unfold openBlock
  dsimp only
  split <;> rfl

@[simp] theorem moveFrontier_voids (p : Nat) (pair : Option Nat) : (moveFrontier p pair s).nand.voids = s.nand.voids := by
  cases pair <;> rfl

@[simp] theorem sampleFree_nand (code index : Nat) : (sampleFree code index s).nand = s.nand :=
  (sampleFree_changes code index (m' := 0x82000000) rfl (.refl _ s)).nand rfl

@[simp] theorem onfiPslc_nand (k : Nat) (op : Onfi) : (onfiPslc k op s).nand = s.nand :=
  (onfiPslc_changes k op (m' := 0x40000000) rfl (.refl _ s)).nand rfl

@[simp] theorem programPage_voids (p type epoch : Nat) (units : List NandUnit) (dup copyB reprogram : Bool)
    (partner : Option Nat) :
    (programPage p type epoch units dup copyB reprogram partner s).nand.voids = s.nand.voids := by
  simp [programPage]

@[simp] theorem programPage_stg (p type epoch : Nat) (units : List NandUnit) (dup copyB reprogram : Bool)
    (partner : Option Nat) :
    (programPage p type epoch units dup copyB reprogram partner s).stg = s.stg :=
  (programPage_changes p type epoch units dup copyB reprogram partner (m' := 0xc2000008) rfl (.refl _ s)).stg rfl

@[simp] theorem moveFrontier_stg (p : Nat) (pair : Option Nat) : (moveFrontier p pair s).stg = s.stg :=
  (moveFrontier_changes p pair (m' := 0x8) rfl (.refl _ s)).stg rfl

/-- A void knot awaits its read-back, in the place of an earlier attempt of its epoch. -/
theorem writeVoid_stg (v : VoidWait) (s : State) : ∃ bs, (writeVoid v s).stg =
    { s.stg with voidReads := s.stg.voidReads.filter (fun x => x.epoch ≠ v.epoch) ++ [{ v with blocks := bs }] } := by
  unfold writeVoid
  dsimp only
  split
  · exact ⟨v.blocks, rfl⟩
  · next p q _ => exact ⟨ptrBlock p :: ptrBlock q :: v.blocks, by split <;> simp⟩

theorem writeVoid_voids_subset (v : VoidWait) (s : State) : s.nand.voids ⊆ (writeVoid v s).nand.voids := by
  unfold writeVoid
  dsimp only
  split
  · exact List.Subset.refl _
  · split <;> simp

/-- A void knot is programmed where there is a place for it. -/
theorem writeVoid_voids (v : VoidWait) (s : State) (h : voidPlace v.epoch v.blocks s ≠ none) :
    ∃ r ∈ (writeVoid v s).nand.voids, r.epoch = v.epoch ∧ r.reason = v.reason ∧ r.ts = v.ts := by
  obtain ⟨⟨p, q⟩, hp⟩ := Option.ne_none_iff_exists'.mp h
  unfold writeVoid
  simp only [hp]
  split <;> exact ⟨_, List.mem_cons_self, rfl, rfl, rfl⟩

theorem writeVoid_keepsResidual (v : VoidWait) (s : State) : KeepsResidual s (writeVoid v s) :=
  .of_map (by rw [(writeVoid_changes v (m' := 0xc2000018) rfl (.refl _ s)).cache rfl])

@[simp] theorem sampleSince_stg (code index since : Nat) : (sampleSince code index since s).stg = s.stg :=
  (sampleSince_changes code index since (m' := 0x2000000) rfl (.refl _ s)).stg rfl

@[simp] theorem sampleSince_cache (code index since : Nat) : (sampleSince code index since s).cache = s.cache :=
  (sampleSince_changes code index since (m' := 0x2000000) rfl (.refl _ s)).cache rfl

/-- The numbers of the epochs that are open or unresolved. -/
def epochNums (s : State) : List Nat := s.stg.epochs.map Epoch.num

theorem map_num_of_num_eq {f : Epoch → Epoch} (hf : ∀ x, (f x).num = x.num) (l : List Epoch) :
    (l.map f).map Epoch.num = l.map Epoch.num := by
  simp [hf]

/-- Voiding an epoch takes it off the list, keeps its granules in the residual, and writes its void knot (R29, R91). -/
theorem voidEpoch_writes (reason : Nat) (s : State) (e : Epoch) : ∃ u,
    voidEpoch reason s e = writeVoid { epoch := e.num, reason := reason, ts := engineNow u } u ∧
      Changes 0x2000011 s u ∧ KeepsResidual s u ∧ u.stg.voidReads = s.stg.voidReads ∧
      epochNums u = (epochNums s).filter (· ≠ e.num) := by
  refine ⟨_, rfl, ?_⟩
  generalize (epochGranules e s).filter (fun g => !copiedLater e.num g s) = l
  have hr := foldl_unpend_keepsResidual l s
  have hc : Changes 0x2000011 s (l.foldl (fun s g => unpend g s) s) :=
    .foldl (.refl _ s) (fun _ g h => unpend_changes g (by rfl) h)
  have hstg : (l.foldl (fun s g => unpend g s) s).stg = s.stg :=
    (Changes.foldl (m := 0x1) (.refl _ s) (fun _ g h => unpend_changes g (by rfl) h)).stg rfl
  generalize l.foldl (fun s g => unpend g s) s = v at hr hc hstg
  have hd : (dropEpoch e.num v).stg.epochs.map Epoch.num = (epochNums s).filter (· ≠ e.num) := by
    simp [dropEpoch, epochNums, hstg, List.filter_map, Function.comp_def]
  refine ⟨?_, ?_, ?_, ?_⟩
  · refine Changes.put_stg rfl ?_
    split
    · exact sampleSince_changes _ _ _ (by rfl) (dropEpoch_changes _ (by rfl) hc)
    · exact dropEpoch_changes _ (by rfl) hc
  · refine hr.trans (.of_map ?_)
    split <;> simp [dropEpoch]
  · split <;> simp [dropEpoch, hstg]
  · rw [← hd]
    unfold epochNums
    dsimp only
    rw [apply_ite (List.map Epoch.num), map_num_of_num_eq (by intro x; split <;> rfl), ite_self]
    split
    · rw [sampleSince_stg]
    · rfl

/-! ### An epoch that has been voided -/

/-- Epoch `n` of `s` has been voided at the time of `s`, with REASON 1: it is off the list, its void knot awaits its read-back
and stands where there was a place, and the residual has lost nothing (R29, R209). -/
structure Voided (s : State) (n : Nat) (t : State) : Prop where
  gone : n ∉ epochNums t
  waits : ∃ w ∈ t.stg.voidReads, w.epoch = n ∧ w.reason = 1 ∧ w.ts = engineNow s
  stands : voidPlace n [] s ≠ none → ∃ v ∈ t.nand.voids, v.epoch = n ∧ v.reason = 1 ∧ v.ts = engineNow s
  residual : KeepsResidual s t

/-- From `t` to `u` an epoch `n` that has been voided stays so. -/
structure KeepsVoid (n : Nat) (t u : State) : Prop where
  gone : n ∉ epochNums t → n ∉ epochNums u
  waits : ∀ w ∈ t.stg.voidReads, w.epoch = n → w ∈ u.stg.voidReads
  stands : t.nand.voids ⊆ u.nand.voids
  residual : KeepsResidual t u

theorem KeepsVoid.trans {v : State} (h : KeepsVoid n t u) (k : KeepsVoid n u v) : KeepsVoid n t v where
  gone hn := k.gone (h.gone hn)
  waits w hw hn := k.waits w (h.waits w hw hn) hn
  stands := List.Subset.trans h.stands k.stands
  residual := h.residual.trans k.residual

theorem Voided.keep (h : Voided s n t) (k : KeepsVoid n t u) : Voided s n u where
  gone := k.gone h.gone
  waits := by
    obtain ⟨w, hw, hn, hr⟩ := h.waits
    exact ⟨w, k.waits w hw hn, hn, hr⟩
  stands hp := by
    obtain ⟨v, hv, hr⟩ := h.stands hp
    exact ⟨v, k.stands hv, hr⟩
  residual := h.residual.trans k.residual

/-- What changes neither the map, nor the void knots, nor the numbers of the epochs. -/
theorem KeepsVoid.of_eq (hm : u.cache.map = t.cache.map) (hv : u.nand.voids = t.nand.voids)
    (hr : u.stg.voidReads = t.stg.voidReads) (he : epochNums u = epochNums t) : KeepsVoid n t u where
  gone := by rw [he]; exact id
  waits w hw _ := hr ▸ hw
  stands := by rw [hv]; exact List.Subset.refl _
  residual := .of_map hm

/-- What changes neither the cache, nor the store, nor staging. -/
theorem KeepsVoid.of_changes {m : Nat} (h : Changes m t u) (hc : m.testBit 0 = false) (hn : m.testBit 3 = false)
    (hs : m.testBit 4 = false) : KeepsVoid n t u :=
  .of_eq (by rw [h.cache hc]) (by rw [h.nand hn]) (by rw [h.stg hs]) (by rw [epochNums, h.stg hs, epochNums])

/-- What the void knot of an abandoned epoch depends on. -/
structure SameStaging (s u : State) : Prop where
  cache : u.cache = s.cache
  stg : u.stg = s.stg
  tbs : u.tbs = s.tbs
  place : placeView u = placeView s

theorem voidEpoch_voided (h : SameStaging s u) (e : Epoch) : Voided s e.num (voidEpoch 1 u e) := by
  obtain ⟨v, hv, hc, hr, hw, hn⟩ := voidEpoch_writes 1 u e
  obtain ⟨bs, hstg⟩ := writeVoid_stg { epoch := e.num, reason := 1, ts := engineNow v } v
  have htime : engineNow v = engineNow s := by rw [engineNow_congr (hc.tbs rfl), engineNow_congr h.tbs]
  have hplace : placeView v = placeView s := by
    rw [← h.place, placeView, placeView, hc.nand rfl, hc.vlt rfl, hc.drf rfl]
  rw [hv]
  refine ⟨?_, ?_, ?_, ?_⟩
  · rw [epochNums, hstg]
    change e.num ∉ epochNums v
    simp [hn]
  · rw [hstg]
    exact ⟨_, List.mem_append_right _ (List.mem_singleton_self _), rfl, rfl, htime⟩
  · intro hp
    rw [← htime]
    exact writeVoid_voids _ _ (by rwa [voidPlace_congr _ _ hplace])
  · have hs : KeepsResidual s u := .of_map (by rw [h.cache])
    exact (hs.trans hr).trans (writeVoid_keepsResidual _ _)

theorem voidEpoch_keepsVoid (reason : Nat) (s : State) {x : Epoch} (hx : x.num ≠ n) : KeepsVoid n s (voidEpoch reason s x) := by
  obtain ⟨v, hv, hc, hr, hw, hn⟩ := voidEpoch_writes reason s x
  obtain ⟨bs, hstg⟩ := writeVoid_stg { epoch := x.num, reason := reason, ts := engineNow v } v
  rw [hv]
  refine ⟨fun h => ?_, fun w hws hwn => ?_, ?_, hr.trans (writeVoid_keepsResidual _ _)⟩
  · rw [epochNums, hstg]
    change n ∉ epochNums v
    simp [hn, h]
  · rw [hstg]
    have : w.epoch ≠ x.num := by omega
    simp [hw, hws, this]
  · rw [← hc.nand rfl]
    exact writeVoid_voids_subset _ _

theorem foldl_voidEpoch_keepsVoid (reason : Nat) (l : List Epoch) (s : State) (hl : ∀ x ∈ l, x.num ≠ n) :
    KeepsVoid n s (l.foldl (voidEpoch reason) s) := by
  induction l generalizing s with
  | nil => exact .of_eq rfl rfl rfl rfl
  | cons x l ih =>
    have hx := voidEpoch_keepsVoid reason s (hl x List.mem_cons_self)
    exact hx.trans (ih _ (fun y hy => hl y (List.mem_cons_of_mem _ hy)))

theorem voidWhere_keepsVoid (p : Epoch → Bool) (reason : Nat) (h : n ∉ epochNums s) :
    KeepsVoid n s (voidWhere p reason s) := by
  refine foldl_voidEpoch_keepsVoid reason _ s (fun x hx hn => h ?_)
  exact List.mem_map.mpr ⟨x, (List.mem_filter.mp hx).1, hn⟩

theorem closeOpen_keepsVoid (s : State) : KeepsVoid n s (closeOpen s) := by
  unfold closeOpen
  split
  · refine .of_eq rfl rfl rfl ?_
    exact map_num_of_num_eq (by intro x; split <;> rfl) _
  · exact .of_eq rfl rfl rfl rfl

theorem strayEpochs_keepsVoid (s : State) : KeepsVoid n s (strayEpochs s) :=
  .of_eq rfl rfl rfl (by simp [epochNums, Function.comp_def])

theorem discardWrites_keepsVoid (s : State) : KeepsVoid n s (discardWrites s) := by
  unfold discardWrites
  dsimp only
  generalize s.stg.heldq ++ s.cache.capq.flatMap (·.2) = l
  have h : Changes 0x82000000 s (l.foldl (fun s _ => sampleFree 8 0 s) s) :=
    .foldl (.refl _ s) (fun _ _ h => sampleFree_changes _ _ (by rfl) h)
  have hk : KeepsVoid n s _ := .of_changes h rfl rfl rfl
  exact hk.trans (.of_eq rfl rfl rfl rfl)

end VoidKnots

/-! ### The abandoned epoch of a warm reset (R70, R72) -/

section WarmReset
variable {s t u : State} {e : Epoch}

theorem setVault_state (v : VState) (s : State) : (setVault v s).vlt.state = v := by
  unfold setVault
  split
  · assumption
  · next h => exact congrArg VltSt.state ((engineLog_changes 6 _ _ (m' := 0x4c000000) (by rfl) (.refl _ _)).vlt rfl)

theorem setVault_keepsVoid {n : Nat} (v : VState) (s : State) : KeepsVoid n s (setVault v s) :=
  .of_changes (setVault_changes v (m' := 0x4c000020) rfl (.refl _ s)) rfl rfl rfl

/-- What R72 asks of a chipset warm reset in SPECULATIVE: the epoch is voided, and the reset stands at step 3. -/
structure Abandons (s : State) (e : Epoch) (t : State) : Prop where
  voided : Voided s e.num t
  state : t.vlt.state = .notArmed
  kind : t.warm.kind = .chipset
  step : t.warm.step = 3
  dram : t.dram = s.dram

/-- A chipset warm reset in SPECULATIVE voids the open epoch first, with staging as the request found it, and enters step 3. -/
theorem beginWarm_speculative (hs : s.vlt.state = .speculative) (he : openEpoch s = some e) : ∃ u w, SameStaging s u ∧
    Changes 0x300000 (voidEpoch 1 u e) w ∧ w.warm = newWarm .chipset s ∧
    beginWarm .chipset s = setVault .notArmed (strayEpochs (voidWhere (fun e => !knotInProgram e) 8 (closeOpen
      (clearPort (discardWrites w))))) := by
  unfold beginWarm
  extract_lets w v _ _ u x
  have hl : Changes 0x4 s v := logEvent_changes _ _ _ (by rfl) (.refl _ s)
  obtain ⟨hu, hustate⟩ : SameStaging s u ∧ u.vlt.state = s.vlt.state := by
    have hplace : placeView v = placeView s := by simp only [placeView, hl.nand rfl, hl.vlt rfl, hl.drf rfl]
    have hv : SameStaging s v := ⟨hl.cache rfl, hl.stg rfl, hl.tbs rfl, hplace⟩
    have hstate := congrArg VltSt.state (hl.vlt rfl)
    unfold u
    split
    · exact ⟨⟨hv.cache, hv.stg, hv.tbs, hv.place⟩, hstate⟩
    · exact ⟨hv, hstate⟩
  have hx : x = voidEpoch 1 u e := by
    have ho : openEpoch u = some e := by rw [← he, openEpoch, hu.stg, openEpoch]
    unfold x
    rw [hustate, hs, ho]
  refine ⟨u, { noteSeal x with warm := w }, hu, hx ▸ ?_, rfl, if_neg (by simp)⟩
  exact .put_warm rfl (noteSeal_changes (by rfl) (.refl _ x))

/-- The reset abandons the open epoch of a SPECULATIVE vault (R70, R72). -/
theorem beginWarm_abandons (hs : s.vlt.state = .speculative) (he : openEpoch s = some e) :
    Abandons s e (beginWarm .chipset s) := by
  have hdram := (beginWarm_changes .chipset (m' := 0xce380c3d) rfl (.refl _ s)).dram rfl
  obtain ⟨u, w, hu, hx, hwarm, hb⟩ := beginWarm_speculative hs he
  rw [hb] at hdram ⊢
  have hw : Voided s e.num w := (voidEpoch_voided hu e).keep (.of_changes hx rfl rfl rfl)
  have hp : KeepsVoid e.num (discardWrites w) (clearPort (discardWrites w)) :=
    .of_changes (m := 0xc00) (clearPort_changes (by rfl) (.refl _ _)) rfl rfl rfl
  have hc := ((hw.keep (discardWrites_keepsVoid w)).keep hp).keep (closeOpen_keepsVoid _)
  have hr : Changes 0xce080c39 w (setVault .notArmed (strayEpochs (voidWhere (fun e => !knotInProgram e) 8
      (closeOpen (clearPort (discardWrites w)))))) :=
    setVault_changes _ (by rfl) <| strayEpochs_changes (by rfl) <| voidWhere_changes _ _ (by rfl) <|
      closeOpen_changes (by rfl) <| clearPort_changes (by rfl) <| discardWrites_changes (by rfl) (.refl _ w)
  refine ⟨?_, setVault_state _ _, ?_, ?_, hdram⟩
  · exact ((hc.keep (voidWhere_keepsVoid _ _ hc.gone)).keep (strayEpochs_keepsVoid _)).keep (setVault_keepsVoid _ _)
  · rw [hr.warm rfl, hwarm]
    simp [newWarm]
  · rw [hr.warm rfl, hwarm]
    rfl

/-- The vault is SPECULATIVE with the open epoch `e`, and nothing stops a warm reset: neither belay nor one in progress. -/
structure OpenSpeculative (s : State) (e : Epoch) : Prop where
  keeper : s.pwr.keeper = true
  belay : s.flt.belay = false
  state : s.vlt.state = .speculative
  idle : s.warm.kind = .none
  opened : openEpoch s = some e

/-- A request is performed at once (R70, R71). -/
theorem requestWarm_abandons (r : Requester) (h : OpenSpeculative s e) : Abandons s e (requestWarm r false s) := by
  have hr : requestWarm r false s = beginWarm .chipset s := by
    simp [requestWarm, inVault, h.belay, h.state, h.idle]
  exact hr ▸ beginWarm_abandons h.state h.opened

theorem askWarm_abandons (r : Requester) (h : OpenSpeculative s e) : Abandons s e (askWarm r s) := by
  rw [askWarm, if_neg (by simp [h.keeper, h.state])]
  exact requestWarm_abandons r h

/-- Where a request changes nothing of staging first, what it abandons is the epoch that was open before. -/
theorem Abandons.of_sameStaging (h : Abandons u e t) (hu : SameStaging s u) (hd : u.dram = s.dram) : Abandons s e t where
  voided := by
    have htime := engineNow_congr hu.tbs
    have hplace := voidPlace_congr e.num [] hu.place
    have hmap : KeepsResidual s u := .of_map (by rw [hu.cache])
    exact ⟨h.voided.gone, htime ▸ h.voided.waits, htime ▸ hplace ▸ h.voided.stands, hmap.trans h.voided.residual⟩
  state := h.state
  kind := h.kind
  step := h.step
  dram := h.dram.trans hd

/-! ### Sources of severity S0 and S1 (R416) -/

/-- A source of severity S0 or S1 takes no reaction outside FENCED to KNOT (R416, R417). -/
theorem react_low {n sev : Nat} (hsev : sev ≤ 1) (hd : inDrainStates s = false) : react n sev s = s := by
  have ht : takenSev n sev s = sev := by simp [takenSev, show sev ≠ 2 by omega]
  simp only [react, ht, if_true, takeReaction, hd]
  simp [show sev ≠ 4 by omega, show sev ≠ 3 by omega, show sev ≠ 2 by omega]

theorem captureFirst_belay (n sev master detail : Nat) (b : Bool) :
    (captureFirst n sev master detail b s).flt.belay = s.flt.belay := by
  unfold captureFirst
  dsimp only
  split <;> rfl

theorem inDrainStates_congr (h : t.vlt = s.vlt) : inDrainStates t = inDrainStates s := by
  rw [inDrainStates, h, inDrainStates]

/-- A source that enters fault at severity S0 or S1 outside FENCED to KNOT is latched, captured and logged, and no more. -/
theorem enterSev_low (n master detail : Nat) {sev : Nat} (hsev : sev ≤ 1) (hd : inDrainStates s = false) :
    Changes 0x40004 s (enterSev n sev master detail s) ∧ (enterSev n sev master detail s).flt.belay = s.flt.belay := by
  unfold enterSev
  extract_lets first v x taken
  have hv : Changes 0x40004 s v := modSrc_changes _ _ (by rfl) (.refl _ s)
  have hvb : v.flt.belay = s.flt.belay := rfl
  split
  · constructor
    · refine logFault_changes _ _ _ _ _ (by rfl) (.put_flt rfl id ?_)
      exact modSrc_changes _ _ (by rfl) (captureFirst_changes _ _ _ _ _ (by rfl) hv)
    · rw [(logFault_changes _ _ _ _ _ (m' := 0x4) rfl (.refl _ _)).flt rfl]
      exact (captureFirst_belay ..).trans hvb
  · have hl : ∀ k, Changes 0x40004 s (logFault n k detail false first (captureFirst n k master detail false v)) :=
      fun k => logFault_changes _ _ _ _ _ (by rfl) (captureFirst_changes _ _ _ _ _ (by rfl) hv)
    rw [react_low hsev (by rw [inDrainStates_congr ((hl _).vlt rfl), hd])]
    refine ⟨hl _, ?_⟩
    rw [(logFault_changes _ _ _ _ _ (m' := 0x4) rfl (.refl _ _)).flt rfl, captureFirst_belay, hvb]

/-- The same of an event source of the power controller, whose pair may be frozen (R411, R434, R572). -/
theorem pcFault_low {n : Nat} (detail : Nat) (hn : isEvent n = true) (hsev : sevOf n s ≤ 1) (hd : inDrainStates s = false) :
    Changes 0x40004 s (pcFault n detail s) ∧ (pcFault n detail s).flt.belay = s.flt.belay := by
  have he := enterSev_low n (masterOf n) detail hsev hd
  unfold pcFault
  split
  · have hx : exercising (enterFault n detail s) = exercising s := by
      rw [exercising, enterFault, he.1.chg rfl, exercising]
    have hw : withAbort (enterFault n detail) s = enterFault n detail s := by simp [withAbort, hx]
    rw [hw]
    exact he
  · next hf =>
    have hf : (srcAt n s).frozen = true := by simpa [hn] using hf
    unfold codeChange
    rw [if_pos hf]
    split
    · exact ⟨.refl _ s, rfl⟩
    · exact ⟨modSrc_changes _ _ (by rfl) (.refl _ s), rfl⟩


/-! ### The four requests (R70, R72) -/

theorem execStewardWarmReset_abandons (hh : s.flt.stewardHalted = false) (h : OpenSpeculative s e) :
    ∃ t, execStewardWarmReset s = .next t ∧ Abandons s e t := by
  refine ⟨_, rfl, ?_⟩
  rw [if_neg (by simp [hh])]
  exact askWarm_abandons .steward h

theorem execWarmRstN_abandons {us : Nat} (unfit : Nat) (hus : 10 ≤ us) (hf : tfind s.flt.frozen 3 = none)
    (h : OpenSpeculative s e) : ∃ t, execWarmRstN us unfit s = .next t ∧ Abandons s e t := by
  have ha := askWarm_abandons .pin h
  unfold execWarmRstN
  rw [if_pos (by simp [hus, hf])]
  refine ⟨_, rfl, ?_⟩
  rw [if_pos ha.kind]
  obtain ⟨⟨hgone, hwaits, hstands, hres⟩, hstate, hkind, hstep, hdram⟩ := ha
  exact ⟨⟨hgone, hwaits, hstands, hres⟩, hstate, hkind, hstep, hdram⟩

theorem execActivate_abandons (m : Master) (h : OpenSpeculative s e) :
    ∃ t, execActivate m s = .next t ∧ Abandons s e t := by
  refine ⟨_, rfl, ?_⟩
  have hu : OpenSpeculative (withDrfCtl 0x10000000 s) e := ⟨h.keeper, h.belay, h.state, h.idle, h.opened⟩
  unfold activateByHost
  rw [if_pos h.keeper]
  exact (requestWarm_abandons .steward hu).of_sameStaging ⟨rfl, rfl, rfl, rfl⟩ rfl

/-- The failed trial is counted and STEWARD_WDT raised before the request; at S0 or S1 neither touches staging (R484). -/
theorem execStewardWatchdogExpiry_abandons (hsev : sevOf 233 s ≤ 1) (h : OpenSpeculative s e) :
    ∃ t, execStewardWatchdogExpiry s = .next t ∧ Abandons s e t := by
  unfold execStewardWatchdogExpiry
  rw [if_neg (by simp [h.keeper])]
  refine ⟨_, rfl, ?_⟩
  let v : State := { s with efl := { s.efl with
    trialFails := if s.efl.trial then satAdd 15 s.efl.trialFails 1 else s.efl.trialFails } }
  have hd : inDrainStates v = false := by simp [inDrainStates, v, h.state]
  obtain ⟨hc, hbelay⟩ := pcFault_low (s := v) 0 (by decide : isEvent 233 = true) hsev hd
  have hu : SameStaging s (pcFault 233 0 v) := by
    refine ⟨hc.cache rfl, hc.stg rfl, hc.tbs rfl, ?_⟩
    rw [placeView, hc.nand rfl, hc.vlt rfl, hc.drf rfl]
    rfl
  have ho : OpenSpeculative (pcFault 233 0 v) e := by
    refine ⟨?_, hbelay.trans h.belay, ?_, ?_, ?_⟩
    · rw [hc.pwr rfl]; exact h.keeper
    · rw [hc.vlt rfl]; exact h.state
    · rw [hc.warm rfl]; exact h.idle
    · rw [openEpoch, hc.stg rfl]; exact h.opened
  exact (askWarm_abandons .watchdog ho).of_sameStaging hu (hc.dram rfl)

end WarmReset

/-- Settles O41: the request, whichever of the four, begins a chipset warm reset at once, which voids the open epoch first; what
the reset does besides keeps the epoch void. -/
theorem warmResetAbandonsSpeculation : Obligations.WarmResetAbandonsSpeculation := by
  intro s c e hc hk hb hs hw he
  have ho : OpenSpeculative s e := ⟨hk, hb, hs, hw, he⟩
  have h : ∃ t, exec c s = .next t ∧ Abandons s e t := by
    obtain ⟨us, unfit, rfl, hus, hf⟩ | ⟨rfl, hh⟩ | ⟨m, rfl⟩ | ⟨rfl, hsev⟩ := hc
    · exact execWarmRstN_abandons unfit hus hf ho
    · exact execStewardWarmReset_abandons hh ho
    · exact execActivate_abandons m ho
    · exact execStewardWatchdogExpiry_abandons hsev ho
  obtain ⟨t, ht, hv, hstate, hkind, hstep, hdram⟩ := h
  have hgone : ∀ x ∈ t.stg.epochs, x.num ≠ e.num := fun x hx hn => hv.gone (List.mem_map.mpr ⟨x, hx, hn⟩)
  exact ⟨t, ht, hgone, hv.waits, hv.stands, hv.residual, hstate, hkind, hstep, hdram⟩

end Sys2Proof.Machine

/-! PROOFS. Global Persistent Flush: the answer to the requests that wait, and what a fence records (R153, R154, R306 to R309). -/

namespace Sys2Proof.Machine

section Outbox
variable {s t u : State}

/-! ### What has been sent stays sent (log entry 3) -/

/-- What `s` had sent stands in the outbox of `t`, with what was sent since in front of it. -/
def KeepsSent (s t : State) : Prop := s.sent <:+ t.sent

theorem KeepsSent.of_eq (h : t.sent = s.sent) : KeepsSent s t := by
  rw [KeepsSent, h]

theorem KeepsSent.congr (h : KeepsSent s t) (hu : u.sent = t.sent) : KeepsSent s u := by
  rwa [KeepsSent, hu]

theorem KeepsSent.mem (h : KeepsSent s t) {m : Sent} (hm : m ∈ s.sent) : m ∈ t.sent := h.subset hm

theorem emit_keepsSent (m : Sent) (h : KeepsSent s t) : KeepsSent s (emit m t) :=
  List.IsSuffix.trans h (List.suffix_cons m t.sent)

theorem pump_keepsSent (e : End) (n : Nat) (h : KeepsSent s t) : KeepsSent s (pump e n t) := by
  induction n generalizing t with
  | zero => exact h
  | succ n ih =>
    unfold pump
    dsimp only
    split
    · split
      · exact ih (emit_keepsSent _ (h.congr (setHdl_sent ..)))
      · exact h
    · exact h

theorem sendFrame_keepsSent (e : End) (f : Frame) (h : KeepsSent s t) : KeepsSent s (sendFrame e f t) := by
  unfold sendFrame
  split
  · exact pump_keepsSent e 16 (h.congr (setHdl_sent ..))
  · split
    · exact h.congr (setHdl_sent ..)
    · exact h

theorem setVault_keepsSent (v : VState) (h : KeepsSent s t) : KeepsSent s (setVault v t) := by
  unfold setVault
  split
  · exact h
  · exact sendFrame_keepsSent _ _ (h.congr rfl)

theorem sendSet_keepsSent (code : Nat) (h : KeepsSent s t) : KeepsSent s (sendSet code t) :=
  emit_keepsSent _ (h.congr rfl)

theorem startLoop_keepsSent (h : KeepsSent s t) : KeepsSent s (startLoop t) := by
  unfold startLoop
  split
  · exact h
  · dsimp only
    split
    · exact h.congr rfl
    · exact sendSet_keepsSent _ (h.congr rfl)

theorem engineReact_keepsSent (n : Nat) (h : KeepsSent s t) : KeepsSent s (engineReact n t) :=
  h.congr ((engineReact_changes n (m' := 0x80020) rfl (.refl _ t)).sent rfl)

theorem engineFault_keepsSent (n detail : Nat) (h : KeepsSent s t) : KeepsSent s (engineFault n detail t) := by
  unfold engineFault
  dsimp only
  split
  · exact engineReact_keepsSent _ (sendFrame_keepsSent _ _ (h.congr rfl))
  · split
    · exact h.congr rfl
    · exact engineReact_keepsSent _ (sendFrame_keepsSent _ _ (h.congr rfl))

theorem noChannel_keepsSent (h : KeepsSent s t) : KeepsSent s (noChannel t) := by
  unfold noChannel
  split
  · exact engineFault_keepsSent _ _ h
  · exact h

end Outbox

section Fence
variable {s : State}

/-! ### The vault's part of the state through a fence (R154) -/

theorem sendFrame_vlt (e : End) (f : Frame) (s : State) : (sendFrame e f s).vlt = s.vlt :=
  (sendFrame_changes e f (m' := 0x4c000000) rfl (.refl _ s)).vlt rfl

theorem setVault_vlt (v : VState) (s : State) : (setVault v s).vlt = { s.vlt with state := v } := by
  unfold setVault
  split
  · next h => rw [← h]
  · exact sendFrame_vlt ..

theorem startLoop_vlt (s : State) : (startLoop s).vlt = s.vlt :=
  (startLoop_changes (m' := 0x40000100) rfl (.refl _ s)).vlt rfl

/-- The engine writes VLT_CAUSE itself only where no vault runs (R413). -/
theorem engineReact_vlt (n : Nat) (h : noVault s = false) : (engineReact n s).vlt = s.vlt := by
  unfold engineReact
  split
  · exact drivePair_vlt ..
  · split
    · exact drivePair_vlt ..
    · next hv =>
      rw [if_neg (by simpa [h] using hv)]

theorem engineFault_vlt (n detail : Nat) (h : noVault s = false) : (engineFault n detail s).vlt = s.vlt := by
  have hreact (f : Frame) (u : State) (hu : u.vlt = s.vlt) :
      (engineReact n (sendFrame .engine f u)).vlt = s.vlt := by
    have hf : (sendFrame .engine f u).vlt = s.vlt := (sendFrame_vlt ..).trans hu
    rw [engineReact_vlt n (by rwa [noVault, hf]), hf]
  unfold engineFault
  dsimp only
  split
  · exact hreact _ _ rfl
  · split
    · rfl
    · exact hreact _ _ rfl

theorem noVault_of_vaultRuns (h : vaultRuns s = true) : noVault s = false := by
  revert h
  unfold vaultRuns noVault
  cases s.vlt.state <;> decide

theorem noChannel_vlt (s : State) : (noChannel s).vlt = s.vlt := by
  unfold noChannel
  split
  · next h =>
    obtain ⟨⟨hruns, -⟩, -⟩ : (vaultRuns s = true ∧ _) ∧ _ := by simpa only [Bool.and_eq_true] using h
    exact engineFault_vlt _ _ (noVault_of_vaultRuns hruns)
  · rfl

/-- A fence records its time and its cause in FENCED, and nothing else of the vault. -/
theorem fence_vlt (bySource : Nat) (s : State) :
    (fence bySource s).vlt = { s.vlt with state := .fenced, fenceTs := engineNow s, fenceBy := bySource } := by
  have hd : Changes 0x82000011 s (discardWrites s) := discardWrites_changes (by rfl) (.refl _ s)
  unfold fence
  dsimp only
  rw [noChannel_vlt, startLoop_vlt]
  dsimp only
  rw [sendFrame_vlt, setVault_vlt]
  dsimp only
  rw [engineNow_congr (hd.tbs rfl), hd.vlt rfl]

theorem fence_host (bySource : Nat) (s : State) : (fence bySource s).host = s.host :=
  (fence_changes bySource (m' := 0xce0c8171) rfl (.refl _ s)).host rfl

theorem fence_keepsSent (bySource : Nat) (s : State) : KeepsSent s (fence bySource s) := by
  have hd : KeepsSent s (discardWrites s) :=
    .of_eq ((discardWrites_changes (m' := 0x82000011) rfl (.refl _ s)).sent rfl)
  unfold fence
  refine noChannel_keepsSent (startLoop_keepsSent (.congr ?_ rfl))
  exact sendFrame_keepsSent _ _ (setVault_keepsSent _ (hd.congr rfl))

end Fence

section Flush
variable {s : State}

/-! ### The answer to the requests that wait (R307 to R309) -/

theorem foldl_emit_eq {α : Type} (m : Sent) (l : List α) (s : State) :
    l.foldl (fun s _ => emit m s) s = { s with sent := List.replicate l.length m ++ s.sent } := by
  induction l generalizing s with
  | nil => rfl
  | cons a l ih =>
    rw [List.foldl_cons, ih, List.length_cons, List.replicate_succ', List.append_assoc]
    rfl

/-- Each request that waits has its response, and no other is sent. -/
theorem answerFlush_sent (error : Bool) (s : State) :
    (answerFlush error s).sent = List.replicate s.host.gpfWaiting.length (.gpf2 error) ++ s.sent := by
  unfold answerFlush
  split
  · next h => simp [h]
  · next h =>
    dsimp only
    rw [foldl_emit_eq, h]

@[simp] theorem answerFlush_gpfWaiting (error : Bool) (s : State) : (answerFlush error s).host.gpfWaiting = [] := by
  unfold answerFlush
  split
  · assumption
  · rfl

theorem answerFlush_gpfFailed (error : Bool) (h : s.host.gpfWaiting ≠ []) :
    (answerFlush error s).host.gpfFailed = error := by
  unfold answerFlush
  split
  · contradiction
  · rfl

theorem answerFlush_frame (error : Bool) (s : State) : Changes 0x40000400 s (answerFlush error s) :=
  answerFlush_changes error (by rfl) (.refl _ s)

/-! ### The three commands -/

theorem execGpfPhase1Request_up (hup : s.warm.engineUp = true) :
    execGpfPhase1Request s = .next { s with sent := .gpf1 :: s.sent } := by
  rw [execGpfPhase1Request, if_pos hup, emit]

/-- A Phase 2 request as the engine takes it: counted, waiting, and covering every write received (R307). -/
def takeFlush (s : State) : State :=
  { s with host := { s.host with
      gpfCount := satAdd max32 s.host.gpfCount 1, gpfWaiting := engineNow s :: s.host.gpfWaiting,
      gpfCovers := s.cache.received } }

/-- With the fence past, the request taken is answered in the same step (R309). -/
theorem execGpfPhase2Request_up (hup : s.warm.engineUp = true) :
    execGpfPhase2Request s =
      .next (if fenced s then answerFlush (decide (s.vlt.fenceBy ≠ 1)) (takeFlush s) else takeFlush s) := by
  have hf : fenced (takeFlush s) = fenced s := rfl
  rw [execGpfPhase2Request, if_neg (by simp [hup]), apply_ite Host.Outcome.next, ← hf]
  rfl

/-- Once every covered write is committed the flush completes, and in WINDOW that is the fence (R153, R307). -/
theorem execGpfPhase2Response_complete (hrun : engineRuns s = true) (hwait : s.host.gpfWaiting ≠ [])
    (hdone : uncommittedBelow s.host.gpfCovers s = false) :
    execGpfPhase2Response s =
      .next (if s.vlt.state = .window then fence 1 (answerFlush false s) else answerFlush false s) := by
  have hvlt : (answerFlush false s).vlt = s.vlt := (answerFlush_frame false s).vlt rfl
  rw [execGpfPhase2Response, if_neg (by simp [hrun, hwait, hdone])]
  dsimp only
  rw [hvlt]

/-! ### What the commands leave -/

/-- A request that comes after the fence is answered by what the fence was (R309). -/
theorem execGpfPhase2Request_fenced (hup : s.warm.engineUp = true) (hf : fenced s = true) :
    ∃ t, execGpfPhase2Request s = .next t ∧ t.host.gpfWaiting = [] ∧
      t.sent.head? = some (.gpf2 (decide (s.vlt.fenceBy ≠ 1))) ∧ t.host.gpfFailed = decide (s.vlt.fenceBy ≠ 1) := by
  have hwait : (takeFlush s).host.gpfWaiting = engineNow s :: s.host.gpfWaiting := rfl
  refine ⟨_, execGpfPhase2Request_up hup, ?_⟩
  rw [if_pos hf]
  refine ⟨answerFlush_gpfWaiting _ _, ?_, answerFlush_gpfFailed _ (by simp [hwait])⟩
  simp [answerFlush_sent, hwait, List.replicate_succ]

/-- Outside WINDOW a completed flush changes no vault state and no memory (R307). -/
theorem execGpfPhase2Response_outside_window {x : Nat} (hrun : engineRuns s = true) (hwait : s.host.gpfWaiting = [x])
    (hdone : uncommittedBelow s.host.gpfCovers s = false) (hw : s.vlt.state ≠ .window) :
    ∃ t, execGpfPhase2Response s = .next t ∧ t.host.gpfWaiting = [] ∧ t.sent = .gpf2 false :: s.sent ∧
      t.host.gpfFailed = false ∧ t.vlt = s.vlt ∧ t.cache = s.cache ∧ t.dram = s.dram := by
  have hne : s.host.gpfWaiting ≠ [] := by simp [hwait]
  have hc := answerFlush_frame false s
  refine ⟨_, execGpfPhase2Response_complete hrun hne hdone, ?_⟩
  rw [if_neg hw]
  refine ⟨answerFlush_gpfWaiting _ _, ?_, answerFlush_gpfFailed _ hne, hc.vlt rfl, hc.cache rfl, hc.dram rfl⟩
  simp [answerFlush_sent, hwait]

/-- In WINDOW the fence falls with the completion, by FENCE_BY 1 and at its time; the response sent before it stands (R153). -/
theorem execGpfPhase2Response_window {x : Nat} (hrun : engineRuns s = true) (hwait : s.host.gpfWaiting = [x])
    (hdone : uncommittedBelow s.host.gpfCovers s = false) (hw : s.vlt.state = .window) :
    ∃ t, execGpfPhase2Response s = .next t ∧ t.host.gpfWaiting = [] ∧ .gpf2 false ∈ t.sent ∧
      t.vlt.state = .fenced ∧ t.vlt.fenceBy = 1 ∧ t.vlt.fenceTs = engineNow s := by
  have hne : s.host.gpfWaiting ≠ [] := by simp [hwait]
  have hsent : .gpf2 false ∈ (answerFlush false s).sent := by simp [answerFlush_sent, hwait]
  refine ⟨_, execGpfPhase2Response_complete hrun hne hdone, ?_⟩
  rw [if_pos hw, fence_host, fence_vlt]
  refine ⟨answerFlush_gpfWaiting _ _, (fence_keepsSent _ _).mem hsent, rfl, rfl, ?_⟩
  exact engineNow_congr ((answerFlush_frame false s).tbs rfl)

end Flush

/-- Settles O11: the requests that wait are answered as one, with the flush's outcome, and the fence that a completion brings in
WINDOW keeps the response in the outbox. -/
theorem flushPhasesAnswer : Obligations.FlushPhasesAnswer := by
  refine ⟨fun s hup => execGpfPhase1Request_up hup, fun s hup hf => ?_,
    fun s hup hf => execGpfPhase2Request_fenced hup hf,
    fun s x hrun hwait hdone hw => execGpfPhase2Response_outside_window hrun hwait hdone hw,
    fun s x hrun hwait hdone hw => execGpfPhase2Response_window hrun hwait hdone hw⟩
  have h := execGpfPhase2Request_up hup
  rw [if_neg (by simp [hf])] at h
  exact h

end Sys2Proof.Machine

/-! PROOFS. The trouble log as it is read: the registers of its block, the slot of an entry, and Get Log (R315, R435, R440). -/

namespace Sys2Proof.Machine

section ByteStrings

/-! ### Numbers as bytes (R10) -/

theorem ofLeBytes_lt (l : List Byte) : ofLeBytes l < 256 ^ l.length := by
  induction l with
  | nil => decide
  | cons b l ih =>
    have hb : b.toNat < 256 := b.isLt
    rw [ofLeBytes, List.length_cons, pow_succ]
    omega

@[simp] theorem leBytes_length (n v : Nat) : (leBytes n v).length = n := by
  induction n generalizing v with
  | zero => rfl
  | succ n ih => simp [leBytes, ih]

theorem ofLeBytes_leBytes (n v : Nat) : ofLeBytes (leBytes n v) = v % 256 ^ n := by
  induction n generalizing v with
  | zero => simp [leBytes, ofLeBytes, Nat.mod_one]
  | succ n ih => rw [leBytes, ofLeBytes, ih, pow_succ', Nat.mod_mul, BitVec.toNat_ofNat]

/-- A number written into an input reads back at its offset. -/
theorem inputAt_append {v n : Nat} (hv : v < 256 ^ n) (before after : List Byte) :
    inputAt (before ++ leBytes n v ++ after) before.length n = v := by
  have htake : (leBytes n v ++ after).take n = leBytes n v := by simp
  rw [inputAt, List.append_assoc, List.drop_left, htake, ofLeBytes_leBytes, Nat.mod_eq_of_lt hv]

end ByteStrings

section TroubleLog
variable {s : State}

/-! ### The registers of the LOG block (R442) -/

theorem entryWord_lt (e : Option LogEntry) (w : Nat) : entryWord e w < 2 ^ 32 := by
  cases e with
  | none => exact Nat.two_pow_pos 32
  | some e =>
    calc ofLeBytes (((logBytes e).drop (4 * w)).take 4)
        < 256 ^ (((logBytes e).drop (4 * w)).take 4).length := ofLeBytes_lt _
      _ ≤ 256 ^ 4 := Nat.pow_le_pow_right (by decide) (List.length_take_le _ _)
      _ = 2 ^ 32 := by decide

/-- The addresses from 0x300000 to 0x37FFFF are the LOG block (R501). -/
theorem regAt_log {o : Nat} (ho : o < 0x80000) (s : State) : regAt (0x300000 + o) s = logReg o s := by
  rw [regAt, if_neg (by omega), pctrlReg, if_pos (by omega), Nat.add_sub_cancel_left]

theorem logReg_status (s : State) :
    logReg 0 s = r32 (fld (b01 (!s.log.prev.isEmpty)) 1 31 + fld s.log.prev.length 13 16 + fld s.log.ring.length 13 0) := rfl

theorem logReg_head (s : State) : logReg 4 s = r32 s.log.head := rfl

/-- Word `w` of LOG_RING[k] is word `w` of the entry in slot `k`. -/
theorem logReg_ring {k w : Nat} (hk : k < 4096) (hw : w < 8) (s : State) :
    logReg (0x20000 + 0x20 * k + 4 * w) s = r32 (entryWord (ringSlot k s) w) := by
  have hslot : (0x20000 + 0x20 * k + 4 * w - 0x20000) / 0x20 = k := by omega
  have hword : (0x20000 + 0x20 * k + 4 * w) % 0x20 / 4 = w := by omega
  unfold logReg
  rw [if_pos (by omega), hslot, hword]

theorem regValue_of_r32 {addr v : Nat} (h : regAt addr s = r32 v) (hv : v < 2 ^ 32) : regValue addr s = v := by
  rw [regValue, h]
  exact Nat.mod_eq_of_lt hv

/-- LOG_STATUS.COUNT is the number of entries present. -/
theorem regValue_logStatus_count (h : LogSound s.log) : regValue 0x300000 s % 2 ^ 13 = s.log.ring.length := by
  have hlen := h.ring
  have hread := (regAt_log (o := 0) (by decide) s).trans (logReg_status s)
  have hfit : fld (b01 (!s.log.prev.isEmpty)) 1 31 + fld s.log.prev.length 13 16 + fld s.log.ring.length 13 0 < 2 ^ 32 := by
    simp only [fld]
    omega
  rw [regValue_of_r32 hread hfit]
  simp only [fld]
  omega

theorem regValue_logHead (h : LogSound s.log) : regValue 0x300004 s = s.log.head := by
  have hread := (regAt_log (o := 4) (by decide) s).trans (logReg_head s)
  exact regValue_of_r32 hread (h.head.trans (by decide))

theorem regValue_logRing {k w : Nat} (hk : k < 4096) (hw : w < 8) (s : State) :
    regValue (0x320000 + 0x20 * k + 4 * w) s = entryWord (ringSlot k s) w := by
  have haddr : 0x320000 + 0x20 * k + 4 * w = 0x300000 + (0x20000 + 0x20 * k + 4 * w) := by omega
  rw [haddr]
  exact regValue_of_r32 ((regAt_log (by omega) s).trans (logReg_ring hk hw s)) (entryWord_lt _ _)

/-! ### Entries by age (R440) -/

/-- The i-th oldest of `n` entries is `n - 1 - i` places behind the newest, which lies below HEAD. -/
theorem ringSlot_index (h : LogSound s.log) {i : Nat} (hi : i < s.log.ring.length) :
    ringSlot ((s.log.head + 4096 - s.log.ring.length + i) % 4096) s = s.log.ring[s.log.ring.length - 1 - i]? := by
  have hlen := h.ring
  have hhead := h.head
  rw [ringSlot]
  congr 1
  omega

theorem logFrom_one {i : Nat} {l : List LogEntry} {e : LogEntry} (hi : i < l.length) (he : l[l.length - 1 - i]? = some e) :
    logFrom i 1 l = [e] := by
  have hold : l.reverse[i]? = some e := by rw [List.getElem?_reverse hi, he]
  obtain ⟨hlt, hget⟩ := List.getElem?_eq_some_iff.mp hold
  rw [logFrom, List.drop_eq_getElem_cons hlt, hget, List.take_succ_cons, List.take_zero]

/-- Get Log of the present log answers the entries from the one named, as many as are asked for (R315). -/
theorem execVendorGetLog_present {first count : Nat} (hopen : mailboxOpen s = true) (hfirst : first ≤ 4095)
    (hpos : 0 < count) (hcount : count ≤ 2048) :
    execVendorGetLog ([0, 0, 0, 0] ++ leBytes 2 first ++ leBytes 2 count) s =
      reply .success ((logFrom first count s.log.ring).flatMap logBytes) s := by
  have hat4 : inputAt ([0, 0, 0, 0] ++ leBytes 2 first ++ leBytes 2 count) 4 2 = first :=
    inputAt_append (by omega) [0, 0, 0, 0] (leBytes 2 count)
  have hat6 : inputAt ([0, 0, 0, 0] ++ leBytes 2 first ++ leBytes 2 count) 6 2 = count := by
    have h := inputAt_append (n := 2) (v := count) (by omega) ([0, 0, 0, 0] ++ leBytes 2 first) []
    rwa [List.append_nil] at h
  have hat0 : inputAt ([0, 0, 0, 0] ++ leBytes 2 first ++ leBytes 2 count) 0 1 = 0 := rfl
  have hat1 : inputAt ([0, 0, 0, 0] ++ leBytes 2 first ++ leBytes 2 count) 1 3 = 0 := rfl
  have hlen : ([0, 0, 0, 0] ++ leBytes 2 first ++ leBytes 2 count).length = 8 := rfl
  rw [execVendorGetLog, whenOpen, if_pos hopen]
  dsimp only
  rw [hat4, hat6, hat0, hat1, hlen, if_neg (by omega), if_pos rfl]

end TroubleLog

/-- Settles O58: an entry's index, its age and its slot below HEAD are one count, which Get Log and LOG_RING take from its two ends. -/
theorem logIndexNamesSlot : Obligations.LogIndexNamesSlot := by
  intro s i e hsound htrain hup hi he
  have hlog : LogSound s.log := hsound.log
  refine ⟨?_, fun w hw => ?_⟩
  · have hopen : mailboxOpen s = true := by rw [mailboxOpen, htrain, hup]; rfl
    have hmax : i.toNat ≤ 4095 := Nat.le_of_lt_succ (hi.trans_le hlog.ring)
    have hget := execVendorGetLog_present (count := 1) hopen hmax (by decide) (by decide)
    rw [logFrom_one hi he, List.flatMap_singleton] at hget
    exact hget
  · rw [regValue_logHead hlog, regValue_logStatus_count hlog, regValue_logRing (Nat.mod_lt _ (by decide)) hw,
      ringSlot_index hlog hi, he]
    rfl

end Sys2Proof.Machine

/-! PROOFS. The performance monitors: the bin of a value, a sample into one monitor, and the Monitor frame (R518 to R522). -/

namespace Sys2Proof.Machine

section Monitors
variable {s u : State} {m : Monitor} {cfg code index k v : Nat}

/-! ### Tables and counters -/

/-- A write of other than the default leaves what is read under another key; the keys need not rise. -/
theorem tget_tput_ne_of_value_ne_default {α : Type} [DecidableEq α] {d v : α} (hv : v ≠ d) {n j : Nat} (hj : j ≠ n)
    (l : Table α) : tget d (tput d n v l) j = tget d l j := by
  induction l with
  | nil => simp [tput, hv, tget, hj]
  | cons c l ih =>
    obtain ⟨i, w⟩ := c
    unfold tput
    split
    · next hni =>
      rw [tget, if_neg hj]
      split
      · next hjn => rw [tget, if_neg (by omega), if_pos (by omega)]
      · rfl
    · split
      · next hni => simp [tget, hni ▸ hj, hni]
      · simp only [tget, ih]

theorem satAdd_eq_min (n k top : Nat) : satAdd top n k = Nat.min (n + k) top := by
  simp only [satAdd, Nat.min_def]

theorem satAdd_one_ne_zero {n top : Nat} (htop : 0 < top) : satAdd top n 1 ≠ 0 := by
  rw [satAdd]
  split <;> omega

theorem satAdd_one_eq_top_iff {n top : Nat} : satAdd top n 1 = top ↔ top ≤ n + 1 := by
  rw [satAdd]
  split <;> omega

/-! ### The bin of a value (R519) -/

theorem binOf_lt (cfg v : Nat) : binOf cfg v < 16 := by
  rw [binOf]
  split
  · decide
  · exact Nat.lt_succ_of_le (Nat.min_le_left _ _)

/-- A value lies in a bin above `k` exactly where it reaches the upper edge of bin `k`: all of R519's three cases. -/
theorem lt_binOf_iff (hk : k < 15) : k < binOf cfg v ↔ bitsOf cfg 15 0 + k * 2 ^ bitsOf cfg 31 28 ≤ v := by
  rw [binOf]
  split
  · next hv => omega
  · next hv =>
    have hdiv : k ≤ (v - bitsOf cfg 15 0) / 2 ^ bitsOf cfg 31 28 ↔ k * 2 ^ bitsOf cfg 31 28 ≤ v - bitsOf cfg 15 0 :=
      Nat.le_div_iff_mul_le (Nat.two_pow_pos _)
    have hmin : k < Nat.min 15 ((v - bitsOf cfg 15 0) / 2 ^ bitsOf cfg 31 28 + 1) ↔
        k ≤ (v - bitsOf cfg 15 0) / 2 ^ bitsOf cfg 31 28 := by
      rw [← Nat.lt_succ_iff]
      exact Nat.lt_min.trans (and_iff_right hk)
    rw [hmin, hdiv]
    omega

theorem binOf_eq_zero_iff : binOf cfg v = 0 ↔ v < bitsOf cfg 15 0 := by
  have h := lt_binOf_iff (cfg := cfg) (v := v) (k := 0) (by decide)
  omega

theorem binOf_range (hlow : 0 < binOf cfg v) (hhigh : binOf cfg v < 15) :
    bitsOf cfg 15 0 + (binOf cfg v - 1) * 2 ^ bitsOf cfg 31 28 ≤ v ∧
      v < bitsOf cfg 15 0 + binOf cfg v * 2 ^ bitsOf cfg 31 28 :=
  ⟨(lt_binOf_iff (by omega)).mp (by omega), Nat.lt_of_not_le fun h => lt_irrefl _ ((lt_binOf_iff hhigh).mpr h)⟩

theorem binOf_eq_fifteen_iff : binOf cfg v = 15 ↔ bitsOf cfg 15 0 + 14 * 2 ^ bitsOf cfg 31 28 ≤ v := by
  have hlt := binOf_lt cfg v
  rw [← lt_binOf_iff (by decide)]
  omega

/-! ### A sample into one monitor (R519, R520) -/

theorem takeValue_count (v : Nat) (m : Monitor) : (takeValue v m).count = Nat.min (m.count + 1) max32 :=
  satAdd_eq_min ..

theorem takeValue_bin_same (v : Nat) (m : Monitor) :
    tget 0 (takeValue v m).bins (binOf m.cfg v) = Nat.min (tget 0 m.bins (binOf m.cfg v) + 1) max32 :=
  (tget_tput_self _ _ _ (satAdd_one_ne_zero (by decide)) _).trans (satAdd_eq_min ..)

theorem takeValue_bin_ne {c : Nat} (hc : c ≠ binOf m.cfg v) : tget 0 (takeValue v m).bins c = tget 0 m.bins c :=
  tget_tput_ne_of_value_ne_default (satAdd_one_ne_zero (by decide)) hc _

theorem takeValue_sat_iff (v : Nat) (m : Monitor) : (takeValue v m).sat = true ↔
    m.sat = true ∨ (takeValue v m).count = max32 ∨ tget 0 (takeValue v m).bins (binOf m.cfg v) = max32 := by
  have hcount : (takeValue v m).count = max32 ↔ max32 ≤ m.count + 1 := satAdd_one_eq_top_iff
  have hbin : tget 0 (takeValue v m).bins (binOf m.cfg v) = max32 ↔ max32 ≤ tget 0 m.bins (binOf m.cfg v) + 1 := by
    rw [takeValue_bin_same, ← satAdd_eq_min, satAdd_one_eq_top_iff]
  rw [hcount, hbin]
  simp [takeValue, or_assoc]

/-! ### A sample in the bank (R518, R522) -/

theorem watchers_singleton (hup : s.warm.engineUp = true) (hmons : s.mon.mons = [(k, m)])
    (hw : watches code index m = true) : watchers code index s = 1 := by
  simp [watchers, hup, hmons, hw]

theorem sample_singleton (hup : s.warm.engineUp = true) (hmons : s.mon.mons = [(k, m)])
    (hw : watches code index m = true) (hfreeze : s.mon.freeze = false) (hv : v ≤ 65535) :
    sample code index v s = { s with mon := { s.mon with mons := [(k, takeValue v m)] } } := by
  have hcap : Nat.min v 65535 = v := Nat.min_eq_left hv
  simp [sample, watchers_singleton hup hmons hw, hfreeze, hmons, hw, hcap]

theorem sample_singleton_frozen (hup : s.warm.engineUp = true) (hmons : s.mon.mons = [(k, m)])
    (hw : watches code index m = true) (hfreeze : s.mon.freeze = true) :
    sample code index v s = { s with mon := { s.mon with drops := satAdd max32 s.mon.drops 1 } } := by
  simp [sample, watchers_singleton hup hmons hw, hfreeze]

/-- What a sample makes of the bank depends on the bank and on whether the engine is up. -/
theorem sample_mon_congr (hmon : u.mon = s.mon) (hwarm : u.warm = s.warm) (code index v : Nat) :
    (sample code index v u).mon = (sample code index v s).mon := by
  have hn : watchers code index u = watchers code index s := by rw [watchers, watchers, hmon, hwarm]
  simp only [sample, hn, hmon]
  split
  · exact hmon
  · split <;> rfl

end Monitors

section MonitorFrame
variable {s : State} {hdr : FrameHdr}

/-! ### The next SEQ of a receiver (R535) -/

theorem hdl_setHdl (e : End) (f : HdlEnd → HdlEnd) (s : State) : hdl e (setHdl e f s) = f (hdl e s) := by
  cases e <;> rfl

theorem hdl_emit (e : End) (x : Sent) (s : State) : hdl e (emit x s) = hdl e s := by
  cases e <;> rfl

/-- What an end transmits leaves the SEQ that it expects. -/
theorem pump_rxSeq (e : End) (n : Nat) (s : State) : (hdl e (pump e n s)).rxSeq = (hdl e s).rxSeq := by
  induction n generalizing s with
  | zero => rfl
  | succ n ih =>
    unfold pump
    dsimp only
    split
    · split
      · rw [ih, hdl_emit, hdl_setHdl]
      · rfl
    · rfl

theorem hdl_foldl_resend (e : End) (l : List Unacked) (s : State) :
    hdl e (l.foldl (fun s u => emit (.frame e u.seq (ackOf e s) u.frame) s) s) = hdl e s := by
  induction l generalizing s with
  | nil => rfl
  | cons u l ih => exact (ih _).trans (hdl_emit ..)

theorem resendAll_rxSeq (e : End) (s : State) : (hdl e (resendAll e s)).rxSeq = (hdl e s).rxSeq := by
  rw [resendAll, hdl_setHdl, hdl_foldl_resend]

theorem takeAck_rxSeq (e : End) (hdr : FrameHdr) (s : State) : (hdl e (takeAck e hdr s)).rxSeq = (hdl e s).rxSeq := by
  rw [takeAck, pump_rxSeq]
  split
  · rw [resendAll_rxSeq, hdl_setHdl]
  · rw [hdl_setHdl]

theorem receive_rxSeq {e : End} (h : accepts e hdr s = true) :
    (hdl e (receive e hdr s)).rxSeq = ((hdl e s).rxSeq + 1) % 256 := by
  obtain ⟨⟨hup, hvalid⟩, hseq⟩ : ((hdl e s).up = true ∧ hdr.valid = true) ∧ hdr.seq = (hdl e s).rxSeq := by
    simpa [accepts] using h
  rw [receive, if_neg (by simp [hup]), if_neg (by simp [hvalid])]
  dsimp only
  rw [if_pos (hseq.trans (takeAck_rxSeq ..).symm), hdl_setHdl, takeAck_rxSeq]

/-! ### The frame (R518, R534) -/

theorem receive_frame (e : End) (hdr : FrameHdr) (s : State) : Changes 0x4c000000 s (receive e hdr s) :=
  receive_changes e hdr (by rfl) (.refl _ s)

theorem sample_frame (code index v : Nat) (s : State) : Changes 0x2000000 s (sample code index v s) :=
  sample_changes code index v (by rfl) (.refl _ s)

/-- An accepted Monitor frame of one sample of the power controller delivers it after the link's own work. -/
theorem execMonitorFrame_singleton {x : MonSample} (hacc : accepts .engine hdr s = true) (hcode : 11 ≤ x.code) :
    execMonitorFrame hdr [x] s = .next (sample x.code x.index x.value (receive .engine hdr s)) := by
  simp [execMonitorFrame, hacc, hcode]

theorem exec_monitorFrame (hdr : FrameHdr) (l : List MonSample) (s : State) :
    exec (.monitorFrame hdr l) s = execMonitorFrame hdr l s := rfl

end MonitorFrame

/-- Settles O60: `takeValue` meets R519 and R520 bin by bin, and a Monitor frame's sample meets the bank as it stood. -/
theorem samplesGoIntoBins : Obligations.SamplesGoIntoBins := by
  refine ⟨fun s code index v k m hup hv hmons hw _ _ => ⟨fun hfreeze => ?_, fun hfreeze => ?_⟩,
    fun s hdr x hacc hcode => ?_⟩
  · exact ⟨takeValue v m, binOf m.cfg v, sample_singleton hup hmons hw hfreeze hv, rfl, rfl, rfl, rfl,
      takeValue_count v m, binOf_lt _ _, binOf_eq_zero_iff, binOf_range, binOf_eq_fifteen_iff,
      takeValue_bin_same v m, fun c hc => takeValue_bin_ne hc, takeValue_sat_iff v m⟩
  · exact sample_singleton_frozen hup hmons hw hfreeze
  · have hrecv := receive_frame .engine hdr s
    have hsample := sample_frame x.code x.index x.value (receive .engine hdr s)
    refine ⟨_, (exec_monitorFrame ..).trans (execMonitorFrame_singleton hacc hcode), ?_, ?_, ?_⟩
    · exact sample_mon_congr (hrecv.mon rfl) (hrecv.warm rfl) ..
    · rw [hsample.hdlE rfl]
      exact receive_rxSeq hacc
    · exact (hsample.cache rfl).trans (hrecv.cache rfl)

end Sys2Proof.Machine

/-! PROOFS. One step: the command at the front, the tick, soundness, and the parts of the state that a command reaches. -/

namespace Sys2Proof.Machine

section Steps
variable {s t : State}

/-- The queue plays no part in what makes a state sound. -/
theorem Sound.withPending (h : Sound s) (q : List Instr) : Sound { s with pending := q } :=
  ⟨h.memory, h.log, h.engineEnd, h.pctrlEnd, h.events, h.domains, h.pairs, h.cache, h.nand, h.thermal, h.sources,
    h.received, h.words, h.monitors, h.time⟩

theorem exec_sound (c : Instr) (h : Sound s) (ht : exec c s = .next t) : Sound t :=
  ((exec_changes c (m' := 0x2ffffffff) rfl (.refl _ s)).out t ht).sound h

theorem tick_sound (h : Sound s) : Sound (tick s) :=
  (tick_changes (m' := 0xffffefff) rfl (.refl _ s)).sound h

theorem tick_unpowered (h : s.pwr.keeper = false) : tick s = s := by
  rw [tick, h]
  rfl

theorem step_nil (h : s.pending = []) : step s = .next (tick s) := by
  rw [step, h]

theorem step_cons {c : Instr} {q : List Instr} (h : s.pending = c :: q) : step s = exec c { s with pending := q } := by
  rw [step, h]

end Steps

/-- Settles O4. -/
theorem stepKeepsSound : Obligations.StepKeepsSound := by
  intro s t h ht
  cases hq : s.pending with
  | nil =>
    rw [step_nil hq] at ht
    cases ht
    exact tick_sound h
  | cons c q =>
    rw [step_cons hq] at ht
    exact exec_sound c (h.withPending q) ht

/-- Settles O1. -/
theorem stepRunsFrontCommand : Obligations.StepRunsFrontCommand :=
  fun _ _ => step_cons rfl

/-- Settles O2. -/
theorem emptyQueueTicks : Obligations.EmptyQueueTicks :=
  fun _ h => ⟨step_nil h, tick_unpowered⟩

/-- Settles O3: at reset every table and log is empty, and each fixed family has its number of members. -/
theorem resetIsSound : Obligations.ResetIsSound where
  memory := reset_memory_wf
  log := .fresh rfl rfl rfl
  engineEnd := .fresh rfl rfl rfl
  pctrlEnd := .fresh rfl rfl rfl
  events := ⟨rfl, by decide⟩
  domains := rfl
  pairs := rfl
  cache := ⟨rfl, rfl, rfl, rfl⟩
  nand := ⟨rfl, rfl, rfl⟩
  thermal := ⟨rfl, rfl⟩
  sources := rfl
  received := rfl
  words := rfl
  monitors := rfl
  time := by decide

/-! ### The parts of the state that a command reaches -/

theorem Covers.self (k : Nat) : Covers k k := Nat.or_self k

/-- The parts of the state that a command may change: one bit for each field of `State`, as in `Changes`. -/
def partsOf : Instr → Nat
  | .autoZero => 0x0
  | .logMark .. | .logSecondEnd => 0x4
  | .gcStart .. => 0x8
  | .govTokenTick | .epochAgeExpiry => 0x10
  | .logSnapshotDone .. => 0x64
  | .backgroundLoad => 0x80
  | .hdmDecoderCommit .. => 0x400
  | .impedanceStep .. | .quietEntry => 0x8000
  | .chargeTermination | .chargerStep | .impedanceProbe | .exerciseStart => 0x18000
  | .firstErrorClear .. => 0x40000
  | .groupDelayExpiry => 0x42300
  | .latchedClear .. => 0x42304
  | .coolWaitExpiry => 0xc2320
  | .eflProgram .. | .flashWriteRetry => 0x400000
  | .withdraw .. | .drfCandDataWrite .. => 0x600000
  | .monCfgWrite .. | .monClearAll .. | .monFreeze .. => 0x2000000
  | .dischargeDone .. | .shedSpacingExpiry => 0x4342213
  | .nandRbNChange .. | .belayWpTimeout => 0x434221b
  | .eflSuspend .. | .eflResume .. | .wpLock .. => 0x20400000
  | .gpfPhase1Request | .capability | .voutMode | .statusByte | .statusWord | .statusVout | .statusIout
  | .statusInput | .statusTemperature | .statusCml | .readVin | .readVout | .readIout | .readTemperature1
  | .readTemperature2 | .pmbusRevision | .mfrId | .mfrModel | .mfrRevision | .alertResponse | .heddleAckTick ..
    => 0x40000000
  | .railIdleQuery | .engageStep .. => 0x40000100
  | .gpfPhase2Request | .msixUnmask .. | .identify | .getEventRecords .. | .getEventInterruptPolicy
  | .getFwInfo | .getTimestamp | .getSupportedLogs | .getLog .. | .identifyMemoryDevice | .getPartitionInfo
  | .getLsa .. | .getHealthInfo | .getAlertConfiguration | .getShutdownState | .getPoisonList ..
  | .unsupportedCommand .. | .getVaultStatus .. | .getLossReport .. | .vendorGetLog .. => 0x40000400
  | .setBoltCap .. => 0x40000401
  | .clearEventRecords .. | .setEventInterruptPolicy .. | .setAlertConfiguration .. | .setShutdownState ..
    => 0x40000c00
  | .sealImage .. => 0x40000c10
  | .slewSettled .. => 0x40002200
  | .requestVault .. => 0x40080400
  | .setTimestamp .. => 0x41000400
  | .loopWindowExpiry .. => 0x42000100
  | .heddleControlFrame .. => 0x4c000000
  | .logFrame .. | .knotPointerFrame .. => 0x4c000004
  | .warningFrame .. => 0x4c000028
  | .railAck .. => 0x4c040100
  | .reefHoldMaxExpiry .. | .budgetRecoverExpiry | .engineAnalogLimit .. => 0x4c0c0020
  | .manifestBuild => 0x4c0c0030
  | .restoreDiscover .. => 0x4c0c00a0
  | .railAckTimeout .. => 0x4c0c0120
  | .cxlLinkTrained .. => 0x4c0c0420
  | .sealResidualZero => 0x4c0c0870
  | .draftFrame .. | .draftStreamRetry => 0x4c200000
  | .fenceNotice .. => 0x4c342213
  | .holdMaxExpiry => 0x4c3422b3
  | .storeFloorReached => 0x4c3462b3
  | .monitorFrame .. => 0x4e000000
  | .regAddr .. | .regStatus | .page .. | .operation .. | .invalidCommand .. => 0x60000000
  | .clearFaults .. => 0x60042304
  | .registerResponse .. | .unreachableTimeout .. => 0x7c000000
  | .belaypActive => 0x863c221b
  | .backgroundOperationStatus => 0xc0000400
  | .timeFrame .. => 0xcd000000
  | .abandonFrame .. => 0xce000039
  | .specMaxExpiry => 0xce0c0039
  | .knotRecordProgram .. => 0xce0c0079
  | .stagingSelect .. | .garbageCollectionRead .. | .drainSelect .. => 0xce0c007b
  | .patrolScrub .. => 0xce0c04eb
  | .heldWriteRelease | .functionLevelReset | .epbRecomputeTick | .energyFrame .. | .energyStaleExpiry
  | .pageProgramDone .. | .blockEraseDone .. | .spareCapacityCheck | .nandDiscoveryDone .. => 0xce0c0c7b
  | .sanitize | .dropImage .. | .newestKnotFound .. => 0xce0c0cfb
  | .stallWatchdogExpiry .. => 0xce0c0d7b
  | .gpfPhase2Response => 0xce0c8571
  | .perstN | .hotReset | .linkDown | .cxlReset => 0xce0c8d7b
  | .stewardUnitReset .. => 0xce0de1fd
  | .warmRstN .. | .stewardWarmReset | .activate .. => 0xce380c3d
  | .windowExpiry => 0xce3caf73
  | .cxlMemWrite .. | .capQueueRelease .. | .cxlMemRead .. | .demandFetchComplete .. | .sealTimeout
  | .backgroundCommandDone | .budgetEvalTick | .knotTimeout .. | .pfActive | .vreqActive | .stewardVaultRequest
  | .finalKnotProgram .. | .heartbeatToggle .. | .heartbeatTimeout .. | .holdIslandReady | .rebootTimeoutExpiry
  | .granuleLoadDone .. | .set .. | .query .. | .engage .. | .railFallback | .vinSenseDisagree | .holdupTest ..
  | .phaseFault .. | .ibusOverload .. | .ibusOverloadRecheck .. | .ibusCollapse .. | .ibusLost ..
  | .domainGood .. | .pgTimeout .. | .domainOutOfWindow .. | .trackingFault .. | .chargeTimeout
  | .exerciseGrant .. | .exerGrantWaitExpiry | .storeRateCheck | .sourceEntersFault .. | .sourceBroken ..
  | .unitResetDone .. | .faultFrame .. | .belayeActive | .shadowExpiry .. | .severityRaise ..
  | .collectorSelfCheck .. | .selvedgeCheck .. | .selvedgeCheckTimeout | .belaySettleExpiry | .recover ..
  | .pairBroken .. | .pairRelease .. | .draftCrcReply .. => 0xce3defff
  | .earlyWarning .. | .specAbandonExpiry .. | .pfFilterExpiry .. | .inputOvervoltage .. | .inputStuck ..
  | .inputChatter .. | .inputRelease .. => 0xce3dffff
  | .vaultResume .. => 0xce3eafff
  | .thmRateCheck | .compensationTick | .thermalShutdownExit => 0xce3fefff
  | .mapLoadDone .. => 0xce4c0cfd
  | .setLsa .. | .knotReadback .. | .stewardWatchdogExpiry | .cellScan .. | .gaugeUpdate .. | .restPoint ..
  | .emptyAnchor | .submit .. | .eraseCand .. | .eflErase .. | .fwErase .. | .fwSubmit ..
  | .eflOperationDone .. => 0xce7defff
  | .fadeDaily | .sensorSample .. | .thmHoldExpiry .. | .sensorReturn .. | .thermalStageOne
  | .thermalStageTwo .. => 0xce7fefff
  | .lifeCycleRequest .. => 0xce8004b5
  | .restoreReady => 0xcebdefff
  | .secureErase .. => 0xcefdefff
  | .refclkLoss .. | .refclkReturn => 0xcf3defff
  | .rwpPairTimeout .. => 0xde3defff
  | .heddleResendExpiry .. | .heddleLinkDown .. => 0xee3defff
  | .keeperStart .. => 0xeeffefff
  | .heddleLinkUp => 0xef3defff
  | .regDataRead .. | .registerRead .. => 0xfe7defff
  | .regDataWrite .. | .registerFrame .. | .registerWrite .. => 0xfffdefff
  | .vinGood .. => 0xffffffff
  | .keeperStop => 0x2bfffffff

/-- The frame of every command. -/
theorem exec_parts (c : Instr) (s : State) : ChangesOut (partsOf c) s (exec c s) := by
  cases c with
  | cxlMemWrite => exact execCxlMemWrite_changes _ _ _ _ _ _ _ _ (.self _) (.refl _ s)
  | heldWriteRelease => exact execHeldWriteRelease_changes (.self _) (.refl _ s)
  | capQueueRelease => exact execCapQueueRelease_changes _ (.self _) (.refl _ s)
  | cxlMemRead => exact execCxlMemRead_changes _ _ _ _ _ _ _ (.self _) (.refl _ s)
  | demandFetchComplete => exact execDemandFetchComplete_changes _ _ _ (.self _) (.refl _ s)
  | gpfPhase1Request => exact execGpfPhase1Request_changes (.self _) (.refl _ s)
  | gpfPhase2Request => exact execGpfPhase2Request_changes (.self _) (.refl _ s)
  | gpfPhase2Response => exact execGpfPhase2Response_changes (.self _) (.refl _ s)
  | windowExpiry => exact execWindowExpiry_changes (.self _) (.refl _ s)
  | cxlLinkTrained => exact execCxlLinkTrained_changes _ _ _ (.self _) (.refl _ s)
  | hdmDecoderCommit => exact execHdmDecoderCommit_changes _ _ (.self _) (.refl _ s)
  | perstN => exact execPerstN_changes (.self _) (.refl _ s)
  | hotReset => exact execHotReset_changes (.self _) (.refl _ s)
  | linkDown => exact execLinkDown_changes (.self _) (.refl _ s)
  | cxlReset => exact execCxlReset_changes (.self _) (.refl _ s)
  | functionLevelReset => exact execFunctionLevelReset_changes (.self _) (.refl _ s)
  | msixUnmask => exact execMsixUnmask_changes _ (.self _) (.refl _ s)
  | identify => exact execIdentify_changes (.self _) (.refl _ s)
  | backgroundOperationStatus => exact execBackgroundOperationStatus_changes (.self _) (.refl _ s)
  | getEventRecords => exact execGetEventRecords_changes _ (.self _) (.refl _ s)
  | clearEventRecords => exact execClearEventRecords_changes _ _ _ (.self _) (.refl _ s)
  | getEventInterruptPolicy => exact execGetEventInterruptPolicy_changes (.self _) (.refl _ s)
  | setEventInterruptPolicy => exact execSetEventInterruptPolicy_changes _ _ _ _ (.self _) (.refl _ s)
  | getFwInfo => exact execGetFwInfo_changes (.self _) (.refl _ s)
  | getTimestamp => exact execGetTimestamp_changes (.self _) (.refl _ s)
  | setTimestamp => exact execSetTimestamp_changes _ (.self _) (.refl _ s)
  | getSupportedLogs => exact execGetSupportedLogs_changes (.self _) (.refl _ s)
  | getLog => exact execGetLog_changes _ _ _ (.self _) (.refl _ s)
  | identifyMemoryDevice => exact execIdentifyMemoryDevice_changes (.self _) (.refl _ s)
  | getPartitionInfo => exact execGetPartitionInfo_changes (.self _) (.refl _ s)
  | getLsa => exact execGetLsa_changes _ _ (.self _) (.refl _ s)
  | setLsa => exact execSetLsa_changes _ _ (.self _) (.refl _ s)
  | getHealthInfo => exact execGetHealthInfo_changes (.self _) (.refl _ s)
  | getAlertConfiguration => exact execGetAlertConfiguration_changes (.self _) (.refl _ s)
  | setAlertConfiguration => exact execSetAlertConfiguration_changes _ _ _ (.self _) (.refl _ s)
  | getShutdownState => exact execGetShutdownState_changes (.self _) (.refl _ s)
  | setShutdownState => exact execSetShutdownState_changes _ (.self _) (.refl _ s)
  | getPoisonList => exact execGetPoisonList_changes _ _ (.self _) (.refl _ s)
  | sanitize => exact execSanitize_changes (.self _) (.refl _ s)
  | secureErase => exact execSecureErase_changes _ (.self _) (.refl _ s)
  | unsupportedCommand => exact execUnsupportedCommand_changes 0 (.self _) (.refl _ s)
  | getVaultStatus => exact execGetVaultStatus_changes _ (.self _) (.refl _ s)
  | requestVault => exact execRequestVault_changes _ (.self _) (.refl _ s)
  | sealImage => exact execSealImage_changes _ (.self _) (.refl _ s)
  | sealResidualZero => exact execSealResidualZero_changes (.self _) (.refl _ s)
  | sealTimeout => exact execSealTimeout_changes (.self _) (.refl _ s)
  | dropImage => exact execDropImage_changes _ (.self _) (.refl _ s)
  | getLossReport => exact execGetLossReport_changes _ (.self _) (.refl _ s)
  | setBoltCap => exact execSetBoltCap_changes _ (.self _) (.refl _ s)
  | vendorGetLog => exact execVendorGetLog_changes _ (.self _) (.refl _ s)
  | backgroundCommandDone => exact execBackgroundCommandDone_changes (.self _) (.refl _ s)
  | budgetEvalTick => exact execBudgetEvalTick_changes (.self _) (.refl _ s)
  | reefHoldMaxExpiry => exact execReefHoldMaxExpiry_changes _ (.self _) (.refl _ s)
  | budgetRecoverExpiry => exact execBudgetRecoverExpiry_changes (.self _) (.refl _ s)
  | epbRecomputeTick => exact execEpbRecomputeTick_changes (.self _) (.refl _ s)
  | govTokenTick => exact execGovTokenTick_changes (.self _) (.refl _ s)
  | energyFrame => exact execEnergyFrame_changes _ _ _ _ (.self _) (.refl _ s)
  | energyStaleExpiry => exact execEnergyStaleExpiry_changes (.self _) (.refl _ s)
  | stagingSelect => exact execStagingSelect_changes _ (.self _) (.refl _ s)
  | epochAgeExpiry => exact execEpochAgeExpiry_changes (.self _) (.refl _ s)
  | pageProgramDone => exact execPageProgramDone_changes _ _ _ _ _ (.self _) (.refl _ s)
  | knotRecordProgram => exact execKnotRecordProgram_changes _ _ _ _ (.self _) (.refl _ s)
  | knotReadback => exact execKnotReadback_changes _ _ _ (.self _) (.refl _ s)
  | knotTimeout => exact execKnotTimeout_changes _ (.self _) (.refl _ s)
  | gcStart => exact execGcStart_changes _ _ (.self _) (.refl _ s)
  | garbageCollectionRead => exact execGarbageCollectionRead_changes _ _ _ _ (.self _) (.refl _ s)
  | blockEraseDone => exact execBlockEraseDone_changes _ _ _ (.self _) (.refl _ s)
  | patrolScrub => exact execPatrolScrub_changes _ _ _ (.self _) (.refl _ s)
  | spareCapacityCheck => exact execSpareCapacityCheck_changes (.self _) (.refl _ s)
  | nandDiscoveryDone => exact execNandDiscoveryDone_changes _ _ (.self _) (.refl _ s)
  | earlyWarning => exact execEarlyWarning_changes _ _ _ (.self _) (.refl _ s)
  | specAbandonExpiry => exact execSpecAbandonExpiry_changes _ _ (.self _) (.refl _ s)
  | warningFrame => exact execWarningFrame_changes _ (.self _) (.refl _ s)
  | abandonFrame => exact execAbandonFrame_changes _ (.self _) (.refl _ s)
  | specMaxExpiry => exact execSpecMaxExpiry_changes (.self _) (.refl _ s)
  | pfFilterExpiry => exact execPfFilterExpiry_changes _ _ _ (.self _) (.refl _ s)
  | inputOvervoltage => exact execInputOvervoltage_changes _ (.self _) (.refl _ s)
  | pfActive => exact execPfActive_changes (.self _) (.refl _ s)
  | vreqActive => exact execVreqActive_changes (.self _) (.refl _ s)
  | stewardVaultRequest => exact execStewardVaultRequest_changes (.self _) (.refl _ s)
  | manifestBuild => exact execManifestBuild_changes (.self _) (.refl _ s)
  | drainSelect => exact execDrainSelect_changes _ (.self _) (.refl _ s)
  | logSnapshotDone => exact execLogSnapshotDone_changes _ (.self _) (.refl _ s)
  | finalKnotProgram => exact execFinalKnotProgram_changes _ _ _ _ (.self _) (.refl _ s)
  | holdMaxExpiry => exact execHoldMaxExpiry_changes (.self _) (.refl _ s)
  | storeFloorReached => exact execStoreFloorReached_changes (.self _) (.refl _ s)
  | vinGood => exact execVinGood_changes _ (.self _) (.refl _ s)
  | stallWatchdogExpiry => exact execStallWatchdogExpiry_changes _ (.self _) (.refl _ s)
  | heartbeatToggle => exact execHeartbeatToggle_changes _ (.self _) (.refl _ s)
  | heartbeatTimeout => exact execHeartbeatTimeout_changes _ (.self _) (.refl _ s)
  | holdIslandReady => exact execHoldIslandReady_changes (.self _) (.refl _ s)
  | rebootTimeoutExpiry => exact execRebootTimeoutExpiry_changes (.self _) (.refl _ s)
  | vaultResume => exact execVaultResume_changes _ (.self _) (.refl _ s)
  | coolWaitExpiry => exact execCoolWaitExpiry_changes (.self _) (.refl _ s)
  | warmRstN => exact execWarmRstN_changes _ _ (.self _) (.refl _ s)
  | stewardWarmReset => exact execStewardWarmReset_changes (.self _) (.refl _ s)
  | stewardWatchdogExpiry => exact execStewardWatchdogExpiry_changes (.self _) (.refl _ s)
  | keeperStart => exact execKeeperStart_changes _ _ _ _ _ (.self _) (.refl _ s)
  | keeperStop => exact execKeeperStop_changes (.self _) (.refl _ s)
  | restoreDiscover => exact execRestoreDiscover_changes _ (.self _) (.refl _ s)
  | newestKnotFound => exact execNewestKnotFound_changes _ (.self _) (.refl _ s)
  | mapLoadDone => exact execMapLoadDone_changes _ (.self _) (.refl _ s)
  | restoreReady => exact execRestoreReady_changes (.self _) (.refl _ s)
  | backgroundLoad => exact execBackgroundLoad_changes (.self _) (.refl _ s)
  | granuleLoadDone => exact execGranuleLoadDone_changes _ _ _ (.self _) (.refl _ s)
  | loopWindowExpiry => exact execLoopWindowExpiry_changes _ _ _ (.self _) (.refl _ s)
  | set => exact execSet_changes _ _ _ _ (.self _) (.refl _ s)
  | query => exact execQuery_changes _ _ _ _ (.self _) (.refl _ s)
  | engage => exact execEngage_changes _ _ _ _ (.self _) (.refl _ s)
  | slewSettled => exact execSlewSettled_changes _ (.self _) (.refl _ s)
  | railAck => exact execRailAck_changes _ _ _ (.self _) (.refl _ s)
  | railAckTimeout => exact execRailAckTimeout_changes _ (.self _) (.refl _ s)
  | railIdleQuery => exact execRailIdleQuery_changes (.self _) (.refl _ s)
  | railFallback => exact execRailFallback_changes (.self _) (.refl _ s)
  | engageStep => exact execEngageStep_changes _ (.self _) (.refl _ s)
  | vinSenseDisagree => exact execVinSenseDisagree_changes (.self _) (.refl _ s)
  | holdupTest => exact execHoldupTest_changes _ (.self _) (.refl _ s)
  | phaseFault => exact execPhaseFault_changes _ _ _ (.self _) (.refl _ s)
  | ibusOverload => exact execIbusOverload_changes _ (.self _) (.refl _ s)
  | ibusOverloadRecheck => exact execIbusOverloadRecheck_changes _ (.self _) (.refl _ s)
  | ibusCollapse => exact execIbusCollapse_changes _ (.self _) (.refl _ s)
  | ibusLost => exact execIbusLost_changes _ (.self _) (.refl _ s)
  | domainGood => exact execDomainGood_changes _ _ _ (.self _) (.refl _ s)
  | groupDelayExpiry => exact execGroupDelayExpiry_changes (.self _) (.refl _ s)
  | pgTimeout => exact execPgTimeout_changes _ (.self _) (.refl _ s)
  | domainOutOfWindow => exact execDomainOutOfWindow_changes _ _ (.self _) (.refl _ s)
  | trackingFault => exact execTrackingFault_changes _ (.self _) (.refl _ s)
  | dischargeDone => exact execDischargeDone_changes _ (.self _) (.refl _ s)
  | fenceNotice => exact execFenceNotice_changes _ (.self _) (.refl _ s)
  | shedSpacingExpiry => exact execShedSpacingExpiry_changes (.self _) (.refl _ s)
  | cellScan => exact execCellScan_changes _ _ _ (.self _) (.refl _ s)
  | chargeTermination => exact execChargeTermination_changes (.self _) (.refl _ s)
  | chargeTimeout => exact execChargeTimeout_changes (.self _) (.refl _ s)
  | chargerStep => exact execChargerStep_changes (.self _) (.refl _ s)
  | impedanceStep => exact execImpedanceStep_changes _ (.self _) (.refl _ s)
  | impedanceProbe => exact execImpedanceProbe_changes (.self _) (.refl _ s)
  | autoZero => exact execAutoZero_changes (.self _) (.refl _ s)
  | gaugeUpdate => exact execGaugeUpdate_changes _ _ (.self _) (.refl _ s)
  | quietEntry => exact execQuietEntry_changes (.self _) (.refl _ s)
  | restPoint => exact execRestPoint_changes _ (.self _) (.refl _ s)
  | exerciseStart => exact execExerciseStart_changes (.self _) (.refl _ s)
  | exerciseGrant => exact execExerciseGrant_changes _ (.self _) (.refl _ s)
  | exerGrantWaitExpiry => exact execExerGrantWaitExpiry_changes (.self _) (.refl _ s)
  | emptyAnchor => exact execEmptyAnchor_changes (.self _) (.refl _ s)
  | fadeDaily => exact execFadeDaily_changes (.self _) (.refl _ s)
  | sensorSample => exact execSensorSample_changes _ _ (.self _) (.refl _ s)
  | thmHoldExpiry => exact execThmHoldExpiry_changes _ _ (.self _) (.refl _ s)
  | thmRateCheck => exact execThmRateCheck_changes (.self _) (.refl _ s)
  | storeRateCheck => exact execStoreRateCheck_changes (.self _) (.refl _ s)
  | sensorReturn => exact execSensorReturn_changes _ (.self _) (.refl _ s)
  | compensationTick => exact execCompensationTick_changes (.self _) (.refl _ s)
  | engineAnalogLimit => exact execEngineAnalogLimit_changes _ (.self _) (.refl _ s)
  | thermalStageOne => exact execThermalStageOne_changes (.self _) (.refl _ s)
  | thermalStageTwo => exact execThermalStageTwo_changes _ (.self _) (.refl _ s)
  | thermalShutdownExit => exact execThermalShutdownExit_changes (.self _) (.refl _ s)
  | sourceEntersFault => exact execSourceEntersFault_changes _ _ (.self _) (.refl _ s)
  | sourceBroken => exact execSourceBroken_changes _ _ _ (.self _) (.refl _ s)
  | unitResetDone => exact execUnitResetDone_changes _ (.self _) (.refl _ s)
  | faultFrame => exact execFaultFrame_changes _ _ (.self _) (.refl _ s)
  | belayeActive => exact execBelayeActive_changes (.self _) (.refl _ s)
  | belaypActive => exact execBelaypActive_changes (.self _) (.refl _ s)
  | nandRbNChange => exact execNandRbNChange_changes _ _ (.self _) (.refl _ s)
  | belayWpTimeout => exact execBelayWpTimeout_changes (.self _) (.refl _ s)
  | shadowExpiry => exact execShadowExpiry_changes _ (.self _) (.refl _ s)
  | latchedClear => exact execLatchedClear_changes _ _ (.self _) (.refl _ s)
  | severityRaise => exact execSeverityRaise_changes _ _ _ _ (.self _) (.refl _ s)
  | firstErrorClear => exact execFirstErrorClear_changes _ (.self _) (.refl _ s)
  | collectorSelfCheck => exact execCollectorSelfCheck_changes _ (.self _) (.refl _ s)
  | selvedgeCheck => exact execSelvedgeCheck_changes _ _ (.self _) (.refl _ s)
  | selvedgeCheckTimeout => exact execSelvedgeCheckTimeout_changes (.self _) (.refl _ s)
  | belaySettleExpiry => exact execBelaySettleExpiry_changes (.self _) (.refl _ s)
  | recover => exact execRecover_changes _ (.self _) (.refl _ s)
  | inputStuck => exact execInputStuck_changes _ (.self _) (.refl _ s)
  | inputChatter => exact execInputChatter_changes _ _ (.self _) (.refl _ s)
  | inputRelease => exact execInputRelease_changes _ _ (.self _) (.refl _ s)
  | pairBroken => exact execPairBroken_changes _ _ _ (.self _) (.refl _ s)
  | pairRelease => exact execPairRelease_changes _ _ _ (.self _) (.refl _ s)
  | logMark => exact execLogMark_changes _ (.self _) (.refl _ s)
  | logSecondEnd => exact execLogSecondEnd_changes (.self _) (.refl _ s)
  | logFrame => exact execLogFrame_changes _ _ (.self _) (.refl _ s)
  | knotPointerFrame => exact execKnotPointerFrame_changes _ _ _ _ _ (.self _) (.refl _ s)
  | submit => exact execSubmit_changes _ (.self _) (.refl _ s)
  | eraseCand => exact execEraseCand_changes _ (.self _) (.refl _ s)
  | withdraw => exact execWithdraw_changes _ (.self _) (.refl _ s)
  | activate => exact execActivate_changes _ (.self _) (.refl _ s)
  | drfCandDataWrite => exact execDrfCandDataWrite_changes _ _ (.self _) (.refl _ s)
  | draftFrame => exact execDraftFrame_changes _ _ _ (.self _) (.refl _ s)
  | draftCrcReply => exact execDraftCrcReply_changes _ _ _ (.self _) (.refl _ s)
  | draftStreamRetry => exact execDraftStreamRetry_changes (.self _) (.refl _ s)
  | eflProgram => exact execEflProgram_changes _ (.self _) (.refl _ s)
  | eflErase => exact execEflErase_changes _ (.self _) (.refl _ s)
  | eflSuspend => exact execEflSuspend_changes _ (.self _) (.refl _ s)
  | eflResume => exact execEflResume_changes _ (.self _) (.refl _ s)
  | fwErase => exact execFwErase_changes _ (.self _) (.refl _ s)
  | fwSubmit => exact execFwSubmit_changes _ (.self _) (.refl _ s)
  | wpLock => exact execWpLock_changes _ (.self _) (.refl _ s)
  | eflOperationDone => exact execEflOperationDone_changes _ (.self _) (.refl _ s)
  | flashWriteRetry => exact execFlashWriteRetry_changes (.self _) (.refl _ s)
  | lifeCycleRequest => exact execLifeCycleRequest_changes _ _ _ (.self _) (.refl _ s)
  | regAddr => exact execRegAddr_changes _ _ (.self _) (.refl _ s)
  | regDataWrite => exact execRegDataWrite_changes _ _ (.self _) (.refl _ s)
  | regDataRead => exact execRegDataRead_changes _ (.self _) (.refl _ s)
  | regStatus => exact execRegStatus_changes (.self _) (.refl _ s)
  | page => exact execPage_changes _ _ (.self _) (.refl _ s)
  | operation => exact execOperation_changes _ _ (.self _) (.refl _ s)
  | clearFaults => exact execClearFaults_changes _ (.self _) (.refl _ s)
  | capability => exact execCapability_changes (.self _) (.refl _ s)
  | voutMode => exact execVoutMode_changes (.self _) (.refl _ s)
  | statusByte => exact execStatusByte_changes (.self _) (.refl _ s)
  | statusWord => exact execStatusWord_changes (.self _) (.refl _ s)
  | statusVout => exact execStatusVout_changes (.self _) (.refl _ s)
  | statusIout => exact execStatusIout_changes (.self _) (.refl _ s)
  | statusInput => exact execStatusInput_changes (.self _) (.refl _ s)
  | statusTemperature => exact execStatusTemperature_changes (.self _) (.refl _ s)
  | statusCml => exact execStatusCml_changes (.self _) (.refl _ s)
  | readVin => exact execReadVin_changes (.self _) (.refl _ s)
  | readVout => exact execReadVout_changes (.self _) (.refl _ s)
  | readIout => exact execReadIout_changes (.self _) (.refl _ s)
  | readTemperature1 => exact execReadTemperature1_changes (.self _) (.refl _ s)
  | readTemperature2 => exact execReadTemperature2_changes (.self _) (.refl _ s)
  | pmbusRevision => exact execPmbusRevision_changes (.self _) (.refl _ s)
  | mfrId => exact execMfrId_changes (.self _) (.refl _ s)
  | mfrModel => exact execMfrModel_changes (.self _) (.refl _ s)
  | mfrRevision => exact execMfrRevision_changes (.self _) (.refl _ s)
  | invalidCommand => exact execInvalidCommand_changes _ (.self _) (.refl _ s)
  | alertResponse => exact execAlertResponse_changes (.self _) (.refl _ s)
  | registerFrame => exact execRegisterFrame_changes _ _ _ (.self _) (.refl _ s)
  | registerResponse => exact execRegisterResponse_changes _ _ _ (.self _) (.refl _ s)
  | unreachableTimeout => exact execUnreachableTimeout_changes _ (.self _) (.refl _ s)
  | timeFrame => exact execTimeFrame_changes _ _ _ (.self _) (.refl _ s)
  | refclkLoss => exact execRefclkLoss_changes _ (.self _) (.refl _ s)
  | monitorFrame => exact execMonitorFrame_changes _ _ (.self _) (.refl _ s)
  | monCfgWrite => exact execMonCfgWrite_changes .host _ _ (.self _) (.refl _ s)
  | monClearAll => exact execMonClearAll_changes .host (.self _) (.refl _ s)
  | monFreeze => exact execMonFreeze_changes .host _ (.self _) (.refl _ s)
  | heddleControlFrame => exact execHeddleControlFrame_changes _ _ (.self _) (.refl _ s)
  | heddleResendExpiry => exact execHeddleResendExpiry_changes _ (.self _) (.refl _ s)
  | heddleAckTick => exact execHeddleAckTick_changes _ (.self _) (.refl _ s)
  | heddleLinkDown => exact execHeddleLinkDown_changes _ (.self _) (.refl _ s)
  | heddleLinkUp => exact execHeddleLinkUp_changes (.self _) (.refl _ s)
  | rwpPairTimeout => exact execRwpPairTimeout_changes _ _ (.self _) (.refl _ s)
  | registerWrite => exact execRegisterWrite_changes _ _ _ _ _ (.self _) (.refl _ s)
  | registerRead => exact execRegisterRead_changes _ _ _ _ (.self _) (.refl _ s)
  | stewardUnitReset => exact execStewardUnitReset_changes _ (.self _) (.refl _ s)
  | refclkReturn => exact execRefclkReturn_changes (.self _) (.refl _ s)
/-- `s` with the parts `m` of `t`. -/
def mix (m : Nat) (s t : State) : State where
  cache := if m.testBit 0 then t.cache else s.cache
  dram := if m.testBit 1 then t.dram else s.dram
  log := if m.testBit 2 then t.log else s.log
  nand := if m.testBit 3 then t.nand else s.nand
  stg := if m.testBit 4 then t.stg else s.stg
  vlt := if m.testBit 5 then t.vlt else s.vlt
  drain := if m.testBit 6 then t.drain else s.drain
  restore := if m.testBit 7 then t.restore else s.restore
  rail := if m.testBit 8 then t.rail else s.rail
  vcore := if m.testBit 9 then t.vcore else s.vcore
  host := if m.testBit 10 then t.host else s.host
  mbx := if m.testBit 11 then t.mbx else s.mbx
  vin := if m.testBit 12 then t.vin else s.vin
  pwr := if m.testBit 13 then t.pwr else s.pwr
  cell := if m.testBit 14 then t.cell else s.cell
  gau := if m.testBit 15 then t.gau else s.gau
  chg := if m.testBit 16 then t.chg else s.chg
  thm := if m.testBit 17 then t.thm else s.thm
  flt := if m.testBit 18 then t.flt else s.flt
  sel := if m.testBit 19 then t.sel else s.sel
  warm := if m.testBit 20 then t.warm else s.warm
  drf := if m.testBit 21 then t.drf else s.drf
  efl := if m.testBit 22 then t.efl else s.efl
  lcs := if m.testBit 23 then t.lcs else s.lcs
  tbs := if m.testBit 24 then t.tbs else s.tbs
  mon := if m.testBit 25 then t.mon else s.mon
  hdlE := if m.testBit 26 then t.hdlE else s.hdlE
  hdlP := if m.testBit 27 then t.hdlP else s.hdlP
  port := if m.testBit 28 then t.port else s.port
  smb := if m.testBit 29 then t.smb else s.smb
  sent := if m.testBit 30 then t.sent else s.sent
  free := if m.testBit 31 then t.free else s.free
  pending := if m.testBit 32 then t.pending else s.pending
  tap := if m.testBit 33 then t.tap else s.tap

theorem eq_ite_of_false {α : Type} {b : Bool} {x y : α} (h : b = false → x = y) : x = if b then x else y := by
  cases b
  · exact h rfl
  · rfl

/-- A frame as an equation: outside its parts the next state is the state before. -/
theorem Changes.eq_mix {m : Nat} {s t : State} (h : Changes m s t) : t = mix m s t := by
  cases t
  simp only [mix, State.mk.injEq]
  exact ⟨eq_ite_of_false h.cache, eq_ite_of_false h.dram, eq_ite_of_false h.log, eq_ite_of_false h.nand,
    eq_ite_of_false h.stg, eq_ite_of_false h.vlt, eq_ite_of_false h.drain, eq_ite_of_false h.restore, eq_ite_of_false h.rail,
    eq_ite_of_false h.vcore, eq_ite_of_false h.host, eq_ite_of_false h.mbx, eq_ite_of_false h.vin, eq_ite_of_false h.pwr,
    eq_ite_of_false h.cell, eq_ite_of_false h.gau, eq_ite_of_false h.chg, eq_ite_of_false h.thm, eq_ite_of_false h.flt,
    eq_ite_of_false h.sel, eq_ite_of_false h.warm, eq_ite_of_false h.drf, eq_ite_of_false h.efl, eq_ite_of_false h.lcs,
    eq_ite_of_false h.tbs, eq_ite_of_false h.mon, eq_ite_of_false h.hdlE, eq_ite_of_false h.hdlP, eq_ite_of_false h.port,
    eq_ite_of_false h.smb, eq_ite_of_false h.sent, eq_ite_of_false h.free, eq_ite_of_false h.pending,
    eq_ite_of_false h.tap⟩

/-- Settles O5: each command's frame, with the parts it may change written out. -/
theorem commandsChangeOnlyTheirParts : Obligations.CommandsChangeOnlyTheirParts := by
  intro s t c ht
  have h := ((exec_parts c s).out t ht).eq_mix
  cases c <;> dsimp only [partsOf] at h ⊢ <;> exact h

/-- Either a part stays as it is, or the command is one of those that reach it. -/
theorem or_of_testBit {p q : Prop} {b : Bool} (hp : b = false → p) (hq : b = true → q) : p ∨ q := by
  cases b
  · exact .inl (hp rfl)
  · exact .inr (hq rfl)

/-- Settles O6: a command whose frame spares the part leaves it; each of the others stands in the statement's list. -/
theorem fewCommandsReachApartStates : Obligations.FewCommandsReachApartStates := by
  have hc (s t : State) (c : Instr) (h : exec c s = .next t) := (exec_parts c s).out t h
  refine ⟨fun c s t h => (hc s t c h).pending ?_, fun s t c h => or_of_testBit (hc s t c h).lcs ?_,
    fun s t c h => or_of_testBit (hc s t c h).tbs ?_, fun s t c h => or_of_testBit (hc s t c h).cell ?_,
    fun s t c h => or_of_testBit (hc s t c h).thm ?_, fun s t c h => or_of_testBit (hc s t c h).vin ?_,
    fun s t c h => or_of_testBit (hc s t c h).port ?_, fun s t c h => or_of_testBit (hc s t c h).tap ?_⟩
  · clear h
    cases c <;> dsimp only [partsOf] <;> rfl
  all_goals
    clear h hc
    cases c <;> dsimp only [partsOf] <;> intro h <;> first
      | exact absurd h (by decide)
      | clear h
        repeat first
          | ((try apply Or.inl); (repeat apply Exists.intro); with_reducible rfl)
          | apply Or.inr

end Sys2Proof.Machine

/-! PROOFS. The residual as the dirty map's counts, VLT_RESIDUAL and the bolts' registers read it (R90, R97, R185). -/

namespace Sys2Proof.Machine

section Residual
variable {s : State}

/-- The entries of a list counted class by class. -/
theorem sum_length_filter_class {α : Type} (p : α → Bool) (class' : α → Nat) {k : Nat} {l : List α}
    (hl : ∀ e ∈ l, class' e < k) :
    ((List.range k).map (fun n => (l.filter (fun e => p e && class' e = n)).length)).sum = (l.filter p).length := by
  change ∑ n ∈ Finset.range k, _ = _
  induction l with
  | nil => simp
  | cons e l ih =>
    have he : class' e < k := hl e List.mem_cons_self
    have ih := ih fun x hx => hl x (List.mem_cons_of_mem _ hx)
    have hcons (n : Nat) : ((e :: l).filter (fun x => p x && class' x = n)).length =
        (l.filter (fun x => p x && class' x = n)).length + if n = class' e then (if p e then 1 else 0) else 0 := by
      rw [List.filter_cons]
      by_cases hn : class' e = n <;> cases p e <;> simp [hn, Ne.symm]
    rw [Finset.sum_congr rfl fun n _ => hcons n, Finset.sum_add_distrib, ih, Finset.sum_ite_eq',
      if_pos (Finset.mem_range.mpr he), List.filter_cons]
    split <;> simp

/-- Granules that are DIRTY and granules that are STAGING make up the residual. -/
theorem stateCount_dirty_add_staging (s : State) : stateCount 2 s + stateCount 3 s = residual s := by
  simp only [residual, stateCount, if_neg (by decide : ¬ (2 = 0)), if_neg (by decide : ¬ (3 = 0))]
  induction s.cache.map with
  | nil => rfl
  | cons e l ih =>
    obtain ⟨g, ⟨st, p⟩⟩ := e
    cases st <;> simp [inRes, stateCode] at ih ⊢ <;> omega

/-- Where no granule lies in the system bolt, the bolts' residuals make up the residual. -/
theorem sum_residualOf (h : ∀ e ∈ s.cache.map, boltOf s e.1 < 63) :
    ((List.range 63).map (fun n => residualOf n s)).sum = residual s := by
  have hsum := sum_length_filter_class (l := s.cache.map) (fun e => inRes e.2) (fun e => boltOf s e.1) h
  rw [residual, ← hsum]
  rfl

theorem residual_le (s : State) : residual s ≤ s.cache.map.length := List.length_filter_le _ _

theorem residualOf_le (n : Nat) (s : State) : residualOf n s ≤ s.cache.map.length := List.length_filter_le _ _

theorem stateCount_le {x : Nat} (hx : x ≠ 0) (s : State) : stateCount x s ≤ s.cache.map.length := by
  rw [stateCount, if_neg hx]
  exact List.length_filter_le _ _

theorem regValue_of_r64 {addr v : Nat} (h : regAt addr s = r64 v) (hv : v < 2 ^ 64) : regValue addr s = v := by
  rw [regValue, h]
  exact Nat.mod_eq_of_lt hv

/-- BLT_RESIDUAL[n] (R97). -/
theorem regAt_bltResidual {n : Nat} (hn : n < 63) (s : State) :
    regAt (0x020010 + 0x40 * n) s = r64 (4096 * residualOf n s) := by
  have hblock : (0x020010 + 0x40 * n) / 0x10000 = 2 := by omega
  have hoff : (0x020010 + 0x40 * n) % 0x10000 = 0x10 + 0x40 * n := by omega
  have hbolt : (0x10 + 0x40 * n) / 0x40 = n := by omega
  have hreg : (0x10 + 0x40 * n) % 0x40 = 0x10 := by omega
  rw [regAt, if_pos (by omega), engineReg]
  simp only [hblock, hoff, bltReg, hbolt, hreg, if_pos (show n < 64 by omega), if_neg (show n ≠ 63 by omega)]

end Residual

/-- Settles O57: each register reads its count whole, since the map is shorter than 2^32 entries. -/
theorem residualRegistersAgree : Obligations.ResidualRegistersAgree := by
  intro s hlen hbolt
  have hdirty : regValue 0x030008 s = stateCount 2 s :=
    regValue_of_r32 rfl ((stateCount_le (by decide) s).trans_lt hlen)
  have hstaging : regValue 0x03000C s = stateCount 3 s :=
    regValue_of_r32 rfl ((stateCount_le (by decide) s).trans_lt hlen)
  have hvlt : regValue 0x000018 s = 4096 * residual s :=
    regValue_of_r64 rfl (by have := residual_le s; omega)
  have hblt : (List.range 63).map (fun n => regValue (0x020010 + 0x40 * n) s) =
      (List.range 63).map (fun n => 4096 * residualOf n s) := by
    refine List.map_congr_left fun n hn => ?_
    have := residualOf_le n s
    exact regValue_of_r64 (regAt_bltResidual (List.mem_range.mp hn) s) (by omega)
  constructor
  · rw [hdirty, hstaging, stateCount_dirty_add_staging, hvlt, Nat.mul_comm]
  · rw [hvlt, hblt, ← sum_residualOf hbolt, List.sum_map_mul_left]

end Sys2Proof.Machine

/-! PROOFS. The cache: what memory, the dirty map and the poison table read after each operation, and what the commit of a
write leaves (R19, R59, R90, R91, R99 to R102). -/

namespace Sys2Proof.Machine

section CacheReads
variable {s t : State}

/-! ### Memory (R83) -/

/-- A table without some of its keys reads the default under them. -/
theorem tget_filter_key {α : Type} [DecidableEq α] {d : α} (p : Nat → Bool) (n : Nat) {l : Table α} :
    ∀ {b : Option Nat}, tableOk d b l = true →
      tget d (l.filter (fun c => p c.1)) n = if p n then tget d l n else d := by
  induction l with
  | nil => intro b _; simp [tget]
  | cons c l ih =>
    obtain ⟨k, v⟩ := c
    intro b h
    simp only [tableOk, Bool.and_eq_true, decide_eq_true_eq] at h
    have hl := ih h.2
    rw [List.filter_cons]
    by_cases hk : n = k
    · subst hk
      cases hp : p n
      · simp [hp, hl]
      · simp [tget]
    · by_cases hlt : n < k
      · have habove : tget d l n = d := tget_above d n l k h.2 hlt.le
        cases hp : p k <;> simp [tget, hk, hlt, hl, habove]
      · cases hp : p k <;> simp [tget, hk, hlt, hl]

theorem readByte_zeroRange (lo hi : Nat) (h : Memory.wf s = true) (a : Nat) :
    readByte (zeroRange lo hi s) a = if lo ≤ a ∧ a < hi then 0 else readByte s a := by
  have hr := tget_filter_key (fun a => decide (a < lo) || decide (hi ≤ a)) a h
  rw [readByte, zeroRange_dram, hr, readByte]
  by_cases ha : lo ≤ a ∧ a < hi
  · have hp : (decide (a < lo) || decide (hi ≤ a)) = false := by simp; omega
    simp [ha, hp, unlistedByte]
  · have hp : (decide (a < lo) || decide (hi ≤ a)) = true := by simp; omega
    simp [ha, hp]

theorem readByte_congr (h : t.dram = s.dram) (a : Nat) : readByte t a = readByte s a := by
  rw [readByte, h, readByte]

/-! ### The dirty map (R90) -/

theorem entryOf_congr (h : t.cache.map = s.cache.map) (g : Nat) : entryOf g t = entryOf g s := by
  rw [entryOf, h, entryOf]

theorem setEntry_map (g : Nat) (x : Entry) (s : State) : (setEntry g x s).cache.map = tput {} g x s.cache.map := by
  unfold setEntry
  dsimp only
  split <;> rfl

theorem entryOf_setEntry {g : Nat} {x : Entry} (h : keysUp none s.cache.map = true) (k : Nat) :
    entryOf k (setEntry g x s) = if k = g then x else entryOf k s := by
  rw [entryOf, setEntry_map]
  split
  · next hk => subst hk; exact tget_tput_up _ _ _ _ none h
  · next hk => exact tget_tput_up_ne _ _ _ _ hk _ none h

/-- A granule set to another STATE than ZERO has that STATE, and its PENDING stays; the map need not be canonical. -/
theorem entryOf_setState_same {g : Nat} {x : GState} (hx : x ≠ .zero) :
    entryOf g (setState g x s) = { entryOf g s with st := x } := by
  refine entryOf_setEntry_same fun h => hx ?_
  exact congrArg Entry.st h

/-- What a set of a map entry leaves of the cache: all but the map and the age table's stamps. -/
theorem setEntry_cache (g : Nat) (x : Entry) (s : State) : ∃ stamps,
    (setEntry g x s).cache = { s.cache with map := tput {} g x s.cache.map, stamps := stamps } := by
  unfold setEntry
  dsimp only
  split
  · exact ⟨_, rfl⟩
  · exact ⟨_, rfl⟩

/-! ### Poison (R101, R102) -/

/-- The poison list, which the entry of a run changes, apart from the rest of the cache. -/
theorem listRun_cache (g : Nat) (x : PSource) (s : State) (r : BitVec 64) : ∃ l o ts,
    (listRun g x s r).cache = { s.cache with listed := l, overflow := o, overflowTs := ts } := by
  unfold listRun
  dsimp only
  split
  · exact ⟨_, _, _, rfl⟩
  · split <;> exact ⟨_, _, _, rfl⟩

theorem foldl_listRun_cache (g : Nat) (x : PSource) (l : List (BitVec 64)) (s : State) : ∃ ls o ts,
    (l.foldl (listRun g x) s).cache = { s.cache with listed := ls, overflow := o, overflowTs := ts } := by
  induction l generalizing s with
  | nil => exact ⟨_, _, _, rfl⟩
  | cons r l ih =>
    obtain ⟨_, _, _, h⟩ := listRun_cache g x s r
    obtain ⟨_, _, _, hl⟩ := ih (listRun g x s r)
    rw [List.foldl_cons, hl, h]
    exact ⟨_, _, _, rfl⟩

/-- Poisoning lines changes the poison table, and besides it the poison list alone. -/
theorem poisonLines_cache (g : Nat) (m : BitVec 64) (x : PSource) (s : State) : ∃ ls o ts,
    (poisonLines g m x s).cache = { s.cache with
      poison := tmod 0#64 g (fun b => b ||| m) s.cache.poison, listed := ls, overflow := o, overflowTs := ts } := by
  unfold poisonLines
  obtain ⟨_, _, _, h⟩ := foldl_listRun_cache g x (runMasks m)
    { s with cache := { s.cache with poison := tmod 0#64 g (fun b => b ||| m) s.cache.poison } }
  rw [h]
  exact ⟨_, _, _, rfl⟩

theorem unpoison_cache (g l : Nat) (s : State) : ∃ ls o ts,
    (unpoison g l s).cache = { s.cache with
      poison := tmod 0#64 g (fun b => b &&& ~~~lineBit l) s.cache.poison, listed := ls, overflow := o, overflowTs := ts } := by
  unfold unpoison
  dsimp only
  split <;> exact ⟨_, _, _, rfl⟩

theorem poisonLines_map (g : Nat) (m : BitVec 64) (x : PSource) (s : State) :
    (poisonLines g m x s).cache.map = s.cache.map := by
  obtain ⟨_, _, _, h⟩ := poisonLines_cache g m x s
  rw [h]

theorem unpoison_map (g l : Nat) (s : State) : (unpoison g l s).cache.map = s.cache.map := by
  obtain ⟨_, _, _, h⟩ := unpoison_cache g l s
  rw [h]

theorem poisonLines_poison (g : Nat) (m : BitVec 64) (x : PSource) (s : State) :
    (poisonLines g m x s).cache.poison = tmod 0#64 g (fun b => b ||| m) s.cache.poison := by
  obtain ⟨_, _, _, h⟩ := poisonLines_cache g m x s
  rw [h]

theorem unpoison_poison (g l : Nat) (s : State) :
    (unpoison g l s).cache.poison = tmod 0#64 g (fun b => b &&& ~~~lineBit l) s.cache.poison := by
  obtain ⟨_, _, _, h⟩ := unpoison_cache g l s
  rw [h]

theorem poisoned_congr (h : t.cache.poison = s.cache.poison) (g l : Nat) : poisoned g l t = poisoned g l s := by
  rw [poisoned, h, poisoned]

theorem lineBit_getLsbD_self {l : Nat} (hl : l < 64) : (lineBit l).getLsbD l = true := by
  rw [lineBit, BitVec.getLsbD_ofNat]
  simp [hl]

/-- A line that has been poisoned is poisoned. -/
theorem poisoned_poisonLines {g l : Nat} {m : BitVec 64} (x : PSource) (h : tableOk 0#64 none s.cache.poison = true)
    (hm : m.getLsbD l = true) : poisoned g l (poisonLines g m x s) = true := by
  rw [poisoned, poisonLines_poison, tmod, tget_tput_ok _ _ _ _ none h, BitVec.getLsbD_or, hm, Bool.or_true]

/-- Poison only grows by a poisoning. -/
theorem poisoned_poisonLines_of {g k l : Nat} (m : BitVec 64) (x : PSource) (h : tableOk 0#64 none s.cache.poison = true)
    (hl : poisoned k l s = true) : poisoned k l (poisonLines g m x s) = true := by
  rw [poisoned, poisonLines_poison, tmod]
  by_cases hk : k = g
  · subst hk
    rw [poisoned] at hl
    rw [tget_tput_ok _ _ _ _ none h, BitVec.getLsbD_or, hl, Bool.true_or]
  · rwa [tget_tput_ne _ _ _ _ hk _ none h]

theorem poisoned_unpoison {g l : Nat} (hl : l < 64) (h : tableOk 0#64 none s.cache.poison = true) :
    poisoned g l (unpoison g l s) = false := by
  rw [poisoned, unpoison_poison, tmod, tget_tput_ok _ _ _ _ none h, BitVec.getLsbD_and, BitVec.getLsbD_not,
    lineBit_getLsbD_self hl]
  simp

end CacheReads

section Commit
variable {s t : State} {w : HeldWrite}

/-! ### The read that a partial write is merged into (R99, R100) -/

theorem engineFault_cache (n detail : Nat) (s : State) : (engineFault n detail s).cache = s.cache :=
  (engineFault_changes n detail (m' := 0x4c0c0020) rfl (.refl _ s)).cache rfl

/-- In a DIRTY granule an uncorrectable line is poisoned, and no more of the cache changes. -/
theorem ueDirty_cache (line : Nat) (h : (entryOf (line / 64) s).st = .dirty) :
    (ueDirty line s).cache = (poisonLines (line / 64) (lineBit (line % 64)) .internal s).cache := by
  unfold ueDirty
  dsimp only
  rw [engineFault_cache, if_neg]
  rw [entryOf_congr (poisonLines_map ..), h]
  decide

theorem mergeRead_map (w : HeldWrite) (h : (entryOf (w.dpa / 4096) s).st = .dirty) :
    (mergeRead w s).cache.map = s.cache.map := by
  unfold mergeRead
  split
  · rfl
  · rfl
  · have hg : w.dpa / 64 / 64 = w.dpa / 4096 := by omega
    rw [ueDirty_cache _ (by rwa [hg]), poisonLines_map]
    rfl

theorem mergeRead_poison (w : HeldWrite) (h : eccOf (byEight s) w.burst ≠ .uncorrectable) :
    (mergeRead w s).cache.poison = s.cache.poison := by
  unfold mergeRead
  split
  · rfl
  · rfl
  · contradiction

theorem mergeRead_poisoned (h : (entryOf (w.dpa / 4096) s).st = .dirty) (hp : tableOk 0#64 none s.cache.poison = true)
    (hu : eccOf (byEight s) w.burst = .uncorrectable) :
    poisoned (w.dpa / 4096) (w.dpa % 4096 / 64) (mergeRead w s) = true := by
  have hg : w.dpa / 64 / 64 = w.dpa / 4096 := by omega
  have hl : w.dpa / 64 % 64 = w.dpa % 4096 / 64 := by omega
  simp only [mergeRead, hu]
  rw [poisoned, ueDirty_cache _ (by rwa [hg]), hg, hl]
  exact poisoned_poisonLines .internal hp (lineBit_getLsbD_self (by omega))

/-! ### The commit of a write (R19, R59, R91, R101) -/

/-- The state that a write's line goes into: its granule DIRTY, zero-filled where it was ZERO, and otherwise merged with the line
read where the write is partial. -/
def mergeInto (w : HeldWrite) (s : State) : State :=
  let g := w.dpa / 4096
  let zero : Bool := (entryOf g s).st = .zero
  let s := setState g .dirty (if zero then zeroRange (4096 * g) (4096 * g + 4096) s else s)
  if zero || w.be = allBytes then s else mergeRead w s

/-- The poison of the line written (R101). -/
def settlePoison (w : HeldWrite) (s : State) : State :=
  if w.poison then poisonLines (w.dpa / 4096) (lineBit (w.dpa % 4096 / 64)) .external s
  else if w.be = allBytes then unpoison (w.dpa / 4096) (w.dpa % 4096 / 64) s else s

theorem commitLine_eq (w : HeldWrite) (s : State) : ∃ m, commitLine w s =
    { settlePoison w (writeLine (w.dpa / 64 * 64) w.data w.be (mergeInto w s)) with mbx := m } := ⟨_, rfl⟩

theorem settlePoison_changes (w : HeldWrite) (s : State) : Changes 0x1 s (settlePoison w s) := by
  unfold settlePoison
  split
  · exact poisonLines_changes _ _ _ (.self _) (.refl _ s)
  · split
    · exact unpoison_changes _ _ (.self _) (.refl _ s)
    · exact .refl _ s

theorem settlePoison_map (w : HeldWrite) (s : State) : (settlePoison w s).cache.map = s.cache.map := by
  unfold settlePoison
  split
  · exact poisonLines_map ..
  · split
    · exact unpoison_map ..
    · rfl

theorem setState_changes' (g : Nat) (x : GState) (s : State) : Changes 0x1 s (setState g x s) :=
  setEntry_changes _ _ (.self _) (.refl _ s)

theorem mergeInto_changes (w : HeldWrite) (s : State) : Changes 0x4c0c0063 s (mergeInto w s) := by
  unfold mergeInto
  dsimp only
  have hz : Changes 0x4c0c0063 s (setState (w.dpa / 4096) .dirty (if decide ((entryOf (w.dpa / 4096) s).st = .zero) = true
      then zeroRange (4096 * (w.dpa / 4096)) (4096 * (w.dpa / 4096) + 4096) s else s)) :=
    setEntry_changes _ _ (by rfl) (.ite (zeroRange_changes _ _ (by rfl) (.refl _ s)) (.refl _ s))
  exact .ite hz (mergeRead_changes w (by rfl) hz)

theorem setState_dirty_entryOf (g : Nat) (s : State) : (entryOf g (setState g .dirty s)).st = .dirty := by
  rw [entryOf_setState_same (by decide)]

theorem mergeInto_map (w : HeldWrite) (s : State) :
    (mergeInto w s).cache.map = tput {} (w.dpa / 4096) { entryOf (w.dpa / 4096) s with st := .dirty } s.cache.map := by
  have hset (u : State) (hu : u.cache = s.cache) : (setState (w.dpa / 4096) .dirty u).cache.map =
      tput {} (w.dpa / 4096) { entryOf (w.dpa / 4096) s with st := .dirty } s.cache.map := by
    rw [setState, setEntry_map, entryOf_congr (congrArg _ hu), hu]
  have hz := hset (if decide ((entryOf (w.dpa / 4096) s).st = .zero) = true
      then zeroRange (4096 * (w.dpa / 4096)) (4096 * (w.dpa / 4096) + 4096) s else s) (by split <;> rfl)
  unfold mergeInto
  dsimp only
  split
  · exact hz
  · rw [mergeRead_map _ (setState_dirty_entryOf ..), hz]

theorem commitLine_map (w : HeldWrite) (s : State) :
    (commitLine w s).cache.map = tput {} (w.dpa / 4096) { entryOf (w.dpa / 4096) s with st := .dirty } s.cache.map := by
  obtain ⟨m, h⟩ := commitLine_eq w s
  rw [h]
  change (settlePoison w _).cache.map = _
  rw [settlePoison_map, (writeLine_changes _ _ _ (.self _) (.refl _ _)).cache rfl, mergeInto_map]

/-- A committed write leaves its granule DIRTY (R59); the map need not be canonical. -/
theorem entryOf_commitLine (w : HeldWrite) (s : State) :
    entryOf (w.dpa / 4096) (commitLine w s) = { entryOf (w.dpa / 4096) s with st := .dirty } := by
  rw [entryOf, commitLine_map]
  exact tget_tput_self _ _ _ (by simp) _

theorem mergeInto_dram_of_zero (h : (entryOf (w.dpa / 4096) s).st = .zero) :
    (mergeInto w s).dram = (zeroRange (4096 * (w.dpa / 4096)) (4096 * (w.dpa / 4096) + 4096) s).dram := by
  simp only [mergeInto, h, decide_true, if_true, Bool.true_or]
  exact (setState_changes' ..).dram rfl

theorem mergeInto_dram_of_ne_zero (h : (entryOf (w.dpa / 4096) s).st ≠ .zero) : (mergeInto w s).dram = s.dram := by
  simp only [mergeInto, h, decide_false, Bool.false_eq_true, if_false, Bool.false_or]
  have hs : (setState (w.dpa / 4096) .dirty s).dram = s.dram := (setState_changes' ..).dram rfl
  split
  · exact hs
  · rw [(mergeRead_changes w (.self _) (.refl _ _)).dram rfl, hs]

/-- Each enabled byte of the line holds the data; every other byte is as it was when the line was read. -/
theorem readByte_commitLine (hs : Sound s) (w : HeldWrite) (a : Nat) :
    readByte (commitLine w s) a =
      if w.dpa / 64 * 64 ≤ a ∧ a < w.dpa / 64 * 64 + 64 ∧ w.be.getLsbD (a - w.dpa / 64 * 64) = true then
        w.data.extractLsb' (8 * (a - w.dpa / 64 * 64)) 8
      else readByte (mergeInto w s) a := by
  obtain ⟨m, h⟩ := commitLine_eq w s
  rw [h]
  change readByte (settlePoison w _) a = _
  rw [readByte_congr ((settlePoison_changes w _).dram rfl), readByte_writeLine _ _ _ _ ((mergeInto_changes w s).sound hs)]

theorem mergeInto_poison (h : (entryOf (w.dpa / 4096) s).st = .zero ∨ w.be = allBytes ∨
    eccOf (byEight s) w.burst ≠ .uncorrectable) : (mergeInto w s).cache.poison = s.cache.poison := by
  have hset (u : State) (hu : u.cache = s.cache) : (setState (w.dpa / 4096) .dirty u).cache.poison = s.cache.poison := by
    obtain ⟨_, h⟩ := setEntry_cache (w.dpa / 4096) { entryOf (w.dpa / 4096) u with st := .dirty } u
    rw [setState, h, hu]
  have hz := hset (if decide ((entryOf (w.dpa / 4096) s).st = .zero) = true
      then zeroRange (4096 * (w.dpa / 4096)) (4096 * (w.dpa / 4096) + 4096) s else s) (by split <;> rfl)
  unfold mergeInto
  dsimp only
  split
  · exact hz
  · next hm =>
    have hm : (entryOf (w.dpa / 4096) s).st ≠ .zero ∧ w.be ≠ allBytes := by simpa using hm
    have hu : eccOf (byEight s) w.burst ≠ .uncorrectable := (h.resolve_left hm.1).resolve_left hm.2
    rw [if_neg (by simpa using hm.1)] at hz ⊢
    have hd : (setState (w.dpa / 4096) .dirty s).drf = s.drf := (setState_changes' ..).drf rfl
    rw [mergeRead_poison, hz]
    rwa [byEight, hd, ← byEight]

theorem commitLine_poison (w : HeldWrite) (s : State) :
    (commitLine w s).cache.poison = (settlePoison w (writeLine (w.dpa / 64 * 64) w.data w.be (mergeInto w s))).cache.poison :=
  rfl

/-- What the line is written into, its data stored. -/
theorem stored_poison (w : HeldWrite) (u : State) :
    (writeLine (w.dpa / 64 * 64) w.data w.be u).cache.poison = u.cache.poison := by
  rw [(writeLine_changes _ _ _ (.self _) (.refl _ u)).cache rfl]

theorem poisoned_commitLine_of_poison (hs : Sound s) (hp : w.poison = true) :
    poisoned (w.dpa / 4096) (w.dpa % 4096 / 64) (commitLine w s) = true := by
  rw [poisoned_congr (commitLine_poison w s), settlePoison, if_pos hp]
  refine poisoned_poisonLines .external ?_ (lineBit_getLsbD_self (by omega))
  rw [stored_poison]
  exact ((mergeInto_changes w s).sound hs).cache.poison

theorem poisoned_commitLine_of_full (hs : Sound s) (hp : w.poison = false) (hb : w.be = allBytes) :
    poisoned (w.dpa / 4096) (w.dpa % 4096 / 64) (commitLine w s) = false := by
  rw [poisoned_congr (commitLine_poison w s), settlePoison, if_neg (by simp [hp]), if_pos hb]
  refine poisoned_unpoison (by omega) ?_
  rw [stored_poison]
  exact ((mergeInto_changes w s).sound hs).cache.poison

theorem poisoned_commitLine_of_partial (hp : w.poison = false) (hb : w.be ≠ allBytes)
    (hu : eccOf (byEight s) w.burst ≠ .uncorrectable) (g l : Nat) : poisoned g l (commitLine w s) = poisoned g l s := by
  refine poisoned_congr ?_ g l
  rw [commitLine_poison, settlePoison, if_neg (by simp [hp]), if_neg hb, stored_poison,
    mergeInto_poison (.inr (.inr hu))]

theorem mergeInto_poisoned (hs : Sound s) (hz : (entryOf (w.dpa / 4096) s).st ≠ .zero) (hb : w.be ≠ allBytes)
    (hu : eccOf (byEight s) w.burst = .uncorrectable) :
    poisoned (w.dpa / 4096) (w.dpa % 4096 / 64) (mergeInto w s) = true := by
  have hc := setState_changes' (w.dpa / 4096) .dirty s
  simp only [mergeInto, hz, decide_false, Bool.false_eq_true, if_false, hb, Bool.or_self]
  refine mergeRead_poisoned (setState_dirty_entryOf ..) (hc.sound hs).cache.poison ?_
  rwa [byEight, hc.drf rfl, ← byEight]

/-- A partial write over an uncorrectable line leaves the line poisoned (R99, R100). -/
theorem poisoned_commitLine_of_uncorrectable (hs : Sound s) (hz : (entryOf (w.dpa / 4096) s).st ≠ .zero)
    (hb : w.be ≠ allBytes) (hu : eccOf (byEight s) w.burst = .uncorrectable) :
    poisoned (w.dpa / 4096) (w.dpa % 4096 / 64) (commitLine w s) = true := by
  have hm := mergeInto_poisoned hs hz hb hu
  rw [← poisoned_congr (stored_poison w _)] at hm
  have hp := ((writeLine_changes (w.dpa / 64 * 64) w.data w.be (.self _) (.refl _ _)).sound
    ((mergeInto_changes w s).sound hs)).cache.poison
  rw [poisoned_congr (commitLine_poison w s), settlePoison, if_neg hb]
  split
  · exact poisoned_poisonLines_of _ _ hp hm
  · exact hm

/-- The parts of the cache that serve neither map, poison nor counts: what a commit leaves. -/
def CacheRest (c d : CacheSt) : Prop := ∃ map poison listed o ts ch stamps,
  d = { c with map := map, poison := poison, listed := listed, overflow := o, overflowTs := ts, ch := ch, stamps := stamps }

theorem CacheRest.refl (c : CacheSt) : CacheRest c c := ⟨_, _, _, _, _, _, _, rfl⟩

theorem CacheRest.trans {c d e : CacheSt} (h : CacheRest c d) (k : CacheRest d e) : CacheRest c e := by
  obtain ⟨_, _, _, _, _, _, _, rfl⟩ := h
  obtain ⟨_, _, _, _, _, _, _, rfl⟩ := k
  exact ⟨_, _, _, _, _, _, _, rfl⟩

theorem CacheRest.of_poison {c d : CacheSt} {p : Table (BitVec 64)}
    (h : ∃ ls o ts, d = { c with poison := p, listed := ls, overflow := o, overflowTs := ts }) : CacheRest c d := by
  obtain ⟨_, _, _, rfl⟩ := h
  exact ⟨_, _, _, _, _, _, _, rfl⟩

theorem poisonLines_rest (g : Nat) (m : BitVec 64) (x : PSource) (s : State) :
    CacheRest s.cache (poisonLines g m x s).cache := .of_poison (poisonLines_cache g m x s)

theorem setEntry_rest (g : Nat) (x : Entry) (s : State) : CacheRest s.cache (setEntry g x s).cache := by
  obtain ⟨_, h⟩ := setEntry_cache g x s
  exact ⟨_, _, _, _, _, _, _, h⟩

theorem ueDirty_rest (line : Nat) (s : State) : CacheRest s.cache (ueDirty line s).cache := by
  unfold ueDirty
  dsimp only
  have hp := poisonLines_rest (line / 64) (lineBit (line % 64)) .internal s
  rw [engineFault_cache]
  split
  · rw [(takeAgain_changes _ (.self _) (.refl _ _)).cache rfl]
    exact hp.trans (setEntry_rest ..)
  · exact hp

theorem mergeRead_rest (w : HeldWrite) (s : State) : CacheRest s.cache (mergeRead w s).cache := by
  unfold mergeRead
  split
  · exact .refl _
  · exact ⟨_, _, _, _, _, _, _, rfl⟩
  · exact CacheRest.trans ⟨_, _, _, _, _, _, _, rfl⟩ (ueDirty_rest (w.dpa / 64) (countUe (w.dpa / 64) s))

theorem settlePoison_rest (w : HeldWrite) (s : State) : CacheRest s.cache (settlePoison w s).cache := by
  unfold settlePoison
  split
  · exact poisonLines_rest ..
  · split
    · exact .of_poison (unpoison_cache ..)
    · exact .refl _

theorem mergeInto_rest (w : HeldWrite) (s : State) : CacheRest s.cache (mergeInto w s).cache := by
  unfold mergeInto
  dsimp only
  split
  · split <;> exact setEntry_rest ..
  · refine CacheRest.trans ?_ (mergeRead_rest w _)
    split <;> exact setEntry_rest ..

/-- A commit leaves the requests that wait, the caps and their queues, the locations and the bolt table. -/
theorem commitLine_rest (w : HeldWrite) (s : State) : CacheRest s.cache (commitLine w s).cache := by
  obtain ⟨m, h⟩ := commitLine_eq w s
  rw [h]
  refine (mergeInto_rest w s).trans ?_
  rw [← (writeLine_changes (w.dpa / 64 * 64) w.data w.be (.self _) (.refl _ (mergeInto w s))).cache rfl]
  exact settlePoison_rest w _

/-! ### The completion (R19, R518) -/

theorem commit_changes' (w : HeldWrite) (s : State) : Changes 0xce0c0863 s (commit w s) :=
  commit_changes w (.self _) (.refl _ s)

theorem commit_cache (w : HeldWrite) (s : State) : (commit w s).cache = (commitLine w s).cache :=
  (sampleFree_changes 5 0 (.self _) (.refl _ _)).cache rfl

theorem commit_rest (w : HeldWrite) (s : State) : CacheRest s.cache (commit w s).cache :=
  commit_cache w s ▸ commitLine_rest w s

theorem commit_dram (w : HeldWrite) (s : State) : (commit w s).dram = (commitLine w s).dram :=
  (sampleFree_changes 5 0 (.self _) (.refl _ _)).dram rfl

theorem commit_sent (w : HeldWrite) (s : State) :
    (commit w s).sent = .written w.tag (devLoad s) :: (commitLine w s).sent :=
  (sampleFree_changes 5 0 (.self _) (.refl _ _)).sent rfl

theorem entryOf_commit (w : HeldWrite) (s : State) :
    entryOf (w.dpa / 4096) (commit w s) = { entryOf (w.dpa / 4096) s with st := .dirty } := by
  rw [entryOf_congr (congrArg CacheSt.map (commit_cache w s)), entryOf_commitLine]

theorem readByte_commit (w : HeldWrite) (s : State) (a : Nat) : readByte (commit w s) a = readByte (commitLine w s) a :=
  readByte_congr (commit_dram w s) a

theorem poisoned_commit (g l : Nat) (w : HeldWrite) (s : State) :
    poisoned g l (commit w s) = poisoned g l (commitLine w s) :=
  poisoned_congr (by rw [commit_cache]) g l

theorem inTail_congr (h : t.chg = s.chg) : inTail t = inTail s := by rw [inTail, h, inTail]

theorem inTail_commit (w : HeldWrite) (s : State) : inTail (commit w s) = inTail s :=
  inTail_congr ((commit_changes' w s).chg rfl)

end Commit
end Sys2Proof.Machine

/-! PROOFS. Writes of the host: admission under the budget and the caps, what an evaluation leaves, and the completion (R19, R31,
R33, R89, R131, R135). -/

namespace Sys2Proof.Machine

section Evaluation
variable {s t : State}

/-! ### What has been sent stays sent -/

theorem engineClear_keepsSent (n : Nat) (h : KeepsSent s t) : KeepsSent s (engineClear n t) := by
  unfold engineClear
  split
  · exact sendFrame_keepsSent _ _ (h.congr rfl)
  · exact h

theorem msix_keepsSent (v : Nat) (h : KeepsSent s t) : KeepsSent s (msix v t) := by
  unfold msix
  split
  · exact h.congr rfl
  · split
    · exact h
    · exact emit_keepsSent _ h

theorem postEvent_keepsSent (i kind bolt : Nat) (values : List Nat) (h : KeepsSent s t) :
    KeepsSent s (postEvent i kind bolt values t) := by
  unfold postEvent
  dsimp only
  split
  · exact h.congr rfl
  · split
    · exact msix_keepsSent _ (h.congr rfl)
    · exact h.congr rfl

/-! ### The flags (R131, R134) -/

theorem reefFlags_keepsSent (h : KeepsSent s t) : KeepsSent s (reefFlags t) := by
  unfold reefFlags
  extract_lets _ _ _ _ _ _ _ _ _ _ a b c d
  have hb : KeepsSent s b := by
    unfold b
    split
    · exact engineClear_keepsSent _ (h.congr rfl)
    · exact h.congr rfl
  have hc : KeepsSent s c := by
    unfold c
    split
    · exact engineClear_keepsSent _ hb
    · exact hb
  have hd : KeepsSent s d := by
    unfold d
    split
    · exact postEvent_keepsSent _ _ _ _ hc
    · exact hc
  split
  · exact msix_keepsSent _ hd
  · exact hd

/-- The flags, fill and deficit that an evaluation sets (R130, R131). -/
theorem reefFlags_stg (s : State) : ∃ boost rise clear,
    (reefFlags s).stg = { s.stg with
      fill := fillOf s, deficit := !fits 0 s,
      l1 := hysteresis (setting s P.l1On) (setting s P.l1Off) (fillOf s) s.stg.l1,
      l2 := hysteresis (setting s P.l2On) (setting s P.l2Off) (fillOf s) s.stg.l2,
      l3 := if !s.stg.heldq.isEmpty || !fits 0 s || inTail s then true
        else if fillOf s < setting s P.l3Off then false else s.stg.l3,
      boost := boost, evtRise := rise, evtClear := clear, recovering := !fits 0 s && decide (0 < residual s) } := by
  unfold reefFlags
  extract_lets _ _ _ _ _ _ _ _ _ _ a b c d
  have hb : b.stg = a.stg := by
    unfold b
    split
    · exact (engineClear_changes 5 (.self _) (.refl _ a)).stg rfl
    · rfl
  have hc : c.stg = b.stg := by
    unfold c
    split
    · exact (engineClear_changes 4 (.self _) (.refl _ b)).stg rfl
    · rfl
  have hd : d.stg = c.stg := by
    unfold d
    split
    · exact (postEvent_changes _ _ _ _ (.self _) (.refl _ c)).stg rfl
    · rfl
  rw [apply_ite State.stg, msix_stg, ite_self, hd, hc, hb]
  exact ⟨_, _, _, rfl⟩

theorem reefFlags_changes' (s : State) : Changes 0x4c040c10 s (reefFlags s) := reefFlags_changes (.self _) (.refl _ s)

theorem reefFlags_heldq (s : State) : (reefFlags s).stg.heldq = s.stg.heldq := by
  obtain ⟨_, _, _, h⟩ := reefFlags_stg s
  rw [h]

/-- With no write held, an evaluation sets the flags alone. -/
theorem evaluate_of_nil (h : s.stg.heldq = []) : evaluate s = reefFlags s := by
  unfold evaluate
  rw [h, List.length_nil, releaseHeld, ite_self]

end Evaluation

section Admission
variable {s t : State} {w : HeldWrite}

/-! ### Admission (R31, R33, R89) -/

theorem serveReq_write (hmap : w.map = .good) : serveReq s (.write w) = serveWrite w s := by
  rw [serveReq, hmap, mapRead]

/-- A write that is neither discarded nor waits for a load goes to admission. -/
theorem serveWrite_admitted (hadm : admitting s = true) (hb : boltDiscards (boltOf s (w.dpa / 4096)) s = false)
    (hst : (entryOf (w.dpa / 4096) s).st ≠ .restorePending) : serveWrite w s = admitWrite w s := by
  simp [serveWrite, hadm, hb, hst]

theorem ne_restorePending_of_inRes {e : Entry} (h : inRes e = true) : e.st ≠ .restorePending := by
  intro he
  simp [inRes, he] at h

theorem ne_zero_of_inRes {e : Entry} (h : inRes e = true) : e.st ≠ .zero := by
  intro he
  simp [inRes, he] at h

theorem not_inRes_of_st {e : Entry} (h : e.st = .zero ∨ e.st = .clean) : inRes e = false := by
  obtain h | h := h <;> simp [inRes, h]

/-- A granule already in the residual takes the write at once (R31). -/
theorem admitWrite_of_inRes (hres : inRes (entryOf (w.dpa / 4096) s) = true) (htail : inTail s = false) :
    admitWrite w s = commit w s := by
  simp [admitWrite, hres, htail]

theorem admitWrite_of_room (hres : inRes (entryOf (w.dpa / 4096) s) = false)
    (hq : tget [] s.cache.capq (boltOf s (w.dpa / 4096)) = []) (hcap : atCap (boltOf s (w.dpa / 4096)) s = false) :
    admitWrite w s = admitBudget w s := by
  simp [admitWrite, hres, hq, hcap]

theorem admitBudget_of_fits (hres : inRes (entryOf (w.dpa / 4096) s) = false) (hh : s.stg.heldq = [])
    (hf : fits (costOf (w.dpa / 4096) s) s = true) : admitBudget w s = evaluate (commit w s) := by
  simp [admitBudget, hres, hh, hf]

theorem tailHeld_of_not_inTail (h : inTail s = false) : tailHeld s = s := by simp [tailHeld, h]

/-- A request's arrival is counted, and the load it reports noted. -/
def arrived (occ : Nat) (s : State) : State :=
  { s with host := { s.host with load := loadOf occ }, cache := { s.cache with received := s.cache.received + 1 } }

theorem arrived_sound (occ : Nat) (h : Sound s) : Sound (arrived occ s) :=
  ⟨h.memory, h.log, h.engineEnd, h.pctrlEnd, h.events, h.domains, h.pairs,
    ⟨h.cache.channels, h.cache.poison, h.cache.map, h.cache.caps⟩, h.nand, h.thermal, h.sources, h.received, h.words,
    h.monitors, h.time⟩

section Arrived
variable (occ : Nat) (s : State)

@[simp] theorem admitting_arrived : admitting (arrived occ s) = admitting s := rfl
@[simp] theorem requestsWait_arrived : requestsWait (arrived occ s) = requestsWait s := rfl
@[simp] theorem boltOf_arrived (g : Nat) : boltOf (arrived occ s) g = boltOf s g := rfl
@[simp] theorem boltDiscards_arrived (n : Nat) : boltDiscards n (arrived occ s) = boltDiscards n s := rfl
@[simp] theorem entryOf_arrived (g : Nat) : entryOf g (arrived occ s) = entryOf g s := rfl
@[simp] theorem inTail_arrived : inTail (arrived occ s) = inTail s := rfl
@[simp] theorem atCap_arrived (n : Nat) : atCap n (arrived occ s) = atCap n s := rfl
@[simp] theorem costOf_arrived (g : Nat) : costOf g (arrived occ s) = costOf g s := rfl
@[simp] theorem fits_arrived (n : Nat) : fits n (arrived occ s) = fits n s := rfl
@[simp] theorem byEight_arrived : byEight (arrived occ s) = byEight s := rfl
@[simp] theorem readByte_arrived (a : Nat) : readByte (arrived occ s) a = readByte s a := rfl
@[simp] theorem poisoned_arrived (g l : Nat) : poisoned g l (arrived occ s) = poisoned g l s := rfl
@[simp] theorem arrived_stg : (arrived occ s).stg = s.stg := rfl
@[simp] theorem arrived_chg : (arrived occ s).chg = s.chg := rfl
@[simp] theorem arrived_capq : (arrived occ s).cache.capq = s.cache.capq := rfl
@[simp] theorem arrived_map : (arrived occ s).cache.map = s.cache.map := rfl
@[simp] theorem arrived_dram : (arrived occ s).dram = s.dram := rfl

end Arrived

/-- A write as it is held: its operands and its place in the order of arrival. -/
def writeOf (tag dpa : Nat) (data : Line) (be : BitVec 64) (poison : Bool) (burst : Burst) (m : MapAcc) (s : State) : HeldWrite :=
  { tag := tag, dpa := dpa, data := data, be := be, poison := poison, order := s.cache.received, burst := burst, map := m }

/-- A write that a decoder maps, with the port serving and nothing in its way, is served as it arrives (R19, R299). -/
theorem execCxlMemWrite_served {tag hpa dpa occ : Nat} {data : Line} {be : BitVec 64} {poison : Bool} {burst : Burst}
    {m : MapAcc} (hport : portServes s = true) (hwait : requestsWait s = false) (hdec : decodeHpa s.host hpa = some dpa) :
    execCxlMemWrite tag hpa data be poison burst m occ s =
      .next (tailHeld (serveReq (arrived occ s) (.write (writeOf tag dpa data be poison burst m s)))) := by
  have hdec' : decodeHpa { s.host with load := loadOf occ } hpa = some dpa := hdec
  rw [execCxlMemWrite, if_neg (by simp [hport])]
  simp only [hdec']
  refine if_neg ?_
  change ¬ requestsWait (arrived occ s) = true
  simp [hwait]

end Admission

section AdmittedWrites
variable {s : State} {w : HeldWrite}

theorem served_of_inRes (hmap : w.map = .good) (hadm : admitting s = true)
    (hb : boltDiscards (boltOf s (w.dpa / 4096)) s = false) (hres : inRes (entryOf (w.dpa / 4096) s) = true)
    (htail : inTail s = false) : tailHeld (serveReq s (.write w)) = commit w s := by
  rw [serveReq_write hmap, serveWrite_admitted hadm hb (ne_restorePending_of_inRes hres), admitWrite_of_inRes hres htail,
    tailHeld_of_not_inTail (by rwa [inTail_commit])]

/-- Under cap and budget the commit is followed by an evaluation, which has nothing to release (R31, R32). -/
theorem served_of_fits (hmap : w.map = .good) (hadm : admitting s = true)
    (hb : boltDiscards (boltOf s (w.dpa / 4096)) s = false)
    (hst : (entryOf (w.dpa / 4096) s).st = .zero ∨ (entryOf (w.dpa / 4096) s).st = .clean)
    (hq : tget [] s.cache.capq (boltOf s (w.dpa / 4096)) = []) (hcap : atCap (boltOf s (w.dpa / 4096)) s = false)
    (hh : s.stg.heldq = []) (hf : fits (costOf (w.dpa / 4096) s) s = true) (htail : inTail s = false) :
    tailHeld (serveReq s (.write w)) = reefFlags (commit w s) := by
  have hstg : (commit w s).stg = s.stg := (commit_changes' w s).stg rfl
  have hne : (entryOf (w.dpa / 4096) s).st ≠ .restorePending := by obtain h | h := hst <;> simp [h]
  rw [serveReq_write hmap, serveWrite_admitted hadm hb hne, admitWrite_of_room (not_inRes_of_st hst) hq hcap,
    admitBudget_of_fits (not_inRes_of_st hst) hh hf, evaluate_of_nil (by rw [hstg, hh]), tailHeld_of_not_inTail]
  rw [inTail_congr ((reefFlags_changes' _).chg rfl), inTail_commit, htail]

/-- The bytes of the line that a commit leaves. -/
theorem readByte_commit_line (hs : Sound s) {dpa i : Nat} (hw : w.dpa = dpa) (hi : i < 64) :
    readByte (commit w s) (dpa / 64 * 64 + i) =
      if w.be.getLsbD i then w.data.extractLsb' (8 * i) 8 else readByte (mergeInto w s) (dpa / 64 * 64 + i) := by
  subst hw
  rw [readByte_commit, readByte_commitLine hs, Nat.add_sub_cancel_left]
  simp only [Nat.le_add_right, Nat.add_lt_add_iff_left, hi, true_and]

theorem readByte_commit_outside (hs : Sound s) {dpa a : Nat} (hw : w.dpa = dpa)
    (ha : a < dpa / 64 * 64 ∨ dpa / 64 * 64 + 64 ≤ a) : readByte (commit w s) a = readByte (mergeInto w s) a := by
  subst hw
  rw [readByte_commit, readByte_commitLine hs, if_neg (by omega)]

theorem readByte_mergeInto_of_zero (hs : Sound s) {g : Nat} (hw : w.dpa / 4096 = g) (hz : (entryOf g s).st = .zero) (a : Nat) :
    readByte (mergeInto w s) a = if a / 4096 = g then 0 else readByte s a := by
  subst hw
  rw [readByte_congr (mergeInto_dram_of_zero hz), readByte_zeroRange _ _ hs.memory]
  congr 1
  simp only [eq_iff_iff]
  omega

end AdmittedWrites

/-- Settles O7: the residual's granule commits at once; a ZERO granule with room under cap and budget commits, and the evaluation
that follows sets flags alone. -/
theorem admittedWritesCommit : Obligations.AdmittedWritesCommit := by
  refine ⟨fun s tag hpa dpa occ data be poison burst hs hport hwait hadm hdec hb hres htail => ?_,
    fun s tag hpa dpa occ data be poison burst hs hport hwait hadm hdec hb hzero hq hcap hh hf htail => ?_⟩
  · let w := writeOf tag dpa data be poison burst .good s
    have hu : Sound (arrived occ s) := arrived_sound occ hs
    have hdram : (mergeInto w (arrived occ s)).dram = s.dram := mergeInto_dram_of_ne_zero (w := w) (ne_zero_of_inRes hres)
    have hexec := (execCxlMemWrite_served hport hwait hdec).trans (congrArg _
      (served_of_inRes (s := arrived occ s) (w := w) rfl hadm hb hres htail))
    refine ⟨_, hexec, ?_, entryOf_commit w _, fun i hi => ?_, fun a ha => ?_, fun hp => ?_, fun hp hbe => ?_,
      fun hp hbe hue l => ?_, fun hbe hue => ?_⟩
    · rw [commit_sent]
      rfl
    · have hline := readByte_commit_line (w := w) hu rfl hi
      rw [readByte_congr hdram] at hline
      exact hline
    · rw [readByte_commit_outside hu (dpa := dpa) rfl ha, readByte_congr hdram]
    · exact (poisoned_commit ..).trans (poisoned_commitLine_of_poison (s := arrived occ s) (w := w) hu hp)
    · exact (poisoned_commit ..).trans (poisoned_commitLine_of_full (s := arrived occ s) (w := w) hu hp hbe)
    · exact (poisoned_commit ..).trans (poisoned_commitLine_of_partial (s := arrived occ s) (w := w) hp hbe hue ..)
    · exact (poisoned_commit ..).trans (poisoned_commitLine_of_uncorrectable (s := arrived occ s) (w := w) hu
        (ne_zero_of_inRes hres) hbe hue)
  · let w := writeOf tag dpa data be poison burst .good s
    have hu : Sound (arrived occ s) := arrived_sound occ hs
    have hexec := (execCxlMemWrite_served hport hwait hdec).trans (congrArg _
      (served_of_fits (s := arrived occ s) (w := w) rfl hadm hb (.inl hzero) hq hcap hh hf htail))
    have hc := reefFlags_changes' (commit w (arrived occ s))
    have hm (a : Nat) := readByte_mergeInto_of_zero (w := w) hu (g := dpa / 4096) rfl hzero a
    refine ⟨_, hexec, ⟨devLoad (arrived occ s), ?_⟩, ?_, fun i hi => ?_, fun a ha hout => ?_, fun a ha => ?_⟩
    · refine (reefFlags_keepsSent (.of_eq rfl)).mem ?_
      rw [commit_sent]
      exact List.mem_cons_self
    · rw [entryOf_congr (congrArg _ (hc.cache rfl))]
      exact entryOf_commit w _
    · have hline := readByte_commit_line (w := w) hu (dpa := dpa) rfl hi
      rw [(hm _).trans (if_pos (by omega))] at hline
      rw [readByte_congr (hc.dram rfl)]
      exact hline
    · rw [readByte_congr (hc.dram rfl), readByte_commit_outside hu (dpa := dpa) rfl hout, hm, if_pos ha]
    · rw [readByte_congr (hc.dram rfl), readByte_commit_outside hu (dpa := dpa) rfl (by omega), hm, if_neg ha]
      rfl

end Sys2Proof.Machine

/-! PROOFS. Writes outside the budget or a cap: held, queued by arrival, and released in turn (R33, R89, R135). -/

namespace Sys2Proof.Machine

section Holding
variable {s t : State} {w : HeldWrite}

theorem tailEnds_of_not_inTail (h : inTail s = false) : tailEnds s = s := by simp [tailEnds, h]

/-- The only held write stays held where the budget has no room for it (R33). -/
theorem releaseHeld_of_no_room (hh : s.stg.heldq = [w]) (hb : boltDiscards (boltOf s (w.dpa / 4096)) s = false)
    (hres : inRes (entryOf (w.dpa / 4096) s) = false) (hcap : atCap (boltOf s (w.dpa / 4096)) s = false)
    (hf : fits (costOf (w.dpa / 4096) s) s = false) : releaseHeld 1 s = s := by
  have hpass : passHeld s = s := by
    have hres' : inRes (entryOf (w.dpa / 4096) { s with stg := { s.stg with heldq := [] } }) = false := hres
    unfold passHeld
    rw [hh, List.foldl_cons, List.foldl_nil]
    simp only [hres', Bool.false_and, Bool.false_eq_true, if_false, List.nil_append, ← hh]
  rw [releaseHeld, hh]
  dsimp only
  rw [if_neg (by simp [hb]), if_neg (by simp [hres]), if_neg (by simp [hcap]), if_neg (by simp [hf]), hpass]

/-- The only held write is committed when the budget and its cap allow (R135). -/
theorem releaseHeld_of_room (hh : s.stg.heldq = [w]) (hb : boltDiscards (boltOf s (w.dpa / 4096)) s = false)
    (hres : inRes (entryOf (w.dpa / 4096) s) = false) (hcap : atCap (boltOf s (w.dpa / 4096)) s = false)
    (hf : fits (costOf (w.dpa / 4096) s) s = true) :
    releaseHeld 1 s = sampleFree 8 0 (commit w { s with stg := { s.stg with heldq := [] } }) := by
  rw [releaseHeld, hh]
  dsimp only
  rw [if_neg (by simp [hb]), if_neg (by simp [hres]), if_neg (by simp [hcap]), if_pos hf, releaseHeld]

/-- While writes are held, level 3 stands (R131). -/
theorem reefFlags_l3_of_held (h : s.stg.heldq ≠ []) : (reefFlags s).stg.l3 = true := by
  obtain ⟨_, _, _, hstg⟩ := reefFlags_stg s
  rw [hstg]
  cases hq : s.stg.heldq with
  | nil => exact absurd hq h
  | cons => rfl

theorem reefLevel_of_l3 (h : s.stg.l3 = true) : reefLevel s = 3 := by simp [reefLevel, h]

theorem byArrival_ne_nil (w : HeldWrite) (l : List HeldWrite) : byArrival w l ≠ [] := by
  cases l with
  | nil => simp [byArrival]
  | cons x l =>
    unfold byArrival
    split <;> simp

/-- A write that the budget has no room for is held alone, and level 3 stands; the map and memory are as they were. -/
theorem holdWrite_alone (hh : s.stg.heldq = []) (hb : boltDiscards (boltOf s (w.dpa / 4096)) s = false)
    (hres : inRes (entryOf (w.dpa / 4096) s) = false) (hcap : atCap (boltOf s (w.dpa / 4096)) s = false)
    (hf : fits (costOf (w.dpa / 4096) s) s = false) (htail : inTail s = false) :
    holdWrite w s = reefFlags { s with stg := { s.stg with heldq := [w] } } := by
  let u : State := { s with stg := { s.stg with heldq := [w] } }
  have hrel : releaseHeld 1 u = u := releaseHeld_of_no_room (s := u) rfl hb hres hcap hf
  have hends : tailEnds u = u := tailEnds_of_not_inTail htail
  rw [holdWrite, hh]
  change evaluate (tailEnds u) = reefFlags u
  rw [hends, evaluate]
  split
  · rfl
  · exact congrArg reefFlags hrel

theorem admitBudget_of_no_room (hres : inRes (entryOf (w.dpa / 4096) s) = false)
    (hf : fits (costOf (w.dpa / 4096) s) s = false) : admitBudget w s = holdWrite w s := by
  simp [admitBudget, hres, hf]

theorem served_of_no_room (hmap : w.map = .good) (hadm : admitting s = true)
    (hb : boltDiscards (boltOf s (w.dpa / 4096)) s = false)
    (hst : (entryOf (w.dpa / 4096) s).st = .zero ∨ (entryOf (w.dpa / 4096) s).st = .clean)
    (hq : tget [] s.cache.capq (boltOf s (w.dpa / 4096)) = []) (hcap : atCap (boltOf s (w.dpa / 4096)) s = false)
    (hh : s.stg.heldq = []) (hf : fits (costOf (w.dpa / 4096) s) s = false) (htail : inTail s = false) :
    tailHeld (serveReq s (.write w)) = reefFlags { s with stg := { s.stg with heldq := [w] } } := by
  have hne : (entryOf (w.dpa / 4096) s).st ≠ .restorePending := by obtain h | h := hst <;> simp [h]
  have hres := not_inRes_of_st hst
  rw [serveReq_write hmap, serveWrite_admitted hadm hb hne, admitWrite_of_room hres hq hcap,
    admitBudget_of_no_room hres hf, holdWrite_alone hh hb hres hcap hf htail, tailHeld_of_not_inTail]
  exact (inTail_congr ((reefFlags_changes' _).chg rfl)).trans htail

/-- A write to a bolt at its cap joins the bolt's queue (R89). -/
theorem served_at_cap (hmap : w.map = .good) (hadm : admitting s = true)
    (hb : boltDiscards (boltOf s (w.dpa / 4096)) s = false)
    (hst : (entryOf (w.dpa / 4096) s).st = .zero ∨ (entryOf (w.dpa / 4096) s).st = .clean)
    (hcap : atCap (boltOf s (w.dpa / 4096)) s = true) (htail : inTail s = false) :
    tailHeld (serveReq s (.write w)) = joinCapQueue (boltOf s (w.dpa / 4096)) w s := by
  have hne : (entryOf (w.dpa / 4096) s).st ≠ .restorePending := by obtain h | h := hst <;> simp [h]
  have hjoin : inTail (joinCapQueue (boltOf s (w.dpa / 4096)) w s) = false := htail
  have hadmit : admitWrite w s = joinCapQueue (boltOf s (w.dpa / 4096)) w s := by
    simp [admitWrite, not_inRes_of_st hst, hcap, hjoin]
  rw [serveReq_write hmap, serveWrite_admitted hadm hb hne, hadmit, tailHeld_of_not_inTail hjoin]

theorem sampleFree_changes' (code index : Nat) (s : State) : Changes 0x82000000 s (sampleFree code index s) :=
  sampleFree_changes code index (.self _) (.refl _ s)

/-- HELD_WRITE_RELEASE with one write held (R135). -/
theorem execHeldWriteRelease_one (hadm : admitting s = true) (hd : ddrInReset s = false) (he : emptying s = false)
    (hh : s.stg.heldq = [w]) (hb : boltDiscards (boltOf s (w.dpa / 4096)) s = false)
    (hres : inRes (entryOf (w.dpa / 4096) s) = false) (hcap : atCap (boltOf s (w.dpa / 4096)) s = false)
    (hf : fits (costOf (w.dpa / 4096) s) s = true) : execHeldWriteRelease s =
      .next (reefFlags (sampleFree 8 0 (commit w { s with stg := { s.stg with heldq := [] } }))) := by
  have hlen : s.stg.heldq.length = 1 := by rw [hh]; rfl
  rw [execHeldWriteRelease, if_pos (by simp [hadm, hd]), evaluate, if_neg (by simp [hd, he]), hlen,
    releaseHeld_of_room hh hb hres hcap hf]

/-- CAP_QUEUE_RELEASE of a granule that lies in the residual (R89). -/
theorem execCapQueueRelease_inRes {q : List HeldWrite} {n : Nat} (hadm : admitting s = true) (hd : ddrInReset s = false)
    (he : emptying s = false) (hq : tget [] s.cache.capq n = w :: q) (hb : boltDiscards n s = false)
    (hres : inRes (entryOf (w.dpa / 4096) s) = true) (htail : inTail s = false) : execCapQueueRelease n s =
      .next (commit w (sampleFree 8 0 { s with cache := { s.cache with capq := tput [] n q s.cache.capq } })) := by
  let u : State := sampleFree 8 0 { s with cache := { s.cache with capq := tput [] n q s.cache.capq } }
  have hc := sampleFree_changes' 8 0 { s with cache := { s.cache with capq := tput [] n q s.cache.capq } }
  have htail' : inTail u = false := (inTail_congr (hc.chg rfl)).trans htail
  have hres' : inRes (entryOf (w.dpa / 4096) u) = true := by
    rw [entryOf_congr (congrArg _ (hc.cache rfl))]
    exact hres
  have hadmit : admitBudget w u = commit w u := by simp [admitBudget, hres', htail']
  have hheld : tailHeld (commit w u) = commit w u := tailHeld_of_not_inTail ((inTail_commit w u).trans htail')
  rw [execCapQueueRelease, hq]
  dsimp only
  rw [if_neg (by simp [he]), if_neg (by simp [hb]), if_pos (by simp [hadm, hd, hres])]
  exact congrArg _ ((congrArg tailHeld hadmit).trans hheld)

end Holding

/-- Settles O8. -/
theorem refusedWritesAreHeldAndReleased : Obligations.RefusedWritesAreHeldAndReleased := by
  refine ⟨fun s tag hpa dpa occ data be poison burst hport hwait hadm hdec hb hst hq hcap hh hf htail => ?_,
    fun s tag hpa dpa occ data be poison burst hport hwait hadm hdec hb hst hcap htail => ?_,
    fun s w hadm hd he hh hb hst hcap hf => ?_, fun s w q n hadm hd he hq hb hres htail => ?_⟩
  · let w := writeOf tag dpa data be poison burst .good s
    let u : State := { arrived occ s with stg := { s.stg with heldq := [w] } }
    have hexec := (execCxlMemWrite_served hport hwait hdec).trans (congrArg _
      (served_of_no_room (s := arrived occ s) (w := w) rfl hadm hb hst hq hcap hh hf htail))
    have hc := reefFlags_changes' u
    have hl3 : (reefFlags u).stg.l3 = true := reefFlags_l3_of_held (s := u) (by simp [u])
    exact ⟨_, hexec, reefFlags_heldq u, hl3, reefLevel_of_l3 hl3, (congrArg CacheSt.map (hc.cache rfl)).trans rfl,
      hc.dram rfl⟩
  · let w := writeOf tag dpa data be poison burst .good s
    have hexec := (execCxlMemWrite_served hport hwait hdec).trans (congrArg _
      (served_at_cap (s := arrived occ s) (w := w) rfl hadm hb hst hcap htail))
    exact ⟨_, hexec, tget_tput_self _ _ _ (byArrival_ne_nil _ _) _, rfl, rfl, rfl, rfl⟩
  · let u : State := { s with stg := { s.stg with heldq := [] } }
    have hf' := execHeldWriteRelease_one hadm hd he hh hb (not_inRes_of_st hst) hcap hf
    have hc : Changes 0xce040c10 (commit w u) (reefFlags (sampleFree 8 0 (commit w u))) :=
      reefFlags_changes (by rfl) (sampleFree_changes _ _ (by rfl) (.refl _ _))
    refine ⟨_, hf', ?_, ⟨devLoad u, ?_⟩, ?_⟩
    · rw [reefFlags_heldq, (sampleFree_changes' 8 0 _).stg rfl, (commit_changes' w u).stg rfl]
    · refine (reefFlags_keepsSent (.of_eq ((sampleFree_changes' 8 0 _).sent rfl))).mem ?_
      rw [commit_sent]
      exact List.mem_cons_self
    · rw [entryOf_congr (congrArg _ (hc.cache rfl)), entryOf_commit]
  · let v : State := { s with cache := { s.cache with capq := tput [] n q s.cache.capq } }
    have hc := sampleFree_changes' 8 0 v
    have hload : devLoad (sampleFree 8 0 v) = devLoad s := by
      simp only [devLoad, reefLevel, hc.host rfl, hc.stg rfl]
      rfl
    refine ⟨_, execCapQueueRelease_inRes hadm hd he hq hb hres htail, ?_, ?_, by rw [entryOf_commit]⟩
    · obtain ⟨_, _, _, _, _, _, _, hcache⟩ := commit_rest w (sampleFree 8 0 v)
      rw [hcache, hc.cache rfl]
    · rw [commit_sent, hload]
      rfl

end Sys2Proof.Machine

/-! PROOFS. Reads of the host, accesses outside the decoders, and patrol scrub (R91, R98 to R104, R299, R302). -/

namespace Sys2Proof.Machine

section Reads
variable {s t : State}

theorem lineRead_of_ok {line : Nat} {burst : Burst} (a b : CopyRead) (h : eccOf (byEight s) burst = .ok) :
    lineRead line burst a b s = s := by
  rw [lineRead, h, lineEcc]

theorem lineRead_of_corrected {line : Nat} {burst : Burst} (a b : CopyRead) (h : eccOf (byEight s) burst = .corrected) :
    lineRead line burst a b s = countCe line s := by
  rw [lineRead, h, lineEcc]

/-- A read that need not wait for a load is answered at once (R91, R302). -/
theorem serveReq_read {r : ReadReq} (hmap : r.map = .good) (hst : (entryOf (r.dpa / 4096) s).st ≠ .restorePending)
    (hecc : eccOf (byEight s) r.burst = .ok) : serveReq s (.read r) = answerRead r.tag r.dpa s := by
  rw [serveReq, hmap, mapRead, serveRead, if_neg hst, lineRead_of_ok _ _ hecc, ite_self]

theorem readBytes_congr (h : t.dram = s.dram) (n a : Nat) : readBytes t a n = readBytes s a n := by
  induction n generalizing a with
  | zero => rfl
  | succ n ih => rw [readBytes, readBytes, ih, readByte_congr h]

theorem readLine_congr (h : t.dram = s.dram) (a : Nat) : readLine t a = readLine s a := by
  rw [readLine, readBytes_congr h, readLine]

theorem devLoad_congr (hh : t.host.load = s.host.load) (hs : t.stg = s.stg) : devLoad t = devLoad s := by
  rw [devLoad, reefLevel, hh, hs, devLoad, reefLevel]

/-- What the host is sent for a line: the poison flag, zeros for a ZERO granule, or the line (R91, R101, R303). -/
theorem answerRead_sent (tag dpa : Nat) (s : State) :
    (poisoned (dpa / 4096) (dpa % 4096 / 64) s = false → (entryOf (dpa / 4096) s).st ≠ .zero →
      (answerRead tag dpa s).sent = .read tag (devLoad s) (readLine s (dpa / 64 * 64)) false :: s.sent) ∧
    (poisoned (dpa / 4096) (dpa % 4096 / 64) s = false → (entryOf (dpa / 4096) s).st = .zero →
      (answerRead tag dpa s).sent = .read tag (devLoad s) 0 false :: s.sent) ∧
    (poisoned (dpa / 4096) (dpa % 4096 / 64) s = true →
      ∃ d, (answerRead tag dpa s).sent = .read tag (devLoad s) d true :: s.sent) := by
  have hc := sampleFree_changes' 4 0 s
  have hsent := hc.sent rfl
  unfold answerRead
  dsimp only
  rw [poisoned_congr (congrArg _ (hc.cache rfl)), entryOf_congr (congrArg _ (hc.cache rfl)),
    devLoad_congr (congrArg _ (hc.host rfl)) (hc.stg rfl), readLine_congr (hc.dram rfl)]
  refine ⟨fun h hz => ?_, fun h hz => ?_, fun h => ?_⟩
  · rw [if_neg (by simp [h]), if_neg hz, emit_sent, hsent]
  · rw [if_neg (by simp [h]), if_pos hz, emit_sent, hsent]
  · rw [if_pos h, emit_sent, nextFree_sent, hsent]
    exact ⟨_, rfl⟩

theorem answerRead_changes' (tag dpa : Nat) (s : State) : Changes 0xc2000000 s (answerRead tag dpa s) :=
  answerRead_changes tag dpa (.self _) (.refl _ s)

/-- The load that a request reports. -/
def withLoad (occ : Nat) (s : State) : State := { s with host := { s.host with load := loadOf occ } }

theorem execCxlMemRead_served {tag hpa dpa occ : Nat} {burst : Burst} {a b : CopyRead} {m : MapAcc}
    (hport : portServes s = true) (hwait : requestsWait s = false) (hdec : decodeHpa s.host hpa = some dpa) :
    execCxlMemRead tag hpa burst a b m occ s = .next (serveReq (withLoad occ s)
      (.read { tag := tag, dpa := dpa, burst := burst, a := a, b := b, map := m })) := by
  have hdec' : decodeHpa { s.host with load := loadOf occ } hpa = some dpa := hdec
  rw [execCxlMemRead, if_neg (by simp [hport])]
  simp only [hdec']
  refine if_neg ?_
  change ¬ requestsWait s = true
  simp [hwait]

/-! ### Accesses that no decoder maps (R299) -/

theorem unmapped_changes' (s : State) : Changes 0x4c0c0020 { s with host := { s.host with drops := satAdd max32 s.host.drops 1 } }
    (unmapped s) := engineFault_changes 1 0 (.self _) (.refl _ _)

theorem unmapped_host (s : State) : (unmapped s).host = { s.host with drops := satAdd max32 s.host.drops 1 } :=
  (unmapped_changes' s).host rfl

theorem devLoad_unmapped (s : State) : devLoad (unmapped s) = devLoad s :=
  devLoad_congr ((congrArg HostSt.load (unmapped_host s)).trans rfl) ((unmapped_changes' s).stg rfl)

theorem execCxlMemWrite_unmapped {tag hpa occ : Nat} {data : Line} {be : BitVec 64} {poison : Bool} {burst : Burst} {m : MapAcc}
    (hport : portServes s = true) (hdec : decodeHpa s.host hpa = none) :
    execCxlMemWrite tag hpa data be poison burst m occ s = .next (if beforeFence s then
      emit (.written tag (devLoad (withLoad occ s))) (unmapped (withLoad occ s)) else withLoad occ s) := by
  have hdec' : decodeHpa { s.host with load := loadOf occ } hpa = none := hdec
  rw [execCxlMemWrite, if_neg (by simp [hport])]
  simp only [hdec']
  rfl

theorem execCxlMemRead_unmapped {tag hpa occ : Nat} {burst : Burst} {a b : CopyRead} {m : MapAcc}
    (hport : portServes s = true) (hdec : decodeHpa s.host hpa = none) :
    execCxlMemRead tag hpa burst a b m occ s = .next (emit (.read tag (devLoad (withLoad occ s)) (Config.freeLine s.free) true)
      (nextFree (unmapped (withLoad occ s)))) := by
  have hdec' : decodeHpa { s.host with load := loadOf occ } hpa = none := hdec
  rw [execCxlMemRead, if_neg (by simp [hport])]
  simp only [hdec']
  rfl

theorem byEight_congr (h : t.drf = s.drf) : byEight t = byEight s := by rw [byEight, h, byEight]

theorem lineChannel_congr (h : t.drf = s.drf) (line : Nat) : lineChannel line t = lineChannel line s := by
  rw [lineChannel, ddrChannel, fourChannels, h, lineChannel, ddrChannel, fourChannels]

/-! ### Patrol scrub (R104) -/

theorem scrubTo_changes' (line : Nat) (s : State) : Changes 0x1 s (scrubTo line s) :=
  scrubTo_changes line (.self _) (.refl _ s)

/-- A corrected line counted after the scrub position has moved to `p`. -/
theorem countCe_moved {line k : Nat} (p : Nat)
    (h : lineChannel line { s with cache := { s.cache with scrubPos := p, scrubbing := true } } = k) :
    countCe line { s with cache := { s.cache with scrubPos := p, scrubbing := true } } = { s with cache := { s.cache with
      scrubPos := p, scrubbing := true, ch := modAt k (fun c => { c with ce := satAdd max32 c.ce 1 }) s.cache.ch } } := by
  rw [countCe, h]

theorem countCe_scrubTo (line : Nat) (s : State) : countCe s.cache.scrubPos (scrubTo line s) = { s with cache := { s.cache with
    scrubPos := if line < scrubLines s then line else 0, scrubbing := true,
    ch := modAt (lineChannel s.cache.scrubPos s) (fun c => { c with ce := satAdd max32 c.ce 1 }) s.cache.ch } } :=
  countCe_moved _ (lineChannel_congr ((scrubTo_changes' line s).drf rfl) _)

theorem scrubSkips_of_content {g : Nat} (h : g < capGranules s → (entryOf g s).st ≠ .zero ∧ (entryOf g s).st ≠ .restorePending) :
    scrubSkips g s = false := by
  unfold scrubSkips
  by_cases hg : g < capGranules s
  · simp [h hg]
  · simp [hg]

/-- A scrub read of the line at the scrub position, in the protected capacity or in the system region. -/
theorem execPatrolScrub_reads {burst : Burst} {a b : CopyRead} (harm : isArmed s = true)
    (hskip : scrubSkips (s.cache.scrubPos / 64) s = false) :
    (eccOf (byEight s) burst = .ok → execPatrolScrub burst a b s = .next (scrubTo (s.cache.scrubPos + 1) s)) ∧
    (eccOf (byEight s) burst = .corrected →
      execPatrolScrub burst a b s = .next (countCe s.cache.scrubPos (scrubTo (s.cache.scrubPos + 1) s))) := by
  have hby : byEight (scrubTo (s.cache.scrubPos + 1) s) = byEight s := byEight_congr ((scrubTo_changes' ..).drf rfl)
  rw [execPatrolScrub, if_neg (by simp [harm]), if_neg (by simp [hskip])]
  dsimp only
  generalize scrubTo (s.cache.scrubPos + 1) s = u at hby ⊢
  rw [← hby]
  refine ⟨fun h => ?_, fun h => ?_⟩
  · rw [lineRead_of_ok a b h, h, ite_self]
  · rw [lineRead_of_corrected a b h, h, ite_self]

theorem execPatrolScrub_skips {burst : Burst} {a b : CopyRead} (harm : isArmed s = true)
    (hskip : scrubSkips (s.cache.scrubPos / 64) s = true) :
    execPatrolScrub burst a b s = .next (scrubTo (64 * (s.cache.scrubPos / 64) + 64) s) := by
  rw [execPatrolScrub, if_neg (by simp [harm]), if_pos hskip]

end Reads

/-- Settles O9. -/
theorem readsAnswerTheLine : Obligations.ReadsAnswerTheLine := by
  refine ⟨fun s tag hpa dpa occ burst a b hecc hport hwait hdec hst => ?_,
    ⟨fun s tag hpa occ data be poison burst m hport hdec hf => ?_, fun s tag hpa occ data be poison burst m hport hdec hf => ?_,
      fun s tag hpa occ burst a b m hport hdec => ?_⟩,
    fun s burst a b harm hcontent => ?_, fun s burst a b harm hcap hst => ?_, fun s burst a b harm => ?_⟩
  · have hexec := (execCxlMemRead_served (tag := tag) (occ := occ) (burst := burst) (a := a) (b := b) hport hwait hdec).trans
      (congrArg _ (serveReq_read (s := withLoad occ s) rfl hst hecc))
    have hc := answerRead_changes' tag dpa (withLoad occ s)
    have hload : devLoad (answerRead tag dpa (withLoad occ s)) = devLoad (withLoad occ s) :=
      devLoad_congr (congrArg _ (hc.host rfl)) (hc.stg rfl)
    obtain ⟨hline, hzero, hpoison⟩ := answerRead_sent tag dpa (withLoad occ s)
    refine ⟨_, hexec, fun hp hz => ?_, fun hp hz => ?_, fun hp => ?_, congrArg CacheSt.map (hc.cache rfl), hc.dram rfl⟩
    · rw [hload, hline hp hz, readLine_congr (t := withLoad occ s) (s := s) rfl, List.head?_cons]
    · rw [hload, hzero hp hz, List.head?_cons]
    · obtain ⟨d, hd⟩ := hpoison hp
      exact ⟨d, by rw [hload, hd, List.head?_cons]⟩
  · have hc := unmapped_changes' (withLoad occ s)
    refine ⟨_, (execCxlMemWrite_unmapped hport hdec).trans (congrArg _ (if_pos hf)), ?_, ?_, hc.cache rfl, hc.dram rfl⟩
    · rw [← devLoad_unmapped (withLoad occ s), emit_sent, List.head?_cons]
      rfl
    · exact congrArg HostSt.drops (unmapped_host (withLoad occ s))
  · exact ⟨_, (execCxlMemWrite_unmapped hport hdec).trans (congrArg _ (if_neg (by simp [hf]))), rfl, rfl, rfl⟩
  · have hc := unmapped_changes' (withLoad occ s)
    refine ⟨_, Config.freeLine s.free, execCxlMemRead_unmapped hport hdec, ?_, ?_, ?_, ?_⟩
    · rw [← devLoad_unmapped (withLoad occ s), emit_sent, List.head?_cons]
      rfl
    · exact congrArg HostSt.drops (unmapped_host (withLoad occ s))
    · rw [emit_cache, nextFree_cache]
      exact hc.cache rfl
    · rw [emit_dram, nextFree_dram]
      exact hc.dram rfl
  · obtain ⟨hok, hcorrected⟩ := execPatrolScrub_reads (burst := burst) (a := a) (b := b) harm (scrubSkips_of_content hcontent)
    exact ⟨hok, fun h => (hcorrected h).trans (congrArg _ (countCe_scrubTo ..))⟩
  · refine execPatrolScrub_skips harm ?_
    simp [scrubSkips, hcap, hst]
  · exact if_pos (by simp [harm])

end Sys2Proof.Machine

/-! PROOFS. The CXL port: link training, HDM decoders, MSI-X unmasking, and the resets of the host interface (R290, R291, R296,
R297, R321, R524). -/

namespace Sys2Proof.Machine

section Port
variable {s t : State}

/-! ### Link, decoders and interrupts (R290, R296, R297, R524) -/

/-- Memory is enabled in the combinations that R290 and R291 name. -/
theorem modeOk_iff (w v : Nat) (f : Bool) : modeOk w v f = true ↔
    (w = 4 ∨ w = 8 ∨ w = 16) ∧ (f = true ∧ (v = 5 ∨ v = 6) ∨ f = false ∧ (v = 3 ∨ v = 4 ∨ v = 5)) := by
  cases f <;> simp [modeOk, widthOk, linkMode, or_assoc]

theorem execHdmDecoderCommit_zero (r : HdmReq) (hup : s.warm.engineUp = true) : execHdmDecoderCommit 0 r s = .next (
    if s.host.dec0.committed = true ∧ s.host.dec0.lock = true then s
    else if commitForm r = true ∧ decodersFit (decoderOf r) s.host.dec1 s = true then
      { s with host := { s.host with dec0 := decoderOf r } }
    else { s with host := { s.host with dec0 := { s.host.dec0 with committed := false, error := true } } }) := by
  rw [execHdmDecoderCommit, if_neg (by simp [hup])]
  simp only [if_true, ← Bool.and_eq_true]
  split
  · rfl
  · split <;> rfl

theorem execHdmDecoderCommit_one (r : HdmReq) (hup : s.warm.engineUp = true) : execHdmDecoderCommit 1 r s = .next (
    if s.host.dec1.committed = true ∧ s.host.dec1.lock = true then s
    else if commitForm r = true ∧ s.host.dec0.committed = true ∧ decodersFit s.host.dec0 (decoderOf r) s = true then
      { s with host := { s.host with dec1 := decoderOf r } }
    else { s with host := { s.host with dec1 := { s.host.dec1 with committed := false, error := true } } }) := by
  rw [execHdmDecoderCommit, if_neg (by simp [hup])]
  simp only [Nat.one_ne_zero, if_false, if_true, ← Bool.and_eq_true, Bool.and_assoc]
  split
  · rfl
  · split <;> rfl

/-- The vector unmasked and its interrupt taken from those that are pending. -/
def unmask (v : Nat) (s : State) : State :=
  { s with host := { s.host with msixMasked := setAt v false s.host.msixMasked, msixPending := setAt v false s.host.msixPending } }

/-- An unmasked vector's interrupt goes out while the port is open; it is lost otherwise. -/
theorem msix_unmask (v : Nat) (hv : v < s.host.msixMasked.length) :
    msix v (unmask v s) = if msixOpen s then emit (.msix v) (unmask v s) else unmask v s := by
  have hm : ((unmask v s).host.msixMasked[v]?).getD true = false := by simp [unmask, setAt, hv]
  have ho : msixOpen (unmask v s) = msixOpen s := rfl
  rw [msix, hm, ho]
  cases msixOpen s <;> rfl

end Port

/-- Settles O10. -/
theorem linkDecodersAndInterrupts : Obligations.LinkDecodersAndInterrupts := by
  refine ⟨fun s w v f htrain hup hfrozen => ?_, ⟨fun s r => execHdmDecoderCommit_zero r, fun s r => execHdmDecoderCommit_one r⟩,
    fun s v hv hup hmasked hpending => ?_⟩
  · let u : State := { s with host := { s.host with width := w, speed := v, flit256 := f, memEnabled := modeOk w v f } }
    have hc : Changes 0x4c0c0020 u (engineCond 0 (!modeOk w v f) u) := engineCond_changes _ _ (.self _) (.refl _ u)
    have hhost := hc.host rfl
    refine ⟨_, if_pos (by simp [htrain, hup, hfrozen]), ?_, ?_, hc.cache rfl, hc.dram rfl, hc.stg rfl, hc.mbx rfl, hc.log rfl⟩
    · exact (iff_of_eq (congrArg (fun h : HostSt => h.memEnabled = true) hhost)).trans (modeOk_iff w v f)
    · rw [hhost]
  · have hdue : ((s.host.msixPending[v]?).getD false = true) = (s.host.msixPending[v]? = some true) := by
      rw [List.getElem?_eq_getElem (by omega)]
      simp
    have hexec : exec (.msixUnmask v) s = .next (if s.host.msixPending[v]? = some true ∧ msixOpen s = true then
        emit (.msix v) (unmask v s) else unmask v s) := by
      refine (if_pos (by simp [hv, hup])).trans (congrArg _ ?_)
      change (if (s.host.msixPending[v]?).getD false = true then msix v (unmask v s) else unmask v s) = _
      simp only [msix_unmask v (by omega : v < s.host.msixMasked.length), hdue, ite_and]
    have hmask : (unmask v s).host.msixMasked[v]? = some false := by simp [unmask, setAt, hmasked, hv]
    have hpend : (unmask v s).host.msixPending[v]? = some false := by simp [unmask, setAt, hpending, hv]
    refine ⟨_, hexec, ?_⟩
    split
    · exact ⟨hmask, hpend, rfl, rfl⟩
    · exact ⟨hmask, hpend, rfl, rfl⟩

section HostResets
variable {s t : State}

/-! ### Host resets (R44, R45, R321) -/

theorem msix_host (v : Nat) (s : State) : ∃ p, (msix v s).host = { s.host with msixPending := p } := by
  unfold msix
  split
  · exact ⟨_, rfl⟩
  · split
    · exact ⟨_, rfl⟩
    · exact ⟨_, rfl⟩

theorem postEvent_host (i kind bolt : Nat) (values : List Nat) (s : State) :
    ∃ p, (postEvent i kind bolt values s).host = { s.host with msixPending := p } := by
  unfold postEvent
  dsimp only
  split
  · exact ⟨_, rfl⟩
  · split
    · exact msix_host ..
    · exact ⟨_, rfl⟩

/-- An evaluation of the flags reaches the port by its interrupts alone. -/
theorem reefFlags_host (s : State) : ∃ p, (reefFlags s).host = { s.host with msixPending := p } := by
  unfold reefFlags
  extract_lets _ _ _ _ _ _ _ _ _ _ a b c d
  have hb : b.host = s.host := by
    unfold b
    split
    · exact (engineClear_changes 5 (.self _) (.refl _ a)).host rfl
    · rfl
  have hc : c.host = s.host := by
    rw [← hb]
    unfold c
    split
    · exact (engineClear_changes 4 (.self _) (.refl _ b)).host rfl
    · rfl
  have hd : ∃ p, d.host = { s.host with msixPending := p } := by
    rw [← hc]
    unfold d
    split
    · exact postEvent_host ..
    · exact ⟨_, rfl⟩
  split
  · obtain ⟨p, hd⟩ := hd
    obtain ⟨q, hq⟩ := msix_host 3 d
    exact ⟨q, by rw [hq, hd]⟩
  · exact hd

theorem discardWrites_heldq (s : State) : (discardWrites s).stg.heldq = [] := rfl

theorem discardWrites_waiting (s : State) : (discardWrites s).cache.waiting = s.cache.waiting.filter isReadReq := by
  have hc (l : List HeldWrite) : Changes 0x82000000 s (l.foldl (fun s _ => sampleFree 8 0 s) s) :=
    .foldl (.refl _ s) fun _ _ h => sampleFree_changes _ _ (.self _) h
  rw [← (hc (s.stg.heldq ++ s.cache.capq.flatMap (·.2))).cache rfl]
  rfl

theorem dropRequests_heldq (s : State) : (dropRequests s).stg.heldq = [] := rfl

/-- With the held writes gone, the evaluation that follows a reset sets flags alone. -/
theorem evaluate_dropRequests (s : State) : evaluate (dropRequests s) = reefFlags (dropRequests s) :=
  evaluate_of_nil (dropRequests_heldq s)

/-- The requests of the host are gone, and nothing but the fence and the flags has changed of the port. -/
def afterDrop (s : State) : State := evaluate (dropRequests (fenceByHost s))

theorem fenceByHost_host (s : State) : ∃ w, (fenceByHost s).host = { s.host with gpfWaiting := w } := by
  unfold fenceByHost
  split
  · dsimp only
    rw [fence_host]
    exact ⟨_, rfl⟩
  · exact ⟨_, rfl⟩

theorem discardWrites_changes' (s : State) : Changes 0x82000011 s (discardWrites s) :=
  discardWrites_changes (.self _) (.refl _ s)

theorem dropRequests_host (s : State) : (dropRequests s).host = { s.host with gpfWaiting := [] } := by
  rw [dropRequests, ← (discardWrites_changes' s).host rfl]

theorem afterDrop_host (s : State) : ∃ p, (afterDrop s).host = { s.host with gpfWaiting := [], msixPending := p } := by
  obtain ⟨w, hw⟩ := fenceByHost_host s
  obtain ⟨p, hp⟩ := reefFlags_host (dropRequests (fenceByHost s))
  rw [afterDrop, evaluate_dropRequests, hp, dropRequests_host, hw]
  exact ⟨_, rfl⟩

theorem afterDrop_waiting (s : State) : (afterDrop s).cache.waiting = [] := by
  rw [afterDrop, evaluate_dropRequests, (reefFlags_changes' _).cache rfl]
  rfl

theorem linkGone_changes' (s : State) : Changes 0x4c040000
    { s with host := { s.host with width := 0, speed := 0, flit256 := false, memEnabled := false } } (linkGone s) :=
  engineClear_changes 0 (.self _) (.refl _ _)

theorem linkGone_afterDrop_host (s : State) : ∃ p, (linkGone (afterDrop s)).host = { s.host with
    width := 0, speed := 0, flit256 := false, memEnabled := false, gpfWaiting := [], msixPending := p } := by
  obtain ⟨p, hp⟩ := afterDrop_host s
  exact ⟨p, by rw [(linkGone_changes' (afterDrop s)).host rfl, hp]⟩

theorem linkGone_afterDrop_waiting (s : State) : (linkGone (afterDrop s)).cache.waiting = [] := by
  rw [(linkGone_changes' (afterDrop s)).cache rfl]
  exact afterDrop_waiting s

theorem hostReset_eq (s : State) : hostReset s = { linkGone (afterDrop s) with
    host := { (linkGone (afterDrop s)).host with
      dec0 := {}, dec1 := {}, rangeEnable := false, rangeBase := 0, gpfFailed := false, gpfUs := 0, load := 0 },
    mbx := { (linkGone (afterDrop s)).mbx with doorbell := false } } := by
  unfold hostReset afterDrop
  rfl

theorem linkLoss_eq (s : State) : linkLoss s = { linkGone (afterDrop s) with
    host := { (linkGone (afterDrop s)).host with linkdowns := satAdd max32 (linkGone (afterDrop s)).host.linkdowns 1 },
    mbx := { (linkGone (afterDrop s)).mbx with doorbell := false } } := by
  unfold linkLoss afterDrop
  rfl

theorem execCxlReset_up (hup : s.warm.engineUp = true) : execCxlReset s = .next { afterDrop s with
    host := { (afterDrop s).host with
      dec0 := { (afterDrop s).host.dec0 with committed := false }, dec1 := { (afterDrop s).host.dec1 with committed := false },
      rangeEnable := false, gpfFailed := false, gpfUs := 0, load := 0 },
    mbx := { (afterDrop s).mbx with doorbell := false } } := if_pos hup

theorem execFunctionLevelReset_up (hup : s.warm.engineUp = true) : execFunctionLevelReset s = .next
    { reefFlags (discardWrites s) with mbx := { (reefFlags (discardWrites s)).mbx with doorbell := false } } := by
  refine (if_pos hup).trans ?_
  rw [evaluate_of_nil (discardWrites_heldq s)]

end HostResets

/-- Settles O12. -/
theorem hostResetsClearPort : Obligations.HostResetsClearPort := by
  refine ⟨fun c s hc hup => ?_, fun s hup => ?_, fun s hup => ?_, fun s hup => ?_⟩
  · have hperst : execPerstN s = .next (hostReset s) := by rw [execPerstN, if_pos hup]
    have hexec : exec c s = .next (hostReset s) := by obtain rfl | rfl := hc <;> exact hperst
    have hframe := (execPerstN_changes (.self _) (.refl _ s)).out _ hperst
    obtain ⟨p, hp⟩ := linkGone_afterDrop_host s
    refine ⟨_, hexec, ?_, ?_, ?_, ?_, ?_, ?_, ?_, ?_, ?_, hframe.drf rfl, hframe.lcs rfl⟩ <;> rw [hostReset_eq]
    · rw [hp]
    · rw [hp]
    · exact linkGone_afterDrop_waiting s
    · rw [hp]
  · have hexec : exec .linkDown s = .next (linkLoss s) := by
      change execLinkDown s = _
      rw [execLinkDown, if_pos hup]
    obtain ⟨p, hp⟩ := linkGone_afterDrop_host s
    refine ⟨_, hexec, ?_, ?_, ?_, ?_, ?_, ?_, ?_, ?_, ?_⟩ <;> rw [linkLoss_eq]
    case refine_8 => exact linkGone_afterDrop_waiting s
    all_goals rw [hp]
  · obtain ⟨p, hp⟩ := afterDrop_host s
    refine ⟨_, execCxlReset_up hup, ?_, ?_, rfl, ?_, ?_, afterDrop_waiting s, ?_⟩ <;> rw [hp]
  · have hd := discardWrites_changes' s
    have hf := reefFlags_changes' (discardWrites s)
    obtain ⟨p, hp⟩ := reefFlags_host (discardWrites s)
    rw [hd.host rfl] at hp
    refine ⟨_, execFunctionLevelReset_up hup, ?_, ?_, ?_, ?_, ?_, ?_, (hf.vlt rfl).trans (hd.vlt rfl), reefFlags_heldq _,
      congrArg CacheSt.capq (hf.cache rfl), (congrArg CacheSt.waiting (hf.cache rfl)).trans (discardWrites_waiting s)⟩ <;>
      rw [hp]

end Sys2Proof.Machine

/-! PROOFS. The mailbox: the answers of its read commands, event records, and the vendor commands (R304, R310 to R316). -/

namespace Sys2Proof.Machine

section Answers
variable {s t : State}

/-! ### Answers (R310, R311) -/

theorem whenOpen_of_open {f : State → Host.Outcome State Fault Refusal} (htrain : s.host.training = true)
    (hup : s.warm.engineUp = true) : whenOpen s f = f s := by
  rw [whenOpen, mailboxOpen, htrain, hup, Bool.and_self, if_pos rfl]

theorem execGetLog_effects {o n : Nat} (htrain : s.host.training = true) (hup : s.warm.engineUp = true) (h : o + n ≤ 30) :
    execGetLog true o n s = answer .success ((commandOpcodes.drop o).take n) s := by
  have hlen : o + n ≤ commandOpcodes.length := h
  rw [execGetLog, whenOpen_of_open htrain hup, if_pos (by simp [hlen])]

theorem execIdentifyMemoryDevice_open (htrain : s.host.training = true) (hup : s.warm.engineUp = true) :
    exec .identifyMemoryDevice s = .next (msix 0 (emit (.answer .success
      [capGranules s * 4096, 0, capGranules s * 4096, 0, 65536, 65536, 0]) s)) := by
  change execIdentifyMemoryDevice s = _
  rw [execIdentifyMemoryDevice, whenOpen_of_open htrain hup, answer]

theorem execGetPartitionInfo_open (htrain : s.host.training = true) (hup : s.warm.engineUp = true) :
    exec .getPartitionInfo s = .next (msix 0 (emit (.answer .success [0, capGranules s * 4096]) s)) := by
  change execGetPartitionInfo s = _
  rw [execGetPartitionInfo, whenOpen_of_open htrain hup, answer]

theorem execSetTimestamp_eq (v : DWord) (htrain : s.host.training = true) (hup : s.warm.engineUp = true) :
    execSetTimestamp v s = answer .success []
      { s with tbs := { s.tbs with offset := (v.toNat + 2 ^ 64 - engineNow s % 2 ^ 64) % 2 ^ 64 } } := by
  rw [execSetTimestamp, whenOpen_of_open htrain hup]

/-! ### Health (R312) -/

/-- Maintenance Needed. -/
theorem healthBits_maintenance (s : State) : bitOf (healthBits s) 0 = true ↔ s.nand.degraded = true ∨ s.gau.overdue = true := by
  unfold healthBits
  extract_lets slow
  rw [← Bool.or_eq_true]
  cases s.nand.degraded || s.gau.overdue <;> cases slow <;> cases s.stg.exhausted || s.flt.engineLive.contains 16 <;> decide

/-- Hardware Replacement Needed. -/
theorem healthBits_replacement (s : State) :
    bitOf (healthBits s) 2 = true ↔ s.stg.exhausted = true ∨ s.flt.engineLive.contains 16 = true := by
  unfold healthBits
  extract_lets slow
  rw [← Bool.or_eq_true]
  cases s.nand.degraded || s.gau.overdue <;> cases slow <;> cases s.stg.exhausted || s.flt.engineLive.contains 16 <;> decide

theorem mediaStatus_eq_zero (s : State) : b01 (!mediaReady s) = 0 ↔ mediaReady s = true := by
  cases mediaReady s <;> decide

end Answers

/-- Settles O13. -/
theorem mailboxReadsAnswer : Obligations.MailboxReadsAnswer := by
  refine ⟨fun s htrain hup => ?_, fun s htrain hup => ?_⟩
  · have hopen (f : State → Host.Outcome State Fault Refusal) : whenOpen s f = f s := whenOpen_of_open htrain hup
    refine ⟨fun d hd => ?_, hopen _, hopen _, hopen _, hopen _, fun o n h => execGetLog_effects htrain hup h,
      execIdentifyMemoryDevice_open htrain hup, execGetPartitionInfo_open htrain hup, hopen _, hopen _, fun op => hopen _⟩
    change execIdentify s = _
    rw [execIdentify, hopen, hd]
    rfl
  · have hopen (f : State → Host.Outcome State Fault Refusal) : whenOpen s f = f s := whenOpen_of_open htrain hup
    refine ⟨⟨_, _, hopen _, mediaStatus_eq_zero s, healthBits_maintenance s, healthBits_replacement s⟩,
      fun dpa lines => ⟨_, hopen _, fun e => ?_⟩, fun hbg hcode => ?_, fun hbg =>
      ⟨Config.freeNat s.free % 100, ?_, Nat.mod_lt _ (by decide)⟩⟩
    · simp
    · change execBackgroundOperationStatus s = _
      rw [execBackgroundOperationStatus, hopen, if_neg (by simp [hbg]), if_pos hcode, answer]
    · change execBackgroundOperationStatus s = _
      rw [execBackgroundOperationStatus, hopen, if_pos (Option.isSome_iff_ne_none.mpr hbg), answer]
      rfl

section EventRecords
variable {s : State}

/-! ### Event records (R314) -/

theorem eventLog_setAt_same {k : Nat} (x : EventLog) (hk : k < s.mbx.logs.length) :
    eventLog k { s with mbx := { s.mbx with logs := setAt k x s.mbx.logs } } = x := by
  simp [eventLog, setAt, hk]

theorem eventLog_setAt_ne {j k : Nat} (x : EventLog) (hj : j ≠ k) :
    eventLog j { s with mbx := { s.mbx with logs := setAt k x s.mbx.logs } } = eventLog j s := by
  simp [eventLog, setAt, Ne.symm hj]

theorem eventLog_congr {t : State} (h : t.mbx = s.mbx) (j : Nat) : eventLog j t = eventLog j s := by
  rw [eventLog, h, eventLog]

/-- An answer changes what has been sent and the interrupts that are pending. -/
theorem msix_emit_eq (v : Nat) (m : Sent) (s : State) : ∃ p sent, msix v (emit m s) =
    { s with sent := sent, host := { s.host with msixPending := p } } := by
  unfold msix
  split
  · exact ⟨_, _, rfl⟩
  · split <;> exact ⟨_, _, rfl⟩

/-- An event log with all records cleared, or those of the handles named. -/
def clearLog (all : Bool) (handles : List Nat) (l : EventLog) : EventLog :=
  if all then { l with recs := [], overflow := 0 } else { l with recs := l.recs.filter (fun r => !handles.contains r.handle) }

theorem execClearEventRecords_low {k : Nat} (all : Bool) (handles : List Nat) (htrain : s.host.training = true)
    (hup : s.warm.engineUp = true) (hk : k < 4) : execClearEventRecords k all handles s = answer .success []
      { s with mbx := { s.mbx with logs := setAt k (clearLog all handles (eventLog k s)) s.mbx.logs } } := by
  rw [execClearEventRecords, whenOpen_of_open htrain hup, if_pos hk]
  rfl

theorem execGetEventRecords_low {k : Nat} (htrain : s.host.training = true) (hup : s.warm.engineUp = true) (hk : k < 4) :
    execGetEventRecords k s = answer .success ([b01 (decide (0 < (eventLog k s).overflow)), (eventLog k s).overflow,
      (eventLog k s).recs.length] ++ (eventLog k s).recs.flatMap (recordValues s)) s := by
  rw [execGetEventRecords, whenOpen_of_open htrain hup, if_pos hk]

end EventRecords

/-- Settles O14. -/
theorem eventLogsAreReadAndCleared : Obligations.EventLogsAreReadAndCleared := by
  refine ⟨fun s k htrain hup hk => execGetEventRecords_low htrain hup hk, fun s k all hs htrain hup hk hsound => ?_,
    fun s k all hs htrain hup hk => ⟨?_, ?_⟩⟩
  · let u : State := { s with mbx := { s.mbx with logs := setAt k (clearLog all hs (eventLog k s)) s.mbx.logs } }
    have hmbx : (msix 0 (emit (.answer .success []) u)).mbx = u.mbx := msix_mbx ..
    have hlen : k < s.mbx.logs.length := by
      rw [hsound.events.four]
      exact hk
    have hsame : eventLog k (msix 0 (emit (.answer .success []) u)) = clearLog all hs (eventLog k s) :=
      (eventLog_congr hmbx k).trans (eventLog_setAt_same _ hlen)
    refine ⟨_, execClearEventRecords_low all hs htrain hup hk, fun hall => ?_, fun hall r => ?_, fun j hj => ?_, ?_⟩
    · rw [hsame, clearLog, if_pos hall]
      exact ⟨rfl, rfl⟩
    · rw [hsame, clearLog, if_neg (by simp [hall])]
      simp
    · exact (eventLog_congr hmbx j).trans (eventLog_setAt_ne _ hj)
    · obtain ⟨_, _, h⟩ := msix_emit_eq 0 (.answer .success []) u
      rw [h]
  · change execGetEventRecords k s = _
    rw [execGetEventRecords, whenOpen_of_open htrain hup, if_neg (by omega), answer]
  · change execClearEventRecords k all hs s = _
    rw [execClearEventRecords, whenOpen_of_open htrain hup, if_neg (by omega), answer]

end Sys2Proof.Machine

/-! PROOFS. The label storage area: its words, their bytes, and what SET_LSA writes (R310, R468, R470, R471). -/

namespace Sys2Proof.Machine

section Words
variable {s t : State}

/-! ### Tables under an insertion -/

theorem tfind_tins {α : Type} (n m : Nat) (v : α) (t : Table α) :
    tfind (tins n v t) m = if m = n then some v else tfind t m := by
  induction t with
  | nil => rw [tins]; grind [tfind]
  | cons e t ih => rw [tins]; grind [tfind]

/-! ### The words of embedded flash (R468, R471) -/

theorem eflWord_storeWord (w : Nat) (x : EflWord) (s : State) (v : Nat) :
    eflWord v (storeWord w x s) = if v = w then x else eflWord v s := by
  by_cases h : v = w
  · rw [eflWord, storeWord, tfind_tins, if_pos h, if_pos h]
  · rw [eflWord, storeWord, tfind_tins, if_neg h, if_neg h]
    rfl

/-- A word that takes any program: it is erased, and its block is neither worn nor erase-incomplete (R471, R475, R488). -/
structure Programmable (w : Nat) (s : State) : Prop where
  erased : (eflWord w s).programs = 0
  complete : s.efl.incomplete.contains (blockOfWord w) = false
  fit : blockWorn (blockOfWord w) s = false

theorem programWord_of_programmable {w : Nat} (d : Nat) (h : Programmable w s) :
    programWord w d s = storeWord w { data := d, programs := 1 } s := by
  obtain ⟨hp, hi, hw⟩ := h
  have ht : programTakes w d s = true := by simp [programTakes, programFits, hp]
  have hst : programStatus w d s = 0 := by simp only [programStatus, hw, hi, ht]; rfl
  rw [programWord, hst, hp]
  rfl

/-- A word of the label storage area that takes a program: it is erased, and its block reads and is not worn. -/
def TakesProgram (w : Nat) (s : State) : Prop :=
  sectorOfWord w = 37 ∧ (eflWord w s).programs = 0 ∧ blockReads (blockOfWord w) s = true ∧ blockWorn (blockOfWord w) s = false

theorem not_incomplete_of_blockReads {b : Nat} (h : blockReads b s = true) : s.efl.incomplete.contains b = false := by
  cases hc : s.efl.incomplete.contains b <;> simp_all [blockReads]

theorem programWord_of_takes {w : Nat} (d : Nat) (h : TakesProgram w s) :
    programWord w d s = storeWord w { data := d, programs := 1 } s := by
  obtain ⟨-, hp, hr, hw⟩ := h
  exact programWord_of_programmable d ⟨hp, not_incomplete_of_blockReads hr, hw⟩

theorem filter_tins {α : Type} {p : Nat × α → Bool} {n : Nat} {v : α} (h : ∀ w, p (n, w) = false) (t : Table α) :
    (tins n v t).filter p = t.filter p := by
  induction t with
  | nil => simp [tins, h]
  | cons e t ih =>
    rw [tins]
    split
    · rw [List.filter_cons_of_neg (by simp [h])]
    · split
      next hn =>
        obtain ⟨k, x⟩ := e
        obtain rfl : n = k := hn
        rw [List.filter_cons_of_neg (by simp [h]), List.filter_cons_of_neg (by simp [h])]
      · rw [List.filter_cons, List.filter_cons, ih]

/-- Only the words of embedded flash differ, and none of them outside the sector of the label storage area. -/
structure LabelWordsOnly (s t : State) : Prop where
  words : ∃ ws, t = { s with efl := { s.efl with words := ws } }
  journal : ∀ half, half ≤ 1 → journalWords half t = journalWords half s
  outside : ∀ w, sectorOfWord w ≠ 37 → eflWord w t = eflWord w s

theorem LabelWordsOnly.refl (s : State) : LabelWordsOnly s s := ⟨⟨_, rfl⟩, fun _ _ => rfl, fun _ _ => rfl⟩

theorem LabelWordsOnly.trans {u : State} (h : LabelWordsOnly s t) (k : LabelWordsOnly t u) : LabelWordsOnly s u where
  words := by
    obtain ⟨_, rfl⟩ := h.words
    obtain ⟨_, rfl⟩ := k.words
    exact ⟨_, rfl⟩
  journal half hh := (k.journal half hh).trans (h.journal half hh)
  outside w hw := (k.outside w hw).trans (h.outside w hw)

theorem storeWord_labelWordsOnly {w : Nat} (x : EflWord) (h : sectorOfWord w = 37) (s : State) :
    LabelWordsOnly s (storeWord w x s) where
  words := ⟨_, rfl⟩
  journal half hh := filter_tins (fun _ => decide_eq_false (by dsimp only; omega)) _
  outside v hv := by
    rw [eflWord_storeWord, if_neg]
    rintro rfl
    exact hv h

theorem journalHalf_le_one (s : State) : journalHalf s ≤ 1 := by
  unfold journalHalf
  split_ifs <;> decide

/-- The erase journal stands (R485). -/
structure SameJournal (s t : State) : Prop where
  words : ∀ half, half ≤ 1 → journalWords half t = journalWords half s
  read : ∀ w, sectorOfWord w = 34 ∨ sectorOfWord w = 35 → eflWord w t = eflWord w s

theorem SameJournal.journalRecords_eq (h : SameJournal s t) {half : Nat} (hh : half ≤ 1) :
    journalRecords half t = journalRecords half s := by
  rw [journalRecords, h.words half hh, journalRecords]
  refine List.filterMap_congr fun e he => ?_
  obtain ⟨hmem, heven⟩ := List.mem_filter.mp he
  have hsec : sectorOfWord e.1 = 34 + half := of_decide_eq_true (List.mem_filter.mp hmem).2
  have heven : e.1 % 2 = 0 := of_decide_eq_true heven
  rw [h.read (e.1 + 1) (by unfold sectorOfWord at hsec ⊢; omega)]

theorem SameJournal.journalEnd_eq (h : SameJournal s t) {half : Nat} (hh : half ≤ 1) : journalEnd half t = journalEnd half s := by
  rw [journalEnd, h.words half hh, journalEnd]

theorem SameJournal.journalHalf_eq (h : SameJournal s t) : journalHalf t = journalHalf s := by
  have hfull : journalFull 0 t = journalFull 0 s := by rw [journalFull, h.journalEnd_eq (by decide), journalFull]
  rw [journalHalf, h.journalEnd_eq (by decide), h.journalEnd_eq (by decide), hfull, journalHalf]

theorem SameJournal.eraseCount_eq (h : SameJournal s t) (b : Nat) : eraseCount b t = eraseCount b s := by
  have hrec : blockRecords b t = blockRecords b s := by
    rw [blockRecords, h.journalHalf_eq, h.journalRecords_eq (Nat.sub_le 1 _), h.journalRecords_eq (journalHalf_le_one s),
      blockRecords]
  rw [eraseCount, hrec, eraseCount]

theorem SameJournal.blockWorn_eq (h : SameJournal s t) (hw : t.efl.worn = s.efl.worn) (b : Nat) : blockWorn b t = blockWorn b s := by
  rw [blockWorn, h.eraseCount_eq, hw, blockWorn]

theorem LabelWordsOnly.sameJournal (h : LabelWordsOnly s t) : SameJournal s t := ⟨h.journal, fun w hw => h.outside w (by omega)⟩

theorem LabelWordsOnly.blockReads_eq (h : LabelWordsOnly s t) (b : Nat) : blockReads b t = blockReads b s := by
  obtain ⟨_, rfl⟩ := h.words
  rfl

theorem LabelWordsOnly.blockWorn_eq (h : LabelWordsOnly s t) (b : Nat) : blockWorn b t = blockWorn b s := by
  refine h.sameJournal.blockWorn_eq ?_ b
  obtain ⟨_, rfl⟩ := h.words
  rfl

theorem LabelWordsOnly.takes (h : LabelWordsOnly s t) {w : Nat} (hw : eflWord w t = eflWord w s) (k : TakesProgram w s) :
    TakesProgram w t := by
  obtain ⟨hsec, hp, hr, hworn⟩ := k
  exact ⟨hsec, hw ▸ hp, (h.blockReads_eq _).trans hr, (h.blockWorn_eq _).trans hworn⟩

/-- Programming words that take it stores each with its value, and no other. -/
theorem foldl_programWord {ws : List (Nat × Nat)} (hnd : (ws.map Prod.fst).Nodup) (h : ∀ e ∈ ws, TakesProgram e.1 s) :
    LabelWordsOnly s (ws.foldl (fun s e => programWord e.1 e.2 s) s) ∧
    (∀ e ∈ ws, eflWord e.1 (ws.foldl (fun s e => programWord e.1 e.2 s) s) = { data := e.2, programs := 1 }) ∧
    ∀ w, w ∉ ws.map Prod.fst → eflWord w (ws.foldl (fun s e => programWord e.1 e.2 s) s) = eflWord w s := by
  induction ws generalizing s with
  | nil => exact ⟨.refl s, by simp, fun _ _ => rfl⟩
  | cons a ws ih =>
    obtain ⟨ha, hnd⟩ := List.nodup_cons.mp hnd
    have hstep : programWord a.1 a.2 s = storeWord a.1 { data := a.2, programs := 1 } s :=
      programWord_of_takes a.2 (h a List.mem_cons_self)
    have honly : LabelWordsOnly s (programWord a.1 a.2 s) := hstep ▸ storeWord_labelWordsOnly _ (h a List.mem_cons_self).1 s
    have hw (v : Nat) (hv : v ≠ a.1) : eflWord v (programWord a.1 a.2 s) = eflWord v s := by
      rw [hstep, eflWord_storeWord, if_neg hv]
    have hne (e : Nat × Nat) (he : e ∈ ws) : e.1 ≠ a.1 := fun hea => ha (hea ▸ List.mem_map_of_mem he)
    obtain ⟨ho, hin, hout⟩ := ih (s := programWord a.1 a.2 s) hnd
      fun e he => honly.takes (hw _ (hne e he)) (h e (List.mem_cons_of_mem _ he))
    refine ⟨honly.trans ho, fun e he => ?_, fun w hnot => ?_⟩
    · obtain rfl | he := List.mem_cons.mp he
      · rw [List.foldl_cons, hout _ ha, hstep, eflWord_storeWord, if_pos rfl]
      · exact hin e he
    · obtain ⟨hwa, hnot⟩ := not_or.mp (List.mem_cons.not.mp hnot)
      rw [List.foldl_cons, hout w hnot, hw w hwa]

/-- A block whose words take a program holds their values after it is written, and its other words stay. -/
theorem rewriteBlock_of_takes {b : Nat} {ws : List (Nat × Nat)} (hnd : (ws.map Prod.fst).Nodup) (hb : blockReads b s = true)
    (h : ∀ e ∈ ws, TakesProgram e.1 s) :
    LabelWordsOnly s (rewriteBlock b ws s) ∧ (∀ e ∈ ws, eflData e.1 (rewriteBlock b ws s) = e.2) ∧
    ∀ w, w ∉ ws.map Prod.fst → eflWord w (rewriteBlock b ws s) = eflWord w s := by
  have hall : ((ws.filter (fun e => eflData e.1 s ≠ e.2)).all (fun e => (eflWord e.1 s).programs = 0) && blockReads b s) = true := by
    rw [hb, Bool.and_true, List.all_eq_true]
    exact fun e he => decide_eq_true (h e (List.mem_of_mem_filter he)).2.1
  have hsub : ((ws.filter (fun e => eflData e.1 s ≠ e.2)).map Prod.fst).Sublist (ws.map Prod.fst) := List.filter_sublist.map _
  obtain ⟨ho, hin, hout⟩ := foldl_programWord (hsub.nodup hnd) fun e he => h e (List.mem_of_mem_filter he)
  rw [rewriteBlock, if_pos hall]
  refine ⟨ho, fun e he => ?_, fun w hw => hout w fun hmem => hw (hsub.subset hmem)⟩
  by_cases hsame : eflData e.1 s = e.2
  · have hnot : e.1 ∉ (ws.filter (fun e => eflData e.1 s ≠ e.2)).map Prod.fst := by
      intro hmem
      obtain ⟨x, hx, hxe⟩ := List.mem_map.mp hmem
      have hxx : x = e := List.inj_on_of_nodup_map hnd (List.mem_of_mem_filter hx) he hxe
      have := (List.mem_filter.mp hx).2
      simp [hxx, hsame] at this
    rw [eflData, hout _ hnot]
    exact hsame
  · rw [eflData, hin e (List.mem_filter.mpr ⟨he, decide_eq_true hsame⟩)]
    rfl

/-! ### What SET_LSA writes (R310) -/

theorem ofLeBytes_digit (l : List Byte) (i : Nat) : ofLeBytes l / 256 ^ i % 256 = ((l[i]?).getD 0).toNat := by
  induction l generalizing i with
  | nil => simp [ofLeBytes]
  | cons b l ih =>
    have hb : b.toNat < 256 := b.isLt
    cases i with
    | zero =>
      simp only [ofLeBytes, pow_zero, Nat.div_one, List.getElem?_cons_zero, Option.getD_some]
      omega
    | succ i =>
      have hdiv : (b.toNat + 256 * ofLeBytes l) / 256 = ofLeBytes l := by omega
      rw [ofLeBytes, pow_succ', ← Nat.div_div_eq_div_mul, hdiv, ih, List.getElem?_cons_succ]

/-- The byte that stands at `x` after `data` is written from `a` on. -/
def byteAfter (a : Nat) (data : List Byte) (x : Nat) (s : State) : Byte :=
  if a ≤ x then (data[x - a]?).getD (BitVec.ofNat 8 (eflByte x s)) else BitVec.ofNat 8 (eflByte x s)

theorem mergedWord_eq (a : Nat) (data : List Byte) (w : Nat) (s : State) :
    mergedWord a data w s = ofLeBytes ((List.range 8).map (fun i => byteAfter a data (8 * w + i) s)) := rfl

theorem mergedWord_congr {w : Nat} (a : Nat) (data : List Byte) (h : eflWord w t = eflWord w s) :
    mergedWord a data w t = mergedWord a data w s := by
  rw [mergedWord_eq, mergedWord_eq]
  congr 1
  refine List.map_congr_left fun i hi => ?_
  have hw : (8 * w + i) / 8 = w := by
    have := List.mem_range.mp hi
    omega
  rw [byteAfter, eflByte, eflData, hw, h, byteAfter, eflByte, eflData, hw]

theorem byte_of_mergedWord {a x : Nat} {data : List Byte} (h : eflData (x / 8) t = mergedWord a data (x / 8) s) :
    BitVec.ofNat 8 (eflByte x t) = byteAfter a data x s := by
  have hx : 8 * (x / 8) + x % 8 = x := Nat.div_add_mod x 8
  have hlt : x % 8 < 8 := Nat.mod_lt _ (by decide)
  rw [eflByte, h, mergedWord_eq, ofLeBytes_digit]
  simp [hlt, hx]

/-- The words of a byte range. -/
def wordsFrom (a n : Nat) : List Nat := (List.range ((a + n + 7) / 8 - a / 8)).map (fun i => a / 8 + i)

theorem mem_wordsFrom {a n w : Nat} : w ∈ wordsFrom a n ↔ a / 8 ≤ w ∧ w < (a + n + 7) / 8 := by
  simp only [wordsFrom, List.mem_map, List.mem_range]
  exact ⟨by omega, fun h => ⟨w - a / 8, by omega⟩⟩

theorem nodup_wordsFrom (a n : Nat) : (wordsFrom a n).Nodup :=
  List.nodup_range.map fun _ _ h => Nat.add_left_cancel h

/-- What SET_LSA writes in one block. -/
def writeLsaBlock (a : Nat) (data : List Byte) (s : State) (k : Nat) : State :=
  let ws := (wordsFrom a data.length).filter (fun w => blockOfWord w = 296 + k)
  if ws.isEmpty then s else rewriteBlock (296 + k) (ws.map (fun w => (w, mergedWord a data w s))) s

theorem writeLsa_eq (o : Nat) (data : List Byte) (s : State) :
    writeLsa o data s = (List.range 8).foldl (writeLsaBlock (lsaBase + o) data) s := rfl

theorem writeLsaBlock_of_takes {a k : Nat} {data : List Byte}
    (h : ∀ w ∈ wordsFrom a data.length, blockOfWord w = 296 + k → TakesProgram w s) :
    LabelWordsOnly s (writeLsaBlock a data s k) ∧
    (∀ w ∈ wordsFrom a data.length, blockOfWord w = 296 + k → eflData w (writeLsaBlock a data s k) = mergedWord a data w s) ∧
    ∀ w, (w ∈ wordsFrom a data.length → blockOfWord w ≠ 296 + k) → eflWord w (writeLsaBlock a data s k) = eflWord w s := by
  unfold writeLsaBlock
  extract_lets ws
  have hws (w : Nat) : w ∈ ws ↔ w ∈ wordsFrom a data.length ∧ blockOfWord w = 296 + k := by simp [ws]
  have hkeys : (ws.map (fun w => (w, mergedWord a data w s))).map Prod.fst = ws := by simp [Function.comp_def]
  split
  next he =>
    have hno (w : Nat) (hw : w ∈ ws) : False := by simp [List.isEmpty_iff.mp he] at hw
    exact ⟨.refl s, fun w hw hb => (hno w ((hws w).mpr ⟨hw, hb⟩)).elim, fun _ _ => rfl⟩
  next he =>
    obtain ⟨w₀, hw₀⟩ := List.exists_mem_of_ne_nil ws (by simpa using he)
    obtain ⟨hw₀, hb₀⟩ := (hws w₀).mp hw₀
    have hr : blockReads (296 + k) s = true := hb₀ ▸ (h w₀ hw₀ hb₀).2.2.1
    obtain ⟨ho, hin, hout⟩ := rewriteBlock_of_takes (s := s) (by
      rw [hkeys]
      exact (nodup_wordsFrom a data.length).filter _) hr
      (List.forall_mem_map.mpr fun w hw => h w ((hws w).mp hw).1 ((hws w).mp hw).2)
    refine ⟨ho, fun w hw hb => hin (w, _) (List.mem_map_of_mem ((hws w).mpr ⟨hw, hb⟩)), fun w hw => hout w ?_⟩
    rw [hkeys, hws]
    exact fun hmem => hw hmem.1 hmem.2

theorem foldl_writeLsaBlock {a : Nat} {data : List Byte} {ks : List Nat} (hnd : ks.Nodup)
    (h : ∀ w ∈ wordsFrom a data.length, TakesProgram w s) :
    LabelWordsOnly s (ks.foldl (writeLsaBlock a data) s) ∧
    (∀ w ∈ wordsFrom a data.length, (∃ k ∈ ks, blockOfWord w = 296 + k) →
      eflData w (ks.foldl (writeLsaBlock a data) s) = mergedWord a data w s) ∧
    ∀ w, (w ∈ wordsFrom a data.length → ∀ k ∈ ks, blockOfWord w ≠ 296 + k) →
      eflWord w (ks.foldl (writeLsaBlock a data) s) = eflWord w s := by
  induction ks using List.reverseRecOn with
  | nil => exact ⟨.refl s, by simp, fun _ _ => rfl⟩
  | append_singleton ks k ih =>
    rw [List.foldl_append, List.foldl_cons, List.foldl_nil]
    obtain ⟨hnd, -, hdis⟩ := List.nodup_append.mp hnd
    have hk : k ∉ ks := fun hk => hdis k hk k (by simp) rfl
    obtain ⟨ho, hin, hout⟩ := ih hnd
    have hold (w : Nat) (hb : blockOfWord w = 296 + k) : eflWord w (ks.foldl (writeLsaBlock a data) s) = eflWord w s :=
      hout w fun _ j hj hbj => hk (by have : j = k := by omega
                                      exact this ▸ hj)
    obtain ⟨ho', hin', hout'⟩ := writeLsaBlock_of_takes (k := k) fun w hw hb => ho.takes (hold w hb) (h w hw)
    refine ⟨ho.trans ho', fun w hw ⟨j, hj, hb⟩ => ?_, fun w hw => ?_⟩
    · obtain hj | hj := List.mem_append.mp hj
      · have hne : blockOfWord w ≠ 296 + k := fun hbk => hk (by have : j = k := by omega
                                                                exact this ▸ hj)
        rw [eflData, hout' w fun _ => hne]
        exact hin w hw ⟨j, hj, hb⟩
      · obtain rfl := List.mem_singleton.mp hj
        rw [hin' w hw hb, mergedWord_congr a data (hold w hb)]
    · rw [hout' w fun hmem => hw hmem k (by simp), hout w fun hmem j hj => hw hmem j (by simp [hj])]

theorem writeLsa_of_takes {o : Nat} {data : List Byte} (hlen : o + data.length ≤ 65536)
    (h : ∀ w ∈ wordsFrom (lsaBase + o) data.length, TakesProgram w s) :
    LabelWordsOnly s (writeLsa o data s) ∧
    (∀ w ∈ wordsFrom (lsaBase + o) data.length, eflData w (writeLsa o data s) = mergedWord (lsaBase + o) data w s) ∧
    ∀ w, w ∉ wordsFrom (lsaBase + o) data.length → eflWord w (writeLsa o data s) = eflWord w s := by
  obtain ⟨ho, hin, hout⟩ := foldl_writeLsaBlock List.nodup_range h
  refine ⟨ho, fun w hw => hin w hw ⟨blockOfWord w - 296, ?_⟩, fun w hw => hout w fun hmem => absurd hmem hw⟩
  have hr := mem_wordsFrom.mp hw
  rw [List.mem_range, blockOfWord]
  simp only [lsaBase] at hr
  omega

theorem lsaByte_congr {x : Nat} (ho : LabelWordsOnly s t)
    (h : BitVec.ofNat 8 (eflByte (lsaBase + x) t) = BitVec.ofNat 8 (eflByte (lsaBase + x) s)) : lsaByte x t = lsaByte x s := by
  rw [lsaByte, h, ho.blockReads_eq, lsaByte]
  obtain ⟨_, rfl⟩ := ho.words
  rfl

theorem lsaByte_writeLsa_inside {o i : Nat} {data : List Byte} (hlen : o + data.length ≤ 65536)
    (h : ∀ w ∈ wordsFrom (lsaBase + o) data.length, TakesProgram w s) (hi : i < data.length) :
    data[i]? = some (lsaByte (o + i) (writeLsa o data s)) := by
  obtain ⟨ho, hin, -⟩ := writeLsa_of_takes hlen h
  have hw : (lsaBase + (o + i)) / 8 ∈ wordsFrom (lsaBase + o) data.length := mem_wordsFrom.mpr (by omega)
  have hat : lsaBase + (o + i) - (lsaBase + o) = i := by omega
  rw [lsaByte, ho.blockReads_eq, if_pos (h _ hw).2.2.1, byte_of_mergedWord (hin _ hw), byteAfter, if_pos (by omega), hat,
    List.getElem?_eq_getElem hi, Option.getD_some]

theorem lsaByte_writeLsa_outside {o x : Nat} {data : List Byte} (hlen : o + data.length ≤ 65536)
    (h : ∀ w ∈ wordsFrom (lsaBase + o) data.length, TakesProgram w s) (hx : x < o ∨ o + data.length ≤ x) :
    lsaByte x (writeLsa o data s) = lsaByte x s := by
  obtain ⟨ho, hin, hout⟩ := writeLsa_of_takes hlen h
  refine lsaByte_congr ho ?_
  by_cases hw : (lsaBase + x) / 8 ∈ wordsFrom (lsaBase + o) data.length
  · rw [byte_of_mergedWord (hin _ hw), byteAfter]
    obtain hx | hx := hx
    · rw [if_neg (by omega)]
    · rw [List.getElem?_eq_none (by omega), Option.getD_none, ite_self]
  · rw [eflByte, eflData, hout _ hw, eflByte, eflData]

theorem answer_mem_sent (code : RetCode) (values : List Nat) (s : State) :
    .answer code values ∈ (msix 0 (emit (.answer code values) s)).sent :=
  (msix_keepsSent (s := emit (.answer code values) s) 0 (.of_eq rfl)).mem List.mem_cons_self

theorem execSetLsa_ready {o : Nat} (data : List Byte) (htrain : s.host.training = true) (hup : s.warm.engineUp = true)
    (hlen : o + data.length ≤ 65536) (hready : eflReady s = true) :
    execSetLsa o data s = .next (msix 0 (emit (.answer .success []) (writeLsa o data s))) := by
  rw [execSetLsa, whenOpen_of_open htrain hup, if_neg (by simp [hready]), if_pos hlen, answer]

end Words

/-- Settles O15. -/
theorem mailboxWritesAreHeld : Obligations.MailboxWritesAreHeld := by
  refine ⟨fun s htrain hup => ?_, fun s o data htrain hup hlen hready hs hw => ?_, fun s o data htrain hup hlen hready => ?_,
    fun s o data htrain hup hlen hready => ?_, fun s o n htrain hup hlen => ?_, fun s o n data htrain hup hn hlen => ⟨?_, ?_⟩⟩
  · have hopen (f : State → Host.Outcome State Fault Refusal) : whenOpen s f = f s := whenOpen_of_open htrain hup
    refine ⟨fun v => ⟨_, execSetTimestamp_eq v htrain hup, ?_⟩, fun v hready hworn => ?_, fun v h => ?_, fun a b c => ?_, ?_,
      fun i w f x hlen => ?_⟩
    · have := v.isLt
      omega
    · change execSetShutdownState v s = _
      rw [execSetShutdownState, hopen, hready, hworn, if_neg (by decide), answer]
    · change execSetShutdownState v s = _
      rw [execSetShutdownState, hopen, if_pos (by simpa using h), answer]
    · change execSetAlertConfiguration (some a) (some b) (some c) s = _
      rw [execSetAlertConfiguration, hopen, answer]
      rfl
    · change execSetAlertConfiguration none none none s = _
      rw [execSetAlertConfiguration, hopen, answer]
      rfl
    · change execSetEventInterruptPolicy (some i) (some w) (some f) (some x) s = _
      obtain ⟨p₀, p₁, p₂, p₃, hp⟩ : ∃ a b c d, s.mbx.policy = [a, b, c, d] := List.length_eq_four.mp hlen
      rw [execSetEventInterruptPolicy, hopen, hp]
      rfl
  · have htakes : ∀ w ∈ wordsFrom (lsaBase + o) data.length, TakesProgram w s := fun w hmem => by
      obtain ⟨hlo, hhi⟩ := mem_wordsFrom.mp hmem
      refine ⟨?_, hw w hlo hhi⟩
      unfold lsaBase at hlo hhi
      unfold sectorOfWord
      omega
    obtain ⟨p, sent, hmsg⟩ := msix_emit_eq 0 (.answer .success []) (writeLsa o data s)
    refine ⟨_, execSetLsa_ready data htrain hup hlen hready, answer_mem_sent .success [] _, fun i hi => ?_, fun x hx => ?_, ?_⟩
    · exact (lsaByte_writeLsa_inside hlen htakes hi).trans (by rw [hmsg]; rfl)
    · exact Eq.trans (by rw [hmsg]; rfl) (lsaByte_writeLsa_outside hlen htakes hx)
    · obtain ⟨ws, hws⟩ := (writeLsa_of_takes hlen htakes).1.words
      rw [hmsg, hws]
  · exact ⟨_, execSetLsa_ready data htrain hup hlen hready, answer_mem_sent .success [] _⟩
  · change execSetLsa o data s = _
    rw [execSetLsa, whenOpen_of_open htrain hup, if_pos (by simp [hlen, hready]), answer]
  · change execGetLsa o n s = _
    rw [execGetLsa, whenOpen_of_open htrain hup, if_pos hlen, reply]
  · change execGetLsa o n s = _
    rw [execGetLsa, whenOpen_of_open htrain hup, if_neg (by omega), answer]
  · change execSetLsa o data s = _
    rw [execSetLsa, whenOpen_of_open htrain hup, if_neg (by simp; omega), if_neg (by omega), answer]

end Sys2Proof.Machine

/-! PROOFS. The vendor commands: keys, bolt caps and reports (R315, R316). -/

namespace Sys2Proof.Machine

section Vendor
variable {s : State}

/-! ### Vendor commands (R315) -/

theorem vaultKey_eq : leBytes 4 0x56414C54 ++ leBytes 4 0xA9BEB3AB = [0x54, 0x4C, 0x41, 0x56, 0xAB, 0xB3, 0xBE, 0xA9] := by
  decide

theorem dropKey_eq : leBytes 4 0x44524F50 ++ leBytes 4 0xBBADB0AF = [0x50, 0x4F, 0x52, 0x44, 0xAF, 0xB0, 0xAD, 0xBB] := by
  decide

/-- The three words of a SET_BOLT_CAP input read back, the first by its low byte and the bytes above it. -/
theorem inputAt_capInput {n v c : Nat} (hn : n < 2 ^ 32) (hv : v < 2 ^ 32) (hc : c < 2 ^ 32) :
    inputAt (leBytes 4 n ++ leBytes 4 v ++ leBytes 4 c) 0 1 = n % 256 ∧
    inputAt (leBytes 4 n ++ leBytes 4 v ++ leBytes 4 c) 1 3 = n / 256 ∧
    inputAt (leBytes 4 n ++ leBytes 4 v ++ leBytes 4 c) 4 4 = v ∧
    inputAt (leBytes 4 n ++ leBytes 4 v ++ leBytes 4 c) 8 4 = c := by
  refine ⟨?_, ?_, inputAt_append hv (leBytes 4 n) (leBytes 4 c), ?_⟩
  · simp [leBytes, inputAt, ofLeBytes]
  · have hdiv : n / 256 < 256 ^ 3 := by omega
    simpa [leBytes] using inputAt_append hdiv (leBytes 1 n) (leBytes 4 v ++ leBytes 4 c)
  · simpa using inputAt_append hc (leBytes 4 n ++ leBytes 4 v) []

theorem execSetBoltCap_cap {n v : Nat} (htrain : s.host.training = true) (hup : s.warm.engineUp = true)
    (hact : s.drf.active ≠ none) (hn : n ≤ 62) (hv : v < 2 ^ 27) :
    execSetBoltCap (leBytes 4 n ++ leBytes 4 v ++ leBytes 4 (2 ^ 32 - 1 - v)) s =
      reply .success [] { s with cache := { s.cache with caps := tput 0 n v s.cache.caps } } := by
  obtain ⟨hlow, hhigh, hval, hcomp⟩ := inputAt_capInput (n := n) (v := v) (c := 2 ^ 32 - 1 - v) (by omega) (by omega) (by omega)
  have hmod : n % 256 = n := by omega
  have hdiv : n / 256 = 0 := by omega
  have hsome : s.drf.active.isNone = false := by cases h : s.drf.active <;> simp_all
  rw [execSetBoltCap, whenOpen_of_open htrain hup, hlow, hhigh, hval, hcomp, hmod, hdiv, hsome]
  rw [if_neg (by simp; omega), if_neg (by decide)]

theorem execSetBoltCap_invalid {n v c : Nat} (htrain : s.host.training = true) (hup : s.warm.engineUp = true) (hn : n < 2 ^ 32)
    (hv : v < 2 ^ 32) (hc : c < 2 ^ 32) (h : 63 ≤ n ∨ 2 ^ 27 ≤ v ∨ v + c ≠ 2 ^ 32 - 1) :
    execSetBoltCap (leBytes 4 n ++ leBytes 4 v ++ leBytes 4 c) s = reply .invalidInput [] s := by
  obtain ⟨hlow, hhigh, hval, hcomp⟩ := inputAt_capInput hn hv hc
  rw [execSetBoltCap, whenOpen_of_open htrain hup, hlow, hhigh, hval, hcomp, if_pos (by omega)]

theorem checkComplete_changes' (s : State) : Changes 0x40000480 s (checkComplete s) := checkComplete_changes (.self _) (.refl _ s)

/-- What runs in the background is what ran before: the command, its phase, its code and the boost of a seal. -/
def KeepsBackground (s t : State) : Prop :=
  t.mbx.bg = s.mbx.bg ∧ t.mbx.phase = s.mbx.phase ∧ t.mbx.bgCode = s.mbx.bgCode ∧ t.stg.sealBoost = s.stg.sealBoost

theorem KeepsBackground.trans {t u : State} (h : KeepsBackground s t) (k : KeepsBackground t u) : KeepsBackground s u := by
  obtain ⟨a, b, c, d⟩ := h
  obtain ⟨a', b', c', d'⟩ := k
  exact ⟨a'.trans a, b'.trans b, c'.trans c, d'.trans d⟩

theorem emptyCache_eq (h : emptying s = true) :
    emptyCache s = reefFlags (checkComplete (emptyPoison (zeroMap (requeueFetches s)))) := by
  have he : emptying (checkComplete (emptyPoison (zeroMap (requeueFetches s)))) = true := by
    rw [emptying, (checkComplete_changes' _).mbx rfl]
    exact h
  rw [emptyCache, evaluate, he, Bool.or_true, if_pos rfl]

/-- The cache after a command that empties it: no map, no locations, no poison, and no fetch under way (R317 to R320). -/
theorem emptyCache_cache (h : emptying s = true) : (emptyCache s).cache =
    (emptyPoison (zeroMap (requeueFetches s))).cache := by
  rw [emptyCache_eq h, (reefFlags_changes' _).cache rfl, (checkComplete_changes' _).cache rfl]

theorem postEvent_mbx (i kind bolt : Nat) (values : List Nat) (s : State) :
    ∃ logs, (postEvent i kind bolt values s).mbx = { s.mbx with logs := logs } := by
  unfold postEvent
  dsimp only
  split
  · exact ⟨_, rfl⟩
  · rw [apply_ite State.mbx, msix_mbx, ite_self]
    exact ⟨_, rfl⟩

/-- An evaluation of the flags reaches the mailbox by its event logs alone. -/
theorem reefFlags_mbx (s : State) : ∃ logs, (reefFlags s).mbx = { s.mbx with logs := logs } := by
  unfold reefFlags
  extract_lets _ _ _ _ _ _ _ _ _ _ a b c d
  have hb : b.mbx = a.mbx := by
    unfold b
    split
    · exact (engineClear_changes 5 (.self _) (.refl _ a)).mbx rfl
    · rfl
  have hc : c.mbx = b.mbx := by
    unfold c
    split
    · exact (engineClear_changes 4 (.self _) (.refl _ b)).mbx rfl
    · rfl
  rw [apply_ite State.mbx, msix_mbx, ite_self]
  unfold d
  split
  · obtain ⟨logs, h⟩ := postEvent_mbx 1 5 0xFF [fillOf s, s.stg.eGuar] c
    exact ⟨logs, h.trans (by rw [hc, hb])⟩
  · exact ⟨_, hc.trans hb⟩

theorem reefFlags_keepsBackground (s : State) : KeepsBackground s (reefFlags s) := by
  obtain ⟨_, hm⟩ := reefFlags_mbx s
  obtain ⟨_, _, _, hg⟩ := reefFlags_stg s
  rw [KeepsBackground, hm, hg]
  exact ⟨rfl, rfl, rfl, rfl⟩

theorem emptyCache_keepsBackground (h : emptying s = true) : KeepsBackground s (emptyCache s) := by
  have hc := checkComplete_changes' (emptyPoison (zeroMap (requeueFetches s)))
  rw [emptyCache_eq h]
  refine KeepsBackground.trans ?_ (reefFlags_keepsBackground _)
  rw [KeepsBackground, hc.mbx rfl, hc.stg rfl]
  exact ⟨rfl, rfl, rfl, rfl⟩

theorem msix_reply_eq (code : RetCode) (bytes : List Byte) (s : State) : ∃ p sent, msix 0 (emit (.mailbox code bytes) s) =
    { s with sent := sent, host := { s.host with msixPending := p } } := msix_emit_eq 0 _ s

/-! ### Reports (R316, R27) -/

theorem drop_flatMap_const {α β : Type} {m : Nat} (f : α → List β) (hf : ∀ a, (f a).length = m) (l : List α) (n : Nat) :
    (l.flatMap f).drop (m * n) = (l.drop n).flatMap f := by
  induction n generalizing l with
  | zero => simp
  | succ n ih =>
    cases l with
    | nil => simp
    | cons a l =>
      rw [List.flatMap_cons, Nat.mul_succ, Nat.add_comm, ← List.drop_drop, List.drop_left' (hf a), ih, List.drop_succ_cons]

/-- The two words of a bolt in the loss report. -/
def lossWords (s : State) (n : Nat) : List Byte := leBytes 4 (lossCutWord n s) ++ leBytes 4 (lossCountWord n s)

theorem lossWords_length (s : State) (n : Nat) : (lossWords s n).length = 8 := by simp [lossWords]

def lossReportBytes (s : State) : List Byte :=
  leBytes 4 (imageWord s) ++ leBytes 4 (restoreWord s) ++ leBytes 8 s.restore.epoch ++ (List.range 64).flatMap (lossWords s)

/-- The layout of the vault status: its words in their order. -/
def statusBytes (state reef image fill residual safe now eGuar epb restore flags shed : Nat) : List Byte :=
  leBytes 4 state ++ leBytes 4 reef ++ leBytes 4 image ++ leBytes 4 fill ++ leBytes 8 residual ++ leBytes 8 safe ++
  leBytes 8 now ++ leBytes 4 eGuar ++ leBytes 4 epb ++ leBytes 4 restore ++ leBytes 4 flags ++ leBytes 8 shed

theorem statusBytes_fields (state reef image fill residual safe now eGuar epb restore flags shed : Nat) :
    let b := statusBytes state reef image fill residual safe now eGuar epb restore flags shed
    b.length = 64 ∧ b.take 4 = leBytes 4 state ∧ (b.drop 12).take 4 = leBytes 4 fill ∧
    (b.drop 16).take 8 = leBytes 8 residual ∧ (b.drop 40).take 4 = leBytes 4 eGuar ∧ (b.drop 44).take 4 = leBytes 4 epb := by
  simp [statusBytes, List.drop_append, List.drop_of_length_le]

theorem lossReport_drop {n : Nat} (hn : n < 64) (s : State) : ∃ l,
    (lossReportBytes s).drop (16 + 8 * n) = leBytes 4 (lossCutWord n s) ++ (leBytes 4 (lossCountWord n s) ++ l) := by
  have hhead : (leBytes 4 (imageWord s) ++ leBytes 4 (restoreWord s) ++ leBytes 8 s.restore.epoch).length = 16 := by simp
  rw [lossReportBytes, ← List.drop_drop, List.drop_left' hhead, drop_flatMap_const _ (lossWords_length s),
    List.drop_eq_getElem_cons (by simpa using hn), List.flatMap_cons, List.getElem_range, lossWords, List.append_assoc]
  exact ⟨_, rfl⟩

theorem execGetVaultStatus_empty (htrain : s.host.training = true) (hup : s.warm.engineUp = true) :
    execGetVaultStatus [] s = reply .success (statusBytes (vltStateWord s) (reefWord s) (imageWord s) s.stg.fill
      (4096 * residual s) s.stg.safeTs (engineNow s) s.stg.eGuar (epbWord s) (restoreWord s)
      (b01 (sealedImage s) + 2 * b01 s.nand.degraded) (shedWord s)) s := by
  rw [execGetVaultStatus, whenOpen_of_open htrain hup, if_neg (by decide), residualBytes, statusBytes]

end Vendor

/-- Settles O16. -/
theorem vendorCommandsNeedTheirKeys : Obligations.VendorCommandsNeedTheirKeys := by
  refine ⟨fun s htrain hup => ?_, fun s n v htrain hup hact hn hv hs => ?_, fun s n v c htrain hup hn hv hc h =>
    execSetBoltCap_invalid htrain hup hn hv hc h⟩
  · have hvault (input : List Byte) : exec (.requestVault input) s = execRequestVault input s := rfl
    have hdrop (input : List Byte) : exec (.dropImage input) s = execDropImage input s := rfl
    refine ⟨fun harm => ?_, fun harm => ?_, fun input hi => ?_, fun hbg =>
      ⟨msix 0 (emit (.mailbox .backgroundStarted []) (emptyCache (startBg .dropImage .draining s))), ?_, ?_⟩, fun input hi => ?_⟩
    · rw [hvault, execRequestVault, whenOpen_of_open htrain hup, vaultKey_eq, if_neg (by simp), if_pos harm, reply]
    · rw [hvault, execRequestVault, whenOpen_of_open htrain hup, vaultKey_eq, if_neg (by simp), if_neg (by simp [harm]), reply]
    · rw [hvault, execRequestVault, whenOpen_of_open htrain hup, vaultKey_eq, if_pos hi, reply]
    · rw [hdrop, execDropImage, whenOpen_of_open htrain hup, dropKey_eq, if_neg (by simp), if_pos hbg, reply]
    · rw [msix_mbx, msix_cache, emit_mbx, emit_cache, emptyCache_cache rfl]
      exact ⟨(emptyCache_keepsBackground rfl).1, rfl, rfl, rfl, rfl⟩
    · rw [hdrop, execDropImage, whenOpen_of_open htrain hup, dropKey_eq, if_pos hi, reply]
  · obtain ⟨p, sent, h⟩ := msix_reply_eq .success [] { s with cache := { s.cache with caps := tput 0 n v s.cache.caps } }
    refine ⟨_, execSetBoltCap_cap htrain hup hact hn hv, ?_, fun m hm => ?_, ?_⟩
    · rw [h]
      exact tget_tput_up 0 v n s.cache.caps none hs.cache.caps
    · rw [h]
      exact tget_tput_up_ne 0 v n m hm s.cache.caps none hs.cache.caps
    · rw [h]

/-- Settles O17. -/
theorem vendorReportsAnswer : Obligations.VendorReportsAnswer := by
  refine fun s htrain hup => ⟨⟨_, execGetVaultStatus_empty htrain hup, statusBytes_fields ..⟩, ⟨lossReportBytes s, ?_, ?_, fun n hn => ?_⟩,
    fun first count hfirst hpos hcount => ?_, fun x l => ⟨?_, ?_⟩⟩
  · change execGetLossReport [] s = _
    rw [execGetLossReport, whenOpen_of_open htrain hup, if_neg (by decide), reply, lossReportBytes]
    rfl
  · simp [lossReportBytes, lossWords]
  · obtain ⟨l, h⟩ := lossReport_drop hn s
    have hnext : (lossReportBytes s).drop (20 + 8 * n) = leBytes 4 (lossCountWord n s) ++ l := by
      rw [show 20 + 8 * n = 16 + 8 * n + 4 by omega, ← List.drop_drop, h, List.drop_left' (leBytes_length ..)]
    rw [h, hnext, List.take_left' (leBytes_length ..), List.take_left' (leBytes_length ..)]
    exact ⟨rfl, rfl⟩
  · exact execVendorGetLog_present (by rw [mailboxOpen, htrain, hup]; rfl) hfirst hpos hcount
  · change execGetVaultStatus (x :: l) s = _
    rw [execGetVaultStatus, whenOpen_of_open htrain hup, if_pos (by simp), reply]
  · change execGetLossReport (x :: l) s = _
    rw [execGetLossReport, whenOpen_of_open htrain hup, if_pos (by simp), reply]

end Sys2Proof.Machine

/-! PROOFS. Sources at severity S0 and S1: what entering fault and leaving it change (R411, R412, R416, R424, R436 to R438). -/

namespace Sys2Proof.Machine

section Records
variable {s t : State} {n : Nat}

/-! ### Records of sources -/

theorem srcAt_congr (h : t.flt.sources = s.flt.sources) (m : Nat) : srcAt m t = srcAt m s := by rw [srcAt, h, srcAt]

theorem srcAt_modSrc (hs : keysUp none s.flt.sources = true) (n : Nat) (f : Source → Source) (m : Nat) :
    srcAt m (modSrc n f s) = if m = n then f (srcAt m s) else srcAt m s := by
  refine (tget_tmod_up {} n m f hs).trans ?_
  split
  next h => rw [h, srcAt]
  · rfl

/-- A change that leaves a record other than the default is seen whether or not the table stands in order. -/
theorem srcAt_modSrc_of_ne {f : Source → Source} (h : f (srcAt n s) ≠ {}) (m : Nat) :
    srcAt m (modSrc n f s) = if m = n then f (srcAt m s) else srcAt m s := by
  split
  next hm =>
    subst hm
    exact tget_tput_self {} _ m h s.flt.sources
  next hm => exact tget_tput_ne_of_value_ne_default h hm s.flt.sources

theorem sevOf_congr (hd : t.drf = s.drf) (h : (srcAt n t).sevUp = (srcAt n s).sevUp) : sevOf n t = sevOf n s := by
  unfold srcAt at h
  rw [sevOf, sevOf, h, hd]

theorem shadowed_congr (hd : t.drf = s.drf) (hsh : t.flt.shadows = s.flt.shadows)
    (hu : ∀ m, (srcAt m t).unshadowed = (srcAt m s).unshadowed) : shadowed n t = shadowed n s := by
  have hset (m : Nat) : shadowSet m t = shadowSet m s := by simp only [shadowSet, hd, hu]
  simp only [shadowed, hsh, hset]

/-! ### What a quiet source changes (R416) -/

/-- Sources change in their record and count, with the first error and the log; which severity each has, whether its pair is frozen and
which shadows it is in stay. -/
structure SourcesOnly (s t : State) : Prop where
  changes : Changes 0x40004 s t
  flt : ∃ src first k si, t.flt = { s.flt with sources := src, first := first, shadowed := k, si := si }
  sevUp : ∀ m, (srcAt m t).sevUp = (srcAt m s).sevUp
  unshadowed : ∀ m, (srcAt m t).unshadowed = (srcAt m s).unshadowed
  frozen : ∀ m, (srcAt m t).frozen = (srcAt m s).frozen

theorem SourcesOnly.refl (s : State) : SourcesOnly s s where
  changes := .refl _ s
  flt := ⟨_, _, _, _, rfl⟩
  sevUp _ := rfl
  unshadowed _ := rfl
  frozen _ := rfl

theorem SourcesOnly.trans {u : State} (h : SourcesOnly s t) (k : SourcesOnly t u) : SourcesOnly s u where
  changes := h.changes.trans k.changes
  flt := by
    obtain ⟨_, _, _, _, h⟩ := h.flt
    obtain ⟨_, _, _, _, k⟩ := k.flt
    exact ⟨_, _, _, _, k.trans (by rw [h])⟩
  sevUp m := (k.sevUp m).trans (h.sevUp m)
  unshadowed m := (k.unshadowed m).trans (h.unshadowed m)
  frozen m := (k.frozen m).trans (h.frozen m)

theorem SourcesOnly.sevOf_eq (h : SourcesOnly s t) (m : Nat) : sevOf m t = sevOf m s := sevOf_congr (h.changes.drf rfl) (h.sevUp m)

theorem SourcesOnly.shadowed_eq (h : SourcesOnly s t) (m : Nat) : shadowed m t = shadowed m s := by
  refine shadowed_congr (h.changes.drf rfl) ?_ h.unshadowed
  obtain ⟨_, _, _, _, h⟩ := h.flt
  rw [h]

theorem SourcesOnly.inDrainStates_eq (h : SourcesOnly s t) : inDrainStates t = inDrainStates s :=
  inDrainStates_congr (h.changes.vlt rfl)

theorem exercising_congr (h : t.chg = s.chg) : exercising t = exercising s := by rw [exercising, h, exercising]

/-- A source that takes no reaction: severity S0 or S1, and no stall that the selvedge takes between FENCED and KNOT (R275, R276, R416). -/
def Quiet (n : Nat) (s : State) : Prop := sevOf n s ≤ 1 ∧ (inDrainStates s = false ∨ beyondRecovery n = false)

theorem SourcesOnly.quiet (h : SourcesOnly s t) (hq : Quiet n s) : Quiet n t := by
  rwa [Quiet, h.sevOf_eq, h.inDrainStates_eq]

theorem react_quiet {sev : Nat} (hsev : sev ≤ 1) (hd : inDrainStates s = false ∨ beyondRecovery n = false) : react n sev s = s := by
  have ht : takenSev n sev s = sev := by simp [takenSev, show sev ≠ 2 by omega]
  have hb : (inDrainStates s && beyondRecovery n) = false := by simpa [or_iff_not_imp_left] using hd
  simp only [react, ht, if_true, takeReaction, hb]
  simp [show sev ≠ 4 by omega, show sev ≠ 3 by omega, show sev ≠ 2 by omega]

theorem modSrc_sourcesOnly {f : Source → Source} (hne : keysUp none s.flt.sources = true ∨ f (srcAt n s) ≠ {})
    (h : ∀ x, (f x).sevUp = x.sevUp ∧ (f x).unshadowed = x.unshadowed ∧ (f x).frozen = x.frozen) :
    SourcesOnly s (modSrc n f s) := by
  have hat (m : Nat) : srcAt m (modSrc n f s) = if m = n then f (srcAt m s) else srcAt m s :=
    hne.elim (fun hs => srcAt_modSrc hs n f m) (fun hne => srcAt_modSrc_of_ne hne m)
  refine ⟨modSrc_changes _ _ (by rfl) (.refl _ s), ⟨_, _, _, _, rfl⟩, fun m => ?_, fun m => ?_, fun m => ?_⟩
  all_goals
    rw [hat]
    split
  · exact (h _).1
  · rfl
  · exact (h _).2.1
  · rfl
  · exact (h _).2.2
  · rfl

/-! ### The first error and the log (R424, R436) -/

theorem captureFirst_of_valid (n sev master d : Nat) (b : Bool) (h : s.flt.first.valid = true) :
    captureFirst n sev master d b s =
      { s with flt := { s.flt with first := { s.flt.first with more := satAdd 255 s.flt.first.more 1 } } } := by
  rw [captureFirst, if_pos h]

theorem captureFirst_of_empty (n sev master d : Nat) (b : Bool) (h : s.flt.first.valid = false) :
    captureFirst n sev master d b s = { s with flt := { s.flt with first :=
      { valid := true, shadowed := b, sev := sev, master := master, access := accessOf n, source := n, more := 0,
        addr := addrField n d s, ts := now s } } } := by
  rw [captureFirst, if_neg (by simp [h])]

theorem captureFirst_eq (n sev master d : Nat) (b : Bool) (s : State) :
    ∃ first, captureFirst n sev master d b s = { s with flt := { s.flt with first := first } } := by
  unfold captureFirst
  dsimp only
  split <;> exact ⟨_, rfl⟩

@[simp] theorem srcAt_captureFirst (m n sev master d : Nat) (b : Bool) (s : State) :
    srcAt m (captureFirst n sev master d b s) = srcAt m s := by
  obtain ⟨_, h⟩ := captureFirst_eq n sev master d b s
  rw [h]
  rfl

@[simp] theorem srcAt_logFault (m n sev d : Nat) (b first : Bool) (s : State) : srcAt m (logFault n sev d b first s) = srcAt m s :=
  srcAt_congr (congrArg FltSt.sources ((logFault_changes n sev d b first (m' := 0x4) rfl (.refl _ s)).flt rfl)) m

theorem captureFirst_sourcesOnly (n sev master d : Nat) (b : Bool) (s : State) : SourcesOnly s (captureFirst n sev master d b s) := by
  have hc := captureFirst_changes n sev master d b (m' := 0x40004) rfl (.refl _ s)
  obtain ⟨_, h⟩ := captureFirst_eq n sev master d b s
  rw [h] at hc ⊢
  exact ⟨hc, ⟨_, _, _, _, rfl⟩, fun _ => rfl, fun _ => rfl, fun _ => rfl⟩

theorem logFault_sourcesOnly (n sev d : Nat) (b first : Bool) (s : State) : SourcesOnly s (logFault n sev d b first s) := by
  have hflt := (logFault_changes n sev d b first (m' := 0x4) rfl (.refl _ s)).flt rfl
  have hsrc := congrArg FltSt.sources hflt
  exact ⟨logFault_changes _ _ _ _ _ (by rfl) (.refl _ s), ⟨_, _, _, _, hflt⟩, fun m => by rw [srcAt_congr hsrc], fun m => by rw [srcAt_congr hsrc],
    fun m => by rw [srcAt_congr hsrc]⟩

theorem logFault_head (sev d : Nat) (b first : Bool) (hw : tget 0 s.log.written n < 16) : ∃ e,
    (logFault n sev d b first s).log.ring.head? = some e ∧ e.code = 1 ∧ e.source = n ∧ e.ts = now s ∧ e.seq = s.log.seq := by
  rw [logFault, if_neg (by omega)]
  exact ⟨_, rfl, rfl, rfl, rfl, rfl⟩

/-! ### Entering fault (R411, R416) -/

/-- A source's record at its entry into fault. -/
def latch (d : Nat) (x : Source) : Source := { x with latched := true, count := satAdd 255 x.count 1, detail := d }

theorem latch_ne (d : Nat) (x : Source) : latch d x ≠ {} := fun h => by simpa [latch] using congrArg Source.latched h

theorem latched_sourcesOnly (n d : Nat) (s : State) : SourcesOnly s (modSrc n (latch d) s) :=
  modSrc_sourcesOnly (.inr (latch_ne _ _)) fun _ => ⟨rfl, rfl, rfl⟩

/-- A quiet source outside every shadow is latched, captured and logged, and no more (R416, R424, R436). -/
theorem enterSev_quiet {sev : Nat} (master d : Nat) (hsev : sev ≤ 1) (hd : inDrainStates s = false ∨ beyondRecovery n = false)
    (hsh : shadowed n s = false) : enterSev n sev master d s =
      logFault n sev d false (!s.flt.first.valid) (captureFirst n sev master d false (modSrc n (latch d) s)) := by
  have hl := latched_sourcesOnly n d s
  have hx := (hl.trans (captureFirst_sourcesOnly n sev master d false _)).trans (logFault_sourcesOnly n sev d false (!s.flt.first.valid) _)
  have ht : takenSev n sev (modSrc n (latch d) s) = sev := by simp [takenSev, show sev ≠ 2 by omega]
  have hq := react_quiet (n := n) hsev (hx.inDrainStates_eq.symm ▸ hd)
  have hsh' : shadowed n (modSrc n (latch d) s) = false := (hl.shadowed_eq n).trans hsh
  change (if shadowed n (modSrc n (latch d) s) then _ else _) = _
  rw [if_neg (by simp [hsh'])]
  change react n sev (logFault n (takenSev n sev (modSrc n (latch d) s)) _ _ _ (captureFirst n (takenSev n sev (modSrc n (latch d) s)) _ _ _ _)) = _
  rw [ht]
  exact hq

/-- The entry of a source in a shadow: captured, marked in its record and logged (R422). -/
theorem enterSev_shadowed {sev : Nat} (master d : Nat) (hsh : shadowed n s = true) : enterSev n sev master d s =
    logFault n sev d true (!s.flt.first.valid)
      (let u := modSrc n (fun x => { x with shadowHit := true, shadowCount := satAdd 255 x.shadowCount 1 })
        (captureFirst n sev master d true (modSrc n (latch d) s))
       { u with flt := { u.flt with shadowed := satAdd max32 u.flt.shadowed 1 } }) := by
  have hsh' : shadowed n (modSrc n (latch d) s) = true := ((latched_sourcesOnly n d s).shadowed_eq n).trans hsh
  change (if shadowed n (modSrc n (latch d) s) then _ else _) = _
  rw [if_pos hsh']
  rfl

/-- A source has entered fault and taken no reaction. -/
structure Entered (n d : Nat) (s t : State) : Prop extends SourcesOnly s t where
  self : ∃ hit k, srcAt n t = { latch d (srcAt n s) with shadowHit := hit, shadowCount := k }
  others : ∀ m, m ≠ n → srcAt m t = srcAt m s

/-- A source in a shadow notes the entry (R422). -/
def hitShadow (x : Source) : Source := { x with shadowHit := true, shadowCount := satAdd 255 x.shadowCount 1 }

theorem hitShadow_ne (x : Source) : hitShadow x ≠ {} := fun h => by simpa [hitShadow] using congrArg Source.shadowHit h

theorem enterSev_entered {sev : Nat} (master d : Nat) (hsev : sev ≤ 1) (hd : inDrainStates s = false ∨ beyondRecovery n = false) :
    Entered n d s (enterSev n sev master d s) := by
  have hl := latched_sourcesOnly n d s
  have hat (m : Nat) : srcAt m (modSrc n (latch d) s) = if m = n then latch d (srcAt m s) else srcAt m s :=
    srcAt_modSrc_of_ne (latch_ne _ _) m
  cases hsh : shadowed n s
  case false =>
    rw [enterSev_quiet master d hsev hd hsh]
    refine ⟨(hl.trans (captureFirst_sourcesOnly ..)).trans (logFault_sourcesOnly ..),
      ⟨(srcAt n s).shadowHit, (srcAt n s).shadowCount, ?_⟩, fun m hm => ?_⟩
    · rw [srcAt_logFault, srcAt_captureFirst, hat, if_pos rfl, latch]
    · rw [srcAt_logFault, srcAt_captureFirst, hat, if_neg hm]
  case true =>
    rw [enterSev_shadowed master d hsh]
    have hc := hl.trans (captureFirst_sourcesOnly n sev master d true _)
    have hh := modSrc_sourcesOnly (s := captureFirst n sev master d true (modSrc n (latch d) s)) (f := hitShadow)
      (.inr (hitShadow_ne (srcAt n _))) fun _ => ⟨rfl, rfl, rfl⟩
    have hk (u : State) (k : Nat) : SourcesOnly u { u with flt := { u.flt with shadowed := k } } :=
      ⟨.put_flt rfl id (.refl _ u), ⟨_, _, _, _, rfl⟩, fun _ => rfl, fun _ => rfl, fun _ => rfl⟩
    have hhat (m : Nat) := srcAt_modSrc_of_ne (s := captureFirst n sev master d true (modSrc n (latch d) s)) (f := hitShadow)
      (hitShadow_ne (srcAt n _)) m
    refine ⟨((hc.trans hh).trans (hk _ _)).trans (logFault_sourcesOnly ..),
      ⟨true, satAdd 255 (srcAt n s).shadowCount 1, ?_⟩, fun m hm => ?_⟩
    · rw [srcAt_logFault]
      refine (hhat n).trans ?_
      rw [if_pos rfl, srcAt_captureFirst, hat, if_pos rfl, hitShadow, latch]
    · rw [srcAt_logFault]
      refine (hhat m).trans ?_
      rw [if_neg hm, srcAt_captureFirst, hat, if_neg hm]

theorem withAbort_of_sourcesOnly {f : State → State} (h : SourcesOnly s (f s)) : withAbort f s = f s := by
  rw [withAbort, exercising_congr (h.changes.chg rfl)]
  cases exercising s <;> rfl

theorem enterFault_entered (d : Nat) (hq : Quiet n s) : Entered n d s (enterFault n d s) := enterSev_entered _ d hq.1 hq.2

theorem withAbort_enterFault (d : Nat) (hq : Quiet n s) : withAbort (enterFault n d) s = enterFault n d s :=
  withAbort_of_sourcesOnly (enterFault_entered d hq).toSourcesOnly

/-! ### Codes (R411, R412) -/

/-- A source's record with a code. -/
def coded (a c : Bool) (x : Source) : Source := { x with t := a, c := c, owed := x.owed && (a || !c) }

theorem coded_ne {a c : Bool} (h : (a || !c) = true) (x : Source) : coded a c x ≠ {} := by
  intro hx
  have ha : a = false := congrArg Source.t hx
  have hc : c = true := congrArg Source.c hx
  simp [ha, hc] at h

/-- The state once a source's code is taken, with the signal-integrity flag of a broken one (R411). -/
def codeTaken (n : Nat) (a c : Bool) (s : State) : State :=
  if a = c then { modSrc n (coded a c) s with flt := { (modSrc n (coded a c) s).flt with si := true } } else modSrc n (coded a c) s

theorem codeChange_eq (a c : Bool) (d : Nat) (hp : present n = true) (hf : (srcAt n s).frozen = false) : codeChange n a c d s =
    if !inFault (srcAt n s) && inFault (srcAt n (codeTaken n a c s)) then withAbort (enterFault n d) (codeTaken n a c s)
    else codeTaken n a c s := by
  rw [codeChange, if_neg (by simp [hp]), if_neg (by simp [hf])]
  rfl

theorem srcAt_codeTaken {a c : Bool} (h : keysUp none s.flt.sources = true ∨ (a || !c) = true) (m : Nat) :
    srcAt m (codeTaken n a c s) = if m = n then coded a c (srcAt m s) else srcAt m s := by
  have hm : srcAt m (modSrc n (coded a c) s) = if m = n then coded a c (srcAt m s) else srcAt m s :=
    h.elim (fun hs => srcAt_modSrc hs n _ m) (fun hne => srcAt_modSrc_of_ne (coded_ne hne _) m)
  unfold codeTaken
  split <;> exact hm

theorem codeTaken_sourcesOnly {a c : Bool} (h : keysUp none s.flt.sources = true ∨ (a || !c) = true) :
    SourcesOnly s (codeTaken n a c s) := by
  have hm : SourcesOnly s (modSrc n (coded a c) s) :=
    modSrc_sourcesOnly (h.imp_right fun hne => coded_ne hne _) fun _ => ⟨rfl, rfl, rfl⟩
  have hk (u : State) : SourcesOnly u { u with flt := { u.flt with si := true } } :=
    ⟨.put_flt rfl id (.refl _ u), ⟨_, _, _, _, rfl⟩, fun _ => rfl, fun _ => rfl, fun _ => rfl⟩
  unfold codeTaken
  split
  · exact hm.trans (hk _)
  · exact hm

/-- A quiet source's code changes in its record and the first error, and the log, alone. -/
theorem codeChange_quiet {a c : Bool} (d : Nat) (hq : Quiet n s) (h : keysUp none s.flt.sources = true ∨ (a || !c) = true) :
    SourcesOnly s (codeChange n a c d s) := by
  cases hp : present n
  case false =>
    rw [codeChange, if_pos (by simp [hp])]
    exact .refl s
  cases hf : (srcAt n s).frozen
  case true.true =>
    rw [codeChange, if_neg (by simp [hp]), if_pos hf]
    refine modSrc_sourcesOnly (.inr fun hx => ?_) fun _ => ⟨rfl, rfl, rfl⟩
    have : (srcAt n s).frozen = false := congrArg Source.frozen hx
    simp [hf] at this
  case true.false =>
    have hk := codeTaken_sourcesOnly (n := n) h
    rw [codeChange_eq a c d hp hf]
    split
    · rw [withAbort_enterFault d (hk.quiet hq)]
      exact hk.trans (enterFault_entered d (hk.quiet hq)).toSourcesOnly
    · exact hk

/-- An unfrozen quiet source's code goes from no fault to fault. -/
theorem codeChange_enters {a c : Bool} (d : Nat) (hp : present n = true) (hf : (srcAt n s).frozen = false)
    (hin : inFault (srcAt n s) = false) (hac : (a || !c) = true) (hq : Quiet n s) :
    codeChange n a c d s = enterFault n d (codeTaken n a c s) ∧ SourcesOnly s (codeTaken n a c s) ∧
    ∀ m, srcAt m (codeTaken n a c s) = if m = n then coded a c (srcAt m s) else srcAt m s := by
  have hk := codeTaken_sourcesOnly (s := s) (n := n) (.inr hac)
  have hat := srcAt_codeTaken (s := s) (n := n) (.inr hac)
  have hin' : inFault (srcAt n (codeTaken n a c s)) = true := by
    rw [hat, if_pos rfl, inFault, coded]
    exact hac
  refine ⟨?_, hk, hat⟩
  rw [codeChange_eq a c d hp hf, hin, hin', withAbort_enterFault d (hk.quiet hq)]
  rfl

/-- A quiet source of the power controller enters fault, or is in fault already: its record, the first error and the log change. -/
theorem pcFault_quiet (d : Nat) (hq : Quiet n s) : SourcesOnly s (pcFault n d s) := by
  unfold pcFault
  split
  · rw [withAbort_enterFault d hq]
    exact (enterFault_entered d hq).toSourcesOnly
  · exact codeChange_quiet d hq (.inr rfl)

/-- The code with which a power-controller source enters fault: an event has none (R572). -/
def entryCode (n : Nat) (s : State) : State := if isEvent n then s else codeTaken n true false s

theorem pcFault_enters (d : Nat) (hp : present n = true) (hf : (srcAt n s).frozen = false) (hin : inFault (srcAt n s) = false)
    (hq : Quiet n s) : pcFault n d s = enterFault n d (entryCode n s) := by
  unfold pcFault entryCode
  rw [hf, Bool.not_false, Bool.and_true]
  split
  · exact withAbort_enterFault d hq
  · exact (codeChange_enters d hp hf hin rfl hq).1

theorem entryCode_sourcesOnly (n : Nat) (s : State) : SourcesOnly s (entryCode n s) := by
  unfold entryCode
  split
  · exact .refl s
  · exact codeTaken_sourcesOnly (.inr rfl)

theorem srcAt_entryCode_ne {m : Nat} (hm : m ≠ n) : srcAt m (entryCode n s) = srcAt m s := by
  unfold entryCode
  split
  · rfl
  · rw [srcAt_codeTaken (.inr rfl), if_neg hm]

end Records

end Sys2Proof.Machine

/-! PROOFS. What the engine does at a source of its own (R412, R413), and the commands of sources and clears (R411 to R428). -/

namespace Sys2Proof.Machine

section EngineSources
variable {s t : State} {n : Nat}

/-! ### Link ends and control pairs -/

theorem hdl_setHdl_ite (e e' : End) (f : HdlEnd → HdlEnd) (s : State) :
    hdl e' (setHdl e f s) = if e' = e then f (hdl e' s) else hdl e' s := by
  cases e <;> cases e' <;> rfl

/-- Sending moves what waits and what is not acknowledged, and no more of an end. -/
theorem pump_hdl (e e' : End) (n : Nat) (s : State) : ∃ w q u,
    hdl e' (pump e n s) = { hdl e' s with waiting := w, txSeq := q, unacked := u } := by
  induction n generalizing s with
  | zero => exact ⟨_, _, _, rfl⟩
  | succ n ih =>
    rw [pump]
    dsimp only
    split
    · split
      next f rest _ =>
        obtain ⟨w, q, u, h⟩ := ih (emit (.frame e (hdl e s).txSeq (ackOf e s) f) (setHdl e (fun h => { h with
          waiting := rest, txSeq := (h.txSeq + 1) % 256, unacked := h.unacked ++ [{ seq := h.txSeq, frame := f, sends := 1 }] }) s))
        rw [hdl_emit, hdl_setHdl_ite] at h
        rw [h]
        split <;> exact ⟨_, _, _, rfl⟩
      · exact ⟨_, _, _, rfl⟩
    · exact ⟨_, _, _, rfl⟩

theorem sendFrame_hdl (e e' : End) (f : Frame) (s : State) : ∃ w q u,
    hdl e' (sendFrame e f s) = { hdl e' s with waiting := w, txSeq := q, unacked := u } := by
  have hq (g : HdlEnd → HdlEnd) (hg : ∀ h, ∃ w, g h = { h with waiting := w }) :
      ∃ w, hdl e' (setHdl e g s) = { hdl e' s with waiting := w } := by
    rw [hdl_setHdl_ite]
    split
    · exact hg _
    · exact ⟨_, rfl⟩
  unfold sendFrame
  split
  · obtain ⟨w, h⟩ := hq (fun h => { h with waiting := enqueue f h.waiting }) fun _ => ⟨_, rfl⟩
    obtain ⟨w', q, u, h'⟩ := pump_hdl e e' 16 (setHdl e (fun h => { h with waiting := enqueue f h.waiting }) s)
    rw [h', h]
    exact ⟨_, _, _, rfl⟩
  · split
    · obtain ⟨w, h⟩ := hq (fun h => { h with waiting := enqueue f h.waiting }) fun _ => ⟨_, rfl⟩
      exact ⟨_, _, _, h⟩
    · exact ⟨_, _, _, rfl⟩

theorem linkUp_sendFrame (e : End) (f : Frame) (s : State) : linkUp (sendFrame e f s) = linkUp s := by
  obtain ⟨_, _, _, hE⟩ := sendFrame_hdl e .engine f s
  obtain ⟨_, _, _, hP⟩ := sendFrame_hdl e .pctrl f s
  have hE' : (hdl .engine (sendFrame e f s)).up = s.hdlE.up := by rw [hE]; rfl
  have hP' : (hdl .pctrl (sendFrame e f s)).up = s.hdlP.up := by rw [hP]; rfl
  change (sendFrame e f s).hdlE.up = s.hdlE.up at hE'
  change (sendFrame e f s).hdlP.up = s.hdlP.up at hP'
  rw [linkUp, hE', hP', linkUp]

theorem pairIndex_lt (p : PairId) : pairIndex p < 7 := by cases p <;> decide

theorem pairAt_setPair (h : s.sel.pairs.length = 7) (p q : PairId) (f : Pair → Pair) :
    pairAt q (setPair p f s) = if q = p then f (pairAt q s) else pairAt q s := by
  have hq : pairIndex q < s.sel.pairs.length := h ▸ pairIndex_lt q
  have hinj : pairIndex p = pairIndex q ↔ q = p := by cases p <;> cases q <;> decide
  rw [pairAt, pairAt, setPair_sel, modAt, List.getElem?_modify, List.getElem?_eq_getElem hq]
  simp only [hinj]
  by_cases hqp : q = p
  · simp [hqp]
  · simp [hqp]

theorem pairActive_drivePair (h : s.sel.pairs.length = 7) (p : PairId) : pairActive p (drivePair p true s) = true := by
  rw [pairActive, drivePair, pairAt_setPair h, if_pos rfl]
  simp

/-! ### The engine's sources (R412, R413) -/

theorem engineReact_quiet (h : sevOf n s ≤ 1) : engineReact n s = s := by
  have h4 : sevOf n s ≠ 4 := by omega
  have h3 : (sevOf n s = 3) = False := by simp; omega
  simp [engineReact, h4, h3]

theorem engineReact_flt (n : Nat) (s : State) : (engineReact n s).flt = s.flt :=
  (engineReact_changes n (m' := 0x80020) rfl (.refl _ s)).flt rfl

theorem sendFrame_flt (e : End) (f : Frame) (s : State) : (sendFrame e f s).flt = s.flt :=
  (sendFrame_changes e f (m' := 0x4c000000) rfl (.refl _ s)).flt rfl

/-- A source of the engine changes its live conditions and details alone among the fault registers. -/
theorem engineFault_flt (n d : Nat) (s : State) : ∃ live details,
    (engineFault n d s).flt = { s.flt with engineLive := live, details := details } := by
  unfold engineFault
  dsimp only
  split
  · rw [engineReact_flt, sendFrame_flt]
    exact ⟨_, _, rfl⟩
  · split
    · exact ⟨_, _, rfl⟩
    · rw [engineReact_flt, sendFrame_flt]
      exact ⟨_, _, rfl⟩

theorem mem_insertSorted (n : Nat) (l : List Nat) : n ∈ insertSorted n l := by
  induction l with
  | nil => simp [insertSorted]
  | cons k l ih =>
    rw [insertSorted]
    split
    · simp
    · split
      next h => simp [h]
      · simp [ih]

theorem mem_engineLive_engineFault (d : Nat) (h : isEvent n = false) : n ∈ (engineFault n d s).flt.engineLive := by
  unfold engineFault
  dsimp only
  rw [if_neg (by simp [h])]
  split
  next hl => simpa using hl
  · rw [engineReact_flt, sendFrame_flt]
    exact mem_insertSorted ..

/-- A quiet source of the engine changes what the engine holds of it, and drives no pair. -/
theorem engineSide_quiet (a c : Bool) (h : sevOf n s ≤ 1) : ∃ live broken,
    engineSide n a c s = { s with flt := { s.flt with engineLive := live, engineBroken := broken } } := by
  unfold engineSide
  split
  · exact ⟨_, _, rfl⟩
  · split
    · exact ⟨_, _, by rw [engineReact_quiet h]⟩
    · unfold engineCode
      dsimp only
      split
      · exact ⟨_, _, engineReact_quiet (s := { s with flt := { s.flt with engineLive := _, engineBroken := _ } }) h⟩
      · exact ⟨_, _, rfl⟩

/-- With the link down the engine drives BELAYE at S4, and VREQ at S3 with the cause where no vault runs (R413). -/
theorem engineReact_linkDown (hl : linkUp s = false) (hpairs : s.sel.pairs.length = 7) :
    (sevOf n s = 4 → pairActive .belaye (engineReact n s) = true) ∧
    (sevOf n s = 3 → pairActive .vreq (engineReact n s) = true ∧
      (noVault s = true → (engineReact n s).vlt.cause = 4 ∧ (engineReact n s).vlt.source = n)) := by
  refine ⟨fun h => ?_, fun h => ?_⟩
  · rw [engineReact, if_pos h]
    exact pairActive_drivePair hpairs _
  · cases hv : noVault s
    · have hr : engineReact n s = drivePair .vreq true s := by simp [engineReact, h, hl, hv]
      rw [hr]
      exact ⟨pairActive_drivePair hpairs _, by simp⟩
    · have hr : engineReact n s =
          drivePair .vreq true { s with vlt := { s.vlt with cause := 4, source := n, engineCause := true } } := by
        simp [engineReact, h, hl, hv]
      rw [hr]
      exact ⟨pairActive_drivePair (s := { s with vlt := _ }) hpairs _, fun _ => ⟨rfl, rfl⟩⟩

/-- A source of the engine that is no live condition yet: its details are noted, a frame is sent and the engine acts. -/
theorem engineFault_new (d : Nat) (h : isEvent n = true ∨ n ∉ s.flt.engineLive) : ∃ f u,
    u.flt.sources = s.flt.sources ∧ u.sel = s.sel ∧ u.vlt = s.vlt ∧ u.drf = s.drf ∧ u.log = s.log ∧ linkUp u = linkUp s ∧
    engineFault n d s = engineReact n (sendFrame .engine f u) := by
  rw [engineFault]
  cases hn : isEvent n
  · have hlive : n ∉ s.flt.engineLive := by simpa [hn] using h
    exact ⟨.fault [(n, true, false)], { s with flt := { s.flt with
      details := tput 0 n d s.flt.details, engineLive := insertSorted n s.flt.engineLive } }, rfl, rfl, rfl, rfl, rfl, rfl,
      by rw [if_neg (by decide), if_neg (by simp [hlive])]⟩
  · exact ⟨.fault [(n, true, false), (n, false, true)], { s with flt := { s.flt with details := tput 0 n d s.flt.details } },
      rfl, rfl, rfl, rfl, rfl, rfl, by rw [if_pos rfl]⟩

/-! ### The commands of a source (R412, R413, R417) -/

/-- The code of an entry touches a source's record and the signal-integrity flag alone. -/
theorem entryCode_eq (n : Nat) (s : State) : ∃ src si,
    entryCode n s = { s with flt := { s.flt with sources := src, si := si } } := by
  unfold entryCode codeTaken
  split
  · exact ⟨_, _, rfl⟩
  · split <;> exact ⟨_, _, rfl⟩

theorem srcAt_entryCode_self (n : Nat) (s : State) : ∃ a c o,
    srcAt n (entryCode n s) = { srcAt n s with t := a, c := c, owed := o } := by
  unfold entryCode
  split
  · exact ⟨_, _, _, rfl⟩
  · rw [srcAt_codeTaken (.inr rfl), if_pos rfl]
    exact ⟨_, _, _, rfl⟩

theorem enterFault_first (d : Nat) (hq : Quiet n s) (hsh : shadowed n s = false) (hv : s.flt.first.valid = false) :
    (enterFault n d s).flt.first =
      { valid := true, shadowed := false, sev := sevOf n s, master := masterOf n, access := accessOf n, source := n, more := 0,
        addr := addrField n d s, ts := now s } := by
  rw [enterFault, enterSev_quiet _ d hq.1 hq.2 hsh, (logFault_changes _ _ _ _ _ (m' := 0x4) rfl (.refl _ _)).flt rfl,
    captureFirst_of_empty (s := modSrc n (latch d) s) _ _ _ _ _ hv]
  rfl

theorem enterFault_head (d : Nat) (hq : Quiet n s) (hsh : shadowed n s = false) (hw : tget 0 s.log.written n < 16) : ∃ e,
    (enterFault n d s).log.ring.head? = some e ∧ e.code = 1 ∧ e.source = n ∧ e.ts = now s ∧ e.seq = s.log.seq := by
  rw [enterFault, enterSev_quiet _ d hq.1 hq.2 hsh]
  obtain ⟨_, h⟩ := captureFirst_eq n (sevOf n s) (masterOf n) d false (modSrc n (latch d) s)
  rw [h]
  exact logFault_head _ _ _ _ (s := { modSrc n (latch d) s with flt := _ }) hw

theorem le_satAdd {m n : Nat} (k : Nat) (h : n ≤ m) : n ≤ satAdd m n k := by
  unfold satAdd
  split <;> omega

/-- A valid first error keeps all but its count (R424). -/
theorem captureFirst_keeps (n sev master d : Nat) (b : Bool) (h : s.flt.first.valid = true) :
    (captureFirst n sev master d b s).flt.first = { s.flt.first with more := satAdd 255 s.flt.first.more 1 } := by
  rw [captureFirst_of_valid _ _ _ _ _ h]

theorem logFault_flt (n sev d : Nat) (b first : Bool) (s : State) : (logFault n sev d b first s).flt = s.flt :=
  (logFault_changes _ _ _ _ _ (m' := 0x4) rfl (.refl _ _)).flt rfl

theorem enterFault_keepsFirst (d : Nat) (hq : Quiet n s) (hv : s.flt.first.valid = true) :
    (enterFault n d s).flt.first = { s.flt.first with more := satAdd 255 s.flt.first.more 1 } := by
  cases hsh : shadowed n s
  · rw [enterFault, enterSev_quiet _ d hq.1 hq.2 hsh, logFault_flt]
    exact captureFirst_keeps (s := modSrc n (latch d) s) _ _ _ _ _ hv
  · rw [enterFault, enterSev_shadowed _ d hsh, logFault_flt]
    exact captureFirst_keeps (s := modSrc n (latch d) s) _ _ _ _ _ hv

theorem codeTaken_first (n : Nat) (a c : Bool) (s : State) : (codeTaken n a c s).flt.first = s.flt.first := by
  unfold codeTaken
  split <;> rfl

theorem pcFault_keepsFirst (d : Nat) (hq : Quiet n s) (hv : s.flt.first.valid = true) :
    (pcFault n d s).flt.first = s.flt.first ∨
    (pcFault n d s).flt.first = { s.flt.first with more := satAdd 255 s.flt.first.more 1 } := by
  unfold pcFault
  split
  · rw [withAbort_enterFault d hq]
    exact .inr (enterFault_keepsFirst d hq hv)
  cases hp : present n
  · rw [codeChange, if_pos (by simp [hp])]
    exact .inl rfl
  cases hf : (srcAt n s).frozen
  · have hk := codeTaken_sourcesOnly (s := s) (n := n) (a := true) (c := false) (.inr rfl)
    have hfirst := codeTaken_first n true false s
    rw [codeChange_eq _ _ d hp hf]
    split
    · rw [withAbort_enterFault d (hk.quiet hq), enterFault_keepsFirst d (hk.quiet hq) (by rw [hfirst, hv]), hfirst]
      exact .inr rfl
    · exact .inl hfirst
  · rw [codeChange, if_neg (by simp [hp]), if_pos hf]
    exact .inl rfl

theorem channelReports_outside (h : inDrainStates s = false) : channelReports n s = s := by
  rw [channelReports, if_neg (by simp [h])]

theorem execSourceEntersFault_seen (d : Nat) (hk : s.pwr.keeper = true) (hp : present n = true) (hseen : codeSeen n s = true) :
    execSourceEntersFault n d s = .next (channelReports n (pcFault n d (engineSide n true false s))) := by
  rw [execSourceEntersFault, if_pos (by simp [hk, hp]), if_pos hseen]

theorem execSourceEntersFault_unseen (d : Nat) (hk : s.pwr.keeper = true) (hp : present n = true) (hn : n < 160)
    (hup : s.warm.engineUp = true) (hl : linkUp s = false) : execSourceEntersFault n d s = .next (engineFault n d s) := by
  have hseen : codeSeen n s = false := by simp [codeSeen, hl]; omega
  rw [execSourceEntersFault, if_pos (by simp [hk, hp]), if_neg (by simp [hseen]), if_pos hup]

end EngineSources

section Clears
variable {s : State} {n : Nat}

/-! ### Clears and raises (R418, R425, R426) -/

theorem execLatchedClear_notFault (m : Master) (h : inFault (srcAt n s) = true) : execLatchedClear m n s = .next s := by
  have hc : clearLatched m n s = s := by rw [clearLatched, if_neg (by simp [h])]
  rw [execLatchedClear, hc, ite_self]

/-- The latch of a source out of fault is cleared with log entry 2 (R426). -/
theorem clearLatched_eq (m : Master) (hlat : (srcAt n s).latched = true) (hin : inFault (srcAt n s) = false)
    (hn : n < 192 ∨ 194 < n) :
    clearLatched m n s = logEntry 2 n 0 (masterCode m) 0 (modSrc n (fun x => { x with latched := false }) s) := by
  have hdom : (192 ≤ n && n ≤ 194) = false := by simp; omega
  rw [clearLatched, if_pos (by simp [hlat, hin])]
  dsimp only
  rw [hdom, if_neg (by simp)]

theorem masterCode_small (m : Master) : masterCode m % 2 ^ 64 = masterCode m := by cases m <;> rfl

/-- A record with a severity and an alert written to it. -/
def raised (v : Nat) (a : Bool) (x : Source) : Source :=
  { x with sevUp := some v, alertUp := some a, unshadowed := x.unshadowed || decide (3 ≤ v) }

/-- A severity not below the draft's is taken for a source that is not latched (R418). -/
theorem raiseSeverity_eq (m : Master) {v : Nat} (a : Bool) (hp : present n = true) (hd : draftSev n s ≤ v) (hv : v ≤ 4)
    (hfix : fixedSources.contains n = false) (hlat : (srcAt n s).latched = false) (hs : keysUp none s.flt.sources = true) :
    raiseSeverity m n v a s = modSrc n (raised v a) s := by
  have hl : (srcAt n (modSrc n (raised v a) s)).latched = false := by
    rw [srcAt_modSrc hs, if_pos rfl, raised, hlat]
  rw [raiseSeverity, if_neg (by simp [hp]), if_neg (by omega), hfix, if_neg (by simp; omega)]
  change (if (srcAt n (modSrc n (raised v a) s)).latched && _ && _ && _ then _ else _) = _
  rw [hl, if_neg (by simp)]
  rfl

theorem sevOf_of_sevUp {v : Nat} (h : (srcAt n s).sevUp = some v) : sevOf n s = v := by
  unfold srcAt at h
  rw [sevOf, h]

theorem alertOf_of_alertUp {a : Bool} (h : (srcAt n s).alertUp = some a) : alertOf n s = a := by
  rw [alertOf, h]

end Clears

/-- Settles O30. -/
theorem sourcesEnterAndClear : Obligations.SourcesEnterAndClear := by
  refine ⟨fun s n d hk hp hseen hf hin hsev hsh hs hw hv hd => ?_, fun s n d hk hp hn hup hl hs hnew => ?_,
    ⟨fun s n d t hv hk hsev hd ht => ?_, fun s m hk => ?_⟩, fun s m n hk hlat hin hn hs => ?_,
    fun s m n hin => execLatchedClear_notFault m hin, fun s m n v a hk hp hdraft hv hfix hlat hs => ?_⟩
  · obtain ⟨live, broken, hside⟩ := engineSide_quiet (s := s) (n := n) true false hsev
    let u₀ : State := { s with flt := { s.flt with engineLive := live, engineBroken := broken } }
    have hq₀ : Quiet n u₀ := ⟨hsev, .inl hd⟩
    have hcode := entryCode_sourcesOnly n u₀
    have hq := hcode.quiet hq₀
    have hsh' : shadowed n (entryCode n u₀) = false := (hcode.shadowed_eq n).trans hsh
    obtain ⟨src, si, hu⟩ := entryCode_eq n u₀
    have he := enterFault_entered d hq
    have hall : SourcesOnly u₀ (enterFault n d (entryCode n u₀)) := hcode.trans he.toSourcesOnly
    obtain ⟨e, hhead, hecode, hesrc, hets, heseq⟩ := enterFault_head d hq hsh' (by rw [hu]; exact hw)
    have hfirst := enterFault_first d hq hsh' (by rw [hu]; exact hv)
    obtain ⟨hit, k, hself⟩ := he.self
    obtain ⟨a, c, o, hat⟩ := srcAt_entryCode_self n u₀
    refine ⟨enterFault n d (entryCode n u₀), e, ?_, ?_, ?_, fun m hm => ?_, ?_, ?_, ?_, ?_, ?_, hhead, hecode, hesrc, ?_, ?_,
      hall.changes.vlt rfl, hall.changes.cache rfl, hall.changes.dram rfl, hall.changes.stg rfl, hall.changes.pwr rfl⟩
    · refine (execSourceEntersFault_seen d hk hp hseen).trans ?_
      rw [hside, pcFault_enters (s := u₀) d hp hf hin hq₀, channelReports_outside (hall.inDrainStates_eq.trans hd)]
    · rw [hself, latch]
    · rw [hself, latch, hat]
      rfl
    · exact (he.others m hm).trans (srcAt_entryCode_ne hm)
    · rw [hfirst]
    · rw [hfirst]
    · rw [hfirst]
      exact hcode.sevOf_eq n
    · rw [hfirst, hu]
      rfl
    · rw [hfirst]
    · rw [hets, hu]
      rfl
    · rw [heseq, hu]
  · obtain ⟨f, u, hsrc, hsel, hvlt, hdrf, hlog, hlink, heq⟩ := engineFault_new d hnew
    have hc := sendFrame_changes .engine f (m' := 0x4c000000) rfl (.refl _ u)
    have hr := engineReact_changes n (m' := 0x80020) rfl (.refl _ (sendFrame .engine f u))
    have hat (m : Nat) : srcAt m (sendFrame .engine f u) = srcAt m s := srcAt_congr (by rw [sendFrame_flt, hsrc]) m
    have hsev : sevOf n (sendFrame .engine f u) = sevOf n s := sevOf_congr ((hc.drf rfl).trans hdrf) (by rw [hat])
    have hvault : noVault (sendFrame .engine f u) = noVault s := by rw [noVault, sendFrame_vlt, hvlt, noVault]
    have hpairs : (sendFrame .engine f u).sel.pairs.length = 7 := by rw [hc.sel rfl, hsel, hs.pairs]
    obtain ⟨h4, h3⟩ := engineReact_linkDown (n := n) ((linkUp_sendFrame .engine f u).trans (hlink.trans hl)) hpairs
    rw [hsev] at h4 h3
    rw [hvault] at h3
    refine ⟨_, execSourceEntersFault_unseen d hk hp hn hup hl, fun m => ?_, ?_, ?_, ?_⟩
    · rw [heq, srcAt_congr (congrArg FltSt.sources (engineReact_flt ..)), hat]
    · rw [heq, hr.log rfl, hc.log rfl, hlog]
    · rwa [heq]
    · rwa [heq]
  · have hkeep (k : Nat) (hk : k = s.flt.first.more ∨ k = satAdd 255 s.flt.first.more 1)
        (ht : t.flt.first = { s.flt.first with more := k }) : { t.flt.first with more := 0 } = { s.flt.first with more := 0 } ∧
          s.flt.first.more ≤ t.flt.first.more ∨ 255 ≤ s.flt.first.more := by
      rw [ht]
      obtain h255 | h255 := Nat.lt_or_ge s.flt.first.more 255
      · refine .inl ⟨rfl, ?_⟩
        have := le_satAdd 1 (Nat.le_of_lt h255)
        dsimp only
        omega
      · exact .inr h255
    change execSourceEntersFault n d s = _ at ht
    cases hp : present n
    · rw [execSourceEntersFault, if_neg (by simp [hp])] at ht
      cases ht
      exact hkeep _ (.inl rfl) rfl
    cases hseen : codeSeen n s
    · rw [execSourceEntersFault, if_pos (by simp [hk, hp]), if_neg (by simp [hseen])] at ht
      split at ht
      · cases ht
        obtain ⟨_, _, h⟩ := engineFault_flt n d s
        exact hkeep _ (.inl rfl) (by rw [h])
      · cases ht
        exact hkeep _ (.inl rfl) rfl
    · obtain ⟨live, broken, hside⟩ := engineSide_quiet (s := s) (n := n) true false hsev
      rw [execSourceEntersFault_seen d hk hp hseen, hside] at ht
      have hq : Quiet n { s with flt := { s.flt with engineLive := live, engineBroken := broken } } := ⟨hsev, .inl hd⟩
      rw [channelReports_outside ((pcFault_quiet d hq).inDrainStates_eq.trans hd)] at ht
      cases ht
      obtain h | h := pcFault_keepsFirst d hq hv
      · exact hkeep _ (.inl rfl) h
      · exact hkeep _ (.inr rfl) h
  · change Host.Outcome.next (clearFirst m s) = _
    rw [clearFirst, if_pos hk]
  · change ∃ t e, Host.Outcome.next (if s.pwr.keeper then clearLatched m n s else s) = .next t ∧ _
    rw [if_pos hk, clearLatched_eq m hlat hin hn]
    refine ⟨_, _, rfl, ?_, fun k hk => ?_, rfl, rfl, rfl, masterCode_small m, rfl⟩
    · exact (srcAt_modSrc hs.sources ..).trans (if_pos rfl)
    · exact (srcAt_modSrc hs.sources ..).trans (if_neg hk)
  · change ∃ t, Host.Outcome.next (if s.pwr.keeper then raiseSeverity m n v a s else s) = .next t ∧ _
    rw [if_pos hk, raiseSeverity_eq m a hp hdraft hv hfix hlat hs.sources]
    have hat : srcAt n (modSrc n (raised v a) s) = raised v a (srcAt n s) := (srcAt_modSrc hs.sources ..).trans (if_pos rfl)
    exact ⟨_, rfl, sevOf_of_sevUp (by rw [hat, raised]), alertOf_of_alertUp (by rw [hat, raised]), rfl⟩

end Sys2Proof.Machine

/-! PROOFS. What serving requests and evaluating the budget leave as it is: the log, the vault state, the background command, the key,
and what has been sent (R91, R126 to R135, R302, R318). -/

namespace Sys2Proof.Machine

section Serving
variable {s t u : State}

/-- What requests that are served, and the budget that is evaluated with them, leave: the log, the charger, the vault state, the key,
the background command, and of the faults all but the engine's own conditions. What was sent stays sent. -/
structure Serving (s t : State) : Prop where
  sent : KeepsSent s t
  log : t.log = s.log
  chg : t.chg = s.chg
  flt : ∃ live details, t.flt = { s.flt with engineLive := live, details := details }
  state : t.vlt.state = s.vlt.state
  confirming : t.vlt.confirming = s.vlt.confirming
  keyOk : t.restore.keyOk = s.restore.keyOk
  linkUp : linkUp t = linkUp s
  background : KeepsBackground s t
  vault : noVault s = false → t.vlt = s.vlt

theorem KeepsSent.trans (h : KeepsSent s t) (k : KeepsSent t u) : KeepsSent s u := List.IsSuffix.trans h k

theorem Serving.refl (s : State) : Serving s s :=
  ⟨.of_eq rfl, rfl, rfl, ⟨_, _, rfl⟩, rfl, rfl, rfl, rfl, ⟨rfl, rfl, rfl, rfl⟩, fun _ => rfl⟩

theorem Serving.trans (h : Serving s t) (k : Serving t u) : Serving s u where
  sent := h.sent.trans k.sent
  log := k.log.trans h.log
  chg := k.chg.trans h.chg
  flt := by
    obtain ⟨_, _, h⟩ := h.flt
    obtain ⟨_, _, k⟩ := k.flt
    exact ⟨_, _, k.trans (by rw [h])⟩
  state := k.state.trans h.state
  confirming := k.confirming.trans h.confirming
  keyOk := k.keyOk.trans h.keyOk
  linkUp := k.linkUp.trans h.linkUp
  background := h.background.trans k.background
  vault hv := (k.vault (by rwa [noVault, h.state, ← noVault])).trans (h.vault hv)

/-- Every register group but the link's ends, the log, staging, the vault, the restore, the mailbox, the charger and the faults. -/
theorem Serving.of_changes (h : Changes 0xf3faf74b s t) (hs : KeepsSent s t) : Serving s t where
  sent := hs
  log := h.log rfl
  chg := h.chg rfl
  flt := ⟨_, _, h.flt rfl⟩
  state := by rw [h.vlt rfl]
  confirming := by rw [h.vlt rfl]
  keyOk := by rw [h.restore rfl]
  linkUp := by rw [Machine.linkUp, h.hdlE rfl, h.hdlP rfl, Machine.linkUp]
  background := by rw [KeepsBackground, h.mbx rfl, h.stg rfl]; exact ⟨rfl, rfl, rfl, rfl⟩
  vault _ := h.vlt rfl

theorem Serving.of_silent (h : Changes 0xb3faf74b s t) : Serving s t where
  sent := .of_eq (h.sent rfl)
  log := h.log rfl
  chg := h.chg rfl
  flt := ⟨_, _, h.flt rfl⟩
  state := by rw [h.vlt rfl]
  confirming := by rw [h.vlt rfl]
  keyOk := by rw [h.restore rfl]
  linkUp := by rw [Machine.linkUp, h.hdlE rfl, h.hdlP rfl, Machine.linkUp]
  background := by rw [KeepsBackground, h.mbx rfl, h.stg rfl]; exact ⟨rfl, rfl, rfl, rfl⟩
  vault _ := h.vlt rfl

theorem Serving.foldl {α : Type} {f : State → α → State} (h : ∀ s a, Serving s (f s a)) (l : List α) (s : State) :
    Serving s (l.foldl f s) := by
  induction l generalizing s with
  | nil => exact .refl s
  | cons a l ih => exact (h s a).trans (ih _)

/-! ### The engine's faults -/

theorem engineReact_state (n : Nat) (s : State) :
    (engineReact n s).vlt.state = s.vlt.state ∧ (engineReact n s).vlt.confirming = s.vlt.confirming := by
  unfold engineReact
  split_ifs <;> exact ⟨rfl, rfl⟩

theorem linkUp_of_changes (h : Changes 0xf3ffffff s t) : linkUp t = linkUp s := by
  rw [linkUp, h.hdlE rfl, h.hdlP rfl, linkUp]

theorem linkUp_engineReact (n : Nat) (s : State) : linkUp (engineReact n s) = linkUp s :=
  linkUp_of_changes (engineReact_changes n (by rfl) (.refl _ s))

theorem linkUp_engineFault (n d : Nat) (s : State) : linkUp (engineFault n d s) = linkUp s := by
  unfold engineFault
  dsimp only
  split
  · rw [linkUp_engineReact, linkUp_sendFrame]
    rfl
  · split
    · rfl
    · rw [linkUp_engineReact, linkUp_sendFrame]
      rfl

theorem engineFault_serving (n d : Nat) (s : State) : Serving s (engineFault n d s) := by
  have hc := engineFault_changes n d (m' := 0x4c0c0020) rfl (.refl _ s)
  have hv (f : Frame) (u : State) (hu : u.vlt = s.vlt) : (engineReact n (sendFrame .engine f u)).vlt.state = s.vlt.state ∧
      (engineReact n (sendFrame .engine f u)).vlt.confirming = s.vlt.confirming := by
    have hf : (sendFrame .engine f u).vlt = s.vlt := (sendFrame_vlt ..).trans hu
    have hr := engineReact_state n (sendFrame .engine f u)
    rwa [hf] at hr
  have hvlt : (engineFault n d s).vlt.state = s.vlt.state ∧ (engineFault n d s).vlt.confirming = s.vlt.confirming := by
    unfold engineFault
    dsimp only
    split
    · exact hv _ _ rfl
    · split
      · exact ⟨rfl, rfl⟩
      · exact hv _ _ rfl
  refine ⟨engineFault_keepsSent n d (.of_eq rfl), hc.log rfl, hc.chg rfl, engineFault_flt n d s, hvlt.1, hvlt.2, ?_,
    linkUp_engineFault n d s, ?_, engineFault_vlt n d⟩
  · rw [hc.restore rfl]
  · rw [KeepsBackground, hc.mbx rfl, hc.stg rfl]
    exact ⟨rfl, rfl, rfl, rfl⟩

theorem engineClear_serving (n : Nat) (s : State) : Serving s (engineClear n s) := by
  have hc := engineClear_changes n (m' := 0x4c040000) rfl (.refl _ s)
  refine ⟨engineClear_keepsSent n (.of_eq rfl), hc.log rfl, hc.chg rfl, ?_, by rw [hc.vlt rfl], by rw [hc.vlt rfl],
    by rw [hc.restore rfl], ?_, ?_, fun _ => hc.vlt rfl⟩
  · unfold engineClear
    split
    · rw [sendFrame_flt]
      exact ⟨_, _, rfl⟩
    · exact ⟨_, _, rfl⟩
  · unfold engineClear
    split
    · rw [linkUp_sendFrame]
      rfl
    · rfl
  · rw [KeepsBackground, hc.mbx rfl, hc.stg rfl]
    exact ⟨rfl, rfl, rfl, rfl⟩

theorem nextFree_serving (s : State) : Serving s (nextFree s) := .of_silent (nextFree_changes (by rfl) (.refl _ s))

theorem sampleFree_serving (code index : Nat) (s : State) : Serving s (sampleFree code index s) :=
  .of_silent (sampleFree_changes code index (by rfl) (.refl _ s))

theorem emit_serving (m : Sent) (s : State) : Serving s (emit m s) :=
  .of_changes (emit_changes m (by rfl) (.refl _ s)) (emit_keepsSent m (.of_eq rfl))

theorem msix_serving (v : Nat) (s : State) : Serving s (msix v s) :=
  .of_changes (msix_changes v (by rfl) (.refl _ s)) (msix_keepsSent v (.of_eq rfl))

/-! ### The budget (R126 to R135) -/

theorem postEvent_serving (i kind bolt : Nat) (values : List Nat) (s : State) : Serving s (postEvent i kind bolt values s) := by
  have hc := postEvent_changes i kind bolt values (m' := 0x40000c00) rfl (.refl _ s)
  obtain ⟨_, hm⟩ := postEvent_mbx i kind bolt values s
  refine ⟨postEvent_keepsSent _ _ _ _ (.of_eq rfl), hc.log rfl, hc.chg rfl, ⟨_, _, hc.flt rfl⟩, by rw [hc.vlt rfl], by rw [hc.vlt rfl],
    by rw [hc.restore rfl], ?_, ?_, fun _ => hc.vlt rfl⟩
  · rw [Machine.linkUp, hc.hdlE rfl, hc.hdlP rfl, Machine.linkUp]
  · rw [KeepsBackground, hm, hc.stg rfl]
    exact ⟨rfl, rfl, rfl, rfl⟩

theorem reefFlags_serving (s : State) : Serving s (reefFlags s) := by
  unfold reefFlags
  extract_lets _ _ _ _ _ _ _ _ _ _ a b c d
  have ha : Serving s a := ⟨.of_eq rfl, rfl, rfl, ⟨_, _, rfl⟩, rfl, rfl, rfl, rfl, ⟨rfl, rfl, rfl, rfl⟩, fun _ => rfl⟩
  have hb : Serving a b := by
    unfold b
    split
    · exact engineClear_serving 5 a
    · exact .refl a
  have hc : Serving b c := by
    unfold c
    split
    · exact engineClear_serving 4 b
    · exact .refl b
  have hd : Serving c d := by
    unfold d
    split
    · exact postEvent_serving ..
    · exact .refl c
  have h := ((ha.trans hb).trans hc).trans hd
  split
  · exact h.trans (msix_serving 3 d)
  · exact h

theorem ueDirty_serving (line : Nat) (s : State) : Serving s (ueDirty line s) := by
  unfold ueDirty
  extract_lets g a b
  have ha : Serving s a := .of_silent (poisonLines_changes _ _ _ (by rfl) (.refl _ s))
  have hb : Serving a b := by
    unfold b
    split
    · exact .of_silent (takeAgain_changes _ (by rfl) (setState_changes _ _ (by rfl) (.refl _ a)))
    · exact .refl a
  exact (ha.trans hb).trans (engineFault_serving ..)

theorem countCe_serving (line : Nat) (s : State) : Serving s (countCe line s) := .of_silent (countCe_changes line (by rfl) (.refl _ s))

theorem countUe_serving (line : Nat) (s : State) : Serving s (countUe line s) := .of_silent (countUe_changes line (by rfl) (.refl _ s))

theorem mergeRead_serving (w : HeldWrite) (s : State) : Serving s (mergeRead w s) := by
  unfold mergeRead
  split
  · exact .refl s
  · exact countCe_serving ..
  · exact (countUe_serving ..).trans (ueDirty_serving ..)

theorem mergeInto_serving (w : HeldWrite) (s : State) : Serving s (mergeInto w s) := by
  unfold mergeInto
  extract_lets g zero a
  have ha : Serving s a := by
    unfold a
    refine .of_silent (setState_changes _ _ (by rfl) ?_)
    split
    · exact zeroRange_changes _ _ (by rfl) (.refl _ s)
    · exact .refl _ s
  split
  · exact ha
  · exact ha.trans (mergeRead_serving ..)

theorem commitLine_serving (w : HeldWrite) (s : State) : Serving s (commitLine w s) := by
  have hm := mergeInto_serving w s
  have hw : Serving (mergeInto w s) (writeLine (w.dpa / 64 * 64) w.data w.be (mergeInto w s)) :=
    .of_silent (writeLine_changes _ _ _ (by rfl) (.refl _ _))
  have hp (u : State) : Serving u (settlePoison w u) := by
    unfold settlePoison
    split
    · exact .of_silent (poisonLines_changes _ _ _ (by rfl) (.refl _ u))
    · split
      · exact .of_silent (unpoison_changes _ _ (by rfl) (.refl _ u))
      · exact .refl u
  have hb (u : State) : Serving u { u with mbx := { u.mbx with writtenSince := true, sealBroken := true } } :=
    ⟨.of_eq rfl, rfl, rfl, ⟨_, _, rfl⟩, rfl, rfl, rfl, rfl, ⟨rfl, rfl, rfl, rfl⟩, fun _ => rfl⟩
  exact ((hm.trans hw).trans (hp _)).trans (hb _)

theorem commit_serving (w : HeldWrite) (s : State) : Serving s (commit w s) :=
  ((commitLine_serving w s).trans (emit_serving ..)).trans (sampleFree_serving ..)

theorem joinCapQueue_serving (n : Nat) (w : HeldWrite) (s : State) : Serving s (joinCapQueue n w s) :=
  .of_silent (joinCapQueue_changes n w (by rfl) (.refl _ s))

theorem discardShed_serving (w : HeldWrite) (s : State) : Serving s (discardShed w s) :=
  .of_changes (discardShed_changes w (by rfl) (.refl _ s)) (emit_keepsSent _ (.of_eq rfl))

/-- The held writes alone change. -/
theorem heldq_serving (q : List HeldWrite) (s : State) : Serving s { s with stg := { s.stg with heldq := q } } :=
  ⟨.of_eq rfl, rfl, rfl, ⟨_, _, rfl⟩, rfl, rfl, rfl, rfl, ⟨rfl, rfl, rfl, rfl⟩, fun _ => rfl⟩

theorem passHeld_serving (s : State) : Serving s (passHeld s) := by
  refine (heldq_serving [] s).trans (.foldl (fun s w => ?_) _ _)
  dsimp only
  split
  · exact (commit_serving ..).trans (sampleFree_serving ..)
  · exact heldq_serving ..

theorem releaseHeld_serving (n : Nat) (s : State) : Serving s (releaseHeld n s) := by
  induction n generalizing s with
  | zero => exact .refl s
  | succ n ih =>
    rw [releaseHeld]
    split
    · exact .refl s
    · dsimp only
      split
      · exact (((heldq_serving ..).trans (discardShed_serving ..)).trans (sampleFree_serving ..)).trans (ih _)
      · split
        · exact (((heldq_serving ..).trans (commit_serving ..)).trans (sampleFree_serving ..)).trans (ih _)
        · split
          · exact ((heldq_serving ..).trans (joinCapQueue_serving ..)).trans (ih _)
          · split
            · exact (((heldq_serving ..).trans (commit_serving ..)).trans (sampleFree_serving ..)).trans (ih _)
            · exact passHeld_serving s

theorem evaluate_serving (s : State) : Serving s (evaluate s) := by
  unfold evaluate
  split
  · exact reefFlags_serving s
  · exact (releaseHeld_serving ..).trans (reefFlags_serving _)

/-! ### Requests (R91, R257, R302) -/

theorem Serving.inTail_eq (h : Serving s t) : inTail t = inTail s := inTail_congr h.chg

theorem checkComplete_serving (s : State) : Serving s (checkComplete s) := by
  unfold checkComplete
  split
  · dsimp only
    have hr : Serving s { s with restore := { s.restore with
        st := .complete, completeTs := engineNow s, listPartial := false, rebuilding := false, evtComplete := true, loading := [] } } :=
      ⟨.of_eq rfl, rfl, rfl, ⟨_, _, rfl⟩, rfl, rfl, rfl, rfl, ⟨rfl, rfl, rfl, rfl⟩, fun _ => rfl⟩
    split
    · exact hr.trans (msix_serving ..)
    · exact hr
  · exact .refl s

theorem joinFetch_serving (g : Nat) (f : Fetch → Fetch) (s : State) : Serving s (joinFetch g f s) := by
  unfold joinFetch
  split
  · exact ⟨.of_eq rfl, rfl, rfl, ⟨_, _, rfl⟩, rfl, rfl, rfl, rfl, ⟨rfl, rfl, rfl, rfl⟩, fun _ => rfl⟩
  · exact ⟨.of_eq rfl, rfl, rfl, ⟨_, _, rfl⟩, rfl, rfl, rfl, rfl, ⟨rfl, rfl, rfl, rfl⟩, fun _ => rfl⟩

theorem poisonGranule_serving (g : Nat) (s : State) : Serving s (poisonGranule g s) :=
  .of_silent (poisonGranule_changes g (by rfl) (.refl _ s))

theorem mapRead_serving (g : Nat) (m : MapAcc) (s : State) : Serving s (mapRead g m s) := by
  unfold mapRead
  split
  · exact .refl s
  · exact engineFault_serving ..
  · exact ((poisonGranule_serving ..).trans (engineFault_serving ..)).trans (checkComplete_serving _)
  · exact countCe_serving ..
  · exact countCe_serving ..
  · have hp (u : State) : Serving u (dirtyBlockUe g u) :=
      (Serving.foldl (fun s h => poisonGranule_serving h s) _ u).trans (engineFault_serving ..)
    exact ((countUe_serving ..).trans (hp _)).trans (checkComplete_serving _)
  · have hl (u : State) : Serving u (locationBlockUe g u) := .of_silent (locationBlockUe_changes g (by rfl) (.refl _ u))
    exact ((countUe_serving ..).trans (hl _)).trans (checkComplete_serving _)

theorem answerRead_serving (tag dpa : Nat) (s : State) : Serving s (answerRead tag dpa s) := by
  unfold answerRead
  dsimp only
  split
  · exact ((sampleFree_serving ..).trans (nextFree_serving _)).trans (emit_serving ..)
  · split
    · exact (sampleFree_serving ..).trans (emit_serving ..)
    · exact (sampleFree_serving ..).trans (emit_serving ..)

theorem onfi_serving (n : Nat) (c : Onfi) (s : State) : Serving s (onfi n c s) := emit_serving ..

theorem retryReads_serving (page : Nat) (s : State) : Serving s (retryReads page s) := by
  unfold retryReads
  extract_lets n entries a
  have ha : Serving s a := .foldl (fun _ _ => (onfi_serving ..).trans (onfi_serving ..)) _ _
  exact ((ha.trans (onfi_serving ..)).trans (onfi_serving ..)).trans (onfi_serving ..)

theorem countCopyRead_serving (slot : Nat) (r : CopyRead) (s : State) : Serving s (countCopyRead slot r s) := by
  unfold countCopyRead
  extract_lets channel outcome a b
  have ha : Serving s a := onfi_serving ..
  have hb : Serving a b := by
    unfold b
    split
    · exact .refl a
    · exact sampleFree_serving ..
  split
  · exact ((ha.trans hb).trans (retryReads_serving ..)).trans (.of_silent (modChannel_changes _ _ (by rfl) (.refl _ _)))
  · exact ha.trans hb

theorem placeCopy_serving (g : Nat) (c : List Host.Cell × BitVec 64) (s : State) : Serving s (placeCopy g c s) :=
  .of_silent (placeCopy_changes g c (by rfl) (.refl _ s))

theorem readCopies_serving (l : Loc) (a b : CopyRead) (s : State) : Serving s (readCopies l a b s).2.2 := by
  unfold readCopies
  dsimp only
  split
  · exact countCopyRead_serving ..
  · split
    · exact (countCopyRead_serving ..).trans (countCopyRead_serving ..)
    · exact countCopyRead_serving ..

/-- A granule is made DIRTY, and taken again where a drain has it. -/
theorem dirtied_serving (g : Nat) (x : Entry) (s : State) : Serving s (takeAgain g (setEntry g x s)) :=
  .of_silent (takeAgain_changes g (by rfl) (setEntry_changes g x (by rfl) (.refl _ s)))

theorem repairClean_serving (line : Nat) (a b : CopyRead) (s : State) : Serving s (repairClean line a b s) := by
  have hp (g : Nat) (m : BitVec 64) (x : PSource) (u : State) : Serving u (poisonLines g m x u) :=
    .of_silent (poisonLines_changes _ _ _ (by rfl) (.refl _ u))
  unfold repairClean
  dsimp only
  split
  · exact ((hp ..).trans (dirtied_serving ..)).trans (engineFault_serving ..)
  next l _ =>
    have hr := readCopies_serving l a b s
    split
    · exact (hr.trans (placeCopy_serving ..)).trans (engineFault_serving ..)
    · exact (((hr.trans (placeCopy_serving ..)).trans (dirtied_serving ..)).trans (engineFault_serving ..)).trans
        (engineFault_serving ..)
    · exact (((hr.trans (hp ..)).trans (dirtied_serving ..)).trans (engineFault_serving ..)).trans (engineFault_serving ..)

theorem lineRead_serving (line : Nat) (x : Burst) (a b : CopyRead) (s : State) : Serving s (lineRead line x a b s) := by
  unfold lineRead lineEcc
  split
  · exact .refl s
  · exact countCe_serving ..
  · dsimp only
    split
    · exact (countUe_serving ..).trans (repairClean_serving ..)
    · exact (countUe_serving ..).trans (ueDirty_serving ..)
    · exact (countUe_serving ..).trans (ueDirty_serving ..)
    · exact (countUe_serving ..).trans (engineFault_serving ..)
    · exact (countUe_serving ..).trans (engineFault_serving ..)

theorem serveRead_serving (r : ReadReq) (s : State) : Serving s (serveRead r s) := by
  unfold serveRead
  dsimp only
  split
  · exact joinFetch_serving ..
  · split
    · exact answerRead_serving ..
    · exact (lineRead_serving ..).trans (answerRead_serving ..)

/-- Outside the exercise's tail nothing that a write does ends the exercise (R378). -/
theorem serveWrite_serving (w : HeldWrite) (h : inTail s = false) : Serving s (serveWrite w s) := by
  have hhold (q : List HeldWrite) : tailEnds { s with stg := { s.stg with heldq := q } } = { s with stg := { s.stg with heldq := q } } :=
    tailEnds_of_not_inTail h
  unfold serveWrite admitWrite admitBudget holdWrite
  dsimp only
  rw [hhold]
  split
  · exact .refl s
  split
  · exact discardShed_serving ..
  split
  · exact joinFetch_serving ..
  split
  · exact commit_serving ..
  split
  · have hj := joinCapQueue_serving (boltOf s (w.dpa / 4096)) w s
    rw [if_neg (by rw [hj.inTail_eq, h]; decide)]
    exact hj
  split
  · exact (commit_serving ..).trans (evaluate_serving _)
  · exact (heldq_serving ..).trans (evaluate_serving _)

theorem serveReq_serving (r : HostReq) (h : inTail s = false) : Serving s (serveReq s r) := by
  cases r with
  | write w =>
    have hm := mapRead_serving (w.dpa / 4096) w.map s
    exact hm.trans (serveWrite_serving w (hm.inTail_eq.trans h))
  | read r => exact (mapRead_serving ..).trans (serveRead_serving ..)

theorem foldl_serveReq_serving (l : List HostReq) (h : inTail s = false) : Serving s (l.foldl serveReq s) := by
  induction l generalizing s with
  | nil => exact .refl s
  | cons r l ih =>
    have hr := serveReq_serving r h
    exact hr.trans (ih (hr.inTail_eq.trans h))

/-- The waiting requests are served; in the exercise's tail there may be none, and no write held. -/
theorem releaseWaiting_serving (h : inTail s = true → s.cache.waiting = [] ∧ s.stg.heldq = []) : Serving s (releaseWaiting s) := by
  unfold releaseWaiting
  split
  · exact .refl s
  dsimp only
  cases ht : inTail s
  case true =>
    obtain ⟨hw, hh⟩ := h ht
    have he : s.stg.heldq.isEmpty = true := by rw [hh, List.isEmpty_nil]
    rw [if_pos he, hw, List.foldl_nil, tailHeld, if_neg (by simp [hh])]
    exact ⟨.of_eq rfl, rfl, rfl, ⟨_, _, rfl⟩, rfl, rfl, rfl, rfl, ⟨rfl, rfl, rfl, rfl⟩, fun _ => rfl⟩
  case false =>
    have he : Serving s (if s.stg.heldq.isEmpty then s else evaluate s) := by
      split
      · exact .refl s
      · exact evaluate_serving s
    have hw (u : State) : Serving u { u with cache := { u.cache with waiting := [] } } :=
      ⟨.of_eq rfl, rfl, rfl, ⟨_, _, rfl⟩, rfl, rfl, rfl, rfl, ⟨rfl, rfl, rfl, rfl⟩, fun _ => rfl⟩
    have hs := (he.trans (hw _)).trans (foldl_serveReq_serving (if s.stg.heldq.isEmpty then s else evaluate s).cache.waiting
      (((he.trans (hw _)).inTail_eq).trans ht))
    rw [tailHeld, if_neg (by rw [hs.inTail_eq, ht]; simp)]
    exact hs

end Serving

end Sys2Proof.Machine

/-! PROOFS. Severities and their reactions: vault, unit reset, belay, and the end of a unit reset (R411 to R423, R431). -/

namespace Sys2Proof.Machine

section UnitResets
variable {s t u : State} {n : Nat}

/-! ### What voiding epochs leaves (R173) -/

/-- Of the faults the engine's own conditions change alone, and of the vault neither its state nor its confirmation. -/
structure EngineOnly (s t : State) : Prop where
  flt : ∃ live details, t.flt = { s.flt with engineLive := live, details := details }
  state : t.vlt.state = s.vlt.state
  confirming : t.vlt.confirming = s.vlt.confirming

theorem Serving.engineOnly (h : Serving s t) : EngineOnly s t := ⟨h.flt, h.state, h.confirming⟩

theorem EngineOnly.of_eq (hf : t.flt = s.flt) (hv : t.vlt = s.vlt) : EngineOnly s t :=
  ⟨⟨_, _, hf⟩, by rw [hv], by rw [hv]⟩

theorem EngineOnly.of_changes (h : Changes 0xfffbffdf s t) : EngineOnly s t := .of_eq (h.flt rfl) (h.vlt rfl)

theorem EngineOnly.refl (s : State) : EngineOnly s s := .of_eq rfl rfl

theorem EngineOnly.trans (h : EngineOnly s t) (k : EngineOnly t u) : EngineOnly s u where
  flt := by
    obtain ⟨_, _, h⟩ := h.flt
    obtain ⟨_, _, k⟩ := k.flt
    exact ⟨_, _, k.trans (by rw [h])⟩
  state := k.state.trans h.state
  confirming := k.confirming.trans h.confirming

theorem EngineOnly.foldl {α : Type} {f : State → α → State} (h : ∀ s a, EngineOnly s (f s a)) (l : List α) (s : State) :
    EngineOnly s (l.foldl f s) := by
  induction l generalizing s with
  | nil => exact .refl s
  | cons a l ih => exact (h s a).trans (ih _)

theorem voidEpoch_engineOnly (reason : Nat) (e : Epoch) (s : State) : EngineOnly s (voidEpoch reason s e) :=
  .of_changes (voidEpoch_changes reason e (by rfl) (.refl _ s))

theorem addReprogram_engineOnly (bytes : Nat) (s : State) : EngineOnly s (addReprogram bytes s) := by
  have hk (k : Nat) : EngineOnly s { s with vlt := { s.vlt with reprogBytes := k } } := ⟨⟨_, _, rfl⟩, rfl, rfl⟩
  unfold addReprogram
  dsimp only
  split
  · exact (hk _).trans (engineFault_serving ..).engineOnly
  · exact hk _

theorem openNew_engineOnly (k : KnotKind) (s : State) : EngineOnly s (openNew k s) := by
  have hg (g : StgSt) : EngineOnly s { s with stg := g } := .of_eq rfl rfl
  unfold openNew
  split
  · exact .refl s
  · split
    · exact (hg _).trans (engineFault_serving ..).engineOnly
    · exact hg _

theorem scheduleManifest_engineOnly (s : State) : EngineOnly s (scheduleManifest s) := by
  unfold scheduleManifest
  dsimp only
  split
  · exact (openNew_engineOnly ..).trans (.of_changes (closeEpoch_changes _ (by rfl) (modEpoch_changes _ _ (by rfl) (.refl _ _))))
  · exact openNew_engineOnly ..

theorem voidDrainFrom_engineOnly (n reason : Nat) (s : State) : EngineOnly s (voidDrainFrom n reason s) := by
  unfold voidDrainFrom
  extract_lets l us run a
  have ha : EngineOnly s a := .foldl (fun s e => voidEpoch_engineOnly _ e s) _ _
  exact ha.trans ⟨⟨_, _, rfl⟩, rfl, rfl⟩

theorem failKnot_engineOnly (e : Epoch) (reason : Nat) (s : State) : EngineOnly s (failKnot e reason s) := by
  have hv := voidEpoch_engineOnly reason e s
  have hd (u : State) (d : DrainSt) : EngineOnly u { u with drain := d } := .of_eq rfl rfl
  unfold failKnot
  split
  · exact hv
  split
  · exact hv.trans (hd _ _)
  split
  · exact ((hv.trans (addReprogram_engineOnly ..)).trans (hd _ _)).trans (scheduleManifest_engineOnly _)
  split
  · exact voidDrainFrom_engineOnly ..
  · exact hv

theorem voidUnits_engineOnly (p : Epoch → Bool) (reason : Nat) (s : State) : EngineOnly s (voidUnits p reason s) := by
  refine .foldl (fun s e => ?_) _ _
  split
  · exact failKnot_engineOnly ..
  · exact .refl s

/-! ### What a unit reset clears (R420) -/

theorem clearUnit_engineOnly (v : Nat) (s : State) : EngineOnly s (clearUnit v s) := by
  unfold clearUnit
  split
  · exact .of_changes (clearCxlPort_changes (by rfl) (.refl _ s))
  split
  · exact .of_eq rfl rfl
  split
  · exact .of_eq rfl rfl
  split
  · have hv := voidUnits_engineOnly (fun _ => true) 3 s
    exact hv.trans ⟨⟨_, _, rfl⟩, rfl, rfl⟩
  split
  · exact (voidUnits_engineOnly ..).trans (.of_eq rfl rfl)
  split
  · exact .of_eq rfl rfl
  split
  · exact .of_eq rfl rfl
  split
  · exact .of_changes (clearDomains_changes _ (by rfl) (.refl _ s))
  split
  · exact .of_changes (clearCharger_changes (by rfl) (.refl _ s))
  split
  · exact .of_changes (clearGauge_changes (by rfl) (.refl _ s))
  · exact .refl s

theorem mem_addTo (n : Nat) (l : List Nat) : n ∈ addTo n l := by
  unfold addTo
  split
  · assumption
  · simp

theorem beginUnitReset_engineOnly (v : Nat) (s : State) :
    EngineOnly { s with flt := { s.flt with resets := addTo v s.flt.resets } } (beginUnitReset v s) :=
  (clearUnit_engineOnly v _).trans (.of_changes (logEvent_changes 7 3 v (by rfl) (.refl _ _)))

end UnitResets

section Reactions
variable {s t : State} {n : Nat}

/-! ### Entry into fault at any severity (R411, R416, R419) -/

/-- The state in which a source outside every shadow has been latched, captured and logged (R424, R436). -/
def noted (n sev d : Nat) (s : State) : State :=
  logFault n sev d false (!s.flt.first.valid) (captureFirst n sev (masterOf n) d false (modSrc n (latch d) s))

theorem noted_sourcesOnly (n sev d : Nat) (s : State) : SourcesOnly s (noted n sev d s) :=
  ((latched_sourcesOnly n d s).trans (captureFirst_sourcesOnly ..)).trans (logFault_sourcesOnly ..)

theorem srcAt_noted_self (n sev d : Nat) (s : State) : srcAt n (noted n sev d s) = latch d (srcAt n s) := by
  rw [noted, srcAt_logFault, srcAt_captureFirst, srcAt_modSrc_of_ne (latch_ne _ _), if_pos rfl]

theorem escalates_congr (hd : t.drf = s.drf) (ht : t.tbs = s.tbs) (h : (srcAt n t).reacted = (srcAt n s).reacted) :
    escalates n t = escalates n s := by
  rw [escalates, recentReactions, setting, now, h, hd, ht, escalates, recentReactions, setting, now]

theorem takenSev_noted (sev k d : Nat) (s : State) : takenSev n sev (noted n k d s) = takenSev n sev s := by
  have hc := (noted_sourcesOnly n k d s).changes
  rw [takenSev, escalates_congr (hc.drf rfl) (hc.tbs rfl) (by rw [srcAt_noted_self, latch]), takenSev]

theorem enterFault_unshadowed (d : Nat) (hsh : shadowed n s = false) :
    enterFault n d s = react n (sevOf n s) (noted n (takenSev n (sevOf n s) s) d s) := by
  have hl := latched_sourcesOnly n d s
  have hsh' : shadowed n (modSrc n (latch d) s) = false := (hl.shadowed_eq n).trans hsh
  have hat : srcAt n (modSrc n (latch d) s) = latch d (srcAt n s) := (srcAt_modSrc_of_ne (latch_ne _ _) n).trans (if_pos rfl)
  have ht : takenSev n (sevOf n s) (modSrc n (latch d) s) = takenSev n (sevOf n s) s := by
    rw [takenSev, escalates_congr (hl.changes.drf rfl) (hl.changes.tbs rfl) (by rw [hat, latch]), takenSev]
  change (if shadowed n (modSrc n (latch d) s) then _ else react n (sevOf n s) (logFault n (takenSev n (sevOf n s)
    (modSrc n (latch d) s)) _ _ _ (captureFirst n (takenSev n (sevOf n s) (modSrc n (latch d) s)) _ _ _ _))) = _
  rw [if_neg (by simp [hsh']), ht]
  rfl

/-- Where the severity taken is the source's, its reaction follows what was noted (R416, R419). -/
theorem enterFault_reacts (d : Nat) (hsh : shadowed n s = false) (ht : takenSev n (sevOf n s) s = sevOf n s) :
    enterFault n d s = takeReaction n (sevOf n s) (noted n (sevOf n s) d s) := by
  rw [enterFault_unshadowed d hsh, react, takenSev_noted, ht, if_pos rfl]

theorem withAbort_of_not_exercising (f : State → State) (h : exercising s = false) : withAbort f s = f s := by
  rw [withAbort, h]
  rfl

/-- A power-controller source enters fault outside a capacity exercise (R411, R572). -/
theorem pcFault_reacts (d : Nat) (hp : present n = true) (hf : (srcAt n s).frozen = false) (hin : inFault (srcAt n s) = false)
    (hx : exercising s = false) : pcFault n d s = enterFault n d (entryCode n s) := by
  have hx' : exercising (codeTaken n true false s) = false := by
    rw [exercising_congr ((codeTaken_sourcesOnly (.inr rfl)).changes.chg rfl), hx]
  have hin' : inFault (srcAt n (codeTaken n true false s)) = true := by
    rw [srcAt_codeTaken (.inr rfl), if_pos rfl]
    rfl
  unfold pcFault entryCode
  rw [hf, Bool.not_false, Bool.and_true]
  split
  · exact withAbort_of_not_exercising _ hx
  · rw [codeChange_eq _ _ _ hp hf, hin, hin', withAbort_of_not_exercising _ hx']
    rfl

/-! ### Belay (R431) -/

/-- Domains that are shed or switched off leave what belay has set. -/
structure ShedOnly (s t : State) : Prop where
  flt : ∃ trip, t.flt = { s.flt with analogTrip := trip }
  pfail : t.pwr.pfailAsserted = s.pwr.pfailAsserted
  huMode : t.pwr.huMode = s.pwr.huMode

theorem ShedOnly.trans {u : State} (h : ShedOnly s t) (k : ShedOnly t u) : ShedOnly s u where
  flt := by
    obtain ⟨_, h⟩ := h.flt
    obtain ⟨_, k⟩ := k.flt
    exact ⟨_, k.trans (by rw [h])⟩
  pfail := k.pfail.trans h.pfail
  huMode := k.huMode.trans h.huMode

theorem ShedOnly.refl (s : State) : ShedOnly s s := ⟨⟨_, rfl⟩, rfl, rfl⟩

theorem switchOff_shedOnly (d : Nat) (s : State) : ShedOnly s (switchOff d s) := by
  have hm (f : Dom → Dom) : ShedOnly s (modDom d f s) := ⟨⟨_, rfl⟩, rfl, rfl⟩
  unfold switchOff
  split
  · exact .refl s
  dsimp only
  split
  · exact (hm _).trans ⟨⟨_, rfl⟩, rfl, rfl⟩
  split
  · exact (hm _).trans ⟨⟨_, rfl⟩, rfl, rfl⟩
  split
  · exact (hm _).trans ⟨⟨_, rfl⟩, rfl, rfl⟩
  · exact hm _

theorem shedTogether_off_shedOnly (s : State) : ShedOnly s (shedTogether false s) := by
  have hstop : ShedOnly s (stopHostSeq s) := by
    unfold stopHostSeq
    split <;> exact ⟨⟨_, rfl⟩, rfl, rfl⟩
  have hfold (l : List Nat) (u : State) : ShedOnly u (l.foldl (fun s d => if false then shedDomain d s else switchOff d s) u) := by
    induction l generalizing u with
    | nil => exact .refl u
    | cons d l ih => exact (switchOff_shedOnly d u).trans (ih _)
  exact (hstop.trans (hfold _ _)).trans ⟨⟨_, rfl⟩, rfl, rfl⟩

theorem enterBelay_effects (cause : Nat) (h : s.flt.belay = false) : (enterBelay cause s).flt.belay = true ∧
    (enterBelay cause s).flt.belayCause = cause ∧ (enterBelay cause s).pwr.pfailAsserted = true ∧
    (enterBelay cause s).pwr.huMode = .closed := by
  have he (u : State) (hu : u.flt.belay = true ∧ u.flt.belayCause = cause ∧ u.pwr.pfailAsserted = true ∧ u.pwr.huMode = .closed) :
      (logEvent 4 cause 0 (shedTogether false u)).flt.belay = true ∧
      (logEvent 4 cause 0 (shedTogether false u)).flt.belayCause = cause ∧
      (logEvent 4 cause 0 (shedTogether false u)).pwr.pfailAsserted = true ∧
      (logEvent 4 cause 0 (shedTogether false u)).pwr.huMode = .closed := by
    obtain ⟨hb, hc, hp, hm⟩ := hu
    obtain ⟨⟨_, hflt⟩, hpf, hhu⟩ := shedTogether_off_shedOnly u
    have hl (v : State) : (logEvent 4 cause 0 v).flt = v.flt := rfl
    rw [hl, hflt]
    exact ⟨hb, hc, hpf.trans hp, hhu.trans hm⟩
  rw [enterBelay, if_neg (by simp [h])]
  exact he _ ⟨rfl, rfl, rfl, rfl⟩

/-! ### The reactions (R416 to R421) -/

theorem engineReact_linkUp (hl : linkUp s = true) : ∃ sel, engineReact n s = { s with sel := sel } := by
  unfold engineReact
  split
  · exact ⟨_, rfl⟩
  · rw [if_neg (by simp [hl]), if_neg (by simp [hl])]
    exact ⟨_, rfl⟩

/-- Of a source whose code the collector sees, the engine's side is its live conditions and the pairs (R412, R413). -/
theorem engineSide_seen (a c : Bool) (h : codeSeen n s = true) : ∃ live broken sel, engineSide n a c s =
    { s with flt := { s.flt with engineLive := live, engineBroken := broken }, sel := sel } := by
  unfold engineSide
  split
  · exact ⟨_, _, _, rfl⟩
  next hn =>
    have hl : linkUp s = true := by
      simp only [codeSeen, Bool.or_eq_true, Bool.and_eq_true, decide_eq_true_eq] at h hn
      exact (h.resolve_left fun h => hn (.inl h)).2
    split
    · obtain ⟨_, hr⟩ := engineReact_linkUp (n := n) hl
      exact ⟨_, _, _, hr⟩
    · obtain ⟨sel, hr⟩ := engineReact_linkUp (n := n) (s := { s with flt := { s.flt with
        engineBroken := if a = c then tins n a s.flt.engineBroken else tdel n s.flt.engineBroken,
        engineLive := if a || !c then insertSorted n s.flt.engineLive else dropFrom n s.flt.engineLive } }) hl
      unfold engineCode
      dsimp only
      split
      · exact ⟨_, _, sel, hr⟩
      · exact ⟨_, _, _, rfl⟩

theorem takeReaction_belay (h : s.flt.belay = false) : (takeReaction n 4 s).flt.belay = true ∧
    (takeReaction n 4 s).flt.belayCause = n ∧ (takeReaction n 4 s).pwr.pfailAsserted = true ∧
    (takeReaction n 4 s).pwr.huMode = .closed := by
  rw [takeReaction, if_pos rfl]
  exact enterBelay_effects n h

theorem takeReaction_belay_vlt (s : State) : (takeReaction n 4 s).vlt = s.vlt := by
  rw [takeReaction, if_pos rfl]
  exact (enterBelay_changes n (m' := 0x43d2217) rfl (.refl _ s)).vlt rfl

theorem confirmOutputs_vlt (s : State) : (confirmOutputs s).vlt = { s.vlt with confirming := true } := by
  rw [confirmOutputs]
  exact (endExercise_changes 1 (m' := 0x10000) rfl (.refl _ _)).vlt rfl

/-- In ARMED outside every reset a source at S3 confirms a vault with cause 4 (R147, R416). -/
theorem takeReaction_confirm (hd : inDrainStates s = false) (hb : s.flt.belay = false) (hc : s.vlt.confirming = false)
    (hst : s.vlt.state = .armed) (hkind : s.warm.kind = .none) (hconf : s.warm.confirmed = none) :
    takeReaction n 3 s = confirmOutputs (recordConfirm 4 n s) := by
  have halone : engineAlone s = false := by rw [engineAlone, hst, hconf]; rfl
  have hreset : inArmedReset s = false := by simp [inArmedReset, hkind]
  have hreset' : inArmedReset (confirmOutputs (recordConfirm 4 n s)) = false := by
    rw [inArmedReset, (confirmOutputs_changes (m' := 0x92020) rfl (.refl _ _)).warm rfl]
    exact hreset
  have harm : isArmed (confirmOutputs (recordConfirm 4 n s)) = true := by
    rw [isArmed, confirmOutputs_vlt, recordConfirm]
    simp [hst]
  have hdb : (inDrainStates s && beyondRecovery n) = false := by simp [hd]
  have hdr : (inDrainStates s && retiresChannel n) = false := by simp [hd]
  rw [takeReaction, if_neg (by decide), hdb, hdr, if_neg (by decide), if_neg (by decide), if_pos rfl, confirm, hb, hc, halone, hst]
  simp [hreset, hreset', harm]

theorem unitOf_congr (h : t.drf = s.drf) (n : Nat) : unitOf n t = unitOf n s := by rw [unitOf, h, unitOf]

/-- The first reaction of a source at S2: its unit is in reset and its shadow active. -/
theorem unitReaction_effects (h : s.flt.shadows.contains n = false) : unitOf n s ∈ (unitReaction n s).flt.resets ∧
    n ∈ (unitReaction n s).flt.shadows ∧ (unitReaction n s).vlt.confirming = s.vlt.confirming ∧
    (unitReaction n s).vlt.state = s.vlt.state ∧ (unitReaction n s).flt.belay = s.flt.belay ∧ (unitReaction n s).dram = s.dram := by
  have hb (v : Nat) (u : State) (hshadow : n ∈ u.flt.shadows) : v ∈ (beginUnitReset v u).flt.resets ∧
      n ∈ (beginUnitReset v u).flt.shadows ∧ (beginUnitReset v u).vlt.confirming = u.vlt.confirming ∧
      (beginUnitReset v u).vlt.state = u.vlt.state ∧ (beginUnitReset v u).flt.belay = u.flt.belay ∧
      (beginUnitReset v u).dram = u.dram := by
    obtain ⟨⟨_, _, hf⟩, hs, hc⟩ := beginUnitReset_engineOnly v u
    rw [hf]
    exact ⟨mem_addTo .., hshadow, hc, hs, rfl, (beginUnitReset_changes v (m' := 0xce0de1fd) rfl (.refl _ u)).dram rfl⟩
  unfold unitReaction
  extract_lets a
  have ha : a.flt.shadows.contains n = false := h
  rw [if_neg (by rw [ha]; decide), ← unitOf_congr (s := s) (t := a) rfl]
  exact hb _ _ (mem_addTo ..)

/-- A source at S2 resets its unit and starts its shadow (R420, R421). -/
theorem takeReaction_unit (hd : inDrainStates s = false) (hb : s.flt.belay = false) : takeReaction n 2 s = unitReaction n s := by
  have hdb : (inDrainStates s && beyondRecovery n) = false := by simp [hd]
  have hdr : (inDrainStates s && retiresChannel n) = false := by simp [hd]
  rw [takeReaction, if_neg (by decide), hdb, hdr, if_neg (by decide), if_neg (by decide), if_neg (by decide), hb]
  rfl

end Reactions

/-- Settles O32. -/
theorem severityDecidesReaction : Obligations.SeverityDecidesReaction := by
  intro s n d hk hp hseen hf hin hsh hs hb hx hd
  obtain ⟨live, broken, sel, hside⟩ := engineSide_seen (s := s) (n := n) true false hseen
  let u₀ : State := { s with flt := { s.flt with engineLive := live, engineBroken := broken }, sel := sel }
  have hcode := entryCode_sourcesOnly n u₀
  let u : State := entryCode n u₀
  have hsh' : shadowed n u = false := (hcode.shadowed_eq n).trans hsh
  have hsev : sevOf n u = sevOf n s := hcode.sevOf_eq n
  have hu : SourcesOnly u₀ (noted n (sevOf n s) d u) := hcode.trans (noted_sourcesOnly ..)
  have hd' : inDrainStates (noted n (sevOf n s) d u) = false := hu.inDrainStates_eq.trans hd
  have hb' : (noted n (sevOf n s) d u).flt.belay = false := by
    obtain ⟨_, _, _, _, h⟩ := hu.flt
    rw [h]
    exact hb
  have hexec : exec (.sourceEntersFault n d) s = .next (channelReports n (enterFault n d u)) := by
    refine (execSourceEntersFault_seen d hk hp hseen).trans ?_
    rw [hside, pcFault_reacts (s := u₀) d hp hf hin hx]
  have hreact (ht : takenSev n (sevOf n s) u = sevOf n s) : enterFault n d u = takeReaction n (sevOf n s) (noted n (sevOf n s) d u) := by
    have h := enterFault_reacts (s := u) d hsh' (by rw [hsev, ht])
    rwa [hsev] at h
  refine ⟨fun h4 => ?_, fun h3 hc hst hkind hconf => ?_, fun h2 hesc hshd => ?_⟩
  · rw [h4] at hreact hd' hb'
    have ht := takeReaction_belay (n := n) hb'
    rw [hreact rfl, channelReports_outside ((inDrainStates_congr (takeReaction_belay_vlt _)).trans hd')] at hexec
    exact ⟨_, hexec, ht⟩
  · rw [h3] at hreact hd' hb' hu
    have hv : (noted n 3 d u).vlt = s.vlt := hu.changes.vlt rfl
    have hw : (noted n 3 d u).warm = s.warm := hu.changes.warm rfl
    have ht := takeReaction_confirm (n := n) hd' hb' (by rw [hv, hc]) (by rw [hv, hst]) (by rw [hw, hkind]) (by rw [hw, hconf])
    have hcf := confirmOutputs_changes (m' := 0x92020) rfl (.refl _ (recordConfirm 4 n (noted n 3 d u)))
    have hrc := recordConfirm_changes 4 n (m' := 0xc8020) rfl (.refl _ (noted n 3 d u))
    have hvlt := confirmOutputs_vlt (recordConfirm 4 n (noted n 3 d u))
    have hflt : (confirmOutputs (recordConfirm 4 n (noted n 3 d u))).flt.belay = false := by
      rw [hcf.flt rfl]
      exact hb'
    have hst' : (confirmOutputs (recordConfirm 4 n (noted n 3 d u))).vlt.state = .armed := by
      rw [hvlt]
      exact (congrArg VltSt.state hv).trans hst
    rw [hreact (by rw [takenSev, if_neg (by simp)]), ht, channelReports_outside (by simp [inDrainStates, hst'])] at hexec
    refine ⟨_, hexec, ?_, ?_, ?_, ?_, hflt, ?_, ?_⟩
    · rw [hvlt]
    · rw [hvlt]
      rfl
    · rw [hvlt]
      rfl
    · rw [hvlt]
      exact congrArg TbsSt.now (hu.changes.tbs rfl)
    · rw [hcf.cache rfl, hrc.cache rfl, hu.changes.cache rfl]
    · rw [hcf.dram rfl, hrc.dram rfl, hu.changes.dram rfl]
  · rw [h2] at hreact hd' hb' hu
    obtain ⟨a, c, o, hat⟩ := srcAt_entryCode_self n u₀
    have hesc' : escalates n u = false := by
      rw [escalates_congr (t := u) (s := s) (hcode.changes.drf rfl) (hcode.changes.tbs rfl) (by rw [hat]; rfl), hesc]
    have hshadows : (noted n 2 d u).flt.shadows.contains n = false := by
      obtain ⟨_, _, _, _, h⟩ := hu.flt
      rw [h]
      exact hshd
    obtain ⟨hreset, hshadow, hconf, hstate, hbelay, hdram⟩ := unitReaction_effects hshadows
    have hdr : inDrainStates (unitReaction n (noted n 2 d u)) = false := by
      rw [inDrainStates, hstate, ← inDrainStates, hd']
    rw [hreact (by rw [takenSev, hesc']; rfl), takeReaction_unit hd' hb', channelReports_outside hdr] at hexec
    refine ⟨_, hexec, ?_, hshadow, ?_, hbelay.trans hb', ?_⟩
    · rw [← unitOf_congr (s := s) (t := noted n 2 d u) (hu.changes.drf rfl)]
      exact hreset
    · exact hconf.trans (congrArg VltSt.confirming (hu.changes.vlt rfl))
    · exact hdram.trans (hu.changes.dram rfl)

section Refutations

/-- A state, which is not sound, whose table lists source 229 twice, in fault the second time, with input 0 frozen. -/
def listedTwice : State :=
  { State.reset with flt := { State.reset.flt with frozen := [(0, .stuck)], sources := [(229, {}), (229, { t := true })] } }

/-- The newest log entry's code after a release of input 0. -/
def codeAfterRelease (s : State) : Option Nat :=
  match exec (.inputRelease 0 0) s with
  | .next t => (t.log.ring.head?).map LogEntry.code
  | _ => none

theorem codeAfterRelease_listedTwice : codeAfterRelease listedTwice = some 1 := by decide +kernel

/-- A state with the engine up in which speculation is blocked. -/
def specBlockedUp : State :=
  { State.reset with
    pwr := { State.reset.pwr with keeper := true }, warm := { State.reset.warm with engineUp := true },
    vlt := { State.reset.vlt with specBlocked := true } }

/-- SPEC_BLOCKED after a unit reset of DDR5 channel 4. -/
def blockedAfterReset (s : State) : Option Bool :=
  match exec (.stewardUnitReset (.ddr 4)) s with
  | .next t => some t.vlt.specBlocked
  | _ => none

theorem blockedAfterReset_specBlockedUp : blockedAfterReset specBlockedUp = some false := by decide +kernel

end Refutations

/-- Refutes O31: the clause of INPUT_RELEASE is about every state, sound or not. Where the table lists source 229 twice, the
release takes the first record back to its default, the table reads the second one, which is in fault, and the newest log entry
is of that fault (code 1), not of the release (code 9). -/
theorem not_brokenCodesPairsAndInputs : ¬ Obligations.BrokenCodesPairsAndInputs := by
  rintro ⟨-, -, -, -, hrelease, -⟩
  obtain ⟨t, e, ht, -, he, hcode⟩ := hrelease listedTwice 0 0 .stuck (by decide) rfl
  have h := codeAfterRelease_listedTwice
  rw [codeAfterRelease, ht] at h
  simp [he, hcode] at h

/-- Refutes O33: a unit of DDR5 channel 4 has the unit code of the vault sequencer, 8, and its reset clears SPEC_BLOCKED, though the unit
is another than the vault sequencer and no epoch is open. -/
theorem not_unitResetShadowsAndEnds : ¬ Obligations.UnitResetShadowsAndEnds := by
  rintro ⟨⟨hreset, -⟩, -⟩
  obtain ⟨t, e, ht, -, -, -, -, -, -, -, hvlt⟩ := hreset specBlockedUp (.ddr 4) rfl rfl rfl rfl
  have h := blockedAfterReset_specBlockedUp
  rw [blockedAfterReset, ht] at h
  have hblocked : t.vlt.specBlocked = true := by rw [hvlt rfl (by decide)]; rfl
  simp [hblocked] at h

end Sys2Proof.Machine

/-! PROOFS. Erases and records of embedded flash where EFL_ECC is quiet, and the background commands (R317 to R320, R475 to R488). -/

namespace Sys2Proof.Machine

section Flash
variable {s t u : State}

/-! ### Frames -/

theorem Covers.clear {m k i : Nat} (h : Covers m k) (hm : m.testBit i = false) : k.testBit i = false := by
  cases hk : k.testBit i
  · rfl
  · rw [h.bit hk] at hm
    cases hm

/-- A frame stands with more parts named. -/
theorem Changes.mono {m k : Nat} (h : Changes k s t) (hk : Covers m k) : Changes m s t :=
  ⟨fun x => h.cache (hk.clear x), fun x => h.dram (hk.clear x), fun x => h.log (hk.clear x), fun x => h.nand (hk.clear x),
   fun x => h.stg (hk.clear x), fun x => h.vlt (hk.clear x), fun x => h.drain (hk.clear x), fun x => h.restore (hk.clear x),
   fun x => h.rail (hk.clear x), fun x => h.vcore (hk.clear x), fun x => h.host (hk.clear x), fun x => h.mbx (hk.clear x),
   fun x => h.vin (hk.clear x), fun x => h.pwr (hk.clear x), fun x => h.cell (hk.clear x), fun x => h.gau (hk.clear x),
   fun x => h.chg (hk.clear x), fun x => h.thm (hk.clear x), fun x => h.flt (hk.clear x), fun x => h.sel (hk.clear x),
   fun x => h.warm (hk.clear x), fun x => h.drf (hk.clear x), fun x => h.efl (hk.clear x), fun x => h.lcs (hk.clear x),
   fun x => h.tbs (hk.clear x), fun x => h.mon (hk.clear x), fun x => h.hdlE (hk.clear x), fun x => h.hdlP (hk.clear x),
   fun x => h.port (hk.clear x), fun x => h.smb (hk.clear x), fun x => h.sent (hk.clear x), fun x => h.free (hk.clear x),
   fun x => h.pending (hk.clear x), fun x => h.tap (hk.clear x), h.sound⟩

/-! ### Erases within one step (R486, R487) -/

/-- What an erase or a record changes where EFL_ECC (232) takes no reaction: the flash, the sources, the first error, the log and a free
value. -/
structure FlashOnly (s t : State) : Prop where
  changes : Changes 0x80440804 s t
  mbx : t.mbx = s.mbx
  quiet : Quiet 232 t

theorem FlashOnly.refl (h : Quiet 232 s) : FlashOnly s s := ⟨.refl _ s, rfl, h⟩

theorem FlashOnly.trans (h : FlashOnly s t) (k : FlashOnly t u) : FlashOnly s u :=
  ⟨h.changes.trans k.changes, k.mbx.trans h.mbx, k.quiet⟩

theorem Quiet.congr {n : Nat} (h : Quiet n s) (hf : t.flt = s.flt) (hd : t.drf = s.drf) (hv : t.vlt = s.vlt) : Quiet n t := by
  rw [Quiet, sevOf_congr hd (by rw [srcAt_congr (congrArg FltSt.sources hf)]), inDrainStates_congr hv]
  exact h

/-- A step that stays quiet is followed by others that do. -/
theorem FlashOnly.foldl {α : Type} {f : State → α → State} {l : List α} (hf : ∀ u, ∀ a ∈ l, Quiet 232 u → FlashOnly u (f u a))
    (h : Quiet 232 s) : FlashOnly s (l.foldl f s) := by
  induction l generalizing s with
  | nil => exact .refl h
  | cons a l ih =>
    have ha := hf s a List.mem_cons_self h
    exact ha.trans (ih (fun u b hb => hf u b (List.mem_cons_of_mem a hb)) ha.quiet)

theorem programWord_flashOnly (w d : Nat) (h : Quiet 232 s) : FlashOnly s (programWord w d s) := by
  have hc := programWord_changes w d (m' := 0x400000) rfl (.refl _ s)
  exact ⟨programWord_changes w d (by rfl) (.refl _ s), hc.mbx rfl, h.congr (hc.flt rfl) (hc.drf rfl) (hc.vlt rfl)⟩

theorem putRecord_flashOnly (half type block count : Nat) (h : Quiet 232 s) : FlashOnly s (putRecord half type block count s) := by
  unfold putRecord
  extract_lets w
  have hw := programWord_flashOnly w (pairWord (type * 2 ^ 24 + block)) h
  exact hw.trans (programWord_flashOnly (w + 1) (pairWord count) hw.quiet)

theorem nextFree_flashOnly (h : Quiet 232 s) : FlashOnly s (nextFree s) := ⟨nextFree_changes (by rfl) (.refl _ s), rfl, h⟩

/-- The blocks beside which the model keeps what the mailbox reads (R312, R313). -/
def HoldsMailbox (b : Nat) : Prop := b = 304 ∨ b = 328

theorem loseDatum_mbx {b : Nat} (hb : ¬ HoldsMailbox b) (s : State) : (loseDatum b s).mbx = s.mbx := by
  unfold HoldsMailbox at hb
  unfold loseDatum
  split
  · rfl
  · omega
  · rfl
  · rfl
  · omega
  · rfl

theorem wipeBlock_flashOnly {b : Nat} (hb : ¬ HoldsMailbox b) (h : Quiet 232 s) : FlashOnly s (wipeBlock b s) := by
  have hc := wipeBlock_changes b (m' := 0x400800) rfl (.refl _ s)
  exact ⟨wipeBlock_changes b (by rfl) (.refl _ s), loseDatum_mbx hb s, h.congr (hc.flt rfl) (hc.drf rfl) (hc.vlt rfl)⟩

/-- The registers of flash that are no words. -/
theorem efl_flashOnly {x : EflSt} (h : Quiet 232 s) (hw : x.words = s.efl.words) : FlashOnly s { s with efl := x } :=
  ⟨.put_efl rfl (fun k => hw ▸ k) (.refl _ s), rfl, h⟩

theorem wearOut_flashOnly (b : Nat) (h : Quiet 232 s) : FlashOnly s (wearOut b s) := by
  have hw := efl_flashOnly (x := { s.efl with worn := addTo b s.efl.worn }) h rfl
  have hp := pcFault_quiet (n := 232) 0 hw.quiet
  exact hw.trans ⟨hp.changes.mono (by rfl), hp.changes.mbx rfl, hp.quiet hw.quiet⟩

theorem eraseTries_flashOnly {b : Nat} (half n : Nat) (hb : ¬ HoldsMailbox b) (h : Quiet 232 s) :
    FlashOnly s (eraseTries half b n s) := by
  induction n generalizing s with
  | zero => exact wearOut_flashOnly b h
  | succ n ih =>
    rw [eraseTries]
    have hp := putRecord_flashOnly half 0x49 b (eraseCount b s) h
    have hx := hp.trans (wipeBlock_flashOnly hb hp.quiet)
    have hr := hx.trans (putRecord_flashOnly half 0x43 b (Nat.min (eraseCount b s + 1) maxErases) hx.quiet)
    have hy := hr.trans (nextFree_flashOnly hr.quiet)
    have hu (l : List Nat) (v : State) (hv : FlashOnly s v) : FlashOnly s { v with efl := { v.efl with undetermined := l } } :=
      hv.trans (efl_flashOnly hv.quiet rfl)
    dsimp only
    split
    · exact (hu _ _ hy).trans (ih (hu _ _ hy).quiet)
    · exact hy

theorem eraseIn_flashOnly {b : Nat} (half : Nat) (hb : ¬ HoldsMailbox b) (h : Quiet 232 s) : FlashOnly s (eraseIn half s b) := by
  unfold eraseIn
  split
  · exact efl_flashOnly h rfl
  · exact eraseTries_flashOnly half 3 hb h

theorem journalRoom_flashOnly (h : Quiet 232 s) : FlashOnly s (journalRoom s) := by
  unfold journalRoom
  extract_lets old new counts x
  split
  · exact .refl h
  · have hx : FlashOnly s x := .foldl (fun u e _ hu => putRecord_flashOnly _ _ _ _ hu) h
    refine hx.trans (.foldl (fun u b hmem hu => eraseIn_flashOnly new ?_ hu) hx.quiet)
    obtain ⟨i, hi, rfl⟩ := List.mem_map.mp hmem
    have := List.mem_range.mp hi
    have hold : old ≤ 1 := journalHalf_le_one s
    unfold HoldsMailbox
    omega

theorem eraseNow_flashOnly {b : Nat} (hb : ¬ HoldsMailbox b) (h : Quiet 232 s) : FlashOnly s (eraseNow s b) := by
  have hr := journalRoom_flashOnly h
  exact hr.trans (eraseIn_flashOnly _ hb hr.quiet)

/-! ### Records with a commit word (R479 to R481) -/

theorem writeEntry_flashOnly (kind k i : Nat) (l : List Nat) (h : Quiet 232 s) : FlashOnly s (writeEntry kind k i l s) := by
  refine .foldl (fun u e _ hu => ?_) h
  split
  · exact .refl hu
  · exact programWord_flashOnly _ _ hu

theorem commitEntry_flashOnly {kind : Nat} (payload : List Nat) (hk : kind ≤ 4) (h : Quiet 232 s) :
    FlashOnly s (commitEntry kind payload s) := by
  have hb (k : Nat) : ¬ HoldsMailbox (recordBlock kind (1 - k)) := by
    unfold HoldsMailbox recordBlock
    omega
  unfold commitEntry
  extract_lets newest seq words
  split
  · exact .refl h
  · split
    split
    · exact writeEntry_flashOnly _ _ _ _ h
    · exact (eraseNow_flashOnly (hb _) h).trans (writeEntry_flashOnly _ _ _ _ (eraseNow_flashOnly (hb _) h).quiet)

theorem zeroOldKeys_flashOnly (h : Quiet 232 s) : FlashOnly s (zeroOldKeys s) :=
  .foldl (fun _ _ _ hu => .foldl (fun _ _ _ hv => programWord_flashOnly _ _ hv) hu) h

end Flash

end Sys2Proof.Machine

/-! PROOFS. The background commands of the mailbox: Sanitize, Seal Image, Secure Erase and their ends (R317 to R320). -/

namespace Sys2Proof.Machine

section Background
variable {s t : State}

/-! ### The emptied cache (R317 to R320) -/

theorem emptyCache_changes' (s : State) : Changes 0xce0c0cfb s (emptyCache s) := emptyCache_changes (.self _) (.refl _ s)

theorem emptyCache_dram (h : emptying s = true) : (emptyCache s).dram = s.dram := by
  rw [emptyCache_eq h, (reefFlags_changes' _).dram rfl, (checkComplete_changes' _).dram rfl]
  rfl

theorem emptyCache_epochs (h : emptying s = true) : (emptyCache s).stg.epochs = s.stg.epochs := by
  obtain ⟨_, _, _, hg⟩ := reefFlags_stg (checkComplete (emptyPoison (zeroMap (requeueFetches s))))
  rw [emptyCache_eq h, hg, (checkComplete_changes' _).stg rfl]
  rfl

theorem emptyCache_sources (h : emptying s = true) : (emptyCache s).flt.sources = s.flt.sources := by
  obtain ⟨_, _, hf⟩ := (reefFlags_serving (checkComplete (emptyPoison (zeroMap (requeueFetches s))))).flt
  rw [emptyCache_eq h, hf, (checkComplete_changes' _).flt rfl]
  rfl

/-! ### The flash window (R392, R401, R475) -/

/-- Two states whose sensors, draft and engine readings agree. -/
structure SameZones (s t : State) : Prop where
  thm : t.thm = s.thm
  drf : t.drf = s.drf
  readings : engineReadings t = engineReadings s

theorem SameZones.thermIn_eq (h : SameZones s t) (k : Nat) : thermIn k t = thermIn k s := by rw [thermIn, h.drf, thermIn]

theorem SameZones.zoneSensors_eq (h : SameZones s t) (z : Nat) : zoneSensors z t = zoneSensors z s := by
  have hz (n : Nat) : sensorZone n t = sensorZone n s := by rw [sensorZone, h.thermIn_eq, sensorZone]
  exact List.filter_congr fun n _ => by rw [hz]

theorem SameZones.sensorAt_eq (h : SameZones s t) (n : Nat) : sensorAt n t = sensorAt n s := by rw [sensorAt, h.thm, sensorAt]

theorem SameZones.sensorCounts_eq (h : SameZones s t) (n : Nat) : sensorCounts n t = sensorCounts n s := by
  rw [sensorCounts, h.readings, sensorCounts]

theorem SameZones.substMargin_eq (h : SameZones s t) : substMargin t = substMargin s := by
  rw [substMargin, setting, h.drf, substMargin, setting]

theorem SameZones.zoneReadings_eq (h : SameZones s t) (z : Nat) : zoneReadings z t = zoneReadings z s := by
  simp only [zoneReadings, sensorValid, h.zoneSensors_eq, h.sensorAt_eq, h.sensorCounts_eq]

theorem SameZones.nearSubstitute_eq (h : SameZones s t) (n : Nat) : nearSubstitute n t = nearSubstitute n s := by
  have hn : neighbours n t = neighbours n s := by rw [neighbours, h.thermIn_eq, neighbours]
  have hz : sensorZone n t = sensorZone n s := by rw [sensorZone, h.thermIn_eq, sensorZone]
  simp only [nearSubstitute, hn, hz, sensorValid, h.sensorAt_eq, h.sensorCounts_eq, h.substMargin_eq, h.zoneReadings_eq]

theorem SameZones.zoneValues_eq (h : SameZones s t) (z : Nat) : zoneValues z t = zoneValues z s := by
  simp only [zoneValues, h.zoneReadings_eq, h.nearSubstitute_eq, h.zoneSensors_eq, h.sensorAt_eq, h.sensorCounts_eq, h.readings]

theorem SameZones.nearMax_eq (h : SameZones s t) (z : Nat) : nearMax z t = nearMax z s := by
  simp only [nearMax, zoneAt, h.zoneValues_eq, h.readings, h.thm]

theorem SameZones.substitute_eq (h : SameZones s t) (n : Nat) : substitute n t = substitute n s := by
  simp only [substitute, h.nearSubstitute_eq, h.nearMax_eq, h.substMargin_eq]

theorem SameZones.farValues_eq (h : SameZones s t) (z : Nat) : farValues z t = farValues z s := by
  simp only [farValues, h.zoneSensors_eq, h.sensorAt_eq, h.sensorCounts_eq, h.nearSubstitute_eq, h.substitute_eq, h.readings]

theorem SameZones.zoneMax_eq (h : SameZones s t) (z : Nat) : zoneMax z t = zoneMax z s := by
  have ha : zoneAssigned z t = zoneAssigned z s := by rw [zoneAssigned, h.zoneSensors_eq, zoneAssigned]
  have hk : zoneAt 0 t = zoneAt 0 s := by rw [zoneAt, h.thm, zoneAt]
  rw [zoneMax, ha, hk, h.zoneValues_eq, h.farValues_eq, zoneMax]

theorem SameZones.eflReady_eq (h : SameZones s t) (he : t.efl = s.efl) : eflReady t = eflReady s := by
  have hw : tempWindow t = tempWindow s := by rw [tempWindow, zoneMin, h.zoneReadings_eq, h.zoneMax_eq, tempWindow, zoneMin]
  rw [eflReady, eflOpen, eflBusy, hw, h.thm, he, eflReady, eflOpen, eflBusy]

theorem newestSeq_congr (h : t.efl = s.efl) (kind : Nat) : newestSeq kind t = newestSeq kind s := by
  simp only [newestSeq, newestEntry, validEntries, readHalves, entryAt, blockReads, eflWord, h]

theorem SameZones.keyRoom_eq (h : SameZones s t) (hl : t.lcs = s.lcs) (he : t.efl = s.efl) : keyRoom t = keyRoom s := by
  rw [keyRoom, seqLeft, newestSeq_congr he, h.eflReady_eq he, hl, keyRoom, seqLeft]

/-! ### A new key (R319, R320) -/

theorem newKey_of_mfg (h : s.lcs.st = .mfg) :
    newKey s = ({ s with lcs := { s.lcs with keyId := s.lcs.keyId + 1, keyPresent := true } }, true) := by
  rw [newKey, if_pos h]

/-- A new key record is written, and its number taken, or nothing but flash changes. -/
theorem newKey_flashOnly (hm : s.lcs.st ≠ .mfg) (h : Quiet 232 s) :
    ((newKey s).2 = true ∧ (∃ x, (newKey s).1.lcs = { s.lcs with keyId := s.lcs.keyId + 1, keySeq := x }) ∨
      (newKey s).2 = false ∧ (newKey s).1.lcs = s.lcs) ∧
    (newKey s).1.cache = s.cache ∧ (newKey s).1.mbx = s.mbx ∧ (newKey s).1.stg = s.stg := by
  have hx := commitEntry_flashOnly (kind := 4) (keyWords s.lcs.engineId (s.lcs.keyId + 1) (s.lcs.keySeq + 1)) (by decide) h
  rw [newKey, if_neg hm]
  dsimp only
  split
  · have hz (l : LcsSt) := zeroOldKeys_flashOnly
      (s := { commitEntry 4 (keyWords s.lcs.engineId (s.lcs.keyId + 1) (s.lcs.keySeq + 1)) s with lcs := l }) hx.quiet
    refine ⟨.inl ⟨rfl, s.lcs.keySeq + 1, ?_⟩, ?_, ?_, ?_⟩
    · rw [(hz _).changes.lcs rfl, hx.changes.lcs rfl]
    · exact ((hz _).changes.cache rfl).trans (hx.changes.cache rfl)
    · exact (hz _).mbx.trans hx.mbx
    · exact ((hz _).changes.stg rfl).trans (hx.changes.stg rfl)
  · exact ⟨.inr ⟨rfl, hx.changes.lcs rfl⟩, hx.changes.cache rfl, hx.mbx, hx.changes.stg rfl⟩

/-! ### Secure Erase (R319) -/

/-- The state in which Secure Erase has emptied the cache. -/
def erasing (s : State) : State := emptyCache (startBg .secureErase .draining s)

theorem erasing_cache (s : State) : (erasing s).cache.map = [] ∧ (erasing s).cache.loc = [] ∧ (erasing s).cache.poison = [] := by
  rw [erasing, emptyCache_cache rfl]
  exact ⟨rfl, rfl, rfl⟩

theorem erasing_background (s : State) : (erasing s).mbx.bg = some .secureErase ∧ (erasing s).mbx.phase = .draining := by
  obtain ⟨hbg, hph, -⟩ := emptyCache_keepsBackground (s := startBg .secureErase .draining s) rfl
  exact ⟨hbg, hph⟩

theorem erasing_changes (s : State) : Changes 0xce0c0cfb s (erasing s) :=
  emptyCache_changes (by rfl) (startBg_changes .secureErase .draining (by rfl) (.refl _ s))

theorem erasing_zones (s : State) : SameZones s (erasing s) := by
  have hc := erasing_changes s
  have hl : linkUp (erasing s) = linkUp s := by
    rw [erasing, emptyCache_eq rfl, (reefFlags_serving _).linkUp, (checkComplete_serving _).linkUp]
    rfl
  exact ⟨hc.thm rfl, hc.drf rfl, by rw [engineReadings, hl, hc.pwr rfl, engineReadings]⟩

theorem erasing_quiet (h : sevOf 232 s ≤ 1) : Quiet 232 (erasing s) := by
  have hsrc : (erasing s).flt.sources = s.flt.sources := by
    rw [erasing, emptyCache_sources rfl]
    rfl
  exact ⟨by rwa [sevOf_congr ((erasing_changes s).drf rfl) (by rw [srcAt_congr hsrc])], .inr (by decide)⟩

theorem keyRoom_erasing (s : State) : keyRoom (erasing s) = keyRoom s :=
  (erasing_zones s).keyRoom_eq ((erasing_changes s).lcs rfl) ((erasing_changes s).efl rfl)

/-- The new key of Secure Erase, and whether it was made: not without noise or room for its record. -/
def eraseKey (noise : Bool) (s : State) : State × Bool := if noise && keyRoom s then newKey (erasing s) else (erasing s, false)

theorem execSecureErase_eq (noise : Bool) (htrain : s.host.training = true) (hup : s.warm.engineUp = true)
    (hbg : mayStartBg s = true) : execSecureErase noise s = answer .backgroundStarted []
      (if (eraseKey noise s).2 then forgetEpochs (eraseKey noise s).1
       else finishBackground .aborted (if noise then (eraseKey noise s).1 else engineFault 16 0 (erasing s))) := by
  rw [execSecureErase, whenOpen_of_open htrain hup, if_pos hbg]
  dsimp only
  rw [← erasing, keyRoom_erasing, ← eraseKey]
  split <;> rfl

theorem eraseKey_of_room (h : keyRoom s = true) : eraseKey true s = newKey (erasing s) := by
  rw [eraseKey, h]
  rfl

theorem eraseKey_of_no_room {noise : Bool} (h : (noise && keyRoom s) = false) : eraseKey noise s = (erasing s, false) := by
  rw [eraseKey, h]
  rfl

/-- An aborted command keeps what it had emptied, and its fault. -/
theorem finishBackground_aborted (hb : s.mbx.bg = some .secureErase) : (finishBackground .aborted s).mbx.bg = some .secureErase ∧
    (finishBackground .aborted s).mbx.phase = .finished .aborted := by
  rw [finishBackground, hb]
  exact ⟨rfl, rfl⟩

theorem execSecureErase_made {noise : Bool} {u : State} (htrain : s.host.training = true) (hup : s.warm.engineUp = true)
    (hbg : mayStartBg s = true) (hk : eraseKey noise s = (u, true)) :
    execSecureErase noise s = .next (msix 0 (emit (.answer .backgroundStarted []) (forgetEpochs u))) := by
  rw [execSecureErase_eq noise htrain hup hbg, hk, answer, if_pos rfl]

theorem execSecureErase_aborted {noise : Bool} {u : State} (htrain : s.host.training = true) (hup : s.warm.engineUp = true)
    (hbg : mayStartBg s = true) (hk : eraseKey noise s = (u, false)) :
    execSecureErase noise s = .next (msix 0 (emit (.answer .backgroundStarted [])
      (finishBackground .aborted (if noise then u else engineFault 16 0 (erasing s))))) := by
  rw [execSecureErase_eq noise htrain hup hbg, hk, answer, if_neg Bool.false_ne_true]

/-- In MFG the new key takes no record, and Secure Erase goes on. -/
theorem secureErase_mfg (htrain : s.host.training = true) (hup : s.warm.engineUp = true) (hbg : mayStartBg s = true)
    (hmfg : s.lcs.st = .mfg) : ∃ t, execSecureErase true s = .next t ∧ t.mbx.bg = some .secureErase ∧
      t.mbx.phase = .draining ∧ t.cache.map = [] ∧ t.stg.epochs = [] ∧ t.cache.loc = [] ∧ t.cache.poison = [] ∧
      t.lcs.keyId = s.lcs.keyId + 1 ∧ t.lcs.keyPresent = true ∧ t.dram = s.dram := by
  have hlcs : (erasing s).lcs = s.lcs := (erasing_changes s).lcs rfl
  obtain ⟨hmap, hloc, hpoison⟩ := erasing_cache s
  obtain ⟨hb, hph⟩ := erasing_background s
  have hdram : (erasing s).dram = s.dram := emptyCache_dram rfl
  have hkey := eraseKey_of_room (s := s) (by simp [keyRoom, hmfg])
  rw [newKey_of_mfg (by rw [hlcs, hmfg]), hlcs] at hkey
  generalize erasing s = e at *
  refine ⟨_, execSecureErase_made htrain hup hbg hkey, ?_⟩
  rw [msix_mbx, msix_cache, msix_stg, msix_dram, msix_lcs]
  exact ⟨hb, hph, hmap, rfl, hloc, hpoison, rfl, rfl, hdram⟩

/-- Where a record may be written, Secure Erase goes on with the new key or is aborted with the old one. -/
theorem secureErase_room (htrain : s.host.training = true) (hup : s.warm.engineUp = true) (hbg : mayStartBg s = true)
    (hroom : keyRoom s = true) (hsev : sevOf 232 s ≤ 1) : ∃ t, execSecureErase true s = .next t ∧
      t.mbx.bg = some .secureErase ∧ t.cache.map = [] ∧ t.cache.loc = [] ∧ t.cache.poison = [] ∧
      (t.mbx.phase = .draining ∧ t.lcs.keyId = s.lcs.keyId + 1 ∧ t.stg.epochs = [] ∨
       t.mbx.phase = .finished .aborted ∧ t.lcs = s.lcs) := by
  by_cases hmfg : s.lcs.st = .mfg
  · obtain ⟨t, hexec, hb, hph, hmap, hep, hloc, hpoison, hid, -, -⟩ := secureErase_mfg htrain hup hbg hmfg
    exact ⟨t, hexec, hb, hmap, hloc, hpoison, .inl ⟨hph, hid, hep⟩⟩
  have hlcs : (erasing s).lcs = s.lcs := (erasing_changes s).lcs rfl
  have hc := erasing_cache s
  have hb := erasing_background s
  obtain ⟨hkey, hcache, hmbx, -⟩ := newKey_flashOnly (s := erasing s) (by rwa [hlcs]) (erasing_quiet hsev)
  have herase := eraseKey_of_room hroom
  rw [← hcache] at hc
  rw [← hmbx] at hb
  rw [hlcs] at hkey
  generalize hk : newKey (erasing s) = k at herase hkey hc hb
  obtain ⟨u, made⟩ := k
  obtain ⟨hmap, hloc, hpoison⟩ := hc
  obtain ⟨hbg', hph⟩ := hb
  rcases hkey with ⟨rfl, x, hl⟩ | ⟨rfl, hl⟩
  · refine ⟨_, execSecureErase_made htrain hup hbg herase, ?_⟩
    rw [msix_mbx, msix_cache, msix_stg, msix_lcs]
    exact ⟨hbg', hmap, hloc, hpoison, .inl ⟨hph, congrArg LcsSt.keyId hl, rfl⟩⟩
  · obtain ⟨hb', hph'⟩ := finishBackground_aborted hbg'
    refine ⟨_, execSecureErase_aborted htrain hup hbg herase, ?_⟩
    rw [msix_mbx, msix_cache, msix_lcs, if_pos rfl]
    exact ⟨hb', hmap, hloc, hpoison, .inr ⟨hph', hl⟩⟩

/-- Without room for the record, Secure Erase is aborted with the old key. -/
theorem secureErase_no_room (htrain : s.host.training = true) (hup : s.warm.engineUp = true) (hbg : mayStartBg s = true)
    (hroom : keyRoom s = false) : ∃ t, execSecureErase true s = .next t ∧ t.mbx.bg = some .secureErase ∧
      t.mbx.phase = .finished .aborted ∧ t.cache.map = [] ∧ t.lcs = s.lcs := by
  have hlcs : (erasing s).lcs = s.lcs := (erasing_changes s).lcs rfl
  obtain ⟨hmap, -, -⟩ := erasing_cache s
  obtain ⟨hb, hph⟩ := finishBackground_aborted (erasing_background s).1
  have herase := eraseKey_of_no_room (s := s) (noise := true) (by simp [hroom])
  generalize erasing s = e at *
  refine ⟨_, execSecureErase_aborted htrain hup hbg herase, ?_⟩
  rw [msix_mbx, msix_cache, msix_lcs, if_pos rfl]
  exact ⟨hb, hph, hmap, hlcs⟩

/-- Without noise, Secure Erase is aborted with the old key, and source 16 is raised. -/
theorem secureErase_no_noise (htrain : s.host.training = true) (hup : s.warm.engineUp = true) (hbg : mayStartBg s = true) :
    ∃ t, execSecureErase false s = .next t ∧ t.mbx.bg = some .secureErase ∧
      t.mbx.phase = .finished .aborted ∧ t.cache.map = [] ∧ t.lcs = s.lcs ∧ 16 ∈ t.flt.engineLive := by
  have hc := engineFault_changes 16 0 (m' := 0x4c0c0020) rfl (.refl _ (erasing s))
  have hlcs : (engineFault 16 0 (erasing s)).lcs = s.lcs := (hc.lcs rfl).trans ((erasing_changes s).lcs rfl)
  have hmap : (engineFault 16 0 (erasing s)).cache.map = [] := (congrArg CacheSt.map (hc.cache rfl)).trans (erasing_cache s).1
  obtain ⟨hb, hph⟩ := finishBackground_aborted (s := engineFault 16 0 (erasing s)) (by
    rw [hc.mbx rfl]
    exact (erasing_background s).1)
  have hlive := mem_engineLive_engineFault (n := 16) (s := erasing s) 0 (by decide)
  have hexec := execSecureErase_aborted htrain hup hbg (eraseKey_of_no_room (s := s) (noise := false) rfl)
  rw [if_neg Bool.false_ne_true] at hexec
  generalize engineFault 16 0 (erasing s) = e at *
  refine ⟨_, hexec, ?_⟩
  rw [msix_mbx, msix_cache, msix_lcs, msix_flt]
  exact ⟨hb, hph, hmap, hlcs, hlive⟩

/-! ### The seal (R318, R319) -/

theorem modEpoch_kinds {f : Epoch → Epoch} (hf : ∀ e, (f e).kind = e.kind) (n : Nat) :
    (modEpoch n f s).stg.epochs.map Epoch.kind = s.stg.epochs.map Epoch.kind := by
  rw [modEpoch, List.map_map]
  exact List.map_congr_left fun e _ => (apply_ite _ _ _ _).trans (by simp [hf])

theorem closeEpoch_kinds (n : Nat) : (closeEpoch n s).stg.epochs.map Epoch.kind = s.stg.epochs.map Epoch.kind := by
  rw [closeEpoch, modEpoch_kinds]
  exact fun _ => rfl

theorem scheduleManifest_kinds :
    (scheduleManifest s).stg.epochs.map Epoch.kind = (openNew .manifest s).stg.epochs.map Epoch.kind := by
  unfold scheduleManifest
  dsimp only
  split
  · rw [closeEpoch_kinds, modEpoch_kinds]
    exact fun _ => rfl
  · rfl

theorem openNew_kinds_of_none (kind : KnotKind) (he : s.stg.epochs = []) (hn : s.stg.nextEpoch < 2 ^ 48 - 2) :
    (openNew kind s).stg.epochs.map Epoch.kind = [kind] := by
  rw [openNew, if_neg (by simp [openEpoch, unresolved, he]), if_neg (by omega), List.map_append, he]
  rfl

/-- The empty manifest epoch that a seal opens. -/
theorem beginSeal_empty (he : s.stg.epochs = []) (hn : s.stg.nextEpoch < 2 ^ 48 - 2) : ∃ e,
    (beginSeal s).stg.epochs = [e] ∧ e.kind = .manifest ∧ (beginSeal s).mbx.phase = .sealing ∧
    (beginSeal s).drain.manifest = some [] := by
  have hk : (beginSeal s).stg.epochs.map Epoch.kind = [.manifest] :=
    scheduleManifest_kinds.trans (openNew_kinds_of_none .manifest he hn)
  obtain ⟨e, hep, hkind⟩ := List.map_eq_singleton_iff.1 hk
  exact ⟨e, hep, hkind, congrArg MbxSt.phase ((scheduleManifest_changes (m' := 0x4c0c0030) rfl (.refl _ _)).mbx rfl),
    congrArg DrainSt.manifest ((scheduleManifest_changes (m' := 0x4c0c0030) rfl (.refl _ _)).drain rfl)⟩

/-! ### The end of a background command (R317 to R321) -/

theorem endBackground_ended (h : s.mbx.bg.isSome = true) (code : RetCode) :
    (endBackground code s).mbx.bg = none ∧ (endBackground code s).mbx.bgCode = code ∧
    (endBackground code s).mbx.phase = .draining ∧ (endBackground code s).stg.sealBoost = false ∧
    (endBackground code s).cache = s.cache ∧ (endBackground code s).chg = s.chg ∧
    (endBackground code s).stg.heldq = s.stg.heldq := by
  rw [endBackground, if_pos h]
  dsimp only
  rw [msix_mbx, msix_stg, msix_cache, msix_chg]
  split <;> exact ⟨rfl, rfl, rfl, rfl, rfl, rfl, rfl⟩

/-- A seal that succeeded sends its output (R318). -/
theorem endBackground_sends_seal (h : s.mbx.bg = some .sealImage) :
    .mailbox .success (sealOutput s) ∈ (endBackground .success s).sent := by
  rw [endBackground, if_pos (by simp [h]), if_pos (by simp [h])]
  exact (msix_keepsSent 0 (List.suffix_refl _)).subset (List.mem_cons_self ..)

/-- The end of a background command lets the requests that wait be served. -/
theorem releaseWaiting_endBackground (code : RetCode) (hbg : s.mbx.bg.isSome = true) (hw : s.cache.waiting = [])
    (ht : inTail s = true → s.stg.heldq = []) :
    Serving (endBackground code s) (releaseWaiting (endBackground code s)) ∧
    (releaseWaiting (endBackground code s)).mbx.bg = none ∧ (releaseWaiting (endBackground code s)).mbx.bgCode = code ∧
    (releaseWaiting (endBackground code s)).mbx.phase = .draining ∧
    (releaseWaiting (endBackground code s)).stg.sealBoost = false := by
  obtain ⟨hnone, hcode, hphase, hboost, hcache, hchg, hheld⟩ := endBackground_ended hbg code
  have hs := releaseWaiting_serving (s := endBackground code s) fun hi => by
    rw [inTail, hchg, ← inTail] at hi
    exact ⟨by rw [hcache, hw], by rw [hheld, ht hi]⟩
  obtain ⟨hb, hp, hc, hg⟩ := hs.background
  exact ⟨hs, hb.trans hnone, hc.trans hcode, hp.trans hphase, hg.trans hboost⟩

end Background

/-- Settles O18. -/
theorem backgroundCommandsRun : Obligations.BackgroundCommandsRun := by
  refine ⟨fun s htrain hup hbg => ⟨?_, ?_, fun hmfg => ?_, fun hroom hsev => ?_, fun hroom => ?_, ?_⟩,
    fun s htrain hup hbg => ⟨?_, ?_, ?_⟩, fun s c code hc hph hw ht => ?_, fun s hc hph hw ht => ?_,
    fun s hseal hres harm hup he hn => ?_⟩
  · let u : State := { forgetEpochs (startBg .sanitize .erasing s) with dram := [] }
    obtain ⟨hbg', hph, -⟩ := emptyCache_keepsBackground (s := u) rfl
    refine ⟨msix 0 (emit (.answer .backgroundStarted []) (emptyCache u)), ?_, ?_⟩
    · change execSanitize s = _
      rw [execSanitize, whenOpen_of_open htrain hup, if_pos hbg]
      rfl
    · rw [msix_mbx, msix_cache, msix_stg, emit_mbx, emit_cache, emit_stg, emptyCache_cache rfl, emptyCache_epochs rfl]
      exact ⟨hbg', hph, rfl, rfl, rfl, rfl, rfl⟩
  · refine ⟨msix 0 (emit (.mailbox .backgroundStarted []) (startBg .sealImage .draining s)), ?_, ?_⟩
    · change execSealImage [] s = _
      rw [execSealImage, whenOpen_of_open htrain hup, if_neg (by simp), if_pos hbg, reply]
    · rw [msix_mbx, msix_cache, msix_stg, msix_dram]
      exact ⟨rfl, rfl, Bool.or_true _, rfl, rfl⟩
  · exact secureErase_mfg htrain hup hbg hmfg
  · exact secureErase_room htrain hup hbg hroom hsev
  · exact secureErase_no_room htrain hup hbg hroom
  · exact secureErase_no_noise htrain hup hbg
  · change execSanitize s = _
    rw [execSanitize, whenOpen_of_open htrain hup, if_neg (by simp [hbg]), answer]
  · change execSealImage [] s = _
    rw [execSealImage, whenOpen_of_open htrain hup, if_neg (by simp), if_neg (by simp [hbg]), reply]
  · change execDropImage _ s = _
    rw [execDropImage, whenOpen_of_open htrain hup, dropKey_eq, if_neg (by simp), if_neg (by simp [hbg]), reply]
  · obtain ⟨hs, hb, hcode, hp, hg⟩ := releaseWaiting_endBackground code (by rw [hc]; rfl) hw ht
    refine ⟨_, ?_, hb, hcode, hp, hg, fun hseal hok => ?_⟩
    · change execBackgroundCommandDone s = _
      rw [execBackgroundCommandDone, hc, hph]
    · subst hok hseal
      exact hs.sent.subset (endBackground_sends_seal hc)
  · obtain ⟨-, hb, hcode, -, -⟩ := releaseWaiting_endBackground .retryRequired (by rw [hc]; rfl) hw ht
    refine ⟨_, ?_, hb, hcode⟩
    change execSealTimeout s = _
    rw [execSealTimeout, if_neg (by simp [sealWaits, hph, hc]), if_neg (by simp [hc]), if_pos (by simp [hc])]
  · obtain ⟨e, hep, hkind, hphase, hman⟩ := beginSeal_empty he hn
    have hch := beginSeal_changes (m' := 0x4c0c0870) rfl (.refl _ s)
    refine ⟨beginSeal s, e, ?_, hphase, hep, hkind, hman, hch.cache rfl, hch.dram rfl⟩
    change execSealResidualZero s = _
    have hclose : closeOpen s = s := by rw [closeOpen, openEpoch, he, List.find?_nil]
    rw [execSealResidualZero, if_pos (by simp [hseal, hres, harm, hup]), hclose]
    exact if_pos (by simp [unresolved, he]; omega)

end Sys2Proof.Machine

/-! PROOFS. Register accesses: local reads and writes, the tunnel between the packages, complement pairs and the management
port (R13 to R18, R501 to R510). -/

namespace Sys2Proof.Machine

section Registers
variable {s : State}

/-! ### The bytes of an access (R502) -/

theorem maskBytes_all {be : BitVec 8} (v n : Nat) (h : ∀ i, i < n → be.getLsbD i = true) : maskBytes be n v = v % 256 ^ n := by
  induction n with
  | zero => simp [maskBytes, Nat.mod_one]
  | succ n ih =>
    have hn : maskBytes be (n + 1) v = maskBytes be n v + v / 256 ^ n % 256 * 256 ^ n := by
      rw [maskBytes, List.range_succ, List.map_append, List.sum_append, List.map_singleton, List.sum_singleton,
        if_pos (h n n.lt_succ_self), maskBytes]
    rw [hn, ih fun i hi => h i (by omega), Nat.mod_pow_succ, Nat.mul_comm (v / 256 ^ n % 256)]

theorem maskBytes_low (v : Nat) : maskBytes 0x0F 4 v = v % 2 ^ 32 :=
  maskBytes_all v 4 fun i hi => by interval_cases i <;> rfl

theorem maskBytes_four (v : Nat) : maskBytes 0xFF 4 v = v % 2 ^ 32 :=
  maskBytes_all v 4 fun i hi => by interval_cases i <;> rfl

theorem maskBytes_eight (v : Nat) : maskBytes 0xFF 8 v = v % 2 ^ 64 :=
  maskBytes_all v 8 fun i hi => by interval_cases i <;> rfl

/-- A read of the host answers its four bytes. -/
theorem answerAccess_host_narrow (v : Nat) : answerAccess .host false 0x0F v s = emit (.register .host (v % 2 ^ 32)) s := by
  rw [← maskBytes_low]
  rfl

theorem answerAccess_host_wide (v : Nat) : answerAccess .host true 0xFF v s = emit (.register .host (v % 2 ^ 64)) s := by
  rw [← maskBytes_eight]
  rfl

/-! ### Reads of the engine's half (R13, R502) -/

theorem execRegisterRead_up {m : Master} {a : Nat} (ha : a % 4 = 0) (hm : masterUp m s = true) (w : Bool) (be : BitVec 8) :
    execRegisterRead m a w be s = .next (issueRead m a w be s) := by
  rw [execRegisterRead, if_neg (by simpa), if_neg (by simp [hm])]

theorem readEffects_engine {a : Nat} (ha : a < 0x200000) (m : Master) : readEffects m a s = s := by
  rw [readEffects, if_neg (by omega), if_neg (by omega)]

theorem regAt_engine {a : Nat} (ha : a < 0x200000) : regAt a s = engineReg a s := if_pos ha

theorem issueRead_engine {a : Nat} (ha : a < 0x200000) (w : Bool) (be : BitVec 8) :
    issueRead .host a w be s = answerAccess .host w be (readAt .host a w s).1 (readAt .host a w s).2 := by
  rw [issueRead, if_neg (by simp)]
  exact if_pos (if_pos ha)

theorem issueRead_pctrl {a : Nat} (ha : 0x200000 ≤ a) (w : Bool) (be : BitVec 8) :
    issueRead .host a w be s = if unreachable .engine s then readLost .host w be s else
      bumpTag .engine (sendFrame .engine (.request { tag := s.port.tagE, write := false, wide := w, master := .host, addr := a, data := 0 })
        { s with port := { s.port with reads := s.port.reads ++ [{
            issuer := .engine, be := be,
            req := { tag := s.port.tagE, write := false, wide := w, master := .host, addr := a, data := 0 } }] } }) := by
  rw [issueRead, if_neg (by simp)]
  exact if_neg (by rw [halfOf, if_neg (by omega)]; decide)

theorem isLowWord_of {a v : Nat} {w : Bool} (h : regAt a s = some (w, v)) : isLowWord a s = w := by rw [isLowWord, h]

theorem regValue_of {a v : Nat} {w : Bool} (h : regAt a s = some (w, v)) : regValue a s = v := by rw [regValue, h]

/-- A register of 32 bits, or no register at all, is read in one access. -/
theorem readAt_word {a : Nat} (ha : a < 0x200000) (hl : isLowWord a s = false) (hh : isHighWord a s = false) :
    readAt .host a false s = (regValue a s, s) := by
  rw [readAt, if_neg (by simp), readNarrow, if_neg (by simp [hl]), if_neg (by simp [hh]), readEffects_engine ha]

theorem readAt_low {a : Nat} (ha : a < 0x200000) (hl : isLowWord a s = true) :
    readAt .host a false s = (regValue a s % 2 ^ 32, { s with port := { s.port with
      highLatch := (.host, a, regValue a s / 2 ^ 32) :: dropHeld .host a s.port.highLatch } }) := by
  rw [readAt, if_neg (by simp), readNarrow, if_pos hl, readEffects_engine ha]

theorem readAt_whole {a : Nat} (ha : a < 0x200000) (hl : isLowWord a s = true) :
    readAt .host a true s = (regValue a s, s) := by
  rw [readAt, if_pos rfl, readWide, if_pos hl, readEffects_engine ha]

theorem readAt_high {a h : Nat} (hl : isLowWord (a + 4) s = false) (hh : isHighWord (a + 4) s = true)
    (hheld : heldAt .host a s.port.highLatch = some h) :
    readAt .host (a + 4) false s =
      (h, { s with port := { s.port with highLatch := dropHeld .host a s.port.highLatch } }) := by
  rw [readAt, if_neg (by simp), readNarrow, if_neg (by simp [hl]), if_pos hh, Nat.add_sub_cancel, hheld]

/-! ### The tunnel (R505, R506) -/

/-- An end whose own access meets an unreachable half answers all ones. -/
theorem readLost_host_narrow (be : BitVec 8) (hb : maskBytes be 4 0xFFFFFFFF = 0xFFFFFFFF) : readLost .host false be s =
    { s with
      hdlE := { s.hdlE with unreached := satAdd max32 s.hdlE.unreached 1 }
      sent := .register .host 0xFFFFFFFF :: s.sent } := by
  rw [readLost, answerAccess]
  exact congrArg (fun v => emit (.register .host v) _) hb

theorem pump_hdl_ne {e e' : End} (h : e' ≠ e) (n : Nat) (s : State) : hdl e' (pump e n s) = hdl e' s := by
  induction n generalizing s with
  | zero => rfl
  | succ n ih =>
    rw [pump]
    split
    · split
      · rw [ih, hdl_emit, hdl_setHdl_ite, if_neg h]
      · rfl
    · rfl

/-- An end's frames leave the other end. -/
theorem hdl_receive_ne {e e' : End} (h : e' ≠ e) {hdr : FrameHdr} : hdl e' (receive e hdr s) = hdl e' s := by
  have hres (l : List Unacked) (u : State) :
      hdl e' (l.foldl (fun s u => emit (.frame e u.seq (ackOf e s) u.frame) s) u) = hdl e' u := by
    induction l generalizing u with
    | nil => rfl
    | cons x l ih => exact (ih _).trans (hdl_emit ..)
  have hctl (u : State) : hdl e' (sendControl e true u) = hdl e' u := by
    rw [sendControl]
    split
    · exact hdl_emit ..
    · rfl
  have hack : hdl e' (takeAck e hdr s) = hdl e' s := by
    rw [takeAck, pump_hdl_ne h]
    split
    · rw [resendAll, hdl_setHdl_ite, if_neg h, hres, hdl_setHdl_ite, if_neg h]
    · rw [hdl_setHdl_ite, if_neg h]
  unfold receive
  split
  · rfl
  · split
    · rw [hctl, hdl_setHdl_ite, if_neg h]
    · dsimp only
      split
      · rw [hdl_setHdl_ite, if_neg h, hack]
      · rw [hctl, hack]

/-- FLT shadow enable (R442) is a register of 32 bits. -/
theorem readAt_shadowed (m : Master) : readAt m 0x26000C false s = (s.flt.shadowed % 2 ^ 32, s) := rfl

theorem engineAway_receive (e : End) (hdr : FrameHdr) : engineAway (receive e hdr s) = engineAway s := by
  have hc := receive_frame (s := s) (hdr := hdr) e
  rw [engineAway, hc.warm rfl, hc.drf rfl, hc.vlt rfl, hc.flt rfl, ← engineAway]

theorem execRegisterFrame_taken {e : End} {hdr : FrameHdr} {r : RegReq} (h : accepts e hdr s = true) (hh : halfOf r.addr = e)
    (ha : (e = .engine && engineAway s) = false) : execRegisterFrame hdr e r s =
      if r.write then .next (writeAt r.master r.addr r.wide r.data (receive e hdr s)) else
        .next (sendFrame e (.response r (readAt r.master r.addr r.wide (receive e hdr s)).1)
          (readAt r.master r.addr r.wide (receive e hdr s)).2) := by
  rw [execRegisterFrame]
  dsimp only
  rw [h, engineAway_receive, ha, if_neg (by simp [hh]), if_neg Bool.false_ne_true]

theorem accepts_up {e : End} {hdr : FrameHdr} (h : accepts e hdr s = true) :
    (hdl e s).up = true ∧ hdr.valid = true ∧ hdr.seq = (hdl e s).rxSeq := by
  simpa [accepts, and_assoc] using h

theorem pump_of_waiting_nil (e : End) (n : Nat) (h : (hdl e s).waiting = []) : pump e n s = s := by
  cases n with
  | zero => rfl
  | succ n =>
    rw [pump, h]
    exact ite_self _

/-- An end that accepts a frame with nothing waiting stays up with nothing waiting. -/
theorem hdl_receive_idle {e : End} {hdr : FrameHdr} (h : accepts e hdr s = true) (hw : (hdl e s).waiting = []) :
    (hdl e (receive e hdr s)).up = true ∧ (hdl e (receive e hdr s)).waiting = [] := by
  obtain ⟨hup, hvalid, hseq⟩ := accepts_up h
  have hack : (hdl e (takeAck e hdr s)).up = true ∧ (hdl e (takeAck e hdr s)).waiting = [] := by
    have hr : (hdl e (if hdr.nak && !sentNine e (setHdl e (fun h => { h with unacked := ackFrames hdr.ack h.unacked }) s) then
          resendAll e (setHdl e (fun h => { h with unacked := ackFrames hdr.ack h.unacked }) s)
        else setHdl e (fun h => { h with unacked := ackFrames hdr.ack h.unacked }) s)).up = true ∧
        (hdl e (if hdr.nak && !sentNine e (setHdl e (fun h => { h with unacked := ackFrames hdr.ack h.unacked }) s) then
          resendAll e (setHdl e (fun h => { h with unacked := ackFrames hdr.ack h.unacked }) s)
        else setHdl e (fun h => { h with unacked := ackFrames hdr.ack h.unacked }) s)).waiting = [] := by
      split
      · rw [resendAll, hdl_setHdl, hdl_foldl_resend, hdl_setHdl]
        exact ⟨hup, hw⟩
      · rw [hdl_setHdl]
        exact ⟨hup, hw⟩
    rw [takeAck, pump_of_waiting_nil e 16 hr.2]
    exact hr
  rw [receive, if_neg (by simp [hup]), if_neg (by simp [hvalid])]
  dsimp only
  rw [if_pos (hseq.trans (takeAck_rxSeq ..).symm), hdl_setHdl]
  exact hack

theorem pump_only {e : End} {f : Frame} (hup : (hdl e s).up = true) (hroom : (hdl e s).unacked.length < 16)
    (hw : (hdl e s).waiting = [f]) (n : Nat) : ∃ q a l, (pump e (n + 1) s).sent = .frame e q a f :: l := by
  refine ⟨(hdl e s).txSeq, ackOf e s, (setHdl e (fun h => { h with
    waiting := [], txSeq := (h.txSeq + 1) % 256, unacked := h.unacked ++ [{ seq := h.txSeq, frame := f, sends := 1 }] }) s).sent, ?_⟩
  rw [pump, if_pos (by simp [hup, hroom]), hw]
  dsimp only
  rw [pump_of_waiting_nil e n (by rw [hdl_emit, hdl_setHdl])]
  rfl

/-- An end that is up and has nothing waiting sends a frame at once, or lets it wait behind 16 unacknowledged ones. -/
theorem sendFrame_idle {e : End} (f : Frame) (hup : (hdl e s).up = true) (hw : (hdl e s).waiting = []) :
    16 ≤ (hdl e (sendFrame e f s)).unacked.length ∧ (hdl e (sendFrame e f s)).waiting = [f] ∨
    ∃ q a l, (sendFrame e f s).sent = .frame e q a f :: l := by
  have hq : hdl e (setHdl e (fun h => { h with waiting := enqueue f h.waiting }) s) = { hdl e s with waiting := [f] } := by
    rw [hdl_setHdl, hw]
    rfl
  rw [sendFrame, if_pos hup]
  by_cases hroom : (hdl e s).unacked.length < 16
  · exact .inr (pump_only (by rw [hq, hup]) (by rw [hq]; exact hroom) (by rw [hq]) 15)
  · refine .inl ?_
    rw [pump, hq, if_neg (by simp [hroom]), hq]
    exact ⟨Nat.le_of_not_lt hroom, rfl⟩

/-! ### Writes (R15, R503) -/

theorem execRegisterWrite_up {m : Master} {a : Nat} (ha : a % 4 = 0) (hm : masterUp m s = true) {w : Bool} {be : BitVec 8}
    (hw : wholeAccess w be = true) (v : DWord) :
    execRegisterWrite m a w v be s = .next (issueWrite m a w (v.toNat % 256 ^ accessBytes w) s) := by
  rw [execRegisterWrite, if_neg (by simpa), if_neg (by simp [hm, hw])]

/-- A write at the half of its master. -/
theorem execRegisterWrite_own {m : Master} {a : Nat} (ha : a % 4 = 0) (hm : masterUp m s = true) {w : Bool} {be : BitVec 8}
    (hw : wholeAccess w be = true) (ho : halfOf a = ownEnd m) (v : DWord) :
    execRegisterWrite m a w v be s = .next (writeAt m a w (v.toNat % 256 ^ accessBytes w) s) := by
  rw [execRegisterWrite_up ha hm hw, issueWrite]
  exact congrArg _ (if_pos ho)

/-- A write of 32 bits that no rule of its register holds back. -/
theorem writeAt_plain {m : Master} {a : Nat} {v : Nat} (hr : refusedFor m a s = false) (hp : isPaired a = false)
    (hh : (writable64 a || (decide (4 ≤ a) && writable64 (a - 4))) = false) :
    writeAt m a false v s = if a < 0x200000 then writeEngine a v s else writePctrl m a v s := by
  rw [writeAt, hr, hp, hh]
  rfl

/-! ### Complement pairs (R16, R503) -/

/-- The bytes of BLT_CAP's registers (03, registers). -/
theorem isPaired_boltCap {n : Nat} (hn : n < 63) : isPaired (0x020008 + 0x40 * n) = true := by
  have h : 0x020000 ≤ 0x020008 + 0x40 * n ∧ 0x020008 + 0x40 * n < 0x021000 ∧ (0x020008 + 0x40 * n) % 0x40 = 8 := by omega
  simp only [isPaired, h, decide_true, Bool.true_and, Bool.true_or]

theorem execRegisterWrite_boltCap {n : Nat} (hn : n < 63) (hm : masterUp .host s = true) (v : DWord) :
    execRegisterWrite .host (0x020008 + 0x40 * n) false v 0x0F s =
      .next (writePaired .host (0x020008 + 0x40 * n) (v.toNat % 2 ^ 32) s) := by
  have ha : 0x020008 + 0x40 * n < 0x200000 := by omega
  have hr : refusedFor .host (0x020008 + 0x40 * n) s = false := by
    simp only [refusedFor, List.contains_eq_mem, List.mem_cons, List.not_mem_nil, or_false]
    simp
    omega
  rw [execRegisterWrite_own (by omega) hm (by rfl) (by rw [halfOf, if_pos ha]; rfl), writeAt, hr, isPaired_boltCap hn]
  rfl

/-- The second write of a pair: it takes effect with the complement, and fails otherwise. -/
theorem writePaired_second {m : Master} {a h v : Nat} {r : List (Master × Nat × Nat)} (hp : s.port.rwpHalf = (m, a, h) :: r)
    (hr : ∀ e ∈ r, e.2.1 ≠ a) : writePaired m a v s =
      if h + v = 2 ^ 32 - 1 then commitPair m a h { s with port := { s.port with rwpHalf := r } }
      else pairFail m a { s with port := { s.port with rwpHalf := r } } := by
  have hrest : s.port.rwpHalf.filter (fun e => e.2.1 ≠ a) = r := by
    rw [hp, List.filter_cons_of_neg (by simp), List.filter_eq_self]
    exact fun e he => by simpa using hr e he
  rw [writePaired, hrest, hp, List.find?_cons_of_pos (by simp)]
  exact if_pos rfl

/-- Two words are complements where they add up to all ones. -/
theorem add_eq_allOnes_iff (v c : DWord) :
    v.toNat % 2 ^ 32 + c.toNat % 2 ^ 32 = 2 ^ 32 - 1 ↔ c.truncate 32 = ~~~(v.truncate 32 : Word) := by
  have hl : ((v.truncate 32 : Word)).toNat = v.toNat % 2 ^ 32 := by simp
  have hc : ((c.truncate 32 : Word)).toNat = c.toNat % 2 ^ 32 := by simp
  rw [← hl, ← hc, ← BitVec.toNat_inj, BitVec.toNat_not]
  have := (v.truncate 32 : Word).isLt
  omega

/-- A pair of the engine's half that fails raises RWP_PAIR_E with the address (R16). -/
theorem pairFail_engine {a : Nat} (m : Master) (ha : a < 0x200000) : pairFail m a s = engineFault 65 a s := by
  rw [pairFail, halfOf, if_pos ha]

theorem heldAt_dropHeld (m : Master) (a : Nat) (l : List (Master × Nat × Nat)) : heldAt m a (dropHeld m a l) = none := by
  rw [heldAt, dropHeld, Option.map_eq_none_iff, List.find?_eq_none]
  intro e he
  simpa [not_and_or, ← imp_iff_not_or] using (List.mem_filter.1 he).2

theorem engineFault_detail {n d : Nat} (hd : d ≠ 0) : tget 0 (engineFault n d s).flt.details n = d := by
  have hself : tget 0 (tput 0 n d s.flt.details) n = d := tget_tput_self 0 d n hd _
  unfold engineFault
  dsimp only
  split
  · rwa [engineReact_flt, sendFrame_flt]
  · split
    · exact hself
    · rwa [engineReact_flt, sendFrame_flt]

theorem waitingRead_only {e : End} {r : RegReq} {p : PendingRead} (h : s.port.reads = [p]) (he : p.issuer = e)
    (ht : p.req.tag = r.tag) : waitingRead e r s = some p := by
  rw [waitingRead, h, List.find?_cons_of_pos (by simp [he, ht])]

theorem dropRead_only {p : PendingRead} (h : s.port.reads = [p]) : (dropRead p s).port.reads = [] := by
  simp [dropRead, h]

theorem exec_registerFrame (hdr : FrameHdr) (e : End) (r : RegReq) (s : State) :
    exec (.registerFrame hdr e r) s = execRegisterFrame hdr e r s := rfl

theorem exec_registerRead (m : Master) (a : Nat) (w : Bool) (be : BitVec 8) (s : State) :
    exec (.registerRead m a w be) s = execRegisterRead m a w be s := rfl

theorem exec_registerWrite (m : Master) (a : Nat) (w : Bool) (v : DWord) (be : BitVec 8) (s : State) :
    exec (.registerWrite m a w v be) s = execRegisterWrite m a w v be s := rfl

end Registers

/-- Settles O55. -/
theorem registersAreReadAndTunnelled : Obligations.RegistersAreReadAndTunnelled := by
  refine ⟨⟨fun s m a w be ha => if_pos ha, fun s a v hm h4 ha hreg hh => ?_, fun s a v hm h4 ha hreg => ⟨?_, ?_⟩,
    fun s a h v hm h4 ha hreg hnone hheld hlt => ?_, fun s a hm h4 ha hnone hh => ?_, fun s a hm h4 ha hr => ?_,
    fun s a hm h4 ha hr => ?_⟩, fun s hdr r hacc hw hwide ha hq => ?_, fun s hdr r hacc hw hwide hm ha haway => ?_,
    fun s hdr r hacc hw hm ha haway => ?_, fun s hdr r p v hacc hm hreads hi hp hbe hv => ?_,
    fun s r p hm hreads hi hp hbe => ?_, fun s r hreads => ?_⟩
  · have hat := (regAt_engine ha).trans hreg
    rw [exec_registerRead, execRegisterRead_up h4 hm, issueRead_engine ha, readAt_word ha (isLowWord_of hat) hh, regValue_of hat,
      answerAccess_host_narrow]
    rfl
  · have hat := (regAt_engine ha).trans hreg
    rw [exec_registerRead, execRegisterRead_up h4 hm, issueRead_engine ha, readAt_low ha (isLowWord_of hat), regValue_of hat,
      answerAccess_host_narrow, Nat.mod_mod]
    rfl
  · have hat := (regAt_engine ha).trans hreg
    rw [exec_registerRead, execRegisterRead_up h4 hm, issueRead_engine ha, readAt_whole ha (isLowWord_of hat), regValue_of hat,
      answerAccess_host_wide]
    rfl
  · have hat := (regAt_engine (s := s) (a := a) (by omega)).trans hreg
    have hat' := (regAt_engine (s := s) (a := a + 4) ha).trans hnone
    have hl : isLowWord (a + 4) s = false := by rw [isLowWord, hat']
    have hh : isHighWord (a + 4) s = true := by
      rw [isHighWord, hat', Nat.add_sub_cancel, isLowWord_of hat]
      simp
    rw [exec_registerRead, execRegisterRead_up (by omega) hm, issueRead_engine ha, readAt_high hl hh hheld,
      answerAccess_host_narrow, Nat.mod_eq_of_lt hlt]
    rfl
  · have hat := (regAt_engine ha).trans hnone
    have hl : isLowWord a s = false := by rw [isLowWord, hat]
    have hv : regValue a s = 0 := by rw [regValue, hat]
    rw [exec_registerRead, execRegisterRead_up h4 hm, issueRead_engine ha, readAt_word ha hl hh, hv, answerAccess_host_narrow]
    rfl
  · let req : RegReq := { tag := s.port.tagE, write := false, wide := false, master := .host, addr := a, data := 0 }
    let u : State := { s with port := { s.port with reads := s.port.reads ++ [{ issuer := .engine, req := req, be := 0x0F }] } }
    have hc := sendFrame_changes .engine (.request req) (m' := 0x4c000000) (by rfl) (.refl _ u)
    refine ⟨bumpTag .engine (sendFrame .engine (.request req) u), { issuer := .engine, req := req, be := 0x0F }, ?_, ?_, rfl, rfl, ?_,
      hc.flt rfl, hc.efl rfl⟩
    · rw [exec_registerRead, execRegisterRead_up h4 hm, issueRead_pctrl ha, hr]
      rfl
    · exact congrArg PortSt.reads (hc.port rfl)
    · change ((sendFrame .engine (.request req) u).port.tagE + 1) % 256 = _
      rw [hc.port rfl]
  · refine ⟨{ s with
        hdlE := { s.hdlE with unreached := satAdd max32 s.hdlE.unreached 1 }
        sent := .register .host 0xFFFFFFFF :: s.sent }, ?_, rfl, rfl, rfl⟩
    rw [exec_registerRead, execRegisterRead_up h4 hm, issueRead_pctrl ha, if_pos hr, readLost_host_narrow _ (by decide)]
  · have hc := receive_frame (s := s) (hdr := hdr) .pctrl
    obtain ⟨hup, hidle⟩ := hdl_receive_idle hacc hq
    have hread : readAt r.master r.addr r.wide (receive .pctrl hdr s) = (s.flt.shadowed % 2 ^ 32, receive .pctrl hdr s) := by
      rw [hwide, ha, readAt_shadowed, hc.flt rfl]
    have hs := sendFrame_changes .pctrl (.response r (s.flt.shadowed % 2 ^ 32)) (m' := 0x4c000000) (by rfl) (.refl _ (receive .pctrl hdr s))
    obtain ⟨_, _, _, hend⟩ := sendFrame_hdl .pctrl .pctrl (.response r (s.flt.shadowed % 2 ^ 32)) (receive .pctrl hdr s)
    refine ⟨sendFrame .pctrl (.response r (s.flt.shadowed % 2 ^ 32)) (receive .pctrl hdr s), ?_, (hs.flt rfl).trans (hc.flt rfl),
      (congrArg HdlEnd.rxSeq hend).trans (receive_rxSeq hacc), sendFrame_idle _ hup hidle⟩
    rw [exec_registerFrame, execRegisterFrame_taken hacc (by rw [ha]; decide) (by simp), if_neg (by simp [hw]), hread]
  · have hc := receive_frame (s := s) (hdr := hdr) .engine
    refine ⟨{ receive .engine hdr s with vlt := { (receive .engine hdr s).vlt with count := r.data } }, ?_, ?_, hc.flt rfl⟩
    · rw [exec_registerFrame, execRegisterFrame_taken hacc (by rw [ha]; decide) (by simp [haway]), if_pos hw, hwide, hm, ha,
        writeAt_plain (by simp [refusedFor]) (by decide) (by decide)]
      rfl
    · rw [← hc.vlt rfl]
  · have hc := receive_frame (s := s) (hdr := hdr) .engine
    have hP : (receive .engine hdr s).hdlP = s.hdlP := hdl_receive_ne (e' := .pctrl) (by decide)
    refine ⟨metUnreachable .smbus (receive .engine hdr s), ?_, rfl, ?_, hc.vlt rfl, hc.cache rfl⟩
    · rw [exec_registerFrame, execRegisterFrame, hacc, engineAway_receive, haway, if_neg (by simp [halfOf, ha]), if_pos (by rfl),
        if_pos hw, hm]
    · rw [← hP]
      rfl
  · have hc := receive_frame (s := s) (hdr := hdr) .engine
    have hown : ownEnd r.master = .engine := by rw [hm]; rfl
    have hreads' : (receive .engine hdr s).port.reads = [p] := by rw [hc.port rfl, hreads]
    refine ⟨answerAccess .host false 0xFF v (dropRead p (receive .engine hdr s)), ?_, ?_, dropRead_only hreads',
      hc.vlt rfl, hc.cache rfl⟩
    · change execRegisterResponse hdr r v s = _
      rw [execRegisterResponse, hown, hacc]
      rw [waitingRead_only hreads' hi (by rw [hp]), if_neg (by simp)]
      dsimp only
      rw [hp, hbe, hm]
    · exact congrArg (fun x => some (Sent.register .host x)) ((maskBytes_four v).trans (Nat.mod_eq_of_lt hv))
  · have hown : ownEnd r.master = .engine := by rw [hm]; rfl
    refine ⟨readLost .host false 0xFF (dropRead p s), ?_, ?_, ?_, ?_⟩
    · change execUnreachableTimeout r s = _
      rw [execUnreachableTimeout, hown, waitingRead_only hreads hi (by rw [hp])]
      dsimp only
      rw [hp, hbe, hm]
    all_goals rw [readLost_host_narrow _ (by decide)]
    · rfl
    · exact dropRead_only hreads
    · rfl
  · change execUnreachableTimeout r s = _
    rw [execUnreachableTimeout, waitingRead, hreads, List.find?_nil]

/-- Settles O56. -/
theorem registersAreWritten : Obligations.RegistersAreWritten := by
  refine ⟨fun s m a w v be ha => if_pos ha, fun s m a w v be ha hw => ?_, fun s v hm => ⟨?_, ?_, ?_⟩, fun s v hm => ⟨?_, ?_⟩,
    fun s n v hm hn hfree => ?_, fun s n v c r hm hn hp hr hc => ?_, fun s n v c r hm hn hp hr hc => ?_,
    fun s a x hheld h0 ha => ?_, fun s m a hheld => ?_⟩
  · rw [exec_registerWrite, execRegisterWrite, if_neg (by simpa), if_pos (by simp [hw])]
  · rw [exec_registerWrite, execRegisterWrite_own (by rfl) hm (by rfl) (by rfl),
      writeAt_plain (by simp [refusedFor]) (by decide) (by decide)]
    rfl
  · rw [exec_registerWrite, execRegisterWrite_own (by rfl) hm (by rfl) (by rfl),
      writeAt_plain (by simp [refusedFor]) (by decide) (by decide)]
    rfl
  · rw [exec_registerWrite, execRegisterWrite_own (by rfl) hm (by rfl) (by rfl),
      writeAt_plain (by simp [refusedFor]) (by decide) (by decide)]
    rfl
  · rw [exec_registerWrite, execRegisterWrite_own (by rfl) hm (by rfl) (by rfl),
      writeAt_plain (by simp [refusedFor]) (by decide) (by decide)]
    have hv : BitVec.ofNat 32 (v.toNat % 256 ^ 4) = v.truncate 32 := BitVec.eq_of_toNat_eq (by simp)
    exact congrArg (fun x => Host.Outcome.next (logMarkOp x s)) hv
  · rw [exec_registerWrite, execRegisterWrite_own (by rfl) hm (by rfl) (by rfl), writeAt,
      if_neg (by simp [refusedFor]), if_pos rfl, if_pos (by decide), commit64, if_pos rfl]
    rw [show v.toNat % 256 ^ accessBytes true % 2 ^ 64 = v.toNat from by
      rw [accessBytes, if_pos rfl]
      have := v.isLt
      omega]
  · rw [exec_registerWrite, execRegisterWrite_boltCap hn hm, writePaired, List.find?_eq_none.2 (by simpa using hfree)]
  · rw [exec_registerWrite, execRegisterWrite_boltCap hn hm, writePaired_second hp hr, if_pos ((add_eq_allOnes_iff v c).2 hc),
      commitPair, if_pos (by omega)]
    rw [show (0x020008 + 0x40 * n - 0x020000) / 0x40 = n from by omega,
      show v.toNat % 2 ^ 32 % 2 ^ 27 = v.toNat % 2 ^ 27 from by omega]
  · have hf := engineFault_changes 65 (0x020008 + 0x40 * n) (m' := 0x4c0c0020) rfl
      (.refl _ { s with port := { s.port with rwpHalf := r } })
    refine ⟨engineFault 65 (0x020008 + 0x40 * n) { s with port := { s.port with rwpHalf := r } }, ?_,
      congrArg PortSt.rwpHalf (hf.port rfl), hf.cache rfl, engineFault_detail (by omega)⟩
    rw [exec_registerWrite, execRegisterWrite_boltCap hn hm, writePaired_second hp hr,
      if_neg (mt (add_eq_allOnes_iff v c).1 hc), pairFail_engine _ (by omega)]
  · let u : State := { s with port := { s.port with rwpHalf := dropHeld .host a s.port.rwpHalf } }
    have hf := engineFault_changes 65 a (m' := 0x4c0c0020) rfl (.refl _ u)
    refine ⟨engineFault 65 a u, ?_, ?_, hf.cache rfl, hf.stg rfl, engineFault_detail (by omega)⟩
    · change execRwpPairTimeout .host a s = _
      rw [execRwpPairTimeout, hheld, ← pairFail_engine .host ha]
    · rw [hf.port rfl]
      exact heldAt_dropHeld ..
  · change execRwpPairTimeout m a s = _
    rw [execRwpPairTimeout, hheld]

end Sys2Proof.Machine

/-! PROOFS. The management port: REG_ADDR, REG_DATA and REG_STATUS (R508 to R510). -/

namespace Sys2Proof.Machine

section Port
variable {s : State}

theorem issueRead_smbus {a : Nat} (hrom : s.efl.romRecovery = false) (ha : 0x200000 ≤ a) (w : Bool) (be : BitVec 8) :
    issueRead .smbus a w be s = answerAccess .smbus w be (readAt .smbus a w s).1 (readAt .smbus a w s).2 := by
  rw [issueRead, if_neg (by simp [hrom])]
  exact if_pos (by rw [halfOf, if_neg (by omega)]; rfl)

theorem issueWrite_own {m : Master} {a : Nat} (h : halfOf a = ownEnd m) (w : Bool) (v : Nat) :
    issueWrite m a w v s = writeAt m a w v s := if_pos h

theorem advanceAddr_eq (h : s.smb.noInc = false) (n : Nat) :
    advanceAddr n s = { s with smb := { s.smb with addr := (s.smb.addr + n) % 2 ^ 22 } } := by
  rw [advanceAddr, if_neg (by simp [h])]

theorem advanceAddr_flt (n : Nat) : (advanceAddr n s).flt = s.flt := by rw [advanceAddr]; split <;> rfl

theorem advanceAddr_sent (n : Nat) : (advanceAddr n s).sent = s.sent := by rw [advanceAddr]; split <;> rfl

theorem execRegDataWrite_live (h : portLive s = true) (l : List Byte) : execRegDataWrite l true s =
    .next (advanceAddr l.length (if inReserved s.smb.addr then noteRange s else
      issueWrite .smbus s.smb.addr (l.length = 8) (ofLeBytes l) s)) := by
  rw [execRegDataWrite, if_neg (by simp [h]), if_neg (by simp)]

theorem execRegDataRead_live (h : portLive s = true) (n : Nat) : execRegDataRead n s =
    .next (if inReserved s.smb.addr then answerAccess .smbus (n = 8) (BitVec.allOnes 8) 0 (noteRange s)
      else issueRead .smbus s.smb.addr (n = 8) (BitVec.allOnes 8) s) := by
  rw [execRegDataRead, if_neg (by simp [h])]

/-- REG_ADDR holds 22 bits of the address, of which the low two are not kept, and NO_INC in bit 0 (R509). -/
theorem regAddrFields (v : Word) : bitsOf v.toNat 21 2 * 4 = v.toNat % 2 ^ 22 / 4 * 4 ∧ bitOf v.toNat 0 = v.getLsbD 0 := by
  refine ⟨?_, ?_⟩
  · rw [bitsOf]
    omega
  · rw [bitOf, BitVec.getLsbD, Nat.testBit_zero, Nat.pow_zero, Nat.div_one]

/-- The four bits of REG_STATUS (R510). -/
theorem regStatusBits (s : State) : let b := BitVec.ofNat 8 (regStatusByte s)
    b.getLsbD 0 = s.smb.unreachable ∧ b.getLsbD 1 = s.smb.denied ∧ b.getLsbD 2 = s.smb.pecError ∧ b.getLsbD 3 = s.smb.range := by
  rw [regStatusByte]
  cases s.smb.unreachable <;> cases s.smb.denied <;> cases s.smb.pecError <;> cases s.smb.range <;> decide

end Port

/-- Settles O53. -/
theorem managementPortReachesRegisters : Obligations.ManagementPortReachesRegisters := by
  refine fun s hlive => ⟨fun v => ?_, ?_, fun v => ?_, fun l => ?_, fun l hr hinc => ?_, fun ha hrom v => ?_, fun w hr hinc => ?_,
    fun ha hrom => ?_, ?_⟩
  · change execRegAddr (some v) true s = _
    obtain ⟨hv, hb⟩ := regAddrFields v
    rw [execRegAddr, if_neg (by simp [hlive]), setSmb, hv, hb]
    rfl
  · change execRegAddr none true s = _
    rw [execRegAddr, if_neg (by simp [hlive])]
    rfl
  · change execRegAddr (some v) false s = _
    rw [execRegAddr, if_neg (by simp [hlive])]
    rfl
  · change execRegDataWrite l false s = _
    rw [execRegDataWrite, if_neg (by simp [hlive])]
    rfl
  · change execRegDataWrite l true s = _
    rw [execRegDataWrite_live hlive, if_pos hr, advanceAddr_eq (s := noteRange s) hinc]
    rfl
  · refine ⟨advanceAddr 4 { s with flt := { s.flt with shadowed := v.toNat } }, ?_, advanceAddr_flt 4⟩
    change execRegDataWrite _ true s = _
    have hw := writeAt_plain (s := s) (m := .smbus) (a := 0x26000C) (v := v.toNat) (by simp [refusedFor, hrom]) (by decide) (by decide)
    rw [execRegDataWrite_live hlive, ha, if_neg (by decide), issueWrite_own (by rfl), leBytes_length, ofLeBytes_leBytes,
      Nat.mod_eq_of_lt (show v.toNat < 256 ^ 4 from v.isLt)]
    exact congrArg (fun u => Host.Outcome.next (advanceAddr 4 u)) hw
  · change execRegDataRead _ s = _
    rw [execRegDataRead_live hlive, if_pos hr]
    cases w <;> exact congrArg Host.Outcome.next (advanceAddr_eq (s := smbAnswer 0xD1 _ (noteRange s)) hinc _)
  · let u := smbAnswer 0xD1 (leBytes 4 (s.flt.shadowed % 2 ^ 32)) s
    refine ⟨advanceAddr 4 u, ?_, advanceAddr_sent 4, advanceAddr_flt 4, fun hinc => ?_⟩
    · change execRegDataRead 4 s = _
      rw [execRegDataRead_live hlive, ha, if_neg (by decide), issueRead_smbus hrom (by omega)]
      rfl
    · rw [advanceAddr_eq (s := u) hinc]
      exact congrArg (fun a => (a + 4) % 2 ^ 22) ha
  · exact ⟨_, if_neg (by simp [hlive]), regStatusBits s⟩

section PageClear

/-- A state, which is not sound, whose table lists source 184 before source 5. -/
def listedOutOfOrder : State :=
  { State.reset with
    pwr := { State.reset.pwr with keeper := true }
    flt := { State.reset.flt with sources := [(184, { latched := true }), (5, { t := true })] } }

/-- Whether source 5 reads as it did before after CLEAR_FAULTS. -/
def keepsSourceFive (s : State) : Bool :=
  match exec (.clearFaults true) s with
  | .next t => srcAt 5 t = srcAt 5 s
  | _ => true

theorem keepsSourceFive_listedOutOfOrder : keepsSourceFive listedOutOfOrder = false := by decide +kernel

end PageClear

/-- Refutes O54: the clause that CLEAR_FAULTS leaves every source of another page is about every state, sound or not. Where the table
lists source 184 of page 0 before source 5, clearing 184 takes its record, the default now, out of the table, and the record of
source 5 is read from then on. -/
theorem not_pmbusCommandsAnswer : ¬ Obligations.PmbusCommandsAnswer := by
  rintro ⟨hpage, -⟩
  obtain ⟨-, -, -, -, -, -, ⟨t, ht, -, hkeep, -⟩, -⟩ := hpage listedOutOfOrder (by decide +kernel) rfl
  have h := keepsSourceFive_listedOutOfOrder
  rw [keepsSourceFive, ht] at h
  simp [hkeep 5 (by decide)] at h

section LifeCycle
variable {s : State}

theorem execLifeCycleRequest_up (hk : s.pwr.keeper = true) (hh : s.flt.stewardHalted = false) (hr : s.efl.romRecovery = false)
    (m : Master) (n : Nat) (noise : Bool) : execLifeCycleRequest m n noise s = .next (
      let u : State := { s with lcs := { s.lcs with
        result := requestResult m n s, ctl := if m = .smbus then n % 4 * 2 ^ 30 + 2 ^ 29 else s.lcs.ctl } }
      if requestResult m n s ≠ 1 then u else
        let v := logEvent 7 4 0 { u with lcs := { u.lcs with step := 1, target := lcStateOf n, noise := noise } }
        if s.flt.belay then v else stopForWipe v) := by
  rw [execLifeCycleRequest, requestLifeCycle, if_neg (by simp [hk, hh, hr])]
  rfl

theorem mayChange_iff {st : LcState} {n : Nat} : mayChange st n = true ↔ st ≠ .retired ∧ (n = 1 ∨ n = 2) := by
  cases st <;> simp [mayChange]

/-- The requests that R491 takes. -/
theorem requestResult_accepted (hst : s.lcs.st ≠ .retired) {n : Nat} (hn : n = 1 ∨ n = 2) (hv : inVault s = false)
    (hbg : s.mbx.bg = none) (hstep : s.lcs.step = 0) (hd : s.drf.active ≠ none) : requestResult .smbus n s = 1 := by
  have hm : mayChange s.lcs.st n = true := mayChange_iff.2 ⟨hst, hn⟩
  have ha : s.drf.active.isNone = false := by simpa [Option.isSome_iff_ne_none] using hd
  simp [requestResult, hm, hv, hbg, hstep, ha]

theorem target_eq {n : Nat} (hn : n = 1 ∨ n = 2) : lcStateOf n = if n = 1 then .field else .retired := by
  rcases hn with rfl | rfl <;> rfl

/-- Step 1 of R492: writes are dropped, and the state is NOT_ARMED. -/
theorem stopForWipe_effects (s : State) : (stopForWipe s).vlt.state = .notArmed ∧ (stopForWipe s).host.memActive = false ∧
    (stopForWipe s).restore.st = .idle ∧ (stopForWipe s).stg.heldq = [] ∧ (stopForWipe s).cache.capq = [] ∧
    (stopForWipe s).lcs = s.lcs ∧ (stopForWipe s).log = s.log ∧ (stopForWipe s).efl = s.efl ∧ (stopForWipe s).dram = s.dram := by
  let d := discardWrites s
  let u : State := { d with host := { d.host with memActive := false }, restore := { d.restore with st := .idle, loading := [] } }
  have hd := discardWrites_changes' s
  have hv := setVault_changes .notArmed (m' := 0x4c000020) rfl (.refl _ u)
  exact ⟨setVault_state .notArmed u, congrArg HostSt.memActive (hv.host rfl), congrArg RstoreSt.st (hv.restore rfl),
    congrArg StgSt.heldq (hv.stg rfl), congrArg CacheSt.capq (hv.cache rfl), (hv.lcs rfl).trans (hd.lcs rfl),
    (hv.log rfl).trans (hd.log rfl), (hv.efl rfl).trans (hd.efl rfl), (hv.dram rfl).trans (hd.dram rfl)⟩

end LifeCycle

/-- Settles O51. -/
theorem lifeCycleRequestsAreChecked : Obligations.LifeCycleRequestsAreChecked := by
  refine ⟨fun s n b hk hh hr hst hn hv hbg hstep hd hbelay => ?_, fun s n b hk hh hr hst hn hv hbg hstep hd hbelay => ?_,
    fun s m n b hk hh hr hm => ?_, fun s n b hk hh hr hno => ?_, fun s n b hk hh hr hst hn hv => ?_⟩
  · have hexec := execLifeCycleRequest_up hk hh hr .smbus n b
    rw [requestResult_accepted hst hn hv hbg hstep hd, if_neg (by simp), if_neg (by simp [hbelay]), if_pos rfl,
      Nat.mod_eq_of_lt (by omega)] at hexec
    obtain ⟨hvault, hmem, hrest, hheld, hcap, hlcs, hlog, hefl, hdram⟩ := stopForWipe_effects (logEvent 7 4 0 { s with
      lcs := { s.lcs with result := 1, ctl := n * 2 ^ 30 + 2 ^ 29, step := 1, target := lcStateOf n, noise := b } })
    refine ⟨_, _, hexec, ?_, by rw [hlog]; rfl, rfl, rfl, hvault, hmem, hrest, hheld, hcap, hefl, hdram⟩
    rw [hlcs, ← target_eq hn]
    rfl
  · have hexec := execLifeCycleRequest_up hk hh hr .smbus n b
    rw [requestResult_accepted hst hn hv hbg hstep hd, if_neg (by simp), if_pos hbelay, if_pos rfl,
      Nat.mod_eq_of_lt (by omega)] at hexec
    refine ⟨_, hexec, ?_, rfl⟩
    rw [← target_eq hn]
    rfl
  · have hres : requestResult m n s = 5 := if_pos hm
    change execLifeCycleRequest m n b s = _
    rw [execLifeCycleRequest_up hk hh hr, hres, if_neg hm]
    rfl
  · have hres : requestResult .smbus n s = 2 := by
      have hm : mayChange s.lcs.st n = false := by
        rw [← Bool.not_eq_true, mayChange_iff]
        rintro ⟨hst, hn⟩
        rcases hno with h | h | h
        · exact hst h
        all_goals omega
      simp [requestResult, hm]
    change execLifeCycleRequest .smbus n b s = _
    rw [execLifeCycleRequest_up hk hh hr, hres]
    rfl
  · have hres : requestResult .smbus n s = 3 := by
      simp [requestResult, mayChange_iff.2 ⟨hst, hn⟩, hv]
    change execLifeCycleRequest .smbus n b s = _
    rw [execLifeCycleRequest_up hk hh hr, hres, if_pos rfl, Nat.mod_eq_of_lt (by omega)]
    rfl

end Sys2Proof.Machine

/-! PROOFS. Reactions leave the codes of the sources: whatever a source's severity, what it does beside leaves every code as it
was (R411, R416). -/

namespace Sys2Proof.Machine

section Codes
variable {s t u : State} {n : Nat}

/-- The table of sources stays in order, and every source's code, its pair's freeze and its latch with it, and so
do the self-fault and belay. -/
structure KeepsCodes (s t : State) : Prop where
  up : keysUp none s.flt.sources = true → keysUp none t.flt.sources = true
  code : keysUp none s.flt.sources = true → ∀ m, (srcAt m t).t = (srcAt m s).t ∧ (srcAt m t).c = (srcAt m s).c ∧
    (srcAt m t).frozen = (srcAt m s).frozen
  latched : keysUp none s.flt.sources = true → ∀ m, (srcAt m s).latched = true → (srcAt m t).latched = true
  self : t.flt.self = s.flt.self
  belay : s.flt.belay = true → t.flt.belay = true
  halted : t.flt.stewardHalted = s.flt.stewardHalted

theorem KeepsCodes.of_sources (h : t.flt.sources = s.flt.sources) (hf : t.flt.self = s.flt.self)
    (hb : s.flt.belay = true → t.flt.belay = true) (hh : t.flt.stewardHalted = s.flt.stewardHalted := by rfl) : KeepsCodes s t :=
  ⟨fun hs => by rwa [h], fun _ m => by rw [srcAt_congr h]; exact ⟨rfl, rfl, rfl⟩, fun _ m hm => by rwa [srcAt_congr h], hf, hb, hh⟩

theorem KeepsCodes.of_flt (h : t.flt = s.flt) : KeepsCodes s t :=
  .of_sources (by rw [h]) (by rw [h]) (fun hb => by rwa [h]) (by rw [h])

theorem KeepsCodes.refl (s : State) : KeepsCodes s s := .of_flt rfl

theorem KeepsCodes.trans (h : KeepsCodes s t) (k : KeepsCodes t u) : KeepsCodes s u where
  up hs := k.up (h.up hs)
  code hs m := by
    obtain ⟨ht, hc, hf⟩ := h.code hs m
    obtain ⟨kt, kc, kf⟩ := k.code (h.up hs) m
    exact ⟨kt.trans ht, kc.trans hc, kf.trans hf⟩
  latched hs m hm := k.latched (h.up hs) m (h.latched hs m hm)
  self := k.self.trans h.self
  belay hb := k.belay (h.belay hb)
  halted := k.halted.trans h.halted

/-- What keeps the codes of a state keeps those of every state with its sources. -/
theorem KeepsCodes.after (h : KeepsCodes t u) (hs : t.flt.sources = s.flt.sources) (hf : t.flt.self = s.flt.self := by rfl)
    (hb : s.flt.belay = true → t.flt.belay = true := by exact id) (hh : t.flt.stewardHalted = s.flt.stewardHalted := by rfl) :
    KeepsCodes s u := (KeepsCodes.of_sources hs hf hb hh).trans h

theorem KeepsCodes.inFault_eq (h : KeepsCodes s t) (hs : keysUp none s.flt.sources = true) (m : Nat) :
    inFault (srcAt m t) = inFault (srcAt m s) := by
  obtain ⟨ht, hc, -⟩ := h.code hs m
  rw [inFault, ht, hc, inFault]

theorem modSrc_keepsUp (n : Nat) (f : Source → Source) (hs : keysUp none s.flt.sources = true) :
    keysUp none (modSrc n f s).flt.sources = true := keysUp_tmod _ _ _ hs

theorem modSrc_keepsCodes {f : Source → Source} (h : ∀ x, (f x).t = x.t ∧ (f x).c = x.c ∧ (f x).frozen = x.frozen)
    (hl : ∀ x, x.latched = true → (f x).latched = true) (n : Nat) (s : State) : KeepsCodes s (modSrc n f s) := by
  refine ⟨modSrc_keepsUp n f, fun hs m => ?_, fun hs m hm => ?_, rfl, id, rfl⟩
  · rw [srcAt_modSrc hs]
    split
    · exact h _
    · exact ⟨rfl, rfl, rfl⟩
  · rw [srcAt_modSrc hs]
    split
    · exact hl _ hm
    · exact hm

/-! ### The reactions (R416 to R421) -/

theorem captureFirst_keepsCodes (n sev master d : Nat) (b : Bool) (s : State) : KeepsCodes s (captureFirst n sev master d b s) := by
  obtain ⟨_, h⟩ := captureFirst_eq n sev master d b s
  exact .of_sources (by rw [h]) (by rw [h]) (fun hb => by rw [h]; exact hb) (by rw [h])

theorem logFault_keepsCodes (n sev d : Nat) (a b : Bool) (s : State) : KeepsCodes s (logFault n sev d a b s) :=
  .of_flt (logFault_flt ..)

theorem EngineOnly.keepsCodes (h : EngineOnly s t) : KeepsCodes s t := by
  obtain ⟨_, _, h⟩ := h.flt
  exact .of_sources (by rw [h]) (by rw [h]) (fun hb => by rw [h]; exact hb) (by rw [h])

theorem ShedOnly.keepsCodes (h : ShedOnly s t) : KeepsCodes s t := by
  obtain ⟨_, h⟩ := h.flt
  exact .of_sources (by rw [h]) (by rw [h]) (fun hb => by rw [h]; exact hb) (by rw [h])

theorem beginUnitReset_keepsCodes (v : Nat) (s : State) : KeepsCodes s (beginUnitReset v s) :=
  (beginUnitReset_engineOnly v s).keepsCodes.after rfl

theorem unitReaction_keepsCodes (n : Nat) (s : State) : KeepsCodes s (unitReaction n s) := by
  have hb (v : Nat) (l : List Nat) (u : State) :
      KeepsCodes u (beginUnitReset v { u with flt := { u.flt with shadows := l } }) :=
    (beginUnitReset_keepsCodes v { u with flt := { u.flt with shadows := l } }).after rfl
  unfold unitReaction
  extract_lets a
  have ha : KeepsCodes s a := modSrc_keepsCodes (fun _ => by exact ⟨rfl, rfl, rfl⟩) (fun _ h => by exact h) n s
  split
  · exact ha
  · exact ha.trans (hb ..)

theorem enterBelay_keepsCodes (cause : Nat) (s : State) : KeepsCodes s (enterBelay cause s) := by
  have hl (u : State) : KeepsCodes u (logEvent 4 cause 0 (shedTogether false u)) :=
    (shedTogether_off_shedOnly u).keepsCodes.trans (.of_flt rfl)
  unfold enterBelay
  split
  · exact .refl s
  · exact (hl _).after rfl rfl (fun _ => rfl)

theorem shedDomain_keepsCodes (d : Nat) (s : State) : KeepsCodes s (shedDomain d s) := by
  unfold shedDomain
  split
  · exact (switchOff_shedOnly d s).keepsCodes.trans (.of_flt rfl)
  · exact .refl s

theorem foldl_keepsCodes {α : Type} {f : State → α → State} (hf : ∀ s x, KeepsCodes s (f s x)) (l : List α) (s : State) :
    KeepsCodes s (l.foldl f s) := by
  induction l generalizing s with
  | nil => exact .refl s
  | cons x l ih => exact (hf s x).trans (ih _)

theorem offGroupList_keepsCodes (l : List Nat) (s : State) : KeepsCodes s (offGroupList l s) := by
  induction l generalizing s with
  | nil => exact .of_flt rfl
  | cons g l ih =>
    have hoff := foldl_keepsCodes (fun s d => (switchOff_shedOnly d s).keepsCodes) (offDomains g s) s
    unfold offGroupList
    dsimp only
    split
    · exact hoff.trans (.of_flt rfl)
    · exact hoff.trans (ih _)

theorem startShed_keepsCodes (s : State) : KeepsCodes s (startShed s) := by
  have hstop : KeepsCodes s (stopHostSeq s) := by
    unfold stopHostSeq
    split <;> exact .of_flt rfl
  unfold startShed
  dsimp only
  refine hstop.trans ?_
  split
  · exact .of_flt rfl
  next d rest _ =>
    refine (shedDomain_keepsCodes d _).trans ?_
    split <;> exact .of_flt rfl

theorem confirm_keepsCodes (cause source : Nat) (s : State) : KeepsCodes s (confirm cause source s) := by
  have hout (u : State) : KeepsCodes u (confirmOutputs u) :=
    .of_flt ((confirmOutputs_changes (m' := 0x92020) rfl (.refl _ u)).flt rfl)
  have hrec (c : Nat) : KeepsCodes s (recordConfirm c source s) := .of_sources rfl rfl id
  unfold confirm
  split
  · split <;> exact .of_flt rfl
  split
  · exact .refl s
  split
  · dsimp only
    split
    · exact hout s
    split
    · exact ((hout s).trans (startShed_keepsCodes _)).trans ((offGroupList_keepsCodes _ _).after rfl)
    · exact (hout s).trans (startShed_keepsCodes _)
  split
  · exact .refl s
  extract_lets c v
  have hv : KeepsCodes s v := (hrec c).trans (hout _)
  refine hv.trans ?_
  split
  · exact (startShed_keepsCodes _).after rfl
  split
  · exact .refl _
  · exact startShed_keepsCodes _

theorem takeReaction_keepsCodes (n sev : Nat) (s : State) : KeepsCodes s (takeReaction n sev s) := by
  unfold takeReaction
  split
  · exact enterBelay_keepsCodes n s
  split
  · exact .of_flt ((selvedgeHold_changes false (m' := 0xce380c3d) rfl (.refl _ s)).flt rfl)
  split
  · exact .refl s
  split
  · exact confirm_keepsCodes 4 n s
  split
  · exact unitReaction_keepsCodes n s
  · exact .refl s

theorem react_keepsCodes (n sev : Nat) (s : State) : KeepsCodes s (react n sev s) := by
  unfold react
  dsimp only
  split
  · exact takeReaction_keepsCodes ..
  · refine KeepsCodes.trans ?_ (takeReaction_keepsCodes ..)
    exact modSrc_keepsCodes (fun _ => by exact ⟨rfl, rfl, rfl⟩) (fun _ h => by exact h) n s

theorem enterSev_afterLatch (n sev master d : Nat) (s : State) : KeepsCodes (modSrc n (latch d) s) (enterSev n sev master d s) := by
  unfold enterSev
  extract_lets first a b c src taken
  have ha : modSrc n (latch d) s = a := rfl
  rw [ha]
  split
  · have hb : KeepsCodes a b := captureFirst_keepsCodes ..
    have hc : KeepsCodes b c := modSrc_keepsCodes (fun _ => by exact ⟨rfl, rfl, rfl⟩) (fun _ h => by exact h) n b
    exact (hb.trans hc).trans ((logFault_keepsCodes ..).after rfl)
  · exact ((captureFirst_keepsCodes ..).trans (logFault_keepsCodes ..)).trans (react_keepsCodes ..)

theorem enterSev_keepsCodes (n sev master d : Nat) (s : State) : KeepsCodes s (enterSev n sev master d s) :=
  (modSrc_keepsCodes (fun _ => by exact ⟨rfl, rfl, rfl⟩) (fun _ _ => rfl) n s).trans (enterSev_afterLatch ..)

theorem withAbort_keepsCodes {f : State → State} (h : KeepsCodes t (f s)) : KeepsCodes t (withAbort f s) := by
  unfold withAbort
  dsimp only
  split
  · exact h.trans (enterSev_keepsCodes ..)
  · exact h

/-! ### Changes of a code (R411, R434) -/

/-- A change of a code neither halts the steward nor lets it run. -/
theorem codeChange_halted (n : Nat) (a c : Bool) (d : Nat) (s : State) :
    (codeChange n a c d s).flt.stewardHalted = s.flt.stewardHalted := by
  by_cases hp : present n = true
  case neg => rw [codeChange, if_pos (by simpa using hp)]
  by_cases hf : (srcAt n s).frozen = true
  case pos =>
    rw [codeChange, if_neg (by simp [hp]), if_pos hf]
    rfl
  have hat : (codeTaken n a c s).flt.stewardHalted = s.flt.stewardHalted := by
    rw [codeTaken]
    split <;> rfl
  rw [codeChange_eq a c d hp (by simpa using hf)]
  split
  · exact (withAbort_keepsCodes (f := enterFault n d) (enterSev_keepsCodes ..)).halted.trans hat
  · exact hat

theorem pcFault_halted (n d : Nat) (s : State) : (pcFault n d s).flt.stewardHalted = s.flt.stewardHalted := by
  unfold pcFault
  split
  · exact (withAbort_keepsCodes (f := enterFault n d) (enterSev_keepsCodes ..)).halted
  · exact codeChange_halted ..

theorem pcClear_halted (n : Nat) (s : State) : (pcClear n s).flt.stewardHalted = s.flt.stewardHalted := codeChange_halted ..

/-- A change of a code is that source's alone. -/
theorem codeChange_codes (n : Nat) (a c : Bool) (d : Nat) (hs : keysUp none s.flt.sources = true) :
    keysUp none (codeChange n a c d s).flt.sources = true ∧
    (∀ m, m ≠ n → (srcAt m (codeChange n a c d s)).t = (srcAt m s).t ∧ (srcAt m (codeChange n a c d s)).c = (srcAt m s).c ∧
      (srcAt m (codeChange n a c d s)).frozen = (srcAt m s).frozen) ∧
    (present n = true → (srcAt n s).frozen = false →
      (srcAt n (codeChange n a c d s)).t = a ∧ (srcAt n (codeChange n a c d s)).c = c ∧
      (srcAt n (codeChange n a c d s)).frozen = false) := by
  by_cases hp : present n = true
  case neg =>
    rw [codeChange, if_pos (by simpa using hp)]
    exact ⟨hs, fun _ _ => ⟨rfl, rfl, rfl⟩, fun h => absurd h hp⟩
  by_cases hf : (srcAt n s).frozen = true
  case pos =>
    rw [codeChange, if_neg (by simp [hp]), if_pos hf]
    refine ⟨modSrc_keepsUp _ _ hs, fun m hm => ?_, fun _ h => absurd hf (by simp [h])⟩
    rw [srcAt_modSrc hs, if_neg hm]
    exact ⟨rfl, rfl, rfl⟩
  rw [Bool.not_eq_true] at hf
  have hat := srcAt_codeTaken (n := n) (a := a) (c := c) (.inl hs)
  have hup : keysUp none (codeTaken n a c s).flt.sources = true := by
    rw [codeTaken]
    split <;> exact modSrc_keepsUp _ _ hs
  have hk : KeepsCodes (codeTaken n a c s) (codeChange n a c d s) := by
    rw [codeChange_eq a c d hp hf]
    split
    · exact withAbort_keepsCodes (enterSev_keepsCodes ..)
    · exact .refl _
  refine ⟨hk.up hup, fun m hm => ?_, fun _ _ => ?_⟩
  · have := hk.code hup m
    rwa [hat, if_neg hm] at this
  · have := hk.code hup n
    rwa [hat, if_pos rfl, coded, hf] at this

/-- A lasting source of the power controller that enters fault is in fault, whatever its reaction. -/
theorem pcFault_inFault (d : Nat) (hs : keysUp none s.flt.sources = true) (hp : present n = true) (hf : (srcAt n s).frozen = false)
    (he : isEvent n = false) : inFault (srcAt n (pcFault n d s)) = true := by
  obtain ⟨ht, hc, -⟩ := (codeChange_codes n true false d hs).2.2 hp hf
  rw [pcFault, he, if_neg (by simp), inFault, ht, hc]
  rfl

/-- A source of the power controller whose condition ends is out of fault. -/
theorem pcClear_inFault (hs : keysUp none s.flt.sources = true) (hp : present n = true) (hf : (srcAt n s).frozen = false) :
    inFault (srcAt n (pcClear n s)) = false := by
  obtain ⟨ht, hc, -⟩ := (codeChange_codes n false true 0 hs).2.2 hp hf
  rw [pcClear, inFault, ht, hc]
  rfl

/-- The end of a condition is no entry into fault: the sources change alone. -/
theorem pcClear_sourcesOnly (n : Nat) (hs : keysUp none s.flt.sources = true) : SourcesOnly s (pcClear n s) := by
  by_cases hp : present n = true
  case neg =>
    rw [pcClear, codeChange, if_pos (by simpa using hp)]
    exact .refl s
  by_cases hf : (srcAt n s).frozen = true
  case pos =>
    rw [pcClear, codeChange, if_neg (by simp [hp]), if_pos hf]
    exact modSrc_sourcesOnly (.inl hs) (fun _ => ⟨rfl, rfl, rfl⟩)
  have hin : inFault (srcAt n (codeTaken n false true s)) = false := by
    rw [srcAt_codeTaken (.inl hs), if_pos rfl]
    rfl
  rw [pcClear, codeChange_eq _ _ _ hp (by simpa using hf), hin, if_neg (by simp)]
  exact codeTaken_sourcesOnly (.inl hs)

theorem pcClear_quiet (n : Nat) (hs : keysUp none s.flt.sources = true) : Changes 0x40004 s (pcClear n s) :=
  (pcClear_sourcesOnly n hs).changes

theorem pcClear_latched (n : Nat) (hs : keysUp none s.flt.sources = true) {m : Nat} (hm : (srcAt m s).latched = true) :
    (srcAt m (pcClear n s)).latched = true := by
  by_cases hp : present n = true
  case neg => rwa [pcClear, codeChange, if_pos (by simpa using hp)]
  by_cases hf : (srcAt n s).frozen = true
  case pos =>
    rw [pcClear, codeChange, if_neg (by simp [hp]), if_pos hf, srcAt_modSrc hs]
    split <;> exact hm
  have hat := srcAt_codeTaken (n := n) (a := false) (c := true) (.inl hs)
  rw [pcClear, codeChange_eq _ _ _ hp (by simpa using hf)]
  have hl : (srcAt m (codeTaken n false true s)).latched = true := by
    rw [hat]
    split <;> exact hm
  rw [hat, if_pos rfl, show inFault (coded false true (srcAt n s)) = false from rfl, Bool.and_false, if_neg (by simp)]
  exact hl

/-- A source that enters fault is latched, whatever its reaction. -/
theorem pcFault_latched (d : Nat) (hs : keysUp none s.flt.sources = true) (hp : present n = true) (hf : (srcAt n s).frozen = false)
    (hin : inFault (srcAt n s) = false) : (srcAt n (pcFault n d s)).latched = true := by
  have he (u : State) (hu : keysUp none u.flt.sources = true) : (srcAt n (withAbort (enterFault n d) u)).latched = true := by
    have hk : KeepsCodes (modSrc n (latch d) u) (withAbort (enterFault n d) u) := withAbort_keepsCodes (enterSev_afterLatch ..)
    refine hk.latched (modSrc_keepsUp n _ hu) n ?_
    rw [srcAt_modSrc hu, if_pos rfl]
    rfl
  unfold pcFault
  split
  · exact he s hs
  · have hat := srcAt_codeTaken (n := n) (a := true) (c := false) (.inl hs)
    rw [codeChange_eq _ _ _ hp hf, hat, if_pos rfl, hin, if_pos (by rfl)]
    refine he _ ?_
    rw [codeTaken]
    split <;> exact modSrc_keepsUp _ _ hs

/-- Neither changes another source's code. -/
theorem pcFault_keepsOthers (n d : Nat) (hs : keysUp none s.flt.sources = true) {m : Nat} (hm : m ≠ n) :
    (srcAt m (pcFault n d s)).t = (srcAt m s).t ∧ (srcAt m (pcFault n d s)).c = (srcAt m s).c ∧
    (srcAt m (pcFault n d s)).frozen = (srcAt m s).frozen := by
  unfold pcFault
  split
  · exact (withAbort_keepsCodes (f := enterFault n d) (enterSev_keepsCodes ..)).code hs m
  · exact (codeChange_codes n true false d hs).2.1 m hm

end Codes

end Sys2Proof.Machine

/-! PROOFS. The time base and the monitors' commands (R514 to R516, R518 to R522). -/

namespace Sys2Proof.Machine

section Time
variable {s t u : State}

/-- The time base's count, offset, clock and losses stand. -/
structure KeepsTime (s t : State) : Prop where
  now : t.tbs.now = s.tbs.now
  offset : t.tbs.offset = s.tbs.offset
  refclk : t.tbs.refclk = s.tbs.refclk
  losses : t.tbs.losses = s.tbs.losses

theorem KeepsTime.trans (h : KeepsTime s t) (k : KeepsTime t u) : KeepsTime s u :=
  ⟨k.now.trans h.now, k.offset.trans h.offset, k.refclk.trans h.refclk, k.losses.trans h.losses⟩

theorem KeepsTime.of_tbs (h : t.tbs = s.tbs) : KeepsTime s t := by constructor <;> rw [h]

theorem KeepsTime.refl (s : State) : KeepsTime s s := .of_tbs rfl

theorem KeepsTime.of_changes {m : Nat} (h : Changes m s t) (hm : m.testBit 24 = false) : KeepsTime s t := .of_tbs (h.tbs hm)

/-- What keeps the time of a state keeps that of every state with its time base. -/
theorem KeepsTime.after (h : KeepsTime t u) (hs : t.tbs = s.tbs) : KeepsTime s u := (KeepsTime.of_tbs hs).trans h

/-! ### A tick (R514 to R516) -/

theorem loadCopy_keepsTime (s : State) : KeepsTime s (loadCopy s) := by
  unfold loadCopy
  split
  · exact ⟨rfl, rfl, rfl, rfl⟩
  · exact .refl s

theorem clearEngine_keepsTime (s : State) : KeepsTime s (clearEngine s) := by
  have hv : (if inVault s then s else drivePair .vreq false s).tbs = s.tbs := by split <;> rfl
  have h : (clearEngine s).tbs = { (if inVault s then s else drivePair .vreq false s).tbs with
    aligned := false, measured := 0, loaded := false } := rfl
  exact ⟨by rw [h, hv], by rw [h, hv], by rw [h, hv], by rw [h, hv]⟩

theorem attachEngine_keepsTime (s : State) : KeepsTime s (attachEngine s) := by
  have htrain : KeepsTime s (if freshMemory s then trainMemory s else s) := by
    split
    · exact .of_changes (trainMemory_changes (m' := 0x4c0c0021) rfl (.refl _ s)) rfl
    · exact .refl s
  have hfold (l : List Nat) (u : State) : KeepsTime u (l.foldl (fun s n => engineFault n 0 s) u) :=
    .of_changes (Changes.foldl (m := 0x4c0c0020) (.refl _ u) fun _ n hv => engineFault_changes n 0 (.self _) hv) rfl
  unfold attachEngine
  extract_lets fresh a srcA b c d e f srcF
  have ha : KeepsTime s a := htrain.trans ((loadCopy_keepsTime _).trans
    (.of_changes (releaseDdr_changes (m' := 0x80001) rfl (.refl _ _)) rfl))
  have hb : KeepsTime a b := (KeepsTime.of_changes (loadCaps_changes (m' := 1) rfl (.refl _ _)) rfl).after rfl
  have hc : KeepsTime b c := (KeepsTime.of_changes (sendQuery_changes (m' := 0x40000100) rfl (.refl _ b)) rfl).trans (hfold _ _)
  have hd : KeepsTime c d := .of_changes (restoreSetpoint_changes (m' := 0x40000100) rfl (.refl _ c)) rfl
  have he : KeepsTime d e := by
    change KeepsTime d (if inVault d then d else if fresh || d.warm.beforeReady then zeroMap d else scanMap d)
    split
    · exact .refl d
    split
    · exact .of_changes (zeroMap_changes (m' := 1) rfl (.refl _ d)) rfl
    · exact .of_changes (scanMap_changes (m' := 1) rfl (.refl _ d)) rfl
  have hf : KeepsTime e f := by
    change KeepsTime e (if inVault e then recompute e else e)
    split
    · exact .of_changes (recompute_changes (m' := 0xce0c0c7b) rfl (.refl _ e)) rfl
    · exact .refl e
  exact ((((ha.trans hb).trans hc).trans hd).trans he).trans (hf.trans (.of_tbs rfl))

theorem checkAgain_keepsTime (s : State) : KeepsTime s (checkAgain s) :=
  .of_changes (checkAgain_changes (m' := 0xce7defff) rfl (.refl _ s)) rfl

theorem stepFive_keepsTime (s : State) : KeepsTime s (stepFive s) := by
  unfold stepFive
  split
  · exact .refl s
  split
  · split
    · dsimp only
      split
      · exact (clearEngine_keepsTime s).trans ((checkAgain_keepsTime _).after rfl)
      · exact (clearEngine_keepsTime s).trans (.of_tbs rfl)
    · exact .refl s
  · exact (checkAgain_keepsTime _).after rfl

theorem stepSix_keepsTime (s : State) : KeepsTime s (stepSix s) := by
  unfold stepSix
  split
  · exact .refl s
  split
  · exact attachEngine_keepsTime s
  · exact .of_changes (configureEngine_changes (m' := 0x4c200000) rfl (.refl _ s)) rfl

theorem resetCores_keepsTime (s : State) : KeepsTime s (resetCores s) := by
  have hlost := KeepsTime.of_changes (engineLost_changes (m' := 0x4100011) rfl (.refl _ s)) rfl
  have hpower (u : State) := KeepsTime.of_changes (resetPower_changes (m' := 0xfe3fefff) rfl (.refl _ u)) rfl
  have hsteward (u : State) := KeepsTime.of_changes (stewardBoot_changes (m' := 0xcefdefff) rfl (.refl _ u)) rfl
  have hdraft (u : State) := KeepsTime.of_changes (bootDraft_changes false (m' := 0xce7fefff) rfl (.refl _ u)) rfl
  unfold resetCores
  extract_lets a srcA b
  have ha : KeepsTime s a := hlost.trans (clearEngine_keepsTime _)
  have hb : KeepsTime a b := (hpower { a with drf := { a.drf with retained := none } }).after rfl
  exact (ha.trans hb).trans ((hsteward b).trans (hdraft _))

theorem advanceWarm_keepsTime (s : State) : KeepsTime s (advanceWarm s) := by
  unfold advanceWarm
  split
  · split <;> exact .of_tbs rfl
  · split
    · exact .of_tbs rfl
    · have hcores : KeepsTime s (resetCores (holdDdr s)) := (resetCores_keepsTime _).after rfl
      dsimp only
      split
      · exact hcores
      · exact hcores.trans ((KeepsTime.of_changes (powerForBoot_changes (m' := 0x43c2313) rfl (.refl _ _)) rfl).after rfl)
  · exact stepFive_keepsTime s
  · exact stepSix_keepsTime s
  · exact .of_changes (stepEight_changes (m' := 0xcefdefff) rfl (.refl _ s)) rfl
  · exact .of_changes (stepNine_changes (m' := 0xce7caffd) rfl (.refl _ s)) rfl
  · exact .refl s

theorem advance_keepsTime (s : State) : KeepsTime s (advance s) := by
  have hl : KeepsTime s (if s.vlt.state ≠ .hold && s.vlt.state ≠ .off then advanceLifeCycle s else s) := by
    split
    · exact .of_changes (advanceLifeCycle_changes (m' := 0xcefdefff) rfl (.refl _ s)) rfl
    · exact .refl s
  unfold advance
  extract_lets powered t
  split
  · exact hl
  · exact hl.trans (advanceWarm_keepsTime t)

theorem offBoot_keepsTime (s : State) : KeepsTime s (offBoot s) := by
  have hpower (u : State) := KeepsTime.of_changes (resetPower_changes (m' := 0xfe3fefff) rfl (.refl _ u)) rfl
  have hsteward (u : State) := KeepsTime.of_changes (stewardBoot_changes (m' := 0xcefdefff) rfl (.refl _ u)) rfl
  have hdraft (u : State) := KeepsTime.of_changes (bootDraft_changes false (m' := 0xce7fefff) rfl (.refl _ u)) rfl
  have hcold (u : State) : KeepsTime u (coldEngine u) := ⟨rfl, rfl, rfl, rfl⟩
  have hvault (u : State) := KeepsTime.of_changes (setVault_changes .notArmed (m' := 0x4c000020) rfl (.refl _ u)) rfl
  have hover (u : State) := KeepsTime.of_changes (vaultOver_changes (m' := 0x180020) rfl (.refl _ u)) rfl
  have hbegin (u : State) := KeepsTime.of_changes (beginBoot_changes (m' := 0x142300) rfl (.refl _ u)) rfl
  unfold offBoot
  extract_lets a srcA b srcB srcB' c d
  have ha : KeepsTime s a := .of_tbs rfl
  have hb : KeepsTime a b := ((hpower a).trans (hcold _)).trans ((hvault { coldEngine (resetPower a) with warm := {} }).after rfl)
  have hc : KeepsTime b c := (hover _).after rfl
  have hd : KeepsTime c d := ((hsteward c).trans (hdraft _)).trans (.of_tbs rfl)
  split
  · exact (((ha.trans hb).trans hc).trans hd).trans (hbegin d)
  · exact ((ha.trans hb).trans hc).trans hd

theorem owedBoot_keepsTime (s : State) : KeepsTime s (owedBoot s) := by
  unfold owedBoot
  split
  · dsimp only
    split
    · exact (offBoot_keepsTime _).after rfl
    · exact .of_tbs rfl
  · exact .refl s

theorem copyRuns_keepsTime (s : State) : KeepsTime s (copyRuns s) := by
  unfold copyRuns
  split
  · exact .refl s
  split
  · split
    · exact ⟨rfl, rfl, rfl, rfl⟩
    · exact .refl s
  split
  · exact ⟨rfl, rfl, rfl, rfl⟩
  · exact .refl s

/-- A tick counts the time on, and leaves the offset, the clock and its losses. -/
theorem tick_time (h : s.pwr.keeper = true) : (tick s).tbs.now = (s.tbs.now + 1) % 2 ^ 64 ∧
    (tick s).tbs.offset = s.tbs.offset ∧ (tick s).tbs.refclk = s.tbs.refclk ∧ (tick s).tbs.losses = s.tbs.losses := by
  have hleave (u : State) := KeepsTime.of_changes (leaveVerify_changes (m' := 0x80) rfl (.refl _ u)) rfl
  have hfill (u : State) := KeepsTime.of_changes (sampleFill_changes (m' := 0x2000000) rfl (.refl _ u)) rfl
  have hrails (u : State) := KeepsTime.of_changes (sampleRails_changes (m' := 0x4e000000) rfl (.refl _ u)) rfl
  have howed (u : State) := KeepsTime.of_changes (takeOwed_changes (m' := 0xce3defff) rfl (.refl _ u)) rfl
  have hk : KeepsTime (countTime s) (tick s) := by
    rw [tick, if_pos h]
    exact (((((((copyRuns_keepsTime _).trans (owedBoot_keepsTime _)).trans (hleave _)).trans (advance_keepsTime _)).trans
      (hfill _)).trans (hrails _)).trans (howed _))
  exact ⟨hk.now, hk.offset, hk.refclk, hk.losses⟩

/-! ### Time frames (R516) -/

/-- An aligned or a measured copy shows its deviation, and one that is loaded lies within 200 ns. -/
theorem meetMaster_tbs (s : State) : ∃ d, (meetMaster s).tbs = { s.tbs with
      deviation := d, loaded := true, measured := shownDeviation d, aligned := decide (d.natAbs ≤ 200) } ∧
    (s.tbs.loaded = false → d.natAbs ≤ 200) ∧ (s.tbs.loaded = true → d = s.tbs.deviation) := by
  unfold meetMaster
  split
  next hl => exact ⟨s.tbs.deviation, by rw [measureCopy, nearMaster, ← hl], fun h => by simp [h] at hl, fun _ => rfl⟩
  next hl => exact ⟨(Config.freeNat s.free % 401 : Nat) - (200 : Int), rfl, fun _ => by omega, fun h => absurd h hl⟩

/-! ### Monitors (R518 to R522) -/

theorem tget_clearMonitors (l : Table Monitor) (b : Option Nat) (h : keysUp b l = true) (k : Nat) :
    tget {} (l.filterMap (fun e => if e.2.cfg = 0 then none else some (e.1, clearedMonitor e.2.cfg))) k =
      clearedMonitor (tget {} l k).cfg := by
  induction l generalizing b with
  | nil => rfl
  | cons e l ih =>
    obtain ⟨n, m⟩ := e
    have hup : keysUp (some n) l = true := by
      simp only [keysUp, Bool.and_eq_true] at h
      exact h.2
    have hrest := ih (some n) hup
    by_cases hm : m.cfg = 0
    · rw [List.filterMap_cons_none (by simp [hm]), hrest, tget]
      by_cases hk : n < k
      · rw [if_neg (by omega), if_neg (by omega)]
      · rw [tget_above_up {} k l n hup (by omega)]
        split
        · rw [hm]
        · rw [if_pos (by omega)]
    · rw [List.filterMap_cons_some (b := (n, clearedMonitor m.cfg)) (by simp [hm]), tget, tget]
      split
      · rfl
      · split
        · rfl
        · exact hrest

end Time

/-- Settles O59. -/
theorem timebaseFollowsTheClock : Obligations.TimebaseFollowsTheClock := by
  refine ⟨⟨fun s hdr c hacc => ?_, fun s hdr c hacc => ?_, fun s p hk hclk hs hf => ?_, fun s hk hs hf => ?_, fun s hk hq => ?_⟩,
    fun s m k v hup hk hs => ?_, fun s m hup hs => ?_, fun s m b hup => ?_⟩
  · have hc := receive_frame (s := s) (hdr := hdr) .engine
    obtain ⟨d, hd, hnew, hold⟩ := meetMaster_tbs (receive .engine hdr s)
    rw [hc.tbs rfl] at hd hnew hold
    refine ⟨meetMaster (receive .engine hdr s), ?_, ?_⟩
    · change execTimeFrame hdr .pctrl c s = _
      rw [execTimeFrame, otherEnd, hacc]
      rfl
    · rw [hd]
      exact ⟨rfl, rfl, rfl, rfl, decide_eq_true_iff, hnew, hold,
        ((meetMaster_changes (m' := 0x81000000) rfl (.refl _ _)).cache rfl).trans (hc.cache rfl)⟩
  · have hc := receive_frame (s := s) (hdr := hdr) .pctrl
    refine ⟨{ receive .pctrl hdr s with tbs := { (receive .pctrl hdr s).tbs with correction := c } }, ?_, ?_, hc.cache rfl⟩
    · change execTimeFrame hdr .engine c s = _
      rw [execTimeFrame, otherEnd, hacc]
      rfl
    · rw [← hc.tbs rfl]
  · let t : State := { s with tbs := { s.tbs with refclk := p, offRate := p } }
    have hlock : (p && !p && s.warm.engineUp) = false := by cases p <;> rfl
    have hexec : exec (.refclkLoss p) s = .next (if s.tbs.offRate then t else
        pcFault 237 0 { t with tbs := { t.tbs with losses := satAdd 255 s.tbs.losses 1 } }) := by
      change execRefclkLoss p s = _
      rw [execRefclkLoss, if_pos (by simp [hk, hclk])]
    cases hoff : s.tbs.offRate
    case true =>
      rw [hoff, if_pos rfl] at hexec
      exact ⟨t, hexec, rfl, rfl, hlock, fun h => absurd h (by simp)⟩
    case false =>
      rw [hoff, if_neg (by simp)] at hexec
      let u : State := { t with tbs := { t.tbs with losses := satAdd 255 s.tbs.losses 1 } }
      have hc := pcFault_changes 237 0 (m' := 0xce3defff) rfl (.refl _ u)
      refine ⟨_, hexec, ?_, ?_, ?_, fun _ => ⟨?_, pcFault_inFault (s := u) 0 hs.sources (by decide) hf (by decide)⟩⟩
      · exact congrArg TbsSt.refclk (hc.tbs rfl)
      · exact (congrArg TbsSt.now (hc.tbs rfl)).trans (rfl : u.tbs.now = s.tbs.now)
      · have hl : tbsLocked (pcFault 237 0 u) = (p && !p && (pcFault 237 0 u).warm.engineUp) := by rw [tbsLocked, hc.tbs rfl]
        rw [hl]
        cases p <;> rfl
      · exact congrArg TbsSt.losses (hc.tbs rfl)
  · let u : State := { s with tbs := { s.tbs with refclk := true, offRate := false } }
    have hc := pcClear_quiet (s := u) 237 hs.sources
    refine ⟨pcClear 237 u, ?_, hc.tbs rfl, pcClear_inFault (s := u) hs.sources (by decide) hf, hc.cache rfl⟩
    change execRefclkReturn s = _
    rw [execRefclkReturn, if_pos hk]
  · obtain ⟨hnow, hoff, hclk, hloss⟩ := tick_time hk
    refine ⟨tick s, ?_, hnow, hoff, hclk, hloss⟩
    exact step_nil hq
  · have hclear : writeMonCfg k v.toNat s = { s with mon := { s.mon with
        mons := tput {} k (clearedMonitor v.toNat) s.mon.mons } } := rfl
    refine ⟨writeMonCfg k v.toNat s, ?_, ?_, fun j hj => ?_, rfl⟩
    · change execMonCfgWrite m k v s = _
      rw [execMonCfgWrite, if_pos (by simp [hup, hk])]
    · exact tget_tput_up {} _ k _ _ hs.monitors
    · exact tget_tput_up_ne {} _ k j hj _ _ hs.monitors
  · refine ⟨clearMonitors s, ?_, fun k => tget_clearMonitors s.mon.mons none hs.monitors k, rfl⟩
    change execMonClearAll m s = _
    rw [execMonClearAll, if_pos hup]
  · change execMonFreeze m b s = _
    rw [execMonFreeze, if_pos hup]

end Sys2Proof.Machine

/-! PROOFS. Statements that fail where the sources table of an unsound state lists a source twice, or whose pairs are missing. -/

namespace Sys2Proof.Machine

section UnsoundStates

/-- A record of each source with severity 1 and the store gauge, unit 42, as its unit. -/
def gaugeFaults : List FaultRec := List.replicate 256 { sev := 1, unit := 42, alert := false, set := 255 }

/-- A record of each source with severity 1 and the CXL port, unit 1, as its unit. -/
def portFaults : List FaultRec := List.replicate 256 { sev := 1, unit := 1, alert := false, set := 255 }

/-- A sources table, which is not sound, that lists source `n` twice, the second time in fault with its severity raised to `v`. -/
def twice (n v : Nat) : Table Source := [(n, {}), (n, { t := true, sevUp := some v })]

/-! ### HEDDLE_LINK_UP (O52) -/

/-- The link is down, domains 1 and 2 are good, and source 198 is listed twice at S3. -/
def downTwice : State :=
  { State.reset with
    pwr := { State.reset.pwr with keeper := true, doms := [{}, { good := true }, { good := true }] }
    vlt := { State.reset.vlt with state := .armed }
    flt := { State.reset.flt with sources := twice 198 3 } }

/-- Whether the vault confirms at the link's return. -/
def confirmsAtReturn (s : State) : Option Bool :=
  match exec .heddleLinkUp s with
  | .next t => some t.vlt.confirming
  | _ => none

theorem confirmsAtReturn_downTwice : confirmsAtReturn downTwice = some true := by decide +kernel

/-! ### CELL_SCAN (O45) -/

/-- Each source has severity 1 by the draft, and source 202 is listed twice at S2. -/
def scanTwice : State :=
  { State.reset with
    pwr := { State.reset.pwr with keeper := true }
    drf := { State.reset.drf with active := some { draftOf (fun _ => 0) with faults := gaugeFaults } }
    flt := { State.reset.flt with sources := twice 202 2 } }

/-- The stack voltage after a scan that reads 1. -/
def stackAfterScan (s : State) : Option Nat :=
  match exec (.cellScan [] 1 []) s with
  | .next t => some t.cell.stackMv
  | _ => none

theorem stackAfterScan_scanTwice : stackAfterScan scanTwice = some 0 := by decide +kernel

/-! ### HOLDUP_TEST (O39) -/

/-- The open-switch check stands with the switch forced, and source 238 is listed twice at S4. -/
def checkTwice : State :=
  { State.reset with
    pwr := { State.reset.pwr with keeper := true, huMode := .forced, huChecking := true }
    vin := { State.reset.vin with good := true }
    drf := { State.reset.drf with active := some { draftOf (fun _ => 0) with faults := [] } }
    flt := { State.reset.flt with sources := twice 238 4 } }

/-- The mode of the hold-up switch after a check that finds a difference and no short. -/
def switchAfterCheck (s : State) : Option HuMode :=
  match exec (.holdupTest (.check true 0)) s with
  | .next t => some t.pwr.huMode
  | _ => none

theorem switchAfterCheck_checkTwice : switchAfterCheck checkTwice = some .closed := by decide +kernel

/-! ### COMPENSATION_TICK (O47) -/

/-- Three sensors of zone 3 are read, a read waits, and source 225 is listed twice at S2. -/
def compensateTwice : State :=
  { State.reset with
    pwr := { State.reset.pwr with keeper := true }
    thm := { State.reset.thm with sensors := [(12, { seen := true }), (13, { seen := true }), (14, { seen := true })] }
    cache := { State.reset.cache with waiting := [.write { tag := 0, dpa := 0, data := 0, be := 0, poison := false, order := 0 }] }
    drf := { State.reset.drf with active := some { draftOf (fun _ => 0) with faults := portFaults } }
    flt := { State.reset.flt with sources := twice 225 2 } }

/-- The requests that wait after a compensation tick. -/
def waitingAfterCompensation (s : State) : Option (List HostReq) :=
  match exec .compensationTick s with
  | .next t => some t.cache.waiting
  | _ => none

theorem waitingAfterCompensation_compensateTwice : waitingAfterCompensation compensateTwice = some [] := by decide +kernel

/-! ### DRAFT_CRC_REPLY (O49) -/

/-- Section 0 has failed twice while the draft of that one section is streamed, and no control pair stands. -/
def noPairs : State :=
  { State.reset with
    hdlP := { State.reset.hdlP with up := true }
    sel := { State.reset.sel with pairs := [] }
    drf := { State.reset.drf with
      active := some { draftOf (fun _ => 0) with engine := [(0, 0, 0, 0)], faults := [] }, stream := .streaming, fails := [(0, 2)] } }

/-- The header of the frame that the power controller awaits. -/
def firstHeader : FrameHdr := { seq := 0, ack := 0, nak := false, valid := true }

/-- Whether HOLD is active after a third wrong CRC. -/
def holdsAfterReply (s : State) : Option Bool :=
  match exec (.draftCrcReply firstHeader 0 1) s with
  | .next t => some (pairActive .hold t)
  | _ => none

theorem holdsAfterReply_noPairs : holdsAfterReply noPairs = some false := by decide +kernel

end UnsoundStates

/-- Refutes O52: the clause of HEDDLE_LINK_UP is about every state, sound or not. Where the table lists source 198 twice, the end of
its fault takes the first record, the default now, out of the table, the second one is read, and the source enters fault: at S3
it confirms a vault. -/
theorem not_linkAcknowledgesAndResends : ¬ Obligations.LinkAcknowledgesAndResends := by
  rintro ⟨-, -, -, -, -, -, hup, -⟩
  obtain ⟨t, ht, -, -, -, -, -, -, hvlt⟩ := hup downTwice (by decide +kernel) rfl (by decide +kernel)
  have h := confirmsAtReturn_downTwice
  rw [confirmsAtReturn, ht] at h
  simp [hvlt, downTwice, State.reset] at h

/-- Refutes O45: the clause of CELL_SCAN is about every state, sound or not. Where the table lists source 202 twice, the end of its
fault takes the first record out of the table, and the second one, whose severity is 2 while the scan's hypothesis reads the first
one's, resets the store gauge with the reading of the stack. -/
theorem not_cellsChargeAndExercise : ¬ Obligations.CellsChargeAndExercise := by
  rintro ⟨hscan, -⟩
  obtain ⟨t, ht, -, hmv, -⟩ := hscan scanTwice [] 1 [] rfl (by simp [scanTwice]) (by decide +kernel)
  have h := stackAfterScan_scanTwice
  rw [stackAfterScan, ht] at h
  simp [hmv] at h

/-- Refutes O39: the clause that HOLDUP_TEST leaves a switch that is not open is about every state, sound or not. Where the table lists
source 238 twice, the end of its fault takes the first record out of the table, and the second one, at S4, is belay, which closes
the switch. -/
theorem not_busFaultsAndShedding : ¬ Obligations.BusFaultsAndShedding := by
  rintro ⟨-, -, -, -, hcheck, -⟩
  obtain ⟨t, ht, hmode, -⟩ := hcheck checkTwice true 0 rfl rfl (by decide +kernel) (by decide +kernel) (by decide +kernel)
  have h := switchAfterCheck_checkTwice
  rw [switchAfterCheck, ht] at h
  simp [hmode, checkTwice] at h

/-- Refutes O47: the clause of COMPENSATION_TICK with three readings is about every state, sound or not. Where the table lists source 225
twice, the end of its fault takes the first record out of the table, and the second one, at S2, resets its unit: with the CXL port
as that unit, the requests that wait are dropped. -/
theorem not_sensorsAreSampledAndBreak : ¬ Obligations.SensorsAreSampledAndBreak := by
  rintro ⟨-, -, -, -, hcomp, -⟩
  obtain ⟨t, ht, -, hcache⟩ := hcomp compensateTwice rfl (by decide +kernel)
  have h := waitingAfterCompensation_compensateTwice
  rw [waitingAfterCompensation, ht] at h
  simp [hcache, compensateTwice] at h

/-- Refutes O49: the clause of DRAFT_CRC_REPLY that HOLD is active is about every state, sound or not. Where the table of the control
pairs is empty, no pair is active after the third failure. -/
theorem not_draftsAreJudgedAndStreamed : ¬ Obligations.DraftsAreJudgedAndStreamed := by
  rintro ⟨-, -, -, hreply, -⟩
  obtain ⟨t, ht, -, -, -, hhold, -⟩ := hreply noPairs firstHeader { draftOf (fun _ => 0) with engine := [(0, 0, 0, 0)], faults := [] }
    0 0 0 0 1 (by decide +kernel) rfl rfl (by decide) rfl (by decide +kernel) (by decide +kernel) (by decide +kernel)
  have h := holdsAfterReply_noPairs
  rw [holdsAfterReply, ht] at h
  simp [hhold] at h

end Sys2Proof.Machine

/-! PROOFS. The trouble log (13_faults_and_belay.md) and the rail link's commands at the power controller (08_engine_and_rail_link.md). -/

namespace Sys2Proof.Machine

section TroubleLog
variable {s : State}

/-- What a record adds to the log (R435). -/
theorem logEntry_eq (code source flags d0 d1 : Nat) (s : State) : logEntry code source flags d0 d1 s = { s with
    log := { s.log with
      ring := ({ ts := now s, code := code, source := source, flags := flags, seq := s.log.seq, data0 := d0 % 2 ^ 64,
                 data1 := d1 % 2 ^ 32, state := logState s } :: s.log.ring).take 4096
      head := (s.log.head + 1) % 4096, seq := (s.log.seq + 1) % 2 ^ 32
      lost := if s.log.ring.length + 1 ≤ 4096 then s.log.lost else satAdd max32 s.log.lost 1 } } := rfl

theorem foldl_logEntry (l : List (Nat × Nat)) (s : State) :
    ∃ g, l.foldl (fun s e => logEntry 3 e.1 0 e.2 0 s) s = { s with log := g } := by
  induction l generalizing s with
  | nil => exact ⟨_, rfl⟩
  | cons e l ih => exact (ih _).imp fun g h => h

theorem receive_log (e : End) (hdr : FrameHdr) (s : State) : (receive e hdr s).log = s.log :=
  (receive_changes e hdr (m' := 0x4c000000) rfl (.refl _ s)).log rfl

end TroubleLog

/-- Settles O35. -/
theorem logKeepsSequence : Obligations.LogKeepsSequence := by
  refine ⟨fun s v hk => ?_, fun s hk => ?_, fun s hdr ts code source flags d0 d1 st hacc hfl hnew => ?_,
    fun s hdr ts code source flags d0 d1 st hold => ?_, fun s hdr a b c d hacc => ?_⟩
  · have hexec : exec (.logMark v) s = .next (logEntry 0xD 0xFF 0 v.toNat 0 s) := by
      change execLogMark v s = _
      rw [execLogMark, logMarkOp, if_pos hk]
      rfl
    rw [logEntry_eq] at hexec
    exact ⟨_, _, hexec, rfl, rfl, Nat.mod_eq_of_lt (Nat.lt_trans v.isLt (by decide)), rfl, rfl, rfl, rfl⟩
  · have hexec : exec .logSecondEnd s = .next (
        let t := s.log.suppressed.foldl (fun s e => logEntry 3 e.1 0 e.2 0 s) s
        { t with log := { t.log with written := [], suppressed := [] } }) := by
      change execLogSecondEnd s = _
      rw [execLogSecondEnd, if_pos hk]
    refine ⟨_, hexec, rfl, rfl, ?_, fun n k h => ?_⟩
    · obtain ⟨g, hg⟩ := foldl_logEntry s.log.suppressed s
      simp only [hg]
    · rw [h, List.foldl_cons, List.foldl_nil, logEntry_eq]
      exact ⟨_, rfl, rfl, rfl, rfl⟩
  · have hring : (receive .pctrl hdr s).log = s.log := receive_log ..
    have hbit : bitOf flags 3 = false := by
      simp [bitOf, Nat.div_eq_of_lt hfl]
    have hany : (receive .pctrl hdr s).log.ring.any (fun e => e.ts = ts && e.code = code && e.source = source) = false := by
      rw [hring]
      simpa using hnew
    have hexec : exec (.logFrame hdr (.entry ts code source flags d0 d1 st)) s = .next (pushEntry
        { ts := ts, code := code, source := source, flags := flags + 8, seq := 0, data0 := d0, data1 := d1, state := st }
        (receive .pctrl hdr s)) := by
      change execLogFrame hdr (.entry ts code source flags d0 d1 st) s = _
      simp [execLogFrame, hacc, hany, hbit]
    refine ⟨_, hexec, ?_⟩
    simp only [pushEntry, hring]
  · have hring : (receive .pctrl hdr s).log = s.log := receive_log ..
    have hany : (receive .pctrl hdr s).log.ring.any (fun e => e.ts = ts && e.code = code && e.source = source) = true := by
      rw [hring]
      simpa [and_assoc] using hold
    have hexec : exec (.logFrame hdr (.entry ts code source flags d0 d1 st)) s = .next (receive .pctrl hdr s) := by
      change execLogFrame hdr (.entry ts code source flags d0 d1 st) s = _
      simp [execLogFrame, hany]
    exact ⟨_, hexec, hring⟩
  · have hexec : exec (.knotPointerFrame hdr a b c d) s = .next (
        let t := receive .pctrl hdr s
        if a + c = 2 ^ 64 - 1 ∧ b + d = 2 ^ 64 - 1 then { t with log := { t.log with knotPtr := some (a, b) } } else t) := by
      change execKnotPointerFrame hdr a b c d s = _
      rw [execKnotPointerFrame, hacc]
      by_cases h : a + c = 2 ^ 64 - 1 ∧ b + d = 2 ^ 64 - 1
      · simp [h]
      · simp only [if_neg h, Bool.true_and, Bool.and_eq_true, decide_eq_true_eq]
    refine ⟨_, hexec, fun h => ?_, fun h => ?_⟩
    · rw [if_pos h]
    · rw [if_neg h]
      exact congrArg LogSt.knotPtr (receive_log ..)

section RailCommands
variable {s : State} {w : Word}

theorem cmdSeq_eq (n : Nat) : cmdSeq n = n / 2 ^ 24 % 16 := rfl

/-- The state that a frame on VCMD leaves to the command in it, where no fallback is to be ended. -/
theorem vcmdFrame_taken {x : RailShape} (hx : frameWhole x = true) (hd : vcmdDecoded s = true) (hf : s.vcore.fallback = false) (i : Nat) :
    vcmdFrame w (~~~w) x i s = (
      let u : State := { s with vcore := { s.vcore with iout := i } }
      if s.vcore.lastWord = some w.toNat ∧ w.toNat / 2 ^ 28 % 16 ≠ 3 then repeatAck w.toNat u else takeCommand w.toNat u) := by
  have ht : frameTaken w (~~~w) x = true := by simp [frameTaken, hx]
  simp [vcmdFrame, hd, ht, hf]

/-- The fields of an acknowledge (R281). -/
theorem ackWord_fields {status : Nat} (hs : status < 16) (q v : Nat) (s : State) :
    ackWord status q v s / 2 ^ 28 = status ∧ ackWord status q v s / 2 ^ 24 % 16 = q % 16 ∧
      ackWord status q v s / 2 ^ 16 % 128 = s.vcore.iout % 128 ∧ ackWord status q v s / 256 % 256 = v % 256 ∧
      ackWord status q v s % 256 = s.vcore.target % 256 := by
  have hb : b01 (s.vcore.wasFallback || s.vcore.fallback) ≤ 1 := by
    unfold b01
    split <;> omega
  unfold ackWord
  generalize b01 _ = b at hb ⊢
  refine ⟨?_, ?_, ?_, ?_, ?_⟩ <;> omega

theorem sendAck_sends (status q v : Nat) (s : State) :
    (sendAck status q v s).sent = .acknowledge (ackWord status q v s) :: s.sent ∧
    (sendAck status q v s).vcore = { s.vcore with
      lastAck := if s.vcore.lastWord.map cmdSeq = some q then some status else s.vcore.lastAck, wasFallback := false } := by
  simp [sendAck, emit]

/-- What an acknowledge with the voltage measured sends and leaves (R281). -/
theorem sendMeasured_sends (status q : Nat) (s : State) : ∃ v, (s.vcore.slewing = none → v = s.vcore.vout) ∧
    (sendMeasured status q s).sent = .acknowledge (ackWord status q v s) :: s.sent ∧
    (sendMeasured status q s).vcore.target = s.vcore.target ∧ (sendMeasured status q s).vcore.vout = s.vcore.vout ∧
    (sendMeasured status q s).vcore.slewing = s.vcore.slewing := by
  unfold sendMeasured
  split
  next h =>
    have hne : s.vcore.slewing ≠ none := by simpa [Option.isSome_iff_ne_none] using h
    exact ⟨reached s, fun h => absurd h hne, rfl, rfl, rfl, rfl⟩
  · exact ⟨s.vcore.vout, fun _ => rfl, rfl, rfl, rfl, rfl⟩

end RailCommands

/-- Settles O36. -/
theorem railCommandsAreAcknowledged : Obligations.RailCommandsAreAcknowledged := by
  refine ⟨fun s w x i hx hd ht hbad hf hlast => ?_, fun s w x i hx hd ht hc hslew hf hlast hidle hv => ?_,
    fun s w x i hx hd ht hf => ?_, fun s w x i hx hd ht hf => ?_, fun s w c x i hd hc => ?_, fun s q i hsl hon hq => ?_⟩
  · let u : State := noteWord w.toNat { s with vcore := { s.vcore with iout := i } }
    have hbits : bitsOf w.toNat 17 16 = w.toNat / 2 ^ 16 % 4 := rfl
    have hexec : exec (.set w (~~~w) x i) s = .next (sendMeasured 2 (cmdSeq w.toNat) u) := by
      change Host.Outcome.next (vcmdFrame w (~~~w) x i s) = _
      rw [vcmdFrame_taken hx hd hf]
      simp only [hlast, false_and, if_false, takeCommand, ht, hbits, Nat.reduceMod, if_true, if_pos hbad]
      rfl
    obtain ⟨v, -, hsent, htarget, hvout, hslewing⟩ := sendMeasured_sends 2 (cmdSeq w.toNat) u
    obtain ⟨h28, h24, h16, -, -⟩ := ackWord_fields (by decide : 2 < 16) (cmdSeq w.toNat) v u
    exact ⟨_, _, hexec, hsent, h28, by rw [h24, cmdSeq_eq, Nat.mod_mod], h16, htarget, hvout, hslewing⟩
  · have hbits : bitsOf w.toNat 17 16 = w.toNat / 2 ^ 16 % 4 := rfl
    have hgood : ¬ (180 < w.toNat % 256 ∨ w.toNat / 2 ^ 16 % 4 = 3) := by omega
    have hexec : exec (.set w (~~~w) x i) s = .next { s with vcore := { s.vcore with
        iout := i, lastWord := some w.toNat, lastAck := none, target := w.toNat % 256, slew := w.toNat / 2 ^ 16 % 4,
        slewing := some (cmdSeq w.toNat) } } := by
      change Host.Outcome.next (vcmdFrame w (~~~w) x i s) = _
      rw [vcmdFrame_taken hx hd hf]
      simp only [hlast, false_and, if_false, takeCommand, ht, hbits, Nat.reduceMod, if_true, if_neg hgood, takeSet, displace, noteWord,
        hidle, if_neg hv]
    exact ⟨_, hexec, rfl, rfl, congrArg some (cmdSeq_eq _), rfl⟩
  · let u : State := { s with vcore := { s.vcore with iout := i } }
    have hsum (t : State) (h : t.vcore = u.vcore ∨ t.vcore = { u.vcore with lastWord := some w.toNat, lastAck := none }) (ht : t.sent = s.sent)
        (hexec : exec (.query w (~~~w) x i) s = .next (sendMeasured 4 (cmdSeq w.toNat) t)) :
        ∃ t a, exec (.query w (~~~w) x i) s = .next t ∧ t.sent = .acknowledge a :: s.sent ∧ a / 2 ^ 28 = 4 ∧
          a / 2 ^ 24 % 16 = w.toNat / 2 ^ 24 % 16 ∧ a / 2 ^ 16 % 128 = i % 128 ∧
          (s.vcore.slewing = none → a / 256 % 256 = s.vcore.vout % 256) ∧ a % 256 = s.vcore.target % 256 := by
      obtain ⟨v, hv, hsent, -⟩ := sendMeasured_sends 4 (cmdSeq w.toNat) t
      obtain ⟨h28, h24, h16, h8, h0⟩ := ackWord_fields (by decide : 4 < 16) (cmdSeq w.toNat) v t
      have hf : t.vcore.iout = i ∧ t.vcore.target = s.vcore.target ∧ t.vcore.vout = s.vcore.vout ∧ t.vcore.slewing = s.vcore.slewing := by
        rcases h with h | h <;> rw [h] <;> exact ⟨rfl, rfl, rfl, rfl⟩
      obtain ⟨hi, htarget, hvout, hslewing⟩ := hf
      refine ⟨_, _, hexec, by rw [hsent, ht], h28, by rw [h24, cmdSeq_eq, Nat.mod_mod], by rw [h16, hi], fun h => ?_, by rw [h0, htarget]⟩
      rw [h8, hv (hslewing.trans h), hvout]
    by_cases hl : s.vcore.lastWord = some w.toNat
    · refine hsum u (.inl rfl) rfl ?_
      change Host.Outcome.next (vcmdFrame w (~~~w) x i s) = _
      rw [vcmdFrame_taken hx hd hf]
      simp only [ht, hl, true_and, repeatAck, Nat.reduceMod, if_true, u]
      rfl
    · refine hsum (noteWord w.toNat u) (.inr rfl) rfl ?_
      change Host.Outcome.next (vcmdFrame w (~~~w) x i s) = _
      rw [vcmdFrame_taken hx hd hf]
      simp only [ht, hl, false_and, takeCommand, Nat.reduceMod, if_true, if_false, u]
      rfl
  · change Host.Outcome.next (vcmdFrame w (~~~w) x i s) = _
    rw [vcmdFrame_taken hx hd hf]
    simp only [ht, takeCommand, noteWord, Nat.reduceMod, ne_eq, not_true_eq_false, and_false, if_false, Nat.reduceEqDiff, if_true]
  · change Host.Outcome.next (vcmdFrame w c x i s) = _
    simp [vcmdFrame, hd, hc]
  · let u : State := modDom 1 (fun x => { x with vout := domTarget 1 { s with
      vcore := { s.vcore with slewing := none, vout := s.vcore.target, iout := i } }, iout := 5 * i })
      { s with vcore := { s.vcore with slewing := none, vout := s.vcore.target, iout := i } }
    have hexec : exec (.slewSettled i) s = .next (sendAck 0 q s.vcore.target u) := by
      change execSlewSettled i s = _
      rw [execSlewSettled, hsl]
      exact if_pos hon
    obtain ⟨hsent, hvcore⟩ := sendAck_sends 0 q s.vcore.target u
    obtain ⟨h28, h24, h16, -, -⟩ := ackWord_fields (by decide : 0 < 16) q s.vcore.target u
    refine ⟨_, ackWord 0 q s.vcore.target u, hexec, hsent, h28, h24.trans (Nat.mod_eq_of_lt hq), h16, ?_⟩
    rw [hvcore]
    exact ⟨rfl, rfl, rfl⟩

end Sys2Proof.Machine

/-! PROOFS. The engine's end of the rail link: retries, fallback, the governor's loop (08_engine_and_rail_link.md). -/

namespace Sys2Proof.Machine

section RailEngine
variable {s t : State}

theorem setting_congr (h : t.drf = s.drf) (n : Nat) : setting t n = setting s n := by rw [setting, h, ← setting]

theorem loopSetpoint_congr (hd : t.drf = s.drf) (hr : t.rail = s.rail) (n : Nat) : loopSetpoint n t = loopSetpoint n s := by
  rw [loopSetpoint, hr, setting_congr hd, setting_congr hd, ← loopSetpoint]

theorem nextSeq_lt (s : State) : nextSeq s < 16 := by
  unfold nextSeq
  split <;> omega

theorem not_mem_engineLive_engineClear {n : Nat} (h : tfind s.flt.engineBroken n = none) : n ∉ (engineClear n s).flt.engineLive := by
  unfold engineClear
  split
  · rw [sendFrame_flt]
    simp [dropFrom]
  next hc => simpa [h] using hc

/-- What a command word sent leaves (R281). -/
theorem sendSet_eq (x : Nat) (s : State) : ∃ q k n : Nat, sendSet x s = { s with
    sent := .command (setWord q (setting s P.railSlew) x) :: s.sent
    rail := { s.rail with
      setpoint := x, cmds := k, seq := n, first := false
      outstanding := (setWord q (setting s P.railSlew) x, 1) :: s.rail.outstanding } } :=
  ⟨_, _, _, rfl⟩

/-- What a query sent leaves (R281). -/
theorem sendQuery_eq (s : State) : ∃ w n : Nat, w / 2 ^ 28 = 2 ∧ sendQuery s = { s with
    sent := .command w :: s.sent
    rail := { s.rail with seq := n, first := false, outstanding := (w, 1) :: s.rail.outstanding } } := by
  refine ⟨queryWord (nextSeq s), _, ?_, rfl⟩
  have hq := nextSeq_lt s
  rw [queryWord]
  omega

/-- What an acknowledge tells of the rail (R281). -/
theorem noteAck_rail (w : Nat) (s : State) :
    (noteAck w s).rail.vout = w / 256 % 256 ∧ (noteAck w s).rail.iout = w / 65536 % 128 := by
  simp [noteAck, bitsOf]

/-- The step of R293 lies in its bounds and is not 0 where something is left to engage. -/
theorem engageLimit_spec {total : Int} (ht : total ≠ 0) (hs : 0 < setting s P.engageStep) :
    engageLimit total s ≠ 0 ∧ engageLimit total s ≤ setting s P.engageStep ∧ -40 ≤ engageLimit total s := by
  unfold engageLimit
  dsimp only
  split
  · omega
  · split <;> omega

/-- A window of the governor in a vault that changes the setpoint (R290). -/
theorem execLoopWindowExpiry_steps {n slack p c x : Nat} (hon : s.rail.loopOn = true) (hup : s.warm.engineUp = true)
    (hst : s.vlt.state = .drain) (hno : s.rail.outstanding = [])
    (hc : (if n = 0 && decide (setting s P.slackDown ≤ slack) then Nat.min 4 (s.rail.calm + 1) else 0) = c)
    (hx : loopSetpoint n { s with rail := { s.rail with calm := c, pace := p } } = x) (hne : x ≠ s.rail.setpoint) :
    ∃ t q, exec (.loopWindowExpiry n slack p) s = .next t ∧ t.rail.setpoint = x ∧ t.rail.calm = c ∧ t.rail.pace = p ∧
      t.sent = .command (setWord q (setting s P.railSlew) x) :: s.sent := by
  have hl : loopStates s = true := by simp [loopStates, hst]
  let u : State := { s with rail := { s.rail with calm := c, pace := p } }
  have hch := sample_changes 10 0 p (m' := 0x2000000) rfl (.refl _ u)
  have hu : (sample 10 0 p u).rail = u.rail := hch.rail rfl
  have hd : (sample 10 0 p u).drf = s.drf := hch.drf rfl
  have hsp : loopSetpoint n (sample 10 0 p u) = x := (loopSetpoint_congr (s := u) hd hu n).trans hx
  have hexec : exec (.loopWindowExpiry n slack p) s = .next (sendSet x (sample 10 0 p u)) := by
    change execLoopWindowExpiry n slack p s = _
    rw [execLoopWindowExpiry, hon, hup, hl, if_pos (by rfl), hc]
    refine (if_neg ?_).trans (by rw [hsp])
    rw [hsp, hu]
    simpa [u, hno] using hne
  obtain ⟨q, k, n, hsend⟩ := sendSet_eq x (sample 10 0 p u)
  rw [hsend, setting_congr (s := s) hd, hu, hch.sent rfl] at hexec
  exact ⟨_, q, hexec, rfl, rfl, rfl, rfl⟩

end RailEngine

/-- Settles O37. -/
theorem railLinkRetriesAndGoverns : Obligations.RailLinkRetriesAndGoverns := by
  refine ⟨⟨fun s w ho hl => ?_, fun s q h => ?_, fun s w ho hl => ?_, fun s w c x hup hc => ?_, fun s w x hx hup hl hloop hb => ?_,
    fun s hup hl => ?_, fun s hon hf hsl hsev hd => ?_⟩, fun s n slack p hon hup hst hn hno hlt hstep => ?_,
    fun s slack p hon hup hst hsl hcalm hno hmin => ?_, fun s d hup hne hstep => ?_⟩
  · change execRailAckTimeout (cmdSeq w) s = _
    simp [execRailAckTimeout, ho, hl, emit]
  · change execRailAckTimeout q s = _
    have hnone : s.rail.outstanding.find? (fun c => cmdSeq c.1 = q) = none := by simpa using h
    rw [execRailAckTimeout, hnone]
  · have hexec : exec (.railAckTimeout (cmdSeq w)) s = .next (engineFault 57 0 { s with
        rail := { s.rail with linkDown := true, loopOn := false, outstanding := [] } }) := by
      change execRailAckTimeout (cmdSeq w) s = _
      simp [execRailAckTimeout, ho, hl, railLinkDown]
    have hch := engineFault_changes 57 0 (m' := 0x4c0c0020) rfl (.refl _ { s with
        rail := { s.rail with linkDown := true, loopOn := false, outstanding := [] } })
    have hr := hch.rail rfl
    exact ⟨_, hexec, by rw [hr], by rw [hr], by rw [hr], mem_engineLive_engineFault 0 rfl, by rw [hr], hch.cache rfl⟩
  · change execRailAck w c x s = _
    simp [execRailAck, hup, hc]
  · have ht : frameTaken w (~~~w) x = true := by simp [frameTaken, hx]
    obtain ⟨hvout, hiout⟩ := noteAck_rail w.toNat s
    obtain ⟨v, hv, hdown, hbroken, hdrf, hvlt⟩ : ∃ v, v = noteAck w.toNat s ∧ v.rail.linkDown = true ∧
        v.flt.engineBroken = s.flt.engineBroken ∧ v.drf = s.drf ∧ v.vlt = s.vlt := ⟨_, rfl, hl, rfl, rfl, rfl⟩
    rw [← hv] at hvout hiout
    obtain ⟨u, hu⟩ : ∃ u : State, u = engineClear 57 { v with rail := { v.rail with linkDown := false } } := ⟨_, rfl⟩
    have hch : Changes 0x4c040000 { v with rail := { v.rail with linkDown := false } } u := by
      rw [hu]
      exact engineClear_changes 57 (m' := 0x4c040000) rfl (.refl _ _)
    have hlive : 57 ∉ u.flt.engineLive := by
      rw [hu]
      exact not_mem_engineLive_engineClear (by rwa [hbroken])
    have hr : u.rail = { v.rail with linkDown := false } := hch.rail rfl
    have hloop' : loopStates u = false := by rwa [loopStates, hch.vlt rfl, hvlt]
    have hset (r : RailSt) : setting { u with rail := r } P.vcoreNormal = setting s P.vcoreNormal :=
      setting_congr ((hch.drf rfl).trans hdrf) _
    have hexec : exec (.railAck w (~~~w) x) s = .next (sendSet (setting s P.vcoreNormal) { u with
        rail := { u.rail with loopOn := false } }) := by
      change execRailAck w (~~~w) x s = _
      rw [execRailAck, if_neg (by simp [hup]), if_neg (by simp [ht]), ← hv]
      simp only [hdown, if_true, ← hu, hloop', Bool.false_eq_true, if_false, normalSetpoint, hr, hset]
    obtain ⟨q, k, n, hsend⟩ := sendSet_eq (setting s P.vcoreNormal) { u with rail := { u.rail with loopOn := false } }
    rw [hsend] at hexec
    exact ⟨_, hexec, congrArg RailSt.linkDown hr, hlive, rfl, (congrArg RailSt.vout hr).trans hvout,
      (congrArg RailSt.iout hr).trans hiout⟩
  · obtain ⟨w, q, hw, hsend⟩ := sendQuery_eq s
    have hexec : exec .railIdleQuery s = .next (sendQuery s) := by
      change execRailIdleQuery s = _
      simp [execRailIdleQuery, hup, hl]
    rw [hsend] at hexec
    exact ⟨_, w, hexec, rfl, hw, rfl, rfl⟩
  · let x := Nat.max s.vcore.target (setting s P.vfall)
    have hexec : exec .railFallback s = .next (pcFault 197 0 { s with vcore := { s.vcore with fallback := true, target := x, vout := x } }) := by
      change execRailFallback s = _
      simp [execRailFallback, hon, hf, hsl, x]
    have hfault : SourcesOnly _ (pcFault 197 0 { s with vcore := { s.vcore with fallback := true, target := x, vout := x } }) :=
      pcFault_quiet 0 ⟨hsev, .inl hd⟩
    have hv := hfault.changes.vcore rfl
    exact ⟨_, hexec, by rw [hv], by rw [hv], by rw [hv]⟩
  · have hx : loopSetpoint n { s with rail := { s.rail with calm := 0, pace := p } } =
        Nat.min 180 (s.rail.setpoint + setting s P.upStep) := if_pos hn
    have hc : (if n = 0 && decide (setting s P.slackDown ≤ slack) then Nat.min 4 (s.rail.calm + 1) else 0) = 0 := by
      rw [if_neg (by simp; omega)]
    obtain ⟨t, q, hexec, hsp, hcalm, hpace, hsent⟩ := execLoopWindowExpiry_steps hon hup hst hno hc hx
      (Nat.ne_of_gt (Nat.lt_min.2 ⟨hlt, Nat.lt_add_of_pos_right hstep⟩))
    exact ⟨t, q, hexec, hsp, by rw [hsent, hsp], hcalm, hpace⟩
  · have hc : (if 0 = 0 && decide (setting s P.slackDown ≤ slack) then Nat.min 4 (s.rail.calm + 1) else 0) = 4 := by
      rw [if_pos (by simpa using hsl)]
      exact Nat.min_eq_left (by omega)
    have hx : loopSetpoint 0 { s with rail := { s.rail with calm := 4, pace := p } } = s.rail.setpoint - 1 := by
      refine (if_neg (Nat.lt_irrefl 0)).trans ((if_pos (Nat.le_refl 4)).trans ?_)
      exact Nat.max_eq_right (Nat.le_sub_one_of_lt hmin)
    obtain ⟨t, q, hexec, hsp, hcalm, -, -⟩ := execLoopWindowExpiry_steps hon hup hst hno hc hx (by omega)
    exact ⟨t, hexec, hsp, hcalm⟩
  · obtain ⟨h0, hmax, hmin⟩ := engageLimit_spec hne hstep
    have hexec : exec (.engageStep d) s = .next { s with
        sent := .command (engageWord (engageLimit (s.rail.engaged + d) s)) :: s.sent
        rail := { s.rail with engaged := s.rail.engaged + d - engageLimit (s.rail.engaged + d) s } } := by
      change execEngageStep d s = _
      rw [execEngageStep, if_neg (by simp [hup])]
      exact if_neg h0
    exact ⟨_, _, hexec, rfl, hmax, hmin, Int.sub_add_cancel _ _, rfl⟩

end Sys2Proof.Machine

/-! PROOFS. The budget's terms, the energy frame and the admission timers (04_staging_and_budget.md). -/

namespace Sys2Proof.Machine

section HeldForShed

/-- The engine is up with a draft, and a write to a bolt that has been shed is held. -/
def heldForShed : State :=
  { State.reset with
    warm := { State.reset.warm with engineUp := true }
    drf := { State.reset.drf with active := some (draftOf (fun _ => 0)) }
    nand := { State.reset.nand with shed := List.range 64 }
    stg := { State.reset.stg with
      heldq := [{ tag := 0, dpa := 0, data := 0, be := allBytes, poison := false, order := 0 }] } }

/-- The writes discarded by the time of a recomputation of the budget's terms. -/
def discardedAtRecompute (s : State) : Option Nat :=
  match exec .epbRecomputeTick s with
  | .next t => some t.nand.discards
  | _ => none

theorem discardedAtRecompute_heldForShed : discardedAtRecompute heldForShed = some 1 := by decide +kernel

end HeldForShed

/-- Refutes O19: EPB_RECOMPUTE_TICK evaluates the budget, which releases the held writes; one to a bolt that has been shed is discarded and
counted, and the flash registers do not stay as they were. -/
theorem not_budgetFollowsItsTerms : ¬ Obligations.BudgetFollowsItsTerms := by
  rintro ⟨-, hepb⟩
  obtain ⟨t, ht, -, -, -, -, -, -, hnand, -⟩ := hepb heldForShed rfl (by simp [heldForShed])
  have h := discardedAtRecompute_heldForShed
  rw [discardedAtRecompute, ht] at h
  simp [hnand, heldForShed, State.reset] at h

end Sys2Proof.Machine

/-! PROOFS. What evaluating the budget leaves of its terms, of the faults that stand and of the link's sequence; the energy frame
(R122, R123), the admission timers (R35, R36) and the governor (R141). -/

namespace Sys2Proof.Machine

section Evaluation
variable {s t u : State}

/-- Staging but for the held writes, the fill and the levels, which an evaluation sets (R126 to R135). -/
def termsOf (g : StgSt) : StgSt :=
  { g with
    heldq := [], fill := 0, deficit := false, l1 := false, l2 := false, l3 := false, boost := false, evtRise := false, evtClear := false
    recovering := false }

/-- What an evaluation leaves: the terms of the budget and the epochs, the engine's next sequence number at the rail link and the
requests that wait; it raises no fault that lasts. -/
structure KeepsTerms (s t : State) : Prop where
  terms : termsOf t.stg = termsOf s.stg
  live : ∀ n ∈ t.flt.engineLive, n ∈ s.flt.engineLive
  rxSeq : t.hdlE.rxSeq = s.hdlE.rxSeq
  waiting : t.cache.waiting = s.cache.waiting

theorem KeepsTerms.refl (s : State) : KeepsTerms s s := ⟨rfl, fun _ => id, rfl, rfl⟩

theorem KeepsTerms.trans (h : KeepsTerms s t) (k : KeepsTerms t u) : KeepsTerms s u :=
  ⟨k.terms.trans h.terms, fun n hn => h.live n (k.live n hn), k.rxSeq.trans h.rxSeq, k.waiting.trans h.waiting⟩

/-- Every group but staging, the faults and the engine's end of the link, with the requests that wait in the cache. -/
theorem KeepsTerms.of_cache (h : Changes 0xfbfbffef s t) (hw : t.cache.waiting = s.cache.waiting) : KeepsTerms s t :=
  ⟨by rw [h.stg rfl], fun n hn => by rwa [h.flt rfl] at hn, by rw [h.hdlE rfl], hw⟩

theorem KeepsTerms.of_changes (h : Changes 0xfbfbffee s t) : KeepsTerms s t :=
  .of_cache (h.mono (by rfl)) (by rw [h.cache rfl])

theorem KeepsTerms.foldl {α : Type} {f : State → α → State} (h : ∀ s a, KeepsTerms s (f s a)) (l : List α) (s : State) :
    KeepsTerms s (l.foldl f s) := by
  induction l generalizing s with
  | nil => exact .refl s
  | cons a l ih => exact (h s a).trans (ih _)

theorem sendFrame_keepsTerms (e : End) (f : Frame) (s : State) : KeepsTerms s (sendFrame e f s) := by
  refine ⟨by rw [(sendFrame_changes e f (m' := 0x4c000000) rfl (.refl _ s)).stg rfl], fun n hn => by rwa [sendFrame_flt] at hn, ?_, ?_⟩
  · obtain ⟨_, _, _, h⟩ := sendFrame_hdl e .engine f s
    have hr : (hdl .engine (sendFrame e f s)).rxSeq = (hdl .engine s).rxSeq := by rw [h]
    exact hr
  · rw [(sendFrame_changes e f (m' := 0x4c000000) rfl (.refl _ s)).cache rfl]

/-- A fault that is an event does not last. -/
theorem engineFault_keepsTerms {n : Nat} (d : Nat) (hn : isEvent n = true) (s : State) : KeepsTerms s (engineFault n d s) := by
  unfold engineFault
  dsimp only
  rw [if_pos hn]
  let v : State := { s with flt := { s.flt with details := tput 0 n d s.flt.details } }
  have hv : KeepsTerms s v := ⟨rfl, fun _ => id, rfl, rfl⟩
  have hr (w : State) : KeepsTerms w (engineReact n w) := .of_changes (engineReact_changes n (by rfl) (.refl _ w))
  exact (hv.trans (sendFrame_keepsTerms ..)).trans (hr _)

theorem engineClear_keepsTerms (n : Nat) (s : State) : KeepsTerms s (engineClear n s) := by
  unfold engineClear
  split
  · have hd : KeepsTerms s { s with flt := { s.flt with engineLive := dropFrom n s.flt.engineLive } } :=
      ⟨rfl, fun m hm => (List.mem_filter.1 hm).1, rfl, rfl⟩
    exact hd.trans (sendFrame_keepsTerms ..)
  · exact .refl s

theorem reefFlags_keepsTerms (s : State) : KeepsTerms s (reefFlags s) := by
  unfold reefFlags
  extract_lets _ _ _ _ _ _ _ _ _ _ a b c d
  have ha : KeepsTerms s a := ⟨rfl, fun _ => id, rfl, rfl⟩
  have hb : KeepsTerms a b := by
    unfold b
    split
    · exact engineClear_keepsTerms 5 a
    · exact .refl a
  have hc : KeepsTerms b c := by
    unfold c
    split
    · exact engineClear_keepsTerms 4 b
    · exact .refl b
  have hd : KeepsTerms c d := by
    unfold d
    split
    · exact .of_changes (postEvent_changes _ _ _ _ (by rfl) (.refl _ c))
    · exact .refl c
  have h := ((ha.trans hb).trans hc).trans hd
  split
  · exact h.trans (.of_changes (msix_changes 3 (by rfl) (.refl _ d)))
  · exact h

theorem setState_keepsTerms (g : Nat) (x : GState) (s : State) : KeepsTerms s (setState g x s) := by
  refine .of_cache (setState_changes g x (by rfl) (.refl _ s)) ?_
  unfold setState setEntry
  dsimp only
  split <;> rfl

theorem poisonLines_keepsTerms (g : Nat) (m : BitVec 64) (x : PSource) (s : State) : KeepsTerms s (poisonLines g m x s) := by
  have hl (u : State) (r : BitVec 64) : KeepsTerms u (listRun g x u r) := by
    refine .of_cache (listRun_changes _ _ _ (by rfl) (.refl _ u)) ?_
    unfold listRun
    dsimp only
    split_ifs <;> rfl
  have hp : KeepsTerms s { s with cache := { s.cache with poison := tmod 0#64 g (fun b => b ||| m) s.cache.poison } } :=
    ⟨rfl, fun _ => id, rfl, rfl⟩
  exact hp.trans (.foldl hl _ _)

theorem unpoison_keepsTerms (g l : Nat) (s : State) : KeepsTerms s (unpoison g l s) := by
  refine .of_cache (unpoison_changes g l (by rfl) (.refl _ s)) ?_
  unfold unpoison
  dsimp only
  split <;> rfl

theorem ueDirty_keepsTerms (line : Nat) (s : State) : KeepsTerms s (ueDirty line s) := by
  unfold ueDirty
  extract_lets g a b
  have ha : KeepsTerms s a := poisonLines_keepsTerms ..
  have hb : KeepsTerms a b := by
    unfold b
    split
    · exact (setState_keepsTerms ..).trans (.of_changes (takeAgain_changes _ (by rfl) (.refl _ _)))
    · exact .refl a
  exact (ha.trans hb).trans (engineFault_keepsTerms _ rfl _)

theorem mergeRead_keepsTerms (w : HeldWrite) (s : State) : KeepsTerms s (mergeRead w s) := by
  unfold mergeRead
  split
  · exact .refl s
  · exact .of_cache (countCe_changes _ (by rfl) (.refl _ s)) rfl
  · exact KeepsTerms.trans (.of_cache (countUe_changes _ (by rfl) (.refl _ s)) rfl) (ueDirty_keepsTerms ..)

theorem mergeInto_keepsTerms (w : HeldWrite) (s : State) : KeepsTerms s (mergeInto w s) := by
  unfold mergeInto
  extract_lets g zero a
  have ha : KeepsTerms s a := by
    unfold a
    refine KeepsTerms.trans ?_ (setState_keepsTerms ..)
    split
    · exact .of_changes (zeroRange_changes _ _ (by rfl) (.refl _ s))
    · exact .refl s
  split
  · exact ha
  · exact ha.trans (mergeRead_keepsTerms ..)

theorem commit_keepsTerms (w : HeldWrite) (s : State) : KeepsTerms s (commit w s) := by
  have hw (v : State) : KeepsTerms v (writeLine (w.dpa / 64 * 64) w.data w.be v) :=
    .of_changes (writeLine_changes _ _ _ (by rfl) (.refl _ v))
  have hp (v : State) : KeepsTerms v (settlePoison w v) := by
    unfold settlePoison
    split
    · exact poisonLines_keepsTerms ..
    · split
      · exact unpoison_keepsTerms ..
      · exact .refl v
  have hb (v : State) : KeepsTerms v { v with mbx := { v.mbx with writtenSince := true, sealBroken := true } } := ⟨rfl, fun _ => id, rfl, rfl⟩
  have hline : KeepsTerms s (commitLine w s) := (((mergeInto_keepsTerms w s).trans (hw _)).trans (hp _)).trans (hb _)
  have he : KeepsTerms (commitLine w s) (emit (.written w.tag (devLoad s)) (commitLine w s)) :=
    .of_changes (emit_changes _ (by rfl) (.refl _ _))
  exact (hline.trans he).trans (.of_changes (sampleFree_changes 5 0 (by rfl) (.refl _ _)))

theorem heldq_keepsTerms (q : List HeldWrite) (s : State) : KeepsTerms s { s with stg := { s.stg with heldq := q } } :=
  ⟨rfl, fun _ => id, rfl, rfl⟩

theorem sampleFree_keepsTerms (code index : Nat) (s : State) : KeepsTerms s (sampleFree code index s) :=
  .of_changes (sampleFree_changes code index (by rfl) (.refl _ s))

theorem passHeld_keepsTerms (s : State) : KeepsTerms s (passHeld s) := by
  refine (heldq_keepsTerms [] s).trans (.foldl (fun s w => ?_) _ _)
  dsimp only
  split
  · exact (commit_keepsTerms ..).trans (sampleFree_keepsTerms ..)
  · exact heldq_keepsTerms ..

theorem releaseHeld_keepsTerms (n : Nat) (s : State) : KeepsTerms s (releaseHeld n s) := by
  induction n generalizing s with
  | zero => exact .refl s
  | succ n ih =>
    have hq (q : List HeldWrite) := heldq_keepsTerms q s
    rw [releaseHeld]
    split
    · exact .refl s
    next w q _ =>
      have hd : KeepsTerms _ (discardShed w { s with stg := { s.stg with heldq := q } }) :=
        .of_changes (discardShed_changes w (by rfl) (.refl _ _))
      have hj (k : Nat) : KeepsTerms _ (joinCapQueue k w { s with stg := { s.stg with heldq := q } }) :=
        .of_cache (joinCapQueue_changes k w (by rfl) (.refl _ _)) rfl
      have hc := (hq q).trans ((commit_keepsTerms w _).trans (sampleFree_keepsTerms 8 0 _))
      dsimp only
      split_ifs
      · exact ((hq q).trans (hd.trans (sampleFree_keepsTerms 8 0 _))).trans (ih _)
      · exact hc.trans (ih _)
      · exact ((hq q).trans (hj _)).trans (ih _)
      · exact hc.trans (ih _)
      · exact passHeld_keepsTerms s

theorem evaluate_keepsTerms (s : State) : KeepsTerms s (evaluate s) := by
  unfold evaluate
  split
  · exact reefFlags_keepsTerms s
  · exact (releaseHeld_keepsTerms ..).trans (reefFlags_keepsTerms _)

/-- The terms one by one. -/
theorem KeepsTerms.energy (h : KeepsTerms s t) : t.stg.eGuar = s.stg.eGuar ∧ t.stg.eReceived = s.stg.eReceived ∧
    t.stg.soc = s.stg.soc ∧ t.stg.drawn = s.stg.drawn := by
  have hf (f : StgSt → Nat) (hf : ∀ g, f (termsOf g) = f g) : f t.stg = f s.stg := by rw [← hf, h.terms, hf]
  exact ⟨hf StgSt.eGuar fun _ => rfl, hf StgSt.eReceived fun _ => rfl, hf StgSt.soc fun _ => rfl, hf StgSt.drawn fun _ => rfl⟩

end Evaluation

/-- Settles O20. -/
theorem energyFrameSetsBudget : Obligations.EnergyFrameSetsBudget := by
  refine ⟨⟨fun s hdr e soc drawn hacc => ?_, fun s hup hlive => ?_, fun s hup hlive => ?_⟩, fun s tag hheld => ?_, fun s hrec => ?_,
    fun s hrate hup => ?_⟩
  · let u : State := { receive .engine hdr s with stg := { (receive .engine hdr s).stg with
      eReceived := e, eGuar := e, energySeen := true, soc := soc, drawn := drawn } }
    have hexec : exec (.energyFrame hdr e soc drawn) s = .next (evaluate (engineClear 6 u)) := by
      change execEnergyFrame hdr e soc drawn s = _
      rw [execEnergyFrame, hacc]
      rfl
    have hk := (engineClear_keepsTerms 6 u).trans (evaluate_keepsTerms _)
    obtain ⟨hg, hr, hs, hd⟩ := hk.energy
    refine ⟨_, hexec, hg, hr, hs, hd, fun hb h6 => ?_, hk.rxSeq.trans (receive_rxSeq (e := .engine) hacc)⟩
    have hb' : tfind u.flt.engineBroken 6 = none := by
      rwa [show u.flt = s.flt from (receive_frame .engine hdr s).flt rfl]
    exact not_mem_engineLive_engineClear hb' ((evaluate_keepsTerms _).live 6 h6)
  · have hexec : exec .energyStaleExpiry s = .next (evaluate { s with stg := { s.stg with
        eGuar := s.stg.eGuar - divUp s.stg.eReceived 16 } }) := by
      change execEnergyStaleExpiry s = _
      simp only [execEnergyStaleExpiry, hup, hlive, Bool.not_true, Bool.false_eq_true, if_false, if_true]
    obtain ⟨hg, hr, -⟩ := (evaluate_keepsTerms { s with stg := { s.stg with eGuar := s.stg.eGuar - divUp s.stg.eReceived 16 } }).energy
    exact ⟨_, hexec, hg, hr⟩
  · have hexec : exec .energyStaleExpiry s = .next (engineFault 6 0 s) := by
      change execEnergyStaleExpiry s = _
      simp only [execEnergyStaleExpiry, hup, hlive, Bool.not_true, Bool.false_eq_true, if_false]
    have hc := engineFault_changes 6 0 (m' := 0x4c0c0020) rfl (.refl _ s)
    exact ⟨_, hexec, mem_engineLive_engineFault 0 rfl, hc.stg rfl, hc.cache rfl⟩
  · have hexec : exec (.reefHoldMaxExpiry tag) s = .next (engineFault 4 0 s) := by
      change execReefHoldMaxExpiry tag s = _
      rw [execReefHoldMaxExpiry, if_pos hheld]
    have hc := engineFault_changes 4 0 (m' := 0x4c0c0020) rfl (.refl _ s)
    exact ⟨_, hexec, mem_engineLive_engineFault 0 rfl, hc.stg rfl, hc.cache rfl⟩
  · have hexec : exec .budgetRecoverExpiry s = .next (engineFault 5 0 s) := by
      change execBudgetRecoverExpiry s = _
      rw [execBudgetRecoverExpiry, if_pos hrec]
    have hc := engineFault_changes 5 0 (m' := 0x4c0c0020) rfl (.refl _ s)
    exact ⟨_, hexec, mem_engineLive_engineFault 0 rfl, hc.stg rfl, hc.cache rfl⟩
  · have hexec : ∃ l m, exec .govTokenTick s = .next { s with stg := { s.stg with govLevel := l, govMarks := m } } ∧
        l = min (s.stg.govLevel + setting s P.govRate * 1000) (setting s P.govDepth * 2 ^ 20 : Nat) := by
      refine ⟨_, _, (if_neg (by simp [hrate, hup])).trans rfl, ?_⟩
      split <;> omega
    obtain ⟨l, m, hexec, hl⟩ := hexec
    exact ⟨_, hexec, hl, rfl⟩

end Sys2Proof.Machine

/-! PROOFS. Voiding an epoch, and the speculative vault (05_vault.md, Early warning and speculative vault). -/

namespace Sys2Proof.Machine

section VoidedEpochs
variable {s t u : State}

/-- A void knot is programmed in front of the others where there is a place for it (R204, R209). -/
theorem writeVoid_voids_cons (v : VoidWait) (s : State) (h : voidPlace v.epoch v.blocks s ≠ none) :
    ∃ r, (writeVoid v s).nand.voids = r :: s.nand.voids ∧ r.epoch = v.epoch ∧ r.reason = v.reason ∧ r.ts = v.ts := by
  obtain ⟨⟨p, q⟩, hp⟩ := Option.ne_none_iff_exists'.mp h
  unfold writeVoid
  simp only [hp]
  split <;> simp only [moveFrontier_voids, programPage_voids] <;> exact ⟨_, rfl, rfl, rfl, rfl⟩

/-- Epoch `n` of `s` has been voided with `reason` at the time of `s`: it is off the list, its void knot awaits its read-back and
stands where there was a place (R29, R120, R209). -/
structure VoidedBy (reason : Nat) (s : State) (n : Nat) (t : State) : Prop where
  gone : ∀ x ∈ t.stg.epochs, x.num ≠ n
  waits : ∃ w ∈ t.stg.voidReads, w.epoch = n ∧ w.reason = reason ∧ w.ts = engineNow s
  stands : voidPlace n [] s ≠ none →
    ∃ v, t.nand.voids = v :: s.nand.voids ∧ v.epoch = n ∧ v.reason = reason ∧ v.ts = engineNow s

/-- The time of the engine and what the place of a void knot is chosen by. -/
theorem VoidedBy.congr {reason n : Nat} (ht : u.tbs = s.tbs) (hp : placeView u = placeView s) (h : VoidedBy reason u n t) :
    VoidedBy reason s n t := by
  have hn : (placeView u).nand = (placeView s).nand := by rw [hp]
  change u.nand = s.nand at hn
  obtain ⟨gone, waits, stands⟩ := h
  rw [engineNow_congr ht] at waits
  rw [engineNow_congr ht, voidPlace_congr n [] hp, hn] at stands
  exact ⟨gone, waits, stands⟩

theorem VoidedBy.of_eq {reason n : Nat} (h : VoidedBy reason s n t) (hs : u.stg = t.stg) (hn : u.nand.voids = t.nand.voids) :
    VoidedBy reason s n u := by
  obtain ⟨gone, waits, stands⟩ := h
  exact ⟨by rwa [hs], by rwa [hs], by rwa [hn]⟩

theorem voidEpoch_voidedBy (reason : Nat) (s : State) (e : Epoch) : VoidedBy reason s e.num (voidEpoch reason s e) := by
  obtain ⟨u, hu, hc, -, -, hnums⟩ := voidEpoch_writes reason s e
  obtain ⟨bs, hstg⟩ := writeVoid_stg { epoch := e.num, reason := reason, ts := engineNow u } u
  have htime : engineNow u = engineNow s := engineNow_congr (hc.tbs rfl)
  have hplace : placeView u = placeView s := by rw [placeView, placeView, hc.nand rfl, hc.vlt rfl, hc.drf rfl]
  rw [hu]
  refine ⟨fun x hx hxn => ?_, ?_, fun hp => ?_⟩
  · rw [hstg] at hx
    have hmem : x.num ∈ epochNums u := List.mem_map.2 ⟨x, hx, rfl⟩
    simp [hnums, hxn] at hmem
  · rw [hstg]
    exact ⟨_, List.mem_append_right _ (List.mem_singleton_self _), rfl, rfl, htime⟩
  · rw [← voidPlace_congr _ _ hplace] at hp
    rw [← htime, ← hc.nand rfl]
    exact writeVoid_voids_cons _ u hp

end VoidedEpochs

section EarlyWarning
variable {s t : State}

theorem pump_hdl_congr (e : End) (n : Nat) (h : hdl e t = hdl e s) : hdl e (pump e n t) = hdl e (pump e n s) := by
  induction n generalizing s t with
  | zero => exact h
  | succ n ih =>
    rw [pump, pump, h]
    split
    · split
      · refine ih ?_
        rw [hdl_emit, hdl_emit, hdl_setHdl, hdl_setHdl, h]
      · exact h
    · exact h

/-- What a frame does to an end of the link depends on that end alone. -/
theorem sendFrame_hdl_congr (e : End) (f : Frame) (h : hdl e t = hdl e s) : hdl e (sendFrame e f t) = hdl e (sendFrame e f s) := by
  unfold sendFrame
  rw [h]
  split
  · refine pump_hdl_congr e 16 ?_
    rw [hdl_setHdl, hdl_setHdl, h]
  · split
    · rw [hdl_setHdl, hdl_setHdl, h]
    · exact h

theorem withAbort_endExercise_idle (c : Nat) (h : exercising s = false) : withAbort (endExercise c) s = s := by
  rw [withAbort_of_not_exercising _ h, endExercise, h, if_neg (by decide)]

theorem vinBad_idle (h : exercising s = false) : Changes 0x11000 s (vinBad s) ∧ (vinBad s).vin = { s.vin with good := false } := by
  have hpass (u : State) (hu : Changes 0x10000 s u) (hx : exercising u = false) :
      Changes 0x11000 s (withAbort (endExercise 2) { u with vin := { u.vin with good := false } }) ∧
        (withAbort (endExercise 2) { u with vin := { u.vin with good := false } }).vin = { s.vin with good := false } := by
    rw [withAbort_endExercise_idle (s := { u with vin := { u.vin with good := false } }) 2 hx]
    exact ⟨.put_vin rfl (hu.mono (by rfl)), by rw [hu.vin rfl]⟩
  unfold vinBad
  refine hpass _ ?_ ?_
  · split
    · exact inhibitCharger_changes (by rfl) (.refl _ s)
    · split
      · exact .put_chg rfl (.refl _ s)
      · exact .refl _ s
  · split
    · exact h
    · split
      · exact h
      · exact h

/-- The input stage with the sampler's readings taken (R161, R162). -/
def sampledVin (l : List Nat) (below : Bool) (s : State) : VinSt :=
  let v := if isFrozen 2 s || decide (l.reverse.length < 16) then s.vin.vin else sum16 l.reverse 0 / 16
  let comp := below || isFrozen 1 s
  { s.vin with
    vin := v, slope := if isFrozen 2 s then 0 else if l.reverse.length < 80 then s.vin.slope else 250 * slopeSum l.reverse 0 / 1024
    comp := comp, below := comp || pfRead v s }

theorem readVin_eq (l : List Nat) (below : Bool) (s : State) : readVin l below s = (
    let u : State := { s with vin := sampledVin l below s }
    if vinHigh (sampledVin l below s).vin s || !s.vin.good then u else vinBad u) := rfl

/-- Outside an exercise a check of the input stage changes it and the charger alone. -/
theorem readVin_idle (l : List Nat) (below : Bool) (h : exercising s = false) : Changes 0x11000 s (readVin l below s) ∧
    ∃ g, (readVin l below s).vin = { sampledVin l below s with good := g } := by
  rw [readVin_eq]
  dsimp only
  split
  · exact ⟨.put_vin rfl (.refl _ s), _, rfl⟩
  · obtain ⟨hc, hv⟩ := vinBad_idle (s := { s with vin := sampledVin l below s }) h
    exact ⟨Changes.trans (.put_vin rfl (.refl _ s)) hc, _, hv⟩

theorem readVin_high {l : List Nat} {below : Bool} (h : vinHigh (sampledVin l below s).vin s = true) :
    readVin l below s = { s with vin := sampledVin l below s } := by
  rw [readVin_eq]
  exact if_pos (by rw [h]; rfl)

theorem isFrozen_congr (h : t.flt = s.flt) (n : Nat) : isFrozen n t = isFrozen n s := by rw [isFrozen, h, isFrozen]

theorem slopeWarns_congr (hf : t.flt = s.flt) (hd : t.drf = s.drf) (l : List Nat) : slopeWarns l t = slopeWarns l s := by
  have hp (i : Nat) : predAt l.reverse t i = predAt l.reverse s i := by
    rw [predAt, setting_congr hd, setting_congr hd, ← predAt]
  rw [slopeWarns, slopeWarns, isFrozen_congr hf, funext hp]

theorem warns_congr (hf : t.flt = s.flt) (hd : t.drf = s.drf) (l : List Nat) (b : Bool) : warns l b t = warns l b s := by
  rw [warns, slopeWarns_congr hf hd, isFrozen_congr hf, ← warns]

/-- The mean of the newest 16 readings (R161). -/
theorem sampledVin_mean {l : List Nat} (below : Bool) (hf : isFrozen 2 s = false) (h : 16 ≤ l.length) :
    (sampledVin l below s).vin = (l.reverse.take 16).sum / 16 := by
  rw [sampledVin, hf]
  exact if_neg (by simpa using h)

theorem sampledVin_slope {l : List Nat} (below : Bool) (hf : isFrozen 2 s = false) (h : 80 ≤ l.length) :
    (sampledVin l below s).slope = 250 * (((l.reverse.take 16).sum : Int) - (((l.reverse.drop 64).take 16).sum : Int)) / 1024 := by
  have hl : ¬ l.reverse.length < 80 := by simpa using h
  simp only [sampledVin, hf, hl, Bool.false_eq_true, if_false, slopeSum, sum16, List.drop_zero, Nat.zero_add]

end EarlyWarning

section Speculation
variable {s t : State}

theorem engineRuns_congr (hw : t.warm = s.warm) (hf : t.flt = s.flt) : engineRuns t = engineRuns s := by
  rw [engineRuns, hw, hf, ← engineRuns]

theorem openEpoch_congr (h : t.stg = s.stg) : openEpoch t = openEpoch s := by rw [openEpoch, h, ← openEpoch]

/-- Of the vault a source of the engine changes the cause alone, and it only where its request is a confirmation (R413). -/
theorem engineFault_vlt_fields (n d : Nat) (s : State) : ∃ c k b, (engineFault n d s).vlt = { s.vlt with
    cause := c, source := k, engineCause := b } := by
  have hr (f : Frame) (u : State) (hu : u.vlt = s.vlt) : ∃ c k b, (engineReact n (sendFrame .engine f u)).vlt = { s.vlt with
      cause := c, source := k, engineCause := b } := by
    rw [← hu, ← sendFrame_vlt .engine f u]
    unfold engineReact
    split_ifs <;> exact ⟨_, _, _, rfl⟩
  unfold engineFault
  dsimp only
  split
  · exact hr _ _ rfl
  · split
    · exact ⟨_, _, _, rfl⟩
    · exact hr _ _ rfl

/-- Speculation ends in ARMED, counted, its open epoch voided with REASON 1 (R168). -/
theorem abandon_effects (s : State) : (abandon s).vlt = { s.vlt with
      specAbandons := satAdd max32 s.vlt.specAbandons 1, state := .armed } ∧ (abandon s).dram = s.dram ∧
    (openEpoch s = none → (abandon s).nand = s.nand) ∧
    (∀ e, openEpoch s = some e → VoidedBy 1 s e.num (abandon s)) := by
  have hch := abandon_changes (m' := 0xce000039) rfl (.refl _ s)
  let v (u : State) : State := { u with vlt := { u.vlt with specAbandons := satAdd max32 u.vlt.specAbandons 1 } }
  have hs (u : State) : Changes 0x4c000020 (v u) (setVault .armed (v u)) :=
    setVault_changes _ (m' := 0x4c000020) rfl (.refl _ _)
  cases ho : openEpoch s with
  | none =>
    have ha : abandon s = setVault .armed (v s) := by simp only [abandon, ho, v]
    refine ⟨by rw [ha, setVault_vlt], hch.dram rfl, fun _ => by rw [ha, (hs s).nand rfl], fun e he => by simp at he⟩
  | some e =>
    have ha : abandon s = setVault .armed (v (voidEpoch 1 s e)) := by simp only [abandon, ho, v]
    have hvlt : (voidEpoch 1 s e).vlt = s.vlt := (voidEpoch_changes 1 e (m' := 0xc2000019) rfl (.refl _ s)).vlt rfl
    refine ⟨by simp only [ha, setVault_vlt, v, hvlt], hch.dram rfl, fun h => by simp at h, fun x hx => ?_⟩
    obtain rfl : e = x := by simpa using hx
    rw [ha]
    exact (voidEpoch_voidedBy 1 s e).of_eq ((hs _).stg rfl) (by rw [(hs _).nand rfl])

end Speculation

/-- Settles O24. -/
theorem speculationStartsAndEnds : Obligations.SpeculationStartsAndEnds := by
  refine ⟨⟨fun s l below lv hk harm hact hw hf hx hc => ?_, fun s l below hk hf hx hc => ?_,
    fun s l below hk harm hact hwd hlen hc hhigh hf0 hf => ?_, fun s hdr hacc hrun hst hbl => ?_, fun s hdr hacc hst hbl => ?_⟩,
    fun s hdr hacc hrun hst => ?_, fun s hrun hst => ?_, fun s hdr hacc hrun => ?_⟩
  · obtain ⟨hch, g, hvin⟩ := readVin_idle l below hx
    generalize hu : readVin l below s = u at hch hvin
    have harmed : vinArmed u = true := by
      rw [vinArmed, hch.drf rfl, hvin]
      simpa [sampledVin, harm] using Option.isSome_iff_ne_none.2 hact
    have hwarns : warns l lv u = true := by
      rw [warns_congr (hch.flt rfl) (hch.drf rfl), warns]
      rcases hc with h | h <;> simp [h]
    have hwarn : u.vin.warn = false := by rw [hvin]; exact hw
    have hexec : exec (.earlyWarning l below lv) s = .next (sendFrame .pctrl (.warning 1) { u with
        vin := { u.vin with warn := true, warned := true } }) := by
      change execEarlyWarning l below lv s = _
      simp only [execEarlyWarning, hk, hu, harmed, hwarns, hwarn, Bool.not_true, Bool.not_false, Bool.false_eq_true, if_false, Bool.and_true, if_true]
    have hsend := sendFrame_changes .pctrl (.warning 1) (m' := 0x4c000000) rfl (.refl _ { u with
        vin := { u.vin with warn := true, warned := true } })
    have hhdl := sendFrame_hdl_congr (t := { u with vin := { u.vin with warn := true, warned := true } }) (s := s) .pctrl (.warning 1)
      (hch.hdlP rfl)
    have hv := hsend.vin rfl
    refine ⟨_, hexec, by rw [hv], hhdl, fun h => ?_, fun h => ?_, (hsend.vlt rfl).trans (hch.vlt rfl), (hsend.cache rfl).trans (hch.cache rfl),
      (hsend.stg rfl).trans (hch.stg rfl), (hsend.pwr rfl).trans (hch.pwr rfl)⟩
    · rw [hv, ← sampledVin_mean below hf h, hvin]
    · rw [hv, ← sampledVin_slope below hf h, hvin]
  · obtain ⟨hch, -⟩ := readVin_idle l below hx
    generalize hu : readVin l below s = u at hch
    have hwarns : warns l false u = false := by
      rw [warns_congr (hch.flt rfl) (hch.drf rfl), warns, hf, hc]
      rfl
    have hexec : exec (.earlyWarning l below false) s = .next { u with vin := { u.vin with warn := false } } := by
      change execEarlyWarning l below false s = _
      simp only [execEarlyWarning, hk, hu, hwarns, Bool.and_false, Bool.false_and, Bool.not_true, Bool.false_eq_true, if_false]
    exact ⟨_, hexec, rfl, hch.sent rfl⟩
  · have hmean := sampledVin_mean (s := s) below hf hlen
    have hhigh' : vinHigh (sampledVin l below s).vin s = true := by
      rw [hmean]
      exact decide_eq_true hhigh
    have hread := readVin_high hhigh'
    have hexec : exec (.specAbandonExpiry l below) s = .next (sendFrame .pctrl (.warning 2) { s with
        vin := { sampledVin l below s with warn := false, warned := false } }) := by
      have ha : vinArmed { s with vin := sampledVin l below s } = true := by
        simpa [vinArmed, sampledVin, harm] using Option.isSome_iff_ne_none.2 hact
      have hwd' : (sampledVin l below s).warned = true := hwd
      have hh : vinHigh (sampledVin l below s).vin { s with vin := sampledVin l below s } = true := hhigh'
      have hw : warns l false { s with vin := sampledVin l below s } = false :=
        (warns_congr (s := s) rfl rfl l false).trans (by simp [warns, hf0, hc])
      change execSpecAbandonExpiry l below s = _
      simp only [execSpecAbandonExpiry, hk, hread, ha, hwd', hh, hw, Bool.not_true, Bool.not_false, Bool.false_eq_true, if_false, Bool.and_self,
        if_true]
    have hsend := sendFrame_changes .pctrl (.warning 2) (m' := 0x4c000000) rfl (.refl _ { s with
        vin := { sampledVin l below s with warn := false, warned := false } })
    have hhdl := sendFrame_hdl_congr (t := { s with vin := { sampledVin l below s with warn := false, warned := false } }) (s := s) .pctrl
      (.warning 2) rfl
    have hv := hsend.vin rfl
    exact ⟨_, hexec, by rw [hv], by rw [hv], hhdl, hsend.vlt rfl, hsend.cache rfl, hsend.stg rfl⟩
  · have hr := receive_frame .engine hdr s
    generalize hu : receive .engine hdr s = u at hr
    have hexec : exec (.warningFrame hdr) s = .next (setVault .speculative { u with
        vlt := { u.vlt with specStarts := satAdd max32 u.vlt.specStarts 1 }, nand := { u.nand with gcBlock := none } }) := by
      change execWarningFrame hdr s = _
      simp [execWarningFrame, hacc, hu, engineRuns_congr (hr.warm rfl) (hr.flt rfl), hrun, hr.vlt rfl, hst, hbl]
    have hset := setVault_changes .speculative (m' := 0x4c000020) rfl (.refl _ { u with
        vlt := { u.vlt with specStarts := satAdd max32 u.vlt.specStarts 1 }, nand := { u.nand with gcBlock := none } })
    refine ⟨_, hexec, setVault_state _ _, ?_, (hset.cache rfl).trans (hr.cache rfl), (hset.stg rfl).trans (hr.stg rfl)⟩
    rw [setVault_vlt, hr.vlt rfl]
  · have hr := receive_frame .engine hdr s
    generalize hu : receive .engine hdr s = u at hr
    have hexec : exec (.warningFrame hdr) s = .next u := by
      change execWarningFrame hdr s = _
      simp [execWarningFrame, hu, hr.vlt rfl, hbl]
    exact ⟨_, hexec, hr.vlt rfl⟩
  · have hr := receive_frame .engine hdr s
    generalize hu : receive .engine hdr s = u at hr
    let v : State := { u with vlt := { u.vlt with specBlocked := false } }
    have hexec : exec (.abandonFrame hdr) s = .next (abandon v) := by
      change execAbandonFrame hdr s = _
      have hrun' : engineRuns v = true := (engineRuns_congr (s := s) (hr.warm rfl) (hr.flt rfl)).trans hrun
      have hst' : v.vlt.state = .speculative := (congrArg VltSt.state (hr.vlt rfl)).trans hst
      simp only [execAbandonFrame, hacc, hu, if_true]
      exact congrArg Host.Outcome.next (if_pos (Bool.and_eq_true_iff.2 ⟨decide_eq_true hst', hrun'⟩))
    have hopen : openEpoch v = openEpoch s := openEpoch_congr (hr.stg rfl)
    have hplace : placeView v = placeView s := by
      have hv : v.vlt.state = s.vlt.state ∧ v.vlt.retired = s.vlt.retired := by
        change u.vlt.state = _ ∧ u.vlt.retired = _
        rw [hr.vlt rfl]
        exact ⟨rfl, rfl⟩
      rw [placeView, placeView, hv.1, hv.2, show v.nand = s.nand from hr.nand rfl, show v.drf = s.drf from hr.drf rfl]
    obtain ⟨hvlt, hdram, hnone, hvoid⟩ := abandon_effects v
    refine ⟨_, hexec, by rw [hvlt], by rw [hvlt], ?_, hdram.trans (hr.dram rfl), fun h => ?_, fun e he => ?_⟩
    · rw [hvlt]
      change satAdd max32 u.vlt.specAbandons 1 = _
      rw [hr.vlt rfl]
    · exact (hnone (hopen.trans h)).trans (hr.nand rfl)
    · obtain ⟨hgone, hwaits, hstands⟩ := VoidedBy.congr (u := v) (hr.tbs rfl) hplace (hvoid e (hopen.trans he))
      exact ⟨hgone, hwaits, hstands⟩
  · obtain ⟨hvlt, hdram, -, hvoid⟩ := abandon_effects s
    generalize ha : abandon s = u at hvlt hdram hvoid
    have hexec : exec .specMaxExpiry s = .next (engineFault 9 0 { u with vlt := { u.vlt with specBlocked := true } }) := by
      change execSpecMaxExpiry s = _
      rw [execSpecMaxExpiry, ha, if_pos (by simp [hst, hrun])]
    have hch := engineFault_changes 9 0 (m' := 0x4c0c0020) rfl (.refl _ { u with vlt := { u.vlt with specBlocked := true } })
    obtain ⟨c, n, b, hv⟩ := engineFault_vlt_fields 9 0 { u with vlt := { u.vlt with specBlocked := true } }
    refine ⟨_, hexec, ?_, ?_, ?_, (hch.dram rfl).trans hdram, fun e he => ?_⟩
    · rw [hv, hvlt]
    · rw [hv]
    · rw [hv, hvlt]
    · rw [hch.stg rfl]
      exact (hvoid e he).gone
  · have hr := receive_frame .engine hdr s
    generalize hu : receive .engine hdr s = u at hr
    have hrun' : engineRuns u = false := (engineRuns_congr (hr.warm rfl) (hr.flt rfl)).trans hrun
    refine ⟨⟨u, ?_, hr.vlt rfl⟩, ⟨{ u with vlt := { u.vlt with specBlocked := false } }, ?_, by rw [← hr.vlt rfl]⟩, ?_⟩
    · change execWarningFrame hdr s = _
      simp [execWarningFrame, hu, hrun']
    · change execAbandonFrame hdr s = _
      simp only [execAbandonFrame, hacc, hu, if_true]
      have hv : engineRuns { u with vlt := { u.vlt with specBlocked := false } } = false := hrun'
      exact congrArg Host.Outcome.next (if_neg (by rw [hv, Bool.and_false]; decide))
    · change execSpecMaxExpiry s = _
      rw [execSpecMaxExpiry, if_neg (by simp [hrun])]

end Sys2Proof.Machine

/-! PROOFS. The causes of a vault (R145 to R149), and a warm reset that begins or waits (R70 to R72). -/

namespace Sys2Proof.Machine

section Confirmation
variable {s : State} {k : Nat}

/-- The chipset is in ARMED or SPECULATIVE, nothing is confirmed, and neither belay nor a reset is in progress. -/
structure ReadyToConfirm (s : State) : Prop where
  belay : s.flt.belay = false
  confirming : s.vlt.confirming = false
  armed : isArmed s = true
  idle : s.warm.kind = .none
  confirmed : s.warm.confirmed = none
  still : exercising s = false

/-- What a confirmation with cause `k` leaves (R146 to R148). -/
structure Confirms (k : Nat) (s t : State) : Prop where
  vlt : t.vlt.cause = k ∧ t.vlt.confirming = true ∧ t.vlt.confirmTs = now s ∧
    t.vlt.count = satAdd max32 s.vlt.count 1 ∧ t.vlt.state = s.vlt.state
  source : k ≠ 4 → t.vlt.source = 0
  outputs : t.pwr.huMode = .closed ∧ t.pwr.pfailAsserted = true
  cache : t.cache = s.cache
  dram : t.dram = s.dram
  stg : t.stg = s.stg
  pf : s.sel.pairs.length = 7 → pairActive .pf t = true

theorem confirm_ready (h : ReadyToConfirm s) (n : Nat) : confirm k n s = confirmOutputs (recordConfirm k n s) := by
  have hreset : inArmedReset s = false := by simp [inArmedReset, h.idle]
  have hreset' : inArmedReset (confirmOutputs (recordConfirm k n s)) = false := by
    rw [inArmedReset, (confirmOutputs_changes (m' := 0x92020) rfl (.refl _ _)).warm rfl]
    exact hreset
  have harm : isArmed (confirmOutputs (recordConfirm k n s)) = true := by
    rw [isArmed, confirmOutputs_vlt]
    exact h.armed
  have harmed := h.armed
  have hstate : s.vlt.state = .armed ∨ s.vlt.state = .speculative := by simpa [isArmed] using harmed
  have halone : engineAlone s = false := by rcases hstate with hs | hs <;> simp [engineAlone, h.confirmed, hs]
  have hoff : ¬ (s.vlt.state = .off ∨ s.vlt.state = .hold) := by rcases hstate with hs | hs <;> simp [hs]
  rw [confirm, h.belay, h.confirming, halone]
  simp [hreset, hreset', harm, hoff]

theorem confirmOutputs_outputs (s : State) : (confirmOutputs s).pwr.huMode = .closed ∧ (confirmOutputs s).pwr.pfailAsserted = true ∧
    (s.sel.pairs.length = 7 → pairActive .pf (confirmOutputs s) = true) := by
  let u : State := drivePair .pf true (setPfail true (setHoldup .closed s))
  have h := endExercise_changes 1 (m' := 0x10000) rfl (.refl _ (stopCharger { u with vlt := { u.vlt with confirming := true } }))
  refine ⟨congrArg PwrSt.huMode (h.pwr rfl), congrArg PwrSt.pfailAsserted (h.pwr rfl), fun hp => ?_⟩
  have hsel : (confirmOutputs s).sel = u.sel := h.sel rfl
  rw [pairActive, pairAt, hsel]
  exact pairActive_drivePair (s := setPfail true (setHoldup .closed s)) hp .pf

theorem confirmVault_ready (h : ReadyToConfirm s) : Confirms k s (confirmVault k s) := by
  have hx : confirmVault k s = confirmOutputs (recordConfirm k 0 s) := by
    rw [confirmVault, withAbort_of_not_exercising _ h.still, confirm_ready h]
  have hr := recordConfirm_changes k 0 (m' := 0xc8020) rfl (.refl _ s)
  have ho := confirmOutputs_changes (m' := 0x92020) rfl (.refl _ (recordConfirm k 0 s))
  obtain ⟨hmode, hpfail, hpf⟩ := confirmOutputs_outputs (recordConfirm k 0 s)
  rw [hx]
  refine ⟨?_, ?_, ⟨hmode, hpfail⟩, (ho.cache rfl).trans (hr.cache rfl), (ho.dram rfl).trans (hr.dram rfl),
    (ho.stg rfl).trans (hr.stg rfl), hpf⟩
  · rw [confirmOutputs_vlt]
    exact ⟨rfl, rfl, rfl, rfl, rfl⟩
  · intro hk
    rw [confirmOutputs_vlt]
    exact if_neg hk

/-- A confirmation follows from the input stage's part of the state, which the confirmation does not read. -/
theorem Confirms.of_vin {v : VinSt} {t : State} (h : Confirms k { s with vin := v } t) : Confirms k s t :=
  ⟨h.vlt, h.source, h.outputs, h.cache, h.dram, h.stg, h.pf⟩

theorem ReadyToConfirm.with_vin (h : ReadyToConfirm s) (v : VinSt) : ReadyToConfirm { s with vin := v } :=
  ⟨h.belay, h.confirming, h.armed, h.idle, h.confirmed, h.still⟩

end Confirmation

/-- Settles O25. -/
theorem confirmationCauses : Obligations.ConfirmationCauses := by
  intro s c k hk hact hb hc hst hkind hconf hcause hx
  have hready : ReadyToConfirm s := ⟨hb, hc, by simpa [isArmed] using hst, hkind, hconf, hx⟩
  have hsome : s.drf.active.isSome = true := Option.isSome_iff_ne_none.2 hact
  have hvreq (k : Nat) (hj : engineJudged s = true) (hact : pairActive .vreq s = true) (he : s.vlt.engineCause = false)
      (hk : (if (pairAt .vreq s).frozen then 6 else 2) = k) : exec .vreqActive s = .next (confirmVault k s) := by
    change execVreqActive s = _
    rw [execVreqActive, hact, hj, vreqSeen, he, hk]
    rfl
  have h : ∃ t, exec c s = .next t ∧ k ≠ 4 ∧ Confirms k s t := by
    rcases hcause with ⟨rfl, rfl⟩ | ⟨rfl, rfl, hact, hfr, hj, he⟩ | ⟨rfl, rfl, hfr, hj, he⟩ | ⟨v, rfl, rfl, harm⟩ | ⟨rfl, rfl, harm⟩
    · refine ⟨_, ?_, by decide, confirmVault_ready hready⟩
      change execStewardVaultRequest s = _
      rw [execStewardVaultRequest, hk, hsome]
      rfl
    · exact ⟨_, hvreq 2 hj hact he (by rw [hfr]; rfl), by decide, confirmVault_ready hready⟩
    · exact ⟨_, hvreq 6 hj (by rw [pairActive, hfr]; rfl) he (by rw [hfr]; rfl), by decide, confirmVault_ready hready⟩
    · refine ⟨_, ?_, by decide, (confirmVault_ready (hready.with_vin { s.vin with
        vin := vinTaken v s, below := true, comp := true, good := false })).of_vin⟩
      change execPfFilterExpiry v true false s = _
      rw [execPfFilterExpiry, hk]
      refine (if_pos (by rfl)).trans (congrArg Host.Outcome.next (if_pos ?_))
      exact Bool.and_eq_true_iff.2 ⟨harm, hsome⟩
    · refine ⟨_, ?_, by decide, (confirmVault_ready (hready.with_vin { s.vin with ovp := true, below := true, good := false })).of_vin⟩
      change execInputOvervoltage true s = _
      rw [execInputOvervoltage, hk]
      refine (if_neg (by decide)).trans ((if_pos rfl).trans (congrArg Host.Outcome.next (if_pos ?_)))
      exact Bool.and_eq_true_iff.2 ⟨harm, hsome⟩
  obtain ⟨t, hexec, hk4, hconf⟩ := h
  obtain ⟨hcause, hcing, hts, hcount, hstate⟩ := hconf.vlt
  exact ⟨t, hexec, hcause, hconf.source hk4, hcing, hts, hcount, hstate, hconf.outputs.1, hconf.outputs.2, hconf.cache, hconf.dram,
    hconf.stg, fun hs => hconf.pf hs.pairs⟩

section WarmReset
variable {s t : State}

/-- What voiding an epoch leaves of the cache and of the held writes: the requests that wait, the writes queued and held, and the
locations. -/
structure KeepsQueues (s t : State) : Prop where
  capq : t.cache.capq = s.cache.capq
  loc : t.cache.loc = s.cache.loc
  heldq : t.stg.heldq = s.stg.heldq
  lastKnot : t.stg.lastKnot = s.stg.lastKnot
  waiting : t.cache.waiting = s.cache.waiting

theorem KeepsQueues.refl (s : State) : KeepsQueues s s := ⟨rfl, rfl, rfl, rfl, rfl⟩

theorem KeepsQueues.trans {u : State} (h : KeepsQueues s t) (k : KeepsQueues t u) : KeepsQueues s u :=
  ⟨k.capq.trans h.capq, k.loc.trans h.loc, k.heldq.trans h.heldq, k.lastKnot.trans h.lastKnot, k.waiting.trans h.waiting⟩

theorem KeepsQueues.of_changes (h : Changes 0xffffffee s t) : KeepsQueues s t :=
  ⟨by rw [h.cache rfl], by rw [h.cache rfl], by rw [h.stg rfl], by rw [h.stg rfl], by rw [h.cache rfl]⟩

theorem KeepsQueues.foldl {α : Type} {f : State → α → State} (h : ∀ s a, KeepsQueues s (f s a)) (l : List α) (s : State) :
    KeepsQueues s (l.foldl f s) := by
  induction l generalizing s with
  | nil => exact .refl s
  | cons a l ih => exact (h s a).trans (ih _)

theorem setEntry_keepsQueues (g : Nat) (x : Entry) (s : State) : KeepsQueues s (setEntry g x s) := by
  unfold setEntry
  dsimp only
  split <;> exact ⟨rfl, rfl, rfl, rfl, rfl⟩

theorem writeVoid_keepsQueues (v : VoidWait) (s : State) : KeepsQueues s (writeVoid v s) := by
  have hc := (writeVoid_changes v (m' := 0xc2000018) rfl (.refl _ s)).cache rfl
  obtain ⟨bs, hs⟩ := writeVoid_stg v s
  exact ⟨by rw [hc], by rw [hc], by rw [hs], by rw [hs], by rw [hc]⟩

theorem voidEpoch_keepsQueues (reason : Nat) (s : State) (e : Epoch) : KeepsQueues s (voidEpoch reason s e) := by
  unfold voidEpoch
  extract_lets a b c run _ d
  have ha : KeepsQueues s a := .foldl (fun s g => setEntry_keepsQueues _ _ s) _ _
  have hb : KeepsQueues a b := ⟨rfl, rfl, rfl, rfl, rfl⟩
  have hc : KeepsQueues b c := by
    unfold c
    split
    · exact .of_changes (sampleSince_changes _ _ _ (by rfl) (.refl _ b))
    · exact .refl b
  have hd : KeepsQueues c d := ⟨rfl, rfl, rfl, rfl, rfl⟩
  exact (((ha.trans hb).trans hc).trans hd).trans (writeVoid_keepsQueues ..)

theorem closeOpen_keepsQueues (s : State) : KeepsQueues s (closeOpen s) := by
  unfold closeOpen
  split
  · exact ⟨rfl, rfl, rfl, rfl, rfl⟩
  · exact .refl s

/-- A vault is in its window while a chipset warm reset is in progress. -/
def windowInReset : State :=
  { State.reset with
    pwr := { State.reset.pwr with keeper := true }
    vlt := { State.reset.vlt with state := .window }, warm := { State.reset.warm with kind := .chipset } }

/-- The unfit channels after a low pulse on WARM_RST_N that finds channel 0 unfit. -/
def unfitAfterPulse (s : State) : Option Nat :=
  match exec (.warmRstN 10 1) s with
  | .next t => some t.cache.unfit
  | _ => none

theorem unfitAfterPulse_windowInReset : unfitAfterPulse windowInReset = some 1 := by decide +kernel

end WarmReset

/-- Refutes O40: a pulse on WARM_RST_N in a vault is deferred, but where a chipset warm reset is in progress it also takes the unfit
channels of its operand, and the state differs from the one before in more than the deferred request and the log. -/
theorem not_warmResetBeginsOrWaits : ¬ Obligations.WarmResetBeginsOrWaits := by
  rintro ⟨-, hvault⟩
  obtain ⟨t, e, ht, -, -, -, -, hframe⟩ := hvault windowInReset (.warmRstN 10 1)
    (.inl ⟨⟨10, 1, rfl, by decide, by decide +kernel⟩, by decide +kernel⟩) rfl rfl
  have h := unfitAfterPulse_windowInReset
  have hc : t.cache.unfit = 0 := by rw [hframe]; rfl
  rw [unfitAfterPulse, ht] at h
  simp [hc] at h

end Sys2Proof.Machine

/-! PROOFS. Staging chooses one block, opens an epoch and closes it by age (04_staging_and_budget.md, Choosing what to stage). -/

namespace Sys2Proof.Machine

section Staging
variable {s t : State} {n b : Nat} {reads : CopyReads}

theorem boltOf_congr (h : t.drf = s.drf) (g : Nat) : boltOf t g = boltOf s g := by rw [boltOf, h, ← boltOf]

theorem isDuplex_congr (h : t.drf = s.drf) (n : Nat) : isDuplex t n = isDuplex s n := by
  rw [isDuplex, bolt, h, ← bolt, ← isDuplex]

/-- The copies that a granule's unit takes (R138). -/
theorem copiesOf_granuleUnit (g : Nat) (kind : UnitKind) (s : State) :
    copiesOf (granuleUnit g kind s) = if isDuplex s (boltOf s g) then 2 else 1 := rfl

/-- One epoch of staging stands, numbered `n`, with at most 16,384 copies and all its units in block `b`. -/
structure OneEpoch (n b : Nat) (s : State) (e : Epoch) : Prop where
  only : s.stg.epochs = [e]
  num : e.num = n
  next : s.stg.nextEpoch = n + 1
  kind : e.kind = .staging
  copies : e.copies ≤ 16384
  units : ∀ u ∈ e.todo, u.kind = .staging ∧ u.index / 128 = b

theorem OneEpoch.of_stg {e : Epoch} (h : OneEpoch n b s e) (hs : t.stg = s.stg) : OneEpoch n b t e :=
  ⟨by rw [hs, h.only], h.num, by rw [hs, h.next], h.kind, h.copies, h.units⟩

theorem modEpoch_only {f : Epoch → Epoch} {e : Epoch} (h : s.stg.epochs = [e]) : (modEpoch e.num f s).stg.epochs = [f e] := by
  simp [modEpoch, h]

theorem closeEpoch_oneEpoch {e : Epoch} (h : OneEpoch n b s e) (m : Nat) : ∃ x, OneEpoch n b (closeEpoch m s) x := by
  by_cases hm : e.num = m
  · subst hm
    exact ⟨_, modEpoch_only h.only, h.num, h.next, h.kind, h.copies, h.units⟩
  · exact ⟨e, by simp [closeEpoch, modEpoch, h.only, hm], h.num, h.next, h.kind, h.copies, h.units⟩

/-- A granule taken is scheduled in the epoch; what is read of it leaves staging as it is (R139). -/
theorem takeGranule_oneEpoch {e : Epoch} {g : Nat} (hg : g / 128 = b) (h : OneEpoch n b s e)
    (hc : e.copies + (if isDuplex s (boltOf s g) then 2 else 1) ≤ 16384) :
    ∃ x, OneEpoch n b (takeGranule e.num .staging reads g s) x ∧
      x.copies = e.copies + (if isDuplex s (boltOf s g) then 2 else 1) := by
  unfold takeGranule
  extract_lets clean u v w
  have hu : Changes 0xce0c006b s u := by
    unfold u
    split
    · exact granuleRead_changes _ _ (by rfl) (.refl _ s)
    · exact .refl _ s
  have hv : Changes 0xce0c006b s v := by
    unfold v
    split
    · exact setEntry_changes _ _ (by rfl) hu
    · exact hu
  have hw : Changes 0xce0c006b s w := by
    unfold w
    split
    · exact hv
    · exact granuleRead_changes _ _ (by rfl) hv
  have hcopies : copiesOf (granuleUnit g .staging w) = if isDuplex s (boltOf s g) then 2 else 1 := by
    rw [copiesOf_granuleUnit, boltOf_congr (hw.drf rfl), isDuplex_congr (hw.drf rfl)]
  have hone := h.of_stg (hw.stg rfl)
  refine ⟨_, ⟨modEpoch_only hone.only, h.num, hone.next, h.kind, ?_, fun x hx => ?_⟩, ?_⟩
  · dsimp only
    rwa [hcopies]
  · rcases List.mem_append.1 hx with hx | hx
    · exact h.units x hx
    · obtain rfl := List.mem_singleton.1 hx
      exact ⟨rfl, hg⟩
  · dsimp only
    rw [hcopies]

theorem takeGranules_oneEpoch (l : List Nat) (hl : ∀ g ∈ l, g / 128 = b) {e : Epoch} (h : OneEpoch n b s e) :
    ∃ x, OneEpoch n b (takeGranules .staging reads l s) x := by
  induction l generalizing s e with
  | nil => exact ⟨e, h⟩
  | cons g l ih =>
    rw [takeGranules]
    split
    · exact ⟨e, h⟩
    next y hy =>
      obtain rfl : y = e := by
        have hm := List.mem_of_find?_eq_some hy
        rw [h.only] at hm
        exact List.mem_singleton.1 hm
      dsimp only
      generalize hd : (if isDuplex s (boltOf s g) then 2 else 1) = c
      split
      · exact closeEpoch_oneEpoch h _
      next hc =>
        obtain ⟨x, hx, -⟩ := takeGranule_oneEpoch (reads := reads) (hl g List.mem_cons_self) h (by omega)
        split
        · exact closeEpoch_oneEpoch hx _
        · exact ih (fun g hg => hl g (List.mem_cons_of_mem _ hg)) hx

theorem granuleRead_nil (a b : CopyRead) (g : Nat) (s : State) : granuleRead { bursts := [], a := a, b := b } g s = s := rfl

/-- Without ECC errors a selection touches the map and the epochs alone. -/
theorem takeGranules_nil (a b : CopyRead) (l : List Nat) (s : State) :
    Changes 0x11 s (takeGranules .staging { bursts := [], a := a, b := b } l s) := by
  induction l generalizing s with
  | nil => exact .refl _ s
  | cons g l ih =>
    have hg (m : Nat) : Changes 0x11 s (takeGranule m .staging { bursts := [], a := a, b := b } g s) := by
      unfold takeGranule
      simp only [granuleRead_nil, ite_self]
      refine schedule_changes _ _ (by rfl) ?_
      split
      · exact setEntry_changes _ _ (by rfl) (.refl _ s)
      · exact .refl _ s
    rw [takeGranules]
    split
    · exact .refl _ s
    · dsimp only
      generalize (if isDuplex s (boltOf s g) then 2 else 1) = c
      split
      · exact closeEpoch_changes _ (by rfl) (.refl _ s)
      · split
        · exact closeEpoch_changes _ (by rfl) (hg _)
        · exact (hg _).trans (ih _)

end Staging

/-- Settles O22. -/
theorem stagingSelectFillsEpoch : Obligations.StagingSelectFillsEpoch := by
  refine ⟨fun s b reads hrun hck hchoose he hn hsince => ?_, fun s reads hchoose hck hsince => ?_, fun s e he hopen => ?_⟩
  · have hstart : startCkpt s = s := by
      rw [startCkpt, if_neg (by simp; omega)]
    let x : Epoch := { num := s.stg.nextEpoch, kind := .staging, opened := engineNow s }
    let u : State := { s with stg := { s.stg with epochs := [x], nextEpoch := s.stg.nextEpoch + 1 } }
    have hopen : openNew .staging s = u := by
      rw [openNew, if_neg (by simp [openEpoch, unresolved, he]), if_neg (by omega), he]
      rfl
    have hu : openEpoch u = some x := rfl
    let l := (u.cache.map.filter (fun e => e.1 / 128 = b && e.2.st = .dirty && !e.2.pending)).map (·.1)
    have hexec : exec (.stagingSelect reads) s = .next (takeGranules .staging reads l u) := by
      change execStagingSelect reads s = _
      simp only [execStagingSelect, hrun, hstart, hck, hchoose, hopen, hu]
      rfl
    have hl : ∀ g ∈ l, g / 128 = b := by
      intro g hg
      obtain ⟨e, he, rfl⟩ := List.mem_map.1 hg
      have := (List.mem_filter.1 he).2
      simp only [Bool.and_eq_true, decide_eq_true_eq] at this
      exact this.1.1
    obtain ⟨e, hone⟩ := takeGranules_oneEpoch (reads := reads) l hl (s := u) (n := s.stg.nextEpoch) (e := x)
      ⟨rfl, rfl, rfl, rfl, Nat.zero_le _, fun y hy => absurd hy List.not_mem_nil⟩
    refine ⟨_, e, hexec, hone.only, hone.num, hone.kind, hone.next, hone.copies, fun hr => ?_, hone.units⟩
    obtain ⟨bursts, a, c⟩ := reads
    subst hr
    have hch := takeGranules_nil a c l u
    exact ⟨hch.dram rfl, hch.nand rfl⟩
  · have hstart : startCkpt s = s := by
      rw [startCkpt, if_neg (by simp; omega)]
    change execStagingSelect reads s = _
    simp [execStagingSelect, hstart, hck, hchoose]
  · have ho : openEpoch s = some e := by simp [openEpoch, he, hopen]
    have hexec : exec .epochAgeExpiry s = .next (closeEpoch e.num s) := by
      change Host.Outcome.next (closeOpen s) = _
      rw [closeOpen, ho]
    refine ⟨_, hexec, ?_, rfl⟩
    rw [closeEpoch, modEpoch_only he, hopen]
    rfl

end Sys2Proof.Machine

/-! PROOFS. A stall of a channel that no draft declares (08_engine_and_rail_link.md, Stall watchdogs). -/

namespace Sys2Proof.Machine

section Stalls

/-- The engine is fenced, and source 65, the event RWP_PAIR_E, has severity 4. -/
def fencedAtS4 : State :=
  { State.reset with
    warm := { State.reset.warm with engineUp := true }
    vlt := { State.reset.vlt with state := .fenced }
    flt := { State.reset.flt with sources := [(65, { sevUp := some 4 })] } }

/-- The engine's sources that stand after a stall of path 32, whose source number is 65. -/
def liveAfterStall (s : State) : Option (List Nat) :=
  match exec (.stallWatchdogExpiry (.path 32)) s with
  | .next t => some t.flt.engineLive
  | _ => none

theorem liveAfterStall_fencedAtS4 : liveAfterStall fencedAtS4 = some [] := by decide +kernel

end Stalls

/-- Refutes O28: the clause about a stall at S4 is about every channel number. Path 32 has the number of RWP_PAIR_E, 65,
as its source, which is an event: it is reported, and does not stand afterwards. -/
theorem not_stallsAndHeartbeats : ¬ Obligations.StallsAndHeartbeats := by
  rintro ⟨⟨-, hstall, -⟩, -⟩
  obtain ⟨t, ht, hlive, -⟩ := hstall fencedAtS4 32 (.path 32) (.inl rfl) rfl (.inl rfl) (by decide +kernel)
  have h := liveAfterStall_fencedAtS4
  rw [liveAfterStall, ht] at h
  simp [Option.some.inj h] at hlive

end Sys2Proof.Machine

/-! PROOFS. What keeps the keeper powered (R47): a fault, its reaction and belay; the cold reset (R73) and the start of the boot on a
good VIN (R330). -/

namespace Sys2Proof.Machine

/-! ### The domains as a list of twelve (R347) -/

section Domains
variable {s t : State} {d e : Nat}

theorem domAt_congr (h : t.pwr.doms = s.pwr.doms) (d : Nat) : domAt d t = domAt d s := by rw [domAt, h, ← domAt]

theorem domAt_modDom_ne (f : Dom → Dom) (h : e ≠ d) : domAt e (modDom d f s) = domAt e s := by
  change (match (s.pwr.doms.modify d f)[e]? with | some x => x | none => ({} : Dom)) = _
  rw [List.getElem?_modify]
  cases hx : s.pwr.doms[e]? <;> simp [domAt, hx, h.symm]

theorem domAt_modDom (f : Dom → Dom) (h : d < s.pwr.doms.length) : domAt d (modDom d f s) = f (domAt d s) := by
  change (match (s.pwr.doms.modify d f)[d]? with | some x => x | none => ({} : Dom)) = _
  rw [List.getElem?_modify, domAt, List.getElem?_eq_getElem h]
  simp

/-- A domain that stands otherwise than a domain that is off stands in the list. -/
theorem lt_of_domAt (h : domAt d s ≠ {}) : d < s.pwr.doms.length := by
  by_contra hn
  refine h ?_
  rw [domAt, List.getElem?_eq_none (by omega)]

theorem lt_of_modDom {f : Dom → Dom} (h : e < (modDom d f s).pwr.doms.length) : e < s.pwr.doms.length := by
  rwa [modDom, modAt, List.length_modify] at h

theorem lt_of_on (h : (domAt d s).on = true) : d < s.pwr.doms.length :=
  lt_of_domAt fun hd => by simp [hd] at h

/-- A domain that has just been switched on. -/
def started (x : Dom) : Dom := { x with on := true, good := false, shed := false, discharging := false, falling := false }

theorem railLinkBack_pwr (s : State) : (railLinkBack s).pwr = s.pwr := (railLinkBack_changes (m' := 0x40300) (by rfl) (.refl _ s)).pwr rfl

theorem switchOn_pwr (d : Nat) (s : State) : (switchOn d s).pwr = (modDom d started s).pwr := by
  unfold switchOn
  extract_lets v n w
  split
  · unfold w
    split
    · exact railLinkBack_pwr v
    · rfl
  · rfl

theorem domAt_switchOn (h : d < s.pwr.doms.length) : domAt d (switchOn d s) = started (domAt d s) :=
  (domAt_congr (congrArg PwrSt.doms (switchOn_pwr d s)) d).trans (domAt_modDom started h)

theorem domAt_switchOn_ne (h : e ≠ d) : domAt e (switchOn d s) = domAt e s :=
  (domAt_congr (congrArg PwrSt.doms (switchOn_pwr d s)) e).trans (domAt_modDom_ne started h)

/-- The domains of a group that are off are switched on in their order (R347). -/
def groupOn (g : Nat) (s : State) : State :=
  (groupDomains g s).foldl (fun s d => if (domAt d s).on then s else switchOn d s) s

/-- A group starts with its domains; the delay begins where they are all good already. -/
theorem startGroup_eq {g : Nat} (hg : g < 5) (s : State) : ∃ b, ∀ u, u = groupOn g { s with pwr := { s.pwr with group := g, delaying := false } } →
    startGroup g s = { u with pwr := { u.pwr with delaying := b } } := by
  let v := groupOn g { s with pwr := { s.pwr with group := g, delaying := false } }
  refine ⟨allGood (groupDomains g v) v || v.pwr.delaying, fun u hu => ?_⟩
  have hv : u = v := hu
  clear_value v
  subst hv
  unfold startGroup
  dsimp only
  rw [if_pos hg, ← groupOn, ← hu]
  split
  next h => rw [h, Bool.true_or]
  next h => rw [Bool.eq_false_iff.2 h, Bool.false_or]

end Domains

/-! ### What a fault and its reaction leave of the power: the keeper, and every domain that is off -/

section PowerOff
variable {s t u : State}

/-- The keeper keeps its power, no domain is switched on, and the charger's stop for the rate of rise stands. -/
structure PowerOff (s t : State) : Prop where
  keeper : t.pwr.keeper = s.pwr.keeper
  on : ∀ d, (domAt d t).on = true → (domAt d s).on = true
  rateStop : t.chg.rateStop = s.chg.rateStop

theorem PowerOff.of_eq (hk : t.pwr.keeper = s.pwr.keeper) (hd : t.pwr.doms = s.pwr.doms)
    (hr : t.chg.rateStop = s.chg.rateStop := by rfl) : PowerOff s t :=
  ⟨hk, fun d h => by rwa [domAt, hd, ← domAt] at h, hr⟩

theorem PowerOff.of_pwr (h : t.pwr = s.pwr) (hr : t.chg.rateStop = s.chg.rateStop := by rfl) : PowerOff s t :=
  .of_eq (by rw [h]) (by rw [h]) hr

theorem PowerOff.refl (s : State) : PowerOff s s := .of_pwr rfl

/-- What holds from a state holds from every state with its power. -/
theorem PowerOff.after (h : PowerOff t u) (hp : t.pwr = s.pwr) (hr : t.chg.rateStop = s.chg.rateStop := by rfl) : PowerOff s u :=
  ⟨h.keeper.trans (by rw [hp]), fun d hd => by
    have := h.on d hd
    rwa [domAt_congr (congrArg PwrSt.doms hp)] at this, h.rateStop.trans hr⟩

theorem PowerOff.trans (h : PowerOff s t) (k : PowerOff t u) : PowerOff s u :=
  ⟨k.keeper.trans h.keeper, fun d hd => h.on d (k.on d hd), k.rateStop.trans h.rateStop⟩

theorem domAt_modDom_on {f : Dom → Dom} (hf : ∀ x, (f x).on = true → x.on = true) (d e : Nat) (s : State)
    (h : (domAt e (modDom d f s)).on = true) : (domAt e s).on = true := by
  by_cases he : e = d
  · subst he
    rw [domAt_modDom f (lt_of_modDom (lt_of_on h))] at h
    exact hf _ h
  · rwa [domAt_modDom_ne f he] at h

/-- A change of a domain that does not switch it on. -/
theorem modDom_powerOff {f : Dom → Dom} (hf : ∀ x, (f x).on = true → x.on = true) (d : Nat) (s : State) : PowerOff s (modDom d f s) :=
  ⟨rfl, fun e => domAt_modDom_on hf d e s, rfl⟩

theorem foldl_powerOff {α : Type} {f : State → α → State} (h : ∀ s a, PowerOff s (f s a)) (l : List α) (s : State) :
    PowerOff s (l.foldl f s) := by
  induction l generalizing s with
  | nil => exact .refl s
  | cons a l ih => exact (h s a).trans (ih _)

theorem Changes.powerOff (h : Changes 0xfffedfff s t) : PowerOff s t := .of_pwr (h.pwr rfl) (by rw [h.chg rfl])

theorem stopHostSeq_powerOff (s : State) : PowerOff s (stopHostSeq s) := by
  unfold stopHostSeq
  split <;> exact .of_eq rfl rfl

theorem switchOff_powerOff (d : Nat) (s : State) : PowerOff s (switchOff d s) := by
  unfold switchOff
  split
  · exact .refl s
  extract_lets dis v
  have hv : PowerOff s v := modDom_powerOff (fun _ h => by simp at h) d s
  split
  · exact hv.trans ((engineLost_changes (by rfl) (.refl _ _)).powerOff.after rfl)
  split
  · exact hv.trans (.of_eq rfl rfl)
  split
  · exact hv.trans (ddrLost_changes (by rfl) (.refl _ v)).powerOff
  · exact hv

theorem shedDomain_powerOff (d : Nat) (s : State) : PowerOff s (shedDomain d s) := by
  unfold shedDomain
  split
  · exact (switchOff_powerOff d s).trans (modDom_powerOff (fun _ h => by exact h) d _)
  · exact .refl s

theorem shedTogether_powerOff (b : Bool) (s : State) : PowerOff s (shedTogether b s) := by
  unfold shedTogether
  have hf (u : State) (d : Nat) : PowerOff u (if b then shedDomain d u else switchOff d u) := by
    split
    · exact shedDomain_powerOff d u
    · exact switchOff_powerOff d u
  exact ((stopHostSeq_powerOff s).trans (foldl_powerOff hf ..)).trans (.of_eq rfl rfl)

theorem drivePair_powerOff (p : PairId) (b : Bool) (s : State) : PowerOff s (drivePair p b s) :=
  (drivePair_changes p b (by rfl) (.refl _ s)).powerOff

theorem stopCharger_powerOff (s : State) : PowerOff s (stopCharger s) := .of_pwr rfl

theorem endExercise_powerOff (c : Nat) (s : State) : PowerOff s (endExercise c s) := by
  unfold endExercise
  split <;> exact .of_pwr rfl

theorem logEvent_powerOff (c a b : Nat) (s : State) : PowerOff s (logEvent c a b s) := (logEvent_changes c a b (by rfl) (.refl _ s)).powerOff

theorem enterBelay_powerOff (n : Nat) (s : State) : PowerOff s (enterBelay n s) := by
  unfold enterBelay
  split
  · exact .refl s
  have hp (u : State) (b : Bool) : PowerOff u (setPfail b u) := .of_eq rfl rfl
  have hh (u : State) (m : HuMode) : PowerOff u (setHoldup m u) := .of_eq rfl rfl
  exact ((((((PowerOff.of_pwr (by rfl)).trans (drivePair_powerOff ..)).trans (drivePair_powerOff ..)).trans (hp _ _)).trans
    (stopCharger_powerOff _)).trans (hh _ _)).trans ((shedTogether_powerOff ..).trans (logEvent_powerOff ..))

theorem offGroupList_powerOff (l : List Nat) (s : State) : PowerOff s (offGroupList l s) := by
  induction l generalizing s with
  | nil => exact .of_eq rfl rfl
  | cons g l ih =>
    have hf := foldl_powerOff (fun u d => switchOff_powerOff d u) (offDomains g s) s
    unfold offGroupList
    dsimp only
    split
    · exact hf.trans (.of_eq rfl rfl)
    · exact hf.trans (ih _)

theorem beginOff_powerOff (l : List Nat) (s : State) : PowerOff s (beginOff l s) := by
  unfold beginOff
  exact (PowerOff.of_eq (by rfl) (by rfl)).trans (offGroupList_powerOff l _)

theorem startShed_powerOff (s : State) : PowerOff s (startShed s) := by
  unfold startShed
  dsimp only
  refine (stopHostSeq_powerOff s).trans ?_
  split
  · exact .of_eq rfl rfl
  next d rest _ =>
    refine (shedDomain_powerOff d _).trans ?_
    split <;> exact .of_eq rfl rfl

theorem confirmOutputs_powerOff (s : State) : PowerOff s (confirmOutputs s) := by
  unfold confirmOutputs
  extract_lets v
  have hv : PowerOff s v := (PowerOff.of_eq (by rfl) (by rfl)).trans (drivePair_powerOff ..)
  exact hv.trans (((stopCharger_powerOff _).trans (endExercise_powerOff 1 _)).after rfl)

theorem confirm_powerOff (c n : Nat) (s : State) : PowerOff s (confirm c n s) := by
  unfold confirm
  split
  · split
    · exact .refl s
    · exact logEvent_powerOff ..
  split
  · exact .refl s
  split
  · dsimp only
    split
    · exact confirmOutputs_powerOff s
    split
    · exact ((confirmOutputs_powerOff s).trans (startShed_powerOff _)).trans (beginOff_powerOff ..)
    · exact (confirmOutputs_powerOff s).trans (startShed_powerOff _)
  split
  · exact .refl s
  extract_lets k v
  have hv : PowerOff s v := (recordConfirm_changes k n (by rfl) (.refl _ s)).powerOff.trans (confirmOutputs_powerOff _)
  split
  · exact (hv.trans (confirmInReset_changes k n (by rfl) (.refl _ v)).powerOff).trans (startShed_powerOff _)
  split
  · exact hv
  · exact hv.trans (startShed_powerOff v)

theorem clearUnit_powerOff (u : Nat) (s : State) : PowerOff s (clearUnit u s) := by
  by_cases hd : u = 40
  · subst hd
    exact foldl_powerOff (fun u d => modDom_powerOff (fun _ h => by exact h) d u) _ s
  by_cases hc : u = 41
  · subst hc
    exact (PowerOff.of_eq (by rfl) (by rfl)).trans (stopCharger_powerOff _)
  unfold clearUnit
  split
  · exact (clearCxlPort_changes (by rfl) (.refl _ s)).powerOff
  split
  · exact .of_pwr rfl
  split
  · exact .of_pwr rfl
  split
  · exact (clearSequencer_changes (by rfl) (.refl _ s)).powerOff
  split
  · exact (dropKey_changes (by rfl) (voidUnits_changes _ _ (by rfl) (.refl _ s))).powerOff
  split
  · exact (dropKey_changes (by rfl) (.refl _ s)).powerOff
  split
  · exact .of_pwr rfl
  split
  · exact (clearGauge_changes (by rfl) (.refl _ s)).powerOff
  · exact .refl s

theorem beginUnitReset_powerOff (u : Nat) (s : State) : PowerOff s (beginUnitReset u s) :=
  (((clearUnit_powerOff u _).trans (logEvent_powerOff ..)).after rfl)

theorem unitReaction_powerOff (n : Nat) (s : State) : PowerOff s (unitReaction n s) := by
  unfold unitReaction
  extract_lets v
  have hv : PowerOff s v := .of_pwr rfl
  split
  · exact hv
  · exact hv.trans ((beginUnitReset_powerOff ..).after rfl)

theorem takeReaction_powerOff (n v : Nat) (s : State) : PowerOff s (takeReaction n v s) := by
  unfold takeReaction
  split
  · exact enterBelay_powerOff n s
  split
  · exact (selvedgeHold_changes false (by rfl) (.refl _ s)).powerOff
  split
  · exact .refl s
  split
  · exact confirm_powerOff 4 n s
  split
  · exact unitReaction_powerOff n s
  · exact .refl s

theorem react_powerOff (n v : Nat) (s : State) : PowerOff s (react n v s) := by
  unfold react
  dsimp only
  split
  · exact takeReaction_powerOff ..
  · exact (PowerOff.of_pwr (by rfl)).trans (takeReaction_powerOff ..)

theorem enterSev_powerOff (n v m d : Nat) (s : State) : PowerOff s (enterSev n v m d s) := by
  unfold enterSev
  extract_lets first u k w src taken
  have hu : PowerOff s u := .of_pwr rfl
  split
  · exact hu.trans ((captureFirst_changes _ _ _ _ _ (by rfl) (.refl _ u)).powerOff.trans ((PowerOff.of_pwr (by rfl)).trans
      (logFault_changes _ _ _ _ _ (by rfl) (.refl _ _)).powerOff))
  · exact hu.trans ((logFault_changes _ _ _ _ _ (by rfl)
      (captureFirst_changes _ _ _ _ _ (by rfl) (.refl _ u))).powerOff.trans (react_powerOff ..))

theorem enterFault_powerOff (n d : Nat) (s : State) : PowerOff s (enterFault n d s) := enterSev_powerOff ..

theorem withAbort_powerOff {f : State → State} (h : ∀ s, PowerOff s (f s)) (s : State) : PowerOff s (withAbort f s) := by
  unfold withAbort
  dsimp only
  split
  · exact (h s).trans (enterFault_powerOff ..)
  · exact h s

theorem codeChange_powerOff (n : Nat) (a b : Bool) (d : Nat) (s : State) : PowerOff s (codeChange n a b d s) := by
  unfold codeChange
  split
  · exact .refl s
  split
  · exact .of_pwr rfl
  extract_lets was v src w
  have hw : PowerOff s w := by
    unfold w
    split <;> exact .of_pwr rfl
  split
  · exact hw.trans (withAbort_powerOff (fun u => enterFault_powerOff n d u) w)
  · exact hw

theorem pcFault_powerOff (n d : Nat) (s : State) : PowerOff s (pcFault n d s) := by
  unfold pcFault
  split
  · exact withAbort_powerOff (fun u => enterFault_powerOff n d u) s
  · exact codeChange_powerOff ..

theorem pcClear_powerOff (n : Nat) (s : State) : PowerOff s (pcClear n s) := codeChange_powerOff ..

theorem pcCond_powerOff (n : Nat) (b : Bool) (s : State) : PowerOff s (pcCond n b s) := by
  unfold pcCond
  split
  · exact pcFault_powerOff ..
  · exact pcClear_powerOff ..

end PowerOff

section Keeper

/-- A step that leaves the power group leaves the keeper. -/
theorem Changes.keeper {s t : State} (h : Changes 0xffffdfff s t) : t.pwr.keeper = s.pwr.keeper := by rw [h.pwr rfl]

theorem foldl_keeper {α : Type} {f : State → α → State} (h : ∀ s a, (f s a).pwr.keeper = s.pwr.keeper) (l : List α) (s : State) :
    (l.foldl f s).pwr.keeper = s.pwr.keeper := by
  induction l generalizing s with
  | nil => rfl
  | cons a l ih => exact (ih _).trans (h s a)

theorem logEvent_keeper (c a b : Nat) (s : State) : (logEvent c a b s).pwr.keeper = s.pwr.keeper := (logEvent_powerOff c a b s).keeper

theorem react_keeper (n v : Nat) (s : State) : (react n v s).pwr.keeper = s.pwr.keeper := (react_powerOff n v s).keeper

theorem enterSev_keeper (n v m d : Nat) (s : State) : (enterSev n v m d s).pwr.keeper = s.pwr.keeper := (enterSev_powerOff n v m d s).keeper

theorem withAbort_keeper {f : State → State} (h : ∀ s, PowerOff s (f s)) (s : State) :
    (withAbort f s).pwr.keeper = s.pwr.keeper := (withAbort_powerOff h s).keeper

theorem pcFault_keeper (n d : Nat) (s : State) : (pcFault n d s).pwr.keeper = s.pwr.keeper := (pcFault_powerOff n d s).keeper

theorem pcClear_keeper (n : Nat) (s : State) : (pcClear n s).pwr.keeper = s.pwr.keeper := (pcClear_powerOff n s).keeper

theorem pcCond_keeper (n : Nat) (b : Bool) (s : State) : (pcCond n b s).pwr.keeper = s.pwr.keeper := (pcCond_powerOff n b s).keeper

end Keeper

/-! ### The flash that the steward reads and writes at its boot -/

section FlashKeeper

theorem accessFault_keeper (n : Nat) (m : Master) (a : Nat) (s : State) : (accessFault n m a s).pwr.keeper = s.pwr.keeper :=
  withAbort_keeper (fun u => enterSev_powerOff n _ _ a u) s

theorem eccEffects_keeper (m : Master) (w : Nat) (s : State) : (eccEffects m w s).pwr.keeper = s.pwr.keeper := by
  unfold eccEffects
  split
  · rfl
  · rfl
  · exact (busError_changes m (by rfl) (.refl _ _)).keeper.trans (accessFault_keeper ..)

theorem stewardReads_keeper (f : Nat → Bool) (s : State) : (stewardReads f s).pwr.keeper = s.pwr.keeper := by
  unfold stewardReads
  rw [foldl_keeper (fun u (e : Nat × EflWord) => eccEffects_keeper .steward e.1 u)]

theorem wearOut_keeper (b : Nat) (s : State) : (wearOut b s).pwr.keeper = s.pwr.keeper := pcFault_keeper ..

theorem putRecord_keeper (h t b c : Nat) (s : State) : (putRecord h t b c s).pwr.keeper = s.pwr.keeper :=
  (putRecord_changes h t b c (by rfl) (.refl _ s)).keeper

theorem wipeBlock_keeper (b : Nat) (s : State) : (wipeBlock b s).pwr.keeper = s.pwr.keeper :=
  (wipeBlock_changes b (by rfl) (.refl _ s)).keeper

theorem nextFree_keeper (s : State) : (nextFree s).pwr.keeper = s.pwr.keeper := rfl

theorem stewardWrite_keeper (w : StewardWrite) (s : State) : (stewardWrite w s).pwr.keeper = s.pwr.keeper :=
  (stewardWrite_changes w (by rfl) (.refl _ s)).keeper

theorem voidOpen_keeper (k : Nat) (s : State) : (voidOpen k s).pwr.keeper = s.pwr.keeper :=
  (voidOpen_changes k (by rfl) (.refl _ s)).keeper

theorem eraseTries_keeper (h b n : Nat) (s : State) : (eraseTries h b n s).pwr.keeper = s.pwr.keeper := by
  induction n generalizing s with
  | zero => exact wearOut_keeper b s
  | succ n ih =>
    unfold eraseTries
    extract_lets c v bad w
    have hw : w.pwr.keeper = s.pwr.keeper := by
      unfold w v
      rw [nextFree_keeper, putRecord_keeper, wipeBlock_keeper, putRecord_keeper]
    clear_value w
    split
    · rw [ih]
      exact hw
    · exact hw

theorem eraseIn_keeper (h b : Nat) (s : State) : (eraseIn h s b).pwr.keeper = s.pwr.keeper := by
  unfold eraseIn
  split
  · rfl
  · exact eraseTries_keeper ..

theorem journalRoom_keeper (s : State) : (journalRoom s).pwr.keeper = s.pwr.keeper := by
  unfold journalRoom
  extract_lets old new counts v
  have hv : v.pwr.keeper = s.pwr.keeper := by
    unfold v
    rw [foldl_keeper (fun u (e : Nat × Nat) => putRecord_keeper new 0x53 e.1 e.2 u)]
  split
  · rfl
  · clear_value v
    rw [foldl_keeper (fun u b => eraseIn_keeper new b u)]
    exact hv

theorem journal_keeper (t b c : Nat) (s : State) : (journal t b c s).pwr.keeper = s.pwr.keeper := by
  unfold journal
  rw [putRecord_keeper, journalRoom_keeper]

theorem eraseNow_keeper (b : Nat) (s : State) : (eraseNow s b).pwr.keeper = s.pwr.keeper := by
  unfold eraseNow
  rw [eraseIn_keeper, journalRoom_keeper]

theorem writeEntry_keeper (k h i : Nat) (l : List Nat) (s : State) : (writeEntry k h i l s).pwr.keeper = s.pwr.keeper :=
  (writeEntry_changes k h i l (by rfl) (.refl _ s)).keeper

theorem commitEntry_keeper (k : Nat) (l : List Nat) (s : State) : (commitEntry k l s).pwr.keeper = s.pwr.keeper := by
  unfold commitEntry
  extract_lets newest seq words
  split
  · rfl
  split
  split
  · exact writeEntry_keeper ..
  · rw [writeEntry_keeper, eraseNow_keeper]

theorem bootEntry_keeper (n : Nat) (b : Bool) (s : State) : (bootEntry n b s).pwr.keeper = s.pwr.keeper := by
  unfold bootEntry
  dsimp only
  split
  · split
    · exact (markNewest_changes _ _ _ (by rfl) (.refl _ _)).keeper.trans (commitEntry_keeper ..)
    · exact commitEntry_keeper ..
  · rfl

theorem revertTrial_keeper (s : State) : (revertTrial s).pwr.keeper = s.pwr.keeper := by
  unfold revertTrial
  dsimp only
  split
  · split <;> exact bootEntry_keeper ..
  · rfl

theorem chooseImage_keeper (s : State) : (chooseImage s).pwr.keeper = s.pwr.keeper := by
  unfold chooseImage
  dsimp only
  split
  · rfl
  · exact bootEntry_keeper ..
  · rfl

theorem countIncomplete_keeper (s : State) : (countIncomplete s).pwr.keeper = s.pwr.keeper := by
  unfold countIncomplete
  dsimp only
  split
  · exact foldl_keeper (fun u e => journal_keeper _ _ _ u) _ _
  · rfl

theorem bootLifeCycle_keeper (s : State) : (bootLifeCycle s).pwr.keeper = s.pwr.keeper :=
  (bootLifeCycle_changes (by rfl) (.refl _ s)).keeper

theorem stewardBoot_keeper (s : State) : (stewardBoot s).pwr.keeper = s.pwr.keeper := by
  unfold stewardBoot
  extract_lets a b c sd se d sf
  have ha : a.pwr.keeper = s.pwr.keeper := by
    unfold a
    split
    · exact (completeProgram_changes _ _ (by rfl) (.refl _ s)).keeper
    · exact (cutOperation_changes (by rfl) (.refl _ s)).keeper
  have hb : b.pwr.keeper = a.pwr.keeper := by
    unfold b
    rw [chooseImage_keeper, revertTrial_keeper, voidOpen_keeper, countIncomplete_keeper, stewardReads_keeper]
  have hc : c.pwr.keeper = b.pwr.keeper := by
    unfold c
    rw [voidOpen_keeper, voidOpen_keeper, voidOpen_keeper]
  clear_value a
  clear_value b
  clear_value c
  exact (bootLifeCycle_keeper _).trans (hc.trans (hb.trans ha))

theorem newKey_keeper (s : State) : (newKey s).1.pwr.keeper = s.pwr.keeper := by
  unfold newKey
  dsimp only
  split
  · rfl
  split
  · exact (zeroOldKeys_changes (by rfl) (.refl _ _)).keeper.trans (commitEntry_keeper ..)
  · exact commitEntry_keeper ..

theorem mfgKey_keeper (b : Bool) (s : State) : (mfgKey b s).pwr.keeper = s.pwr.keeper := by
  unfold mfgKey
  split
  · exact newKey_keeper s
  · rfl

theorem activateCand_keeper (d : Draft) (s : State) : (activateCand d s).pwr.keeper = s.pwr.keeper := by
  have ht (l : List Nat) : (logEvent 0xA d.generation (candSlot s) (commitEntry 2 l s)).pwr.keeper = s.pwr.keeper :=
    (logEvent_keeper ..).trans (commitEntry_keeper ..)
  unfold activateCand
  dsimp only
  split
  · exact commitEntry_keeper ..
  split
  · exact (restructure_changes (by rfl) (ddrLost_changes (by rfl) (.refl _ _))).keeper.trans ((stewardWrite_keeper ..).trans (ht _))
  · exact (stewardWrite_keeper ..).trans (ht _)

theorem considerCand_keeper (b : Bool) (s : State) : (considerCand b s).pwr.keeper = s.pwr.keeper := by
  unfold considerCand
  split
  · rfl
  split
  · exact (withdrawCand_changes _ _ (by rfl) (.refl _ s)).keeper
  split
  · rfl
  split
  · exact activateCand_keeper ..
  split
  · rfl
  · exact (withdrawCand_changes _ _ (by rfl) (.refl _ s)).keeper

theorem draftAtReset_keeper (b : Bool) (s : State) : (draftAtReset b s).pwr.keeper = s.pwr.keeper := by
  have hc : (chooseDraft s).pwr.keeper = s.pwr.keeper := (chooseDraft_changes (by rfl) (.refl _ s)).keeper
  unfold draftAtReset considerAfter
  dsimp only
  split
  · exact hc
  split <;> exact (considerCand_keeper ..).trans hc

theorem clearUnassigned_keeper (s : State) : (clearUnassigned s).pwr.keeper = s.pwr.keeper := by
  unfold clearUnassigned
  extract_lets zs v
  have hv : v.pwr.keeper = s.pwr.keeper := by
    unfold v
    refine foldl_keeper (fun u z => ?_) zs s
    rw [pcClear_keeper, pcClear_keeper]
  rw [pcCond_keeper]
  exact hv

theorem reenter_keeper (n : Nat) (s : State) : (reenter s n).pwr.keeper = s.pwr.keeper := by
  unfold reenter
  extract_lets v first w d u
  have hu : u.pwr.keeper = s.pwr.keeper :=
    (logFault_changes _ _ _ _ _ (by rfl) (captureFirst_changes _ _ _ _ _ (by rfl) (.refl _ w))).keeper
  split
  · exact (withAbort_keeper (fun x => react_powerOff n 4 x) u).trans hu
  · exact hu

theorem noteOverdue_keeper (s : State) : (noteOverdue s).pwr.keeper = s.pwr.keeper := by
  unfold noteOverdue
  split
  · exact pcFault_keeper ..
  · rfl

theorem checkRow_keeper (s : State) : (checkRow s).pwr.keeper = s.pwr.keeper := by
  unfold checkRow
  dsimp only
  split
  · exact pcFault_keeper ..
  · rfl

theorem bootDraft_keeper (b : Bool) (s : State) : (bootDraft b s).pwr.keeper = s.pwr.keeper := by
  unfold bootDraft
  extract_lets had sd v sf w x live
  have hv : v.pwr.keeper = s.pwr.keeper := by
    refine (clearUnassigned_keeper _).trans ?_
    split
    · rfl
    · exact draftAtReset_keeper ..
  have hw : w.pwr.keeper = v.pwr.keeper := rfl
  have hx : x.pwr.keeper = w.pwr.keeper := by
    unfold x
    split
    · rfl
    · exact (loadCapacity_changes (by rfl) (.refl _ w)).keeper
  refine (checkRow_keeper _).trans ((noteOverdue_keeper _).trans ?_)
  split
  · exact (foldl_keeper (fun u n => reenter_keeper n u) live x).trans (hx.trans (hw.trans hv))
  · exact hx.trans (hw.trans hv)

theorem reportLost_keeper (s : State) : (reportLost s).pwr.keeper = s.pwr.keeper := by
  unfold reportLost
  split
  · exact pcFault_keeper ..
  · rfl

end FlashKeeper

/-! ### The cold reset and the boot -/

section ColdReset
variable {s : State}

theorem cutOperation_of_idle (h : s.efl.op = none) : cutOperation s = s := by
  unfold cutOperation
  rw [h]

theorem bootDraft_wpLock (b : Bool) (s : State) : (bootDraft b s).efl.wpLock = true := by
  unfold bootDraft
  extract_lets had sd v sf w x live
  have hw : w.efl.wpLock = true := rfl
  have hx : x.efl = w.efl := by
    unfold x
    split
    · rfl
    · exact (loadCapacity_changes (m' := 0x8000) (by rfl) (.refl _ w)).efl rfl
  have hl (l : List Nat) (u : State) : (l.foldl reenter u).efl = u.efl := by
    induction l generalizing u with
    | nil => rfl
    | cons n l ih => exact (ih _).trans ((reenter_changes n (m' := 0xce3defff) (by rfl) (.refl _ u)).efl rfl)
  have hr (u : State) : (checkRow u).efl.wpLock = u.efl.wpLock := by
    unfold checkRow
    dsimp only
    split
    · rw [(pcFault_changes 232 0x400000 (m' := 0xce3defff) (by rfl) (.refl _ _)).efl rfl]
      rfl
    · rfl
  have ho (u : State) : (noteOverdue u).efl = u.efl := (noteOverdue_changes (m' := 0xce3defff) (by rfl) (.refl _ u)).efl rfl
  rw [hr, ho]
  split
  · rw [hl, hx, hw]
  · rw [hx, hw]

theorem reportLost_wpLock (s : State) : (reportLost s).efl.wpLock = s.efl.wpLock := by
  unfold reportLost
  split
  · rw [(pcFault_changes 226 0 (m' := 0xce3defff) (by rfl) (.refl _ _)).efl rfl]
  · rfl

theorem keeperStart_effects (a b : Nat) (p n q : Bool) (hk : s.pwr.keeper = false) : ∃ t, exec (.keeperStart a b p n q) s = .next t ∧
    t.pwr.keeper = true ∧ t.smb = { strap := a % 4 } ∧ t.efl.wpLock = true := by
  let u := modDom 0 (fun d => { d with on := true, good := true }) { replacePackages p n s with
    pwr := { (replacePackages p n s).pwr with keeper := true, pfailAsserted := true }, smb := { strap := a % 4 }
    cache := { (replacePackages p n s).cache with unfit := b % 16 } }
  have hu : u.pwr.keeper = true := rfl
  have hsmb : u.smb = { strap := a % 4 } := rfl
  have hexec : exec (.keeperStart a b p n q) s =
      .next (reportLost (bootDraft true (mfgKey q (stewardBoot (logEvent 7 0 0 u))))) := by
    change execKeeperStart a b p n q s = _
    rw [execKeeperStart, if_neg (by simp [hk])]
  clear_value u
  refine ⟨_, hexec, ?_, ?_, ?_⟩
  · rw [reportLost_keeper, bootDraft_keeper, mfgKey_keeper, stewardBoot_keeper, logEvent_keeper]
    exact hu
  · exact ((reportLost_changes (m' := 0xceffefff) (by rfl) (bootDraft_changes true (by rfl) (mfgKey_changes q (by rfl)
      (stewardBoot_changes (by rfl) (logEvent_changes 7 0 0 (by rfl) (.refl _ u)))))).smb rfl).trans hsmb
  · rw [reportLost_wpLock, bootDraft_wpLock]

theorem askWarm_changes_watchdog (s : State) : Changes 0xce3defff s (askWarm .watchdog (pcFault 233 0 s)) :=
  askWarm_changes _ (by rfl) (pcFault_changes 233 0 (by rfl) (.refl _ s))

/-- A good VIN of a powered keeper in NOT_ARMED with nothing in its way begins the boot (R330, R347). -/
theorem vinGood_boots (v : Nat) (hk : s.pwr.keeper = true) (hovp : s.vin.ovp = false) (hf : isFrozen 2 s = false)
    (hv : 100 * (setting s P.vinWarn + setting s P.vinHyst) < 25 * v) (hb : s.flt.belay = false) (hst : s.vlt.state = .notArmed)
    (ho : s.pwr.hostOwed = false) (ha : s.drf.active ≠ none) (hon : (domAt 11 s).on = false) (hq : s.pwr.seq = .none)
    (hs : Sound s) :
    ∃ t, exec (.vinGood v) s = .next t ∧ t.vin.good = true ∧ t.vin.armed = true ∧ t.vin.vin = v ∧ t.vin.warn = s.vin.warn ∧
      t.pwr.seq = .boot ∧ t.pwr.group = 0 ∧ (domAt 11 t).on = true ∧ t.warm.coldBoot = true := by
  have ht : vinTaken v s = v := if_neg (by simp [hf])
  obtain ⟨a, hva⟩ : ∃ a, vinIsGood v s = chargerCheck (pcClear 164 a) ∧ a = { s with vin := a.vin } ∧ a.vin.good = true ∧
      a.vin.armed = true ∧ a.vin.vin = v ∧ a.vin.warn = s.vin.warn := ⟨_, rfl, rfl, rfl, rfl, rfl, rfl⟩
  obtain ⟨hva, hae, hgood, harm, hvin, hwarn⟩ := hva
  have hc : SourcesOnly a (pcClear 164 a) := pcClear_sourcesOnly 164 (by rw [hae]; exact hs.sources)
  have hcc : Changes 0x58004 a (vinIsGood v s) := by
    rw [hva]
    exact chargerCheck_changes (by rfl) (hc.changes.mono (by rfl))
  have hbel : (vinIsGood v s).flt.belay = false := by
    obtain ⟨_, _, _, _, hflt⟩ := hc.flt
    rw [hva, (chargerCheck_changes (m' := 0x18000) (by rfl) (.refl _ _)).flt rfl, hflt, hae]
    exact hb
  generalize hu : vinIsGood v s = u at hcc hbel
  have hvlt : u.vlt = s.vlt := (hcc.vlt rfl).trans (by rw [hae])
  have hpwr : u.pwr = s.pwr := (hcc.pwr rfl).trans (by rw [hae])
  have hdrf : u.drf = s.drf := (hcc.drf rfl).trans (by rw [hae])
  have hvu : u.vin = a.vin := hcc.vin rfl
  have hexec : exec (.vinGood v) s = .next (beginBoot u) := by
    change execVinGood v s = _
    unfold execVinGood
    dsimp only
    rw [ht, if_pos (by simp [hk, hovp, hv]), hu, startOnVin, if_neg (by simp [hbel]), if_neg (by simp [hvlt, hst]),
      if_neg (by simp [hvlt, hst]), if_neg (by simp [hpwr, ho]), if_pos]
    simp [hdrf, hpwr, domAt_congr (congrArg PwrSt.doms hpwr), hon, hq, Option.isSome_iff_ne_none.2 ha]
  let w : State := { u with
    warm := { u.warm with coldBoot := true }, pwr := { u.pwr with atHold := false, seq := .boot, offGroups := [], group := 0, delaying := false } }
  have hw : (domAt 11 w).on = false := (congrArg Dom.on (domAt_congr (congrArg PwrSt.doms hpwr) 11)).trans hon
  obtain ⟨b, hx⟩ := startGroup_eq (g := 0) (by decide) { w with pwr := { w.pwr with group := u.pwr.group, delaying := u.pwr.delaying } }
  have hg : switchOn 11 w = groupOn 0 w := by
    refine Eq.trans ?_ (rfl : (if (domAt 11 w).on then w else switchOn 11 w) = _)
    rw [hw]
    rfl
  have hboot : beginBoot u = { switchOn 11 w with pwr := { (switchOn 11 w).pwr with delaying := b } } := hx _ hg
  have hlen : 11 < w.pwr.doms.length := by
    change 11 < u.pwr.doms.length
    rw [hpwr, hs.domains]
    decide
  have hwc : Changes 0x42300 w (switchOn 11 w) := switchOn_changes 11 (.self _) (.refl _ w)
  have hp := switchOn_pwr 11 w
  refine ⟨_, hexec, ?_⟩
  rw [hboot]
  refine ⟨?_, ?_, ?_, ?_, congrArg PwrSt.seq hp, congrArg PwrSt.group hp, ?_, ?_⟩
  · exact (congrArg VinSt.good ((hwc.vin rfl).trans hvu)).trans hgood
  · exact (congrArg VinSt.armed ((hwc.vin rfl).trans hvu)).trans harm
  · exact (congrArg VinSt.vin ((hwc.vin rfl).trans hvu)).trans hvin
  · exact (congrArg VinSt.warn ((hwc.vin rfl).trans hvu)).trans hwarn
  · exact (congrArg Dom.on (domAt_switchOn hlen)).trans rfl
  · exact (congrArg RstSt.coldBoot (hwc.warm rfl)).trans rfl

end ColdReset

/-- Settles O42: what KEEPER_STOP builds is written out by field; the keeper's own start runs through its steps, none of which takes its
power away; a good VIN begins the boot with domain 11. -/
theorem coldResetAndBoot : Obligations.ColdResetAndBoot := by
  refine ⟨⟨fun s hk hop => ?_, fun s a b p n q hk => keeperStart_effects a b p n q hk, fun s hk => ?_⟩,
    fun s v hk hovp hf hv hb hst ho ha hon hq hs => vinGood_boots v hk hovp hf hv hb hst ho ha hon hq hs, fun s v hf hv => ?_⟩
  · have hexec : exec .keeperStop s = .next {
        nand := coldNand s.nand, efl := coldFlash s.efl, lcs := coldLifeCycle s.lcs, mbx := coldMailbox s.efl.dirty s
        stg := { epbScale := s.efl.scale }, sent := s.sent, free := s.free, pending := s.pending } := by
      change execKeeperStop s = _
      rw [execKeeperStop, if_pos hk, cutOperation_of_idle hop]
    exact ⟨_, hexec, rfl, rfl, rfl, rfl, rfl, rfl, rfl, rfl, rfl, rfl, rfl, rfl, rfl, rfl⟩
  · refine ⟨_, ?_, (askWarm_changes_watchdog { s with efl := { s.efl with trialFails := _ } }).efl rfl⟩
    change execStewardWatchdogExpiry s = _
    rw [execStewardWatchdogExpiry, if_neg (by simp [hk])]
  · have ht : vinTaken v s = v := if_neg (by simp [hf])
    change execVinGood v s = _
    unfold execVinGood
    dsimp only
    rw [ht, if_neg (by simp; omega)]

end Sys2Proof.Machine

/-! PROOFS. Impedance, charge counting, rest points and the daily fade (R370, R374 to R382): what one update of the gauge leaves and
what it keeps. -/

namespace Sys2Proof.Machine

section Gauge
variable {s t u : State}

theorem writeGauge_efl (s : State) : ∃ e, writeGauge s = { s with efl := e } ∧ e.words = s.efl.words := by
  unfold writeGauge stewardWrite
  dsimp only
  split
  · unfold makeWrite
    split
    · exact ⟨_, rfl, rfl⟩
    · exact ⟨_, rfl, rfl⟩
  · exact ⟨_, rfl, rfl⟩

/-- What the steps of a gauge update keep once the charge is counted: the current, the time and the throughput, the charge within the
capacity, the severities and the words of embedded flash. -/
structure GaugeSteps (s t : State) : Prop where
  changes : Changes 0x448004 s t
  sevUp : ∀ m, (srcAt m t).sevUp = (srcAt m s).sevUp
  words : t.efl.words = s.efl.words
  current : t.gau.current = s.gau.current
  updated : t.gau.updated = s.gau.updated
  throughput : t.gau.throughput = s.gau.throughput
  loaded : s.gau.loaded = true → t.gau.loaded = true
  charge : s.gau.qrem ≤ s.gau.cap → t.gau.qrem ≤ t.gau.cap

theorem GaugeSteps.trans (h : GaugeSteps s t) (k : GaugeSteps t u) : GaugeSteps s u where
  changes := h.changes.trans k.changes
  sevUp m := (k.sevUp m).trans (h.sevUp m)
  words := k.words.trans h.words
  current := k.current.trans h.current
  updated := k.updated.trans h.updated
  throughput := k.throughput.trans h.throughput
  loaded hl := k.loaded (h.loaded hl)
  charge hq := k.charge (h.charge hq)

theorem GaugeSteps.refl (s : State) : GaugeSteps s s := ⟨.refl _ s, fun _ => rfl, rfl, rfl, rfl, rfl, id, id⟩

theorem GaugeSteps.of_sourcesOnly (h : SourcesOnly s t) : GaugeSteps s t := by
  have hg := h.changes.gau rfl
  refine ⟨h.changes.mono (by rfl), h.sevUp, by rw [h.changes.efl rfl], ?_, ?_, ?_, ?_, ?_⟩ <;> rw [hg] <;> exact id

/-- A step that sets other registers of the gauge alone. -/
theorem GaugeSteps.put_gau {g : GauSt} (hc : g.current = s.gau.current) (hu : g.updated = s.gau.updated)
    (ht : g.throughput = s.gau.throughput) (hl : s.gau.loaded = true → g.loaded = true) (hq : s.gau.qrem ≤ s.gau.cap → g.qrem ≤ g.cap) :
    GaugeSteps s { s with gau := g } :=
  ⟨Changes.put_gau rfl (.refl _ s), fun _ => rfl, rfl, hc, hu, ht, hl, hq⟩

theorem GaugeSteps.quiet {n : Nat} (h : GaugeSteps s t) (hq : Quiet n s) : Quiet n t := by
  rwa [Quiet, sevOf_congr (h.changes.drf rfl) (h.sevUp n), inDrainStates_congr (h.changes.vlt rfl)]

theorem writeGauge_gaugeSteps (s : State) : GaugeSteps s (writeGauge s) := by
  have hc : Changes 0x448004 s (writeGauge s) := writeGauge_changes (by rfl) (.refl _ s)
  obtain ⟨e, he, hw⟩ := writeGauge_efl s
  rw [he] at hc ⊢
  exact ⟨hc, fun _ => rfl, hw, rfl, rfl, rfl, id, id⟩

theorem holdZero_gaugeSteps (was : Nat) (hq : Quiet 210 s) : GaugeSteps s (holdZero was s) := by
  unfold holdZero
  dsimp only
  split
  · exact (GaugeSteps.put_gau (g := { s.gau with heldZero := true, drift := true, soc := 0, eGuar := 0 }) rfl rfl rfl id id).trans
      (.of_sourcesOnly (pcFault_quiet 0 hq))
  · exact .refl s

theorem snapEmpty_gaugeSteps (hq : Quiet 211 s) : GaugeSteps s (snapEmpty s) := by
  unfold snapEmpty
  extract_lets count held sg v
  have hv : GaugeSteps s v := .put_gau rfl rfl rfl id (fun _ => Nat.zero_le _)
  split
  · split
    · have hw (g : GauSt) (hg : GaugeSteps v { v with gau := g }) : GaugeSteps s (writeGauge (pcFault 211 0 { v with gau := g })) :=
        ((hv.trans hg).trans (.of_sourcesOnly (pcFault_quiet 0 hq))).trans (writeGauge_gaugeSteps _)
      exact hw _ (.put_gau rfl rfl rfl id (fun _ => Nat.zero_le _))
    · exact hv
  · exact .refl s

theorem reportSoc_gaugeSteps (s : State) : GaugeSteps s (reportSoc s) := .put_gau rfl rfl rfl id id

theorem updateClass_gaugeSteps (s : State) : GaugeSteps s (updateClass s) := .put_gau rfl rfl rfl id id

theorem chargerCheck_gau (s : State) : ∃ c, (chargerCheck s).gau = { s.gau with cls := c } := by
  have hst (s : State) : ∃ c, (startCharger s).gau = { s.gau with cls := c } := by
    unfold startCharger
    split <;> exact ⟨_, rfl⟩
  unfold chargerCheck
  split
  · split
    · exact ⟨_, rfl⟩
    · exact hst s
  split
  · exact ⟨_, rfl⟩
  split
  · split
    · exact hst s
    · exact ⟨_, rfl⟩
  split
  · exact hst s
  · exact ⟨_, rfl⟩

theorem eGuarNow_of_empty (h : s.gau.heldZero = true ∨ s.gau.cap = 0) : eGuarNow s = 0 := by
  unfold eGuarNow
  rw [if_pos (by simpa [or_comm] using h)]

/-- The charge counted, before it is judged (R374). -/
theorem countCharge_charge (d c : Int) (s : State) : (countCharge d c s).gau.qrem ≤ (countCharge d c s).gau.cap := by
  change (if ((s.gau.qrem : Int) + d) < 0 then 0 else Nat.min s.gau.cap ((s.gau.qrem : Int) + d).toNat) ≤ s.gau.cap
  split
  · exact Nat.zero_le _
  · exact Nat.min_le_left ..

theorem gaugeUpdate_effects (d c : Int) (hk : s.pwr.keeper = true) (ha : s.drf.active ≠ none) (h210 : sevOf 210 s ≤ 1)
    (h211 : sevOf 211 s ≤ 1) :
    ∃ t, exec (.gaugeUpdate d c) s = .next t ∧ t.gau.current = c ∧ t.gau.updated = now s ∧
      (s.gau.loaded = true → t.gau.qrem ≤ t.gau.cap) ∧ (t.gau.heldZero = true ∨ t.gau.cap = 0 → t.gau.eGuar = 0) ∧
      t.gau.throughput = satAdd (2 ^ 64 - 1) s.gau.throughput (if d < 0 then (-d).toNat else 0) ∧
      t.cell = s.cell ∧ t.thm = s.thm ∧ t.tbs = s.tbs ∧ t.efl.words = s.efl.words := by
  let v := countCharge d c s
  let w : State := if firstDue v then firstReading v else v
  let x : State := { w with gau := { w.gau with impStale := w.gau.impStale || impOld w } }
  let y := updateClass (reportSoc (snapEmpty (holdZero (countNow s) x)))
  let z : State := { y with gau := { y.gau with eGuar := eGuarNow y } }
  have hexec : exec (.gaugeUpdate d c) s = .next (sendEnergy (chargerCheck (dischargeEnd (chargerCurrent z)))) := by
    change execGaugeUpdate d c s = _
    unfold execGaugeUpdate
    dsimp only
    rw [if_neg (by simp [hk, ha])]
  have hq (n : Nat) (hn : beyondRecovery n = false) (hs : sevOf n s ≤ 1) : Quiet n v := ⟨hs, .inr hn⟩
  have hvq : v.gau.qrem ≤ v.gau.cap := countCharge_charge d c s
  have hvc : Changes 0x448004 s v := countCharge_changes d c (by rfl) (.refl _ s)
  have hvw : v.efl.words = s.efl.words := rfl
  have hcur : v.gau.current = c := rfl
  have hupd : v.gau.updated = now s := rfl
  have hthr : v.gau.throughput = satAdd (2 ^ 64 - 1) s.gau.throughput (if d < 0 then (-d).toNat else 0) := rfl
  have hld : v.gau.loaded = s.gau.loaded := rfl
  have hq0 := hq 210 (by decide) h210
  have hq1 := hq 211 (by decide) h211
  clear_value v
  have hw : Changes 0x448004 v w ∧ (∀ m, (srcAt m w).sevUp = (srcAt m v).sevUp) ∧ w.efl.words = v.efl.words ∧
      w.gau.current = v.gau.current ∧ w.gau.updated = v.gau.updated ∧ w.gau.throughput = v.gau.throughput ∧
      (v.gau.loaded = true → w = v) := by
    unfold w
    split
    next hf =>
      refine ⟨firstReading_changes (by rfl) (.refl _ v), fun _ => rfl, rfl, rfl, rfl, rfl, fun hl => ?_⟩
      rw [firstDue, hl] at hf
      simp at hf
    · exact ⟨.refl _ v, fun _ => rfl, rfl, rfl, rfl, rfl, fun _ => rfl⟩
  clear_value w
  obtain ⟨hwc, hws, hww, hwcur, hwupd, hwthr, hwl⟩ := hw
  have hqw {n : Nat} (h : Quiet n v) : Quiet n w := by
    rwa [Quiet, sevOf_congr (hwc.drf rfl) (hws n), inDrainStates_congr (hwc.vlt rfl)]
  have hx : GaugeSteps w x := .put_gau rfl rfl rfl id id
  have hh := hx.trans (holdZero_gaugeSteps (countNow s) (hx.quiet (hqw hq0)))
  have hy : GaugeSteps w y := ((hh.trans (snapEmpty_gaugeSteps (hh.quiet (hqw hq1)))).trans (reportSoc_gaugeSteps _)).trans
    (updateClass_gaugeSteps _)
  clear_value y
  have hzy : z = { y with gau := { y.gau with eGuar := eGuarNow y } } := rfl
  clear_value z
  have hdc : Changes 0x10010 z (dischargeEnd (chargerCurrent z)) := dischargeEnd_changes (by rfl) (chargerCurrent_changes (by rfl) (.refl _ z))
  obtain ⟨k, hck⟩ := chargerCheck_gau (dischargeEnd (chargerCurrent z))
  generalize dischargeEnd (chargerCurrent z) = a at hexec hdc hck
  have hac : Changes 0x4c058010 z (sendEnergy (chargerCheck a)) :=
    sendEnergy_changes (by rfl) (chargerCheck_changes (by rfl) (hdc.mono (by rfl)))
  have hg : (sendEnergy (chargerCheck a)).gau = { z.gau with cls := k } := by
    rw [(sendEnergy_changes (m' := 0x4c000000) (by rfl) (.refl _ _)).gau rfl, hck, hdc.gau rfl]
  have htot : Changes 0x4c458014 s (sendEnergy (chargerCheck a)) := by
    refine ((hvc.trans (hwc.trans hy.changes)).mono (by rfl)).trans (.trans ?_ (hac.mono (by rfl)))
    rw [hzy]
    exact Changes.put_gau rfl (.refl _ y)
  refine ⟨_, hexec, ?_, ?_, fun hl => ?_, fun he => ?_, ?_, htot.cell rfl, htot.thm rfl, htot.tbs rfl, ?_⟩
  · rw [hg, hzy]
    exact hy.current.trans (hwcur.trans hcur)
  · rw [hg, hzy]
    exact hy.updated.trans (hwupd.trans hupd)
  · rw [hg, hzy]
    refine hy.charge ?_
    rw [hwl (hld.trans hl)]
    exact hvq
  · rw [hg] at he ⊢
    rw [hzy] at he ⊢
    exact eGuarNow_of_empty he
  · rw [hg, hzy]
    exact hy.throughput.trans (hwthr.trans hthr)
  · rw [hac.efl rfl, hzy]
    exact hy.words.trans (hww.trans hvw)

theorem satAdd_of_lt {m n : Nat} (h : n < m) : satAdd m n 1 = n + 1 := if_pos h

/-- The day's fade counted and reported, before it is judged and written (R382). -/
def faded (s : State) : State :=
  let cap := s.gau.cap - dayFade (dayMean s) (dayDischarge s) s
  reportSoc { newDay s with gau := { (newDay s).gau with cap := cap, qrem := Nat.min cap s.gau.qrem, days := satAdd 65535 s.gau.days 1 } }

theorem newDay_gau (s : State) : (newDay s).gau = { s.gau with fadeBase := s.gau.throughput } := by
  unfold newDay
  dsimp only
  split <;> rfl

theorem fadeDaily_eq (hk : s.pwr.keeper = true) (ha : s.drf.active ≠ none) :
    exec .fadeDaily s = .next (writeGauge (noteOverdue (faded s))) := by
  change execFadeDaily s = _
  rw [execFadeDaily, if_pos (by simp [hk, Option.isSome_iff_ne_none.2 ha])]
  dsimp only
  rw [newDay_gau]
  unfold faded
  dsimp only
  rw [newDay_gau]

theorem newDay_eq (s : State) : ∃ f, newDay s = { s with
    free := f, thm := { s.thm with daySum := 0, dayCount := 0 }, gau := { s.gau with fadeBase := s.gau.throughput } } ∧
    (s.thm.dayCount ≠ 0 → f = s.free) := by
  unfold newDay
  dsimp only
  split
  next h => exact ⟨_, rfl, fun hn => absurd h hn⟩
  · exact ⟨_, rfl, fun _ => rfl⟩

theorem countNow_congr (hc : t.gau.cap = s.gau.cap) (hq : t.gau.qrem = s.gau.qrem) : countNow t = countNow s := by
  rw [countNow, hc, hq, ← countNow]

theorem discharging_congr (hd : t.drf = s.drf) (hc : t.gau.current = s.gau.current) : discharging t = discharging s := by
  rw [discharging, hc, setting_congr hd, ← discharging]

/-- What is reported: the count, in discharge no more than before, and 0 while it is held (R378). -/
theorem reportSoc_eq (s : State) : ∃ v, reportSoc s = { s with gau := { s.gau with
      soc := v, heldZero := s.gau.heldZero && decide (countNow s = 0), fullValid := s.gau.fullValid && !discharging s, reported := true } } ∧
    (discharging s = false → v = countNow s) ∧ v ≤ countNow s := by
  unfold reportSoc
  dsimp only
  generalize countNow s = c
  refine ⟨_, rfl, fun hd => ?_, ?_⟩
  · rw [hd]
    split
    next h => exact (of_decide_eq_true (Bool.and_eq_true_iff.1 h).2).symm
    · rfl
  · split
    · exact Nat.zero_le _
    split
    · exact Nat.min_le_right ..
    · exact Nat.le_refl _

/-- The day counted: capacity and charge after the fade, one day more, and the record of the day begun again. -/
def dayCounted (cap f : Nat) (s : State) : State :=
  { s with
    free := f, thm := { s.thm with daySum := 0, dayCount := 0 }
    gau := { s.gau with fadeBase := s.gau.throughput, cap := cap, qrem := Nat.min cap s.gau.qrem, days := s.gau.days + 1 } }

theorem faded_shape (hd : s.gau.days < 65535) : ∃ f, (s.thm.dayCount ≠ 0 → f = s.free) ∧
    faded s = reportSoc (dayCounted (s.gau.cap - dayFade (dayMean s) (s.gau.throughput - s.gau.fadeBase) s) f s) := by
  obtain ⟨f, hn, hf⟩ := newDay_eq s
  refine ⟨f, hf, ?_⟩
  unfold faded
  rw [hn, satAdd_of_lt hd, dayDischarge]
  rfl

theorem reportSoc_dayCounted (cap f : Nat) (s : State) : ∃ g, reportSoc (dayCounted cap f s) = { s with
      gau := g, free := f, thm := { s.thm with daySum := 0, dayCount := 0 } } ∧
    g.cap = cap ∧
    g = { s.gau with
      cap := g.cap, qrem := Nat.min g.cap s.gau.qrem, days := s.gau.days + 1, fadeBase := s.gau.throughput, soc := g.soc
      fullValid := s.gau.fullValid && !discharging s, reported := true
      heldZero := s.gau.heldZero && decide (countNow { s with gau := g } = 0) } ∧
    (discharging s = false → g.soc = countNow { s with gau := g }) ∧ g.soc ≤ countNow { s with gau := g } := by
  obtain ⟨v, hv, hveq, hvle⟩ := reportSoc_eq (dayCounted cap f s)
  have hdis : discharging (dayCounted cap f s) = discharging s := discharging_congr rfl rfl
  have hcount (x : GauSt) (hc : x.cap = cap) (hq : x.qrem = Nat.min cap s.gau.qrem) :
      countNow { s with gau := x } = countNow (dayCounted cap f s) := countNow_congr hc hq
  generalize countNow (dayCounted cap f s) = k at hv hveq hvle hcount
  rw [hdis] at hv hveq
  refine ⟨_, hv, rfl, ?_, fun hds => ?_, ?_⟩
  · rw [hcount _ rfl rfl]
    rfl
  · rw [hcount _ rfl rfl]
    exact hveq hds
  · rw [hcount _ rfl rfl]
    exact hvle

theorem faded_eq (hd : s.gau.days < 65535) : ∃ f g, faded s = { s with
      gau := g, free := f, thm := { s.thm with daySum := 0, dayCount := 0 } } ∧ (s.thm.dayCount ≠ 0 → f = s.free) ∧
    g.cap = s.gau.cap - dayFade (dayMean s) (s.gau.throughput - s.gau.fadeBase) s ∧
    g = { s.gau with
      cap := g.cap, qrem := Nat.min g.cap s.gau.qrem, days := s.gau.days + 1, fadeBase := s.gau.throughput, soc := g.soc
      fullValid := s.gau.fullValid && !discharging s, reported := true
      heldZero := s.gau.heldZero && decide (countNow { s with gau := g } = 0) } ∧
    (discharging s = false → g.soc = countNow { s with gau := g }) ∧ g.soc ≤ countNow { s with gau := g } := by
  obtain ⟨f, hf, hshape⟩ := faded_shape hd
  obtain ⟨g, hg, hrest⟩ := reportSoc_dayCounted (s.gau.cap - dayFade (dayMean s) (s.gau.throughput - s.gau.fadeBase) s) f s
  exact ⟨f, g, hshape.trans hg, hf, hrest⟩

theorem noteOverdue_of_soon (h : s.gau.days ≤ setting s P.learnOverdue) : noteOverdue s = s :=
  if_neg (by simp [Nat.not_lt.2 h])

theorem noteOverdue_of_late (ha : s.drf.active ≠ none) (h : setting s P.learnOverdue < s.gau.days) :
    noteOverdue s = pcFault 209 0 { s with gau := { s.gau with overdue := true } } :=
  if_pos (by simp [Option.isSome_iff_ne_none.2 ha, h])

theorem fadeDaily_soon (hk : s.pwr.keeper = true) (ha : s.drf.active ≠ none) (hl : s.gau.days < setting s P.learnOverdue)
    (hd : s.gau.days < 65535) : ∃ u, exec .fadeDaily s = .next u ∧
      u.gau.cap = s.gau.cap - dayFade (dayMean s) (s.gau.throughput - s.gau.fadeBase) s ∧
      u.gau = { s.gau with
        cap := u.gau.cap, qrem := Nat.min u.gau.cap s.gau.qrem, days := s.gau.days + 1, fadeBase := s.gau.throughput,
        soc := u.gau.soc, fullValid := s.gau.fullValid && !discharging s, reported := true,
        heldZero := s.gau.heldZero && decide (countNow u = 0) } ∧
      (discharging s = false → u.gau.soc = countNow u) ∧ u.gau.soc ≤ countNow u ∧ (s.thm.dayCount ≠ 0 → u.free = s.free) ∧
      u = { s with gau := u.gau, efl := u.efl, free := u.free, thm := { s.thm with daySum := 0, dayCount := 0 } } := by
  obtain ⟨f, g, hfg, hf, hcap, hg, hdis, hle⟩ := faded_eq hd
  have hdays : g.days = s.gau.days + 1 := by rw [hg]
  have hnote : noteOverdue (faded s) = faded s := by
    refine noteOverdue_of_soon ?_
    rw [hfg]
    change g.days ≤ setting s P.learnOverdue
    omega
  obtain ⟨e, he, -⟩ := writeGauge_efl (faded s)
  have hexec := fadeDaily_eq hk ha
  rw [hnote, he, hfg] at hexec
  exact ⟨_, hexec, hcap, hg, hdis, hle, hf, rfl⟩

theorem fadeDaily_late (hk : s.pwr.keeper = true) (ha : s.drf.active ≠ none) (hl : setting s P.learnOverdue ≤ s.gau.days)
    (hs : Sound s) (hd : s.gau.days < 65535) (h209 : sevOf 209 s ≤ 1) (hfz : (srcAt 209 s).frozen = false) :
    ∃ u, exec .fadeDaily s = .next u ∧ u.gau.overdue = true ∧ u.gau.days = s.gau.days + 1 ∧ inFault (srcAt 209 u) = true := by
  obtain ⟨f, g, hfg, -, -, hg, -, -⟩ := faded_eq hd
  have hdays : g.days = s.gau.days + 1 := by rw [hg]
  let v : State := { s with gau := { g with overdue := true }, free := f, thm := { s.thm with daySum := 0, dayCount := 0 } }
  have hnote : noteOverdue (faded s) = pcFault 209 0 v := by
    rw [noteOverdue_of_late, hfg]
    · rw [hfg]
      exact ha
    · rw [hfg]
      change setting s P.learnOverdue < g.days
      omega
  have hq : SourcesOnly v (pcFault 209 0 v) := pcFault_quiet 0 ⟨h209, .inr (by decide)⟩
  have hin : inFault (srcAt 209 (pcFault 209 0 v)) = true := pcFault_inFault 0 hs.sources (by decide) hfz (by decide)
  have hexec := fadeDaily_eq hk ha
  rw [hnote] at hexec
  obtain ⟨e, he, -⟩ := writeGauge_efl (pcFault 209 0 v)
  rw [he] at hexec
  refine ⟨_, hexec, ?_, ?_, hin⟩
  · exact (congrArg GauSt.overdue (hq.changes.gau rfl)).trans rfl
  · exact (congrArg GauSt.days (hq.changes.gau rfl)).trans hdays

theorem impedanceStep_records (x : StepSample) (hk : s.pwr.keeper = true) (ha : s.drf.active ≠ none) (hx : x.clean = true)
    (hi : 50 ≤ x.dMilliAmp.natAbs) (hr : 0 < (rfac (tStoreMean s) s).1) :
    ∃ r, exec (.impedanceStep x) s = .next { s with gau := { s.gau with
        resist := (r :: s.gau.resist).take 15, impAt := now s, impStale := false } } ∧
      r * (x.dMilliAmp.natAbs * (rfac (tStoreMean s) s).1.toNat) ≤
        x.dMilliVolt.natAbs * 100000000 * (rfac (tStoreMean s) s).2 ∧
      x.dMilliVolt.natAbs * 100000000 * (rfac (tStoreMean s) s).2 <
        (r + 1) * (x.dMilliAmp.natAbs * (rfac (tStoreMean s) s).1.toNat) := by
  have hpos : 0 < x.dMilliAmp.natAbs * (rfac (tStoreMean s) s).1.toNat := Nat.mul_pos (by omega) (by omega)
  refine ⟨_, ?_, Nat.div_mul_le_self _ _, ?_⟩
  · change execImpedanceStep x s = _
    unfold execImpedanceStep
    dsimp only
    rw [if_pos (by simp [hk, Option.isSome_iff_ne_none.2 ha, hx, hi, hr])]
  · rw [Nat.mul_comm (_ + 1)]
    exact Nat.lt_mul_div_succ _ hpos

theorem restPoint_takes (hk : s.pwr.keeper = true) (hp : setting s P.profile = 1) (hi : s.gau.current.natAbs < setting s P.iQuiet)
    (hc : charging s = false) (hv : s.chg.st ≠ .reverse) (ht : restTemps s = true) (hu : restUsable s = true)
    (hr : s.gau.rest = none) :
    ∃ u, exec (.restPoint 0) s = .next u ∧ u = { s with gau := { s.gau with
      qrem := ocvSoc (meanCell s) s * s.gau.cap / 1000000, qunc := 0, imb := imbNow s,
      rest := some { soc := ocvSoc (meanCell s) s, counted := 0 }, loaded := true, reported := true,
      soc := countNow u, heldZero := s.gau.heldZero && decide (countNow u = 0) } } := by
  have hlearn (n : Nat) : restLearning n s = s := by
    unfold restLearning
    rw [hr]
  have hexec : exec (.restPoint 0) s = .next (reportSoc { s with gau := { s.gau with
      qrem := ocvSoc (meanCell s) s * s.gau.cap / 1000000, qunc := 0, imb := imbNow s
      rest := some { soc := ocvSoc (meanCell s) s, counted := 0 }, loaded := true } }) := by
    change execRestPoint 0 s = _
    unfold execRestPoint
    dsimp only
    rw [if_pos (by simp [hk, hp, hi, hc, hv, ht, hu]), hlearn]
  generalize ocvSoc (meanCell s) s * s.gau.cap / 1000000 = q at hexec ⊢
  let w : State := { s with gau := { s.gau with
      qrem := q, qunc := 0, imb := imbNow s, rest := some { soc := ocvSoc (meanCell s) s, counted := 0 }, loaded := true } }
  obtain ⟨v, hv, heq, -⟩ := reportSoc_eq w
  have hdis : discharging w = false := by
    refine (discharging_congr (s := s) rfl rfl).trans ?_
    rw [discharging, decide_eq_false_iff_not]
    omega
  have hcount : countNow (reportSoc w) = countNow w := by
    rw [hv]
    exact countNow_congr rfl rfl
  refine ⟨_, hexec, ?_⟩
  rw [hcount, ← heq hdis]
  refine hv.trans ?_
  rw [hdis, heq hdis]
  generalize countNow w = k
  simp [w]

end Gauge

/-- Settles O46: each step of the gauge's update is a rule of its own; the day's fade is counted and reported at once, and judged
against the learning's age after that. -/
theorem impedanceAndGauge : Obligations.ImpedanceAndGauge := by
  refine ⟨⟨fun s x hk ha hx hi hr => impedanceStep_records x hk ha hx hi hr, fun s x hx => ?_, fun s hk ha ho hc hw => ?_, fun s => rfl⟩,
    fun s d c hk ha h0 h1 => gaugeUpdate_effects d c hk ha h0 h1, fun s hk ha hf hn => ?_,
    fun s hk hp hi hc hv ht hu hr => restPoint_takes hk hp hi hc hv ht hu hr, fun s d hd => ?_,
    fun s hk ha hl hd => fadeDaily_soon hk ha hl hd, fun s hd => if_neg hd,
    fun s hk ha hl hs hd h9 hz => fadeDaily_late hk ha hl hs hd h9 hz⟩
  · change execImpedanceStep x s = _
    refine if_neg ?_
    rcases hx with hx | hx
    · simp [hx]
    · simp [Nat.not_le.2 hx]
  · change execImpedanceProbe s = _
    unfold execImpedanceProbe
    rw [if_pos (by simp [hk, Option.isSome_iff_ne_none.2 ha, ho])]
    exact congrArg _ (if_pos (Bool.and_eq_true_iff.2 ⟨congrArg Bool.not hc, hw⟩))
  · exact if_pos (by simp [hk, Option.isSome_iff_ne_none.2 ha, hf, hn])
  · exact if_neg (by simp [hd])

end Sys2Proof.Machine

/-! PROOFS. Domains: the sequence of the groups (R347), rail faults (R348), tracking faults (R350) and discharge (R351). -/

namespace Sys2Proof.Machine

section Rails
variable {s t : State} {n d : Nat}

/-! ### A source that is in fault, or whose pair is frozen, enters no fault at its end -/

theorem pcClear_of_fault (h : inFault (srcAt n s) = true ∨ (srcAt n s).frozen = true) : Changes 0x40004 s (pcClear n s) := by
  by_cases hp : present n = true
  case neg =>
    rw [pcClear, codeChange, if_pos (by simpa using hp)]
    exact .refl _ s
  by_cases hf : (srcAt n s).frozen = true
  case pos =>
    rw [pcClear, codeChange, if_neg (by simp [hp]), if_pos hf]
    exact modSrc_changes _ _ (by rfl) (.refl _ s)
  rw [pcClear, codeChange_eq _ _ _ hp (by simpa using hf), h.resolve_right hf, Bool.not_true, Bool.false_and, if_neg (by simp)]
  exact modSrc_changes _ _ (by rfl) (.refl _ s)

/-- A quiet source that the power controller finds in fault is in fault after it, or frozen. -/
theorem pcFault_faulted (e : Nat) (hp : present n = true) (he : isEvent n = false) (hq : Quiet n s) :
    inFault (srcAt n (pcFault n e s)) = true ∨ (srcAt n (pcFault n e s)).frozen = true := by
  have ho := pcFault_quiet e hq
  by_cases hf : (srcAt n s).frozen = true
  case pos => exact .inr ((ho.frozen n).trans hf)
  rw [Bool.not_eq_true] at hf
  left
  have hk := codeTaken_sourcesOnly (s := s) (n := n) (a := true) (c := false) (.inr rfl)
  have hat := srcAt_codeTaken (s := s) (n := n) (a := true) (c := false) (.inr rfl) n
  rw [pcFault, he, if_neg (by simp), codeChange_eq _ _ _ hp hf, withAbort_enterFault e (hk.quiet hq)]
  split
  · obtain ⟨_, _, h⟩ := (enterFault_entered e (hk.quiet hq)).self
    rw [h, hat, if_pos rfl]
    rfl
  · rw [hat, if_pos rfl]
    rfl

/-- An entry and its end at once: the sources, the first error and the log change alone. -/
theorem pcClear_pcFault {u : State} (hp : present n = true) (he : isEvent n = false) (hq : Quiet n s)
    (hu : u.flt = (pcFault n 0 s).flt) : Changes 0x40004 u (pcClear n u) := by
  refine pcClear_of_fault ?_
  rw [srcAt_congr (congrArg FltSt.sources hu)]
  exact pcFault_faulted 0 hp he hq

/-! ### Rails -/

/-- A domain that is switched off, with or without a discharge. -/
def stopped (b : Bool) (x : Dom) : Dom :=
  { x with on := false, good := false, iout := 0, vout := 0, discharging := b, falling := true }

theorem switchOff_of_off (h : (domAt d s).on = false) : switchOff d s = s := if_pos (by simp [h])

theorem switchOff_of_rail (hd : 6 ≤ d) (h : (domAt d s).on = true) : ∃ b, switchOff d s = modDom d (stopped b) s := by
  unfold switchOff
  dsimp only
  rw [if_neg (by simp [h]), if_neg (by omega), if_neg (by omega), if_neg (by omega)]
  exact ⟨_, rfl⟩

theorem off_switchOff (hd : 6 ≤ d) (s : State) : (domAt d (switchOff d s)).on = false := by
  cases h : (domAt d s).on
  case false => rw [switchOff_of_off h, h]
  case true =>
    obtain ⟨b, hb⟩ := switchOff_of_rail hd h
    rw [hb, domAt_modDom _ (lt_of_on h)]
    rfl

theorem switchOff_rail_changes (hd : 6 ≤ d) (s : State) : Changes 0x2000 s (switchOff d s) := by
  cases h : (domAt d s).on
  case false =>
    rw [switchOff_of_off h]
    exact .refl _ s
  case true =>
    obtain ⟨b, hb⟩ := switchOff_of_rail hd h
    rw [hb]
    exact modDom_changes _ _ (.self _) (.refl _ s)

theorem railFault_switchOff (hd : 6 ≤ d) (s : State) : (domAt d (switchOff d s)).railFault = (domAt d s).railFault := by
  cases h : (domAt d s).on
  case false => rw [switchOff_of_off h]
  case true =>
    obtain ⟨b, hb⟩ := switchOff_of_rail hd h
    rw [hb, domAt_modDom _ (lt_of_on h)]
    rfl

/-- A host domain whose rail fails is off and holds its fault (R348). -/
theorem railFault_host (hd : d = 8 ∨ d = 9 ∨ d = 10) (hlt : d < s.pwr.doms.length) (hseq : s.pwr.seq = .none)
    (hsev : sevOf (184 + d) s ≤ 1) (hdr : inDrainStates s = false) :
    (domAt d (railFault d s)).on = false ∧ (domAt d (railFault d s)).railFault = true ∧ (railFault d s).cache = s.cache := by
  have h6 : 6 ≤ d := by omega
  have hp : present (184 + d) = true ∧ isEvent (184 + d) = false := by rcases hd with rfl | rfl | rfl <;> decide
  unfold railFault
  extract_lets a pa b c o
  have hb : b.flt = s.flt ∧ b.drf = s.drf ∧ b.vlt = s.vlt ∧ b.cache = s.cache ∧ b.pwr.doms = a.pwr.doms ∧ b.pwr.seq = s.pwr.seq := by
    unfold b
    split <;> exact ⟨rfl, rfl, rfl, rfl, rfl, rfl⟩
  clear_value b
  obtain ⟨hflt, hdrf, hvlt, hcache, hdoms, hbseq⟩ := hb
  rw [if_neg (by omega), if_pos (by omega)]
  let f : State := failPair d (modDom d (fun x => { x with railFault := true }) b)
  have hc : c = pcFault (184 + d) 0 f := rfl
  have hfd : (domAt d f).railFault = true := by
    refine (congrArg Dom.railFault (domAt_congr (t := f) (s := modDom d (fun x => { x with railFault := true }) b) rfl d)).trans ?_
    rw [domAt_modDom]
    rw [hdoms]
    change d < (s.pwr.doms.modify d _).length
    rwa [List.length_modify]
  have hq : Quiet (184 + d) f := by
    refine ⟨?_, .inl ((inDrainStates_congr hvlt).trans hdr)⟩
    rw [sevOf_congr (t := f) (s := s) hdrf (by rw [srcAt_congr (t := f) (s := s) (congrArg FltSt.sources hflt)])]
    exact hsev
  have hfc : f.cache = s.cache := hcache
  have hfs : f.pwr.seq = .none := hbseq.trans hseq
  clear_value f
  have hfq := pcFault_quiet 0 hq
  have hoff : Changes 0x2000 c (switchOff d c) := switchOff_rail_changes h6 c
  have ho : Changes 0x40004 (switchOff d c) o := pcClear_pcFault hp.1 hp.2 hq (by rw [hoff.flt rfl, hc])
  have hdom : domAt d o = domAt d (switchOff d c) := domAt_congr (by rw [ho.pwr rfl]) d
  have hos : o.pwr.seq = .none := by
    rw [ho.pwr rfl]
    have hcs : c.pwr.seq = .none := by rw [hc, hfq.changes.pwr rfl, hfs]
    cases hon : (domAt d c).on
    case false => rw [switchOff_of_off hon, hcs]
    case true =>
      obtain ⟨b, hb⟩ := switchOff_of_rail h6 hon
      rw [hb]
      exact hcs
  rw [if_neg (by simp [hos])]
  refine ⟨?_, ?_, ?_⟩
  · rw [hdom, off_switchOff h6]
  · rw [hdom, railFault_switchOff h6, hc, domAt_congr (congrArg PwrSt.doms (hfq.changes.pwr rfl)), hfd]
  · rw [ho.cache rfl, hoff.cache rfl, hc, hfq.changes.cache rfl, hfc]

/-! ### Tracking (R350) -/

theorem failPair_pwr_doms (d : Nat) (s : State) : (failPair d s).pwr.doms = s.pwr.doms := rfl

/-- The pair of domains 6 and 7, once its tracking fails: both are off. -/
def pairOff (s : State) : State :=
  switchOff 7 (switchOff 6 (failPair 6 { s with pwr := { s.pwr with tracked := s.pwr.tracked ++ [6, 7].filter (fun x => (domAt x s).on) } }))

theorem trackingFault_pair (h : pairRamps 6 7 s = true) : exec (.trackingFault 6) s = .next (trackFaultOn 6 false (pairOff s)) := by
  change execTrackingFault 6 s = _
  unfold execTrackingFault
  rw [show trackPartner 6 s = some 7 from rfl]
  dsimp only
  rw [if_pos h]
  rfl

theorem pairOff_changes (s : State) : Changes 0x2000 s (pairOff s) := by
  have hput (u : State) (p : PwrSt) (hp : p.doms = u.pwr.doms) : Changes 0x2000 u { u with pwr := p } :=
    Changes.put_pwr rfl (fun h => by rwa [hp]) (.refl _ u)
  have hoff (u : State) : Changes 0x2000 u (switchOff 7 (switchOff 6 u)) :=
    (switchOff_rail_changes (d := 6) (by decide) u).trans (switchOff_rail_changes (d := 7) (by decide) _)
  have hfail : Changes 0x2000 s (failPair 6 { s with pwr := { s.pwr with
      tracked := s.pwr.tracked ++ [6, 7].filter (fun x => (domAt x s).on) } }) := hput s _ rfl
  exact hfail.trans (hoff _)

theorem pairOff_off (s : State) : (domAt 6 (pairOff s)).on = false ∧ (domAt 7 (pairOff s)).on = false := by
  refine ⟨?_, off_switchOff (by decide) _⟩
  rw [Bool.eq_false_iff]
  exact fun h => absurd ((switchOff_powerOff 7 _).on 6 h) (by rw [off_switchOff (by decide)]; decide)

theorem pairOff_length (s : State) : (pairOff s).pwr.doms.length = s.pwr.doms.length := by
  have hl (d : Nat) (hd : 6 ≤ d) (u : State) : (switchOff d u).pwr.doms.length = u.pwr.doms.length := by
    cases h : (domAt d u).on
    case false => rw [switchOff_of_off h]
    case true =>
      obtain ⟨b, hb⟩ := switchOff_of_rail hd h
      rw [hb]
      exact List.length_modify ..
  rw [pairOff, hl 7 (by decide), hl 6 (by decide)]
  rfl

/-- A tracking fault notes itself at its domain, and its source as an entry and its end. -/
theorem trackFaultOn_quiet {u : State} (hlt : 6 < u.pwr.doms.length) (hq : Quiet 196 u) :
    (domAt 6 (trackFaultOn 6 false u)).trackFault = true ∧ (trackFaultOn 6 false u).pwr.tracked = u.pwr.tracked := by
  let v := modDom 6 (fun x => { x with trackFault := true }) u
  have hv : (domAt 6 v).trackFault = true := by rw [domAt_modDom _ hlt]
  have hp : (trackFaultOn 6 false u).pwr = v.pwr :=
    ((pcClear_pcFault (s := v) (by decide) (by decide) hq rfl).pwr rfl).trans ((pcFault_quiet (s := v) 0 hq).changes.pwr rfl)
  refine ⟨?_, ?_⟩
  · rw [domAt_congr (congrArg PwrSt.doms hp), hv]
  · rw [hp]
    rfl

theorem trackFaultOn_off {u : State} {d : Nat} (h : (domAt d u).on = false) : (domAt d (trackFaultOn 6 false u)).on = false := by
  rw [Bool.eq_false_iff] at h ⊢
  have hk : PowerOff u (trackFaultOn 6 false u) :=
    ((modDom_powerOff (fun _ h => by exact h) 6 u).trans (pcFault_powerOff 196 0 _)).trans (pcClear_powerOff 196 _)
  exact fun hn => h (hk.on d hn)

theorem trackFaultOn_latched {u : State} (hs : keysUp none u.flt.sources = true) (hf : (srcAt 196 u).frozen = false)
    (hin : inFault (srcAt 196 u) = false) : (srcAt 196 (trackFaultOn 6 false u)).latched = true := by
  have h (v : State) (hv : v.flt = u.flt) : (srcAt 196 (pcClear 196 (pcFault 196 0 v))).latched = true := by
    have hsrc := srcAt_congr (congrArg FltSt.sources hv) 196
    rw [← hv] at hs
    rw [← hsrc] at hf hin
    have hup : keysUp none (pcFault 196 0 v).flt.sources = true := by
      rw [pcFault, show isEvent 196 = false by decide, Bool.false_and, if_neg (by decide)]
      exact (codeChange_codes 196 true false 0 hs).1
    exact pcClear_latched 196 hup (pcFault_latched 0 hs (by decide) hf hin)
  exact h _ rfl

theorem trackingFault_ramp (h6 : (domAt 6 s).on = true) (h7 : (domAt 7 s).good = false) :
    ∃ t, exec (.trackingFault 6) s = .next t ∧ (domAt 6 t).on = false ∧ (domAt 7 t).on = false ∧
      (sevOf 196 s ≤ 1 → inDrainStates s = false → (domAt 6 t).trackFault = true) ∧
      (inFault (srcAt 196 s) = false → (srcAt 196 s).frozen = false → Sound s → (srcAt 196 t).latched = true) := by
  have hexec := trackingFault_pair (s := s) (by rw [pairRamps, if_pos h6, h7, Bool.and_false]; rfl)
  obtain ⟨ho6, ho7⟩ := pairOff_off s
  have hc := pairOff_changes s
  have hlen := pairOff_length s
  generalize pairOff s = u at hexec ho6 ho7 hc hlen
  have hsrc (m : Nat) : srcAt m u = srcAt m s := srcAt_congr (by rw [hc.flt rfl]) m
  refine ⟨_, hexec, trackFaultOn_off ho6, trackFaultOn_off ho7, fun hsev hd => ?_, fun hin hf hs => ?_⟩
  · refine (trackFaultOn_quiet (by rw [hlen]; exact lt_of_on h6) ⟨?_, .inl ?_⟩).1
    · rwa [sevOf_congr (hc.drf rfl) (by rw [hsrc])]
    · rwa [inDrainStates_congr (hc.vlt rfl)]
  · refine trackFaultOn_latched (by rw [hc.flt rfl]; exact hs.sources) ?_ ?_
    · rwa [hsrc]
    · rwa [hsrc]

theorem trackingFault_fall (h6 : (domAt 6 s).on = false) (h7 : (domAt 7 s).on = false) (hfall : (domAt 6 s).falling = true)
    (hsev : sevOf 196 s ≤ 1) (hd : inDrainStates s = false) (hin : inFault (srcAt 196 s) = false)
    (hf : (srcAt 196 s).frozen = false) (hs : Sound s) :
    ∃ t, exec (.trackingFault 6) s = .next t ∧ (srcAt 196 t).latched = true ∧ (domAt 6 t).trackFault = true ∧
      t.pwr.tracked = s.pwr.tracked := by
  have hexec := trackingFault_pair (s := s) (by rw [pairRamps, if_neg (by simp [h6]), hfall])
  let v : State := failPair 6 { s with pwr := { s.pwr with tracked := s.pwr.tracked ++ [6, 7].filter (fun x => (domAt x s).on) } }
  have hv : pairOff s = v := by
    have hw6 : switchOff 6 v = v := switchOff_of_off h6
    have hw7 : switchOff 7 v = v := switchOff_of_off h7
    exact (congrArg (switchOff 7) hw6).trans hw7
  have htr : v.pwr.tracked = s.pwr.tracked := by
    change s.pwr.tracked ++ [6, 7].filter (fun x => (domAt x s).on) = s.pwr.tracked
    simp [h6, h7]
  have hq : Quiet 196 v := ⟨hsev, .inl hd⟩
  obtain ⟨ht, hk⟩ := trackFaultOn_quiet (u := v) (by change 6 < s.pwr.doms.length; rw [hs.domains]; decide) hq
  rw [hv] at hexec
  exact ⟨_, hexec, trackFaultOn_latched hs.sources hf hin, ht, hk.trans htr⟩

/-! ### The sequence and discharge (R347, R351) -/

theorem domainGood_starts (mv i : Nat) (hq : s.pwr.seq = .boot) (hg : s.pwr.group = 0) (hdl : s.pwr.delaying = false)
    (hon : (domAt 11 s).on = true) (hsup : hasSupply 11 s = true) (hw : inWindow 11 mv s = true) (hs : Sound s) :
    ∃ t, exec (.domainGood 11 mv i) s = .next t ∧ (domAt 11 t).good = true ∧ (domAt 11 t).vout = mv ∧
      t.pwr.delaying = true ∧ t.pwr.group = 0 ∧ t.cache = s.cache ∧ t.dram = s.dram := by
  let u := modDom 11 (fun x => { x with good := true, vout := mv, iout := i }) s
  have hu : domAt 11 u = { domAt 11 s with good := true, vout := mv, iout := i } := domAt_modDom _ (lt_of_on hon)
  have hc := pcClear_quiet (s := u) 176 hs.sources
  have hexec : exec (.domainGood 11 mv i) s = .next (sequenceGood (pcClear 176 u)) := by
    change execDomainGood 11 mv i s = _
    unfold execDomainGood domJudged
    rw [if_pos (by simp [hon, hsup, hw]), railRecovered, if_pos rfl]
  have hpu : u.pwr.seq = .boot ∧ u.pwr.delaying = false ∧ u.pwr.group = 0 := ⟨hq, hdl, hg⟩
  have hcs : u.cache = s.cache := rfl
  have hds : u.dram = s.dram := rfl
  clear_value u
  obtain ⟨huq, hud, hug⟩ := hpu
  have hdom : domAt 11 (pcClear 176 u) = domAt 11 u := domAt_congr (by rw [hc.pwr rfl]) 11
  have hcs' : (pcClear 176 u).cache = s.cache := (hc.cache rfl).trans hcs
  have hds' : (pcClear 176 u).dram = s.dram := (hc.dram rfl).trans hds
  have hpw : (pcClear 176 u).pwr = u.pwr := hc.pwr rfl
  generalize pcClear 176 u = v at hexec hdom hcs' hds' hpw
  have hvq : v.pwr.seq = .boot := (congrArg PwrSt.seq hpw).trans huq
  have hvd : v.pwr.delaying = false := (congrArg PwrSt.delaying hpw).trans hud
  have hvg : v.pwr.group = 0 := (congrArg PwrSt.group hpw).trans hug
  have h4 : v.pwr.group ≠ 4 := by rw [hvg]; decide
  have h11 : allGood (groupDomains v.pwr.group v) v = true := by
    rw [hvg]
    change ((domAt 11 v).good && true) = true
    rw [hdom, hu]
    rfl
  have hseq : sequenceGood v = { v with pwr := { v.pwr with delaying := true } } := by
    rw [sequenceGood, if_neg (by simp [hvq, hvd]), if_neg (by rw [hvg]; decide), if_pos h11, groupIsGood, if_neg (by simp [h4])]
    exact if_neg h4
  rw [hseq] at hexec
  refine ⟨_, hexec, ?_, ?_, rfl, hvg, hcs', hds'⟩
  · exact congrArg Dom.good (hdom.trans hu)
  · exact congrArg Dom.vout (hdom.trans hu)

theorem groupDelay_starts {g : Nat} (hq : s.pwr.seq = .boot) (hd : s.pwr.delaying = true) (hgr : s.pwr.group = g)
    (hgood : allGood (groupDomains g s) s = true) : exec .groupDelayExpiry s = .next (startGroup (g + 1) s) := by
  change execGroupDelayExpiry s = _
  rw [execGroupDelayExpiry, if_neg (by simp [hq, hd, hgr, hgood]), if_neg (by simp [hq]), hgr]

/-- A domain that is to be on. -/
def onUnless (s : State) (d : Nat) : State := if (domAt d s).on then s else switchOn d s

theorem domAt_onUnless (h : d < s.pwr.doms.length) : (domAt d (onUnless s d)).on = true := by
  unfold onUnless
  split
  next hon => exact hon
  next => rw [domAt_switchOn h]; rfl

theorem domAt_onUnless_ne {e : Nat} (h : e ≠ d) (s : State) : domAt e (onUnless s d) = domAt e s := by
  unfold onUnless
  split
  · rfl
  · exact domAt_switchOn_ne h

theorem onUnless_pwr (d : Nat) (s : State) : (onUnless s d).pwr.group = s.pwr.group ∧
    (onUnless s d).pwr.doms.length = s.pwr.doms.length := by
  unfold onUnless
  split
  · exact ⟨rfl, rfl⟩
  · rw [switchOn_pwr]
    exact ⟨rfl, List.length_modify ..⟩

/-- A group of domains as it starts: its own domains are on, the others stand. -/
theorem startGroup_domains {g : Nat} (hg : g < 5) (s : State) (hlt : ∀ d ∈ groupDomains g s, d < s.pwr.doms.length) :
    (startGroup g s).pwr.group = g ∧ (∀ d ∈ groupDomains g s, (domAt d (startGroup g s)).on = true) ∧
    (∀ d, d ∉ groupDomains g s → domAt d (startGroup g s) = domAt d s) := by
  let w : State := { s with pwr := { s.pwr with group := g, delaying := false } }
  have hfold (l : List Nat) (u : State) (hl : ∀ d ∈ l, d < u.pwr.doms.length) :
      (l.foldl onUnless u).pwr.group = u.pwr.group ∧ (∀ d, (domAt d u).on = true → (domAt d (l.foldl onUnless u)).on = true) ∧
      (∀ d ∈ l, (domAt d (l.foldl onUnless u)).on = true) ∧ (∀ d, d ∉ l → domAt d (l.foldl onUnless u) = domAt d u) := by
    induction l generalizing u with
    | nil => exact ⟨rfl, fun _ h => h, fun _ h => absurd h (by simp), fun _ _ => rfl⟩
    | cons x l ih =>
      have hx := domAt_onUnless (s := u) (hl x (by simp))
      obtain ⟨hgr, hlen⟩ := onUnless_pwr x u
      obtain ⟨ig, ikeep, ion, iother⟩ := ih (onUnless u x) fun d hd => by rw [hlen]; exact hl d (by simp [hd])
      refine ⟨ig.trans hgr, fun d hd => ikeep d ?_, fun d hd => ?_, fun d hd => ?_⟩
      · by_cases he : d = x
        · rw [he]
          exact hx
        · rwa [domAt_onUnless_ne he]
      · rcases List.mem_cons.1 hd with rfl | hd
        · exact ikeep d hx
        · exact ion d hd
      · rw [List.mem_cons, not_or] at hd
        exact (iother d hd.2).trans (domAt_onUnless_ne hd.1 u)
  have hgd : groupDomains g w = groupDomains g s := by
    unfold groupDomains
    split <;> rfl
  obtain ⟨hgr, -, hon, hother⟩ := hfold (groupDomains g s) w hlt
  obtain ⟨b, hb⟩ := startGroup_eq hg s
  have hst := hb ((groupDomains g s).foldl onUnless w) (by rw [← hgd]; rfl)
  have hdom (d : Nat) : domAt d (startGroup g s) = domAt d ((groupDomains g s).foldl onUnless w) := by
    rw [hst]
    rfl
  refine ⟨?_, fun d hd => by rw [hdom, hon d hd], fun d hd => (hdom d).trans (hother d hd)⟩
  rw [hst]
  exact hgr

theorem dischargeDone_ends (d : Nat) (hdis : (domAt d s).discharging = true) (ho : s.pwr.offGroups = []) :
    ∃ t, exec (.dischargeDone d) s = .next t ∧ (domAt d t).discharging = false ∧ (domAt d t).on = (domAt d s).on ∧
      t = { s with pwr := { s.pwr with doms := t.pwr.doms } } := by
  have hlt : d < s.pwr.doms.length := lt_of_domAt fun h => by simp [h] at hdis
  let u := modDom d (fun x => { x with discharging := false, falling := false }) s
  have hu : domAt d u = { domAt d s with discharging := false, falling := false } := domAt_modDom _ hlt
  have hoff : offGroupList u.pwr.offGroups u = u := by
    have h0 : u.pwr.offGroups = [] := ho
    rw [h0, offGroupList]
    change ({ s with pwr := { s.pwr with doms := u.pwr.doms, offGroups := [] } } : State) = { s with pwr := { s.pwr with doms := u.pwr.doms } }
    rw [← ho]
  have hexec : exec (.dischargeDone d) s = .next u := by
    change execDischargeDone d s = _
    unfold execDischargeDone
    dsimp only
    rw [if_pos (by simp [hdis])]
    exact congrArg _ hoff
  exact ⟨u, hexec, by rw [hu], by rw [hu], rfl⟩

end Rails

/-- Settles O38: the sequence by groups, each rail fault and each tracking fault as an entry of its source and its end, and no fault or
reaction that switches a domain on. -/
theorem domainsFollowGroupsAndFaults : Obligations.DomainsFollowGroupsAndFaults := by
  refine ⟨⟨fun s mv i hq hg hdl hon hsup hw hs => domainGood_starts mv i hq hg hdl hon hsup hw hs,
    fun s hq hdl hg h11 hs => ?_, fun s hq hdl hg h3 h4 hs => ?_⟩, fun s d hd hon hgood hq hsev hdr => ?_,
    fun s d mv hd hon hgood hq hw hsev hdr => ?_, fun s h6 h7 hg hsev hesc hdr => ?_,
    fun s h6 h7 hfall hsev hd hin hf hs => trackingFault_fall h6 h7 hfall hsev hd hin hf hs, fun s d hdis ho => dischargeDone_ends d hdis ho⟩
  · obtain ⟨hgr, hon, hother⟩ := startGroup_domains (g := 1) (by decide) s (by
      intro d hd
      rw [hs.domains, List.mem_singleton.1 hd]
      decide)
    exact ⟨_, groupDelay_starts hq hdl hg (by change (domAt 11 s).good && true; rw [h11]; rfl), hgr,
      hon 5 (List.mem_singleton_self 5), fun d _ hd => hother d (by rwa [groupDomains, List.mem_singleton])⟩
  · obtain ⟨hgr, hon, hother⟩ := startGroup_domains (g := 3) (by decide) s (by
      intro d hd
      rw [hs.domains]
      rcases List.mem_pair.1 hd with rfl | rfl <;> decide)
    exact ⟨_, groupDelay_starts hq hdl hg (by change (domAt 3 s).good && ((domAt 4 s).good && true); rw [h3, h4]; rfl), hgr,
      hon 1 (List.mem_pair.2 (.inl rfl)), hon 2 (List.mem_pair.2 (.inr rfl)),
      fun d _ h1 h2 => hother d (by rw [groupDomains, List.mem_pair]; exact not_or.2 ⟨h1, h2⟩)⟩
  · obtain ⟨h1, h2, h3⟩ := railFault_host hd (lt_of_on hon) hq hsev hdr
    refine ⟨_, ?_, h1, h2, h3⟩
    change Host.Outcome.next (if domJudged d s && !(domAt d s).good then railFault d s else s) = _
    rw [if_pos (by rw [domJudged, hon, hgood]; rcases hd with rfl | rfl | rfl <;> rfl)]
  · let u := modDom d (fun x => { x with vout := mv }) s
    have hlt : d < u.pwr.doms.length := by
      change d < (s.pwr.doms.modify d _).length
      rw [List.length_modify]
      exact lt_of_on hon
    obtain ⟨h1, h2, h3⟩ := railFault_host (s := u) hd hlt hq hsev hdr
    refine ⟨_, ?_, h1, h2, h3⟩
    change execDomainOutOfWindow d mv s = _
    rw [execDomainOutOfWindow, if_pos (by rw [domJudged, hon, hgood, hw]; rcases hd with rfl | rfl | rfl <;> rfl)]
  · obtain ⟨t, hexec, ho6, ho7, htf, hl⟩ := trackingFault_ramp h6 hg
    exact ⟨t, hexec, ho6, ho7, fun h => htf h hdr, hl⟩

end Sys2Proof.Machine

/-! PROOFS. Belay and recovery (R417, R429 to R433), the selvedge's check and the collector's own (R60, R428). -/

namespace Sys2Proof.Machine

section Belay
variable {s t u : State}

theorem pairActive_congr (h : t.sel.pairs = s.sel.pairs) (p : PairId) : pairActive p t = pairActive p s := by
  rw [pairActive, pairAt, h, ← pairAt, ← pairActive]

theorem belayPairs_active (hp : s.sel.pairs.length = 7) : pairActive .belayp (drivePair .belayp true (drivePair .hold true s)) = true ∧
    pairActive .hold (drivePair .belayp true (drivePair .hold true s)) = true := by
  have hl : (drivePair .hold true s).sel.pairs.length = 7 := (List.length_modify ..).trans hp
  refine ⟨pairActive_drivePair hl .belayp, ?_⟩
  rw [pairActive, drivePair, pairAt_setPair hl, if_neg (by decide), ← pairActive]
  exact pairActive_drivePair hp .hold

/-- What belay drives: both pairs, PFAIL_N and the switch, the charger off and its entry in the log. -/
theorem enterBelay_drives (cause : Nat) (h : s.flt.belay = false) (hp : s.sel.pairs.length = 7) : ∃ e,
    (enterBelay cause s).flt.entries = satAdd 255 s.flt.entries 1 ∧ pairActive .belayp (enterBelay cause s) = true ∧
    pairActive .hold (enterBelay cause s) = true ∧ (enterBelay cause s).chg.st = .off ∧ (enterBelay cause s).pwr.shedding = [] ∧
    (enterBelay cause s).log.ring.head? = some e ∧ e.code = 4 := by
  have hl (u : State) (hentries : u.flt.entries = satAdd 255 s.flt.entries 1) (hbp : pairActive .belayp u = true)
      (hh : pairActive .hold u = true) (hc : u.chg.st = .off) : ∃ e,
      (logEvent 4 cause 0 (shedTogether false u)).flt.entries = satAdd 255 s.flt.entries 1 ∧
      pairActive .belayp (logEvent 4 cause 0 (shedTogether false u)) = true ∧
      pairActive .hold (logEvent 4 cause 0 (shedTogether false u)) = true ∧
      (logEvent 4 cause 0 (shedTogether false u)).chg.st = .off ∧ (logEvent 4 cause 0 (shedTogether false u)).pwr.shedding = [] ∧
      (logEvent 4 cause 0 (shedTogether false u)).log.ring.head? = some e ∧ e.code = 4 := by
    obtain ⟨⟨_, hflt⟩, -, -⟩ := shedTogether_off_shedOnly u
    have hsc : Changes 0x4342217 u (logEvent 4 cause 0 (shedTogether false u)) :=
      logEvent_changes _ _ _ (by rfl) (shedTogether_changes _ (by rfl) (.refl _ u))
    have hpair (p : PairId) : pairActive p (logEvent 4 cause 0 (shedTogether false u)) = pairActive p u := by
      rw [pairActive, pairAt, hsc.sel rfl]
      rfl
    refine ⟨_, ?_, (hpair _).trans hbp, (hpair _).trans hh, by rw [hsc.chg rfl, hc], rfl, rfl, rfl⟩
    change (shedTogether false u).flt.entries = _
    rw [hflt]
    exact hentries
  rw [enterBelay, if_neg (by simp [h])]
  let v : State := { s with
    flt := { s.flt with belay := true, belayCause := cause, entries := satAdd 255 s.flt.entries 1, awaitHold := true, nandOff := true }
    sel := { s.sel with phase := .idle, thermal := false }, warm := { s.warm with kind := .none, step := 0 } }
  obtain ⟨hbp, hh⟩ := belayPairs_active (s := v) hp
  exact hl _ rfl ((pairActive_congr (by rfl) _).trans hbp) ((pairActive_congr (by rfl) _).trans hh) rfl

theorem enterBelay_belay (cause : Nat) (s : State) : (enterBelay cause s).flt.belay = true := by
  cases h : s.flt.belay
  case false => exact (enterBelay_effects cause h).1
  case true => rw [enterBelay, if_pos h, h]

theorem belayeActive_enters (hk : s.pwr.keeper = true) (ha : pairActive .belaye s = true) (hj : belayeJudged s = true)
    (hb : s.flt.belay = false) (hx : exercising s = false) (hs : Sound s) :
    ∃ t e, exec .belayeActive s = .next t ∧ t.flt.belay = true ∧ t.flt.entries = satAdd 255 s.flt.entries 1 ∧
      pairActive .belayp t = true ∧ pairActive .hold t = true ∧ t.pwr.pfailAsserted = true ∧ t.pwr.huMode = .closed ∧
      t.chg.st = .off ∧ t.pwr.shedding = [] ∧ t.log.ring.head? = some e ∧ e.code = 4 := by
  obtain ⟨n, hn⟩ : ∃ n, belayeSeen s = withAbort (enterBelay n) s := ⟨_, rfl⟩
  obtain ⟨hbel, -, hpf, hhu⟩ := enterBelay_effects n hb
  obtain ⟨e, hentries, hbp, hh, hc, hshed, hhead, hcode⟩ := enterBelay_drives n hb hs.pairs
  have hexec : exec .belayeActive s = .next (enterBelay n s) := by
    change Host.Outcome.next (if s.pwr.keeper && pairActive .belaye s && ((pairAt .belaye s).frozen || belayeJudged s) then belayeSeen s
      else s) = _
    rw [if_pos (by simp [hk, ha, hj]), hn, withAbort, hx]
    rfl
  exact ⟨_, e, hexec, hbel, hentries, hbp, hh, hpf, hhu, hc, hshed, hhead, hcode⟩

/-! ### NAND's protection (R430) -/

theorem nandOffWhenProtected_changes' (s : State) : Changes 0x42000 s (nandOffWhenProtected s) := by
  unfold nandOffWhenProtected
  have hoff (u : State) : Changes 0x42000 u (switchOff 7 (switchOff 6 u)) :=
    ((switchOff_rail_changes (d := 6) (by decide) u).trans (switchOff_rail_changes (d := 7) (by decide) _)).mono (by rfl)
  split
  · have hput : Changes 0x42000 s { s with flt := { s.flt with nandOff := false } } := Changes.put_flt rfl id (.refl _ s)
    exact hput.trans (hoff _)
  · exact .refl _ s

theorem nandOffWhenProtected_stopped (s : State) : (nandOffWhenProtected s).flt.engineStopped = s.flt.engineStopped := by
  unfold nandOffWhenProtected
  split
  · rw [(switchOff_rail_changes (d := 7) (by decide) _).flt rfl, (switchOff_rail_changes (d := 6) (by decide) _).flt rfl]
  · rfl

theorem belaypActive_stops (ha : pairActive .belayp s = true) (hu : s.warm.engineUp = true) :
    ∃ t, exec .belaypActive s = .next t ∧ t.flt.engineStopped = true ∧ t.stg.heldq = [] ∧ t.cache.capq = [] := by
  obtain ⟨v, hv⟩ : ∃ v, belaypSeen s = engineBelay v := ⟨_, rfl⟩
  have hexec : exec .belaypActive s = .next (belaypSeen s) := by
    change Host.Outcome.next (if pairActive .belayp s && s.warm.engineUp then belaypSeen s else s) = _
    rw [if_pos (by simp [ha, hu])]
  rw [hv] at hexec
  have hp (u : State) : Changes 8 u (protectReady u) := protectReady_changes (.self _) (.refl _ u)
  have hq (u : State) : (discardWrites u).stg.heldq = [] ∧ (discardWrites u).cache.capq = [] ∧ (discardWrites u).flt = u.flt :=
    ⟨rfl, rfl, (discardWrites_changes (m' := 0x82000011) rfl (.refl _ u)).flt rfl⟩
  let w : State := { v with flt := { v.flt with engineStopped := true } }
  have hw : engineBelay v = nandOffWhenProtected (protectReady (discardWrites w)) := rfl
  obtain ⟨hheld, hcap, hflt⟩ := hq w
  have hc := nandOffWhenProtected_changes' (protectReady (discardWrites w))
  refine ⟨_, hexec, ?_, ?_, ?_⟩
  · rw [hw, nandOffWhenProtected_stopped, (hp _).flt rfl, hflt]
  · rw [hw, hc.stg rfl, (hp _).stg rfl, hheld]
  · rw [hw, hc.cache rfl, (hp _).cache rfl, hcap]

theorem channelAt_modChannel (hs : keysUp none s.nand.ch = true) (x c : Nat) (f : NandCh → NandCh) :
    channelAt c (modChannel x f s) = if c = x then f (channelAt x s) else channelAt c s := tget_tmod_up _ _ _ f hs

theorem targetAt_modTarget (hs : keysUp none s.nand.targets = true) (x n : Nat) (f : Target → Target) :
    targetAt n (modTarget x f s) = if n = x then f (targetAt x s) else targetAt n s := tget_tmod_up _ _ _ f hs

theorem modChannel_keepsUp (hs : keysUp none s.nand.ch = true) (x : Nat) (f : NandCh → NandCh) :
    keysUp none (modChannel x f s).nand.ch = true := keysUp_tmod _ _ f hs

/-- Every channel of a list is protected. -/
theorem protect_channels (l : List Nat) (s : State) (hs : keysUp none s.nand.ch = true) (c : Nat)
    (h : c ∈ l ∨ (channelAt c s).wpAsserted = true) :
    (channelAt c (l.foldl (fun s c => modChannel c (fun x => { x with wpAsserted := true }) s) s)).wpAsserted = true := by
  induction l generalizing s with
  | nil => exact h.resolve_left (by simp)
  | cons x l ih =>
    refine ih _ (modChannel_keepsUp hs x _) ?_
    rw [channelAt_modChannel hs]
    rcases h with h | h
    · rcases List.mem_cons.1 h with rfl | h
      · exact .inr (by rw [if_pos rfl])
      · exact .inl h
    · right
      split
      · rfl
      · exact h

theorem belayWpTimeout_protects (hb : s.flt.belay = true) (hn : s.flt.nandOff = true) (hs : Sound s) :
    ∃ t, exec .belayWpTimeout s = .next t ∧ t.flt.nandOff = false ∧ (∀ c < 12, (channelAt c t).wpAsserted = true) ∧
      (domAt 6 t).on = false ∧ (domAt 7 t).on = false ∧ t.cache = s.cache ∧ t.dram = s.dram := by
  let v : State := (List.range 12).foldl (fun s c => modChannel c (fun x => { x with wpAsserted := true }) s) s
  have hv : Changes 8 s v := Changes.foldl (.refl _ s) fun u c hu => modChannel_changes c _ (.self _) hu
  have hwp (c : Nat) (hc : c < 12) : (channelAt c v).wpAsserted = true :=
    protect_channels _ s hs.nand.channels c (.inl (List.mem_range.2 hc))
  have hall : (v.flt.nandOff && (List.range 12).all (fun c => (channelAt c v).wpAsserted)) = true := by
    rw [hv.flt rfl, hn, Bool.true_and, List.all_eq_true]
    exact fun c hc => hwp c (List.mem_range.1 hc)
  have hexec : exec .belayWpTimeout s = .next (nandOffWhenProtected v) := by
    change execBelayWpTimeout s = _
    rw [execBelayWpTimeout, if_pos (by simp [hb, hn])]
  clear_value v
  let w : State := { v with flt := { v.flt with nandOff := false } }
  have hnw : nandOffWhenProtected v = switchOff 7 (switchOff 6 w) := if_pos hall
  rw [hnw] at hexec
  have hoff : Changes 0x2000 w (switchOff 7 (switchOff 6 w)) :=
    (switchOff_rail_changes (d := 6) (by decide) w).trans (switchOff_rail_changes (d := 7) (by decide) _)
  refine ⟨_, hexec, ?_, fun c hc => ?_, ?_, off_switchOff (by decide) _, (hoff.cache rfl).trans (hv.cache rfl),
    (hoff.dram rfl).trans (hv.dram rfl)⟩
  · rw [hoff.flt rfl]
  · rw [channelAt, hoff.nand rfl]
    exact hwp c hc
  · rw [Bool.eq_false_iff]
    exact fun h => absurd ((switchOff_powerOff 7 _).on 6 h) (by rw [off_switchOff (by decide)]; decide)

theorem nandRbNChange_follows (n : Nat) (r : Bool) (hd : declared n s = true) (hb : s.flt.belay = false) (hs : Sound s) :
    ∃ t, exec (.nandRbNChange n r) s = .next t ∧ (targetAt n t).idle = (r && (tfind s.flt.frozen (n + 6)).isNone) ∧
      t = { s with nand := { s.nand with targets := t.nand.targets } } := by
  have hexec : exec (.nandRbNChange n r) s =
      .next (modTarget n (fun x => { x with idle := r && (tfind s.flt.frozen (n + 6)).isNone }) s) := by
    change execNandRbNChange n r s = _
    rw [execNandRbNChange, if_neg (by simp [hd])]
    dsimp only
    rw [if_neg]
    exact fun h => absurd (Bool.and_eq_true_iff.1 h).1 (by rw [show (modTarget n _ s).flt = s.flt from rfl, hb]; decide)
  refine ⟨_, hexec, ?_, rfl⟩
  rw [targetAt_modTarget hs.nand.targets, if_pos rfl]

/-! ### Recovery (R432, R433) -/

theorem beginWarm_warm (s : State) : (beginWarm .chipset s).warm.kind = .chipset ∧ (beginWarm .chipset s).warm.step = 3 := by
  have hn : (newWarm .chipset s).kind = .chipset ∧ (newWarm .chipset s).step = 3 := ⟨ite_self _, rfl⟩
  have hend (v : State) : (setVault .notArmed (strayEpochs (voidWhere (fun e => !knotInProgram e) 8 (closeOpen (clearPort
      (discardWrites v)))))).warm = v.warm :=
    (setVault_changes .notArmed (m' := 0xce000c39) (by rfl) (strayEpochs_changes (by rfl) (voidWhere_changes _ 8 (by rfl)
      (closeOpen_changes (by rfl) (clearPort_changes (by rfl) (discardWrites_changes (by rfl) (.refl _ v))))))).warm rfl
  have hall : (beginWarm .chipset s).warm = newWarm .chipset s := by
    unfold beginWarm
    extract_lets w a b c d e
    rw [if_neg (by simp)]
    exact hend _
  rw [hall]
  exact hn

/-- Path 2 leaves belay into a chipset warm reset (R432). -/
theorem attemptRecovery_path2 (hv : inVault s = false) (hp : pairActive .pf s = false) (hg : s.vin.good = true) :
    (attemptRecovery s).flt.belay = false ∧ (attemptRecovery s).flt.lastPath = 2 ∧
    (attemptRecovery s).flt.recoveries = satAdd 7 s.flt.recoveries 1 ∧ (attemptRecovery s).flt.engineStopped = false ∧
    (attemptRecovery s).warm.kind = .chipset ∧ (attemptRecovery s).warm.step = 3 ∧ (attemptRecovery s).dram = s.dram := by
  have hpath : recoveryPath s = 2 := by simp [recoveryPath, hv, hp, hg]
  obtain ⟨u, hu, hflt, hdram⟩ : ∃ u, attemptRecovery s = leaveBelay (beginWarm .chipset u) ∧
      (u.flt.lastPath = 2 ∧ u.flt.recoveries = satAdd 7 s.flt.recoveries 1) ∧ u.dram = s.dram := by
    unfold attemptRecovery
    dsimp only
    rw [hpath, if_neg (by decide), if_neg (by decide), if_pos rfl]
    exact ⟨_, rfl, ⟨rfl, rfl⟩, rfl⟩
  obtain ⟨hkind, hstep⟩ := beginWarm_warm u
  have hw : Changes 0xce380c3d u (beginWarm .chipset u) := beginWarm_changes _ (.self _) (.refl _ u)
  have hl (v : State) : (leaveBelay v).flt.belay = false ∧ (leaveBelay v).flt.engineStopped = false ∧
      (leaveBelay v).flt.lastPath = v.flt.lastPath ∧ (leaveBelay v).flt.recoveries = v.flt.recoveries ∧
      Changes 0xc0000 v (leaveBelay v) := ⟨rfl, rfl, rfl, rfl, leaveBelay_changes (.self _) (.refl _ v)⟩
  obtain ⟨hb, he, hlast, hrec, hc⟩ := hl (beginWarm .chipset u)
  rw [hu]
  refine ⟨hb, ?_, ?_, he, ?_, ?_, ?_⟩
  · rw [hlast, hw.flt rfl, hflt.1]
  · rw [hrec, hw.flt rfl, hflt.2]
  · rw [hc.warm rfl, hkind]
  · rw [hc.warm rfl, hstep]
  · rw [hc.dram rfl, hw.dram rfl, hdram]

theorem recover_path2 (c : Instr) (hm : mayRecover s = true) (hv : inVault s = false)
    (hp : pairActive .pf s = false) (hg : s.vin.good = true)
    (hc : (∃ m, c = .recover m) ∨
      c = .belaySettleExpiry ∧ s.flt.stewardHalted = false ∧ s.flt.recoveries < setting s P.belayRecoverMax) :
    ∃ t, exec c s = .next t ∧ t.flt.belay = false ∧ t.flt.lastPath = 2 ∧
      t.flt.recoveries = satAdd 7 s.flt.recoveries 1 ∧
      t.flt.engineStopped = false ∧ t.warm.kind = .chipset ∧ t.warm.step = 3 ∧ t.dram = s.dram := by
  rcases hc with ⟨m, rfl⟩ | ⟨rfl, hh, hr⟩
  · let u : State := { s with flt := { s.flt with ctl := 0x80000000 } }
    have hexec : exec (.recover m) s = .next (attemptRecovery u) := by
      change Host.Outcome.next (if mayRecover u then attemptRecovery u else u) = _
      rw [if_pos (show mayRecover u = true from hm)]
    exact ⟨_, hexec, attemptRecovery_path2 (s := u) hv hp hg⟩
  · have hexec : exec .belaySettleExpiry s = .next (attemptRecovery s) := by
      change execBelaySettleExpiry s = _
      rw [execBelaySettleExpiry, if_pos (by simp [hm, hh, hr])]
    exact ⟨_, hexec, attemptRecovery_path2 hv hp hg⟩

/-! ### The selvedge's check and the collector's own (R60, R428) -/

theorem selvedgeCheck_passes (hk : s.pwr.keeper = true) (hh : s.flt.stewardHalted = false) (ha : s.drf.active ≠ none) (hs : Sound s)
    (hf : (srcAt 160 s).frozen = false) :
    ∃ t, exec (.selvedgeCheck true false) s = .next t ∧ inFault (srcAt 160 t) = false ∧ t.sel = s.sel ∧ t.warm = s.warm := by
  have hexec : exec (.selvedgeCheck true false) s = .next (pcClear 160 s) := by
    change execSelvedgeCheck true false s = _
    rw [execSelvedgeCheck, if_neg (by simp [hk, hh, ha])]
    rfl
  have hc := pcClear_quiet 160 hs.sources
  exact ⟨_, hexec, pcClear_inFault hs.sources (by decide) hf, hc.sel rfl, hc.warm rfl⟩

theorem selvedgeCheckTimeout_raises (hk : s.pwr.keeper = true) (ha : s.drf.active ≠ none) (hs : Sound s)
    (hf : (srcAt 160 s).frozen = false) : ∃ t, exec .selvedgeCheckTimeout s = .next t ∧ inFault (srcAt 160 t) = true := by
  refine ⟨_, ?_, pcFault_inFault 0 hs.sources (by decide) hf (by decide)⟩
  change Host.Outcome.next (if s.pwr.keeper && s.drf.active.isSome then pcFault 160 0 s else s) = _
  rw [if_pos (by simp [hk, Option.isSome_iff_ne_none.2 ha])]

/-- A self-fault is belay, and stands whatever the abort of an exercise brings (R428). -/
theorem selfFault_belay (s : State) : (selfFault s).flt.self = s.flt.self ∧
    (inFault (srcAt 235 s) = false → (selfFault s).flt.belay = true) := by
  unfold selfFault
  split
  next h => exact ⟨rfl, fun hn => by simp [hn] at h⟩
  extract_lets first v
  let w := logFault 235 4 0 false first (captureFirst 235 4 (masterOf 235) 0 false v)
  have hw : w.flt.self = s.flt.self :=
    (captureFirst_keepsCodes 235 4 (masterOf 235) 0 false v).trans (logFault_keepsCodes ..) |>.self
  have hk : KeepsCodes (enterBelay 235 w) (withAbort (enterBelay 235) w) := withAbort_keepsCodes (.refl _)
  exact ⟨hk.self.trans ((enterBelay_keepsCodes 235 w).self.trans hw), fun _ => hk.belay (enterBelay_belay 235 w)⟩

theorem collectorSelfCheck_mismatch (m : Nat × Nat) (l : List (Nat × Nat)) (hk : s.pwr.keeper = true) :
    ∃ t, exec (.collectorSelfCheck (m :: l)) s = .next t ∧ t.flt.self = true ∧
      (Sound s → inFault (srcAt 235 s) = false → t.flt.belay = true) := by
  let f (s : State) (e : Nat × Nat) : State := modSrc e.1 (fun x => { x with sevUp := some (Nat.max (sevOf e.1 s) e.2) }) s
  have hexec : exec (.collectorSelfCheck (m :: l)) s =
      .next (selfFault { (m :: l).foldl f s with flt := { ((m :: l).foldl f s).flt with self := true } }) := by
    change execCollectorSelfCheck (m :: l) s = _
    rw [execCollectorSelfCheck, if_pos (by simp [hk])]
  have hf : KeepsCodes s ((m :: l).foldl f s) :=
    foldl_keepsCodes (fun u (e : Nat × Nat) => modSrc_keepsCodes (fun _ => by exact ⟨rfl, rfl, rfl⟩) (fun _ h => by exact h) e.1 u) _ s
  obtain ⟨hself, hbelay⟩ := selfFault_belay { (m :: l).foldl f s with flt := { ((m :: l).foldl f s).flt with self := true } }
  exact ⟨_, hexec, hself, fun hs hin => hbelay ((hf.inFault_eq hs.sources 235).trans hin)⟩

end Belay

/-- Settles O34: belay as the state that its entry leaves, NAND protected channel by channel, recovery by path 2 as a warm reset, and
the checks through the codes that they change. -/
theorem belayStopsAndRecovers : Obligations.BelayStopsAndRecovers := by
  exact ⟨⟨fun s hk ha hj hb hx hs => belayeActive_enters hk ha hj hb hx hs, fun s ha hu => belaypActive_stops ha hu,
      fun s hb hn hs => belayWpTimeout_protects hb hn hs, fun s n r hd hb hs => nandRbNChange_follows n r hd hb hs⟩,
    fun s c _ hm hv hp hg hc => recover_path2 c hm hv hp hg hc, fun s hk hh ha hs hf => selvedgeCheck_passes hk hh ha hs hf,
    fun s hk ha hs hf => selvedgeCheckTimeout_raises hk ha hs hf, fun s hk => if_neg (by simp),
    fun s m l hk => collectorSelfCheck_mismatch m l hk⟩

end Sys2Proof.Machine

/-! PROOFS. PF opens the window and the window ends in the fence (R149 to R155): the epochs that are closed stay closed, and shedding takes
host domains alone. -/

namespace Sys2Proof.Machine

section Window
variable {s t u : State} {n : Nat}

/-! ### Epochs that are closed -/

/-- Every epoch that stands stood before, closed or open as it was. -/
def KeepsClosed (s t : State) : Prop := ∀ y ∈ t.stg.epochs, ∃ x ∈ s.stg.epochs, x.num = y.num ∧ x.closed = y.closed

theorem KeepsClosed.of_epochs (h : t.stg.epochs = s.stg.epochs) : KeepsClosed s t := fun y hy => ⟨y, by rwa [h] at hy, rfl, rfl⟩

theorem KeepsClosed.of_stg (h : t.stg = s.stg) : KeepsClosed s t := .of_epochs (by rw [h])

theorem KeepsClosed.trans (h : KeepsClosed s t) (k : KeepsClosed t u) : KeepsClosed s u := fun y hy => by
  obtain ⟨x, hx, hn, hc⟩ := k y hy
  obtain ⟨w, hw, hwn, hwc⟩ := h x hx
  exact ⟨w, hw, hwn.trans hn, hwc.trans hc⟩

theorem KeepsClosed.of_map {f : Epoch → Epoch} (h : t.stg.epochs = s.stg.epochs.map f) (hn : ∀ x, (f x).num = x.num)
    (hc : ∀ x, (f x).closed = x.closed) : KeepsClosed s t := fun y hy => by
  rw [h] at hy
  obtain ⟨x, hx, rfl⟩ := List.mem_map.1 hy
  exact ⟨x, hx, (hn x).symm, (hc x).symm⟩

theorem KeepsClosed.foldl {α : Type} {f : State → α → State} (h : ∀ s a, KeepsClosed s (f s a)) (l : List α) (s : State) :
    KeepsClosed s (l.foldl f s) := by
  induction l generalizing s with
  | nil => exact .of_epochs rfl
  | cons a l ih => exact (h s a).trans (ih _)

theorem voidEpoch_keepsClosed (reason : Nat) (s : State) (e : Epoch) : KeepsClosed s (voidEpoch reason s e) := by
  unfold voidEpoch
  extract_lets a b c run _ d
  have ha : KeepsClosed s a := .foldl (fun s g => .of_stg ((unpend_changes g (m' := 1) rfl (.refl _ s)).stg rfl)) _ _
  have hb : KeepsClosed a b := fun y hy => ⟨y, (List.mem_filter.1 hy).1, rfl, rfl⟩
  have hc : KeepsClosed b c := by
    unfold c
    split
    · exact .of_stg ((sampleSince_changes 7 0 _ (m' := 0x2000000) rfl (.refl _ b)).stg rfl)
    · exact .of_epochs rfl
  have hd : KeepsClosed c d := by
    by_cases hr : run = true
    · refine .of_map (f := fun x => if x.kind = .ckptEnd then { x with kind := .system } else x) (if_pos hr) (fun x => ?_) fun x => ?_ <;>
        split <;> rfl
    · exact .of_epochs (if_neg hr)
  obtain ⟨bs, hw⟩ := writeVoid_stg { epoch := e.num, reason := reason, ts := engineNow d } d
  exact (((ha.trans hb).trans hc).trans hd).trans (.of_epochs (by rw [hw]))

theorem voidWhere_keepsClosed (p : Epoch → Bool) (reason : Nat) (s : State) : KeepsClosed s (voidWhere p reason s) :=
  .foldl (voidEpoch_keepsClosed reason) _ s

theorem voidWhere_keepsQueues (p : Epoch → Bool) (reason : Nat) (s : State) : KeepsQueues s (voidWhere p reason s) :=
  .foldl (voidEpoch_keepsQueues reason) _ s

theorem closeOpen_closes {e : Epoch} (h : openEpoch s = some e) : ∀ x ∈ (closeOpen s).stg.epochs, x.num = e.num → x.closed ≠ none := by
  intro x hx hn
  rw [closeOpen, h] at hx
  obtain ⟨y, hy, rfl⟩ := List.mem_map.1 hx
  by_cases hy' : y.num = e.num
  · simp [hy']
  · rw [if_neg hy'] at hn
    exact absurd hn hy'

/-! ### CONFIRMED and the window (R148, R149) -/

theorem abortBackground_stg (s : State) : ∃ b, (abortBackground s).stg = { s.stg with sealBoost := b } := by
  have he (c : RetCode) (u : State) : ∃ b, (endBackground c u).stg = { u.stg with sealBoost := b } := by
    unfold endBackground
    split
    · dsimp only
      rw [(msix_changes 0 (m' := 0x40000400) rfl (.refl _ _)).stg rfl]
      split <;> exact ⟨_, rfl⟩
    · exact ⟨_, rfl⟩
  unfold abortBackground
  extract_lets owed src v
  have hv : v.stg = s.stg := by
    unfold v
    split <;> rfl
  obtain ⟨k, hk⟩ := he .aborted { v with mbx := { v.mbx with sanitizeOwed := v.mbx.sanitizeOwed || owed } }
  exact ⟨k, hk.trans (by rw [hv])⟩

/-- What the entry into CONFIRMED leaves: the cause and the collapse, the requests and the draft; its open epoch is closed. -/
theorem enterConfirmed_effects (s : State) : (enterConfirmed s).vlt = { s.vlt with state := .confirmed, specBlocked := false } ∧
    KeepsClosed (closeOpen s) (enterConfirmed s) ∧ (enterConfirmed s).cache.waiting = s.cache.waiting ∧
    (enterConfirmed s).stg.heldq = s.stg.heldq := by
  unfold enterConfirmed
  extract_lets a b s1 s2 s3 s4 s5 c d
  have hac : KeepsClosed (closeOpen s) a := .of_stg ((setVault_changes .confirmed (m' := 0x4c000020) rfl (.refl _ _)).stg rfl)
  have haq : KeepsQueues s a := (closeOpen_keepsQueues s).trans (.of_changes (setVault_changes .confirmed (by rfl) (.refl _ _)))
  have hav : a.vlt = { s.vlt with state := .confirmed } :=
    (setVault_vlt ..).trans (by rw [(closeOpen_changes (m' := 0x10) rfl (.refl _ s)).vlt rfl])
  have hbc : KeepsClosed a b := (voidWhere_keepsClosed _ 4 a).trans
    (.of_map (f := fun e => { e with stray := true }) rfl (fun _ => rfl) fun _ => rfl)
  have hbq : KeepsQueues a b := (voidWhere_keepsQueues _ 4 a).trans ⟨rfl, rfl, rfl, rfl, rfl⟩
  have hbv : b.vlt = a.vlt := (strayEpochs_changes (m' := 0xc2000019) (by rfl) (voidWhere_changes _ 4 (by rfl) (.refl _ a))).vlt rfl
  have hcc : KeepsClosed b c ∧ c.vlt = { b.vlt with specBlocked := false } ∧ c.cache.waiting = b.cache.waiting ∧
      c.stg.heldq = b.stg.heldq := by
    have hx (x : State) (hs : x.stg.epochs = b.stg.epochs) (hh : x.stg.heldq = b.stg.heldq) (hv : x.vlt = { b.vlt with specBlocked := false })
        (hw : x.cache.waiting = b.cache.waiting) : KeepsClosed b (abortBackground x) ∧
        (abortBackground x).vlt = { b.vlt with specBlocked := false } ∧ (abortBackground x).cache.waiting = b.cache.waiting ∧
        (abortBackground x).stg.heldq = b.stg.heldq := by
      have hk : Changes 0x40000c10 x (abortBackground x) := abortBackground_changes (.self _) (.refl _ x)
      obtain ⟨k, hstg⟩ := abortBackground_stg x
      exact ⟨.of_epochs (by rw [hstg]; exact hs), (hk.vlt rfl).trans hv, by rw [hk.cache rfl, hw], by rw [hstg]; exact hh⟩
    exact hx _ rfl rfl rfl rfl
  clear_value a b c
  obtain ⟨hccl, hcv, hcw, hch⟩ := hcc
  have hd : Changes 0x40000c00 c (if d.host.width = 0 then d else msix 7 d) := by
    have hcd : Changes 0x40000c00 c d := by
      unfold d
      split
      · exact postEvent_changes _ _ _ _ (.self _) (.refl _ c)
      · exact .refl _ c
    split
    · exact hcd
    · exact msix_changes 7 (by rfl) hcd
  generalize (if d.host.width = 0 then d else msix 7 d) = w at hd
  refine ⟨?_, ((hac.trans hbc).trans hccl).trans (.of_stg (hd.stg rfl)), ?_, ?_⟩
  · rw [hd.vlt rfl, hcv, hbv, hav]
  · rw [hd.cache rfl, hcw, hbq.waiting, haq.waiting]
  · rw [hd.stg rfl, hch, hbq.heldq, haq.heldq]

/-! ### Shedding of host domains (R353) -/

theorem shedDomain_rail {d : Nat} (hd : 6 ≤ d) (s : State) : Changes 0x2000 s (shedDomain d s) := by
  unfold shedDomain
  split
  · exact modDom_changes _ _ (.self _) (switchOff_rail_changes hd s)
  · exact .refl _ s

/-- Where every domain of the order is a host's, shedding changes the power alone. -/
theorem shedOnce_rail (h : ∀ d ∈ shedOrder s, 8 ≤ d) : Changes 0x2000 s (shedOnce s) := by
  unfold shedOnce
  split
  · exact .refl _ s
  unfold startShed
  extract_lets v
  have hv : Changes 0x2000 s v := stopHostSeq_changes (.self _) (.refl _ s)
  have hord : shedOrder v = shedOrder s := by rw [shedOrder, hv.drf rfl, shedOrder]
  have hdone (x : State) : Changes 0x2000 x (shedDone x) := shedDone_changes (.self _) (.refl _ x)
  split
  · exact hv.trans (hdone v)
  next d rest hl =>
    have hd : d ∈ shedOrder s := by
      rw [← hord]
      have hm : d ∈ onInShedOrder v := by rw [hl]; exact List.mem_cons_self
      exact (List.mem_filter.1 hm).1
    have h8 := h d hd
    have hs := hv.trans (shedDomain_rail (d := d) (by omega) v)
    dsimp only
    split
    · exact hs.trans (hdone _)
    · exact Changes.put_pwr rfl id hs

/-! ### The fence (R151 to R153) -/

theorem discardWrites_queues (s : State) : (discardWrites s).stg = { s.stg with heldq := [] } ∧ (discardWrites s).cache = { s.cache with
    capq := [], waiting := s.cache.waiting.filter isReadReq, fetches := s.cache.fetches.map (fun f => { f with writes := [] }) } := by
  unfold discardWrites
  extract_lets held v
  have hv : Changes 0x82000000 s v := .foldl (.refl _ s) fun u _ hu => sampleFree_changes 8 0 (.self _) hu
  have hstg := hv.stg rfl
  have hcache := hv.cache rfl
  clear_value v
  constructor
  · change ({ v.stg with heldq := [] } : StgSt) = _
    rw [hstg]
  · change ({ v.cache with capq := [], waiting := v.cache.waiting.filter isReadReq
                           fetches := v.cache.fetches.map (fun f => { f with writes := [] }) } : CacheSt) = _
    rw [hcache]

/-- What the fence leaves of the writes, the epochs, the map and the manifest. -/
structure Fenced (b : Nat) (s t : State) : Prop where
  changes : Changes 0xce0c8d71 s t
  vlt : t.vlt = { s.vlt with state := .fenced, fenceTs := engineNow s, fenceBy := b }
  epochs : t.stg.epochs = s.stg.epochs
  heldq : t.stg.heldq = []
  capq : t.cache.capq = []
  map : t.cache.map = s.cache.map
  waiting : t.cache.waiting = s.cache.waiting.filter isReadReq
  manifest : t.drain.manifest = some (manifestOf s)
  gpf : t.host.gpfWaiting = []

theorem fence_queues (b : Nat) (s : State) : (fence b s).stg = { s.stg with heldq := [] } ∧ (fence b s).cache.capq = [] ∧
    (fence b s).cache.map = s.cache.map ∧ (fence b s).cache.waiting = s.cache.waiting.filter isReadReq ∧
    (fence b s).drain.manifest = some (manifestOf s) := by
  obtain ⟨hstg, hcache⟩ := discardWrites_queues s
  have hcap := congrArg CacheSt.capq hcache
  have hcmap := congrArg CacheSt.map hcache
  have hcwait := congrArg CacheSt.waiting hcache
  have hdrf := (discardWrites_changes (m' := 0x82000011) rfl (.refl _ s)).drf rfl
  unfold fence
  extract_lets a v g b' c d k e
  have hab : Changes 0x4c008020 a b' := Changes.put_gau (t := { a with vlt := b'.vlt }) rfl (Changes.put_vlt rfl (.refl _ a))
  have hc : Changes 0x4c008020 a d := sendFrame_changes _ _ (by rfl) (setVault_changes _ (by rfl) hab)
  have hend : Changes 0x4c0c0120 e (noChannel (startLoop e)) := noChannel_changes (by rfl) (startLoop_changes (by rfl) (.refl _ e))
  have hm : manifestOf d = manifestOf s := by
    have hb (x : Nat) : boltOf d x = boltOf s x := boltOf_congr ((hc.drf rfl).trans hdrf) x
    have hmap : d.cache.map = s.cache.map := by rw [hc.cache rfl]; exact hcmap
    unfold manifestOf
    rw [hmap]
    simp only [hb]
  refine ⟨?_, ?_, ?_, ?_, ?_⟩
  · rw [hend.stg rfl]
    exact (hc.stg rfl).trans hstg
  · rw [hend.cache rfl]
    change d.cache.capq = []
    rw [hc.cache rfl]
    exact hcap
  · rw [hend.cache rfl]
    change d.cache.map = _
    rw [hc.cache rfl]
    exact hcmap
  · rw [hend.cache rfl]
    change d.cache.waiting = _
    rw [hc.cache rfl]
    exact hcwait
  · rw [hend.drain rfl, ← hm]

theorem fenceFailing_fenced (b : Nat) (s : State) : Fenced b s (fenceFailing b s) := by
  obtain ⟨hstg, hcap, hmap, hwait, hman⟩ := fence_queues b s
  have ha := answerFlush_changes true (m' := 0x40000400) rfl (.refl _ (fence b s))
  have hpost : ∀ w, Changes 0x40000c00 (answerFlush true (fence b s)) w → w.host.gpfWaiting = [] → Fenced b s w := fun w hw hg => by
    have hall : Changes 0x40000c00 (fence b s) w := (ha.mono (by rfl)).trans hw
    refine ⟨(fence_changes b (by rfl) (.refl _ s)).trans (hall.mono (by rfl)), ?_, ?_, ?_, ?_, ?_, ?_, ?_, hg⟩
    · rw [hall.vlt rfl, fence_vlt]
    · rw [hall.stg rfl, hstg]
    · rw [hall.stg rfl, hstg]
    · rw [hall.cache rfl, hcap]
    · rw [hall.cache rfl, hmap]
    · rw [hall.cache rfl, hwait]
    · rw [hall.drain rfl, hman]
  unfold fenceFailing
  dsimp only
  split
  · refine hpost _ (postEvent_changes _ _ _ _ (.self _) (.refl _ _)) ?_
    obtain ⟨p, hp⟩ := postEvent_host 1 7 0xFF [(answerFlush true (fence b s)).vlt.fenceTs] (answerFlush true (fence b s))
    rw [hp]
    exact answerFlush_gpfWaiting ..
  · exact hpost _ (.refl _ _) (answerFlush_gpfWaiting ..)

/-! ### The two commands -/

/-- What PF leaves behind in ARMED or SPECULATIVE, before the requests that wait are served. -/
structure Seen (s t : State) : Prop where
  state : t.vlt.state = if s.vlt.collapse = true ∨ setting s P.window = 0 then .fenced else .window
  cause : t.vlt.cause = s.vlt.cause
  closed : KeepsClosed (closeOpen s) t
  heldq : s.stg.heldq = [] → t.stg.heldq = []
  waiting : s.cache.waiting = [] → t.cache.waiting = []
  chg : t.chg = s.chg

theorem openWindow_seen (h : ∀ d ∈ shedOrder s, 8 ≤ d) : Seen s (openWindow (enterConfirmed s)) := by
  obtain ⟨hvlt, hclosed, hwait, hheld⟩ := enterConfirmed_effects s
  have hc : Changes 0xce000cb9 s (enterConfirmed s) := enterConfirmed_changes (.self _) (.refl _ s)
  have hset : setting (enterConfirmed s) P.window = setting s P.window := setting_congr (hc.drf rfl) _
  have hcol : (enterConfirmed s).vlt.collapse = s.vlt.collapse := by rw [hvlt]
  have hcond : ((enterConfirmed s).vlt.collapse || decide (setting (enterConfirmed s) P.window = 0)) = true ↔
      (s.vlt.collapse = true ∨ setting s P.window = 0) := by
    rw [hset, hcol, Bool.or_eq_true, decide_eq_true_iff]
  have hord : shedOrder (enterConfirmed s) = shedOrder s := by rw [shedOrder, hc.drf rfl, shedOrder]
  have hchg := hc.chg rfl
  generalize enterConfirmed s = c at hvlt hclosed hwait hheld hcond hord hchg
  unfold openWindow
  by_cases hx : s.vlt.collapse = true ∨ setting s P.window = 0
  · rw [if_pos (hcond.2 hx)]
    have hf := fenceFailing_fenced 4 c
    have hput : ∀ w, Changes 0x2000 (fenceFailing 4 c) w → Seen s w := fun w hw => by
      refine ⟨?_, ?_, ?_, fun _ => ?_, fun hn => ?_, ?_⟩
      · rw [hw.vlt rfl, hf.vlt, if_pos hx]
      · rw [hw.vlt rfl, hf.vlt, hvlt]
      · exact hclosed.trans (.of_epochs (by rw [hw.stg rfl, hf.epochs]))
      · rw [hw.stg rfl, hf.heldq]
      · rw [hw.cache rfl, hf.waiting, hwait, hn]
        rfl
      · rw [hw.chg rfl, hf.changes.chg rfl, hchg]
    dsimp only
    split
    · refine hput _ (shedOnce_rail ?_)
      rwa [shedOrder, hf.changes.drf rfl, ← shedOrder, hord]
    · exact hput _ (.refl _ _)
  · rw [if_neg (fun hn => hx (hcond.1 hn))]
    have hsv : Changes 0x4c000020 c (setVault .window c) := setVault_changes _ (.self _) (.refl _ c)
    refine ⟨?_, ?_, ?_, fun hn => ?_, fun hn => ?_, ?_⟩
    · rw [setVault_state, if_neg hx]
    · rw [setVault_vlt, hvlt]
    · exact hclosed.trans (.of_stg (hsv.stg rfl))
    · rw [hsv.stg rfl, hheld, hn]
    · rw [hsv.cache rfl, hwait, hn]
    · rw [hsv.chg rfl, hchg]

/-- With no request that waits, what follows PF is at most an evaluation of the budget. -/
theorem releaseWaiting_idle (hw : s.cache.waiting = []) (ht : inTail s = true → s.stg.heldq = []) :
    ∃ u, (u = s ∨ u = evaluate s) ∧ releaseWaiting s = u := by
  have hempty (v : State) (hv : v.cache.waiting = []) : ({ v with cache := { v.cache with waiting := [] } } : State) = v := by rw [← hv]
  unfold releaseWaiting
  split
  · exact ⟨s, .inl rfl, rfl⟩
  dsimp only
  split
  next hq =>
    refine ⟨s, .inl rfl, ?_⟩
    rw [hw, List.foldl_nil, hempty s hw, tailHeld, hq, Bool.not_true, Bool.and_false, if_neg (by simp)]
  next hq =>
    have hin : inTail s = false := by
      rw [Bool.eq_false_iff]
      exact fun h => hq (by rw [ht h]; rfl)
    have hwe := (evaluate_keepsTerms s).waiting.trans hw
    refine ⟨evaluate s, .inr rfl, ?_⟩
    rw [hwe, List.foldl_nil, hempty _ hwe, tailHeld, (evaluate_serving s).inTail_eq, hin, Bool.false_and, if_neg (by simp)]

theorem pfActive_opens (hp : pairActive .pf s = true) (hu : s.warm.engineUp = true) (hb : s.flt.belay = false)
    (hcf : s.vlt.confirming = true) (hst : s.vlt.state = .armed ∨ s.vlt.state = .speculative) (hk : s.warm.kind = .none)
    (hw : s.cache.waiting = []) (htail : inTail s = true → s.stg.heldq = []) (hord : ∀ d ∈ shedOrder s, 8 ≤ d) :
    ∃ t, exec .pfActive s = .next t ∧
      t.vlt.state = (if s.vlt.collapse = true ∨ setting s P.window = 0 then .fenced else .window) ∧
      (∀ e, openEpoch s = some e → ∀ x ∈ t.stg.epochs, x.num = e.num → x.closed ≠ none) ∧ t.vlt.cause = s.vlt.cause := by
  have harm : isArmed s = true := by rcases hst with h | h <;> simp [isArmed, h]
  have hsee : seePf s = openWindow (enterConfirmed s) := by
    rw [seePf, if_neg (by simp [hk]), if_pos harm]
  have hseen := openWindow_seen hord
  rw [← hsee] at hseen
  have hexec : exec .pfActive s = .next (releaseWaiting (seePf s)) := by
    change Host.Outcome.next (if pairActive .pf s && s.warm.engineUp && !s.flt.belay then pfSeen s else s) = _
    rw [if_pos (by simp [hp, hu, hb]), pfSeen, if_pos (by simp [hcf])]
  generalize seePf s = v at hseen hexec
  obtain ⟨w, hw', hrel⟩ := releaseWaiting_idle (hseen.waiting hw) fun h => hseen.heldq (htail (by rwa [inTail_congr hseen.chg] at h))
  rw [hrel] at hexec
  have hvw : w.vlt = v.vlt ∧ w.stg.epochs = v.stg.epochs := by
    rcases hw' with rfl | rfl
    · exact ⟨rfl, rfl⟩
    · refine ⟨(evaluate_serving v).vault ?_, ?_⟩
      · rw [noVault, hseen.state]
        split <;> rfl
      · have hterms := congrArg StgSt.epochs (evaluate_keepsTerms v).terms
        exact hterms
  refine ⟨w, hexec, by rw [hvw.1, hseen.state], fun e he x hx hn => ?_, by rw [hvw.1, hseen.cause]⟩
  rw [hvw.2] at hx
  obtain ⟨y, hy, hyn, hyc⟩ := hseen.closed x hx
  rw [← hyc]
  exact closeOpen_closes he y hy (hyn.trans hn)

theorem windowExpiry_fences (hst : s.vlt.state = .window) (hr : engineRuns s = true) (hord : ∀ d ∈ shedOrder s, 8 ≤ d) :
    ∃ t, exec .windowExpiry s = .next t ∧ t.vlt.state = .fenced ∧ t.vlt.fenceBy = 2 ∧ t.vlt.fenceTs = engineNow s ∧
      t.drain.manifest = some (manifestOf s) ∧ t.cache.capq = [] ∧ t.cache.map = s.cache.map ∧
        t.host.gpfWaiting = [] ∧
      t.nand.pages = s.nand.pages ∧ t.nand.knots = s.nand.knots := by
  have hexec : exec .windowExpiry s = .next (windowShed (fenceFailing 2 s)) := by
    change execWindowExpiry s = _
    rw [execWindowExpiry, if_pos (by simp [hst, hr])]
  have hf := fenceFailing_fenced 2 s
  have hs : Changes 0x2000 (fenceFailing 2 s) (windowShed (fenceFailing 2 s)) := by
    unfold windowShed
    split
    · refine shedOnce_rail ?_
      rwa [shedOrder, hf.changes.drf rfl, ← shedOrder]
    · exact .refl _ _
  have hn : (windowShed (fenceFailing 2 s)).nand = s.nand := (hs.nand rfl).trans (hf.changes.nand rfl)
  refine ⟨_, hexec, ?_, ?_, ?_, ?_, ?_, ?_, ?_, by rw [hn], by rw [hn]⟩
  · rw [hs.vlt rfl, hf.vlt]
  · rw [hs.vlt rfl, hf.vlt]
  · rw [hs.vlt rfl, hf.vlt]
  · rw [hs.drain rfl, hf.manifest]
  · rw [hs.cache rfl, hf.capq]
  · rw [hs.cache rfl, hf.map]
  · rw [hs.host rfl, hf.gpf]

end Window

/-- Settles O26: the open epoch is closed at the entry into CONFIRMED and stays so through the fence, the shedding and the evaluation that
may follow. -/
theorem windowAndFence : Obligations.WindowAndFence :=
  ⟨fun _ hp hu hb hcf hst hk hw ht hord => pfActive_opens hp hu hb hcf hst hk hw ht hord,
    fun _ hst hr hord => windowExpiry_fences hst hr hord⟩

end Sys2Proof.Machine

/-! PROOFS. Zones: the flags and their release (R394 to R398), the rate of rise (R399, R400), the analog limits and the thermal
shutdown (R401 to R405). -/

namespace Sys2Proof.Machine

section Zones
variable {s t u : State} {z : Nat}

/-! ### The zones as a list of five (R391) -/

theorem zoneAt_congr (h : t.thm.zones = s.thm.zones) (z : Nat) : zoneAt z t = zoneAt z s := by rw [zoneAt, h, ← zoneAt]

theorem zoneAt_modZone (hz : z < s.thm.zones.length) (f : Zone → Zone) : zoneAt z (modZone z f s) = f (zoneAt z s) := by
  change (match (s.thm.zones.modify z f)[z]? with | some x => x | none => ({} : Zone)) = _
  rw [List.getElem?_modify, zoneAt, List.getElem?_eq_getElem hz]
  simp

theorem zoneAt_modZone_ne {y : Nat} (h : y ≠ z) (f : Zone → Zone) (s : State) : zoneAt y (modZone z f s) = zoneAt y s := by
  change (match (s.thm.zones.modify z f)[y]? with | some x => x | none => ({} : Zone)) = _
  rw [List.getElem?_modify]
  cases hx : s.thm.zones[y]? <;> simp [zoneAt, hx, h.symm]

/-- One zone has changed by a function, and the sensors stand. -/
structure ZoneOnly (z : Nat) (f : Zone → Zone) (s t : State) : Prop where
  self : zoneAt z t = f (zoneAt z s)
  others : ∀ y, y ≠ z → zoneAt y t = zoneAt y s
  sensors : t.thm.sensors = s.thm.sensors

theorem modZone_zoneOnly (hz : z < 5) (hs : Sound s) (f : Zone → Zone) : ZoneOnly z f s (modZone z f s) :=
  ⟨zoneAt_modZone (by rw [hs.thermal.zones]; exact hz) f, fun _ h => zoneAt_modZone_ne h f s, rfl⟩

theorem ZoneOnly.of_thm {f : Zone → Zone} (h : ZoneOnly z f s t) (ht : u.thm = t.thm) : ZoneOnly z f s u :=
  ⟨(zoneAt_congr (by rw [ht]) z).trans h.self, fun y hy => (zoneAt_congr (by rw [ht]) y).trans (h.others y hy), by rw [ht, h.sensors]⟩

/-! ### Flags and their release (R397) -/

section Release
variable {w : Int} {a b : Option Int} (hk : s.pwr.keeper = true) (hl : zoneLimits z s = some (w, a, b)) (hz : z < 5)
  (hh : heldLong z s = true) (hs : Sound s)
include hk hl hz hh hs

theorem thmHold_warn (hf : (zoneAt z s).warn = true) (hb : belowHyst z (some w) s = true) :
    ∃ t, exec (.thmHoldExpiry z 0) s = .next t ∧ ZoneOnly z (fun x => { x with warn := false }) s t := by
  have hc (v : State) (hv : v.flt = s.flt) : Changes 0x40004 v (pcClear (212 + z) v) := pcClear_quiet _ (by rw [hv]; exact hs.sources)
  refine ⟨_, ?_, (modZone_zoneOnly hz hs _).of_thm ((hc (modZone z _ s) rfl).thm rfl)⟩
  change execThmHoldExpiry z 0 s = _
  unfold execThmHoldExpiry
  rw [hl]
  dsimp only
  rw [if_neg (by simp [hk, hh]), if_pos rfl, if_pos (by simp [hf, hb])]

theorem thmHold_throttle (hf : (zoneAt z s).throttle = true) (hr : (zoneAt z s).rate = false) (hb : belowHyst z a s = true) :
    ∃ t, exec (.thmHoldExpiry z 1) s = .next t ∧ ZoneOnly z (fun x => { x with throttle := false }) s t := by
  have hc (v : State) : Changes 0xce7defff v (thermFollow (demandFollows z v)) :=
    thermFollow_changes (.self _) (demandFollows_changes z (by rfl) (.refl _ v))
  refine ⟨_, ?_, (modZone_zoneOnly hz hs _).of_thm ((hc _).thm rfl)⟩
  change execThmHoldExpiry z 1 s = _
  unfold execThmHoldExpiry
  rw [hl]
  dsimp only
  rw [if_neg (by simp [hk, hh]), if_neg (by decide), if_pos rfl, if_pos (by simp [hf, hr, hb])]

theorem thmHold_vault (hf : (zoneAt z s).vault = true) (hb : belowHyst z b s = true) :
    ∃ t, exec (.thmHoldExpiry z 2) s = .next t ∧ ZoneOnly z (fun x => { x with vault := false, told := false }) s t ∧ t.vlt = s.vlt := by
  have hc (v : State) (hv : v.flt = s.flt) : Changes 0x40004 v (pcClear (217 + z) v) := pcClear_quiet _ (by rw [hv]; exact hs.sources)
  refine ⟨_, ?_, (modZone_zoneOnly hz hs _).of_thm ((hc (modZone z _ s) rfl).thm rfl), (hc (modZone z _ s) rfl).vlt rfl⟩
  change execThmHoldExpiry z 2 s = _
  unfold execThmHoldExpiry
  rw [hl]
  dsimp only
  rw [if_neg (by simp [hk, hh]), if_neg (by decide), if_neg (by decide), if_pos rfl, if_pos (by simp [hf, hb])]

theorem thmHold_rate (hf : (zoneAt z s).rate = true) :
    ∃ t, exec (.thmHoldExpiry z 3) s = .next t ∧ ZoneOnly z (fun x => { x with rate := false }) s t := by
  refine ⟨_, ?_, (modZone_zoneOnly hz hs _).of_thm ((rateCond_changes (m' := 0xce3defff) (.self _) (.refl _ _)).thm rfl)⟩
  change execThmHoldExpiry z 3 s = _
  unfold execThmHoldExpiry
  rw [hl]
  dsimp only
  rw [if_neg (by simp [hk, hh]), if_neg (by decide), if_neg (by decide), if_neg (by decide), if_pos hf]

end Release

/-! ### Rate of rise (R399, R400) -/

theorem tget_map {α : Type} (d : α) (f : Nat → α → α) (l : Table α) (n : Nat) (h : tget d l n ≠ d) :
    tget d (l.map (fun e => (e.1, f e.1 e.2))) n = f n (tget d l n) := by
  induction l with
  | nil => exact absurd rfl h
  | cons e l ih =>
    obtain ⟨k, v⟩ := e
    rw [tget] at h
    rw [List.map_cons, tget, tget]
    by_cases hn : n = k
    · rw [if_pos hn, if_pos hn, hn]
    · rw [if_neg hn] at h ⊢
      rw [if_neg hn]
      by_cases hlt : n < k
      · rw [if_pos hlt] at h
        exact absurd rfl h
      · rw [if_neg hlt] at h ⊢
        rw [if_neg hlt, ih h]

/-- A sensor that a rate check reads has its reading noted before those of the nine checks before (R399). -/
theorem noteRates_hist {m : Nat} (hm : m ∈ rateSensors s) :
    (sensorAt m (noteRates s)).hist = ((sensorAt m s).temp :: (sensorAt m s).hist).take 10 := by
  have hseen : (sensorAt m s).seen = true := by
    have h := (List.mem_filter.1 hm).2
    simp only [Bool.and_eq_true, sensorValid] at h
    exact h.1.2.1
  have hne : tget {} s.thm.sensors m ≠ ({} : Sensor) := fun h => by simp [sensorAt, h] at hseen
  let f (n : Nat) (x : Sensor) : Sensor :=
    { x with hist := if (rateSensors s).contains n then (x.temp :: x.hist).take 10 else [] }
  refine (congrArg Sensor.hist (tget_map {} f s.thm.sensors m hne)).trans ?_
  change (if (rateSensors s).contains m then _ else _) = _
  rw [if_pos (List.contains_iff_mem.2 hm)]
  rfl

theorem setThrottle_zoneOnly (hz : z < s.thm.zones.length) {f : Zone → Zone} :
    ZoneOnly z (fun x => { f x with throttle := true }) s (setThrottle z (modZone z f s)) := by
  have hself := zoneAt_modZone hz f
  have hne : ∀ y, y ≠ z → zoneAt y (modZone z f s) = zoneAt y s := fun y hy => zoneAt_modZone_ne hy f s
  have hlen : z < (modZone z f s).thm.zones.length := by
    change z < (s.thm.zones.modify z f).length
    rwa [List.length_modify]
  unfold setThrottle
  split
  next h =>
    refine ⟨?_, hne, rfl⟩
    rw [hself] at h ⊢
    rw [← h]
  next =>
    have hc (v : State) : Changes 0x40014100 v (demandFollows z (currentFollows v)) :=
      demandFollows_changes z (by rfl) (currentFollows_changes (by rfl) (.refl _ v))
    have hz' : ZoneOnly z (fun x => { f x with throttle := true }) s (modZone z (fun x => { x with throttle := true }) (modZone z f s)) :=
      ⟨by rw [zoneAt_modZone hlen, hself], fun y hy => (zoneAt_modZone_ne hy _ _).trans (hne y hy), rfl⟩
    exact hz'.of_thm ((hc _).thm rfl)

theorem thmRateCheck_sets {n : Nat} {r : Int} (hk : s.pwr.keeper = true) (ha : s.drf.active ≠ none) (hz : z = 0 ∨ z = 3)
    (hzn : sensorZone n s = some z) (hn : n ∈ rateSensors s) (hr : riseOf n s = some r)
    (hlim : 16 * (setting s P.dieRateMax : Int) < r)
    (hothers : ∀ m ∈ rateSensors s, sensorZone m s ≠ some z →
      (riseOf m s).all (fun x => decide (x ≤ 16 * (setting s P.dieRateMax : Int))) = true) (hs : Sound s) :
    ∃ t, exec .thmRateCheck s = .next t ∧ zoneAt z t = { zoneAt z s with rate := true, throttle := true } ∧
      (∀ y, y ≠ z → zoneAt y t = zoneAt y s) ∧
      (∀ m ∈ rateSensors s, (sensorAt m t).hist = ((sensorAt m s).temp :: (sensorAt m s).hist).take 10) := by
  let fast := (rateSensors s).filter (fun n => (riseOf n s).any (fun r => decide (16 * (setting s P.dieRateMax : Int) < r)))
  have hfast : n ∈ fast := List.mem_filter.2 ⟨hn, by rw [hr]; exact decide_eq_true hlim⟩
  have honly (m : Nat) (hm : m ∈ fast) : sensorZone m s = some z := by
    obtain ⟨hmr, hm'⟩ := List.mem_filter.1 hm
    by_contra hne
    have hall := hothers m hmr hne
    cases hrm : riseOf m s with
    | none => simp [hrm] at hm'
    | some x =>
      rw [hrm] at hm' hall
      have h1 : 16 * (setting s P.dieRateMax : Int) < x := of_decide_eq_true hm'
      have h2 : x ≤ 16 * (setting s P.dieRateMax : Int) := of_decide_eq_true hall
      omega
  have hany (y : Nat) : fast.any (fun n => sensorZone n s = some y) = decide (y = z) := by
    rw [Bool.eq_iff_iff, List.any_eq_true, decide_eq_true_iff]
    refine ⟨fun ⟨m, hm, hy⟩ => ?_, fun hy => ⟨n, hfast, by rw [hy]; exact decide_eq_true hzn⟩⟩
    have := (of_decide_eq_true hy).symm.trans (honly m hm)
    injection this
  have hzs : [0, 3].filter (fun y => fast.any (fun n => sensorZone n s = some y)) = [z] := by
    simp only [hany]
    rcases hz with rfl | rfl <;> rfl
  have hexec : exec .thmRateCheck s = .next (rateCond (setThrottle z (modZone z (fun x => { x with rate := true }) (noteRates s)))) := by
    change execThmRateCheck s = _
    unfold execThmRateCheck
    dsimp only
    rw [if_neg (by simp [hk, ha]), hzs]
    rfl
  have hlen : z < (noteRates s).thm.zones.length := by
    change z < s.thm.zones.length
    rw [hs.thermal.zones]
    omega
  have hset : ZoneOnly z (fun x => { x with rate := true, throttle := true }) (noteRates s)
      (setThrottle z (modZone z (fun x => { x with rate := true }) (noteRates s))) :=
    setThrottle_zoneOnly (f := fun x => { x with rate := true }) hlen
  have hall := hset.of_thm ((rateCond_changes (m' := 0xce3defff) (.self _) (.refl _ _)).thm rfl)
  refine ⟨_, hexec, hall.self, hall.others, fun m hm => ?_⟩
  rw [sensorAt, hall.sensors]
  exact noteRates_hist hm

/-- A charger that may not charge does not charge after its check. -/
theorem chargerCheck_stopped (h : s.chg.rateStop = true) : (chargerCheck s).chg.rateStop = true ∧ charging (chargerCheck s) = false := by
  have hstop : chargeStopped s = true := by rw [chargeStopped, h, Bool.or_true]
  have hno : chargeAllowed s = false := by simp [chargeAllowed, hstop]
  have hstart : (startCharger s).chg.rateStop = true ∧ charging (startCharger s) = false := by
    rw [startCharger, if_neg (by simp [hno]), inhibitCharger, if_pos hstop]
    exact ⟨h, rfl⟩
  unfold chargerCheck
  split
  next hc =>
    rw [if_neg (by simp [hno])]
    exact hstart
  next hc =>
    rw [Bool.not_eq_true] at hc
    split
    · exact ⟨h, hc⟩
    split
    · split
      · exact hstart
      · exact ⟨h, hc⟩
    rw [if_neg (by simp [hno])]
    exact ⟨h, hc⟩

theorem storeRateCheck_stops {r : Int} (hk : s.pwr.keeper = true) (ha : s.drf.active ≠ none) (hr : storeRise s = some r)
    (hlim : 16 * (setting s P.storeRateMax : Int) < r) (hc : charging s = true) :
    ∃ t, exec .storeRateCheck s = .next t ∧ t.chg.rateStop = true ∧ charging t = false ∧ t.thm = s.thm := by
  let v : State := { s with chg := { s.chg with rateAt := now s, rateStop := true } }
  have hexec : exec .storeRateCheck s = .next (chargerCheck (pcFault 222 0 v)) := by
    change execStoreRateCheck s = _
    unfold execStoreRateCheck
    dsimp only
    rw [if_neg (by simp [hk, ha]), hr]
    simp only [Option.any_some, decide_eq_true (le_of_lt hlim), decide_eq_true hlim, if_true, Bool.true_and]
    exact if_pos hc
  have hstop : (pcFault 222 0 v).chg.rateStop = true := (pcFault_powerOff 222 0 v).rateStop
  obtain ⟨h1, h2⟩ := chargerCheck_stopped hstop
  have hthm := (chargerCheck_changes (m' := 0xce3defff) (by rfl) (pcFault_changes 222 0 (by rfl) (.refl _ v))).thm rfl
  exact ⟨_, hexec, h1, h2, hthm⟩

theorem storeRateCheck_calm (h : ∀ r, storeRise s = some r → r < 16 * (setting s P.storeRateMax : Int))
    (hst : s.chg.rateStop = false) : exec .storeRateCheck s = .next s := by
  have hany (p : Int → Bool) (hp : ∀ r, r < 16 * (setting s P.storeRateMax : Int) → p r = false) : (storeRise s).any p = false := by
    cases hr : storeRise s with
    | none => rfl
    | some r => exact hp r (h r hr)
  have h1 := hany (fun r => decide (16 * (setting s P.storeRateMax : Int) ≤ r)) fun r hr => decide_eq_false (by omega)
  have h2 := hany (fun r => decide (16 * (setting s P.storeRateMax : Int) < r)) fun r hr => decide_eq_false (by omega)
  change execStoreRateCheck s = _
  unfold execStoreRateCheck
  split
  · rfl
  · simp only [h1, h2, hst, Bool.false_and, if_false, Bool.false_eq_true]

/-! ### The analog limits and the thermal shutdown (R401 to R405) -/

theorem pairActive_drivePair_of (h : s.sel.pairs.length = 7) {p : PairId} (q : PairId) (ha : pairActive p s = true) :
    pairActive p (drivePair q true s) = true := by
  by_cases hpq : p = q
  · rw [hpq]
    exact pairActive_drivePair h q
  · rw [pairActive, drivePair, pairAt_setPair h, if_neg hpq, ← pairActive, ha]

/-- The engine's reaction to a source of its own releases no pair (R416). -/
theorem engineReact_active (h : s.sel.pairs.length = 7) (n : Nat) {p : PairId} (ha : pairActive p s = true) :
    pairActive p (engineReact n s) = true := by
  unfold engineReact
  split
  · exact pairActive_drivePair_of h _ ha
  split
  · exact pairActive_drivePair_of h _ ha
  split
  · exact pairActive_drivePair_of (s := { s with vlt := _ }) h _ ha
  · exact ha

theorem engineFault_active (h : s.sel.pairs.length = 7) (n d : Nat) {p : PairId} (ha : pairActive p s = true) :
    pairActive p (engineFault n d s) = true := by
  have hk (f : Frame) (v : State) (hv : v.sel = s.sel) : pairActive p (engineReact n (sendFrame .engine f v)) = true := by
    have hsel := (sendFrame_changes .engine f (m' := 0x4c000000) rfl (.refl _ v)).sel rfl
    have hall : (sendFrame .engine f v).sel = s.sel := hsel.trans hv
    exact engineReact_active (by rw [hall, h]) n ((pairActive_congr (by rw [hall]) p).trans ha)
  unfold engineFault
  dsimp only
  split
  · exact hk _ _ rfl
  split
  · exact ha
  · exact hk _ _ rfl

theorem analogLimit_trips (hg : (domAt 2 s).good = true) (ht : s.flt.analogTrip = false) (hs : Sound s) :
    ∃ t, exec (.engineAnalogLimit true) s = .next t ∧ t.flt.analogTrip = true ∧ t.thm = s.thm ∧
      pairActive .belaye t = true ∧ 64 ∈ t.flt.engineLive ∧ t.cache = s.cache := by
  let v : State := { s with flt := { s.flt with analogTrip := true } }
  let w : State := drivePair .belaye true v
  have hexec : exec (.engineAnalogLimit true) s = .next (engineFault 64 0 w) := by
    change execEngineAnalogLimit true s = _
    unfold execEngineAnalogLimit
    rw [if_neg (by simp [hg]), if_pos rfl, if_neg (by simp [ht])]
  have hc : Changes 0x4c0c0020 w (engineFault 64 0 w) := engineFault_changes 64 0 (.self _) (.refl _ w)
  have hv : v.sel.pairs.length = 7 := hs.pairs
  have hw : w.sel.pairs.length = 7 := by
    change (s.sel.pairs.modify _ _).length = 7
    rw [List.length_modify, hs.pairs]
  obtain ⟨_, _, hflt⟩ := engineFault_flt 64 0 w
  exact ⟨_, hexec, by rw [hflt]; rfl, hc.thm rfl, engineFault_active hw 64 0 (pairActive_drivePair hv .belaye),
    mem_engineLive_engineFault 0 (by decide), hc.cache rfl⟩

theorem analogLimit_ends (hg : (domAt 2 s).good = true) (ht : s.flt.analogTrip = true) (hs : Sound s)
    (hf : (pairAt .belaye s).frozen = false) (hl : ∀ n ∈ s.flt.engineLive, n = 64) (hb : tfind s.flt.engineBroken 64 = none) :
    ∃ t, exec (.engineAnalogLimit false) s = .next t ∧ t.flt.analogTrip = false ∧ t.thm = s.thm ∧ pairActive .belaye t = false := by
  let v : State := { s with flt := { s.flt with analogTrip := false } }
  let w : State := engineClear 64 v
  have hexec : exec (.engineAnalogLimit false) s = .next (drivePair .belaye (w.flt.engineLive.any (fun n => sevOf n w = 4)) w) := by
    change execEngineAnalogLimit false s = _
    unfold execEngineAnalogLimit
    rw [if_neg (by simp [hg]), if_neg (by decide), if_pos ht]
  have hc : Changes 0x4c040000 v w := engineClear_changes 64 (.self _) (.refl _ v)
  have hflt : w.flt.analogTrip = false ∧ ∀ n ∈ w.flt.engineLive, n = 64 := by
    change (engineClear 64 v).flt.analogTrip = false ∧ ∀ n ∈ (engineClear 64 v).flt.engineLive, n = 64
    unfold engineClear
    split
    · rw [sendFrame_flt]
      exact ⟨rfl, fun n hn => hl n (List.mem_of_mem_filter hn)⟩
    · exact ⟨rfl, hl⟩
  have hnot : 64 ∉ w.flt.engineLive := not_mem_engineLive_engineClear (s := v) hb
  have hnone : w.flt.engineLive.any (fun n => sevOf n w = 4) = false := by
    rw [List.any_eq_false]
    intro n hn
    exact absurd (hflt.2 n hn ▸ hn) hnot
  rw [hnone] at hexec
  refine ⟨_, hexec, hflt.1, hc.thm rfl, ?_⟩
  have hpairs : w.sel.pairs.length = 7 := (congrArg (fun x : SelSt => x.pairs.length) (hc.sel rfl)).trans hs.pairs
  have hpair : pairAt .belaye w = pairAt .belaye s := by rw [pairAt, hc.sel rfl, pairAt]
  rw [pairActive, drivePair, pairAt_setPair hpairs, if_pos rfl, hpair]
  simp [hf]

/-- A source at S4 outside a capacity exercise puts the chipset in belay (R416, R431). -/
theorem pcFault_belay {n : Nat} (d : Nat) (hp : present n = true) (hf : (srcAt n s).frozen = false) (hin : inFault (srcAt n s) = false)
    (hx : exercising s = false) (hsh : shadowed n s = false) (h4 : sevOf n s = 4) :
    ∃ w, pcFault n d s = enterBelay n w ∧ SourcesOnly s w := by
  have hcode := entryCode_sourcesOnly n s
  have hu : SourcesOnly s (noted n 4 d (entryCode n s)) := hcode.trans (noted_sourcesOnly ..)
  have hsev : sevOf n (entryCode n s) = 4 := (hcode.sevOf_eq n).trans h4
  refine ⟨_, ?_, hu⟩
  have h := enterFault_reacts (n := n) (s := entryCode n s) d ((hcode.shadowed_eq n).trans hsh) (by rw [takenSev, hsev]; rfl)
  rw [pcFault_reacts d hp hf hin hx, h, hsev, takeReaction, if_pos rfl]

/-- What both stages of the thermal shutdown do: the steward halted, the charger stopped and belay entered (R404, R405). -/
theorem haltPower_belay {n : Nat} (hp : present n = true) (h4 : sevOf n s = 4) (hin : inFault (srcAt n s) = false)
    (hf : (srcAt n s).frozen = false) (hsh : shadowed n s = false) (hx : exercising s = false) (hb : s.flt.belay = false)
    (hpairs : s.sel.pairs.length = 7) :
    (pcFault n 0 (haltPower s)).thm = s.thm ∧ (pcFault n 0 (haltPower s)).efl = s.efl ∧ (pcFault n 0 (haltPower s)).cell.bleed = [] ∧
    (pcFault n 0 (haltPower s)).chg.st = .off ∧ (pcFault n 0 (haltPower s)).flt.stewardHalted = true ∧
    (pcFault n 0 (haltPower s)).flt.belay = true ∧ (pcFault n 0 (haltPower s)).flt.belayCause = n := by
  have hhalt : (haltPower s).cell.bleed = [] := rfl
  have hc : Changes 0xce3defff (haltPower s) (pcFault n 0 (haltPower s)) := pcFault_changes n 0 (.self _) (.refl _ _)
  have hh := pcFault_halted n 0 (haltPower s)
  obtain ⟨w, heq, hw⟩ := pcFault_belay (s := haltPower s) 0 hp hf hin hx hsh h4
  have hwb : w.flt.belay = false := by
    obtain ⟨_, _, _, _, h⟩ := hw.flt
    rw [h]
    exact hb
  have hwp : w.sel.pairs.length = 7 := (congrArg (fun x : SelSt => x.pairs.length) (hw.changes.sel rfl)).trans hpairs
  obtain ⟨hbel, hcause, -, -⟩ := enterBelay_effects n hwb
  obtain ⟨_, -, -, -, hoff, -, -, -⟩ := enterBelay_drives n hwb hwp
  have hcell : Changes 0x43d2217 w (enterBelay n w) := enterBelay_changes n (.self _) (.refl _ w)
  refine ⟨hc.thm rfl, hc.efl rfl, ?_, ?_, hh, ?_, ?_⟩
  · rw [heq, hcell.cell rfl, hw.changes.cell rfl, hhalt]
  · rw [heq, hoff]
  · rw [heq, hbel]
  · rw [heq, hcause]

/-- The same of a state that differs in the thermal registers, embedded flash and the free bits drawn. -/
theorem haltPower_belay_of {n : Nat} {v : State} (hv : Changes 0x80420000 s v) (hp : present n = true) (h4 : sevOf n s = 4)
    (hin : inFault (srcAt n s) = false) (hf : (srcAt n s).frozen = false) (hsh : shadowed n s = false) (hx : exercising s = false)
    (hb : s.flt.belay = false) (hpairs : s.sel.pairs.length = 7) :
    (pcFault n 0 (haltPower v)).thm = v.thm ∧ (pcFault n 0 (haltPower v)).efl = v.efl ∧ (pcFault n 0 (haltPower v)).cell.bleed = [] ∧
    (pcFault n 0 (haltPower v)).chg.st = .off ∧ (pcFault n 0 (haltPower v)).flt.stewardHalted = true ∧
    (pcFault n 0 (haltPower v)).flt.belay = true ∧ (pcFault n 0 (haltPower v)).flt.belayCause = n := by
  have hflt : v.flt = s.flt := hv.flt rfl
  have hsrc (m : Nat) : srcAt m v = srcAt m s := srcAt_congr (by rw [hflt]) m
  refine haltPower_belay hp ?_ (by rw [hsrc, hin]) (by rw [hsrc, hf]) ?_ ?_ (by rw [hflt, hb]) (by rw [hv.sel rfl, hpairs])
  · rw [sevOf_congr (hv.drf rfl) (by rw [hsrc]), h4]
  · rw [shadowed_congr (hv.drf rfl) (by rw [hflt]) (fun m => by rw [hsrc]), hsh]
  · rw [exercising_congr (hv.chg rfl), hx]

theorem stageOne_belay {m : Int} (hk : s.pwr.keeper = true) (h1 : s.thm.stage1 = false) (hz : zoneMax 3 s = some m) (hm : 2320 ≤ m)
    (h4 : sevOf 227 s = 4) (hin : inFault (srcAt 227 s) = false) (hf : (srcAt 227 s).frozen = false)
    (hsh : shadowed 227 s = false) (hx : exercising s = false) (hb : s.flt.belay = false) (hs : Sound s) :
    ∃ u, exec .thermalStageOne s = .next u ∧ u.thm = { s.thm with stage1 := true, count1 := satAdd 255 s.thm.count1 1 } ∧
      u.cell.bleed = [] ∧ u.chg.st = .off ∧ u.flt.stewardHalted = true ∧ u.flt.belay = true ∧ u.flt.belayCause = 227 := by
  let a : State := { s with thm := { s.thm with stage1 := true, count1 := satAdd 255 s.thm.count1 1 } }
  let b : State := suspendErase false a
  obtain ⟨v, hv, hexec⟩ : ∃ v, Changes 0x400000 a v ∧ exec .thermalStageOne s = .next (pcFault 227 0 (haltPower v)) := by
    have hb : Changes 0x400000 a b := suspendErase_changes false (.self _) (.refl _ a)
    refine ⟨match b.efl.op with | some (.program w d) => completeProgram w d b | _ => b, ?_, ?_⟩
    · split
      · exact completeProgram_changes _ _ (.self _) hb
      · exact hb
    · change execThermalStageOne s = _
      unfold execThermalStageOne
      rw [hz]
      dsimp only
      exact if_neg (by simp [hk, h1, hm])
  have hthm : Changes 0x80420000 s a := Changes.put_thm (x := a.thm) rfl (fun h => ⟨h.zones, h.sensors⟩) (.refl _ s)
  have hsv : Changes 0x80420000 s v := hthm.trans (hv.mono (by rfl))
  obtain ⟨ht, -, hrest⟩ := haltPower_belay_of hsv (by decide) h4 hin hf hsh hx hb hs.pairs
  exact ⟨_, hexec, ht.trans (hv.thm rfl), hrest⟩

theorem cutOperation_op (s : State) : (cutOperation s).efl.op = none := by
  unfold cutOperation
  split
  · rfl
  · rfl
  next h => exact h

theorem stageTwo_belay (hk : s.pwr.keeper = true) (h2 : s.thm.stage2Tripped = false)
    (h4 : sevOf 228 s = 4) (hin : inFault (srcAt 228 s) = false) (hf : (srcAt 228 s).frozen = false)
    (hsh : shadowed 228 s = false) (hx : exercising s = false) (hb : s.flt.belay = false) (hs : Sound s) :
    ∃ u, exec (.thermalStageTwo true) s = .next u ∧ u.thm = { s.thm with
        stage2 := true, stage2Tripped := true, count2 := satAdd 255 s.thm.count2 1 } ∧
      u.efl.op = none ∧ u.flt.stewardHalted = true ∧ u.flt.belay = true ∧ u.flt.belayCause = 228 := by
  let a : State := { s with thm := { s.thm with stage2 := true, stage2Tripped := true, count2 := satAdd 255 s.thm.count2 1 } }
  have hexec : exec (.thermalStageTwo true) s = .next (pcFault 228 0 (haltPower (cutOperation a))) := by
    change execThermalStageTwo true s = _
    unfold execThermalStageTwo
    rw [if_neg (by simp [hk]), if_neg (by decide), if_neg (by simp [h2])]
  have hv : Changes 0x80400000 a (cutOperation a) := cutOperation_changes (.self _) (.refl _ a)
  have hthm : Changes 0x80420000 s a := Changes.put_thm (x := a.thm) rfl (fun h => ⟨h.zones, h.sensors⟩) (.refl _ s)
  have hsv : Changes 0x80420000 s (cutOperation a) := hthm.trans (hv.mono (by rfl))
  obtain ⟨ht, hop, -, -, hrest⟩ := haltPower_belay_of hsv (by decide) h4 hin hf hsh hx hb hs.pairs
  exact ⟨_, hexec, ht.trans (hv.thm rfl), by rw [hop, cutOperation_op], hrest⟩

theorem stageTwo_released (hk : s.pwr.keeper = true) :
    exec (.thermalStageTwo false) s = .next { s with thm := { s.thm with stage2Tripped := false } } := by
  change execThermalStageTwo false s = _
  unfold execThermalStageTwo
  rw [if_neg (by simp [hk]), if_pos (by decide)]

/-- The end of the thermal shutdown is belay's end and a chipset warm reset (R405). -/
theorem thermalShutdown_ends {m : Int} (hk : s.pwr.keeper = true) (hst : s.thm.stage1 = true ∨ s.thm.stage2 = true)
    (ht : s.thm.stage2Tripped = false) (hz : zoneMax 3 s = some m) (hm : m < 1920) :
    ∃ u, exec .thermalShutdownExit s = .next u ∧ u.thm.stage1 = false ∧ u.thm.stage2 = false ∧ u.flt.belay = false ∧
      u.flt.stewardHalted = false ∧ u.warm.kind = .chipset ∧ u.warm.step = 3 := by
  let a : State := { s with thm := { s.thm with stage1 := false, stage2 := false }, flt := { s.flt with stewardHalted := false } }
  let b : State := pcClear 227 (pcClear 228 a)
  have hb : Changes 0xce3defff a b := pcClear_changes 227 (.self _) (pcClear_changes 228 (.self _) (.refl _ a))
  have hhalt : b.flt.stewardHalted = false := by
    change (pcClear 227 (pcClear 228 a)).flt.stewardHalted = false
    rw [pcClear_halted, pcClear_halted]
  obtain ⟨hkind, hstep⟩ := beginWarm_warm b
  have hw : Changes 0xce380c3d b (beginWarm .chipset b) := beginWarm_changes _ (.self _) (.refl _ b)
  have hl (v : State) : Changes 0xc0000 v (leaveBelay v) ∧ (leaveBelay v).flt.belay = false ∧
      (leaveBelay v).flt.stewardHalted = v.flt.stewardHalted := ⟨leaveBelay_changes (.self _) (.refl _ v), rfl, rfl⟩
  have ho (v : State) : (vaultOver { v with restore := { v.restore with afterVault := false } }).thm = v.thm ∧
      (vaultOver { v with restore := { v.restore with afterVault := false } }).flt = v.flt ∧
      (vaultOver { v with restore := { v.restore with afterVault := false } }).warm = { v.warm with confirmed := none } := ⟨rfl, rfl, rfl⟩
  have hreq (v : State) : requestWarm .thermalExit true v = beginWarm .chipset v := by
    unfold requestWarm
    exact if_pos rfl
  have hexec : exec .thermalShutdownExit s = .next (vaultOver { leaveBelay (beginWarm .chipset b) with
      restore := { (leaveBelay (beginWarm .chipset b)).restore with afterVault := false } }) := by
    change execThermalShutdownExit s = _
    unfold execThermalShutdownExit
    rw [hz]
    dsimp only
    rw [if_neg (by rcases hst with h | h <;> simp [hk, h, ht, hm])]
    exact congrArg (fun x => Host.Outcome.next (vaultOver { leaveBelay x with restore := { (leaveBelay x).restore with afterVault := false } }))
      (hreq b)
  obtain ⟨hc, hbelay, hhl⟩ := hl (beginWarm .chipset b)
  obtain ⟨hothm, hoflt, howarm⟩ := ho (leaveBelay (beginWarm .chipset b))
  have hthm : (leaveBelay (beginWarm .chipset b)).thm = a.thm := (hc.thm rfl).trans ((hw.thm rfl).trans (hb.thm rfl))
  refine ⟨_, hexec, by rw [hothm, hthm], by rw [hothm, hthm], by rw [hoflt, hbelay], ?_, ?_, ?_⟩
  · rw [hoflt, hhl, hw.flt rfl, hhalt]
  · rw [howarm, hc.warm rfl, hkind]
  · rw [howarm, hc.warm rfl, hstep]

end Zones

/-- Settles O48. -/
theorem zonesFollowThresholds : Obligations.ZonesFollowThresholds := by
  refine ⟨⟨fun s z w a b hk hl hz hh hs => ⟨fun hf hb => ?_, fun hf hr hb => ?_, fun hf hb => ?_, fun hf => ?_⟩,
    fun s z n r hk ha hz hzn hn hr hlim ho hs => thmRateCheck_sets hk ha hz hzn hn hr hlim ho hs,
    fun s r hk ha hr hlim hc => storeRateCheck_stops hk ha hr hlim hc, fun s h hst => storeRateCheck_calm h hst⟩,
    fun s hg ht hs => analogLimit_trips hg ht hs, fun s hg ht hs hf hl hb => analogLimit_ends hg ht hs hf hl hb,
    fun s m hk h1 hz hm h4 hin hf hsh hx hb hs => stageOne_belay hk h1 hz hm h4 hin hf hsh hx hb hs,
    fun s hk h2 h4 hin hf hsh hx hb hs => stageTwo_belay hk h2 h4 hin hf hsh hx hb hs, fun s hk => stageTwo_released hk,
    fun s m hk hst ht hz hm => thermalShutdown_ends hk hst ht hz hm⟩
  · obtain ⟨t, hexec, h⟩ := thmHold_warn hk hl hz hh hs hf hb
    exact ⟨t, hexec, h.self, h.others, h.sensors⟩
  · obtain ⟨t, hexec, h⟩ := thmHold_throttle hk hl hz hh hs hf hr hb
    exact ⟨t, hexec, h.self, h.others, h.sensors⟩
  · obtain ⟨t, hexec, h, hv⟩ := thmHold_vault hk hl hz hh hs hf hb
    exact ⟨t, hexec, h.self, h.others, hv⟩
  · obtain ⟨t, hexec, h⟩ := thmHold_rate hk hl hz hh hs hf
    exact ⟨t, hexec, h.self, h.others⟩

end Sys2Proof.Machine

/-! PROOFS. The vault's drain: the fence manifest, the granules in drain order, the log's copy, the final knot and the end of HOLD
(05_vault.md, The fence manifest to After the final knot). -/

namespace Sys2Proof.Machine

section Drain
variable {s t u v : State} {g : Nat} {reads : CopyReads}

/-! ### Reading a granule that is still to be drained (R164; log entry 49) -/

theorem takeAgain_of_mem (h : g ∈ s.drain.left) : takeAgain g s = s := by
  rw [takeAgain, if_neg (by simp [h])]

/-- A granule that is still to be drained is not taken again: a read of a line of it leaves the drain as it is. -/
theorem lineRead_drain {line : Nat} (x : Burst) (a b : CopyRead) (h : line / 64 ∈ s.drain.left) :
    (lineRead line x a b s).drain = s.drain := by
  have hf (n d : Nat) (v : State) : (engineFault n d v).drain = v.drain := (engineFault_changes n d (.self _) (.refl _ v)).drain rfl
  have hag (v : State) (hv : v.drain = s.drain) : (takeAgain (line / 64) v).drain = s.drain := by
    rw [takeAgain_of_mem (by rwa [hv]), hv]
  have hp (m : BitVec 64) (k : PSource) (v : State) : (poisonLines (line / 64) m k v).drain = v.drain :=
    (poisonLines_changes _ m k (.self _) (.refl _ v)).drain rfl
  have hset (e : Entry) (v : State) : (setEntry (line / 64) e v).drain = v.drain := (setEntry_changes _ e (.self _) (.refl _ v)).drain rfl
  have hcopy (c : List Host.Cell × BitVec 64) (v : State) : (placeCopy (line / 64) c v).drain = v.drain :=
    (placeCopy_changes _ c (.self _) (.refl _ v)).drain rfl
  unfold lineRead lineEcc
  cases eccOf (byEight s) x with
  | ok => rfl
  | corrected => exact (countCe_changes line (.self _) (.refl _ s)).drain rfl
  | uncorrectable =>
    dsimp only
    have hcount : (countUe line s).drain = s.drain := (countUe_changes line (.self _) (.refl _ s)).drain rfl
    have hue : (ueDirty line (countUe line s)).drain = s.drain := by
      unfold ueDirty
      dsimp only
      rw [hf]
      split
      · exact hag _ ((hset _ _).trans ((hp _ _ _).trans hcount))
      · exact (hp _ _ _).trans hcount
    have hclean : (repairClean line a b (countUe line s)).drain = s.drain := by
      unfold repairClean
      dsimp only
      split
      · rw [hf]
        exact hag _ ((hset _ _).trans ((hp _ _ _).trans hcount))
      next l _ =>
        have hr : (readCopies l a b (countUe line s)).2.2.drain = s.drain :=
          ((readCopies_changes l a b (.self _) (.refl _ _)).drain rfl).trans hcount
        split
        · rw [hf]
          exact (hcopy _ _).trans hr
        · rw [hf, hf]
          exact hag _ ((hset _ _).trans ((hcopy _ _).trans hr))
        · rw [hf, hf]
          exact hag _ ((hset _ _).trans ((hp _ _ _).trans hr))
    cases (entryOf (line / 64) (countUe line s)).st with
    | clean => exact hclean
    | dirty => exact hue
    | staging => exact hue
    | restorePending => exact (hf _ _ _).trans hcount
    | zero => exact (hf _ _ _).trans hcount

theorem granuleRead_drain (reads : CopyReads) (h : g ∈ s.drain.left) : (granuleRead reads g s).drain = s.drain := by
  have hl (l : List (Nat × Burst)) (hg : ∀ e ∈ l, e.1 / 64 = g) (v : State) (hv : v.drain = s.drain) :
      (l.foldl (fun s e => lineRead e.1 e.2 reads.a reads.b s) v).drain = s.drain := by
    induction l generalizing v with
    | nil => exact hv
    | cons e l ih =>
      refine ih (fun x hx => hg x (List.mem_cons_of_mem _ hx)) _ ?_
      rw [lineRead_drain _ _ _ (by rw [hg e List.mem_cons_self, hv]; exact h), hv]
  exact hl _ (fun e he => of_decide_eq_true (List.mem_filter.1 he).2) s rfl

/-! ### The granules of one drain epoch (R163 to R165) -/

/-- The granules of an epoch are the next in drain order. -/
theorem drainSegment_prefix (s : State) (l : List Nat) (c : Nat) : drainSegment s c l <+: l := by
  induction l generalizing c with
  | nil => exact List.prefix_rfl
  | cons g l ih =>
    unfold drainSegment
    dsimp only
    generalize (if isDuplex s (boltOf s g) then 2 else 1) = k
    split
    · exact List.nil_prefix
    · exact (List.prefix_cons_inj g).2 (ih _)

/-- The copies that a list of granules takes (R138). -/
def copiesOfList (s : State) (l : List Nat) : Nat := (l.map (fun g => if isDuplex s (boltOf s g) then 2 else 1)).sum

theorem copiesOfList_drainSegment (s : State) (l : List Nat) {c : Nat} (h : c ≤ 16384) :
    c + copiesOfList s (drainSegment s c l) ≤ 16384 := by
  induction l generalizing c with
  | nil => exact h
  | cons g l ih =>
    unfold drainSegment
    dsimp only
    have hk (k : Nat) (hk : k = if isDuplex s (boltOf s g) then 2 else 1) : c + copiesOfList s
        (if 16384 < c + k || (entryOf g s).pending then [] else g :: drainSegment s (c + k) l) ≤ 16384 := by
      split
      · exact h
      next hc =>
        simp only [Bool.or_eq_true, decide_eq_true_eq, not_or, not_lt] at hc
        have := ih hc.1
        rw [copiesOfList] at this
        rw [copiesOfList, List.map_cons, List.sum_cons, ← hk]
        omega
    exact hk _ rfl

/-- The epoch of a drain selection that has taken the granules `l`, seen from the state before it. -/
structure Draining (s : State) (l : List Nat) (t : State) (e : Epoch) : Prop where
  changes : Changes 0xce0c007b s t
  drain : t.drain = s.drain
  only : t.stg.epochs = [e]
  num : e.num = s.stg.nextEpoch
  kind : e.kind = .drain
  opened : e.closed = none
  units : e.todo.map (·.index) = l
  copies : e.copies = copiesOfList s l

/-- A granule taken is the epoch's next unit (R164). -/
theorem takeGranule_draining {l : List Nat} {e : Epoch} (h : Draining s l t e) (hg : g ∈ s.drain.left) :
    ∃ x, Draining s (l ++ [g]) (takeGranule e.num .drain reads g t) x := by
  have hread {v : State} (hv : Changes 0xce0c006b t v ∧ v.drain = t.drain) :
      Changes 0xce0c006b t (granuleRead reads g v) ∧ (granuleRead reads g v).drain = t.drain :=
    ⟨granuleRead_changes _ _ (by rfl) hv.1, (granuleRead_drain reads (by rwa [hv.2, h.drain])).trans hv.2⟩
  unfold takeGranule
  extract_lets clean a b c
  have ha : Changes 0xce0c006b t a ∧ a.drain = t.drain := by
    unfold a
    split
    · exact hread ⟨.refl _ t, rfl⟩
    · exact ⟨.refl _ t, rfl⟩
  have hb : Changes 0xce0c006b t b ∧ b.drain = t.drain := by
    unfold b
    split
    · exact ⟨setEntry_changes _ _ (by rfl) ha.1, ((setEntry_changes _ _ (.self _) (.refl _ a)).drain rfl).trans ha.2⟩
    · exact ha
  have hc : Changes 0xce0c006b t c ∧ c.drain = t.drain := by
    unfold c
    split
    · exact hb
    · exact hread hb
  have hdrf : c.drf = s.drf := (hc.1.drf rfl).trans (h.changes.drf rfl)
  have hone : c.stg.epochs = [e] := by rw [hc.1.stg rfl, h.only]
  have hk : copiesOf (granuleUnit g .drain c) = if isDuplex s (boltOf s g) then 2 else 1 := by
    rw [copiesOf_granuleUnit, boltOf_congr hdrf, isDuplex_congr hdrf]
  refine ⟨_, schedule_changes _ _ (by rfl) (h.changes.trans (hc.1.mono (by rfl))), hc.2.trans h.drain, modEpoch_only hone, h.num, h.kind,
    h.opened, ?_, ?_⟩
  · dsimp only
    rw [List.map_append, h.units]
    rfl
  · dsimp only
    rw [hk, h.copies, copiesOfList, copiesOfList, List.map_append, List.sum_append]
    rfl

theorem takeAll_draining (l : List Nat) {k : List Nat} {e : Epoch} (h : Draining s k t e) (hl : ∀ g ∈ l, g ∈ s.drain.left) :
    ∃ x, Draining s (k ++ l) (l.foldl (fun s g => takeGranule e.num .drain reads g s) t) x := by
  induction l generalizing k t e with
  | nil => exact ⟨e, by rwa [List.append_nil]⟩
  | cons g l ih =>
    obtain ⟨x, hx⟩ := takeGranule_draining (reads := reads) h (hl g List.mem_cons_self)
    obtain ⟨y, hy⟩ := ih hx (fun a ha => hl a (List.mem_cons_of_mem _ ha))
    refine ⟨y, ?_⟩
    rw [List.foldl_cons]
    rw [hx.num, ← h.num, List.append_assoc] at hy
    exact hy

/-- Without ECC errors a granule taken is DIRTY no more, and no other granule becomes it. -/
theorem takeGranule_clears (n : Nat) (a b : CopyRead) (g h : Nat) (hh : h = g ∨ (entryOf h s).st ≠ .dirty) :
    (entryOf h (takeGranule n .drain { bursts := [], a := a, b := b } g s)).st ≠ .dirty := by
  have hs (u : State) (k : NandUnit) : entryOf h (schedule n k u) = entryOf h u := rfl
  unfold takeGranule
  simp only [granuleRead_nil, ite_self, hs]
  split
  next hd =>
    by_cases hg : h = g
    · rw [hg, entryOf_setEntry_same (by decide)]
      decide
    · rw [entryOf, setEntry_map, tget_tput_ne_of_value_ne_default (by decide) hg]
      exact hh.resolve_left hg
  next hd =>
    rcases hh with rfl | hh
    · exact hd
    · exact hh

theorem takeAll_clears (n : Nat) (a b : CopyRead) (l : List Nat) (s : State) (h : Nat) (hh : h ∈ l ∨ (entryOf h s).st ≠ .dirty) :
    (entryOf h (l.foldl (fun s g => takeGranule n .drain { bursts := [], a := a, b := b } g s) s)).st ≠ .dirty := by
  induction l generalizing s with
  | nil => exact hh.resolve_left List.not_mem_nil
  | cons g l ih =>
    refine ih _ ?_
    by_cases hl : h ∈ l
    · exact .inl hl
    · refine .inr (takeGranule_clears n a b g h ?_)
      rcases hh with hh | hh
      · exact .inl ((List.mem_cons.1 hh).resolve_right hl)
      · exact .inr hh

theorem takeAll_nil (n : Nat) (a b : CopyRead) (l : List Nat) (s : State) :
    Changes 0x11 s (l.foldl (fun s g => takeGranule n .drain { bursts := [], a := a, b := b } g s) s) := by
  induction l generalizing s with
  | nil => exact .refl _ s
  | cons g l ih =>
    refine Changes.trans ?_ (ih _)
    unfold takeGranule
    simp only [granuleRead_nil, ite_self]
    refine schedule_changes _ _ (by rfl) ?_
    split
    · exact setEntry_changes _ _ (by rfl) (.refl _ s)
    · exact .refl _ s

/-! ### A new epoch where none stands (R140) -/

theorem openNew_first (kind : KnotKind) (h : s.stg.epochs = []) (hn : s.stg.nextEpoch < 2 ^ 48 - 2) :
    openNew kind s = { s with stg := { s.stg with
      epochs := [{ num := s.stg.nextEpoch, kind := kind, opened := engineNow s }], nextEpoch := s.stg.nextEpoch + 1 } } := by
  rw [openNew, if_neg (by simp [openEpoch, unresolved, h]), if_neg (by omega), h]
  rfl

theorem closeEpoch_only {e : Epoch} (h : s.stg.epochs = [e]) :
    (closeEpoch e.num s).stg.epochs = [{ e with closed := some (e.closed.getD (engineNow s)) }] := modEpoch_only h

theorem openEpoch_only {e : Epoch} (h : s.stg.epochs = [e]) (hc : e.closed = none) : openEpoch s = some e := by
  simp [openEpoch, h, hc]

/-! ### MANIFEST_BUILD (R154, R155) -/

theorem manifestBuild_names {l : List Nat} (hrun : engineRuns s = true) (hst : s.vlt.state = .fenced) (he : s.stg.epochs = [])
    (hm : s.drain.manifest = some l) (hn : s.stg.nextEpoch < 2 ^ 48 - 2) :
    ∃ t e, exec .manifestBuild s = .next t ∧ t.stg.epochs = [e] ∧ e.kind = .manifest ∧ e.num = s.stg.nextEpoch ∧
      e.closed = some (engineNow s) ∧ e.todo.length = (capGranules s + 32767) / 32768 ∧
      (∀ g < capGranules s, g ∈ l ↔ ∃ u ∈ e.todo, ∃ m, u.data = .manifest m ∧ g ∈ m) ∧ t.cache = s.cache ∧ t.dram = s.dram := by
  let x : Epoch := { num := s.stg.nextEpoch, kind := .manifest, opened := engineNow s }
  let v : State := { s with stg := { s.stg with epochs := [x], nextEpoch := s.stg.nextEpoch + 1 } }
  let unit (j : Nat) : NandUnit :=
    { index := classIndex 0 j, bolt := 63, kind := .metadata, dup := true, data := .manifest (l.filter (fun g => g / 32768 = j)) }
  let units := (List.range (divUp (capGranules s) 32768)).map unit
  let w : State := modEpoch x.num (fun e => { e with todo := units, copies := 2 * units.length }) v
  let x' : Epoch := { x with todo := units, copies := 2 * units.length }
  have hw : w.stg.epochs = [x'] := modEpoch_only (e := x) rfl
  have hexec : exec .manifestBuild s = .next (closeEpoch x.num w) := by
    change execManifestBuild s = _
    rw [execManifestBuild, if_pos (by simp [hrun, hst, he, hm]), scheduleManifest, openNew_first _ he hn]
    change Host.Outcome.next (match openEpoch v, s.drain.manifest with | some e, some l => _ | _, _ => _) = _
    rw [openEpoch_only (e := x) rfl rfl, hm] <;> rfl
  refine ⟨_, _, hexec, closeEpoch_only (e := x') hw, rfl, rfl, rfl, ?_, fun g hg => ⟨fun hgl => ?_, ?_⟩, rfl, rfl⟩
  · change ((List.range (divUp (capGranules s) 32768)).map unit).length = _
    rw [List.length_map, List.length_range]
    rfl
  · have hj : g / 32768 < divUp (capGranules s) 32768 := by
      change g / 32768 < (capGranules s + 32767) / 32768
      omega
    exact ⟨unit (g / 32768), List.mem_map.2 ⟨_, List.mem_range.2 hj, rfl⟩, _, rfl, List.mem_filter.2 ⟨hgl, by simp⟩⟩
  · rintro ⟨u, hu, m, hdata, hgm⟩
    obtain ⟨j, -, rfl⟩ := List.mem_map.1 hu
    injection hdata with hdata
    rw [← hdata] at hgm
    exact List.mem_of_mem_filter hgm

/-! ### DRAIN_SELECT (R163 to R167) -/

/-- What a selection of the drain leaves to be drained: the log's copy is asked for where nothing is. -/
theorem askSnapshot_keeps (s : State) : Changes 0x4c000040 s (askSnapshot s) ∧ (askSnapshot s).drain.left = s.drain.left := by
  unfold askSnapshot
  have hd (v : State) : (sendFrame .engine .logRequest v).drain = v.drain :=
    (sendFrame_changes _ _ (m' := 0x4c000000) rfl (.refl _ v)).drain rfl
  refine ⟨sendFrame_changes _ _ (by rfl) (Changes.put_drain rfl (.refl _ s)), ?_⟩
  rw [hd]

theorem drainSelect_takes (reads : CopyReads) (hrun : engineRuns s = true) (hst : s.vlt.state = .drain) (he : s.stg.epochs = [])
    (hl : s.drain.left ≠ []) (hp : ∀ g, s.drain.left.head? = some g → (entryOf g s).pending = false)
    (hn : s.stg.nextEpoch < 2 ^ 48 - 2) :
    ∃ t e, exec (.drainSelect reads) s = .next t ∧ t.stg.epochs = [e] ∧ e.kind = .drain ∧ e.num = s.stg.nextEpoch ∧
      e.closed = some (engineNow s) ∧ e.todo.map (·.index) = s.drain.left.take e.todo.length ∧ 0 < e.todo.length ∧
      t.drain.left = (s.drain.left.take e.todo.length).filter (fun g => (entryOf g t).st = .dirty) ++
        s.drain.left.drop e.todo.length ∧ e.copies ≤ 16384 ∧
      (reads.bursts = [] → t.drain.left = s.drain.left.drop e.todo.length ∧ t.dram = s.dram) := by
  let seg := drainSegment s 0 s.drain.left
  obtain ⟨rest, hrest⟩ : seg <+: s.drain.left := drainSegment_prefix s _ 0
  have hmem : ∀ g ∈ seg, g ∈ s.drain.left := fun g hg => hrest ▸ List.mem_append_left _ hg
  have htake : s.drain.left.take seg.length = seg := by rw [← hrest, List.take_left]
  have hpos : 0 < seg.length := by
    obtain ⟨g, l, hgl⟩ := List.exists_cons_of_ne_nil hl
    have hg := hp g (by rw [hgl]; rfl)
    have hk (k : Nat) (hk : k ≤ 2) :
        0 < (if 16384 < 0 + k || (entryOf g s).pending then [] else g :: drainSegment s (0 + k) l).length := by
      rw [if_neg (by simp [hg]; omega)]
      exact Nat.succ_pos _
    change 0 < (drainSegment s 0 s.drain.left).length
    rw [hgl]
    unfold drainSegment
    exact hk _ (by split <;> omega)
  let x : Epoch := { num := s.stg.nextEpoch, kind := .drain, opened := engineNow s }
  let v : State := { s with stg := { s.stg with epochs := [x], nextEpoch := s.stg.nextEpoch + 1 } }
  have hv : Draining s [] v x := ⟨Changes.put_stg (by rfl) (.refl _ s), rfl, rfl, rfl, rfl, rfl, rfl, rfl⟩
  obtain ⟨e, hw⟩ := takeAll_draining (reads := reads) seg hv hmem
  let w : State := seg.foldl (fun s g => takeGranule x.num .drain reads g s) v
  let last := seg.getLast?.map (fun g => (boltOf w g, g))
  let y : State := closeEpoch x.num (modEpoch x.num (fun e => { e with last := last }) w)
  let again := seg.filter (fun g => (entryOf g y).st = .dirty)
  let z : State := { y with drain := { y.drain with left := again ++ y.drain.left.drop seg.length } }
  have hexec : exec (.drainSelect reads) s = .next (if z.drain.left.isEmpty && z.drain.stage = .none then askSnapshot z else z) := by
    change execDrainSelect reads s = _
    unfold execDrainSelect
    rw [if_neg (by simp [hrun, hst, he]), if_pos (by simpa using hl), selectDrain]
    have hne : seg.isEmpty = false := by
      rw [List.isEmpty_eq_false_iff]
      exact List.ne_nil_of_length_pos hpos
    change Host.Outcome.next (if seg.isEmpty then s else _) = _
    rw [hne, if_neg (by simp), openNew_first _ he hn]
    change Host.Outcome.next (match openEpoch v with | none => v | some e => _) = _
    rw [openEpoch_only (e := x) rfl rfl]
  obtain ⟨fin, hfin, hstg, hleft, hcache, hdram⟩ : ∃ fin, (if z.drain.left.isEmpty && z.drain.stage = .none then askSnapshot z else z) = fin ∧
      fin.stg = z.stg ∧ fin.drain.left = z.drain.left ∧ fin.cache = z.cache ∧ fin.dram = z.dram := by
    obtain ⟨hc, hk⟩ := askSnapshot_keeps z
    split
    · exact ⟨_, rfl, hc.stg rfl, hk, hc.cache rfl, hc.dram rfl⟩
    · exact ⟨_, rfl, rfl, rfl, rfl, rfl⟩
  rw [hfin] at hexec
  have hnum : e.num = x.num := hw.num
  have hmod : (modEpoch x.num (fun e => { e with last := last }) w).stg.epochs = [{ e with last := last }] := by
    rw [← hnum]
    exact modEpoch_only hw.only
  have hnow (n : Nat) (f : Epoch → Epoch) : engineNow (modEpoch n f w) = engineNow s := engineNow_congr (hw.changes.tbs rfl)
  have hepochs : fin.stg.epochs = [{ e with last := last, closed := some (engineNow s) }] := by
    rw [hstg]
    change (closeEpoch x.num _).stg.epochs = _
    rw [← hnum]
    refine (closeEpoch_only (e := { e with last := last }) (hnum ▸ hmod)).trans ?_
    dsimp only
    rw [hw.opened, Option.getD_none]
    rw [hnow]
  have hlen : e.todo.length = seg.length := by rw [← List.length_map (f := (·.index)), hw.units]; rfl
  have hzleft : z.drain.left = again ++ s.drain.left.drop seg.length := by
    change again ++ w.drain.left.drop seg.length = _
    rw [show w.drain = s.drain from hw.drain]
  have hentry (g : Nat) : entryOf g fin = entryOf g w := by rw [entryOf, hcache]; rfl
  refine ⟨fin, _, hexec, hepochs, hw.kind, hw.num, rfl, ?_, ?_, ?_, ?_, fun hb => ?_⟩
  · rw [hlen, htake]
    exact hw.units
  · rw [hlen]
    exact hpos
  · rw [hlen, htake, hleft, hzleft]
    simp only [hentry]
    rfl
  · change e.copies ≤ 16384
    rw [hw.copies]
    have := copiesOfList_drainSegment s s.drain.left (c := 0) (by omega)
    rwa [Nat.zero_add] at this
  · obtain ⟨bursts, a, b⟩ := reads
    subst hb
    have hagain : again = [] := by
      refine List.filter_eq_nil_iff.2 fun g hg => ?_
      have hclear : (entryOf g y).st ≠ .dirty := takeAll_clears x.num a b seg v g (.inl hg)
      simpa using hclear
    refine ⟨by rw [hlen, hleft, hzleft, hagain, List.nil_append], ?_⟩
    rw [hdram]
    exact (takeAll_nil x.num a b seg v).dram rfl

/-! ### LOG_SNAPSHOT_DONE (R168, R169) -/

theorem systemSlices_length (s : State) : (systemSlices s).length = 290 := by
  simp [systemSlices]

theorem logSnapshot_taken (h : s.drain.stage = .asked) :
    ∃ t, exec (.logSnapshotDone true) s = .next t ∧ t.drain.mirror = ringSlots s ∧ t.drain.stage = .system ∧
      t.drain.sysLeft.length = 290 ∧ t.vlt = s.vlt ∧ t.cache = s.cache ∧ t.stg = s.stg := by
  have hexec : exec (.logSnapshotDone true) s = execLogSnapshotDone true s := rfl
  rw [execLogSnapshotDone, if_pos h] at hexec
  simp only [if_true] at hexec
  generalize hv : logEvent _ _ _ _ = v at hexec
  have hc : Changes 0x4 { s with drain := { s.drain with mirror := ringSlots s } } v := hv ▸ logEvent_changes _ _ _ (.self _) (.refl _ _)
  have hd : v.drain = { s.drain with mirror := ringSlots s } := hc.drain rfl
  have hm : v.drain.mirror = ringSlots s := by rw [hd]
  exact ⟨_, hexec, hm, rfl, systemSlices_length v, hc.vlt rfl, hc.cache rfl, hc.stg rfl⟩

theorem logSnapshot_stale (h : s.drain.stage = .asked) :
    ∃ t, exec (.logSnapshotDone false) s = .next t ∧ t.drain.mirror = s.drain.mirror ∧ t.vlt.logStale = true ∧
      t.drain.stage = .system ∧ t.drain.sysLeft.length = 290 ∧ t.cache = s.cache := by
  have hexec : exec (.logSnapshotDone false) s = execLogSnapshotDone false s := rfl
  rw [execLogSnapshotDone, if_pos h] at hexec
  exact ⟨_, hexec, rfl, rfl, rfl, systemSlices_length _, rfl⟩

/-! ### HOLD ends in OFF (R177, R178) -/

theorem enterOff_off (s : State) :
    (enterOff s).vlt.state = .off ∧ (enterOff s).restore.st = .idle ∧ Changes 0x4c3422b3 s (enterOff s) := by
  have hb (v : State) : Changes 0x4342213 v (beginOff [5, 4, 3, 2, 1, 0] v) := beginOff_changes _ (.self _) (.refl _ v)
  have hv (v : State) : Changes 0xce080c20 v (setVault .off v) := setVault_changes .off (by rfl) (.refl _ v)
  let v : State := { s with
    pwr := { s.pwr with bootOwed := false }, restore := { s.restore with st := .idle, loading := [] }
    warm := { s.warm with kind := .none, step := 0, coldBoot := false } }
  refine ⟨?_, ?_, enterOff_changes (.self _) (.refl _ s)⟩
  · rw [enterOff, (hb _).vlt rfl, setVault_state]
  · rw [enterOff, (hb _).restore rfl, (hv _).restore rfl]

theorem holdMax_ends (h : s.vlt.state = .hold) (hm : setting s P.holdMax ≠ 0) (hk : s.warm.kind = .none) :
    ∃ t, exec .holdMaxExpiry s = .next t ∧ t.vlt.state = .off ∧ t.restore.st = .idle ∧ t.nand = s.nand ∧ t.efl = s.efl := by
  have hexec : exec .holdMaxExpiry s = execHoldMaxExpiry s := rfl
  rw [execHoldMaxExpiry, if_pos (by simp [h, hm, hk])] at hexec
  obtain ⟨hst, hr, hc⟩ := enterOff_off s
  exact ⟨_, hexec, hst, hr, hc.nand rfl, hc.efl rfl⟩

theorem holdMax_none (h : setting s P.holdMax = 0) : exec .holdMaxExpiry s = .next s := by
  change execHoldMaxExpiry s = _
  rw [execHoldMaxExpiry, if_neg (by simp [h])]

theorem storeFloor_ends (hk : s.pwr.keeper = true) (h : s.vlt.state = .hold) (hw : s.warm.kind = .none) :
    ∃ t, exec .storeFloorReached s = .next t ∧ t.vlt.state = .off ∧ t.cell.floor = true ∧ t.nand = s.nand := by
  have hexec : exec .storeFloorReached s = execStoreFloorReached s := rfl
  rw [execStoreFloorReached, if_neg (by simp [hk])] at hexec
  dsimp only at hexec
  rw [if_pos (by simp [h, hw])] at hexec
  obtain ⟨hst, -, hc⟩ := enterOff_off { s with cell := { s.cell with floor := true } }
  exact ⟨_, hexec, hst, by rw [hc.cell rfl], hc.nand rfl⟩

theorem storeFloor_opens (hk : s.pwr.keeper = true) (h : s.vlt.state = .off) : exec .storeFloorReached s = .next { s with
    cell := { s.cell with floor := true }, pwr := { s.pwr with huMode := .opened, huChecking := false } } := by
  change execStoreFloorReached s = _
  rw [execStoreFloorReached, if_neg (by simp [hk])]
  dsimp only
  rw [if_neg (by simp [h]), if_pos h]
  rfl

/-! ### FINAL_KNOT_PROGRAM (R170 to R173) -/

theorem programPage_knots (p type epoch : Nat) (units : List NandUnit) (a b c : Bool) (q : Option Nat) (s : State) :
    (programPage p type epoch units a b c q s).nand.knots = s.nand.knots := by
  have hblock (b : Nat) (f : Block → Block) (s : State) : (modBlock b f s).nand.knots = s.nand.knots := rfl
  have hopen : (openBlock p s).nand.knots = s.nand.knots := by
    unfold openBlock
    dsimp only
    rw [hblock]
    split
    · rfl
    · rfl
  have honfi : (onfiPslc (ptrTarget p) (.pageProgram p) (openBlock p s)).nand = (openBlock p s).nand :=
    (onfiPslc_changes _ _ (m' := 0x40000000) (by rfl) (.refl _ _)).nand rfl
  have hsample (x y : Nat) (v : State) : (sampleFree x y v).nand = v.nand :=
    (sampleFree_changes x y (m' := 0x82000000) (by rfl) (.refl _ v)).nand rfl
  unfold programPage
  extract_lets u
  rw [hsample]
  exact (congrArg NandSt.knots honfi).trans hopen

theorem programKnot_passes (e : Epoch) (body : KnotBody) (p q : Nat) (s : State) : ∃ k : KnotRec,
    (programKnot e body p q .pass .pass s).nand.knots = k :: s.nand.knots ∧ k.toKnotBody = body ∧ k.slot = slotAddr p 0 ∧
    k.slotB = slotAddr q 0 ∧ k.key = s.lcs.keyId ∧ k.readA = true ∧ k.readB = true := by
  have hkey : (programKnot e body p q .pass .pass s).lcs = s.lcs := (programKnot_changes _ _ _ _ _ _ (m' := 0xc2000018) (by rfl) (.refl _ s)).lcs rfl
  have hrec (p : Nat) (body : KnotBody) (d c : Bool) (q : Nat) (v : State) :
      (recordProgram p .pass 2 e.num (knotUnits body) d c e.reprogram q v).nand.knots = v.nand.knots := programPage_knots ..
  have hmove (p : Nat) (x : Option Nat) (v : State) : (moveFrontier p x v).nand.knots = v.nand.knots := by
    cases x <;> rfl
  unfold programKnot
  extract_lets dup a b c d k
  refine ⟨k, ?_, rfl, rfl, rfl, (show k.key = (programKnot e body p q .pass .pass s).lcs.keyId from rfl).trans (by rw [hkey]), rfl, rfl⟩
  change k :: d.nand.knots = _
  have hc : c.nand.knots = s.nand.knots := by
    unfold c
    rw [if_neg (by simp)]
    exact (hrec ..).trans (hrec ..)
  have hd : d.nand.knots = c.nand.knots := by
    unfold d
    split
    · exact hmove ..
    · exact (hmove ..).trans (hmove ..)
  rw [hd, hc]

theorem programFinal_passes (e : Epoch) (p q : Nat) (h : s.drain.finalBody = none) : ∃ k : KnotRec,
    (programFinal e p q .pass .pass s).nand.knots = k :: s.nand.knots ∧ k.toKnotBody = knotBody e s ∧ k.slot = slotAddr p 0 ∧
    k.slotB = slotAddr q 0 ∧ Changes 0xc2000058 s (programFinal e p q .pass .pass s) := by
  let body := knotBody e s
  let v : State := { s with drain := { s.drain with
    finalBlocks := ptrBlock p :: ptrBlock q :: s.drain.finalBlocks, finalBody := some body } }
  have heq : programFinal e p q .pass .pass s = programKnot e body p q .pass .pass v := by
    unfold programFinal
    rw [h]
    exact if_pos rfl
  have hc : Changes 0xc2000058 v (programKnot e body p q .pass .pass v) := programKnot_changes _ _ _ _ _ _ (by rfl) (.refl _ v)
  obtain ⟨k, hk, hbody, hslot, hslotB, -⟩ := programKnot_passes e body p q v
  rw [heq]
  exact ⟨k, hk, hbody, hslot, hslotB, (Changes.put_drain (by rfl) (.refl _ s)).trans hc⟩

theorem finalKnot_writes {p q : Nat} (hrun : shuttlesRun s = true) (hst : s.vlt.state = .knot) (he : s.stg.epochs = [])
    (hstage : s.drain.stage = .checkpoint) (hl : s.drain.sysLeft = []) (hk : s.drain.ckptKnot ≠ none)
    (hn : s.stg.nextEpoch < 2 ^ 48 - 2) (hp : recordPages s.stg.nextEpoch p q [] s = true) :
    ∃ t k, exec (.finalKnotProgram p q .pass .pass) s = .next t ∧ t.nand.knots = k :: s.nand.knots ∧ k.kind = .final ∧
      k.epoch = s.stg.nextEpoch ∧ k.slot = 4 * p ∧ k.slotB = 4 * q ∧ k.prev = s.stg.lastKnot ∧ k.vault = s.vlt.number ∧
      (∃ m h y z f n, k.kindData = .final m (s.drain.ckptKnot.getD 0) h y z f n) ∧ t.vlt = s.vlt ∧ t.cache = s.cache := by
  obtain ⟨c, hc⟩ := Option.ne_none_iff_exists'.1 hk
  let x : Epoch := { num := s.stg.nextEpoch, kind := .final, opened := engineNow s }
  let v : State := { s with stg := { s.stg with epochs := [x], nextEpoch := s.stg.nextEpoch + 1 } }
  let w : State := closeEpoch x.num { v with drain := { v.drain with finalBlocks := [], finalBody := none, stage := .final } }
  let y : Epoch := { x with closed := some (engineNow s) }
  have hw : w.stg.epochs = [y] := closeEpoch_only (e := x) rfl
  have hexec : exec (.finalKnotProgram p q .pass .pass) s = .next (programFinal y p q .pass .pass w) := by
    change execFinalKnotProgram p q .pass .pass s = _
    unfold execFinalKnotProgram
    rw [if_neg (by simp [hrun, hst]), he]
    dsimp only
    rw [if_pos (by simp [hstage, hl, hc, hp]), openNew_first _ he hn]
    change (match openEpoch v with | some e => _ | none => Host.Outcome.next v) = _
    rw [openEpoch_only (e := x) rfl rfl]
    change (match w.stg.epochs.find? (fun e => decide (e.num = x.num)) with
      | some e => Host.Outcome.next (programFinal e p q .pass .pass w) | none => .next w) = _
    rw [hw, List.find?_cons_of_pos (by exact decide_eq_true rfl)]
  obtain ⟨k, hknots, hbody, hslot, hslotB, hch⟩ := programFinal_passes (s := w) y p q rfl
  have hdata : kindDataOf y w = .final (s.drain.manifestKnot.getD (2 ^ 42 - 1)) (s.drain.ckptKnot.getD (2 ^ 42 - 1))
      (s.drain.headerSlot.getD (2 ^ 42 - 1)) (s.drain.mirrorSlot.getD (2 ^ 42 - 1)) (s.drain.poisonSlot.getD (2 ^ 42 - 1))
      (b01 s.vlt.logStale + 2 * b01 s.vlt.manifestRebuilt + 4 * b01 s.cache.overflow +
        (s.vlt.retired.map (fun c => 2 ^ (16 + c))).sum) (poisonEntries w) := rfl
  refine ⟨_, k, hexec, hknots, by rw [hbody]; rfl, by rw [hbody]; rfl, hslot, hslotB, by rw [hbody]; rfl, by rw [hbody]; rfl, ?_,
    hch.vlt rfl, hch.cache rfl⟩
  have hkd : k.kindData = kindDataOf y w := by
    rw [hbody]
    rfl
  rw [hkd, hdata, hc]
  exact ⟨_, _, _, _, _, _, rfl⟩

end Drain

/-- Settles O27. -/
theorem drainFollowsManifest : Obligations.DrainFollowsManifest :=
  ⟨⟨fun _ _ hrun hst he hm hn => manifestBuild_names hrun hst he hm hn,
    fun _ reads hrun hst he hl hp hn => drainSelect_takes reads hrun hst he hl hp hn,
    fun _ h => logSnapshot_taken h, fun _ h => logSnapshot_stale h⟩,
  fun _ _ _ hrun hst he hstage hl hk hn hp => finalKnot_writes hrun hst he hstage hl hk hn hp,
  fun _ h hm hk => holdMax_ends h hm hk, fun _ hk h hw => storeFloor_ends hk h hw, fun _ hk h => storeFloor_opens hk h,
  fun _ h => holdMax_none h⟩

end Sys2Proof.Machine

/-! PROOFS. Blocks of the flash: erases and root records, the choice of garbage collection and the spare rule
(06_flash_image_format.md, Wear, bad blocks and retirement to Reserve, spare capacity and STORE_DEGRADED). -/

namespace Sys2Proof.Machine

section Blocks
variable {s t u : State} {b x tg : Nat}

/-! ### Blocks of which none is due for retirement (R218, R219) -/

theorem mem_of_tfind {α : Type} {l : Table α} {n : Nat} {v : α} (h : tfind l n = some v) : (n, v) ∈ l := by
  induction l with
  | nil => exact absurd h (by simp [tfind])
  | cons e l ih =>
    obtain ⟨k, w⟩ := e
    rw [tfind] at h
    split at h
    next hn =>
      injection h with h
      rw [hn, h]
      exact List.mem_cons_self
    · split at h
      · exact absurd h (by simp)
      · exact List.mem_cons_of_mem _ (ih h)

theorem mem_tins {α : Type} {l : Table α} {n : Nat} {v : α} {e : Nat × α} (h : e ∈ tins n v l) : e = (n, v) ∨ e ∈ l := by
  induction l with
  | nil => exact .inl (List.mem_singleton.1 h)
  | cons a l ih =>
    obtain ⟨k, w⟩ := a
    rw [tins] at h
    split at h
    · exact List.mem_cons.1 h
    split at h
    · exact (List.mem_cons.1 h).imp_right (List.mem_cons_of_mem _)
    · rcases List.mem_cons.1 h with h | h
      · exact .inr (h ▸ List.mem_cons_self)
      · exact (ih h).imp_right (List.mem_cons_of_mem _)

/-- A block that is neither failed nor worn, nor near its bound of cycles. -/
def Fit (c : Nat) (x : Block) : Prop := x.failed = false ∧ x.worn = false ∧ x.pe < c

/-- No block is due for retirement: none that is listed, and none of those that are not. -/
structure Sturdy (s : State) : Prop where
  fresh : ∀ x, wornFresh x s = false
  blocks : ∀ e ∈ s.nand.blocks, Fit (setting s P.pslcCycles) e.2

theorem Sturdy.blockAt (h : Sturdy s) (b : Nat) : Fit (setting s P.pslcCycles) (blockAt b s) := by
  unfold Machine.blockAt
  split
  next x hx => exact h.blocks _ (mem_of_tfind hx)
  next =>
    have hf := h.fresh (blockTarget b)
    refine ⟨rfl, hf, ?_⟩
    rw [wornFresh, decide_eq_false_iff_not, Nat.not_le] at hf
    exact hf

theorem Sturdy.of_eq (h : Sturdy s) (hb : t.nand.blocks = s.nand.blocks) (hf : ∀ x, (targetAt x t).fresh = (targetAt x s).fresh)
    (hd : t.drf = s.drf) : Sturdy t := by
  refine ⟨fun x => ?_, fun e he => ?_⟩
  · rw [wornFresh, setting_congr hd, hf, ← wornFresh, h.fresh]
  · rw [setting_congr hd]
    exact h.blocks e (hb ▸ he)

theorem modBlock_sturdy (h : Sturdy s) {f : Block → Block} (hf : Fit (setting s P.pslcCycles) (f (blockAt b s))) : Sturdy (modBlock b f s) :=
  ⟨h.fresh, fun e he => (mem_tins he).elim (fun he => by rw [he]; exact hf) (h.blocks e)⟩

/-- No block is due for retirement but those that a knot still to come may name (R218). -/
structure Spared (s : State) : Prop where
  fresh : ∀ x, wornFresh x s = false
  blocks : ∀ e ∈ s.nand.blocks, e.2.worn = false ∧ e.2.pe < setting s P.pslcCycles ∧ (e.2.failed = true → provisionalIn e.1 s = true)

theorem Sturdy.spared (h : Sturdy s) : Spared s := by
  refine ⟨h.fresh, fun e he => ?_⟩
  obtain ⟨hf, hw, hpe⟩ := h.blocks e he
  exact ⟨hw, hpe, fun h => absurd h (by rw [hf]; decide)⟩

/-- Nothing is retired where nothing is due. -/
theorem retireBlocks_of_spared (h : Spared s) : retireBlocks s = s := by
  have hmap : s.nand.blocks.map (fun e =>
      (e.1, if setting s P.pslcCycles ≤ e.2.pe then { e.2 with worn := true } else e.2)) = s.nand.blocks := by
    refine (List.map_congr_left fun e he => ?_).trans (List.map_id _)
    obtain ⟨-, hpe, -⟩ := h.blocks e he
    rw [if_neg (by omega)]
    rfl
  have hdue : enterRetired s = s := by
    have hnone : s.nand.blocks.filter (fun e => (e.2.failed || e.2.worn) && targetWorks (blockTarget e.1) s &&
        !blockLive e.1 s && !provisionalIn e.1 s &&
        !((targetAt (blockTarget e.1) s).bbt.any (fun x => x.2 = e.1 % 2 ^ 21))) = [] := by
      refine List.filter_eq_nil_iff.2 fun e he => ?_
      obtain ⟨hw, -, hf⟩ := h.blocks e he
      cases hfail : e.2.failed with
      | false => simp [hw]
      | true => simp [hf hfail]
    have hworn : wornBlocks s = [] := by
      have : (List.range 96).filter (fun t => targetWorks t s && wornFresh t s) = [] :=
        List.filter_eq_nil_iff.2 fun x _ => by simp [h.fresh x]
      rw [wornBlocks, this, List.flatMap_nil]
    unfold enterRetired
    dsimp only
    rw [hworn, List.foldl_nil, hnone, List.foldl_nil]
  unfold retireBlocks
  dsimp only
  rw [hmap]
  change (if !nandOpen s || decide ((enterRetired s).nand.targets = s.nand.targets) then s else spareCheck (enterRetired s)) = s
  rw [hdue, if_pos (by simp)]

theorem retireBlocks_of_sturdy (h : Sturdy s) : retireBlocks s = s := retireBlocks_of_spared h.spared

/-! ### SPARE_CAPACITY_CHECK (R231, R232) -/

theorem spareCheck_keeps (hsp : 5 * unshedBytes s + 2 ^ 32 ≤ 2 * spareBytes s) (hr : s.nand.reassess = false) : spareCheck s = s := by
  unfold spareCheck
  split
  · rfl
  have hre : reassessStore s = s := by rw [reassessStore, if_pos (by simp [hr])]
  dsimp only
  rw [hre, if_pos (by rw [decide_eq_true hsp, Bool.or_true])]

theorem mem_insertSorted_of_mem {n m : Nat} {l : List Nat} (h : m ∈ l) : m ∈ insertSorted n l := by
  induction l with
  | nil => exact absurd h List.not_mem_nil
  | cons k l ih =>
    rw [insertSorted]
    split
    · exact List.mem_cons_of_mem _ h
    split
    · exact h
    · rcases List.mem_cons.1 h with rfl | h
      · exact List.mem_cons_self
      · exact List.mem_cons_of_mem _ (ih h)

theorem lt_of_mem_drainBolts {n : Nat} (h : n ∈ drainBolts s) : n < 63 := by
  obtain ⟨p, -, hp⟩ := List.mem_flatMap.1 h
  exact List.mem_range.1 (List.mem_of_mem_filter hp)

/-- The bolts of the 63 that still accept. -/
def unshed (s : State) : List Nat := (List.range 63).filter (fun n => !s.nand.shed.contains n)

/-- A shed of bolts keeps those shed, and ends with the spare rule met or every bolt shed. -/
theorem shedBolts_sheds (k : Nat) (s : State) (hk : (unshed s).length ≤ k) :
    (∀ n ∈ s.nand.shed, n ∈ (shedBolts k s).nand.shed) ∧
    (5 * unshedBytes (shedBolts k s) + 2 ^ 32 ≤ 2 * spareBytes (shedBolts k s) ∨
      ∀ n ∈ drainBolts (shedBolts k s), n ∈ (shedBolts k s).nand.shed) ∧
    (shedBolts k s).nand.degraded = s.nand.degraded ∧ (shedBolts k s).cache = s.cache ∧ (shedBolts k s).dram = s.dram := by
  induction k generalizing s with
  | zero =>
    refine ⟨fun n hn => hn, .inr fun n hn => ?_, rfl, rfl, rfl⟩
    have hnil : unshed s = [] := List.length_eq_zero_iff.1 (by omega)
    have hs := List.filter_eq_nil_iff.1 hnil n (List.mem_range.2 (lt_of_mem_drainBolts hn))
    change n ∈ s.nand.shed
    simpa using hs
  | succ k ih =>
    unfold shedBolts
    split
    next h => exact ⟨fun n hn => hn, .inl (of_decide_eq_true h), rfl, rfl, rfl⟩
    next h =>
      split
      next hnone =>
        refine ⟨fun n hn => hn, .inr fun n hn => ?_, rfl, rfl, rfl⟩
        have := List.filter_eq_nil_iff.1 (List.getLast?_eq_none_iff.1 hnone) n hn
        simpa using this
      next n hn =>
        extract_lets v
        have hv : Changes 0x40000c00 s v := msix_changes 6 (by rfl) (postEvent_changes _ _ _ _ (by rfl) (.refl _ s))
        have hnand : v.nand = s.nand := hv.nand rfl
        obtain ⟨hdb, hns⟩ := List.mem_filter.1 (List.mem_of_getLast? hn)
        let w : State := { v with nand := { v.nand with shed := insertSorted n v.nand.shed, shedding := insertSorted n v.nand.shedding } }
        have hshed : w.nand.shed = insertSorted n s.nand.shed := by
          change insertSorted n v.nand.shed = _
          rw [hnand]
        have hsub : ∀ m, m ∈ unshed w → m ∈ (unshed s).erase n := by
          intro m hm
          obtain ⟨hr, hm⟩ := List.mem_filter.1 hm
          rw [hshed] at hm
          have hmn : m ∉ insertSorted n s.nand.shed := by simpa using hm
          refine (List.mem_erase_of_ne ?_).2 (List.mem_filter.2 ⟨hr, ?_⟩)
          · rintro rfl
            exact hmn (mem_insertSorted _ _)
          · have : m ∉ s.nand.shed := fun h => hmn (mem_insertSorted_of_mem h)
            simpa using this
        have hlen : (unshed w).length ≤ k := by
          have hnd : (unshed w).Nodup := List.nodup_range.filter _
          have h1 := (hnd.subperm hsub).length_le
          have hin : n ∈ unshed s := List.mem_filter.2 ⟨List.mem_range.2 (lt_of_mem_drainBolts hdb), hns⟩
          rw [List.length_erase_of_mem hin] at h1
          omega
        obtain ⟨hkeep, hend, hdeg, hcache, hdram⟩ := ih w hlen
        refine ⟨fun m hm => hkeep m (by rw [hshed]; exact mem_insertSorted_of_mem hm), hend, ?_, ?_, ?_⟩
        · rw [hdeg]
          change v.nand.degraded = _
          rw [hnand]
        · rw [hcache]
          exact hv.cache rfl
        · rw [hdram]
          exact hv.dram rfl

theorem spareCheck_sheds (ha : s.drf.active ≠ none) (hsp : ¬ 5 * unshedBytes s + 2 ^ 32 ≤ 2 * spareBytes s)
    (hr : s.nand.reassess = false) (hd : discoveryDone s = true) (hm : s.restore.mapKnown = true) :
    (spareCheck s).nand.degraded = true ∧ (∀ n ∈ s.nand.shed, n ∈ (spareCheck s).nand.shed) ∧
    (5 * unshedBytes (spareCheck s) + 2 ^ 32 ≤ 2 * spareBytes (spareCheck s) ∨ ∀ n ∈ drainBolts (spareCheck s), n ∈ (spareCheck s).nand.shed) ∧
    (spareCheck s).cache = s.cache ∧ (spareCheck s).dram = s.dram := by
  have hlen (u : State) : (unshed u).length ≤ 63 := (List.length_filter_le _ _).trans (by rw [List.length_range])
  have hre : reassessStore s = s := by rw [reassessStore, if_pos (by simp [hr])]
  obtain ⟨u, hu, hdeg, hshed, hcache, hdram⟩ : ∃ u, spareCheck s = shedBolts 63 u ∧ u.nand.degraded = true ∧
      u.nand.shed = s.nand.shed ∧ u.cache = s.cache ∧ u.dram = s.dram := by
    unfold spareCheck
    rw [if_neg (by simp [hd, hm])]
    dsimp only
    rw [hre, if_neg (by rw [decide_eq_false hsp, Bool.or_false]; simpa using ha)]
    split
    next h => exact ⟨s, rfl, h, rfl, rfl, rfl⟩
    next =>
      have hc (v : State) : Changes 0x4c0c0c20 v (engineFault 19 0 (msix 6 (postEvent 1 3 0xFF [spareBytes s / 2 ^ 20] v))) :=
        engineFault_changes 19 0 (by rfl) (msix_changes 6 (by rfl) (postEvent_changes _ _ _ _ (by rfl) (.refl _ v)))
      obtain hv := hc { s with nand := { s.nand with degraded := true } }
      have hnand := hv.nand rfl
      exact ⟨_, rfl, by rw [hnand], by rw [hnand], hv.cache rfl, hv.dram rfl⟩
  obtain ⟨hkeep, hend, hdeg', hcache', hdram'⟩ := shedBolts_sheds 63 u (hlen u)
  rw [hu]
  exact ⟨hdeg'.trans hdeg, fun n hn => hkeep n (by rw [hshed]; exact hn), hend, hcache'.trans hcache, hdram'.trans hdram⟩

/-! ### Programs and erases of a target's blocks (R205, R216) -/

/-- What programs leave of the targets: their counts, and that no block is due for retirement. -/
structure Programmed (s t : State) : Prop where
  up : keysUp none t.nand.targets = true
  target : ∀ x, (targetAt x t).erases = (targetAt x s).erases ∧ (targetAt x t).fresh = (targetAt x s).fresh ∧
    (targetAt x t).bbt = (targetAt x s).bbt
  sturdy : Sturdy s → Sturdy t

theorem Programmed.refl (h : keysUp none s.nand.targets = true) : Programmed s s := ⟨h, fun _ => ⟨rfl, rfl, rfl⟩, id⟩

theorem Programmed.trans (h : Programmed s t) (k : Programmed t u) : Programmed s u where
  up := k.up
  target x := by
    obtain ⟨he, hf, hb⟩ := h.target x
    obtain ⟨ke, kf, kb⟩ := k.target x
    exact ⟨ke.trans he, kf.trans hf, kb.trans hb⟩
  sturdy hs := k.sturdy (h.sturdy hs)

theorem Programmed.of_eq (h : keysUp none s.nand.targets = true) (ht : t.nand.targets = s.nand.targets) (hb : t.nand.blocks = s.nand.blocks)
    (hd : t.drf = s.drf) : Programmed s t := by
  have hat (x : Nat) : targetAt x t = targetAt x s := by rw [targetAt, ht, ← targetAt]
  exact ⟨by rwa [ht], fun x => by rw [hat]; exact ⟨rfl, rfl, rfl⟩, fun hs => hs.of_eq hb (fun x => by rw [hat]) hd⟩

theorem modTarget_keepsUp (h : keysUp none s.nand.targets = true) (n : Nat) (f : Target → Target) :
    keysUp none (modTarget n f s).nand.targets = true := keysUp_tmod _ _ f h

theorem modTarget_programmed (h : keysUp none s.nand.targets = true) {f : Target → Target}
    (hf : ∀ x, (f x).erases = x.erases ∧ (f x).fresh = x.fresh ∧ (f x).bbt = x.bbt) (n : Nat) : Programmed s (modTarget n f s) := by
  have hat (x : Nat) : (targetAt x (modTarget n f s)).erases = (targetAt x s).erases ∧
      (targetAt x (modTarget n f s)).fresh = (targetAt x s).fresh ∧ (targetAt x (modTarget n f s)).bbt = (targetAt x s).bbt := by
    rw [targetAt_modTarget h]
    split
    next hx =>
      rw [hx]
      exact hf _
    · exact ⟨rfl, rfl, rfl⟩
  exact ⟨modTarget_keepsUp h n f, hat, fun hs => hs.of_eq rfl (fun x => (hat x).2.1) rfl⟩

theorem modBlock_programmed (h : keysUp none s.nand.targets = true) {f : Block → Block}
    (hf : ∀ x, (f x).failed = x.failed ∧ (f x).worn = x.worn ∧ (f x).pe = x.pe) (b : Nat) : Programmed s (modBlock b f s) :=
  ⟨h, fun _ => ⟨rfl, rfl, rfl⟩, fun hs => modBlock_sturdy hs (by
    obtain ⟨h1, h2, h3⟩ := hf (blockAt b s)
    rw [Fit, h1, h2, h3]
    exact hs.blockAt b)⟩

theorem programPage_programmed (p type epoch : Nat) (units : List NandUnit) (a b c : Bool) (q : Option Nat)
    (h : keysUp none s.nand.targets = true) : Programmed s (programPage p type epoch units a b c q s) := by
  have hopen : Programmed s (openBlock p s) := by
    have hseq : Programmed s (if (blockAt (ptrBlock p) s).next = 0 then
        modBlock (ptrBlock p) (fun x => { x with seq := (targetAt (ptrTarget p)
          (modTarget (ptrTarget p) (fun x => { x with blockSeq := x.blockSeq + 1 }) s)).blockSeq })
          (modTarget (ptrTarget p) (fun x => { x with blockSeq := x.blockSeq + 1 }) s) else s) := by
      split
      · have ht : Programmed s (modTarget (ptrTarget p) (fun x => { x with blockSeq := x.blockSeq + 1 }) s) :=
          modTarget_programmed h (fun _ => by exact ⟨rfl, rfl, rfl⟩) _
        exact ht.trans (modBlock_programmed ht.up (fun _ => by exact ⟨rfl, rfl, rfl⟩) _)
      · exact .refl h
    unfold openBlock
    exact hseq.trans (modBlock_programmed hseq.up (fun _ => by exact ⟨rfl, rfl, rfl⟩) _)
  have honfi (v : State) (hv : keysUp none v.nand.targets = true) : Programmed v (onfiPslc (ptrTarget p) (.pageProgram p) v) := by
    have hc : Changes 0x40000000 v (onfiPslc (ptrTarget p) (.pageProgram p) v) := onfiPslc_changes _ _ (.self _) (.refl _ v)
    exact .of_eq hv (congrArg NandSt.targets (hc.nand rfl)) (congrArg NandSt.blocks (hc.nand rfl)) (hc.drf rfl)
  have hsample (x y : Nat) (v : State) (hv : keysUp none v.nand.targets = true) : Programmed v (sampleFree x y v) := by
    have hc : Changes 0x82000000 v (sampleFree x y v) := sampleFree_changes x y (.self _) (.refl _ v)
    exact .of_eq hv (congrArg NandSt.targets (hc.nand rfl)) (congrArg NandSt.blocks (hc.nand rfl)) (hc.drf rfl)
  have hpages (v : State) (l : Table Page) (m k : List Nat) (hv : keysUp none v.nand.targets = true) :
      Programmed v { v with nand := { v.nand with pages := l, badHeaders := m, badSlots := k } } := .of_eq hv rfl rfl rfl
  have hu := hopen.trans (honfi _ hopen.up)
  unfold programPage
  exact hu.trans ((hpages _ _ _ _ hu.up).trans (hsample _ _ _ hu.up))

theorem programRoot_programmed (b type : Nat) (units : List NandUnit) (h : keysUp none s.nand.targets = true) :
    Programmed s (programRoot b type units s) := by
  have hl (l : List Nat) (f : State → Nat → State) (hf : ∀ v i, keysUp none v.nand.targets = true → Programmed v (f v i))
      (v : State) (hv : keysUp none v.nand.targets = true) : Programmed v (l.foldl f v) := by
    induction l generalizing v with
    | nil => exact .refl hv
    | cons i l ih => exact (hf v i hv).trans (ih _ (hf v i hv).up)
  exact hl _ _ (fun v i hv => by exact programPage_programmed _ _ _ _ _ _ _ _ hv) s h

theorem blockAt_congr (hb : t.nand.blocks = s.nand.blocks) (hf : ∀ x, (targetAt x t).fresh = (targetAt x s).fresh)
    (hd : t.drf = s.drf) (b : Nat) : blockAt b t = blockAt b s := by
  have hw (x : Nat) : wornFresh x t = wornFresh x s := by rw [wornFresh, setting_congr hd, hf, ← wornFresh]
  rw [blockAt, hb, hf, hw, ← blockAt]

theorem blockAt_modBlock (b c : Nat) (f : Block → Block) (s : State) :
    blockAt c (modBlock b f s) = if c = b then f (blockAt b s) else blockAt c s := by
  have ht (x : Nat) : targetAt x (modBlock b f s) = targetAt x s := rfl
  have hw (x : Nat) : wornFresh x (modBlock b f s) = wornFresh x s := rfl
  by_cases hc : c = b
  · rw [blockAt, modBlock_nand, tfind_tins, if_pos hc, if_pos hc]
  · rw [blockAt, modBlock_nand, tfind_tins, if_neg hc, if_neg hc, ht, hw, ← blockAt]

/-- A root block erased counts as the erase of a block that is not due for retirement (R216, R218). -/
theorem eraseRoot_counts (h : keysUp none s.nand.targets = true) (hs : Sturdy s)
    (hb : satAdd 16777215 (blockAt b s).pe 1 < setting s P.pslcCycles) :
    keysUp none (eraseRoot b s).nand.targets = true ∧
    (targetAt (blockTarget b) (eraseRoot b s)).erases = (targetAt (blockTarget b) s).erases + 1 ∧ Sturdy (eraseRoot b s) := by
  obtain ⟨u, hdef, hu⟩ : ∃ u, onfiPslc (blockTarget b) (.blockErase b) s = u ∧ Changes 0x40000000 s u :=
    ⟨_, rfl, onfiPslc_changes _ _ (.self _) (.refl _ s)⟩
  have htn : u.nand.targets = s.nand.targets := by rw [hu.nand rfl]
  have hbn : u.nand.blocks = s.nand.blocks := by rw [hu.nand rfl]
  obtain ⟨v, hvdef, htg, hbl, hd⟩ : ∃ v : State, { u with nand := { u.nand with pages := u.nand.pages.filter (fun e => e.1 / 4096 ≠ b) } } = v ∧
      v.nand.targets = s.nand.targets ∧ v.nand.blocks = s.nand.blocks ∧ v.drf = s.drf :=
    ⟨_, rfl, htn, hbn, hu.drf rfl⟩
  have hat (x : Nat) : targetAt x v = targetAt x s := by rw [targetAt, htg, ← targetAt]
  have hv : Sturdy v := hs.of_eq hbl (fun x => by rw [hat]) hd
  have hfit : Fit (setting v P.pslcCycles) (erasedBlock (blockAt b v) v) := by
    rw [blockAt_congr hbl (fun x => by rw [hat]) hd, erasedBlock, setting_congr hd]
    exact ⟨rfl, decide_eq_false (by omega), hb⟩
  have hup : keysUp none v.nand.targets = true := by rwa [htg]
  have hw : Sturdy (modBlock b (fun x => erasedBlock x v) v) := modBlock_sturdy hv hfit
  have hup' : keysUp none (modBlock b (fun x => erasedBlock x v) v).nand.targets = true := hup
  have hcount := targetAt_modTarget hup' (blockTarget b) (f := fun t => { t with erases := t.erases + 1 })
  have heq : eraseRoot b s = modTarget (blockTarget b) (fun t => { t with erases := t.erases + 1 }) (modBlock b (fun x => erasedBlock x v) v) := by
    rw [← hvdef, ← hdef]
    rfl
  rw [heq]
  refine ⟨modTarget_keepsUp hup' _ _, ?_, hw.of_eq rfl (fun x => ?_) rfl⟩
  · rw [hcount, if_pos rfl]
    exact congrArg (fun x => x.erases + 1) (hat (blockTarget b))
  · rw [hcount]
    split
    next hx => rw [hx]
    · rfl

/-! ### Root records (R216) -/

theorem rootBlocks_congr (h : (targetAt tg t).bbt = (targetAt tg s).bbt) : rootBlocks tg t = rootBlocks tg s := by
  rw [rootBlocks, h, ← rootBlocks]

theorem blockTarget_of_root (h : b ∈ rootBlocks tg s) : blockTarget b = tg := by
  obtain ⟨k, -, rfl⟩ := List.mem_map.1 h
  rw [blockTarget, blockKey]
  omega

theorem nodup_rootBlocks (tg : Nat) (s : State) : (rootBlocks tg s).Nodup := by
  refine List.Nodup.map_on (fun x hx y hy hxy => ?_) ((List.nodup_range.filter _).sublist (List.take_sublist _ _))
  have h8 (z : Nat) (hz : z ∈ ((List.range 8).filter (fun b => !((targetAt tg s).bbt.any (fun e => e.2 = b)))).take 2) : z < 8 :=
    List.mem_range.1 (List.mem_of_mem_filter (List.mem_of_mem_take hz))
  have hx8 := h8 x hx
  have hy8 := h8 y hy
  rw [blockKey, blockKey] at hxy
  omega

/-- With two root blocks, one stands beside any other block. -/
theorem exists_other_root (h : (rootBlocks tg s).length = 2) (y : Nat) :
    ∃ b ∈ rootBlocks tg s, ((rootBlocks tg s).filter (fun b => b ≠ y)).head? = some b := by
  obtain ⟨a, c, hac⟩ := List.length_eq_two.1 h
  have hne : a ≠ c := by
    have hn := nodup_rootBlocks tg s
    rw [hac] at hn
    simpa using hn
  rw [hac]
  by_cases hay : a = y
  · have hcy : c ≠ y := fun hcy => hne (hay.trans hcy.symm)
    exact ⟨c, by simp, by simp [hay, hcy]⟩
  · exact ⟨a, by simp, by simp [hay]⟩

/-- The 64th erase of a target with two root blocks that take a record writes one, and the count begins again. -/
theorem writeRoot_counts (hup : keysUp none s.nand.targets = true) (hs : Sturdy s) (hv : inVault s = false)
    (he : (targetAt tg s).erases = 64) (hr : (rootBlocks tg s).length = 2)
    (hroots : ∀ x ∈ rootBlocks tg s, satAdd 16777215 (blockAt x s).pe 1 < setting s P.pslcCycles ∧ imagePages x s = false) :
    (targetAt tg (writeRoot tg s)).erases ≤ 1 ∧ Sturdy (writeRoot tg s) := by
  have hmod (v : State) (hv : keysUp none v.nand.targets = true) (hvs : Sturdy v) :
      keysUp none (modTarget tg (fun x => { x with erases := x.erases % 64 }) v).nand.targets = true ∧
      (targetAt tg (modTarget tg (fun x => { x with erases := x.erases % 64 }) v)).erases = (targetAt tg v).erases % 64 ∧
      Sturdy (modTarget tg (fun x => { x with erases := x.erases % 64 }) v) := by
    refine ⟨modTarget_keepsUp hv _ _, by rw [targetAt_modTarget hv, if_pos rfl], hvs.of_eq rfl (fun x => ?_) rfl⟩
    rw [targetAt_modTarget hv]
    split
    next hx => rw [hx]
    · rfl
  have hwr (b : Nat) (hb : b ∈ rootBlocks tg s) (n : Nat) : rootWritable b n s = true := by
    rw [rootWritable, (hroots b hb).2, hv, (hs.blockAt b).2.1]
    simp
  have hwrite (b : Nat) (hb : b ∈ rootBlocks tg s) (n : Nat) (units : List NandUnit) :
      (targetAt tg (programRoot b 6 units (modTarget tg (fun x => { x with erases := x.erases % 64 }) (rootRoom b n s)))).erases ≤ 1 ∧
      Sturdy (programRoot b 6 units (modTarget tg (fun x => { x with erases := x.erases % 64 }) (rootRoom b n s))) := by
    obtain ⟨hroomUp, hroomErases, hroom⟩ : keysUp none (rootRoom b n s).nand.targets = true ∧
        (targetAt tg (rootRoom b n s)).erases % 64 ≤ 1 ∧ Sturdy (rootRoom b n s) := by
      unfold rootRoom
      split
      · exact ⟨hup, by omega, hs⟩
      · obtain ⟨h1, h2, h3⟩ := eraseRoot_counts hup hs (hroots b hb).1
        rw [blockTarget_of_root hb, he] at h2
        exact ⟨h1, by omega, h3⟩
    obtain ⟨hup', herases, hsturdy⟩ := hmod _ hroomUp hroom
    have hp := programRoot_programmed b 6 units hup'
    exact ⟨by rw [(hp.target tg).1, herases]; exact hroomErases, hp.sturdy hsturdy⟩
  unfold writeRoot
  cases newestRoot tg [] s with
  | none =>
    obtain ⟨a, c, hac⟩ := List.length_eq_two.1 hr
    have ha : a ∈ rootBlocks tg s := by rw [hac]; simp
    have hhead : (rootBlocks tg s).head? = some a := by rw [hac]; rfl
    dsimp only
    rw [hhead, Option.filter_some, if_pos (hwr a ha _)]
    exact hwrite a ha _ _
  | some x =>
    obtain ⟨a, ha, hhead⟩ := exists_other_root hr (ptrBlock x.1)
    dsimp only
    rw [hhead, Option.filter_some, if_pos (hwr a ha _)]
    exact hwrite a ha _ _

/-! ### BLOCK_ERASE_DONE (R215, R216) -/

/-- A block with its pages erased and its target's count one higher. -/
structure Erased (tg b : Nat) (s t : State) : Prop where
  changes : Changes 0x40000008 s t
  up : keysUp none t.nand.targets = true
  erases : (targetAt tg t).erases = (targetAt tg s).erases + 1
  fresh : ∀ x, (targetAt x t).fresh = (targetAt x s).fresh
  bbt : (targetAt tg t).bbt = (targetAt tg s).bbt
  block : blockAt b t = erasedBlock (blockAt b s) s
  others : ∀ x, x ≠ b → blockAt x t = blockAt x s
  listed : ∀ e ∈ t.nand.blocks, e.2 = erasedBlock (blockAt b s) s ∨ e ∈ s.nand.blocks
  pages : t.nand.pages = s.nand.pages.filter (fun e => e.1 / 4096 ≠ b)

theorem blockErase_erased (hw : targetWorks tg s = true) (hworn : (blockAt (blockKey tg b) s).worn = false)
    (hfail : (blockAt (blockKey tg b) s).failed = false) (ha : s.vlt.state = .armed) (hn : nandOpen s = true)
    (hm : mayErase (blockKey tg b) s = true) (hs : Sound s) : ∃ u, Erased tg (blockKey tg b) s u ∧
    exec (.blockEraseDone tg b .pass) s = .next (retireBlocks (rootIfDue tg u)) := by
  let k := blockKey tg b
  obtain ⟨a, hadef, ha'⟩ : ∃ a, onfiPslc tg (.blockErase k) s = a ∧ Changes 0x40000000 s a :=
    ⟨_, rfl, onfiPslc_changes _ _ (.self _) (.refl _ s)⟩
  have hatg : a.nand.targets = s.nand.targets := by rw [ha'.nand rfl]
  have habl : a.nand.blocks = s.nand.blocks := by rw [ha'.nand rfl]
  have hapg : a.nand.pages.filter (fun e => e.1 / 4096 ≠ k) = s.nand.pages.filter (fun e => e.1 / 4096 ≠ k) := by rw [ha'.nand rfl]
  have hdrop (v : State) : (dropErased v).nand.targets = v.nand.targets ∧ (dropErased v).nand.blocks = v.nand.blocks ∧
      (dropErased v).nand.pages = v.nand.pages ∧ Changes 0x8 v (dropErased v) :=
    ⟨rfl, rfl, rfl, dropErased_changes (.self _) (.refl _ v)⟩
  have hfilter : Changes 0x8 a { a with nand := { a.nand with pages := a.nand.pages.filter (fun e => e.1 / 4096 ≠ k) } } :=
    Changes.put_nand (x := { a.nand with pages := a.nand.pages.filter (fun e => e.1 / 4096 ≠ k) }) rfl
      (fun h => ⟨h.channels, h.targets, h.blocks⟩) (.refl _ a)
  obtain ⟨htg, hbl, hpg, hdc⟩ := hdrop { a with nand := { a.nand with pages := a.nand.pages.filter (fun e => e.1 / 4096 ≠ k) } }
  obtain ⟨c, hcdef, hctg, hcbl, hcpg, hcc⟩ : ∃ c : State, dropErased { a with
        nand := { a.nand with pages := a.nand.pages.filter (fun e => e.1 / 4096 ≠ k) } } = c ∧
      c.nand.targets = s.nand.targets ∧ c.nand.blocks = s.nand.blocks ∧
      c.nand.pages = s.nand.pages.filter (fun e => e.1 / 4096 ≠ k) ∧ Changes 0x40000008 s c :=
    ⟨_, rfl, htg.trans hatg, hbl.trans habl, hpg.trans hapg,
      (ha'.mono (by rfl)).trans ((hfilter.trans hdc).mono (by rfl))⟩
  let v : State := { c with nand := { c.nand with gcBlock := if c.nand.gcBlock = some k then none else c.nand.gcBlock } }
  have hv : Changes 0x40000008 s v := hcc.trans (Changes.put_nand (x := v.nand) rfl (fun h => ⟨h.channels, h.targets, h.blocks⟩) (.refl _ c))
  have hd : v.drf = s.drf := hv.drf rfl
  have hat (x : Nat) : targetAt x v = targetAt x s := by
    change tget {} c.nand.targets x = _
    rw [hctg, ← targetAt]
  have hblk (x : Nat) : blockAt x v = blockAt x s := blockAt_congr (t := v) hcbl (fun x => by rw [hat]) hd x
  have herase (x : Block) : erasedBlock x v = erasedBlock x s := by rw [erasedBlock, setting_congr hd, ← erasedBlock]
  have hup : keysUp none v.nand.targets = true := by
    change keysUp none c.nand.targets = true
    rw [hctg]
    exact hs.nand.targets
  let f (x : Block) : Block := if x.failed then { x with pe := satAdd 16777215 (blockAt k s).pe 1 } else erasedBlock x v
  let w : State := modBlock k f v
  let u : State := modTarget tg (fun t => { t with erases := t.erases + 1 }) w
  have hf : f (blockAt k v) = erasedBlock (blockAt k s) s := by
    change (if (blockAt k v).failed then _ else _) = _
    rw [hblk, hfail, if_neg (by decide), herase]
  have hut (x : Nat) : targetAt x u = if x = tg then { targetAt tg s with erases := (targetAt tg s).erases + 1 } else targetAt x s := by
    refine (targetAt_modTarget (s := w) hup tg x _).trans ?_
    change (if x = tg then { targetAt tg v with erases := (targetAt tg v).erases + 1 } else targetAt x v) = _
    rw [hat, hat]
  have hfresh (x : Nat) : (targetAt x u).fresh = (targetAt x s).fresh := by
    rw [hut]
    split
    next hx => rw [hx]
    · rfl
  have hub (x : Nat) : blockAt x u = if x = k then erasedBlock (blockAt k s) s else blockAt x s := by
    refine (blockAt_congr (t := u) (s := w) rfl (fun x => ?_) rfl x).trans ?_
    · exact (hfresh x).trans (congrArg Target.fresh (hat x)).symm
    · rw [blockAt_modBlock, hf, hblk]
  refine ⟨u, ⟨?_, modTarget_keepsUp (s := w) hup tg _, ?_, hfresh, ?_, ?_, fun x hx => ?_, fun e he => ?_, hcpg⟩, ?_⟩
  · exact modTarget_changes _ _ (by rfl) (modBlock_changes _ _ (by rfl) hv)
  · rw [hut, if_pos rfl]
  · rw [hut, if_pos rfl]
  · rw [hub, if_pos rfl]
  · rw [hub, if_neg hx]
  · rcases mem_tins he with he | he
    · exact .inl (by rw [he]; exact hf)
    · exact .inr (hcbl ▸ he)
  · change execBlockEraseDone tg b .pass s = _
    have harm : eraseTime s = true := by simp [eraseTime, isArmed, ha, hn]
    unfold execBlockEraseDone
    rw [if_neg (by simp [hw, hworn, harm, hm])]
    dsimp only
    rw [show onfiPslc tg (.blockErase (blockKey tg b)) s = a from hadef]
    rw [show dropErased _ = c from hcdef]

/-- The erased block and those beside it, where none is due for retirement. -/
theorem Erased.sturdy (h : Erased tg b s t) (hpe : satAdd 16777215 (blockAt b s).pe 1 < setting s P.pslcCycles) (hs : Sturdy s) :
    Sturdy t := by
  have hd : t.drf = s.drf := h.changes.drf rfl
  refine ⟨fun x => ?_, fun e he => ?_⟩
  · rw [wornFresh, setting_congr hd, h.fresh, ← wornFresh, hs.fresh]
  · rw [setting_congr hd]
    rcases h.listed e he with he | he
    · rw [he]
      exact ⟨rfl, decide_eq_false (by omega), hpe⟩
    · exact hs.blocks e he

theorem not_mem_rootBlocks_of_mayErase (h : mayErase b s = true) (ht : blockTarget b = tg) : b ∉ rootBlocks tg s := by
  rw [mayErase, Bool.and_eq_true] at h
  simpa [ht] using h.2

/-- At the 64th erase of a target a root record is written, and its count begins again. -/
theorem blockErase_writesRoot (h : Erased tg b s t) (hm : b ∉ rootBlocks tg s) (ha : s.vlt.state = .armed)
    (hpe : satAdd 16777215 (blockAt b s).pe 1 < setting s P.pslcCycles) (hs : Sturdy s) (he : (targetAt tg s).erases = 63)
    (hr : (rootBlocks tg s).length = 2)
    (hroots : ∀ x ∈ rootBlocks tg s, satAdd 16777215 (blockAt x s).pe 1 < setting s P.pslcCycles ∧ imagePages x s = false) :
    (targetAt tg (retireBlocks (rootIfDue tg t))).erases ≤ 1 := by
  have hroot : rootBlocks tg t = rootBlocks tg s := rootBlocks_congr h.bbt
  have hv : inVault t = false := by rw [inVault, h.changes.vlt rfl, ha]
  have h64 : (targetAt tg t).erases = 64 := by rw [h.erases, he]
  have himg (x : Nat) (hx : imagePages x s = false) : imagePages x t = false := by
    rw [imagePages, List.any_eq_false] at hx ⊢
    intro e hm
    rw [h.pages] at hm
    exact hx e (List.mem_of_mem_filter hm)
  obtain ⟨hle, hsturdy⟩ := writeRoot_counts h.up (h.sturdy hpe hs) hv h64 (by rw [hroot, hr]) (fun x hx => by
    rw [hroot] at hx
    obtain ⟨h1, h2⟩ := hroots x hx
    rw [h.others x (fun hxb => hm (hxb ▸ hx)), setting_congr (h.changes.drf rfl)]
    exact ⟨h1, himg x h2⟩)
  rw [rootIfDue, if_pos (by omega), retireBlocks_of_sturdy hsturdy]
  exact hle

theorem blockErase_counts (h : Erased tg b s t) (hpe : satAdd 16777215 (blockAt b s).pe 1 < setting s P.pslcCycles) (hs : Sturdy s)
    (he : (targetAt tg s).erases < 63) : retireBlocks (rootIfDue tg t) = t := by
  rw [rootIfDue, if_neg (by rw [h.erases]; omega), retireBlocks_of_sturdy (h.sturdy hpe hs)]

/-! ### Garbage collection (R221 to R223) -/

theorem gcStart_takes (ha : s.vlt.state = .armed) (hr : s.restore.st = .complete) (hp : erasedPool s < drainReserve s + 2 ^ 36)
    (hc : blockClosed (blockKey tg b) (blockAt (blockKey tg b) s) s = true)
    (hl : ∀ e ∈ s.nand.blocks, blockClosed e.1 e.2 s = true → liveSlots (blockKey tg b) s ≤ liveSlots e.1 s) :
    exec (.gcStart tg b) s = .next { s with nand := { s.nand with gcBlock := some (blockKey tg b) } } := by
  have hall : s.nand.blocks.all (fun e => !blockClosed e.1 e.2 s || decide (liveSlots (blockKey tg b) s ≤ liveSlots e.1 s)) = true := by
    refine List.all_eq_true.2 fun e he => ?_
    cases hce : blockClosed e.1 e.2 s with
    | false => rfl
    | true => exact decide_eq_true (hl e he hce)
  have hexec : exec (.gcStart tg b) s = execGcStart tg b s := rfl
  rw [hexec, execGcStart, if_pos]
  rw [ha, hr, decide_eq_true hp, hc, hall]
  rfl

theorem copyOutcome_decodes (slot : Nat) (s : State) : copyOutcome slot .decodes s = .decodes := rfl

/-- The read of a copy that decodes counts no error. -/
theorem countCopyRead_decodes (slot : Nat) (s : State) : Changes 0xc2000000 s (countCopyRead slot .decodes s) := by
  have hne : CopyRead.decodes ≠ .noResponse := by decide
  have hnu : CopyRead.decodes ≠ .uncorrectable := by decide
  unfold countCopyRead
  dsimp only
  rw [copyOutcome_decodes, if_neg hnu, if_neg hne]
  exact sampleFree_changes _ _ (by rfl) (onfi_changes _ _ (by rfl) (.refl _ s))

theorem collectionRead_opens {slot g : Nat} {l : Loc} {y : NandUnit} (c : CopyRead) (bursts : List (Nat × Burst)) (hrun : engineRuns s = true)
    (ha : s.vlt.state = .armed) (hgc : s.nand.gcBlock = some (slot / 4 / 4096))
    (hfind : s.cache.loc.find? (fun e => e.2.a = slot) = some (g, l)) (hu : unitAt slot s = some y) (he : s.stg.epochs = [])
    (hn : s.stg.nextEpoch < 2 ^ 48 - 2) :
    ∃ t e, exec (.garbageCollectionRead slot .decodes c bursts) s = .next t ∧ t.stg.epochs = [e] ∧ e.kind = .gc ∧
      e.todo = [{ y with kind := .gc, source := some slot, fromDdr := false }] ∧ t.cache = s.cache ∧ t.dram = s.dram := by
  have hla : l.a = slot := by simpa using List.find?_some hfind
  have hin : slotIn (slot / 4 / 4096) l = true := by rw [slotIn, hla]; simp
  obtain ⟨v, hvdef, hv⟩ : ∃ v, countCopyRead slot .decodes s = v ∧ Changes 0xc2000000 s v := ⟨_, rfl, countCopyRead_decodes slot s⟩
  have hvu : unitAt slot v = some y := by
    rw [← hu, unitAt, pageOfSlot, hv.nand rfl]
    rfl
  let x : Epoch := { num := v.stg.nextEpoch, kind := .gc, opened := engineNow v }
  obtain ⟨w, hnew, hone, hwc⟩ : ∃ w, openNew .gc v = w ∧ w.stg.epochs = [x] ∧ Changes 0x10 v w := by
    rw [openNew_first .gc (by rw [hv.stg rfl, he]) (by rw [hv.stg rfl]; exact hn)]
    exact ⟨_, rfl, rfl, Changes.put_stg rfl (.refl _ v)⟩
  have hw : openEpoch w = some x := openEpoch_only hone rfl
  let y' : NandUnit := { y with kind := .gc, source := some slot, fromDdr := false }
  have hcop : copiesOf y ≤ 2 := by
    rw [copiesOf]
    split <;> omega
  have hexec : exec (.garbageCollectionRead slot .decodes c bursts) s = .next (schedule x.num y' w) := by
    change execGarbageCollectionRead slot .decodes c bursts s = _
    unfold execGarbageCollectionRead
    rw [hgc, hfind]
    dsimp only
    rw [if_pos (by simp [hrun, ha, hin]), hvdef]
    have hk : ¬ 16384 < x.copies + copiesOf y := by
      change ¬ 16384 < 0 + copiesOf y
      omega
    have hk' : x.copies + copiesOf y ≠ 16384 := by
      change 0 + copiesOf y ≠ 16384
      omega
    cases slotB l <;>
    · simp only [copyOutcome_decodes, decide_true, Bool.true_or, if_true, hvu, hnew, hw]
      rw [if_neg hk, hw]
      exact congrArg Host.Outcome.next (if_neg hk')
  refine ⟨_, _, hexec, modEpoch_only hone, rfl, rfl, ?_, ?_⟩
  · exact (hwc.cache rfl).trans (hv.cache rfl)
  · exact (hwc.dram rfl).trans (hv.dram rfl)

end Blocks

/-- Settles O23. -/
theorem blocksAreErasedAndSpareKept : Obligations.BlocksAreErasedAndSpareKept := by
  refine ⟨⟨fun s tg b hw hworn hfail ha hn hm hs => ?_, fun s tg b ha hr hp hc hl => gcStart_takes ha hr hp hc hl,
    fun s slot g l u c bursts hrun ha hgc hfind hu he hn => collectionRead_opens c bursts hrun ha hgc hfind hu he hn⟩,
    fun s _ hsp hr hfresh hb => ?_, fun s ha hsp hr hd hm hfresh hb => ?_⟩
  · have hkey : blockTarget (blockKey tg b) = tg := by
      rw [blockTarget, blockKey]
      omega
    have hnot := not_mem_rootBlocks_of_mayErase hm hkey
    obtain ⟨u, hu, hexec⟩ := blockErase_erased hw hworn hfail ha hn hm hs
    refine ⟨_, hexec, fun hpe hb hfresh he hr hroots => blockErase_writesRoot hu hnot ha hpe ⟨hfresh, hb⟩ he hr hroots,
      fun hpe hb hfresh he => ?_⟩
    rw [blockErase_counts hu hpe ⟨hfresh, hb⟩ he]
    refine ⟨hu.erases, ?_, fun p hp => ?_, fun p hp hne => ?_, hu.changes.cache rfl, hu.changes.dram rfl, hu.changes.stg rfl⟩
    · rw [hu.block, erasedBlock]
      rw [decide_eq_false (by omega)]
    · rw [hu.pages] at hp
      simpa using (List.mem_filter.1 hp).2
    · rw [hu.pages]
      exact List.mem_filter.2 ⟨hp, by simpa using hne⟩
  · change Host.Outcome.next (spareCheck (retireBlocks s)) = _
    rw [retireBlocks_of_sturdy ⟨hfresh, hb⟩, spareCheck_keeps hsp hr]
  · have hexec : exec .spareCapacityCheck s = .next (spareCheck (retireBlocks s)) := rfl
    rw [retireBlocks_of_sturdy ⟨hfresh, hb⟩] at hexec
    exact ⟨_, hexec, spareCheck_sheds ha hsp hr hd hm⟩

end Sys2Proof.Machine

/-! PROOFS. Loads: a granule's copies come back from the flash, the requests that wait for it are served, and discovery brings
channels up (07_restore.md, Background restore to Uncorrectable copies and retired targets; 06_flash_image_format.md, Discovery and
initialisation). -/

namespace Sys2Proof.Machine

section Loads
variable {s t u v : State} {g : Nat} {a b : CopyRead} {l : Loc}

/-! ### Copies as they read (R258, R259) -/

theorem readCopy_congr (hp : t.nand.pages = s.nand.pages) (hl : t.lcs = s.lcs) (slot : Nat) (r : CopyRead) :
    readCopy slot r t = readCopy slot r s := by
  have hpage : pageOfSlot slot t = pageOfSlot slot s := by rw [pageOfSlot, hp, ← pageOfSlot]
  have hunit : unitAt slot t = unitAt slot s := by rw [unitAt, hpage, ← unitAt]
  have hout : copyOutcome slot r t = copyOutcome slot r s := by
    unfold copyOutcome
    rw [hunit]
  have hcontent : copyContent slot t = copyContent slot s := by
    unfold copyContent
    rw [hpage, hunit, hl]
  rw [readCopy, hout, hcontent, ← readCopy]

/-- A read of a copy counts errors alone: pages, targets and the bolts shed stand. -/
theorem countCopyRead_nand (slot : Nat) (r : CopyRead) (s : State) : ∃ ch, (countCopyRead slot r s).nand = { s.nand with ch := ch } := by
  have ho (v : State) (op : Onfi) (n : Nat) : (onfi n op v).nand = v.nand := rfl
  have hs (v : State) (x y : Nat) : (sampleFree x y v).nand = v.nand := (sampleFree_changes x y (m' := 0x82000000) (by rfl) (.refl _ v)).nand rfl
  have hr (v : State) (p : Nat) : (retryReads p v).nand = v.nand := (retryReads_changes p (m' := 0x40000000) (by rfl) (.refl _ v)).nand rfl
  have hm (v : State) (c : Nat) (f : NandCh → NandCh) : (modChannel c f v).nand = { v.nand with ch := tmod {} c f v.nand.ch } := rfl
  unfold countCopyRead
  extract_lets c r' u w
  have hw : w.nand = s.nand := by
    unfold w
    split
    · exact ho ..
    · rw [hs]
      exact ho ..
  split
  · rw [hm, hr, hw]
    exact ⟨_, rfl⟩
  · rw [hw]
    exact ⟨_, rfl⟩

/-- Reads of a granule's copies have counted their errors. -/
structure Counted (s t : State) : Prop where
  changes : Changes 0xc2000008 s t
  nand : ∃ ch, t.nand = { s.nand with ch := ch }

theorem countCopyRead_counted (slot : Nat) (r : CopyRead) (s : State) : Counted s (countCopyRead slot r s) :=
  ⟨countCopyRead_changes slot r (.self _) (.refl _ s), countCopyRead_nand slot r s⟩

theorem Counted.trans (h : Counted s t) (k : Counted t u) : Counted s u := by
  obtain ⟨_, hn⟩ := h.nand
  obtain ⟨_, kn⟩ := k.nand
  exact ⟨h.changes.trans k.changes, _, by rw [kn, hn]⟩

theorem Counted.readCopy_eq (h : Counted s t) (slot : Nat) (r : CopyRead) : readCopy slot r t = readCopy slot r s := by
  obtain ⟨_, hn⟩ := h.nand
  exact readCopy_congr (by rw [hn]) (h.changes.lcs rfl) slot r

theorem readCopies_of_a {x : List Host.Cell × BitVec 64} (h : readCopy l.a a s = some x) :
    ∃ u, readCopies l a b s = (some x, none, u) ∧ Counted s u := by
  have hc := countCopyRead_counted l.a a s
  refine ⟨_, ?_, hc⟩
  unfold readCopies
  dsimp only
  rw [hc.readCopy_eq, h]

theorem readCopies_of_b {x : List Host.Cell × BitVec 64} {y : Nat} (h : readCopy l.a a s = none) (hb : slotB l = some y)
    (hx : readCopy y b s = some x) : ∃ u, readCopies l a b s = (none, some x, u) ∧ Counted s u := by
  have hc := countCopyRead_counted l.a a s
  refine ⟨_, ?_, hc.trans (countCopyRead_counted y b _)⟩
  unfold readCopies
  dsimp only
  rw [hc.readCopy_eq, h, hb]
  dsimp only
  rw [hc.readCopy_eq, hx]

theorem readCopies_of_none (h : readCopy l.a a s = none) (hb : ∀ y, slotB l = some y → readCopy y b s = none) :
    ∃ u, readCopies l a b s = (none, none, u) ∧ Counted s u := by
  have hc := countCopyRead_counted l.a a s
  unfold readCopies
  dsimp only
  rw [hc.readCopy_eq, h]
  dsimp only
  cases hy : slotB l with
  | none => exact ⟨_, rfl, hc⟩
  | some y =>
    dsimp only
    rw [hc.readCopy_eq, hb y hy]
    exact ⟨_, rfl, hc.trans (countCopyRead_counted y b _)⟩

/-! ### A copy written back into the cache (R257) -/

theorem writeGranule_dram_congr (h : t.dram = s.dram) (g : Nat) (bytes : List Host.Cell) :
    (writeGranule g bytes t).dram = (writeGranule g bytes s).dram := by
  have hl (l : List Host.Cell) (p q : State) (hpq : p.dram = q.dram) :
      (l.foldl (fun s c => writeByte (4096 * g + c.1 % 4096) c.2 s) p).dram =
      (l.foldl (fun s c => writeByte (4096 * g + c.1 % 4096) c.2 s) q).dram := by
    induction l generalizing p q with
    | nil => exact hpq
    | cons c l ih => exact ih _ _ (by
        change tput unlistedByte _ _ p.dram = tput unlistedByte _ _ q.dram
        rw [hpq])
  refine hl _ _ _ ?_
  change t.dram.filter _ = s.dram.filter _
  rw [h]

/-- A granule written leaves every other granule's bytes. -/
theorem readByte_writeGranule_outside (hs : Sound s) (g : Nat) (bytes : List Host.Cell) {y : Nat} (hy : y / 4096 ≠ g) :
    readByte (writeGranule g bytes s) y = readByte s y := by
  have hl (l : List Host.Cell) (u : State) (hu : Sound u) :
      readByte (l.foldl (fun s c => writeByte (4096 * g + c.1 % 4096) c.2 s) u) y = readByte u y := by
    induction l generalizing u with
    | nil => rfl
    | cons c l ih =>
      have hw : Sound (writeByte (4096 * g + c.1 % 4096) c.2 u) :=
        (writeByte_changes _ _ (m' := 0x2) (by rfl) (.refl _ u)).sound hu
      rw [List.foldl_cons, ih _ hw, readByte_writeByte _ _ _ _ hu, if_neg (by omega)]
  have hz : Sound (zeroRange (4096 * g) (4096 * g + 4096) s) := (zeroRange_changes _ _ (m' := 0x2) (by rfl) (.refl _ s)).sound hs
  unfold writeGranule
  rw [hl _ _ hz, readByte_zeroRange _ _ hs.memory, if_neg (by omega)]

theorem poisonLines_poisoned {k i : Nat} (m : BitVec 64) (x : PSource) (h : tableOk 0#64 none s.cache.poison = true) :
    poisoned k i (poisonLines g m x s) = (poisoned k i s || (decide (k = g) && m.getLsbD i)) := by
  rw [poisoned, poisonLines_poison, tmod, poisoned]
  by_cases hk : k = g
  · subst hk
    rw [tget_tput_ok _ _ _ _ none h, BitVec.getLsbD_or, decide_eq_true rfl, Bool.true_and]
  · rw [tget_tput_ne _ _ _ _ hk _ none h, decide_eq_false hk, Bool.false_and, Bool.or_false]

/-- What a copy brings back: its bytes, and its poison beside what stood. -/
theorem placeCopy_places (hs : Sound s) (g : Nat) (c : List Host.Cell × BitVec 64) :
    (placeCopy g c s).dram = (writeGranule g c.1 s).dram ∧ (placeCopy g c s).cache.map = s.cache.map ∧
    CacheRest s.cache (placeCopy g c s).cache ∧ (∀ i, poisoned g i (placeCopy g c s) = (poisoned g i s || c.2.getLsbD i)) := by
  let u : State := writeGranule g c.1 s
  have hu : Changes 0x2 s u := writeGranule_changes _ _ (.self _) (.refl _ s)
  let v : State := { u with cache := { u.cache with poison := tmod 0#64 g (fun b => b ||| c.2) u.cache.poison } }
  have hcache : u.cache = s.cache := hu.cache rfl
  have hpo : tableOk 0#64 none u.cache.poison = true := by
    rw [hcache]
    exact hs.cache.poison
  have hv : tableOk 0#64 none v.cache.poison = true := tableOk_tput _ _ _ _ none hpo (by simp)
  have hpv (i : Nat) : poisoned g i v = (poisoned g i s || c.2.getLsbD i) := by
    change (tget 0#64 (tput 0#64 g (tget 0#64 u.cache.poison g ||| c.2) u.cache.poison) g).getLsbD i = _
    rw [tget_tput_ok _ _ _ _ none hpo, BitVec.getLsbD_or, hcache]
    rfl
  have hrest : CacheRest s.cache v.cache := by
    have h : CacheRest u.cache v.cache := .of_poison ⟨_, _, _, rfl⟩
    rwa [hcache] at h
  have hmap : v.cache.map = s.cache.map := by
    change u.cache.map = _
    rw [hcache]
  unfold placeCopy
  dsimp only
  split
  · exact ⟨rfl, hmap, hrest, hpv⟩
  · generalize hm : c.2 &&& ~~~allListed (tget {} u.cache.listed g) = m
    have hd : (poisonLines g m .unknown v).dram = v.dram := (poisonLines_changes g m .unknown (.self _) (.refl _ v)).dram rfl
    refine ⟨hd, (poisonLines_map g m .unknown v).trans hmap, hrest.trans (poisonLines_rest ..), fun i => ?_⟩
    rw [poisonLines_poisoned m .unknown hv, hpv, decide_eq_true rfl, Bool.true_and, ← hm, BitVec.getLsbD_and, Bool.or_assoc]
    cases c.2.getLsbD i <;> simp

/-! ### GRANULE_LOAD_DONE and DEMAND_FETCH_COMPLETE: the load (R257 to R259) -/

/-- What every load leaves, whatever its copies: the parts of the cache that serve neither map nor poison, staging and the rest. -/
structure LoadOnly (g : Nat) (s t : State) : Prop where
  changes : Changes 0xce0c0ceb s t
  rest : CacheRest s.cache t.cache
  serving : Serving s t
  loading : t.restore.loading = dropFrom g s.restore.loading
  shed : t.nand.shed = s.nand.shed ∧ t.nand.shedding = s.nand.shedding

/-- What a load leaves so far, before the entry of its granule is set. -/
theorem dropLoading_loadOnly (g : Nat) (s : State) :
    LoadOnly g s { s with restore := { s.restore with loading := dropFrom g s.restore.loading } } :=
  ⟨Changes.put_restore rfl (.refl _ s), .refl _, ⟨.of_eq rfl, rfl, rfl, ⟨_, _, rfl⟩, rfl, rfl, rfl, rfl, ⟨rfl, rfl, rfl, rfl⟩, fun _ => rfl⟩,
    rfl, rfl, rfl⟩

theorem LoadOnly.then (h : LoadOnly g s t) (hc : Changes 0xce0c0c6b t u) (hr : CacheRest t.cache u.cache) (hs : Serving t u)
    (hn : u.nand.shed = t.nand.shed ∧ u.nand.shedding = t.nand.shedding) : LoadOnly g s u :=
  ⟨h.changes.trans (hc.mono (by rfl)), h.rest.trans hr, h.serving.trans hs, by rw [hc.restore rfl, h.loading],
    hn.1.trans h.shed.1, hn.2.trans h.shed.2⟩

/-- The registers of the restore that a load writes. -/
theorem LoadOnly.restored (h : LoadOnly g s t) {r : RstoreSt} (hl : r.loading = t.restore.loading) (hk : r.keyOk = t.restore.keyOk) :
    LoadOnly g s { t with restore := r } :=
  ⟨h.changes.trans (Changes.put_restore rfl (.refl _ t)), h.rest,
    h.serving.trans ⟨.of_eq rfl, rfl, rfl, ⟨_, _, rfl⟩, rfl, rfl, hk, rfl, ⟨rfl, rfl, rfl, rfl⟩, fun _ => rfl⟩,
    hl.trans h.loading, h.shed⟩

theorem Counted.serving (h : Counted s t) (hs : Serving s t) (k : LoadOnly g u s) : LoadOnly g u t := by
  obtain ⟨_, hn⟩ := h.nand
  exact k.then (h.changes.mono (by rfl)) (by rw [h.changes.cache rfl]; exact .refl _) hs (by rw [hn]; exact ⟨rfl, rfl⟩)

theorem engineFault_loadOnly (n d : Nat) (h : LoadOnly g s t) : LoadOnly g s (engineFault n d t) := by
  have hc : Changes 0x4c0c0020 t (engineFault n d t) := engineFault_changes n d (.self _) (.refl _ t)
  exact h.then (hc.mono (by rfl)) (by rw [hc.cache rfl]; exact .refl _) (engineFault_serving ..) (by rw [hc.nand rfl]; exact ⟨rfl, rfl⟩)

theorem setEntry_loadOnly (e : Entry) (h : LoadOnly g s t) : LoadOnly g s (setEntry g e t) := by
  have hc : Changes 0x1 t (setEntry g e t) := setEntry_changes g e (.self _) (.refl _ t)
  exact h.then (hc.mono (by rfl)) (setEntry_rest ..) (.of_silent (hc.mono (by rfl))) (by rw [hc.nand rfl]; exact ⟨rfl, rfl⟩)

/-- The state in which a load's copies are read. -/
def loadFrom (g : Nat) (s : State) : State := { s with restore := { s.restore with loading := dropFrom g s.restore.loading } }

/-- The state in which what a load reads is placed: its copies' errors and its bytes are counted. -/
def loadedBytes (u : State) : State := { u with restore := { u.restore with bytes := u.restore.bytes + 4096 } }

/-- The count of granules whose copies do not all read (R258). -/
def countRestoreUe (u : State) : State := { u with restore := { u.restore with ue := satAdd max32 u.restore.ue 1 } }

/-- Whether a granule's copies lie on a channel or target that is retired (R259). -/
def copiesRetired (l : Loc) (s : State) : Bool := copyRetired l.a s || (slotB l).any (fun y => copyRetired y s)

/-- What a load makes of the copies that it has read (R257, R258). -/
def placeRead (g : Nat) (old : Bool) (r : Option (List Host.Cell × BitVec 64) × Option (List Host.Cell × BitVec 64) × State) : State :=
  match r.1, r.2.1 with
  | some c, _ => setEntry g { st := if old then .dirty else .clean } (placeCopy g c (loadedBytes r.2.2))
  | none, some c => engineFault 18 (4096 * g) (setEntry g { st := .dirty } (placeCopy g c (countRestoreUe (loadedBytes r.2.2))))
  | none, none => engineFault 18 (4096 * g) (poisonAtRestore g (countRestoreUe (loadedBytes r.2.2)))

theorem loadGranule_of_ne (h : (entryOf g s).st ≠ .restorePending) : loadGranule g a b s = loadFrom g s := by
  unfold loadGranule
  exact if_neg h

theorem loadGranule_of_pending (hst : (entryOf g s).st = .restorePending) (hl : tfind s.cache.loc g = some l) :
    loadGranule g a b s = placeRead g (copiesRetired l s) (readCopies l a b (loadFrom g s)) := by
  unfold loadGranule placeRead loadFrom copiesRetired
  dsimp only
  refine (if_pos hst).trans ?_
  rw [hl]
  dsimp only
  generalize readCopies l a b _ = r
  obtain ⟨x, y, u⟩ := r
  cases slotB l <;> cases x <;> cases y <;> rfl

section Pending
variable (hst : (entryOf g s).st = .restorePending) (hl : tfind s.cache.loc g = some l)
include hst hl

theorem loadGranule_of_a {x : List Host.Cell × BitVec 64} (hx : readCopy l.a a s = some x) : ∃ u, Counted (loadFrom g s) u ∧
    loadGranule g a b s = setEntry g { st := if copiesRetired l s then .dirty else .clean } (placeCopy g x (loadedBytes u)) := by
  obtain ⟨u, hu, hc⟩ := readCopies_of_a (s := loadFrom g s) (b := b) hx
  exact ⟨u, hc, by rw [loadGranule_of_pending hst hl, hu]; rfl⟩

theorem loadGranule_of_b {x : List Host.Cell × BitVec 64} {y : Nat} (ha : readCopy l.a a s = none) (hb : slotB l = some y)
    (hx : readCopy y b s = some x) : ∃ u, Counted (loadFrom g s) u ∧ loadGranule g a b s =
      engineFault 18 (4096 * g) (setEntry g { st := .dirty } (placeCopy g x (countRestoreUe (loadedBytes u)))) := by
  obtain ⟨u, hu, hc⟩ := readCopies_of_b (s := loadFrom g s) ha hb hx
  exact ⟨u, hc, by rw [loadGranule_of_pending hst hl, hu]; rfl⟩

theorem loadGranule_of_none (ha : readCopy l.a a s = none) (hb : ∀ y, slotB l = some y → readCopy y b s = none) :
    ∃ u, Counted (loadFrom g s) u ∧ loadGranule g a b s =
      engineFault 18 (4096 * g) (poisonAtRestore g (countRestoreUe (loadedBytes u))) := by
  obtain ⟨u, hu, hc⟩ := readCopies_of_none (s := loadFrom g s) ha hb
  exact ⟨u, hc, by rw [loadGranule_of_pending hst hl, hu]; rfl⟩

end Pending

theorem readCopies_counted (l : Loc) (a b : CopyRead) (s : State) : Counted s (readCopies l a b s).2.2 := by
  cases ha : readCopy l.a a s with
  | some x =>
    obtain ⟨u, hu, hc⟩ := readCopies_of_a (b := b) ha
    rwa [hu]
  | none =>
    by_cases hb : ∀ y, slotB l = some y → readCopy y b s = none
    · obtain ⟨u, hu, hc⟩ := readCopies_of_none ha hb
      rwa [hu]
    · push Not at hb
      obtain ⟨y, hy, hne⟩ := hb
      obtain ⟨x, hx⟩ := Option.ne_none_iff_exists'.1 hne
      obtain ⟨u, hu, hc⟩ := readCopies_of_b ha hy hx
      rwa [hu]

theorem placeCopy_loadOnly (c : List Host.Cell × BitVec 64) (h : LoadOnly g s t) : LoadOnly g s (placeCopy g c t) := by
  have hc : Changes 0x3 t (placeCopy g c t) := placeCopy_changes g c (.self _) (.refl _ t)
  refine h.then (hc.mono (by rfl)) ?_ (placeCopy_serving ..) (by rw [hc.nand rfl]; exact ⟨rfl, rfl⟩)
  have hw : (writeGranule g c.1 t).cache = t.cache := (writeGranule_changes g c.1 (m' := 0x2) (by rfl) (.refl _ t)).cache rfl
  have hp (u : State) (p : Table (BitVec 64)) : CacheRest u.cache { u with cache := { u.cache with poison := p } }.cache :=
    .of_poison ⟨_, _, _, rfl⟩
  unfold placeCopy
  dsimp only
  have h1 := hp (writeGranule g c.1 t) (tmod 0#64 g (fun b => b ||| c.2) (writeGranule g c.1 t).cache.poison)
  rw [hw] at h1
  split
  · rw [hw]
    exact h1
  · rw [hw]
    exact h1.trans (poisonLines_rest ..)

theorem poisonAtRestore_loadOnly (h : LoadOnly g s t) : LoadOnly g s (poisonAtRestore g t) := by
  have hc : Changes 0x41 t (poisonGranule g t) := poisonGranule_changes g (.self _) (.refl _ t)
  have hagain (u : State) : (takeAgain g u).cache = u.cache := (takeAgain_changes g (m' := 0x40) (by rfl) (.refl _ u)).cache rfl
  have hrest : CacheRest t.cache (poisonGranule g t).cache := by
    unfold poisonGranule
    rw [hagain]
    exact (poisonLines_rest ..).trans (setEntry_rest ..)
  have h1 : LoadOnly g s (poisonGranule g t) :=
    h.then (hc.mono (by rfl)) hrest (poisonGranule_serving g t) (by rw [hc.nand rfl]; exact ⟨rfl, rfl⟩)
  have hpost (v : State) (x : Nat) : LoadOnly g s v → LoadOnly g s (postEvent 2 0x0101 0xFF [x] v) := fun hv => by
    have hp : Changes 0x40000c00 v (postEvent 2 0x0101 0xFF [x] v) := postEvent_changes _ _ _ _ (.self _) (.refl _ v)
    exact hv.then (hp.mono (by rfl)) (by rw [hp.cache rfl]; exact .refl _) (postEvent_serving ..) (by rw [hp.nand rfl]; exact ⟨rfl, rfl⟩)
  unfold poisonAtRestore
  exact hpost _ _ (h1.restored rfl rfl)

theorem loadGranule_loadOnly (g : Nat) (a b : CopyRead) (s : State) : LoadOnly g s (loadGranule g a b s) := by
  have h0 : LoadOnly g s (loadFrom g s) := dropLoading_loadOnly g s
  by_cases hst : (entryOf g s).st = .restorePending
  case neg =>
    rw [loadGranule_of_ne hst]
    exact h0
  cases hl : tfind s.cache.loc g with
  | none =>
    have heq : loadGranule g a b s = loadFrom g s := by
      unfold loadGranule
      dsimp only
      refine (if_pos hst).trans ?_
      rw [hl] <;> rfl
    rw [heq]
    exact h0
  | some l =>
    have hbytes : LoadOnly g s (loadedBytes (readCopies l a b (loadFrom g s)).2.2) :=
      ((readCopies_counted l a b _).serving (readCopies_serving l a b _) h0).restored rfl rfl
    have hue : LoadOnly g s (countRestoreUe (loadedBytes (readCopies l a b (loadFrom g s)).2.2)) := hbytes.restored rfl rfl
    rw [loadGranule_of_pending hst hl]
    unfold placeRead
    split
    · exact setEntry_loadOnly _ (placeCopy_loadOnly _ hbytes)
    · exact engineFault_loadOnly _ _ (setEntry_loadOnly _ (placeCopy_loadOnly _ hue))
    · exact engineFault_loadOnly _ _ (poisonAtRestore_loadOnly hue)

/-! ### The requests that wait for a granule (R261, R262) -/

theorem LoadOnly.fetchOf_eq (h : LoadOnly g s t) (k : Nat) : fetchOf k t = fetchOf k s := by
  obtain ⟨_, _, _, _, _, _, _, hr⟩ := h.rest
  rw [fetchOf, hr, ← fetchOf]

/-- A granule's fetch served and the end of the restore noted: the map, the poison, the bytes and the counts stand. -/
structure Finished (g : Nat) (s t : State) : Prop where
  map : t.cache.map = s.cache.map
  poison : t.cache.poison = s.cache.poison
  dram : t.dram = s.dram
  counts : t.restore.bytes = s.restore.bytes ∧ t.restore.ue = s.restore.ue ∧ t.restore.poisonPresent = s.restore.poisonPresent
  loading : g ∉ s.restore.loading → g ∉ t.restore.loading
  held : t.stg = s.stg ∧ t.chg = s.chg
  sent : KeepsSent s t
  fetch : fetchOf g t = fetchOf g s

theorem Finished.trans (h : Finished g s t) (k : Finished g t u) : Finished g s u where
  map := k.map.trans h.map
  poison := k.poison.trans h.poison
  dram := k.dram.trans h.dram
  counts := by
    obtain ⟨h1, h2, h3⟩ := h.counts
    obtain ⟨k1, k2, k3⟩ := k.counts
    exact ⟨k1.trans h1, k2.trans h2, k3.trans h3⟩
  loading hl := k.loading (h.loading hl)
  held := ⟨k.held.1.trans h.held.1, k.held.2.trans h.held.2⟩
  sent := h.sent.trans k.sent
  fetch := k.fetch.trans h.fetch

theorem Finished.of_changes (h : Changes 0xfffeff6c s t) (hs : KeepsSent s t) : Finished g s t where
  map := congrArg _ (h.cache rfl)
  poison := congrArg _ (h.cache rfl)
  dram := h.dram rfl
  counts := by rw [h.restore rfl]; exact ⟨rfl, rfl, rfl⟩
  loading := by rw [h.restore rfl]; exact id
  held := ⟨h.stg rfl, h.chg rfl⟩
  sent := hs
  fetch := by rw [fetchOf, h.cache rfl, ← fetchOf]

theorem checkComplete_finished (g : Nat) (s : State) : Finished g s (checkComplete s) := by
  have hm (v : State) : Finished g v (msix 5 v) := .of_changes (msix_changes 5 (by rfl) (.refl _ v)) (msix_keepsSent 5 (.of_eq rfl))
  unfold checkComplete
  split
  · extract_lets r v
    have hv : Finished g s v := ⟨rfl, rfl, rfl, ⟨rfl, rfl, rfl⟩, fun _ => List.not_mem_nil, ⟨rfl, rfl⟩, .of_eq rfl, rfl⟩
    split
    · exact hv.trans (hm v)
    · exact hv
  · exact ⟨rfl, rfl, rfl, ⟨rfl, rfl, rfl⟩, id, ⟨rfl, rfl⟩, .of_eq rfl, rfl⟩

theorem answerRead_finished (g tag dpa : Nat) (s : State) : Finished g s (answerRead tag dpa s) :=
  .of_changes ((answerRead_changes' tag dpa s).mono (by rfl)) (answerRead_serving tag dpa s).sent

/-- The fetch of a granule is over: what waited for it is answered next. -/
def takeFetch (g : Nat) (s : State) : State :=
  sampleFree 6 0 { s with cache := { s.cache with fetches := s.cache.fetches.filter (fun x => x.granule ≠ g) } }

theorem takeFetch_cache (g : Nat) (s : State) :
    (takeFetch g s).cache = { s.cache with fetches := s.cache.fetches.filter (fun x => x.granule ≠ g) } :=
  (sampleFree_changes' 6 0 _).cache rfl

theorem takeFetch_changes (g : Nat) (s : State) : Changes 0x82000001 s (takeFetch g s) :=
  sampleFree_changes 6 0 (by rfl) (Changes.put_cache (x := { s.cache with fetches := s.cache.fetches.filter (fun x => x.granule ≠ g) }) rfl
    (fun h => ⟨h.channels, h.poison, h.map, h.caps⟩) (.refl _ s))

theorem fetchOf_takeFetch (g : Nat) (s : State) : fetchOf g (takeFetch g s) = none := by
  rw [fetchOf, takeFetch_cache, List.find?_eq_none]
  intro f hf
  simpa using (List.mem_filter.1 hf).2

theorem serveFetch_of_some {f : Fetch} (h : fetchOf g s = some f) :
    serveFetch g s = f.writes.foldl (fun s w => serveWrite w s) (f.reads.foldl (fun s r => answerRead r.tag r.dpa s) (takeFetch g s)) := by
  unfold serveFetch
  rw [h] <;> rfl

theorem serveFetch_of_none (h : fetchOf g s = none) : serveFetch g s = s := by
  unfold serveFetch
  rw [h]

theorem foldl_answerRead_finished (g : Nat) (l : List ReadReq) (s : State) :
    Finished g s (l.foldl (fun s r => answerRead r.tag r.dpa s) s) := by
  induction l generalizing s with
  | nil => exact .of_changes (.refl _ s) (.of_eq rfl)
  | cons r l ih => exact (answerRead_finished g r.tag r.dpa s).trans (ih _)

theorem takeFetch_finished (g : Nat) (s : State) : ∃ u, takeFetch g s = u ∧ u.cache.map = s.cache.map ∧ u.cache.poison = s.cache.poison ∧
    u.dram = s.dram ∧ u.restore = s.restore ∧ u.stg = s.stg ∧ u.chg = s.chg ∧ KeepsSent s u ∧ fetchOf g u = none := by
  have hc := takeFetch_changes g s
  have hcache := takeFetch_cache g s
  exact ⟨_, rfl, by rw [hcache], by rw [hcache], hc.dram rfl, hc.restore rfl, hc.stg rfl, hc.chg rfl, .of_eq (hc.sent rfl),
    fetchOf_takeFetch g s⟩

/-- What follows a load where no write waits for the granule. -/
structure Served (g : Nat) (s t : State) : Prop where
  map : t.cache.map = s.cache.map
  poison : t.cache.poison = s.cache.poison
  dram : t.dram = s.dram
  counts : t.restore.bytes = s.restore.bytes ∧ t.restore.ue = s.restore.ue ∧ t.restore.poisonPresent = s.restore.poisonPresent
  loading : g ∉ s.restore.loading → g ∉ t.restore.loading
  held : t.stg = s.stg ∧ t.chg = s.chg
  sent : KeepsSent s t
  fetch : fetchOf g t = none

theorem serveFetch_served (h : ∀ f, fetchOf g s = some f → f.writes = []) : Served g s (serveFetch g s) := by
  cases hf : fetchOf g s with
  | none =>
    rw [serveFetch_of_none hf]
    exact ⟨rfl, rfl, rfl, ⟨rfl, rfl, rfl⟩, id, ⟨rfl, rfl⟩, .of_eq rfl, hf⟩
  | some f =>
    rw [serveFetch_of_some hf, h f hf]
    obtain ⟨u, hu, hmap, hpo, hdr, hre, hst, hch, hsent, hfetch⟩ := takeFetch_finished g s
    rw [hu]
    have hr := foldl_answerRead_finished g f.reads u
    obtain ⟨h1, h2, h3⟩ := hr.counts
    rw [hre] at h1 h2 h3
    exact ⟨hr.map.trans hmap, hr.poison.trans hpo, hr.dram.trans hdr, ⟨h1, h2, h3⟩, fun hl => hr.loading (by rwa [hre]),
      ⟨hr.held.1.trans hst, hr.held.2.trans hch⟩, hsent.trans hr.sent, hr.fetch.trans hfetch⟩

theorem Served.finished (h : Served g s t) (k : Finished g t u) : Served g s u := by
  obtain ⟨h1, h2, h3⟩ := h.counts
  obtain ⟨k1, k2, k3⟩ := k.counts
  exact ⟨k.map.trans h.map, k.poison.trans h.poison, k.dram.trans h.dram, ⟨k1.trans h1, k2.trans h2, k3.trans h3⟩,
    fun hl => k.loading (h.loading hl), ⟨k.held.1.trans h.held.1, k.held.2.trans h.held.2⟩, h.sent.trans k.sent, k.fetch.trans h.fetch⟩

theorem finishLoad_served (hw : ∀ f, fetchOf g s = some f → f.writes = []) : Served g (loadGranule g a b s) (finishLoad g a b s) :=
  (serveFetch_served (s := loadGranule g a b s) (fun f hf => hw f (by rwa [(loadGranule_loadOnly g a b s).fetchOf_eq] at hf))).finished
    (checkComplete_finished g _)

/-- A load with no write that waits: the exercise's tail holds nothing back. -/
theorem tailHeld_finishLoad_eq (hw : ∀ f, fetchOf g s = some f → f.writes = []) (hh : inTail s = true → s.stg.heldq = []) :
    tailHeld (finishLoad g a b s) = finishLoad g a b s := by
  have hl := loadGranule_loadOnly g a b s
  have hserved := finishLoad_served (a := a) (b := b) hw
  have hstg : (finishLoad g a b s).stg = s.stg := hserved.held.1.trans (hl.changes.stg rfl)
  have hchg : (finishLoad g a b s).chg = s.chg := hserved.held.2.trans (hl.changes.chg rfl)
  rw [tailHeld, inTail_congr hchg, hstg, if_neg]
  cases ht : inTail s with
  | false => simp
  | true => simp [hh ht]

theorem tailHeld_finishLoad (hw : ∀ f, fetchOf g s = some f → f.writes = []) (hh : inTail s = true → s.stg.heldq = []) :
    Served g (loadGranule g a b s) (tailHeld (finishLoad g a b s)) := by
  rw [tailHeld_finishLoad_eq hw hh]
  exact finishLoad_served hw

theorem loadGranule_loading (g : Nat) (a b : CopyRead) (s : State) : g ∉ (loadGranule g a b s).restore.loading := by
  rw [(loadGranule_loadOnly g a b s).loading]
  simp [dropFrom]

/-! ### What a load leaves of its granule (R257 to R259) -/

theorem setEntry_poison (g : Nat) (x : Entry) (s : State) : (setEntry g x s).cache.poison = s.cache.poison := by
  obtain ⟨_, h⟩ := setEntry_cache g x s
  rw [h]

/-- A copy placed from a state with the cache and memory of `s`: the granule's entry, its bytes and its poison alone. -/
theorem setEntry_placeCopy (hs : Sound s) (hv : Changes 0xc2000088 s v) (e : Entry) (x : List Host.Cell × BitVec 64) :
    entryOf g (setEntry g e (placeCopy g x v)) = e ∧
    (∀ h, h ≠ g → entryOf h (setEntry g e (placeCopy g x v)) = entryOf h s) ∧
    (setEntry g e (placeCopy g x v)).dram = (writeGranule g x.1 s).dram ∧
    (∀ i, poisoned g i (setEntry g e (placeCopy g x v)) = (poisoned g i s || x.2.getLsbD i)) ∧
    (setEntry g e (placeCopy g x v)).restore = v.restore := by
  obtain ⟨hdram, hmap, -, hpo⟩ := placeCopy_places (hv.sound hs) g x
  have hc : Changes 0x3 v (placeCopy g x v) := placeCopy_changes g x (.self _) (.refl _ v)
  have hse : Changes 0x1 (placeCopy g x v) (setEntry g e (placeCopy g x v)) := setEntry_changes g e (.self _) (.refl _ _)
  have hup : keysUp none (placeCopy g x v).cache.map = true := by
    rw [hmap, hv.cache rfl]
    exact hs.cache.map
  have hentry (h : Nat) : entryOf h (setEntry g e (placeCopy g x v)) = if h = g then e else entryOf h s := by
    rw [entryOf_setEntry hup, entryOf_congr (hmap.trans (congrArg CacheSt.map (hv.cache rfl)))]
  refine ⟨by rw [hentry, if_pos rfl], fun h hh => by rw [hentry, if_neg hh], ?_, fun i => ?_, (hse.restore rfl).trans (hc.restore rfl)⟩
  · rw [hse.dram rfl, hdram, writeGranule_dram_congr (hv.dram rfl)]
  · rw [poisoned_congr (setEntry_poison ..), hpo, poisoned_congr (s := s) (by rw [hv.cache rfl])]

theorem loadedBytes_changes (h : Counted (loadFrom g s) u) :
    Changes 0xc2000088 s (loadedBytes u) ∧ Changes 0xc2000088 s (countRestoreUe (loadedBytes u)) ∧
    (loadedBytes u).restore.bytes = s.restore.bytes + 4096 ∧ (loadedBytes u).restore.ue = s.restore.ue ∧
    (countRestoreUe (loadedBytes u)).restore.ue = satAdd max32 s.restore.ue 1 := by
  have h0 : Changes 0xc2000088 s (loadFrom g s) := Changes.put_restore rfl (.refl _ s)
  have h1 := h0.trans (h.changes.mono (by rfl))
  have hr : u.restore = (loadFrom g s).restore := h.changes.restore rfl
  have hb : (loadedBytes u).restore.bytes = u.restore.bytes + 4096 := rfl
  have hue : (loadedBytes u).restore.ue = u.restore.ue := rfl
  have hue' : (countRestoreUe (loadedBytes u)).restore.ue = satAdd max32 u.restore.ue 1 := rfl
  refine ⟨h1.trans (Changes.put_restore rfl (.refl _ u)),
    (h1.trans (Changes.put_restore rfl (.refl _ u))).trans (Changes.put_restore rfl (.refl _ _)), ?_, ?_, ?_⟩
  · rw [hb, hr]
    rfl
  · rw [hue, hr]
    rfl
  · rw [hue', hr]
    rfl

/-- A granule poisoned at a restore: DIRTY, all its lines poisoned (R258). -/
theorem poisonAtRestore_poisons (hs : Sound s) (hv : Changes 0xc2000088 s v) :
    entryOf g (poisonAtRestore g v) = { st := .dirty } ∧ (∀ h, h ≠ g → entryOf h (poisonAtRestore g v) = entryOf h s) ∧
    (∀ i < 64, poisoned g i (poisonAtRestore g v) = true) ∧ (poisonAtRestore g v).restore.ue = v.restore.ue ∧
    (poisonAtRestore g v).restore.poisonPresent = true := by
  have hsv : Sound v := hv.sound hs
  let p : State := poisonLines g allBytes .internal v
  have hpost (k : State) (x : Nat) : Changes 0x40000c00 k (postEvent 2 0x0101 0xFF [x] k) := postEvent_changes _ _ _ _ (.self _) (.refl _ k)
  have hagain (k : State) : Changes 0x40 k (takeAgain g k) := takeAgain_changes g (.self _) (.refl _ k)
  have hse : Changes 0x1 p (setEntry g { st := .dirty, pending := false } p) := setEntry_changes g _ (.self _) (.refl _ p)
  have hpl : Changes 0x1 v p := poisonLines_changes g allBytes .internal (.self _) (.refl _ v)
  have hup : keysUp none p.cache.map = true := by
    rw [show p.cache.map = v.cache.map from poisonLines_map ..]
    exact hsv.cache.map
  obtain ⟨w, hwdef, hwcache, hwrestore⟩ : ∃ w, poisonGranule g v = w ∧ w.cache = (setEntry g { st := .dirty, pending := false } p).cache ∧
      w.restore = v.restore :=
    ⟨_, rfl, (hagain _).cache rfl, ((hagain _).restore rfl).trans ((hse.restore rfl).trans (hpl.restore rfl))⟩
  have hdef : poisonAtRestore g v = postEvent 2 0x0101 0xFF [4096 * g] { w with restore := { w.restore with poisonPresent := true } } := by
    rw [poisonAtRestore, hwdef]
  have hcache : (poisonAtRestore g v).cache = (setEntry g { st := .dirty, pending := false } p).cache := by
    rw [hdef, (hpost _ _).cache rfl]
    exact hwcache
  have hrestore : (poisonAtRestore g v).restore = { v.restore with poisonPresent := true } := by
    rw [hdef, (hpost _ _).restore rfl, ← hwrestore]
  have hentry (h : Nat) : entryOf h (poisonAtRestore g v) = if h = g then { st := .dirty } else entryOf h s := by
    rw [entryOf_congr (congrArg CacheSt.map hcache), entryOf_setEntry hup, entryOf_congr (s := v) (poisonLines_map ..),
      entryOf_congr (congrArg CacheSt.map (hv.cache rfl))]
  refine ⟨by rw [hentry, if_pos rfl], fun h hh => by rw [hentry, if_neg hh], fun i hi => ?_, by rw [hrestore], by rw [hrestore]⟩
  have hpo : (poisonAtRestore g v).cache.poison = p.cache.poison := by rw [hcache, setEntry_poison]
  rw [poisoned_congr hpo]
  refine poisoned_poisonLines _ hsv.cache.poison ?_
  rw [allBytes, BitVec.getLsbD_allOnes]
  exact decide_eq_true hi

/-! ### The loads as they are seen (R257 to R262) -/

theorem exec_load {c : Instr} (h : c = .granuleLoadDone g a b ∧ s.restore.loading.contains g = true ∨
    c = .demandFetchComplete g a b ∧ fetchOf g s ≠ none) (hd : ddrInReset s = false) :
    exec c s = .next (tailHeld (finishLoad g a b s)) := by
  rcases h with ⟨rfl, hl⟩ | ⟨rfl, hf⟩
  · change execGranuleLoadDone g a b s = _
    rw [execGranuleLoadDone, if_pos (by rw [hl, hd]; rfl)]
  · change execDemandFetchComplete g a b s = _
    rw [execDemandFetchComplete, if_pos (by simp [Option.isSome_iff_ne_none, hf, hd])]

section Outcome
variable (hst : (entryOf g s).st = .restorePending) (hl : tfind s.cache.loc g = some l) (hs : Sound s)
  (hw : ∀ f, fetchOf g s = some f → f.writes = []) (hh : inTail s = true → s.stg.heldq = [])
include hst hl hs hw hh

theorem load_copyA (b : CopyRead) {x : List Host.Cell × BitVec 64} (hx : readCopy l.a a s = some x) :
    entryOf g (tailHeld (finishLoad g a b s)) = { st := if copiesRetired l s then .dirty else .clean } ∧
    (tailHeld (finishLoad g a b s)).dram = (writeGranule g x.1 s).dram ∧
    (∀ i < 64, poisoned g i (tailHeld (finishLoad g a b s)) = (poisoned g i s || x.2.getLsbD i)) ∧
    (tailHeld (finishLoad g a b s)).restore.bytes = s.restore.bytes + 4096 ∧
    (tailHeld (finishLoad g a b s)).restore.ue = s.restore.ue ∧ g ∉ (tailHeld (finishLoad g a b s)).restore.loading ∧
    fetchOf g (tailHeld (finishLoad g a b s)) = none ∧
    (∀ y, y / 4096 ≠ g → readByte (tailHeld (finishLoad g a b s)) y = readByte s y) ∧
    (∀ h, h ≠ g → entryOf h (tailHeld (finishLoad g a b s)) = entryOf h s) := by
  have hserved := tailHeld_finishLoad (a := a) (b := b) hw hh
  obtain ⟨u, hu, heq⟩ := loadGranule_of_a (b := b) hst hl hx
  obtain ⟨hv, -, hbytes, hue, -⟩ := loadedBytes_changes hu
  obtain ⟨he, ho, hdram, hpo, hre⟩ := setEntry_placeCopy (g := g) hs hv { st := if copiesRetired l s then .dirty else .clean } x
  have hentry (h : Nat) := entryOf_congr hserved.map h
  rw [← heq] at he ho hdram hpo hre
  have hdram' := hserved.dram.trans hdram
  obtain ⟨c1, c2, -⟩ := hserved.counts
  refine ⟨(hentry g).trans he, hdram', fun i _ => ?_, ?_, ?_, hserved.loading (loadGranule_loading g a b s), hserved.fetch,
    fun y hy => ?_, fun h hh => (hentry h).trans (ho h hh)⟩
  · rw [poisoned_congr hserved.poison, hpo]
  · rw [c1, hre, hbytes]
  · rw [c2, hre, hue]
  · rw [readByte_congr hdram', readByte_writeGranule_outside hs g x.1 hy]

theorem load_copyB {x : List Host.Cell × BitVec 64} {y : Nat} (ha : readCopy l.a a s = none) (hb : slotB l = some y)
    (hx : readCopy y b s = some x) : entryOf g (tailHeld (finishLoad g a b s)) = { st := .dirty } ∧
    (tailHeld (finishLoad g a b s)).dram = (writeGranule g x.1 s).dram ∧
    (tailHeld (finishLoad g a b s)).restore.ue = satAdd max32 s.restore.ue 1 ∧ g ∉ (tailHeld (finishLoad g a b s)).restore.loading ∧
    (∀ h, h ≠ g → entryOf h (tailHeld (finishLoad g a b s)) = entryOf h s) := by
  have hserved := tailHeld_finishLoad (a := a) (b := b) hw hh
  obtain ⟨u, hu, heq⟩ := loadGranule_of_b hst hl ha hb hx
  obtain ⟨-, hv, -, -, hue⟩ := loadedBytes_changes hu
  obtain ⟨he, ho, hdram, -, hre⟩ := setEntry_placeCopy (g := g) hs hv { st := .dirty } x
  have hf (v : State) : Changes 0x4c0c0020 v (engineFault 18 (4096 * g) v) := engineFault_changes _ _ (.self _) (.refl _ v)
  generalize setEntry g { st := .dirty } (placeCopy g x (countRestoreUe (loadedBytes u))) = w at heq he ho hdram hre
  have hentry (h : Nat) : entryOf h (tailHeld (finishLoad g a b s)) = entryOf h w := by
    rw [entryOf_congr hserved.map, heq, entryOf_congr (congrArg CacheSt.map ((hf w).cache rfl))]
  obtain ⟨-, c2, -⟩ := hserved.counts
  rw [heq, (hf w).restore rfl] at c2
  refine ⟨(hentry g).trans he, ?_, by rw [c2, hre, hue], hserved.loading (loadGranule_loading g a b s), fun h hh => (hentry h).trans (ho h hh)⟩
  rw [hserved.dram, heq, (hf w).dram rfl, hdram]

theorem load_noCopy (ha : readCopy l.a a s = none) (hb : ∀ y, slotB l = some y → readCopy y b s = none) :
    entryOf g (tailHeld (finishLoad g a b s)) = { st := .dirty } ∧ (∀ i < 64, poisoned g i (tailHeld (finishLoad g a b s)) = true) ∧
    (tailHeld (finishLoad g a b s)).restore.ue = satAdd max32 s.restore.ue 1 ∧
    (tailHeld (finishLoad g a b s)).restore.poisonPresent = true ∧ g ∉ (tailHeld (finishLoad g a b s)).restore.loading ∧
    (∀ h, h ≠ g → entryOf h (tailHeld (finishLoad g a b s)) = entryOf h s) := by
  have hserved := tailHeld_finishLoad (a := a) (b := b) hw hh
  obtain ⟨u, hu, heq⟩ := loadGranule_of_none hst hl ha hb
  obtain ⟨-, hv, -, -, hue⟩ := loadedBytes_changes hu
  obtain ⟨he, ho, hpo, hre, hpp⟩ := poisonAtRestore_poisons (g := g) hs hv
  have hf (v : State) : Changes 0x4c0c0020 v (engineFault 18 (4096 * g) v) := engineFault_changes _ _ (.self _) (.refl _ v)
  generalize poisonAtRestore g (countRestoreUe (loadedBytes u)) = w at heq he ho hpo hre hpp
  have hentry (h : Nat) : entryOf h (tailHeld (finishLoad g a b s)) = entryOf h w := by
    rw [entryOf_congr hserved.map, heq, entryOf_congr (congrArg CacheSt.map ((hf w).cache rfl))]
  obtain ⟨-, c2, c3⟩ := hserved.counts
  rw [heq, (hf w).restore rfl] at c2 c3
  refine ⟨(hentry g).trans he, fun i hi => ?_, by rw [c2, hre, hue], c3.trans hpp, hserved.loading (loadGranule_loading g a b s),
    fun h hh => (hentry h).trans (ho h hh)⟩
  rw [poisoned_congr hserved.poison, heq, poisoned_congr (congrArg CacheSt.poison ((hf w).cache rfl)), hpo i hi]

end Outcome

/-! ### The read that waits (R261) -/

/-- The one read that waits is answered from what the load leaves. -/
theorem load_answers {f : Fetch} {r : ReadReq} (a b : CopyRead) (hf : fetchOf g s = some f) (hr : f.reads = [r]) (hw : f.writes = [])
    (hh : inTail s = true → s.stg.heldq = []) :
    KeepsSent (answerRead r.tag r.dpa (takeFetch g (loadGranule g a b s))) (tailHeld (finishLoad g a b s)) := by
  have hserve : serveFetch g (loadGranule g a b s) = answerRead r.tag r.dpa (takeFetch g (loadGranule g a b s)) := by
    rw [serveFetch_of_some (((loadGranule_loadOnly g a b s).fetchOf_eq g).trans hf), hr, hw]
    rfl
  rw [tailHeld_finishLoad_eq (fun f' hf' => by rw [hf] at hf'; injection hf' with h; rw [← h, hw]) hh, finishLoad, hserve]
  exact (checkComplete_finished g _).sent

section Answer
variable {f : Fetch} {r : ReadReq} (hf : fetchOf g s = some f) (hr : f.reads = [r]) (hw : f.writes = []) (hd : ddrInReset s = false)
  (hg : r.dpa / 4096 = g) (hh : inTail s = true → s.stg.heldq = [])
include hf hr hw hd hg hh

theorem demandFetch_answers {x : List Host.Cell × BitVec 64} (hst : (entryOf g s).st = .restorePending) (hl : tfind s.cache.loc g = some l)
    (hs : Sound s) (hx : readCopy l.a a s = some x) (hp : poisoned g (r.dpa % 4096 / 64) s = false)
    (hxp : x.2.getLsbD (r.dpa % 4096 / 64) = false) : ∃ t n, exec (.demandFetchComplete g a b) s = .next t ∧
      .read r.tag n (readLine (writeGranule g x.1 s) (r.dpa / 64 * 64)) false ∈ t.sent := by
  have hsent := load_answers a b hf hr hw hh
  obtain ⟨u, hu, heq⟩ := loadGranule_of_a (b := b) hst hl hx
  obtain ⟨hv, -, -, -, -⟩ := loadedBytes_changes hu
  obtain ⟨he, -, hdram, hpo, -⟩ := setEntry_placeCopy (g := g) hs hv { st := if copiesRetired l s then .dirty else .clean } x
  rw [← heq] at he hdram hpo
  obtain ⟨v, hvdef, hmap, hpoison, hvd, -⟩ := takeFetch_finished g (loadGranule g a b s)
  rw [hvdef] at hsent
  refine ⟨_, devLoad v, exec_load (.inr ⟨rfl, by rw [hf]; simp⟩) hd, hsent.mem ?_⟩
  have hans := (answerRead_sent r.tag r.dpa v).1
  rw [hg, poisoned_congr hpoison, hpo, hp, hxp, entryOf_congr hmap, he, readLine_congr (hvd.trans hdram)] at hans
  rw [hans rfl (by dsimp only; split <;> simp)]
  exact List.mem_cons_self

theorem demandFetch_poisons (hst : (entryOf g s).st = .restorePending) (hl : tfind s.cache.loc g = some l) (hs : Sound s)
    (ha : readCopy l.a a s = none) (hb : ∀ y, slotB l = some y → readCopy y b s = none) :
    ∃ t n d, exec (.demandFetchComplete g a b) s = .next t ∧ .read r.tag n d true ∈ t.sent := by
  have hsent := load_answers a b hf hr hw hh
  obtain ⟨u, hu, heq⟩ := loadGranule_of_none hst hl ha hb
  obtain ⟨-, hv, -, -, -⟩ := loadedBytes_changes hu
  obtain ⟨-, -, hpo, -, -⟩ := poisonAtRestore_poisons (g := g) hs hv
  have hfc (v : State) : Changes 0x4c0c0020 v (engineFault 18 (4096 * g) v) := engineFault_changes _ _ (.self _) (.refl _ v)
  generalize poisonAtRestore g (countRestoreUe (loadedBytes u)) = w at heq hpo
  obtain ⟨v, hvdef, -, hpoison, -⟩ := takeFetch_finished g (loadGranule g a b s)
  rw [hvdef] at hsent
  have hpv : poisoned g (r.dpa % 4096 / 64) v = true := by
    rw [poisoned_congr hpoison, heq, poisoned_congr (congrArg CacheSt.poison ((hfc w).cache rfl)), hpo _ (by omega)]
  have hans := (answerRead_sent r.tag r.dpa v).2.2
  rw [hg] at hans
  obtain ⟨d, hans⟩ := hans hpv
  refine ⟨_, devLoad v, d, exec_load (.inr ⟨rfl, by rw [hf]; simp⟩) hd, hsent.mem ?_⟩
  rw [hans]
  exact List.mem_cons_self

/-- A read that waits for a granule that has come back meanwhile is answered with its line. -/
theorem demandFetch_clean (a b : CopyRead) (hst : (entryOf g s).st = .clean) (hp : poisoned g (r.dpa % 4096 / 64) s = false) :
    ∃ t n, exec (.demandFetchComplete g a b) s = .next t ∧ .read r.tag n (readLine s (r.dpa / 64 * 64)) false ∈ t.sent ∧
      fetchOf g t = none ∧ t.cache.map = s.cache.map ∧ t.dram = s.dram := by
  have hsent := load_answers a b hf hr hw hh
  have hserved := tailHeld_finishLoad (a := a) (b := b) (fun f' hf' => by rw [hf] at hf'; injection hf' with h; rw [← h, hw]) hh
  have heq : loadGranule g a b s = loadFrom g s := loadGranule_of_ne (by rw [hst]; decide)
  rw [heq] at hsent hserved
  obtain ⟨v, hvdef, hmap, hpoison, hvd, -⟩ := takeFetch_finished g (loadFrom g s)
  rw [hvdef] at hsent
  refine ⟨_, devLoad v, exec_load (.inr ⟨rfl, by rw [hf]; simp⟩) hd, hsent.mem ?_, hserved.fetch, hserved.map, hserved.dram⟩
  have hans := (answerRead_sent r.tag r.dpa v).1
  have hpv : poisoned g (r.dpa % 4096 / 64) v = false := (poisoned_congr (s := s) hpoison ..).trans hp
  have hev : (entryOf g v).st = .clean := (congrArg Entry.st (entryOf_congr (s := s) hmap g)).trans hst
  rw [hg, readLine_congr (s := s) hvd] at hans
  rw [hans hpv (by rw [hev]; decide)]
  exact List.mem_cons_self

end Answer

/-! ### The write that waits (R262) -/

theorem fits_congr (hd : t.drf = s.drf) (hc : t.chg = s.chg) (hs : t.stg = s.stg) (hm : t.mbx = s.mbx)
    (hmap : t.cache.map = s.cache.map) (n : Nat) : fits n t = fits n s := by
  have hcount : countedBytes t = countedBytes s := by
    rw [countedBytes, countedBytes, hmap]
    simp only [boltOf_congr hd, isDuplex_congr hd]
  rw [fits, fits, fixedTerms, fixedTerms, energyFor, energyFor, hcount, inTail_congr hc, hs, hm, setting_congr hd]

theorem costOf_congr (hd : t.drf = s.drf) (g : Nat) : costOf g t = costOf g s := by
  rw [costOf, costOf, boltOf_congr hd, isDuplex_congr hd]

theorem atCap_congr (hd : t.drf = s.drf) (hcaps : t.cache.caps = s.cache.caps) (hmap : t.cache.map = s.cache.map) (n : Nat) :
    atCap n t = atCap n s := by
  have hres : residualOf n t = residualOf n s := by
    rw [residualOf, residualOf, hmap]
    simp only [boltOf_congr hd]
  rw [atCap, atCap, hcaps, hres]

/-- The one write that waits, admitted by what the load leaves, commits. -/
theorem demandFetch_writes {f : Fetch} {w : HeldWrite} (hf : fetchOf g s = some f) (hr : f.reads = []) (hw : f.writes = [w])
    (hd : ddrInReset s = false) (hg : w.dpa / 4096 = g) (hu : u = loadGranule g a b s) (hst : (entryOf g u).st ≠ .restorePending)
    (hadm : admitting s = true) (hb : boltDiscards (boltOf s g) s = false) (htail : inTail s = false)
    (hcase : inRes (entryOf g u) = true ∨ tget [] s.cache.capq (boltOf s g) = [] ∧ atCap (boltOf s g) u = false ∧ s.stg.heldq = [] ∧
      fits (costOf g u) u = true) (hs : Sound s) :
    ∃ t n, exec (.demandFetchComplete g a b) s = .next t ∧ .written w.tag n ∈ t.sent ∧ (entryOf g t).st = .dirty ∧
      fetchOf g t = none ∧
      (∀ i < 64, w.be.getLsbD i = true → readByte t (w.dpa / 64 * 64 + i) = w.data.extractLsb' (8 * i) 8) := by
  subst hg
  have hl : LoadOnly (w.dpa / 4096) s u := hu ▸ loadGranule_loadOnly _ a b s
  obtain ⟨v, hvdef⟩ : ∃ v, takeFetch (w.dpa / 4096) u = v := ⟨_, rfl⟩
  have hv : Changes 0x82000001 u v := hvdef ▸ takeFetch_changes _ u
  have hvc : v.cache = { u.cache with fetches := u.cache.fetches.filter (fun x => x.granule ≠ w.dpa / 4096) } := hvdef ▸ takeFetch_cache _ u
  have hdrf : v.drf = s.drf := (hv.drf rfl).trans (hl.changes.drf rfl)
  have hbolt : boltOf v (w.dpa / 4096) = boltOf s (w.dpa / 4096) := boltOf_congr hdrf _
  have hmap : v.cache.map = u.cache.map := by rw [hvc]
  have hentry : entryOf (w.dpa / 4096) v = entryOf (w.dpa / 4096) u := entryOf_congr hmap _
  have hadm' : admitting v = true := by rw [admitting, hv.vlt rfl, hl.serving.state, ← admitting, hadm]
  have hb' : boltDiscards (boltOf v (w.dpa / 4096)) v = false := by
    rw [hbolt, boltDiscards, hv.nand rfl, hl.shed.1, hl.shed.2, ← boltDiscards, hb]
  have htail' : inTail v = false := by rw [inTail_congr ((hv.chg rfl).trans (hl.changes.chg rfl)), htail]
  have hserve : serveWrite w v = admitWrite w v := serveWrite_admitted hadm' hb' (by rw [hentry]; exact hst)
  obtain ⟨x, hx, hxc⟩ : ∃ x, serveWrite w v = x ∧ Changes 0x4c040c10 (commit w v) x ∧ KeepsSent (commit w v) x := by
    by_cases hres : inRes (entryOf (w.dpa / 4096) v) = true
    · exact ⟨_, hserve.trans (admitWrite_of_inRes hres htail'), .refl _ _, .of_eq rfl⟩
    · rw [Bool.not_eq_true] at hres
      obtain ⟨hq, hcap, hheld, hfits⟩ := hcase.resolve_left (by rw [← hentry, hres]; decide)
      obtain ⟨_, _, _, _, _, _, _, hrest⟩ := hl.rest
      have hheld' : v.stg.heldq = [] := by rw [hv.stg rfl, hl.changes.stg rfl, hheld]
      have hq' : tget [] v.cache.capq (boltOf v (w.dpa / 4096)) = [] := by
        rw [hbolt, hvc, hrest]
        exact hq
      have hcap' : atCap (boltOf v (w.dpa / 4096)) v = false := by
        rw [hbolt, atCap_congr (hv.drf rfl) (by rw [hvc]) hmap, hcap]
      have hfits' : fits (costOf (w.dpa / 4096) v) v = true := by
        rw [costOf_congr (hv.drf rfl), fits_congr (hv.drf rfl) (hv.chg rfl) (hv.stg rfl) (hv.mbx rfl) hmap, hfits]
      have hcommit : (commit w v).stg.heldq = [] := by rw [(commit_changes' w v).stg rfl, hheld']
      refine ⟨_, hserve.trans ((admitWrite_of_room hres hq' hcap').trans ((admitBudget_of_fits hres hheld' hfits').trans
        (evaluate_of_nil hcommit))), reefFlags_changes' _, reefFlags_keepsSent (.of_eq rfl)⟩
  have hfinish : finishLoad (w.dpa / 4096) a b s = checkComplete x := by
    rw [finishLoad, ← hu, serveFetch_of_some ((hl.fetchOf_eq _).trans hf), hr, hw, hvdef]
    exact congrArg checkComplete hx
  have hck := checkComplete_finished (w.dpa / 4096) x
  have hchg : (checkComplete x).chg = v.chg := hck.held.2.trans ((hxc.1.chg rfl).trans ((commit_changes' w v).chg rfl))
  have hexec : exec (.demandFetchComplete (w.dpa / 4096) a b) s = .next (checkComplete x) := by
    rw [exec_load (.inr ⟨rfl, by rw [hf]; simp⟩) hd, hfinish, tailHeld_of_not_inTail (by rw [inTail_congr hchg, htail'])]
  refine ⟨_, devLoad v, hexec, hck.sent.mem (hxc.2.mem ?_), ?_, ?_, fun i hi hbe => ?_⟩
  · rw [commit_sent]
    exact List.mem_cons_self
  · rw [entryOf_congr hck.map, entryOf_congr (congrArg CacheSt.map (hxc.1.cache rfl)), entryOf_commit]
  · rw [hck.fetch, fetchOf, hxc.1.cache rfl, ← fetchOf]
    obtain ⟨_, _, _, _, _, _, _, hrest⟩ := commit_rest w v
    rw [fetchOf, hrest, ← fetchOf, ← hvdef, fetchOf_takeFetch]
  · rw [readByte_congr (hck.dram.trans (hxc.1.dram rfl)), readByte_commit_line (hv.sound (hl.changes.sound hs)) rfl hi, if_pos hbe]

theorem granuleLoad_none (h : s.restore.loading.contains g = false ∨ ddrInReset s = true) : exec (.granuleLoadDone g a b) s = .next s := by
  change execGranuleLoadDone g a b s = _
  rw [execGranuleLoadDone, if_neg]
  rcases h with h | h <;> rw [h] <;> simp

theorem demandFetch_none (h : fetchOf g s = none ∨ ddrInReset s = true) : exec (.demandFetchComplete g a b) s = .next s := by
  change execDemandFetchComplete g a b s = _
  rw [execDemandFetchComplete, if_neg]
  rcases h with h | h <;> rw [h] <;> simp

theorem backgroundLoad_takes (hr : loadsRun s = true) (hn : nextLoad s = some g) :
    exec .backgroundLoad s = .next { s with restore := { s.restore with loading := s.restore.loading ++ [g] } } := by
  change execBackgroundLoad s = _
  rw [execBackgroundLoad, if_pos hr, hn]

theorem backgroundLoad_none (h : loadsRun s = false ∨ nextLoad s = none) : exec .backgroundLoad s = .next s := by
  change execBackgroundLoad s = _
  rw [execBackgroundLoad]
  split
  next hr =>
    rw [h.resolve_left (by rw [hr]; decide)]
  next => rfl

end Loads
end Sys2Proof.Machine

/-! PROOFS. Discovery brings targets and channels up (06_flash_image_format.md, Discovery and initialisation). -/

namespace Sys2Proof.Machine

section Discovery
variable {s t u : State} {x tg n : Nat} {d : Discovered}

/-! ### What the retirement of blocks leaves of targets and channels (R218 to R220) -/

/-- The targets and the channels are tables. -/
def Tabled (s : State) : Prop := keysUp none s.nand.targets = true ∧ keysUp none s.nand.ch = true

/-- A target as retirement leaves it: it stays as ready as it was, and is retired only with a full table of bad blocks. -/
structure TargetKept (x y : Target) : Prop where
  ready : y.ready = x.ready
  mfr : y.mfr = x.mfr
  device : y.device = x.device
  bbt : x.bbt.length ≤ y.bbt.length
  retired : y.retired = x.retired ∨ y.retired = true ∧ 512 ≤ y.bbt.length

theorem TargetKept.refl (x : Target) : TargetKept x x := ⟨rfl, rfl, rfl, le_rfl, .inl rfl⟩

theorem TargetKept.trans {x y z : Target} (h : TargetKept x y) (k : TargetKept y z) : TargetKept x z where
  ready := k.ready.trans h.ready
  mfr := k.mfr.trans h.mfr
  device := k.device.trans h.device
  bbt := h.bbt.trans k.bbt
  retired := by
    rcases k.retired with hk | hk
    · rcases h.retired with hh | ⟨hh, hb⟩
      · exact .inl (hk.trans hh)
      · exact .inr ⟨hk.trans hh, hb.trans k.bbt⟩
    · exact .inr hk

/-- Targets are kept, and every channel stands. -/
structure KeepsTargets (s t : State) : Prop where
  tabled : Tabled s → Tabled t
  target : Tabled s → ∀ x, TargetKept (targetAt x s) (targetAt x t)
  channels : t.nand.ch = s.nand.ch

theorem KeepsTargets.of_eq (ht : t.nand.targets = s.nand.targets) (hc : t.nand.ch = s.nand.ch) : KeepsTargets s t :=
  ⟨fun ⟨h, k⟩ => ⟨by rwa [ht], by rwa [hc]⟩, fun _ x => by rw [targetAt, targetAt, ht]; exact .refl _, hc⟩

theorem KeepsTargets.of_nand (h : t.nand = s.nand) : KeepsTargets s t := .of_eq (by rw [h]) (by rw [h])

theorem KeepsTargets.refl (s : State) : KeepsTargets s s := .of_nand rfl

theorem KeepsTargets.trans (h : KeepsTargets s t) (k : KeepsTargets t u) : KeepsTargets s u :=
  ⟨fun hs => k.tabled (h.tabled hs), fun hs x => (h.target hs x).trans (k.target (h.tabled hs) x), k.channels.trans h.channels⟩

theorem Changes.keepsTargets (h : Changes 0xfffffff7 s t) : KeepsTargets s t := .of_nand (h.nand rfl)

theorem KeepsTargets.foldl {α : Type} {f : State → α → State} (h : ∀ s a, KeepsTargets s (f s a)) (l : List α) (s : State) :
    KeepsTargets s (l.foldl f s) := by
  induction l generalizing s with
  | nil => exact .refl s
  | cons a l ih => exact (h s a).trans (ih _)

theorem modTarget_keepsTargets {f : Target → Target} (hf : TargetKept (targetAt x s) (f (targetAt x s))) :
    KeepsTargets s (modTarget x f s) := by
  refine ⟨fun ⟨h, k⟩ => ⟨modTarget_keepsUp h x f, k⟩, fun ⟨h, _⟩ y => ?_, rfl⟩
  rw [targetAt_modTarget h]
  split
  next hy =>
    rw [hy]
    exact hf
  next => exact .refl _

theorem modBlock_keepsTargets (b : Nat) (f : Block → Block) (s : State) : KeepsTargets s (modBlock b f s) := .of_eq rfl rfl

theorem programPage_keepsTargets (p type epoch : Nat) (units : List NandUnit) (a b c : Bool) (q : Option Nat) (s : State) :
    KeepsTargets s (programPage p type epoch units a b c q s) := by
  have hopen : KeepsTargets s (openBlock p s) := by
    have hseq (k : Nat) (f : Block → Block) : KeepsTargets s
        (modBlock k f (modTarget (ptrTarget p) (fun x => { x with blockSeq := x.blockSeq + 1 }) s)) :=
      (modTarget_keepsTargets (f := fun x => { x with blockSeq := x.blockSeq + 1 }) ⟨rfl, rfl, rfl, le_rfl, .inl rfl⟩).trans
        (modBlock_keepsTargets ..)
    unfold openBlock
    dsimp only
    refine KeepsTargets.trans ?_ (modBlock_keepsTargets ..)
    split
    · exact hseq ..
    · exact .refl s
  have honfi (v : State) : KeepsTargets v (onfiPslc (ptrTarget p) (.pageProgram p) v) :=
    (onfiPslc_changes _ _ (by rfl) (.refl _ v)).keepsTargets
  have hsample (x y : Nat) (v : State) : KeepsTargets v (sampleFree x y v) := (sampleFree_changes x y (by rfl) (.refl _ v)).keepsTargets
  have hpages (v : State) (l : Table Page) (m k : List Nat) :
      KeepsTargets v { v with nand := { v.nand with pages := l, badHeaders := m, badSlots := k } } := .of_eq rfl rfl
  unfold programPage
  exact (hopen.trans (honfi _)).trans ((hpages _ _ _ _).trans (hsample _ _ _))

theorem writeRoot_keepsTargets (x : Nat) (s : State) : KeepsTargets s (writeRoot x s) := by
  have hcount (k : Nat) (g : Nat → Nat) (v : State) : KeepsTargets v (modTarget k (fun x => { x with erases := g x.erases }) v) :=
    modTarget_keepsTargets (f := fun x => { x with erases := g x.erases }) ⟨rfl, rfl, rfl, le_rfl, .inl rfl⟩
  have herase (b : Nat) (v : State) : KeepsTargets v (eraseRoot b v) := by
    have honfi : KeepsTargets v (onfiPslc (blockTarget b) (.blockErase b) v) := (onfiPslc_changes _ _ (by rfl) (.refl _ v)).keepsTargets
    have hpages (w : State) (l : Table Page) : KeepsTargets w { w with nand := { w.nand with pages := l } } := .of_eq rfl rfl
    unfold eraseRoot
    exact honfi.trans ((hpages _ _).trans ((modBlock_keepsTargets ..).trans (hcount _ (· + 1) _)))
  have hroom (b k : Nat) (v : State) : KeepsTargets v (rootRoom b k v) := by
    unfold rootRoom
    split
    · exact .refl v
    · exact herase b v
  unfold writeRoot
  extract_lets roots old b k
  split
  · exact .refl s
  · extract_lets v r
    have hv : KeepsTargets s v := (hroom _ _ s).trans (hcount x (· % 64) _)
    exact hv.trans (.foldl (fun _ _ => programPage_keepsTargets ..) _ _)

/-- Held writes released count discards alone in the flash. -/
theorem releaseHeld_keepsTargets (k : Nat) (s : State) : KeepsTargets s (releaseHeld k s) := by
  have hpop (w : List HeldWrite) (v : State) : KeepsTargets v { v with stg := { v.stg with heldq := w } } := .of_nand rfl
  have hdiscard (w : HeldWrite) (v : State) : KeepsTargets v (discardShed w v) := .of_eq rfl rfl
  have hcommit (w : HeldWrite) (v : State) : KeepsTargets v (commit w v) := (commit_changes w (by rfl) (.refl _ v)).keepsTargets
  have hsample (v : State) : KeepsTargets v (sampleFree 8 0 v) := (sampleFree_changes 8 0 (by rfl) (.refl _ v)).keepsTargets
  have hjoin (b : Nat) (w : HeldWrite) (v : State) : KeepsTargets v (joinCapQueue b w v) :=
    (joinCapQueue_changes b w (by rfl) (.refl _ v)).keepsTargets
  induction k generalizing s with
  | zero => exact .refl s
  | succ k ih =>
    rw [releaseHeld]
    split
    · exact .refl s
    dsimp only
    split
    · exact (((hpop ..).trans (hdiscard ..)).trans (hsample _)).trans (ih _)
    split
    · exact (((hpop ..).trans (hcommit ..)).trans (hsample _)).trans (ih _)
    split
    · exact ((hpop ..).trans (hjoin ..)).trans (ih _)
    split
    · exact (((hpop ..).trans (hcommit ..)).trans (hsample _)).trans (ih _)
    · exact (passHeld_changes (by rfl) (.refl _ s)).keepsTargets

theorem evaluate_keepsTargets (s : State) : KeepsTargets s (evaluate s) := by
  have hflags (v : State) : KeepsTargets v (reefFlags v) := (reefFlags_changes (by rfl) (.refl _ v)).keepsTargets
  unfold evaluate
  split
  · exact hflags s
  · exact (releaseHeld_keepsTargets ..).trans (hflags _)

theorem engineFault_keepsTargets (n d : Nat) (s : State) : KeepsTargets s (engineFault n d s) :=
  (engineFault_changes n d (by rfl) (.refl _ s)).keepsTargets

theorem noChannel_keepsTargets (s : State) : KeepsTargets s (noChannel s) := (noChannel_changes (by rfl) (.refl _ s)).keepsTargets

/-- A block entered as bad grows its target's table, and retires the target where the table is full (R219). -/
theorem enterBad_keepsTargets (b cause : Nat) (s : State) : KeepsTargets s (enterBad b cause s) := by
  have hset (g : Nat) (v : State) : KeepsTargets v (setState g .dirty v) := (setState_changes g .dirty (by rfl) (.refl _ v)).keepsTargets
  unfold enterBad
  extract_lets k v on w
  split
  · exact .refl s
  split
  · refine (modTarget_keepsTargets (f := fun x => { x with bbt := x.bbt ++ [(cause, b % 2 ^ 21)] }) ?_).trans (writeRoot_keepsTargets ..)
    exact ⟨rfl, rfl, rfl, by simp, .inl rfl⟩
  next hlen =>
    have hv : KeepsTargets s v := modTarget_keepsTargets (f := fun x => { x with retired := true, permanent := true, cause := 2 })
      ⟨rfl, rfl, rfl, le_rfl, .inr ⟨rfl, not_lt.1 hlen⟩⟩
    have hw : KeepsTargets s w := by
      unfold w
      split
      · exact hv
      · refine hv.trans (.foldl (fun p e => ?_) _ _)
        split
        · exact hset ..
        · exact .refl _
    exact hw.trans ((engineFault_keepsTargets ..).trans ((evaluate_keepsTargets _).trans (noChannel_keepsTargets _)))

theorem spareCheck_keepsTargets (s : State) : KeepsTargets s (spareCheck s) := by
  have hre : KeepsTargets s (reassessStore s) := by
    have hclear (v : State) : KeepsTargets v (engineClear 19 v) := (engineClear_changes 19 (by rfl) (.refl _ v)).keepsTargets
    unfold reassessStore
    extract_lets n v m w
    have hv : KeepsTargets s v := .of_eq rfl rfl
    have hw : KeepsTargets s w := .of_eq rfl rfl
    split
    · exact .refl s
    split
    · exact hw.trans (KeepsTargets.trans (.of_eq (by rfl) (by rfl)) (hclear _))
    · exact hv
  have hshed (k : Nat) (v : State) : KeepsTargets v (shedBolts k v) := by
    induction k generalizing v with
    | zero => exact .refl v
    | succ k ih =>
      unfold shedBolts
      split
      · exact .refl v
      split
      · exact .refl v
      next m _ =>
        have hm : KeepsTargets v (msix 6 (postEvent 1 4 m [m] v)) :=
          (msix_changes 6 (by rfl) (postEvent_changes _ _ _ _ (by rfl) (.refl _ v))).keepsTargets
        exact (hm.trans (.of_eq (by rfl) (by rfl))).trans (ih _)
  have hdeg (v : State) (b : List Nat) : KeepsTargets v (engineFault 19 0 (msix 6 (postEvent 1 3 0xFF b v))) :=
    (engineFault_changes 19 0 (by rfl) (msix_changes 6 (by rfl) (postEvent_changes _ _ _ _ (by rfl) (.refl _ v)))).keepsTargets
  unfold spareCheck
  split
  · exact .refl s
  dsimp only
  split
  · exact hre
  split
  · exact hre.trans (hshed ..)
  · exact (hre.trans (KeepsTargets.trans (.of_eq (by rfl) (by rfl)) (hdeg _ _))).trans (hshed ..)

theorem retireBlocks_keepsTargets (s : State) : KeepsTargets s (retireBlocks s) := by
  unfold retireBlocks
  extract_lets limit n v w
  have hv : KeepsTargets s v := .of_eq rfl rfl
  have hw : KeepsTargets v w := by
    unfold w enterRetired
    exact (KeepsTargets.foldl (fun _ _ => enterBad_keepsTargets ..) _ v).trans (.foldl (fun _ _ => enterBad_keepsTargets ..) _ _)
  split
  · exact hv
  · exact (hv.trans hw).trans (spareCheck_keepsTargets _)

/-! ### A target found (R224 to R227) -/

/-- The belay flag and the draft: what no discovery changes. -/
def SameSetting (s t : State) : Prop := t.flt.belay = s.flt.belay ∧ t.drf = s.drf

theorem SameSetting.trans (h : SameSetting s t) (k : SameSetting t u) : SameSetting s u := ⟨k.1.trans h.1, k.2.trans h.2⟩

theorem engineFault_sameSetting (n d : Nat) (s : State) : SameSetting s (engineFault n d s) := by
  obtain ⟨_, _, h⟩ := engineFault_flt n d s
  exact ⟨by rw [h], (engineFault_changes n d (m' := 0x4c0c0020) (by rfl) (.refl _ s)).drf rfl⟩

theorem modTarget_tabled (h : Tabled s) (x : Nat) (f : Target → Target) : Tabled (modTarget x f s) := ⟨modTarget_keepsUp h.1 x f, h.2⟩

theorem engineFault_targets (n d : Nat) (s : State) : (engineFault n d s).nand = s.nand :=
  (engineFault_changes n d (m' := 0x4c0c0020) (by rfl) (.refl _ s)).nand rfl

/-- What a root record, or the factory's table, leaves of a target: it is lost only with a full table of bad blocks. -/
theorem loadTarget_keeps (d : Discovered) (h : Tabled s) : Tabled (loadTarget d s) ∧ SameSetting s (loadTarget d s) ∧
    (targetAt d.target (loadTarget d s)).mfr = (targetAt d.target s).mfr ∧
    (targetAt d.target (loadTarget d s)).device = (targetAt d.target s).device ∧
    ((targetAt d.target s).permanent = false → (targetAt d.target (loadTarget d s)).permanent = true →
      512 ≤ (targetAt d.target (loadTarget d s)).bbt.length) := by
  unfold loadTarget
  extract_lets x v
  split
  next r _ =>
    have hcut (v : State) : (cutBlocks x d.cut v).nand.targets = v.nand.targets ∧ (cutBlocks x d.cut v).nand.ch = v.nand.ch ∧
        SameSetting v (cutBlocks x d.cut v) := by
      have hfold (l : List Nat) (w : State) : (l.foldl (fun s b => modBlock b (fun x => { x with erased := false, next := 4096 }) s) w).nand.targets =
          w.nand.targets ∧ (l.foldl (fun s b => modBlock b (fun x => { x with erased := false, next := 4096 }) s) w).nand.ch = w.nand.ch := by
        induction l generalizing w with
        | nil => exact ⟨rfl, rfl⟩
        | cons b l ih => exact ih _
      have hc := cutBlocks_changes x d.cut (m' := 0x8) (by rfl) (.refl _ v)
      unfold cutBlocks at hc ⊢
      exact ⟨(hfold _ _).1, (hfold _ _).2, congrArg FltSt.belay (hc.flt rfl), hc.drf rfl⟩
    let v : State := modTarget x (fun y => { y with bbt := r.2.bbt }) s
    obtain ⟨hct, hcc, hcs⟩ := hcut v
    generalize hw : cutBlocks x d.cut v = w at hct hcc hcs
    have hv : Tabled v := modTarget_tabled h ..
    have hwt : Tabled w := ⟨by rw [hct]; exact hv.1, by rw [hcc]; exact hv.2⟩
    have hat : targetAt x w = { targetAt x s with bbt := r.2.bbt } := by
      rw [targetAt, hct, ← targetAt, targetAt_modTarget h.1, if_pos rfl]
    let y : State := { w with nand := { w.nand with blocks := w.nand.blocks.map (fun e =>
      (e.1, if blockTarget e.1 = x then rebuildBlock w (tget r.2.fresh r.2.pe e.1) e.1 e.2 else e.2)) } }
    have hy : Tabled y := hwt
    have hfin : targetAt x (rebuildCounters x r.2 w) = { targetAt x w with fresh := satAdd 16777215 r.2.fresh 1 } :=
      (targetAt_modTarget (s := y) hy.1 x x _).trans (if_pos rfl)
    refine ⟨modTarget_tabled (s := y) hy .., ⟨hcs.1, hcs.2⟩, by rw [hfin, hat], by rw [hfin, hat], fun hp hq => ?_⟩
    rw [hfin, hat] at hq
    exact absurd (hq.symm.trans hp) (by decide)
  next =>
    have hv : Tabled v := modTarget_tabled h ..
    have hat : targetAt x v = { targetAt x s with bbt := (d.factoryBad.take 512).map (fun b => (0, b)) } := by
      rw [targetAt_modTarget h.1, if_pos rfl]
    split
    next hlen =>
      let w : State := modTarget x (fun y => { y with retired := true, permanent := true, cause := 2 }) v
      have hw : targetAt x w = { targetAt x v with retired := true, permanent := true, cause := 2 } := by
        rw [targetAt_modTarget hv.1, if_pos rfl]
      have hn : (engineFault 21 x w).nand = w.nand := engineFault_targets ..
      have hf : targetAt x (engineFault 21 x w) = targetAt x w := by rw [targetAt, hn, ← targetAt]
      have hwt : Tabled w := modTarget_tabled hv ..
      refine ⟨⟨by rw [hn]; exact hwt.1, by rw [hn]; exact hwt.2⟩, engineFault_sameSetting 21 x w, ?_, ?_, fun _ _ => ?_⟩
      · rw [hf, hw, hat]
      · rw [hf, hw, hat]
      · rw [hf, hw, hat]
        dsimp only
        rw [List.length_map, List.length_take]
        omega
    next =>
      exact ⟨hv, ⟨rfl, rfl⟩, by rw [hat], by rw [hat], fun hp hq => absurd ((hat ▸ hq).symm.trans hp) (by decide)⟩

theorem newestRoot_congr (h : t.nand.pages = s.nand.pages) (x : Nat) (bad : List Nat) : newestRoot x bad t = newestRoot x bad s := by
  rw [newestRoot, h, ← newestRoot]

theorem hasRoot_congr (h : t.nand.pages = s.nand.pages) (d : Discovered) : hasRoot d t = hasRoot d s := by
  rw [hasRoot, hasRoot, everRooted, everRooted]
  simp only [newestRoot_congr h]

theorem identified_congr (h : t.drf = s.drf) (d : Discovered) : identified d t = identified d s := by
  have hd : descAt d.target t = descAt d.target s := by rw [descAt, h, ← descAt]
  rw [identified, hd, ← identified]

/-- A target that is identified, trained and rooted is ready, and works unless its table of bad blocks is full. -/
theorem discoverTarget_ready (h : Tabled s) (hd : declared d.target s = true) (hr : (targetAt d.target s).ready = false)
    (hp : (targetAt d.target s).permanent = false) (hi : identified d s = true) (ht : d.trained = true) (hroot : hasRoot d s = true) :
    Tabled (discoverTarget s d) ∧ SameSetting s (discoverTarget s d) ∧ (targetAt d.target (discoverTarget s d)).ready = true ∧
    (targetAt d.target (discoverTarget s d)).mfr = d.mfr ∧ (targetAt d.target (discoverTarget s d)).device = d.device ∧
    ((targetAt d.target (discoverTarget s d)).bbt.length < 512 → (targetAt d.target (discoverTarget s d)).retired = false) := by
  let x := d.target
  obtain ⟨a, ha, hac⟩ : ∃ a, identifyOps d s = a ∧ Changes 0x40000000 s a := ⟨_, rfl, identifyOps_changes d (.self _) (.refl _ s)⟩
  have hat : Tabled a := by
    rw [Tabled, hac.nand rfl]
    exact h
  let b : State := modTarget x (fun y => { y with mfr := d.mfr, device := d.device, idle := true }) a
  have hb : targetAt x b = { targetAt x s with mfr := d.mfr, device := d.device, idle := true } := by
    rw [targetAt_modTarget hat.1, if_pos rfl, targetAt, hac.nand rfl, ← targetAt]
  obtain ⟨c, hc, hcc⟩ : ∃ c, interfaceOps d b = c ∧ Changes 0x40000000 b c := ⟨_, rfl, interfaceOps_changes d (.self _) (.refl _ b)⟩
  obtain ⟨e, he, hec, ch, hen⟩ : ∃ e, countBadRoots d c = e ∧ Changes 0x40000008 c e ∧ ∃ ch, e.nand = { c.nand with ch := tmod {} (d.target / 8) ch c.nand.ch } := by
    have hfold (l : List Nat) (v : State) : (l.foldl (fun s p => retryReads p (onfi d.target (.pageRead p) s)) v).nand = v.nand := by
      induction l generalizing v with
      | nil => rfl
      | cons p l ih => exact (ih _).trans ((retryReads_changes p (m' := 0x40000000) (by rfl) (.refl _ _)).nand rfl)
    refine ⟨_, rfl, countBadRoots_changes d (.self _) (.refl _ c), fun k => { k with ue := satAdd (2 ^ 24 - 1) k.ue d.rootUe }, ?_⟩
    unfold countBadRoots
    rw [modChannel_nand, hfold]
  have hbt : Tabled b := modTarget_tabled hat ..
  have hct : Tabled c := by
    rw [Tabled, hcc.nand rfl]
    exact hbt
  have het : Tabled e := by
    rw [Tabled, hen]
    exact ⟨hct.1, keysUp_tmod _ _ _ hct.2⟩
  have hpages : e.nand.pages = s.nand.pages := by
    rw [hen, hcc.nand rfl]
    change a.nand.pages = _
    rw [hac.nand rfl]
  have hset : SameSetting s e := by
    refine ⟨?_, ?_⟩
    · rw [hec.flt rfl, hcc.flt rfl]
      exact congrArg FltSt.belay (hac.flt rfl)
    · rw [hec.drf rfl, hcc.drf rfl]
      exact hac.drf rfl
  have heat : targetAt x e = targetAt x b := by
    rw [targetAt, hen, hcc.nand rfl, ← targetAt]
  obtain ⟨hlt, hls, hlm, hld, hlp⟩ := loadTarget_keeps d het
  obtain ⟨w, hw⟩ : ∃ w, loadTarget d e = w := ⟨_, rfl⟩
  rw [hw] at hlt hls hlm hld hlp
  have hib : identified d b = true := (identified_congr (s := s) (hac.drf rfl) d).trans hi
  have hdef : discoverTarget s d = modTarget x (fun y => { y with ready := true, retired := y.permanent, cause := if y.permanent then 2 else 0 }) w := by
    unfold discoverTarget
    rw [if_neg (by simp [hd, hr])]
    dsimp only
    rw [ha, if_neg (by change ¬ (!identified d b) = true; rw [hib]; decide), hc, if_neg (by simp [ht]), he,
      if_pos (by rw [hasRoot_congr hpages, hroot]), hw]
  have hfin : targetAt x (discoverTarget s d) = { targetAt x w with
      ready := true, retired := (targetAt x w).permanent, cause := if (targetAt x w).permanent then 2 else 0 } := by
    rw [hdef, targetAt_modTarget hlt.1, if_pos rfl]
  refine ⟨by rw [hdef]; exact modTarget_tabled hlt .., by rw [hdef]; exact ⟨hls.1.trans hset.1, hls.2.trans hset.2⟩, ?_, ?_, ?_, fun hlen => ?_⟩
  · rw [hfin]
  · rw [hfin]
    exact hlm.trans (by rw [heat, hb])
  · rw [hfin]
    exact hld.trans (by rw [heat, hb])
  · rw [hfin] at hlen ⊢
    cases hq : (targetAt x w).permanent with
    | false => rfl
    | true =>
      have := hlp (by rw [heat, hb]; exact hp) hq
      exact absurd hlen (not_lt.2 this)

/-! ### NAND_DISCOVERY_DONE (R224, R227, R228) -/

/-- A target that does not answer is not ready and retired; the others stand. -/
theorem failTarget_fails (h : Tabled s) (k : Nat) : Tabled (failTarget k s) ∧ SameSetting s (failTarget k s) ∧
    (targetAt k (failTarget k s)).ready = false ∧ (targetAt k (failTarget k s)).retired = true ∧
    (∀ y, y ≠ k → targetAt y (failTarget k s) = targetAt y s) := by
  let f (x : Target) : Target := { x with ready := false, retired := true, cause := if x.permanent then 2 else 1 }
  let v : State := modTarget k f s
  have hn : (engineFault 20 k v).nand = v.nand := engineFault_targets ..
  have hat (y : Nat) : targetAt y (engineFault 20 k v) = if y = k then f (targetAt k s) else targetAt y s := by
    rw [targetAt, hn, ← targetAt, targetAt_modTarget h.1]
  have hv : Tabled v := modTarget_tabled h k f
  have hdef : failTarget k s = engineFault 20 k v := rfl
  rw [hdef]
  refine ⟨⟨by rw [hn]; exact hv.1, by rw [hn]; exact hv.2⟩, engineFault_sameSetting 20 k v, ?_, ?_, fun y hy => ?_⟩
  · rw [hat, if_pos rfl]
  · rw [hat, if_pos rfl]
  · rw [hat, if_neg hy]

theorem failTargets_fail (l : List Nat) (h : Tabled s) : Tabled (l.foldl (fun s t => failTarget t s) s) ∧
    SameSetting s (l.foldl (fun s t => failTarget t s) s) ∧
    (∀ y ∈ l, (targetAt y (l.foldl (fun s t => failTarget t s) s)).ready = false ∧
      (targetAt y (l.foldl (fun s t => failTarget t s) s)).retired = true) ∧
    (∀ y, y ∉ l → targetAt y (l.foldl (fun s t => failTarget t s) s) = targetAt y s) := by
  induction l generalizing s with
  | nil => exact ⟨h, ⟨rfl, rfl⟩, fun y hy => absurd hy List.not_mem_nil, fun _ _ => rfl⟩
  | cons k l ih =>
    obtain ⟨hk, hset, hready, hret, hother⟩ := failTarget_fails h k
    obtain ⟨hl, hset', hin, hout⟩ := ih hk
    rw [List.foldl_cons]
    refine ⟨hl, hset.trans hset', fun y hy => ?_, fun y hy => ?_⟩
    · by_cases hyl : y ∈ l
      · exact hin y hyl
      · obtain rfl : y = k := (List.mem_cons.1 hy).resolve_right hyl
        rw [hout y hyl]
        exact ⟨hready, hret⟩
    · rw [hout y (fun h => hy (List.mem_cons_of_mem _ h)), hother y (fun h => hy (h ▸ List.mem_cons_self))]

theorem tabled_of_sound (h : Sound s) : Tabled s := ⟨h.nand.targets, h.nand.channels⟩

/-- The targets of a channel that the draft declares. -/
def channelTargets (n : Nat) (s : State) : List Nat := ((List.range 8).map (fun e => 8 * n + e)).filter (fun t => declared t s)

theorem mem_channelTargets (hx : x / 8 = n) (hd : declared x s = true) : x ∈ channelTargets n s :=
  List.mem_filter.2 ⟨List.mem_map.2 ⟨x % 8, List.mem_range.2 (by omega), by omega⟩, hd⟩

/-- A channel judged by its targets `ts`: it works where one of them does, and is retired where none of those declared does. -/
def judgedBy (ts : List Nat) (v : State) (c : NandCh) : NandCh :=
  { c with
      trained := ts.any (fun t => (targetAt t v).ready && !(targetAt t v).retired)
      retired := !ts.isEmpty && !ts.any (fun t => (targetAt t v).ready && !(targetAt t v).retired)
      wpAsserted := c.wpAsserted && v.flt.belay }

/-- The end of a channel's discovery: the channel is judged by its targets `ts`, and blocks are retired. -/
def judgeChannel (n : Nat) (ts : List Nat) (v : State) : State :=
  noChannel (spareCheck (retireBlocks (modChannel n (judgedBy ts v) v)))

theorem judgeChannel_judges {ts : List Nat} {v : State} (hv : Tabled v) {b : Bool}
    (hb : ts.any (fun t => (targetAt t v).ready && !(targetAt t v).retired) = b) :
    (channelAt n (judgeChannel n ts v)).trained = b ∧ (channelAt n (judgeChannel n ts v)).retired = (!ts.isEmpty && !b) ∧
    (channelAt n (judgeChannel n ts v)).wpAsserted = ((channelAt n v).wpAsserted && v.flt.belay) ∧
    (∀ y, TargetKept (targetAt y v) (targetAt y (judgeChannel n ts v))) := by
  subst hb
  have hu : Tabled (modChannel n (judgedBy ts v) v) := ⟨hv.1, keysUp_tmod _ _ (judgedBy ts v) hv.2⟩
  have hk : KeepsTargets (modChannel n (judgedBy ts v) v) (noChannel (spareCheck (retireBlocks (modChannel n (judgedBy ts v) v)))) :=
    (retireBlocks_keepsTargets _).trans ((spareCheck_keepsTargets _).trans (noChannel_keepsTargets _))
  have hch : channelAt n (judgeChannel n ts v) = judgedBy ts v (channelAt n v) := by
    rw [channelAt, judgeChannel, hk.channels, ← channelAt, channelAt_modChannel hv.2, if_pos rfl]
  rw [hch]
  exact ⟨rfl, rfl, rfl, fun y => hk.target hu y⟩

theorem exec_nandDiscoveryDone (hup : s.warm.engineUp = true) (hready : s.drf.engineReady = true) (n : Nat) (l : List Discovered) :
    exec (.nandDiscoveryDone n l) s = .next (judgeChannel n (channelTargets n s)
      (((channelTargets n s).filter (fun t => !l.any (fun d => d.target = t))).foldl (fun s t => failTarget t s)
        ((l.filter (fun d => d.target / 8 = n)).foldl discoverTarget s))) := by
  change execNandDiscoveryDone n l s = _
  unfold execNandDiscoveryDone
  rw [if_neg (by simp [hup, hready])]
  rfl

theorem discovery_finds {n : Nat} (hup : s.warm.engineUp = true) (hready : s.drf.engineReady = true) (hn : d.target / 8 = n)
    (hs : Sound s) (hd : declared d.target s = true) (hbelay : s.flt.belay = false) (hr : (targetAt d.target s).ready = false)
    (hp : (targetAt d.target s).permanent = false) (hi : identified d s = true) (ht : d.trained = true) (hroot : hasRoot d s = true) :
    ∃ t, exec (.nandDiscoveryDone n [d]) s = .next t ∧ (channelAt n t).wpAsserted = false ∧ (targetAt d.target t).ready = true ∧
      ((targetAt d.target t).bbt.length < 512 →
        (channelAt n t).trained = true ∧ (channelAt n t).retired = false ∧ (targetAt d.target t).retired = false) ∧
      (targetAt d.target t).mfr = d.mfr ∧ (targetAt d.target t).device = d.device := by
  obtain ⟨hdt, hds, hdr, hdm, hdd, hdb⟩ := discoverTarget_ready (tabled_of_sound hs) hd hr hp hi ht hroot
  have hexec := exec_nandDiscoveryDone hup hready n [d]
  rw [List.filter_cons_of_pos (by exact decide_eq_true hn), List.filter_nil, List.foldl_cons, List.foldl_nil] at hexec
  obtain ⟨l, hl⟩ : ∃ l, (channelTargets n s).filter (fun t => !List.any [d] (fun d => d.target = t)) = l := ⟨_, rfl⟩
  have hnotin : d.target ∉ l := fun h => by
    rw [← hl] at h
    simpa using (List.mem_filter.1 h).2
  rw [hl] at hexec
  obtain ⟨hvt, hvs, -, hvout⟩ := failTargets_fail l hdt
  obtain ⟨v, hv⟩ : ∃ v, l.foldl (fun s t => failTarget t s) (discoverTarget s d) = v := ⟨_, rfl⟩
  rw [hv] at hvt hvs hvout hexec
  have hat := hvout d.target hnotin
  obtain ⟨b, hb⟩ : ∃ b, (channelTargets n s).any (fun t => (targetAt t v).ready && !(targetAt t v).retired) = b := ⟨_, rfl⟩
  obtain ⟨htr, hre, hwp, hk⟩ := judgeChannel_judges (n := n) hvt hb
  have hbel : v.flt.belay = false := (hds.trans hvs).1.trans hbelay
  have hkd := hk d.target
  rw [hat] at hkd
  refine ⟨_, hexec, by rw [hwp, hbel, Bool.and_false], hkd.ready.trans hdr, fun hlen => ?_, hkd.mfr.trans hdm, hkd.device.trans hdd⟩
  have hret := hdb (lt_of_le_of_lt hkd.bbt hlen)
  have hbt : b = true := by
    rw [← hb, List.any_eq_true]
    exact ⟨d.target, mem_channelTargets hn hd, by rw [hat, hdr, hret]; rfl⟩
  refine ⟨htr.trans hbt, by rw [hre, hbt, Bool.not_true, Bool.and_false], ?_⟩
  rcases hkd.retired with h | ⟨-, h⟩
  · exact h.trans hret
  · exact absurd hlen (not_lt.2 h)

theorem discovery_findsNone {n : Nat} (hup : s.warm.engineUp = true) (hready : s.drf.engineReady = true)
    (hg : ∃ g, g / 8 = n ∧ declared g s = true) (hs : Sound s) :
    ∃ t, exec (.nandDiscoveryDone n []) s = .next t ∧ (channelAt n t).trained = false ∧ (channelAt n t).retired = true ∧
      (∀ g, g / 8 = n → declared g s = true → (targetAt g t).ready = false ∧ (targetAt g t).retired = true) := by
  obtain ⟨g, hgn, hgd⟩ := hg
  have hexec := exec_nandDiscoveryDone hup hready n []
  rw [List.filter_nil, List.foldl_nil, List.filter_eq_self.2 (fun y _ => by rfl)] at hexec
  obtain ⟨hvt, -, hvin, -⟩ := failTargets_fail (channelTargets n s) (tabled_of_sound hs)
  obtain ⟨v, hv⟩ : ∃ v, (channelTargets n s).foldl (fun s t => failTarget t s) s = v := ⟨_, rfl⟩
  rw [hv] at hvt hvin hexec
  have hb : (channelTargets n s).any (fun t => (targetAt t v).ready && !(targetAt t v).retired) = false :=
    List.any_eq_false.2 (fun y hy => by simp [(hvin y hy).1])
  obtain ⟨htr, hre, -, hk⟩ := judgeChannel_judges (n := n) hvt hb
  refine ⟨_, hexec, htr, ?_, fun y hy hyd => ?_⟩
  · rw [hre, List.isEmpty_eq_false_iff.2 (List.ne_nil_of_mem (mem_channelTargets hgn hgd))]
    rfl
  · obtain ⟨h1, h2⟩ := hvin y (mem_channelTargets hy hyd)
    refine ⟨(hk y).ready.trans h1, ?_⟩
    rcases (hk y).retired with h | ⟨h, -⟩
    · exact h.trans h2
    · exact h

theorem discovery_waits {n : Nat} {l : List Discovered} (h : s.warm.engineUp = false ∨ s.drf.engineReady = false) :
    exec (.nandDiscoveryDone n l) s = .next s := by
  change execNandDiscoveryDone n l s = _
  unfold execNandDiscoveryDone
  rw [if_pos (by rcases h with h | h <;> simp [h])]

end Discovery

/-- Settles O44. -/
theorem loadsBringCopiesBack : Obligations.LoadsBringCopiesBack := by
  refine ⟨⟨fun s g hr hn => backgroundLoad_takes hr hn, fun s h => backgroundLoad_none h⟩,
    fun s c g a b l hc hd hst hl hw hh hs => ⟨fun x hx => ?_, fun ha y x hy hx => ?_, fun ha hb => ?_⟩,
    ⟨fun s g a b h => granuleLoad_none h, fun s g a b h => demandFetch_none h,
      fun s g a b f r l hf hr hw hd hg hst hl hh hs => ⟨fun x hx hp hxp => demandFetch_answers hf hr hw hd hg hh hst hl hs hx hp hxp,
        fun ha hb => demandFetch_poisons hf hr hw hd hg hh hst hl hs ha hb⟩,
      fun s u g a b f w hf hr hw hd hg hu hst hadm hb htail hcase hs =>
        demandFetch_writes hf hr hw hd hg hu hst hadm hb htail hcase hs,
      fun s g a b f r hf hr hw hd hg hst hp hh => demandFetch_clean hf hr hw hd hg hh a b hst hp⟩,
    fun s n d hup hready hn hs hd hbelay hr hp hi ht hroot => discovery_finds hup hready hn hs hd hbelay hr hp hi ht hroot,
    fun s n hup hready hg hs => discovery_findsNone hup hready hg hs, fun s n l h => discovery_waits h⟩
  · obtain ⟨h1, h2, h3, h4, h5, h6, h7, h8, h9⟩ := load_copyA (a := a) hst hl hs hw hh b hx
    exact ⟨_, exec_load hc hd, h1, h2, h3, h4, h5, h6, h7, h8, h9⟩
  · exact ⟨_, exec_load hc hd, load_copyB hst hl hs hw hh ha hy hx⟩
  · exact ⟨_, exec_load hc hd, load_noCopy hst hl hs hw hh ha hb⟩

end Sys2Proof.Machine

/-! PROOFS. Restore from the key to the service: DISCOVER, VERIFY, MAPLOAD and restore-ready (07_restore.md, Restore states to
Restore-ready). -/

namespace Sys2Proof.Machine

section Restore
variable {s t u v : State} {reads : List PageRead}

/-! ### DISCOVER (R238, R239) -/

theorem restoreDiscover_loads (hm : mayDiscover s = true) (hk : s.restore.keyOk = false) (hu : keyUnwraps s = true) :
    exec (.restoreDiscover true) s = .next { s with restore := { s.restore with
      st := .discover, keyOk := true, completeTs := 0, bytes := 0, covered := 0 } } := by
  change execRestoreDiscover true s = _
  unfold execRestoreDiscover
  rw [hm, Bool.not_true, if_neg Bool.false_ne_true]
  dsimp only
  rw [hk, if_neg Bool.false_ne_true, if_pos (by exact hu)]

theorem restoreDiscover_fails {b : Bool} (hm : mayDiscover s = true) (hk : s.restore.keyOk = false)
    (hb : b = false ∨ keyUnwraps s = false) : ∃ t, exec (.restoreDiscover b) s = .next t ∧ t.restore.st = .discover ∧
      t.restore.keyOk = false ∧ t.restore.bytes = 0 ∧ t.restore.completeTs = 0 ∧ 16 ∈ t.flt.engineLive := by
  let u : State := { s with restore := { s.restore with st := .discover, completeTs := 0, bytes := 0, covered := 0 } }
  have hexec : exec (.restoreDiscover b) s = .next (engineFault 16 0 u) := by
    change execRestoreDiscover b s = _
    unfold execRestoreDiscover
    rw [hm, Bool.not_true, if_neg Bool.false_ne_true]
    dsimp only
    have hkey (r : RstoreSt) : keyUnwraps { s with restore := r } = keyUnwraps s := rfl
    rw [if_neg (by rw [hk]; exact Bool.false_ne_true), hkey, if_neg (by rcases hb with h | h <;> simp [h])]
  have hr : (engineFault 16 0 u).restore = u.restore := (engineFault_changes 16 0 (m' := 0x4c0c0020) (by rfl) (.refl _ u)).restore rfl
  exact ⟨_, hexec, by rw [hr], by rw [hr]; exact hk, by rw [hr], by rw [hr], mem_engineLive_engineFault 0 (by decide)⟩

/-! ### The search and VERIFY (R239 to R243) -/

/-- The epoch of the newest knot, 0 where there is none. -/
def topOf (k : Option KnotRec) : Nat := match k with | some k => k.epoch | none => 0

/-- What the search of a store leaves with the newest knot `k`. -/
structure Searched (k : Option KnotRec) (v t : State) : Prop where
  st : t.restore.st = .verify
  epoch : t.restore.epoch = if t.restore.cls = 0 then 0 else topOf k
  cls : k = none → t.restore.cls = 0
  lastKnot : t.stg.lastKnot = k.map KnotRec.slot
  lastEpoch : t.stg.lastKnotEpoch = topOf k
  next : t.stg.nextEpoch = Nat.max (highestEpoch v) (topOf k) + 1
  owed : t.mbx.sanitizeOwed = v.mbx.sanitizeOwed

theorem postEvent_owed (i kind bolt : Nat) (l : List Nat) (s : State) :
    (postEvent i kind bolt l s).mbx.sanitizeOwed = s.mbx.sanitizeOwed := by
  obtain ⟨_, h⟩ := postEvent_mbx i kind bolt l s
  rw [h]

theorem knottedChain_none (s : State) : knottedChain s none = [] := by
  unfold knottedChain
  cases s.nand.knots.length <;> rfl

theorem classOf_knottedChain_none (s : State) : classOf (knottedChain s none) s = 0 := by
  rw [knottedChain_none]
  rfl

/-- The search finds `k`: none in MFG and where a wipe is done, and otherwise what the sources of R239 yield. -/
theorem searchStore_searched {k : Option KnotRec}
    (hk : (if v.lcs.st = .mfg || v.lcs.wiped then none else searchFrom v.log.knotPtr v) = k) :
    Searched k v (searchStore v) ∧
    ((v.lcs.st = .mfg || v.lcs.wiped) = true → (searchStore v).restore.hint = 2) ∧
    ((v.lcs.st = .mfg || v.lcs.wiped) = false → k = none → (searchStore v).restore.foreign = foreignStore v) := by
  have hfin (c : Bool) (w : State) : (if c then engineFault 17 0 (postEvent 2 2 0xFF [] w) else w).restore = w.restore ∧
      (if c then engineFault 17 0 (postEvent 2 2 0xFF [] w) else w).stg = w.stg ∧
      (if c then engineFault 17 0 (postEvent 2 2 0xFF [] w) else w).mbx.sanitizeOwed = w.mbx.sanitizeOwed := by
    cases c with
    | false => exact ⟨rfl, rfl, rfl⟩
    | true =>
      have hp := postEvent_changes 2 2 0xFF [] (m' := 0x40000c00) (by rfl) (.refl _ w)
      have he := engineFault_changes 17 0 (m' := 0x4c0c0020) (by rfl) (.refl _ (postEvent 2 2 0xFF [] w))
      exact ⟨(he.restore rfl).trans (hp.restore rfl), (he.stg rfl).trans (hp.stg rfl),
        (congrArg MbxSt.sanitizeOwed (he.mbx rfl)).trans (postEvent_owed ..)⟩
  have hclass (w : State) (h : k = none) : classOf (knottedChain w (k.map KnotRec.slot)) w = 0 := by
    rw [h]
    exact classOf_knottedChain_none w
  unfold searchStore
  extract_lets none' newest top foreign hint next slot fin a g m r b cls r' c
  obtain ⟨hr, hg, ho⟩ := hfin foreign c
  obtain rfl : newest = k := hk
  have htop : top = topOf newest := by
    unfold top topOf
    cases newest <;> rfl
  have ha : a.mbx = v.mbx := by
    unfold a
    split <;> rfl
  refine ⟨⟨by rw [hr], ?_, fun h => ?_, by rw [hg], by rw [hg]; exact htop, by rw [hg, ← htop], ?_⟩, fun h => ?_, fun h hk => ?_⟩
  · rw [hr, ← htop]
  · rw [hr]
    exact hclass b h
  · rw [ho]
    change a.mbx.sanitizeOwed = _
    rw [ha]
  · rw [hr]
    exact if_pos h
  · rw [hr]
    change (!none' && newest.isNone && foreignStore v) = foreignStore v
    rw [show none' = false from h, hk]
    rfl

theorem le_foldl_max {x : Nat} (l : List Nat) (m : Nat) (h : x ≤ m ∨ x ∈ l) : x ≤ l.foldl Nat.max m := by
  induction l generalizing m with
  | nil => exact h.resolve_right List.not_mem_nil
  | cons y l ih =>
    refine ih _ ?_
    rcases h with h | h
    · exact .inl (h.trans (Nat.le_max_left ..))
    · rcases List.mem_cons.1 h with rfl | h
      · exact .inl (Nat.le_max_right ..)
      · exact .inr h

/-- The highest epoch is that of every valid header in a block that the search reads, or exceeds it (R240). -/
theorem le_highestEpoch {p : Nat × Page} (h : p ∈ s.nand.pages) (hs : searched (ptrBlock p.1) s = true) (hb : p.1 ∉ s.nand.badHeaders) :
    p.2.epoch ≤ highestEpoch s :=
  le_foldl_max _ 0 (.inr (List.mem_map_of_mem (List.mem_filter.2 ⟨h, by simp [hs, hb]⟩)))

theorem Searched.beyond {k : Option KnotRec} (h : Searched k v t) (p : Nat × Page) (hp : p ∈ v.nand.pages)
    (hs : searched (ptrBlock p.1) v = true) (hb : p.1 ∉ v.nand.badHeaders) : p.2.epoch < t.stg.nextEpoch := by
  rw [h.next]
  exact Nat.lt_succ_of_le ((le_highestEpoch hp hs hb).trans (Nat.le_max_left ..))

theorem noteReads_keeps (reads : List PageRead) (s : State) : Changes 0xc2000008 s (noteReads reads s) :=
  noteReads_changes reads (by rfl) (.refl _ s)

theorem exec_newestKnotFound (hst : s.restore.st = .discover) (hk : s.restore.keyOk = true) (hr : restoreRuns s = true)
    (hh : s.restore.held = false) (hd : discoveryDone s = true) (ho : s.mbx.sanitizeOwed = false) :
    exec (.newestKnotFound reads) s =
      .next (searchStore (noteReads reads { s with nand := { s.nand with badHeaders := [], badSlots := [] } })) := by
  change execNewestKnotFound reads s = _
  have hf : finishSanitize s = s := by rw [finishSanitize, if_neg (by rw [ho]; exact Bool.false_ne_true)]
  unfold execNewestKnotFound
  rw [if_pos (by simp [hst, hk, hr, hd]), hf]
  dsimp only
  rw [if_neg (by rw [hh]; exact Bool.false_ne_true), if_pos hd]

/-- A Sanitize that is owed waits for discovery, and is finished before the search (R319). -/
theorem newestKnotFound_finishes (hst : s.restore.st = .discover) (ho : s.mbx.sanitizeOwed = true) :
    (discoveryDone s = false → exec (.newestKnotFound reads) s = .next s) ∧
    (discoveryDone s = true → s.restore.keyOk = true → restoreRuns s = true →
      ∃ t, exec (.newestKnotFound reads) s = .next t ∧ t.mbx.sanitizeOwed = false) := by
  refine ⟨fun hd => ?_, fun hd hk hr => ?_⟩
  · change execNewestKnotFound reads s = _
    unfold execNewestKnotFound
    rw [if_neg (by simp [hd, ho])]
  · obtain ⟨v, hv, hvo⟩ : ∃ v, finishSanitize s = v ∧ v.mbx.sanitizeOwed = false :=
      ⟨_, rfl, by rw [finishSanitize, if_pos ho]; rfl⟩
    have hexec : exec (.newestKnotFound reads) s = (if v.restore.held then .next (searchHeld v)
        else if discoveryDone v then
          .next (searchStore (noteReads reads { v with nand := { v.nand with badHeaders := [], badSlots := [] } }))
        else .next v) := by
      change execNewestKnotFound reads s = _
      unfold execNewestKnotFound
      rw [if_pos (by simp [hst, hk, hr, hd]), hv]
    rw [hexec]
    split
    · exact ⟨_, rfl, hvo⟩
    split
    · refine ⟨_, rfl, ?_⟩
      rw [(searchStore_searched rfl).1.owed, (noteReads_keeps reads _).mbx rfl]
      exact hvo
    · exact ⟨_, rfl, hvo⟩

/-- A page read with an invalid header is ignored (R197). -/
theorem noteReads_ignores {r : PageRead} (h : r ∈ reads) (hv : headerValid (r.header.map (·.toNat)) = false) :
    r.page ∈ (noteReads reads s).nand.badHeaders := by
  have hcount (k : Nat) (c : CopyRead) (v : State) : (countCopyRead k c v).nand.badHeaders = v.nand.badHeaders := by
    have hsample (x : State) : (sampleFree 3 (ptrChannel (k / 4)) x).nand = x.nand :=
      (sampleFree_changes 3 _ (m' := 0x82000000) (by rfl) (.refl _ x)).nand rfl
    have hretry (x : State) : (retryReads (k / 4) x).nand = x.nand := (retryReads_changes _ (m' := 0xc0000000) (by rfl) (.refl _ x)).nand rfl
    unfold countCopyRead
    extract_lets n c a b
    have hb : b.nand.badHeaders = v.nand.badHeaders := by
      unfold b
      split
      · rfl
      · rw [hsample]
        rfl
    split
    · change (retryReads (k / 4) b).nand.badHeaders = _
      rw [hretry, hb]
    · exact hb
  have hfold (l : List (Nat × CopyRead)) (v : State) :
      (l.foldl (fun s e => countCopyRead e.1 e.2 s) v).nand.badHeaders = v.nand.badHeaders := by
    induction l generalizing v with
    | nil => rfl
    | cons e l ih => exact (ih _).trans (hcount ..)
  unfold noteReads
  dsimp only
  rw [hfold]
  exact List.mem_append_right _ (List.mem_map_of_mem (List.mem_filter.2 ⟨h, by simp [hv]⟩))

/-! ### MAPLOAD of an empty image (R245 to R248) -/

theorem loadLog_keeps (chain : List KnotRec) (s : State) : (loadLog chain s).cache = s.cache := 
  (loadLog_changes chain (m' := 0x84) (by rfl) (.refl _ s)).cache rfl

theorem drainOrder_nil (s : State) : drainOrder [] s = [] := by simp [drainOrder]

/-- The report of an empty image names no loss. -/
theorem reportLoss_empty (policy : Nat) (lost : List Nat) (s : State) :
    ((reportLoss 0 policy lost s).cache.map = s.cache.map ∧ (reportLoss 0 policy lost s).cache.loc = s.cache.loc ∧
      (reportLoss 0 policy lost s).cache.poison = s.cache.poison) ∧
    (reportLoss 0 policy lost s).restore.imageState = 0 ∧ (reportLoss 0 policy lost s).restore.st = s.restore.st ∧
    (reportLoss 0 policy lost s).restore.mapDone = s.restore.mapDone ∧
    (reportLoss 0 policy lost s).restore.listPartial = s.restore.listPartial := by
  unfold reportLoss
  extract_lets
  rw [if_neg (by decide)]
  exact ⟨⟨rfl, rfl, rfl⟩, rfl, rfl, rfl, rfl⟩

theorem loadMap_empty (h : v.restore.cls = 0) : (loadMap v).restore.mapDone = true ∧ (loadMap v).restore.st = v.restore.st ∧
    (loadMap v).cache.map = [] ∧ (loadMap v).cache.loc = [] ∧ (loadMap v).cache.poison = [] ∧ (loadMap v).restore.imageState = 0 ∧
    (loadMap v).restore.listPartial = true := by
  unfold loadMap
  rw [h]
  extract_lets chain cls policy r lost g a b c r' d e
  have hr : r = ([], []) := if_pos rfl
  have hlost : lost = [] := rfl
  have hb : b = a := if_neg (by decide)
  have hcc : c.cache = a.cache := (loadLog_keeps chain b).trans (by rw [hb])
  have hcr : c.restore.st = v.restore.st := by
    have hl (x : State) : (loadLog chain x).restore.st = x.restore.st := by
      unfold loadLog
      split <;> rfl
    exact (hl b).trans (by rw [hb]; rfl)
  obtain ⟨⟨hm, hl, hp⟩, hi, hs, hmd, hlp⟩ := reportLoss_empty policy lost d
  have hend : spareCheck ((drainOrder (lost ++ r.2.filter (fun g => !lost.contains g)) e).foldl (fun s g => poisonAtRestore g s) e) =
      spareCheck e := by
    rw [hlost, hr, List.filter_nil, List.append_nil, drainOrder_nil, List.foldl_nil]
  have hk : Changes 0x4c0c0c28 e (spareCheck e) := spareCheck_changes (by rfl) (.refl _ e)
  have hdc : d.cache = a.cache := hcc
  have hac : a.cache.map = [] ∧ a.cache.loc = [] ∧ a.cache.poison = [] := by
    refine ⟨?_, ?_, rfl⟩
    · exact congrArg (fun x : Table Loc × List Nat => x.1.map (fun e => (e.1, ({ st := .restorePending } : Entry)))) hr
    · change r.1 = []
      rw [hr]
  rw [hend, hk.restore rfl, hk.cache rfl]
  exact ⟨hmd, hs.trans hcr, hm.trans (by rw [hdc, hac.1]), hl.trans (by rw [hdc, hac.2.1]), hp.trans (by rw [hdc, hac.2.2]), hi, hlp⟩

theorem mapLoadDone_empty (hst : s.restore.st = .verify ∨ s.restore.st = .mapload) (hm : s.restore.mapDone = false)
    (hr : restoreRuns s = true) (hw : s.warm.structural = false) (hh : s.restore.held = false) (hc : s.restore.cls = 0) :
    ∃ t, exec (.mapLoadDone reads) s = .next t ∧ t.restore.st = .mapload ∧ t.restore.mapDone = true ∧ t.cache.map = [] ∧
      t.cache.loc = [] ∧ t.cache.poison = [] ∧ t.restore.imageState = 0 ∧ t.restore.listPartial = true := by
  let u : State := { s with restore := { s.restore with st := .mapload } }
  have hu : leaveVerify s = u := by
    unfold leaveVerify
    rcases hst with h | h
    · exact if_pos h
    · rw [if_neg (by rw [h]; decide)]
      unfold u
      rw [← h]
  have hrun : restoreRuns u = true := hr
  have hexec : exec (.mapLoadDone reads) s = .next (loadMap (noteReads reads u)) := by
    change execMapLoadDone reads s = _
    unfold execMapLoadDone
    rw [hu]
    dsimp only
    rw [if_pos (by rw [hrun]; simp [u, hm]), if_neg (show ¬u.warm.structural = true by simp [u, hw]),
      if_neg (show ¬u.restore.held = true by simp [u, hh])]
  have hn := (noteReads_keeps reads u).restore rfl
  obtain ⟨h1, h2, h3, h4, h5, h6, h7⟩ := loadMap_empty (v := noteReads reads u) (by rw [hn]; exact hc)
  exact ⟨_, hexec, h2.trans (by rw [hn]), h1, h3, h4, h5, h6, h7⟩

/-! ### Restore-ready (R237, R251) -/

/-- No write is held, and every granule of the map is still to be loaded. -/
def Unloaded (s : State) : Prop := s.stg.heldq = [] ∧ ∀ e ∈ s.cache.map, e.2.st = .restorePending

/-- The cache, the held writes, the restore, the port's switch for memory and the exercise: what no retirement of blocks changes
before a granule is loaded. -/
structure KeepsUnloaded (s t : State) : Prop where
  cache : t.cache = s.cache
  heldq : t.stg.heldq = s.stg.heldq
  restore : t.restore = s.restore
  active : t.host.memActive = s.host.memActive
  chg : t.chg = s.chg

theorem KeepsUnloaded.refl (s : State) : KeepsUnloaded s s := ⟨rfl, rfl, rfl, rfl, rfl⟩

theorem KeepsUnloaded.trans (h : KeepsUnloaded s t) (k : KeepsUnloaded t u) : KeepsUnloaded s u :=
  ⟨k.cache.trans h.cache, k.heldq.trans h.heldq, k.restore.trans h.restore, k.active.trans h.active, k.chg.trans h.chg⟩

/-- Parts of the state that hold none of it. -/
theorem KeepsUnloaded.of_changes (h : Changes 0xce0c086a s t) : KeepsUnloaded s t :=
  ⟨h.cache rfl, congrArg StgSt.heldq (h.stg rfl), h.restore rfl, congrArg HostSt.memActive (h.host rfl), h.chg rfl⟩

theorem KeepsUnloaded.unloaded (h : KeepsUnloaded s t) (hs : Unloaded s) : Unloaded t :=
  ⟨h.heldq.trans hs.1, by rw [h.cache]; exact hs.2⟩

theorem KeepsUnloaded.foldl {α : Type} {f : State → α → State} (h : ∀ s a, Unloaded s → KeepsUnloaded s (f s a)) (l : List α) (s : State)
    (hs : Unloaded s) : KeepsUnloaded s (l.foldl f s) := by
  induction l generalizing s with
  | nil => exact .refl s
  | cons a l ih => exact (h s a hs).trans (ih _ ((h s a hs).unloaded hs))

theorem reefFlags_keepsUnloaded (s : State) : KeepsUnloaded s (reefFlags s) := by
  have hc := reefFlags_changes' s
  obtain ⟨_, hh⟩ := reefFlags_host s
  exact ⟨hc.cache rfl, reefFlags_heldq s, hc.restore rfl, by rw [hh], hc.chg rfl⟩

/-- With no write held an evaluation sets the flags alone. -/
theorem evaluate_of_none (h : s.stg.heldq = []) : evaluate s = reefFlags s := by
  unfold evaluate
  split
  · rfl
  · rw [h]
    rfl

theorem msix_keepsUnloaded (n : Nat) (s : State) : KeepsUnloaded s (msix n s) := by
  have hc := msix_changes n (m' := 0x40000400) (by rfl) (.refl _ s)
  obtain ⟨_, hh⟩ := msix_host n s
  exact ⟨hc.cache rfl, congrArg StgSt.heldq (hc.stg rfl), hc.restore rfl, by rw [hh], hc.chg rfl⟩

theorem postEvent_keepsUnloaded (i kind bolt : Nat) (l : List Nat) (s : State) : KeepsUnloaded s (postEvent i kind bolt l s) := by
  have hc := postEvent_changes i kind bolt l (m' := 0x40000c00) (by rfl) (.refl _ s)
  obtain ⟨_, hh⟩ := postEvent_host i kind bolt l s
  exact ⟨hc.cache rfl, congrArg StgSt.heldq (hc.stg rfl), hc.restore rfl, by rw [hh], hc.chg rfl⟩

theorem entryOf_ne_clean (h : ∀ e ∈ s.cache.map, e.2.st = .restorePending) (g : Nat) : (entryOf g s).st ≠ .clean := by
  unfold entryOf
  generalize s.cache.map = l at h
  induction l with
  | nil =>
    change ({} : Entry).st ≠ .clean
    decide
  | cons e l ih =>
    rw [tget]
    split
    · rw [h e List.mem_cons_self]
      decide
    split
    · decide
    · exact ih fun x hx => h x (List.mem_cons_of_mem _ hx)

theorem enterBad_keepsUnloaded (b cause : Nat) (hs : Unloaded s) : KeepsUnloaded s (enterBad b cause s) := by
  have hmod (x : Nat) (f : Target → Target) (v : State) : KeepsUnloaded v (modTarget x f v) := ⟨rfl, rfl, rfl, rfl, rfl⟩
  unfold enterBad
  extract_lets k v on w
  split
  · exact .refl s
  split
  · exact (hmod ..).trans (.of_changes (writeRoot_changes k (by rfl) (.refl _ _)))
  · have hv : KeepsUnloaded s v := hmod ..
    have hw : KeepsUnloaded s w := by
      unfold w
      split
      · exact hv
      · refine hv.trans (.foldl (fun p e hp => ?_) _ _ (hv.unloaded hs))
        rw [if_neg (by simp [entryOf_ne_clean hp.2])]
        exact .refl p
    have hx : KeepsUnloaded s (engineFault 21 (k % 256) w) := hw.trans (.of_changes (engineFault_changes _ _ (by rfl) (.refl _ w)))
    rw [evaluate_of_none (hx.unloaded hs).1]
    exact hx.trans ((reefFlags_keepsUnloaded _).trans (.of_changes (noChannel_changes (by rfl) (.refl _ _))))

theorem spareCheck_keepsUnloaded (s : State) : KeepsUnloaded s (spareCheck s) := by
  have hevent (k n : Nat) (l : List Nat) (v : State) : KeepsUnloaded v (msix 6 (postEvent 1 k n l v)) :=
    (postEvent_keepsUnloaded ..).trans (msix_keepsUnloaded ..)
  have hdeg (v : State) (b : List Nat) : KeepsUnloaded v (engineFault 19 0 (msix 6 (postEvent 1 3 0xFF b v))) :=
    (hevent ..).trans (.of_changes (engineFault_changes 19 0 (by rfl) (.refl _ _)))
  have hre : KeepsUnloaded s (reassessStore s) := .of_changes (reassessStore_changes (by rfl) (.refl _ s))
  have hshed (k : Nat) (v : State) : KeepsUnloaded v (shedBolts k v) := by
    induction k generalizing v with
    | zero => exact .refl v
    | succ k ih =>
      unfold shedBolts
      split
      · exact .refl v
      split
      · exact .refl v
      next n _ => exact ((hevent 4 n [n] v).trans (KeepsUnloaded.mk (by rfl) (by rfl) (by rfl) (by rfl) (by rfl))).trans (ih _)
  unfold spareCheck
  split
  · exact .refl s
  dsimp only
  split
  · exact hre
  split
  · exact hre.trans (hshed ..)
  · exact (hre.trans (KeepsUnloaded.trans (.mk (by rfl) (by rfl) (by rfl) (by rfl) (by rfl)) (hdeg _ _))).trans (hshed ..)

theorem retireBlocks_keepsUnloaded (hs : Unloaded s) : KeepsUnloaded s (retireBlocks s) := by
  unfold retireBlocks
  extract_lets limit n v w
  have hv : KeepsUnloaded s v := ⟨rfl, rfl, rfl, rfl, rfl⟩
  have hw : KeepsUnloaded v w := by
    have hbad (l : List Nat) (c : Nat) (p : State) (hp : Unloaded p) : KeepsUnloaded p (l.foldl (fun s b => enterBad b c s) p) :=
      .foldl (fun _ _ h => enterBad_keepsUnloaded _ _ h) l p hp
    have hdue := KeepsUnloaded.foldl (f := fun (s : State) (e : Nat × Block) => enterBad e.1 (if e.2.failed then 1 else 3) s)
      (fun _ _ h => enterBad_keepsUnloaded _ _ h)
    unfold w enterRetired
    extract_lets due
    exact (hdue due v (hv.unloaded hs)).trans (hbad _ _ _ ((hdue due v (hv.unloaded hs)).unloaded (hv.unloaded hs)))
  split
  · exact hv
  · exact (hv.trans hw).trans (spareCheck_keepsUnloaded _)

theorem restoreReady_serves (hst : s.restore.st = .mapload) (hm : s.restore.mapDone = true) (hc : s.stg.computed = true)
    (hr : restoreRuns s = true) (hw : s.cache.waiting = []) (hq : s.stg.heldq = []) (hne : s.cache.map ≠ [])
    (hmap : ∀ e ∈ s.cache.map, e.2.st = .restorePending) : ∃ t, exec .restoreReady s = .next t ∧ t.restore.st = .lazy ∧
      t.vlt.state = .armed ∧ t.host.memActive = true ∧ t.restore.readyTs = engineNow s ∧ t.restore.evtReady = true := by
  obtain ⟨v, hv, hvk, hvt⟩ : ∃ v, (if s.lcs.wiped then writeDirectory { s with lcs := { s.lcs with wiped := false } } else s) = v ∧
      KeepsUnloaded s v ∧ v.tbs = s.tbs := by
    split
    · have hc := writeDirectory_changes (m' := 0xc2000008) (by rfl) (.refl _ { s with lcs := { s.lcs with wiped := false } })
      exact ⟨_, rfl, ⟨hc.cache rfl, congrArg StgSt.heldq (hc.stg rfl), hc.restore rfl, congrArg HostSt.memActive (hc.host rfl), hc.chg rfl⟩,
        hc.tbs rfl⟩
    · exact ⟨_, rfl, .refl s, rfl⟩
  obtain ⟨w, hwdef, hwr, hwh, hwc, hwq, hwg⟩ : ∃ w, ({ v with
      restore := { v.restore with st := .lazy, ready := true, readyTs := engineNow v, evtReady := true },
      host := { v.host with memActive := true } } : State) = w ∧
      (w.restore.st = .lazy ∧ w.restore.readyTs = engineNow s ∧ w.restore.evtReady = true) ∧ w.host.memActive = true ∧
      w.cache = s.cache ∧ w.stg.heldq = s.stg.heldq ∧ w.chg = s.chg :=
    ⟨_, rfl, ⟨rfl, engineNow_congr hvt, rfl⟩, rfl, hvk.cache, hvk.heldq, hvk.chg⟩
  have hwu : Unloaded w := ⟨hwq.trans hq, by rw [hwc]; exact hmap⟩
  have hroots : KeepsUnloaded w (firstRoots w) := .of_changes (firstRoots_changes (by rfl) (.refl _ w))
  obtain ⟨x, hx, hxk⟩ : ∃ x, retireBlocks (firstRoots w) = x ∧ KeepsUnloaded w x :=
    ⟨_, rfl, hroots.trans (retireBlocks_keepsUnloaded (hroots.unloaded hwu))⟩
  have hset : KeepsUnloaded x (setVault .armed x) := .of_changes (setVault_changes .armed (by rfl) (.refl _ x))
  obtain ⟨y, hy, hyk, hyv⟩ : ∃ y, msix 5 (engineLog 0xC (imageWord x) 0 (setVault .armed x)) = y ∧ KeepsUnloaded w y ∧
      y.vlt.state = .armed := by
    have hl := engineLog_changes 0xC (imageWord x) 0 (m' := 0x4c000000) (by rfl) (.refl _ (setVault .armed x))
    have hi := msix_changes 5 (m' := 0x40000400) (by rfl) (.refl _ (engineLog 0xC (imageWord x) 0 (setVault .armed x)))
    exact ⟨_, rfl, hxk.trans (hset.trans ((KeepsUnloaded.of_changes (hl.mono (by rfl))).trans (msix_keepsUnloaded ..))),
      by rw [hi.vlt rfl, hl.vlt rfl, setVault_state]⟩
  have hexec : exec .restoreReady s = .next (checkComplete (tailHeld (releaseWaiting (evaluate y)))) := by
    change execRestoreReady s = _
    unfold execRestoreReady
    rw [if_pos (by simp [hst, hm, hc, hr]), hv]
    dsimp only
    rw [hwdef, hx, hy]
  have hflags (p : State) (hp : KeepsUnloaded w p) (hv : p.vlt.state = .armed) :
      KeepsUnloaded w (evaluate p) ∧ (evaluate p).vlt.state = .armed := by
    rw [evaluate_of_none (hp.unloaded hwu).1]
    exact ⟨hp.trans (reefFlags_keepsUnloaded p), by rw [(reefFlags_changes' p).vlt rfl, hv]⟩
  obtain ⟨hzk, hzv⟩ := hflags y hyk hyv
  obtain ⟨z, hz, hrel⟩ := releaseWaiting_idle (s := evaluate y) (by rw [hzk.cache, hwc, hw]) fun _ => (hzk.unloaded hwu).1
  have hzs : KeepsUnloaded w z ∧ z.vlt.state = .armed := by
    rcases hz with rfl | rfl
    · exact ⟨hzk, hzv⟩
    · exact hflags _ hzk hzv
  have htail : tailHeld z = z := by rw [tailHeld, (hzs.1.unloaded hwu).1, if_neg (by simp)]
  have hcheck : checkComplete z = z := by
    obtain ⟨e, he⟩ := List.exists_mem_of_ne_nil _ hne
    have : z.cache.map.any (fun e => e.2.st = .restorePending) = true := by
      rw [hzs.1.cache, hwc]
      exact List.any_eq_true.2 ⟨e, he, by simp [hmap e he]⟩
    rw [checkComplete, this, Bool.not_true, Bool.and_false, if_neg Bool.false_ne_true]
  rw [hrel, htail, hcheck] at hexec
  exact ⟨z, hexec, by rw [hzs.1.restore, hwr.1], hzs.2, by rw [hzs.1.active, hwh], by rw [hzs.1.restore, hwr.2.1],
    by rw [hzs.1.restore, hwr.2.2]⟩

end Restore

/-- Settles O43. -/
theorem restoreStatesInOrder : Obligations.RestoreStatesInOrder := by
  have hkept (s : State) (reads : List PageRead) :
      (noteReads reads { s with nand := { s.nand with badHeaders := [], badSlots := [] } }).lcs = s.lcs ∧
      (noteReads reads { s with nand := { s.nand with badHeaders := [], badSlots := [] } }).log = s.log :=
    ⟨(noteReads_keeps reads _).lcs rfl, (noteReads_keeps reads _).log rfl⟩
  refine ⟨fun s hm hk hu => restoreDiscover_loads hm hk hu, fun s b hm hk hb => restoreDiscover_fails hm hk hb,
    fun s u reads hst hk hr hh hd ho hmfg hwiped hu => ?_, fun s reads hst ho => newestKnotFound_finishes hst ho,
    fun s reads hst hk hr hh hd ho hm => ?_, fun s reads r h hv => noteReads_ignores h hv,
    fun s reads hst hm hr hw hh hc => mapLoadDone_empty hst hm hr hw hh hc,
    fun s hst hm hc hr hw hq _ hne hmap => restoreReady_serves hst hm hc hr hw hq hne hmap⟩
  · have hexec := exec_newestKnotFound (reads := reads) hst hk hr hh hd ho
    obtain ⟨hlcs, hlog⟩ := hkept s reads
    rw [← hu] at hexec hlcs hlog
    have hnone : (u.lcs.st = .mfg || u.lcs.wiped) = false := by simp [hlcs, hmfg, hwiped]
    have hfound : (if u.lcs.st = .mfg || u.lcs.wiped then none else searchFrom u.log.knotPtr u) = searchFrom s.log.knotPtr u := by
      rw [hnone, hlog, if_neg Bool.false_ne_true]
    refine ⟨fun hk' => ?_, fun k hk' => ?_⟩
    · obtain ⟨h, -, hf⟩ := searchStore_searched (hfound.trans hk')
      exact ⟨_, hexec, h.st, h.cls rfl, by rw [h.epoch, h.cls rfl]; rfl, h.lastKnot, h.lastEpoch, hf hnone rfl, h.beyond⟩
    · obtain ⟨h, -, -⟩ := searchStore_searched (hfound.trans hk')
      refine ⟨_, hexec, h.st, h.epoch, h.lastKnot, h.lastEpoch, ?_, h.beyond⟩
      rw [h.next]
      exact Nat.lt_succ_of_le (Nat.le_max_right ..)
  · have hexec := exec_newestKnotFound (reads := reads) hst hk hr hh hd ho
    obtain ⟨hlcs, -⟩ := hkept s reads
    obtain ⟨u, hu⟩ : ∃ u, noteReads reads { s with nand := { s.nand with badHeaders := [], badSlots := [] } } = u := ⟨_, rfl⟩
    rw [hu] at hexec hlcs
    have hempty : (u.lcs.st = .mfg || u.lcs.wiped) = true := by rw [hlcs]; simpa using hm
    obtain ⟨h, hhint, -⟩ := searchStore_searched (k := none) (if_pos hempty)
    exact ⟨_, hexec, h.st, h.cls rfl, hhint hempty, h.lastKnot⟩

end Sys2Proof.Machine

/-! PROOFS. The selvedge's hold and re-boots, and the resume of a vault (02_architecture.md, Keeper, selvedge and hold island;
05_vault.md, Failures during a vault). -/

namespace Sys2Proof.Machine

section Selvedge
variable {s t u v w : State} {d : Nat}

/-! ### Domains switched off in the hold (R177, R351) -/

theorem switchOff_off (d : Nat) (s : State) : (domAt d (switchOff d s)).on = false := by
  cases hon : (domAt d s).on with
  | false => rw [switchOff_of_off hon, hon]
  | true =>
    unfold switchOff
    rw [if_neg (by simp [hon])]
    extract_lets dis v
    have hv : (domAt d v).on = false := congrArg Dom.on (domAt_modDom _ (lt_of_on hon))
    have hkeep (w : State) (hw : w.pwr = v.pwr) : (domAt d w).on = false := by rw [domAt_congr (congrArg PwrSt.doms hw), hv]
    split
    · exact hkeep _ ((engineLost_changes (m' := 0x4100011) (by rfl) (.refl _ _)).pwr rfl)
    split
    · exact hkeep _ rfl
    split
    · exact hkeep _ ((ddrLost_changes (m' := 0x3) (by rfl) (.refl _ v)).pwr rfl)
    · exact hv

theorem PowerOff.off (h : PowerOff s t) (d : Nat) (hd : (domAt d s).on = false) : (domAt d t).on = false := by
  cases ht : (domAt d t).on with
  | false => rfl
  | true => exact absurd (h.on d ht) (by rw [hd]; exact Bool.false_ne_true)

/-- The DDR5 channels keep their control through a switch-off. -/
theorem switchOff_ch (d : Nat) (s : State) : (switchOff d s).cache.ch = s.cache.ch := by
  unfold switchOff
  split
  · rfl
  extract_lets dis v
  split
  · rfl
  split
  · rfl
  split <;> rfl

/-- A group's domains go off, and the next group follows once none of them is being discharged. -/
theorem offGroupList_step {g : Nat} (l : List Nat) (hw : (offDomains g s).foldl (fun s d => switchOff d s) s = w) :
    offGroupList (g :: l) s = { w with pwr := { w.pwr with offGroups := g :: l } } ∨ offGroupList (g :: l) s = offGroupList l w := by
  rw [offGroupList, hw]
  dsimp only
  split
  · exact .inl rfl
  · exact .inr rfl

theorem switchOff_pair (a b : Nat) (v : State) : ∃ w, switchOff b (switchOff a v) = w ∧ PowerOff v w ∧ (domAt a w).on = false ∧
    (domAt b w).on = false ∧ w.cache.ch = v.cache.ch :=
  ⟨_, rfl, (switchOff_powerOff a v).trans (switchOff_powerOff b _), (switchOff_powerOff b _).off a (switchOff_off a v),
    switchOff_off b _, (switchOff_ch ..).trans (switchOff_ch ..)⟩

/-- The NAND's and the engine's domains go off, one group after the other (R177). -/
theorem beginOff_holds (s : State) : ∃ t, beginOff [4, 3] s = t ∧ (domAt 6 t).on = false ∧ (domAt 7 t).on = false ∧
    (t.pwr.offGroups = [] → (domAt 1 t).on = false ∧ (domAt 2 t).on = false) ∧ t.cache.ch = s.cache.ch := by
  obtain ⟨v, hv, hvc⟩ : ∃ v, ({ s with pwr := { s.pwr with seq := .none, delaying := false } } : State) = v ∧ v.cache = s.cache :=
    ⟨_, rfl, rfl⟩
  obtain ⟨w, hw, -, h6, h7, hwc⟩ := switchOff_pair 6 7 v
  obtain ⟨x, hx, hlow, h1, h2, hxc⟩ := switchOff_pair 1 2 w
  rw [beginOff, hv]
  rcases offGroupList_step (g := 4) (s := v) [3] hw with h | h
  · rw [h]
    exact ⟨_, rfl, h6, h7, fun h => absurd h (List.cons_ne_nil _ _), by rw [hwc, hvc]⟩
  rw [h]
  rcases offGroupList_step (g := 3) (s := w) [] hx with h | h
  · rw [h]
    exact ⟨_, rfl, hlow.off 6 h6, hlow.off 7 h7, fun h => absurd h (List.cons_ne_nil _ _), by rw [hxc, hwc, hvc]⟩
  · rw [h]
    exact ⟨_, rfl, hlow.off 6 h6, hlow.off 7 h7, fun _ => ⟨h1, h2⟩, by rw [offGroupList, hxc, hwc, hvc]⟩

/-- Every rank of a state is in self-refresh. -/
def Refreshed (s : State) : Prop := ∀ c ∈ s.cache.ch, c.selfRefresh = true

theorem setRefresh_refreshed (s : State) : Refreshed (setRefresh true s) := by
  intro c hc
  obtain ⟨x, -, rfl⟩ := List.mem_map.1 hc
  rfl

theorem Refreshed.of_ch (h : Refreshed s) (hc : t.cache.ch = s.cache.ch) : Refreshed t := by
  unfold Refreshed
  rw [hc]
  exact h

/-- VCORE_E off takes the engine's registers with it, and no fault, setting or vault state. -/
theorem switchOff_one_changes (s : State) : Changes 0x4102211 s (switchOff 1 s) := by
  unfold switchOff
  split
  · exact .refl _ s
  extract_lets dis v
  have hv : Changes 0x4102211 s v := modDom_changes _ _ (by rfl) (.refl _ s)
  rw [if_pos rfl]
  exact engineLost_changes (by rfl) (Changes.put_vcore (by rfl) hv)

theorem startAttempt_reboots (h : s.sel.attempts < setting s P.rebootMax) : (startAttempt s).sel.phase = .rebooting ∧
    (startAttempt s).sel.attempts = s.sel.attempts + 1 ∧ (startAttempt s).cache = s.cache ∧
    (inVault s = true → (startAttempt s).vlt.reboots = satAdd 255 s.vlt.reboots 1) := by
  have hr (v : State) : Changes 0x42300 v (railsOn v) := railsOn_changes (by rfl) (.refl _ v)
  unfold startAttempt
  rw [if_neg (not_le.2 h)]
  dsimp only
  refine ⟨by rw [(hr _).sel rfl], by rw [(hr _).sel rfl], (hr _).cache rfl, fun hv => ?_⟩
  rw [(hr _).vlt rfl]
  exact if_pos hv

/-- Belay ends the selvedge's hold; an exercise and the attempts that are spent stay. -/
theorem enterBelay_idle (cause : Nat) (h : s.flt.belay = false) : (enterBelay cause s).sel.phase = .idle ∧
    (enterBelay cause s).flt.rebootExhausted = s.flt.rebootExhausted ∧ (enterBelay cause s).chg.phase = s.chg.phase := by
  have he (u : State) (hp : u.sel.phase = .idle) (hx : u.flt.rebootExhausted = s.flt.rebootExhausted) (hc : u.chg.phase = s.chg.phase) :
      (logEvent 4 cause 0 (shedTogether false u)).sel.phase = .idle ∧
      (logEvent 4 cause 0 (shedTogether false u)).flt.rebootExhausted = s.flt.rebootExhausted ∧
      (logEvent 4 cause 0 (shedTogether false u)).chg.phase = s.chg.phase := by
    obtain ⟨⟨_, hflt⟩, -, -⟩ := shedTogether_off_shedOnly u
    have hsc : Changes 0x4342217 u (logEvent 4 cause 0 (shedTogether false u)) :=
      logEvent_changes _ _ _ (by rfl) (shedTogether_changes _ (by rfl) (.refl _ u))
    refine ⟨by rw [hsc.sel rfl, hp], ?_, by rw [hsc.chg rfl, hc]⟩
    change (shedTogether false u).flt.rebootExhausted = _
    rw [hflt]
    exact hx
  rw [enterBelay, if_neg (by simp [h])]
  exact he _ rfl rfl rfl

/-- With no attempt left the vault's re-boot is a fault at S4, which is belay (R175, R178). -/
theorem startAttempt_exhausted (h : setting s P.rebootMax ≤ s.sel.attempts) (hb : s.flt.belay = false) (h4 : sevOf 162 s = 4)
    (hf : (srcAt 162 s).frozen = false) (hsh : shadowed 162 s = false) : (startAttempt s).sel.phase = .idle ∧
    (startAttempt s).flt.rebootExhausted = true ∧ (startAttempt s).flt.belay = true ∧ (startAttempt s).flt.belayCause = 162 := by
  let v : State := { s with sel := { s.sel with phase := .idle }, flt := { s.flt with rebootExhausted := true } }
  have hstart : startAttempt s = pcFault 162 0 v := if_pos h
  have hfault : pcFault 162 0 v = withAbort (enterFault 162 0) v := if_pos (by rw [show (srcAt 162 v).frozen = false from hf]; rfl)
  have hw : SourcesOnly v (noted 162 4 0 v) := noted_sourcesOnly ..
  obtain ⟨w, hwdef, hwb, hwx, hwc⟩ : ∃ w, noted 162 4 0 v = w ∧ w.flt.belay = false ∧ w.flt.rebootExhausted = true ∧ w.chg = v.chg := by
    obtain ⟨_, _, _, _, hflt⟩ := hw.flt
    exact ⟨_, rfl, by rw [hflt]; exact hb, by rw [hflt], hw.changes.chg rfl⟩
  have h4v : sevOf 162 v = 4 := h4
  have henter : enterFault 162 0 v = enterBelay 162 w := by
    rw [enterFault_reacts 0 (show shadowed 162 v = false from hsh) (by rw [h4v]; rfl), h4v, hwdef, takeReaction, if_pos rfl]
  obtain ⟨hp, hx, hc⟩ := enterBelay_idle 162 hwb
  obtain ⟨hbel, hcause, -, -⟩ := enterBelay_effects 162 hwb
  have hex : exercising (enterBelay 162 w) = exercising v := by
    simp only [exercising, hc, hwc]
  rw [hstart, hfault, withAbort, henter, hex, if_neg (by cases exercising v <;> simp)]
  exact ⟨hp, hx.trans hwx, hbel, hcause⟩

/-! ### The commands of the hold and the re-boot (R60, R175 to R179) -/

theorem holdIslandReady_inactive (h : pairActive .hold s = false) : exec .holdIslandReady s = .next s := by
  change execHoldIslandReady s = _
  unfold execHoldIslandReady
  rw [h]
  rfl

theorem holdIslandReady_selvedge (h : pairActive .hold s = true) (hb : s.flt.belay = false) (hp : s.sel.phase = .holding) :
    exec .holdIslandReady s = .next (selvedgeReady s) := by
  change execHoldIslandReady s = _
  unfold execHoldIslandReady
  rw [if_neg (by simp [h]), if_neg (by simp [hb]), if_pos hp]

theorem selvedgeReady_cools (ht : s.sel.thermal = true) : (selvedgeReady s).sel.phase = .cooling ∧
    (domAt 1 (selvedgeReady s)).on = false ∧ Refreshed (selvedgeReady s) := by
  have hc := switchOff_one_changes (setRefresh true s)
  have hth : (switchOff 1 (setRefresh true s)).sel.thermal = true := by
    rw [hc.sel rfl]
    exact ht
  unfold selvedgeReady
  dsimp only
  rw [if_pos hth]
  exact ⟨rfl, switchOff_off 1 _, (setRefresh_refreshed s).of_ch (switchOff_ch 1 _)⟩

/-- The state in which the selvedge starts its attempt: VCORE_E off and every rank in self-refresh. -/
theorem switchOff_refreshed (v : State) : ∃ w, switchOff 1 (setRefresh true v) = w ∧ Changes 0x4102211 v w ∧ Refreshed w :=
  ⟨_, rfl, (setRefresh_changes true (m' := 0x4102211) (by rfl) (.refl _ v)).trans (switchOff_one_changes _),
    (setRefresh_refreshed v).of_ch (switchOff_ch 1 _)⟩

theorem selvedgeReady_attempts (ht : s.sel.thermal = false) : ∃ w, selvedgeReady s = startAttempt w ∧ Changes 0x4102211 s w ∧
    Refreshed w := by
  obtain ⟨w, hw, hc, hr⟩ := switchOff_refreshed s
  refine ⟨w, ?_, hc, hr⟩
  unfold selvedgeReady
  dsimp only
  rw [hw, if_neg (by rw [hc.sel rfl, ht]; exact Bool.false_ne_true)]

theorem rebootTimeoutExpiry_attempts (hp : s.sel.phase = .rebooting) (hb : s.flt.belay = false) : ∃ w,
    exec .rebootTimeoutExpiry s = .next (startAttempt w) ∧ Changes 0x4182211 s w ∧ w.sel.attempts = s.sel.attempts ∧ Refreshed w := by
  have hd : Changes 0x80000 s (drivePair .hold true s) := drivePair_changes .hold true (by rfl) (.refl _ s)
  obtain ⟨v, hv, hvc, hva⟩ : ∃ v, ({ drivePair .hold true s with warm := { (drivePair .hold true s).warm with step := 5 } } : State) = v ∧
      Changes 0x180000 s v ∧ v.sel.attempts = s.sel.attempts :=
    ⟨_, rfl, Changes.put_warm (by rfl) (hd.mono (by rfl)), rfl⟩
  obtain ⟨w, hw, hc, hr⟩ := switchOff_refreshed v
  refine ⟨w, ?_, (hvc.mono (by rfl)).trans (hc.mono (by rfl)), by rw [hc.sel rfl, hva], hr⟩
  change execRebootTimeoutExpiry s = _
  unfold execRebootTimeoutExpiry
  rw [if_pos (by simp [hp, hb])]
  dsimp only
  rw [hv, hw]

theorem startAttempt_reboots_of (hw : Changes 0x4182211 s w) (ha : w.sel.attempts = s.sel.attempts)
    (h : s.sel.attempts < setting s P.rebootMax) (hr : Refreshed w) : (startAttempt w).sel.phase = .rebooting ∧
    (startAttempt w).sel.attempts = s.sel.attempts + 1 ∧ Refreshed (startAttempt w) ∧
    (inVault s = true → (startAttempt w).vlt.reboots = satAdd 255 s.vlt.reboots 1) := by
  obtain ⟨h1, h2, h3, h4⟩ := startAttempt_reboots (s := w) (by rw [ha, setting_congr (hw.drf rfl)]; exact h)
  refine ⟨h1, by rw [h2, ha], hr.of_ch (by rw [h3]), fun hv => ?_⟩
  rw [h4 (by rw [inVault, hw.vlt rfl]; exact hv), hw.vlt rfl]

/-- Either command exhausts the attempts (R175, R178). -/
theorem attempt_exhausts {c : Instr} (hc : c = .rebootTimeoutExpiry ∧ s.sel.phase = .rebooting ∨
      c = .holdIslandReady ∧ pairActive .hold s = true ∧ s.sel.phase = .holding ∧ s.sel.thermal = false)
    (hb : s.flt.belay = false) (h : setting s P.rebootMax ≤ s.sel.attempts) (h4 : sevOf 162 s = 4) (hf : (srcAt 162 s).frozen = false)
    (hsh : shadowed 162 s = false) : ∃ t, exec c s = .next t ∧ t.sel.phase = .idle ∧ t.flt.rebootExhausted = true ∧
      t.flt.belay = true ∧ t.flt.belayCause = 162 := by
  obtain ⟨w, hexec, hw, ha⟩ : ∃ w, exec c s = .next (startAttempt w) ∧ Changes 0x4182211 s w ∧ w.sel.attempts = s.sel.attempts := by
    rcases hc with ⟨rfl, hp⟩ | ⟨rfl, hact, hp, ht⟩
    · obtain ⟨w, hexec, hw, ha, -⟩ := rebootTimeoutExpiry_attempts hp hb
      exact ⟨w, hexec, hw, ha⟩
    · obtain ⟨w, hsel, hw, -⟩ := selvedgeReady_attempts ht
      exact ⟨w, by rw [holdIslandReady_selvedge hact hb hp, hsel], hw.mono (by rfl), by rw [hw.sel rfl]⟩
  have hflt := hw.flt rfl
  have hsrc (m : Nat) : srcAt m w = srcAt m s := srcAt_congr (by rw [hflt]) m
  have hdrf := hw.drf rfl
  exact ⟨_, hexec, startAttempt_exhausted (by rw [ha, setting_congr hdrf]; exact h) (by rw [hflt, hb])
    (by rw [sevOf_congr hdrf (by rw [hsrc]), h4]) (by rw [hsrc, hf]) (by rw [shadowed_congr hdrf (by rw [hflt]) (fun m => by rw [hsrc]), hsh])⟩

theorem holdIslandReady_holds (h : pairActive .hold s = true) (hb : s.flt.belay = false) (hp : s.sel.phase ≠ .holding)
    (hv : s.vlt.state = .hold) (hw : s.warm.kind = .none) : ∃ t, exec .holdIslandReady s = .next t ∧
      (∀ c ∈ t.cache.ch, c.selfRefresh = true) ∧ t.vlt.state = .hold ∧ (domAt 6 t).on = false ∧ (domAt 7 t).on = false ∧
      (t.pwr.offGroups = [] → (domAt 1 t).on = false ∧ (domAt 2 t).on = false) := by
  have hexec : exec .holdIslandReady s = .next (beginOff [4, 3] (setRefresh true s)) := by
    change execHoldIslandReady s = _
    unfold execHoldIslandReady
    rw [if_neg (by simp [h]), if_neg (by simp [hb]), if_neg hp, if_pos (by simp [hv, hw]), holdReady]
  obtain ⟨t, ht, h6, h7, h12, hc⟩ := beginOff_holds (setRefresh true s)
  have hvlt : (beginOff [4, 3] (setRefresh true s)).vlt = s.vlt :=
    (beginOff_changes _ (m' := 0x4342213) (by rfl) (setRefresh_changes true (by rfl) (.refl _ s))).vlt rfl
  rw [ht] at hexec hvlt
  exact ⟨t, hexec, (setRefresh_refreshed s).of_ch hc, by rw [hvlt, hv], h6, h7, h12⟩

theorem holdIslandReady_belay (h : pairActive .hold s = true) (hb : s.flt.belay = true) (ha : s.flt.awaitHold = true) :
    ∃ t, exec .holdIslandReady s = .next t ∧ t.flt.awaitHold = false ∧ (∀ c ∈ t.cache.ch, c.selfRefresh = true) ∧
      (domAt 1 t).on = false ∧ (domAt 2 t).on = false := by
  have hexec : exec .holdIslandReady s = .next (belayReady s) := by
    change execHoldIslandReady s = _
    unfold execHoldIslandReady
    rw [if_neg (by simp [h]), if_pos hb, if_pos ha]
  obtain ⟨v, hv, hva⟩ : ∃ v, ({ s with flt := { s.flt with awaitHold := false } } : State) = v ∧ v.flt.awaitHold = false := ⟨_, rfl, rfl⟩
  obtain ⟨t, ht, -, h1, h2, hc⟩ := switchOff_pair 1 2 (setRefresh true v)
  rw [belayReady, hv, ht] at hexec
  obtain ⟨⟨_, hx⟩, -, -⟩ := (switchOff_shedOnly 1 (setRefresh true v)).trans (switchOff_shedOnly 2 _)
  rw [ht] at hx
  exact ⟨t, hexec, by rw [hx]; exact hva, (setRefresh_refreshed v).of_ch hc, h1, h2⟩

theorem rebootTimeoutExpiry_waits (h : s.sel.phase ≠ .rebooting ∨ s.flt.belay = true) : exec .rebootTimeoutExpiry s = .next s := by
  change execRebootTimeoutExpiry s = _
  unfold execRebootTimeoutExpiry
  rw [if_neg (by rcases h with h | h <;> simp [h])]

theorem coolWaitExpiry_reboots (hp : s.sel.phase = .cooling) (hb : s.flt.belay = false) : ∃ t, exec .coolWaitExpiry s = .next t ∧
    t.sel.phase = .rebooting ∧ t.sel.attempts = s.sel.attempts ∧ t.sel.thermal = false ∧ t.vlt.throttled = true := by
  have hr (v : State) : Changes 0x42300 v (railsOn v) := railsOn_changes (by rfl) (.refl _ v)
  have hexec : exec .coolWaitExpiry s = .next (startCooled s) := by
    change execCoolWaitExpiry s = _
    unfold execCoolWaitExpiry
    rw [if_pos (by simp [hp, hb])]
  refine ⟨_, hexec, ?_⟩
  unfold startCooled
  rw [(hr _).sel rfl, (hr _).vlt rfl]
  exact ⟨rfl, rfl, rfl, rfl⟩

theorem coolWaitExpiry_waits (h : s.sel.phase ≠ .cooling ∨ s.flt.belay = true) : exec .coolWaitExpiry s = .next s := by
  change execCoolWaitExpiry s = _
  unfold execCoolWaitExpiry
  rw [if_neg (by rcases h with h | h <;> simp [h])]

end Selvedge
end Sys2Proof.Machine

/-! PROOFS. The resume of a vault after an engine reset (R174, R176; 05_vault.md, Failures during a vault). -/

namespace Sys2Proof.Machine

section Resume
variable {s t u v w : State} {k m : KnotRec} {k' : Option KnotRec} {chain : List KnotRec} {voided : Bool}

/-! ### The knots taken in and the void knots (R70, R176) -/

theorem foldl_vlt {α : Type} {f : State → α → State} (h : ∀ s a, noVault s = false → (f s a).vlt = s.vlt) (l : List α) (s : State)
    (hs : noVault s = false) : (l.foldl f s).vlt = s.vlt := by
  induction l generalizing s with
  | nil => rfl
  | cons a l ih => exact (ih _ (by rw [noVault, h s a hs]; exact hs)).trans (h s a hs)

/-- In a vault a copy that is taken in leaves the vault's registers: it raises its fault alone. -/
theorem adoptUnit_vlt (p : Nat) (g : Page) (iu : NandUnit × Nat) (h : noVault s = false) : (adoptUnit p g s iu).vlt = s.vlt := by
  have hfault (b : Bool) (n : Nat) (y : State) (hy : y.vlt = s.vlt) : (if b then engineFault 18 n y else y).vlt = s.vlt := by
    split
    · rw [engineFault_vlt _ _ (by rw [noVault, hy]; exact h), hy]
    · exact hy
  unfold adoptUnit
  dsimp only
  split
  · rfl
  split
  · split
    · split <;> rfl
    · rfl
  split
  · refine hfault _ _ _ ?_
    split <;> rfl
  · have hset (e : Entry) (y : State) : (setEntry iu.1.index e y).vlt = y.vlt := (setEntry_changes _ e (m' := 0x1) (by rfl) (.refl _ y)).vlt rfl
    split <;> exact hset _ _

theorem adoptKnots_vlt (chain : List KnotRec) (h : noVault s = false) : (adoptKnots chain s).vlt = s.vlt :=
  foldl_vlt (fun s _ hs => foldl_vlt (fun s p hs => foldl_vlt (fun _ iu hs => adoptUnit_vlt p.1 p.2 iu hs) _ s hs) _ s hs) _ s h

/-- A void knot waits for its read-back under its epoch. -/
def Awaited (n : Nat) (s : State) : Prop := ∃ v ∈ s.stg.voidReads, v.epoch = n ∧ v.reason = 7

theorem writeVoid_awaited (v : VoidWait) (hr : v.reason = 7) {n : Nat} (h : n = v.epoch ∨ Awaited n s) : Awaited n (writeVoid v s) := by
  obtain ⟨bs, hstg⟩ := writeVoid_stg v s
  unfold Awaited
  rw [hstg]
  by_cases hn : n = v.epoch
  · exact ⟨_, List.mem_append_right _ List.mem_cons_self, hn.symm, hr⟩
  · obtain ⟨x, hx, hxe, hxr⟩ := h.resolve_left hn
    exact ⟨x, List.mem_append_left _ (List.mem_filter.2 ⟨hx, decide_eq_true (by rw [hxe]; exact hn)⟩), hxe, hxr⟩

theorem foldl_writeVoid_awaited (k : Nat) (l : List Nat) {n : Nat} (h : (∃ i ∈ l, n = k + i) ∨ Awaited n s) :
    Awaited n (l.foldl (fun s i => writeVoid { epoch := k + i, reason := 7, ts := engineNow s } s) s) := by
  induction l generalizing s with
  | nil =>
    rcases h with ⟨i, hi, -⟩ | h
    · exact absurd hi List.not_mem_nil
    · exact h
  | cons i l ih =>
    refine ih ?_
    rcases h with ⟨j, hj, hn⟩ | h
    · rcases List.mem_cons.1 hj with rfl | hj
      · exact .inr (writeVoid_awaited _ rfl (.inl hn))
      · exact .inl ⟨j, hj, hn⟩
    · exact .inr (writeVoid_awaited _ rfl (.inr h))

theorem foldl_writeVoid_stg (k : Nat) (l : List Nat) (s : State) : ∃ reads,
    (l.foldl (fun s i => writeVoid { epoch := k + i, reason := 7, ts := engineNow s } s) s).stg = { s.stg with voidReads := reads } := by
  induction l generalizing s with
  | nil => exact ⟨_, rfl⟩
  | cons i l ih =>
    obtain ⟨_, hi⟩ := writeVoid_stg { epoch := k + i, reason := 7, ts := engineNow s } s
    obtain ⟨_, hl⟩ := ih (writeVoid { epoch := k + i, reason := 7, ts := engineNow s } s)
    exact ⟨_, hl.trans (by rw [hi])⟩

theorem voidFive_stages (k : Nat) (s : State) : (voidFive k s).stg.nextEpoch = k + 6 ∧ (voidFive k s).stg.lastKnot = s.stg.lastKnot ∧
    (voidFive k s).stg.lastKnotEpoch = s.stg.lastKnotEpoch ∧ (∀ i, 1 ≤ i → i ≤ 5 → Awaited (k + i) (voidFive k s)) := by
  unfold voidFive
  extract_lets g v
  obtain ⟨_, hstg⟩ := foldl_writeVoid_stg k [1, 2, 3, 4, 5] v
  exact ⟨by rw [hstg], by rw [hstg], by rw [hstg], fun i h1 h5 => foldl_writeVoid_awaited k _ (.inl ⟨i, by simp; omega, rfl⟩)⟩

/-- An entry after the scan of the map: what was being staged is dirty. -/
def scanned (e : Nat × Entry) : Option (Nat × Entry) :=
  let st := if e.2.st = .staging then GState.dirty else e.2.st
  if st = .zero then none else some (e.1, { st := st, pending := false })

theorem scanMap_map (s : State) : (scanMap s).cache.map = s.cache.map.filterMap scanned := rfl

/-- The scan of the map leaves the granules of the residual as they are (R161). -/
theorem residual_scanned (p : Nat → Bool) (l : List (Nat × Entry)) :
    ((l.filterMap scanned).filter (fun e => inRes e.2 && p e.1)).map (·.1) = (l.filter (fun e => inRes e.2 && p e.1)).map (·.1) := by
  induction l with
  | nil => rfl
  | cons e l ih =>
    obtain ⟨g, st, b⟩ := e
    cases st <;> cases hp : p g <;> simp [scanned, inRes, hp] at ih ⊢ <;> exact ih

theorem manifestOf_scanMap (s : State) : manifestOf (scanMap s) = manifestOf s := residual_scanned (fun g => decide (boltOf s g < 63)) _

theorem manifestOf_congr (hc : t.cache = s.cache) (hd : t.drf = s.drf) : manifestOf t = manifestOf s := by
  simp only [manifestOf, hc, boltOf_congr hd]

/-! ### What the resume does before the vault goes on (R70, R176) -/

/-- What the resume has done before the vault goes on from the newest knot record `k`, of epoch `top`. -/
structure Resuming (slot : Option Nat) (top : Nat) (s w : State) : Prop where
  vlt : w.vlt = s.vlt
  drf : w.drf = s.drf
  tbs : w.tbs = s.tbs
  restore : w.restore = s.restore
  kind : w.warm.kind = .none
  step : w.warm.step = 0
  stopTs : w.warm.stopTs = s.warm.stopTs
  next : w.stg.nextEpoch = top + 6
  lastKnot : w.stg.lastKnot = slot
  lastEpoch : w.stg.lastKnotEpoch = top
  voids : ∀ i, 1 ≤ i → i ≤ 5 → Awaited (top + i) w

/-- The state before the void knots: the newest knot is noted, and the engine's reset is over. -/
def atKnot (k : Option KnotRec) (v : State) : State :=
  { v with
      stg := { v.stg with lastKnot := k.map KnotRec.slot, lastKnotEpoch := topOf k }
      warm := { v.warm with kind := .none, step := 0 }, thm := { v.thm with lastResume := some (now v) } }

theorem resumeVault_eq (hk : (if linkUp u then searchFrom u.log.knotPtr u else newestKnot u) = k') :
    resumeVault u = demandChanged (noChannel (resumeAt k' (endsVoided (topOf k') u) (knottedChain u (k'.map KnotRec.slot))
      (scanMap (voidFive (topOf k') (atKnot k' (adoptKnots (knottedChain u (k'.map KnotRec.slot)) u)))))) := by
  unfold resumeVault
  rw [hk]
  cases k' <;> rfl

theorem resumeVault_resumes (h : noVault u = false) (hk : (if linkUp u then searchFrom u.log.knotPtr u else newestKnot u) = k') :
    ∃ w, resumeVault u = demandChanged (noChannel (resumeAt k' (endsVoided (topOf k') u) (knottedChain u (k'.map KnotRec.slot)) w)) ∧
      Resuming (k'.map KnotRec.slot) (topOf k') u w ∧ (k' = none → manifestOf w = manifestOf u) := by
  obtain ⟨v, hv, hvc, hvv, hvr⟩ : ∃ v, adoptKnots (knottedChain u (k'.map KnotRec.slot)) u = v ∧ Changes 0x4c0c0021 u v ∧ v.vlt = u.vlt ∧
      (k' = none → v = u) := by
    refine ⟨_, rfl, adoptKnots_changes _ (by rfl) (.refl _ u), adoptKnots_vlt _ h, fun hn => ?_⟩
    rw [hn, Option.map_none, knottedChain_none]
    rfl
  obtain ⟨x, hx, hxl, hxe, hxw, hxk⟩ : ∃ x, atKnot k' v = x ∧
      x.stg.lastKnot = k'.map KnotRec.slot ∧ x.stg.lastKnotEpoch = topOf k' ∧ x.warm = { v.warm with kind := .none, step := 0 } ∧
      (x.vlt = v.vlt ∧ x.drf = v.drf ∧ x.tbs = v.tbs ∧ x.restore = v.restore ∧ x.cache = v.cache) :=
    ⟨_, rfl, rfl, rfl, rfl, rfl, rfl, rfl, rfl, rfl⟩
  obtain ⟨hxv, hxd, hxt, hxr, hxc⟩ := hxk
  obtain ⟨y, hy, hfive, hn, hl, he, hi⟩ : ∃ y, voidFive (topOf k') x = y ∧ Changes 0xc2000018 x y ∧ y.stg.nextEpoch = topOf k' + 6 ∧
      y.stg.lastKnot = x.stg.lastKnot ∧ y.stg.lastKnotEpoch = x.stg.lastKnotEpoch ∧ (∀ i, 1 ≤ i → i ≤ 5 → Awaited (topOf k' + i) y) :=
    ⟨_, rfl, voidFive_changes _ (by rfl) (.refl _ x), voidFive_stages (topOf k') x⟩
  have hw : Changes 0xc2000019 x (scanMap y) := scanMap_changes (by rfl) (hfive.mono (by rfl))
  refine ⟨scanMap y, by rw [resumeVault_eq hk, hv, hx, hy], ?_, fun hnone => ?_⟩
  · exact {
      vlt := by rw [hw.vlt rfl, hxv, hvv]
      drf := by rw [hw.drf rfl, hxd, hvc.drf rfl]
      tbs := by rw [hw.tbs rfl, hxt, hvc.tbs rfl]
      restore := by rw [hw.restore rfl, hxr, hvc.restore rfl]
      kind := by rw [hw.warm rfl, hxw]
      step := by rw [hw.warm rfl, hxw]
      stopTs := by rw [hw.warm rfl, hxw, hvc.warm rfl]
      next := hn, lastKnot := hl.trans hxl, lastEpoch := he.trans hxe, voids := hi }
  · rw [manifestOf_scanMap, manifestOf_congr (hfive.cache rfl) (hfive.drf rfl), manifestOf_congr hxc hxd, hvr hnone]

/-! ### Where the vault goes on (R176) -/

theorem resumeFenced_fences (w : State) : (resumeFenced w).vlt.state = .fenced ∧ (resumeFenced w).vlt.manifestRebuilt = true ∧
    (resumeFenced w).drain.manifest = some (manifestOf w) ∧
    (w.vlt.state = .confirmed ∨ w.vlt.state = .window →
      (resumeFenced w).vlt.fenceBy = 5 ∧ (resumeFenced w).vlt.fenceTs = w.warm.stopTs) := by
  have hend (c : Bool) (x : State) : Changes 0x4c000400 x (if c then sendFrame .engine (.warning 3) (answerFlush true x) else x) := by
    split
    · exact sendFrame_changes _ _ (by rfl) (answerFlush_changes true (by rfl) (.refl _ x))
    · exact .refl _ x
  have hset (x : State) : Changes 0x4c000020 x (setVault .fenced x) := setVault_changes .fenced (by rfl) (.refl _ x)
  unfold resumeFenced
  extract_lets fresh a b c d e f
  have hv : f.vlt = { e.vlt with state := .fenced } := setVault_vlt .fenced e
  have hc : manifestOf c = manifestOf w := by
    unfold c
    split <;> rfl
  refine ⟨by rw [(hend fresh f).vlt rfl, hv], by rw [(hend fresh f).vlt rfl, hv], ?_, fun h => ?_⟩
  · rw [(hend fresh f).drain rfl, (hset e).drain rfl, ← hc]
  · have hf : fresh = true := by simpa [fresh] using h
    have hcv : c.vlt.fenceBy = 5 ∧ c.vlt.fenceTs = w.warm.stopTs := by
      unfold c
      rw [if_pos hf]
      exact ⟨rfl, rfl⟩
    rw [(hend fresh f).vlt rfl, hv]
    exact hcv

theorem askSnapshot_asks (s : State) : (askSnapshot s).drain.stage = .asked := by
  unfold askSnapshot
  rw [(sendFrame_changes _ _ (m' := 0x4c000000) (by rfl) (.refl _ _)).drain rfl]

theorem resumeDrain_state (m : KnotRec) (last : Option (Nat × Nat)) (w : State) :
    (resumeDrain m last w).vlt.state = .drain ∨ (resumeDrain m last w).vlt.state = .knot := by
  unfold resumeDrain
  extract_lets
  split
  · exact .inr (setVault_state ..)
  · exact .inl (setVault_state ..)

theorem resumeKnot_state (m : KnotRec) (w : State) : (resumeKnot m w).vlt.state = .knot ∧ (resumeKnot m w).drain.stage = .asked := by
  unfold resumeKnot
  refine ⟨setVault_state .., ?_⟩
  rw [(setVault_changes .knot (m' := 0x4c000020) (by rfl) (.refl _ _)).drain rfl]
  exact askSnapshot_asks _

theorem resumeAt_none (voided : Bool) (chain : List KnotRec) (w : State) : resumeAt none voided chain w = resumeFenced w := by
  unfold resumeAt
  cases chain.find? (fun x => x.kind = .manifest) <;> rfl

theorem resumeAt_again (h : voided = true ∨ k.kind = .staging ∨ k.kind = .gc ∨ k.vault ≠ w.vlt.number) :
    resumeAt (some k) voided chain w = resumeFenced w := by
  unfold resumeAt
  cases chain.find? (fun x => x.kind = .manifest) with
  | none => rfl
  | some m => exact if_pos (by rcases h with h | h | h | h <;> simp [h, ofThisVault])

/-- The vault goes on as its newest knot says, once its manifest is knotted. -/
theorem resumeAt_goesOn (hv : voided = false) (hn : k.vault = w.vlt.number) (hm : ∃ m ∈ chain, m.kind = .manifest) :
    (k.kind = .manifest ∨ k.kind = .drain → ∃ m last, resumeAt (some k) voided chain w = resumeDrain m last w) ∧
    (k.kind = .system ∨ k.kind = .ckptEnd → ∃ m, resumeAt (some k) voided chain w = resumeKnot m w) ∧
    (k.kind = .final → resumeAt (some k) voided chain w = afterFinal false (finalRecords k { w with
      vlt := { w.vlt with endTs := engineNow w }, mbx := { w.mbx with sealedKnot := true, writtenSince := false } })) := by
  obtain ⟨m, hfind⟩ : ∃ m, chain.find? (fun x => x.kind = .manifest) = some m := by
    obtain ⟨m, hmem, hkind⟩ := hm
    exact Option.isSome_iff_exists.1 (List.find?_isSome.2 ⟨m, hmem, by simp [hkind]⟩)
  unfold resumeAt
  rw [hfind]
  dsimp only
  have hthis (hk : k.kind ≠ .staging ∧ k.kind ≠ .gc) : (voided || !ofThisVault k w) = false := by simp [ofThisVault, hv, hn, hk]
  refine ⟨fun h => ?_, fun h => ?_, fun h => ?_⟩
  · rcases h with h | h
    · rw [hthis (by simp [h]), h]
      exact ⟨m, _, rfl⟩
    · rw [hthis (by simp [h]), h]
      exact ⟨m, _, rfl⟩
  · rcases h with h | h
    · rw [hthis (by simp [h]), h]
      exact ⟨m, rfl⟩
    · rw [hthis (by simp [h]), h]
      exact ⟨m, rfl⟩
  · rw [hthis (by simp [h]), h]
    rfl

/-- A resume that no final knot ends leaves what it found of the newest knot, and the vault runs. -/
theorem resumeAt_runs (h : voided = true ∨ ∀ x, k' = some x → x.kind ≠ .final) : Changes 0x4c008460 w (resumeAt k' voided chain w) ∧
    noVault (resumeAt k' voided chain w) = false := by
  have hfenced : Changes 0x4c008460 w (resumeFenced w) ∧ noVault (resumeFenced w) = false :=
    ⟨resumeFenced_changes (by rfl) (.refl _ w), by rw [noVault, (resumeFenced_fences w).1]; rfl⟩
  have hdrain (m : KnotRec) (last : Option (Nat × Nat)) : Changes 0x4c008460 w (resumeDrain m last w) ∧ noVault (resumeDrain m last w) = false := by
    refine ⟨resumeDrain_changes m last (by rfl) (.refl _ w), ?_⟩
    rw [noVault]
    rcases resumeDrain_state m last w with h | h <;> rw [h] <;> rfl
  have hknot (m : KnotRec) : Changes 0x4c008460 w (resumeKnot m w) ∧ noVault (resumeKnot m w) = false :=
    ⟨resumeKnot_changes m (by rfl) (.refl _ w), by rw [noVault, (resumeKnot_state m w).1]; rfl⟩
  unfold resumeAt
  split
  · split
    · exact hfenced
    next hv =>
      split
      · exact hdrain ..
      · exact hdrain ..
      · exact hknot _
      · exact hknot _
      next hk =>
        rcases h with h | h
        · exact absurd (by rw [h]; rfl) hv
        · exact absurd hk (h _ rfl)
      · exact hfenced
      · exact hfenced
  · exact hfenced

/-- The demand of the NAND and the state of the channels leave a vault that runs as it is. -/
theorem resumed_keeps (h : noVault s = false) : Changes 0x4c0c0120 s (demandChanged (noChannel s)) ∧
    (demandChanged (noChannel s)).vlt = s.vlt := by
  have hn : Changes 0x4c0c0120 s (noChannel s) := noChannel_changes (by rfl) (.refl _ s)
  have hd : Changes 0x40000100 (noChannel s) (demandChanged (noChannel s)) := demandChanged_changes (by rfl) (.refl _ _)
  refine ⟨hn.trans (hd.mono (by rfl)), (hd.vlt rfl).trans ?_⟩
  unfold noChannel
  split
  · exact engineFault_vlt _ _ h
  · rfl

theorem resumed_fields (s : State) : ∃ c n b, (demandChanged (noChannel s)).vlt = { s.vlt with cause := c, source := n, engineCause := b } := by
  have hd : Changes 0x40000100 (noChannel s) (demandChanged (noChannel s)) := demandChanged_changes (by rfl) (.refl _ _)
  rw [hd.vlt rfl]
  unfold noChannel
  split
  · exact engineFault_vlt_fields ..
  · exact ⟨_, _, _, rfl⟩

/-! ### The end of a vault whose final knot is found (R185, R186) -/

theorem beginWarm_vlt (s : State) : ∃ n, (beginWarm .chipset s).vlt = { s.vlt with reboots := n, state := .notArmed } := by
  have hend (v : State) : (setVault .notArmed (strayEpochs (voidWhere (fun e => !knotInProgram e) 8 (closeOpen (clearPort
      (discardWrites v)))))).vlt = { v.vlt with state := .notArmed } := by
    have hc : Changes 0xc2000c19 v (strayEpochs (voidWhere (fun e => !knotInProgram e) 8 (closeOpen (clearPort (discardWrites v))))) :=
      strayEpochs_changes (by rfl) (voidWhere_changes _ 8 (by rfl) (closeOpen_changes (by rfl) (clearPort_changes (by rfl)
        (discardWrites_changes (by rfl) (.refl _ v)))))
    rw [setVault_vlt, hc.vlt rfl]
  have hlog : (logEvent 7 (resetCode .chipset) (b01 (newWarm .chipset s).fromOff) s).vlt = s.vlt := rfl
  unfold beginWarm
  extract_lets w v a b x y c d
  obtain ⟨n, hx⟩ : ∃ n, x.vlt = { s.vlt with reboots := n } := by
    unfold x
    split
    · exact ⟨1, by rw [← hlog]⟩
    · exact ⟨s.vlt.reboots, hlog⟩
  have hy : y.vlt = x.vlt := by
    unfold y
    split
    · exact (voidEpoch_changes 1 _ (m' := 0xc2000019) (by rfl) (.refl _ x)).vlt rfl
    · rfl
  rw [if_neg (by simp)]
  have hc : c.vlt = { s.vlt with reboots := n } := hy.trans hx
  exact ⟨n, (hend _).trans (congrArg (fun v : VltSt => { v with state := .notArmed }) hc)⟩

theorem afterFinal_ends (b : Bool) (s : State) : (afterFinal b s).vlt.endTs = s.vlt.endTs ∧ (afterFinal b s).vlt.confirming = false ∧
    ((afterFinal b s).vlt.state = .notArmed ∨ (afterFinal b s).vlt.state = .hold ∨ (afterFinal b s).vlt.state = .off) := by
  have hwarm (x : State) : (beginWarm .chipset x).vlt.endTs = x.vlt.endTs ∧ (beginWarm .chipset x).vlt.confirming = x.vlt.confirming ∧
      (beginWarm .chipset x).vlt.state = .notArmed := by
    obtain ⟨_, h⟩ := beginWarm_vlt x
    rw [h]
    exact ⟨rfl, rfl, rfl⟩
  have hhold (x : State) : (enterHold x).vlt = { x.vlt with state := .hold } := by
    unfold enterHold
    rw [(drivePair_changes .hold true (m' := 0x80000) (by rfl) (.refl _ _)).vlt rfl, setVault_vlt]
  have hoff (x : State) : (enterOff x).vlt = { x.vlt with state := .off } := by
    unfold enterOff
    rw [(beginOff_changes _ (m' := 0x4342213) (by rfl) (.refl _ _)).vlt rfl, setVault_vlt]
  have hservice (x : State) : (returnToService b x).vlt = { x.vlt with state := .notArmed } := by
    have hc : Changes 0x42381 (setVault .notArmed x) (beginHeld true b (beginSeq .host (normalRate (setVault .notArmed x)))) :=
      beginHeld_changes true b (by rfl) (beginSeq_changes .host (by rfl) (normalRate_changes (by rfl) (.refl _ _)))
    change (beginHeld true b (beginSeq .host (normalRate (setVault .notArmed x)))).vlt = _
    rw [hc.vlt rfl, setVault_vlt]
  unfold afterFinal
  extract_lets own r x due z y
  have hy : y.vlt = { s.vlt with confirming := false, collapse := false, throttled := false } := by
    have hd (p : PairId) (q : State) : (drivePair p false q).vlt = q.vlt := (drivePair_changes p false (m' := 0x80000) (by rfl) (.refl _ q)).vlt rfl
    change (vaultOver _).vlt = _
    unfold vaultOver
    rw [hd, hd]
  split
  · split
    · obtain ⟨h1, h2, h3⟩ := hwarm y
      exact ⟨h1.trans (by rw [hy]), h2.trans (by rw [hy]), .inl h3⟩
    · rw [hservice, hy]
      exact ⟨rfl, rfl, .inl rfl⟩
  split
  · split
    · obtain ⟨h1, h2, h3⟩ := hwarm (enterHold y)
      rw [hhold, hy] at h1 h2
      exact ⟨h1, h2, .inl h3⟩
    · rw [hhold, hy]
      exact ⟨rfl, rfl, .inr (.inl rfl)⟩
  · rw [hoff, hy]
    exact ⟨rfl, rfl, .inr (.inr rfl)⟩

/-! ### VAULT_RESUME -/

/-- A resume that no final knot ends: the vault's registers and the drain stand where the newest knot has them go on. -/
theorem resumeVault_runs (h : noVault u = false) (hk : (if linkUp u then searchFrom u.log.knotPtr u else newestKnot u) = k')
    (hf : endsVoided (topOf k') u = true ∨ ∀ x, k' = some x → x.kind ≠ .final) : ∃ w t, resumeVault u = t ∧
      Resuming (k'.map KnotRec.slot) (topOf k') u w ∧ (k' = none → manifestOf w = manifestOf u) ∧
      t.vlt = (resumeAt k' (endsVoided (topOf k') u) (knottedChain u (k'.map KnotRec.slot)) w).vlt ∧
      t.drain = (resumeAt k' (endsVoided (topOf k') u) (knottedChain u (k'.map KnotRec.slot)) w).drain ∧
      t.warm = w.warm ∧ t.restore = u.restore ∧ t.stg = w.stg := by
  obtain ⟨w, hres, hw, hman⟩ := resumeVault_resumes h hk
  obtain ⟨hx, hxv⟩ := resumeAt_runs (w := w) (chain := knottedChain u (k'.map KnotRec.slot)) hf
  obtain ⟨ht, htv⟩ := resumed_keeps hxv
  exact ⟨w, _, hres, hw, hman, htv, ht.drain rfl, (ht.warm rfl).trans (hx.warm rfl),
    (ht.restore rfl).trans ((hx.restore rfl).trans hw.restore), (ht.stg rfl).trans (hx.stg rfl)⟩

theorem Resuming.awaited {slot : Option Nat} {top : Nat} (h : Resuming slot top s w) (ht : t.stg = w.stg) (i : Nat) (h1 : 1 ≤ i)
    (h5 : i ≤ 5) : ∃ v ∈ t.stg.voidReads, v.epoch = top + i ∧ v.reason = 7 := by
  rw [ht]
  exact h.voids i h1 h5

theorem inVault_runs (h : inVault s = true) : noVault s = false := by
  unfold inVault at h
  unfold noVault
  split at h <;> simp_all

theorem vaultResume_noKey {reads : List PageRead} (hk : s.warm.kind = .engine) (h8 : s.warm.step = 8) (hv : inVault s = true)
    (hu : s.warm.engineUp = true) (hd : discoveryDone s = true) (hb : s.flt.belay = false) (hl : s.lcs.st ≠ .retired)
    (hkey : keyUnwraps s = false) : ∃ t, exec (.vaultResume reads) s = .next t ∧ t.restore.keyOk = false ∧ 16 ∈ t.flt.engineLive ∧
      t.vlt = s.vlt ∧ t.warm = s.warm := by
  obtain ⟨v, hvdef, hvk, hvv, hvw⟩ : ∃ v, ({ s with restore := { s.restore with keyOk := false } } : State) = v ∧ v.restore.keyOk = false ∧
      v.vlt = s.vlt ∧ v.warm = s.warm := ⟨_, rfl, rfl, rfl, rfl⟩
  have hun : unwrapKey s = engineFault 16 0 v := by
    unfold unwrapKey
    rw [if_neg hl, if_neg (by simp [hkey]), hvdef]
  have hc : Changes 0x4c0c0020 v (engineFault 16 0 v) := engineFault_changes 16 0 (by rfl) (.refl _ v)
  have hkeep : (engineFault 16 0 v).restore.keyOk = false := by rw [hc.restore rfl, hvk]
  have hexec : exec (.vaultResume reads) s = .next (engineFault 16 0 v) := by
    change execVaultResume reads s = _
    unfold execVaultResume
    rw [if_pos (by simp [hk, h8, hv, hu, hd, hb]), hun]
    dsimp only
    rw [if_neg (by rw [hkeep]; exact Bool.false_ne_true)]
  exact ⟨_, hexec, hkeep, mem_engineLive_engineFault 0 (by decide),
    by rw [engineFault_vlt 16 0 (by rw [noVault, hvv]; exact inVault_runs hv), hvv], by rw [hc.warm rfl, hvw]⟩

theorem exec_vaultResume {reads : List PageRead} (hk : s.warm.kind = .engine) (h8 : s.warm.step = 8) (hv : inVault s = true)
    (hu : s.warm.engineUp = true) (hd : discoveryDone s = true) (hb : s.flt.belay = false) (hl : s.lcs.st ≠ .retired)
    (hkey : keyUnwraps s = true) : ∃ u, u = noteReads reads { s with
        restore := { s.restore with keyOk := true }, nand := { s.nand with badHeaders := [], badSlots := [] } } ∧
      exec (.vaultResume reads) s = .next (resumeVault u) ∧ Changes 0xc2000088 s u ∧ u.restore.keyOk = true := by
  have hn := noteReads_keeps reads { s with
    restore := { s.restore with keyOk := true }, nand := { s.nand with badHeaders := [], badSlots := [] } }
  have hx : Changes 0xc2000088 s { s with
      restore := { s.restore with keyOk := true }, nand := { s.nand with badHeaders := [], badSlots := [] } } :=
    Changes.put_restore (by rfl) (Changes.put_nand (x := { s.nand with badHeaders := [], badSlots := [] }) (by rfl)
      (fun h => ⟨h.channels, h.targets, h.blocks⟩) (.refl _ s))
  refine ⟨_, rfl, ?_, hx.trans (hn.mono (by rfl)), by rw [hn.restore rfl]⟩
  have hun : unwrapKey s = { s with restore := { s.restore with keyOk := true } } := by
    unfold unwrapKey
    rw [if_neg hl, if_pos hkey]
  change execVaultResume reads s = _
  unfold execVaultResume
  rw [if_pos (by simp [hk, h8, hv, hu, hd, hb]), hun]
  dsimp only
  rw [if_pos rfl]

end Resume

/-- Settles O29. -/
theorem selvedgeRebootsAndResumes : Obligations.SelvedgeRebootsAndResumes := by
  refine ⟨⟨fun s h hb hp ht => ?_, fun s h hb hp ht ha => ?_, fun s h hb hp hv hw => holdIslandReady_holds h hb hp hv hw,
      fun s h hb ha => holdIslandReady_belay h hb ha, fun s h => holdIslandReady_inactive h⟩,
    ⟨fun s hp hb ha => ?_, fun s c hc hb ha h4 hf hsh _ => attempt_exhausts hc hb ha h4 hf hsh, fun s h => rebootTimeoutExpiry_waits h,
      fun s hp hb => coolWaitExpiry_reboots hp hb, fun s h => coolWaitExpiry_waits h⟩,
    fun s u reads hk h8 hv hu hd hb hl => ⟨fun hkey => vaultResume_noKey hk h8 hv hu hd hb hl hkey, fun hkey hu' => ?_⟩⟩
  · obtain ⟨h1, h2, h3⟩ := selvedgeReady_cools ht
    exact ⟨_, holdIslandReady_selvedge h hb hp, h1, h2, h3⟩
  · obtain ⟨w, hsel, hw, hr⟩ := selvedgeReady_attempts ht
    obtain ⟨h1, h2, h3, -⟩ := startAttempt_reboots_of (hw.mono (by rfl)) (by rw [hw.sel rfl]) ha hr
    exact ⟨_, by rw [holdIslandReady_selvedge h hb hp, hsel], h1, h2, h3⟩
  · obtain ⟨w, hexec, hw, hwa, hr⟩ := rebootTimeoutExpiry_attempts hp hb
    obtain ⟨h1, h2, h3, h4⟩ := startAttempt_reboots_of hw hwa ha hr
    exact ⟨_, hexec, h1, h2, h3, h4⟩
  · obtain ⟨x, hx, hexec, hc, hkey'⟩ := exec_vaultResume (reads := reads) hk h8 hv hu hd hb hl hkey
    obtain rfl : u = x := hu'.trans hx.symm
    have hvu : u.vlt = s.vlt := hc.vlt rfl
    have hrun : noVault u = false := by rw [noVault, hvu]; exact inVault_runs hv
    refine ⟨fun hk' hst => ?_, fun k hk' => ⟨fun hk3 => ?_, fun hv3 hf hn hm => ?_⟩⟩
    · obtain ⟨w, t, ht, hw, hman, htv, htd, htw, htr, htg⟩ := resumeVault_runs hrun hk' (.inr (by simp))
      rw [resumeAt_none] at htv htd
      obtain ⟨h1, h2, h3, h4⟩ := resumeFenced_fences w
      obtain ⟨h5, h6⟩ := h4 (by rw [hw.vlt, hvu]; exact hst)
      have hstop : w.warm.stopTs = s.warm.stopTs := hw.stopTs.trans (congrArg RstSt.stopTs (hc.warm rfl))
      refine ⟨t, hexec.trans (by rw [ht]), by rw [htv, h1], by rw [htv, h5], by rw [htv, h6, hstop], by rw [htv, h2], ?_, by rw [htw, hw.kind],
        by rw [htw, hw.step], by rw [htg, hw.next]; rfl, by rw [htr, hkey'], fun i hi h5 => ?_⟩
      · rw [htd, h3, hman rfl, manifestOf_congr (hc.cache rfl) (hc.drf rfl)]
      · obtain ⟨v, hv, hve, hvr⟩ := hw.awaited htg i hi h5
        exact ⟨v, hv, hve.trans (Nat.zero_add i), hvr⟩
    · have hf : endsVoided (topOf (some k)) u = true ∨ ∀ x, some k = some x → x.kind ≠ .final :=
        hk3.imp id fun h x hx => by rw [← Option.some.inj hx]; exact h
      obtain ⟨w, t, ht, hw, -, htv, htd, htw, htr, htg⟩ := resumeVault_runs hrun hk' hf
      change t.vlt = (resumeAt (some k) (endsVoided k.epoch u) (knottedChain u (some k.slot)) w).vlt at htv
      change t.drain = (resumeAt (some k) (endsVoided k.epoch u) (knottedChain u (some k.slot)) w).drain at htd
      have hnum : w.vlt.number = s.vlt.number := congrArg VltSt.number (hw.vlt.trans hvu)
      refine ⟨t, hexec.trans (by rw [ht]), by rw [htw, hw.kind], by rw [htw, hw.step], by rw [htr, hkey'], by rw [htg, hw.lastKnot]; rfl,
        by rw [htg, hw.lastEpoch]; rfl, by rw [htg, hw.next]; rfl, hw.awaited htg, fun h => ?_, fun hv3 hn hm => ?_⟩
      · rw [htv, resumeAt_again (h.imp id (Or.imp id (Or.imp id fun h => by rw [hnum]; exact h)))]
        obtain ⟨h1, h2, -⟩ := resumeFenced_fences w
        exact ⟨h1, h2⟩
      · obtain ⟨hdrain, hknot, -⟩ := resumeAt_goesOn (voided := endsVoided k.epoch u) hv3 (hn.trans hnum.symm) hm
        refine ⟨fun h => ?_, fun h => ?_⟩
        · obtain ⟨m, last, hm⟩ := hdrain h
          rw [htv, hm]
          exact resumeDrain_state m last w
        · obtain ⟨m, hm⟩ := hknot h
          rw [htv, htd, hm]
          exact resumeKnot_state m w
    · obtain ⟨w, hres, hw, -⟩ := resumeVault_resumes hrun hk'
      have hnum : w.vlt.number = s.vlt.number := congrArg VltSt.number (hw.vlt.trans hvu)
      obtain ⟨-, -, hfinal⟩ := resumeAt_goesOn (voided := endsVoided k.epoch u) hv3 (hn.trans hnum.symm) hm
      obtain ⟨x, hx, hxv⟩ : ∃ x, finalRecords k { w with
          vlt := { w.vlt with endTs := engineNow w }, mbx := { w.mbx with sealedKnot := true, writtenSince := false } } = x ∧
          x.vlt.endTs = engineNow s := by
        refine ⟨_, rfl, ?_⟩
        rw [(finalRecords_changes k (m' := 0xc2000008) (by rfl) (.refl _ _)).vlt rfl]
        exact engineNow_congr (hw.tbs.trans (hc.tbs rfl))
      obtain ⟨h1, h2, h3⟩ := afterFinal_ends false x
      have hat : resumeVault u = demandChanged (noChannel (afterFinal false x)) :=
        hres.trans (congrArg (fun x : State => demandChanged (noChannel x)) ((hfinal hf).trans (congrArg (afterFinal false) hx)))
      obtain ⟨c, n, b, hend⟩ := resumed_fields (afterFinal false x)
      refine ⟨_, hexec.trans (by rw [hat]), ?_⟩
      rw [hend]
      exact ⟨h1.trans hxv, h2, h3⟩

end Sys2Proof.Machine

/-! PROOFS. Pages and knot records in the NAND (R194, R203 to R210): where a program goes, that a page programmed stays, what blocks
retired leave of the records. -/

namespace Sys2Proof.Machine

section Pages
variable {s t u v : State} {p q ptr : Nat} {g : Page}

/-! ### A page programmed stands while further pages are programmed (R203) -/

theorem ptr_eq (h : ptrBlock p = ptrBlock q) (hp : ptrPage p = ptrPage q) : p = q := by
  unfold ptrBlock at h
  unfold ptrPage at hp
  omega

theorem next_of_pageFree (h : pageFree p s = true) : (blockAt (ptrBlock p) s).next = ptrPage p := by
  unfold pageFree at h
  simp only [Bool.and_eq_true, decide_eq_true_eq] at h
  exact h.1.1.1.2

theorem next_congr (h : t.nand.blocks = s.nand.blocks) (b : Nat) : (blockAt b t).next = (blockAt b s).next := by
  unfold blockAt
  rw [h]
  split <;> rfl

/-- The page `g` stands at `ptr`, and its block goes on behind it. -/
structure Stands (ptr : Nat) (g : Page) (s : State) : Prop where
  page : tfind s.nand.pages ptr = some g
  next : ptrPage ptr < (blockAt (ptrBlock ptr) s).next

theorem Stands.of_eq (h : Stands ptr g s) (hp : t.nand.pages = s.nand.pages) (hb : t.nand.blocks = s.nand.blocks) : Stands ptr g t :=
  ⟨by rw [hp]; exact h.page, by rw [next_congr hb]; exact h.next⟩

theorem Stands.of_nand (h : Stands ptr g s) (hn : t.nand = s.nand) : Stands ptr g t := h.of_eq (by rw [hn]) (by rw [hn])

/-- A free page lies behind a page that stands. -/
theorem Stands.free (h : Stands ptr g s) (hp : pageFree p s = true) : ptrBlock p = ptrBlock ptr → ptrPage ptr < ptrPage p := by
  intro hb
  rw [← next_of_pageFree hp, hb]
  exact h.next

/-- The block of a page whose program begins goes on behind it; its next page is no other block's. -/
theorem openBlock_next (p b : Nat) (s : State) :
    (blockAt b (openBlock p s)).next = if b = ptrBlock p then ptrPage p + 1 else (blockAt b s).next := by
  unfold openBlock
  dsimp only
  rw [blockAt_modBlock]
  split
  · rfl
  next hb =>
    split
    · rw [blockAt_modBlock, if_neg hb]
      exact next_congr (by rfl) b
    · rfl

theorem openBlock_pages (p : Nat) (s : State) : (openBlock p s).nand.pages = s.nand.pages := by
  unfold openBlock
  dsimp only
  split <;> rfl

/-- A page of an epoch as its program leaves it. -/
def pageOf (p type epoch : Nat) (units : List NandUnit) (dup copyB again : Bool) (partner : Option Nat) (s : State) : Page :=
  let v := onfiPslc (ptrTarget p) (.pageProgram p) (openBlock p s)
  let b := blockAt (ptrBlock p) v
  { type := type, epoch := epoch, units := units, dup := dup, copyB := copyB, reprogram := again, partner := partner, blockSeq := b.seq,
    pe := b.pe, ts := engineNow v, key := v.lcs.keyId }

theorem programPage_pages (p type epoch : Nat) (units : List NandUnit) (a b c : Bool) (q : Option Nat) (s : State) :
    (programPage p type epoch units a b c q s).nand.pages = tins p (pageOf p type epoch units a b c q s) s.nand.pages ∧
    (∀ x, (blockAt x (programPage p type epoch units a b c q s)).next = if x = ptrBlock p then ptrPage p + 1 else (blockAt x s).next) := by
  have honfi (v : State) : Changes 0x40000000 v (onfiPslc (ptrTarget p) (.pageProgram p) v) := onfiPslc_changes _ _ (.self _) (.refl _ v)
  have hsample (x y : Nat) (v : State) : Changes 0x82000000 v (sampleFree x y v) := sampleFree_changes x y (.self _) (.refl _ v)
  unfold programPage
  extract_lets v b page w
  have hv : v.nand = (openBlock p s).nand := (honfi _).nand rfl
  refine ⟨?_, fun x => ?_⟩
  · rw [(hsample _ _ _).nand rfl]
    change tins p page v.nand.pages = _
    rw [hv, openBlock_pages]
    rfl
  · rw [next_congr (congrArg NandSt.blocks ((hsample _ _ _).nand rfl)), ← openBlock_next]
    exact next_congr (congrArg NandSt.blocks hv) x

theorem programPage_stands (type epoch : Nat) (units : List NandUnit) (a b c : Bool) (o : Option Nat) (s : State) :
    Stands p (pageOf p type epoch units a b c o s) (programPage p type epoch units a b c o s) := by
  obtain ⟨hp, hn⟩ := programPage_pages p type epoch units a b c o s
  refine ⟨by rw [hp, tfind_tins, if_pos rfl], ?_⟩
  rw [hn, if_pos rfl]
  exact Nat.lt_succ_self _

/-- A page stands through the program of one that does not lie before it. -/
theorem Stands.program (h : Stands ptr g s) (hq : ptrBlock q = ptrBlock ptr → ptrPage ptr < ptrPage q) (type epoch : Nat)
    (units : List NandUnit) (a b c : Bool) (o : Option Nat) : Stands ptr g (programPage q type epoch units a b c o s) := by
  obtain ⟨hp, hn⟩ := programPage_pages q type epoch units a b c o s
  have hne : ptr ≠ q := fun he => absurd (hq (by rw [he])) (by rw [he]; exact lt_irrefl _)
  refine ⟨by rw [hp, tfind_tins, if_neg hne]; exact h.page, ?_⟩
  rw [hn]
  split
  next hb => exact (hq hb.symm).trans (Nat.lt_succ_self _)
  · exact h.next

theorem moveFrontier_nand (p : Nat) (o : Option Nat) (s : State) : (moveFrontier p o s).nand.pages = s.nand.pages ∧
    (moveFrontier p o s).nand.blocks = s.nand.blocks := by
  cases o <;> exact ⟨rfl, rfl⟩

/-- Both places of a record are free. -/
theorem recordPages_free {n : Nat} {avoid : List Nat} (h : recordPages n p q avoid s = true) : pageFree p s = true ∧ pageFree q s = true := by
  unfold recordPages at h
  dsimp only at h
  rw [Bool.and_eq_true] at h
  have h2 := h.2
  split at h2
  · simp only [Bool.and_eq_true] at h2
    exact ⟨h2.1.1.1.1.1, h2.1.1.1.1.2⟩
  · simp only [Bool.and_eq_true, pairPages] at h2
    exact ⟨h2.2.1.1.2, h2.2.1.2⟩

theorem voidPlace_record {n : Nat} {avoid : List Nat} (h : voidPlace n avoid s = some (p, q)) : recordPages n p q avoid s = true := by
  unfold voidPlace at h
  exact List.find?_some (p := fun x : Nat × Nat => recordPages n x.1 x.2 avoid s) h

theorem writeVoid_stands (h : Stands ptr g s) (v : VoidWait) : Stands ptr g (writeVoid v s) := by
  have hmove (x : State) (hx : Stands ptr g x) (y : Nat) (o : Option Nat) : Stands ptr g (moveFrontier y o x) :=
    hx.of_eq (moveFrontier_nand y o x).1 (moveFrontier_nand y o x).2
  unfold writeVoid
  extract_lets wait unit
  split
  · exact h.of_nand rfl
  next p q hpq =>
    extract_lets pair x y z r
    obtain ⟨hp, hq⟩ := recordPages_free (voidPlace_record hpq)
    have hx : Stands ptr g x := h.program (h.free hp) ..
    have hy : Stands ptr g y := hx.program (h.free hq) ..
    have hz : Stands ptr g z := by
      unfold z
      generalize pair = o
      cases o with
      | none => exact hmove _ (hmove _ hy _ _) _ _
      | some o => exact hmove _ hy _ _
    exact hz.of_eq rfl rfl

theorem voidEpoch_stands (h : Stands ptr g s) (reason : Nat) (e : Epoch) : Stands ptr g (voidEpoch reason s e) := by
  obtain ⟨u, hu, hc, -, -, -⟩ := voidEpoch_writes reason s e
  rw [hu]
  exact writeVoid_stands (h.of_nand (hc.nand rfl)) _

/-- No page is lost to an epoch that fails. -/
theorem failKnot_stands (h : Stands ptr g s) (e : Epoch) (reason : Nat) : Stands ptr g (failKnot e reason s) := by
  have hv (x : State) (hx : Stands ptr g x) : Stands ptr g (voidEpoch reason x e) := voidEpoch_stands hx reason e
  unfold failKnot
  split
  · exact hv s h
  split
  · exact (hv s h).of_nand rfl
  split
  · have ha (n : Nat) (x : State) : Changes 0x4c0c0030 x (addReprogram n x) := addReprogram_changes n (by rfl) (.refl _ x)
    have hs (x : State) : Changes 0x4c0c0030 x (scheduleManifest x) := scheduleManifest_changes (by rfl) (.refl _ x)
    exact (hv s h).of_nand (((hs _).nand rfl).trans ((ha _ _).nand rfl))
  split
  · have hfold (l : List Epoch) (x : State) (hx : Stands ptr g x) :
        Stands ptr g (l.foldl (fun s y => voidEpoch (if y.num = e.num then reason else 6) s y) x) := by
      induction l generalizing x with
      | nil => exact hx
      | cons y l ih => exact ih _ (voidEpoch_stands hx _ y)
    unfold voidDrainFrom
    exact (hfold _ s h).of_nand rfl
  · exact hv s h

/-! ### Programs that pass (R121, R203) -/

theorem pageOf_key (p type epoch : Nat) (units : List NandUnit) (a b c : Bool) (q : Option Nat) (s : State) :
    (pageOf p type epoch units a b c q s).key = s.lcs.keyId := by
  have hc : Changes 0x40000008 s (onfiPslc (ptrTarget p) (.pageProgram p) (openBlock p s)) :=
    onfiPslc_changes _ _ (by rfl) (openBlock_changes p (by rfl) (.refl _ s))
  exact congrArg LcsSt.keyId (hc.lcs rfl)

/-- A page, and its copy B where it is duplex, programmed for epoch `n`. -/
def programBoth (ptr other type n : Nat) (us : List NandUnit) (dup again : Bool) (s : State) : State :=
  let s := programPage ptr type n us dup false again (if dup then some other else none) s
  let s := if dup then programPage other type n us true true again (some ptr) s else s
  moveFrontier ptr (if dup then some other else none) s

theorem programBoth_stands {other type n : Nat} {us : List NandUnit} {dup : Bool} (again : Bool)
    (h : dup = true → other ≠ ptr ∧ pageFree ptr s = true ∧ pageFree other s = true) :
    Stands ptr (pageOf ptr type n us dup false again (if dup then some other else none) s) (programBoth ptr other type n us dup again s) := by
  have h1 := programPage_stands (p := ptr) type n us dup false again (if dup then some other else none) s
  unfold programBoth
  extract_lets v w
  have hw : Stands ptr (pageOf ptr type n us dup false again (if dup then some other else none) s) w := by
    by_cases hd : dup = true
    · obtain ⟨hne, hp, ho⟩ := h hd
      rw [show w = programPage other type n us true true again (some ptr) v from if_pos hd]
      refine h1.program (fun hb => absurd (ptr_eq hb ?_) hne) ..
      rw [← next_of_pageFree hp, ← next_of_pageFree ho, hb]
    · rw [show w = v from if_neg hd]
      exact h1
  exact hw.of_eq (moveFrontier_nand ..).1 (moveFrontier_nand ..).2

theorem moveFrontier_knots (p : Nat) (x : Option Nat) (s : State) : (moveFrontier p x s).nand.knots = s.nand.knots := by
  cases x <;> rfl

theorem programBoth_keeps (ptr other type n : Nat) (us : List NandUnit) (dup again : Bool) (s : State) :
    Changes 0xc2000008 s (programBoth ptr other type n us dup again s) ∧
      (programBoth ptr other type n us dup again s).nand.knots = s.nand.knots := by
  unfold programBoth
  extract_lets v w
  have hv : Changes 0xc2000008 s v := programPage_changes _ _ _ _ _ _ _ _ (by rfl) (.refl _ s)
  have hw : Changes 0xc2000008 v w ∧ w.nand.knots = v.nand.knots := by
    unfold w
    split
    · exact ⟨programPage_changes _ _ _ _ _ _ _ _ (by rfl) (.refl _ v), programPage_knots ..⟩
    · exact ⟨.refl _ v, rfl⟩
  exact ⟨moveFrontier_changes _ _ (by rfl) (hv.trans hw.1), (moveFrontier_knots ..).trans (hw.2.trans (programPage_knots ..))⟩

/-- The first unit of a page is that of the list, and decides whether it is duplex. -/
theorem dup_pageUnits (e : Epoch) : (match pageUnits e.todo with | u :: _ => u.dup | [] => false) = pageIsDup e := by
  unfold pageIsDup
  cases e.todo with
  | nil => rfl
  | cons u l => simp [pageUnits]

theorem length_pageUnits (l : List NandUnit) : (pageUnits l).length ≤ 4 := by
  unfold pageUnits
  split
  · exact Nat.zero_le _
  · exact List.length_take_le ..

/-- The place of a duplex page has both its pages free. -/
theorem mayProgram_pair {e : Epoch} {b : Nat} (h : mayProgram e ptr b s = true) (hd : pageIsDup e = true) :
    copyBPtr ptr b s ≠ ptr ∧ pageFree ptr s = true ∧ pageFree (copyBPtr ptr b s) s = true := by
  unfold mayProgram at h
  rw [hd, if_pos rfl] at h
  simp only [Bool.and_eq_true, pairProgrammable, pairPages, decide_eq_true_eq] at h
  obtain ⟨-, ⟨⟨⟨-, hne⟩, hp⟩, hq⟩, -⟩ := h
  exact ⟨hne, hp, hq⟩

/-- A page of an epoch that passed stands with the epoch's units, number and key (R121, R203). -/
theorem pagePassed_stands {e : Epoch} {b : Nat} (h : mayProgram e ptr b s = true) : ∃ x, Stands ptr x (pagePassed e ptr b s) ∧
    x.units = pageUnits e.todo ∧ x.epoch = e.num ∧ x.key = s.lcs.keyId ∧ x.copyB = false ∧ x.reprogram = e.reprogram := by
  unfold pagePassed
  extract_lets us dup type other a c d f k
  have hdup : dup = pageIsDup e := dup_pageUnits e
  obtain ⟨x, hx, hkey⟩ : ∃ x, pageOf ptr type e.num us dup false e.reprogram (if dup then some other else none) s = x ∧
    x.key = s.lcs.keyId := ⟨_, rfl, pageOf_key ..⟩
  have hd : Stands ptr x d := hx ▸ programBoth_stands e.reprogram fun hd => mayProgram_pair h (hdup.symm.trans hd)
  have hf : Stands ptr x f := hd.of_nand ((modEpoch_changes _ _ (m' := 0x10) (by rfl) (.refl _ d)).nand rfl)
  have hk : Stands ptr x k :=
    hf.of_nand ((noteSlots_changes _ _ (m' := 0x4c0c0070) (by rfl) (countCopies_changes _ (by rfl) (.refl _ f))).nand rfl)
  refine ⟨x, ?_, by rw [← hx]; rfl, by rw [← hx]; rfl, hkey, by rw [← hx]; rfl, by rw [← hx]; rfl⟩
  split
  · split
    · exact failKnot_stands hk ..
    · exact hk
  · exact hk

/-- What the voided epochs note of a page is staging's alone. -/
theorem noteTargets_stg (b : Bool) (p q : Nat) (s : State) : ∃ g, noteTarget p (if b then noteTarget q s else s) = { s with stg := g } ∧
    g.epochs = s.stg.epochs := by
  cases b <;> exact ⟨_, rfl, rfl⟩

/-- PAGE_PROGRAM_DONE for the first epoch with units left. -/
theorem exec_pageProgramDone {e : Epoch} {b : Nat} {r rB : NandResult} (hrun : shuttlesRun s = true)
    (hf : s.stg.epochs.find? (fun e => !e.todo.isEmpty) = some e) (hm : mayProgram e ptr b s = true) {w : Bool}
    (hw : mustWait e (if pageIsDup e then [ptr, copyBPtr ptr b s] else [ptr]) s = w) :
    exec (.pageProgramDone ptr b r rB none) s = .next (if w
      then noteWait e true (if pageIsDup e then [ptr, copyBPtr ptr b s] else [ptr]) s
      else pageDone e ptr b r rB (noteWait e false (if pageIsDup e then [ptr, copyBPtr ptr b s] else [ptr]) s)) := by
  change execPageProgramDone ptr b r rB none s = _
  unfold execPageProgramDone
  rw [if_neg (by simp [hrun])]
  dsimp only
  rw [hf]
  dsimp only
  rw [if_neg (by simp [hm]), hw]
  cases w <;> simp only [if_true, if_false, Bool.false_eq_true]

theorem pageProgram_passes {e : Epoch} {b : Nat} {rB : NandResult} (hrun : shuttlesRun s = true)
    (hf : s.stg.epochs.find? (fun e => !e.todo.isEmpty) = some e) (hp : pageIsDup e = true → rB = .pass)
    (hm : mayProgram e ptr b s = true) (hw : mustWait e (if pageIsDup e then [ptr, copyBPtr ptr b s] else [ptr]) s = false) :
    ∃ t x, exec (.pageProgramDone ptr b .pass rB none) s = .next t ∧ tfind t.nand.pages ptr = some x ∧ x.units = pageUnits e.todo ∧
      x.epoch = e.num ∧ x.key = s.lcs.keyId ∧ x.copyB = false ∧ x.reprogram = e.reprogram ∧ x.units.length ≤ 4 := by
  have hexec := exec_pageProgramDone (r := .pass) (rB := rB) hrun hf hm hw
  rw [if_neg Bool.false_ne_true] at hexec
  obtain ⟨l, hl⟩ : ∃ l, noteWait e false (if pageIsDup e then [ptr, copyBPtr ptr b s] else [ptr]) s =
    { s with nand := { s.nand with reserveWait := l } } := ⟨_, rfl⟩
  rw [hl] at hexec
  obtain ⟨g, hg, -⟩ := noteTargets_stg (pageIsDup e) ptr (copyBPtr ptr b s) { s with nand := { s.nand with reserveWait := l } }
  have hdone : pageDone e ptr b .pass rB { s with nand := { s.nand with reserveWait := l } } =
      pagePassed e ptr b { s with nand := { s.nand with reserveWait := l }, stg := g } := by
    have hpass : (NandResult.pass = .pass && (!pageIsDup e || rB = .pass)) = true := by
      cases hd : pageIsDup e with
      | false => rfl
      | true => rw [hp hd]; rfl
    unfold pageDone
    dsimp only
    rw [if_pos hpass]
    exact congrArg (pagePassed e ptr b) hg
  obtain ⟨x, hx, h1, h2, h3, h4, h5⟩ := pagePassed_stands (s := { s with nand := { s.nand with reserveWait := l }, stg := g }) hm
  exact ⟨_, x, by rw [hexec, hdone], hx.page, h1, h2, h3, h4, h5, h1 ▸ length_pageUnits _⟩

theorem pageProgram_waits {e : Epoch} {b : Nat} {r rB : NandResult} (hrun : shuttlesRun s = true)
    (hf : s.stg.epochs.find? (fun e => !e.todo.isEmpty) = some e) (hm : mayProgram e ptr b s = true)
    (hw : mustWait e (if pageIsDup e then [ptr, copyBPtr ptr b s] else [ptr]) s = true) :
    exec (.pageProgramDone ptr b r rB none) s = .next { s with nand := { s.nand with
      reserveWait := s.nand.reserveWait.filter (fun w => w.1 ≠ e.num) ++
        [(e.num, if pageIsDup e then [ptr, copyBPtr ptr b s] else [ptr])] } } := by
  rw [exec_pageProgramDone hrun hf hm hw]
  exact congrArg Host.Outcome.next (if_pos rfl)

theorem countCopies_epochs (us : List NandUnit) (s : State) : (countCopies us s).stg.epochs = s.stg.epochs := by
  have hone (l : List Nat) (f : State → State) (hf : ∀ v, (f v).stg.epochs = v.stg.epochs) (v : State) :
      (l.foldl (fun s _ => f s) v).stg.epochs = v.stg.epochs := by
    induction l generalizing v with
    | nil => rfl
    | cons a l ih => exact (ih _).trans (hf v)
  have hfault (v : State) : (engineFault 8 0 v).stg = v.stg := (engineFault_changes 8 0 (m' := 0x4c0c0020) (by rfl) (.refl _ v)).stg rfl
  unfold countCopies chargeGovernor
  extract_lets n all a b c one v d
  have hv : v.stg.epochs = s.stg.epochs := hone _ one (fun _ => rfl) _
  split
  · rfl
  split
  · rw [hfault]
    exact hv
  · exact hv

/-- A page of a voided epoch whose program had begun stands; the epochs and the knots are as they were (R145, R151). -/
theorem begunDone_passes {e : Epoch} {b : Nat} {rB : NandResult} (hp : pageIsDup e = true → rB = .pass) (hm : mayProgram e ptr b s = true) :
    ∃ x, tfind (begunDone e ptr b .pass rB s).nand.pages ptr = some x ∧ x.units = pageUnits e.todo ∧ x.epoch = e.num ∧
      (begunDone e ptr b .pass rB s).stg.epochs = s.stg.epochs ∧ (begunDone e ptr b .pass rB s).nand.knots = s.nand.knots := by
  unfold begunDone
  extract_lets us dup type other taken g a c d f
  obtain ⟨g', hc, hg⟩ : ∃ g', c = { s with stg := g' } ∧ g'.epochs = s.stg.epochs := by
    obtain ⟨g', hc, hg⟩ := noteTargets_stg dup ptr other a
    exact ⟨g', hc, hg⟩
  clear_value c
  subst hc
  obtain ⟨v, hv, hvs, hvc, hvk⟩ : ∃ v, moveFrontier ptr (if dup then some other else none) f = v ∧
      Stands ptr (pageOf ptr type e.num us dup false e.reprogram (if dup then some other else none) { s with stg := g' }) v ∧
      Changes 0xc2000008 { s with stg := g' } v ∧ v.nand.knots = s.nand.knots := by
    obtain ⟨h1, h2⟩ := programBoth_keeps ptr other type e.num us dup e.reprogram { s with stg := g' }
    exact ⟨_, rfl, programBoth_stands e.reprogram fun hd => mayProgram_pair hm hd, h1, h2⟩
  have hn : (countCopies us v).nand = v.nand := (countCopies_changes us (m' := 0x4c0c0030) (by rfl) (.refl _ v)).nand rfl
  have hpass : (decide (NandResult.pass = .pass) && (!dup || decide (rB = .pass))) = true := by
    cases hd : dup with
    | false => rfl
    | true => rw [hp hd]; rfl
  rw [if_pos hpass, hv, countCopies_epochs, hn, hvc.stg rfl]
  exact ⟨_, hvs.page, rfl, rfl, hg, hvk⟩

theorem pageProgram_begun {e : Epoch} {b : Nat} {rB : NandResult} (hrun : shuttlesRun s = true)
    (hf : s.stg.begun.find? (fun x => x.num = e.num) = some e) (hb : begunAt e ptr = true) (hp : pageIsDup e = true → rB = .pass)
    (hm : mayProgram e ptr b s = true) (hr : roomFor e (if pageIsDup e then [ptr, copyBPtr ptr b s] else [ptr]) s = true) :
    ∃ t x, exec (.pageProgramDone ptr b .pass rB (some e.num)) s = .next t ∧ tfind t.nand.pages ptr = some x ∧
      x.units = pageUnits e.todo ∧ x.epoch = e.num ∧ t.stg.epochs = s.stg.epochs ∧ t.nand.knots = s.nand.knots := by
  obtain ⟨x, h⟩ := begunDone_passes hp hm
  refine ⟨_, x, ?_, h⟩
  change execPageProgramDone ptr b .pass rB (some e.num) s = _
  unfold execPageProgramDone
  rw [if_neg (by simp [hrun])]
  dsimp only
  rw [hf]
  dsimp only
  rw [if_pos (by rw [hb, hm, hr]; rfl)]

/-! ### What blocks retired leave of the records (R218 to R220) -/

/-- The knot records and void knots, the epochs and the newest knot: what no retirement of blocks changes. -/
structure KeepsRecords (s t : State) : Prop where
  knots : t.nand.knots = s.nand.knots
  voids : t.nand.voids = s.nand.voids
  epochs : t.stg.epochs = s.stg.epochs
  lastKnot : t.stg.lastKnot = s.stg.lastKnot
  lastEpoch : t.stg.lastKnotEpoch = s.stg.lastKnotEpoch
  safeTs : t.stg.safeTs = s.stg.safeTs

theorem KeepsRecords.refl (s : State) : KeepsRecords s s := ⟨rfl, rfl, rfl, rfl, rfl, rfl⟩

theorem KeepsRecords.trans (h : KeepsRecords s t) (k : KeepsRecords t u) : KeepsRecords s u :=
  ⟨k.knots.trans h.knots, k.voids.trans h.voids, k.epochs.trans h.epochs, k.lastKnot.trans h.lastKnot, k.lastEpoch.trans h.lastEpoch,
    k.safeTs.trans h.safeTs⟩

theorem KeepsRecords.of_stg (hs : t.stg = s.stg) (hk : t.nand.knots = s.nand.knots) (hv : t.nand.voids = s.nand.voids) : KeepsRecords s t :=
  ⟨hk, hv, by rw [hs], by rw [hs], by rw [hs], by rw [hs]⟩

theorem KeepsRecords.of_changes (h : Changes 0xffffffe7 s t) : KeepsRecords s t :=
  .of_stg (h.stg rfl) (by rw [h.nand rfl]) (by rw [h.nand rfl])

theorem KeepsRecords.foldl {α : Type} {f : State → α → State} (h : ∀ s a, KeepsRecords s (f s a)) (l : List α) (s : State) :
    KeepsRecords s (l.foldl f s) := by
  induction l generalizing s with
  | nil => exact .refl s
  | cons a l ih => exact (h s a).trans (ih _)

theorem programPage_keepsRecords (p type epoch : Nat) (units : List NandUnit) (a b c : Bool) (q : Option Nat) (s : State) :
    KeepsRecords s (programPage p type epoch units a b c q s) :=
  .of_stg (programPage_stg ..) (programPage_knots ..) (programPage_voids ..)

theorem modBlock_keepsRecords (b : Nat) (f : Block → Block) (s : State) : KeepsRecords s (modBlock b f s) := .of_stg rfl rfl rfl

theorem modTarget_keepsRecords (x : Nat) (f : Target → Target) (s : State) : KeepsRecords s (modTarget x f s) := .of_stg rfl rfl rfl

theorem writeRoot_keepsRecords (x : Nat) (s : State) : KeepsRecords s (writeRoot x s) := by
  have herase (b : Nat) (v : State) : KeepsRecords v (eraseRoot b v) := by
    have honfi : KeepsRecords v (onfiPslc (blockTarget b) (.blockErase b) v) := .of_changes (onfiPslc_changes _ _ (by rfl) (.refl _ v))
    have hpages (w : State) (l : Table Page) : KeepsRecords w { w with nand := { w.nand with pages := l } } := .of_stg rfl rfl rfl
    unfold eraseRoot
    exact honfi.trans ((hpages _ _).trans ((modBlock_keepsRecords ..).trans (modTarget_keepsRecords ..)))
  have hroom (b k : Nat) (v : State) : KeepsRecords v (rootRoom b k v) := by
    unfold rootRoom
    split
    · exact .refl v
    · exact herase b v
  unfold writeRoot
  extract_lets roots old b k
  split
  · exact .refl s
  · extract_lets v r
    have hv : KeepsRecords s v := (hroom _ _ s).trans (modTarget_keepsRecords ..)
    exact hv.trans (.foldl (fun _ _ => programPage_keepsRecords ..) _ _)

/-- Held writes released count discards alone in the flash. -/
theorem releaseHeld_nand (k : Nat) (s : State) : ∃ n, (releaseHeld k s).nand = { s.nand with discards := n } := by
  induction k generalizing s with
  | zero => exact ⟨_, rfl⟩
  | succ k ih =>
    have hsample (v : State) : (sampleFree 8 0 v).nand = v.nand := (sampleFree_changes 8 0 (m' := 0x82000000) (by rfl) (.refl _ v)).nand rfl
    have hcommit (w : HeldWrite) (v : State) : (commit w v).nand = v.nand := (commit_changes w (m' := 0xce0c0863) (by rfl) (.refl _ v)).nand rfl
    have hnext (v : State) (hv : ∃ n, v.nand = { s.nand with discards := n }) : ∃ n, (releaseHeld k v).nand = { s.nand with discards := n } := by
      obtain ⟨n, hn⟩ := hv
      obtain ⟨m, hm⟩ := ih v
      exact ⟨m, hm.trans (by rw [hn])⟩
    rw [releaseHeld]
    split
    · exact ⟨_, rfl⟩
    dsimp only
    split
    · exact hnext _ ⟨_, hsample _⟩
    split
    · exact hnext _ ⟨s.nand.discards, (hsample _).trans (hcommit ..)⟩
    split
    · exact hnext _ ⟨s.nand.discards, rfl⟩
    split
    · exact hnext _ ⟨s.nand.discards, (hsample _).trans (hcommit ..)⟩
    · exact ⟨s.nand.discards, (passHeld_changes (m' := 0xce0c0873) (by rfl) (.refl _ s)).nand rfl⟩

theorem evaluate_keepsRecords (s : State) : KeepsRecords s (evaluate s) := by
  have hn : ∃ n, (evaluate s).nand = { s.nand with discards := n } := by
    unfold evaluate
    split
    · exact ⟨s.nand.discards, (reefFlags_changes' s).nand rfl⟩
    · obtain ⟨n, hn⟩ := releaseHeld_nand s.stg.heldq.length s
      exact ⟨n, ((reefFlags_changes' _).nand rfl).trans hn⟩
  obtain ⟨n, hn⟩ := hn
  have ht := (evaluate_keepsTerms s).terms
  have h1 := congrArg StgSt.epochs ht
  have h2 := congrArg StgSt.lastKnot ht
  have h3 := congrArg StgSt.lastKnotEpoch ht
  have h4 := congrArg StgSt.safeTs ht
  exact ⟨by rw [hn], by rw [hn], h1, h2, h3, h4⟩

theorem enterBad_keepsRecords (b cause : Nat) (s : State) : KeepsRecords s (enterBad b cause s) := by
  unfold enterBad
  extract_lets k v on w
  split
  · exact .refl s
  split
  · exact (modTarget_keepsRecords ..).trans (writeRoot_keepsRecords ..)
  · have hw : KeepsRecords v w := by
      unfold w
      split
      · exact .refl v
      · refine .foldl (fun p e => ?_) _ _
        split
        · exact .of_changes (setState_changes _ _ (by rfl) (.refl _ p))
        · exact .refl p
    exact (modTarget_keepsRecords ..).trans (hw.trans ((KeepsRecords.of_changes (engineFault_changes _ _ (by rfl) (.refl _ w))).trans
      ((evaluate_keepsRecords _).trans (.of_changes (noChannel_changes (by rfl) (.refl _ _))))))

theorem spareCheck_keepsRecords (s : State) : KeepsRecords s (spareCheck s) := by
  have hevent (k n : Nat) (l : List Nat) (v : State) : KeepsRecords v (msix 6 (postEvent 1 k n l v)) :=
    .of_changes (msix_changes 6 (by rfl) (postEvent_changes _ _ _ _ (by rfl) (.refl _ v)))
  have hdeg (v : State) (b : List Nat) : KeepsRecords v (engineFault 19 0 (msix 6 (postEvent 1 3 0xFF b v))) :=
    (hevent ..).trans (.of_changes (engineFault_changes 19 0 (by rfl) (.refl _ _)))
  have hre : KeepsRecords s (reassessStore s) := by
    have hclear (v : State) : KeepsRecords v (engineClear 19 v) := .of_changes (engineClear_changes 19 (by rfl) (.refl _ v))
    have hdegraded (v : State) : KeepsRecords v { v with nand := { v.nand with degraded := false } } := .of_stg rfl rfl rfl
    unfold reassessStore
    extract_lets n v m w
    have hv : KeepsRecords s v := .of_stg rfl rfl rfl
    have hw : KeepsRecords s w := .of_stg rfl rfl rfl
    clear_value w
    split
    · exact .refl s
    split
    · exact hw.trans ((hdegraded w).trans (hclear _))
    · exact hv
  have hshed (k : Nat) (v : State) : KeepsRecords v (shedBolts k v) := by
    induction k generalizing v with
    | zero => exact .refl v
    | succ k ih =>
      unfold shedBolts
      split
      · exact .refl v
      split
      · exact .refl v
      next n _ => exact ((hevent 4 n [n] v).trans (.of_stg (by rfl) (by rfl) (by rfl))).trans (ih _)
  unfold spareCheck
  split
  · exact .refl s
  dsimp only
  split
  · exact hre
  split
  · exact hre.trans (hshed ..)
  · exact (hre.trans (KeepsRecords.trans (.of_stg (by rfl) (by rfl) (by rfl)) (hdeg _ _))).trans (hshed ..)

theorem retireBlocks_keepsRecords (s : State) : KeepsRecords s (retireBlocks s) := by
  unfold retireBlocks
  extract_lets limit n v w
  have hv : KeepsRecords s v := .of_stg rfl rfl rfl
  have hw : KeepsRecords v w := by
    unfold w enterRetired
    exact (KeepsRecords.foldl (fun _ _ => enterBad_keepsRecords ..) _ v).trans (.foldl (fun _ _ => enterBad_keepsRecords ..) _ _)
  split
  · exact hv
  · exact (hv.trans hw).trans (spareCheck_keepsRecords _)

end Pages
end Sys2Proof.Machine

/-! PROOFS. Programs of pages and knot records that fail, and the read-back of a knot (R119, R204 to R210). -/

namespace Sys2Proof.Machine

section FailedPages
variable {s t u : State} {p q ptr b : Nat} {e : Epoch}

/-! ### Programs that fail (R121, R194) -/

theorem provisionalIn_congr (h : t.stg.epochs = s.stg.epochs) (b : Nat) : provisionalIn b t = provisionalIn b s := by
  rw [provisionalIn, h, ← provisionalIn]

theorem Spared.of_eq (h : Spared s) (hb : t.nand.blocks = s.nand.blocks) (hf : ∀ x, (targetAt x t).fresh = (targetAt x s).fresh)
    (hd : t.drf = s.drf) (he : t.stg.epochs = s.stg.epochs) : Spared t := by
  refine ⟨fun x => ?_, fun e hm => ?_⟩
  · rw [wornFresh, setting_congr hd, hf, ← wornFresh, h.fresh]
  · rw [setting_congr hd, provisionalIn_congr he]
    exact h.blocks e (hb ▸ hm)

theorem Spared.of_nand (h : Spared s) (hn : t.nand = s.nand) (hd : t.drf = s.drf) (he : t.stg.epochs = s.stg.epochs) : Spared t :=
  h.of_eq (by rw [hn]) (fun x => by rw [targetAt, hn, ← targetAt]) hd he

theorem Spared.modBlock (h : Spared s) (hp : provisionalIn b s = true) {f : Block → Block}
    (hf : ∀ x, (f x).worn = x.worn ∧ (f x).pe = x.pe) : Spared (modBlock b f s) := by
  have hat : (blockAt b s).worn = false ∧ (blockAt b s).pe < setting s P.pslcCycles := by
    unfold blockAt
    split
    next x hx =>
      obtain ⟨hw, hpe, -⟩ := h.blocks _ (mem_of_tfind hx)
      exact ⟨hw, hpe⟩
    next =>
      have hfresh := h.fresh (blockTarget b)
      refine ⟨hfresh, ?_⟩
      rw [wornFresh, decide_eq_false_iff_not, Nat.not_le] at hfresh
      exact hfresh
  refine ⟨h.fresh, fun e he => ?_⟩
  rcases mem_tins he with he | he
  · obtain ⟨hw, hpe⟩ := hf (blockAt b s)
    rw [he]
    exact ⟨hw.trans hat.1, hpe ▸ hat.2, fun _ => hp⟩
  · exact h.blocks e he

/-- A block begun counts in its target, whose fresh cycles stand. -/
theorem fresh_modTarget_blockSeq (n x : Nat) (s : State) :
    (targetAt x (modTarget n (fun y => { y with blockSeq := y.blockSeq + 1 }) s)).fresh = (targetAt x s).fresh := by
  have hne : { targetAt n s with blockSeq := (targetAt n s).blockSeq + 1 } ≠ ({} : Target) := fun h =>
    absurd (congrArg Target.blockSeq h) (Nat.succ_ne_zero _)
  by_cases hx : x = n
  · subst hx
    exact (congrArg Target.fresh (tget_tput_self {} _ x hne s.nand.targets) :)
  · exact congrArg Target.fresh (tget_tput_ne_of_value_ne_default hne hx _)

theorem Spared.openBlock (h : Spared s) (hp : provisionalIn (ptrBlock p) s = true) : Spared (openBlock p s) := by
  have hseq : Spared (modTarget (ptrTarget p) (fun y => { y with blockSeq := y.blockSeq + 1 }) s) :=
    h.of_eq rfl (fun x => fresh_modTarget_blockSeq _ x s) rfl rfl
  unfold Machine.openBlock
  dsimp only
  split
  · exact (hseq.modBlock hp (fun _ => by exact ⟨rfl, rfl⟩)).modBlock hp (fun _ => by exact ⟨rfl, rfl⟩)
  · exact h.modBlock hp (fun _ => by exact ⟨rfl, rfl⟩)

theorem Spared.abandonBlock (h : Spared s) (hp : provisionalIn (ptrBlock p) s = true) : Spared (abandonBlock p s) :=
  h.modBlock hp fun _ => ⟨rfl, rfl⟩

theorem Spared.onfi (h : Spared s) (x : Nat) (o : Onfi) : Spared (onfiPslc x o s) :=
  have hc : Changes 0x40000000 s (onfiPslc x o s) := onfiPslc_changes _ _ (.self _) (.refl _ s)
  h.of_nand (hc.nand rfl) (hc.drf rfl) (congrArg StgSt.epochs (hc.stg rfl))

theorem Spared.sampleFree (h : Spared s) (x y : Nat) : Spared (sampleFree x y s) :=
  have hc : Changes 0x82000000 s (Machine.sampleFree x y s) := sampleFree_changes x y (.self _) (.refl _ s)
  h.of_nand (hc.nand rfl) (hc.drf rfl) (congrArg StgSt.epochs (hc.stg rfl))

theorem Spared.modEpoch (h : Spared s) (n : Nat) {f : Epoch → Epoch} (hf : ∀ x, (f x).pages = x.pages) : Spared (modEpoch n f s) := by
  have hp (b : Nat) : provisionalIn b (Machine.modEpoch n f s) = provisionalIn b s := by
    unfold provisionalIn Machine.modEpoch
    rw [List.any_map]
    refine congrArg (s.stg.epochs.any ·) (funext fun x => ?_)
    dsimp only [Function.comp]
    rw [apply_ite Epoch.pages, hf, ite_self]
  refine ⟨h.fresh, fun e he => ?_⟩
  rw [hp]
  exact h.blocks e he

/-- A page's program neither writes records nor changes pages where it fails. -/
theorem openBlock_keepsRecords (p : Nat) (s : State) : KeepsRecords s (openBlock p s) := by
  unfold Machine.openBlock
  dsimp only
  split
  · exact ((modTarget_keepsRecords _ _ s).trans (modBlock_keepsRecords ..)).trans (modBlock_keepsRecords ..)
  · exact modBlock_keepsRecords ..

/-- A program that failed: its pages, its records, and its blocks where the block is provisional. -/
theorem failPage_keeps (p : Nat) (s : State) : (failPage p s).nand.pages = s.nand.pages ∧ KeepsRecords s (failPage p s) ∧
    (Spared s → provisionalIn (ptrBlock p) s = true → Spared (failPage p s)) := by
  have honfi (v : State) : Changes 0x40000000 v (onfiPslc (ptrTarget p) (.pageProgram p) v) := onfiPslc_changes _ _ (.self _) (.refl _ v)
  have hsample (x y : Nat) (v : State) : Changes 0x82000000 v (Machine.sampleFree x y v) := sampleFree_changes x y (.self _) (.refl _ v)
  have hch (c : Nat) (f : NandCh → NandCh) (v : State) : KeepsRecords v (modChannel c f v) := .of_stg rfl rfl rfl
  unfold failPage
  extract_lets v
  have hrec : KeepsRecords s v := (openBlock_keepsRecords p s).trans (.of_changes ((honfi _).mono (by rfl)))
  have hpages : v.nand.pages = s.nand.pages := (congrArg NandSt.pages ((honfi _).nand rfl)).trans (openBlock_pages p s)
  refine ⟨?_, ?_, fun h hp => ?_⟩
  · rw [(hsample _ _ _).nand rfl]
    exact hpages
  · exact (hrec.trans ((modBlock_keepsRecords ..).trans (hch ..))).trans (.of_changes ((hsample _ _ _).mono (by rfl)))
  · have hv : Spared v := (h.openBlock hp).onfi ..
    have hb : Spared (modBlock (ptrBlock p) (fun x => { x with failed := true }) v) :=
      hv.modBlock (by rw [provisionalIn_congr hrec.epochs, hp]) (fun _ => by exact ⟨rfl, rfl⟩)
    have hc : Spared (modChannel (ptrChannel p) (fun c => { c with pfails := satAdd max32 c.pfails 1 })
        (modBlock (ptrBlock p) (fun x => { x with failed := true }) v)) := hb.of_eq rfl (fun _ => rfl) rfl rfl
    exact hc.sampleFree ..

theorem programPage_spared (type n : Nat) (us : List NandUnit) (a c d : Bool) (o : Option Nat) (h : Spared s)
    (hp : provisionalIn (ptrBlock p) s = true) : Spared (programPage p type n us a c d o s) := by
  have hpages (v : State) (l : Table Page) (m k : List Nat) (hv : Spared v) :
      Spared { v with nand := { v.nand with pages := l, badHeaders := m, badSlots := k } } := hv.of_eq rfl (fun _ => rfl) rfl rfl
  have hv : Spared (onfiPslc (ptrTarget p) (.pageProgram p) (Machine.openBlock p s)) := (h.openBlock hp).onfi ..
  unfold programPage
  exact (hpages _ _ _ _ hv).sampleFree ..

theorem abandonBlock_keepsRecords (p : Nat) (s : State) : KeepsRecords s (abandonBlock p s) := modBlock_keepsRecords ..

theorem abandonBlock_pages (p : Nat) (s : State) : (abandonBlock p s).nand.pages = s.nand.pages := rfl

theorem pageOfFailed_pass (e : Epoch) (p q : Nat) (c : Bool) (s : State) : ∃ type, pageOfFailed e p q .pass c s =
    abandonBlock p (programPage p type e.num (pageUnits e.todo) (pageIsDup e) c e.reprogram (some q) s) := ⟨_, rfl⟩

theorem pageOfFailed_keeps (e : Epoch) (p q : Nat) (r : NandResult) (c : Bool) (s : State) : KeepsRecords s (pageOfFailed e p q r c s) ∧
    (Spared s → provisionalIn (ptrBlock p) s = true → Spared (pageOfFailed e p q r c s)) := by
  cases r with
  | fail =>
    obtain ⟨-, hr, hs⟩ := failPage_keeps p s
    exact ⟨hr, hs⟩
  | pass =>
    obtain ⟨type, ht⟩ := pageOfFailed_pass e p q c s
    have hr := programPage_keepsRecords p type e.num (pageUnits e.todo) (pageIsDup e) c e.reprogram (some q) s
    rw [ht]
    exact ⟨hr.trans (abandonBlock_keepsRecords ..), fun h hp =>
      (programPage_spared _ _ _ _ _ _ _ h hp).abandonBlock (by rw [provisionalIn_congr hr.epochs, hp])⟩

theorem failPages_keeps (e : Epoch) (p q : Nat) (r rB : NandResult) (s : State) : KeepsRecords s (failPages e p q r rB s) ∧
    (Spared s → provisionalIn (ptrBlock p) s = true → (pageIsDup e = true → provisionalIn (ptrBlock q) s = true) →
      Spared (failPages e p q r rB s)) := by
  obtain ⟨hr, hs⟩ := pageOfFailed_keeps e p q r false s
  unfold failPages
  extract_lets v
  split
  next hd =>
    obtain ⟨kr, ks⟩ := pageOfFailed_keeps e q p rB true v
    have hq := kr.trans (abandonBlock_keepsRecords q _)
    refine ⟨hr.trans (hq.trans (abandonBlock_keepsRecords ..)), fun h hp hdq => ?_⟩
    have hv := ks (hs h hp) (by rw [provisionalIn_congr hr.epochs, hdq hd])
    exact (hv.abandonBlock (by rw [provisionalIn_congr (hr.trans kr).epochs, hdq hd])).abandonBlock
      (by rw [provisionalIn_congr (hr.trans hq).epochs, hp])
  · exact ⟨hr, fun h hp _ => hs h hp⟩

/-- Where no program of a page passed, no page changed. -/
theorem failPages_pages (e : Epoch) (p q : Nat) {rB : NandResult} (h : pageIsDup e = true → rB = .fail) (s : State) :
    (failPages e p q .fail rB s).nand.pages = s.nand.pages := by
  have hp (x : Nat) (v : State) : (failPage x v).nand.pages = v.nand.pages := (failPage_keeps x v).1
  unfold failPages
  extract_lets v
  split
  next hd =>
    rw [h hd, show pageOfFailed e q p .fail true v = failPage q v from rfl, abandonBlock_pages, abandonBlock_pages, hp,
      show v = failPage p s from rfl, hp]
  · rw [show v = failPage p s from rfl, hp]

/-- The page that passed is stored where its partner failed (R194). -/
theorem failPages_passed (e : Epoch) (p q : Nat) (hd : pageIsDup e = true) (s : State) : ∃ g,
    tfind (failPages e p q .pass .fail s).nand.pages p = some g ∧ g.units = pageUnits e.todo ∧ g.epoch = e.num := by
  unfold failPages
  extract_lets v
  rw [if_pos hd]
  have hv : ∃ g, tfind v.nand.pages p = some g ∧ g.units = pageUnits e.todo ∧ g.epoch = e.num := by
    obtain ⟨type, ht⟩ := pageOfFailed_pass e p q false s
    unfold v
    rw [ht]
    have hp := (programPage_stands (p := p) type e.num (pageUnits e.todo) (pageIsDup e) false e.reprogram (some q) s).page
    exact ⟨_, hp, rfl, rfl⟩
  obtain ⟨g, hg, hu, hn⟩ := hv
  have hq : (abandonBlock p (abandonBlock q (failPage q v))).nand.pages = v.nand.pages := by
    rw [abandonBlock_pages, abandonBlock_pages, (failPage_keeps q v).1]
  rw [show pageOfFailed e q p .fail true v = failPage q v from rfl]
  exact ⟨g, by rw [hq, hg], hu, hn⟩

/-! ### PAGE_PROGRAM_DONE of a program that failed -/

/-- The epoch's page goes into its pages again (R194). -/
theorem pageFailed_keeps (e : Epoch) (ptr b : Nat) (r rB : NandResult) (he : e ∈ s.stg.epochs) :
    (pageFailed e ptr b r rB s).nand.knots = s.nand.knots ∧
    (∃ x ∈ (pageFailed e ptr b r rB s).stg.epochs, x.num = e.num ∧ x.todo = e.todo ∧ x.pages = e.pages ∧ x.reprogram = true) ∧
    (Spared s → provisionalIn (ptrBlock ptr) s = true → (pageIsDup e = true → provisionalIn (ptrBlock (copyBPtr ptr b s)) s = true) →
      (pageFailed e ptr b r rB s).nand.pages = (failPages e ptr (copyBPtr ptr b s) r rB s).nand.pages) := by
  let f : Epoch → Epoch := fun e => { e with reprogram := true, reChannel := ptrChannel ptr }
  obtain ⟨hr, hs⟩ := failPages_keeps e ptr (copyBPtr ptr b s) r rB s
  unfold pageFailed
  extract_lets us dup other v w
  obtain ⟨t, ht, hn, hd, hg⟩ : ∃ t, (if vaultRuns w then
      let fails := b01 (r = .fail) + b01 (dup && rB = .fail)
      addReprogram (4096 * (us.map copiesOf).sum) { w with vlt := { w.vlt with progFails := satAdd 0xFFFF w.vlt.progFails fails } }
    else w) = t ∧ t.nand = w.nand ∧ t.drf = w.drf ∧ t.stg = w.stg := by
    refine ⟨_, rfl, ?_⟩
    split
    · have hc (n k : Nat) : Changes 0x4c0c0020 w (addReprogram n { w with vlt := { w.vlt with progFails := k } }) :=
        addReprogram_changes n (by rfl) (.put_vlt (by rfl) (.refl _ w))
      exact ⟨(hc _ _).nand rfl, (hc _ _).drf rfl, (hc _ _).stg rfl⟩
    · exact ⟨rfl, rfl, rfl⟩
  have hrec := retireBlocks_keepsRecords t
  have hmem : f e ∈ w.stg.epochs := by
    refine List.mem_map.2 ⟨e, hr.epochs ▸ he, ?_⟩
    exact if_pos rfl
  rw [ht]
  refine ⟨hrec.knots.trans ((congrArg NandSt.knots hn).trans hr.knots), ⟨f e, ?_, rfl, rfl, rfl, rfl⟩, fun h hp hq => ?_⟩
  · rw [hrec.epochs, hg]
    exact hmem
  · have hv : Spared v := hs h hp hq
    have hw : Spared w := hv.modEpoch _ (fun _ => by exact rfl)
    rw [retireBlocks_of_spared (hw.of_nand hn hd (congrArg StgSt.epochs hg)), hn]
    rfl

/-- A program of which a page failed does not pass. -/
theorem pageDone_fails {b : Nat} {r rB : NandResult} (hf : r = .fail ∨ pageIsDup e = true ∧ rB = .fail) (s : State) : ∃ g,
    pageDone e ptr b r rB s = pageFailed e ptr b r rB { s with stg := g } ∧ g.epochs = s.stg.epochs := by
  obtain ⟨g, hg, he⟩ := noteTargets_stg (pageIsDup e) ptr (copyBPtr ptr b s) s
  refine ⟨g, ?_, he⟩
  have hn : (decide (r = .pass) && (!pageIsDup e || decide (rB = .pass))) = false := by
    rcases hf with rfl | ⟨hd, rfl⟩
    · rfl
    · rw [hd]
      exact Bool.and_false _
  unfold pageDone
  dsimp only
  rw [if_neg (by rw [hn]; decide)]
  exact congrArg (pageFailed e ptr b r rB) hg

theorem pageProgram_fails {e : Epoch} {b : Nat} {r rB : NandResult} (hrun : shuttlesRun s = true)
    (hf : s.stg.epochs.find? (fun e => !e.todo.isEmpty) = some e) (hr : r = .fail ∨ pageIsDup e = true ∧ rB = .fail)
    (hm : mayProgram e ptr b s = true) (hw : mustWait e (if pageIsDup e then [ptr, copyBPtr ptr b s] else [ptr]) s = false) :
    ∃ t, exec (.pageProgramDone ptr b r rB none) s = .next t ∧ t.nand.knots = s.nand.knots ∧
      (∃ x ∈ t.stg.epochs, x.num = e.num ∧ x.todo = e.todo ∧ x.pages = e.pages ∧ x.reprogram = true) ∧
      ((∀ x ∈ s.nand.blocks, x.2.failed = false ∧ x.2.worn = false ∧ x.2.pe < setting s P.pslcCycles) →
        (∀ tg, wornFresh tg s = false) → provisionalIn (ptrBlock ptr) s = true →
        (pageIsDup e = true → provisionalIn (ptrBlock (copyBPtr ptr b s)) s = true) →
        (r = .fail → (pageIsDup e = true → rB = .fail) → t.nand.pages = s.nand.pages) ∧
        (r = .pass → ∃ p, tfind t.nand.pages ptr = some p ∧ p.units = pageUnits e.todo ∧ p.epoch = e.num)) := by
  have hexec := exec_pageProgramDone (r := r) (rB := rB) hrun hf hm hw
  rw [if_neg Bool.false_ne_true] at hexec
  obtain ⟨l, hl⟩ : ∃ l, noteWait e false (if pageIsDup e then [ptr, copyBPtr ptr b s] else [ptr]) s =
    { s with nand := { s.nand with reserveWait := l } } := ⟨_, rfl⟩
  rw [hl] at hexec
  obtain ⟨g, hg, he⟩ := pageDone_fails (ptr := ptr) (b := b) hr { s with nand := { s.nand with reserveWait := l } }
  rw [hg] at hexec
  obtain ⟨hk, hx, hp⟩ := pageFailed_keeps (s := { s with nand := { s.nand with reserveWait := l }, stg := g }) e ptr b r rB
    (he ▸ List.mem_of_find?_eq_some hf)
  refine ⟨_, hexec, hk, hx, fun hb hfr hp1 hp2 => ?_⟩
  have hs : Spared s := Sturdy.spared ⟨hfr, hb⟩
  have hs' : Spared { s with nand := { s.nand with reserveWait := l }, stg := g } := hs.of_eq rfl (fun _ => rfl) rfl he
  have hprov (x : Nat) : provisionalIn x { s with nand := { s.nand with reserveWait := l }, stg := g } = provisionalIn x s :=
    provisionalIn_congr he x
  have hpages := hp hs' ((hprov _).trans hp1) (fun hd => (hprov _).trans (hp2 hd))
  refine ⟨fun h1 h2 => ?_, fun h1 => ?_⟩
  · subst h1
    exact hpages.trans (failPages_pages e ptr _ h2 _)
  · subst h1
    obtain ⟨hd, h2⟩ : pageIsDup e = true ∧ rB = .fail := hr.resolve_left (by decide)
    subst h2
    obtain ⟨x, hx, hu, hn⟩ := failPages_passed e ptr (copyBPtr ptr b s) hd { s with nand := { s.nand with reserveWait := l }, stg := g }
    exact ⟨x, (congrArg (tfind · ptr) hpages).trans hx, hu, hn⟩

end FailedPages

section Place
variable {s : State}

/-! ### The place of a void knot after reads of knot records (R204) -/

/-- The store after reads of knot records: the channels' counts and the read flags of the knots differ. -/
def readState (ch : Table NandCh) (ks : List KnotRec) (s : State) : State := { s with nand := { s.nand with ch := ch, knots := ks } }

theorem targetWorks_readState {ch : Table NandCh} (h : ∀ c, (tget {} ch c).retired = (channelAt c s).retired) (ks : List KnotRec) (x : Nat) :
    targetWorks x (readState ch ks s) = targetWorks x s := by
  have hc (c : Nat) : channelRetired c (readState ch ks s) = channelRetired c s := by
    unfold channelRetired
    rw [← h]
    rfl
  unfold targetWorks
  rw [hc]
  rfl

section
variable {ch : Table NandCh} {ks : List KnotRec} (h : ∀ x, targetWorks x (readState ch ks s) = targetWorks x s)
include h

theorem workingChannels_readState : workingChannels (readState ch ks s) = workingChannels s := by
  unfold workingChannels
  simp only [h]

theorem partnerOf_readState (c : Nat) : partnerOf c (readState ch ks s) = partnerOf c s := by
  unfold partnerOf
  rw [workingChannels_readState h]

theorem planesOf_readState (c : Nat) : planesOf c (readState ch ks s) = planesOf c s := by
  unfold planesOf
  simp only [h]
  rfl

theorem pageFree_readState (p : Nat) : pageFree p (readState ch ks s) = pageFree p s := by
  unfold pageFree
  rw [h]
  rfl

theorem blockToOpen_readState (x : Nat) (l : List Nat) : blockToOpen x l (readState ch ks s) = blockToOpen x l s := by
  unfold blockToOpen
  simp only [pageFree_readState h]
  rfl

theorem recordPage_readState (x : Nat) (l : List Nat) : recordPage x l (readState ch ks s) = recordPage x l s := by
  unfold recordPage
  rw [blockToOpen_readState h]
  rfl

theorem pairPage_readState (x y : Nat) (l : List Nat) : pairPage x y l (readState ch ks s) = pairPage x y l s := by
  unfold pairPage pairStands
  simp only [blockToOpen_readState h, h]
  rfl

theorem onFrontierBut_readState (p : Nat) (l : List Nat) : onFrontierBut p l (readState ch ks s) = onFrontierBut p l s := by
  unfold onFrontierBut onFrontier
  simp only [h]
  rfl

theorem pairPages_readState (p q : Nat) (l : List Nat) : pairPages p q l (readState ch ks s) = pairPages p q l s := by
  unfold pairPages onPairFrontier pairStands copyBPtr
  simp only [partnerOf_readState h, pageFree_readState h, h]
  rfl

theorem recordPages_readState (n p q : Nat) (l : List Nat) : recordPages n p q l (readState ch ks s) = recordPages n p q l s := by
  unfold recordPages
  simp only [workingChannels_readState h, pageFree_readState h, onFrontierBut_readState h, pairPages_readState h]

theorem voidPlace_readState (n : Nat) (l : List Nat) : voidPlace n l (readState ch ks s) = voidPlace n l s := by
  unfold voidPlace
  simp only [workingChannels_readState h, planesOf_readState h, recordPage_readState h, pairPage_readState h, partnerOf_readState h,
    recordPages_readState h]

end
end Place

section Records
variable {s t u : State} {p q ptr ptrB : Nat} {e : Epoch}

/-! ### KNOT_RECORD_PROGRAM (R204 to R206) -/

theorem exec_knotRecordProgram {l : List Epoch} {r rB : NandResult} (hrun : shuttlesRun s = true) (hs : s.stg.epochs = e :: l)
    (hc : e.closed ≠ none) (ht : e.todo = []) (hph : e.phase = .filling) (hk : e.kind ≠ .final)
    (hp : recordPages e.num ptr ptrB [] s = true) (hw : mustWait e [ptr, ptrB] s = false) :
    ∃ n, exec (.knotRecordProgram ptr ptrB r rB) s = .next (if r = .pass && rB = .pass
      then programKnot e (knotBody e s) ptr ptrB r rB { s with nand := { s.nand with reserveWait := n } }
      else failKnot e 2 (programKnot e (knotBody e s) ptr ptrB r rB { s with nand := { s.nand with reserveWait := n } })) := by
  obtain ⟨n, hn⟩ : ∃ n, noteWait e false [ptr, ptrB] s = { s with nand := { s.nand with reserveWait := n } } := ⟨_, rfl⟩
  refine ⟨n, ?_⟩
  change execKnotRecordProgram ptr ptrB r rB s = _
  have hin : knotInProgram e = false := by rw [knotInProgram, hph]
  have hc' : e.closed.isSome = true := Option.isSome_iff_ne_none.2 hc
  unfold execKnotRecordProgram
  rw [hs]
  dsimp only
  rw [if_pos (by simp [hrun, hc', ht, hin, hk, hp]), hw, if_neg Bool.false_ne_true, hn]
  rfl

theorem programKnot_keepsQueues (e : Epoch) (body : KnotBody) (p q : Nat) (ra rb : NandResult) (s : State) :
    KeepsQueues s (programKnot e body p q ra rb s) := by
  have hrec (p : Nat) (r : NandResult) (us : List NandUnit) (d c : Bool) (q : Nat) (v : State) :
      Changes 0xc2000008 v (recordProgram p r 2 e.num us d c e.reprogram q v) := recordProgram_changes _ _ _ _ _ _ _ _ _ (by rfl) (.refl _ v)
  have hmove (p : Nat) (o : Option Nat) (v : State) : Changes 0xc2000008 v (moveFrontier p o v) := moveFrontier_changes _ _ (by rfl) (.refl _ v)
  unfold programKnot
  extract_lets dup a b c d k
  have hb : Changes 0xc2000008 s b := (hrec ..).trans (hrec ..)
  have hc : Changes 0xc2000008 b c := by
    unfold c
    split
    · exact abandonBlock_changes _ (by rfl) (abandonBlock_changes _ (by rfl) (.refl _ b))
    · exact .refl _ b
  have hd : Changes 0xc2000008 c d := by
    unfold d
    split
    · exact hmove ..
    · exact (hmove ..).trans (hmove ..)
  have hend : KeepsQueues d (modEpoch e.num (fun e => { e with phase := .knotProgrammed (slotAddr p 0) })
      { d with nand := { d.nand with knots := k :: d.nand.knots } }) := ⟨rfl, rfl, rfl, rfl, rfl⟩
  exact (KeepsQueues.of_changes (((hb.trans hc).trans hd).mono (by rfl))).trans hend

theorem knotRecord_passes {l : List Epoch} (hrun : shuttlesRun s = true) (hs : s.stg.epochs = e :: l)
    (hc : e.closed ≠ none) (ht : e.todo = []) (hph : e.phase = .filling) (hk : e.kind ≠ .final)
    (hp : recordPages e.num ptr ptrB [] s = true) (hw : mustWait e [ptr, ptrB] s = false) :
    ∃ t k, exec (.knotRecordProgram ptr ptrB .pass .pass) s = .next t ∧ t.nand.knots = k :: s.nand.knots ∧
      k.epoch = e.num ∧ k.kind = e.kind ∧ k.slot = 4 * ptr ∧ k.slotB = 4 * ptrB ∧ k.prev = s.stg.lastKnot ∧
      k.pages = e.pages ∧ k.key = s.lcs.keyId ∧ k.readA = true ∧ k.readB = true ∧
      t.stg.lastKnot = s.stg.lastKnot ∧ t.cache.map = s.cache.map := by
  obtain ⟨n, hexec⟩ := exec_knotRecordProgram (r := .pass) (rB := .pass) hrun hs hc ht hph hk hp hw
  rw [if_pos (by rfl)] at hexec
  obtain ⟨k, hknots, hbody, hslot, hslotB, hkey, hA, hB⟩ :=
    programKnot_passes e (knotBody e s) ptr ptrB { s with nand := { s.nand with reserveWait := n } }
  refine ⟨_, k, hexec, hknots, by rw [hbody]; rfl, by rw [hbody]; rfl, hslot, hslotB, by rw [hbody]; rfl, by rw [hbody]; rfl, hkey, hA, hB,
    (programKnot_keepsQueues ..).lastKnot, ?_⟩
  exact congrArg CacheSt.map ((programKnot_changes _ _ _ _ _ _ (m' := 0xc2000018) (by rfl) (.refl _ _)).cache rfl)

/-! ### An epoch whose knot fails (R209) -/

/-- Epoch `n` ends with a void knot of REASON 2; the newest knot and the location map stand. -/
structure KnotFailed (s : State) (n : Nat) (t : State) : Prop extends VoidedBy 2 s n t where
  lastKnot : t.stg.lastKnot = s.stg.lastKnot
  loc : t.cache.loc = s.cache.loc

theorem failKnot_staging (hk : e.kind = .staging) (s : State) : failKnot e 2 s = voidEpoch 2 s e := by
  unfold failKnot
  rw [hk]
  split <;> rfl

theorem failKnot_fails (hk : e.kind = .staging) (s : State) : KnotFailed s e.num (failKnot e 2 s) := by
  rw [failKnot_staging hk]
  have hq := voidEpoch_keepsQueues 2 s e
  exact ⟨voidEpoch_voidedBy 2 s e, hq.lastKnot, hq.loc⟩

theorem knotRecord_fails {l : List Epoch} {r rB : NandResult} (hrun : shuttlesRun s = true) (hs : s.stg.epochs = e :: l)
    (hc : e.closed ≠ none) (ht : e.todo = []) (hr : r = .fail ∨ rB = .fail) (hph : e.phase = .filling) (hk : e.kind = .staging)
    (hp : recordPages e.num ptr ptrB [] s = true) (hw : mustWait e [ptr, ptrB] s = false) :
    ∃ t, exec (.knotRecordProgram ptr ptrB r rB) s = .next t ∧ t.stg.lastKnot = s.stg.lastKnot ∧
      (∀ x ∈ t.stg.epochs, x.num ≠ e.num) ∧
      (∃ w ∈ t.stg.voidReads, w.epoch = e.num ∧ w.reason = 2 ∧ w.ts = engineNow s) ∧ t.cache.loc = s.cache.loc := by
  obtain ⟨n, hexec⟩ := exec_knotRecordProgram (r := r) (rB := rB) hrun hs hc ht hph (by rw [hk]; decide) hp hw
  have hn : (decide (r = .pass) && decide (rB = .pass)) = false := by
    rcases hr with rfl | rfl
    · rfl
    · exact Bool.and_false _
  rw [if_neg (by rw [hn]; decide)] at hexec
  obtain ⟨v, hv⟩ : ∃ v, programKnot e (knotBody e s) ptr ptrB r rB { s with nand := { s.nand with reserveWait := n } } = v := ⟨_, rfl⟩
  have hn' : KeepsQueues s { s with nand := { s.nand with reserveWait := n } } := ⟨rfl, rfl, rfl, rfl, rfl⟩
  have hq : KeepsQueues s v := by
    rw [← hv]
    exact hn'.trans (programKnot_keepsQueues ..)
  have htime : engineNow v = engineNow s := by
    have hch : Changes 0xc2000018 { s with nand := { s.nand with reserveWait := n } } v := by
      rw [← hv]
      exact programKnot_changes _ _ _ _ _ _ (by rfl) (.refl _ _)
    exact engineNow_congr (hch.tbs rfl)
  have hf := failKnot_fails hk v
  rw [hv] at hexec
  exact ⟨_, hexec, hf.lastKnot.trans hq.lastKnot, hf.gone, htime ▸ hf.waits, hf.loc.trans hq.loc⟩

/-! ### KNOT_TIMEOUT (R209) -/

theorem knotTimeout_fails {r : List Epoch} (hrun : engineRuns s = true) (hs : s.stg.epochs = e :: r) (hc : e.closed ≠ none)
    (ht : e.todo = []) (hk : e.kind = .staging) : ∃ t, exec (.knotTimeout e.num) s = .next t ∧ KnotFailed s e.num t := by
  have hc' : e.closed.isSome = true := Option.isSome_iff_ne_none.2 hc
  refine ⟨_, ?_, failKnot_fails hk s⟩
  change execKnotTimeout e.num s = _
  unfold execKnotTimeout
  rw [if_neg (by simp [hrun]), hs]
  dsimp only
  rw [if_pos (by simp [hc', ht]), if_neg (by simp [hk]), knotFailed, if_neg (by simp [hk])]

/-! ### KNOT_READBACK (R207 to R209) -/

theorem countCopyRead_retired (slot : Nat) (r : CopyRead) (s : State) (c : Nat) :
    (channelAt c (countCopyRead slot r s)).retired = (channelAt c s).retired := by
  have hcongr {v w : State} (h : w.nand = v.nand) : (channelAt c w).retired = (channelAt c v).retired := by
    rw [channelAt, h, ← channelAt]
  have hretry (p : Nat) (v : State) : (retryReads p v).nand = v.nand := (retryReads_changes p (m' := 0x40000000) (by rfl) (.refl _ v)).nand rfl
  have hcount (x : Nat) (v : State) :
      (channelAt c (modChannel x (fun y => { y with ue := satAdd (2 ^ 24 - 1) y.ue 1 }) v)).retired = (channelAt c v).retired := by
    have hne : { channelAt x v with ue := satAdd (2 ^ 24 - 1) (channelAt x v).ue 1 } ≠ ({} : NandCh) := fun h =>
      absurd (congrArg NandCh.ue h) (satAdd_one_ne_zero (by decide))
    by_cases hx : c = x
    · subst hx
      exact (congrArg NandCh.retired (tget_tput_self {} _ c hne v.nand.ch) :)
    · exact congrArg NandCh.retired (tget_tput_ne_of_value_ne_default hne hx _)
  unfold countCopyRead
  extract_lets x r' u w
  have hw : w.nand = s.nand := by
    unfold w
    split
    · rfl
    · exact sampleFree_nand ..
  split
  · rw [hcount, hcongr (hretry _ _), hcongr hw]
  · exact hcongr hw

/-- A knot's record has been read: its copies' errors are counted, and the knot notes which of its copies read. -/
structure KnotRead (s t : State) : Prop where
  changes : Changes 0xc2000008 s t
  nand : ∃ ch ks, t.nand = (readState ch ks s).nand ∧ ∀ x, (tget {} ch x).retired = (channelAt x s).retired

theorem spoilKnot_read (slot other : Nat) (a b : CopyRead) (s : State) : KnotRead s (spoilKnot slot a b (readBack slot other a b s)) := by
  have h := (countCopyRead_counted slot a s).trans (countCopyRead_counted other b _)
  obtain ⟨ch, hch⟩ := h.nand
  refine ⟨spoilKnot_changes _ _ _ (by rfl) h.changes, ch, (spoilKnot slot a b (readBack slot other a b s)).nand.knots, ?_, fun x => ?_⟩
  · have hks (v : State) : (spoilKnot slot a b v).nand = { v.nand with knots := (spoilKnot slot a b v).nand.knots } := rfl
    rw [hks, readBack, hch]
    rfl
  · have hx := (countCopyRead_retired other b (countCopyRead slot a s) x).trans (countCopyRead_retired slot a s x)
    rw [← hx, channelAt, hch]

theorem KnotRead.verifies_eq (h : KnotRead s t) (slot other : Nat) (a b : CopyRead) : verifies slot other a b t = verifies slot other a b s := by
  obtain ⟨ch, ks, hn, -⟩ := h.nand
  have hpage (x : Nat) : pageOfSlot x t = pageOfSlot x s := by
    rw [pageOfSlot, hn, pageOfSlot]
    rfl
  have hunit (x : Nat) : unitAt x t = unitAt x s := by rw [unitAt, hpage, ← unitAt]
  have hout (x : Nat) (r : CopyRead) : copyOutcome x r t = copyOutcome x r s := by
    unfold copyOutcome
    rw [hunit]
  have hacc (x : Nat) (r : CopyRead) : slotAccepted x r t = slotAccepted x r s := by
    unfold slotAccepted
    rw [hunit, hout]
  rw [verifies, hacc, hacc, ← verifies]

theorem KnotRead.voidPlace_eq (h : KnotRead s t) (n : Nat) (l : List Nat) : voidPlace n l t = voidPlace n l s := by
  obtain ⟨ch, ks, hn, hr⟩ := h.nand
  have hv : placeView t = placeView (readState ch ks s) := by
    rw [placeView, placeView, hn, h.changes.vlt rfl, h.changes.drf rfl]
    rfl
  rw [voidPlace_congr n l hv, voidPlace_readState (targetWorks_readState hr ks)]

/-- The knot of the epoch in hand, read back. -/
theorem exec_knotReadback {r : List Epoch} {slot : Nat} {k : KnotRec} {a b : CopyRead} (hrun : engineRuns s = true)
    (hs : s.stg.epochs = e :: r) (hph : e.phase = .knotProgrammed slot) (hf : s.nand.knots.find? (fun k => k.slot = slot) = some k) :
    ∃ v, KnotRead s v ∧ exec (.knotReadback e.num a b) s =
      .next (if verifies slot k.slotB a b s then knotVerified e slot v else knotFailed e v) := by
  have hv := spoilKnot_read slot k.slotB a b s
  refine ⟨_, hv, ?_⟩
  change execKnotReadback e.num a b s = _
  unfold execKnotReadback
  rw [if_neg (by simp [hrun]), hs]
  dsimp only
  rw [hph]
  dsimp only
  rw [if_pos rfl, hf]
  dsimp only
  rw [hv.verifies_eq]

theorem knotReadback_fails {r : List Epoch} {slot : Nat} {k : KnotRec} {a b : CopyRead} (hrun : engineRuns s = true)
    (hs : s.stg.epochs = e :: r) (hph : e.phase = .knotProgrammed slot) (hk : e.kind = .staging)
    (hf : s.nand.knots.find? (fun k => k.slot = slot) = some k) (hver : verifies slot k.slotB a b s = false) :
    ∃ t, exec (.knotReadback e.num a b) s = .next t ∧ KnotFailed s e.num t := by
  obtain ⟨v, hv, hexec⟩ := exec_knotReadback (a := a) (b := b) hrun hs hph hf
  obtain ⟨ch, ks, hn, -⟩ := hv.nand
  have htime : engineNow v = engineNow s := engineNow_congr (hv.changes.tbs rfl)
  have hvoids : v.nand.voids = s.nand.voids := by rw [hn]; rfl
  rw [hver, if_neg Bool.false_ne_true, knotFailed, if_neg (by simp [hk])] at hexec
  have hfail := failKnot_fails hk v
  obtain ⟨⟨gone, waits, stands⟩, hlast, hloc⟩ := hfail
  rw [htime] at waits stands
  rw [hv.voidPlace_eq, hvoids] at stands
  exact ⟨_, hexec, ⟨gone, waits, stands⟩, hlast.trans (by rw [hv.changes.stg rfl]), hloc.trans (by rw [hv.changes.cache rfl])⟩

/-- An epoch whose knot verifies is off the list, and its knot the newest (R208). -/
structure Resolved (slot : Nat) (s : State) (n : Nat) (t : State) : Prop where
  gone : ∀ x ∈ t.stg.epochs, x.num ≠ n
  lastKnot : t.stg.lastKnot = some slot
  lastEpoch : t.stg.lastKnotEpoch = n
  voids : t.nand.voids = s.nand.voids
  safeTs : s.stg.safeTs ≤ t.stg.safeTs

theorem Resolved.keep {n slot : Nat} (h : Resolved slot s n t) (k : KeepsRecords t u) : Resolved slot s n u :=
  ⟨k.epochs ▸ h.gone, k.lastKnot.trans h.lastKnot, k.lastEpoch.trans h.lastEpoch, k.voids.trans h.voids, k.safeTs ▸ h.safeTs⟩

theorem resolve_resolved (e : Epoch) (slot : Nat) (s : State) : Resolved slot s e.num (resolve e slot s) := by
  have hp : Changes 0x4c0c0021 s (applyPages e s) := applyPages_changes e (by rfl) (.refl _ s)
  unfold resolve
  extract_lets a b c counted
  have hb : Changes 0x2000000 a b := by
    unfold b
    split
    · exact sampleSince_changes _ _ _ (by rfl) (.refl _ a)
    · exact .refl _ a
  have hc : Changes 0x4e000000 a c := sendFrame_changes _ _ (by rfl) (hb.mono (by rfl))
  have hg : c.stg = { s.stg with epochs := s.stg.epochs.filter (fun x => x.num ≠ e.num) } := by
    rw [hc.stg rfl, ← hp.stg rfl]
    rfl
  have hv : c.nand.voids = s.nand.voids := by
    rw [hc.nand rfl, ← hp.nand rfl]
    rfl
  clear_value c
  refine Resolved.keep ?_ ((retireBlocks_keepsRecords _).trans (evaluate_keepsRecords _))
  refine ⟨fun x hx => ?_, rfl, rfl, hv, ?_⟩
  · change x ∈ c.stg.epochs at hx
    rw [hg] at hx
    exact of_decide_eq_true (List.mem_filter.1 hx).2
  · rw [show s.stg.safeTs = c.stg.safeTs by rw [hg]]
    exact Nat.le_max_left ..

theorem knotReadback_verifies {r : List Epoch} {slot : Nat} {k : KnotRec} {a b : CopyRead} (hrun : engineRuns s = true)
    (hs : s.stg.epochs = e :: r) (hph : e.phase = .knotProgrammed slot) (hk : e.kind = .staging)
    (hf : s.nand.knots.find? (fun k => k.slot = slot) = some k) (hver : verifies slot k.slotB a b s = true) :
    ∃ t, exec (.knotReadback e.num a b) s = .next t ∧ Resolved slot s e.num t := by
  obtain ⟨v, hv, hexec⟩ := exec_knotReadback (a := a) (b := b) hrun hs hph hf
  obtain ⟨ch, ks, hn, -⟩ := hv.nand
  rw [if_pos hver] at hexec
  refine ⟨_, hexec, ?_⟩
  have hres : Resolved slot s e.num (resolve e slot v) := by
    obtain ⟨gone, hl, he, hvoids, hsafe⟩ := resolve_resolved e slot v
    exact ⟨gone, hl, he, hvoids.trans (by rw [hn]; rfl), by rwa [hv.changes.stg rfl] at hsafe⟩
  have hckpt (x : State) (hx : Resolved slot s e.num x) : Resolved slot s e.num (startCkpt x) := by
    obtain ⟨gone, hl, he, hvoids, hsafe⟩ := hx
    unfold startCkpt
    split
    · exact ⟨gone, hl, he, hvoids, hsafe⟩
    · exact ⟨gone, hl, he, hvoids, hsafe⟩
  unfold knotVerified
  split
  · rw [afterStray, hk]
    exact hres
  · rw [if_neg (by rw [hk]; decide), afterKnot, hk]
    exact hckpt _ hres

end Records

/-- Settles O21. -/
theorem pagesKnotsAndReadback : Obligations.PagesKnotsAndReadback := by
  refine ⟨⟨fun _ _ _ _ _ => pageProgram_passes, fun _ _ _ _ _ _ => pageProgram_fails, fun _ _ _ _ _ _ => pageProgram_waits,
    fun _ _ _ _ _ => pageProgram_begun⟩, ⟨fun _ _ _ _ _ => knotRecord_passes, fun _ _ _ _ _ _ _ hrun hs hc ht hr =>
      knotRecord_fails hrun hs hc ht hr⟩, ⟨fun s e r slot k a b hrun hs hph hk hf hver => ?_,
    fun s e r slot k a b hrun hs hph hk hf hver => ?_, fun s e r hrun hs hc ht hk => ?_⟩⟩
  · obtain ⟨t, hexec, h⟩ := knotReadback_verifies hrun hs hph hk hf hver
    exact ⟨t, hexec, h.lastKnot, h.lastEpoch, h.gone, h.voids, h.safeTs⟩
  · obtain ⟨t, hexec, h⟩ := knotReadback_fails hrun hs hph hk hf hver
    exact ⟨t, hexec, h.lastKnot, h.gone, h.waits, h.stands, h.loc⟩
  · obtain ⟨t, hexec, h⟩ := knotTimeout_fails hrun hs hc ht hk
    exact ⟨t, hexec, h.lastKnot, h.gone, h.waits, h.stands, h.loc⟩

end Sys2Proof.Machine

/-! PROOFS. The erase journal of embedded flash: a record written at its next place, and the erase counts it gives (R485 to R487). -/

namespace Sys2Proof.Machine

section Journal
variable {s t u : State} {half x b : Nat}

/-! ### An insertion behind the entries that a filter keeps -/

theorem lt_of_keysUp {α : Type} {l : Table α} {k : Nat} (h : keysUp (some k) l = true) : ∀ e ∈ l, k < e.1 := by
  induction l generalizing k with
  | nil => intro e he; cases he
  | cons a l ih =>
    obtain ⟨n, v⟩ := a
    simp only [keysUp, Bool.and_eq_true, decide_eq_true_eq] at h
    obtain ⟨hk, hl⟩ := h
    intro e he
    rcases List.mem_cons.1 he with rfl | he
    · exact hk
    · exact hk.trans (ih hl e he)

theorem filter_tins_last {α : Type} {p : Nat × α → Bool} {n : Nat} {v : α} {l : Table α} (h : keysUp none l = true)
    (hp : ∀ w, p (n, w) = true) (hlt : ∀ e ∈ l.filter p, e.1 < n) : (tins n v l).filter p = l.filter p ++ [(n, v)] := by
  induction l with
  | nil => simp [tins, hp]
  | cons a l ih =>
    obtain ⟨k, w⟩ := a
    have hup : keysUp (some k) l = true := h
    have hrest : keysUp none l = true := keysUp_weaken l k none (by simp) hup
    rw [tins]
    split
    next hnk =>
      have hnone : ((k, w) :: l).filter p = [] := by
        refine List.filter_eq_nil_iff.2 fun e he hpe => ?_
        have hle : k ≤ e.1 := by
          rcases List.mem_cons.1 he with rfl | he
          · exact le_refl _
          · exact (lt_of_keysUp hup e he).le
        exact absurd (hlt e (List.mem_filter.2 ⟨he, hpe⟩)) (by omega)
      rw [List.filter_cons_of_pos (hp v), hnone]
      rfl
    split
    next hnk =>
      subst hnk
      exact absurd (hlt (n, w) (List.mem_filter.2 ⟨List.mem_cons_self, hp w⟩)) (lt_irrefl _)
    · have hl : ∀ e ∈ l.filter p, e.1 < n := fun e he => hlt e (by
        obtain ⟨hm, hpe⟩ := List.mem_filter.1 he
        exact List.mem_filter.2 ⟨List.mem_cons_of_mem _ hm, hpe⟩)
      rw [List.filter_cons, List.filter_cons, ih hrest hl]
      split
      · rfl
      · rfl

/-! ### Where the journal goes on (R485) -/

/-- The word at which the next record of the half in use begins. -/
def journalNext (s : State) : Nat := journalBase (journalHalf s) + 2 * journalEnd (journalHalf s) s

theorem mem_journalWords {e : Nat × EflWord} : e ∈ journalWords half s ↔ e ∈ s.efl.words ∧ sectorOfWord e.1 = 34 + half := by
  rw [journalWords, List.mem_filter, decide_eq_true_eq]

/-- Every word of a half lies before its end. -/
theorem lt_journalEnd {e : Nat × EflWord} (h : e ∈ journalWords half s) : e.1 < journalBase half + 2 * journalEnd half s := by
  have hle : (e.1 - journalBase half) / 2 + 1 ≤ journalEnd half s := le_foldl_max _ 0 (.inr (List.mem_map.2 ⟨e, h, rfl⟩))
  have hsec := (mem_journalWords.1 h).2
  unfold sectorOfWord at hsec
  unfold journalBase at hle ⊢
  omega

/-- From its end on the words of a half are erased. -/
theorem eflWord_beyond (hf : ∀ y ∈ s.efl.factoryBlocks, y < 272) (hs : sectorOfWord x = 34 + half)
    (hx : journalBase half + 2 * journalEnd half s ≤ x) : eflWord x s = {} := by
  have hnone : tfind s.efl.words x = none := by
    refine Option.eq_none_iff_forall_ne_some.2 fun v hv => ?_
    have := lt_journalEnd (mem_journalWords.2 ⟨mem_of_tfind hv, hs⟩)
    dsimp only at this
    omega
  have hfac : s.efl.factoryBlocks.contains (blockOfWord x) = false := by
    rw [List.contains_eq_mem, decide_eq_false_iff_not]
    intro hm
    have := hf _ hm
    unfold sectorOfWord at hs
    unfold blockOfWord at this
    omega
  rw [eflWord, hnone, hfac]
  rfl

/-! ### A record appended (R485) -/

/-- The records `r` have been appended to the half in use, in its next place. -/
structure Appended (s t : State) (r : List (Nat × Nat × Nat)) : Prop where
  records : journalRecords (journalHalf s) t = journalRecords (journalHalf s) s ++ r
  other : journalRecords (1 - journalHalf s) t = journalRecords (1 - journalHalf s) s
  end_ : journalEnd (journalHalf s) t = journalEnd (journalHalf s) s + 1
  endOther : journalEnd (1 - journalHalf s) t = journalEnd (1 - journalHalf s) s

variable {r : List (Nat × Nat × Nat)}

theorem journalHalf_eq_zero_iff (s : State) :
    journalHalf s = 0 ↔ journalEnd 1 s = 0 ∨ (journalEnd 0 s ≠ 0 ∧ journalEnd 0 s + 2 ≤ 4096) := by
  unfold journalHalf journalFull
  by_cases h1 : journalEnd 1 s = 0
  · simp [h1]
  by_cases h0 : journalEnd 0 s = 0
  · simp [h1, h0]
  · simp [h1, h0]

/-- A half that is not full stays in use. -/
theorem Appended.half_eq (h : Appended s t r) (hroom : journalEnd (journalHalf s) s + 3 ≤ 4096) : journalHalf t = journalHalf s := by
  obtain ⟨-, -, hend, hother⟩ := h
  have hs := journalHalf_eq_zero_iff s
  have ht := journalHalf_eq_zero_iff t
  have hle := journalHalf_le_one t
  rcases (by have := journalHalf_le_one s; omega : journalHalf s = 0 ∨ journalHalf s = 1) with hh | hh <;>
  · rw [hh] at hend hother hroom hs ⊢
    dsimp only [Nat.sub_zero, Nat.sub_self, Nat.reduceSub] at hother
    omega

theorem Appended.blockRecords_eq (h : Appended s t r) (hroom : journalEnd (journalHalf s) s + 3 ≤ 4096) (b : Nat) :
    blockRecords b t = blockRecords b s ++ r.filter (fun e => e.2.1 = b) := by
  rw [blockRecords, h.half_eq hroom, h.records, h.other, ← List.append_assoc, List.filter_append, ← blockRecords]

theorem Appended.eraseCount_nil (h : Appended s t []) (hroom : journalEnd (journalHalf s) s + 3 ≤ 4096) (b : Nat) :
    eraseCount b t = eraseCount b s := by
  rw [eraseCount, h.blockRecords_eq hroom, List.filter_nil, List.append_nil, ← eraseCount]

/-- A completion record gives its block's erase count. -/
theorem Appended.eraseCount_completion {c : Nat} (h : Appended s t [(0x43, b, c)]) (hroom : journalEnd (journalHalf s) s + 3 ≤ 4096) :
    eraseCount b t = c := by
  rw [eraseCount, h.blockRecords_eq hroom, List.filter_append, List.filter_cons_of_pos (by simp), List.filter_cons_of_pos (by simp)]
  simp

/-! ### The words of a record (R485) -/

/-- The journal takes a record at its next place: there is room for it and for one more, and its block takes programs. -/
structure JournalTakes (s : State) : Prop where
  up : keysUp none s.efl.words = true
  room : journalEnd (journalHalf s) s + 3 ≤ 4096
  fit : blockWorn (journalNext s / 1024) s = false
  complete : journalNext s / 1024 ∉ s.efl.incomplete
  factory : ∀ y ∈ s.efl.factoryBlocks, y < 272

theorem sector_journalNext (h : JournalTakes s) :
    sectorOfWord (journalNext s) = 34 + journalHalf s ∧ sectorOfWord (journalNext s + 1) = 34 + journalHalf s := by
  have := h.room
  unfold sectorOfWord journalNext journalBase
  omega

theorem lt_journalNext {e : Nat × EflWord} (h : e ∈ journalWords (journalHalf s) s) : e.1 < journalNext s := lt_journalEnd h

theorem journalNext_even (s : State) : journalNext s % 2 = 0 := by
  unfold journalNext journalBase
  omega

theorem JournalTakes.erased (h : JournalTakes s) : eflWord (journalNext s) s = {} ∧ eflWord (journalNext s + 1) s = {} := by
  obtain ⟨h0, h1⟩ := sector_journalNext h
  exact ⟨eflWord_beyond h.factory h0 (le_refl _), eflWord_beyond h.factory h1 (Nat.le_succ _)⟩

/-- A word stored behind the words of its half comes last of them. -/
theorem journalWords_storeWord_last (h : keysUp none s.efl.words = true) (hs : sectorOfWord x = 34 + half)
    (hx : ∀ e ∈ journalWords half s, e.1 < x) (v : EflWord) :
    journalWords half (storeWord x v s) = journalWords half s ++ [(x, v)] :=
  filter_tins_last h (fun _ => decide_eq_true hs) hx

theorem journalWords_storeWord_other (hs : sectorOfWord x ≠ 34 + half) (v : EflWord) (s : State) :
    journalWords half (storeWord x v s) = journalWords half s :=
  filter_tins (fun _ => decide_eq_false hs) _

theorem journalEnd_append {l : Table EflWord} (h : journalWords half t = journalWords half s ++ l)
    (hl : ∀ e ∈ l, (e.1 - journalBase half) / 2 = journalEnd half s) (hne : l ≠ []) : journalEnd half t = journalEnd half s + 1 := by
  have hmax (m : Nat) (l : Table EflWord) (hl : ∀ e ∈ l, (e.1 - journalBase half) / 2 = m) (k : Nat) (hk : k = m ∨ k = m + 1)
      (hne : l ≠ [] ∨ k = m + 1) : ((l.map (fun e => (e.1 - journalBase half) / 2 + 1)).foldl Nat.max k) = m + 1 := by
    induction l generalizing k with
    | nil => exact hne.resolve_left (by simp)
    | cons e l ih =>
      rw [List.map_cons, List.foldl_cons, hl e List.mem_cons_self]
      have hk' : Nat.max k (m + 1) = m + 1 := Nat.max_eq_right (by omega)
      exact ih (fun e he => hl e (List.mem_cons_of_mem _ he)) _ (.inr hk') (.inr hk')
  rw [journalEnd, h, List.map_append, List.foldl_append]
  exact hmax _ l hl _ (.inl rfl) (.inl hne)

/-- The record of which `e` is the first word: TYPE, BLOCK, COUNT (R485). -/
def recordAt (s : State) (e : Nat × EflWord) : Option (Nat × Nat × Nat) :=
  match unpair (recordWord e.2), unpair (recordWord (eflWord (e.1 + 1) s)) with
  | some v, some c => some (v / 2 ^ 24, v % 2 ^ 16, c % 2 ^ 24)
  | _, _ => none

theorem journalRecords_eq (half : Nat) (s : State) :
    journalRecords half s = ((journalWords half s).filter (fun e => e.1 % 2 = 0)).filterMap (recordAt s) := rfl

theorem recordAt_congr {e : Nat × EflWord} (h : eflWord (e.1 + 1) t = eflWord (e.1 + 1) s) : recordAt t e = recordAt s e := by
  rw [recordAt, h, ← recordAt]

/-- The records of a half stand while the words that they are read from do. -/
theorem journalRecords_append {l : Table EflWord} (h : journalWords half t = journalWords half s ++ l)
    (hread : ∀ e ∈ journalWords half s, e.1 % 2 = 0 → eflWord (e.1 + 1) t = eflWord (e.1 + 1) s) :
    journalRecords half t = journalRecords half s ++ (l.filter (fun e => e.1 % 2 = 0)).filterMap (recordAt t) := by
  have hold : ((journalWords half s).filter (fun e => e.1 % 2 = 0)).filterMap (recordAt t) =
      ((journalWords half s).filter (fun e => e.1 % 2 = 0)).filterMap (recordAt s) := by
    refine List.filterMap_congr fun e he => ?_
    obtain ⟨hmem, heven⟩ := List.mem_filter.mp he
    exact recordAt_congr (hread e hmem (of_decide_eq_true heven))
  rw [journalRecords_eq, h, List.filter_append, List.filterMap_append, hold, ← journalRecords_eq]

theorem unpair_pairWord {v : Nat} (hv : v < 2 ^ 32) : unpair (pairWord v) = some v := by
  have hmod : v % 2 ^ 32 = v := Nat.mod_eq_of_lt hv
  have h1 : pairWord v % 2 ^ 32 = v := by
    unfold pairWord
    omega
  have h2 : pairWord v / 2 ^ 32 = 2 ^ 32 - 1 - v := by
    unfold pairWord
    omega
  rw [unpair, h1, h2, if_pos (by omega)]

theorem recordWord_stored (d : Nat) : recordWord { data := d, programs := 1 } = d := rfl

/-- The words of a record appended to the half in use. -/
theorem appended_of_words {l : Table EflWord} (h : JournalTakes s)
    (hw : journalWords (journalHalf s) t = journalWords (journalHalf s) s ++ l)
    (ho : journalWords (1 - journalHalf s) t = journalWords (1 - journalHalf s) s)
    (hread : ∀ w, w < journalNext s ∨ journalNext s + 2 ≤ w → eflWord w t = eflWord w s)
    (hl : ∀ e ∈ l, journalNext s ≤ e.1 ∧ e.1 < journalNext s + 2) (hne : l ≠ []) :
    Appended s t ((l.filter (fun e => e.1 % 2 = 0)).filterMap (recordAt t)) where
  records := journalRecords_append hw fun e he _ => hread _ (by
    have := lt_journalEnd he
    have := journalNext_even s
    unfold journalNext at *
    omega)
  other := by
    obtain ⟨hs, hs'⟩ := sector_journalNext h
    have := journalHalf_le_one s
    rw [journalRecords_append (l := []) (by rw [ho, List.append_nil]) fun e he heven => hread _ (by
      have hsec := (mem_journalWords.1 he).2
      unfold sectorOfWord at hsec hs hs'
      omega)]
    exact List.append_nil _
  end_ := journalEnd_append hw (fun e he => by
    have := hl e he
    unfold journalNext at this
    omega) hne
  endOther := by rw [journalEnd, ho, ← journalEnd]

theorem eflWord_other (v : EflWord) (s : State) {w : Nat} (hw : w ≠ x) : eflWord w (storeWord x v s) = eflWord w s := by
  rw [eflWord_storeWord, if_neg hw]

/-- The first word of a record, of which the second is erased: no record yet. -/
theorem storeWord_appended (h : JournalTakes s) (v : EflWord) : Appended s (storeWord (journalNext s) v s) [] := by
  obtain ⟨hs, -⟩ := sector_journalNext h
  have hle := journalHalf_le_one s
  have ha := appended_of_words (t := storeWord (journalNext s) v s) (l := [(journalNext s, v)]) h
    (journalWords_storeWord_last h.up hs (fun _ => lt_journalNext) v)
    (journalWords_storeWord_other (by omega) v s)
    (fun w hw => eflWord_other v s (by omega)) (by simp) (by simp)
  have hnone : recordAt (storeWord (journalNext s) v s) (journalNext s, v) = none := by
    rw [recordAt, eflWord_other v s (by simp), h.erased.2]
    cases unpair (recordWord v) <;> rfl
  rw [List.filter_cons_of_pos (by simpa using journalNext_even s), List.filter_nil, List.filterMap_cons_none hnone,
    List.filterMap_nil] at ha
  exact ha

/-- A record as it is written at the next place of the half in use. -/
def withRecord (type b c : Nat) (s : State) : State :=
  storeWord (journalNext s + 1) { data := pairWord c, programs := 1 }
    (storeWord (journalNext s) { data := pairWord (type * 2 ^ 24 + b), programs := 1 } s)

theorem putRecord_eq (h : JournalTakes s) (type b c : Nat) : putRecord (journalHalf s) type b c s = withRecord type b c s := by
  have hblock : blockOfWord (journalNext s + 1) = journalNext s / 1024 := by
    have := journalNext_even s
    unfold blockOfWord
    omega
  have hin : s.efl.incomplete.contains (journalNext s / 1024) = false := by
    rw [List.contains_eq_mem, decide_eq_false h.complete]
  have h1 : programWord (journalNext s) (pairWord (type * 2 ^ 24 + b)) s = storeWord (journalNext s) _ s :=
    programWord_of_programmable _ ⟨congrArg EflWord.programs h.erased.1, hin, h.fit⟩
  obtain ⟨v, hv⟩ : ∃ v : EflWord, { data := pairWord (type * 2 ^ 24 + b), programs := 1 } = v := ⟨_, rfl⟩
  rw [hv] at h1
  have ha := storeWord_appended h v
  have h2 : Programmable (journalNext s + 1) (storeWord (journalNext s) v s) := by
    refine ⟨?_, by rw [hblock]; exact hin, ?_⟩
    · rw [eflWord_other v s (by simp), h.erased.2]
    · rw [hblock, blockWorn, ha.eraseCount_nil h.room]
      exact h.fit
  have hput : putRecord (journalHalf s) type b c s =
      programWord (journalNext s + 1) (pairWord c) (programWord (journalNext s) (pairWord (type * 2 ^ 24 + b)) s) := rfl
  rw [hput, h1, programWord_of_programmable _ h2, withRecord, hv]

theorem withRecord_appended (h : JournalTakes s) {type c : Nat} (ht : type < 2 ^ 8) (hb : b < 2 ^ 16) (hc : c < 2 ^ 24) :
    Appended s (withRecord type b c s) [(type, b, c)] := by
  obtain ⟨hs0, hs1⟩ := sector_journalNext h
  have hle := journalHalf_le_one s
  have heven := journalNext_even s
  obtain ⟨v, hv⟩ : ∃ v : EflWord, { data := pairWord (type * 2 ^ 24 + b), programs := 1 } = v := ⟨_, rfl⟩
  obtain ⟨w, hw⟩ : ∃ w : EflWord, { data := pairWord c, programs := 1 } = w := ⟨_, rfl⟩
  have hrv : recordWord v = pairWord (type * 2 ^ 24 + b) := hv ▸ recordWord_stored _
  have hrw : recordWord w = pairWord c := hw ▸ recordWord_stored _
  obtain ⟨u, hu⟩ : ∃ u, storeWord (journalNext s) v s = u := ⟨_, rfl⟩
  have hwith : withRecord type b c s = storeWord (journalNext s + 1) w u := by rw [withRecord, hv, hw, hu]
  have huw : journalWords (journalHalf s) u = journalWords (journalHalf s) s ++ [(journalNext s, v)] :=
    hu ▸ journalWords_storeWord_last h.up hs0 (fun _ => lt_journalNext) v
  have huo : journalWords (1 - journalHalf s) u = journalWords (1 - journalHalf s) s :=
    hu ▸ journalWords_storeWord_other (by omega) v s
  have huup : keysUp none u.efl.words = true := hu ▸ keysUp_tins _ _ h.up
  have hread (x : Nat) (hx : x ≠ journalNext s) : eflWord x u = eflWord x s := hu ▸ eflWord_other v s hx
  have ha := appended_of_words (t := storeWord (journalNext s + 1) w u) (l := [(journalNext s, v), (journalNext s + 1, w)]) h
    (by
      rw [journalWords_storeWord_last huup hs1 (fun e he => ?_) w, huw, List.append_assoc]
      · rfl
      rw [huw] at he
      rcases List.mem_append.1 he with he | he
      · exact (lt_journalNext he).trans (Nat.lt_succ_self _)
      · rw [List.mem_singleton.1 he]
        exact Nat.lt_succ_self _)
    ((journalWords_storeWord_other (by omega) w u).trans huo)
    (fun y hy => (eflWord_other w u (by omega)).trans (hread y (by omega)))
    (by simp) (by simp)
  have hrec : recordAt (storeWord (journalNext s + 1) w u) (journalNext s, v) = some (type, b, c) := by
    rw [recordAt, eflWord_storeWord, if_pos rfl, hrv, hrw, unpair_pairWord (by omega), unpair_pairWord (by omega)]
    dsimp only
    rw [Nat.mod_eq_of_lt hc]
    simp only [Option.some.injEq, Prod.mk.injEq, and_true]
    omega
  rw [List.filter_cons_of_pos (by simpa using heven), List.filter_cons_of_neg (by simp; omega), List.filter_nil,
    List.filterMap_cons_some hrec, List.filterMap_nil] at ha
  rw [hwith]
  exact ha

theorem eflWord_withRecord (type c : Nat) (b : Nat) (s : State) {w : Nat} (h0 : w ≠ journalNext s) (h1 : w ≠ journalNext s + 1) :
    eflWord w (withRecord type b c s) = eflWord w s := (eflWord_other _ _ h1).trans (eflWord_other _ _ h0)

/-- A journal with room for two records makes none. -/
theorem journal_of_room {type b c : Nat} (h : journalFull (journalHalf s) s = false) :
    journal type b c s = putRecord (journalHalf s) type b c s := by
  have hroom : journalRoom s = s := by
    unfold journalRoom
    dsimp only
    rw [if_pos (by rw [h]; rfl)]
  rw [journal, hroom]

theorem JournalTakes.notFull (h : JournalTakes s) : journalFull (journalHalf s) s = false := by
  have := h.room
  exact decide_eq_false (by omega)

theorem journal_eq (h : JournalTakes s) (type b c : Nat) : journal type b c s = withRecord type b c s :=
  (journal_of_room h.notFull).trans (putRecord_eq h type b c)

end Journal

end Sys2Proof.Machine

/-! PROOFS. Operations of the embedded flash: programs and erases begun and completed, firmware submitted, writes that waited (R471 to
R478, R484 to R487, R405 and R406). -/

namespace Sys2Proof.Machine

section Begun
variable {s t u : State} {m : Master} {w r b n : Nat} {row : Bool}

/-! ### EFL_PROGRAM and EFL_ERASE (R471, R478) -/

theorem refusal_withOp (n : Nat) (m : Master) (row : Bool) (w : Nat) (e : Bool) (d : Nat) (s : State) :
    refusal m row w e d (withOp n s) = refusal m row w e d s := rfl

theorem eflProgram_starts (hk : s.pwr.keeper = true) (ht : eflTarget s = (w, false)) (hr : refusal m false w false s.efl.data s = 0) :
    exec (.eflProgram m) s = .next { s with efl := { s.efl with
      ctlOp := 1, result := 0, block := w / 1024, op := some (.program w s.efl.data) } } := by
  have ht' : eflTarget (withOp 1 s) = (w, false) := ht
  have hr' : refusal m false w false (withOp 1 s).efl.data (withOp 1 s) = 0 := hr
  change execEflProgram m s = _
  unfold execEflProgram eflProgramOp
  rw [if_neg (by simp [hk])]
  dsimp only
  rw [ht']
  dsimp only
  rw [if_pos hr']
  rfl

theorem eflProgram_refused (hk : s.pwr.keeper = true) (ht : eflTarget s = (w, row)) (hr : refusal m row w false s.efl.data s = r)
    (hne : r ≠ 0) : exec (.eflProgram m) s = .next { s with efl := { s.efl with ctlOp := 1, result := r, block := w / 1024 } } := by
  have ht' : eflTarget (withOp 1 s) = (w, row) := ht
  have hr' : refusal m row w false (withOp 1 s).efl.data (withOp 1 s) = r := hr
  change execEflProgram m s = _
  unfold execEflProgram eflProgramOp
  rw [if_neg (by simp [hk])]
  dsimp only
  rw [ht']
  dsimp only
  rw [hr', if_neg hne]
  rfl

theorem exec_eflErase (hk : s.pwr.keeper = true) (ht : eflTarget s = (w, row)) (hr : refusal m row w true 0 s = r) :
    exec (.eflErase m) s = .next (if r = 0 then startErase (w / 1024) 1 (withOp 2 s) else eflResult r (w / 1024) (withOp 2 s)) := by
  have ht' : eflTarget (withOp 2 s) = (w, row) := ht
  have hr' : refusal m row w true 0 (withOp 2 s) = r := hr
  change execEflErase m s = _
  unfold execEflErase eflEraseOp
  rw [if_neg (by simp [hk])]
  dsimp only
  rw [ht']
  dsimp only
  rw [hr']
  rfl

/-- A record changes the words of embedded flash, and EFL_STATUS where it is refused. -/
structure WordsOnly (s t : State) : Prop where
  changed : ∃ ws r b, t = { s with efl := { s.efl with words := ws, result := r, block := b } }

theorem WordsOnly.refl (s : State) : WordsOnly s s := ⟨_, _, _, rfl⟩

theorem WordsOnly.trans (h : WordsOnly s t) (k : WordsOnly t u) : WordsOnly s u := by
  obtain ⟨_, _, _, rfl⟩ := h.changed
  obtain ⟨_, _, _, rfl⟩ := k.changed
  exact ⟨_, _, _, rfl⟩

theorem programWord_wordsOnly (w d : Nat) (s : State) : WordsOnly s (programWord w d s) := by
  unfold programWord
  dsimp only
  split
  · exact ⟨_, _, _, rfl⟩
  · exact ⟨_, _, _, rfl⟩

theorem putRecord_wordsOnly (half type b c : Nat) (s : State) : WordsOnly s (putRecord half type b c s) := by
  unfold putRecord
  exact (programWord_wordsOnly ..).trans (programWord_wordsOnly ..)

theorem journal_wordsOnly {type c : Nat} (h : journalFull (journalHalf s) s = false) : WordsOnly s (journal type b c s) := by
  rw [journal_of_room h]
  exact putRecord_wordsOnly ..

/-- Only the embedded flash differs. -/
def EflOnly (s t : State) : Prop := t = { s with efl := t.efl }

theorem startErase_begins (b n : Nat) (s : State) : (startErase b n s).efl.op = some (.erase b n) ∧
    (startErase b n s).efl.suspended = false ∧ (startErase b n s).efl.result = 0 := ⟨rfl, rfl, rfl⟩

theorem startErase_eflOnly (h : journalFull (journalHalf s) s = false) (b n : Nat) : EflOnly s (startErase b n s) := by
  obtain ⟨ws, r, k, hj⟩ := (journal_wordsOnly (b := b) (type := 0x49) (c := eraseCount b s) h).changed
  unfold startErase EflOnly
  dsimp only
  rw [hj]

theorem eflErase_starts (hk : s.pwr.keeper = true) (ht : eflTarget s = (w, false)) (hr : refusal m false w true 0 s = 0) :
    ∃ t, exec (.eflErase m) s = .next t ∧ t.efl.op = some (.erase (w / 1024) 1) ∧ t.efl.suspended = false ∧
      t.efl.result = 0 ∧ (journalFull (journalHalf s) s = false → t = { s with efl := t.efl }) := by
  obtain ⟨h1, h2, h3⟩ := startErase_begins (w / 1024) 1 (withOp 2 s)
  refine ⟨_, (exec_eflErase hk ht hr).trans (by rw [if_pos rfl]), h1, h2, h3, fun hf => ?_⟩
  exact startErase_eflOnly (s := withOp 2 s) hf _ _

/-! ### EFL_SUSPEND, EFL_RESUME and WP_LOCK (R473, R477, R504) -/

theorem eflSuspend_suspends (hk : s.pwr.keeper = true) (ho : s.efl.op = some (.erase b n)) (hs : s.efl.suspended = false) :
    exec (.eflSuspend .steward) s = .next { s with efl := { s.efl with ctlOp := 3, suspended := true, byWindow := false } } := by
  change execEflSuspend .steward s = _
  unfold execEflSuspend eflSuspendOp suspendErase
  rw [if_neg (by simp [hk]), if_pos rfl, show (withOp 3 s).efl.op = some (.erase b n) from ho]
  dsimp only
  rw [if_neg (by rw [show (withOp 3 s).efl.suspended = false from hs]; decide)]
  rfl

theorem exec_eflResume (hk : s.pwr.keeper = true) : exec (.eflResume .steward) s =
    .next (if s.efl.suspended && eflOpen s && (!s.efl.byWindow || tempReturned s)
      then { s with efl := { s.efl with ctlOp := 4, suspended := false, byWindow := false } }
      else { s with efl := { s.efl with ctlOp := 4 } }) := by
  change execEflResume .steward s = _
  unfold execEflResume eflResumeOp
  rw [if_neg (by simp [hk]), if_pos rfl]
  rfl

theorem eflResume_resumes (hk : s.pwr.keeper = true) (hs : s.efl.suspended = true) (ho : eflOpen s = true)
    (hw : s.efl.byWindow = true → tempReturned s = true) : exec (.eflResume .steward) s =
    .next { s with efl := { s.efl with ctlOp := 4, suspended := false, byWindow := false } } := by
  have hret : (!s.efl.byWindow || tempReturned s) = true := by
    cases hb : s.efl.byWindow with
    | false => rfl
    | true => rw [hw hb]; rfl
  rw [exec_eflResume hk, if_pos (by rw [hs, ho, hret]; rfl)]

theorem eflResume_waits (hk : s.pwr.keeper = true) (h : eflOpen s = false ∨ (s.efl.byWindow = true ∧ tempReturned s = false)) :
    exec (.eflResume .steward) s = .next { s with efl := { s.efl with ctlOp := 4 } } := by
  rw [exec_eflResume hk, if_neg]
  rcases h with h | ⟨h1, h2⟩
  · simp [h]
  · simp [h1, h2]

theorem eflControl_denied (hk : s.pwr.keeper = true) : (exec (.eflSuspend .smbus) s = .next (denied .smbus s) ∧
      exec (.eflResume .smbus) s = .next (denied .smbus s) ∧ exec (.wpLock .smbus) s = .next (denied .smbus s)) ∧
    exec (.eflSuspend .host) s = .next s ∧ exec (.eflResume .host) s = .next s ∧ exec (.wpLock .host) s = .next s := by
  have hsus (m : Master) : exec (.eflSuspend m) s = .next (eflSuspendOp m s) := rfl
  have hres (m : Master) : exec (.eflResume m) s = .next (eflResumeOp m s) := rfl
  have hlock (m : Master) : exec (.wpLock m) s = .next (lockWp m s) := rfl
  simp [hsus, hres, hlock, eflSuspendOp, eflResumeOp, lockWp, hk, denied]

theorem wpLock_locks (hk : s.pwr.keeper = true) :
    exec (.wpLock .steward) s = .next { s with efl := { s.efl with wpLock := true } } := by
  change execWpLock .steward s = _
  unfold execWpLock lockWp
  rw [if_neg (by simp [hk]), if_pos rfl]

/-! ### FW_ERASE (R484) -/

/-- The steward's list of erases and what follows it stand. -/
def KeepsJobs (s t : State) : Prop := t.efl.jobs = s.efl.jobs ∧ t.efl.after = s.efl.after

theorem KeepsJobs.trans (h : KeepsJobs s t) (k : KeepsJobs t u) : KeepsJobs s u := ⟨k.1.trans h.1, k.2.trans h.2⟩

theorem KeepsJobs.foldl {α : Type} {f : State → α → State} (h : ∀ s a, KeepsJobs s (f s a)) (l : List α) (s : State) :
    KeepsJobs s (l.foldl f s) := by
  induction l generalizing s with
  | nil => exact ⟨rfl, rfl⟩
  | cons a l ih => exact (h s a).trans (ih _)

theorem WordsOnly.keepsJobs (h : WordsOnly s t) : KeepsJobs s t := by
  obtain ⟨_, _, _, rfl⟩ := h.changed
  exact ⟨rfl, rfl⟩

theorem pcFault_efl (n d : Nat) (s : State) : (pcFault n d s).efl = s.efl := (pcFault_changes n d (m' := 0xce3defff) (by rfl) (.refl _ s)).efl rfl

theorem wearOut_efl (b : Nat) (s : State) : (wearOut b s).efl = { s.efl with worn := addTo b s.efl.worn } := pcFault_efl ..

theorem wipeBlock_keepsJobs (b : Nat) (s : State) : KeepsJobs s (wipeBlock b s) := by
  have hlose : KeepsJobs s (loseDatum b s) := by
    unfold loseDatum
    split <;> exact ⟨rfl, rfl⟩
  have hwipe (v : State) : KeepsJobs v { v with efl := { v.efl with
      words := v.efl.words.filter (fun e => blockOfWord e.1 ≠ b), factoryBlocks := dropFrom b v.efl.factoryBlocks,
      undetermined := dropFrom b v.efl.undetermined, incomplete := dropFrom b v.efl.incomplete } } := ⟨rfl, rfl⟩
  unfold wipeBlock
  exact hlose.trans (hwipe _)

theorem eraseTries_keepsJobs (half b n : Nat) (s : State) : KeepsJobs s (eraseTries half b n s) := by
  induction n generalizing s with
  | zero =>
    unfold eraseTries KeepsJobs
    rw [wearOut_efl]
    exact ⟨rfl, rfl⟩
  | succ n ih =>
    have hput (type c : Nat) (v : State) : KeepsJobs v (putRecord half type b c v) := (putRecord_wordsOnly ..).keepsJobs
    have hfree (v : State) : KeepsJobs v (nextFree v) := ⟨rfl, rfl⟩
    have hund (v : State) : KeepsJobs v { v with efl := { v.efl with undetermined := addTo b v.efl.undetermined } } := ⟨rfl, rfl⟩
    unfold eraseTries
    extract_lets c v bad w
    have hv : KeepsJobs s v := (hput ..).trans (wipeBlock_keepsJobs ..)
    have hw : KeepsJobs v w := (hput ..).trans (hfree _)
    split
    · exact (hv.trans hw).trans ((hund w).trans (ih _))
    · exact hv.trans hw

theorem journalRoom_keepsJobs (s : State) : KeepsJobs s (journalRoom s) := by
  have herase (half : Nat) (v : State) (b : Nat) : KeepsJobs v (eraseIn half v b) := by
    unfold eraseIn
    split
    · exact ⟨rfl, rfl⟩
    · exact eraseTries_keepsJobs ..
  unfold journalRoom
  dsimp only
  split
  · exact ⟨rfl, rfl⟩
  · exact (KeepsJobs.foldl (fun _ _ => (putRecord_wordsOnly ..).keepsJobs) _ s).trans (.foldl (fun _ _ => herase ..) _ _)

theorem journal_keepsJobs (type b c : Nat) (s : State) : KeepsJobs s (journal type b c s) := by
  unfold journal
  exact (journalRoom_keepsJobs s).trans (putRecord_wordsOnly ..).keepsJobs

theorem startErase_jobs (b n : Nat) (s : State) : (startErase b n s).efl.jobs = s.efl.jobs := by
  have hj := journal_keepsJobs 0x49 b (eraseCount b s) s
  unfold startErase
  dsimp only
  rw [hj.1]

theorem not_blockWorn_of_refusal (h : refusal m false (b * 1024) true 0 s = 0) : blockWorn b s = false := by
  have hb : blockOfWord (b * 1024) = b := Nat.mul_div_cancel b (by decide)
  unfold refusal at h
  rw [hb] at h
  cases hw : blockWorn b s with
  | false => rfl
  | true =>
    rw [hw] at h
    simp only [Bool.false_eq_true, if_false, if_true] at h
    split_ifs at h

theorem fwErase_starts (hk : s.pwr.keeper = true) (hr : ∀ i < 32, refusal m false ((32 * inactiveSlot s + i) * 1024) true 0 s = 0) :
    ∃ t, exec (.fwErase m) s = .next t ∧ t.efl.op = some (.erase (32 * inactiveSlot s) 1) ∧ t.efl.jobs.length = 31 ∧
      (journalFull (journalHalf s) s = false → t = { s with efl := t.efl }) := by
  have hnone : ((List.range 32).map (32 * inactiveSlot s + ·)).find? (fun b => refusal m false (b * 1024) true 0 (withOp 5 s) ≠ 0) = none := by
    refine List.find?_eq_none.2 fun b hb => ?_
    obtain ⟨i, hi, rfl⟩ := List.mem_map.1 hb
    rw [refusal_withOp, hr i (List.mem_range.1 hi)]
    decide
  have hlist : (List.range 32).map (32 * inactiveSlot s + ·) =
      32 * inactiveSlot s :: (List.range' 1 31).map (32 * inactiveSlot s + ·) := rfl
  have hworn : blockWorn (32 * inactiveSlot s) s = false := not_blockWorn_of_refusal (hr 0 (by decide))
  let v : State := { s with efl := { s.efl with ctlOp := 5, jobs := (List.range' 1 31).map (32 * inactiveSlot s + ·), after := .boot } }
  have hexec : exec (.fwErase m) s = .next (startErase (32 * inactiveSlot s) 1 v) := by
    change execFwErase m s = _
    unfold execFwErase fwEraseOp
    rw [if_neg (by simp [hk])]
    dsimp only
    rw [show inactiveSlot (withOp 5 s) = inactiveSlot s from rfl, hnone]
    dsimp only
    rw [hlist, startJobs, nextJob]
    dsimp only
    rw [nextFrom, if_pos]
    · rfl
    · exact congrArg (!·) hworn
  refine ⟨_, hexec, (startErase_begins ..).1, ?_, fun hf => startErase_eflOnly (s := v) hf _ _⟩
  rw [startErase_jobs]
  rfl

theorem fwErase_refused (hk : s.pwr.keeper = true) (hr : refusal m false (32 * inactiveSlot s * 1024) true 0 s = r) (hne : r ≠ 0) :
    exec (.fwErase m) s = .next { s with efl := { s.efl with ctlOp := 5, result := r, block := 32 * inactiveSlot s } } := by
  have hlist : (List.range 32).map (32 * inactiveSlot s + ·) =
      32 * inactiveSlot s :: (List.range' 1 31).map (32 * inactiveSlot s + ·) := rfl
  have hr' : refusal m false (32 * inactiveSlot s * 1024) true 0 (withOp 5 s) = r := hr
  change execFwErase m s = _
  unfold execFwErase fwEraseOp
  rw [if_neg (by simp [hk])]
  dsimp only
  rw [show inactiveSlot (withOp 5 s) = inactiveSlot s from rfl, hlist, List.find?_cons_of_pos (by simp [hr', hne])]
  dsimp only
  rw [hr']
  rfl

end Begun

end Sys2Proof.Machine

/-! PROOFS. Firmware submitted (R480, R483, R484). -/

namespace Sys2Proof.Machine

section Submitted
variable {s t u : State} {m : Master} {w x h i n q v : Nat}

/-! ### Words programmed beside the journal -/

theorem storeWord_sameJournal (hw : sectorOfWord w ≠ 34 ∧ sectorOfWord w ≠ 35) (x : EflWord) (s : State) : SameJournal s (storeWord w x s) := by
  refine ⟨fun half hh => journalWords_storeWord_other (by omega) x s, fun y hy => eflWord_other x s ?_⟩
  rintro rfl
  omega

theorem Programmable.store (h : Programmable x s) (hw : sectorOfWord w ≠ 34 ∧ sectorOfWord w ≠ 35) (hne : x ≠ w) (y : EflWord) :
    Programmable x (storeWord w y s) := by
  obtain ⟨he, hc, hf⟩ := h
  refine ⟨by rw [eflWord_other y s hne, he], hc, ?_⟩
  rw [(storeWord_sameJournal hw y s).blockWorn_eq rfl, hf]

theorem pairWord_ne_erased (v : Nat) : pairWord v ≠ erasedData := by
  unfold pairWord erasedData
  omega

/-- The words of a boot entry lie beside the journal. -/
theorem sector_bootEntry (hh : h < 2) (hi : i < 256) {j : Nat} (hj : j < 4) :
    sectorOfWord (entryBase 1 h i + j) ≠ 34 ∧ sectorOfWord (entryBase 1 h i + j) ≠ 35 ∧
      blockOfWord (entryBase 1 h i + j) = recordBlock 1 h := by
  have he : entryBase 1 h i = (64 + h) * 1024 + i * 4 := rfl
  have hb : recordBlock 1 h = 64 + h := rfl
  rw [he, hb]
  unfold sectorOfWord blockOfWord
  omega

/-! ### A boot entry committed (R480) -/

/-- An entry that takes its words: erased, in a block that reads and is not worn. -/
structure EntryTakes (h i : Nat) (s : State) : Prop where
  half : h < 2
  place : i < 256
  words : ∀ j < 4, Programmable (entryBase 1 h i + j) s

/-- A boot entry as it is written, with its third word left erased. -/
def withEntry (h i a b c : Nat) (s : State) : State :=
  storeWord (entryBase 1 h i + 3) { data := c, programs := 1 } (storeWord (entryBase 1 h i + 1) { data := b, programs := 1 }
    (storeWord (entryBase 1 h i) { data := a, programs := 1 } s))

theorem writeEntry_four {a b c : Nat} (ha : a ≠ erasedData) (hb : b ≠ erasedData) (hc : c ≠ erasedData) :
    writeEntry 1 h i [a, b, erasedData, c] s =
      programWord (entryBase 1 h i + 3) c (programWord (entryBase 1 h i + 1) b (programWord (entryBase 1 h i) a s)) := by
  unfold writeEntry
  generalize entryBase 1 h i = base
  simp [ha, hb, hc]

theorem writeEntry_eq (ht : EntryTakes h i s) (a b c : Nat) :
    writeEntry 1 h i [pairWord a, pairWord b, erasedData, pairWord c] s = withEntry h i (pairWord a) (pairWord b) (pairWord c) s := by
  obtain ⟨hh, hi, hp⟩ := ht
  have hs (j : Nat) (hj : j < 4) : sectorOfWord (entryBase 1 h i + j) ≠ 34 ∧ sectorOfWord (entryBase 1 h i + j) ≠ 35 :=
    ⟨(sector_bootEntry hh hi hj).1, (sector_bootEntry hh hi hj).2.1⟩
  have h0 : Programmable (entryBase 1 h i) s := by simpa using hp 0 (by decide)
  have hs0 : sectorOfWord (entryBase 1 h i) ≠ 34 ∧ sectorOfWord (entryBase 1 h i) ≠ 35 := by simpa using hs 0 (by decide)
  have h1 := (hp 1 (by decide)).store hs0 (by omega) { data := pairWord a, programs := 1 }
  have h3 := ((hp 3 (by decide)).store hs0 (by omega) { data := pairWord a, programs := 1 }).store (hs 1 (by decide))
    (by omega) { data := pairWord b, programs := 1 }
  rw [writeEntry_four (pairWord_ne_erased a) (pairWord_ne_erased b) (pairWord_ne_erased c), programWord_of_programmable _ h0,
    programWord_of_programmable _ h1, programWord_of_programmable _ h3, withEntry]

/-- A boot entry noted as on trial is read as it was. -/
theorem entryAt_noted (k h i n q : Nat) (s : State) :
    entryAt k h i { s with efl := { s.efl with trialFails := n, bootSeq := q } } = entryAt k h i s := rfl

theorem entryAt_withEntry (a b c : Nat) (hf : recordWord (eflWord (entryBase 1 h i + 2) s) = erasedData) :
    entryAt 1 h i (withEntry h i a b c s) = [a, b, erasedData, c] := by
  have hr : List.range (entryWords 1) = [0, 1, 2, 3] := rfl
  rw [entryAt, hr]
  simp [withEntry, eflWord_storeWord, hf, recordWord_stored]

/-- A SEQ that is exhausted takes no entry. -/
theorem commitEntry_exhausted (hq : seqLeft 1 s = false) (l : List Nat) : commitEntry 1 l s = s := by
  unfold seqLeft newestSeq at hq
  unfold commitEntry
  cases hn : newestEntry 1 s with
  | none => rw [hn] at hq; cases hq
  | some e =>
    rw [hn] at hq
    have hle : ¬ e.1 < 0xFFFFFF := of_decide_eq_false hq
    dsimp only
    rw [if_pos (by omega)]

theorem find_from {p : Nat → Bool} {k n : Nat} (hk : k < n) (hp : p k = true) :
    ((List.range n).filter (fun i => decide (k ≤ i))).find? p = some k := by
  rw [List.find?_filter, List.find?_range_eq_some]
  exact ⟨by simp [hp], List.mem_range.2 hk, fun j hj => by simp; omega⟩

theorem commitEntry_next (hn : newestEntry 1 s = some (q, h, i)) (hq : q < 0xFFFFFF) (hf : entryFree 1 h (i + 1) s = true)
    (ht : EntryTakes h (i + 1) s) (a b : Nat) : commitEntry 1 [pairWord a, pairWord b] s =
      withEntry h (i + 1) (pairWord a) (pairWord b) (pairWord (0xC1000000 + q + 1)) s := by
  have hseq : 0xC * 2 ^ 28 + 1 * 2 ^ 24 + (q + 1) = 0xC1000000 + q + 1 := by omega
  unfold commitEntry
  rw [hn]
  dsimp only
  rw [if_neg (by omega), find_from (p := fun j => entryFree 1 h j s) (show i + 1 < entriesPer 1 from ht.place) hf, hseq]
  exact writeEntry_eq ht a b _

/-! ### FW_SUBMIT (R483, R484) -/

/-- The state in which FW_SUBMIT judges the image: the steward has read the inactive slot (R470). -/
def imageRead (s : State) : State := stewardReads (fun b => b / 32 = inactiveSlot s) (withOp 6 s)

/-- The image of slot `n` judged: one that passes gets a boot entry on trial. -/
def submitImage (n : Nat) (s : State) : State :=
  match imageOf n s with
  | none => s
  | some v =>
    let t := commitEntry 1 [pairWord n, pairWord v] s
    if committed 1 s t then { t with efl := { t.efl with trialFails := 0, bootSeq := (newestSeq 1 t).getD 0 } } else t

theorem exec_fwSubmit (hk : s.pwr.keeper = true) : exec (.fwSubmit m) s = .next (
    if m = .host then { s with efl := { s.efl with ctlOp := 6, result := 7 } }
    else if s.efl.op.isSome then { s with efl := { s.efl with ctlOp := 6, result := 5 } }
    else if !eflOpen s || s.flt.stewardHalted then { s with efl := { s.efl with ctlOp := 6, result := 2 } }
    else submitImage (inactiveSlot s) (imageRead s)) := by
  change execFwSubmit m s = _
  unfold execFwSubmit fwSubmitOp
  rw [if_neg (by simp [hk])]
  rfl

theorem fwSubmit_submits (hk : s.pwr.keeper = true) (hm : m ≠ .host) (ho : s.efl.op = none) (hw : eflOpen s = true)
    (hh : s.flt.stewardHalted = false) : exec (.fwSubmit m) s = .next (submitImage (inactiveSlot s) (imageRead s)) := by
  rw [exec_fwSubmit hk, if_neg hm, if_neg (by simp [ho]), if_neg (by simp [hw, hh])]

theorem fwSubmit_refused (hk : s.pwr.keeper = true) (m : Master) :
    exec (.fwSubmit .host) s = .next { s with efl := { s.efl with ctlOp := 6, result := 7 } } ∧
    (m ≠ .host → s.efl.op ≠ none → exec (.fwSubmit m) s = .next { s with efl := { s.efl with ctlOp := 6, result := 5 } }) ∧
    (m ≠ .host → s.efl.op = none → eflOpen s = false ∨ s.flt.stewardHalted = true →
      exec (.fwSubmit m) s = .next { s with efl := { s.efl with ctlOp := 6, result := 2 } }) := by
  refine ⟨by rw [exec_fwSubmit hk, if_pos rfl], fun hm ho => ?_, fun hm ho hc => ?_⟩
  · rw [exec_fwSubmit hk, if_neg hm, if_pos (Option.isSome_iff_ne_none.2 ho)]
  · rw [exec_fwSubmit hk, if_neg hm, if_neg (by simp [ho]), if_pos]
    rcases hc with hc | hc <;> simp [hc]

theorem submitImage_none (hi : imageOf n s = none) : submitImage n s = s := by
  rw [submitImage, hi]

theorem submitImage_exhausted (hi : imageOf n s = some v) (hq : seqLeft 1 s = false) : submitImage n s = s := by
  rw [submitImage, hi]
  dsimp only
  rw [commitEntry_exhausted hq, if_neg (by simp [committed])]

theorem submitImage_commits (hv : imageOf n s = some v) (hn : newestEntry 1 s = some (q, h, i)) (hq : q < 0xFFFFFF) (hi : i + 1 < 256)
    (hf : entryFree 1 h (i + 1) s = true) (hp : ∀ j < 4, (eflWord (entryBase 1 h (i + 1) + j) s).programs = 0)
    (hworn : blockWorn (recordBlock 1 h) s = false) (hhalf : h < 2) :
    EflOnly s (submitImage n s) ∧
      entryAt 1 h (i + 1) (submitImage n s) = [pairWord n, pairWord v, erasedData, pairWord (0xC1000000 + q + 1)] := by
  have hf' := hf
  unfold entryFree at hf'
  rw [Bool.and_eq_true, List.all_eq_true] at hf'
  obtain ⟨hreads, herased⟩ := hf'
  have h2 : recordWord (eflWord (entryBase 1 h (i + 1) + 2) s) = erasedData := by
    have h2 := herased 2 (by decide)
    simp only [Bool.and_eq_true, decide_eq_true_eq] at h2
    exact h2.1
  have htakes : EntryTakes h (i + 1) s := by
    refine ⟨hhalf, hi, fun j hj => ?_⟩
    have hb := (sector_bootEntry hhalf hi hj).2.2
    exact ⟨hp j hj, by rw [hb]; exact not_incomplete_of_blockReads hreads, by rw [hb]; exact hworn⟩
  have hentry := entryAt_withEntry (pairWord n) (pairWord v) (pairWord (0xC1000000 + q + 1)) h2
  rw [submitImage, hv]
  dsimp only
  rw [commitEntry_next hn hq hf htakes]
  split
  · exact ⟨rfl, (entryAt_noted ..).trans hentry⟩
  · exact ⟨rfl, hentry⟩

end Submitted

end Sys2Proof.Machine

/-! PROOFS. Operations of the embedded flash completed, and the writes that waited for the window (R405, R406, R471 to R475, R484 to
R486). -/

namespace Sys2Proof.Machine

section Done
variable {s t u : State} {w d b n r x : Nat}

/-! ### A program done (R471) -/

theorem exec_programDone (c : Bool) (h : s.efl.op = some (.program w d)) :
    exec (.eflOperationDone c) s = .next (completeProgram w d s) := by
  change execEflOperationDone c s = _
  unfold execEflOperationDone
  rw [h]

theorem programDone_stores (c : Bool) (h : s.efl.op = some (.program w d)) (hp : programStatus w d s = 0) :
    ∃ t, exec (.eflOperationDone c) s = .next t ∧ t.efl.op = none ∧ eflWord w t = { data := d, programs := (eflWord w s).programs + 1 } ∧
      t = { s with efl := { s.efl with op := none, result := 0, words := t.efl.words } } := by
  have hp' : programStatus w d { s with efl := { s.efl with op := none, result := 0 } } = 0 := hp
  have hc : completeProgram w d s = storeWord w { data := d, programs := (eflWord w s).programs + 1 }
      { s with efl := { s.efl with op := none, result := 0 } } := by
    unfold completeProgram programWord
    dsimp only
    rw [if_pos hp']
    rfl
  refine ⟨_, (exec_programDone c h).trans (by rw [hc]), rfl, ?_, rfl⟩
  rw [eflWord_storeWord, if_pos rfl]

theorem programDone_refused (c : Bool) (h : s.efl.op = some (.program w d)) (hp : programStatus w d s = r) (hne : r ≠ 0) :
    exec (.eflOperationDone c) s = .next { s with efl := { s.efl with op := none, result := r, block := w / 1024 } } := by
  have hp' : programStatus w d { s with efl := { s.efl with op := none, result := 0 } } = r := hp
  rw [exec_programDone c h]
  unfold completeProgram programWord
  dsimp only
  rw [hp', if_neg hne]
  rfl

/-! ### A block erased (R468, R486) -/

theorem tfind_none_of_lt {α : Type} {l : Table α} {j k : Nat} (h : keysUp (some j) l = true) (hk : k < j) : tfind l k = none := by
  refine Option.eq_none_iff_forall_ne_some.2 fun v hv => ?_
  exact absurd (lt_of_keysUp h _ (mem_of_tfind hv)) (by dsimp only; omega)

theorem tfind_filter_of_pos {α : Type} {p : Nat × α → Bool} {k : Nat} (h : ∀ v, p (k, v) = true) {l : Table α}
    (hl : keysUp none l = true) : tfind (l.filter p) k = tfind l k := by
  induction l with
  | nil => rfl
  | cons e l ih =>
    obtain ⟨j, v⟩ := e
    have hup : keysUp (some j) l = true := hl
    have hrest := ih (keysUp_weaken l j none (by simp) hup)
    by_cases hj : k = j
    · subst hj
      rw [List.filter_cons_of_pos (h v), tfind, tfind, if_pos rfl, if_pos rfl]
    · rw [List.filter_cons]
      split
      · rw [tfind, tfind, hrest]
      · rw [hrest, tfind, if_neg hj]
        split
        next hlt => exact tfind_none_of_lt hup hlt
        · rfl

theorem tfind_filter_of_neg {α : Type} {p : Nat × α → Bool} {k : Nat} (h : ∀ v, p (k, v) = false) (l : Table α) :
    tfind (l.filter p) k = none := by
  refine Option.eq_none_iff_forall_ne_some.2 fun v hv => ?_
  have := (List.mem_filter.1 (mem_of_tfind hv)).2
  rw [h v] at this
  cases this

/-- What a block's erase takes with it is the datum beside its words. -/
theorem loseDatum_fields (b : Nat) (s : State) : ∃ m g e c, loseDatum b s =
    { s with mbx := m, efl := { s.efl with gauge := g, dirty := e, scale := c } } ∧ (b ≠ 304 → b ≠ 328 → m = s.mbx) := by
  unfold loseDatum
  split
  · exact ⟨_, _, _, _, rfl, fun _ _ => rfl⟩
  · exact ⟨_, _, _, _, rfl, fun h _ => absurd rfl h⟩
  · exact ⟨_, _, _, _, rfl, fun _ _ => rfl⟩
  · exact ⟨_, _, _, _, rfl, fun _ _ => rfl⟩
  · exact ⟨_, _, _, _, rfl, fun _ h => absurd rfl h⟩
  · exact ⟨_, _, _, _, rfl, fun _ _ => rfl⟩

/-- Block `b` has been erased: its words are gone, and of the rest only what stood beside them. -/
structure Wiped (b : Nat) (s t : State) : Prop where
  only : ∃ e m, t = { s with efl := e, mbx := m }
  mbx : b ≠ 304 → b ≠ 328 → t.mbx = s.mbx
  words : t.efl.words = s.efl.words.filter (fun e => blockOfWord e.1 ≠ b)
  factory : t.efl.factoryBlocks = dropFrom b s.efl.factoryBlocks
  incomplete : t.efl.incomplete = dropFrom b s.efl.incomplete
  worn : t.efl.worn = s.efl.worn
  op : t.efl.op = s.efl.op
  jobs : t.efl.jobs = s.efl.jobs
  after : t.efl.after = s.efl.after

theorem wipeBlock_wiped (b : Nat) (s : State) : Wiped b s (wipeBlock b s) := by
  obtain ⟨m, g, e, c, hl, hm⟩ := loseDatum_fields b s
  unfold wipeBlock
  rw [hl]
  exact ⟨⟨_, _, rfl⟩, hm, rfl, rfl, rfl, rfl, rfl, rfl, rfl⟩

theorem not_mem_dropFrom {l : List Nat} : b ∉ dropFrom b l := by simp [dropFrom]

theorem contains_dropFrom {l : List Nat} {k : Nat} (h : k ≠ b) : (dropFrom b l).contains k = l.contains k := by
  rw [List.contains_eq_mem, List.contains_eq_mem, decide_eq_decide]
  simp [dropFrom, h]

theorem Wiped.eflWord_other (h : Wiped b s t) (hup : keysUp none s.efl.words = true) (hx : blockOfWord x ≠ b) : eflWord x t = eflWord x s := by
  unfold eflWord
  rw [h.words, h.factory, tfind_filter_of_pos (fun _ => decide_eq_true hx) hup, contains_dropFrom hx]

theorem Wiped.eflWord_same (h : Wiped b s t) (hx : blockOfWord x = b) : eflWord x t = {} := by
  have hf : (dropFrom b s.efl.factoryBlocks).contains (blockOfWord x) = false := by
    rw [List.contains_eq_mem, hx, decide_eq_false not_mem_dropFrom]
  unfold eflWord
  rw [h.words, h.factory, tfind_filter_of_neg (fun _ => decide_eq_false (not_not.2 hx)), hf]
  rfl

/-- The blocks of the journal are not those that it counts. -/
theorem Wiped.sameJournal (h : Wiped b s t) (hup : keysUp none s.efl.words = true) (hb : b < 272 ∨ 288 ≤ b) : SameJournal s t := by
  refine ⟨fun half hh => ?_, fun y hy => h.eflWord_other hup ?_⟩
  · rw [journalWords, h.words, List.filter_filter, journalWords]
    refine List.filter_congr fun e _ => ?_
    by_cases hs : sectorOfWord e.1 = 34 + half
    · have hne : blockOfWord e.1 ≠ b := by
        unfold sectorOfWord at hs
        unfold blockOfWord
        omega
      simp [hs, hne]
    · simp [hs]
  · unfold sectorOfWord at hy
    unfold blockOfWord
    omega

theorem JournalTakes.wiped (h : JournalTakes s) (hw : Wiped b s t) (hb : b < 272 ∨ 288 ≤ b) :
    JournalTakes t ∧ journalNext t = journalNext s := by
  have hj := hw.sameJournal h.up hb
  have hend : journalEnd (journalHalf t) t = journalEnd (journalHalf s) s := by
    rw [hj.journalHalf_eq, hj.journalEnd_eq (journalHalf_le_one s)]
  have hnext : journalNext t = journalNext s := by rw [journalNext, hend, hj.journalHalf_eq, ← journalNext]
  obtain ⟨hup, hroom, hfit, hc, hf⟩ := h
  refine ⟨⟨?_, by rw [hend]; exact hroom, ?_, ?_, fun y hy => ?_⟩, hnext⟩
  · rw [hw.words]
    exact keysUp_filter _ hup
  · rw [hnext, hj.blockWorn_eq hw.worn, hfit]
  · rw [hnext, hw.incomplete]
    exact fun hm => hc (List.mem_filter.1 hm).1
  · rw [hw.factory] at hy
    exact hf y (List.mem_filter.1 hy).1

/-- No further erase follows. -/
theorem nextJob_idle (hj : s.efl.jobs = []) (ha : s.efl.after = .nothing) : nextJob s = s := by
  have hs : { s with efl := { s.efl with jobs := [] } } = s :=
    calc { s with efl := { s.efl with jobs := [] } } = { s with efl := { s.efl with jobs := s.efl.jobs } } := by rw [hj]
      _ = s := rfl
  rw [nextJob, hj, nextFrom, hs, jobsOver, ha]

theorem exec_eraseDone (c : Bool) (h : s.efl.op = some (.erase b n)) (hs : s.efl.suspended = false) : exec (.eflOperationDone c) s = .next
    (if c then nextJob (journal 0x43 b (Nat.min (eraseCount b s + 1) maxErases)
      (wipeBlock b { s with efl := { s.efl with op := none, result := 0 } }))
    else eraseFailed b n (journal 0x43 b (Nat.min (eraseCount b s + 1) maxErases) { s with efl := { s.efl with op := none } })) := by
  change execEflOperationDone c s = _
  unfold execEflOperationDone
  rw [h]
  dsimp only
  rw [if_neg (by rw [hs]; decide)]
  exact (apply_ite Host.Outcome.next _ _ _).symm

/-- The journal's words are not those of the block that it counts. -/
theorem journalNext_beside (h : JournalTakes s) (hb : b < 272 ∨ 288 ≤ b) (hx : blockOfWord x = b) :
    x ≠ journalNext s ∧ x ≠ journalNext s + 1 := by
  obtain ⟨h0, h1⟩ := sector_journalNext h
  have := journalHalf_le_one s
  unfold sectorOfWord at h0 h1
  unfold blockOfWord at hx
  omega

theorem eraseDone_clears (ho : s.efl.op = some (.erase b n)) (hs : s.efl.suspended = false) (hj : s.efl.jobs = [])
    (ha : s.efl.after = .nothing) (h : JournalTakes s) (hb : b < 272 ∨ 288 ≤ b) (hb' : b < 512) (hc : eraseCount b s < maxErases) :
    ∃ t, exec (.eflOperationDone true) s = .next t ∧ t.efl.op = none ∧ eraseCount b t = eraseCount b s + 1 ∧
      (∀ w, blockOfWord w = b → eflWord w t = {}) ∧ (b ≠ 304 → b ≠ 328 → t.mbx = s.mbx) ∧
      t = { s with efl := t.efl, mbx := t.mbx } := by
  let v : State := { s with efl := { s.efl with op := none, result := 0 } }
  have hv : JournalTakes v := ⟨h.up, h.room, h.fit, h.complete, h.factory⟩
  obtain ⟨w, hw, hwipe⟩ : ∃ w, wipeBlock b v = w ∧ Wiped b v w := ⟨_, rfl, wipeBlock_wiped b v⟩
  obtain ⟨htakes, -⟩ := hv.wiped hwipe hb
  have hn : Nat.min (eraseCount b s + 1) maxErases = eraseCount b s + 1 := Nat.min_eq_left hc
  have happ := withRecord_appended htakes (type := 0x43) (b := b) (c := eraseCount b s + 1) (by decide) (by omega)
    (by unfold maxErases at hc; omega)
  obtain ⟨t, ht, hto⟩ : ∃ t, withRecord 0x43 b (eraseCount b s + 1) w = t ∧ WordsOnly w t := by
    refine ⟨_, rfl, ?_⟩
    rw [← journal_eq htakes]
    exact journal_wordsOnly htakes.notFull
  have hword (y : Nat) (hy : blockOfWord y = b) : eflWord y t = {} := by
    obtain ⟨h0, h1⟩ := journalNext_beside htakes hb hy
    rw [← ht, eflWord_withRecord _ _ _ _ h0 h1, hwipe.eflWord_same hy]
  rw [ht] at happ
  have hjob : nextJob t = t := by
    obtain ⟨kj, ka⟩ := hto.keepsJobs
    exact nextJob_idle (kj.trans (hwipe.jobs.trans hj)) (ka.trans (hwipe.after.trans ha))
  have hexec := exec_eraseDone true ho hs
  rw [if_pos rfl, hn, hw, journal_eq htakes, ht, hjob] at hexec
  refine ⟨t, hexec, ?_, happ.eraseCount_completion htakes.room, hword, ?_, ?_⟩
  · obtain ⟨_, _, _, rfl⟩ := hto.changed
    exact hwipe.op
  · obtain ⟨_, _, _, rfl⟩ := hto.changed
    exact hwipe.mbx
  · obtain ⟨_, _, hwv⟩ := hwipe.only
    obtain ⟨_, _, _, rfl⟩ := hto.changed
    subst hwv
    rfl

/-! ### An erase that failed (R475, R486) -/

theorem jobsFail_efl (s : State) : (jobsFail s).efl = { s.efl with jobs := [], after := .nothing, result := 4 } := rfl

/-- After the third attempt the block is worn. -/
theorem eraseFailed_wears (hj : s.efl.jobs = [] ∨ s.efl.after ≠ .nothing) : (eraseFailed b 3 s).efl.op = none ∧
    b ∈ (eraseFailed b 3 s).efl.worn ∧ b ∈ (eraseFailed b 3 s).efl.undetermined ∧ (eraseFailed b 3 s).efl.result = 4 := by
  obtain ⟨v, hv, hefl⟩ : ∃ v, wearOut b { s with efl := { s.efl with
      op := none, undetermined := addTo b s.efl.undetermined, result := 4 } } = v ∧ v.efl = { s.efl with
      op := none, undetermined := addTo b s.efl.undetermined, result := 4, worn := addTo b s.efl.worn } := ⟨_, rfl, wearOut_efl ..⟩
  have heq : eraseFailed b 3 s = if v.efl.after = .nothing then nextJob v else jobsFail v := by
    unfold eraseFailed
    dsimp only
    rw [if_neg (by simp), hv]
  have hw : b ∈ v.efl.worn ∧ b ∈ v.efl.undetermined := by
    rw [hefl]
    exact ⟨mem_addTo .., mem_addTo ..⟩
  have ho : v.efl.op = none ∧ v.efl.result = 4 := by
    rw [hefl]
    exact ⟨rfl, rfl⟩
  rw [heq]
  by_cases ha : v.efl.after = .nothing
  · have hjobs : v.efl.jobs = [] := by
      rw [hefl] at ha ⊢
      exact hj.resolve_right (not_not.2 ha)
    rw [if_pos ha, nextJob_idle hjobs ha]
    exact ⟨ho.1, hw.1, hw.2, ho.2⟩
  · rw [if_neg ha, jobsFail_efl]
    exact ⟨ho.1, hw.1, hw.2, rfl⟩

theorem eraseDone_wears (ho : s.efl.op = some (.erase b 3)) (hs : s.efl.suspended = false) (hj : s.efl.jobs = [] ∨ s.efl.after ≠ .nothing) :
    ∃ t, exec (.eflOperationDone false) s = .next t ∧ t.efl.op = none ∧ b ∈ t.efl.worn ∧ b ∈ t.efl.undetermined ∧ t.efl.result = 4 := by
  obtain ⟨kj, ka⟩ := journal_keepsJobs 0x43 b (Nat.min (eraseCount b s + 1) maxErases) { s with efl := { s.efl with op := none } }
  have hexec := exec_eraseDone false ho hs
  rw [if_neg Bool.false_ne_true] at hexec
  exact ⟨_, hexec, eraseFailed_wears (by rw [kj, ka]; exact hj)⟩

/-- An erase is tried again. -/
theorem eraseFailed_retries (hn : n < 3) (hw : blockWorn b s = false) : eraseFailed b n s = startErase b (n + 1)
    { s with efl := { s.efl with op := none, undetermined := addTo b s.efl.undetermined } } := by
  have hw' : blockWorn b { s with efl := { s.efl with op := none, undetermined := addTo b s.efl.undetermined } } = false := hw
  unfold eraseFailed
  dsimp only
  rw [if_pos (by rw [hw', decide_eq_true hn]; rfl)]

theorem eraseDone_retries (ho : s.efl.op = some (.erase b n)) (hs : s.efl.suspended = false) (hn : n < 3) (h : JournalTakes s)
    (hroom : journalEnd (journalHalf s) s + 4 ≤ 4096) (hb' : b < 512) (hc : eraseCount b s + 1 < 100000) (hw : b ∉ s.efl.worn) :
    ∃ t, exec (.eflOperationDone false) s = .next t ∧ t.efl.op = some (.erase b (n + 1)) ∧ b ∈ t.efl.undetermined ∧
      t = { s with efl := t.efl } := by
  let v : State := { s with efl := { s.efl with op := none } }
  have hv : JournalTakes v := ⟨h.up, h.room, h.fit, h.complete, h.factory⟩
  have hmin : Nat.min (eraseCount b s + 1) maxErases = eraseCount b s + 1 := Nat.min_eq_left (by unfold maxErases; omega)
  have happ := withRecord_appended hv (type := 0x43) (b := b) (c := eraseCount b s + 1) (by decide) (by omega) (by omega)
  obtain ⟨t, ht, hto⟩ : ∃ t, withRecord 0x43 b (eraseCount b s + 1) v = t ∧ WordsOnly v t := by
    refine ⟨_, rfl, ?_⟩
    rw [← journal_eq hv]
    exact journal_wordsOnly hv.notFull
  rw [ht] at happ
  have hworn : blockWorn b t = false := by
    have hcount := happ.eraseCount_completion hv.room
    obtain ⟨ws, r, k, hto⟩ := hto.changed
    have hlist : t.efl.worn = s.efl.worn := by rw [hto]
    rw [blockWorn, hcount, hlist, decide_eq_false (by omega), List.contains_eq_mem, decide_eq_false hw]
    rfl
  have hfull : journalFull (journalHalf t) t = false := by
    have hend := happ.end_
    rw [journalFull, happ.half_eq hv.room, hend]
    have : journalEnd (journalHalf v) v = journalEnd (journalHalf s) s := rfl
    exact decide_eq_false (by omega)
  have hexec := exec_eraseDone false ho hs
  rw [if_neg Bool.false_ne_true, hmin, journal_eq hv, ht, eraseFailed_retries hn hworn] at hexec
  obtain ⟨x, hx, hxu, hxe⟩ : ∃ x : State, { t with efl := { t.efl with op := none, undetermined := addTo b t.efl.undetermined } } = x ∧
      b ∈ x.efl.undetermined ∧ EflOnly s x := by
    refine ⟨_, rfl, mem_addTo .., ?_⟩
    obtain ⟨_, _, _, rfl⟩ := hto.changed
    rfl
  have hxfull : journalFull (journalHalf x) x = false := hx ▸ hfull
  rw [hx] at hexec
  refine ⟨_, hexec, (startErase_begins b (n + 1) x).1, ?_, ?_⟩
  · obtain ⟨_, _, _, hj⟩ := (journal_wordsOnly (b := b) (type := 0x49) (c := eraseCount b x) hxfull).changed
    unfold startErase
    dsimp only
    rw [hj]
    exact hxu
  · have hse := startErase_eflOnly hxfull b (n + 1)
    unfold EflOnly at hse hxe
    rw [hse, hxe]

end Done

section Waiting
variable {s t u : State} {h i : Nat} {a w : StewardWrite}

/-! ### FLASH_WRITE_RETRY (R406, R484) -/

/-- The datum of a write stands as written. -/
def Made : StewardWrite → State → Prop
  | .gauge r, s => s.efl.gauge = r
  | .scale v, s => s.efl.scale = v
  | .dirtyCount v, s => s.efl.dirty = v

/-- Only the data of the steward's writes differ. -/
def DataOnly (s t : State) : Prop := ∃ g c d, t = { s with efl := { s.efl with gauge := g, scale := c, dirty := d } }

theorem DataOnly.trans (h : DataOnly s t) (k : DataOnly t u) : DataOnly s u := by
  obtain ⟨_, _, _, rfl⟩ := h
  obtain ⟨_, _, _, rfl⟩ := k
  exact ⟨_, _, _, rfl⟩

theorem DataOnly.blockWorn_eq (h : DataOnly s t) (b : Nat) : blockWorn b t = blockWorn b s := by
  obtain ⟨_, _, _, rfl⟩ := h
  rfl

theorem makeWrite_makes (w : StewardWrite) (hw : blockWorn (datumBlock w) s = false) : DataOnly s (makeWrite w s) ∧ Made w (makeWrite w s) := by
  unfold makeWrite
  rw [if_neg (by rw [hw]; decide)]
  cases w <;> exact ⟨⟨_, _, _, rfl⟩, rfl⟩

theorem makeWrite_keeps (hne : sameWrite w a = false) (hm : Made w s) : Made w (makeWrite a s) := by
  unfold makeWrite
  split
  · exact hm
  · cases a <;> cases w <;> simp_all [sameWrite, Made]

/-- Writes made in turn: of those of one datum that are one, the value stands. -/
theorem makeWrites_make (l : List StewardWrite) (hl : ∀ x ∈ l, blockWorn (datumBlock x) s = false) :
    DataOnly s (l.foldl (fun s w => makeWrite w s) s) ∧
    ∀ w, (w ∈ l ∨ Made w s) → (∀ x ∈ l, sameWrite w x = true → x = w) → Made w (l.foldl (fun s w => makeWrite w s) s) := by
  induction l generalizing s with
  | nil => exact ⟨⟨_, _, _, rfl⟩, fun w hw _ => hw.resolve_left List.not_mem_nil⟩
  | cons a l ih =>
    obtain ⟨hd, hma⟩ := makeWrite_makes a (hl a List.mem_cons_self)
    obtain ⟨ihd, ihm⟩ := ih (s := makeWrite a s) fun x hx => by rw [hd.blockWorn_eq, hl x (List.mem_cons_of_mem _ hx)]
    refine ⟨hd.trans ihd, fun w hw hone => ihm w ?_ fun x hx => hone x (List.mem_cons_of_mem _ hx)⟩
    cases hs : sameWrite w a with
    | true =>
      obtain rfl : a = w := hone a List.mem_cons_self hs
      exact .inr hma
    | false =>
      rcases hw with hw | hw
      · rcases List.mem_cons.1 hw with rfl | hw
        · exact .inr hma
        · exact .inl hw
      · exact .inr (makeWrite_keeps hs hw)

theorem makeWaiting_makes (hr : eflReady s = true) (hl : ∀ w ∈ s.efl.waits, blockWorn (datumBlock w) s = false) : ∃ v,
    makeWaiting s = { v with efl := { v.efl with waits := [] } } ∧ DataOnly s v ∧
    ∀ w ∈ s.efl.waits, (∀ x ∈ s.efl.waits, sameWrite w x = true → x = w) → Made w v := by
  obtain ⟨hd, hm⟩ := makeWrites_make s.efl.waits hl
  refine ⟨_, ?_, hd, fun w hw => hm w (.inl hw)⟩
  rw [makeWaiting, if_pos hr]

/-- CONFIRM changes a boot entry, and whether the firmware is on trial. -/
theorem confirmFirmware_keeps (s : State) : ∃ ws r b c d, confirmFirmware s =
    { s with efl := { s.efl with words := ws, result := r, block := b, confirmDue := c, trial := d } } := by
  unfold confirmFirmware
  split
  · exact ⟨_, _, _, _, _, rfl⟩
  split
  · exact ⟨_, _, _, _, _, rfl⟩
  split
  · exact ⟨_, _, _, _, _, rfl⟩
  next e _ _ _ =>
    obtain ⟨ws, r, b, hw⟩ := (programWord_wordsOnly (entryBase 1 e.1 e.2 + 2) confirmWord
      { s with efl := { s.efl with confirmDue := false } }).changed
    dsimp only
    rw [hw]
    exact ⟨_, _, _, _, _, rfl⟩

theorem confirmFirmware_confirms (hr : eflReady s = true) (ht : s.efl.trial = true) (he : s.efl.runEntry = some (h, i))
    (hp : programStatus (entryBase 1 h i + 2) confirmWord s = 0) :
    (confirmFirmware s).efl.confirmDue = false ∧ (confirmFirmware s).efl.trial = false := by
  obtain ⟨w, hw⟩ : ∃ w, entryBase 1 h i + 2 = w := ⟨_, rfl⟩
  have hp' : programStatus w confirmWord { s with efl := { s.efl with confirmDue := false } } = 0 := hw ▸ hp
  unfold confirmFirmware
  rw [he]
  dsimp only
  rw [if_neg (by simp [ht]), if_neg (by simp [hr]), hw, programWord]
  dsimp only
  rw [if_pos hp']
  refine ⟨rfl, decide_eq_false (not_not.2 ?_)⟩
  rw [eflWord_storeWord, if_pos rfl]
  rfl

theorem flashWriteRetry_makes (hk : s.pwr.keeper = true) (hr : eflReady s = true)
    (hl : ∀ w ∈ s.efl.waits, blockWorn (datumBlock w) s = false) : ∃ t, exec .flashWriteRetry s = .next t ∧ t.efl.waits = [] ∧
      (∀ w ∈ s.efl.waits, (∀ x ∈ s.efl.waits, sameWrite w x = true → x = w) → Made w t) ∧
      (∀ h i, s.efl.confirmDue = true → s.efl.trial = true → s.efl.runEntry = some (h, i) →
        programStatus (entryBase 1 h i + 2) confirmWord s = 0 → t.efl.confirmDue = false ∧ t.efl.trial = false) ∧
      EflOnly s t := by
  obtain ⟨v, hv, hd, hm⟩ := makeWaiting_makes hr hl
  obtain ⟨g, c, d, hd⟩ := hd
  obtain ⟨u, hu⟩ : ∃ u : State, { v with efl := { v.efl with waits := [] } } = u := ⟨_, rfl⟩
  have huv : u = { s with efl := { s.efl with gauge := g, scale := c, dirty := d, waits := [] } } := by rw [← hu, hd]
  have hmu (w : StewardWrite) (h : Made w v) : Made w u := by
    rw [← hu]
    cases w <;> exact h
  have hexec : exec .flashWriteRetry s = .next (if u.efl.confirmDue then confirmFirmware u else u) := by
    change execFlashWriteRetry s = _
    unfold execFlashWriteRetry
    rw [if_pos hk, hv, hu]
  obtain ⟨ws, r, b, e, f, hc⟩ := confirmFirmware_keeps u
  have hcm (w : StewardWrite) (h : Made w u) : Made w (confirmFirmware u) := by
    rw [hc]
    cases w <;> exact h
  refine ⟨_, hexec, ?_, fun w hw hone => ?_, fun h i hdue ht he hp => ?_, ?_⟩
  · split
    · rw [hc, huv]
    · rw [huv]
  · have := hmu w (hm w hw hone)
    split
    · exact hcm w this
    · exact this
  · have hdue' : u.efl.confirmDue = true := by rw [huv]; exact hdue
    rw [if_pos hdue']
    refine confirmFirmware_confirms (h := h) (i := i) ?_ (by rw [huv]; exact ht) (by rw [huv]; exact he) ?_
    · rw [huv]
      exact hr
    · rw [huv]
      exact hp
  · split
    · rw [hc, huv]
      rfl
    · rw [huv]
      rfl

theorem flashWriteRetry_waits (hr : eflReady s = false) : exec .flashWriteRetry s = .next s := by
  have hm : makeWaiting s = s := by rw [makeWaiting, if_neg (by simp [hr])]
  have hc (hd : s.efl.confirmDue = true) : confirmFirmware s = s := by
    unfold confirmFirmware
    split
    · rfl
    split
    · rfl
    rw [if_pos (by simp [hr])]
    calc { s with efl := { s.efl with confirmDue := true } } = { s with efl := { s.efl with confirmDue := s.efl.confirmDue } } := by rw [hd]
      _ = s := rfl
  change execFlashWriteRetry s = _
  unfold execFlashWriteRetry
  dsimp only
  rw [hm]
  by_cases hd : s.efl.confirmDue = true
  · rw [hc hd, ite_self, ite_self]
  · rw [if_neg hd, ite_self]

end Waiting

/-- Settles O50. -/
theorem flashOperationsRun : Obligations.FlashOperationsRun := by
  have htakes (s : State) (x : Nat) (hx : x = journalBase (journalHalf s) + 2 * journalEnd (journalHalf s) s)
      (hroom : journalEnd (journalHalf s) s + 3 ≤ 4096) (hfit : blockWorn (x / 1024) s = false) (hc : x / 1024 ∉ s.efl.incomplete)
      (hf : ∀ y ∈ s.efl.factoryBlocks, y < 272) (hs : Sound s) : JournalTakes s := by
    obtain rfl : x = journalNext s := hx
    exact ⟨hs.words, hroom, hfit, hc, hf⟩
  refine ⟨⟨fun _ _ _ => eflProgram_starts, fun _ _ _ _ _ => eflProgram_refused, fun _ _ _ => eflErase_starts, fun s m w r row hk ht hr hne => ?_,
    fun _ _ _ => eflSuspend_suspends, fun _ => eflResume_resumes, fun _ => eflResume_waits, fun s t hk ht => ?_, fun _ => wpLock_locks,
    fun _ _ => fwErase_starts, fun _ _ _ => fwErase_refused, fun s u m hk hm ho hw hh hu => ?_, fun _ m hk => fwSubmit_refused hk m⟩,
    fun s w d c h => ⟨programDone_stores c h, fun r => programDone_refused c h⟩, ?_, fun _ _ => eraseDone_wears, ?_, fun s c h => ?_,
    fun s hk hr hl => ?_, fun _ => flashWriteRetry_waits⟩
  · rw [exec_eflErase hk ht hr, if_neg hne]
    rfl
  · obtain ⟨⟨h1, h2, h3⟩, h4⟩ := eflControl_denied (s := s) hk
    rw [ht]
    exact ⟨h1, h2, h3, h4⟩
  · obtain rfl : u = imageRead s := hu
    have hexec := fwSubmit_submits hk hm ho hw hh
    refine ⟨fun hi => hexec.trans (by rw [submitImage_none hi]), fun v hv => ⟨fun hq => hexec.trans (by rw [submitImage_exhausted hv hq]),
      fun q h i hn hq hi hf hp hworn hhalf => ?_⟩⟩
    obtain ⟨he, hentry⟩ := submitImage_commits hv hn hq hi hf hp hworn hhalf
    exact ⟨_, hexec, he, hentry⟩
  · intro s b n x ho hs hj ha hx hroom hfit hc hf hb hb' hsound hcount
    exact eraseDone_clears ho hs hj ha (htakes s x hx hroom hfit hc hf hsound) hb hb' hcount
  · intro s b n x ho hs hn hx hroom hfit hc hf hb hb' hsound hcount hw
    exact eraseDone_retries ho hs hn (htakes s x hx (by omega) hfit hc hf hsound) hroom hb' hcount hw
  · change execEflOperationDone c s = _
    unfold execEflOperationDone
    rw [h]
  · obtain ⟨t, hexec, hwaits, hmade, hconfirm, honly⟩ := flashWriteRetry_makes hk hr hl
    refine ⟨t, hexec, hwaits, fun w hw hone => ?_, hconfirm, honly⟩
    have h := hmade w hw hone
    refine ⟨fun r hr => ?_, fun v hv => ?_, fun v hv => ?_⟩
    · subst hr
      exact h
    · subst hv
      exact h
    · subst hv
      exact h

end Sys2Proof.Machine
